-- ==== Sys2Proof/Word.lean ====
section
/-! DEFINITION. The words of the JX96: the 48-bit word of R14, the byte, the 64-bit Witness block of R227, and the
one plain data shape every sparse array of the model uses. -/

namespace Sys2Proof

/-- A word is 48 bits and bit 0 is the least significant (R14). -/
abbrev Word := BitVec 48

/-- A byte of a message, a memory or a frame. -/
abbrev Byte := BitVec 8

/-- A block of a Witness record, without its sync header (R227). -/
abbrev Block := BitVec 64

/-- A block of a Witness lane: its sync header and 64 bits (R227). -/
abbrev Block66 := BitVec 66

/-- A sparse array: pairs of an index and a value, in strictly rising order of the index, none equal to the value
that an unlisted index reads as (Machine/Store.lean holds its operations). -/
abbrev SMap (β : Type) := List (Nat × β)

end Sys2Proof
end

