-- ==== Sys2Proof/Syntax.lean ====
section
/-! DEFINITION. The commands of the block: one constructor for each row of spec/opcode_table.json, in the table's
order, and the plain data their operands are made of. -/

namespace Sys2Proof

/-- Who writes or reads a dictionary object: an HDP session (R391), a matrix master through target T5 (R385, R386),
or the JX96's own firmware. -/
inductive Who where
  | ses (k : Nat)
  | master (k : Nat)
  | keeper
deriving DecidableEq, Repr

/-- The addresses of an HDP message on a time port, its destination first: raw, with its Ethertype, or a UDP datagram
over IPv6 (R388). -/
inductive Encap where
  | raw (dst src etype : Nat)
  | udp (dst src dstIp srcIp dstPort srcPort : Nat)
deriving DecidableEq, Repr

/-- A crosspoint: ingress port, Lode, egress port (Table 12-1). -/
structure XPt where
  i : Nat
  lode : Nat
  e : Nat
deriving DecidableEq, Repr

/-- A stage map entry that comes to hold `v`: port, stage and entry as in Table 12-1; whether its parity bit then
differs, and whether its storage is at fault, so that a rewrite leaves it so (R420, R421). -/
structure EntIn where
  port : Nat
  stage : Nat
  entry : Nat
  v : Nat
  par : Bool
  stuck : Bool
deriving DecidableEq, Repr

/-- What the outside brings into one fabric round (log entries 4 and 7): the word times of each lane that elapse in
it (1 where not listed), and the physical faults that words and entries meet. -/
structure RoundIn where
  /-- word times elapsed on the recovered clock of a port; an unlisted port has 1 -/
  take : List (Nat × Nat)
  /-- words that a Lode disturbs: egress port, colour, and the bits that turn: DATA [47:0], PAR [48], TAG [51:49] -/
  hits : List (Nat × Nat × Nat)
  /-- stage map entries that are disturbed (R420, R421) -/
  entries : List EntIn
  /-- bank words read by a data-plane owner with an error: bank, word, mask over the 54 positions and C[6] (R325) -/
  bankErr : List (Nat × Nat × Nat)
  /-- DDR4 beats read by the data plane with an error: beat, the bits of its 72 that turn (R341) -/
  ddrErr : List (Nat × Nat)
  /-- egress ports on which the whole frames of a TSN left the fabric wrong by a digest: port, TSN, XOR (R225) -/
  misroute : List (Nat × Nat × Nat)
deriving DecidableEq, Repr

/-- A stretch of the received lane: the raw bit at which it begins, counted since Flint's search began, the PAM4 level
before it, and its levels (R45). -/
structure Lane where
  at_ : Nat
  prev : Nat
  levels : List Nat
deriving DecidableEq, Repr

/-- What a matrix read meets: the disturbance of the units it reads, the first lowest (55 bits for each bank word, 72
for each unit of Keeper SRAM or DDR4); and whether it is an instruction fetch of a core (R351). -/
structure ReadIn where
  flip : Nat
  fetch : Bool
deriving DecidableEq, Repr

/-- An ATOMIC: its operand, its length, and the disturbance of the bank word it reads (R334, R358). -/
structure AtomicIn where
  operand : Word
  len : Nat
  flip : Nat
deriving DecidableEq, Repr

/-- A received link frame: its lane, from its first raw bit on, and the stamp point of its FAW. -/
structure RxFrame where
  lane : Lane
  /-- ROOT cycle of the receive stamp of this frame's FAW, since power-on reset (R303) -/
  stamp : Nat
deriving DecidableEq, Repr

/-- What brings a Witness record: the blocks of a lane as they stand on it, from the control block before the record on,
or the payload words of a Cooper port, groups of 11 (R227, R232). -/
inductive WitIn where
  | lane (blocks : List Block66)
  | port (words : List Word)
deriving DecidableEq, Repr

/-- The commands (spec/opcode_table.json). -/
inductive Instr where
  | frameStart (phase : List (Nat × Int))
  | roundStart (io : RoundIn)
  | coherentReturn (c : Nat)
  | recapture (c : Nat)
  | lineLate (a : Nat)
  | esReadStart (a : Nat)
  | displacedTpoaNew (a : Nat)
  | traceRecord (tag dRx dSps dEts dSer : Nat)
  | recordAged (kind port tsn : Nat)
  | recordUnmatched (kind port tsn : Nat)
  | stateReturnNormal
  | cdrLock (p : Nat)
  | lossOfSignal (p : Nat)
  | fawMatch (p c : Nat) (lane : Lane)
  | row1Check (p c : Nat) (head : Lane) (row1 : List Lane)
  | fawConfirm (p c : Nat) (lane : Lane)
  | rxFrame (p : Nat) (f : RxFrame)
  | relockTimeout (p : Nat)
  | syncLossRenegotiate (p : Nat)
  | fecDegInterval (p : Nat)
  | timePortFrameRx (k : Nat) (bytes : List Byte) (stamp : Nat)
  | timePortSend (k : Nat) (stamp : Nat)
  | timePortLinkUp (k : Nat)
  | portEnableWrite (w : Who) (p v : Nat)
  | portRoleWrite (w : Who) (p v : Nat)
  | linkRenegotiate (w : Who) (p v : Nat)
  | versionMaxWrite (w : Who) (p v : Nat)
  | versionExcludedWrite (w : Who) (p v : Nat)
  | timeChannelEnWrite (w : Who) (p v : Nat)
  | sdIslandEnWrite (w : Who) (v : Nat)
  | sdIslandReady (k : Nat)
  | txEqWrite (w : Who) (p v : Nat)
  | grainSizeWrite (w : Who) (e v : Nat)
  | txForceAisWrite (w : Who) (a v : Nat)
  | grainChangedRead (w : Who) (p : Nat)
  | draftSrcWrite (w : Who) (a v : Nat)
  | draftRevert (w : Who) (v : Nat)
  | commitReq (w : Who)
  | mapAbort (w : Who)
  | solveComplete
  | armingDeadline
  | commitBoundary
  | fabricDrained
  | lodeStateWrite (w : Who) (l v : Nat)
  | groupTypeWrite (w : Who) (c v : Nat)
  | lineCtxWrite (w : Who) (a v : Nat)
  | latenessWrite (w : Who) (c v : Nat)
  | marginWrite (w : Who) (c v : Nat)
  | lineFreed (a : Nat)
  | lineChangedRead (w : Who) (p : Nat)
  | protRoleWrite (w : Who) (v : Nat)
  | witnessBlockLock (st : Nat)
  | witnessBlockLockLoss (st : Nat)
  | statusRecordRx (st : Nat) (x : WitIn) (arrival : Nat)
  | verdictRecordRx (st : Nat) (x : WitIn)
  | noticeRecordRx (st : Nat) (x : WitIn)
  | ingressRecordRx (st : Nat) (x : WitIn)
  | egressRecordRx (st : Nat) (x : WitIn)
  | streamStatusTimeout (st : Nat)
  | arbiterWatchTimeout
  | verdictEffective
  | prefSet (w : Who) (v : Nat)
  | portFaultClear (w : Who) (v : Nat)
  | mapDigestReady
  | ledgerPeriodicCut
  | ledgerCutReq (w : Who) (v : Nat)
  | generationSealed
  | rxSegmentWrite (w : Who) (k : Nat) (bytes : List Byte)
  | rxSealWrite (w : Who) (bytes : List Byte)
  | journalSend
  | journalRxWrite (w : Who) (bytes : List Byte)
  | spareSealCheck (gen0 gen1 : Nat)
  | exportTimeout
  | promote (w : Who) (v : Nat)
  | promotionRestoreStart
  | warmHealthUpdate
  | refEnableWrite (w : Who) (v : Nat)
  | inputLoss (i : Nat)
  | inputLossCleared (i : Nat)
  | offsetMeasure (i : Nat) (y : Int)
  | qualificationTimeExpiry (i : Nat)
  | waitRestoreExpiry (i : Nat)
  | selectionEval
  | switchSettled
  | dcoClampTimeout
  | fsnStep
  | phaseStepWrite (w : Who) (v : Nat)
  | frameOffsetWrite (w : Who) (v : Nat)
  | retime (w : Who) (v : Nat)
  | alignReq (w : Who) (v : Nat)
  | alignEdge (late : Int)
  | alignTimeout
  | ppsEdge (src : Nat) (tod : Option Nat) (late : Int)
  | ptpOffsetWrite (w : Who) (v : Nat)
  | timeSet (w : Who) (v : Nat)
  | timeStep (w : Who) (v : Nat)
  | timeCapture (w : Who) (v : Nat)
  | servoSrcWrite (w : Who) (v : Nat)
  | launch (w : Who) (bytes : List Byte)
  | launchDue (tag : Nat) (stamp : Nat)
  | launchDiscard (tag : Nat)
  | launchFlush (w : Who) (v : Nat)
  | launchDoneRead (w : Who) (first count : Nat)
  | timeTriggeredCut
  | bankOwnerWrite (w : Who) (b v : Nat)
  | handoverDrainDone (b : Nat)
  | handoverScrubDone (b : Nat)
  | bankClearDone
  | eccWriteBack (b word : Nat)
  | eccLogRead (w : Who) (first count : Nat)
  | ddrTrainingDone (gib : Nat) (failed : List Nat)
  | ddrFillDone
  | ddrLsEnWrite (w : Who) (v : Nat)
  | ddrRegionSizeWrite (w : Who) (trace : Bool) (v : Nat)
  | patrolBeat (flip : Nat)
  | ddrAlert (ch : Nat) (retried : Bool)
  | retrainAttemptDone (ch : Nat) (ok : Bool)
  | ddrRetrain (w : Who) (ch : Nat)
  | matrixRead (m id addr len : Nat) (x : ReadIn)
  | matrixWrite (m id addr : Nat) (data : List (Byte × Bool))
  | addWrap (m id addr : Nat) (x : AtomicIn)
  | addSat (m id addr : Nat) (x : AtomicIn)
  | swap (m id addr : Nat) (x : AtomicIn)
  | matrixGrant (t dt : Nat)
  | matrixResponse (t : Nat)
  | matrixTimeout (m id : Nat)
  | masterReset (w : Who) (v : Nat)
  | masterQuiesced (k : Nat)
  | remapWrite (w : Who) (v : Nat)
  | remapApplied
  | watchdogExpiry (core : Nat)
  | errLogRead (w : Who) (first count : Nat)
  | hdpRead (port : Nat) (enc : Encap) (msg : List Byte)
  | hdpWrite (port : Nat) (enc : Encap) (msg : List Byte)
  | readBulk (port : Nat) (enc : Encap) (msg : List Byte)
  | writeBulk (port : Nat) (enc : Encap) (msg : List Byte)
  | subscribe (port : Nat) (enc : Encap) (msg : List Byte)
  | bulkAbort (port : Nat) (enc : Encap) (msg : List Byte)
  | notify (k : Nat)
  | secKeyWrite (w : Who) (slot : Nat) (key : List Byte)
  | seqCeilingWritten (k : Nat)
  | sessionIdle (k : Nat)
  | bulkSegmentTimeout (k xfer : Nat)
  | tokenTake (w : Who) (v : Nat)
  | tokenRelease (w : Who) (v : Nat)
  | neighborSolicitation (port target : Nat)
  | echoRequest (port target : Nat) (payload : List Byte)
  | testStart (eng : Nat)
  | pathTestDone (pass : Bool)
  | mapAuditRecheck (hits : List EntIn)
  | testComplete (eng : Nat) (pass : Bool) (masks : List (Nat × Nat))
  | bankWordTest (b word : Nat) (bad : Nat)
  | sramPatrolUnit (flip : Nat)
  | testReq (w : Who) (v : Nat)
  | assayLogRead (w : Who) (first count : Nat)
  | eventClear (w : Who) (v : Nat)
  | eventMaskWrite (w : Who) (v : Nat)
  | tallyPreset (w : Who) (i v : Nat)
  | tagKWrite (w : Who) (v : Nat)
  | tagSeedWrite (w : Who) (v : Nat)
  | traceStartWrap (w : Who)
  | traceStartStop (w : Who)
  | traceEnd (w : Who)
  | samplesRead (w : Who) (first count : Nat)
  | modeReqStage (w : Who)
  | modeReqRestore (w : Who)
  | modeReqService (w : Who)
  | modeReqIsolate (w : Who)
  | isolateEntry
  | modeReqQuarantine (w : Who)
  | modeReqDormant (w : Who)
  | dormantEntry
  | fabPgAssert
  | fabPgTimeout
  | fabPgDeassert
  | wakeSelftestDone (failed : Nat) (lodes : List Nat)
  | attestDone
  | powerOnReset (mapsel ddrNone : Bool)
  | porstAssert
  | sysReset (w : Who) (v : Nat)
  | bootComplete
  | fwStageBegin (w : Who) (v : Nat)
  | fwEraseDone
  | fwStageSegment (w : Who) (k : Nat) (bytes : List Byte)
  | fwCommit (w : Who)
  | fwAbort (w : Who)
  | fwActivate (w : Who) (v : Nat)
  | keeperRestartDone
  | fwConfirm (w : Who) (v : Nat)
  | trialTimeout
  | revokeKey0 (w : Who) (v : Nat)
  | svnCommit (w : Who) (v : Nat)
  | attestNonce (w : Who) (nonce : List Byte)
  | attestReportDone
  | registerWrite (w : Who) (idx elem v : Nat)
  | crierLatchReload
  | timePortLinkDown (k : Nat)
deriving DecidableEq, Repr

end Sys2Proof
end

