-- ==== Sys2Proof/Decode.lean ====
section
/-! DEFINITION. The command that a word spells by the opcode table's bits. The table gives bits to none of its 197
rows, so no word spells a command. -/

namespace Sys2Proof

/-- No row of spec/opcode_table.json carries bits. -/
def decodeTableWord (_nbits _w : Nat) : Option Instr := none

end Sys2Proof
end

