-- ==== Sys2Proof/Config.lean ====
section
/-! DEFINITION. What one device or its firmware fixes and the spec does not (log entry 1), and the free values
(log entry 6). Every constant here is opaque: no proof can use a value of it. -/

namespace Sys2Proof.Config

/-- IDENT.DEVID, per device (Table 11-10). -/
opaque devidBits : BitVec 32
def devid : Nat := devidBits.toNat
/-- IDENT.SERIAL, per device: up to 16 characters, 0–9 and A–Z (Table 11-10). -/
opaque serialChars : List (Fin 36)
def serial : Nat :=
  let c := (serialChars.take 16).map fun x => if x.val < 10 then 48 + x.val else 55 + x.val
  (c ++ List.replicate (16 - c.length) 0).foldl (fun a b => 256 * a + b) 0
/-- HDP.MAC of each time/management port, per device (Table 11-10). -/
opaque macBits : Nat → BitVec 48
def mac (k : Nat) : Nat := (macBits k).toNat
/-- MEM.BANK_SPARE_COLS, a production record: 0–4 (R324). -/
opaque spares : Nat → Fin 5
def spareCols (b : Nat) : Nat := (spares b).val
/-- VERSION of the image shipped in each slot (FW.SLOT_VERSION, IDENT.FW_VERSION: "Per image"): family JXF-2, a major
release of 1 or more, and the build (R6). -/
opaque imageMajor : Nat → Fin 255
opaque imageBuild : Nat → BitVec 16
def imageVersion (k : Nat) : Nat := 0x02000000 + ((imageMajor k).val + 1) * 65536 + (imageBuild k).toNat
/-- SVN of the image shipped in each slot (FW.SLOT_SVN: "Per image", 0–63). -/
opaque imageSvnBits : Nat → BitVec 6
def imageSvn (k : Nat) : Nat := (imageSvnBits k).toNat
/-- The key that signed the image shipped in each slot, the SHA-256 of its header and of its fabric section
(Table 14-9). -/
opaque imageKeyBit : Nat → Fin 2
def imageKey (k : Nat) : Nat := (imageKeyBit k).val
opaque headerHashByte : Nat → Fin 32 → Byte
def headerHash (k : Nat) : List Byte := List.ofFn (headerHashByte k)
opaque fabricHashByte : Nat → Fin 32 → Byte
def fabricHash (k : Nat) : List Byte := List.ofFn (fabricHashByte k)
/-- The byte that the shipped image in a firmware slot holds at an offset of the flash. -/
opaque imageByte : Nat → Byte
/-- SHA-256 of the fuses by the revocation and the SVN floor (M3 of Table 14-9: the spec gives their order no layout).
-/
opaque fuseHashByte : Nat → Nat → Fin 32 → Byte
def fuseHash (revoked floor : Nat) : List Byte := List.ofFn (fuseHashByte revoked floor)
/-- SEC.KEYHASH, fused per device (Table 14-11). -/
opaque keyHashByte : Nat → Fin 32 → Byte
def keyHash (k : Nat) : List Byte := List.ofFn (keyHashByte k)
/-- SEC.ID_PUBKEY, per device (R467). -/
opaque idPubkeyBits : BitVec 480
def idPubkey : Nat := idPubkeyBits.toNat
/-- Reservation bits burned before the device shipped (SEC.RESERVATIONS: "Per device", at most 16,384). -/
opaque reserved : Fin 16385
def reservations : Nat := reserved.val
/-- SHA-256 of the boot ROM (M0 of Table 14-9). -/
opaque bootRomHashByte : Fin 32 → Byte
def bootRomHash : List Byte := List.ofFn bootRomHashByte
/-- Where on the count of ROOT cycles the positions of the delimiter of a time port lie, in 2^-16 ns (R314). -/
opaque delimPhase : Nat → Nat
/-- The byte the boot ROM holds at an offset (Table 10-4, T0). -/
opaque bootRom : Nat → Byte
/-- The HSS signature the crypto block makes with a leaf over a message: its seed lies in fuses that nothing reads
(R467). -/
opaque hssSign : Nat → List Byte → List Byte
/-- What the crypto block's registers (target T6) return for an address: the spec gives them no layout. -/
opaque cryptoReg : Nat → Byte
/-- The offset in target T5 of the region of an index (R385: the index directory holds it). -/
opaque t5Base : Nat → Nat
/-- What the flash controller's command registers (T4) return for an address: the spec gives them no layout. -/
opaque flashReg : Nat → Byte
/-- What a write of bytes at an address of those registers asks for: the offset, the length, and what is programmed
there, nothing for an erase (R355). -/
opaque flashCmd : Nat → List (Byte × Bool) → Option (Nat × Nat × List Byte)
/-- The SFDP table of the fitted flash: its size, 64 to 1,024 MiB, and whether it holds 8D-8D-8D (R354). -/
opaque flashMiB : Fin 961
def flashSize : Nat := 64 + flashMiB.val
opaque flashOctal : Bool
/-- The session, and so the key, under which the exporter sends to its spare (R249; log entry 91). -/
opaque spareSlot : Fin 8
def spareSession : Nat := spareSlot.val
/-- Where in its slot of 8 MiB a Ledger generation stands: which 64 KiB block is its first (Table 10-2: the slot
header has no layout). -/
opaque slotBlock : Fin 65
def slotStart : Nat := 65536 * slotBlock.val
/-- The value the spec leaves open, by the kind of value and a serial number (log entry 6). -/
opaque free : Nat → Nat → Nat

end Sys2Proof.Config
end

