-- ==== Sys2Proof/Machine/Store.lean ====
section
/-! DEFINITION. The operations on sparse arrays (Word.SMap) and on plain numbers and bytes that every block of the
JX96 shares. A sparse array lists, in rising order of the index, the entries that differ from what an unlisted index
reads as. -/

namespace Sys2Proof.Machine

/-- The first entry at index `k`. -/
def SMap.find? {β : Type} : SMap β → Nat → Option β
  | [], _ => none
  | (i, v) :: m, k => if i = k then some v else SMap.find? m k

/-- The value at index `k`, `d` where none is listed. -/
def SMap.get {β : Type} (d : β) (m : SMap β) (k : Nat) : β :=
  match SMap.find? m k with
  | some v => v
  | none => d

/-- Every entry but those at `k`. -/
def SMap.erase {β : Type} : SMap β → Nat → SMap β
  | [], _ => []
  | (i, v) :: m, k => if i = k then SMap.erase m k else (i, v) :: SMap.erase m k

/-- The entry (`k`, `v`) in its place of the order. -/
def SMap.insert {β : Type} : SMap β → Nat → β → SMap β
  | [], k, v => [(k, v)]
  | (i, u) :: m, k, v =>
    if k < i then (k, v) :: (i, u) :: m
    else if i = k then (k, v) :: m
    else (i, u) :: SMap.insert m k v

/-- Index `k` takes `v`; a `v` that an unlisted index reads as is not listed. -/
def SMap.set {β : Type} [DecidableEq β] (d : β) (m : SMap β) (k : Nat) (v : β) : SMap β :=
  if v = d then SMap.erase m k else SMap.insert m k v

/-- The canonical form: indices strictly rising from `lo`, and no entry equal to what its index reads as unlisted. -/
def SMap.wfFrom {β : Type} [DecidableEq β] (d : Nat → β) : Nat → SMap β → Bool
  | _, [] => true
  | lo, (i, v) :: m => decide (lo ≤ i) && !decide (v = d i) && SMap.wfFrom d (i + 1) m

/-- The canonical form of a whole array. -/
def SMap.wf {β : Type} [DecidableEq β] (d : Nat → β) (m : SMap β) : Bool := SMap.wfFrom d 0 m

/-- Every entry whose index lies outside `[lo, lo + n)`. -/
def SMap.clearSpan {β : Type} (m : SMap β) (lo n : Nat) : SMap β :=
  m.filter fun kv => kv.1 < lo || lo + n ≤ kv.1

/-- A list with element `i` replaced; a list that has none there is unchanged. -/
def listSet {β : Type} : List β → Nat → β → List β
  | [], _, _ => []
  | _ :: l, 0, v => v :: l
  | x :: l, i + 1, v => x :: listSet l i v

/-- Applied to 0, 1, …, `n` − 1 in turn, from a start value. -/
def foldRange {α : Type} (n : Nat) (f : α → Nat → α) (a : α) : α :=
  (List.range n).foldl f a

/-! ## Numbers -/

/-- Field [hi:lo] of a number. -/
def bits (v hi lo : Nat) : Nat := (v >>> lo) % 2 ^ (hi + 1 - lo)

/-- Bit `i` of a number. -/
def bit (v i : Nat) : Bool := v.testBit i

/-- 1 or 0. -/
def b2n (b : Bool) : Nat := if b then 1 else 0

/-- A number with bit `i` set to `b`. -/
def putBit (v i : Nat) (b : Bool) : Nat :=
  if b then v ||| 2 ^ i else if v.testBit i then v - 2 ^ i else v

/-- The number of ones among the lowest `n` bits. -/
def popCount (n v : Nat) : Nat := foldRange n (fun a i => a + b2n (v.testBit i)) 0

/-- Two's complement of `w` bits, as an integer (Table 11-1, I48). -/
def sInt (w v : Nat) : Int :=
  if v % 2 ^ w < 2 ^ (w - 1) then (v % 2 ^ w : Nat) else (v % 2 ^ w : Nat) - (2 ^ w : Nat)

/-- An integer as two's complement of `w` bits. -/
def uInt (w : Nat) (x : Int) : Nat := (x % (2 ^ w : Nat)).toNat

/-- I48 to an integer and back. -/
def i48 (v : Nat) : Int := sInt 48 v
def u48 (x : Int) : Nat := uInt 48 x

/-- 2^48, the modulus of FSN and TSN (R16). -/
def M48 : Nat := 2 ^ 48

/-- (b − a) mod 2^48 as the signed distance (b − a)₄₈ of R16. -/
def dist48 (a b : Nat) : Int := sInt 48 (b + M48 - a % M48)

/-- Addition modulo 2^48. -/
def add48 (a : Nat) (x : Int) : Nat := u48 ((a : Int) + x)

/-- `a` precedes `b` (R16). -/
def precedes48 (a b : Nat) : Bool :=
  let d := (b + M48 - a % M48) % M48
  1 ≤ d && d < 2 ^ 47

/-- The integer nearest to a / b for b > 0, ties upwards. -/
def roundDiv (a : Int) (b : Nat) : Int := (2 * a + b) / (2 * b : Nat)

/-- `x` held between `lo` and `hi`. -/
def clampInt (lo hi x : Int) : Int := if x < lo then lo else if hi < x then hi else x

/-! ## Bytes (R381: most significant byte first) -/

/-- The `n` bytes of a number, most significant first. -/
def toBytes : Nat → Nat → List Byte
  | 0, _ => []
  | n + 1, v => BitVec.ofNat 8 (v >>> (8 * n)) :: toBytes n v

/-- The number that bytes spell, most significant first. -/
def ofBytes (l : List Byte) : Nat := l.foldl (fun a b => a * 256 + b.toNat) 0

/-- Exactly `n` bytes: cut, or padded with zeros on the right. -/
def padBytes (n : Nat) (l : List Byte) : List Byte := l.take n ++ List.replicate (n - l.length) 0

/-- `n` bytes from offset `o`. -/
def slice (l : List Byte) (o n : Nat) : List Byte := (l.drop o).take n

/-- Field of `n` bytes at offset `o`, as a number. -/
def fld (l : List Byte) (o n : Nat) : Nat := ofBytes (slice l o n)

/-- Item `i` of a set held in OCTET[n], where item i is bit 7 − (i mod 8) of byte i / 8 (R518). -/
def octBitPos (n i : Nat) : Nat := 8 * (n - 1 - i / 8) + (7 - i % 8)
def octBit (n v i : Nat) : Bool := v.testBit (octBitPos n i)
def octPut (n v i : Nat) (b : Bool) : Nat := putBit v (octBitPos n i) b

/-! ## Type TIME (Table 11-1): seconds × 2^48 + nanoseconds × 2^16 + sub-nanoseconds -/

/-- Local time in units of 2^-16 ns to the value of type TIME. -/
def timeOf (t : Nat) : Nat :=
  let ns := t / 65536
  (ns / 1000000000) * 2 ^ 48 + (ns % 1000000000) * 65536 + t % 65536

/-- A value of type TIME in units of 2^-16 ns. -/
def ofTime (v : Nat) : Nat :=
  ((v / 2 ^ 48) * 1000000000 + bits v 47 16) * 65536 + v % 65536

/-- Bytes of a memory from an offset on; `d` is what an unlisted byte reads as. -/
def putMem (d : Nat) (m : SMap Nat) (o : Nat) (l : List Byte) : SMap Nat :=
  (l.foldl (fun (r : SMap Nat × Nat) b => (SMap.set d r.1 r.2 b.toNat, r.2 + 1)) (m, o)).1

/-- `n` bytes of a memory from an offset on. -/
def getMem (d : Nat) (m : SMap Nat) (o n : Nat) : List Byte :=
  (List.range n).map fun i => BitVec.ofNat 8 (SMap.get d m (o + i))

end Sys2Proof.Machine
end

