-- ==== Sys2Proof/Machine/Dict.lean ====
section
/-! DEFINITION. The object dictionary's entries (Tables 1-6, 2-16, 2-17, 3-10, 4-3, 5-8, 6-13, 7-7, 8-6, 9-6, 10-7,
11-10, 12-6, 12-10, 13-8, 14-11, 16-11, 16-14): index, type, access, elements and range of each, and its default. -/

namespace Sys2Proof.Machine

/-- The entry types of Table 11-1. -/
inductive Ty where
  | bool | u8 | u16 | u32 | u48 | i48 | octet (n : Nat) | time
deriving DecidableEq, Repr

/-- Width of a type in bytes (Table 11-1). -/
def Ty.width : Ty → Nat
  | .bool => 1 | .u8 => 1 | .u16 => 2 | .u32 => 4 | .u48 => 6 | .i48 => 6 | .octet n => n | .time => 12

/-- Code of a type (Table 11-1). -/
def Ty.code : Ty → Nat
  | .bool => 1 | .u8 => 2 | .u16 => 3 | .u32 => 4 | .u48 => 5 | .i48 => 6 | .octet _ => 7 | .time => 8

/-- The access rights of Table 11-2. -/
inductive Acc where
  | const | ro | wo | rw | rwe | rwp
deriving DecidableEq, Repr

/-- Code of an access right (Table 11-2). -/
def Acc.code : Acc → Nat
  | .const => 0 | .ro => 1 | .wo => 2 | .rw => 3 | .rwe => 4 | .rwp => 5

/-- The values the Range column of an object's table admits. `any`: every value of the type, or a range that the
object's own check states. -/
inductive Rng where
  | any
  | span (lo hi : Nat)
  | also (lo hi : Nat) (more : List Nat)
  | steps (lo hi by_ : Nat)
  | signed (lo hi : Int)
  | mask (m : Nat)             -- the bits that may be set
  | shown (lo hi : Nat)         -- checked by the object's own rules
deriving DecidableEq, Repr

/-- A value is in range. -/
def Rng.has (r : Rng) (v : Nat) : Bool :=
  match r with
  | .any => true
  | .span lo hi => decide (lo ≤ v) && decide (v ≤ hi)
  | .also lo hi more => (decide (lo ≤ v) && decide (v ≤ hi)) || more.contains v
  | .steps lo hi k => decide (lo ≤ v) && decide (v ≤ hi) && v % k == 0
  | .signed lo hi => decide (lo ≤ i48 v) && decide (i48 v ≤ hi)
  | .mask m => v &&& m == v
  | .shown _ _ => true

/-- How INDEX, SUBINDEX and ELEMENT address an object (R380). -/
inductive Adr where
  | element            -- subindex 0, element 0 to count − 1
  | portSub            -- subindex = port (Tables 2-17 and 16-11)
  | chunkSub           -- subindex k names bytes from 65,536 × k (R249, Table 14-11)
deriving DecidableEq, Repr

/-- One row of an object table. -/
structure Obj where
  idx : Nat
  ty : Ty
  acc : Acc
  cnt : Nat
  array : Bool
  adr : Adr
  rng : Rng
deriving DecidableEq, Repr

/-! ## Indices by name -/

namespace O

abbrev identVendor : Nat := 0x1000
abbrev identPart : Nat := 0x1001
abbrev identStepping : Nat := 0x1002
abbrev identFwVersion : Nat := 0x1003
abbrev identDevid : Nat := 0x1004
abbrev identSerial : Nat := 0x1005
abbrev identDictVersion : Nat := 0x1006
abbrev sysMode : Nat := 0x1100
abbrev sysModeReq : Nat := 0x1101
abbrev sysModeFsn : Nat := 0x1102
abbrev sysCause : Nat := 0x1103
abbrev sysSelftest : Nat := 0x1104
abbrev sysResetCause : Nat := 0x1105
abbrev sysReset : Nat := 0x1106
abbrev sysWakeAuto : Nat := 0x1107
abbrev sysResume : Nat := 0x1108
abbrev powerSdIslandEn : Nat := 0x1120
abbrev powerSdIslandState : Nat := 0x1121
abbrev powerTj : Nat := 0x1122
abbrev powerTjMax : Nat := 0x1123
abbrev maintTokenTake : Nat := 0x1140
abbrev maintTokenRelease : Nat := 0x1141
abbrev maintTokenHolder : Nat := 0x1142
abbrev maintTokenSince : Nat := 0x1143
abbrev fwSlotState : Nat := 0x1200
abbrev fwSlotVersion : Nat := 0x1201
abbrev fwSlotSvn : Nat := 0x1202
abbrev fwRunning : Nat := 0x1203
abbrev fwStageSegment : Nat := 0x1204
abbrev fwStageBegin : Nat := 0x1205
abbrev fwActivate : Nat := 0x1206
abbrev fwConfirm : Nat := 0x1207
abbrev fwTrialTime : Nat := 0x1208
abbrev fwUpdateState : Nat := 0x1209
abbrev fwFabricPending : Nat := 0x120A
abbrev fwBootState : Nat := 0x120B
abbrev fwTrialLeft : Nat := 0x120C
abbrev secKeyhash : Nat := 0x1210
abbrev secKeyRevoked : Nat := 0x1211
abbrev secRevokeKey0 : Nat := 0x1212
abbrev secSvnFloor : Nat := 0x1213
abbrev secSvnCommit : Nat := 0x1214
abbrev secIdPubkey : Nat := 0x1215
abbrev secLeafNext : Nat := 0x1216
abbrev secReservations : Nat := 0x1217
abbrev secAttestNonce : Nat := 0x1218
abbrev secAttestReport : Nat := 0x1219
abbrev secAttest24h : Nat := 0x121A
abbrev hdpPortMode : Nat := 0x1240
abbrev hdpEncap : Nat := 0x1241
abbrev hdpEtype : Nat := 0x1242
abbrev hdpUdpPort : Nat := 0x1243
abbrev hdpMac : Nat := 0x1244
abbrev hdpIpv6 : Nat := 0x1245
abbrev hdpSessionIdle : Nat := 0x1246
abbrev hdpSessionSeq : Nat := 0x1247
abbrev hdpStats : Nat := 0x1248
abbrev dictLastRefusal : Nat := 0x1249
abbrev secKey : Nat := 0x1250
abbrev secKeyState : Nat := 0x1251
abbrev secRights : Nat := 0x1252
abbrev portEnable : Nat := 0x2000
abbrev portRole : Nat := 0x2001
abbrev portAlignState : Nat := 0x2002
abbrev portVersion : Nat := 0x2003
abbrev portNegState : Nat := 0x2004
abbrev portLaneOpt : Nat := 0x2005
abbrev portFecCorr : Nat := 0x2006
abbrev portFecUncorr : Nat := 0x2007
abbrev portFecDegThr : Nat := 0x2008
abbrev portFlintReject : Nat := 0x2009
abbrev portFlintDrop : Nat := 0x200A
abbrev portRxFsn : Nat := 0x200B
abbrev portRxQl : Nat := 0x200C
abbrev portRxPref : Nat := 0x200D
abbrev portRxStatus : Nat := 0x200E
abbrev portLoopback : Nat := 0x200F
abbrev linkVersionMax : Nat := 0x2800
abbrev linkPeerSupported : Nat := 0x2801
abbrev linkVersionExcluded : Nat := 0x2802
abbrev linkRenegotiate : Nat := 0x2803
abbrev linkChangeCount : Nat := 0x2804
abbrev linkTimeChannelEn : Nat := 0x2805
abbrev linkMsgChannelEn : Nat := 0x2806
abbrev linkTxEq : Nat := 0x2810
abbrev grainSize : Nat := 0x3000
abbrev grainRxState : Nat := 0x3001
abbrev grainRxPtr : Nat := 0x3002
abbrev grainRxTsn : Nat := 0x3003
abbrev grainRxTpob : Nat := 0x3004
abbrev grainRxJust : Nat := 0x3005
abbrev grainTsnJump : Nat := 0x3006
abbrev grainCrcErr : Nat := 0x3007
abbrev grainEsSlip : Nat := 0x3008
abbrev grainEsFill : Nat := 0x3009
abbrev grainTxState : Nat := 0x300A
abbrev grainTxPtr : Nat := 0x300B
abbrev grainTxJust : Nat := 0x300C
abbrev grainTxForceAis : Nat := 0x300D
abbrev grainChanged : Nat := 0x300E
abbrev mapDraftSrc : Nat := 0x4000
abbrev mapShadowSrc : Nat := 0x4001
abbrev mapLiveSrc : Nat := 0x4002
abbrev mapDraftRevert : Nat := 0x4003
abbrev mapChanges : Nat := 0x4004
abbrev mapReleases : Nat := 0x4005
abbrev mapCommitMode : Nat := 0x4006
abbrev mapCommitFsn : Nat := 0x4007
abbrev mapCommitTime : Nat := 0x4008
abbrev mapCommitReq : Nat := 0x4009
abbrev mapState : Nat := 0x400A
abbrev mapResult : Nat := 0x400B
abbrev mapSolveCycles : Nat := 0x400C
abbrev mapRecompute : Nat := 0x400D
abbrev mapEpoch : Nat := 0x400E
abbrev mapLiveFsn : Nat := 0x400F
abbrev mapBoundaryFsn : Nat := 0x4010
abbrev mapUnplaced : Nat := 0x4011
abbrev mapRepairs : Nat := 0x4012
abbrev fabricLodeState : Nat := 0x4020
abbrev fabricCapacity : Nat := 0x4021
abbrev fabricBranchIn : Nat := 0x4022
abbrev fabricBranchOut : Nat := 0x4023
abbrev fabricExcess : Nat := 0x4024
abbrev fabricSlotParityErr : Nat := 0x4025
abbrev groupType : Nat := 0x5000
abbrev groupSize : Nat := 0x5001
abbrev groupMedia : Nat := 0x5002
abbrev groupLateness : Nat := 0x5003
abbrev groupDepth : Nat := 0x5004
abbrev groupMargin : Nat := 0x5005
abbrev groupStart : Nat := 0x5006
abbrev groupPrefMode : Nat := 0x5007
abbrev groupMode : Nat := 0x5008
abbrev groupOffset : Nat := 0x5009
abbrev groupTarget : Nat := 0x500A
abbrev groupSkew : Nat := 0x500B
abbrev groupLines : Nat := 0x500C
abbrev groupAligned : Nat := 0x500D
abbrev groupSieveStats : Nat := 0x500E
abbrev groupLineCtx : Nat := 0x5010
abbrev groupLineSq : Nat := 0x5011
abbrev groupLineState : Nat := 0x5012
abbrev groupLineLateness : Nat := 0x5013
abbrev groupLineSlack : Nat := 0x5014
abbrev groupLineFlags : Nat := 0x5015
abbrev groupLineChanged : Nat := 0x5016
abbrev groupFreeWords : Nat := 0x5020
abbrev groupDdrUnits : Nat := 0x5021
abbrev protRole : Nat := 0x6000
abbrev protConfig : Nat := 0x6001
abbrev protPosition : Nat := 0x6002
abbrev protPrefDefault : Nat := 0x6003
abbrev protPrefSet : Nat := 0x6004
abbrev protPref : Nat := 0x6005
abbrev protFromTsn : Nat := 0x6006
abbrev protState : Nat := 0x6007
abbrev protFlags : Nat := 0x6008
abbrev protFailThr : Nat := 0x6009
abbrev protDigestClose : Nat := 0x600A
abbrev protDigestStats : Nat := 0x600B
abbrev protFaultPorts : Nat := 0x600C
abbrev protPortFaulted : Nat := 0x600D
abbrev protPortFaultClear : Nat := 0x600E
abbrev protUnwatchedFault : Nat := 0x600F
abbrev protMapDigest : Nat := 0x6010
abbrev protPromote : Nat := 0x6011
abbrev protPromoteStep : Nat := 0x6012
abbrev protWarmHealth : Nat := 0x6013
abbrev witnessLaneEn : Nat := 0x6020
abbrev witnessStreamState : Nat := 0x6021
abbrev witnessStreamDevid : Nat := 0x6022
abbrev witnessLinkDelay : Nat := 0x6023
abbrev witnessRecErr : Nat := 0x6024
abbrev witnessLateVerdict : Nat := 0x6025
abbrev arbExpectMap : Nat := 0x6030
abbrev ledgerCutMode : Nat := 0x6040
abbrev ledgerCutPeriod : Nat := 0x6041
abbrev ledgerCutReq : Nat := 0x6042
abbrev ledgerExportEn : Nat := 0x6043
abbrev ledgerSpareAddr : Nat := 0x6044
abbrev ledgerGen : Nat := 0x6045
abbrev ledgerGenFsn : Nat := 0x6046
abbrev ledgerGenHash : Nat := 0x6047
abbrev ledgerExportState : Nat := 0x6048
abbrev ledgerSpareGen : Nat := 0x6049
abbrev ledgerJournalSeq : Nat := 0x604A
abbrev ledgerSlotState : Nat := 0x6050
abbrev ledgerSlotGen : Nat := 0x6051
abbrev ledgerSlotFsn : Nat := 0x6052
abbrev ledgerRxSegment : Nat := 0x6053
abbrev ledgerRxSeal : Nat := 0x6054
abbrev ledgerJournalRx : Nat := 0x6055
abbrev ledgerRxJournalState : Nat := 0x6056
abbrev refPort : Nat := 0x6800
abbrev refEnable : Nat := 0x6801
abbrev refPriority : Nat := 0x6802
abbrev refQlCfg : Nat := 0x6803
abbrev refExtFreq : Nat := 0x6804
abbrev refWindow : Nat := 0x6805
abbrev refQualTime : Nat := 0x6806
abbrev refWtr : Nat := 0x6807
abbrev refForce : Nat := 0x6808
abbrev refComp : Nat := 0x6809
abbrev refFrameOffset : Nat := 0x680A
abbrev refPullLimit : Nat := 0x680B
abbrev refSettleWindow : Nat := 0x680C
abbrev refPhaseStep : Nat := 0x680D
abbrev refPhaseAdj : Nat := 0x680E
abbrev refAlignSrc : Nat := 0x680F
abbrev refAlignOffset : Nat := 0x6810
abbrev refAlignReq : Nat := 0x6811
abbrev refAlignAuto : Nat := 0x6812
abbrev refAlignErr : Nat := 0x6813
abbrev refPpsSrc : Nat := 0x6814
abbrev refPpsTod : Nat := 0x6815
abbrev refPpsEtype : Nat := 0x6816
abbrev refPtpClass : Nat := 0x6817
abbrev refPtpTimeout : Nat := 0x6818
abbrev refFreeQl : Nat := 0x6819
abbrev refRetime : Nat := 0x681A
abbrev refOutEn : Nat := 0x681B
abbrev refOutOffset : Nat := 0x681C
abbrev refClkOutSel : Nat := 0x681D
abbrev refState : Nat := 0x6820
abbrev refSelected : Nat := 0x6821
abbrev refInputState : Nat := 0x6822
abbrev refInputQl : Nat := 0x6823
abbrev refInputOffset : Nat := 0x6824
abbrev refInputPhase : Nat := 0x6825
abbrev refWtrLeft : Nat := 0x6826
abbrev refDcoOffset : Nat := 0x6827
abbrev refTied : Nat := 0x6828
abbrev refFsn : Nat := 0x6829
abbrev refFsnStep : Nat := 0x682A
abbrev timeNow : Nat := 0x6C00
abbrev timeIncrement : Nat := 0x6C01
abbrev timeSet : Nat := 0x6C02
abbrev timeStep : Nat := 0x6C03
abbrev timeCapture : Nat := 0x6C04
abbrev timeCapturedTime : Nat := 0x6C05
abbrev timeCapturedFsn : Nat := 0x6C06
abbrev timeGridResidual : Nat := 0x6C07
abbrev timeServoSrc : Nat := 0x6C08
abbrev timeServoKp : Nat := 0x6C09
abbrev timeServoKi : Nat := 0x6C0A
abbrev timeServoLimit : Nat := 0x6C0B
abbrev timeStepThr : Nat := 0x6C0C
abbrev timePtpOffset : Nat := 0x6C0D
abbrev timeServoState : Nat := 0x6C0E
abbrev timeServoOffset : Nat := 0x6C0F
abbrev timeServoFreq : Nat := 0x6C10
abbrev timeStampAdj : Nat := 0x6C20
abbrev timeTcEn : Nat := 0x6C21
abbrev timeTcFwd : Nat := 0x6C22
abbrev timeTcDomains : Nat := 0x6C23
abbrev timeTcCopyKeeper : Nat := 0x6C24
abbrev timeTcStats : Nat := 0x6C25
abbrev timeLaunch : Nat := 0x6C30
abbrev timeLaunchDone : Nat := 0x6C31
abbrev timeLaunchPending : Nat := 0x6C32
abbrev timeLaunchFlush : Nat := 0x6C33
abbrev timeCutTime : Nat := 0x6C40
abbrev timeCutInterval : Nat := 0x6C41
abbrev memBankOwner : Nat := 0x7000
abbrev memBankState : Nat := 0x7001
abbrev memBankTarget : Nat := 0x7002
abbrev memBankFenced : Nat := 0x7003
abbrev memBankSpareCols : Nat := 0x7004
abbrev memBankCe : Nat := 0x7005
abbrev memBankUe : Nat := 0x7006
abbrev memStaleAccess : Nat := 0x7007
abbrev memEccLog : Nat := 0x7008
abbrev memFenceList : Nat := 0x7009
abbrev memOwnerBanks : Nat := 0x700A
abbrev memOwnerShort : Nat := 0x700B
abbrev memDdrState : Nat := 0x7010
abbrev memDdrSize : Nat := 0x7011
abbrev memDdrLsEn : Nat := 0x7012
abbrev memDdrLsState : Nat := 0x7013
abbrev memDdrLsSize : Nat := 0x7014
abbrev memDdrTraceSize : Nat := 0x7015
abbrev memDdrChState : Nat := 0x7016
abbrev memDdrCe : Nat := 0x7017
abbrev memDdrUe : Nat := 0x7018
abbrev memDdrUeThr : Nat := 0x7019
abbrev memDdrScrubPeriod : Nat := 0x701A
abbrev memDdrScrubPasses : Nat := 0x701B
abbrev memDdrFillLeft : Nat := 0x701C
abbrev memDdrRetrain : Nat := 0x701D
abbrev memDdrTiming : Nat := 0x701E
abbrev matrixMapsel : Nat := 0x7400
abbrev matrixRemap : Nat := 0x7401
abbrev matrixQos : Nat := 0x7402
abbrev matrixAgeLimit : Nat := 0x7403
abbrev matrixTimeout : Nat := 0x7404
abbrev matrixMasterState : Nat := 0x7405
abbrev matrixMasterReset : Nat := 0x7406
abbrev matrixOutstanding : Nat := 0x7407
abbrev matrixHeld : Nat := 0x7408
abbrev matrixErrLog : Nat := 0x7409
abbrev matrixErrCount : Nat := 0x740A
abbrev keeperSramCe : Nat := 0x7410
abbrev keeperSramUe : Nat := 0x7411
abbrev keeperWdogCount : Nat := 0x7412
abbrev flashSize : Nat := 0x7420
abbrev flashProtocol : Nat := 0x7421
abbrev flashErrCount : Nat := 0x7422
abbrev assayEnable : Nat := 0x7800
abbrev assayLineCheck : Nat := 0x7801
abbrev assayBankInterval : Nat := 0x7802
abbrev assayErrors : Nat := 0x7803
abbrev assayTransients : Nat := 0x7804
abbrev assayLasting : Nat := 0x7805
abbrev assayQueueLen : Nat := 0x7806
abbrev assayActive : Nat := 0x7807
abbrev assayLog : Nat := 0x7808
abbrev assayDropped : Nat := 0x7809
abbrev assayTestReq : Nat := 0x780A
abbrev assayTestResult : Nat := 0x780B
abbrev assayPortCause : Nat := 0x780C
abbrev assayPasses : Nat := 0x780D
abbrev eventLatch : Nat := 0x7C00
abbrev eventClear : Nat := 0x7C01
abbrev eventMask : Nat := 0x7C02
abbrev eventIrqEn : Nat := 0x7C03
abbrev eventSummary : Nat := 0x7C04
abbrev eventCount : Nat := 0x7C05
abbrev eventLastTime : Nat := 0x7C06
abbrev tallyCount : Nat := 0x7E00
abbrev tallyPreset : Nat := 0x7E01
abbrev tallyReload : Nat := 0x7E02
abbrev tallyOvfEn : Nat := 0x7E03
abbrev tallySampleSet : Nat := 0x7E04
abbrev tallySamples : Nat := 0x7E05
abbrev tallyOvfCount : Nat := 0x7E06
abbrev tallyThrSel : Nat := 0x7E08
abbrev tallyThrN : Nat := 0x7E09
abbrev tallyTagK : Nat := 0x7E10
abbrev tallyTagSeed : Nat := 0x7E11
abbrev tallyTraceDest : Nat := 0x7E12
abbrev tallyTraceCtrl : Nat := 0x7E13
abbrev tallyTraceState : Nat := 0x7E14
abbrev tallyTraceCount : Nat := 0x7E15
abbrev tallyTraceOldest : Nat := 0x7E16
abbrev tallyTraceData : Nat := 0x7E17

end O

/-! ## The rows -/

/-- Objects 0x10xx. -/
def rows10 : List Obj :=
  [ ⟨O.identVendor, (.octet 16), .const, 1, false, .element, .any⟩,
    ⟨O.identPart, (.octet 8), .const, 1, false, .element, .any⟩,
    ⟨O.identStepping, .u8, .const, 1, false, .element, .any⟩,
    ⟨O.identFwVersion, .u32, .ro, 1, false, .element, .any⟩,
    ⟨O.identDevid, .u32, .const, 1, false, .element, .any⟩,
    ⟨O.identSerial, (.octet 16), .const, 1, false, .element, .any⟩,
    ⟨O.identDictVersion, .u16, .const, 1, false, .element, .any⟩ ]

/-- Objects 0x11xx. -/
def rows11 : List Obj :=
  [ ⟨O.sysMode, .u8, .ro, 1, false, .element, .span 0 7⟩,
    ⟨O.sysModeReq, .u8, .wo, 1, false, .element, .also 3 7 [0]⟩,
    ⟨O.sysModeFsn, .u48, .ro, 1, false, .element, .any⟩,
    ⟨O.sysCause, .u8, .ro, 1, false, .element, .span 0 7⟩,
    ⟨O.sysSelftest, .u16, .ro, 1, false, .element, .span 0 31⟩,
    ⟨O.sysResetCause, .u8, .ro, 1, false, .element, .span 0 3⟩,
    ⟨O.sysReset, .bool, .wo, 1, false, .element, .span 1 1⟩,
    ⟨O.sysWakeAuto, .bool, .rwp, 1, false, .element, .span 0 1⟩,
    ⟨O.sysResume, .u8, .ro, 1, false, .element, .span 0 3⟩,
    ⟨O.powerSdIslandEn, .u16, .rwp, 1, false, .element, .span 0 4095⟩,
    ⟨O.powerSdIslandState, .u16, .ro, 1, false, .element, .span 0 4095⟩,
    ⟨O.powerTj, .i48, .ro, 1, false, .element, .signed (-1600) 2400⟩,
    ⟨O.powerTjMax, .i48, .ro, 1, false, .element, .signed (-1600) 2400⟩,
    ⟨O.maintTokenTake, .u8, .wo, 1, false, .element, .span 1 255⟩,
    ⟨O.maintTokenRelease, .u8, .wo, 1, false, .element, .span 1 255⟩,
    ⟨O.maintTokenHolder, .u8, .ro, 8, true, .element, .also 0 7 [0xFE, 0xFF]⟩,
    ⟨O.maintTokenSince, .u48, .ro, 8, true, .element, .any⟩ ]

/-- Objects 0x12xx. -/
def rows12 : List Obj :=
  [ ⟨O.fwSlotState, .u8, .ro, 2, true, .element, .span 0 6⟩,
    ⟨O.fwSlotVersion, .u32, .ro, 2, true, .element, .any⟩,
    ⟨O.fwSlotSvn, .u8, .ro, 2, true, .element, .span 0 63⟩,
    ⟨O.fwRunning, .u8, .ro, 1, false, .element, .span 0 1⟩,
    ⟨O.fwStageSegment, (.octet 65536), .wo, 256, false, .chunkSub, .any⟩,
    ⟨O.fwStageBegin, .bool, .wo, 1, false, .element, .span 1 1⟩,
    ⟨O.fwActivate, .bool, .wo, 1, false, .element, .span 1 1⟩,
    ⟨O.fwConfirm, .bool, .wo, 1, false, .element, .span 1 1⟩,
    ⟨O.fwTrialTime, .u16, .rwp, 1, false, .element, .span 60 3600⟩,
    ⟨O.fwUpdateState, .u8, .ro, 1, false, .element, .span 0 6⟩,
    ⟨O.fwFabricPending, .bool, .ro, 1, false, .element, .span 0 1⟩,
    ⟨O.fwBootState, .u8, .ro, 1, false, .element, .span 0 2⟩,
    ⟨O.fwTrialLeft, .u16, .ro, 1, false, .element, .span 0 3600⟩,
    ⟨O.secKeyhash, (.octet 32), .const, 2, true, .element, .any⟩,
    ⟨O.secKeyRevoked, .bool, .ro, 1, false, .element, .span 0 1⟩,
    ⟨O.secRevokeKey0, .bool, .wo, 1, false, .element, .span 1 1⟩,
    ⟨O.secSvnFloor, .u8, .ro, 1, false, .element, .span 0 63⟩,
    ⟨O.secSvnCommit, .u8, .wo, 1, false, .element, .span 1 63⟩,
    ⟨O.secIdPubkey, (.octet 60), .const, 1, false, .element, .any⟩,
    ⟨O.secLeafNext, .u32, .ro, 1, false, .element, .span 0 1048576⟩,
    ⟨O.secReservations, .u16, .ro, 1, false, .element, .span 0 16384⟩,
    ⟨O.secAttestNonce, (.octet 32), .wo, 1, false, .element, .any⟩,
    ⟨O.secAttestReport, (.octet 5280), .ro, 1, false, .element, .any⟩,
    ⟨O.secAttest24h, .u8, .ro, 1, false, .element, .span 0 64⟩,
    ⟨O.hdpPortMode, .u8, .rwp, 2, true, .element, .span 0 2⟩,
    ⟨O.hdpEncap, .u8, .rwp, 2, true, .element, .span 1 3⟩,
    ⟨O.hdpEtype, .u16, .rwp, 1, false, .element, .span 1536 65535⟩,
    ⟨O.hdpUdpPort, .u16, .rwp, 1, false, .element, .span 1 65535⟩,
    ⟨O.hdpMac, (.octet 6), .rwp, 2, true, .element, .any⟩,
    ⟨O.hdpIpv6, (.octet 16), .rwp, 2, true, .element, .any⟩,
    ⟨O.hdpSessionIdle, .u16, .rwp, 1, false, .element, .span 10 3600⟩,
    ⟨O.hdpSessionSeq, .u48, .ro, 8, true, .element, .any⟩,
    ⟨O.hdpStats, .u48, .ro, 8, true, .element, .any⟩,
    ⟨O.dictLastRefusal, .u16, .ro, 8, true, .element, .any⟩,
    ⟨O.secKey, (.octet 32), .wo, 8, true, .element, .any⟩,
    ⟨O.secKeyState, .u8, .ro, 8, true, .element, .span 0 1⟩,
    ⟨O.secRights, .u8, .rwp, 8, true, .element, .span 0 15⟩ ]

/-- Objects 0x20xx. -/
def rows20 : List Obj :=
  [ ⟨O.portEnable, .bool, .rwp, 96, false, .element, .span 0 1⟩,
    ⟨O.portRole, .u8, .rwp, 96, false, .element, .span 0 2⟩,
    ⟨O.portAlignState, .u8, .ro, 96, false, .element, .span 0 5⟩,
    ⟨O.portVersion, .u8, .ro, 96, false, .element, .span 17 34⟩,
    ⟨O.portNegState, .u8, .ro, 96, false, .element, .span 0 5⟩,
    ⟨O.portLaneOpt, .u8, .rwp, 96, false, .element, .span 0 15⟩,
    ⟨O.portFecCorr, .u48, .ro, 96, false, .element, .span 0 281474976710655⟩,
    ⟨O.portFecUncorr, .u48, .ro, 96, false, .element, .span 0 281474976710655⟩,
    ⟨O.portFecDegThr, .u32, .rwp, 96, false, .element, .span 1 4294967295⟩,
    ⟨O.portFlintReject, .u32, .ro, 96, false, .element, .span 0 4294967295⟩,
    ⟨O.portFlintDrop, .u32, .ro, 96, false, .element, .span 0 4294967295⟩,
    ⟨O.portRxFsn, .u48, .ro, 96, false, .element, .span 0 281474976710655⟩,
    ⟨O.portRxQl, .u48, .ro, 96, false, .element, .any⟩,
    ⟨O.portRxPref, .u48, .ro, 96, false, .element, .any⟩,
    ⟨O.portRxStatus, .u48, .ro, 288, true, .element, .any⟩,
    ⟨O.portLoopback, .u8, .rw, 96, false, .element, .span 0 1⟩ ]

/-- Objects 0x28xx. -/
def rows28 : List Obj :=
  [ ⟨O.linkVersionMax, .u8, .rwp, 96, false, .portSub, .span 1 2⟩,
    ⟨O.linkPeerSupported, .u8, .ro, 96, false, .portSub, .span 0 255⟩,
    ⟨O.linkVersionExcluded, .u8, .rw, 96, false, .portSub, .span 0 254⟩,
    ⟨O.linkRenegotiate, .bool, .wo, 96, false, .portSub, .span 1 1⟩,
    ⟨O.linkChangeCount, .u32, .ro, 96, false, .portSub, .span 0 4294967295⟩,
    ⟨O.linkTimeChannelEn, .bool, .rwp, 96, false, .portSub, .span 0 1⟩,
    ⟨O.linkMsgChannelEn, .bool, .rwp, 96, false, .portSub, .span 0 1⟩,
    ⟨O.linkTxEq, (.octet 8), .rwp, 96, false, .portSub, .shown 0x0000EAF30000EAF3 0x0408000004080000⟩ ]

/-- Objects 0x30xx. -/
def rows30 : List Obj :=
  [ ⟨O.grainSize, .u8, .rwp, 15360, true, .element, .span 0 1⟩,
    ⟨O.grainRxState, .u8, .ro, 122880, true, .element, .span 0 6⟩,
    ⟨O.grainRxPtr, .u16, .ro, 122880, true, .element, .span 0 404⟩,
    ⟨O.grainRxTsn, .u48, .ro, 122880, true, .element, .span 0 281474976710655⟩,
    ⟨O.grainRxTpob, .u16, .ro, 122880, true, .element, .any⟩,
    ⟨O.grainRxJust, .u32, .ro, 122880, true, .element, .span 0 4294967295⟩,
    ⟨O.grainTsnJump, .u32, .ro, 122880, true, .element, .span 0 4294967295⟩,
    ⟨O.grainCrcErr, .u32, .ro, 122880, true, .element, .span 0 4294967295⟩,
    ⟨O.grainEsSlip, .u32, .ro, 122880, true, .element, .span 0 4294967295⟩,
    ⟨O.grainEsFill, .u8, .ro, 122880, true, .element, .span 0 192⟩,
    ⟨O.grainTxState, .u8, .ro, 122880, true, .element, .span 0 3⟩,
    ⟨O.grainTxPtr, .u16, .ro, 122880, true, .element, .span 0 404⟩,
    ⟨O.grainTxJust, .u32, .ro, 122880, true, .element, .span 0 4294967295⟩,
    ⟨O.grainTxForceAis, .bool, .rw, 122880, true, .element, .span 0 1⟩,
    ⟨O.grainChanged, (.octet 160), .ro, 96, true, .element, .any⟩ ]

/-- Objects 0x40xx. -/
def rows40 : List Obj :=
  [ ⟨O.mapDraftSrc, .u32, .rw, 122880, true, .element, .also 0 122879 [0xFFFFFFFE, 0xFFFFFFFF]⟩,
    ⟨O.mapShadowSrc, .u32, .ro, 122880, true, .element, .also 0 122879 [0xFFFFFFFE, 0xFFFFFFFF]⟩,
    ⟨O.mapLiveSrc, .u32, .ro, 122880, true, .element, .also 0 122879 [0xFFFFFFFE, 0xFFFFFFFF]⟩,
    ⟨O.mapDraftRevert, .bool, .wo, 1, false, .element, .span 1 1⟩,
    ⟨O.mapChanges, .u32, .ro, 1, false, .element, .span 0 122880⟩,
    ⟨O.mapReleases, .u32, .ro, 1, false, .element, .span 0 122880⟩,
    ⟨O.mapCommitMode, .u8, .rw, 1, false, .element, .span 1 3⟩,
    ⟨O.mapCommitFsn, .u48, .rw, 1, false, .element, .span 0 281474976710655⟩,
    ⟨O.mapCommitTime, .time, .rw, 1, false, .element, .any⟩,
    ⟨O.mapCommitReq, .bool, .wo, 1, false, .element, .span 1 1⟩,
    ⟨O.mapState, .u8, .ro, 1, false, .element, .span 0 2⟩,
    ⟨O.mapResult, .u16, .ro, 1, false, .element, .shown 0 0x0610⟩,
    ⟨O.mapSolveCycles, .u32, .ro, 1, false, .element, .span 0 4294967295⟩,
    ⟨O.mapRecompute, .bool, .rw, 1, false, .element, .span 0 1⟩,
    ⟨O.mapEpoch, .u32, .ro, 1, false, .element, .span 0 4294967295⟩,
    ⟨O.mapLiveFsn, .u48, .ro, 1, false, .element, .span 0 281474976710655⟩,
    ⟨O.mapBoundaryFsn, .u48, .ro, 1, false, .element, .span 0 281474976710655⟩,
    ⟨O.mapUnplaced, (.octet 15360), .ro, 1, false, .element, .any⟩,
    ⟨O.mapRepairs, .u16, .ro, 1, false, .element, .span 0 4096⟩,
    ⟨O.fabricLodeState, .u8, .rwe, 10, true, .element, .span 0 2⟩,
    ⟨O.fabricCapacity, .u16, .ro, 1, false, .element, .span 0 3840⟩,
    ⟨O.fabricBranchIn, .u16, .ro, 96, true, .element, .span 0 3840⟩,
    ⟨O.fabricBranchOut, .u16, .ro, 96, true, .element, .span 0 1280⟩,
    ⟨O.fabricExcess, .u16, .ro, 1, false, .element, .span 0 4096⟩,
    ⟨O.fabricSlotParityErr, .u32, .ro, 10, true, .element, .span 0 4294967295⟩ ]

/-- Objects 0x50xx. -/
def rows50 : List Obj :=
  [ ⟨O.groupType, .u8, .rwe, 6144, true, .element, .span 0 2⟩,
    ⟨O.groupSize, .u8, .rwe, 6144, true, .element, .span 0 1⟩,
    ⟨O.groupMedia, .u8, .rwe, 6144, true, .element, .span 0 1⟩,
    ⟨O.groupLateness, .u32, .rwe, 6144, true, .element, .span 1 103712⟩,
    ⟨O.groupDepth, .u32, .rwe, 6144, true, .element, .span 8 103712⟩,
    ⟨O.groupMargin, .u32, .rwe, 6144, true, .element, .span 1 103712⟩,
    ⟨O.groupStart, .u8, .rwe, 6144, true, .element, .span 0 1⟩,
    ⟨O.groupPrefMode, .u8, .rwe, 6144, true, .element, .span 0 2⟩,
    ⟨O.groupMode, .u8, .ro, 6144, true, .element, .span 0 3⟩,
    ⟨O.groupOffset, .i48, .ro, 6144, true, .element, .any⟩,
    ⟨O.groupTarget, .i48, .ro, 6144, true, .element, .any⟩,
    ⟨O.groupSkew, .u32, .ro, 6144, true, .element, .span 0 103712⟩,
    ⟨O.groupLines, .u16, .ro, 6144, true, .element, .span 0 512⟩,
    ⟨O.groupAligned, .u16, .ro, 6144, true, .element, .span 0 512⟩,
    ⟨O.groupSieveStats, .u48, .ro, 24576, true, .element, .span 0 281474976710655⟩,
    ⟨O.groupLineCtx, .u16, .rwe, 122880, true, .element, .also 0 6143 [0xFFFE, 0xFFFF]⟩,
    ⟨O.groupLineSq, .u16, .rwe, 122880, true, .element, .span 0 511⟩,
    ⟨O.groupLineState, .u8, .ro, 122880, true, .element, .span 0 5⟩,
    ⟨O.groupLineLateness, .i48, .ro, 122880, true, .element, .any⟩,
    ⟨O.groupLineSlack, .i48, .ro, 122880, true, .element, .any⟩,
    ⟨O.groupLineFlags, .u8, .ro, 122880, true, .element, .span 0 7⟩,
    ⟨O.groupLineChanged, (.octet 160), .ro, 96, true, .element, .any⟩,
    ⟨O.groupFreeWords, .u48, .ro, 4, true, .element, .span 0 281474976710655⟩,
    ⟨O.groupDdrUnits, .u16, .ro, 1, false, .element, .span 0 1851⟩ ]

/-- Objects 0x60xx. -/
def rows60 : List Obj :=
  [ ⟨O.protRole, .u8, .rwp, 1, false, .element, .span 0 4⟩,
    ⟨O.protConfig, .u8, .rwp, 1, false, .element, .span 0 1⟩,
    ⟨O.protPosition, .u8, .rwp, 1, false, .element, .span 0 63⟩,
    ⟨O.protPrefDefault, .u8, .rwp, 1, false, .element, .span 1 2⟩,
    ⟨O.protPrefSet, .u8, .wo, 1, false, .element, .span 1 2⟩,
    ⟨O.protPref, .u8, .ro, 1, false, .element, .span 0 2⟩,
    ⟨O.protFromTsn, .u48, .ro, 1, false, .element, .any⟩,
    ⟨O.protState, .u8, .ro, 1, false, .element, .span 0 6⟩,
    ⟨O.protFlags, .u8, .ro, 1, false, .element, .span 0 7⟩,
    ⟨O.protFailThr, .u8, .rwp, 1, false, .element, .span 1 8⟩,
    ⟨O.protDigestClose, .u16, .rwp, 1, false, .element, .span 16 512⟩,
    ⟨O.protDigestStats, .u48, .ro, 8, true, .element, .any⟩,
    ⟨O.protFaultPorts, (.octet 12), .ro, 1, false, .element, .any⟩,
    ⟨O.protPortFaulted, (.octet 12), .ro, 1, false, .element, .any⟩,
    ⟨O.protPortFaultClear, (.octet 12), .wo, 1, false, .element, .any⟩,
    ⟨O.protUnwatchedFault, .bool, .rwp, 1, false, .element, .span 0 1⟩,
    ⟨O.protMapDigest, (.octet 8), .ro, 1, false, .element, .any⟩,
    ⟨O.protPromote, .u8, .wo, 1, false, .element, .span 1 2⟩,
    ⟨O.protPromoteStep, .u8, .ro, 1, false, .element, .also 0 10 [0xFF]⟩,
    ⟨O.protWarmHealth, .u32, .ro, 1, false, .element, .any⟩,
    ⟨O.witnessLaneEn, .u8, .rwp, 1, false, .element, .span 0 3⟩,
    ⟨O.witnessStreamState, .u8, .ro, 32, true, .element, .span 0 2⟩,
    ⟨O.witnessStreamDevid, .u32, .ro, 32, true, .element, .any⟩,
    ⟨O.witnessLinkDelay, .i48, .ro, 32, true, .element, .any⟩,
    ⟨O.witnessRecErr, .u32, .ro, 32, true, .element, .any⟩,
    ⟨O.witnessLateVerdict, .u32, .ro, 1, false, .element, .any⟩,
    ⟨O.arbExpectMap, (.octet 8), .rw, 64, true, .element, .any⟩,
    ⟨O.ledgerCutMode, .u8, .rwp, 1, false, .element, .span 0 7⟩,
    ⟨O.ledgerCutPeriod, .u32, .rwp, 1, false, .element, .span 80000 4294967295⟩,
    ⟨O.ledgerCutReq, .bool, .wo, 1, false, .element, .span 1 1⟩,
    ⟨O.ledgerExportEn, .bool, .rwp, 1, false, .element, .span 0 1⟩,
    ⟨O.ledgerSpareAddr, (.octet 24), .rwp, 1, false, .element, .any⟩,
    ⟨O.ledgerGen, .u48, .ro, 1, false, .element, .any⟩,
    ⟨O.ledgerGenFsn, .u48, .ro, 1, false, .element, .any⟩,
    ⟨O.ledgerGenHash, (.octet 32), .ro, 1, false, .element, .any⟩,
    ⟨O.ledgerExportState, .u8, .ro, 1, false, .element, .span 0 4⟩,
    ⟨O.ledgerSpareGen, .u48, .ro, 1, false, .element, .any⟩,
    ⟨O.ledgerJournalSeq, .u48, .ro, 1, false, .element, .any⟩,
    ⟨O.ledgerSlotState, .u8, .ro, 2, true, .element, .span 0 3⟩,
    ⟨O.ledgerSlotGen, .u48, .ro, 2, true, .element, .any⟩,
    ⟨O.ledgerSlotFsn, .u48, .ro, 2, true, .element, .any⟩,
    ⟨O.ledgerRxSegment, (.octet 65536), .wo, 64, false, .chunkSub, .any⟩,
    ⟨O.ledgerRxSeal, (.octet 32), .wo, 1, false, .element, .any⟩,
    ⟨O.ledgerJournalRx, (.octet 65536), .wo, 1, false, .element, .any⟩,
    ⟨O.ledgerRxJournalState, .u8, .ro, 1, false, .element, .span 0 2⟩ ]

/-- Objects 0x68xx. -/
def rows68 : List Obj :=
  [ ⟨O.refPort, .u8, .rwp, 8, true, .element, .also 0 95 [0xFF]⟩,
    ⟨O.refEnable, .u16, .rwp, 1, false, .element, .span 0 8191⟩,
    ⟨O.refPriority, .u8, .rwp, 13, true, .element, .span 1 15⟩,
    ⟨O.refQlCfg, .u8, .rwp, 13, true, .element, .also 1 0 [0x0, 0x2, 0x4, 0x8, 0xB, 0xF]⟩,
    ⟨O.refExtFreq, .u8, .rwp, 2, true, .element, .span 0 2⟩,
    ⟨O.refWindow, .u32, .rwp, 13, true, .element, .span 500 15400⟩,
    ⟨O.refQualTime, .u16, .rwp, 13, true, .element, .span 1 3600⟩,
    ⟨O.refWtr, .u16, .rwp, 1, false, .element, .span 0 3600⟩,
    ⟨O.refForce, .u8, .rw, 1, false, .element, .also 0 12 [0xFF]⟩,
    ⟨O.refComp, .i48, .rwp, 13, true, .element, .signed (-(2 ^ 47 - 1)) (2 ^ 47 - 1)⟩,
    ⟨O.refFrameOffset, .u48, .rwp, 1, false, .element, .span 0 8191999999⟩,
    ⟨O.refPullLimit, .u16, .rwp, 1, false, .element, .span 100 9200⟩,
    ⟨O.refSettleWindow, .u32, .rwp, 1, false, .element, .span 1 62500⟩,
    ⟨O.refPhaseStep, .i48, .wo, 1, false, .element, .signed (-4096000000) 4096000000⟩,
    ⟨O.refPhaseAdj, .i48, .ro, 1, false, .element, .any⟩,
    ⟨O.refAlignSrc, .u8, .rwp, 1, false, .element, .span 0 2⟩,
    ⟨O.refAlignOffset, .i48, .rwp, 1, false, .element, .signed (-4096000000) 4096000000⟩,
    ⟨O.refAlignReq, .bool, .wo, 1, false, .element, .span 1 1⟩,
    ⟨O.refAlignAuto, .bool, .rwp, 1, false, .element, .span 0 1⟩,
    ⟨O.refAlignErr, .i48, .ro, 1, false, .element, .any⟩,
    ⟨O.refPpsSrc, .u8, .rwp, 1, false, .element, .span 0 2⟩,
    ⟨O.refPpsTod, .time, .wo, 1, false, .element, .any⟩,
    ⟨O.refPpsEtype, .u16, .rwp, 1, false, .element, .any⟩,
    ⟨O.refPtpClass, .u8, .rw, 1, false, .element, .span 0 255⟩,
    ⟨O.refPtpTimeout, .u16, .rwp, 1, false, .element, .span 1 300⟩,
    ⟨O.refFreeQl, .u8, .rwp, 1, false, .element, .also 1 0 [0x2, 0x4, 0x8, 0xB, 0xF]⟩,
    ⟨O.refRetime, .bool, .wo, 1, false, .element, .span 1 1⟩,
    ⟨O.refOutEn, .u8, .rwp, 1, false, .element, .span 0 7⟩,
    ⟨O.refOutOffset, .i48, .rwp, 1, false, .element, .signed (-4096000000) 4096000000⟩,
    ⟨O.refClkOutSel, .u8, .rwp, 1, false, .element, .span 0 2⟩,
    ⟨O.refState, .u8, .ro, 1, false, .element, .span 0 2⟩,
    ⟨O.refSelected, .u8, .ro, 1, false, .element, .also 0 12 [0xFF]⟩,
    ⟨O.refInputState, .u8, .ro, 13, true, .element, .span 0 6⟩,
    ⟨O.refInputQl, .u8, .ro, 13, true, .element, .also 1 0 [0x2, 0x4, 0x8, 0xB, 0xF]⟩,
    ⟨O.refInputOffset, .i48, .ro, 13, true, .element, .any⟩,
    ⟨O.refInputPhase, .i48, .ro, 13, true, .element, .any⟩,
    ⟨O.refWtrLeft, .u16, .ro, 13, true, .element, .span 0 3600⟩,
    ⟨O.refDcoOffset, .i48, .ro, 1, false, .element, .signed (-15400000) 15400000⟩,
    ⟨O.refTied, .bool, .ro, 1, false, .element, .span 0 1⟩,
    ⟨O.refFsn, .u48, .ro, 1, false, .element, .any⟩,
    ⟨O.refFsnStep, .i48, .ro, 1, false, .element, .any⟩ ]

/-- Objects 0x6Cxx. -/
def rows6C : List Obj :=
  [ ⟨O.timeNow, .time, .ro, 1, false, .element, .any⟩,
    ⟨O.timeIncrement, .u32, .ro, 2, true, .element, .any⟩,
    ⟨O.timeSet, .time, .wo, 1, false, .element, .any⟩,
    ⟨O.timeStep, .i48, .wo, 1, false, .element, .signed (-(2 ^ 47 - 1)) (2 ^ 47 - 1)⟩,
    ⟨O.timeCapture, .bool, .wo, 1, false, .element, .span 1 1⟩,
    ⟨O.timeCapturedTime, .time, .ro, 1, false, .element, .any⟩,
    ⟨O.timeCapturedFsn, .u48, .ro, 1, false, .element, .any⟩,
    ⟨O.timeGridResidual, .i48, .ro, 1, false, .element, .any⟩,
    ⟨O.timeServoSrc, .u8, .rwp, 1, false, .element, .span 0 2⟩,
    ⟨O.timeServoKp, .u16, .rwp, 1, false, .element, .span 1 65535⟩,
    ⟨O.timeServoKi, .u16, .rwp, 1, false, .element, .span 0 65535⟩,
    ⟨O.timeServoLimit, .u32, .rwp, 1, false, .element, .span 1000 500000⟩,
    ⟨O.timeStepThr, .u32, .rwp, 1, false, .element, .span 100 1000000000⟩,
    ⟨O.timePtpOffset, .i48, .wo, 1, false, .element, .signed (-(2 ^ 47 - 1)) (2 ^ 47 - 1)⟩,
    ⟨O.timeServoState, .u8, .ro, 1, false, .element, .span 0 2⟩,
    ⟨O.timeServoOffset, .i48, .ro, 1, false, .element, .any⟩,
    ⟨O.timeServoFreq, .i48, .ro, 1, false, .element, .signed (-500000000) 500000000⟩,
    ⟨O.timeStampAdj, .i48, .rwp, 196, true, .element, .signed (-(2 ^ 47 - 1)) (2 ^ 47 - 1)⟩,
    ⟨O.timeTcEn, .bool, .rwp, 1, false, .element, .span 0 1⟩,
    ⟨O.timeTcFwd, (.octet 13), .rwp, 98, true, .element, .mask (2 ^ 104 - 64)⟩,
    ⟨O.timeTcDomains, (.octet 32), .rwp, 1, false, .element, .any⟩,
    ⟨O.timeTcCopyKeeper, .bool, .rwp, 1, false, .element, .span 0 1⟩,
    ⟨O.timeTcStats, .u48, .ro, 8, true, .element, .any⟩,
    ⟨O.timeLaunch, (.octet 1538), .wo, 1, false, .element, .any⟩,
    ⟨O.timeLaunchDone, (.octet 18), .ro, 64, true, .element, .any⟩,
    ⟨O.timeLaunchPending, .u8, .ro, 1, false, .element, .span 0 64⟩,
    ⟨O.timeLaunchFlush, .u8, .wo, 1, false, .element, .span 0 97⟩,
    ⟨O.timeCutTime, .time, .rw, 1, false, .element, .any⟩,
    ⟨O.timeCutInterval, .u32, .rwp, 1, false, .element, .span 0 86400⟩ ]

/-- Objects 0x70xx. -/
def rows70 : List Obj :=
  [ ⟨O.memBankOwner, .u8, .rwp, 256, true, .element, .shown 0 0x8F⟩,
    ⟨O.memBankState, .u8, .ro, 256, true, .element, .span 0 5⟩,
    ⟨O.memBankTarget, .u8, .ro, 256, true, .element, .also 0 8 [15]⟩,
    ⟨O.memBankFenced, .u8, .ro, 256, true, .element, .span 0 16⟩,
    ⟨O.memBankSpareCols, .u8, .const, 256, true, .element, .span 0 4⟩,
    ⟨O.memBankCe, .u32, .ro, 256, true, .element, .span 0 4294967295⟩,
    ⟨O.memBankUe, .u32, .ro, 256, true, .element, .span 0 4294967295⟩,
    ⟨O.memStaleAccess, .u32, .ro, 1, false, .element, .span 0 4294967295⟩,
    ⟨O.memEccLog, .u48, .ro, 16, true, .element, .any⟩,
    ⟨O.memFenceList, .u32, .ro, 4352, true, .element, .any⟩,
    ⟨O.memOwnerBanks, .u16, .ro, 16, true, .element, .span 0 256⟩,
    ⟨O.memOwnerShort, .u16, .ro, 1, false, .element, .span 0 65535⟩,
    ⟨O.memDdrState, .u8, .ro, 1, false, .element, .span 0 4⟩,
    ⟨O.memDdrSize, .u8, .ro, 1, false, .element, .also 1 0 [0, 8, 16, 32, 64]⟩,
    ⟨O.memDdrLsEn, .bool, .rwp, 1, false, .element, .span 0 1⟩,
    ⟨O.memDdrLsState, .u8, .ro, 1, false, .element, .span 0 2⟩,
    ⟨O.memDdrLsSize, .u32, .rwp, 1, false, .element, .steps 0 65536 64⟩,
    ⟨O.memDdrTraceSize, .u32, .rwp, 1, false, .element, .steps 0 4096 64⟩,
    ⟨O.memDdrChState, .u8, .ro, 4, true, .element, .span 0 4⟩,
    ⟨O.memDdrCe, .u32, .ro, 4, true, .element, .span 0 4294967295⟩,
    ⟨O.memDdrUe, .u32, .ro, 4, true, .element, .span 0 4294967295⟩,
    ⟨O.memDdrUeThr, .u16, .rwp, 1, false, .element, .span 1 65535⟩,
    ⟨O.memDdrScrubPeriod, .u16, .rwp, 1, false, .element, .span 1 168⟩,
    ⟨O.memDdrScrubPasses, .u32, .ro, 1, false, .element, .span 0 4294967295⟩,
    ⟨O.memDdrFillLeft, .u32, .ro, 1, false, .element, .span 0 65536⟩,
    ⟨O.memDdrRetrain, .u8, .wo, 1, false, .element, .span 0 3⟩,
    ⟨O.memDdrTiming, .u16, .rwp, 6, true, .element, .span 1 1023⟩ ]

/-- Objects 0x74xx. -/
def rows74 : List Obj :=
  [ ⟨O.matrixMapsel, .u8, .ro, 1, false, .element, .span 0 1⟩,
    ⟨O.matrixRemap, .bool, .rw, 1, false, .element, .span 0 1⟩,
    ⟨O.matrixQos, .u8, .rwp, 8, true, .element, .span 0 15⟩,
    ⟨O.matrixAgeLimit, .u16, .rwp, 1, false, .element, .span 16 4096⟩,
    ⟨O.matrixTimeout, .u32, .rwp, 1, false, .element, .span 1024 16777216⟩,
    ⟨O.matrixMasterState, .u8, .ro, 8, true, .element, .span 0 2⟩,
    ⟨O.matrixMasterReset, .u8, .wo, 1, false, .element, .span 4 252⟩,
    ⟨O.matrixOutstanding, .u8, .ro, 8, true, .element, .span 0 16⟩,
    ⟨O.matrixHeld, .u32, .ro, 8, true, .element, .span 0 4294967295⟩,
    ⟨O.matrixErrLog, .u48, .ro, 16, true, .element, .any⟩,
    ⟨O.matrixErrCount, .u32, .ro, 8, true, .element, .span 0 4294967295⟩,
    ⟨O.keeperSramCe, .u32, .ro, 1, false, .element, .span 0 4294967295⟩,
    ⟨O.keeperSramUe, .u32, .ro, 1, false, .element, .span 0 4294967295⟩,
    ⟨O.keeperWdogCount, .u32, .ro, 2, true, .element, .span 0 4294967295⟩,
    ⟨O.flashSize, .u16, .ro, 1, false, .element, .span 64 1024⟩,
    ⟨O.flashProtocol, .u8, .ro, 1, false, .element, .span 0 1⟩,
    ⟨O.flashErrCount, .u32, .ro, 1, false, .element, .span 0 4294967295⟩ ]

/-- Objects 0x78xx. -/
def rows78 : List Obj :=
  [ ⟨O.assayEnable, .u8, .rwp, 1, false, .element, .span 0 31⟩,
    ⟨O.assayLineCheck, (.octet 12), .rwp, 1, false, .element, .any⟩,
    ⟨O.assayBankInterval, .u16, .rwp, 1, false, .element, .span 64 65535⟩,
    ⟨O.assayErrors, .u48, .ro, 9, true, .element, .any⟩,
    ⟨O.assayTransients, .u48, .ro, 9, true, .element, .any⟩,
    ⟨O.assayLasting, .u48, .ro, 9, true, .element, .any⟩,
    ⟨O.assayQueueLen, .u8, .ro, 5, true, .element, .span 0 64⟩,
    ⟨O.assayActive, .u48, .ro, 5, true, .element, .any⟩,
    ⟨O.assayLog, (.octet 16), .ro, 64, true, .element, .any⟩,
    ⟨O.assayDropped, .u32, .ro, 1, false, .element, .span 0 4294967295⟩,
    ⟨O.assayTestReq, .u48, .wo, 1, false, .element, .shown 0 (8 * 2 ^ 44 + 95)⟩,
    ⟨O.assayTestResult, .u8, .ro, 1, false, .element, .span 0 4⟩,
    ⟨O.assayPortCause, .u8, .ro, 96, true, .element, .span 0 4⟩,
    ⟨O.assayPasses, .u48, .ro, 2, true, .element, .any⟩ ]

/-- Objects 0x7Cxx. -/
def rows7C : List Obj :=
  [ ⟨O.eventLatch, (.octet 64), .ro, 1, false, .element, .any⟩,
    ⟨O.eventClear, (.octet 64), .wo, 1, false, .element, .any⟩,
    ⟨O.eventMask, (.octet 64), .rwp, 1, false, .element, .any⟩,
    ⟨O.eventIrqEn, .bool, .rwp, 1, false, .element, .span 0 1⟩,
    ⟨O.eventSummary, .u16, .ro, 1, false, .element, .any⟩,
    ⟨O.eventCount, .u32, .ro, 512, true, .element, .span 0 4294967295⟩,
    ⟨O.eventLastTime, .time, .ro, 512, true, .element, .any⟩ ]

/-- Objects 0x7Exx. -/
def rows7E : List Obj :=
  [ ⟨O.tallyCount, (.octet 12), .ro, 768, true, .element, .any⟩,
    ⟨O.tallyPreset, .u48, .wo, 768, true, .element, .span 0 281474976710655⟩,
    ⟨O.tallyReload, .u48, .rw, 768, true, .element, .span 0 281474976710655⟩,
    ⟨O.tallyOvfEn, (.octet 96), .rw, 1, false, .element, .any⟩,
    ⟨O.tallySampleSet, .u16, .rw, 4, true, .element, .also 0 767 [0xFFFF]⟩,
    ⟨O.tallySamples, (.octet 32), .ro, 64, true, .element, .any⟩,
    ⟨O.tallyOvfCount, .u32, .ro, 1, false, .element, .span 0 4294967295⟩,
    ⟨O.tallyThrSel, .u48, .rw, 16, true, .element, .span 0 (6 * 2 ^ 40 - 1)⟩,
    ⟨O.tallyThrN, .u32, .rw, 16, true, .element, .span 0 4294967295⟩,
    ⟨O.tallyTagK, .u8, .rw, 1, false, .element, .also 14 31 [0]⟩,
    ⟨O.tallyTagSeed, .u32, .rw, 1, false, .element, .span 1 4294967295⟩,
    ⟨O.tallyTraceDest, .u8, .rw, 1, false, .element, .span 0 1⟩,
    ⟨O.tallyTraceCtrl, .u8, .wo, 1, false, .element, .span 1 3⟩,
    ⟨O.tallyTraceState, .u8, .ro, 1, false, .element, .span 0 2⟩,
    ⟨O.tallyTraceCount, .u48, .ro, 1, false, .element, .any⟩,
    ⟨O.tallyTraceOldest, .u32, .ro, 1, false, .element, .span 0 16777215⟩,
    ⟨O.tallyTraceData, (.octet 30), .ro, 16777216, true, .element, .any⟩ ]

/-- The rows of an index block of 256. -/
def rowsOf (hi : Nat) : List Obj :=
  if hi = 0x10 then rows10
  else if hi = 0x11 then rows11
  else if hi = 0x12 then rows12
  else if hi = 0x20 then rows20
  else if hi = 0x28 then rows28
  else if hi = 0x30 then rows30
  else if hi = 0x40 then rows40
  else if hi = 0x50 then rows50
  else if hi = 0x60 then rows60
  else if hi = 0x68 then rows68
  else if hi = 0x6C then rows6C
  else if hi = 0x70 then rows70
  else if hi = 0x74 then rows74
  else if hi = 0x78 then rows78
  else if hi = 0x7C then rows7C
  else if hi = 0x7E then rows7E
  else []

/-- The row at an index; the objects of port p stand at 0x2000 + 16 p + offset and share port 0's rows,
whose elements the model numbers by port (3 p + k for word k of PORT.RX_STATUS). -/
def objAt (idx : Nat) : Option Obj :=
  if 0x2000 ≤ idx && idx < 0x2600 then rows20.find? fun o => o.idx == 0x2000 + idx % 16
  else (rowsOf (idx / 256)).find? fun o => o.idx == idx

/-- Every row of every table. -/
def allRows : List Obj :=
  rows10 ++ rows11 ++ rows12 ++ rows20 ++ rows28 ++ rows30 ++ rows40 ++ rows50 ++ rows60 ++ rows68 ++ rows6C ++
    rows70 ++ rows74 ++ rows78 ++ rows7C ++ rows7E

/-- REF.QUAL_TIME by input (Table 7-2): Cooper and EXT 10 s, PPS 60 s, PTP 300 s, PEER 2 s. -/
def defQualTime (i : Nat) : Nat := if i < 10 then 10 else if i = 10 then 60 else if i = 11 then 300 else 2

/-- MEM.BANK_OWNER by bank (Table 9-2). -/
def defOwner (b : Nat) : Nat :=
  if b < 4 then 4 else if b < 15 then 5 else if b = 15 then 6 else if b < 18 then 7 else 0

/-- MEM.OWNER_BANKS by owner code (Table 9-2). -/
def defOwnerBanks (k : Nat) : Nat := [238, 0, 0, 0, 4, 11, 1, 2].getD k 0

/-- What element `e` of the object at `i` reads as when nothing has been written to it: the Default column of its
table (log entry 1 names the values that the spec leaves to the device). A port's element of the objects 0x2000 to
0x200D and 0x200F is the port; element 3 p + k of 0x200E is word k of port p. -/
def regDefault (i e : Nat) : Nat :=
  match i with
  | 0x1000 => 0x4e67757175656c204465766963657300   -- IDENT.VENDOR
  | 0x1001 => 0x4a58393600000000   -- IDENT.PART
  | 0x1002 => 176   -- IDENT.STEPPING
  | 0x1003 => Config.imageVersion 0   -- IDENT.FW_VERSION
  | 0x1004 => Config.devid   -- IDENT.DEVID
  | 0x1005 => Config.serial   -- IDENT.SERIAL
  | 0x1006 => 512   -- IDENT.DICT_VERSION
  | 0x1120 => 4095   -- POWER.SD_ISLAND_EN
  | 0x1142 => 255   -- MAINT.TOKEN_HOLDER
  | 0x1200 => if e = 0 then 5 else 0   -- FW.SLOT_STATE
  | 0x1201 => Config.imageVersion e   -- FW.SLOT_VERSION
  | 0x1202 => Config.imageSvn e   -- FW.SLOT_SVN
  | 0x1208 => 600   -- FW.TRIAL_TIME
  | 0x1210 => ofBytes (Config.keyHash e)   -- SEC.KEYHASH
  | 0x1215 => Config.idPubkey   -- SEC.ID_PUBKEY
  | 0x1216 => 64 * Config.reservations   -- SEC.LEAF_NEXT
  | 0x1217 => Config.reservations   -- SEC.RESERVATIONS
  | 0x1240 => 1   -- HDP.PORT_MODE
  | 0x1241 => 1   -- HDP.ENCAP
  | 0x1242 => 34997   -- HDP.ETYPE
  | 0x1243 => 47800   -- HDP.UDP_PORT
  | 0x1244 => Config.mac e   -- HDP.MAC
  | 0x1246 => 60   -- HDP.SESSION_IDLE
  | 0x1252 => if e = 0 then 0x0F else 0x01   -- SEC.RIGHTS
  | 0x2003 => 17   -- PORT.VERSION
  | 0x2008 => 21150720   -- PORT.FEC_DEG_THR
  | 0x2800 => 2   -- LINK.VERSION_MAX
  | 0x2805 => 1   -- LINK.TIME_CHANNEL_EN
  | 0x2806 => 1   -- LINK.MSG_CHANNEL_EN
  | 0x2810 => 0x0002F6FE0000FCFE   -- LINK.TX_EQ
  | 0x3001 => 2   -- GRAIN.RX_STATE
  | 0x4000 => 4294967295   -- MAP.DRAFT_SRC
  | 0x4001 => 4294967295   -- MAP.SHADOW_SRC
  | 0x4002 => 4294967295   -- MAP.LIVE_SRC
  | 0x4006 => 1   -- MAP.COMMIT_MODE
  | 0x4021 => 3840   -- FABRIC.CAPACITY
  | 0x5003 => 128   -- GROUP.LATENESS
  | 0x5004 => 136   -- GROUP.DEPTH
  | 0x5005 => 16   -- GROUP.MARGIN
  | 0x5007 => 2   -- GROUP.PREF_MODE
  | 0x5010 => 65535   -- GROUP.LINE_CTX
  | 0x6003 => 1   -- PROT.PREF_DEFAULT
  | 0x6007 => 6   -- PROT.STATE
  | 0x6008 => 1   -- PROT.FLAGS
  | 0x6009 => 2   -- PROT.FAIL_THR
  | 0x600A => 256   -- PROT.DIGEST_CLOSE
  | 0x600F => 1   -- PROT.UNWATCHED_FAULT
  | 0x6020 => 3   -- WITNESS.LANE_EN
  | 0x6040 => 3   -- LEDGER.CUT_MODE
  | 0x6041 => 480000   -- LEDGER.CUT_PERIOD
  | 0x6800 => 255   -- REF.PORT
  | 0x6802 => 8   -- REF.PRIORITY
  | 0x6803 => if e < 8 || e = 11 then 0x0 else if e = 12 then 0xB else 0xF   -- REF.QL_CFG
  | 0x6805 => 9200   -- REF.WINDOW
  | 0x6806 => defQualTime e   -- REF.QUAL_TIME
  | 0x6807 => 300   -- REF.WTR
  | 0x6808 => 255   -- REF.FORCE
  | 0x680B => 4600   -- REF.PULL_LIMIT
  | 0x680C => 100   -- REF.SETTLE_WINDOW
  | 0x6816 => 34998   -- REF.PPS_ETYPE
  | 0x6817 => 255   -- REF.PTP_CLASS
  | 0x6818 => 16   -- REF.PTP_TIMEOUT
  | 0x6819 => 11   -- REF.FREE_QL
  | 0x681B => 3   -- REF.OUT_EN
  | 0x6821 => 255   -- REF.SELECTED
  | 0x6823 => 15   -- REF.INPUT_QL
  | 0x6C01 => if e = 0 then 3 else 0x370B96A6   -- TIME.INCREMENT
  | 0x6C09 => 45875   -- TIME.SERVO_KP
  | 0x6C0A => 19661   -- TIME.SERVO_KI
  | 0x6C0B => 200000   -- TIME.SERVO_LIMIT
  | 0x6C0C => 10000   -- TIME.STEP_THR
  | 0x6C23 => 2 ^ 255   -- TIME.TC_DOMAINS
  | 0x6C24 => 1   -- TIME.TC_COPY_KEEPER
  | 0x7000 => defOwner e   -- MEM.BANK_OWNER
  | 0x7001 => 5   -- MEM.BANK_STATE
  | 0x7004 => Config.spareCols e   -- MEM.BANK_SPARE_COLS
  | 0x7009 => 4294967295   -- MEM.FENCE_LIST
  | 0x700A => defOwnerBanks e   -- MEM.OWNER_BANKS
  | 0x7014 => 1152   -- MEM.DDR_LS_SIZE
  | 0x7015 => 64   -- MEM.DDR_TRACE_SIZE
  | 0x7019 => 16   -- MEM.DDR_UE_THR
  | 0x701A => 24   -- MEM.DDR_SCRUB_PERIOD
  | 0x701E => [22, 16, 21, 21, 46, 498].getD e 0   -- MEM.DDR_TIMING
  | 0x7402 => [8, 10, 6, 4, 1, 12, 2, 14].getD e 0   -- MATRIX.QOS
  | 0x7403 => 256   -- MATRIX.AGE_LIMIT
  | 0x7404 => 65536   -- MATRIX.TIMEOUT
  | 0x7800 => 31   -- ASSAY.ENABLE
  | 0x7802 => 1024   -- ASSAY.BANK_INTERVAL
  | 0x7807 => 2 ^ 48 - 1   -- ASSAY.ACTIVE
  | 0x7C02 => 2 ^ 512 - 1   -- EVENT.MASK
  | 0x7E04 => 65535   -- TALLY.SAMPLE_SET
  | 0x7E11 => 1   -- TALLY.TAG_SEED
  | _ => 0

/-- Objects held in the Keeper data partition of flash: RWP values of 0x1000 to 0x12FF and 0x6000 to 0x63FF (R383). -/
def inFlash (i : Nat) : Bool := (0x1000 ≤ i && i < 0x1300) || (0x6000 ≤ i && i < 0x6400)

/-- Objects of blocks in the fabric island (Table 1-5, R364, R454; log entry 8). -/
def inFabric (i : Nat) : Bool :=
  (0x2000 ≤ i && i < 0x2900) || (0x3000 ≤ i && i < 0x5800) || (0x7001 ≤ i && i < 0x7400)
    || (0x7800 ≤ i && i < 0x7C00) || (0x7E00 ≤ i && i < 0x8000) || (0x6022 ≤ i && i ≤ 0x6025) || i == O.protDigestStats

/-- The key of element `e` of object `i` in State.regs and State.live. -/
def regKey (i e : Nat) : Nat := i * 2 ^ 24 + e % 2 ^ 24

/-- What the element at a key of the register arrays reads as unlisted. -/
def unlisted (k : Nat) : Nat := regDefault (k / 2 ^ 24) (k % 2 ^ 24)

end Sys2Proof.Machine
end

