-- ==== Sys2Proof/Machine/State.lean ====
section
/-! DEFINITION. The state of the block: every dictionary register (State.regs, State.live) and every piece of state
that the prose of the spec gives it, as plain data. -/

namespace Sys2Proof.Machine

/-- The eight modes of Table 14-1. -/
inductive Mode where
  | dormant | wake | attest | stage | restore | service | isolate | quarantine
deriving DecidableEq, Repr

/-- The code of a mode (Table 14-1). -/
def Mode.code : Mode → Nat
  | .dormant => 0 | .wake => 1 | .attest => 2 | .stage => 3 | .restore => 4 | .service => 5 | .isolate => 6
  | .quarantine => 7

/-- What a message or frame that leaves the block is. -/
inductive Sent where
  /-- an HDP message: time port, addresses, message (R388, R400, R249) -/
  | hdp (port : Nat) (enc : Encap) (msg : List Byte)
  /-- an Ethernet frame on an interface: 0–95 time channel of a port, 96–97 time ports -/
  | eth (iface : Nat) (frame : List Byte)
  /-- a Witness record on a stream -/
  | witness (stream : Nat) (blocks : List Block)
  /-- the blocks of a record on a Witness lane, scrambled, and the idle control block after them (R227) -/
  | blocks (lane : Nat) (raw : List Block66)
  /-- an ICMPv6 answer of a port: type and body (R388) -/
  | icmp (port typ target : Nat) (body : List Byte)
  /-- the lane of a port while it sent a frame: the PAM4 levels, as the frame ends (R45) -/
  | lane (port : Nat) (levels : List Nat)
  /-- an interrupt to a Keeper core (R444) -/
  | interrupt (core : Nat)
  /-- a Keeper core takes an exception: its instruction fetch got an error response (R351) -/
  | exception (core : Nat)
  /-- a matrix response: master, ID, response code of R357, data -/
  | matrix (master id status : Nat) (data : List Byte)
  /-- a frame that goes to the Keeper: interface, frame, receive stamp in 2^-16 ns of local time (R307) -/
  | keeper (iface : Nat) (frame : List Byte) (stamp : Int)
  /-- an output pin goes high: 0 FP_OUT, 1 PPS_OUT; ROOT cycles after this frame start, for so many ticks (R291) -/
  | pulse (pin : Nat) (after : Int) (ticks : Nat)
deriving DecidableEq, Repr

/-- What the last command answered: a refusal code or 0, the value a read returned, what was sent. -/
structure Out where
  status : Nat
  value : List Byte
  sent : List Sent
deriving DecidableEq, Repr

/-- The local clock of frames: TCLK ticks since power-on reset at the start of the current frame, fabric rounds
begun in it (96 ticks each), and the frame number. -/
structure Clk where
  base : Nat
  round : Nat
  fsn : Nat
deriving DecidableEq, Repr

/-- Modes, power and boot (chapter 14, R33, R500 to R502). -/
structure SysS where
  mode : Mode
  /-- boot in progress: none, or the cause of the reset -/
  booting : Bool
  recovery : Bool
  porst : Bool
  /-- the last power-on reset was by PORST_N, not by SYS.RESET (R456, R513) -/
  byPin : Bool
  fabEn : Bool
  fabPg : Bool
  fabOn : Bool
  ddrNone : Bool
  /-- tick of FAB_EN -/
  wakeTick : Nat
  banksClear : Bool
  isolateReq : Bool
  dormantReq : Bool
  /-- SERVICE entered at the boundary in progress (R452) -/
  serviceReq : Bool
  /-- RESTORE has asked for its commit, and that commit is the one that stands -/
  restoreCommit : Bool
  /-- the journal replay of RESTORE waits for the host (R260) -/
  restoreWait : Bool
  /-- RESTORE begins again once the boundary that stands has passed (R471) -/
  restoreAgain : Bool
  /-- the tokens that RESTORE holds: bit 0 MAP, bit 1 LEDGER (Table 15-5) -/
  restoreTok : Nat
  /-- contexts on DDR4 media that a restore brought wait for long skew (Table 6-12 step 9) -/
  ddrHeld : Bool
  /-- promotion in progress: 0 none, 1 plane A, 2 plane B -/
  promoting : Nat
  /-- FSN at entry into STAGE of a promotion (R258) -/
  stageFsn : Nat
  /-- serdes islands powering up, and those of them cleared meanwhile (R33, R502) -/
  sdUp : List Nat
  sdDrop : List Nat
  /-- the power-up of islands holds the PORTS token (Table 11-8) -/
  sdTok : Bool
  /-- a Keeper restart in progress (R465) -/
  restarting : Bool
deriving DecidableEq, Repr

/-- A candidate of Flint (R73 to R77): raw-bit position, and whether it passed its row-1 check. -/
structure Cand where
  pos : Nat
  passed : Bool
deriving DecidableEq, Repr

/-- A run of identical receptions (R64): the value, how many, and whether a value has been accepted. -/
structure Run where
  val : Nat
  n : Nat
  acc : Bool
deriving DecidableEq, Repr

/-- What a port keeps beside its registers (chapter 2). -/
structure LinkP where
  stopPending : Bool
  stopAtFrameEnd : Bool
  txOn : Bool
  cands : List Cand
  ql : Run
  pref : Run
  /-- the plane preference word accepted before the one in PORT.RX_PREF (R198) -/
  prefOld : Nat
  ls0 : Run
  ls1 : Run
  ls2 : Run
  supp : Run
  seekRun : Nat
  peerSeen : Bool
  target : Nat
  count : Nat
  relock : Nat
  outFrames : Nat
  degSum : Nat
  degFrames : Nat
  deg : Bool
  /-- LS0 and LS1 figures of the last complete received frame -/
  lastRx : Bool
  lastCorr : Nat
  lastUnc : Nat
  lastFawd : Nat
  /-- COUNT of the last valid COMMIT word, plus 1, and its TARGET (R86, R87) -/
  rxCount : Nat
  rxTarget : Nat
  rxSwitched : Bool
  /-- message channel: bytes so far, and the SEQ of the last container of the frame (R71) -/
  msgAsm : List Byte
  msgSeq : Option Nat
  msgTxSeq : Nat
  lastStamp : Nat
  /-- raw bit at which the next frame is expected, on the count of the candidates (R75, R77) -/
  pos : Nat
  /-- a return to START awaits the frame boundary of the transmitter, and of the receiver (R86) -/
  txReset : Bool
  rxReset : Bool
  /-- SETTLED since the last START: the port carries traffic (R94) -/
  carries : Bool
  /-- LINK.TIME_CHANNEL_EN was written 0: the channel ends at the next link frame (Table 15-3) -/
  chanEnd : Bool
deriving DecidableEq, Repr

/-- Per port, what a second structure keeps (R311, R510, R46, Table 16-11). -/
structure LinkQ where
  adapt1 : Bool
  adapt2 : Bool
  /-- equaliser taps in effect since the last frame start -/
  eq : Nat
  /-- the frame being sent: its version, its overhead words by 256 × row + h, the payload words of its rounds so far -/
  ver : Nat
  ovh : List (Nat × Word)
  pay : List (List Nat)
  /-- a port in Witness role: blocks of its stream that wait, and those of the frame being sent (R232) -/
  wtx : List Block66
  wframe : List Block66
  /-- the lane of the frame sent last, the level before it, and the symbol that the precoder sent last (R45, R46) -/
  lane : List Nat
  laneBefore : Nat
  pre : Nat
  /-- the values of PORT.LANE_OPT in the frame being sent, each with the round from which it acts (R46) -/
  opts : List (Nat × Nat)
  /-- bits of LINK.VERSION_EXCLUDED that the port set itself, and the frame in which it did (R95) -/
  exclBits : Nat
  exclFsn : Nat
  /-- frames left of the Assayer's observation of the port, whether it has failed, and its corrected symbols
  (Table 12-4) -/
  obs : Nat
  obsBad : Bool
  obsSum : Nat
  /-- a renegotiation that the host asked for holds the PORTS token (Table 11-8) -/
  tok : Bool
deriving DecidableEq, Repr

/-- The tag of a fabric word (Table 4-1). -/
inductive Tag where
  | idle | empty | word | tpoa | ais | test
deriving DecidableEq, Repr

/-- A unit of the carried stream: one word of a minor grain, the eight words of a major grain (Table 3-8), with its
mark, and the result of the previous tributary frame where the unit holds TPO-B (R102). -/
structure SUnit where
  tag : Tag
  ws : List Word
  res : Option Bool
deriving DecidableEq, Repr

/-- A word in the fabric (Table 4-1). -/
structure Cell where
  tag : Tag
  data : Word
  par : Bool
deriving DecidableEq, Repr

/-- The pointer interpreter and elastic store of an ingress grain (R119 to R130). -/
structure RxG where
  inv : Nat
  ais : Nat
  uneq : Nat
  neu : Nat
  candV : Nat
  cand : Nat
  since : Nat
  ci : Nat
  other : Nat
  /-- words of each minor grain that wait for their fellows of the unit -/
  part : List (List SUnit)
  /-- the tributary frame in progress: units since its TPO-A plus 1, 0 when none -/
  pos : Nat
  crc : Nat
  tsn : Nat
  tpob : Nat
  broken : Bool
  intr : Bool
  /-- TSN of the last uninterrupted frame, when it is the predecessor -/
  prev : Option Nat
  /-- CRC and breakage of the frame before the one in progress, until its TPO-B is met -/
  lastCrc : Nat
  lastBroken : Bool
  lastHeld : Bool
  writing : Bool
  slots : List Nat
  inflow : List SUnit
  store : List SUnit
  reading : Bool
  frames : Nat
  plan : Int
  sinceDep : Nat
  /-- the tributary frame the read side presents: its TSN, units presented of it, its lateness (R208) -/
  outT : Nat
  outPos : Nat
  outA : Int
deriving DecidableEq, Repr

/-- A tributary frame at a digest tap (R218, R222, R223). -/
structure Tap where
  /-- units since its TPO-A, that one included; 0 when none is in progress -/
  pos : Nat
  crc : Nat
  tsn : Nat
  pt : Nat
  /-- ingress tap: egress grains fed in the map epoch of the first entry; egress tap: the source in that epoch -/
  dst : List Nat
  lastTsn : Nat
  seen : Bool
  wholeFsn : Nat
  everWhole : Bool
  stray : Bool
deriving DecidableEq, Repr

/-- The pointer generator of an egress grain (R131 to R136). -/
structure TxG where
  queue : List SUnit
  /-- tributary units since the last TPO-A reached the generator, that one included -/
  sinceA : Nat
  placed : Bool
  pend : Int
  since : Nat
  displaced : Bool
  /-- the slot of this frame allows the NEW of a displaced TPO-A (R521) -/
  mayNew : Bool
  aisMark : Bool
  /-- pointer field of the frame, and whether NJO holds data or PJO stuff in it -/
  ptr : Nat
  just : Int
  /-- units that leave before all ones begin; the ones last to the TPO-A that NEW locates (R134, R521) -/
  onesIn : Option Nat
  /-- NEW stands in this frame's slot, and its container has begun -/
  newDue : Bool
  lift : Bool
  /-- the container being sent: 0 as R117, 1 as R116, 2 carried words -/
  cont : Nat
  /-- what the last boundary did: 0 nothing, 1 gave a source, 2 changed it, 3 removed it -/
  bnd : Nat
  out : List Word
  njo : List Word
  /-- words of the last 45 rounds, where followers have their PJO in a later round than the head (R99) -/
  hist : List (List Word)
deriving DecidableEq, Repr

/-- A branch with its colour (R149): source minor grain, egress port, colour. -/
structure Br where
  s : Nat
  e : Nat
  k : Nat
deriving DecidableEq, Repr

/-- What a map puts into the three stages (R143 to R145): ITS read maps, ingress port × 3,840 + colour to external slot;
select tables, colour × 96 + egress port to ingress port; ETS read maps, egress grain to colour; and the source of each
egress head. What is not listed names none. -/
structure StageM where
  its : SMap Nat
  sel : SMap Nat
  ets : SMap Nat
  src : SMap Nat
deriving DecidableEq, Repr

/-- A stage map entry that does not hold what it was loaded with: its value, whether its parity fails, whether its
storage is at fault (R420, R421). -/
structure EntW where
  v : Nat
  par : Bool
  stuck : Bool
deriving DecidableEq, Repr

/-- The three stages (R138 to R148). -/
structure FabS where
  /-- round buffers of the ITS: buffer × 122,880 + source minor grain (R143) -/
  its : SMap Cell
  /-- buffers of the ETS: buffer × 368,640 + egress port × 3,840 + colour (R145) -/
  ets : SMap Cell
  /-- the maps in use, and the stage shadow registers (R167) -/
  cur : StageM
  shadow : StageM
  /-- a boundary has been taken: rounds 1 and 2 take the shadow registers (Table 4-6) -/
  newIts : Bool
  newEts : Bool
  /-- major-grain positions that took a new size at that boundary, with the size their egress side still has (R172) -/
  resized : SMap Nat
  ovf : SMap (Nat × SUnit)
  /-- resources whose error of this frame has been reported (R147, R412) -/
  seen : List (Nat × Nat)
  entries : SMap Nat
  /-- entries that do not hold what they were loaded with, by number of Table 12-1 -/
  wrong : SMap EntW
deriving DecidableEq, Repr

/-- The commit in progress and the Shadow (R157 to R177). -/
structure MapS where
  liveBr : List Br
  shadowBr : List Br
  shadowOut : List Nat
  f : Nat
  full : Bool
  loaded : Bool
  /-- 0 host, 1 repair (R155), 2 bank retirement (R477), 3 restore, 4 mode SERVICE -/
  origin : Nat
  drain : Bool
  cycles : Nat
  /-- cycles of the solve in progress that counter 66 has counted (Table 13-1) -/
  busy : Nat
  repairs : Nat
  deferred : Nat
  /-- a recompute of the Shadow under R155 is running -/
  resolve : Bool
  /-- a Lode has failed under the commit that stands: should it end, the Live map is recomputed (R155 step 3) -/
  lodeDue : Bool
  /-- MAP.COMMIT_MODE and MAP.COMMIT_TIME of the request (R166, R170) -/
  mode : Nat
  time : Nat
  /-- the session whose token the commit holds, 0xFE the JX96, 0xFF none -/
  holder : Nat
deriving DecidableEq, Repr

/-- A unit held in a line (R182). -/
structure LEnt where
  t : Nat
  pos : Nat
  ais : Bool
  ws : List Word
  /-- lateness of the frame (R182) -/
  a : Int
  /-- this is the TPO-A of a frame that the line releases: it was ALIGNED for it (Table 5-1) -/
  go : Bool
deriving DecidableEq, Repr

/-- A line of the group stage (R178 to R195). -/
structure LineS where
  ctx : Nat
  copy : Nat
  buf : List LEnt
  curT : Nat
  curPos : Nat
  /-- a tributary frame is being written -/
  live : Bool
  lastT : Option Nat
  /-- TSN of the previous frame that was in its window -/
  prevIn : Option Nat
  /-- lateness of the last TPO-A written (R182) -/
  late : Int
  /-- what E is ahead of the line's own release, after a slewed start (R208, R209) -/
  lag : Int
  /-- change of the line's release in round 404 of this frame (R187) -/
  d : Int
  /-- the frame whose words are due is being released -/
  releasing : Bool
  /-- results by TSN: 1 good, 2 bad -/
  res : SMap Nat
  /-- a TPO-A was presented in this local frame -/
  tpoa : Bool
  /-- the source carries no AIS -/
  traffic : Bool
  /-- the line ends with this frame, its one held word as the overflow word (R211) -/
  closing : Bool
  /-- a retired bank held its words or records, and no space has been found since (Table 9-4) -/
  lost : Bool
deriving DecidableEq, Repr

/-- A group context (R184 to R211). -/
structure CtxS where
  kind : Nat
  h : Int
  step : Int
  /-- lines that E is ahead of come one round nearer in round 404 of this frame (R208, R209) -/
  slew : Bool
  /-- frames in which no step may be taken -/
  bar : Nat
  cond : Nat
  /-- whole frames without an ALIGNED line, and whether there has been one in this frame (R189) -/
  noAligned : Nat
  hadAligned : Bool
  started : Bool
  /-- TSN of the frame being released, and the copy it comes from (2: AIS); and of the frame before -/
  chosen : Option (Nat × Nat)
  chosenPrev : Option (Nat × Nat)
  prefLast : Nat
deriving DecidableEq, Repr

/-- The space a line reserves (R202): its context and type, medium, words, index records and DDR4 units. -/
structure Resv where
  ctx : Nat
  kind : Nat
  medium : Nat
  words : Nat
  index : Nat
  units : Nat
  /-- words of banks that it takes, and words of SKEW banks for its index records: bank and number (log entry 89) -/
  place : List (Nat × Nat)
  iplace : List (Nat × Nat)
deriving DecidableEq, Repr

/-- Lines and contexts, removed lines whose scrub runs, and the reservations (R203, R211). -/
structure GrpS where
  lines : SMap LineS
  ctxs : SMap CtxS
  /-- lines being scrubbed, by context and grain (`freeKey`) -/
  freeing : SMap Resv
  resv : SMap Resv
  /-- what lines reserve in the context that a boundary is to move them to (R203) -/
  moved : SMap Resv
  /-- contexts whose GROUP.MARGIN has been written since the last boundary (R186) -/
  margins : List Nat
  /-- grains whose held words this boundary discards: the generators they feed start again (R211) -/
  cut : List Nat
deriving DecidableEq, Repr

/-- A digest record (R219 to R226): kind 0 ID, 1 XD, 2 ED; the plane and position it is of. -/
structure DRec where
  kind : Nat
  plane : Nat
  place : Nat
  port : Nat
  t : Nat
  dig : Nat
  cnt : Nat
  /-- frame of its first fold -/
  first : Nat
  epoch : Bool
  done : Bool
  aged : Bool
  judged : Bool
deriving DecidableEq, Repr

/-- A run of failing or differing records of one port (R234): length and its first TSN. -/
structure FRun where
  n : Nat
  from_ : Nat
deriving DecidableEq, Repr

/-- A verdict that awaits its frame (R238): the ports failing in it as a bit set of R518. -/
structure Vrd where
  eff : Nat
  pref : Nat
  state : Nat
  from_ : Nat
  arb : Bool
  ports : Nat
  /-- frame from which it applies: EFFECTIVE_FSN, or the next one of a late record -/
  at_ : Nat
  /-- written to PROT.PREF_SET (R241) -/
  host : Bool
deriving DecidableEq, Repr

/-- Digests, verdicts and preference (R214 to R245). -/
structure ProtS where
  taps : SMap Tap
  etaps : SMap Tap
  recs : List DRec
  /-- runs of failing or differing records: ((kind × 64 + position) × 96 + port), kind 0 self-check A, 1 self-check B,
  2 ingress, 3 egress -/
  runs : SMap FRun
  verdicts : List Vrd
  /-- verdicts that have been applied, the latest first (R238) -/
  applied : List Vrd
  /-- the compared TSNs since the condition was last present, at most 8,000 (R237) -/
  clean : List Nat
  /-- local frames since an arbiter STATUS record (R239) -/
  watch : Nat
  selfFail : Bool
  /-- greatest TSN of any record completed since the fabric island powered up (R241) -/
  anyDone : Option Nat
  /-- egress ports whose sources a boundary changed, with its frame (R224) -/
  epochs : List (Nat × Nat)
  digestDue : Bool
  /-- MAP.EPOCH of the map digest held (R229) -/
  digestEpoch : Nat
  /-- preferences are compared at the next record after unwatched ended (R482) -/
  recheck : Bool
  /-- large configuration: last row reached at each position, and the map digests that its planes report -/
  rows : SMap Nat
  maps : SMap Nat
  notices : List (Nat × Nat)
  /-- the preference word that R258 sends until a peer STATUS record comes: the FSN, and whether it stands -/
  untold : Bool
  /-- tick of the last WARM_HEALTH update -/
  warmTick : Nat
deriving DecidableEq, Repr

/-- A Witness stream (R227 to R233). -/
structure WStr where
  lock : Bool
  /-- consecutive good STATUS records that carry DEVID `cand` -/
  good : Nat
  cand : Nat
  /-- a DEVID is held (WITNESS.STREAM_DEVID) -/
  held : Bool
  /-- KEY and arrival stamp of the last good STATUS record, in 2^-16 ns -/
  last : Option (Nat × Nat)
  /-- local frames since then -/
  frames : Nat
  rseqTx : Nat
  /-- sending stamps of STATUS records by KEY -/
  sentT : SMap Nat
  delays : List Int
  plane : Nat
  position : Nat
  mode : Nat
  state : Nat
  epoch : Nat
  pref : Nat
  from_ : Nat
  /-- the peer's frame start by R233, and the frame it is of -/
  start : Option (Int × Nat)
deriving DecidableEq, Repr

/-- An HDP message without its MAC (Table 11-3). -/
structure Hdp where
  op : Nat
  flags : Nat
  session : Nat
  seq : Nat
  xfer : Nat
  index : Nat
  sub : Nat
  elem : Nat
  offset : Nat
  total : Nat
  status : Nat
  value : List Byte
deriving DecidableEq, Repr

/-- The Ledger (R246 to R255). -/
structure LedS where
  cutting : Bool
  image : List Byte
  cutFsn : Nat
  sealedImg : List Byte
  exportTick : Nat
  journalOut : List (Nat × Nat × List Byte)
  jbytes : Nat
  sentSeq : Nat
  journalIn : List (Nat × Nat × List Byte)
  lastIn : Nat
  slot0 : List Byte
  slot1 : List Byte
  rxNext : Nat
  rxSlot : Nat
  lastCut : Nat
  cutNext : Bool
  cutJournal : Bool
  /-- LENGTH of the generation that the spare receives (R250) -/
  rxLen : Nat
  /-- requests to the spare that wait, SEQ of those without a response, and the last SEQ and XFER (R249, R393) -/
  xq : List Hdp
  xfly : List Nat
  xseq : Nat
  xfer : Nat
deriving DecidableEq, Repr

/-- A timing input (R266 to R278). Phases are in 2^-16 ns, times in TCLK ticks. -/
structure InS where
  /-- local instant less reference instant, REF.COMP taken in, REF.PHASE_ADJ not -/
  raw : Int
  have_ : Bool
  /-- tick of the last sample, or of enabling -/
  at_ : Nat
  /-- measured fractional frequency offset, ppb, and whether one has been measured -/
  y : Int
  meas : Bool
  /-- tick from which the condition of the present state has held -/
  t0 : Nat
  /-- tick, plus 1, from which |d| > W, and from which ΔF ≠ 0, of a QUALIFIED input -/
  bad : Nat
  dfb : Nat
  /-- QUALIFIED since it was enabled -/
  ever : Bool
  soft : Bool
  dF : Int
  /-- tick of the last offset measurement, or from which the first is made (R270) -/
  mAt : Nat
  /-- PPS and PTP: reference time at the start of frame `refF`, when one is known (R268) -/
  refT : Int
  refF : Nat
  refOk : Bool
  /-- last valid time of day of a PPS edge, 2^-16 ns, and whether two have followed one another -/
  tod : Option Nat
  twoTods : Bool
deriving DecidableEq, Repr

/-- The Horologer (chapter 7). -/
structure RefS where
  ins : SMap InS
  /-- integrator and DCO offset, in 10^-18 -/
  integ : Int
  dco : Int
  /-- ticks, plus 1: last loop update; |e| within the settle window since; DCO at its clamp since -/
  upd : Nat
  win : Nat
  clamp : Nat
  /-- tick of the last switch, and whether it came from FREE -/
  sw : Nat
  fromFree : Bool
  /-- REF.TIED stays 1 through this ACQUIRE (R287) -/
  keep : Bool
  /-- I and the DCO offset are zeroed in the next update (R285) -/
  freeDue : Bool
  /-- REF.TIED became 1: R288 acts at the next frame start -/
  tieDue : Bool
  /-- phase steps: whether one is being pulled, what is left of them in 2^-16 ns and in 10^-18 of that (P of R297), and
  the integrator and DCO offset as they would be without them -/
  pull : Bool
  left : Int
  frac : Int
  integ0 : Int
  dco0 : Int
  /-- a step being pulled, or an alignment, holds the TIMING token -/
  stepTok : Bool
  align : Bool
  alignTok : Bool
  alignTick : Nat
  /-- REF.PPS_TOD, for the next edge of PPS_IN -/
  todNext : Option Nat
deriving DecidableEq, Repr

/-- A queued launch (R313 to R317); `at_` in 2^-16 ns; `missed` that local time has stepped past it. -/
structure LaunchR where
  tag : Nat
  iface : Nat
  insert : Bool
  at_ : Nat
  frame : List Byte
  missed : Bool
deriving DecidableEq, Repr

/-- A frame that waits for its interface (R308 to R311): ingress stamp on the count of ROOT cycles in 2^-16 ns, and
the tick at which it was queued. -/
structure TcF where
  iface : Nat
  frame : List Byte
  stamp : Int
  event : Bool
  tick : Nat
deriving DecidableEq, Repr

/-- The time engine (chapter 8). -/
structure TimS where
  /-- local time in 2^-32 ns at tick `ltTick`, and the increment -/
  lt : Nat
  ltTick : Nat
  inc : Nat
  /-- what they were before: tick, local time and increment of the last 16 changes, newest first -/
  segs : List (Nat × Nat × Nat)
  /-- servo: integrator in 10^-15, tick of the last used sample plus 1, sample used since it started, in RUN at the
  last sample, at its clamp -/
  integ : Int
  lastUse : Nat
  started : Bool
  run : Bool
  clamped : Bool
  launches : List LaunchR
  /-- unread completion records (Table 8-5), oldest first -/
  done : List Nat
  queue : List TcF
  /-- time channels whose container of the current frame is taken -/
  taken : List Nat
  /-- HDP and Keeper frames that a launch keeps back: time port, bytes of the frame (R314) -/
  held : List (Nat × Nat × Sent)
  /-- end of the last transmission of a time port, on the count of ROOT cycles in 2^-16 ns -/
  busy : SMap Nat
  /-- the transparent clock was enabled at the last frame start; switched off, it forwards until the next (Table 15-3)
  -/
  tcRun : Bool
deriving DecidableEq, Repr

/-- A unit of flash work: up to 4 KiB to program, or the 64 KiB block to erase before it; of the firmware slot being
staged, or of a Ledger slot (R250, R487). -/
structure FUnit where
  /-- the Ledger slot, or 2 for firmware -/
  slot : Nat
  /-- offset in the generation, or in the flash for firmware -/
  at_ : Nat
  erase : Bool
  data : List Byte
deriving DecidableEq, Repr

/-- Bank pool, DDR4, Keeper SRAM and flash contents (chapters 9 and 10). -/
structure MemS where
  /-- bank words by bank × 65,552 + word (spare words from 65,536 up): bit p − 1 is Hamming position p, bit 54 C[6]
  (R323) -/
  bank : SMap Nat
  /-- fenced words: bank × 65,536 + word to spare number plus 1 -/
  fence : SMap Nat
  /-- banks whose handover scrubs them -/
  scrub : List Nat
  /-- banks whose handover completed as the island went off (R329) -/
  due : List Nat
  /-- corrected words that wait for their idle cycle (R325) -/
  back : List (Nat × Nat)
  /-- unread entries of MEM.ECC_LOG, oldest first -/
  ecc : List Nat
  /-- bytes by DDR4 offset, by Keeper SRAM offset, by flash offset -/
  ddr : SMap Nat
  sram : SMap Nat
  flash : SMap Nat
  /-- 8-byte units of DDR4 and of Keeper SRAM that an error has left wrong: which of their 72 bits (R341, R352) -/
  ddrBad : SMap Nat
  sramBad : SMap Nat
  /-- bytes that the flash's command registers have programmed, plus 1 (R355) -/
  flashCmd : SMap Nat
  /-- banks whose words a solve or a cut has written in a layout of its own, and those of their words that have since
  been read or written: what these hold is settled (log entry 89) -/
  opened : List Nat
  settled : SMap Nat
  /-- by bank, the owner before its last handover, plus 1 (R330) -/
  former : SMap Nat
  /-- flash work that waits, in order of arrival, and whether firmware work is next (R487) -/
  work : List FUnit
  fwTurn : Bool
  /-- DDR4 offset of the next patrol read -/
  patrol : Nat
  /-- bytes filled of the zero-fill in progress -/
  filled : Nat
  filling : Bool
  /-- uncorrectable beats of the last second: channel and tick (R348) -/
  ueAt : List (Nat × Nat)
  /-- failed retrain attempts by channel -/
  tries : SMap Nat
  /-- channels whose retrain the host requested, with the token's holder -/
  retrainBy : SMap Nat
  /-- Keeper SRAM offset of the patrol, bank word of the background test -/
  sramAt : Nat
  bankAt : Nat
  /-- ticks from which the next DDR4 patrol read, Keeper SRAM patrol read and word test of a bank may start (R347,
  Table 12-2) -/
  patrolNext : Nat
  sramNext : Nat
  bankNext : SMap Nat
  /-- Keeper SRAM pages excluded (Table 12-4) -/
  excluded : List Nat
deriving DecidableEq, Repr

/-- A matrix transaction (R360 to R379). -/
structure Txn where
  master : Nat
  id : Nat
  /-- 0 READ, 1 WRITE, 2 to 4 ATOMIC (opcode plus 2) -/
  kind : Nat
  addr : Nat
  len : Nat
  /-- write data with its byte enables -/
  data : List (Byte × Bool)
  operand : Nat
  /-- disturbance of the first unit that a read meets -/
  flip : Nat
  qos : Nat
  /-- target it decodes to -/
  target : Nat
  /-- issued to the zone of a REMAP change that waits (R363) -/
  zone : Bool
  granted : Bool
  /-- MCLK cycles counted since issue, or since the grant, and the tick of either -/
  age : Nat
  tick : Nat
  /-- response code and read data, from the grant on -/
  status : Nat
  result : List Byte
  /-- an instruction fetch of a core (R351) -/
  fetch : Bool
  /-- a granted write whose data the target has yet to perform (R369, R373) -/
  due : Bool
  /-- an access to a bank issued before its handover's drain began (R329) -/
  early : Bool
  /-- held back or over its master's limit, and MCLK cycles that it waited before (R367, R369) -/
  held : Bool
  base : Nat
deriving DecidableEq, Repr

/-- The bus matrix (chapter 10). -/
structure MtxS where
  /-- in order of issue until granted, then in order of grant -/
  txns : List Txn
  remapReq : Option Nat
  remapped : Bool
  /-- master granted last, by target -/
  rr : SMap Nat
  /-- unread entries of MATRIX.ERR_LOG, oldest first -/
  errs : List Nat
  /-- by master: object, element and bytes of a value of several slots being written, and of one being read (R386,
  R446) -/
  t5 : SMap (Nat × Nat × List Byte)
  t5r : SMap (Nat × Nat × List Byte)
deriving DecidableEq, Repr

/-- A bulk transfer in progress (R396, R397). -/
structure Bulk where
  ses : Nat
  xfer : Nat
  idx : Nat
  sub : Nat
  elem : Nat
  total : Nat
  got : List Byte
  /-- tick and OFFSET of the last segment accepted -/
  last : Nat
  lastSeg : Nat
  /-- the outcome of a transfer that is complete -/
  closed : Option Nat
deriving DecidableEq, Repr

/-- A notification record (Table 11-5). -/
structure NRec where
  ev : Nat
  count : Nat
  first : Nat
deriving DecidableEq, Repr

/-- One HDP session (R391 to R400). -/
structure Ses where
  key : List Byte
  /-- SEQ values accepted among the last 64, the least SEQ that a power-on reset left acceptable, and the ceiling held
  in flash (R394) -/
  win : List Nat
  floor : Nat
  ceil : Nat
  lastTick : Nat
  idle : Bool
  sub : Nat
  /-- where its notifications go -/
  subPort : Nat
  subEnc : Encap
  nseq : Nat
  queue : List NRec
  lost : Bool
  lastNotify : Nat
  notified : Bool
  /-- requests that wait for the flash write of the ceiling -/
  waiting : List (Nat × Encap × List Byte)
deriving DecidableEq, Repr

/-- The HDP engine and the maintenance tokens (chapter 11). -/
structure HdpS where
  ses : SMap Ses
  bulk : List Bulk
  /-- by domain: taken by a write; how many activities hold it -/
  tokWrite : SMap Nat
  tokAct : SMap Nat
  linkUp : List Nat
deriving DecidableEq, Repr

/-- Firmware slots, their update, and attestation (R460 to R473). -/
structure FwS where
  /-- slots whose image was staged here; the other images are those the device shipped with (log entry 18) -/
  own : List Nat
  /-- segments and bytes of the staging in progress -/
  next : Nat
  got : Nat
  /-- bytes of the image, by its header -/
  len : Nat
  /-- tick at which the trial started -/
  trialTick : Nat
  /-- the restart in progress ends a trial without success -/
  fallback : Bool
  /-- SHA-256 of the fabric section loaded at the last ATTEST since power-on reset (M2) -/
  fabric : List Byte
  /-- nonces that wait for their report, and ticks of the reports signed -/
  nonces : List (List Byte)
  signed : List Nat
  /-- boot descriptor records written, and the tick after that of the last since power-on reset, 0 none -/
  records : Nat
  written : Nat
  /-- HSS leaf-state mirror: next leaf and burned count (R468) -/
  mirror : Nat × Nat
deriving DecidableEq, Repr

/-- A targeted test (R417 to R425). -/
structure TestT where
  res : Nat
  kind : Nat
  rank : Nat
  fsn : Nat
  host : Bool
  phase : Nat
  fails : List Nat
  /-- tick at which the path or test in progress began, and whether its path has met an error (R419) -/
  since : Nat
  bad : Bool
deriving DecidableEq, Repr

/-- The Assayer (chapter 12). -/
structure AsyS where
  queues : SMap (List TestT)
  running : SMap TestT
  history : List (Nat × List Nat)
  /-- unread outcome records (Table 12-7), oldest first -/
  log : List Nat
  /-- DDR4 beats whose channel has been retrained for them (Table 12-4) -/
  retrained : List Nat
  /-- Lodes, and banks plus 256, under a host return test (Table 12-1) -/
  returning : List Nat
deriving DecidableEq, Repr

/-- A tagged word in flight (R439, R440): its number, source and egress grain, Lode, TAG code, the round, frame and tick
of its ITS write, and the ticks from there to the Lode crossing and to the ETS read; none where no branch carries it. -/
structure TagW where
  tag : Nat
  src : Nat
  dst : Nat
  lode : Option Nat
  code : Nat
  round : Nat
  fsn : Nat
  tick : Nat
  sps : Option Nat
  ets : Option Nat
deriving DecidableEq, Repr

/-- Tally (chapter 13). -/
structure TalS where
  /-- counting since the first frame start after power-up (R433) -/
  on : Bool
  count : SMap Nat
  lfsr : Nat
  reload : Bool
  nextTag : Nat
  flights : List TagW
  /-- a trace run is on, and overwrites its oldest record -/
  run : Bool
  wrap : Bool
  /-- the run ends at the next round start (Table 15-3) -/
  ending : Bool
  /-- where the run's records stand: destination, banks, DDR4 offset, records it holds -/
  dest : Nat
  banks : List Nat
  base : Nat
  cap : Nat
  samples : List Nat
  /-- trace records that wait to be written, at most 64 (R441) -/
  waiting : List (List Byte)
deriving DecidableEq, Repr

/-- The state of the block. -/
structure State where
  /-- commands that wait, first in, first out -/
  pending : List Instr
  /-- dictionary values by regKey: in effect, or pending for RWE objects and for the two of R519 -/
  regs : SMap Nat
  /-- the values in effect of RWE objects and of the two of R519 -/
  live : SMap Nat
  clk : Clk
  sys : SysS
  out : Out
  /-- ticks of the last raising of rate-limited events, by event × 2^20 + source -/
  rate : SMap Nat
  link : SMap LinkP
  linkq : SMap LinkQ
  rx : SMap RxG
  tx : SMap TxG
  fab : FabS
  map : MapS
  grp : GrpS
  prot : ProtS
  wit : SMap WStr
  led : LedS
  ref : RefS
  tim : TimS
  mem : MemS
  mtx : MtxS
  hdp : HdpS
  fw : FwS
  asy : AsyS
  tal : TalS
  /-- the Crier latch words (R408) -/
  crier : SMap Nat
  crierSlip : List Nat
  /-- the model's own counter of free values taken (log entry 6) -/
  freeCtr : Nat
deriving DecidableEq, Repr

/-- Why the machine stops. -/
inductive Fault where
  /-- raised by every command that names a port, grain, context, stream, input, bank, engine, session or master which
  the spec says does not exist (Table 0-5). Safe: no such command can reach the hardware. -/
  | noSuch
deriving DecidableEq, Repr

/-- Why a command has no meaning in the model. -/
inductive Refusal where
  /-- raised by an arm of exec that has no meaning yet. Safe. -/
  | notModelled (mnemonic : String)
deriving DecidableEq, Repr

/-! ## What an unlisted element of each sparse array holds -/

def Run.init : Run := ⟨0, 0, false⟩

def LinkP.init : LinkP :=
  { stopPending := false, stopAtFrameEnd := false, txOn := false, cands := [], ql := .init, pref := .init, prefOld := 0,
    ls0 := .init, ls1 := .init, ls2 := .init, supp := .init, seekRun := 0, peerSeen := false, target := 0, count := 0,
    relock := 0, outFrames := 0, degSum := 0, degFrames := 0, deg := false, lastRx := false, lastCorr := 0,
    lastUnc := 0, lastFawd := 0, rxCount := 0, rxTarget := 0, rxSwitched := false, msgAsm := [], msgSeq := none,
    msgTxSeq := 0, lastStamp := 0, pos := 0, txReset := false, rxReset := false, carries := false,
    chanEnd := false }

def LinkQ.init : LinkQ :=
  { adapt1 := false, adapt2 := false, eq := 0x0002F6FE0000FCFE, ver := 1, ovh := [], pay := [], wtx := [],
    wframe := [], lane := [], laneBefore := 0, pre := 0, opts := [], exclBits := 0, exclFsn := 0, obs := 0,
    obsBad := false, obsSum := 0, tok := false }

def RxG.init : RxG :=
  { inv := 0, ais := 0, uneq := 0, neu := 0, candV := 0, cand := 0, since := 0, ci := 0, other := 0, part := [],
    pos := 0, crc := 0, tsn := 0, tpob := 0, broken := false, intr := false, prev := none, lastCrc := 0,
    lastBroken := false, lastHeld := false, writing := false, slots := [], inflow := [], store := [],
    reading := false, frames := 0, plan := 0, sinceDep := 0, outT := 0, outPos := 0,
    outA := 0 }

def Tap.init : Tap :=
  { pos := 0, crc := 0, tsn := 0, pt := 0, dst := [], lastTsn := 0, seen := false, wholeFsn := 0, everWhole := false,
    stray := false }

def TxG.init : TxG :=
  { queue := [], sinceA := 0, placed := false, pend := 0, since := 0, displaced := false, mayNew := false,
    aisMark := false, ptr := 0,
    just := 0, onesIn := none, newDue := false, lift := false, cont := 0, bnd := 0, out := [], njo := [], hist := [] }

def StageM.init : StageM := { its := [], sel := [], ets := [], src := [] }

def FabS.init : FabS :=
  { its := [], ets := [], cur := .init, shadow := .init, newIts := false, newEts := false, resized := [], ovf := [],
    seen := [], entries := [], wrong := [] }

def MapS.init : MapS :=
  { liveBr := [], shadowBr := [], shadowOut := [], f := 0, full := false, loaded := false, origin := 0, drain := false,
    cycles := 0, busy := 0, repairs := 0, deferred := 0, resolve := false, lodeDue := false, mode := 0, time := 0,
    holder := 0xFF }

def LineS.init : LineS :=
  { ctx := 0, copy := 0, buf := [], curT := 0, curPos := 0, live := false, lastT := none, prevIn := none,
    late := 0, lag := 0, d := 0, releasing := false, res := [], tpoa := false, traffic := false, closing := false,
    lost := false }

def CtxS.init : CtxS :=
  { kind := 0, h := 0, step := 0, slew := false, bar := 0, cond := 0, noAligned := 0, hadAligned := false,
    started := false,
    chosen := none, chosenPrev := none, prefLast := 0 }

def GrpS.init : GrpS := { lines := [], ctxs := [], freeing := [], resv := [], moved := [], margins := [], cut := [] }

def FRun.init : FRun := ⟨0, 0⟩

def ProtS.init : ProtS :=
  { taps := [], etaps := [], recs := [], runs := [], verdicts := [], applied := [], clean := [], watch := 0,
    selfFail := false, anyDone := none, epochs := [], digestDue := false, digestEpoch := 0, recheck := false,
    rows := [], maps := [], notices := [], untold := false, warmTick := 0 }

def WStr.init : WStr :=
  { lock := false, good := 0, cand := 0, held := false, last := none, frames := 0, rseqTx := 0, sentT := [],
    delays := [],
    plane := 0, position := 0, mode := 0, state := 0, epoch := 0, pref := 0, from_ := 0, start := none }

def LedS.init : LedS :=
  { cutting := false, image := [], cutFsn := 0, sealedImg := [], exportTick := 0, journalOut := [], jbytes := 0,
    sentSeq := 0, journalIn := [], lastIn := 0, slot0 := [], slot1 := [], rxNext := 0, rxSlot := 0, lastCut := 0,
    cutNext := false, cutJournal := false, rxLen := 0, xq := [], xfly := [], xseq := 0, xfer := 0 }

def InS.init : InS :=
  { raw := 0, have_ := false, at_ := 0, y := 0, meas := false, t0 := 0, bad := 0, dfb := 0, ever := false,
    soft := false,
    dF := 0, mAt := 0, refT := 0, refF := 0, refOk := false, tod := none, twoTods := false }

def RefS.init : RefS :=
  { ins := [], integ := 0, dco := 0, upd := 0, win := 0, clamp := 0, sw := 0, fromFree := false, keep := false,
    freeDue := false, tieDue := false, pull := false, left := 0, frac := 0, integ0 := 0, dco0 := 0,
    stepTok := false, align := false,
    alignTok := false, alignTick := 0, todNext := none }

def TimS.init : TimS :=
  { lt := 0, ltTick := 0, inc := 3 * 2 ^ 32 + 0x370B96A6, segs := [], integ := 0, lastUse := 0, started := false,
    run := false,
    clamped := false, launches := [], done := [], queue := [], taken := [], held := [],
    busy := [], tcRun := false }

def MemS.init : MemS :=
  { bank := [], fence := [], scrub := [], due := [], back := [], ecc := [], ddr := [], sram := [], flash := [],
    patrol := 0, filled := 0, filling := false, ueAt := [], tries := [], retrainBy := [], sramAt := 0, bankAt := 0,
    excluded := [], work := [], fwTurn := false, patrolNext := 0, sramNext := 0, bankNext := [],
    ddrBad := [], sramBad := [], flashCmd := [], opened := [], settled := [], former := [] }

def MtxS.init : MtxS :=
  { txns := [], remapReq := none, remapped := false, rr := [], errs := [], t5 := [], t5r := [] }

def Ses.init : Ses :=
  { key := [], win := [], floor := 1, ceil := 0, lastTick := 0, idle := true, sub := 0, subPort := 0,
    subEnc := .raw 0 0 0, nseq := 0,
    queue := [], lost := false, lastNotify := 0, notified := false, waiting := [] }

def HdpS.init : HdpS := { ses := [], bulk := [], tokWrite := [], tokAct := [], linkUp := [] }

def FwS.init : FwS :=
  { own := [], next := 0, got := 0, trialTick := 0, fallback := false, fabric := [], nonces := [], signed := [],
    records := 0, written := 0, len := 0, mirror := (0, 0) }

def AsyS.init : AsyS :=
  { queues := [], running := [], history := [], log := [], retrained := [], returning := [] }

def TestT.init : TestT := ⟨0, 0, 0, 0, false, 0, [], 0, false⟩

def TalS.init : TalS :=
  { on := false, count := [], lfsr := 1, reload := false, nextTag := 0, flights := [], run := false, wrap := false,
    ending := false, dest := 0, banks := [], base := 0, cap := 0, samples := [], waiting := [] }

def Cell.idle : Cell := ⟨.idle, 0, false⟩

/-- Modes and power at power-on reset: DORMANT, reset held, every supply but the Keeper's off (Table 14-3). -/
def SysS.init : SysS :=
  { mode := .dormant, booting := true, recovery := false, porst := false, byPin := true, fabEn := false, fabPg := false,
    fabOn := false, ddrNone := false, wakeTick := 0, banksClear := false, isolateReq := false,
    dormantReq := false, serviceReq := false, restoreCommit := false, restoreWait := false, restoreAgain := false,
    restoreTok := 0, ddrHeld := false,
    promoting := 0, stageFsn := 0, sdUp := [], sdDrop := [], sdTok := false, restarting := false }

def Out.init : Out := ⟨0, [], []⟩

/-- The block right after a power-on reset (R456): every object at its default, no command waiting. -/
def State.reset : State :=
  { pending := [], regs := [], live := [], clk := ⟨0, 0, 0⟩, sys := .init, out := .init, rate := [],
    link := [], linkq := [], rx := [], tx := [], fab := .init, map := .init, grp := .init, prot := .init, wit := [],
    led := .init, ref := .init, tim := .init, mem := .init, mtx := .init, hdp := .init, fw := .init, asy := .init,
    tal := .init,
    crier := [], crierSlip := [], freeCtr := 0 }

end Sys2Proof.Machine
end

