-- ==== Sys2Proof/Machine/Ops.lean ====
section
/-! DEFINITION. The operations every family shares: registers, time, events, maintenance tokens, the gate of a host
access, the journal, and how a command answers. -/

namespace Sys2Proof.Machine

/-! ## Registers -/

/-- Element `e` of object `i`: the value in effect, or the pending value of an RWE object and of R519's two. -/
def State.reg (s : State) (i : Nat) (e : Nat := 0) : Nat := SMap.get (unlisted (regKey i e)) s.regs (regKey i e)

/-- Element `e` of object `i` takes `v`. -/
def State.setReg (s : State) (i e v : Nat) : State :=
  { s with regs := SMap.set (unlisted (regKey i e)) s.regs (regKey i e) v }

/-- The value in effect of an RWE object, or of GRAIN.SIZE or PORT.ROLE (R383, R519). -/
def State.lreg (s : State) (i : Nat) (e : Nat := 0) : Nat := SMap.get (unlisted (regKey i e)) s.live (regKey i e)

/-- The value in effect of such an object becomes `v`. -/
def State.setLive (s : State) (i e v : Nat) : State :=
  { s with live := SMap.set (unlisted (regKey i e)) s.live (regKey i e) v }

/-- A counter of `w` bits goes up by `n`, wrapping. -/
def State.bump (s : State) (i e w : Nat) (n : Nat := 1) : State := s.setReg i e ((s.reg i e + n) % 2 ^ w)

/-- Item `k` of an OCTET[n] set (R518). -/
def State.octReg (s : State) (i e n k : Nat) : Bool := octBit n (s.reg i e) k

/-- Item `k` of an OCTET[n] set becomes `b`. -/
def State.setOct (s : State) (i e n k : Nat) (b : Bool) : State := s.setReg i e (octPut n (s.reg i e) k b)

/-- The listed elements of object `i`, with their values. -/
def State.entries (s : State) (i : Nat) : List (Nat × Nat) :=
  (s.regs.filter fun kv => kv.1 / 2 ^ 24 == i).map fun kv => (kv.1 % 2 ^ 24, kv.2)

/-- The listed elements of the values in effect of object `i`. -/
def State.lentries (s : State) (i : Nat) : List (Nat × Nat) :=
  (s.live.filter fun kv => kv.1 / 2 ^ 24 == i).map fun kv => (kv.1 % 2 ^ 24, kv.2)

/-! ## Per-item state -/

def State.linkP (s : State) (p : Nat) : LinkP := SMap.get .init s.link p
def State.setLink (s : State) (p : Nat) (l : LinkP) : State := { s with link := SMap.set .init s.link p l }
def State.linkQ (s : State) (p : Nat) : LinkQ := SMap.get .init s.linkq p
def State.setLinkQ (s : State) (p : Nat) (l : LinkQ) : State := { s with linkq := SMap.set .init s.linkq p l }
def State.rxG (s : State) (a : Nat) : RxG := SMap.get .init s.rx a
def State.setRx (s : State) (a : Nat) (g : RxG) : State := { s with rx := SMap.set .init s.rx a g }
def State.txG (s : State) (a : Nat) : TxG := SMap.get .init s.tx a
def State.setTx (s : State) (a : Nat) (g : TxG) : State := { s with tx := SMap.set .init s.tx a g }
def State.line (s : State) (a : Nat) : LineS := SMap.get .init s.grp.lines a
def State.setLine (s : State) (a : Nat) (l : LineS) : State :=
  { s with grp := { s.grp with lines := SMap.set .init s.grp.lines a l } }
def State.ctx (s : State) (c : Nat) : CtxS := SMap.get .init s.grp.ctxs c
def State.setCtx (s : State) (c : Nat) (x : CtxS) : State :=
  { s with grp := { s.grp with ctxs := SMap.set .init s.grp.ctxs c x } }
def State.stream (s : State) (k : Nat) : WStr := SMap.get .init s.wit k
def State.setStream (s : State) (k : Nat) (x : WStr) : State := { s with wit := SMap.set .init s.wit k x }
def State.input (s : State) (i : Nat) : InS := SMap.get .init s.ref.ins i
def State.setInput (s : State) (i : Nat) (x : InS) : State :=
  { s with ref := { s.ref with ins := SMap.set .init s.ref.ins i x } }
def State.session (s : State) (k : Nat) : Ses := SMap.get .init s.hdp.ses k
def State.setSession (s : State) (k : Nat) (x : Ses) : State :=
  { s with hdp := { s.hdp with ses := SMap.set .init s.hdp.ses k x } }

/-! ## Time -/

/-- TCLK ticks since power-on reset (38,880 to a frame, 96 to a round; Table 1-4). -/
def State.tick (s : State) : Nat := s.clk.base + 96 * s.clk.round

/-- Ticks of a number of milliseconds, and of seconds (311,040 to a millisecond). -/
def msTicks (n : Nat) : Nat := 311040 * n
def secTicks (n : Nat) : Nat := 311040000 * n

/-- At least `n` ticks have passed since tick `t`. -/
def State.elapsed (s : State) (t n : Nat) : Bool := decide (t + n ≤ s.tick)

/-- Local time now, in 2^-32 ns. -/
def State.lt (s : State) : Nat := s.tim.lt + (s.tick - s.tim.ltTick) * s.tim.inc

/-- Local time now, in 2^-16 ns. -/
def State.now (s : State) : Nat := s.lt / 2 ^ 16

/-- Local time now, as type TIME. -/
def State.nowTime (s : State) : Nat := timeOf s.now

/-- A frame of 125 µs, and one second, in 2^-16 ns. -/
def frameU : Nat := 125000 * 65536
def secU : Nat := 1000000000 * 65536

/-- The time of ROOT cycle `c` on the count of ROOT cycles at the nominal period: 1,244,160 to a frame. -/
def rootTime (c : Nat) : Nat := c * frameU / 1244160

/-- The count of ROOT cycles now: 32 to a TCLK tick (Table 1-4). -/
def State.rootNow (s : State) : Nat := rootTime (32 * s.tick)

/-- Local time at an instant of the count of ROOT cycles, by the local time and the increment that stood then (R302). -/
def State.localAt (s : State) (u : Int) : Int :=
  let now := (s.tim.ltTick, s.tim.lt, s.tim.inc)
  let all := now :: s.tim.segs
  let g := (all.find? fun g => decide ((rootTime (32 * g.1) : Int) ≤ u)).getD (all.getLastD now)
  ((g.2.1 : Int) + (u - rootTime (32 * g.1)) * g.2.2 * 38880 / frameU) / 65536

/-- From tick `t` on local time runs from `lt` with increment `inc`. -/
def State.setTime (s : State) (t lt inc : Nat) : State :=
  { s with tim := { s.tim with lt := lt, ltTick := t, inc := inc
                               segs := ((s.tim.ltTick, s.tim.lt, s.tim.inc) :: s.tim.segs).take 16 } }

/-- Local time steps from `old` to `new`, in 2^-32 ns: a launch that it steps past is missed, one that it steps back
before waits again (R317). -/
def State.stepPast (s : State) (old new : Nat) : State :=
  let f (l : LaunchR) : LaunchR :=
    if new / 65536 < l.at_ then { l with missed := false }
    else if old / 65536 < l.at_ then { l with missed := true } else l
  { s with tim := { s.tim with launches := s.tim.launches.map f } }

/-- Local time becomes `lt` now, by a step. -/
def State.jumpTime (s : State) (lt : Nat) : State := (s.stepPast s.lt lt).setTime s.tick lt s.tim.inc

/-- A mode in which the fabric's commits run (R449). -/
def Mode.commits (m : Mode) : Bool :=
  m == .stage || m == .restore || m == .service || m == .isolate

/-- Every egress generator behaves as forced to AIS (R449). -/
def Mode.forcesAis (m : Mode) : Bool := m == .stage || m == .restore || m == .isolate || m == .quarantine

/-! ## Free values (log entry 6) -/

/-- The banks of owner `o` take words of a layout that the spec does not give, as a solve or a cut begins. -/
def State.openBanks (s : State) (o : Nat) : State :=
  let bs := (List.range 256).filter fun b => s.reg O.memBankOwner b % 16 == o
  { s with mem := { s.mem with opened := s.mem.opened.filter (fun b => !bs.contains b) ++ bs
                               settled := s.mem.settled.filter fun x => !bs.contains (x.1 / 65552) } }

/-- The next free value of a kind. -/
def State.freeVal (s : State) (kind : Nat) : Nat := Config.free kind s.freeCtr

/-- One free value has been taken. -/
def State.freeTaken (s : State) : State := { s with freeCtr := s.freeCtr + 1 }

/-! ## Events (R42, R429 to R432, R399, R400) -/

/-- Latch, count and time of an event; the latches of the fabric island do nothing while it is off. -/
def State.latch (s : State) (ev : Nat) : State :=
  if ev < 480 && !s.sys.fabOn then s
  else
    let s := s.setOct O.eventLatch 0 64 ev true
    let s := s.bump O.eventCount ev 32
    s.setReg O.eventLastTime ev s.nowTime

/-- One more occurrence stands in a session's notification queue of at most 256 records. -/
def Ses.notice (x : Ses) (ev now : Nat) : Ses :=
  if x.queue.any (fun r => r.ev == ev) then
    { x with queue := x.queue.map fun r => if r.ev = ev then { r with count := min 0xFFFF (r.count + 1) } else r }
  else if x.queue.length < 256 then { x with queue := x.queue ++ [⟨ev, 1, now⟩] }
  else { x with lost := true }

/-- The subscribed sessions take note of an event; the number of their queues that overflow by it (R400). -/
def State.notifyOne (s : State) (ev : Nat) : State × Nat :=
  foldRange 8 (fun (r : State × Nat) k =>
    let s := r.1
    let x := s.session k
    if octBit 64 x.sub ev then
      let y := x.notice ev s.nowTime
      let s := s.setSession k y
      if y.lost && !x.lost then ((s.latch 509).bump O.hdpStats 7 48, r.2 + 1) else (s, r.2)
    else (s, r.2)) (s, 0)

/-- The subscribed sessions take note of an event (R399, R400), and of the event 509 that each overflow raises. -/
def State.notifyAll (s : State) (ev : Nat) : State :=
  (foldRange 8 (fun (r : State × Nat) _ =>
    foldRange r.2 (fun (q : State × Nat) _ =>
      let x := q.1.notifyOne 509
      (x.1, q.2 + x.2)) (r.1, 0)) (s.notifyOne ev)).1

/-- Event `ev` is raised; one that the fabric island latches is not raised while the island is off (R42, R377). -/
def State.raise (s : State) (ev : Nat) : State :=
  if ev < 480 && !s.sys.fabOn then s else (s.latch ev).notifyAll ev

/-- Event `ev` of source `k` is raised unless it was within the last `n` ticks. -/
def State.raiseLim (s : State) (ev k n : Nat) : State :=
  let key := ev * 2 ^ 20 + k
  let last := SMap.get 0 s.rate key
  if last ≠ 0 && !s.elapsed (last - 1) n then s
  else { s.raise ev with rate := SMap.set 0 s.rate key (s.tick + 1) }

/-- The command sends one thing. -/
def State.send (s : State) (m : Sent) : State := { s with out := { s.out with sent := s.out.sent ++ [m] } }

/-! ## Counting (R433, R443, R444) -/

/-- A counter that R437 keeps exact: rounds and the slot classes. -/
def classCounter (i : Nat) : Bool := i ≤ 4 || (10 ≤ i && i ≤ 49) || (96 ≤ i && (i - 96) % 7 ≤ 3)

/-- Counter 0 in the `c`th cycle after the start of the round that runs: it rises in cycle 383 of each (R437). -/
def State.roundsAt (s : State) (c : Nat) : Nat :=
  (SMap.get 0 s.tal.count 0 + if s.tal.on then (c + 1) / 384 else 0) % 2 ^ 48

/-- The stamp of that cycle (R435). -/
def State.talStamp (s : State) (c : Nat) : Nat := s.roundsAt c % 2 ^ 39 * 512 + c % 384

/-- The stamp of an overflow: in which cycle of its round the occurrence falls is a free value (log entry 13), but the
class counters rise in cycle 383, here with counter 0 already risen. -/
def State.ovfStamp (s : State) (i : Nat) : Nat :=
  if classCounter i then SMap.get 0 s.tal.count 0 % 2 ^ 39 * 512 + 383
  else s.talStamp (Config.free 26 (SMap.get 0 s.tal.count 0 * 2 ^ 32 + s.reg O.tallyOvfCount) % 384)

/-- Counter `i` after `n` more occurrences, and how often it overflows (R443). Those of a class counter come in one
cycle, any others one by one. -/
def State.counted (s : State) (i n : Nat) : State × Nat :=
  let v := SMap.get 0 s.tal.count i + n
  let r := s.reg O.tallyReload i
  let more := v - 2 ^ 48
  let x := if v < 2 ^ 48 then (v, 0)
    else if classCounter i then ((r + more) % 2 ^ 48, 1)
    else (r + more % (2 ^ 48 - r), 1 + more / (2 ^ 48 - r))
  ({ s with tal := { s.tal with count := SMap.set 0 s.tal.count i x.1 } }, x.2)

/-- An overflow of counter `i` is sampled (R444, Table 13-6): the values are those of the next cycle, counter 9 risen.
How often counter 9 overflows by it. -/
def State.talRecord (s : State) (i : Nat) : State × Nat :=
  let stamp := s.ovfStamp i
  let q := ((s.bump O.tallyOvfCount 0 32).send (.interrupt 1)).counted 9 1
  let s := q.1
  let vals := (List.range 4).map fun j =>
    let c := s.reg O.tallySampleSet j
    if c < 768 then SMap.get 0 s.tal.count c else 0
  let l := s.tal.samples ++ [vals.foldl (fun a v => a * 2 ^ 48 + v) (i * 2 ^ 48 + stamp)]
  ({ s with tal := { s.tal with samples := if 64 < l.length then l.drop 1 else l } }, q.2)

/-- An overflow of counter `i` is sampled, and the overflow of counter 9 that this may bring (log entry 13). -/
def State.talSample (s : State) (i : Nat) : State :=
  let q := s.talRecord i
  if q.2 ≠ 0 && s.octReg O.tallyOvfEn 0 96 9 then (q.1.talRecord 9).1 else q.1

/-- Counter `i` rises by `n`. -/
def State.tally (s : State) (i n : Nat) : State :=
  if !s.tal.on || n = 0 then s
  else
    let q := s.counted i n
    if s.octReg O.tallyOvfEn 0 96 i then foldRange q.2 (fun s _ => s.talSample i) q.1 else q.1

/-! ## Maintenance tokens (R403 to R405, Table 11-8) -/

/-- The holder code a writer takes a token under: its session, or the JX96 (log entry 9). -/
def holderOf : Who → Nat
  | .ses k => k
  | .master _ => 0xFE
  | .keeper => 0xFE

/-- The token of domain `d` can be taken by holder `h`. -/
def State.tokFree (s : State) (d h : Nat) : Bool :=
  let cur := s.reg O.maintTokenHolder d
  cur == 0xFF || (cur == h && h != 0xFE)

/-- Holder `h` takes token `d`; nothing is raised when it holds it already. -/
def State.tokTake (s : State) (d h : Nat) : State :=
  if s.reg O.maintTokenHolder d = h then s
  else ((s.setReg O.maintTokenHolder d h).setReg O.maintTokenSince d s.clk.fsn).raise 506

/-- Token `d` becomes free. -/
def State.tokDrop (s : State) (d : Nat) : State :=
  if s.reg O.maintTokenHolder d = 0xFF then s
  else (s.setReg O.maintTokenHolder d 0xFF).raise 506

/-- An activity of domain `d` starts for holder `h`. -/
def State.actStart (s : State) (d h : Nat) : State :=
  let s := s.tokTake d h
  { s with hdp := { s.hdp with tokAct := SMap.set 0 s.hdp.tokAct d (SMap.get 0 s.hdp.tokAct d + 1) } }

/-- The activity of domain `d` ends; a token taken by a write stays held (R404). -/
def State.actEnd (s : State) (d : Nat) : State :=
  let n := SMap.get 0 s.hdp.tokAct d - 1
  let s := { s with hdp := { s.hdp with tokAct := SMap.set 0 s.hdp.tokAct d n } }
  if n = 0 && SMap.get 0 s.hdp.tokWrite d = 0 then s.tokDrop d else s

/-- An activity of domain `d` is in progress. -/
def State.acting (s : State) (d : Nat) : Bool := SMap.get 0 s.hdp.tokAct d != 0

/-! ## Answers -/

/-- Transmission time of `n` bytes with preamble and delimiter on a time port, in 2^-16 ns. -/
def wireTime (mode n : Nat) : Nat := if mode = 1 then (n + 8) * 8 * 65536 / 10 else (n + 8) * 8 * 65536

/-- End of the last transmission of time port `k`, on the count of ROOT cycles. -/
def State.wireBusy (s : State) (k : Nat) : Nat := SMap.get 0 s.tim.busy k

/-- Time port `k` transmits until `t`. -/
def State.setBusy (s : State) (k t : Nat) : State :=
  { s with tim := { s.tim with busy := SMap.set 0 s.tim.busy k t } }

/-- A frame whose transmission on time port `k` ends at local time `last` would still be under way at a launch (R314).
-/
def State.portHeld (s : State) (k : Nat) (last : Int) : Bool :=
  s.tim.launches.any fun l => l.iface == 96 + k && decide ((l.at_ : Int) < last)

/-- An HDP or Keeper frame of `n` bytes leaves on time port `k` when the link is free, or is kept back for a launch,
behind those kept back before it (R314). -/
def State.sendPort (s : State) (k n : Nat) (m : Sent) : State :=
  let fin := Nat.max s.rootNow (s.wireBusy k) + wireTime (s.reg O.hdpPortMode k) n
  if s.portHeld k ((s.now + (fin - s.rootNow) : Nat) : Int) || s.tim.held.any (fun x => x.1 == k) then
    { s with tim := { s.tim with held := s.tim.held ++ [(k, n, m)] } }
  else (s.send m).setBusy k fin

/-- The link of time port `k` is up. -/
def State.portUp (s : State) (k : Nat) : Bool := s.hdp.linkUp.contains k

/-- Bytes, FCS and padding included, of an Ethernet frame with `n` bytes of payload (R388). -/
def etherBytes (n : Nat) : Nat := Nat.max 64 (18 + n)

/-- Bytes of the frame that carries an HDP message of `n` bytes: raw, or a UDP datagram over IPv6 (R388). -/
def hdpBytes (enc : Encap) (n : Nat) : Nat :=
  match enc with
  | .raw _ _ _ => etherBytes n
  | .udp _ _ _ _ _ _ => etherBytes (48 + n)

/-- The command answers status `c`. -/
def State.answer (s : State) (c : Nat) : State := { s with out := { s.out with status := c } }

/-- The command's read returns these bytes. -/
def State.give (s : State) (v : List Byte) : State := { s with out := { s.out with value := v } }

/-- A command starts with an empty answer. -/
def State.fresh (s : State) : State := { s with out := .init }

/-- The same state, with `q` as the commands that wait. -/
def State.withQueue (s : State) (q : List Instr) : State := { s with pending := q }

/-- A command ends: the queue is what it was. -/
def State.done (s t : State) : Host.Outcome State Fault Refusal := .next (t.withQueue s.pending)

/-- The meaning of a command that runs `f` on the state with an empty answer. -/
def State.run (s : State) (f : State → State) : Host.Outcome State Fault Refusal := s.done (f s.fresh)

/-- The meaning of a command that names an item of a numbered set of `n` items (Table 0-5). -/
def State.runIn (s : State) (k n : Nat) (f : State → State) : Host.Outcome State Fault Refusal :=
  if k < n then s.run f else .fault .noSuch

/-! ## The journal (R252, Table 6-11) -/

/-- Objects that a generation carries (R246). -/
def carried (o : Obj) : Bool := (o.acc == .rwp || o.acc == .rwe) && !inFlash o.idx

/-- One item of Table 6-11; a map element without source has length 0. -/
def item (idx e v : Nat) : List Byte :=
  let w := match objAt idx with
    | some o => o.ty.width
    | none => 6
  let w := if idx = O.mapDraftSrc ∧ v = 0xFFFFFFFF then 0 else w
  let x := if 0x2000 ≤ idx ∧ idx < 0x2010 then (idx + 16 * e, 0) else (idx, e)
  toBytes 2 x.1 ++ toBytes 3 x.2 ++ toBytes 1 w ++ toBytes w v

/-- An entry of the journal: kind 1 object write, 2 commit boundary. -/
def State.journal (s : State) (kind fsn : Nat) (items : List Byte) : State :=
  let seq := s.reg O.ledgerJournalSeq + 1
  let body := toBytes 6 seq ++ toBytes 6 fsn ++ toBytes 1 kind ++ toBytes 1 0 ++ toBytes 2 items.length ++ items
  let s := s.setReg O.ledgerJournalSeq 0 (seq % M48)
  if s.reg O.ledgerExportEn = 0 then s
  else
  let led := { s.led with journalOut := s.led.journalOut ++ [(seq, fsn, body)], jbytes := s.led.jbytes + body.length }
  let s := { s with led := led }
  if led.jbytes > 786432 && !led.cutJournal then { s.raise 490 with led := { led with cutJournal := true } } else s

/-! ## The gate of a host access (R391, R402, Table 11-6) -/

/-- The rights a writer has (R391); the matrix masters and the firmware are not sessions. -/
def State.rights (s : State) : Who → Nat
  | .ses k => s.reg O.secRights k
  | .master _ => 0x0F
  | .keeper => 0x0F

/-- The right a write to an object needs: 3 for keys, rights, fuses and firmware; 2 for commits and tokens; else 1
(R391, R392, R462; log entry 10). -/
def rightOf (idx : Nat) : Nat :=
  if idx = O.secKey || idx = O.secRights || (0x1200 ≤ idx && idx < 0x1210) || idx = O.secRevokeKey0
      || idx = O.secSvnCommit then 3
  else if idx = O.mapCommitReq || idx = O.maintTokenTake || idx = O.maintTokenRelease then 2
  else 1

/-- In RECOVERY the boot ROM serves only the identity and firmware update objects (R457). -/
def State.romOnly (s : State) (idx : Nat) : Bool :=
  s.sys.recovery && !((0x1000 ≤ idx && idx < 0x1100) || (0x1200 ≤ idx && idx < 0x1210))

/-- The object stands in the fabric island, which is off. In RECOVERY the refusal is the boot ROM's (R457), and of a
test request it is that of R427 (log entry 72). -/
def State.islandDead (s : State) (idx : Nat) : Bool :=
  inFabric idx && !s.sys.fabOn && !s.romOnly idx && idx != O.assayTestReq

/-- A value fits the type: BOOL 0 or 1, nanoseconds below 10^9 (Table 11-1). -/
def Ty.fits (t : Ty) (v : Nat) : Bool :=
  match t with
  | .bool => decide (v ≤ 1)
  | .time => decide (bits v 47 16 < 1000000000)
  | _ => true

/-- The general checks of a write, in the order of Table 11-6: 0 when all pass. -/
def State.gate (s : State) (w : Who) (idx e : Nat) : Nat :=
  if !bit (s.rights w) (rightOf idx) then 0x0204
  else match objAt idx with
    | none => 0x0101
    | some o =>
      if o.cnt ≤ e then (if o.adr = .element then 0x0103 else 0x0102)
      else if o.acc = .ro || o.acc = .const then 0x0203
      else if s.islandDead idx then 0x0506
      else 0

/-- The general checks of a read, in the order of Table 11-6: 0 when all pass. -/
def State.readGate (s : State) (w : Who) (idx e : Nat) : Nat :=
  if !bit (s.rights w) 0 then 0x0204
  else match objAt idx with
    | none => 0x0101
    | some o =>
      if o.cnt ≤ e then (if o.adr = .element then 0x0103 else 0x0102)
      else if o.acc = .wo then 0x0203
      else if s.islandDead idx then 0x0506
      else 0

/-- The value checks of a write: width, type, range. -/
def valueCheck (idx v : Nat) : Nat :=
  match objAt idx with
  | none => 0x0101
  | some o =>
    if 2 ^ (8 * o.ty.width) ≤ v then 0x0301
    else if !o.ty.fits v then 0x0310
    else if !o.rng.has v then 0x0310
    else 0

/-- A write is refused with code `c`: nothing changes but the answer, and what a matrix master reads of it (R386). -/
def State.refuse (s : State) (w : Who) (c : Nat) : State :=
  let s := match w with
    | .master k => s.setReg O.dictLastRefusal k c
    | _ => s
  s.answer c

/-- The write of `v` to the object at `idx` takes effect at the next frame start (R509, Tables 3-10 and 15-3). -/
def nextFrame (idx v : Nat) : Bool :=
  idx == O.linkTxEq || idx == O.grainTxForceAis || (v == 0 && (idx == O.timeTcEn || idx == O.linkTimeChannelEn))

/-- The journal takes an accepted write of a carried object, under the frame in which it takes effect (R252); an RWE
value and the two of R519 are recorded as written now, and again at the boundary. -/
def State.record (s : State) (idx e v : Nat) : State :=
  match objAt idx with
  | some o =>
    if carried o then s.journal 1 ((s.clk.fsn + b2n (nextFrame idx v)) % M48) (item idx e v) else s
  | none => s

/-- A write of `v` to element `e` of the object at `idx`, whose own checks and effect are `op` (0 when accepted);
`pre` is a check that the object's chapter places before the range. -/
def State.write (s : State) (w : Who) (idx e v : Nat) (op : State → State × Nat) (pre : Nat := 0) : State :=
  let c := s.gate w idx e
  if c ≠ 0 then s.refuse w c
  else if pre ≠ 0 then s.refuse w pre
  else
    let c := valueCheck idx v
    if c ≠ 0 then s.refuse w c
    else if s.romOnly idx then s.refuse w 0x0505
    else
      let r := op s
      if r.2 ≠ 0 then r.1.refuse w r.2
      else (r.1.record idx e v).answer 0

/-- A read of element `e` of the object at `idx`: `f` gives its bytes and what the read does to the state. -/
def State.readWith (s : State) (w : Who) (idx e : Nat) (f : State → State × List Byte) : State :=
  let c := s.readGate w idx e
  if c ≠ 0 then s.answer c
  else if s.romOnly idx then s.answer 0x0505
  else
    let r := f s
    (r.1.give r.2).answer 0

/-- A read that returns and clears a bit set of `n` bytes in one operation (R137, R192). -/
def readClear (idx e n : Nat) (s : State) : State × List Byte := (s.setReg idx e 0, toBytes n (s.reg idx e))

/-- The write stores its value and does nothing more. -/
def store (idx e v : Nat) (s : State) : State × Nat := (s.setReg idx e v, 0)

/-- A commit is solving or armed (Draft locked, R160). -/
def State.locked (s : State) : Bool := s.reg O.mapState != 0

/-- A write to a WO object of OCTET type from a list of bytes: length 1 to n (R382), then the operation. -/
def State.writeBytes (s : State) (w : Who) (idx e n : Nat) (v : List Byte) (op : State → State × Nat) : State :=
  let c := s.gate w idx e
  if c ≠ 0 then s.refuse w c
  else if v.length = 0 || n < v.length then s.refuse w 0x0301
  else if s.romOnly idx then s.refuse w 0x0505
  else
    let r := op s
    if r.2 ≠ 0 then r.1.refuse w r.2 else r.1.answer 0

/-- The mode changes: event 503 and the FSN of entry (R451); PROT.STATE is STANDBY outside SERVICE (Table 6-8,
Table 14-1). -/
def State.enter (s : State) (m : Mode) : State :=
  let s := { s with sys := { s.sys with mode := m } }
  let s := (s.setReg O.sysModeFsn 0 s.clk.fsn).raise 503
  if m = .service || s.reg O.protState = 6 then s else (s.setReg O.protState 0 6).raise 480

/-! ## Errors reported to the Assayer (R417, Table 12-4) -/

/-- Engine of a resource class (Table 12-1): 0 LINE, 1 FABRIC, 2 BANK, 3 DDR, 4 KEEPER. -/
def engineOf (res : Nat) : Nat :=
  match res / 2 ^ 44 with
  | 0 => 0 | 1 => 1 | 2 => 1 | 3 => 1 | 8 => 1 | 4 => 2 | 5 => 2 | 6 => 3 | _ => 4

def resOf (cls n : Nat) : Nat := cls * 2 ^ 44 + n

def ownerSkewed (o : Nat) : Bool := 1 ≤ o && o ≤ 3

/-- The rank of a resource now (Table 12-1, R410). -/
def State.rank (s : State) (res : Nat) : Nat :=
  let n := res % 2 ^ 44
  if s.reg O.protRole = 3 then 3
  else match res / 2 ^ 44 with
  | 0 =>
    let al := s.reg O.portAlignState n
    if s.reg O.portEnable n = 0 || s.lreg O.portRole n = 2 then 3
    else if s.lreg O.portRole n = 0 && al = 3 &&
        (s.entries O.mapLiveSrc).any (fun kv => kv.1 / 1280 == n || kv.2 / 1280 == n) then 1
    else 2
  | 1 => let st := s.lreg O.fabricLodeState n
         if s.asy.returning.contains n then 3 else if st = 0 then 1 else if st = 1 then 3 else 2
  | 2 => let l := n / 256 % 256
         let st := s.lreg O.fabricLodeState l
         if s.asy.returning.contains l then 3 else if st = 0 then 1 else if st = 1 then 3 else 2
  | 3 => 1
  | 8 => 1
  | 4 => let b := n / 65536
         let o := s.reg O.memBankOwner b % 16
         if ownerSkewed o then 1 else if o = 0 || o = 8 || s.asy.returning.contains (256 + b) then 3 else 2
  | 5 => let o := s.reg O.memBankOwner n % 16
         if ownerSkewed o then 1 else if o = 0 || o = 8 || s.asy.returning.contains (256 + n) then 3 else 2
  | 6 => if s.reg O.memDdrLsState = 2 && n * 8 < s.reg O.memDdrLsSize * 2 ^ 20 then 1 else 2
  | _ => 2

def State.asyQueue (s : State) (g : Nat) : List TestT := SMap.get [] s.asy.queues g

/-- The test that an engine runs. -/
def State.asyRun (s : State) (g : Nat) : Option TestT := SMap.find? s.asy.running g

/-- One outcome record of Table 12-7, of at most 64 unread (R428). -/
def State.asyLog (s : State) (t : TestT) (outcome repair : Nat) : State :=
  let r := t.res * 2 ^ 80 + t.kind * 2 ^ 72 + outcome * 2 ^ 64 + t.fsn * 2 ^ 16 + repair * 2 ^ 8
  let l := s.asy.log ++ [r]
  { s with asy := { s.asy with log := if 64 < l.length then l.drop 1 else l } }

/-- Background tests run in this mode (Table 14-1, R426); in DORMANT the Keeper SRAM patrol alone. -/
def State.background (s : State) (g : Nat) : Bool := s.sys.mode.commits || (s.sys.mode == .dormant && g == 4)

/-- Errors are tested in this mode (R426); in DORMANT only those of Keeper SRAM. -/
def State.tests (s : State) (g : Nat) : Bool :=
  s.sys.mode == .wake || s.sys.mode.commits || (s.sys.mode == .dormant && g == 4)

/-- The lists QUEUE_LEN and ACTIVE of an engine follow its queue and its running test. -/
def State.asyShow (s : State) (g : Nat) : State :=
  let s := s.setReg O.assayQueueLen g (s.asyQueue g).length
  s.setReg O.assayActive g (match s.asyRun g with
    | some t => t.res
    | none => 2 ^ 48 - 1)

/-- A test that nothing has started yet. -/
def newTest (res kind rank fsn : Nat) (host : Bool) : TestT := ⟨res, kind, rank, fsn, host, 0, [], 0, false⟩

/-- Engine `g` starts a test from its beginning. -/
def State.testRun (s : State) (g : Nat) (t : TestT) : State :=
  let run := { t with phase := 1, fails := [], since := s.tick, bad := false }
  let s := { s with asy := { s.asy with running := SMap.insert s.asy.running g run } }
  let s := (if t.host then s.setReg O.assayTestResult 0 1 else s).tally 94 1
  let p := t.res % 2 ^ 44
  let s := if g = 0 then s.setLinkQ p { s.linkQ p with obs := 8000, obsBad := false, obsSum := 0 } else s
  s.asyShow g

/-- A test is queued behind those of its engine. One whose rank is higher than the running test's stops that test, which
returns to the head of its rank, and starts in its place (R424, R425). -/
def State.asyEnqueue (s : State) (t : TestT) : State :=
  let g := engineOf t.res
  let q := s.asyQueue g
  let wait : State := { s with asy := { s.asy with queues := SMap.set [] s.asy.queues g (q ++ [t]) } }
  if 64 ≤ q.length then ((s.bump O.assayDropped 0 32).asyLog t 4 0).raise 498
  else
    match s.asyRun g with
    | some r =>
      if t.rank < r.rank && r.rank ≠ 1 then
        let s := { s with asy := { s.asy with
          queues := SMap.set [] s.asy.queues g ({ r with phase := 0, fails := [] } :: q) } }
        let s := (if r.host then s.setReg O.assayTestResult 0 4 else s).tally 95 1
        ((s.asyLog r 3 0).raise 497).testRun g t
      else wait.asyShow g
    | none => wait.asyShow g

/-- A test of a resource is queued or running (R417, R426). -/
def State.underTest (s : State) (res : Nat) : Bool :=
  let g := engineOf res
  (s.asyQueue g).any (fun t => t.res == res) || (match s.asyRun g with
    | some t => t.res == res
    | none => false)

/-- Lodes in SERVICE. -/
def State.lodes (s : State) : List Nat := (List.range 10).filter fun l => s.lreg O.fabricLodeState l == 0

/-- The crosspoint that a localisation tests now. The paths in order: the one in question, over the two lowest other
Lodes, to the next egress port, from the next ingress port (R419). -/
def State.pathRes (s : State) (t : TestT) : Nat :=
  let n := t.res % 2 ^ 44
  let i := n / 65536
  let e := n % 256
  let l := n / 256 % 256
  let others := s.lodes.filter fun x => x != l
  let l1 := others.getD 0 l
  if t.phase = 1 then t.res
  else if t.phase = 2 then resOf 2 (i * 65536 + l1 * 256 + e)
  else if t.phase = 3 then resOf 2 (i * 65536 + others.getD 1 l * 256 + e)
  else if t.phase = 4 then resOf 2 (i * 65536 + l1 * 256 + (e + 1) % 96)
  else resOf 2 ((i + 1) % 96 * 65536 + l1 * 256 + e)

/-- A TEST mismatch or parity failure on the path under test fails the path (R419). -/
def State.pathMark (s : State) (res : Nat) : State :=
  match s.asyRun 1 with
  | none => s
  | some t =>
    if t.res / 2 ^ 44 = 2 && t.phase ≠ 0 && t.phase < 6 && s.pathRes t = res then
      { s with asy := { s.asy with running := SMap.insert s.asy.running 1 { t with bad := true } } }
    else s

/-- An error of a kind on a resource: counted; a targeted test is queued unless one is queued or running there, or the
error lies on a Lode that has been retired (R417, R426). -/
def State.assayError (s : State) (kind res : Nat) : State :=
  let s := (s.bump O.assayErrors kind 48).pathMark res
  let dead := (kind = 3 || kind = 4) && s.lreg O.fabricLodeState (res / 256 % 256) = 3
  if s.underTest res || dead || !s.tests (engineOf res) then s
  else s.asyEnqueue (newTest res kind (s.rank res) s.clk.fsn false)

/-- A test of resource `res` that the host asks for takes the TEST token and is queued; one queued or running there
covers it (R427). A test that is dropped frees the token again. -/
def State.hostTest (s : State) (h res kind rank : Nat) : State :=
  let s := (s.actStart 3 h).setReg O.assayTestResult 0 1
  let g := engineOf res
  let mark (t : TestT) : TestT := if t.res = res then { t with host := true } else t
  if s.underTest res then
    { s with asy := { s.asy with
      queues := SMap.set [] s.asy.queues g ((s.asyQueue g).map mark)
      running := match s.asyRun g with
        | some r => SMap.insert s.asy.running g (mark r)
        | none => s.asy.running } }
  else
    let full := decide (64 ≤ (s.asyQueue g).length)
    let s := s.asyEnqueue (newTest res kind rank s.clk.fsn true)
    if full then (s.setReg O.assayTestResult 0 0).actEnd 3 else s

/-! ## Requests at the matrix (R363, R367, R369) -/

/-- MCLK cycles, two to a TCLK tick, that a request has waited, time held back apart, or since its grant. -/
def State.txnWait (s : State) (x : Txn) : Nat := x.base + if x.held then 0 else max x.age (2 * (s.tick - x.tick))

/-- The data beats of a write: 24 bytes each (R356). -/
def Txn.beats (x : Txn) : Nat := (x.data.length + 23) / 24

/-- Write `x` has data beats still to deliver: a master port moves one each MCLK cycle from the grant on (log entry
59). -/
def State.delivering (s : State) (x : Txn) : Bool :=
  x.kind == 1 && (!x.granted || (x.due && decide (s.txnWait x < x.beats)))

/-- The beats of a write after the first `n` are null beats, with no byte enables (R373). -/
def Txn.cut (x : Txn) (n : Nat) : Txn :=
  { x with data := x.data.zipIdx.map fun d => (d.1.1, d.1.2 && decide (d.2 < 24 * n)) }

/-- A request is held back: its ID is in use at another target, an earlier write of its master has data to deliver, or a
REMAP change waits. `pre` are the requests listed before it. -/
def State.heldBack (s : State) (pre : List Txn) (x : Txn) : Bool :=
  let mine (y : Txn) : Bool := y.master == x.master
  pre.any (fun y => mine y && !y.granted && ((y.id == x.id && y.target != x.target) || (x.kind == 1 && y.kind == 1))) ||
  s.mtx.txns.any (fun y => mine y && y.granted &&
    ((y.id == x.id && y.target != x.target) || (x.kind == 1 && s.delivering y))) ||
  (x.zone && s.mtx.remapReq.isSome)

/-- Transactions of master `k` from grant to response (R367). -/
def State.outstanding (s : State) (k : Nat) : Nat := (s.mtx.txns.filter fun x => x.master == k && x.granted).length

/-- Request `x` does not enter arbitration: it is held back, or its master has 16 transactions outstanding. -/
def State.kept (s : State) (pre : List Txn) (x : Txn) : Bool :=
  s.heldBack pre x || decide (16 ≤ s.outstanding x.master)

/-- MCLK cycles since the last earlier write of the master of write `x` delivered its data. -/
def State.freeSince (s : State) (x : Txn) : Nat :=
  match (s.mtx.txns.filter fun y => x.kind == 1 && y.master == x.master && y.due).map fun y =>
    s.txnWait y - y.beats with
  | [] => 0
  | n :: l => l.foldl min n

/-- The requests of a list, each noted as held or as waiting. One that is held no more waits from now, or, where `late`
says that only time has passed, from when the data before it was delivered (R367, R369). -/
def State.settleTxns (s : State) (late : Bool) : List Txn → List Txn → List Txn
  | _, [] => []
  | pre, x :: l =>
    let h := s.kept pre x
    let y := if x.granted || h = x.held then x
      else if h then { x with held := true, base := s.txnWait x }
      else { x with held := false, age := if late then s.freeSince x else 0, tick := s.tick }
    y :: s.settleTxns late (pre ++ [x]) l

/-- Every request is held or waits. -/
def State.settleMtx (s : State) (late : Bool) : State :=
  { s with mtx := { s.mtx with txns := s.settleTxns late [] s.mtx.txns } }

/-- Requests waiting at the port of target `t`, in order of issue. -/
def State.waitingAt (s : State) (t : Nat) : List Txn :=
  s.mtx.txns.filter fun x => !x.granted && !x.held && x.target == t

/-! ## CRC-32 (R101) and CRC-16 (Table 2-5) -/

/-- One bit of the CRC-32 of R101. -/
def crcBit (c : Nat) (b : Bool) : Nat :=
  let c' := (c <<< 1) % 2 ^ 32
  if c.testBit 31 != b then c' ^^^ 0x04C11DB7 else c'

/-- The `n` bits of a value, most significant first, enter the CRC. -/
def crcBits : Nat → Nat → Nat → Nat
  | 0, _, c => c
  | n + 1, v, c => crcBits n v (crcBit c (v.testBit n))

def crcInit : Nat := 0xFFFFFFFF

/-- The complement that ends a CRC-32. -/
def crcOut (c : Nat) : Nat := c ^^^ 0xFFFFFFFF

def crcWords (l : List Word) (c : Nat) : Nat := l.foldl (fun c w => crcBits 48 w.toNat c) c
def crcBytes (l : List Byte) (c : Nat) : Nat := l.foldl (fun c b => crcBits 8 b.toNat c) c

/-- CRC-32 of a run of bytes, with the settings of R101. -/
def crc32 (l : List Byte) : Nat := crcOut (crcBytes l crcInit)

/-- One bit of the CRC-16 of the handshake word. -/
def crc16Bit (c : Nat) (b : Bool) : Nat :=
  let c' := (c <<< 1) % 2 ^ 16
  if c.testBit 15 != b then c' ^^^ 0x1021 else c'

def crc16Bits : Nat → Nat → Nat → Nat
  | 0, _, c => c
  | n + 1, v, c => crc16Bits n v (crc16Bit c (v.testBit n))

/-- CRC-16 over bits [47:16] of a handshake word (Table 2-5). -/
def crcHandshake (w : Nat) : Nat := crc16Bits 32 (w / 65536) 0xFFFF

end Sys2Proof.Machine
end

