-- ==== Sys2Proof/Machine/Solver.lean ====
section
/-! DEFINITION. The Wheelwright's arithmetic: branches, capacity, the incremental solve and the full recompute
(R149 to R156, R162). -/

namespace Sys2Proof.Machine

/-- 0xFFFF_FFFF: no source. -/
abbrev noSrc : Nat := 0xFFFFFFFF

/-- The branches of a map: `src` lists (egress grain, source) in rising order of the egress grain, heads only where
`major` holds of it. -/
def branchesOf (major : Nat → Bool) (src : List (Nat × Nat)) : List (Nat × Nat) :=
  (src.flatMap fun x =>
    if major x.1 then (List.range 8).map fun i => (x.2 + i, x.1 / 1280) else [(x.2, x.1 / 1280)]).eraseDups

/-- B_in of a port (R149). -/
def bIn (br : List (Nat × Nat)) (i : Nat) : Nat := (br.filter fun b => b.1 / 1280 == i).length

/-- B_out of a port (R149). -/
def bOut (br : List (Nat × Nat)) (e : Nat) : Nat := (br.filter fun b => b.2 == e).length

/-- X of a map for C colours (R149). -/
def excess (br : List (Nat × Nat)) (c : Nat) : Nat :=
  foldRange 96 (fun a i => a + (bIn br i + 1279 - c)) 0

/-- Every ingress port's branches fit C (R150). -/
def fitsIn (br : List (Nat × Nat)) (c : Nat) : Bool := (List.range 96).all fun i => decide (bIn br i ≤ c)

/-- Admissible (R150). -/
def admissible (br : List (Nat × Nat)) (c : Nat) : Bool := fitsIn br c && decide (excess br c ≤ 4096)

/-- Colour `k` is in use at ingress port `i`. -/
def busyIn (br : List Br) (i k : Nat) : Bool := br.any fun b => b.k == k && b.s / 1280 == i

/-- Colour `k` is in use at egress port `e`. -/
def busyOut (br : List Br) (e k : Nat) : Bool := br.any fun b => b.k == k && b.e == e

/-- The lowest colour of a Lode in `lodes` that `free` holds of. -/
def lowest (lodes : List Nat) (free : Nat → Bool) : Option Nat :=
  (List.range 3840).find? fun k => lodes.contains (k / 384) && free k

/-- The path that starts at egress port `e` and alternates colours `a` and `b` (REPAIR of R162); at most 192 steps,
since each port is visited at most once. -/
def altPath (br : List Br) (a b : Nat) : Nat → Nat → List Br
  | 0, _ => []
  | n + 1, e =>
    match br.find? fun x => x.k == a && x.e == e with
    | none => []
    | some x =>
      match br.find? fun y => y.k == b && y.s / 1280 == x.s / 1280 with
      | none => [x]
      | some y => x :: y :: altPath br a b n y.e

/-- What a solve has reached: placed branches, branches left out, path repairs. -/
structure Solved where
  br : List Br
  out : List (Nat × Nat)
  repairs : Nat
deriving DecidableEq, Repr

/-- One path repair (R162): a free at the ingress port, b free at the egress port. -/
def repair (lodes : List Nat) (v : Solved) (b : Nat × Nat) : Solved :=
  match lowest lodes (fun k => !busyIn v.br (b.1 / 1280) k), lowest lodes (fun k => !busyOut v.br b.2 k) with
  | some x, some y =>
    let path := altPath v.br x y 96 b.2
    let br := v.br.map fun z =>
      if path.contains z then { z with k := if z.k = x then y else x } else z
    { v with br := br ++ [⟨b.1, b.2, x⟩], repairs := v.repairs + 1 }
  | _, _ => { v with out := v.out ++ [b] }

/-- The lowest colour free at both ends of a branch. -/
def freeColour (lodes : List Nat) (br : List Br) (b : Nat × Nat) : Option Nat :=
  lowest lodes fun k => !busyIn br (b.1 / 1280) k && !busyOut br b.2 k

/-- PLACE of R162; also the rule of R156 for each branch. -/
def place (lodes : List Nat) (v : Solved) (b : Nat × Nat) : Solved :=
  match freeColour lodes v.br b with
  | some k => { v with br := v.br ++ [⟨b.1, b.2, k⟩] }
  | none => repair lodes v b

/-- The incremental solve (R162): a branch that no unchanged grain keeps is freed, and the branches that the changes
need are placed in rising order of the egress address. `kept` are the branches of the unchanged grains. -/
def solveIncr (lodes : List Nat) (live : List Br) (kept want : List (Nat × Nat)) : Solved :=
  let keep := live.filter fun b => kept.contains (b.s, b.e)
  let add := want.filter fun w => !keep.any fun b => b.s == w.1 && b.e == w.2
  add.foldl (place lodes) ⟨keep, [], 0⟩

/-- A branch takes its place in the list sorted by ingress port, source grain, egress port. -/
def sortBr (b : Nat × Nat) : List (Nat × Nat) → List (Nat × Nat)
  | [] => [b]
  | x :: l => if b.1 < x.1 || (b.1 == x.1 && b.2 < x.2) then b :: x :: l else x :: sortBr b l

/-- The full recompute in its passes (R162): greedy in list order, then a repair for each deferred branch. The second
part is the number deferred. -/
def solveFull (lodes : List Nat) (want : List (Nat × Nat)) : Solved × Nat :=
  let sorted := want.foldl (fun l b => sortBr b l) []
  let r := sorted.foldl (fun (r : List Br × List (Nat × Nat)) b =>
    match freeColour lodes r.1 b with
    | some k => (r.1 ++ [⟨b.1, b.2, k⟩], r.2)
    | none => (r.1, r.2 ++ [b])) ([], [])
  (r.2.foldl (repair lodes) ⟨r.1, [], 0⟩, r.2.length)

/-- The most FCLK cycles an incremental solve of `n` changes and `r` releases takes, by whether it made a path repair
(Table 4-4). -/
def incrBound (n r : Nat) (repaired : Bool) : Nat :=
  if n = 1 && r = 0 then (if repaired then 240 else 40) else 2488 * n + r + 4352

/-- The FCLK cycles of a full recompute with `n` branches and `d` deferred (Table 4-4). -/
def fullBound (n d : Nat) : Nat := 122880 + n + 200 * d + 4352

/-- What a placed map puts into the stages (pass 3 of R162): `src` lists (egress head, source), `width` the minor grains
of an egress head. -/
def stageOf (width : Nat → Nat) (src : List (Nat × Nat)) (br : List Br) : StageM :=
  { its := br.foldl (fun m b => SMap.insert m (b.s / 1280 * 3840 + b.k) (b.s % 1280)) []
    sel := br.foldl (fun m b => SMap.insert m (b.k * 96 + b.e) (b.s / 1280)) []
    ets := src.foldl (fun m x => (List.range (width x.1)).foldl (fun m i =>
      match br.find? fun b => b.s == x.2 + i && b.e == x.1 / 1280 with
      | some b => SMap.insert m (x.1 + i) b.k
      | none => m) m) []
    src := src }

/-- The branches that the ITS read maps and the select tables carry. -/
def StageM.branches (m : StageM) : List Br :=
  m.sel.filterMap fun x => (SMap.find? m.its (x.2 * 3840 + x.1 / 96)).map fun t => ⟨x.2 * 1280 + t, x.1 % 96, x.1 / 96⟩

/-- The solve of a map that a fault has made inadmissible (R156): every branch in order of its lowest egress grain. -/
def solveFault (lodes : List Nat) (want : List (Nat × Nat)) : Solved := want.foldl (place lodes) ⟨[], [], 0⟩

end Sys2Proof.Machine
end

