-- ==== Sys2Proof/Machine/MapOps.lean ====
section
/-! DEFINITION. The three maps, the checks of a commit request, and the life of a commit up to its boundary
(R153 to R177). -/

namespace Sys2Proof.Machine

/-! ## Sizes and elements -/

/-- Pending and Live size of the grain position of grain `a` (R97, R519): true for a major grain. -/
def State.majorPend (s : State) (a : Nat) : Bool := s.reg O.grainSize (a / 8) == 1
def State.major (s : State) (a : Nat) : Bool := s.lreg O.grainSize (a / 8) == 1

/-- `a` is a follower under the pending, and under the Live, sizes (R98). -/
def State.followerPend (s : State) (a : Nat) : Bool := s.majorPend a && a % 8 != 0
def State.follower (s : State) (a : Nat) : Bool := s.major a && a % 8 != 0

/-- The egress side of a grain position keeps its size for the two rounds in which words of the old epoch leave
(R172). -/
def State.majorOut (s : State) (a : Nat) : Bool :=
  match SMap.find? s.fab.resized (a / 8) with
  | some v => v == 1
  | none => s.major a
def State.followerOut (s : State) (a : Nat) : Bool := s.majorOut a && a % 8 != 0
def State.headOut (s : State) (a : Nat) : Nat := if s.majorOut a then a / 8 * 8 else a
def State.widthOut (s : State) (a : Nat) : Nat := if s.majorOut a then 8 else 1

/-- Minor grains of the grain at `a`. -/
def State.width (s : State) (a : Nat) : Nat := if s.major a then 8 else 1

/-- The head of grain `a`: itself, or the head of its major grain. -/
def State.head (s : State) (a : Nat) : Nat := if s.major a then a / 8 * 8 else a

/-- The elements of a map that name a source, in rising order, followers of the pending sizes left out. -/
def State.srcList (s : State) (obj : Nat) : List (Nat × Nat) :=
  (s.entries obj).filter fun x => decide (x.2 < 122880) && !s.followerPend x.1

/-- The changes and releases of the Draft (R159). -/
def State.changes (s : State) : List (Nat × Nat) :=
  (s.srcList O.mapDraftSrc).filter fun x => s.reg O.mapLiveSrc x.1 != x.2
def State.releases (s : State) : List (Nat × Nat) :=
  (s.entries O.mapLiveSrc).filter fun x => decide (x.2 < 122880) && s.reg O.mapDraftSrc x.1 == noSrc
    && !s.followerPend x.1

/-! ## Lodes and capacity -/

/-- Lodes in SERVICE under the values in effect, and under the pending ones. -/
def State.lodesPend (s : State) : List Nat := (List.range 10).filter fun l => s.reg O.fabricLodeState l == 0

/-- A Lode state is pending (R153). -/
def State.lodeChange (s : State) : Bool :=
  (List.range 10).any fun l => s.reg O.fabricLodeState l != s.lreg O.fabricLodeState l

/-- A pending Lode state takes a Lode out of SERVICE (R154). -/
def State.lodeOut (s : State) : Bool :=
  (List.range 10).any fun l => s.lreg O.fabricLodeState l == 0 && s.reg O.fabricLodeState l != 0

/-- A pending Lode state returns a Lode from RETIRED_FAULT to SERVICE (R154). -/
def State.lodeBack (s : State) : Bool :=
  (List.range 10).any fun l => s.lreg O.fabricLodeState l == 3 && s.reg O.fabricLodeState l == 0

/-- Branches of the Draft under the pending sizes, and of the Live map, placed or not, under the sizes in effect
(R149). -/
def State.draftBr (s : State) : List (Nat × Nat) := branchesOf s.majorPend (s.srcList O.mapDraftSrc)
def State.liveBrs (s : State) : List (Nat × Nat) :=
  branchesOf s.major ((s.entries O.mapLiveSrc).filter fun x => decide (x.2 < 122880) && !s.follower x.1)

/-! ## The checks of a commit request (Table 4-5) -/

/-- Local time of the start of the current frame, and the length of a frame, in 2^-32 ns. -/
def State.frameLt (s : State) : Nat := s.tim.lt + s.clk.base * s.tim.inc - s.tim.ltTick * s.tim.inc
def State.frameLen (s : State) : Nat := 38880 * s.tim.inc + 17600

/-- Frames from the current frame to the first whose first cycle falls at or after a local time in 2^-16 ns; 0 when
that time has passed. -/
def State.framesTo (s : State) (t : Nat) : Nat :=
  (t * 2 ^ 16 - s.frameLt + s.frameLen - 1) / s.frameLen

/-- The boundary frame of a request in a mode (R166). -/
def State.boundaryOf (s : State) (mode : Nat) : Nat :=
  if mode = 1 then s.reg O.mapCommitFsn
  else if mode = 2 then (s.clk.fsn + s.framesTo (ofTime (s.reg O.mapCommitTime))) % M48
  else (s.clk.fsn + 16) % M48

/-- Too near, too far (0x0607, 0x0608): modes 1 and 3 by frames, mode 2 by time (log entry 11). -/
def State.boundaryCheck (s : State) (mode : Nat) : Nat :=
  if mode = 2 then
    let t := ofTime (s.reg O.mapCommitTime)
    if t < s.now + 2000000 * 65536 then 0x0607
    else if s.now + 1048576000000 * 65536 < t then 0x0608 else 0
  else
    let d := dist48 s.clk.fsn (s.boundaryOf mode)
    if d < 16 then 0x0607 else if (2 ^ 23 : Int) < d then 0x0608 else 0

/-- Grain `a` is copy 1 of a Sieve pair of the pending configuration (R212). -/
def State.absorbed (s : State) (a : Nat) : Bool :=
  let c := s.reg O.groupLineCtx a
  decide (c < 6144) && s.reg O.groupType c == 2 && s.reg O.groupLineSq a == 1

/-- Minor grain 640 to 1,279 of a port that runs link version 1 (R165). -/
def State.notCarried (s : State) (a : Nat) : Bool :=
  let p := a / 1280
  decide (640 ≤ a % 1280) && s.reg O.portEnable p == 1 && s.reg O.portNegState p == 5 && s.reg O.portVersion p == 0x11

/-- The checks of Table 4-5 in its order, for a request by `h` in a mode; 0 when all pass. -/
def State.commitCheck (s : State) (h mode : Nat) : Nat :=
  let ds := s.srcList O.mapDraftSrc
  let ch := s.changes
  let c := 384 * s.lodesPend.length
  let br := s.draftBr
  let near := s.boundaryCheck mode
  if !s.sys.mode.commits || (s.lodeBack && s.sys.mode != .isolate) then 0x0505
  else if !s.tokFree 0 h then 0x0402
  else if s.locked then 0x0609
  else if near ≠ 0 then near
  else if (s.entries O.mapDraftSrc).any fun x => decide (122880 ≤ x.2) && x.2 != noSrc && !s.followerPend x.1 then
    0x0310
  else if ds.any (fun x => s.absorbed x.2) then 0x060B
  else if ds.any (fun x => s.majorPend x.1 != s.majorPend x.2 || (s.majorPend x.2 && x.2 % 8 != 0)) then 0x0602
  else if ch.any (fun x => s.notCarried x.1 || s.notCarried x.2) then 0x0603
  else if ds.any (fun x => s.reg O.portRole (x.1 / 1280) == 1 || s.reg O.portRole (x.2 / 1280) == 1) then 0x0604
  else if 4096 < ch.length then 0x0601
  else if s.lodeOut && (decide (s.lodesPend.length < 7) || !admissible s.liveBrs c || !admissible br c) then 0x060F
  else if !fitsIn br c then 0x0605
  else if 4096 < excess br c then 0x0606
  else 0

/-! ## The commit in progress -/

/-- A commit for frame `f` starts to solve (R160, R162): `origin` 0 host, 1 repair, 2 bank retirement, 3 restore,
4 entry into SERVICE; `h` holds the MAP token, 0xFF for a repair, which holds none (R405). -/
def State.commitStart (s : State) (origin mode f h : Nat) : State :=
  let n := if origin = 1 || origin = 2 then 0 else s.changes.length
  let full := decide (256 < n) || s.lodeChange || s.reg O.mapRecompute == 1 || origin == 1
  let s := if h = 0xFF then s else s.actStart 0 h
  let m := { s.map with f := f, full := full, loaded := false, origin := origin, mode := mode, holder := h,
                        time := ofTime (s.reg O.mapCommitTime), resolve := false, lodeDue := false, busy := 0 }
  (({ s with map := m }).setReg O.mapState 0 1).openBanks 4

/-- A repair's own commit of the Live map, for the current frame plus 16 (R155 step 1, R477). -/
def State.repairCommit (s : State) (origin : Nat) : State := s.commitStart origin 3 ((s.clk.fsn + 16) % M48) 0xFF

/-- The commit that stands is one of the JX96's own repairs: no request, so that MAP.RESULT stays (log entry 31). -/
def State.ownCommit (s : State) : Bool := s.map.origin == 1 || s.map.origin == 2

/-- A solve is running. -/
def State.solving (s : State) : Bool := s.reg O.mapState == 1 || s.map.resolve

/-- The Wheelwright is busy for up to a round of the solve in progress: how many cycles is a free value within the
bounds of Table 4-4 (log entry 6); pass 0 of a full recompute alone takes 122,880. -/
def State.solveBusy (s : State) : State :=
  if !s.solving then s
  else
    let most := if s.map.full then 122880 else incrBound s.changes.length s.releases.length false
    let n := s.freeVal 29 % (min 384 (most - s.map.busy) + 1)
    let s := s.tally 66 n
    { s with map := { s.map with busy := s.map.busy + n } }.freeTaken

/-- The commit ends without a boundary; code 0x060A raises event 385 (R167, Table 4-7); the Draft unlocks. -/
def State.commitStop (s : State) (code : Nat) : State :=
  let h := s.map.holder
  let own := s.ownCommit
  let s := s.solveBusy.setReg O.mapState 0 0
  let s := { s with map := { s.map with loaded := false, resolve := false, lodeDue := false, holder := 0xFF }
                    sys := { s.sys with serviceReq := false } }
  let s := if h = 0xFF then s else s.actEnd 0
  if code ≠ 0x060A then s else (if own then s else s.setReg O.mapResult 0 code).raise 385

/-- Contexts on DDR4 media that a restore brought wait for a boundary that long skew lets start them (Table 6-12
step 9). -/
def State.ddrDue (s : State) : Bool := s.sys.ddrHeld && s.reg O.memDdrLsState == 2 && s.sys.mode == .service

/-- What the JX96's own repairs need of a commit, once none stands: a recompute without a failed Lode (`lode`), or a
boundary that places lines or contexts again (`lines`); a repair is never skipped (R155, R405, R475, R477). -/
def State.repairNext (s : State) (lode lines : Bool) : State :=
  if !s.sys.mode.commits || !s.sys.fabOn then s
  else if lode then s.repairCommit 1
  else if lines || s.ddrDue then s.repairCommit 2
  else s

/-- The commit ends without a boundary, and the repairs that it was to carry, or that it was, begin again. -/
def State.commitEnd (s : State) (code : Nat) : State :=
  let lode := s.map.lodeDue || s.map.origin == 1
  let lines := s.map.origin == 2 || s.grp.lines.any fun x => x.2.lost
  (s.commitStop code).repairNext lode lines

/-- A request for a commit: checked, and started when every check passes. The code answers it (R164, R452). -/
def State.commitRequest (s : State) (h mode origin : Nat) : State × Nat :=
  let c := s.commitCheck h mode
  if c ≠ 0 then (s, c) else (s.commitStart origin mode (s.boundaryOf mode) h, 0)

/-- The source list that the Shadow takes: the Draft, or the Live map for a commit of the JX96's own repairs. -/
def State.shadowSrc (s : State) : List (Nat × Nat) :=
  if s.ownCommit then s.srcList O.mapLiveSrc else s.srcList O.mapDraftSrc

/-- The egress grains that an unplaced branch feeds: for a major grain all eight (R156). -/
def State.outGrains (s : State) (src : List (Nat × Nat)) (out : List (Nat × Nat)) : List Nat :=
  src.flatMap fun x =>
    if s.majorPend x.1 then
      if (List.range 8).any (fun i => out.contains (x.2 + i, x.1 / 1280)) then (List.range 8).map fun i => x.1 + i
      else []
    else if out.contains (x.2, x.1 / 1280) then [x.1] else []

/-- The solve: its branches, its unplaced grains, its repairs and the cycles it takes (R162, R163, Table 4-4). A full
recompute takes the cycles of its passes; the others' are free within their bound (R517, log entry 6). -/
def State.solve (s : State) : State :=
  let src := s.shadowSrc
  let want := branchesOf s.majorPend src
  let lodes := s.lodesPend
  let c := 384 * lodes.length
  let repair := s.ownCommit
  let n := if repair then 0 else s.changes.length
  let r := if repair then 0 else s.releases.length
  let kept := branchesOf s.majorPend (src.filter fun x => s.reg O.mapLiveSrc x.1 == x.2)
  let ok := admissible want c
  let fullR := solveFull lodes want
  let v := if !ok then solveFault lodes want
           else if s.map.full then fullR.1 else solveIncr lodes s.map.liveBr kept want
  let d := fullR.2
  let full := fullBound want.length d
  let bound := if ok then incrBound n r (v.repairs != 0) else full
  let cycles := if ok && s.map.full then full else max s.map.busy (s.freeVal 1 % (bound + 1))
  let m := { s.map with shadowBr := v.br, shadowOut := s.outGrains src v.out, cycles := cycles, repairs := v.repairs,
                        deferred := d }
  { s.freeTaken with map := m }

/-- Every listed element of an object of grains reads as unlisted. -/
def State.clearObj (s : State) (i : Nat) : State :=
  { s with regs := SMap.clearSpan s.regs (i * 2 ^ 24) (2 ^ 24) }
def State.clearLive (s : State) (i : Nat) : State :=
  { s with live := SMap.clearSpan s.live (i * 2 ^ 24) (2 ^ 24) }

/-- An object of grains takes the listed elements and no others. -/
def State.putMap (s : State) (i : Nat) (l : List (Nat × Nat)) : State :=
  l.foldl (fun s x => s.setReg i x.1 x.2) (s.clearObj i)

/-- The solve completes: the Shadow is ready and the commit is ARMED (Table 4-6 step 2). -/
def State.solveDone (s : State) : State :=
  if s.solving then
    let s := s.solve
    let s := s.putMap O.mapShadowSrc s.shadowSrc
    let s := ((s.setReg O.mapSolveCycles 0 s.map.cycles).setReg O.mapRepairs 0 (min 4096 s.map.repairs))
    let s := (s.setReg O.mapState 0 2).setReg O.mapBoundaryFsn 0 s.map.f
    let s := (s.tally 66 (s.map.cycles - s.map.busy)).tally 67 s.map.repairs
    { s with map := { s.map with resolve := false } }
  else s

/-- The arming deadline of frame F has come: the first cycle of frame F − 1 (R167). -/
def State.deadlineDue (s : State) : Bool := decide (dist48 s.clk.fsn s.map.f ≤ 1)

/-- Every entry that the Shadow has for the stages. -/
def State.stageShadow (s : State) : StageM :=
  stageOf (fun a => if s.majorPend a then 8 else 1) (s.srcList O.mapShadowSrc) s.map.shadowBr

/-- The Shadow goes into the stage shadow registers, every entry of them (R167). -/
def State.loadStages (s : State) : State :=
  if s.map.loaded then s
  else { s with map := { s.map with loaded := true }, fab := { s.fab with shadow := s.stageShadow } }

/-- At the arming deadline the Shadow is loaded, or the commit ends with 0x060A (R167). -/
def State.deadline (s : State) : State :=
  if !s.locked || s.map.loaded || !s.deadlineDue then s
  else if s.reg O.mapState = 2 && !s.map.resolve then s.loadStages
  else s.commitEnd 0x060A

/-- An abort of the map (R169): ends it, or answers 0x060E or 0x0610. -/
def State.mapAbortOp (s : State) : State × Nat :=
  if !s.locked then (s, 0x0610)
  else if s.map.loaded || s.deadlineDue then (s, 0x060E)
  else (s.commitEnd 0, 0)

/-- A Lode fault is lasting: RETIRED_FAULT, event 386, and the reroute of R155. -/
def State.retireLode (s : State) (l : Nat) : State :=
  let was := s.lreg O.fabricLodeState l
  let s := ((s.setReg O.fabricLodeState l 3).setLive O.fabricLodeState l 3).raise 386
  if was = 3 then s
  else if s.reg O.mapState = 0 then s.repairCommit 1
  else
    -- a commit stands; one whose boundary has been taken only ends (Table 4-6 step 7)
    let s := { s with map := { s.map with lodeDue := true } }
    if s.map.drain then s
    else if s.reg O.mapState = 1 then { s with map := { s.map with full := true } }
    else if s.map.loaded then s.commitEnd 0x060A
    else { s with map := { s.map with full := true, resolve := true, busy := 0 } }

/-- A step of the FSN or of local time acts on the commit that stands (R170): one in mode 2 keeps its time, the others
their frame; a boundary carried to more than 2^23 frames ahead ends with 0x060A. A boundary that has been taken
stands. -/
def State.commitRestep (s : State) : State :=
  if !s.locked || s.map.drain then s
  else
    let f := if s.map.mode = 2 then (s.clk.fsn + s.framesTo s.map.time) % M48 else s.map.f
    let s := { s with map := { s.map with f := f } }
    let s := if s.reg O.mapState = 2 then s.setReg O.mapBoundaryFsn 0 f else s
    if (2 ^ 23 : Int) < dist48 s.clk.fsn f then s.commitEnd 0x060A else s

/-- MAP.DRAFT_SRC: follower 0x060C, the mark of a follower 0x0310, Draft locked 0x060D (R158, R160). -/
def draftSrcOp (a v : Nat) (s : State) : State × Nat :=
  if s.followerPend a then (s, 0x060C)
  else if v = 0xFFFFFFFE then (s, 0x0310)
  else if s.locked then (s, 0x060D)
  else (s.setReg O.mapDraftSrc a v, 0)

/-- MAP.DRAFT_REVERT copies Live into Draft (R160). -/
def draftRevertOp (s : State) : State × Nat :=
  if s.locked then (s, 0x060D) else (s.putMap O.mapDraftSrc (s.entries O.mapLiveSrc), 0)

/-- MAP.COMMIT_REQ, from a writer (R164, R166); in RESTORE the JX96 holds the MAP token (Table 15-5). A refusal code
is also the outcome of the request (Table 4-5, log entry 12). -/
def commitReqOp (h : Nat) (s : State) : State × Nat :=
  let r := if s.sys.mode = .restore then (s, 0x0402) else s.commitRequest h (s.reg O.mapCommitMode) 0
  if r.2 ≠ 0 then (s.setReg O.mapResult 0 r.2, r.2) else r

/-- FABRIC.LODE_STATE (R153, R154, R160, R427): the return of a Lode from RETIRED_FAULT is allowed in ISOLATE only and
queues its return test. -/
def lodeStateOp (h l v : Nat) (s : State) : State × Nat :=
  let back := s.lreg O.fabricLodeState l = 3 && v = 0
  if s.locked then (s, 0x060D)
  else if back && !s.tokFree 3 h then (s, 0x0402)
  else if back && s.sys.mode != .isolate then (s, 0x0505)
  else
    let s := s.setReg O.fabricLodeState l v
    if back then
      let s := { s with asy := { s.asy with returning := l :: s.asy.returning } }
      (s.hostTest h (resOf 1 l) 4 3, 0)
    else (s, 0)

end Sys2Proof.Machine
end

