-- ==== Sys2Proof/Machine/Grains.lean ====
section
/-! DEFINITION. The pointer interpreter, the elastic store and the pointer generator
(chapter 3). -/

namespace Sys2Proof.Machine

/-! ## Pointer classes (Tables 3-4 and 3-5) -/

inductive PClass where
  | norm (v : Nat) | inc (v : Nat) | dec (v : Nat) | new (v : Nat) | ais | uneq | ci | inv
deriving DecidableEq, Repr

/-- The class of a received field; none for a field in a word marked invalid (R68, R108). -/
def classify (f : Option Nat) : PClass :=
  match f with
  | none => .inv
  | some f =>
    let f := putBit (f % 65536) 9 false
    let v := f % 512
    if f = 0xFDFF then .ais
    else if f = 0 then .uneq
    else if f = 0x65FF then .ci
    else if 404 < v then .inv
    else if f = 0x6000 + v then .norm v
    else if f = 0x7000 + v then .inc v
    else if f = 0x6800 + v then .dec v
    else if f = 0x8000 + v then .new v
    else .inv

/-! ## The interpreter (Tables 3-6 and 3-7; states 0 LOP, 1 NORM, 2 AIS, 3 UNEQ, 4 CONC, 5 LOPC, 6 AISC) -/

/-- What one frame's pointer does: the runs, the next state, the value, an accepted justification (+1 INC, −1 DEC),
and whether a value was accepted anew (R120). -/
structure Interp where
  g : RxG
  st : Nat
  c : Nat
  just : Int
  fresh : Bool
deriving DecidableEq, Repr

/-- Every run ends. -/
def RxG.noRuns (g : RxG) : RxG := { g with inv := 0, ais := 0, uneq := 0, neu := 0, cand := 0, candV := 0 }

/-- The head of a major grain, or a grain of size 0 (Table 3-6, R520). `since` counts the frames for which spacing
still fails. -/
def interpHead (g : RxG) (st c : Nat) (k : PClass) : Interp :=
  let g0 := { g.noRuns with since := g.since - 1 }
  let keep (g : RxG) : Interp := ⟨g, st, c, 0, false⟩
  let lopIf (g : RxG) : Interp := ⟨g, if st ≠ 0 && 8 ≤ g.inv then 0 else st, c, 0, false⟩
  match k with
  | .norm v =>
    if st = 1 && v = c then keep g0
    else
      let n := if g.candV = v && 0 < g.cand then g.cand + 1 else 1
      if 3 ≤ n then ⟨{ g0 with since := 3 }, 1, v, 0, true⟩
      else
        let g1 := { g0 with candV := v, cand := n }
        if st = 1 then lopIf { g1 with inv := g.inv + 1 } else keep g1
  | .inc v =>
    if st ≠ 1 then keep g0
    else if v = c && g.since = 0 then ⟨{ g0 with since := 3 }, 1, (c + 1) % 405, 1, false⟩
    else lopIf { g0 with inv := g.inv + 1 }
  | .dec v =>
    if st ≠ 1 then keep g0
    else if v = c && g.since = 0 then ⟨{ g0 with since := 3 }, 1, (c + 404) % 405, -1, false⟩
    else lopIf { g0 with inv := g.inv + 1 }
  | .new v =>
    let n := g.neu + 1
    if st = 0 then keep { g0 with neu := n }
    else if st = 1 && 8 ≤ n then ⟨{ g0 with neu := n, since := 3 }, 0, v, 0, true⟩
    else ⟨{ g0 with neu := n, since := 3 }, 1, v, 0, true⟩
  | .ais =>
    let n := g.ais + 1
    if 3 ≤ n then ⟨{ g0 with ais := n }, 2, c, 0, false⟩ else keep { g0 with ais := n }
  | .uneq =>
    let n := g.uneq + 1
    if 3 ≤ n then ⟨{ g0 with uneq := n }, 3, c, 0, false⟩ else keep { g0 with uneq := n }
  | .ci => lopIf { g0 with inv := g.inv + 1 }
  | .inv => lopIf { g0 with inv := g.inv + 1 }

/-- A follower (Table 3-7): for it CI includes UNEQ. -/
def interpFollower (g : RxG) (st : Nat) (k : PClass) : RxG × Nat :=
  match k with
  | .ci => ({ g with ci := g.ci + 1, ais := 0, other := 0 }, if st ≠ 4 && 3 ≤ g.ci + 1 then 4 else st)
  | .uneq => ({ g with ci := g.ci + 1, ais := 0, other := 0 }, if st ≠ 4 && 3 ≤ g.ci + 1 then 4 else st)
  | .ais => ({ g with ais := g.ais + 1, ci := 0, other := 0 }, if st ≠ 6 && 3 ≤ g.ais + 1 then 6 else st)
  | _ => ({ g with other := g.other + 1, ci := 0, ais := 0 }, if st ≠ 5 && 8 ≤ g.other + 1 then 5 else st)

/-- The state of a major grain from its head's and its followers' (R122). -/
def majorState (head : Nat) (followers : List Nat) : Nat :=
  if head = 0 || followers.contains 5 then 0
  else if head = 2 || followers.contains 6 then 2
  else head

/-! ## Positions of a frame (R55, R56, R92, R516) -/

/-- The grain's word number n at which its PJO stands. -/
def pjoN (ver g : Nat) : Nat :=
  if ver = 2 then 45 * (2 + g / 224) + (1 + g % 224) / 5 else 45 * (2 + g / 111)

/-- Row × 256 + h of a grain's NJO, and of its pointer word. -/
def njoAt (ver g : Nat) : Nat :=
  if ver = 2 then (2 + g / 224) * 256 + 1 + g % 224 else (2 + g / 111) * 256 + 1 + g % 111
def ptrAt (ver g : Nat) : Nat :=
  let p := g / 3
  if ver = 2 then if p < 216 then 9 + p else 256 + 1 + (p - 216)
  else if p < 104 then 8 + p else 256 + 1 + (p - 104)

/-- The fabric round in which a grain's pointer slot stands (R516). -/
def slotRound (ver g : Nat) : Nat :=
  let at_ := ptrAt ver g
  let q := at_ / 256
  let h := at_ % 256
  if ver = 2 then 45 * q + h / 5
  else
    let b := 48 * (28912 * q + h)
    (5440 * (b / 5140) + b % 5140) / 32640

/-! ## The words a grain receives in a frame -/

/-- A word of a minor grain's stream; `flag` on a TPO-A says that its container follows a non-zero INV run (R106). -/
def wordU (t : Tag) (w : Word) (flag : Bool) : SUnit := ⟨t, [w], if t = .tpoa && flag then some false else none⟩

/-- What one received frame does to the stream of a grain: whether the grain is carried before and after, whether a
value was accepted anew (R120), whether a justification was lost with its pointer word (R102), the values before and
after, the accepted justification, and whether the INV run was non-zero before and after. -/
structure FrameRx where
  was : Bool
  is_ : Bool
  fresh : Bool
  lost : Bool
  cOld : Nat
  cNew : Nat
  just : Int
  invOld : Bool
  invNew : Bool
deriving DecidableEq, Repr

/-- The marks that stand where this frame's container begins: AIS, the carrying ends; EMPTY, it starts again from the
next TPO-A (R120, R130); TEST, the tributary frame in progress is broken (R102, R125). -/
def FrameRx.marks (x : FrameRx) : List SUnit :=
  (if x.was && !x.is_ then [wordU .ais 0 false]
   else if x.is_ && (x.fresh || !x.was) then [wordU .empty 0 false] else []) ++
  if x.lost then [wordU .test 0 false] else []

/-- The stream of one minor grain's words in a received frame: the tail of the container before, the marks, the
container of this frame. `w` are its 405 words, `nj` its NJO, `k` whether it holds the TPO-A marks. -/
def frameStream (n0 : Nat) (w : List Word) (nj : Word) (k : Bool) (x : FrameRx) : List SUnit :=
  let at_ (n : Nat) : Word := w.getD n 0
  let tail := if x.was then (List.range n0).map fun n =>
      wordU (if k && 405 - n0 + n == x.cOld then .tpoa else .word) (at_ n) x.invOld else []
  let body := if x.is_ then
      (if x.just = -1 then [wordU (if k && x.cOld == 0 then .tpoa else .word) nj x.invNew] else []) ++
      ((List.range (405 - n0)).filterMap fun i =>
        if i = 0 && x.just = 1 then none
        else some (wordU (if k && i == x.cNew then .tpoa else .word) (at_ (n0 + i)) x.invNew))
    else []
  tail ++ x.marks ++ body

/-- How many words and marks a minor grain's stream gains in each of the 405 word times. -/
def frameSlots (n0 : Nat) (x : FrameRx) : List Nat :=
  (List.range 405).map fun n =>
    if n < n0 then b2n x.was
    else
      let base := b2n (x.is_ && !(decide (n = n0) && decide (x.just = 1)))
      if n = n0 then base + x.marks.length + b2n (x.is_ && decide (x.just = -1)) else base

/-- How many units are complete in each of `n` word times, when the streams start with `h` entries and gain those of
`l`: one as soon as each stream has an entry (R127; log entry 27). -/
def unitSlots : Nat → List Nat → List (List Nat) → List Nat
  | 0, _, _ => []
  | n + 1, h, l =>
    let h := List.zipWith (fun a b => a + b.headD 0) h l
    let k := h.foldl min (h.headD 0)
    k :: unitSlots n (h.map (· - k)) (l.map (List.drop 1))

/-- Units made of the streams of the minor grains of one grain: one as soon as each has a word. -/
def zipUnits : Nat → List (List SUnit) → List SUnit × List (List SUnit)
  | 0, q => ([], q)
  | n + 1, q =>
    if q.isEmpty || q.any List.isEmpty then ([], q)
    else
      let hs := q.filterMap List.head?
      let h := hs.headD (wordU .word 0 false)
      let r := zipUnits n (q.map (List.drop 1))
      (⟨h.tag, (hs.map SUnit.ws).flatten, h.res⟩ :: r.1, r.2)

/-! ## The tributary frame tracker (R101, R102, R106) -/

/-- What a unit written into a grain does to its tracker: registers RX_TSN and RX_TPOB, counts TSN_JUMP and
CRC_ERR, and the result that the unit carries. -/
structure TrackR where
  g : RxG
  u : SUnit
  tsn : Option (Nat × Nat)
  jump : Bool
  bad : Bool
deriving DecidableEq, Repr

/-- The result of the frame before, at the TPO-B that carries its CRC. -/
def RxG.result (g : RxG) (tpob : Word) : Option Bool :=
  if g.lastHeld then some (tpob.toNat / 65536 == g.lastCrc && !g.lastBroken) else none

/-- A unit enters the tracker. A TPO-A unit with result `some false` stands in a container that follows a non-zero INV
run. -/
def RxG.track (g : RxG) (u : SUnit) : TrackR :=
  match u.tag with
  | .tpoa =>
    let clean := !g.intr && !g.broken && decide (g.pos ≠ 0)
    let jump := clean && match g.prev with
      | some q => (q + 1) % M48 != g.tsn
      | none => false
    let w0 := u.ws.headD 0
    let g1 := { g with
      prev := if clean then some g.tsn else none
      lastHeld := decide (g.pos ≠ 0), lastCrc := crcOut g.crc, lastBroken := g.broken
      pos := 1, tsn := w0.toNat, crc := crcInit, broken := false, intr := u.res == some false }
    let told := if clean then some (g.tsn, g.tpob) else none
    match u.ws with
    | _ :: b :: c :: cs =>
      let r := g1.result b
      ⟨{ g1 with tpob := b.toNat, crc := crcWords (c :: cs) crcInit, pos := 2 }, { u with res := r }, told, jump,
        r == some false⟩
    | _ => ⟨g1, { u with res := none }, told, jump, false⟩
  | .word =>
    if g.pos = 0 then ⟨g, u, none, false, false⟩
    else if g.pos = 1 then
      let b := u.ws.headD 0
      let r := g.result b
      ⟨{ g with tpob := b.toNat, pos := 2 }, { u with res := r }, none, false, r == some false⟩
    else ⟨{ g with crc := crcWords u.ws g.crc, pos := g.pos + 1 }, u, none, false, false⟩
  | .empty => ⟨{ g with broken := true, intr := true }, u, none, false, false⟩
  | .test => ⟨{ g with broken := true, intr := true }, u, none, false, false⟩
  | _ => ⟨{ g with pos := 0, lastHeld := false, prev := none }, u, none, false, false⟩

/-! ## The elastic store (R127 to R130) -/

/-- Units of the store that are words. -/
def RxG.fill (g : RxG) : Nat := (g.store.filter fun u => u.tag == .word || u.tag == .tpoa).length

/-- A slip: emptied, the frame in progress broken; writing starts again from the next TPO-A (R129). -/
def RxG.slip (g : RxG) : RxG :=
  { g with store := [], reading := false, writing := false, broken := true, intr := true }

/-- Grain `a`'s bit in GRAIN.CHANGED and event 4p + 3 (R126). -/
def State.grainChanged (s : State) (a : Nat) : State :=
  (s.setOct O.grainChanged (a / 1280) 160 (a % 1280) true).raise (4 * (a / 1280) + 3)

/-- The count and the report of a slip of grain `a` (R126, R129). -/
def State.slipped (s : State) (a : Nat) : State :=
  let p := a / 1280
  let s := (s.bump O.grainEsSlip a 32).grainChanged a
  { s with crierSlip := if s.crierSlip.contains p then s.crierSlip else p :: s.crierSlip }

/-- A unit is written into the store of grain `a` (R120, R128, R129). -/
def State.esWrite (s : State) (a : Nat) (u : SUnit) : State :=
  let t := (s.rxG a).track u
  let s := match t.tsn with
    | some (tsn, b) => (s.setReg O.grainRxTsn a tsn).setReg O.grainRxTpob a (b % 65536)
    | none => s
  let s := if t.jump then s.bump O.grainTsnJump a 32 else s
  let s := if t.bad then s.bump O.grainCrcErr a 32 else s
  let g := t.g
  match u.tag with
  | .ais => s.setRx a { g with writing := false, store := g.store ++ [t.u] }
  | .empty => s.setRx a { g with writing := false }
  | .test => s.setRx a g
  | .tpoa =>
    if 24 ≤ g.fill then (s.setRx a g.slip).slipped a
    else s.setRx a { g with writing := true, store := g.store ++ [t.u] }
  | _ =>
    if !g.writing then s.setRx a g
    else if 24 ≤ g.fill then (s.setRx a g.slip).slipped a
    else s.setRx a { g with store := g.store ++ [t.u] }

/-- `n` word times of the lane pass: their units enter the store. -/
def State.esTake (s : State) (a n : Nat) : State :=
  let g := s.rxG a
  let k := (g.slots.take n).foldl (· + ·) 0
  let us := g.inflow.take k
  let s := s.setRx a { g with slots := g.slots.drop n, inflow := g.inflow.drop k }
  us.foldl (fun s u => s.esWrite a u) s

/-- The read side samples the fill at a local frame start and plans the frame (R127). -/
def State.esPlan (s : State) (a : Nat) : State :=
  let g := s.rxG a
  let f := g.fill
  let k := s.width a
  let s := s.setReg O.grainEsFill a (f * k)
  if !g.reading then s.setRx a { g with plan := 0 }
  else if g.sinceDep ≠ 0 then s.setRx a { g with plan := 0, sinceDep := g.sinceDep - 1 }
  else if 15 ≤ f then s.setRx a { g with plan := 1, sinceDep := 3 }
  else if f ≤ 9 then s.setRx a { g with plan := -1, sinceDep := 3 }
  else s.setRx a { g with plan := 0 }

/-- The read side starts (R128): the start level has been reached while the interpreter writes. -/
def State.esStart (s : State) (a : Nat) : State :=
  let g := s.rxG a
  if !g.reading && g.writing && 12 ≤ g.fill then s.setRx a { g with reading := true, plan := 0, sinceDep := 4 } else s

def SUnit.aisU : SUnit := ⟨.ais, [], none⟩
def SUnit.emptyU : SUnit := ⟨.empty, [], none⟩

/-- One unit leaves the store: a slip when there is none (R129); an AIS mark ends the reading (R130). -/
def State.esPop (s : State) (a : Nat) : State × SUnit :=
  let g := s.rxG a
  match g.store with
  | [] => ((s.setRx a g.slip).slipped a, .aisU)
  | u :: us =>
    if u.tag = .ais then (s.setRx a { g with store := us, reading := false }, .aisU)
    else (s.setRx a { g with store := us }, u)

/-- The read side notes the frame it presents: its TSN and its lateness in rounds (R182). -/
def State.esNote (s : State) (a n : Nat) (us : List SUnit) : State :=
  us.foldl (fun s u =>
    let g := s.rxG a
    if u.tag = .tpoa then
      let t := (u.ws.headD 0).toNat
      s.setRx a { g with outT := t, outPos := 1, outA := 405 * dist48 t s.clk.fsn + n }
    else if u.tag = .word then s.setRx a { g with outPos := g.outPos + 1 } else s) s

/-- What the read side of grain `a` presents in round `n`: one unit, or EMPTY, or a unit and the extra unit of the
overflow store (R141). -/
def State.esRead (s : State) (a n : Nat) : State × List SUnit :=
  let g := s.rxG a
  if !g.reading then (s, [.aisU])
  else if n = 404 && g.plan = -1 then (s, [.emptyU])
  else
    let r := s.esPop a
    if n = 404 && g.plan = 1 && r.2.tag != .ais then
      let q := r.1.esPop a
      (q.1, if q.2.tag == .ais then [r.2] else [r.2, q.2])
    else (r.1, [r.2])

/-! ## The interpreters of a port -/

/-- The interpreter states and the value of grain `a` become what a frame left. -/
def State.rxState (s : State) (a st : Nat) : State :=
  let old := s.reg O.grainRxState a
  let s := s.setReg O.grainRxState a st
  let alarm (x : Nat) : Bool := x == 0 || x == 2 || x == 5 || x == 6
  if old ≠ st && (alarm old || alarm st) then s.grainChanged a else s

/-- The interpreters of a grain position start again: AIS, followers AISC, stores emptied (R97, R123). -/
def State.rxRestart (s : State) (m : Nat) : State :=
  foldRange 8 (fun s i =>
    let a := 8 * m + i
    let st := if s.major a && i != 0 then 6 else 2
    (s.setRx a .init).rxState a st) s

/-- A port's grains are held as AIS: Flint is out of SYNC, SLIP1 and SLIP2, or the port stops (R79, R123). -/
def State.portAis (s : State) (p : Nat) : State := foldRange 160 (fun s m => s.rxRestart (160 * p + m)) s

/-- A justification of the current value was lost with its pointer word: the word is marked invalid, and its content as
received (R50) is INC(c) or DEC(c) (R102, R125; log entry 26). -/
def justLost (st c : Nat) (f : Nat × Bool) : Bool :=
  st == 1 && !f.2 && (classify (some f.1) == .inc c || classify (some f.1) == .dec c)

/-- The class of a received field, `f.2` whether its word is valid. -/
def classOf (f : Nat × Bool) : PClass := classify (if f.2 then some f.1 else none)

/-- The pointer, NJO and payload words of one frame of grain position `g` (its first minor grain) on port `p`; `fld`
gives the field of a grain and whether its word is valid. The state of a head is that of its own interpreter: the
state of the major grain (R122) is not stored (log entry 80). Words of a major grain that wait for a follower whose PJO
stands in a later round are not yet in its store: depth and fill count whole units (log entry 27). -/
def State.rxGrain (s : State) (p ver g : Nat) (fld : Nat → Nat × Bool) (word : Nat → List Word) (nj : Nat → Word) :
    State :=
  let a := 1280 * p + g
  let maj := s.major a
  let kids := if maj then (List.range 7).map (· + 1) else []
  let kidSt (s : State) : List Nat := kids.map fun i => s.reg O.grainRxState (a + i)
  let st0 := s.reg O.grainRxState a
  let was := (if maj then majorState st0 (kidSt s) else st0) == 1
  let c0 := s.reg O.grainRxPtr a
  let inv0 := (s.rxG a).inv
  let r := interpHead (s.rxG a) st0 c0 (classOf (fld g))
  let s := (s.setRx a r.g).rxState a r.st
  let s := s.setReg O.grainRxPtr a r.c
  let s := if r.just = 0 then s else (s.bump O.grainRxJust a 32).tally (96 + 7 * p + 5) 1
  let s := kids.foldl (fun s i =>
    let k := interpFollower (s.rxG (a + i)) (s.reg O.grainRxState (a + i)) (classOf (fld (g + i)))
    (s.setRx (a + i) k.1).rxState (a + i) k.2) s
  let is_ := (if maj then majorState r.st (kidSt s) else r.st) == 1
  let x : FrameRx := ⟨was, is_, r.fresh, justLost st0 c0 (fld g), c0, r.c, r.just, inv0 != 0, r.g.inv != 0⟩
  let ws := if maj then List.range 8 else [0]
  let streams := ws.map fun i => frameStream (pjoN ver (g + i)) (word (g + i)) (nj (g + i)) (i == 0) x
  let g1 := s.rxG a
  let old := if g1.part.length = ws.length then g1.part else ws.map fun _ => []
  let z := zipUnits 900 (List.zipWith (· ++ ·) old streams)
  let slots := unitSlots 405 (old.map List.length) (ws.map fun i => frameSlots (pjoN ver (g + i)) x)
  s.setRx a { g1 with part := z.2, inflow := g1.inflow ++ z.1, slots := g1.slots ++ slots }

/-- Every grain position of a port takes its frame; on version 1 grains 640 to 1,279 stay in AIS (R89, R123). -/
def State.rxGrains (s : State) (p ver : Nat) (fld : Nat → Nat × Bool) (word : Nat → List Word) (nj : Nat → Word) :
    State :=
  foldRange (if ver = 2 then 160 else 80) (fun s m =>
    if s.major (1280 * p + 8 * m) then s.rxGrain p ver (8 * m) fld word nj
    else foldRange 8 (fun s i => s.rxGrain p ver (8 * m + i) fld word nj) s) s

/-! ## The pointer generator (Table 3-9, R131 to R136, R516, R521; states 0 UNEQ, 1 AIS, 2 NORM, 3 follower) -/

/-- A unit reaches the generator from the ETS. Two units stand in reserve, so that a carried adjustment finds a unit to
take or a place to leave. A TPO-A not 405 units after the last is displaced: the units ahead of it leave, and all ones
begin (R521). At an AIS mark a TPO-A that NEW locates is waited for only if it has arrived. -/
def TxG.arrive (x : TxG) (u : SUnit) : TxG :=
  match u.tag with
  | .tpoa =>
    if !x.placed then
      { x with placed := true, sinceA := 1, pend := 0, queue := [SUnit.aisU, SUnit.aisU, u], displaced := false
               newDue := false, lift := false }
    else if x.sinceA = 405 then { x with sinceA := 1, queue := x.queue ++ [u] }
    else { x with sinceA := 1, displaced := true, newDue := false, lift := false, pend := 0
                  onesIn := if x.onesIn = some 0 then some 0 else some (min 3 x.queue.length)
                  queue := (x.queue ++ [u, SUnit.aisU, SUnit.aisU]).take 3 }
  | .word => if x.placed then { x with sinceA := x.sinceA + 1, queue := x.queue ++ [u] } else x
  | .ais =>
    let near := x.queue.any fun y => y.tag == .tpoa
    { x with aisMark := true, placed := false, sinceA := 0, pend := 0, displaced := false
             newDue := x.newDue && near, lift := x.lift && near
             queue := if x.placed then x.queue ++ [u] else x.queue }
  | _ => x

/-- A carried adjustment reaches the generator: +1 one more unit, −1 one fewer (R131, R132). -/
def TxG.adjust (x : TxG) (d : Int) : TxG := if x.placed then { x with pend := x.pend + d } else x

/-- A pending adjustment is discarded (R133): the reserve is what it was. Units ahead of a displaced TPO-A leave. -/
def TxG.level (x : TxG) : TxG :=
  let k := x.onesIn.getD 0
  { x with pend := 0, queue := x.queue.take k ++ List.replicate (-x.pend).toNat SUnit.aisU ++
                               x.queue.drop (k + x.pend.toNat) }

/-- The container position at which the next TPO-A lands, seen in round `n` before that round's unit leaves. -/
def TxG.landing (x : TxG) (n n0 : Nat) : Nat :=
  (((x.queue.length : Int) + n - x.sinceA - n0) % 405).toNat

/-- Pointer fields (Table 3-5). -/
def fNorm (c : Nat) : Nat := 0x6000 + c
def fInc (c : Nat) : Nat := 0x7000 + c
def fDec (c : Nat) : Nat := 0x6800 + c
def fNew (c : Nat) : Nat := 0x8000 + c

/-- A generator with nothing to send; what spacing still asks (R113) stays, and so do the words of the followers'
rounds. -/
def TxG.cleared (x : TxG) : TxG :=
  { TxG.init with since := x.since, cont := x.cont, out := x.out, njo := x.njo, hist := x.hist }

/-- NEW(c) goes out in this frame's slot; until the TPO-A that it locates all ones are sent, after a displaced TPO-A
from that mark on. -/
def TxG.sendNew (x : TxG) (c : Nat) : TxG :=
  { x with ptr := fNew c, since := 3, onesIn := if x.displaced then x.onesIn else some 0, newDue := true,
           lift := false, just := 0, aisMark := false, displaced := false, mayNew := false }

/-- The generator of egress head `a` fixes the pointer of a frame in round `n` (Table 3-9 in the order of R133):
`force` AIS is forced, `bnd` what a commit boundary of this frame did to its source (1 gave, 2 changed, 3 removed),
`src` the Live map names a source. -/
def State.genSlot (s : State) (a n n0 : Nat) (force : Bool) (bnd : Nat) (src : Bool) : State :=
  let x := s.txG a
  let st := s.reg O.grainTxState a
  let c := s.reg O.grainTxPtr a
  let barred := decide (x.since ≠ 0)
  let x := { x with since := x.since - 1, mayNew := false, bnd := 0, just := 0 }
  let out (x : TxG) (st ptr : Nat) : State := (s.setReg O.grainTxState a st).setTx a { x with ptr := ptr }
  if force then
    out { x.level with onesIn := none, newDue := false, lift := false, displaced := false, aisMark := false } 1 0xFFFF
  else if bnd = 1 || bnd = 2 then out x.level 1 0xFFFF
  else if bnd = 3 then out x 0 0
  else if !src then out x.cleared 0 0
  else if st = 0 then out x 1 0xFFFF
  else if st = 1 || x.aisMark then
    if x.placed && !barred && (st = 1) then
      let c' := x.landing n n0
      ((s.setReg O.grainTxPtr a c').setReg O.grainTxState a 2).setTx a (x.sendNew c')
    else out { (if x.aisMark then x.level else x) with aisMark := false, displaced := false } 1 0xFFFF
  else if x.displaced then out { x.level with mayNew := !barred } 2 0xFFFF
  else if x.pend = 0 || barred then out x 2 (fNorm c)
  else
    let s := (s.bump O.grainTxJust a 32).tally (96 + 7 * (a / 1280) + 6) 1
    if 0 < x.pend then
      (s.setReg O.grainTxPtr a ((c + 404) % 405)).setTx a
        { x with ptr := fDec c, since := 3, just := -1, pend := x.pend - 1 }
    else
      (s.setReg O.grainTxPtr a ((c + 1) % 405)).setTx a
        { x with ptr := fInc c, since := 3, just := 1, pend := x.pend + 1 }

/-- The slot of egress minor grain `a` sends pointer field `v` in the frame that its port is sending (R67). -/
def State.ptrField (s : State) (a v : Nat) : State :=
  let p := a / 1280
  let q := s.linkQ p
  let at_ := ptrAt q.ver (a % 1280)
  let k := 16 * (2 - a % 1280 % 3)
  let old := (SMap.get (0 : Word) q.ovh at_).toNat
  s.setLinkQ p { q with ovh := SMap.set (0 : Word) q.ovh at_ (BitVec.ofNat 48 (old - bits old (k + 15) k * 2 ^ k + v
    * 2 ^ k)) }

/-- The pointer fields that the slots of egress head `a` send (R67, R115): followers carry AIS or UNEQ with their head,
else CI. -/
def State.ptrOut (s : State) (a : Nat) : State :=
  let f := (s.txG a).ptr
  (List.range (s.widthOut a)).foldl (fun s i => s.ptrField (a + i) (if i = 0 || f = 0xFFFF || f = 0 then f
    else 0x65FF)) s

/-- The NEW of a displaced TPO-A, once the slot of the frame allows it (R521): round `n` follows that slot. -/
def State.newDisplaced (s : State) (a n n0 : Nat) : State :=
  let x := s.txG a
  if x.mayNew && x.displaced then
    let c := x.landing n n0
    ((s.setReg O.grainTxPtr a c).setTx a (x.sendNew c)).ptrOut a
  else s

/-- All ones, for the words of an AIS container (R116). -/
def onesWord : Word := BitVec.allOnes 48

/-- One unit leaves the generator's queue, and the words sent for it: all ones from an AIS mark or a displaced TPO-A on,
up to the TPO-A that NEW locates in its own container (R131, R134, R521). -/
def TxG.pop (x : TxG) (w : Nat) : TxG × List Word :=
  match x.queue with
  | [] => (x, List.replicate w onesWord)
  | u :: us =>
    let found := u.tag == .tpoa && x.lift
    let ones := !found && (x.onesIn == some 0 || u.tag == .ais)
    let next := if found then none else if u.tag = .ais then some 0 else x.onesIn.map (· - 1)
    ({ x with queue := us, onesIn := next, lift := x.lift && !found }, if ones then List.replicate w onesWord else u.ws)

/-- What minor grain `a` sends in round `n` while it carries nothing: zero, or the Assayer pattern (R117, R413). -/
def State.uneqWord (s : State) (a n : Nat) : Word :=
  let g := a % 1280
  let n0 := pjoN (s.linkQ (a / 1280)).ver g
  let k := (n + 405 - n0) % 405
  let fs := if n < n0 then s.clk.fsn + M48 - 1 else s.clk.fsn
  if bit (s.reg O.assayEnable) 1 && k ≠ 0 then BitVec.ofNat 48 (fs % 65536 * 2 ^ 32 + g * 65536 + k) else 0

/-- The payload words of egress head `a` in round `n`, and its NJO words (R110 to R112, R116, R117): no words for an
unequipped grain. At its PJO a container takes the form of the pointer that describes it (R57). -/
def State.genWord (s : State) (a n n0 : Nat) : State :=
  let x := s.txG a
  let w := s.widthOut a
  let ones := List.replicate w onesWord
  let zero := List.replicate w (0 : Word)
  let x := if n = n0 then
      { x with cont := s.reg O.grainTxState a, lift := x.lift || x.newDue, newDue := false, njo := zero }
    else x
  if x.cont = 2 then
    if n = n0 then
      let x := if x.just = -1 then let r := x.pop w
                                   { r.1 with njo := r.2 } else x
      if x.just = 1 then s.setTx a { x with out := zero }
      else
        let r := x.pop w
        s.setTx a { r.1 with out := if x.ptr = 0xFFFF then zero else r.2 }
    else let r := x.pop w
         s.setTx a { r.1 with out := r.2 }
  else
    let y := (x.pop w).1
    s.setTx a { y with out := if x.cont = 0 then [] else if n = n0 then zero else ones }

end Sys2Proof.Machine
end

