-- ==== Sys2Proof/Machine/Groups.lean ====
section
/-! DEFINITION. The group stage: reservations and their checks, lines, the release offset, Cooper groups and Sieve
merge (chapter 5). -/

namespace Sys2Proof.Machine

/-! ## Reservations (R202 to R206) -/

/-- s_min of a medium: 1 in bank media, 32 in DDR4 media (R183). -/
def sMin (media : Nat) : Nat := if media = 1 then 32 else 1

/-- The judging slack J (R196). -/
def judging (media : Nat) : Nat := 408 + sMin media

/-- The lines of a context in the pending configuration. -/
def State.pendLines (s : State) (c : Nat) : List Nat :=
  ((s.entries O.groupLineCtx).filter fun x => x.2 == c).map Prod.fst

/-- The lines of a context in the configuration in effect. -/
def State.liveLines (s : State) (c : Nat) : List Nat :=
  ((s.lentries O.groupLineCtx).filter fun x => x.2 == c).map Prod.fst

/-- What a line of context `c` reserves under the pending configuration (R202, R204). -/
def State.needs (s : State) (c : Nat) : Resv :=
  let r := if s.reg O.groupSize c = 1 then 8 else 1
  let d := s.reg O.groupDepth c
  let m := s.reg O.groupMedia c
  { ctx := c, kind := s.reg O.groupType c, medium := m, words := (r * d + 7) / 8 * 8, index := (d + 404) / 405 + 2,
    units := if m = 1 then r else 0, place := [], iplace := [] }

/-- The greater of two reservations of one line: space is freed only when the line is (R203). Units are those of its
medium now (R204). -/
def Resv.max (a b : Resv) : Resv :=
  { b with words := Nat.max a.words b.words, index := Nat.max a.index b.index, place := a.place, iplace := a.iplace }

/-- The owner whose banks hold what reservation `r` is of: 2 SIEVE, 3 COOPER; `none` in DDR4. -/
def Resv.owner (r : Resv) : Option Nat := if r.medium = 1 then none else some (if r.kind = 1 then 3 else 2)

/-- Reserved words: medium owner 0 COOPER banks, 1 SIEVE banks, 2 SKEW banks (index records), 3 long-skew region. -/
def reserved (resv : SMap Resv) (k : Nat) : Nat :=
  resv.foldl (fun n x =>
    let r := x.2
    n + if k = 2 then r.index
        else if k = 3 then (if r.medium = 1 then r.words else 0)
        else if r.medium = 0 && r.kind == k + 1 then r.words else 0) 0

/-- The owner of bank `b` keeps it: no handover of it is in progress (R329). -/
def State.bankStays (s : State) (b : Nat) : Bool := !(1 ≤ s.reg O.memBankState b && s.reg O.memBankState b ≤ 3)

/-- The banks of an owner; a bank in handover is none of either of its owners (log entry 89). -/
def State.homeBanks (s : State) (o : Nat) : List Nat :=
  (List.range 256).filter fun b => s.reg O.memBankOwner b % 16 == o && s.bankStays b

/-- Words that banks of an owner, or the long-skew region, hold (R202, R204). -/
def State.space (s : State) (k : Nat) : Nat :=
  if k = 3 then if s.reg O.memDdrLsState = 2 then s.reg O.memDdrLsSize * 2 ^ 20 / 6 else 0
  else 65536 * (s.homeBanks (if k = 0 then 3 else if k = 1 then 2 else 1)).length

/-- All reservations: of lines, of lines that a boundary is to move, and of removed lines whose scrub runs. -/
def State.allResv (s : State) : SMap Resv := s.grp.resv ++ s.grp.moved ++ s.grp.freeing

/-! ### Where reservations lie (R203): the spec gives no place, so a free share of each bank (log entry 89) -/

/-- Words of a list of places, and those in bank `b`. -/
def placedAll (l : List (Nat × Nat)) : Nat := l.foldl (fun n x => n + x.2) 0
def Resv.inBank (r : Resv) (b : Nat) : Nat := placedAll ((r.place ++ r.iplace).filter fun x => x.1 == b)
def placedIn (m : SMap Resv) (b : Nat) : Nat := m.foldl (fun n x => n + x.2.inBank b) 0

/-- `n` words find places in the banks `bs`: a free share of each, and what is then left in their order. -/
def State.findPlace (s : State) (bs : List Nat) (n : Nat) : State × List (Nat × Nat) :=
  let room (b : Nat) : Nat := 65536 - placedIn s.allResv b
  let free := bs.foldl (fun (r : State × List (Nat × Nat) × Nat) b =>
    let k := r.1.freeVal 2 % (min (room b) r.2.2 + 1)
    (r.1.freeTaken, r.2.1 ++ [(b, k)], r.2.2 - k)) (s, [], n)
  let all := free.2.1.foldl (fun (r : List (Nat × Nat) × Nat) x =>
    let k := min (room x.1 - x.2) r.2
    (r.1 ++ [(x.1, x.2 + k)], r.2 - k)) ([], free.2.2)
  (free.1, all.1.filter fun x => x.2 != 0)

/-- Of places in banks of owner `o`, those that still stand, and new ones for what is missing of `n` words. -/
def State.placeWords (s : State) (o n : Nat) (l : List (Nat × Nat)) : State × List (Nat × Nat) :=
  let home := s.homeBanks o
  let kept := l.filter fun x => home.contains x.1
  if n ≤ placedAll kept then (s, kept)
  else
    let r := s.findPlace home (n - placedAll kept)
    (r.1, kept ++ r.2)

/-- A reservation takes its places. -/
def State.placeResv (s : State) (r : Resv) : State × Resv :=
  let w := match r.owner with
    | some o => s.placeWords o r.words r.place
    | none => (s, [])
  let i := w.1.placeWords 1 r.index r.iplace
  (i.1, { r with place := w.2, iplace := i.2 })

/-- Every reservation that lacks places takes them, but that of a line lost with its bank. -/
def State.placeAll (s : State) : State :=
  let s := s.grp.resv.foldl (fun s x =>
    if (s.line x.1).lost then s
    else
      let r := s.placeResv x.2
      { r.1 with grp := { r.1.grp with resv := SMap.insert r.1.grp.resv x.1 r.2 } }) s
  s.grp.moved.foldl (fun s x =>
    let r := s.placeResv x.2
    { r.1 with grp := { r.1.grp with moved := SMap.insert r.1.grp.moved x.1 r.2 } }) s

/-- The key of a line of context `c` that is being scrubbed. -/
def freeKey (c a : Nat) : Nat := 122880 * c + a

/-- GROUP.FREE_WORDS element `k`. -/
def State.freeWords (s : State) (k : Nat) : Nat := s.space k - reserved s.allResv k

/-- GROUP.DDR_UNITS. -/
def State.ddrUnits (s : State) : Nat := s.allResv.foldl (fun n x => n + x.2.units) 0

/-- No two of a list are equal. -/
def distinct (l : List Nat) : Bool := l.eraseDups.length == l.length

/-- The reservations of lines, and of lines on the move, with what the lines of context `c` need (R203). A line that is
in effect in another context keeps its space there until it is scrubbed. -/
def State.resvWith (s : State) (c : Nat) (r : SMap Resv × SMap Resv) : SMap Resv × SMap Resv :=
  if s.reg O.groupType c = 0 then r
  else
    let n := s.needs c
    let grown (m : SMap Resv) (a : Nat) : SMap Resv :=
      SMap.insert m a (match SMap.find? m a with
        | some o => o.max n
        | none => n)
    (s.pendLines c).foldl (fun r a =>
      match SMap.find? r.1 a with
      | some o => if o.ctx = c then (grown r.1 a, r.2) else (r.1, grown r.2 a)
      | none => (grown r.1 a, r.2)) r

/-- The rules of Table 5-5 from 0x0706 on, for context `c` of a pending configuration (R206); 0 when all hold. -/
def State.ctxRules (s : State) (c : Nat) : Nat :=
  let ls := s.pendLines c
  let ty := s.reg O.groupType c
  let m := s.reg O.groupMedia c
  let d := s.reg O.groupDepth c
  let th := s.reg O.groupLateness c
  let mg := s.reg O.groupMargin c
  let sqs := ls.map fun a => s.reg O.groupLineSq a
  let next := s.resvWith c (s.grp.resv, s.grp.moved)
  let all := next.1 ++ next.2 ++ s.grp.freeing
  if ls.any fun a => s.reg O.grainSize (a / 8) != s.reg O.groupSize c then 0x0706
  else if ls.any fun a => s.reg O.portRole (a / 1280) != 0 then 0x070B
  else if 512 < ls.length || !distinct sqs || (ty == 2 && (decide (2 < ls.length) || sqs.any fun q => decide (1 < q)))
    then 0x0707
  else if d < th || d < mg || (m == 1 && (decide (th < 32) || decide (mg < 32)))
      || (ty == 2 && (decide (th < judging m) || decide (mg < judging m)))
      || (s.reg O.groupStart c == 1 && m == 1) || (m == 1 && decide (103712 < d)) || (m == 0 && decide (65536 < d))
    then 0x0708
  else if m = 1 && s.reg O.memDdrLsState ≠ 2 then 0x0703
  else if 1851 < all.foldl (fun n x => n + x.2.units) 0 then 0x0702
  else if (List.range 4).any fun k => k != 2 && decide (s.space k < reserved all k) &&
      decide (reserved s.allResv k < reserved all k) then 0x0701
  else if s.space 2 < reserved all 2 && reserved s.allResv 2 < reserved all 2 then 0x0704
  else 0

/-- The reservations of context `c` follow the accepted pending configuration (R203): lines gain what they need; a
line that was never in effect loses what it had. -/
def State.reserve (s : State) (c : Nat) : State :=
  let ls := s.pendLines c
  let live := s.liveLines c
  let drop (held : List Nat) (m : SMap Resv) : SMap Resv := m.filter fun x =>
    !(x.2.ctx == c && !held.contains x.1 && (!ls.contains x.1 || s.reg O.groupType c == 0))
  let r := s.resvWith c (drop live s.grp.resv, drop [] s.grp.moved)
  { s with grp := { s.grp with resv := r.1, moved := r.2 } }.placeAll

/-- A write to a context object (Table 5-5, R206). -/
def ctxOp (idx c v : Nat) (s : State) : State × Nat :=
  let lt := s.lreg O.groupType c
  let t := s.setReg idx c v
  let busy :=
    if idx = O.groupType then (lt ≠ 0 && v ≠ 0 && v ≠ lt) || (v ≠ 0 && s.reg O.groupMode c = 3)
    else lt ≠ 0 && v ≠ s.reg idx c &&
      (idx = O.groupSize || idx = O.groupMedia || idx = O.groupDepth || idx = O.groupStart)
  if busy then (s, 0x070A)
  else
    let r := if idx = O.groupType && v = 0 then 0 else t.ctxRules c
    if r ≠ 0 then (s, r)
    else
      let t := t.reserve c
      if idx = O.groupMargin && !t.grp.margins.contains c then
        ({ t with grp := { t.grp with margins := c :: t.grp.margins } }, 0)
      else (t, 0)

/-- A write to GROUP.LINE_CTX (Table 5-5): 0xFFFE is a read-only mark (R158). -/
def lineCtxOp (a v : Nat) (s : State) : State × Nat :=
  let old := s.reg O.groupLineCtx a
  if v = 0xFFFE && !s.followerPend a then (s, 0x0310)
  else if v ≠ 0xFFFF && v ≠ 0xFFFE && s.reg O.groupMode v = 3 then (s, 0x070A)
  else if v ≠ 0xFFFF && old < 6144 && old ≠ v then (s, 0x0705)
  else if s.followerPend a then (s, 0x0706)
  else
    let t := s.setReg O.groupLineCtx a v
    if v = 0xFFFF then (if old < 6144 then (t.reserve old, 0) else (t, 0))
    else
      let r := t.ctxRules v
      if r ≠ 0 then (s, r) else (t.reserve v, 0)

/-- A write to GROUP.LINE_SQ. -/
def lineSqOp (a v : Nat) (s : State) : State × Nat :=
  let c := s.reg O.groupLineCtx a
  let t := s.setReg O.groupLineSq a v
  if s.followerPend a then (s, 0x0706)
  else if c < 6144 then
    let r := t.ctxRules c
    if r ≠ 0 then (s, r) else (t, 0)
  else (t, 0)

/-! ## Lines (R182, R183, R190 to R195) -/

/-- E of a context. -/
def State.offset (s : State) (c : Nat) : Int := i48 (s.reg O.groupOffset c)

/-- N − 405 t at round `n` of the current frame (R182). -/
def State.since (s : State) (t n : Nat) : Int := 405 * dist48 t s.clk.fsn + n

/-- Line `a` takes a state of Table 5-1; entering or leaving ALIGNED shows it (R192), and its context has had an ALIGNED
line in this frame (R189). -/
def State.lineState (s : State) (a st : Nat) : State :=
  let old := s.reg O.groupLineState a
  let s := s.setReg O.groupLineState a st
  let c := (s.line a).ctx
  let s := if st = 2 then s.setCtx c { s.ctx c with hadAligned := true } else s
  if (old = 2) ≠ (st = 2) then
    (s.setOct O.groupLineChanged (a / 1280) 160 (a % 1280) true).raise 389
  else s

/-- The frames that a line holds but has not begun to release are released no more: AIS marks from its next release
round on (Table 5-1, log entry 14). -/
def LineS.cutShort (l : LineS) : LineS := { l with buf := l.buf.map fun x => { x with go := false } }

/-- A TPO-A carrying `t` is written into line `a` in round `n` (Table 5-1; R195 and R209: a line out of its window is
LATE or EARLY, log entry 14). -/
def State.lineTpoa (s : State) (a n t : Nat) (ws : List Word) : State :=
  let l := s.line a
  let e := s.offset l.ctx
  let late := s.since t n
  let slack := e - late
  let st := s.reg O.groupLineState a
  let s := s.setReg O.groupLineLateness a (u48 late)
  let ent : LEnt := ⟨t, 0, false, ws, late, false⟩
  let l1 := { l with curT := t, curPos := 1, live := true, lastT := if l.live then some l.curT else none, tpoa := true,
                     traffic := true, late := late, prevIn := none }
  if !(s.ctx l.ctx).started then s.setLine a { l1 with buf := l.buf ++ [ent] }
  else
    let s := s.setReg O.groupLineSlack a (u48 slack)
    let early := decide ((s.lreg O.groupDepth l.ctx : Int) < slack)
    if early || decide (slack < (sMin (s.lreg O.groupMedia l.ctx) : Int)) then
      let l2 := { l1 with live := false }
      (s.setLine a (if st = 2 then l2.cutShort else l2)).lineState a (if early then 4 else 3)
    else if st = 2 then s.setLine a { l1 with prevIn := some t, buf := l.buf ++ [{ ent with go := true }] }
    else
      match l.prevIn with
      | some q =>
        if (q + 1) % M48 = t then
          let ahead := decide (s.since q n < e)
          let first (x : LEnt) : LEnt := if x.t == q && x.pos == 0 && ahead then { x with go := true } else x
          (s.setLine a { l1 with prevIn := some t, buf := l.buf.map first ++ [{ ent with go := true }] }).lineState a 2
        else (s.setLine a { l1 with prevIn := some t, buf := l.buf ++ [ent] }).lineState a 1
      | none => (s.setLine a { l1 with prevIn := some t, buf := l.buf ++ [ent] }).lineState a 1

/-- Every DDR4 channel serves (R348). -/
def State.ddrServes (s : State) : Bool := (List.range 4).all fun c => s.reg O.memDdrChState c == 2

/-- Line `a` has no space to hold words: it presents AIS marks (R205, R348, Table 9-4). -/
def State.lineBlocked (s : State) (l : LineS) : Bool :=
  l.lost || (s.lreg O.groupMedia l.ctx == 1 && !s.ddrServes)

/-- The result of frame `t` reaches its index record (Table 5-4): a frame that a bad word has spoilt stays bad. -/
def LineS.judge (l : LineS) (t : Nat) (good : Bool) : LineS :=
  if SMap.get 0 l.res t = 2 then l else { l with res := SMap.insert l.res t (if good then 1 else 2) }

/-- A unit of the elastic store's read side is written into line `a` in round `n`. -/
def State.lineWrite (s : State) (a n : Nat) (u : SUnit) : State :=
  let u := if s.lineBlocked (s.line a) then SUnit.aisU else u
  let res (s : State) : State :=
    match u.res with
    | some b =>
      let l := s.line a
      match if u.tag = .tpoa || l.curPos = 2 then l.lastT else none with
      | some t => s.setLine a (l.judge t b)
      | none => s
    | none => s
  match u.tag with
  | .tpoa => res (s.lineTpoa a n (u.ws.headD 0).toNat u.ws)
  | .word =>
    let l := s.line a
    if l.live then
      res (s.setLine a { l with curPos := l.curPos + 1, buf := l.buf ++ [⟨l.curT, l.curPos, false, u.ws, l.late,
        false⟩] })
    else s
  | .ais =>
    let l := s.line a
    let buf := if l.live then l.buf ++ [⟨l.curT, l.curPos, true, [], l.late, false⟩] else l.buf
    let s := s.setLine a { l with traffic := false, live := false, prevIn := none, buf := buf }
    if s.reg O.groupLineState a = 2 then s.lineState a 5 else s
  | _ => s

/-- The position due at round `n` under offset `e`: its TSN and its unit within the frame (R182). -/
def State.dueAt (s : State) (n : Nat) (e : Int) : Nat × Nat :=
  let x := (n : Int) - e
  (add48 s.clk.fsn (x / 405), (x % 405).toNat)

/-- The positions that line `l` presents in round `n`: one; in round 404 none when its release has stepped up, two when
it has stepped down (R187), or when it ends with the one word it holds (R211). -/
def State.dues (s : State) (l : LineS) (n : Nat) : List (Nat × Nat) :=
  let e := s.offset l.ctx - l.lag
  if n ≠ 404 then [s.dueAt n e]
  else if l.closing then [s.dueAt n e, s.dueAt n (e - 1)]
  else if 0 < l.d then []
  else if l.d < 0 then [s.dueAt n (e + 1), s.dueAt n e]
  else [s.dueAt n e]

def LineS.at_ (l : LineS) (q : Nat × Nat) : Option LEnt := l.buf.find? fun x => x.t == q.1 && x.pos == q.2

/-- The flags of R194 for a frame that an ALIGNED Cooper line presents. -/
def State.lineFlags (s : State) (a : Nat) (tpob : Nat) : State :=
  let l := s.line a
  let sq := s.lreg O.groupLineSq a
  let last := (s.liveLines l.ctx).all fun b => decide (s.lreg O.groupLineSq b ≤ sq)
  let f := b2n (bits tpob 15 7 != sq) + 2 * b2n (!bit tpob 5) + 4 * b2n (bit tpob 4 != last)
  let old := s.reg O.groupLineFlags a
  let s := s.setReg O.groupLineFlags a f
  if (List.range 3).any fun i => bit f i && !bit old i then s.raise 390 else s

/-- Line `a` presents the unit due at `q`: at its release round a frame that the line was ALIGNED for begins, and any
other gives AIS marks; a frame that began goes out up to its first AIS-marked word (Table 5-1). -/
def State.lineOut (s : State) (a : Nat) (q : Nat × Nat) : State × SUnit :=
  let l := s.line a
  let keep := l.buf.filter fun x => !(x.t == q.1 && x.pos == q.2) &&
    (precedes48 q.1 x.t || (x.t == q.1 && decide (q.2 < x.pos)))
  let res := if q.2 = 0 then l.res.filter fun x => !precedes48 x.1 q.1 else l.res
  match l.at_ q with
  | none =>
    let on := l.releasing && q.2 != 0
    (s.setLine a { l with buf := keep, res := res, releasing := on }, if on then .emptyU else .aisU)
  | some x =>
    let on := !x.ais && if q.2 = 0 then x.go else l.releasing
    let s := s.setLine a { l with buf := keep, res := res, releasing := on }
    if !on then (s, .aisU)
    else
      let at_ := if s.major a then 0 else 1
      let s := if s.reg O.groupLineState a = 2 && (s.ctx l.ctx).kind = 1 && q.2 = at_ then
          s.lineFlags a (x.ws.getD (1 - at_) 0).toNat
        else s
      (s, ⟨if q.2 = 0 then .tpoa else .word, x.ws, none⟩)

/-! ## Sieve (R196 to R201) -/

/-- The rank of a copy for TSN `t` (Table 5-3): 3 GOOD, 2 UNJUDGED, 1 BAD, 0 NONE; and whether its slack reaches J. -/
def State.copyRank (s : State) (a : Nat) (t : Nat) (e : Int) (j : Nat) : Nat × Bool :=
  let l := s.line a
  match l.at_ (t, 0) with
  | none => (0, false)
  | some x =>
    let ais := l.buf.any fun y => y.t == t && y.ais
    let enough := decide ((j : Int) ≤ e - x.a)
    let r := SMap.get 0 l.res t
    if !x.go || x.ais || ais then (0, enough)
    else if !enough || r = 0 then (2, enough)
    else if r = 1 then (3, enough) else (1, enough)

/-- The PREF and SENDER that a plane preference word shows (R198, R217): none where SENDER is 0b00 or 0b11 or PREF is
0b11. -/
def prefOf (w : Nat) : Nat :=
  let snd := bits w 45 44
  let pr := bits w 47 46
  if snd = 0 || snd = 3 || pr = 3 then 0 else pr

/-- Port `p` can supply PREF (R198). -/
def State.prefPort (s : State) (p : Nat) : Bool :=
  decide (3 ≤ s.reg O.portAlignState p) && s.reg O.portVersion p / 16 == 2 && (s.linkP p).pref.acc

/-- PREF in force for TSN `t` at port `p`. -/
def State.prefAt (s : State) (p t : Nat) : Nat :=
  let w := s.reg O.portRxPref p
  if (t % 2 ^ 32 + 2 ^ 32 - w % 2 ^ 32) % 2 ^ 32 < 2 ^ 31 then prefOf w else prefOf (s.linkP p).prefOld

/-- The preferred copy for TSN `t` (R198), and the PREF that is kept. -/
def State.preferred (s : State) (c a0 a1 t : Nat) : Nat × Nat :=
  let m := s.lreg O.groupPrefMode c
  let x := s.ctx c
  let p0 := a0 / 1280
  let p1 := a1 / 1280
  let pr := if s.prefPort p0 then s.prefAt p0 t else if s.prefPort p1 then s.prefAt p1 t else x.prefLast
  let snd (p : Nat) : Nat := bits (s.reg O.portRxPref p) 45 44
  if m = 0 then (0, pr) else if m = 1 then (1, pr)
  else if pr = 0 then (0, pr)
  else if snd p0 = pr then (0, pr) else if snd p1 = pr then (1, pr) else (0, pr)

/-- Sieve chooses the copy of TSN `t` at its release (R197, R199, R200). -/
def State.sieveChoose (s : State) (c a0 a1 t : Nat) (e : Int) : State :=
  let j := judging (s.lreg O.groupMedia c)
  let r0 := s.copyRank a0 t e j
  let r1 := s.copyRank a1 t e j
  let pf := s.preferred c a0 a1 t
  let pick :=
    if r0.1 = 0 && r1.1 = 0 then 2
    else if !r0.2 && r0.1 = 2 then (if r1.1 = 3 then 1 else 0)
    else if r1.1 < r0.1 then 0 else if r0.1 < r1.1 then 1 else pf.1
  let rank := if pick = 0 then r0.1 else if pick = 1 then r1.1 else 0
  let k := if pick = 2 then 3 else if rank = 3 then pick else 2
  let s := (s.bump O.groupSieveStats (4 * c + k) 48).tally (68 + k) 1
  let s := if 2 ≤ k then s.raise 391 else s
  let x := s.ctx c
  s.setCtx c { x with chosen := some (t, pick), chosenPrev := x.chosen, prefLast := pf.2 }

/-- The unit that a Sieve pair releases at `q`: TPO-B comes from the copy chosen for the frame before (R197). -/
def State.sieveOut (s : State) (c a0 a1 : Nat) (q : Nat × Nat) (e : Int) : State × SUnit :=
  let s := if q.2 = 0 then s.sieveChoose c a0 a1 q.1 e else s
  let x := s.ctx c
  let at_ (k : Nat) : Option LEnt := (if k = 0 then s.line a0 else if k = 1 then s.line a1 else .init).at_ q
  let pick := match x.chosen with
    | some (t, k) => if t = q.1 then k else 2
    | none => 2
  let prev := match x.chosenPrev with
    | some (t, k) => if (t + 1) % M48 = q.1 ∧ k < 2 then some k else none
    | none => none
  let maj := s.major a0
  let s' := (s.lineOut a0 q).1
  let s' := (s'.lineOut a1 q).1
  let frm (k : Nat) : Option (List Word) :=
    match at_ k with
    | some y => if y.ais then none else some y.ws
    | none => none
  let base := frm pick
  let tpob := match prev with
    | some k => (frm k).orElse fun _ => base
    | none => base
  if pick = 2 then (s', .aisU)
  else
    match base with
    | none => (s', .aisU)
    | some ws =>
      let ws := if maj then
          if q.2 = 0 then match tpob with
            | some b => ws.take 1 ++ (b.drop 1).take 1 ++ ws.drop 2
            | none => ws
          else ws
        else if q.2 = 1 then tpob.getD ws else ws
      (s', ⟨if q.2 = 0 then .tpoa else .word, ws, none⟩)

/-! ## A round of the group stage (R179 to R181) -/

/-- The step of E takes effect at round 404 (R187), and each line's release follows it. A line that E is ahead of comes
nearer by a step of its own, or stands where it is while E comes back. -/
def State.ctxStep (s : State) (c : Nat) : State :=
  let x := s.ctx c
  let s := s.setReg O.groupOffset c (u48 (s.offset c + x.step))
  let s := s.setCtx c { x with step := 0, slew := false }
  let line (l : LineS) : LineS :=
    if l.ctx ≠ c then l
    else if l.closing then { l with lag := l.lag + x.step, d := 0 }
    else if x.step < 0 && 0 < l.lag then { l with lag := l.lag - 1, d := 0 }
    else if x.step = 0 && x.slew && 0 < l.lag then { l with lag := l.lag - 1, d := 1 }
    else { l with d := x.step }
  { s with grp := { s.grp with lines := s.grp.lines.map fun y => (y.1, line y.2) } }

/-- The grain of copy `k` of a Sieve context in effect. -/
def State.copyGrain (s : State) (c k : Nat) : Nat :=
  ((s.liveLines c).find? fun a => s.lreg O.groupLineSq a == k).getD noSrc

/-- The units of positions in turn. -/
def State.outs (s : State) (f : State → Nat × Nat → State × SUnit) (qs : List (Nat × Nat)) : State × List SUnit :=
  qs.foldl (fun (r : State × List SUnit) q =>
    let o := f r.1 q
    (o.1, r.2 ++ [o.2])) (s, [])

/-- What grain `a` gives its slot in round `n` after the group stage: the slot of copy 1 of a Sieve pair carries IDLE
(R179); before E is known, and where a line presents nothing, AIS marks. -/
def State.groupOut (s : State) (a n : Nat) (us : List SUnit) : State × List SUnit :=
  match SMap.find? s.grp.lines a with
  | none => (s, us)
  | some l =>
    let s := us.foldl (fun s u => s.lineWrite a n u) s
    let l := { s.line a with closing := l.closing }
    let x := s.ctx l.ctx
    let qs := s.dues l n
    let full (r : State × List SUnit) : State × List SUnit := if r.2.isEmpty then (r.1, [SUnit.emptyU]) else r
    if l.closing then
      let r := s.outs (fun s q => s.lineOut a q) qs
      if n = 404 then ({ r.1 with grp := { r.1.grp with lines := SMap.erase r.1.grp.lines a } }, r.2) else r
    else if x.kind = 2 && l.copy ≠ 0 then (s, [])
    else if !x.started then (s, [.aisU])
    else if x.kind = 2 then
      full (s.outs (fun s q => s.sieveOut l.ctx a (s.copyGrain l.ctx 1) q (s.offset l.ctx)) qs)
    else full (s.outs (fun s q => s.lineOut a q) qs)

/-! ## A frame of the group stage (R184 to R189) -/

/-- This device's FSN is tied to network time: it sends TB = 1 (R184, R288). -/
def State.tied (s : State) : Bool := s.reg O.refTied == 1

/-- Both conditions of R184 hold for a context. -/
def State.coherentOk (s : State) (c : Nat) : Bool :=
  s.tied && (s.liveLines c).all fun a =>
    let p := a / 1280
    s.reg O.portVersion p == 0x22 && (s.linkP p).ql.acc && bit (s.reg O.portRxQl p) 43

/-- The slack of the latest ALIGNED line of a context (R186). -/
def State.latest (s : State) (c : Nat) : Option Int :=
  (s.liveLines c).foldl (fun m a =>
    if s.reg O.groupLineState a = 2 then
      let k := s.offset c - (s.line a).late
      match m with
      | some y => some (if k < y then k else y)
      | none => some k
    else m) none

/-- The greatest lateness among lines that presented a TPO-A in this frame. -/
def State.worstLate (s : State) (c : Nat) : Option Int :=
  (s.liveLines c).foldl (fun m a =>
    let l := s.line a
    if l.tpoa then
      match m with
      | some y => some (if y < l.late then l.late else y)
      | none => some l.late
    else m) none

/-- The release of a line under a captured offset `e`: AIS marks in this frame, and a JOINING line judges the frame that
it is writing by its slack under `e` (log entry 14). -/
def State.lineCapture (s : State) (a : Nat) (e : Int) : State :=
  let l := s.line a
  let slack := e - l.late
  let inside := l.tpoa && l.live && s.reg O.groupLineState a == 1 &&
    decide ((sMin (s.lreg O.groupMedia l.ctx) : Int) ≤ slack) && decide (slack ≤ (s.lreg O.groupDepth l.ctx : Int))
  let s := if l.tpoa then s.setReg O.groupLineSlack a (u48 slack) else s
  s.setLine a { l.cutShort with releasing := false, lag := 0, d := 0, prevIn := if inside then some l.curT else none }

/-- E is captured: the greatest lateness plus GROUP.MARGIN (R189, R208). R187 does not apply: the spacing of steps runs
on (log entry 87). -/
def State.capture (s : State) (c : Nat) : State :=
  match s.worstLate c with
  | none => s
  | some w =>
    let e := w + s.lreg O.groupMargin c
    let x := s.ctx c
    let s := (s.setReg O.groupOffset c (u48 e)).setReg O.groupTarget c (u48 e)
    let s := s.setCtx c { x with started := true, h := s.lreg O.groupMargin c, noAligned := 0, step := 0,
                                 slew := false }
    (s.liveLines c).foldl (fun s a => s.lineCapture a e) s

/-- A context that started in TRACKING captures E in the first frame in which a line presents a TPO-A (R208), as the
frame's rounds end. -/
def State.captures (s : State) : State :=
  s.grp.ctxs.foldl (fun s x => if x.2.kind = 0 || x.2.started then s else s.capture x.1) s

/-- A context changes mode (R184, R186, R213). -/
def State.ctxMode (s : State) (c m : Nat) : State :=
  let x := s.ctx c
  let h := match s.latest c with
    | some k => k
    | none => (s.lreg O.groupMargin c : Int)
  let s := s.setCtx c { x with h := if m = 2 then h else x.h, noAligned := 0, cond := 0 }
  (s.setReg O.groupMode c m).raise 394

/-- E* (R185, R186). -/
def State.targetOf (s : State) (c : Nat) : Int :=
  let e := s.offset c
  let x := s.ctx c
  if s.reg O.groupMode c = 1 then s.lreg O.groupLateness c
  else match s.latest c with
    | none => e
    | some k => if k < x.h - 2 then e + 1 else if x.h + 2 < k then e - 1 else e

/-- A running context at a local frame start. -/
def State.ctxFrame (s : State) (c : Nat) : State :=
  let x := s.ctx c
  if x.kind = 0 then s
  else
    let ok := s.coherentOk c
    let s := s.setCtx c { x with cond := if ok then x.cond + 1 else 0 }
    let s := if s.reg O.groupMode c = 1 && !ok then s.ctxMode c 2 else s
    let aligned := (s.latest c).isSome
    let x := s.ctx c
    let s := s.setCtx c { x with noAligned := if aligned || x.hadAligned then 0 else x.noAligned + 1
                                 hadAligned := aligned, bar := x.bar - 1 }
    let t := s.targetOf c
    let s := s.setReg O.groupTarget c (u48 t)
    let e := s.offset c
    let y := s.ctx c
    if !x.started || y.bar ≠ 0 then s
    else if t ≠ e then s.setCtx c { y with step := if e < t then 1 else -1, bar := 4 }
    else if s.grp.lines.any fun l => l.2.ctx == c && decide (0 < l.2.lag) then
      s.setCtx c { y with slew := true, bar := 4 }
    else s

/-- The lines forget the frame's TPO-A at a local frame start. -/
def State.linesFrame (s : State) : State :=
  { s with grp := { s.grp with lines := s.grp.lines.map fun x => (x.1, { x.2 with tpoa := false }) } }

/-- Every context at a local frame start. -/
def State.groupFrame (s : State) : State :=
  (s.grp.ctxs.foldl (fun s x => s.ctxFrame x.1) s).linesFrame

/-! ## Lines and contexts at a boundary (R207, R208, R211) -/

/-- The Assayer has faulted port `p` (R422); a port faulted by the unwatched rule has no cause (R243). -/
def State.assayFaulted (s : State) (p : Nat) : Bool :=
  s.octReg O.protPortFaulted 0 12 p && s.reg O.assayPortCause p != 0

/-- The source of grain `a` carries traffic: its store is read, and no fault of its port makes it AIS (R208, R422). -/
def State.bringsTraffic (s : State) (a : Nat) : Bool := (s.rxG a).reading && !s.assayFaulted (a / 1280)

/-- Grain `a` becomes a line of context `c` (Table 5-1 NONE to JOINING), on the space reserved for it there. -/
def State.lineStart (s : State) (c a : Nat) : State :=
  let l : LineS := { LineS.init with ctx := c, copy := s.lreg O.groupLineSq a, traffic := s.bringsTraffic a }
  let g := s.grp
  let g := match SMap.find? g.moved a with
    | some r => { g with resv := SMap.insert g.resv a r, moved := SMap.erase g.moved a }
    | none => g
  ({ s with grp := { g with lines := SMap.insert g.lines a l } }).lineState a 1

/-- Line `a` goes on with its source under offset `e`: it stands at the word that its source presents next until round
404 of the boundary frame, and comes to `e` by steps of its own (R208, R209; log entry 88). -/
def State.slewLine (s : State) (e : Int) (a : Nat) : State :=
  let g := s.rxG a
  let s := (s.setReg O.groupLineLateness a (u48 g.outA)).setReg O.groupLineSlack a (u48 (e - g.outA))
  (s.setLine a { s.line a with
    live := true, curT := g.outT, curPos := g.outPos, releasing := true, prevIn := some g.outT
    late := g.outA, lag := e - (s.since g.outT 0 - g.outPos) }).lineState a 2

/-- A slewed start (R208): the lines `ls` go on with their sources, and E starts at a + 1 for the latest. A Sieve pair
goes on with copy 0 where that carries traffic (R209). -/
def State.slewStart (s : State) (c : Nat) (ls : List Nat) : State :=
  let a := ls.foldl (fun (m : Int) x => if m < (s.rxG x).outA then (s.rxG x).outA else m) (s.rxG (ls.headD 0)).outA
  let s := s.setReg O.groupOffset c (u48 (a + 1))
  let x := s.ctx c
  let go := match ls.find? fun y => s.lreg O.groupLineSq y == 0 with
    | some y => if x.kind = 2 then some ((s.rxG y).outT, 0) else none
    | none => none
  let before := go.map fun q => ((q.1 + (M48 - 1)) % M48, 0)
  let s := s.setCtx c { x with started := true, slew := true, h := s.lreg O.groupMargin c, chosen := go
                               chosenPrev := before }
  ls.foldl (fun s y => s.slewLine (a + 1) y) s

/-- A context starts at a boundary (R208). -/
def State.ctxStart (s : State) (c : Nat) : State :=
  let coh := s.coherentOk c
  let ls := s.liveLines c
  let s := s.setCtx c { CtxS.init with kind := s.lreg O.groupType c, h := s.lreg O.groupMargin c, bar := 4 }
  let s := s.setReg O.groupMode c (if coh then 1 else 2)
  let run := ls.filter s.bringsTraffic
  if s.lreg O.groupStart c = 1 && !run.isEmpty then s.slewStart c run
  else if coh then
    let th := s.lreg O.groupLateness c
    let x := s.ctx c
    ((s.setReg O.groupOffset c th).setReg O.groupTarget c th).setCtx c { x with started := true }
  else s

/-- Line `a` of its context stops (R211). A line that holds one word gives it as the frame's overflow word, which is
hitless; else the held words are discarded, and the generators it feeds see a restart. Its words are then scrubbed, and
its reservation is freed on LINE_FREED. -/
def State.lineStop (s : State) (a : Nat) : State :=
  let l := s.line a
  let one := s.reg O.groupLineState a = 2 && l.releasing && s.offset l.ctx - l.lag - l.late = 1
  let s := s.lineState a 0
  let g := s.grp
  let g := match SMap.find? g.resv a with
    | some r => { g with resv := SMap.erase g.resv a, freeing := SMap.insert g.freeing (freeKey r.ctx a) r }
    | none => g
  if one then { s with grp := { g with lines := SMap.insert g.lines a { l with closing := true } } }
  else { s with grp := { g with lines := SMap.erase g.lines a, cut := a :: g.cut } }

/-- A context stops (R211). -/
def State.ctxStop (s : State) (c : Nat) : State :=
  let busy := s.grp.freeing.any fun x => x.2.ctx == c
  (s.setCtx c { s.ctx c with kind := 0, step := 0, slew := false }).setReg O.groupMode c (if busy then 3 else 0)

/-- GROUP.MARGIN as written since the last boundary takes effect on a running context (R186, R210). -/
def State.marginsDue (s : State) : State :=
  let s' := s.grp.margins.foldl (fun s c =>
    let x := s.ctx c
    if x.kind = 0 then s else s.setCtx c { x with h := s.lreg O.groupMargin c }) s
  { s' with grp := { s'.grp with margins := [] } }

/-- The words and index records of a removed line become zero (R211 step 4). Which words of the banks they are is open:
a bit of a free value for each (log entry 89). -/
def State.lineScrub (s : State) (r : Resv) : State :=
  let z := s.freeVal 9
  let mine (k : Nat) : Bool :=
    let o := s.reg O.memBankOwner (k / 65552) % 16
    (o == 1 || some o == r.owner) && z.testBit k
  { s.freeTaken with mem := { s.mem with bank := s.mem.bank.filter fun x => !mine x.1 } }

/-- The scrub of removed line `a` completes: its reservation is free, and its context may leave FREEING (R211). -/
def State.lineFreedOp (s : State) (a : Nat) : State :=
  match s.grp.freeing.find? fun x => x.1 % 122880 == a with
  | none => s
  | some (k, r) =>
    let s := s.lineScrub r
    let s := { s with grp := { s.grp with freeing := SMap.erase s.grp.freeing k } }
    let c := r.ctx
    if s.reg O.groupMode c = 3 && !(s.grp.freeing.any fun x => x.2.ctx == c) then
      (s.setReg O.groupMode c 0).raise 393
    else s

/-- A line loses what it holds and goes to AIS. -/
def State.lineLost (s : State) (a : Nat) (lost : Bool) : State :=
  let l := s.line a
  (s.setLine a { l with buf := [], releasing := false, prevIn := none, live := false, lost := l.lost ||
    lost }).lineState a 5

/-- Every line of every DDR4 context goes to AIS, and event 392 is raised (R205). -/
def State.ddrLinesAis (s : State) : State :=
  let ls := s.grp.lines.filter fun x => s.lreg O.groupMedia x.2.ctx == 1
  if ls.isEmpty then s else (ls.foldl (fun s x => s.lineLost x.1 false) s).raise 392

/-- LINE_LATE (Table 5-1): the TPO-A of the next frame has not been written by its deadline. That frame gives AIS marks
from its release round, where no TPO-A stands. -/
def State.lineLateOp (s : State) (a : Nat) : State :=
  let l := s.line a
  let t := (l.curT + 1) % M48
  let e := s.offset l.ctx
  let m := (sMin (s.lreg O.groupMedia l.ctx) : Int)
  if s.reg O.groupLineState a = 2 && decide (e - m ≤ s.since t s.clk.round - 1) then
    (s.setLine a { l.cutShort with live := false, prevIn := none }).lineState a 3
  else s

/-! ## Words read with an error (R205) -/

/-- A word of a line that `mine` admits is read with an uncorrectable error: it is released as read, and its frame is
bad. Which line's word it is, if any, and how it reads are free values. `record`: an index record instead, whose RES is
then open (log entry 89). -/
def State.spoil (s : State) (mine : LineS → Bool) (record : Bool) : State :=
  let held := (s.grp.lines.filter fun x => mine x.2).flatMap fun x =>
    (x.2.buf.filter fun y => !y.ais).map fun y => (x.1, y)
  let w : Word := BitVec.ofNat 48 (s.freeVal 11)
  let j := s.freeVal 12
  let pick := held[s.freeVal 10 % (held.length + 1)]?
  let s := s.freeTaken
  match pick with
  | none => s
  | some (a, y) =>
    let l := s.line a
    if record then s.setLine a { l with res := SMap.set 0 l.res y.t (j % 3) }
    else
      let bad (x : LEnt) : LEnt := if x == y then { x with ws := x.ws.set (j % x.ws.length) w } else x
      s.setLine a { l with buf := l.buf.map bad, res := SMap.insert l.res y.t 2 }

/-- Reservations lie in the banks of owner `o`, so that lines hold words or index records there. -/
def State.lined (s : State) (o : Nat) : Bool := s.allResv.any fun x => o == 1 || x.2.owner == some o

end Sys2Proof.Machine
end

