-- ==== Sys2Proof/Machine/Memory.lean ====
section
/-! DEFINITION. The bank pool, its owners and its code, and DDR4 (chapter 9). -/

namespace Sys2Proof.Machine

/-! ## The SECDED code of a bank word (R323, Table 9-1) -/

/-- Hamming positions of D[0] to D[47]: those of 1 to 54 that are no power of two. -/
def dataPos : List Nat := ((List.range 55).drop 3).filter fun p => p ≠ 4 && p ≠ 8 && p ≠ 16 && p ≠ 32

/-- XOR of the numbers of the positions that hold a one; bit p − 1 of `c` is position p. -/
def syndrome (c : Nat) : Nat := foldRange 54 (fun a i => if c.testBit i then a ^^^ (i + 1) else a) 0

/-- Parity of the 54 positions and C[6]. -/
def parity55 (c : Nat) : Bool := popCount 55 c % 2 == 1

/-- Data bits in their positions. -/
def spread (d : Nat) : Nat :=
  (dataPos.foldl (fun (r : Nat × Nat) p => (putBit r.1 (p - 1) (d.testBit r.2), r.2 + 1)) (0, 0)).1

/-- The data bits of a code word. -/
def dataOf (c : Nat) : Nat :=
  (dataPos.foldl (fun (r : Nat × Nat) p => (putBit r.1 r.2 (c.testBit (p - 1)), r.2 + 1)) (0, 0)).1

/-- The code word of 48 data bits. -/
def eccEnc (d : Nat) : Nat :=
  let c := spread d
  let s := syndrome c
  let c := foldRange 6 (fun c i => putBit c (2 ^ i - 1) (s.testBit i)) c
  putBit c 54 (parity55 c)

/-- What a read of a code word finds: the data, whether it was corrected, whether it cannot be, S and P. -/
structure EccR where
  d : Nat
  fixed : Bool
  bad : Bool
  s : Nat
  p : Bool
deriving DecidableEq, Repr

/-- Table 9-1. -/
def eccDec (c : Nat) : EccR :=
  let s := syndrome c
  let p := parity55 c
  if s = 0 then ⟨dataOf c, p, false, s, p⟩
  else if p && s ≤ 54 then ⟨dataOf (c ^^^ 2 ^ (s - 1)), true, false, s, p⟩
  else ⟨dataOf c, false, true, s, p⟩

/-! ## Words of a bank -/

/-- The place of word `w` of bank `b` in State.mem.bank: a fenced word stands in its spare (R336). -/
def State.bankSlot (s : State) (b w : Nat) : Nat :=
  let f := SMap.get 0 s.mem.fence (b * 65536 + w)
  b * 65552 + (if 65536 ≤ w then w else if f = 0 then w else 65536 + (f - 1))

def State.bankCode (s : State) (b w : Nat) : Nat := SMap.get 0 s.mem.bank (s.bankSlot b w)

/-- A code word is stored; a write-back of the word that waits is dropped (R325). -/
def State.bankStore (s : State) (b w c : Nat) : State :=
  let known := if s.mem.opened.contains b then SMap.set 0 s.mem.settled (s.bankSlot b w) 1 else s.mem.settled
  { s with mem := { s.mem with bank := SMap.set 0 s.mem.bank (s.bankSlot b w) c
                               settled := known
                               back := s.mem.back.filter fun x => x != (b, w) } }

/-- A word is written with its check bits. -/
def State.bankPut (s : State) (b w d : Nat) : State := s.bankStore b w (eccEnc (d % M48))

/-- An error of a bank word is counted, logged, reported and raised (R325, Table 9-7). -/
def State.bankErr (s : State) (b w : Nat) (r : EccR) : State :=
  let e := b * 2 ^ 40 + w % 65536 * 2 ^ 24 + r.s * 2 ^ 18 + b2n r.p * 2 ^ 17 + b2n r.bad * 65536 + s.clk.fsn % 65536
  let l := s.mem.ecc ++ [e]
  let s := { s with mem := { s.mem with ecc := if 16 < l.length then l.drop 1 else l } }
  let s := if r.bad then (s.bump O.memBankUe b 32).raise 449
           else (s.bump O.memBankCe b 32).raiseLim 448 b (msTicks 1)
  s.assayError 0 (resOf 4 (b * 65536 + w % 65536))

/-- What stands in word `w` of bank `b`. Where a function of the device has written words of a layout that the spec does
not give, a free word: lines and index records (R326), which the data plane writes all the time; the Wheelwright's lists
and the Ledger's image, whose words are settled as they are first read or written (log entry 89). -/
def State.bankHolds (s : State) (b w : Nat) : State × Nat :=
  let o := s.reg O.memBankOwner b % 16
  let c := eccEnc (s.freeVal 13 % M48)
  if 1 ≤ o && o ≤ 3 && s.lined o then (s.freeTaken, c)
  else if s.mem.opened.contains b && SMap.get 0 s.mem.settled (s.bankSlot b w) = 0 then (s.freeTaken.bankStore b w c, c)
  else (s, s.bankCode b w)

/-- A read of a word that `flip` disturbs: what it finds. A corrected word waits for its write-back. -/
def State.bankRead (s : State) (b w flip : Nat) : State × EccR :=
  let x := s.bankHolds b w
  let s := x.1
  let c := x.2 ^^^ flip % 2 ^ 55
  let r := eccDec c
  if !r.fixed && !r.bad then (s, r)
  else
    let s := s.bankStore b w c
    let s := if r.fixed then { s with mem := { s.mem with back := s.mem.back ++ [(b, w)] } } else s
    (s.bankErr b w r, r)

/-- The idle cycle of a corrected word (R325). -/
def State.writeBack (s : State) (b w : Nat) : State :=
  if s.mem.back.contains (b, w) then (s.bankPut b w (eccDec (s.bankCode b w)).d).tally 75 1 else s

/-! ## Fences and retirement (R336 to R338) -/

/-- The first empty entry of MEM.FENCE_LIST. -/
def State.fenceFree (s : State) : Option Nat := (List.range 4352).find? fun i => s.reg O.memFenceList i == 0xFFFFFFFF

/-- Fences and retirements of MEM.FENCE_LIST take effect in list order (R338, R339). -/
def State.fenceApply (s : State) : State :=
  let l := ((List.range 4352).map fun i => s.reg O.memFenceList i).filter fun v => v != 0xFFFFFFFF
  let s := { s with mem := { s.mem with fence := [] } }
  l.foldl (fun s v =>
    let b := bits v 23 16
    if bit v 24 then s.setReg O.memBankOwner b 15
    else
      let n := s.reg O.memBankFenced b
      let s := { s with mem := { s.mem with fence := SMap.set 0 s.mem.fence (v % 2 ^ 24) (n + 1) } }
      s.setReg O.memBankFenced b (n + 1)) s

/-- Banks whose MEM.BANK_OWNER reads owner `o`. -/
def State.ownerBanks (s : State) (o : Nat) : List Nat := (List.range 256).filter fun b => s.reg O.memBankOwner b == o

/-- The lowest-numbered NONE bank goes to an owner at once (R328, Table 9-4): event 459, or the owner is short. -/
def State.takeNone (s : State) (o : Nat) : State :=
  match ((s.ownerBanks 0).filter s.bankStays).head? with
  | some b => (s.setReg O.memBankOwner b o).raise 459
  | none => (s.setReg O.memOwnerShort 0 (putBit (s.reg O.memOwnerShort) o true)).raise 459

/-- A cut in progress is abandoned unsealed; it consumes no number (R488). -/
def State.cutAbandon (s : State) : State :=
  if s.led.cutting then
    let s := { s with led := { s.led with cutting := false, image := [] } }
    (s.setReg O.ledgerExportState 0 0).actEnd 1
  else s

/-- Lines whose words or index records stood in retired bank `b` present AIS marks. -/
def State.loseLines (s : State) (b : Nat) : State :=
  s.grp.lines.foldl (fun s x =>
    match SMap.find? s.grp.resv x.1 with
    | some r => if r.inBank b = 0 then s else s.lineLost x.1 true
    | none => s) s

/-- A retirement asks for a boundary of its own when no commit stands (R477). -/
def State.retireCommit (s : State) : State :=
  if s.reg O.mapState == 0 && s.sys.mode.commits then s.repairCommit 2 else s

/-- An empty entry of MEM.FENCE_LIST takes `v`, when there is one; event 460 when that fills the list. -/
def State.fencePut (s : State) (v : Nat) : State :=
  match s.fenceFree with
  | some i =>
    let s := s.setReg O.memFenceList i v
    if s.fenceFree.isNone then s.raise 460 else s
  | none => s

/-- The trace run ends in state `v`: 0 IDLE, 2 FULL; its token is free (R441). -/
def State.traceEnd (s : State) (v : Nat) : State :=
  if s.tal.run then
    (({ s with tal := { s.tal with run := false, ending := false,
                                   waiting := [] } }).setReg O.tallyTraceState 0 v).actEnd 6 else s

/-- What the owner `o` of retired bank `b` loses (Table 9-4; a trace run ends by R441). -/
def State.retireFrom (s : State) (o b : Nat) : State :=
  match o with
  | 0 => s
  | 1 => (s.loseLines b).retireCommit
  | 2 => (s.loseLines b).retireCommit
  | 3 => (s.loseLines b).retireCommit
  | 4 =>
    let s := if s.reg O.mapState == 1 then s.commitEnd 0x060A else s
    if decide ((s.ownerBanks 4).length < 4) then s.takeNone 4 else s
  | 5 => s.cutAbandon
  | 6 => s.traceEnd 0
  | _ => s

/-- Bank `b` is retired (R337, Table 9-4): event 451. -/
def State.retireBank (s : State) (b : Nat) : State :=
  let o := s.reg O.memBankOwner b
  if o = 15 then s
  else
  let s := ((s.setReg O.memBankOwner b 15).setReg O.memBankState b 4).setReg O.memBankTarget b 0
  let s := s.fencePut (2 ^ 24 + b * 65536)
  let s := { s with mem := { s.mem with scrub := s.mem.scrub.filter fun x => x != b } }
  (s.raise 451).retireFrom o b

/-- Word `w` of bank `b` is fenced with its last good value (R336): event 450; a bank that can fence no more is
retired. -/
def State.fenceWord (s : State) (b w : Nat) : State :=
  let n := s.reg O.memBankFenced b
  let fenced := SMap.get 0 s.mem.fence (b * 65536 + w) ≠ 0
  if fenced || 16 ≤ n || 65536 ≤ w then s.retireBank b
  else
    match s.fenceFree with
    | none => s.retireBank b
    | some _ =>
      let d := (eccDec (s.bankCode b w)).d
      let s := s.fencePut (b * 65536 + w)
      let s := s.setReg O.memBankFenced b (n + 1)
      let s := { s with mem := { s.mem with fence := SMap.set 0 s.mem.fence (b * 65536 + w) (n + 1) } }
      (s.bankPut b w d).raise 450

/-- The retired lines' reservations are placed again at a boundary where their owner has room (Table 9-4); else the
owner that lacks it is short: SKEW for index records, SIEVE or COOPER for words. -/
def State.placeLost (s : State) : State :=
  (s.grp.lines.foldl (fun s x =>
    if !x.2.lost then s
    else
      let k := (s.ctx x.2.ctx).kind
      let held := s.allResv.filter fun r => r.1 % 122880 == x.1 || !(s.line (r.1 % 122880)).lost
      let room (j : Nat) : Bool := decide (reserved held j ≤ s.space j)
      let index := room 2
      let words := s.lreg O.groupMedia x.2.ctx == 1 || room (if k == 2 then 1 else 0)
      let short (c : Nat) (b : Bool) (s : State) : State :=
        if b then s else s.setReg O.memOwnerShort 0 (putBit (s.reg O.memOwnerShort) c true)
      if index && words then (s.setLine x.1 { x.2 with lost := false }).lineState x.1 1
      else short 1 index (short (if k == 2 then 2 else 3) words s)) s).placeAll

/-- Bits of MEM.OWNER_SHORT clear once every line of that owner has been placed (Table 9-4); `placeLost` then sets
those of owners that still lack room for a line. -/
def State.shortClear (s : State) : State := s.setReg O.memOwnerShort 0 (s.reg O.memOwnerShort / 16 * 16)

/-! ## Handover (R329 to R331) -/

/-- Bank `b` starts to drain (R329 step 2): accesses issued before complete; the owner is a former owner from now on
(R330). -/
def State.startDrain (s : State) (b : Nat) : State :=
  let mine (x : Txn) : Bool := x.target == 2 && x.addr % 0x8000000 / 2 ^ 19 == b
  let s := { s with
    mem := { s.mem with former := SMap.set 0 s.mem.former b (s.reg O.memBankOwner b % 16 + 1) }
    mtx := { s.mtx with txns := s.mtx.txns.map fun x => if mine x then { x with early := true } else x } }
  s.setReg O.memBankState b 2

/-- Bank `b` is held by the owner awaited: event 452. A bank that leaves TALLY for RETIRED ends the trace run (R338,
R441). -/
def State.handoverDone (s : State) (b : Nat) : State :=
  let o := s.reg O.memBankTarget b
  let s := if o = 15 && s.reg O.memBankOwner b = 6 then s.traceEnd 0 else s
  let s := (s.setReg O.memBankOwner b o).setReg O.memBankTarget b 0
  let s := { s with mem := { s.mem with scrub := s.mem.scrub.filter fun x => x != b } }
  if o = 15 then
    ((s.fencePut (2 ^ 24 + b * 65536)).setReg O.memBankState b 4).raise 452
  else (s.setReg O.memBankState b 0).raise 452

/-- The drain of 768 cycles ends. -/
def State.drainDone (s : State) (b : Nat) : State :=
  if s.reg O.memBankState b = 2 then
    if s.mem.scrub.contains b then s.setReg O.memBankState b 3 else s.handoverDone b
  else s

/-- Every word of bank `b` becomes zero. -/
def State.bankZero (s : State) (b : Nat) : State :=
  { s with mem := { s.mem with bank := SMap.clearSpan s.mem.bank (b * 65552) 65552
                               back := s.mem.back.filter fun x => x.1 != b
                               opened := s.mem.opened.filter fun x => x != b
                               settled := SMap.clearSpan s.mem.settled (b * 65552) 65552 } }

/-- The scrub ends. -/
def State.scrubDone (s : State) (b : Nat) : State :=
  if s.reg O.memBankState b = 3 then (s.bankZero b).handoverDone b else s

/-- Banks in PENDING start to drain, at a commit boundary or on entry into QUARANTINE (R329). -/
def State.pendingDrain (s : State) : State :=
  foldRange 256 (fun s b => if s.reg O.memBankState b = 1 then s.startDrain b else s) s

/-- The fabric island goes off: handovers in progress complete in MEM.BANK_OWNER (R329). -/
def State.handoversOff (s : State) : State :=
  foldRange 256 (fun s b =>
    let st := s.reg O.memBankState b
    if 1 ≤ st && st ≤ 3 then
      let o := s.reg O.memBankTarget b
      let s := (if o = 15 then s.fencePut (2 ^ 24 + b * 65536) else s).setReg O.memBankOwner b o
      { s with mem := { s.mem with due := s.mem.due ++ [b] } }
    else s) s

/-- A reservation lies in bank `b` of owner `o` (R203, 0x070D). -/
def State.reservedBank (s : State) (o b : Nat) : Bool := 1 ≤ o && o ≤ 3 && placedIn s.allResv b != 0

/-- A bank that is being cleared takes its owner, with event 452, when the clear is done. -/
def State.ownerLater (s : State) (b : Nat) : State :=
  if s.sys.fabOn && !s.mem.due.contains b then { s with mem := { s.mem with due := s.mem.due ++ [b] } } else s

/-- Retired bank `b` is in use again, without its fences, and is tested (R338). -/
def State.bankReuse (s : State) (h b : Nat) : State :=
  let l := (List.range 4352).filter fun i => let e := s.reg O.memFenceList i
                                             e != 0xFFFFFFFF && bits e 23 16 == b
  let s := l.foldl (fun s i => s.setReg O.memFenceList i 0xFFFFFFFF) s
  let fence := SMap.clearSpan s.mem.fence (b * 65536) 65536
  let s := { s with mem := { s.mem with fence := fence }
                    asy := { s.asy with returning := (256 + b) :: s.asy.returning } }
  let s := (s.setReg O.memBankFenced b 0).bankZero b
  let s := ((s.setReg O.memBankOwner b 0).setReg O.memBankState b 0).raise 452
  s.hostTest h (resOf 5 b) 0 3

/-- A write to element `b` of MEM.BANK_OWNER (R329, R338, Table 9-8). -/
def bankOwnerOp (h b v : Nat) (s : State) : State × Nat :=
  let code := v % 16
  let old := s.reg O.memBankOwner b
  let st := s.reg O.memBankState b
  let back := old = 15 && code = 0
  if (9 ≤ code && code ≤ 14) || bits v 6 4 ≠ 0 then (s, 0x0310)
  else if back && !s.tokFree 3 h then (s, 0x0402)
  else if back && s.sys.mode ≠ .isolate then (s, 0x0505)
  else if old = 15 && code ≠ 0 && code ≠ 15 then (s, 0x0A05)
  else if old = 15 && code = 15 then (s, 0)
  else if s.sys.fabOn && 1 ≤ st && st ≤ 3 then (s, 0x0A03)
  else if (old = 4 && s.locked) || (old = 5 && (s.led.cutting || s.reg O.ledgerExportState == 2 ||
    s.reg O.ledgerExportState == 3)) then (s, 0x0A03)
  else if (code ≠ old || bit v 7) && s.reservedBank old b then (s, 0x070D)
  else if old = 4 && code ≠ 4 && decide (((s.ownerBanks 4).filter s.bankStays).length ≤ 4) then (s, 0x0A02)
  else if !s.sys.fabOn || st = 5 then
    -- no owner is assigned before the clear is done (R30, R339)
    let s := if code = 15 then s.fencePut (2 ^ 24 + b * 65536) else s
    ((s.setReg O.memBankOwner b code).ownerLater b, 0)
  else if back then
    (s.bankReuse h b, 0)
  else
    let wait := 1 ≤ old && old ≤ 3 && s.sys.mode.commits
    let s := s.setReg O.memBankTarget b code
    let s := if wait then s.setReg O.memBankState b 1 else s.startDrain b
    let scrub := s.mem.scrub.filter fun x => x != b
    ({ s with mem := { s.mem with scrub := if bit v 7 then b :: scrub else scrub } }, 0)

/-- The clear of every bank at fabric power-up ends (R339). -/
def State.clearDone (s : State) : State :=
  if s.sys.fabOn && !s.sys.banksClear then
    let s := { s with sys := { s.sys with banksClear := true },
                      mem := { s.mem with bank := [], back := [], opened := [], settled := [], former := [] } }
    let s := foldRange 256 (fun s b => s.setReg O.memBankFenced b 0) s
    let s := s.fenceApply
    let s := foldRange 256 (fun s b => s.setReg O.memBankState b (if s.reg O.memBankOwner b = 15 then 4 else 0)) s
    let n := s.mem.due.length
    let s := { s with mem := { s.mem with due := [] } }
    foldRange n (fun s _ => s.raise 452) s
  else s

/-! ## What the matrix may do in a bank (Table 9-2, R327, R330) -/

/-- Master `m` may read banks of an owner; write and atomic accesses need `bankWrites`. -/
def bankWrites (o m : Nat) : Bool :=
  (o == 4 && m == 5) || (o == 5 && m == 3) || (o == 6 && m == 6) || (o == 7 && decide (m ≤ 2)) || (o == 8 && m == 4)
def bankReads (o m : Nat) : Bool := bankWrites o m || (decide (1 ≤ o) && decide (o ≤ 6) && decide (m ≤ 1))

/-- An access of a former owner is refused: counted, event 453 (R330). -/
def State.stale (s : State) : State := (s.bump O.memStaleAccess 0 32).raise 453

/-- A bank serves a matrix access of master `m`; otherwise the refusal is counted, and raised for a former owner. An
access issued before the drain began is `early`, and completes in it. -/
def State.bankOpen (s : State) (b m : Nat) (wr early : Bool) : State × Bool :=
  let o := s.reg O.memBankOwner b
  let st := s.reg O.memBankState b
  let may (o : Nat) : Bool := if wr then bankWrites o m else bankReads o m
  let was := SMap.get 0 s.mem.former b
  if !may o then (if was ≠ 0 && may (was - 1) then s.stale else s.bump O.memStaleAccess 0 32, false)
  else if st = 5 then (s, false)
  else if (st = 2 && !early) || st = 3 then (s.stale, false)
  else (s, true)

/-- Tally's trace reaches its bank `b`; an access after the bank has begun to drain is refused (R330). -/
def State.traceOpen (s : State) (b : Nat) : State × Bool :=
  let st := s.reg O.memBankState b
  if s.reg O.memBankOwner b = 6 && st ≠ 2 && st ≠ 3 then (s, true) else (s.stale, false)

/-! ## DDR4 (R345 to R348) -/

/-- MEM.DDR_STATE follows the channels and the fill; FAULT gives way once every channel serves (R348). -/
def State.ddrShow (s : State) : State :=
  let ch := (List.range 4).map fun c => s.reg O.memDdrChState c
  let st := if s.reg O.memDdrState = 0 then 0
    else if ch.contains 1 then 1 else if ch.contains 4 || (s.reg O.memDdrState == 4 && ch.any (· != 2)) then 4
      else if s.mem.filling then 2 else 3
  s.setReg O.memDdrState 0 st

/-- MEM.DDR_LS_STATE changes: event 457 (R346). -/
def State.setLs (s : State) (v : Nat) : State :=
  if s.reg O.memDdrLsState = v then s else (s.setReg O.memDdrLsState 0 v).raise 457

/-- Long skew that waits goes ON once DDR4 is READY; contexts that a restore brought then start at a boundary armed
for FSN + 16 (Table 6-12 step 9). -/
def State.lsReady (s : State) : State :=
  if s.reg O.memDdrLsState = 1 && s.reg O.memDdrState = 3 then
    let s := s.setLs 2
    if s.sys.ddrHeld && s.sys.mode == .service && s.reg O.mapState = 0 then s.repairCommit 2 else s
  else s

/-- A channel takes a state: event 456. -/
def State.setChannel (s : State) (c v : Nat) : State :=
  if s.reg O.memDdrChState c = v then s else ((s.setReg O.memDdrChState c v).raise 456).ddrShow

/-- Training completes and the zero-fill starts (R345). -/
def State.ddrTrained (s : State) (gib : Nat) (failed : List Nat) : State :=
  if s.sys.fabOn && s.reg O.memDdrState = 1 && (gib = 8 || gib = 16 || gib = 32 || gib = 64) then
    let s := { s with mem := { s.mem with filling := true, filled := 0, ddr := [], ddrBad := [], patrol := 0 } }
    let s := (s.setReg O.memDdrSize 0 gib).setReg O.memDdrFillLeft 0 (gib * 1024)
    (foldRange 4 (fun s c => s.setChannel c (if failed.contains c then 4 else 2)) s).ddrShow
  else s

/-- The zero-fill completes: event 457. -/
def State.ddrFilled (s : State) : State :=
  if s.mem.filling then
    let s := { s with mem := { s.mem with filling := false, ddr := [], ddrBad := [] } }
    let s := ((s.setReg O.memDdrFillLeft 0 0).ddrShow).raise 457
    s.lsReady
  else s

/-- The zero-fill of a frame, at 45.8 GB/s: MEM.DDR_FILL_LEFT counts down, and reads 1 until the fill is done. -/
def State.fillFrame (s : State) : State :=
  if s.mem.filling then
    let n := s.mem.filled + 5725000
    let left := s.reg O.memDdrSize * 1024 - n / 1048576
    ({ s with mem := { s.mem with filled := n } }).setReg O.memDdrFillLeft 0 (max 1 left)
  else s

/-- MEM.DDR_LS_EN (R346). -/
def ddrLsEnOp (v : Nat) (s : State) : State × Nat :=
  if v = 0 && s.ddrUnits ≠ 0 then (s, 0x070A)
  else
    let s := s.setReg O.memDdrLsEn 0 v
    let st := s.reg O.memDdrState
    (s.setLs (if v = 0 || st = 0 then 0 else if s.reg O.memDdrLsState = 2 || st = 3 then 2 else 1), 0)

/-- MEM.DDR_LS_SIZE and MEM.DDR_TRACE_SIZE (R342, Table 11-8). -/
def ddrSizeOp (h idx v : Nat) (s : State) : State × Nat :=
  if !s.tokFree 4 h then (s, 0x0402)
  else if s.reg O.memDdrLsState ≠ 0 || s.tal.run then (s, 0x0A04)
  else (s.setReg idx 0 v, 0)

/-- A channel enters RETRAINING (R348). -/
def State.retrain (s : State) (c : Nat) : State :=
  if s.reg O.memDdrChState c = 3 then s
  else
    let s := { s with mem := { s.mem with tries := SMap.set 0 s.mem.tries c 0 } }
    (s.setChannel c 3).ddrLinesAis

/-- The host's retrain of a channel is over: its token is free again. -/
def State.retrainEnd (s : State) (c : Nat) : State :=
  if SMap.get 0 s.mem.retrainBy c = 0 then s
  else
    let s := { s with mem := { s.mem with retrainBy := SMap.set 0 s.mem.retrainBy c 0 } }
    s.actEnd 4

/-- A retrain attempt ends (R348): SERVING, or FAULT after the third that fails. -/
def State.retrainAttempt (s : State) (c : Nat) (ok : Bool) : State :=
  if s.reg O.memDdrChState c ≠ 3 then s
  else if ok then ((s.setChannel c 2).lsReady).retrainEnd c
  else
    let n := SMap.get 0 s.mem.tries c + 1
    let s := { s with mem := { s.mem with tries := SMap.set 0 s.mem.tries c n } }
    if 3 ≤ n then (s.setChannel c 4).retrainEnd c else s

/-- Offset `off` of DDR4 lies in the long-skew region (R342). -/
def State.inLongSkew (s : State) (off : Nat) : Bool :=
  s.reg O.memDdrLsState == 2 && decide (off < s.reg O.memDdrLsSize * 1048576)

/-- A beat of DDR4 is corrected or uncorrectable (R347, R348). -/
def State.ddrErr (s : State) (off : Nat) (bad : Bool) : State :=
  let c := off / 256 % 4
  let s := if bad then
      let l := ((c, s.tick) :: s.mem.ueAt).filter fun x => s.tick < x.2 + secTicks 1
      let s := { s with mem := { s.mem with ueAt := l } }
      ((s.bump O.memDdrUe c 32).raise 455)
    else (s.bump O.memDdrCe c 32).raiseLim 454 c (msTicks 1)
  let s := s.assayError 2 (resOf 6 (off / 8))
  let s := if bad && s.inLongSkew off then s.spoil (fun l => s.lreg O.groupMedia l.ctx == 1) false else s
  let n := (s.mem.ueAt.filter fun x => x.1 == c).length
  if bad && s.reg O.memDdrUeThr < n && s.reg O.memDdrChState c = 2 then s.retrain c else s

/-- Ones of a disturbance over the 72 bits of a unit: none, one (corrected), more (uncorrectable; log entry 17). -/
def flips (f : Nat) : Nat := popCount 72 f

/-- A byte array takes the disturbance of the data bits of the 8-byte unit at `o`. -/
def disturb (d : Nat) (m : SMap Nat) (o f : Nat) : SMap Nat :=
  foldRange 8 (fun m i =>
    let x := f / 2 ^ (8 * (7 - i)) % 256
    if x = 0 then m else SMap.set d m (o / 8 * 8 + i) (SMap.get d m (o / 8 * 8 + i) ^^^ x)) m

/-- A unit of a protected byte array is read: `u` its number, `f` the disturbance that it meets, over the 64 data bits
and the 8 of the code above them. The array, the marks of units left wrong, the number of wrong bits and the bytes read.
One wrong bit is corrected in what is read, and where `fix` says so in the array. -/
structure UnitR where
  m : SMap Nat
  bad : SMap Nat
  wrong : Nat
  data : List Byte

def unitRead (m bad : SMap Nat) (u f : Nat) (fix : Bool) : UnitR :=
  let p := SMap.get 0 bad u ^^^ f % 2 ^ 72
  let now := disturb 0 m (8 * u) f
  let good := disturb 0 now (8 * u) p
  let n := flips p
  if n = 0 || (n = 1 && fix) then ⟨good, SMap.erase bad u, n, getMem 0 good (8 * u) 8⟩
  else ⟨now, SMap.set 0 bad u p, n, getMem 0 (if n = 1 then good else now) (8 * u) 8⟩

/-- The units that `n` bytes from offset `o` on touch: the first, and how many. -/
def unitsOf (o n : Nat) : Nat × Nat := (o / 8, (o + n - 1) / 8 + 1 - o / 8)

/-- The bytes and enables of the slot of 8 bytes at `at_`, of data that starts at offset `o`. -/
def slotOf (o at_ : Nat) (d : List (Byte × Bool)) : List (Byte × Bool) :=
  (List.range 8).map fun i => if at_ + i < o then (0, false) else d.getD (at_ + i - o) (0, false)

/-- Bytes that are enabled are stored from an offset on. -/
def putEnabled (d : Nat) (m : SMap Nat) (o : Nat) (l : List (Byte × Bool)) : SMap Nat :=
  (l.foldl (fun (r : SMap Nat × Nat) b => (if b.2 then SMap.set d r.1 r.2 b.1.toNat else r.1, r.2 + 1)) (m, o)).1

/-- Of the units that a write touches: those of which it writes a part only, and all that it writes to. -/
def unitsPart (o : Nat) (d : List (Byte × Bool)) : List Nat :=
  let r := unitsOf o d.length
  ((List.range r.2).map fun i => r.1 + i).filter fun u =>
    (slotOf o (8 * u) d).any (·.2) && !(slotOf o (8 * u) d).all (·.2)
def unitsWritten (o : Nat) (d : List (Byte × Bool)) : List Nat :=
  let r := unitsOf o d.length
  ((List.range r.2).map fun i => r.1 + i).filter fun u => (slotOf o (8 * u) d).any (·.2)

/-- A beat of DDR4 is read through a port (R341): what it reads, and whether it cannot be corrected. The patrol alone
writes a corrected beat back (R347). -/
def State.ddrBeat (s : State) (u f : Nat) (fix : Bool) : State × List Byte × Bool :=
  let r := unitRead s.mem.ddr s.mem.ddrBad u f fix
  let s := { s with mem := { s.mem with ddr := r.m, ddrBad := r.bad } }
  (if r.wrong = 0 then s else s.ddrErr (8 * u) (decide (1 < r.wrong)), r.data, decide (1 < r.wrong))

/-- Beats of DDR4 are read, the disturbance of each 72 bits further up in `f`: the bytes from offset `o` on. -/
def State.ddrRead (s : State) (o n f : Nat) : State × List Byte × Bool :=
  let sp := unitsOf o n
  let r := foldRange sp.2 (fun (r : State × List Byte × Bool) i =>
    let q := r.1.ddrBeat (sp.1 + i) (f >>> (72 * i)) false
    (q.1, r.2.1 ++ q.2.1, r.2.2 || q.2.2)) (s, [], false)
  (r.1, slice r.2.1 (o % 8) n, r.2.2)

/-- Bytes of DDR4 are written. A beat of which only a part is written is read first, and gets a new code with what was
read (log entry 109). -/
def State.ddrWrite (s : State) (o : Nat) (d : List (Byte × Bool)) : State :=
  let s := (unitsPart o d).foldl (fun s u =>
    if SMap.get 0 s.mem.ddrBad u = 0 then s else (s.ddrBeat u 0 true).1) s
  { s with mem := { s.mem with ddr := putEnabled 0 s.mem.ddr o d
                               ddrBad := (unitsWritten o d).foldl (fun m u => SMap.erase m u) s.mem.ddrBad } }

/-- The patrol reads its beat and goes on, at the rate of one pass each MEM.DDR_SCRUB_PERIOD hours (R347); a beat with a
targeted test is left to it (R426). -/
def State.patrolBeat (s : State) (f : Nat) : State :=
  let size := s.reg O.memDdrSize * 2 ^ 30
  if !s.sys.fabOn || !s.background 3 || s.mem.filling || size = 0 || s.reg O.memDdrState < 3 ||
    s.tick < s.mem.patrolNext then s
  else
    let o := s.mem.patrol
    let c := o / 256 % 4
    let next := s.tick + secTicks (3600 * s.reg O.memDdrScrubPeriod) * 8 / size
    let s := { s with mem := { s.mem with patrolNext := next } }
    let s := if s.reg O.memDdrChState c ≠ 2 || s.underTest (resOf 6 (o / 8)) then s
      else (s.ddrBeat (o / 8) f true).1
    let n := o + 8
    let s := s.tally 79 1
    let s := { s with mem := { s.mem with patrol := if size ≤ n then 0 else n } }
    if size ≤ n then (s.bump O.memDdrScrubPasses 0 32).raise 458 else s

/-- MEM.DDR_RETRAIN, with the token of the MEMORY domain. -/
def ddrRetrainOp (h c : Nat) (s : State) : State × Nat :=
  if !s.tokFree 4 h then (s, 0x0402)
  else if s.reg O.memDdrChState c = 0 || s.reg O.memDdrChState c = 1 || s.reg O.memDdrChState c = 3 then (s, 0)
  else
    let s := s.actStart 4 h
    let s := { s with mem := { s.mem with retrainBy := SMap.set 0 s.mem.retrainBy c 1 } }
    (s.retrain c, 0)

/-! ## Logs that a read clears (R325, R372, R428) -/

/-- A read of `count` entries of `w` bytes from entry `first` of a log of `n`: the entries, zeros where there are
none, and the log without them. -/
def logTake (l : List Nat) (w first count : Nat) : List Byte × List Nat :=
  ((List.range count).flatMap fun i => toBytes w (l.getD (first + i) 0), l.take first ++ l.drop (first + count))

/-- The extent of a read lies in an object of `n` elements. -/
def logGate (s : State) (w : Who) (idx n first count : Nat) : Nat :=
  let c := s.readGate w idx (min first (n - 1))
  if c ≠ 0 then c else if n < first + count || count = 0 then 0x0103 else if s.romOnly idx then 0x0505 else 0

def State.eccLogRead (s : State) (w : Who) (first count : Nat) : State :=
  let c := logGate s w O.memEccLog 16 first count
  if c ≠ 0 then s.answer c
  else
    let r := logTake s.mem.ecc 6 first count
    (({ s with mem := { s.mem with ecc := r.2 } }).give r.1).answer 0

/-! ## The commands -/

def State.writeBankOwner (s : State) (w : Who) (b v : Nat) : State :=
  s.write w O.memBankOwner b v (bankOwnerOp (holderOf w) b v)
def State.writeDdrLsEn (s : State) (w : Who) (v : Nat) : State := s.write w O.memDdrLsEn 0 v (ddrLsEnOp v)
def State.writeDdrSize (s : State) (w : Who) (idx v : Nat) : State := s.write w idx 0 v (ddrSizeOp (holderOf w) idx v)
def State.writeDdrRetrain (s : State) (w : Who) (c : Nat) : State :=
  s.write w O.memDdrRetrain 0 c (ddrRetrainOp (holderOf w) c)

def execBankOwnerWrite (w : Who) (b v : Nat) (s : State) : Host.Outcome State Fault Refusal :=
  s.run fun s => s.writeBankOwner w b v
def execHandoverDrainDone (b : Nat) (s : State) : Host.Outcome State Fault Refusal :=
  s.runIn b 256 fun s => s.drainDone b
def execHandoverScrubDone (b : Nat) (s : State) : Host.Outcome State Fault Refusal :=
  s.runIn b 256 fun s => s.scrubDone b
def execBankClearDone (s : State) : Host.Outcome State Fault Refusal := s.run State.clearDone
def execEccWriteBack (b word : Nat) (s : State) : Host.Outcome State Fault Refusal :=
  s.runIn b 256 fun s => s.writeBack b word
def execEccLogRead (w : Who) (first count : Nat) (s : State) : Host.Outcome State Fault Refusal :=
  s.run fun s => s.eccLogRead w first count
def execDdrTrainingDone (gib : Nat) (failed : List Nat) (s : State) : Host.Outcome State Fault Refusal :=
  s.run fun s => s.ddrTrained gib failed
def execDdrFillDone (s : State) : Host.Outcome State Fault Refusal := s.run State.ddrFilled
def execDdrLsEnWrite (w : Who) (v : Nat) (s : State) : Host.Outcome State Fault Refusal :=
  s.run fun s => s.writeDdrLsEn w v
def execDdrRegionSizeWrite (w : Who) (trace : Bool) (v : Nat) (s : State) : Host.Outcome State Fault Refusal :=
  s.run fun s => s.writeDdrSize w (if trace then O.memDdrTraceSize else O.memDdrLsSize) v
def execPatrolBeat (flip : Nat) (s : State) : Host.Outcome State Fault Refusal := s.run fun s => s.patrolBeat flip
/-- A command error that the retries mend changes nothing (R348). -/
def execDdrAlert (ch : Nat) (retried : Bool) (s : State) : Host.Outcome State Fault Refusal :=
  s.runIn ch 4 fun s => if !retried && s.reg O.memDdrChState ch = 2 then s.retrain ch else s
def execRetrainAttemptDone (ch : Nat) (ok : Bool) (s : State) : Host.Outcome State Fault Refusal :=
  s.runIn ch 4 fun s => s.retrainAttempt ch ok
def execDdrRetrain (w : Who) (ch : Nat) (s : State) : Host.Outcome State Fault Refusal :=
  s.run fun s => s.writeDdrRetrain w ch

end Sys2Proof.Machine
end

