-- ==== Sys2Proof/Machine/Crypto.lean ====
section
/-! DEFINITION. The crypto block: SHA-256, HMAC-SHA-256 (R389), and the verification of an LMS signature
(RFC 8554, Table 14-5, R460). -/

namespace Sys2Proof.Machine

/-! ## SHA-256 -/

/-- `x` as a cyclic run of 32 bits, read from each of the given places and added modulo 2. -/
def turned (ns : List Nat) (x : Nat) : Nat := ns.foldl (fun acc n => acc ^^^ (x * (2 ^ 32 + 1) / 2 ^ n % 2 ^ 32)) 0

/-- The greatest number whose `d`-th power is at most `n`, found from bit `b` down. -/
def rootFrom (d n : Nat) : Nat → Nat → Nat
  | 0, r => r
  | b + 1, r => rootFrom d n b (if (r + 2 ^ b) ^ d ≤ n then r + 2 ^ b else r)

/-- The first 32 bits behind the point of the `d`-th root of `p`: FIPS 180-4 takes its constants from these. -/
def rootBits (d p : Nat) : Nat := rootFrom d (p * 2 ^ (32 * d)) 37 0 % 2 ^ 32

/-- The primes below 312: 64 of them. -/
def shaPrimes : List Nat :=
  (List.range 312).filter fun n => decide (2 ≤ n) && (List.range 18).all fun d => d < 2 || n ≤ d || n % d != 0

/-- The running hash: `hi` its first four words and `lo` its last four, each newest first. -/
structure Sha where
  hi : List Nat
  lo : List Nat
deriving DecidableEq, Repr

def Sha.words (s : Sha) : List Nat := s.hi ++ s.lo

/-- The hash before the first block: from the square roots of the first 8 primes. -/
def shaInit : Sha :=
  let w := (shaPrimes.take 8).map (rootBits 2)
  ⟨w.take 4, w.drop 4⟩

/-- The round constants: from the cube roots of the first 64 primes. -/
def shaK : List Nat := shaPrimes.map (rootBits 3)

/-- One round, given the sum of its constant and its schedule word: a word enters each half and the oldest leaves. -/
def shaRound (s : Sha) (kw : Nat) : Sha :=
  match s.hi, s.lo with
  | [x0, x1, x2, x3], [y0, y1, y2, y3] =>
    let pick := y2 ^^^ (y0 &&& (y1 ^^^ y2))
    let most := (x0 &&& x1) ||| (x2 &&& (x0 ||| x1))
    let t := y3 + turned [6, 11, 25] y0 + pick + kw
    ⟨[(t + turned [2, 13, 22] x0 + most) % 2 ^ 32, x0, x1, x2], [(x3 + t) % 2 ^ 32, y0, y1, y2]⟩
  | _, _ => s

/-- `n` more words of the message schedule, whose words so far are `w`, the newest first. -/
def shaSched : Nat → List Nat → List Nat
  | 0, w => w
  | n + 1, w =>
    let back (k : Nat) : Nat := w.getD (k - 1) 0
    let near := turned [17, 19] (back 2) ^^^ back 2 / 2 ^ 10
    let far := turned [7, 18] (back 15) ^^^ back 15 / 2 ^ 3
    shaSched n ((near + back 7 + far + back 16) % 2 ^ 32 :: w)

/-- One block of 64 bytes. -/
def shaBlock (s : Sha) (m : List Byte) : Sha :=
  let first := (List.range 16).map fun i => fld m (4 * i) 4
  let r := (List.zipWith (· + ·) shaK (shaSched 48 first.reverse).reverse).foldl shaRound s
  let add (a b : Nat) : Nat := (a + b) % 2 ^ 32
  ⟨List.zipWith add s.hi r.hi, List.zipWith add s.lo r.lo⟩

/-- The blocks of a message, at most `n` of them. -/
def shaBlocks : Nat → Sha → List Byte → Sha
  | 0, s, _ => s
  | n + 1, s, m => if m.isEmpty then s else shaBlocks n (shaBlock s (m.take 64)) (m.drop 64)

/-- SHA-256 of a run of bytes: a one bit, zeros, and the length in bits fill the last block. -/
def sha256 (m : List Byte) : List Byte :=
  let z := (119 - m.length % 64) % 64
  let p := m ++ [0x80] ++ List.replicate z 0 ++ toBytes 8 (8 * m.length)
  (shaBlocks (p.length / 64) shaInit p).words.flatMap (toBytes 4)

/-! ## HMAC-SHA-256 -/

/-- HMAC-SHA-256 under a key of at most 64 bytes. -/
def hmac (key m : List Byte) : List Byte :=
  let k := padBytes 64 key
  sha256 (k.map (· ^^^ 0x5C) ++ sha256 (k.map (· ^^^ 0x36) ++ m))

/-- The MAC under a session's key; no key, no MAC (R392). -/
def macOf (key m : List Byte) : List Byte := if key.isEmpty then List.replicate 32 0 else hmac key m

/-! ## LMS_SHA256_M32_H10 with LMOTS_SHA256_N32_W4 (RFC 8554) -/

/-- Digit `i` of 4 bits. -/
def coef (l : List Byte) (i : Nat) : Nat :=
  let b := (l.getD (i / 2) 0).toNat
  if i % 2 = 0 then b / 16 else b % 16

/-- The Winternitz chain from digit `j`, `n` more steps. -/
def lmsChain (pre : List Byte) (i : Nat) : Nat → Nat → List Byte → List Byte
  | 0, _, x => x
  | n + 1, j, x => lmsChain pre i n (j + 1) (sha256 (pre ++ toBytes 2 i ++ toBytes 1 j ++ x))

/-- The root that a path of the tree gives a node. -/
def lmsPath (id : List Byte) : List (List Byte) → Nat → List Byte → List Byte
  | [], _, x => x
  | p :: ps, node, x =>
    let pre := id ++ toBytes 4 (node / 2) ++ [0x83, 0x83]
    lmsPath id ps (node / 2) (sha256 (if node % 2 = 1 then pre ++ p ++ x else pre ++ x ++ p))

/-- `sig` is an LMS signature over `m` under the public key `pub`. -/
def lmsVerify (pub m sig : List Byte) : Bool :=
  let id := slice pub 8 16
  let q := fld sig 0 4
  let pre := id ++ toBytes 4 q
  let c := slice sig 8 32
  let d := sha256 (pre ++ [0x81, 0x81] ++ c ++ m)
  let ck := foldRange 64 (fun a i => a + (15 - coef d i)) 0 * 16
  let dk := d ++ toBytes 2 ck
  let z := (List.range 67).flatMap fun i =>
    let a := coef dk i
    lmsChain pre i (15 - a) a (slice sig (40 + 32 * i) 32)
  let kc := sha256 (pre ++ [0x80, 0x80] ++ z)
  let node := 1024 + q
  let leaf := sha256 (id ++ toBytes 4 node ++ [0x82, 0x82] ++ kc)
  let path := (List.range 10).map fun i => slice sig (2188 + 32 * i) 32
  pub.length == 56 && sig.length == 2508 && fld pub 0 4 == 6 && fld pub 4 4 == 3 && fld sig 4 4 == 3 &&
    fld sig 2184 4 == 6 && decide (q < 1024) && decide (lmsPath id path node leaf = slice pub 24 32)

end Sys2Proof.Machine
end

