-- ==== Sys2Proof/Machine/Lane.lean ====
section
/-! DEFINITION. The lane of a Cooper port in either direction: PAM4 levels, precoding and polarity (R45, R46), the raw
bit stream and its codewords (R47 to R50), the scrambler (R59, R60), and where the words of a frame stand (R49, R51,
R52, R74, R75, R90). -/

namespace Sys2Proof.Machine

/-! ## Lists of bits -/

/-- The `n` bits of a number, most significant first (R14). -/
def bitsOf : Nat → Nat → List Bool
  | 0, _ => []
  | n + 1, v => v.testBit n :: bitsOf n v

/-- The number that bits spell, most significant first. -/
def ofBits (l : List Bool) : Nat := l.foldl (fun a b => 2 * a + b2n b) 0

/-- Runs of `n` elements, the last one as long as what is left; at most `k` of them. -/
def chunks {α : Type} (n : Nat) : Nat → List α → List (List α)
  | 0, _ => []
  | _ + 1, [] => []
  | k + 1, l => l.take n :: chunks n k (l.drop n)

/-! ## PAM4 (R45, R46) -/

/-- The level of a pair of bits, the first as the more significant: 00, 01, 11, 10 are levels 0 to 3. -/
def levelOf (a b : Bool) : Nat := if a then (if b then 2 else 3) else b2n b

/-- The pair of bits of a level. -/
def levelBits (l : Nat) : List Bool := [decide (2 ≤ l), l == 1 || l == 2]

/-- The levels of a run of bits, taken in pairs. -/
def levelsOf : List Bool → List Nat
  | a :: b :: l => levelOf a b :: levelsOf l
  | _ => []

/-- The 1/(1+D) mod 4 precoder: each symbol sent is the level less the symbol sent before it. -/
def precode : Nat → List Nat → List Nat
  | _, [] => []
  | q, g :: l => let p := (g + 4 - q % 4) % 4
                 p :: precode p l

/-- What the precoder did is removed: each level is the sum of a symbol and the one before it. -/
def unprecode : Nat → List Nat → List Nat
  | _, [] => []
  | q, p :: l => (p + q) % 4 :: unprecode p l

/-- An inverted signal exchanges levels 0 and 3, and 1 and 2. -/
def invertLevel (b : Bool) (l : Nat) : Nat := if b then 3 - l else l

/-- The levels that a transmitter puts on the lane for raw bits; `opt` is PORT.LANE_OPT, `q` the symbol that the
precoder sent last. -/
def laneLevels (opt q : Nat) (raw : List Bool) : List Nat :=
  let l := levelsOf raw
  (if bit opt 0 then precode q l else l).map (invertLevel (bit opt 3))

/-- The symbol that the precoder sent last, after those levels. -/
def laneLast (opt q : Nat) (levels : List Nat) : Nat :=
  if bit opt 0 then invertLevel (bit opt 3) (levels.getLastD (invertLevel (bit opt 3) q)) else q

/-- The levels of the raw bits of a frame and the symbol that the precoder sent last: each value of PORT.LANE_OPT codes
from its round on, `per` raw bits to a round. -/
def laneParts (per : Nat) : Nat → List (Nat × Nat) → List Bool → List Nat × Nat
  | q, [], _ => ([], q)
  | q, x :: l, raw =>
    let n := match l with
      | [] => raw.length
      | y :: _ => per * (y.1 - x.1)
    let v := laneLevels x.2 q (raw.take n)
    let r := laneParts per (laneLast x.2 q v) l (raw.drop n)
    (v ++ r.1, r.2)

/-- The raw bits that a receiver takes from a stretch of the lane; `opt` is PORT.LANE_OPT. -/
def laneRaw (opt : Nat) (x : Lane) : List Bool :=
  let l := x.levels.map (invertLevel (bit opt 2))
  ((if bit opt 1 then unprecode (invertLevel (bit opt 2) x.prev) l else l).map levelBits).flatten

/-- Stretches of the lane as raw bits, each with its position. -/
def stretches (opt : Nat) (ls : List Lane) : List (Nat × List Bool) := ls.map fun x => (x.at_, laneRaw opt x)

/-- The raw bit at position `c`; one that no stretch covers is zero. -/
def rawAt (rs : List (Nat × List Bool)) (c : Nat) : Bool :=
  match rs.find? fun r => decide (r.1 ≤ c) && decide (c < r.1 + r.2.length) with
  | some r => r.2.getD (c - r.1) false
  | none => false

/-- The `n` raw bits from position `c`. -/
def rawSpan (rs : List (Nat × List Bool)) (c n : Nat) : Nat := ofBits ((List.range n).map fun i => rawAt rs (c + i))

/-! ## GF(2^10) with x^10 + x^3 + 1 (R47; log entry 78) -/

/-- A field element times x. -/
def gfX (a : Nat) : Nat := let b := 2 * a
                           if b.testBit 10 then b ^^^ 0x409 else b

/-- The product of two field elements. -/
def gfMul (a b : Nat) : Nat :=
  foldRange 10 (fun r i => if b.testBit (9 - i) then gfX r ^^^ a else gfX r) 0

/-- x to the power `n`, for `n` below 1,023. -/
def gfExp (n : Nat) : Nat := foldRange n (fun a _ => gfX a) 1

/-- The inverse of a non-zero element: its power 1,022. -/
def gfInv (a : Nat) : Nat :=
  (foldRange 9 (fun (r : Nat × Nat) _ => let q := gfMul r.2 r.2
                                         (gfMul r.1 q, q)) (1, a)).1

/-- The value at `x` of a polynomial given from its highest coefficient down. -/
def gfEval (x : Nat) (l : List Nat) : Nat := l.foldl (fun a c => gfMul a x ^^^ c) 0

/-- The sum of two polynomials given from their lowest coefficient up. -/
def polyAdd : List Nat → List Nat → List Nat
  | [], b => b
  | a, [] => a
  | x :: a, y :: b => (x ^^^ y) :: polyAdd a b

/-- The product of two polynomials given from their lowest coefficient up. -/
def polyMul : List Nat → List Nat → List Nat
  | [], _ => []
  | x :: a, b => polyAdd (b.map (gfMul x)) (0 :: polyMul a b)

/-! ## RS(544,514) (R47, R50; log entry 78) -/

/-- The generator polynomial, the product of (x − α^j) for j = 0 to 29, from its lowest coefficient up. -/
def rsGen : List Nat := foldRange 30 (fun g j => polyMul [gfExp j, 1] g) [1]

/-- The parity symbols of a message, in the order they are sent: what is left of the message times x^30 after division
by the generator polynomial. -/
def rsParity (msg : List Nat) : List Nat :=
  let g := (rsGen.take 30).reverse
  msg.foldl (fun r m =>
    let f := m ^^^ r.headD 0
    List.zipWith (fun a c => a ^^^ gfMul f c) (r.drop 1 ++ [0]) g) (List.replicate 30 0)

/-- The 30 syndromes of a received word, its highest-order coefficient first. -/
def rsSyndromes (w : List Nat) : List Nat := (List.range 30).map fun j => gfEval (gfExp j) w

/-- The search for the shortest recurrence that the syndromes obey: the locator found, the one it last replaced, the
length, the steps since, and the discrepancy then. -/
structure Recur where
  loc : List Nat
  old : List Nat
  len : Nat
  gap : Nat
  disc : Nat
deriving DecidableEq, Repr

/-- Syndrome `n` enters the search. -/
def Recur.step (syn : List Nat) (r : Recur) (n : Nat) : Recur :=
  let d := foldRange (r.len + 1) (fun a i => a ^^^ gfMul (r.loc.getD i 0) (if i ≤ n then syn.getD (n - i) 0 else 0)) 0
  if d = 0 then { r with gap := r.gap + 1 }
  else
    let fix := List.replicate r.gap 0 ++ r.old.map (gfMul (gfMul d (gfInv r.disc)))
    let loc := polyAdd r.loc fix
    if 2 * r.len ≤ n then ⟨loc, r.loc, n + 1 - r.len, 1, d⟩ else { r with loc := loc, gap := r.gap + 1 }

/-- The error that a locator and the syndromes give at the coefficient of x^e: 0 where the locator has no root. -/
def rsErrorAt (loc ev : List Nat) (e : Nat) : Nat :=
  let x := gfExp e
  let y := gfExp ((1023 - e) % 1023)
  if gfEval y loc.reverse ≠ 0 then 0
  else
    let odd := ((loc.drop 1).zipIdx.map fun c => if c.2 % 2 = 0 then c.1 else 0).reverse
    gfMul x (gfMul (gfEval y ev.reverse) (gfInv (gfEval y odd)))

/-- The codeword within 15 symbols of a received word, and in how many symbols it differs; none where there is none
(R50). -/
def rsDecode (w : List Nat) : Option (List Nat × Nat) :=
  let syn := rsSyndromes w
  if syn.all (· == 0) then some (w, 0)
  else
    let r := foldRange 30 (Recur.step syn) ⟨[1], [1], 0, 1, 1⟩
    let ev := (polyMul syn r.loc).take 30
    let fixed := (List.range w.length).zipWith (fun i c => c ^^^ rsErrorAt r.loc ev (w.length - 1 - i)) w
    let n := (List.zipWith (fun a b => b2n (a != b)) fixed w).sum
    if r.len ≤ 15 && n ≤ 15 && (rsSyndromes fixed).all (· == 0) then some (fixed, n) else none

/-- A received codeword: its information bits, corrected where that is possible and else as received, whether it was
correctable, and the symbols corrected. -/
structure CodeR where
  info : List Bool
  ok : Bool
  errs : Nat
deriving DecidableEq, Repr

/-- The 5,440 raw bits of a codeword are decoded; fewer are no codeword. -/
def decodeCode (raw : List Bool) : CodeR :=
  if raw.length < 5440 then ⟨raw.take 5140, false, 0⟩
  else
    match rsDecode ((chunks 10 544 raw).map ofBits) with
    | some x => ⟨((x.1.take 514).map (bitsOf 10)).flatten, true, x.2⟩
    | none => ⟨raw.take 5140, false, 0⟩

/-- The raw bits of 5,140 information bits: the message symbols, then the parity symbols. -/
def encodeCode (info : List Bool) : List Bool :=
  let msg := (chunks 10 514 info).map ofBits
  ((msg ++ rsParity msg).map (bitsOf 10)).flatten

/-! ## Geometry (Tables 2-1 and 2-14) -/

/-- Codewords, raw bits and words of a frame. -/
def frameCodes (ver : Nat) : Nat := if ver = 2 then 4860 else 2430
def frameBits (ver : Nat) : Nat := 5440 * frameCodes ver
def frameWords (ver : Nat) : Nat := if ver = 2 then 520425 else 260212

/-- Overhead words of row `q`, payload words of a round, and the first frame word of a row. -/
def rowOvh (ver q : Nat) : Nat := if ver = 2 then 225 else if q = 8 then 116 else 112
def roundPay (ver : Nat) : Nat := if ver = 2 then 1280 else 640
def rowStart (ver q : Nat) : Nat := if ver = 2 then 57825 * q else 28912 * q

/-- The frame word of overhead word `h` of row `q` (R52, R90). -/
def ovhWord (ver q h : Nat) : Nat := rowStart ver q + if ver = 2 then 1285 * (h / 5) + h % 5 else h

/-- The raw bit of the frame at which information bit `b` of the frame stands (R48, R49). -/
def rawOf (b : Nat) : Nat := 5440 * (b / 5140) + b % 5140

/-- The raw bit, counted from the start of the frame, at which bit 47 − `i` of overhead word `h` of row `q` stands. -/
def ovhRaw (ver q h i : Nat) : Nat := rawOf (48 * ovhWord ver q h + i)

/-- Overhead word `h` of row `q`, as received raw, of a frame that begins at raw bit `c` (R74). -/
def rawWord (rs : List (Nat × List Bool)) (ver c q h : Nat) : Nat :=
  ofBits ((List.range 48).map fun i => rawAt rs (c + ovhRaw ver q h i))

/-- The codewords of the first and the last bit of an overhead word. -/
def ovhCodewords (ver q h : Nat) : Nat × Nat :=
  (48 * ovhWord ver q h / 5140, (48 * ovhWord ver q h + 47) / 5140)

/-! ## Scrambler (R59, R60) -/

/-- One step of the scrambler: the register afterwards and the keystream bit. -/
def ksStep (r : Nat) : Nat × Bool :=
  let k := r.testBit 30 != r.testBit 27
  ((r * 2 + b2n k) % 2 ^ 31, k)

/-- The next `n` keystream bits, the first as most significant, and the register afterwards; `a` are those before. -/
def keystream : Nat → Nat → Nat → Nat × Nat
  | 0, r, a => (a, r)
  | n + 1, r, a => let x := ksStep r
                   keystream n x.1 (2 * a + b2n x.2)

/-- The register at the first information bit of a frame. -/
def ksStart : Nat := 2 ^ 31 - 1

/-- Keystream bits 96 to 143, over the FSN word (R73). -/
def ksFsn : Nat := (keystream 144 ksStart 0).1 % 2 ^ 48

/-- Frame word `w` is sent unscrambled: a FAW word or a Row Marker Word. -/
def plainWord (ver w : Nat) : Bool := decide (w < 2) || (List.range 8).any fun q => w == rowStart ver (q + 1)

/-- The words of a frame from word `i` on, scrambled or descrambled, and the register afterwards. -/
def scramble (ver : Nat) : Nat → Nat → List Nat → List Nat × Nat
  | _, r, [] => ([], r)
  | i, r, w :: l =>
    let k := keystream 48 r 0
    let t := scramble ver (i + 1) k.2 l
    ((if plainWord ver i then w else w ^^^ k.1) :: t.1, t.2)

/-! ## Frames -/

/-- The words of a frame before scrambling: overhead words by row, and the payload words of its 405 rounds in order of
the minor grain. -/
structure LinkFrame where
  ovh : List (List Nat)
  pay : List (List Nat)
deriving DecidableEq, Repr

/-- Exactly `n` elements: cut, or filled with zero words. -/
def fit (n : Nat) (l : List Nat) : List Nat := l.take n ++ List.replicate (n - l.length) 0

/-- The words of row `q` in the order they are sent (R51, R90). -/
def LinkFrame.row (f : LinkFrame) (ver q : Nat) : List Nat :=
  let o := fit (rowOvh ver q) (f.ovh.getD q [])
  let pay (r : Nat) : List Nat := fit (roundPay ver) (f.pay.getD (45 * q + r) [])
  if ver = 2 then ((List.range 45).map fun r => (o.drop (5 * r)).take 5 ++ pay r).flatten
  else o ++ ((List.range 45).map pay).flatten

/-- The information bits of a frame, scrambled; the fill field of version 1 is 24 zero bits before scrambling. -/
def LinkFrame.info (f : LinkFrame) (ver : Nat) : List Bool :=
  let x := scramble ver 0 ksStart ((List.range 9).map (f.row ver)).flatten
  (x.1.map (bitsOf 48)).flatten ++ if ver = 2 then [] else bitsOf 24 (keystream 24 x.2 0).1

/-- The raw bits of a frame. -/
def LinkFrame.raw (f : LinkFrame) (ver : Nat) : List Bool :=
  ((chunks 5140 (frameCodes ver) (f.info ver)).map encodeCode).flatten

/-- The decoded codewords of the raw bits of a frame (R50). -/
def decodeRaw (ver : Nat) (raw : List Bool) : List CodeR := (chunks 5440 (frameCodes ver) raw).map decodeCode

/-- The words of a frame out of its decoded codewords. -/
def linkFrame (ver : Nat) (cs : List CodeR) : LinkFrame :=
  let info := (cs.map CodeR.info).flatten
  let ws := (scramble ver 0 ksStart ((chunks 48 (frameWords ver) info).map ofBits)).1
  let row (q : Nat) : List Nat := (ws.drop (rowStart ver q)).take (rowOvh ver q + 45 * roundPay ver)
  let ovh (q : Nat) : List Nat :=
    if ver = 2 then ((chunks 1285 45 (row q)).map (List.take 5)).flatten else (row q).take (rowOvh ver q)
  let pay (q : Nat) : List (List Nat) :=
    if ver = 2 then (chunks 1285 45 (row q)).map (List.drop 5)
    else chunks (roundPay ver) 45 ((row q).drop (rowOvh ver q))
  ⟨(List.range 9).map ovh, ((List.range 9).map pay).flatten⟩

end Sys2Proof.Machine
end

