-- ==== Sys2Proof/Machine/Witness.lean ====
section
/-! DEFINITION. The blocks of the Witness lanes and ports (R227, R232; log entry 92), and the states of the Witness
streams (R230 to R232, R239). -/

namespace Sys2Proof.Machine

/-! ## Blocks (R227, Clause 49) -/

/-- A data block: sync header 0b01. -/
def dataBlock (d : Nat) : Block66 := BitVec.ofNat 66 (2 ^ 64 + d)

/-- A control block: sync header 0b10, block type 0x1E, idle characters. -/
def idlePay : Nat := 0x1E * 2 ^ 56
def idleBlock : Block66 := BitVec.ofNat 66 (2 ^ 65 + idlePay)

/-- The block carries data. -/
def isData (b : Block66) : Bool := b.toNat / 2 ^ 64 == 1

/-- The 64 bits after the sync header. -/
def payOf (b : Block66) : Nat := b.toNat % 2 ^ 64

/-- One bit `d` under x^58 + x^39 + 1: the bits sent 39 and 58 bits earlier, of the `r` sent last, are added. -/
def witBit (r : Nat) (d : Bool) : Bool := d != (r.testBit 38 != r.testBit 57)

/-- The 64 bits of a block as they are sent after bits `r`. -/
def witScramble (r d : Nat) : Nat :=
  foldRange 64 (fun c i => 2 * c + b2n (witBit (r * 2 ^ i + c) (d.testBit (63 - i)))) 0

/-- The 64 bits of a block that arrives as `c` after bits `r`. -/
def witDescramble (r c : Nat) : Nat :=
  foldRange 64 (fun d i => 2 * d + b2n (witBit (r * 2 ^ i + c / 2 ^ (64 - i)) (c.testBit (63 - i)))) 0

/-- The blocks of a record and the control block after it, as they leave a lane after bits `r`. -/
def laneBlocks : Nat → List Nat → List Block66
  | r, [] => [BitVec.ofNat 66 (2 ^ 65 + witScramble r idlePay)]
  | r, d :: l => let c := witScramble r d
                 dataBlock c :: laneBlocks c l

/-- The first record of received blocks: the data blocks from the first that follows a control block to the next control
block. `open_` takes what precedes a block and its 64 bits. -/
def delimit (open_ : Nat → Nat → Nat) (bs : List Block66) : List Block :=
  let starts (x : Block66 × Block66) : Bool := !isData x.1 && isData x.2
  (((bs.zip (bs.drop 1)).dropWhile fun x => !starts x).takeWhile fun x => isData x.2).map fun x =>
    BitVec.ofNat 64 (open_ (payOf x.1) (payOf x.2))

/-- The 66-bit blocks in payload words of a Cooper port: 8 blocks in 11 words (R232). -/
def portBlocks (ws : List Word) : List Block66 :=
  ((chunks 66 ws.length (ws.flatMap fun w => bitsOf 48 w.toNat)).filter fun l => l.length == 66).map fun l =>
    BitVec.ofNat 66 (ofBits l)

/-- The record that stream `st` receives; streams 0 and 1 come on the lanes, the others in payload words. -/
def recordOf (st : Nat) (x : WitIn) : List Block :=
  match x with
  | .lane bs => if st < 2 then delimit witDescramble bs else []
  | .port ws => if st < 2 then [] else delimit (fun _ d => d) (portBlocks ws)

/-! ## A Witness port's payload (R232) -/

/-- Blocks that a frame carries: the rest of its words, 518,397 to 518,399, are zero. -/
def frameBlocks : Nat := 377016

/-- Round `n` of the frame that a port sends: its payload words, the blocks it takes from those that wait, and the last
block, which the next round goes on with. `begun` is the block that the round before has begun. -/
def witRound (n : Nat) (begun waiting : List Block66) : List Nat × Nat × List Block66 :=
  let skip := 61440 * n % 66
  let need := min (frameBlocks - 61440 * n / 66) ((skip + 61440 + 65) / 66)
  let new := waiting.take (need - begun.length)
  let all := begun ++ new ++ List.replicate (need - begun.length - new.length) idleBlock
  let bits := (all.flatMap fun b => bitsOf 66 b.toNat).drop skip
  (fit 1280 ((chunks 48 1280 bits).map ofBits), new.length, if (skip + 61440) % 66 = 0 then [] else all.drop (need - 1))

/-! ## Who the device is (Table 6-1) -/

def State.role (s : State) : Nat := s.reg O.protRole
def State.large (s : State) : Bool := s.reg O.protConfig == 1

/-- A warm spare (R261). -/
def State.warmSpare (s : State) : Bool := s.role == 3 && s.sys.mode == .isolate

/-! ## Streams (R230 to R232, R239) -/

/-- The Cooper ports in Witness role that carry streams 2 to 31 (Table 6-13). -/
def State.witPorts (s : State) : List Nat := ((List.range 96).filter fun p => s.lreg O.portRole p == 1).take 30

def State.streamState (s : State) (st : Nat) : Nat := s.reg O.witnessStreamState st

/-- The device is unwatched. -/
def State.unwatched (s : State) : Bool := bit (s.reg O.protFlags) 0

/-- The device becomes unwatched, or ceases to be: event 484 (R239); preferences are checked afterwards (R482). -/
def State.setUnwatched (s : State) (b : Bool) : State :=
  if s.unwatched = b then s
  else
    let s := (s.setReg O.protFlags 0 (putBit (s.reg O.protFlags) 0 b)).raise 484
    { s with prot := { s.prot with recheck := !b } }

/-- Unwatched by the role, the configuration and the streams (R239). -/
def State.refreshWatch (s : State) : State :=
  if s.role = 4 then s.setUnwatched false
  else if s.large then s
  else s.setUnwatched (s.streamState 0 == 0 && s.streamState 1 == 0)

/-- A stream changes state: event 483 (R230). -/
def State.setStreamState (s : State) (st v : Nat) : State :=
  if s.streamState st = v then s
  else ((s.setReg O.witnessStreamState st v).raise 483).refreshWatch

/-- Block lock is lost. -/
def State.blockLoss (s : State) (st : Nat) : State :=
  (s.setStream st { s.stream st with lock := false, good := 0, last := none, start := none }).setStreamState st 0

/-- The stream that port `p` carries is DOWN, as it carries none (R232). -/
def State.streamOff (s : State) (p : Nat) : State :=
  match s.witPorts.findIdx? (· == p) with
  | some k => if s.streamState (k + 2) = 0 then s else s.blockLoss (k + 2)
  | none => s

end Sys2Proof.Machine
end

