-- ==== Sys2Proof/Machine/Link.lean ====
section
/-! DEFINITION. The Cooper link: Flint, version negotiation, FEC degrade, the words a port sends, and the link
objects (chapter 2; R31 to R33, R483, R502, R509, R510). -/

namespace Sys2Proof.Machine

/-! ## Words (Tables 2-4, 2-5, 2-8) -/

/-- The Frame Alignment Word (R61). -/
def faw : BitVec 96 := 0x5A3C9E61C7B2A5C3619E384D

/-- Bit differences of a received 96-bit sequence from the FAW. -/
def fawDiff (b : BitVec 96) : Nat := popCount 96 ((b ^^^ faw).toNat)

/-- The Row Marker Word of row `q` in frame `fsn` (Table 2-4). -/
def rmw (q fsn : Nat) : Nat := 0x6B1D * 2 ^ 32 + q * 2 ^ 28 + (15 - q) * 2 ^ 24 + fsn % 2 ^ 24

/-- A handshake word (Table 2-5); the JX96 supports versions 1 and 2. -/
def hsWord (cur target phase count : Nat) (seen : Bool) : Nat :=
  let w := (3 * 2 ^ 40 + cur * 2 ^ 36 + target * 2 ^ 32 + phase * 2 ^ 30 + count * 2 ^ 28 + b2n seen * 2 ^ 27)
  w + crcHandshake w

/-- A handshake word is valid (R65). -/
def hsValid (w : Nat) : Bool := w % 65536 == crcHandshake w

/-! ## Receiver and transmitter versions -/

def State.rxVer (s : State) (p : Nat) : Nat := s.reg O.portVersion p / 16
def State.txVer (s : State) (p : Nat) : Nat := s.reg O.portVersion p % 16
/-- The version of the frame that port `p` is sending. -/
def State.sendVer (s : State) (p : Nat) : Nat := (s.linkQ p).ver
def State.setVer (s : State) (p r t : Nat) : State := s.setReg O.portVersion p (16 * r + t)

/-- Flint is aligned: SYNC, SLIP1 or SLIP2. -/
def State.aligned (s : State) (p : Nat) : Bool := decide (3 ≤ s.reg O.portAlignState p)

/-- The port's serdes island is ready. -/
def State.islandReady (s : State) (p : Nat) : Bool := bit (s.reg O.powerSdIslandState) (p / 8)

/-- In arbiter role a Cooper port is in Witness role or disabled (R37): another one does not run, though PORT.ENABLE
reads 1 (log entry 86). -/
def State.portAllowed (s : State) (p : Nat) : Bool := s.reg O.protRole != 4 || s.lreg O.portRole p == 1

/-- The port runs: enabled, or stopping at the next boundary, with the fabric island on. -/
def State.running (s : State) (p : Nat) : Bool :=
  s.sys.fabOn && (s.reg O.portEnable p == 1 || (s.linkP p).stopPending) && s.portAllowed p

/-- The version V of R84: the highest version both ends support, not excluded and not above LINK.VERSION_MAX; 0 when
there is none. -/
def State.bestVersion (s : State) (p : Nat) : Nat :=
  let ok := s.reg O.linkPeerSupported p &&& 3
  let ok := if bit (s.reg O.linkVersionExcluded p) 1 then ok % 2 else ok
  if bit ok 1 && decide (2 ≤ s.reg O.linkVersionMax p) then 2 else ok % 2

/-! ## The tie to network time (R287, R298) -/

/-- The Cooper port of REFk, the selected input, the state of the Horologer. -/
def State.refPortOf (s : State) (i : Nat) : Nat := s.reg O.refPort i
def State.selected (s : State) : Nat := s.reg O.refSelected
def State.refState (s : State) : Nat := s.reg O.refState

/-- Input `i` bears time (Table 7-1). -/
def State.bears (s : State) (i : Nat) : Bool :=
  if i < 8 then
    let p := s.refPortOf i
    decide (p < 96) && s.rxVer p == 2 && (s.linkP p).ql.acc && bit (s.reg O.portRxQl p) 43 &&
      !bit (s.reg O.portRxQl p) 42
  else if i = 10 then (s.input i).twoTods
  else i == 11

/-- REF.TIED becomes 0: local time runs on at the nominal increment, the servo starts. -/
def State.untie (s : State) : State :=
  if s.reg O.refTied = 0 then s
  else
    let s := (s.setReg O.refTied 0 0).raise 423
    let s := (s.setReg O.timeGridResidual 0 0).setTime s.tick s.lt TimS.init.inc
    { s with ref := { s.ref with keep := false, tieDue := false, pull := false, left := 0, frac := 0 }
             tim := { s.tim with started := false, run := false, clamped := false, lastUse := 0 } }

/-- The conditions of R287 hold. -/
def State.tieHolds (s : State) : Bool :=
  let sel := s.selected
  decide (sel < 13) && s.bears sel && (s.refState == 2 || s.ref.keep)

/-- REF.TIED goes to 0 as soon as a condition of R287 fails. -/
def State.tieFails (s : State) : State := if s.tieHolds then s else s.untie

/-! ## Frames that wait for an interface (R311, R317) -/

/-- A completion record (Table 8-5); the oldest of 64 unread ones gives way. -/
def State.launchEnd (s : State) (l : LaunchR) (status stamp : Nat) : State :=
  let r := l.tag % 2 ^ 32 * 2 ^ 112 + l.iface * 2 ^ 104 + status * 2 ^ 96 + timeOf stamp
  let d := s.tim.done ++ [r]
  let s := { s with tim := { s.tim with
    done := if 64 < d.length then d.drop 1 else d
    launches := s.tim.launches.erase l } }
  let s := s.tally 91 1
  if status = 0 then s else s.raise 428

/-- Queued frames of an interface are dropped: counted as link down, event 429 (R311). -/
def State.dropQueue (s : State) (i : Nat) : State :=
  let n := (s.tim.queue.filter fun x => x.iface == i).length
  let s := { s with tim := { s.tim with queue := s.tim.queue.filter fun x => x.iface != i } }
  foldRange n (fun s _ => (s.bump O.timeTcStats 4 48).raise 429) s

/-- The launches of an interface are discarded (R317). -/
def State.dropLaunches (s : State) (i : Nat) : State :=
  (s.tim.launches.filter fun x => x.iface == i).foldl (fun s l => s.launchEnd l 2 0) s

/-- Port `p` leaves SYNC or changes version. -/
def State.ifaceDown (s : State) (p : Nat) : State := (s.dropQueue p).dropLaunches p

/-! ## Flint (Table 2-11) -/

/-- The runs of R64 and of the handshake start anew. -/
def LinkP.forget (l : LinkP) : LinkP :=
  { l with ql := .init, pref := .init, ls0 := .init, ls1 := .init, ls2 := .init, supp := .init, seekRun := 0,
           rxCount := 0, rxTarget := 0, msgAsm := [], msgSeq := none }

/-- The row of Table 2-12 that clears PEER_SEEN: in SEEK, AGREE, and COMMIT before COUNT 0 is sent. -/
def State.negDrop (s : State) (p : Nat) : State :=
  let n := s.reg O.portNegState p
  let l := s.linkP p
  if n = 1 || n = 2 || (n = 3 && l.count ≠ 0) then
    (s.setLink p { l with peerSeen := false, target := 0, count := 0 }).setReg O.portNegState p 1
  else s

/-- Alignment of port `p` ends in state `st`: its grains are AIS, its Witness stream is DOWN (R232) and, when `loss`,
event 4p is raised and the loss acts on the negotiation (R79, R82). Candidates opened in SLIP1 and SLIP2 live on in
HUNT (R76, Table 2-11). -/
def State.unalign (s : State) (p st : Nat) (loss : Bool) : State :=
  let s := s.setReg O.portAlignState p st
  let l := s.linkP p
  let s := s.setLink p { l with cands := if st = 0 then [] else l.cands, lastRx := false }
  let s := ((s.portAis p).ifaceDown p).streamOff p
  if loss then (s.raise (4 * p)).negDrop p else s

/-- Flint adopts a candidate whose confirming FAW begins at raw bit `at_`: SYNC, event 4p (R82), runs and interpreters
start (R64, R123). -/
def State.sync (s : State) (p at_ : Nat) : State :=
  let s := s.setReg O.portAlignState p 3
  let l := s.linkP p
  let s := s.setLink p { l.forget with cands := [], outFrames := 0, pos := at_ }
  (s.portAis p).raise (4 * p)

/-- The serdes reports signal and CDR lock: the search starts, and the receiver holds adapted settings for the version
(R510). -/
def State.cdrLock (s : State) (p : Nat) : State :=
  if s.running p && s.islandReady p && s.reg O.portAlignState p == 0 then
    let q := s.linkQ p
    let s := s.setLinkQ p (if s.rxVer p = 2 then { q with adapt2 := true } else { q with adapt1 := true })
    (s.setReg O.portAlignState p 1).setLink p { s.linkP p with cands := [] }
  else s

/-- The receiver takes version `v` (R86): Flint goes to DOWN and hunts anew, without a loss of alignment. -/
def State.rxSwitch (s : State) (p v : Nat) : State :=
  let s := s.setLink p { s.linkP p with rxReset := false }
  if s.rxVer p = v then s else ((s.setVer p v (s.txVer p)).unalign p 0 false).tieFails

/-- A return to START that waits for the receiver's frame boundary takes effect (R86). -/
def State.rxResetDue (s : State) (p : Nat) : State := if (s.linkP p).rxReset then s.rxSwitch p 1 else s

/-- The serdes reports loss of signal or of CDR lock. -/
def State.signalLoss (s : State) (p : Nat) : State :=
  if s.running p && s.reg O.portAlignState p != 0 then (s.unalign p 0 (s.aligned p)).rxResetDue p else s

/-- Flint follows candidates: it has a lock and is not in SYNC (R76). -/
def State.hunting (s : State) (p : Nat) : Bool :=
  let st := s.reg O.portAlignState p
  s.running p && st != 0 && st != 3

/-- Flint searches for a frame: HUNT or CONFIRM (Table 2-11). -/
def State.unaligned (s : State) (p : Nat) : Bool := s.reg O.portAlignState p == 1 || s.reg O.portAlignState p == 2

/-- The 96 raw bits at position `c` of stretches of the lane. -/
def State.fawAt (s : State) (p : Nat) (ls : List Lane) (c : Nat) : BitVec 96 :=
  BitVec.ofNat 96 (rawSpan (stretches (s.reg O.portLaneOpt p) ls) c 96)

/-- Raw-bit position `c` is compared with the FAW (R76). -/
def State.fawMatch (s : State) (p c : Nat) (x : Lane) : State :=
  let l := s.linkP p
  if !s.hunting p || 3 < fawDiff (s.fawAt p [x] c) || l.cands.any (fun x => x.pos == c) then s
  else if 16 ≤ l.cands.length then s.bump O.portFlintDrop p 32
  else s.setLink p { l with cands := l.cands ++ [⟨c, false⟩] }

/-- Candidate `c` is rejected (R76): HUNT unless another has passed its row-1 check. -/
def State.rejectCand (s : State) (p c : Nat) : State :=
  let l := s.linkP p
  let rest := l.cands.filter fun x => x.pos != c
  let s := (s.setLink p { l with cands := rest }).bump O.portFlintReject p 32
  if rest.any Cand.passed || !s.unaligned p then s else s.setReg O.portAlignState p 1

/-- The differences of the row-1 RMW of the candidate at raw bit `c` from what its FSN word makes it expect (R73,
R74). -/
def State.row1Diff (s : State) (p c : Nat) (ls : List Lane) : Nat :=
  let r := stretches (s.reg O.portLaneOpt p) ls
  let fsn := rawWord r (s.rxVer p) c 0 2 ^^^ ksFsn
  popCount 48 (rawWord r (s.rxVer p) c 1 0 ^^^ rmw 1 fsn)

/-- The row-1 check of candidate `c` (R73): at most 3 differences from the expected RMW. -/
def State.row1Check (s : State) (p c : Nat) (ls : List Lane) : State :=
  let l := s.linkP p
  if !s.hunting p || !l.cands.any (fun x => x.pos == c && !x.passed) then s
  else if s.row1Diff p c ls ≤ 3 then
    let s := s.setLink p { l with cands := l.cands.map fun x => if x.pos = c then { x with passed := true } else x }
    if s.unaligned p then s.setReg O.portAlignState p 2 else s
  else s.rejectCand p c

/-- The FAW confirmation of candidate `c`, which has passed its row-1 check: the FAW stands one frame after it (R75). In
SLIP1 and SLIP2 Table 2-11 has no row that adopts it, and it is given up (log entry 79). -/
def State.fawConfirm (s : State) (p c : Nat) (x : Lane) : State :=
  let l := s.linkP p
  let at_ := c + frameBits (s.rxVer p)
  if !s.hunting p || !l.cands.any (fun x => x.pos == c && x.passed) then s
  else if fawDiff (s.fawAt p [x] at_) ≤ 3 then
    if s.unaligned p then s.sync p at_ else s.setLink p { l with cands := l.cands.filter fun x => x.pos != c }
  else s.rejectCand p c

/-! ## Negotiation (Table 2-12) -/

/-- The port returns to START, and so to SEEK in version 1 (event 4p + 2, R82). Its traffic is interrupted (R94); each
direction takes version 1 at its next frame boundary (R86), a receiver that is not aligned at once. The COMMIT word
received last still counts for R87. -/
def State.negReturn (s : State) (p : Nat) : State :=
  if !s.running p then s
  else
    let wait := s.aligned p && s.rxVer p != 1
    let l := s.linkP p
    let s := s.setLink p { l with peerSeen := false, target := 0, count := 0, relock := 0, outFrames := 0, seekRun := 0,
                                  supp := .init, txReset := s.txVer p != 1, rxReset := wait, carries := false }
    let s := if wait then s else s.rxSwitch p 1
    ((s.portAis p).setReg O.portNegState p 1).raise (4 * p + 2)

/-- 256 frames in RELOCK have passed: the version is excluded and the port returns to START; event 4p + 2 for the
failure, and again for the return (R82). -/
def State.relockFail (s : State) (p : Nat) : State :=
  let l := s.linkP p
  if s.reg O.portNegState p = 4 && decide (256 ≤ l.relock) then
    let b := 2 ^ (s.txVer p - 1)
    let q := s.linkQ p
    let old := if q.exclFsn = s.clk.fsn then q.exclBits else 0
    let s := s.setLinkQ p { q with exclFsn := s.clk.fsn, exclBits := old ||| b }
    let s := s.setReg O.linkVersionExcluded p ((s.reg O.linkVersionExcluded p ||| b) &&& 0xFE)
    (s.raise (4 * p + 2)).negReturn p
  else s

/-- 64 consecutive frames out of SYNC in SETTLED. -/
def State.syncLoss (s : State) (p : Nat) : State :=
  if s.reg O.portNegState p = 5 && decide (64 ≤ (s.linkP p).outFrames) then s.negReturn p else s

/-- A renegotiation that the host asked for ends once the port is settled, or stopped; its token is free (R403). -/
def State.negEnd (s : State) (p : Nat) : State :=
  let q := s.linkQ p
  if q.tok && (s.reg O.portNegState p == 5 || s.reg O.portNegState p == 0) then
    (s.setLinkQ p { q with tok := false }).actEnd 7
  else s

/-- A renegotiation for holder `h` (R94, Table 11-8). -/
def State.renegotiate (s : State) (p h : Nat) : State :=
  if !s.running p then s
  else
    let q := s.linkQ p
    let s := if q.tok then s else (s.setLinkQ p { q with tok := true }).actStart 7 h
    s.negReturn p

/-- Port `p` is SETTLED: its traffic flows again (R94), and the run of the last row of Table 2-12 starts. -/
def State.settle (s : State) (p : Nat) : State :=
  (s.setLink p { s.linkP p with carries := true, seekRun := 0 }).setReg O.portNegState p 5

/-- What a valid handshake word does to the negotiation: one row of Table 2-12 for a word (log entry 15). -/
def State.handshakeRow (s : State) (p w : Nat) : State :=
  let supp := bits w 47 40
  let cur := bits w 39 36
  let tgt := bits w 35 32
  let ph := bits w 31 30
  let seen := bit w 27
  let l := s.linkP p
  let run := if l.supp.val = supp && l.supp.n ≠ 0 then l.supp.n + 1 else 1
  let s := s.setLink p { l with supp := ⟨supp, run, l.supp.acc⟩, seekRun := if ph = 0 then l.seekRun + 1 else 0 }
  let accept := decide (3 ≤ run) && (!l.supp.acc || s.reg O.linkPeerSupported p != supp)
  let changed := accept && s.reg O.linkPeerSupported p != supp
  let s := if accept then
      (s.setReg O.linkPeerSupported p supp).setLink p { s.linkP p with supp := ⟨supp, run, true⟩ }
    else s
  let n := s.reg O.portNegState p
  let l := s.linkP p
  if n = 1 && !l.peerSeen then
    if 3 ≤ run then s.setLink p { l with peerSeen := true, target := s.bestVersion p } else s
  else if (n = 1 || n = 2 || (n = 3 && l.count ≠ 0)) && (changed || (seen && tgt ≠ l.target)) then s.negDrop p
  else if n = 1 then
    if seen && tgt = s.txVer p then s.settle p
    else if seen && s.txVer p < tgt then s.setReg O.portNegState p 2 else s
  else if n = 2 then
    if (ph = 1 || ph = 2) && tgt = l.target then
      (s.setLink p { l with count := 4 }).setReg O.portNegState p 3
    else s
  else if n = 4 then
    if s.rxVer p = s.txVer p && cur = s.txVer p then
      ((s.settle p).bump O.linkChangeCount p 32).raise (4 * p + 2)
    else s
  else if n = 5 && s.txVer p = 1 && 3 ≤ l.seekRun then
    (s.setLink p { l with peerSeen := false, target := 0, seekRun := 0 }).setReg O.portNegState p 1
  else s

/-- A valid handshake word, and the end of a renegotiation that it settles. -/
def State.handshake (s : State) (p w : Nat) : State := (s.handshakeRow p w).negEnd p

/-- The receiver's version after a frame: COMMIT with COUNT 0, or a frame that follows the one with COUNT 1 (R86,
R87). `w` is the valid handshake word; `follows` that the RMWs and the FSN show the frame to follow. A word that only
fails its CRC is taken like one marked invalid (log entry 15). -/
def State.rxCommit (s : State) (p : Nat) (w : Option Nat) (follows : Bool) : State :=
  let l := s.linkP p
  match w with
  | some w =>
    let c := if bits w 31 30 = 2 then bits w 29 28 + 1 else 0
    let v := bits w 35 32
    let s := s.setLink p { l with rxCount := if c = 1 then 0 else c, rxTarget := v }
    if c = 1 && (v = 1 || v = 2) then s.rxSwitch p v else s
  | none =>
    let s := s.setLink p { l with rxCount := 0 }
    if l.rxCount = 2 && follows && (l.rxTarget = 1 || l.rxTarget = 2) then s.rxSwitch p l.rxTarget else s

/-- The transmitter's part of the negotiation at a frame start: COUNT runs down, and the version changes after the
frame with COUNT 0 (R87), or after the frame in which the port returned to START (R86). -/
def State.negFrame (s : State) (p : Nat) : State :=
  let l := s.linkP p
  let n := s.reg O.portNegState p
  let s := s.setLink p { l with
    count := if n = 3 then l.count - 1 else l.count
    relock := if n = 4 then l.relock + 1 else 0
    outFrames := if s.aligned p then 0 else l.outFrames + 1
    txReset := false }
  let s := if l.txReset then (s.setVer p (s.rxVer p) 1).ifaceDown p else s
  if n = 3 && l.count = 0 then
    let s := (s.setVer p (s.rxVer p) l.target).ifaceDown p
    (s.setLink p { s.linkP p with relock := 0 }).setReg O.portNegState p 4
  else s

/-- The handshake word that port `p` sends in this frame. -/
def State.hsSent (s : State) (p : Nat) : Nat :=
  let l := s.linkP p
  let n := s.reg O.portNegState p
  let v := s.txVer p
  let ph := if n = 2 then 1 else if n = 3 then 2 else if n = 4 || n = 5 then 3 else 0
  let tgt := if n = 5 then v else if l.peerSeen then l.target else 0
  hsWord v tgt ph (if n = 3 then l.count else 0) l.peerSeen

/-- The link-status words that port `p` sends (Table 2-8). LS0.RFSN is 0, too, from a new SYNC to the first complete
aligned frame (log entry 98). -/
def State.lsSent (s : State) (p : Nat) : List Nat :=
  let l := s.linkP p
  let rdi := !s.aligned p
  let ls0 := b2n rdi * 2 ^ 47 + b2n l.deg * 2 ^ 46 + b2n (decide (0 < l.lastUnc)) * 2 ^ 45 + s.rxVer p * 2 ^ 40 +
    (if rdi || !l.lastRx then 0 else s.reg O.portRxFsn p % 2 ^ 32)
  let ls1 := min l.lastCorr 0xFFFF * 2 ^ 32 + min l.lastUnc 0xFFFF * 65536 + l.lastFawd * 256
  let ls2 := p * 2 ^ 40 + s.reg O.identDevid % 2 ^ 32 * 256 + s.lreg O.portRole p * 64
  [ls0, ls1, ls2]

/-! ## FEC degrade (R81) -/

/-- An interval of 8,000 received frames ends. -/
def State.fecInterval (s : State) (p : Nat) : State :=
  let l := s.linkP p
  if l.degFrames < 8000 then s
  else
    let thr := s.reg O.portFecDegThr p
    let deg := if thr < l.degSum then true else if 2 * l.degSum ≤ thr then false else l.deg
    let s := s.setLink p { l with degSum := 0, degFrames := 0, deg := deg }
    if deg != l.deg then s.raise (4 * p + 1) else s

/-! ## Enabling and stopping a port (R32, R483) -/

/-- Port `p` starts: version 1, SEEK, Flint DOWN (R83); a frame that a stop left it to complete goes on (R483). FEC
degrade, its sum and its frames start anew without an event (log entry 79). -/
def State.portStart (s : State) (p : Nat) : State :=
  if !s.portAllowed p then s
  else
  let old := s.linkP p
  let l := { LinkP.init with msgTxSeq := old.msgTxSeq, prefOld := old.prefOld, stopAtFrameEnd := old.stopAtFrameEnd
                             txOn := old.stopAtFrameEnd && old.txOn, carries := old.stopAtFrameEnd && old.carries }
  let s := ((s.setVer p 1 1).setReg O.portNegState p 1).setReg O.portAlignState p 0
  ((s.setLink p l).portAis p).tieFails

/-- Port `p` stops; its transmitter has finished its frame unless `at_` keeps it, with its traffic, to the end of the
frame (R483). ALIGN_STATE goes to DOWN without event 4p: a stop is no loss of alignment (log entry 79). -/
def State.portStop (s : State) (p : Nat) (at_ : Bool) : State :=
  let l := s.linkP p
  let s := ((s.setVer p 1 1).setReg O.portNegState p 0).setReg O.portAlignState p 0
  let s := s.setLink p { LinkP.init with msgTxSeq := l.msgTxSeq, txOn := at_ && l.txOn, stopAtFrameEnd := at_,
                                              carries := at_ && l.carries }
  ((((s.portAis p).ifaceDown p).streamOff p).negEnd p).tieFails

/-- The device or a port has taken another role: ports that R37 allows no more stop, and those it allows again start. -/
def State.rolesChanged (s : State) : State :=
  foldRange 96 (fun s p =>
    if s.reg O.portEnable p = 0 then s
    else if !s.portAllowed p then (if s.reg O.portNegState p = 0 then s else s.portStop p true)
    else if s.reg O.portNegState p = 0 && s.islandReady p then s.portStart p else s) s

/-- Port `p` holds a line, or an element of MAP.LIVE_SRC names a grain of it (R483). -/
def State.portBusy (s : State) (p : Nat) : Bool :=
  s.grp.lines.any (fun x => x.1 / 1280 == p) ||
  (s.entries O.mapLiveSrc).any fun x => x.1 / 1280 == p || (decide (x.2 < 122880) && x.2 / 1280 == p)

/-- PORT.ENABLE (R32, R483). -/
def portEnableOp (p v : Nat) (s : State) : State × Nat :=
  let on := s.reg O.portEnable p == 1
  let l := s.linkP p
  if v = 1 then
    if on then (s, 0)
    else if l.stopPending then ((s.setLink p { l with stopPending := false }).setReg O.portEnable p 1, 0)
    else if !s.islandReady p then (s, 0x0505)
    else ((s.setReg O.portEnable p 1).portStart p, 0)
  else if !on then (s, 0)
  else if s.portBusy p then ((s.setReg O.portEnable p 0).setLink p { l with stopPending := true }, 0)
  else ((s.setReg O.portEnable p 0).portStop p false, 0)

/-- PORT.ROLE (R96, R206, R519): pending; a port with a line stays in traffic role. -/
def portRoleOp (p v : Nat) (s : State) : State × Nat :=
  if v ≠ 0 && (s.entries O.groupLineCtx).any (fun x => x.1 / 1280 == p && decide (x.2 < 6144)) then (s, 0x070B)
  else (s.setReg O.portRole p v, 0)

def State.writePortEnable (s : State) (w : Who) (p v : Nat) : State := s.write w O.portEnable p v (portEnableOp p v)
def State.writePortRole (s : State) (w : Who) (p v : Nat) : State :=
  s.write w O.portRole p v (portRoleOp p v)

/-- LINK.RENEGOTIATE and LINK.VERSION_MAX return the port to START (R94). -/
def State.writeRenegotiate (s : State) (w : Who) (p v : Nat) : State :=
  s.write w O.linkRenegotiate p v fun s =>
    if s.tokFree 7 (holderOf w) then (s.renegotiate p (holderOf w), 0) else (s, 0x0402)
def State.writeVersionMax (s : State) (w : Who) (p v : Nat) : State :=
  s.write w O.linkVersionMax p v fun s =>
    if s.tokFree 7 (holderOf w) then ((s.setReg O.linkVersionMax p v).renegotiate p (holderOf w), 0) else (s, 0x0402)

/-- LINK.VERSION_EXCLUDED: bit 0 ignores writes; a bit the port sets in the same frame stays set (R95). -/
def State.writeVersionExcluded (s : State) (w : Who) (p v : Nat) : State :=
  s.write w O.linkVersionExcluded p v fun s =>
    let q := s.linkQ p
    let own := if q.exclFsn = s.clk.fsn then q.exclBits else 0
    (s.setReg O.linkVersionExcluded p ((v ||| own) &&& 0xFE), 0)

/-- LINK.TIME_CHANNEL_EN: a channel that is disabled goes on to the next link frame (R72, Table 15-3). -/
def State.writeTimeChannelEn (s : State) (w : Who) (p v : Nat) : State :=
  s.write w O.linkTimeChannelEn p v fun s =>
    let l := s.linkP p
    let ends := v == 0 && (l.chanEnd || s.reg O.linkTimeChannelEn p == 1)
    ((s.setReg O.linkTimeChannelEn p v).setLink p { l with chanEnd := ends }, 0)

/-- PORT.LANE_OPT acts on the lane from the next symbol; rounds tell where in the frame (R46, log entry 99). -/
def laneOptOp (p v : Nat) (s : State) : State × Nat :=
  let q := s.linkQ p
  ((s.setReg O.portLaneOpt p v).setLinkQ p { q with opts := if q.opts.isEmpty then [] else q.opts ++ [(s.clk.round,
    v)] }, 0)

/-! ## Serdes islands (R31 to R33, R502) -/

/-- The receivers of island `k` lose their adapted settings (R510). -/
def State.islandOff (s : State) (k : Nat) : State :=
  foldRange 8 (fun s i =>
    let p := 8 * k + i
    s.setLinkQ p { s.linkQ p with adapt1 := false, adapt2 := false }) s

/-- A bit of POWER.SD_ISLAND_STATE changes: event 510. -/
def State.islandState (s : State) (k : Nat) (b : Bool) : State :=
  if bit (s.reg O.powerSdIslandState) k = b then s
  else (s.setReg O.powerSdIslandState 0 (putBit (s.reg O.powerSdIslandState) k b)).raise 510

/-- Island `k` is asked for: it queues behind those that power up (R502). -/
def State.islandUp (s : State) (k : Nat) : State :=
  { s with sys := { s.sys with sdUp := if s.sys.sdUp.contains k then s.sys.sdUp else s.sys.sdUp ++ [k]
                               sdDrop := s.sys.sdDrop.filter fun x => x != k } }

/-- The last island asked for is up: the token is free again. -/
def State.islandTokEnd (s : State) : State :=
  if s.sys.sdTok then { s with sys := { s.sys with sdTok := false } }.actEnd 7 else s

/-- POWER.SD_ISLAND_EN; islands have power from STAGE on only (Tables 1-5 and 14-1, R458). -/
def sdIslandOp (h v : Nat) (s : State) : State × Nat :=
  let cleared := (List.range 12).filter fun k => bit (s.reg O.powerSdIslandEn) k && !bit v k
  let set := (List.range 12).filter fun k => bit v k && !bit (s.reg O.powerSdIslandState) k
  let enabled (k : Nat) : Bool :=
    (List.range 8).any fun i => s.reg O.portEnable (8 * k + i) == 1 || (s.linkP (8 * k + i)).stopPending
  if !s.tokFree 7 h then (s, 0x0402)
  else if cleared.any enabled then (s, 0x0505)
  else
    let s := s.setReg O.powerSdIslandEn 0 v
    let on := s.sys.fabOn && decide (3 ≤ s.sys.mode.code)
    let s := if on && !set.isEmpty && !s.sys.sdTok then
        { s with sys := { s.sys with sdTok := true } }.actStart 7 h
      else s
    if !on then (s, 0)
    else
      let s := cleared.foldl (fun s k =>
        if s.sys.sdUp.contains k then { s with sys := { s.sys with sdDrop := k :: s.sys.sdDrop } }
        else (s.islandState k false).islandOff k) s
      (set.foldl State.islandUp s, 0)

/-- Island `k` has power: it is ready, and goes off again where its bit was cleared meanwhile (R33). -/
def State.islandReadyOp (s : State) (k : Nat) : State :=
  if s.sys.sdUp.head? = some k then
    let drop := s.sys.sdDrop.contains k
    let s := { s with sys := { s.sys with sdUp := s.sys.sdUp.drop 1, sdDrop := s.sys.sdDrop.filter fun x => x != k } }
    let s := s.islandState k true
    let s := if s.sys.sdUp.isEmpty then s.islandTokEnd else s
    if drop then (s.islandState k false).islandOff k
    else
      -- ports that a restored value has enabled before their island was ready start now
      foldRange 8 (fun s i =>
        let p := 8 * k + i
        if s.reg O.portEnable p = 1 && s.reg O.portNegState p = 0 then s.portStart p else s) s
  else s

/-! ## Transmit equaliser (R509) -/

/-- Byte `i` of LINK.TX_EQ as a signed number of 64ths. -/
def eqTap (v i : Nat) : Int := sInt 8 (v / 2 ^ (8 * (7 - i)))

/-- The value is in the ranges of Table 16-11 and each version's magnitudes sum to at most 29/64. -/
def eqOk (v : Nat) : Bool :=
  let within (i : Nat) (lo hi : Int) : Bool := decide (lo ≤ eqTap v i) && decide (eqTap v i ≤ hi)
  let half (b : Nat) : Bool := within b 0 4 && within (b + 1) 0 8 && within (b + 2) (-22) 0 && within (b + 3) (-13) 0 &&
    decide ((List.range 4).foldl (fun a i => a + (eqTap v (b + i)).natAbs) 0 ≤ 29)
  half 0 && half 4

/-- The main tap in 64ths for version `ver`: 1 less the magnitudes of the outer taps. -/
def eqMain (v ver : Nat) : Int :=
  64 - (List.range 4).foldl (fun a i => a + (eqTap v ((if ver = 2 then 0 else 4) + i)).natAbs) 0

def State.writeTxEq (s : State) (w : Who) (p v : Nat) : State :=
  s.write w O.linkTxEq p v fun s => if eqOk v then (s.setReg O.linkTxEq p v, 0) else (s, 0x0310)

/-! ## The commands -/

def execCdrLock (p : Nat) (s : State) : Host.Outcome State Fault Refusal := s.runIn p 96 fun s => s.cdrLock p
def execLossOfSignal (p : Nat) (s : State) : Host.Outcome State Fault Refusal := s.runIn p 96 fun s => s.signalLoss p
def execFawMatch (p c : Nat) (lane : Lane) (s : State) : Host.Outcome State Fault Refusal :=
  s.runIn p 96 fun s => s.fawMatch p c lane
def execRow1Check (p c : Nat) (head : Lane) (row1 : List Lane) (s : State) : Host.Outcome State Fault Refusal :=
  s.runIn p 96 fun s => s.row1Check p c (head :: row1)
def execFawConfirm (p c : Nat) (lane : Lane) (s : State) : Host.Outcome State Fault Refusal :=
  s.runIn p 96 fun s => s.fawConfirm p c lane
def execRelockTimeout (p : Nat) (s : State) : Host.Outcome State Fault Refusal := s.runIn p 96 fun s => s.relockFail p
def execSyncLossRenegotiate (p : Nat) (s : State) : Host.Outcome State Fault Refusal :=
  s.runIn p 96 fun s => s.syncLoss p
def execFecDegInterval (p : Nat) (s : State) : Host.Outcome State Fault Refusal := s.runIn p 96 fun s => s.fecInterval p
def execPortEnableWrite (w : Who) (p v : Nat) (s : State) : Host.Outcome State Fault Refusal :=
  s.run fun s => s.writePortEnable w p v
def execPortRoleWrite (w : Who) (p v : Nat) (s : State) : Host.Outcome State Fault Refusal :=
  s.run fun s => s.writePortRole w p v
def execLinkRenegotiate (w : Who) (p v : Nat) (s : State) : Host.Outcome State Fault Refusal :=
  s.run fun s => s.writeRenegotiate w p v
def execVersionMaxWrite (w : Who) (p v : Nat) (s : State) : Host.Outcome State Fault Refusal :=
  s.run fun s => s.writeVersionMax w p v
def execVersionExcludedWrite (w : Who) (p v : Nat) (s : State) : Host.Outcome State Fault Refusal :=
  s.run fun s => s.writeVersionExcluded w p v
def execTimeChannelEnWrite (w : Who) (p v : Nat) (s : State) : Host.Outcome State Fault Refusal :=
  s.run fun s => s.writeTimeChannelEn w p v
def execSdIslandEnWrite (w : Who) (v : Nat) (s : State) : Host.Outcome State Fault Refusal :=
  s.run fun s => s.write w O.powerSdIslandEn 0 v (sdIslandOp (holderOf w) v)
def execSdIslandReady (k : Nat) (s : State) : Host.Outcome State Fault Refusal :=
  s.runIn k 12 fun s => s.islandReadyOp k
def execTxEqWrite (w : Who) (p v : Nat) (s : State) : Host.Outcome State Fault Refusal :=
  s.run fun s => s.writeTxEq w p v

end Sys2Proof.Machine
end

