-- ==== Sys2Proof/Machine/Traffic.lean ====
section
/-! DEFINITION. The commands on grains, on the maps and on the groups (chapters 3 to 5). -/

namespace Sys2Proof.Machine

/-! ## Grains -/

/-- GRAIN.SIZE (R97, R206): pending; a position that holds a line keeps its size. -/
def grainSizeOp (e v : Nat) (s : State) : State × Nat :=
  if (List.range 8).any fun i => decide (s.reg O.groupLineCtx (8 * e + i) < 6144) then (s, 0x0706)
  else (s.setReg O.grainSize e v, 0)

def State.writeGrainSize (s : State) (w : Who) (e v : Nat) : State :=
  s.write w O.grainSize e v (grainSizeOp e v) (pre := if s.locked then 0x060D else 0)

/-- GRAIN.TX_FORCE_AIS, which acts from the next frame (Table 3-10). -/
def State.writeForceAis (s : State) (w : Who) (a v : Nat) : State :=
  s.write w O.grainTxForceAis a v (store O.grainTxForceAis a v)

/-- The position of a grain's PJO among its 405 words, in the version its port sends. -/
def State.txN0 (s : State) (a : Nat) : Nat := pjoN (s.sendVer (a / 1280)) (a % 1280)

/-! ## Contexts: what time brings (R184, R189) -/

/-- Back to COHERENT after 64 frames of both conditions (R184). -/
def State.coherentReturn (s : State) (c : Nat) : State :=
  if (s.ctx c).kind ≠ 0 && s.reg O.groupMode c = 2 && decide (64 ≤ (s.ctx c).cond) then s.ctxMode c 1 else s

/-- The recapture of R189; the release carries AIS in its frame. -/
def State.recapture (s : State) (c : Nat) : State :=
  if (s.ctx c).kind ≠ 0 && s.reg O.groupMode c = 2 && decide (8 ≤ (s.ctx c).noAligned) &&
    !(s.ctx c).hadAligned && (s.worstLate c).isSome then
    s.capture c
  else s

/-! ## Group objects (R206) -/

/-- A write to an object of a context. -/
def State.writeCtx (s : State) (w : Who) (idx c v : Nat) : State :=
  s.write w idx c v (ctxOp idx c v) (pre := if s.locked then 0x060D else 0)

def State.writeLineCtx (s : State) (w : Who) (a v : Nat) : State :=
  s.write w O.groupLineCtx a v (lineCtxOp a v) (pre := if s.locked then 0x060D else 0)

def State.writeLineSq (s : State) (w : Who) (a v : Nat) : State :=
  s.write w O.groupLineSq a v (lineSqOp a v) (pre := if s.locked then 0x060D else 0)

/-! ## Map objects -/

def State.writeDraftSrc (s : State) (w : Who) (a v : Nat) : State :=
  s.write w O.mapDraftSrc a v (draftSrcOp a v) (pre := if s.followerPend a then 0x060C else 0)
def State.writeDraftRevert (s : State) (w : Who) (v : Nat) : State := s.write w O.mapDraftRevert 0 v draftRevertOp
def State.writeCommitReq (s : State) (w : Who) (v : Nat) : State :=
  s.write w O.mapCommitReq 0 v (commitReqOp (holderOf w))
def State.writeLodeState (s : State) (w : Who) (l v : Nat) : State :=
  s.write w O.fabricLodeState l v (lodeStateOp (holderOf w) l v) (pre := if s.locked then 0x060D else 0)

/-- An ABORT of the map, from a writer that holds the right (R169, R391, R401). -/
def State.abortMap (s : State) (w : Who) : State :=
  if !bit (s.rights w) 2 then s.refuse w 0x0204
  else if s.sys.recovery then s.refuse w 0x0505
  else if !s.sys.fabOn then s.refuse w 0x0506
  else
    let r := s.mapAbortOp
    if r.2 ≠ 0 then r.1.refuse w r.2 else r.1.answer 0

/-! ## The commands -/

def execGrainSizeWrite (w : Who) (e v : Nat) (s : State) : Host.Outcome State Fault Refusal :=
  s.run fun s => s.writeGrainSize w e v
def execTxForceAisWrite (w : Who) (a v : Nat) (s : State) : Host.Outcome State Fault Refusal :=
  s.run fun s => s.writeForceAis w a v
def execGrainChangedRead (w : Who) (p : Nat) (s : State) : Host.Outcome State Fault Refusal :=
  s.run fun s => s.readWith w O.grainChanged p (readClear O.grainChanged p 160)
def execEsReadStart (a : Nat) (s : State) : Host.Outcome State Fault Refusal := s.runIn a 122880 fun s => s.esStart a
def execDisplacedTpoaNew (a : Nat) (s : State) : Host.Outcome State Fault Refusal :=
  s.runIn a 122880 fun s => s.newDisplaced a s.clk.round (s.txN0 a)
def execDraftSrcWrite (w : Who) (a v : Nat) (s : State) : Host.Outcome State Fault Refusal :=
  s.run fun s => s.writeDraftSrc w a v
def execDraftRevert (w : Who) (v : Nat) (s : State) : Host.Outcome State Fault Refusal :=
  s.run fun s => s.writeDraftRevert w v
def execCommitReq (w : Who) (s : State) : Host.Outcome State Fault Refusal := s.run fun s => s.writeCommitReq w 1
def execMapAbort (w : Who) (s : State) : Host.Outcome State Fault Refusal := s.run fun s => s.abortMap w
def execArmingDeadline (s : State) : Host.Outcome State Fault Refusal := s.run State.deadline
def execLodeStateWrite (w : Who) (l v : Nat) (s : State) : Host.Outcome State Fault Refusal :=
  s.run fun s => s.writeLodeState w l v
def execCoherentReturn (c : Nat) (s : State) : Host.Outcome State Fault Refusal :=
  s.runIn c 6144 fun s => s.coherentReturn c
def execRecapture (c : Nat) (s : State) : Host.Outcome State Fault Refusal := s.runIn c 6144 fun s => s.recapture c
def execLineLate (a : Nat) (s : State) : Host.Outcome State Fault Refusal := s.runIn a 122880 fun s => s.lineLateOp a
def execGroupTypeWrite (w : Who) (c v : Nat) (s : State) : Host.Outcome State Fault Refusal :=
  s.run fun s => s.writeCtx w O.groupType c v
def execLineCtxWrite (w : Who) (a v : Nat) (s : State) : Host.Outcome State Fault Refusal :=
  s.run fun s => s.writeLineCtx w a v
def execLatenessWrite (w : Who) (c v : Nat) (s : State) : Host.Outcome State Fault Refusal :=
  s.run fun s => s.writeCtx w O.groupLateness c v
def execMarginWrite (w : Who) (c v : Nat) (s : State) : Host.Outcome State Fault Refusal :=
  s.run fun s => s.writeCtx w O.groupMargin c v
def execLineFreed (a : Nat) (s : State) : Host.Outcome State Fault Refusal := s.runIn a 122880 fun s => s.lineFreedOp a
def execLineChangedRead (w : Who) (p : Nat) (s : State) : Host.Outcome State Fault Refusal :=
  s.run fun s => s.readWith w O.groupLineChanged p (readClear O.groupLineChanged p 160)

end Sys2Proof.Machine
end

