-- ==== Sys2Proof/Machine/Protect.lean ====
section
/-! DEFINITION. Plane protection: Witness records and streams, digests, verdicts and preference (R214 to R245,
R480 to R482). -/

namespace Sys2Proof.Machine

/-! ## Who the device is (Table 6-1) -/

/-- Index of the device's plane: 0 A, 1 B. -/
def State.plane (s : State) : Nat := if s.role = 2 then 1 else 0
/-- The plane code of STATUS and of the preference word. -/
def State.planeCode (s : State) : Nat := if s.role = 1 then 1 else if s.role = 2 then 2 else 0
/-- The position under which records are compared. -/
def State.place (s : State) : Nat := if s.large then s.reg O.protPosition else 0
def State.isPlane (s : State) : Bool := s.role == 1 || s.role == 2

/-! ## Records (Tables 6-2 to 6-6) -/

/-- CRC of a record's blocks before the check block (Table 6-3). -/
def recCrc (l : List Block) : Nat := crcOut (l.foldl (fun c b => crcBits 64 b.toNat c) crcInit)

/-- A whole record. -/
def mkRecord (typ key : Nat) (body : List Nat) (rseq : Nat) : List Block :=
  let bs := ((typ * 2 ^ 56 + (body.length + 2) * 2 ^ 48 + key) :: body).map (BitVec.ofNat 64)
  bs ++ [BitVec.ofNat 64 (recCrc bs * 2 ^ 32 + rseq)]

/-- Block `i` of a record, as a number. -/
def blk (l : List Block) (i : Nat) : Nat := (l.getD i 0).toNat

def recType (l : List Block) : Nat := bits (blk l 0) 63 56
def recKey (l : List Block) : Nat := bits (blk l 0) 47 0

/-- LEN of a record type (Tables 6-4 to 6-6); 0 for a type not listed. -/
def recLen (typ : Nat) : Nat :=
  if typ = 1 then 3 else if typ = 2 then 4 else if typ = 0x10 then 8 else if typ = 0x20 then 4
  else if typ = 0x30 then 5 else 0

/-- A record has none of the faults of R228. One whose LEN agrees with the blocks received but not with its type's LEN
of Tables 6-4 to 6-6 is discarded too (log entry 16). -/
def recOk (l : List Block) : Bool :=
  decide (2 ≤ l.length) && recLen (recType l) == l.length && bits (blk l 0) 55 48 == l.length &&
    bits (blk l (l.length - 1)) 63 32 == recCrc l.dropLast

/-! ## Streams (R230 to R233, R239) -/

/-- The streams of the device. -/
def State.outStreams (s : State) : List Nat :=
  ((List.range 2).filter fun k => bit (s.reg O.witnessLaneEn) k) ++ (List.range s.witPorts.length).map (· + 2)

/-- Stream `st` exists and can carry records. -/
def State.streamThere (s : State) (st : Nat) : Bool :=
  s.sys.fabOn && (if st < 2 then bit (s.reg O.witnessLaneEn) st
    else match s.witPorts[st - 2]? with
      | some p => s.aligned p && s.rxVer p == 2
      | none => false)

/-- Record types that the role and the mode allow (Tables 6-1 and 14-1). -/
def State.sends (s : State) (typ : Nat) : Bool :=
  s.sys.fabOn && decide (3 ≤ s.sys.mode.code) &&
    (if s.role = 0 then false
     else if s.role = 3 then s.sys.mode == .isolate && typ == 0x10
     else if s.role = 4 then typ == 0x10 || (typ == 0x20 && s.sys.mode == .service)
     else typ == 0x10 || s.sys.mode == .service)

/-- The blocks of a record leave on a lane, after idle blocks whose number is timing: the bits before them are a free
value. On a port they wait for its payload words (R227, R232; log entry 92). -/
def State.sendBlocks (s : State) (st : Nat) (r : List Block) : State :=
  if st < 2 then (s.send (.blocks st (laneBlocks (s.freeVal 16 % 2 ^ 58) (r.map BitVec.toNat)))).freeTaken
  else
    match s.witPorts[st - 2]? with
    | some p =>
      let q := s.linkQ p
      if (s.linkP p).txOn && q.ver == 2 then
        s.setLinkQ p { q with wtx := q.wtx ++ (r.map fun b => dataBlock b.toNat) ++ [idleBlock] }
      else s
    | none => s

/-- One record on one stream. -/
def State.sendOn (s : State) (st typ key : Nat) (body : List Nat) : State :=
  let x := s.stream st
  let r := mkRecord typ key body x.rseqTx
  ((s.setStream st { x with rseqTx := (x.rseqTx + 1) % 2 ^ 32 }).send (.witness st r)).sendBlocks st r

/-- A record on every stream that is UP (R481). -/
def State.sendRec (s : State) (typ key : Nat) (body : List Nat) : State :=
  if !s.sends typ then s
  else s.outStreams.foldl (fun s st => if s.streamState st = 2 then s.sendOn st typ key body else s) s

/-- A stream takes part in comparison and verdicts (R231); the arbiter takes them all. -/
def State.inUse (s : State) (st : Nat) : Bool :=
  s.role == 4 || s.large || st == (if s.streamState 0 = 2 then 0 else 1)

/-- Block lock is acquired. -/
def State.blockLock (s : State) (st : Nat) : State :=
  if s.streamThere st then
    let s := s.setStream st { s.stream st with lock := true, good := 0, frames := 0 }
    if s.streamState st = 0 then s.setStreamState st 1 else s
  else s

/-- 8 local frames without a good STATUS record (R230). -/
def State.statusTimeout (s : State) (st : Nat) : State :=
  if s.streamState st ≠ 0 && decide (8 ≤ (s.stream st).frames) then
    (s.setStream st { s.stream st with good := 0, start := none }).setStreamState st 0
  else s

/-- A received record of type `want`: discarded and counted when faulty (R228). A discarded record of any type ends the
run of good STATUS records (R230, log entry 16). -/
def State.rxRecord (s : State) (st : Nat) (l : List Block) (want : Nat) (f : State → State) : State :=
  if !s.streamThere st || !(s.stream st).lock then s
  else if !recOk l then (s.setStream st { s.stream st with good := 0 }).bump O.witnessRecErr st 32
  else if recType l ≠ want then s
  else f s

/-- The state of a stream after a good STATUS record with DEVID `d` (R230, log entry 16). -/
def State.streamStatus (s : State) (st d : Nat) : State :=
  let x := s.stream st
  if x.held && s.reg O.witnessStreamDevid st ≠ d then
    let s := if s.streamState st = 0 then s.raise 483 else s.setStreamState st 0
    let s := s.setReg O.witnessStreamDevid st d
    (s.setStream st { s.stream st with good := 1, cand := d }).setStreamState st 1
  else
    let n := if s.streamState st = 1 && x.cand = d then x.good + 1 else 1
    let s := s.setStream st { x with good := n, cand := d }
    if s.streamState st = 0 then s.setStreamState st 1
    else if s.streamState st = 1 && 2 ≤ n then
      let s := s.setReg O.witnessStreamDevid st d
      (s.setStream st { s.stream st with held := true }).setStreamState st 2
    else s

/-- The mean of stream delays. -/
def meanDelay (l : List Int) : Int := if l.isEmpty then 0 else l.foldl (· + ·) 0 / (l.length : Int)

/-- Delay, echo and frame start of a good STATUS record (R233). -/
def State.streamTiming (s : State) (st : Nat) (l : List Block) (arrival : Nat) : State :=
  let x := s.stream st
  let turn := blk l 6
  let d : Option Int := if turn = 2 ^ 64 - 1 then none else
    (SMap.find? x.sentT (bits (blk l 5) 47 0)).map fun t1 => ((arrival : Int) - t1 - turn) / 2
  let delays := match d with
    | some d => (d :: x.delays).take 64
    | none => x.delays
  let m := meanDelay delays
  let s := s.setReg O.witnessLinkDelay st (u48 m)
  s.setStream st { x with
    delays := delays, last := some (recKey l, arrival), frames := 0
    start := some ((arrival : Int) - m - blk l 4, recKey l)
    plane := bits (blk l 1) 31 30, position := bits (blk l 1) 29 24, mode := bits (blk l 1) 23 20
    state := bits (blk l 1) 19 16, pref := bits (blk l 1) 15 14, epoch := bits (blk l 2) 63 32
    from_ := bits (blk l 2) 31 0 }

/-- The 48-bit number nearest to `near` whose low 32 bits are `low`. -/
def near48 (near low : Nat) : Nat :=
  let d := sInt 32 (low + 2 ^ 32 - near % 2 ^ 32)
  add48 near d

/-- The peer's STATUS record that is UP, if any: its preference and FROM (R240, R258). -/
def State.peerStatus (s : State) : Option (Nat × Nat) :=
  let st := if s.large then 1 else if s.streamState 0 = 2 then 0 else 1
  let x := s.stream st
  if s.streamState st = 2 && x.last.isSome then some (x.pref, near48 s.clk.fsn x.from_) else none

/-- The preference that the peer's STATUS record names; a peer whose PREF is none names none (log entry 93). -/
def State.peerPref (s : State) : Option (Nat × Nat) := s.peerStatus.filter fun x => x.1 != 0

/-- The preference in force changes: event 481. -/
def State.setPref (s : State) (pref tsn : Nat) : State :=
  let old := s.reg O.protPref
  let s := (s.setReg O.protPref 0 pref).setReg O.protFromTsn 0 tsn
  if old = pref then s else s.raise 481

/-- The protection state changes: event 480. -/
def State.setPState (s : State) (v : Nat) : State :=
  if s.reg O.protState = v then s else (s.setReg O.protState 0 v).raise 480

/-- A verdict gives the protection state; outside SERVICE that is STANDBY (Table 14-1, R450). -/
def State.verdictState (s : State) (v : Nat) : State := if s.sys.mode = .service then s.setPState v else s

/-- A promoted plane takes its peer's preference once it has a STATUS record of it, whatever PREF that names (R258). -/
def State.untoldEnd (s : State) : State :=
  if s.prot.untold then
    match s.peerStatus with
    | some x => { (s.setPref x.1 x.2) with prot := { s.prot with untold := false } }
    | none => s
  else s

/-- A STATUS record on lane 1 of a device of a large configuration is a forwarded one of the arbiter (R239). -/
def State.arbiterCopy (s : State) (st : Nat) (l : List Block) : Bool :=
  s.large && s.role != 4 && st == 1 && bits (blk l 1) 31 30 == 0

/-- A good STATUS record. -/
def State.statusRx (s : State) (st : Nat) (l : List Block) (arrival : Nat) : State :=
  let pl := bits (blk l 1) 31 30
  let dev := s.large && s.role != 4
  let seen (s : State) : State := ({ s with prot := { s.prot with watch := 0 } }).setUnwatched false
  if s.arbiterCopy st l then seen s
  else
    let s := if dev && st = 0 && pl = 0 then
        let s := seen s
        if s.streamState 1 = 2 then s.sendOn 1 0x10 (recKey l) ((l.drop 1).dropLast.map BitVec.toNat) else s
      else s
    let s := s.streamStatus st (bits (blk l 1) 63 32)
    let s := s.streamTiming st l arrival
    let s := if s.role = 4 && pl ≠ 0 then
        { s with prot := { s.prot with
          maps := SMap.insert s.prot.maps (2 * bits (blk l 1) 29 24 + (pl - 1) % 2) (blk l 3) } }
      else s
    s.untoldEnd

/-- The STATUS record of this frame on stream `st` (Table 6-5), sent as the frame starts. -/
def State.statusBody (s : State) (st : Nat) : List Nat :=
  let x := s.stream st
  let b1 := s.reg O.identDevid % 2 ^ 32 * 2 ^ 32 + s.planeCode * 2 ^ 30 + s.reg O.protPosition * 2 ^ 24 +
    s.sys.mode.code * 2 ^ 20 + s.reg O.protState * 2 ^ 16 + s.reg O.protPref * 2 ^ 14 + b2n s.prot.selfFail * 2 ^ 13 +
    b2n s.unwatched * 2 ^ 12 + b2n (bit (s.reg O.protFlags) 2) * 2 ^ 11
  let b2 := s.prot.digestEpoch % 2 ^ 32 * 2 ^ 32 + s.reg O.protFromTsn % 2 ^ 32
  let echo := match x.last with
    | some y => (y.1, s.now - y.2)
    | none => (0, 2 ^ 64 - 1)
  [b1, b2, s.reg O.protMapDigest, 0, echo.1, echo.2]

/-- Another local frame without an arbiter STATUS record (R239). -/
def State.watchFrame (s : State) : State := { s with prot := { s.prot with watch := s.prot.watch + 1 } }

/-- STATUS records go out on every stream, once per local frame (Table 6-5). -/
def State.statusFrame (s : State) : State :=
  let s := s.outStreams.foldl (fun s st =>
    s.setStream st { s.stream st with frames := (s.stream st).frames + 1 }) s
  if !s.sends 0x10 then s
  else s.outStreams.foldl (fun s st =>
    let body := s.statusBody st
    let s := s.sendOn st 0x10 s.clk.fsn body
    let x := s.stream st
    s.setStream st { x with
      sentT := (x.sentT.filter fun y => decide (dist48 y.1 s.clk.fsn ≤ 64)) |> fun m => SMap.insert m s.clk.fsn
        s.now }) s

/-! ## Verdicts (R234 to R242) -/

/-- The last verdict reached or received for which a frame is awaited, else what is in force: state and preference. -/
def State.standing (s : State) : Nat × Nat :=
  match s.prot.verdicts.getLast? with
  | some v => (v.state, v.pref)
  | none => (s.reg O.protState, s.reg O.protPref)

/-- The first port of a bit set of R518, or 0xFF (Table 6-6). -/
def firstPort (v : Nat) : Nat := ((List.range 96).find? fun p => octBit 12 v p).getD 0xFF

/-- A verdict is reached in this frame: it takes effect two frames on, and a VERDICT record tells it (R238). -/
def State.reach (s : State) (st pref from_ : Nat) (ports : Nat) (host : Bool := false) : State :=
  let n := s.clk.fsn
  let v : Vrd := ⟨(n + 2) % M48, pref, st, from_, s.role == 4, ports, (n + 2) % M48, host⟩
  let s := { s with prot := { s.prot with verdicts := s.prot.verdicts ++ [v] } }
  s.sendRec 0x20 n [pref * 2 ^ 62 + st * 2 ^ 58 + b2n (s.role == 4) * 2 ^ 57 + v.eff,
    from_ * 2 ^ 16 + firstPort ports * 256]

/-- Ports whose run of a kind at a position has reached PROT.FAIL_THR, with the first TSN of the run (R234). -/
def State.failing (s : State) (kind place : Nat) : List (Nat × Nat) :=
  (List.range 96).filterMap fun p =>
    let r := SMap.get .init s.prot.runs ((kind * 64 + place) * 96 + p)
    if s.reg O.protFailThr ≤ r.n then some (p, r.from_) else none

/-- A row of Table 6-7: the state, the preference it names, the ports and the first TSN. -/
structure Row where
  st : Nat
  pref : Option Nat
  ports : Nat
  from_ : Nat
deriving DecidableEq, Repr

/-- Ports as a bit set of R518. -/
def portSet (l : List (Nat × Nat)) : Nat := l.foldl (fun v x => octPut 12 v x.1 true) 0

/-- The map digest of a plane at a position matches ARB.EXPECT_MAP. -/
def State.mapMatches (s : State) (place plane : Nat) : Bool :=
  let e := s.reg O.arbExpectMap place
  e != 0 && SMap.find? s.prot.maps (2 * place + plane) == some e

/-- The first row of Table 6-7 that matches at a position. -/
def State.row (s : State) (place : Nat) : Row :=
  let a := s.failing 0 place
  let b := s.failing 1 place
  let i := s.failing 2 place
  let e := s.failing 3 place
  let mk (st : Nat) (pref : Option Nat) (l : List (Nat × Nat)) : Row :=
    ⟨st, pref, portSet l, (l.head?.map Prod.snd).getD 0⟩
  if !a.isEmpty && b.isEmpty then mk 1 (some 2) a
  else if a.isEmpty && !b.isEmpty then mk 2 (some 1) b
  else if !a.isEmpty then mk 3 none (a ++ b)
  else if e.isEmpty then mk 0 none []
  else if !i.isEmpty then mk 5 none e
  else if s.role = 4 && s.mapMatches place 0 && !s.mapMatches place 1 then mk 2 (some 1) e
  else if s.role = 4 && s.mapMatches place 1 && !s.mapMatches place 0 then mk 1 (some 2) e
  else mk 4 none e

/-- The plane state of a large configuration from the rows of its positions (R236): both planes condemned is
BOTH_FAULT, and moves no preference. A BOTH_FAULT row at one position condemns both planes (log entry 16). Where the
row of the position just evaluated, `r`, does not decide, the row of the first position that does is taken whole. -/
def State.combined (s : State) (r : Row) : Row :=
  let sts := s.prot.rows.map Prod.snd
  let a := sts.contains 1
  let b := sts.contains 2
  let rowOf (k : Nat) : Row :=
    if r.st = k then r
    else match s.prot.rows.find? fun x => x.2 == k with
      | some x => s.row x.1
      | none => r
  if sts.contains 3 || (a && b) then { r with st := 3, pref := none }
  else if a then rowOf 1 else if b then rowOf 2
  else if sts.contains 4 then rowOf 4 else if sts.contains 5 then rowOf 5 else r

/-- Table 6-7 is evaluated in SERVICE for a position after a completed record (R235). NORMAL is reached through
STATE_RETURN_NORMAL only (R237). -/
def State.evaluate (s : State) (place : Nat) : State :=
  let party := s.sys.mode == .service && (s.role == 4 || (s.isPlane && !s.large && !s.unwatched))
  if !party then s
  else
    let r := s.row place
    let s := if s.role = 4 then { s with prot := { s.prot with rows := SMap.set 0 s.prot.rows place r.st } } else s
    let r := if s.role = 4 then s.combined r else r
    if r.st = 0 then s
    else
      let s := { s with prot := { s.prot with clean := [] } }
      let now := s.standing
      let pref := r.pref.getD now.2
      if (r.st, pref) = now then s else s.reach r.st pref r.from_ r.ports

/-- DIVERGENCE stands, and the peer's preference differs from this plane's: its condition is present (R482). -/
def State.prefsDiffer (s : State) : Bool :=
  s.isPlane && !s.large && s.standing.1 == 4 && (match s.peerPref with
    | some x => x.1 != s.reg O.protPref
    | none => false)

/-- The condition has been absent for 8,000 compared TSNs (R237); the state is held while unwatched (R242). -/
def State.returnNormal (s : State) : State :=
  let now := s.standing
  if 1 ≤ now.1 && now.1 ≤ 5 && decide (8000 ≤ s.prot.clean.length) && !s.unwatched && !s.prefsDiffer
    then s.reach 0 now.2 (s.reg O.protFromTsn) 0 else s

/-- A received VERDICT record (R238, R239). One that is held or applied already changes nothing more. -/
def State.verdictRx (s : State) (st : Nat) (l : List Block) : State :=
  let eff := bits (blk l 1) 47 0
  let dev := s.large && s.role != 4
  let s := if dev && st = 0 && s.streamState 1 = 2 then
      s.sendOn 1 0x20 (recKey l) ((l.drop 1).dropLast.map BitVec.toNat)
    else s
  if !s.isPlane || !s.inUse st || (dev && !bit (blk l 1) 57) then s
  else
    let port := bits (blk l 2) 15 8
    let v : Vrd := ⟨eff, bits (blk l 1) 63 62, bits (blk l 1) 61 58, bits (blk l 2) 63 16, bit (blk l 1) 57,
      if port < 96 then octPut 12 0 port true else 0, eff, false⟩
    let isLate := decide (0 ≤ dist48 eff s.clk.fsn)
    let late (s : State) : State := if isLate then (s.bump O.witnessLateVerdict 0 32).raise 493 else s
    if (s.prot.verdicts ++ s.prot.applied).any fun x => x.eff == v.eff && x.pref == v.pref &&
      x.state == v.state then late s
    else
      let v := if isLate then { v with at_ := (s.clk.fsn + 1) % M48 } else v
      -- a state that the peer or the arbiter has found is counted from here (R237)
      let clean := if v.state = s.standing.1 then s.prot.clean else []
      late { s with prot := { s.prot with verdicts := s.prot.verdicts ++ [v], clean := clean } }

/-- A verdict takes effect. -/
def State.applyVerdict (s : State) (v : Vrd) : State :=
  let moved := v.pref ≠ 0 && v.pref ≠ s.reg O.protPref
  let s := if moved then
      (s.setPref v.pref v.from_).setReg O.protFlags 0 (putBit (s.reg O.protFlags) 2 v.arb)
    else s
  (s.verdictState v.state).setReg O.protFaultPorts 0 v.ports

/-- The plane preference word that traffic ports send in every role (Table 2-7, R240); in role NONE PREF is none
(Table 6-1). -/
def State.prefSent (s : State) : Nat :=
  let untold := s.prot.untold && s.isPlane
  let pref := if s.role = 0 then 0 else if untold then 3 - s.planeCode else s.reg O.protPref
  let from_ := if untold then s.sys.stageFsn else s.reg O.protFromTsn
  pref * 2 ^ 46 + s.planeCode * 2 ^ 44 + b2n s.unwatched * 2 ^ 43 + b2n (s.reg O.protState == 4) * 2 ^ 42 +
    b2n (bit (s.reg O.protFlags) 2) * 2 ^ 41 + from_ % 2 ^ 32

/-- A preference that changes in round 0 stands in the word of the frame that has just begun (R240): the ports send it,
position 5 of row 0, in round 1 (Table 2-14). -/
def State.prefRefresh (s : State) : State :=
  if s.clk.round ≠ 0 then s
  else
    foldRange 96 (fun s p =>
      let q := s.linkQ p
      if (s.linkP p).txOn && q.ver == 2 && s.lreg O.portRole p == 0 then
        s.setLinkQ p { q with ovh := SMap.set (0 : Word) q.ovh 5 (BitVec.ofNat 48 s.prefSent) }
      else s) s

/-- The verdicts that apply now: those whose frame has begun, of the earliest EFFECTIVE_FSN. While the device is
unwatched only one written to PROT.PREF_SET applies (R242, log entry 93). -/
def State.verdictsDue (s : State) : List Vrd :=
  let due := s.prot.verdicts.filter fun v => decide (0 ≤ dist48 v.at_ s.clk.fsn) && (v.host || !s.unwatched)
  match due with
  | [] => []
  | v :: vs =>
    let first := vs.foldl (fun m x => if precedes48 x.eff m then x.eff else m) v.eff
    due.filter fun x => x.eff == first

/-- A verdict takes effect in its frame; two for one EFFECTIVE_FSN that name different preferences, one of which may
have been applied before, keep preference and enter DIVERGENCE (R238). -/
def State.verdictEffective (s : State) : State :=
  let now := s.verdictsDue
  match now.getLast? with
  | none => s
  | some u =>
    let clash := (now ++ s.prot.applied).any fun x => x.eff == u.eff && x.pref != u.pref
    let s := { s with prot := { s.prot with verdicts := s.prot.verdicts.filter fun x => !now.contains x
                                            applied := now ++ s.prot.applied } }
    (if clash then { s.verdictState 4 with prot := { s.prot with clean := [] } } else s.applyVerdict u).prefRefresh

/-- PROT.PREF_SET (R241). -/
def prefSetOp (v : Nat) (s : State) : State × Nat :=
  if s.large && s.role ≠ 4 then (s, 0x0801)
  else
    let from_ := match s.prot.anyDone with
      | some t => (t + 1) % M48
      | none => s.clk.fsn
    (s.reach s.standing.1 v from_ 0 true, 0)

/-- PROT.ROLE (R214). -/
def protRoleOp (v : Nat) (s : State) : State × Nat :=
  if s.sys.mode ≠ .dormant ∧ s.sys.mode ≠ .stage ∧ s.sys.mode ≠ .isolate then (s, 0x0505)
  else if v = 4 && (List.range 96).any (fun p => s.reg O.portEnable p == 1 && s.lreg O.portRole p == 0) then (s, 0x0801)
  else ((s.setReg O.protRole 0 v).rolesChanged.refreshWatch, 0)

/-- PROT.CONFIG. -/
def protConfigOp (v : Nat) (s : State) : State × Nat := ((s.setReg O.protConfig 0 v).refreshWatch, 0)

/-- WITNESS.LANE_EN: a lane switched off completes its record, and its stream is then DOWN (Table 15-3). -/
def laneEnOp (v : Nat) (s : State) : State × Nat :=
  let s := s.setReg O.witnessLaneEn 0 v
  (foldRange 2 (fun s k => if bit v k then s else s.blockLoss k) s, 0)

/-- PROT.PORT_FAULT_CLEAR (R243, R422): the ports written are no longer faulted, and their cause is gone. -/
def portFaultClearOp (v : Nat) (s : State) : State × Nat :=
  (foldRange 96 (fun s p =>
    if octBit 12 v p then (s.setOct O.protPortFaulted 0 12 p false).setReg O.assayPortCause p 0 else s) s, 0)

/-- A port is faulted: event 486 (R243, R422); cause 1 the unwatched rule, 2 the Assayer. -/
def State.faultPort (s : State) (p : Nat) : State :=
  if s.octReg O.protPortFaulted 0 12 p then s else (s.setOct O.protPortFaulted 0 12 p true).raise 486

/-! ## Digest taps (R218 to R222) -/

/-- A unit at a tap. A TPO-A ends the frame before: its TSN, CRC, payload type and the epoch field of its first
entry, when it was whole. -/
def Tap.step (x : Tap) (u : SUnit) : Tap × Option (Nat × Nat × Nat × List Nat) :=
  match u.tag with
  | .tpoa =>
    let fin := if x.pos = 405 then some (x.tsn, crcOut x.crc, x.pt, x.dst) else none
    let y := { x with tsn := (u.ws.headD 0).toNat, pos := 1, crc := crcInit, pt := 0 }
    match u.ws with
    | a :: b :: c :: cs => ({ y with tsn := a.toNat, pt := b.toNat % 16, crc := crcWords (c :: cs) crcInit }, fin)
    | _ => (y, fin)
  | .word =>
    if x.pos = 0 then (x, none)
    else if x.pos = 1 && u.ws.length = 1 then ({ x with pos := 2, pt := (u.ws.headD 0).toNat % 16 }, none)
    else ({ x with pos := if x.pos < 406 then x.pos + 1 else x.pos, crc := crcWords u.ws x.crc }, none)
  | .empty => (x, none)
  | _ => ({ x with pos := 0 }, none)

/-- A slot that carries no word, an IDLE entry, ends the frame at the taps `m` of grain `a` (R218). -/
def tapIdle (m : SMap Tap) (a : Nat) : SMap Tap :=
  match SMap.find? m a with
  | some x => SMap.set .init m a { x with pos := 0 }
  | none => m

/-- Egress grains that the Live map feeds from grain `a`. -/
def State.fedBy (s : State) (a : Nat) : List Nat :=
  (s.entries O.mapLiveSrc).filterMap fun x => if x.2 = a then some x.1 else none

/-- Port `p` carries tributaries that enter digests (R222). -/
def State.digested (s : State) (p : Nat) : Bool := s.lreg O.portRole p == 0

/-- A CRC is folded into an open record, which it opens when there is none. -/
def State.foldRec (s : State) (kind port t crc n : Nat) : State :=
  let mine (r : DRec) : Bool := r.kind == kind && r.plane == s.plane && r.place == s.place && r.port == port && r.t == t
  if s.prot.recs.any mine then
    let add (r : DRec) : DRec :=
      if mine r && !r.done && !r.aged then { r with dig := r.dig ^^^ crc, cnt := (r.cnt + n) % 65536 } else r
    { s with prot := { s.prot with recs := s.prot.recs.map add } }
  else
    let ep := kind ≠ 0 && s.prot.epochs.any fun x => x.1 == port
    let r : DRec := ⟨kind, s.plane, s.place, port, t, crc, n, s.clk.fsn, ep, false, false, false⟩
    let s := { s with prot := { s.prot with recs := s.prot.recs ++ [r] } }
    if ep then s.bump O.protDigestStats 5 48 else s

/-- A frame is folded into the expected or the egress record of port `e`; the other record of the pair stands beside
it, with nothing folded (R223). -/
def State.foldPair (s : State) (kind e t crc : Nat) : State :=
  (s.foldRec kind e t crc 1).foldRec (3 - kind) e t 0 0

/-- Grain `a`'s unit passes the ingress tap (R219, R220, R222). Of the egress grains that `a` feeds when a frame begins,
those stay that it feeds when each later entry of the frame is written. -/
def State.tapIn (s : State) (a : Nat) (u : SUnit) : State :=
  let x := SMap.get .init s.prot.taps a
  let r := x.step u
  let y := r.1
  let y := if u.tag = .tpoa then { y with dst := s.fedBy a, lastTsn := y.tsn, seen := true }
    else if u.tag = .word then { y with dst := y.dst.filter fun e => s.reg O.mapLiveSrc e == a } else y
  let y := if r.2.isSome then { y with everWhole := true, wholeFsn := s.clk.fsn } else y
  let s := { s with prot := { s.prot with taps := SMap.set .init s.prot.taps a y } }
  match r.2 with
  | none => s
  | some (t, crc, pt, dst) =>
    let p := a / 1280
    if pt = 14 || !s.digested p then s
    else if x.stray then s.bump O.protDigestStats 7 48
    else
      let s := s.foldRec 0 p t crc 1
      (dst.filter fun e => s.digested (e / 1280)).foldl
        (fun s e => s.foldPair 1 (e / 1280) t crc) s

/-- The stray flag of the source of a frame at an egress tap (R222). -/
def State.strayAt (s : State) (dst : List Nat) : Bool := (SMap.get .init s.prot.taps (dst.headD 0)).stray

/-- Egress grain `e`'s unit passes the egress tap; `src` is its source in the epoch of the ETS (R221, R222). -/
def State.tapOut (s : State) (e src : Nat) (u : SUnit) : State :=
  let x := SMap.get .init s.prot.etaps e
  let r := x.step u
  let y := r.1
  let y := if u.tag = .tpoa then { y with dst := [src], lastTsn := y.tsn, seen := true } else y
  let y := if r.2.isSome then { y with everWhole := true, wholeFsn := s.clk.fsn } else y
  let s := { s with prot := { s.prot with etaps := SMap.set .init s.prot.etaps e y } }
  match r.2 with
  | none => s
  | some (t, crc, pt, dst) =>
    let p := e / 1280
    let stray := s.strayAt dst
    if pt = 14 || !s.digested p || stray then s else s.foldPair 2 p t crc

/-! ## Records at a local frame start (R222 to R226) -/

/-- The greatest TSN last seen on the grains of a port. -/
def State.greatest (s : State) (p : Nat) : Option Nat :=
  s.prot.taps.foldl (fun m x =>
    if x.1 / 1280 = p && x.2.seen then
      match m with
      | some g => some (if precedes48 g x.2.lastTsn then x.2.lastTsn else g)
      | none => some x.2.lastTsn
    else m) none

/-- Source grains become stray and cease to be (R222). -/
def State.strays (s : State) : State :=
  let close := (s.reg O.protDigestClose : Int)
  let judge (x : Nat × Tap) : Nat × Tap :=
    match s.greatest (x.1 / 1280) with
    | none => x
    | some g =>
      let d := dist48 x.2.lastTsn g
      (x.1, { x.2 with stray := if close < d then true else if 2 * d ≤ close then false else x.2.stray })
  { s with prot := { s.prot with taps := s.prot.taps.map judge } }

/-- A grain is active (R223); `stray` is the flag of the source grain. -/
def State.tapActive (s : State) (x : Tap) (stray : Bool) : Bool :=
  x.everWhole && !stray && decide (dist48 x.wholeFsn s.clk.fsn ≤ 2)


/-- Every active grain that a record rests on has passed its TSN (R223). -/
def State.recPassed (s : State) (r : DRec) : Bool :=
  let ok (x : Tap) (stray : Bool) : Bool := !s.tapActive x stray || precedes48 r.t x.lastTsn
  if r.kind = 0 then s.prot.taps.all fun x => x.1 / 1280 != r.port || ok x.2 x.2.stray
  else if r.kind = 1 then
    s.prot.taps.all fun x => !(s.fedBy x.1).any (fun e => e / 1280 == r.port) || ok x.2 x.2.stray
  else s.prot.etaps.all fun x => x.1 / 1280 != r.port || ok x.2 (s.strayAt x.2.dst)

/-- A run of R234 grows or ends. -/
def State.runStep (s : State) (kind place port t : Nat) (bad : Bool) : State :=
  let k := (kind * 64 + place) * 96 + port
  let r := SMap.get .init s.prot.runs k
  let r' : FRun := if bad then ⟨r.n + 1, if r.n = 0 then t else r.from_⟩ else .init
  { s with prot := { s.prot with runs := SMap.set .init s.prot.runs k r' } }

/-- The preferences of the two planes are compared anew: where they differ each plane keeps its own and enters
DIVERGENCE by itself, and no VERDICT says so (R482). -/
def State.recheckPref (s : State) : State :=
  let s := { s with prot := { s.prot with recheck := false } }
  match s.peerPref with
  | some x => if x.1 = s.reg O.protPref then s
    else { s.verdictState 4 with prot := { s.prot with clean := [] } }
  | none => s

/-- The records of TSN `t` that two planes hold of one pair have been compared, with a mismatch where `bad` says so:
they are given up, counted, and the state of the position is judged. A TSN counts once toward R237, and none while the
preferences differ. -/
def State.compared (s : State) (kind place port t : Nat) (bad : Bool) : State :=
  let gone (r : DRec) : Bool :=
    (r.kind == kind || (kind == 2 && r.kind == 1)) && r.place == place && r.port == port && r.t == t
  let s := { s with prot := { s.prot with recs := s.prot.recs.filter fun r => !gone r } }
  let s := s.bump O.protDigestStats 0 48
  let s := if bad then s.bump O.protDigestStats (if kind = 0 then 2 else 3) 48 else s
  let s := s.runStep (if kind = 0 then 2 else 3) place port t bad
  let s := if s.prefsDiffer then { s with prot := { s.prot with clean := [] } }
    else if s.prot.clean.contains t || 8000 ≤ s.prot.clean.length then s
    else { s with prot := { s.prot with clean := t :: s.prot.clean } }
  (if s.prot.recheck then s.recheckPref else s).evaluate place

/-- Two planes' records are compared when both are held complete and unflagged (R226), unless the device is unwatched
(R242). The own EGRESS record is complete once ED and XD both are (Table 6-4). -/
def State.compareAt (s : State) (kind place port t : Nat) : State :=
  let whole (k pl : Nat) (r : DRec) : Bool :=
    r.kind == k && r.plane == pl && r.place == place && r.port == port && r.t == t && r.done && !r.epoch
  let own (pl : Nat) : Bool := s.role != 4 && pl == s.plane
  let good (pl : Nat) (r : DRec) : Bool :=
    whole kind pl r && (kind != 2 || !own pl || s.prot.recs.any (whole 1 pl))
  if s.unwatched then s
  else match s.prot.recs.find? (good 0), s.prot.recs.find? (good 1) with
  | some a, some b => s.compared kind place port t (a.dig ≠ b.dig || (kind = 2 && a.cnt ≠ b.cnt))
  | _, _ => s

/-- A failing self-check: counted, event 482, SELF_FAIL, and an error for the Assayer (R225). -/
def State.selfFails (s : State) (e : Nat) : State :=
  let s := (s.bump O.protDigestStats 1 48).raise 482
  let s := { s with prot := { s.prot with selfFail := true } }
  (s.setReg O.protFlags 0 (putBit (s.reg O.protFlags) 1 true)).assayError 6 (resOf 8 e)

/-- The self-check of egress port `e` for a TSN (R225), with the faults of R243. -/
def State.selfCheck (s : State) (e t : Nat) (bad : Bool) : State :=
  let s := s.runStep s.plane s.place e t bad
  if bad then
    let s := s.selfFails e
    let r := SMap.get FRun.init s.prot.runs ((s.plane * 64 + s.place) * 96 + e)
    if s.unwatched && s.reg O.protUnwatchedFault == 1 && decide (s.reg O.protFailThr ≤ r.n) then s.faultPort e else s
  else s

/-- The pair of records of port `e` and TSN `t` is judged and sent once both are closed (R225, Table 6-4). -/
def State.closePair (s : State) (e t : Nat) : State :=
  let mine (k : Nat) (r : DRec) : Bool :=
    r.kind == k && r.plane == s.plane && r.place == s.place && r.port == e && r.t == t && (r.done || r.aged) &&
      !r.judged
  match s.prot.recs.find? (mine 1), s.prot.recs.find? (mine 2) with
  | some x, some d =>
    let mark (r : DRec) : DRec := if mine 1 r || mine 2 r then { r with judged := true } else r
    let s := { s with prot := { s.prot with recs := s.prot.recs.map mark } }
    let both := x.done && d.done
    let ep := x.epoch || d.epoch
    let s := s.sendRec 2 t [e * 2 ^ 56 + b2n both * 2 ^ 55 + b2n (x.aged || d.aged) * 2 ^ 54 + b2n ep * 2 ^ 53 +
      d.cnt * 2 ^ 32 + d.dig, x.cnt * 2 ^ 48 + x.dig]
    if both && !ep then
      let s := s.selfCheck e t (d.dig ≠ x.dig || d.cnt ≠ x.cnt)
      s.evaluate s.place
    else s
  | _, _ => s

/-- What follows once a local record is closed: it is sent, judged and compared. -/
def State.closed (s : State) (r : DRec) : State :=
  if r.kind = 0 then
    let s := s.sendRec 1 r.t [r.port * 2 ^ 56 + b2n r.done * 2 ^ 55 + b2n r.aged * 2 ^ 54 + b2n r.epoch * 2 ^ 53 +
      r.cnt * 2 ^ 32 + r.dig]
    s.compareAt 0 r.place r.port r.t
  else (s.closePair r.port r.t).compareAt 2 r.place r.port r.t

/-- Records complete at a local frame start (R223). -/
def State.digestFrame (s : State) : State :=
  let s := { s with prot := { s.prot with
    selfFail := false
    epochs := s.prot.epochs.filter fun x => decide (dist48 x.2 s.clk.fsn < 4) } }
  let s := s.setReg O.protFlags 0 (putBit (s.reg O.protFlags) 1 false)
  let s := s.strays
  let own (r : DRec) : Bool := r.plane == s.plane && r.place == s.place && !r.done && !r.aged
  let due := s.prot.recs.filter fun r => own r && s.recPassed r
  let mark (r : DRec) : DRec := if due.contains r then { r with done := true } else r
  let s := { s with prot := { s.prot with recs := s.prot.recs.map mark } }
  due.foldl (fun s r =>
    let old := s.prot.anyDone
    let top := match old with
      | some g => if precedes48 g r.t then r.t else g
      | none => r.t
    ({ s with prot := { s.prot with anyDone := some top } }).closed { r with done := true }) s

/-- A record has not completed within PROT.DIGEST_CLOSE frames of its first fold: AGED (R223). -/
def State.recordAged (s : State) (kind port t : Nat) : State :=
  match s.prot.recs.find? fun r => r.kind == kind && r.plane == s.plane && r.place == s.place && r.port == port &&
      r.t == t && !r.done && !r.aged with
  | some r =>
    if (s.reg O.protDigestClose : Int) ≤ dist48 r.first s.clk.fsn then
      let mark (x : DRec) : DRec := if x = r then { r with aged := true } else x
      let s := { s with prot := { s.prot with recs := s.prot.recs.map mark } }
      (s.bump O.protDigestStats 4 48).closed { r with aged := true }
    else s
  | none => s

/-- A closed record has had no counterpart within PROT.DIGEST_CLOSE + 8 frames (R226): it is counted and dropped. A pair
that was not compared is dropped once both are as old. -/
def State.recordUnmatched (s : State) (kind port t : Nat) : State :=
  let old (r : DRec) : Bool := (r.kind == kind && kind != 1) && r.port == port && r.t == t && (r.done || r.aged) &&
    decide ((s.reg O.protDigestClose : Int) + 8 ≤ dist48 r.first s.clk.fsn)
  let pair (r x : DRec) : Bool := x.kind == r.kind && x.plane != r.plane && x.place == r.place &&
    x.port == r.port && x.t == r.t
  let alone (r : DRec) : Bool := old r && !s.prot.recs.any (pair r)
  let gone := s.prot.recs.filter fun r => alone r || (old r && s.prot.recs.any fun x => pair r x && old x)
  let with_ (r : DRec) : Bool := kind == 2 && r.kind == 1 && gone.any fun x => x.plane == r.plane && x.place == r.place
  let keep (r : DRec) : Bool := !(gone.contains r || (r.port == port && r.t == t && with_ r))
  let n := (s.prot.recs.filter alone).length
  let s := { s with prot := { s.prot with recs := s.prot.recs.filter keep } }
  if n = 0 then s else s.bump O.protDigestStats 6 48 n

/-- A record of the other plane arrives, or of either plane at the arbiter (R226, R235). -/
def State.peerRec (s : State) (st kind : Nat) (l : List Block) : State :=
  let x := s.stream st
  let arb := s.role == 4
  if !(arb && (x.plane == 1 || x.plane == 2)) && !(s.isPlane && !s.large && s.inUse st && !s.unwatched) then s
  else
    let plane := if arb then x.plane - 1 else 1 - s.plane
    let place := if arb then x.position else s.place
    let b := blk l 1
    let port := bits b 63 56
    let r : DRec := ⟨kind, plane, place, port, recKey l, bits b 31 0, bits b 47 32, s.clk.fsn, bit b 53, bit b 55,
      bit b 54,
      true⟩
    if 96 ≤ port then s
    else
      let s := { s with prot := { s.prot with recs := s.prot.recs ++ [r] } }
      let s := if kind = 2 && r.done && !r.epoch then
          s.runStep plane place port r.t (r.dig ≠ bits (blk l 2) 31 0 || r.cnt ≠ bits (blk l 2) 63 48)
        else s
      (s.compareAt kind place port r.t).evaluate place

/-! ## Map digest and notices (R229, R244) -/

/-- MAP.LIVE_SRC as a read returns it: followers read 0xFFFF_FFFE (R158). -/
def State.liveSrc (s : State) (a : Nat) : Nat := if s.follower a then 0xFFFFFFFE else s.reg O.mapLiveSrc a

/-- The two inputs of the map digest: the Live sources and the sizes in effect. -/
def State.mapBytes (s : State) : List Byte :=
  (List.range 122880).flatMap (fun a => toBytes 4 (s.liveSrc a)) ++
    (List.range 15360).map fun e => BitVec.ofNat 8 (s.lreg O.grainSize e)

/-- A NOTICE record of kind 0x02 stands for a boundary: differing digests raise event 485 (R244). -/
def State.noticeSeen (s : State) (value dig : Nat) : State :=
  let s := if s.prot.notices.any fun x => x.1 == value && x.2 != dig then s.raise 485 else s
  { s with prot := { s.prot with notices := ((value, dig) :: s.prot.notices).take 64 } }

/-- A NOTICE record goes out. -/
def State.sendNotice (s : State) (kind value dig epoch : Nat) : State :=
  s.sendRec 0x30 s.clk.fsn [kind * 2 ^ 56 + value, dig, epoch % 2 ^ 32 * 2 ^ 32]

/-- The recompute of PROT.MAP_DIGEST completes (R229); the boundary's NOTICE follows. Until the commit has ended,
MAP.EPOCH and MAP.LIVE_FSN are those before it (Table 4-6 step 7). -/
def State.mapDigestReady (s : State) : State :=
  if !s.prot.digestDue || s.map.drain then s
  else
    let d := ofBytes ((sha256 s.mapBytes).take 8)
    let s := { s with prot := { s.prot with digestDue := false, digestEpoch := s.reg O.mapEpoch } }
    let s := s.setReg O.protMapDigest 0 d
    let s := s.sendNotice 2 (s.reg O.mapLiveFsn) d (s.reg O.mapEpoch)
    s.noticeSeen (s.reg O.mapLiveFsn) d

/-- The map digest of the armed map (R229): the Shadow with the pending sizes. -/
def State.armedBytes (s : State) : List Byte :=
  (List.range 122880).flatMap (fun a => toBytes 4 (if s.followerPend a then 0xFFFFFFFE else s.reg O.mapShadowSrc a)) ++
    (List.range 15360).map fun e => BitVec.ofNat 8 (s.reg O.grainSize e)

/-- The solve completes; the NOTICE record of an armed commit goes out (Table 6-6). -/
def State.solveComplete (s : State) : State :=
  let t := s.solveDone
  if t.reg O.mapState = 2 && (s.reg O.mapState = 1 || s.map.resolve) && t.sends 0x30 then
    t.sendNotice 1 t.map.f (ofBytes ((sha256 t.armedBytes).take 8)) (t.reg O.mapEpoch + 1)
  else t

/-- A NOTICE record received on a stream in use (R231). -/
def State.noticeRx (s : State) (st : Nat) (l : List Block) : State :=
  if s.inUse st && bits (blk l 1) 63 56 = 2 then s.noticeSeen (bits (blk l 1) 47 0) (blk l 2) else s

/-! ## Entry into SERVICE (R240, R258) -/

/-- Entry into SERVICE: the default preference from this frame, or the peer's; NORMAL. A promoted plane that has no
STATUS record of its peer yet goes on naming it (R258). -/
def State.serviceEntry (s : State) : State :=
  let s := { s with prot := { s.prot with clean := [], runs := [], verdicts := [], applied := [] } }.untoldEnd
  let s := if s.prot.untold then s.setPref (3 - s.planeCode) s.sys.stageFsn
    else match s.peerPref with
      | some x => s.setPref x.1 x.2
      | none => s.setPref (s.reg O.protPrefDefault) s.clk.fsn
  ((s.setReg O.protFlags 0 (putBit (s.reg O.protFlags) 2 false)).setPState 0).prefRefresh

/-! ## The commands -/

def State.writeProtRole (s : State) (w : Who) (v : Nat) : State := s.write w O.protRole 0 v (protRoleOp v)
def State.writePrefSet (s : State) (w : Who) (v : Nat) : State := s.write w O.protPrefSet 0 v (prefSetOp v)
def State.writePortFaultClear (s : State) (w : Who) (v : Nat) : State :=
  s.write w O.protPortFaultClear 0 v (portFaultClearOp v)

def execRecordAged (kind port tsn : Nat) (s : State) : Host.Outcome State Fault Refusal :=
  s.runIn port 96 fun s => s.recordAged kind port tsn
def execRecordUnmatched (kind port tsn : Nat) (s : State) : Host.Outcome State Fault Refusal :=
  s.runIn port 96 fun s => s.recordUnmatched kind port tsn
def execStateReturnNormal (s : State) : Host.Outcome State Fault Refusal := s.run State.returnNormal
def execProtRoleWrite (w : Who) (v : Nat) (s : State) : Host.Outcome State Fault Refusal :=
  s.run fun s => s.writeProtRole w v
def execWitnessBlockLock (st : Nat) (s : State) : Host.Outcome State Fault Refusal :=
  s.runIn st 32 fun s => s.blockLock st
def execWitnessBlockLockLoss (st : Nat) (s : State) : Host.Outcome State Fault Refusal :=
  s.runIn st 32 fun s => s.blockLoss st
def execVerdictRecordRx (st : Nat) (x : WitIn) (s : State) : Host.Outcome State Fault Refusal :=
  let l := recordOf st x
  s.runIn st 32 fun s => s.rxRecord st l 0x20 fun s => s.verdictRx st l
def execNoticeRecordRx (st : Nat) (x : WitIn) (s : State) : Host.Outcome State Fault Refusal :=
  let l := recordOf st x
  s.runIn st 32 fun s => s.rxRecord st l 0x30 fun s => s.noticeRx st l
def execIngressRecordRx (st : Nat) (x : WitIn) (s : State) : Host.Outcome State Fault Refusal :=
  let l := recordOf st x
  s.runIn st 32 fun s => s.rxRecord st l 1 fun s => s.peerRec st 0 l
def execEgressRecordRx (st : Nat) (x : WitIn) (s : State) : Host.Outcome State Fault Refusal :=
  let l := recordOf st x
  s.runIn st 32 fun s => s.rxRecord st l 2 fun s => s.peerRec st 2 l
def execStreamStatusTimeout (st : Nat) (s : State) : Host.Outcome State Fault Refusal :=
  s.runIn st 32 fun s => s.statusTimeout st
/-- 8 local frames without an arbiter STATUS record, in a large configuration (R239). -/
def execArbiterWatchTimeout (s : State) : Host.Outcome State Fault Refusal :=
  s.run fun s => if s.large && s.role ≠ 4 && decide (8 ≤ s.prot.watch) then s.setUnwatched true else s
def execVerdictEffective (s : State) : Host.Outcome State Fault Refusal := s.run State.verdictEffective
def execPrefSet (w : Who) (v : Nat) (s : State) : Host.Outcome State Fault Refusal := s.run fun s => s.writePrefSet w v
def execPortFaultClear (w : Who) (v : Nat) (s : State) : Host.Outcome State Fault Refusal :=
  s.run fun s => s.writePortFaultClear w v
def execSolveComplete (s : State) : Host.Outcome State Fault Refusal := s.run State.solveComplete
def execMapDigestReady (s : State) : Host.Outcome State Fault Refusal := s.run State.mapDigestReady

end Sys2Proof.Machine
end

