-- ==== Sys2Proof/Machine/Assayer.lean ====
section
/-! DEFINITION. The Assayer: its engines, the classification of errors and their repairs (chapter 12). -/

namespace Sys2Proof.Machine

/-! ## Engines (R424 to R426) -/

/-- The first test of the highest rank of a queue. -/
def topTest : List TestT → Option TestT
  | [] => none
  | t :: l =>
    match topTest l with
    | none => some t
    | some u => if u.rank < t.rank then some u else some t

/-- A list without its first element equal to `t`. -/
def dropTest (t : TestT) : List TestT → List TestT
  | [] => []
  | u :: l => if u = t then l else u :: dropTest t l

/-- A free engine starts the queued test of highest rank (R425). -/
def State.testStart (s : State) (g : Nat) : State :=
  if (s.asyRun g).isSome || !s.tests g then s
  else
    match topTest (s.asyQueue g) with
    | none => s
    | some t =>
      let q := dropTest t (s.asyQueue g)
      { s with asy := { s.asy with queues := SMap.set [] s.asy.queues g q } }.testRun g t

/-- The running test of engine `g` goes on as `t`. -/
def State.testNext (s : State) (g : Nat) (t : TestT) : State :=
  { s with asy := { s.asy with running := SMap.insert s.asy.running g t } }

/-! ## Repairs (Table 12-4) -/

/-- The Assayer faults a port; the cause of a port that it has faulted already stays (R422). -/
def State.assayPort (s : State) (p cause : Nat) : State :=
  if s.octReg O.protPortFaulted 0 12 p && s.reg O.assayPortCause p ≠ 0 then s
  else
    let s := (s.setOct O.protPortFaulted 0 12 p true).setReg O.assayPortCause p cause
    s.raise 486

/-- The 4 KiB page of a Keeper SRAM unit is excluded, up to 16 pages: event 501. -/
def State.sramExclude (s : State) (unit : Nat) : State × Nat :=
  let page := unit * 8 / 4096
  if s.mem.excluded.contains page || 16 ≤ s.mem.excluded.length then (s, 0)
  else ({ s with mem := { s.mem with excluded := s.mem.excluded ++ [page] } }.raise 501, 5)

/-- A DDR4 beat that fails: a corrected fault is logged only; an uncorrectable one retrains its channel, and puts it in
FAULT when the beat fails again afterwards. -/
def State.ddrRepair (s : State) (beat : Nat) (bad : Bool) : State × Nat :=
  let c := beat * 8 / 256 % 4
  if !bad then (s, 0)
  else if s.reg O.memDdrChState c ≠ 2 then (s, 0)
  else if s.asy.retrained.contains beat then ((s.setChannel c 4).ddrLinesAis, 0)
  else ({ s with asy := { s.asy with retrained := beat :: s.asy.retrained } }.retrain c, 7)

/-- The repair of a lasting fault, and its REPAIR code. `wide` says that the words failed in one bit (a bank) or that
the fault is uncorrectable (DDR4). -/
def State.repairOf (s : State) (t : TestT) (wide : Bool) : State × Nat :=
  let n := t.res % 2 ^ 44
  match t.res / 2 ^ 44 with
  | 0 => (s.assayPort n 1, 4)
  | 1 => (s.retireLode n, 3)
  | 2 =>
    let i := n / 65536
    let e := n % 256
    if t.phase = 6 && t.fails.getD 3 9 ≠ 9 then
      let first := t.fails.getD 3 0
      let second := t.fails.getD 4 0
      if first = 1 && second = 0 then (s.assayPort i 2, 4)
      else if first = 0 && second = 1 then (s.assayPort e 2, 4)
      else ((s.assayPort i 2).assayPort e 2, 4)
    else (s.retireLode (n / 256 % 256), 3)
  | 3 => (s.assayPort (n / 65536) 3, 4)
  | 8 => (s.assayPort n 4, 4)
  | 4 =>
    let b := n / 65536
    let was := s.reg O.memBankOwner b
    let s := if wide then s.retireBank b else s.fenceWord b (n % 65536)
    (s, if s.reg O.memBankOwner b = 15 && was ≠ 15 then 2 else if wide then 2 else 1)
  | 5 => (s.retireBank n, 2)
  | 6 => s.ddrRepair n wide
  | _ => s.sramExclude n

/-! ## Classification (R418, R423) -/

/-- The history of a resource without the entries of other resources. -/
def State.transients (s : State) (res : Nat) : List Nat :=
  match s.asy.history.find? fun x => x.1 == res with
  | some x => x.2
  | none => []

/-- The entry of the history whose latest transient is oldest. -/
def oldestEntry (now : Nat) (l : List (Nat × List Nat)) : Option Nat :=
  (l.foldl (fun (m : Option (Nat × Int)) x =>
    let age := dist48 (x.2.getLast?.getD 0) now
    match m with
    | none => some (x.1, age)
    | some y => if y.2 < age then some (x.1, age) else m) none).map Prod.fst

/-- A transient enters the history of 1,024 resources and three transients each (R423). -/
def State.remember (s : State) (res : Nat) : State :=
  let old := s.transients res
  let h := s.asy.history
  let full := !(h.any fun x => x.1 == res) && decide (1024 ≤ h.length)
  let gone := if full then oldestEntry s.clk.fsn h else none
  let h := h.filter fun x => x.1 != res && some x.1 != gone
  let l := old ++ [s.clk.fsn]
  let l := if 3 < l.length then l.drop 1 else l
  let s := { s with asy := { s.asy with history := h ++ [(res, l)] } }
  if full then s.raise 502 else s

/-- The transients of a resource within the last 24 h. -/
def State.recent (s : State) (res : Nat) : Nat :=
  ((s.transients res).filter fun f => decide (dist48 f s.clk.fsn < 691200000)).length

/-- A host test completes: TEST_RESULT, event 499, and the token is free (R427). -/
def State.hostDone (s : State) (t : TestT) (failed : Bool) : State :=
  if t.host then ((s.setReg O.assayTestResult 0 (if failed then 3 else 2)).raise 499).actEnd 3 else s

/-- A lasting fault, or a suspect: counted, repaired, logged, event 495. -/
def State.lastingFault (s : State) (t : TestT) (wide suspect : Bool) : State :=
  let s := s.bump O.assayLasting t.kind 48
  let r := s.repairOf t wide
  (r.1.asyLog t (if suspect then 2 else 1) r.2).raise 495

/-- The running test of engine `g` has ended with a verdict. `rewritten`: a map audit rewrote an entry. -/
def State.classify (s : State) (g : Nat) (t : TestT) (failed wide rewritten : Bool) : State :=
  let s := { s with asy := { s.asy with running := SMap.erase s.asy.running g } }
  let n := t.res % 2 ^ 44
  let back := if t.res / 2 ^ 44 = 1 then n else if t.res / 2 ^ 44 = 5 then 256 + n else 2 ^ 44
  let suspect := !failed && decide (3 ≤ s.recent t.res)
  let s :=
    if failed then s.lastingFault t wide false
    else
      let s := s.remember t.res
      if suspect then (s.raise 496).lastingFault t wide true
      else ((s.bump O.assayTransients t.kind 48).asyLog t 0 (if rewritten then 6 else 0)).raise 494
  let s := { s with asy := { s.asy with returning := s.asy.returning.filter fun x => x != back } }
  (s.hostDone t (failed || suspect)).asyShow g

/-- A path of the localisation has been tested for 8,000 rounds of 96 ticks: the next path, or the end (R419). What the
rounds have shown decides, not the outcome that the command names. -/
def State.pathDone (s : State) : State :=
  match s.asyRun 1 with
  | none => s
  | some t =>
    if t.res / 2 ^ 44 ≠ 2 || t.phase = 0 || 6 ≤ t.phase || !s.tests 1 || !s.elapsed t.since 768000 then s
    else
      let fails := t.fails ++ [b2n t.bad]
      let others := (s.lodes.filter fun l => l != t.res / 256 % 256).length
      let stop := (t.phase = 1 && (!t.bad || others = 0)) ||
        (t.phase = 3 && fails.getD 1 0 = 0 && fails.getD 2 0 = 0) || t.phase = 5
      s.testNext 1 { t with phase := if stop then 6 else t.phase + 1, fails := fails, since := s.tick, bad := false }

/-- Ticks of the 8,960 cycles of a map audit (R421). -/
def auditTicks : Nat := 2240

/-- Entry `e` of a stage map of a port, by its number (Table 12-1). -/
def entNo (port stage e : Nat) : Nat := port * 65536 + stage * 4096 + e

/-- Stage map entries are disturbed. -/
def State.entHit (s : State) (x : EntIn) : State :=
  if x.port < 96 && x.stage < 3 && x.entry < (if x.stage = 2 then 1280 else 3840) then
    { s with fab := { s.fab with
      wrong := SMap.insert s.fab.wrong (entNo x.port x.stage x.entry) ⟨x.v, x.par, x.stuck⟩ } }
  else s

/-- The entries that a map audit rewrote are compared again, one frame later (R421); `hits` are entries disturbed since.
The test is then in phase 2, its entries rewritten. -/
def State.auditRecheck (s : State) (hits : List EntIn) : State :=
  let s := hits.foldl (fun s x => s.entHit x) s
  match s.asyRun 1 with
  | none => s
  | some t =>
    let c := t.res / 2 ^ 44
    if (c = 3 || c = 8) && t.phase = 4 && s.tests 1 && s.elapsed t.since 38880 then
      let again := t.fails.any fun k => (SMap.find? s.fab.wrong k).isSome
      s.testNext 1 { t with phase := 2, fails := [b2n again], bad := true }
    else s

/-! ## Word tests (R335, R415) -/

/-- The values swapped into a word that holds `d`. -/
def testValues (d : Nat) : List Nat := [M48 - 1 - d % M48, 0x555555555555, 0xAAAAAAAAAAAA]

/-- The bits of the code word that the three read-backs show wrong, of the 55 of each that `m` turns, and whether the
test fails: a read-back differs, or shows an ECC error. -/
def wordTest (d m : Nat) : Nat × Bool :=
  let r := (testValues d).zipIdx.map fun x =>
    let turn := m >>> (55 * x.2) % 2 ^ 55
    let q := eccDec (eccEnc x.1 ^^^ turn)
    (turn, q.d != x.1 || q.fixed || q.bad)
  (r.foldl (fun a x => a ||| x.1) 0, r.any (·.2))

/-- The word test of R415 on word `w` of bank `b`: the word of an owner is as before, one of NONE or ASSAYER is zero. -/
def State.wordTested (s : State) (b w : Nat) : State :=
  let o := s.reg O.memBankOwner b
  (if o = 0 || o = 8 then s.bankPut b w 0 else s).tally 93 1

/-- What turns in the read-backs of item `w` of a test. -/
def maskOf (masks : List (Nat × Nat)) (w : Nat) : Nat :=
  (masks.filter fun x => x.1 == w).foldl (fun a x => a ^^^ x.2) 0

/-- The targeted test of word `w` of bank `b`, and when it fails of the 63 words of its column (Table 12-4): whether it
fails, and whether two of the words fail in one bit. -/
def State.bankTest (s : State) (b w : Nat) (masks : List (Nat × Nat)) : State × Bool × Bool :=
  let test (s : State) (w : Nat) : Nat × Bool := wordTest (eccDec (s.bankCode b w)).d (maskOf masks w)
  let first := test s w
  let s := s.wordTested b w
  if !first.2 then (s, false, false)
  else
    let r := foldRange 64 (fun (r : State × Nat × Bool) j =>
      let v := 1024 * j + w % 1024
      if v = w then r
      else
        let q := test r.1 v
        (r.1.wordTested b v, r.2.1 ||| (if q.2 then q.1 else 0), r.2.2 || (q.2 && r.2.1 &&& q.1 != 0)))
        (s, first.1, false)
    (r.1, true, r.2.2)

/-- The targeted test of engine `g` ends (R418): what its steps found decides, and `pass` for a Lode that the host
tests. `masks` are the bits that turn in the read-backs of a bank word, of other words of its bank, of a DDR4 beat or of
a unit of Keeper SRAM. -/
def State.testComplete (s : State) (g : Nat) (pass : Bool) (masks : List (Nat × Nat)) : State :=
  match s.asyRun g with
  | none => s
  | some t =>
    let c := t.res / 2 ^ 44
    if !s.tests g then s
    else if c = 2 then
      if t.phase = 6 then s.classify g t (t.fails.headD 0 == 1) false false else s
    else if c = 3 || c = 8 then
      if t.phase = 2 then s.classify g t (t.fails.headD 0 == 1) false t.bad else s
    else if c = 0 then
      let q := s.linkQ (t.res % 2 ^ 44)
      if q.obs ≠ 0 then s
      else s.classify g t (q.obsBad || decide (s.reg O.portFecDegThr (t.res % 2 ^ 44) / 2 < q.obsSum)) false false
    else if c = 4 then
      let n := t.res % 2 ^ 44
      let r := s.bankTest (n / 65536) (n % 65536) masks
      r.1.classify g t r.2.1 r.2.2 false
    else if c = 5 then
      let b := t.res % 2 ^ 44
      let o := s.reg O.memBankOwner b
      let failed := masks.any fun x => decide (x.1 < 65552) && (wordTest (eccDec (s.bankCode b x.1)).d x.2).2
      ((if o = 0 || o = 8 then s.bankZero b else s).tally 93 65552).classify g t failed false false
    else if 6 ≤ c then
      s.classify g t (masks.any fun x => flips x.2 != 0) (masks.any fun x => decide (1 < flips x.2)) false
    else s.classify g t (!pass) false false

/-! ## Background tests (R415, R416) -/

/-- One more word test of the pass, which is over when every word of every bank but the RETIRED has been tested. -/
def State.bankPass (s : State) : State :=
  let n := s.mem.bankAt + 1
  let full := decide ((256 - (s.ownerBanks 15).length) * 65552 ≤ n)
  let s := { s with mem := { s.mem with bankAt := if full then 0 else n } }
  if full then s.bump O.assayPasses 0 48 else s

/-- The address whose word stands in spare `k` of bank `b`. -/
def State.spareWord (s : State) (b k : Nat) : Option Nat :=
  (s.mem.fence.find? fun x => x.1 / 65536 == b && x.2 == k + 1).map fun x => x.1 % 65536

/-- A background test of word `w` of bank `b` (65,536 and up: spare words), in whose read-backs the bits of `bad` turn
(R415). The bank of an owner keeps its word; one of NONE or ASSAYER is left zero. A spare word that fences
nothing has no resource of Table 12-1: its failure is counted only. A bank starts a test every
ASSAY.BANK_INTERVAL cycles, four to a tick. -/
def State.bankWordTest (s : State) (b w bad : Nat) : State :=
  let o := s.reg O.memBankOwner b
  let word := if w < 65536 then some w else s.spareWord b (w - 65536)
  let res := resOf 4 (b * 65536 + word.getD 0)
  if !bit (s.reg O.assayEnable) 3 || !s.sys.fabOn || o = 15 || s.reg O.memBankState b = 5 || 65552 ≤ w ||
    !s.background 2
    || (word.isSome && s.underTest res) || s.underTest (resOf 5 b) || s.tick < SMap.get 0 s.mem.bankNext b then s
  else
    let next := s.tick + (s.reg O.assayBankInterval + 3) / 4
    let s := { s with mem := { s.mem with bankNext := SMap.set 0 s.mem.bankNext b next } }
    let failed := (wordTest (eccDec (s.bankCode b w)).d bad).2
    let s := s.wordTested b w
    let s := if !failed then s
      else if word.isSome then s.assayError 0 res else s.bump O.assayErrors 0 48
    s.bankPass

/-- An error of a unit of Keeper SRAM, corrected or not, is counted, raised and reported (R352). -/
def State.sramErr (s : State) (unit : Nat) (bad : Bool) : State :=
  let s := if bad then (s.bump O.keeperSramUe 0 32).raise 472
    else (s.bump O.keeperSramCe 0 32).raiseLim 471 0 (msTicks 1)
  s.assayError 1 (resOf 7 unit)

/-- A unit of Keeper SRAM is read (R352): what it reads, and whether it cannot be corrected. -/
def State.sramUnit (s : State) (u f : Nat) : State × List Byte × Bool :=
  let r := unitRead s.mem.sram s.mem.sramBad u f true
  let s := { s with mem := { s.mem with sram := r.m, sramBad := r.bad } }
  (if r.wrong = 0 then s else s.sramErr u (decide (1 < r.wrong)), r.data, decide (1 < r.wrong))

/-- Bytes of Keeper SRAM are read, the disturbance of each unit 72 bits further up in `f`. -/
def State.sramRead (s : State) (o n f : Nat) : State × List Byte × Bool :=
  let sp := unitsOf o n
  let r := foldRange sp.2 (fun (r : State × List Byte × Bool) i =>
    let q := r.1.sramUnit (sp.1 + i) (f >>> (72 * i))
    (q.1, r.2.1 ++ q.2.1, r.2.2 || q.2.2)) (s, [], false)
  (r.1, slice r.2.1 (o % 8) n, r.2.2)

/-- Bytes of Keeper SRAM are written. A unit of which only a part is written is read first, and gets a new code with
what was read (log entry 109). -/
def State.sramWrite (s : State) (o : Nat) (d : List (Byte × Bool)) : State :=
  let s := (unitsPart o d).foldl (fun s u =>
    if SMap.get 0 s.mem.sramBad u = 0 then s else (s.sramUnit u 0).1) s
  { s with mem := { s.mem with sram := putEnabled 0 s.mem.sram o d
                               sramBad := (unitsWritten o d).foldl (fun m u => SMap.erase m u) s.mem.sramBad } }

/-- The Keeper SRAM patrol reads one unit every 1,024 MCLK cycles and goes on (R415, R426). -/
def State.sramPatrol (s : State) (f : Nat) : State :=
  if !bit (s.reg O.assayEnable) 4 || !s.background 4 || s.tick < s.mem.sramNext then s
  else
    let u := s.mem.sramAt
    let s := { s with mem := { s.mem with sramNext := s.tick + 512 } }
    let s := if s.underTest (resOf 7 u) then s else (s.sramUnit u f).1
    let n := u + 1
    let s := { s with mem := { s.mem with sramAt := if n = 262144 then 0 else n } }
    if n = 262144 then s.bump O.assayPasses 1 48 else s

/-! ## Host requests (R427) -/

/-- A resource exists and is in use. -/
def State.resourceThere (s : State) (res : Nat) : Bool :=
  let n := res % 2 ^ 44
  match res / 2 ^ 44 with
  | 0 => decide (n < 96) && s.reg O.portEnable n == 1
  | 1 => decide (n < 10)
  | 2 => decide (n / 65536 < 96) && decide (n / 256 % 256 < 10) && decide (n % 256 < 96)
  | 3 => decide (n / 65536 < 96) && decide (n / 4096 % 16 < 3) &&
      decide (n % 4096 < (if n / 4096 % 16 = 2 then 1280 else 3840))
  | 8 => decide (n < 96)
  | 4 => decide (n / 65536 < 256)
  | 5 => decide (n < 256)
  | 6 => decide (n * 8 < s.reg O.memDdrSize * 2 ^ 30)
  | 7 => decide (n < 262144)
  | _ => false

/-- The kind of error whose test a resource gets (Table 12-4). -/
def hostKind (res : Nat) : Nat :=
  match res / 2 ^ 44 with
  | 0 => 7 | 1 => 4 | 2 => 4 | 3 => 5 | 8 => 6 | 4 => 0 | 5 => 0 | 6 => 2 | _ => 1

/-- ASSAY.TEST_REQ. -/
def testReqOp (h v : Nat) (s : State) : State × Nat :=
  if !s.resourceThere v then (s, 0x0310)
  else if !s.tokFree 3 h then (s, 0x0402)
  else if s.sys.mode = .dormant || s.sys.mode = .quarantine then (s, 0x0505)
  else if !s.sys.fabOn then (s, 0x0506)
  else (s.hostTest h v (hostKind v) (s.rank v), 0)

def State.writeTestReq (s : State) (w : Who) (v : Nat) : State :=
  s.write w O.assayTestReq 0 v (testReqOp (holderOf w) v)

def State.assayLogRead (s : State) (w : Who) (first count : Nat) : State :=
  let c := logGate s w O.assayLog 64 first count
  if c ≠ 0 then s.answer c
  else
    let r := logTake s.asy.log 16 first count
    (({ s with asy := { s.asy with log := r.2 } }).give r.1).answer 0

/-! ## The commands -/

def execTestStart (eng : Nat) (s : State) : Host.Outcome State Fault Refusal := s.runIn eng 5 fun s => s.testStart eng
def execPathTestDone (_pass : Bool) (s : State) : Host.Outcome State Fault Refusal := s.run fun s => s.pathDone
def execMapAuditRecheck (hits : List EntIn) (s : State) : Host.Outcome State Fault Refusal :=
  s.run fun s => s.auditRecheck hits
def execTestComplete (eng : Nat) (pass : Bool) (masks : List (Nat × Nat)) (s : State) :
    Host.Outcome State Fault Refusal :=
  s.runIn eng 5 fun s => s.testComplete eng pass masks
def execBankWordTest (b word : Nat) (bad : Nat) (s : State) : Host.Outcome State Fault Refusal :=
  s.runIn b 256 fun s => s.bankWordTest b word bad
def execSramPatrolUnit (flip : Nat) (s : State) : Host.Outcome State Fault Refusal := s.run fun s => s.sramPatrol flip
def execTestReq (w : Who) (v : Nat) (s : State) : Host.Outcome State Fault Refusal := s.run fun s => s.writeTestReq w v
def execAssayLogRead (w : Who) (first count : Nat) (s : State) : Host.Outcome State Fault Refusal :=
  s.run fun s => s.assayLogRead w first count

end Sys2Proof.Machine
end

