-- ==== Sys2Proof/Machine/Operands.lean ====
section
/-! DEFINITION. The operand forms of the host interface: how INDEX, SUBINDEX and ELEMENT name an entry (R380), the JX48
aliases (R406, Table 11-11), and the HDP message (R389, Table 11-3). -/

namespace Sys2Proof.Machine

/-! ## Entries (R380) -/

/-- What an alias converts (Table 11-11). -/
inductive Conv where
  /-- the target as it is -/
  | plain
  /-- LINK.VERSION_MAX, which reads and accepts only 1 -/
  | one
  /-- the grain source map of ports 0 to 47, minor grains 0 to 639 -/
  | grains
  /-- a commit request in mode 3 -/
  | mode3
deriving DecidableEq, Repr

/-- An entry: refusal code, object, its element number 0 in the model's numbering, elements, conversion. -/
structure Tgt where
  code : Nat
  idx : Nat
  base : Nat
  cnt : Nat
  conv : Conv
deriving DecidableEq, Repr

/-- No entry: the refusal code, and the index that was named, whose right is checked first (Table 11-6). -/
def Tgt.bad (c idx : Nat) : Tgt := ⟨c, idx, 0, 0, .plain⟩

/-- An entry of the ranges below 0x8000: 0x0101 for no such index, 0x0102 for no such subindex. -/
def entry (idx sub : Nat) : Tgt :=
  match objAt idx with
  | none => .bad 0x0101 idx
  | some o =>
    if 0x2000 ≤ idx && idx < 0x2600 then
      if sub ≠ 0 then .bad 0x0102 idx
      else
        let n := o.cnt / 96
        ⟨0, o.idx, (idx - 0x2000) / 16 * n, n, .plain⟩
    else if o.adr = .element then
      if sub ≠ 0 then .bad 0x0102 idx else ⟨0, idx, 0, o.cnt, .plain⟩
    else if o.cnt ≤ sub then .bad 0x0102 idx
    else ⟨0, idx, sub, 1, .plain⟩

/-- An alias of 0x8000 to 0x8FFF (Table 11-11). -/
def alias48 (idx sub : Nat) : Tgt :=
  if idx < 0x8300 then entry (idx - 0x6000) sub
  else if idx ≤ 0x8306 then
    if 48 ≤ sub then .bad 0x0102 (idx - 0x5B00)
    else
      let t := entry (idx - 0x5B00) sub
      if idx = 0x8300 then { t with conv := .one } else t
  else if idx = 0x8400 then (if sub ≠ 0 then .bad 0x0102 idx else ⟨0, O.mapDraftSrc, 0, 30720, .grains⟩)
  else if idx = 0x8401 then { entry O.mapCommitReq sub with conv := .mode3 }
  else if idx = 0x8600 then entry O.protWarmHealth sub
  else if idx = 0x8601 then entry O.protPromote sub
  else .bad 0x0101 idx

/-- The entry that INDEX and SUBINDEX name. -/
def resolve (idx sub : Nat) : Tgt := if 0x8000 ≤ idx && idx < 0x9000 then alias48 idx sub else entry idx sub

/-- Grain 640 p + g of the JX48 is grain 1,280 p + g. -/
def grain48 (k : Nat) : Nat := k / 640 * 1280 + k % 640

/-- The element of the object that element `k` of an entry is. -/
def Tgt.elem (t : Tgt) (k : Nat) : Nat := if t.conv = .grains then grain48 k else t.base + k

/-- A source as the alias of the grain source map reads it. -/
def to48 (v : Nat) : Nat := if v < 61440 && v % 1280 < 640 then v / 1280 * 640 + v % 1280 else 0xFFFFFFFF

/-- A source written through that alias; one outside its range is out of range at the target too. -/
def of48 (v : Nat) : Nat := if v < 30720 then grain48 v else if v < 122880 then 122880 else v

/-- Width of an element of an entry in bytes. -/
def Tgt.width (t : Tgt) : Nat :=
  match objAt t.idx with
  | some o => o.ty.width
  | none => 0

/-- An object of OCTET type and access WO takes from 1 to n bytes (R382). -/
def shortOk (o : Obj) : Bool :=
  match o.ty with
  | .octet _ => o.acc == .wo
  | _ => false

/-! ## Descriptors (R384) -/

/-- All ones of `n` bytes. -/
def allOnes (n : Nat) : Nat := 2 ^ (8 * n) - 1

/-- Least and greatest value of a type. -/
def Ty.bounds : Ty → Nat × Nat
  | .bool => (0, 1)
  | .i48 => (2 ^ 47, 2 ^ 47 - 1)
  | .time => (0, (2 ^ 48 - 1) * 2 ^ 48 + 999999999 * 65536 + 65535)
  | t => (0, allOnes t.width)

/-- Minimum and maximum of an entry. -/
def Obj.bounds (o : Obj) : Nat × Nat :=
  match o.rng with
  | .any => o.ty.bounds
  | .span lo hi => (lo, hi)
  | .steps lo hi _ => (lo, hi)
  | .signed lo hi => (u48 lo, u48 hi)
  | .mask m => (0, m)
  | .shown lo hi => (lo, hi)
  | .also lo hi more =>
    let l := if lo ≤ hi then lo :: hi :: more else more
    (l.foldl min (l.headD 0), l.foldl max 0)

/-- The descriptor of an entry whose first element in the model's numbering is `base`. -/
def entryDesc (o : Obj) (cnt base : Nat) : List Byte :=
  let w := o.ty.width
  let arr := o.array
  toBytes 1 (o.ty.code + if arr then 0x80 else 0) ++ toBytes 1 o.acc.code ++ toBytes 4 cnt ++ toBytes 4 w ++
    toBytes w (regDefault o.idx base) ++ toBytes w o.bounds.1 ++ toBytes w o.bounds.2

/-! ## The HDP message (R389, Table 11-3) -/

/-- Bits of FLAGS. -/
def flagResponse : Nat := 128
def flagMore : Nat := 64
def flagDescribe : Nat := 32
def flagLive : Nat := 16
def flagOverflow : Nat := 8

/-- Bytes 0 to 35 + LEN. -/
def Hdp.bytes (h : Hdp) : List Byte :=
  toBytes 1 1 ++ toBytes 1 h.op ++ toBytes 1 h.flags ++ toBytes 1 0 ++ toBytes 2 h.session ++ toBytes 6 h.seq ++
    toBytes 2 h.xfer ++ toBytes 2 h.index ++ toBytes 1 h.sub ++ toBytes 1 0 ++ toBytes 3 h.elem ++ toBytes 1 0 ++
    toBytes 4 h.offset ++ toBytes 4 h.total ++ toBytes 2 h.value.length ++ toBytes 2 h.status ++ toBytes 2 0 ++ h.value

/-- The fields of bytes 0 to 35 + LEN, as they stand. -/
def hdpFields (m : List Byte) : Hdp :=
  ⟨fld m 1 1, fld m 2 1, fld m 4 2, fld m 6 6, fld m 12 2, fld m 14 2, fld m 16 1, fld m 18 3, fld m 22 4, fld m 26 4,
   fld m 32 2, slice m 36 (fld m 30 2)⟩

/-- The message is well formed: its length is 68 + LEN, LEN at most 1,024, VER is 1, OP is one of Table 11-4, no RSVD
field is other than zero. -/
def hdpOk (m : List Byte) : Bool :=
  decide (68 ≤ m.length) && m.length == 68 + fld m 30 2 && decide (fld m 30 2 ≤ 1024) && fld m 0 1 == 1 &&
    decide (1 ≤ fld m 1 1) && decide (fld m 1 1 ≤ 8) && fld m 2 1 % 8 == 0 && fld m 3 1 == 0 && fld m 17 1 == 0 &&
    fld m 21 1 == 0 && fld m 34 2 == 0

/-- The message of well-formed bytes. -/
def hdpParse (m : List Byte) : Option Hdp := if hdpOk m then some (hdpFields m) else none

/-- The 32 bytes after VALUE. -/
def hdpMac (m : List Byte) : List Byte := m.drop (m.length - 32)

/-- A message as it travels: its bytes and a MAC. -/
def Hdp.wire (h : Hdp) (mac : List Byte) : List Byte := h.bytes ++ mac

end Sys2Proof.Machine
end

