-- ==== Sys2Proof/Machine/Ledger.lean ====
section
/-! DEFINITION. The Ledger: cuts, generations, export, the spare's slots and the journal (R246 to R255, R488, R489). -/

namespace Sys2Proof.Machine

/-! ## The generation (Table 6-10) -/

/-- The value of a carried object that a generation holds: in effect for RWE objects and those of R519 (R246). -/
def State.carriedValue (s : State) (o : Obj) (e : Nat) : Nat :=
  if o.acc = .rwe || o.idx = O.grainSize || o.idx = O.portRole then s.lreg o.idx e else s.reg o.idx e

/-- The Live group arrays, in index order. -/
def groupRows : List Obj := rows50.filter fun o => o.acc == .rwe

/-- The objects of the OBJECTS section: carried, and in no other section. -/
def objectRows : List Obj := allRows.filter fun o => carried o && o.idx != O.grainSize && o.idx / 256 != 0x50

/-- One group array: every element, at its width; a follower of LINE_CTX reads 0xFFFE (R158). -/
def State.groupBytes (s : State) : List Byte :=
  groupRows.flatMap fun o => (List.range o.cnt).flatMap fun e =>
    toBytes o.ty.width (if o.idx = O.groupLineCtx && s.follower e then 0xFFFE else s.lreg o.idx e)

/-- Every item of the OBJECTS section. -/
def State.objectBytes (s : State) : List Byte :=
  objectRows.flatMap fun o => (List.range o.cnt).flatMap fun e => item o.idx e (s.carriedValue o e)

/-- A descriptor of a section. -/
def descriptor (typ off len : Nat) : List Byte :=
  toBytes 2 typ ++ toBytes 2 0 ++ toBytes 4 off ++ toBytes 4 len ++ toBytes 4 0

/-- The generation of the values in force now, with its SEAL. -/
def State.generation (s : State) : List Byte :=
  let m := s.mapBytes
  let g := s.groupBytes
  let o := s.objectBytes
  let len := 112 + m.length + g.length + o.length + 32
  let head := toBytes 4 0x4C444752 ++ toBytes 2 1 ++ toBytes 2 3 ++ toBytes 6 ((s.reg O.ledgerGen + 1) % M48) ++
    toBytes 6 s.clk.fsn ++ toBytes 12 (timeOf (s.frameLt / 2 ^ 16)) ++ toBytes 4 (s.reg O.identDevid) ++
    toBytes 4 (s.reg O.mapEpoch) ++ toBytes 4 len ++ toBytes 20 0
  let body := head ++ descriptor 1 112 m.length ++ descriptor 2 (112 + m.length) g.length ++
    descriptor 3 (112 + m.length + g.length) o.length ++ m ++ g ++ o
  body ++ sha256 body

/-- Fields of a generation. -/
def genNo (g : List Byte) : Nat := fld g 8 6
def genFsn (g : List Byte) : Nat := fld g 14 6
def genLength (g : List Byte) : Nat := fld g 40 4

/-- The trailer of a generation agrees with its bytes (R250). -/
def genSealed (g : List Byte) : Bool :=
  let n := genLength g
  decide (144 ≤ n) && decide (n ≤ g.length) && sha256 (g.take (n - 32)) == slice g (n - 32) 32

/-! ## Cuts (R247, R248) -/

/-- A cut or an export is in progress. -/
def State.exporting (s : State) : Bool :=
  s.led.cutting || s.reg O.ledgerExportState == 2 || s.reg O.ledgerExportState == 3

/-- Banks that LEDGER holds and may use. -/
def State.ledgerBanks (s : State) : Nat := if s.sys.fabOn && s.sys.banksClear then (s.ownerBanks 5).length else 0

/-- What a cut for holder `h` meets: 0x0402, 0x0806, or 0. -/
def State.cutCheck (s : State) (h : Nat) : Nat :=
  if s.exporting || !s.tokFree 1 h || s.sys.mode == .restore then 0x0402 else if s.ledgerBanks < 11 then 0x0806 else 0

/-- A cut begins; it captures its values at the next local frame start. -/
def State.cutStart (s : State) (h : Nat) : State :=
  let s := ({ s with led := { s.led with cutting := true, image := [] } }).openBanks 5
  (s.setReg O.ledgerExportState 0 1).actStart 1 h

/-- A cut that falls due on its own is skipped when it cannot run (R248, R405). -/
def State.cutAuto (s : State) : State := if s.cutCheck 0xFE = 0 then s.cutStart 0xFE else s

/-- The values of a cut are captured in round 0 of CUT_FSN, after any boundary taken there (R247). -/
def State.cutCapture (s : State) : State :=
  if s.led.cutting && s.led.image.isEmpty then
    { s with led := { s.led with image := s.generation, cutFsn := s.clk.fsn } }
  else s

/-- Cuts that a commit boundary or the journal asked for, at a local frame start (R248, R253). -/
def State.ledgerFrame (s : State) : State :=
  let due := s.led.cutNext || s.led.cutJournal
  let s := { s with led := { s.led with cutNext := false } }
  if due then s.cutAuto else s

/-- LEDGER.CUT_PERIOD frames have passed (R248). -/
def State.periodicCut (s : State) : State :=
  if bit (s.reg O.ledgerCutMode) 0 && decide ((s.reg O.ledgerCutPeriod : Int) ≤ dist48 s.led.lastCut s.clk.fsn) then
    { s with led := { s.led with lastCut := s.clk.fsn } }.cutAuto
  else s

/-! ## Export (R248 to R251) -/

/-- The segments of a generation, each of 65,536 bytes, the last of what is left. -/
def segments (g : List Byte) : List (List Byte) :=
  (List.range ((g.length + 65535) / 65536)).map fun k => slice g (65536 * k) 65536

/-- Bytes `i` to `i + n - 1` of LEDGER.SPARE_ADDR as a number (Table 6-13). -/
def State.spareAddr (s : State) (i n : Nat) : Nat := fld (toBytes 24 (s.reg O.ledgerSpareAddr)) i n

/-- Requests that write `v` to an object of the spare: a WRITE, or segments of a WRITE_BULK of transfer `x` (R396). -/
def spareWrite (idx sub : Nat) (bulk : Bool) (x : Nat) (v : List Byte) : List Hdp :=
  if bulk then
    (List.range ((v.length + 1023) / 1024)).map fun i =>
      ⟨4, if 1024 * (i + 1) < v.length then flagMore else 0, Config.spareSession, 0, x, idx, sub, 0, 1024 * i,
        v.length, 0,
       slice v (1024 * i) 1024⟩
  else [⟨2, 0, Config.spareSession, 0, 0, idx, sub, 0, 0, 0, 0, v⟩]

/-- A write to an object of the spare waits to be sent, under a transfer number of its own where it is a WRITE_BULK. -/
def State.spareQueue (s : State) (idx sub : Nat) (bulk : Bool) (v : List Byte) : State :=
  let x := s.led.xfer % 65535 + 1
  { s with led := { s.led with xq := s.led.xq ++ spareWrite idx sub bulk x v, xfer := if bulk then x else s.led.xfer } }

/-- The key of the exporter's session. -/
def State.spareKey (s : State) : List Byte := (s.session Config.spareSession).key

/-- The exporter can send a request: its time port is up, and fewer than 16 requests are without a response (R393). -/
def State.spareOpen (s : State) : Bool :=
  !s.sys.booting && !s.sys.restarting && s.portUp (s.spareAddr 0 1) && decide (s.led.xfly.length < 16)

/-- The addresses of the spare: from the time port's own to those of LEDGER.SPARE_ADDR. -/
def State.spareEncap (s : State) : Encap :=
  let p := s.spareAddr 0 1
  let mac := s.spareAddr 2 6
  if s.spareAddr 1 1 = 0 then .raw mac (s.reg O.hdpMac p) (s.reg O.hdpEtype)
  else .udp mac (s.reg O.hdpMac p) (s.spareAddr 8 16) (s.reg O.hdpIpv6 p) (s.reg O.hdpUdpPort) (s.reg O.hdpUdpPort)

/-- One request leaves for the spare: it takes the next SEQ and the MAC. With segment 0 the 40 s of R251 begin, and with
the SEAL the exporter waits for the spare. -/
def State.spareSend (s : State) (h : Hdp) : State :=
  let h := { h with seq := (s.led.xseq + 1) % M48 }
  let m := h.wire (macOf s.spareKey h.bytes)
  let enc := s.spareEncap
  let s := { s with led := { s.led with xseq := h.seq, xfly := s.led.xfly ++ [h.seq] } }
  let s := s.sendPort (s.spareAddr 0 1) (hdpBytes enc m.length)
    (.hdp (s.spareAddr 0 1) enc m)
  if h.index = O.ledgerRxSegment && h.sub = 0 && h.offset = 0 then { s with led := { s.led with exportTick := s.tick } }
  else if h.index = O.ledgerRxSeal && s.reg O.ledgerExportState = 2 then s.setReg O.ledgerExportState 0 3
  else s

/-- The requests that may leave now leave, in order. -/
def State.spareFlush (s : State) : State :=
  foldRange 16 (fun s _ =>
    match s.led.xq with
    | h :: l => if s.spareOpen then { s with led := { s.led with xq := l } }.spareSend h else s
    | [] => s) s

/-- The generation is sent whole: its segments in order, then its SEAL (R249). -/
def State.exportOut (s : State) (g : List Byte) : State :=
  let r := (segments g).foldl (fun (r : State × Nat) x => (r.1.spareQueue O.ledgerRxSegment r.2 true x, r.2 + 1)) (s, 0)
  (r.1.spareQueue O.ledgerRxSeal 0 false (g.drop (g.length - 32))).spareFlush

/-- Requests of the export that wait are given up, and so are the responses that have not come. -/
def State.exportDrop (s : State) : State :=
  let mine (h : Hdp) : Bool := h.index == O.ledgerRxSegment || h.index == O.ledgerRxSeal || h.index == O.ledgerSlotGen
  { s with led := { s.led with xq := s.led.xq.filter fun h => !mine h, xfly := [] } }

/-- The export fails: FAILED, event 488 (R251). -/
def State.exportFail (s : State) : State :=
  let s := s.exportDrop
  let s := { s with led := { s.led with cutJournal := false } }
  ((s.setReg O.ledgerExportState 0 4).raise 488).actEnd 1

/-- The SEAL has been written: the generation is the last one, NOTICE 0x03, event 487; the export starts. -/
def State.generationSealed (s : State) : State :=
  if !s.led.cutting || s.led.image.isEmpty then s
  else
    let g := s.led.image
    let hash := g.drop (g.length - 32)
    let s := (s.setReg O.ledgerGen 0 (genNo g)).setReg O.ledgerGenFsn 0 s.led.cutFsn
    let s := s.setReg O.ledgerGenHash 0 (ofBytes hash)
    let s := { s with led := { s.led with cutting := false, image := [], sealedImg := g } }
    let s := (s.sendNotice 3 (genNo g) (ofBytes (hash.take 8)) (s.reg O.mapEpoch)).raise 487
    if s.reg O.ledgerExportEn = 1 then
      let s := { s with led := { s.led with exportTick := s.tick } }
      (s.setReg O.ledgerExportState 0 2).exportOut g
    else (s.setReg O.ledgerExportState 0 0).actEnd 1

/-- Bytes of journal entries. -/
def journalBytes (l : List (Nat × Nat × List Byte)) : Nat := l.foldl (fun n x => n + x.2.2.length) 0

/-- The export has been sent, or is being sent. -/
def State.exportAway (s : State) : Bool := s.reg O.ledgerExportState == 2 || s.reg O.ledgerExportState == 3

/-- The exporter reads LEDGER.SLOT_GEN of the spare (R251): the new generation there ends the export. -/
def State.spareSealCheck (s : State) (g0 g1 : Nat) : State :=
  let gen := s.reg O.ledgerGen
  if s.exportAway && (g0 = gen || g1 = gen) then
    let f := s.reg O.ledgerGenFsn
    let keep := s.led.journalOut.filter fun x => precedes48 f x.2.1
    let s := { s with led := { s.led with journalOut := keep, jbytes := journalBytes keep, cutJournal := false } }
    (((s.setReg O.ledgerSpareGen 0 gen).raise 489).setReg O.ledgerExportState 0 0).actEnd 1
  else s

/-- 40 s have passed since segment 0 without the spare's seal (R251). -/
def State.exportTimeout (s : State) : State :=
  if s.exportAway && s.elapsed s.led.exportTick (secTicks 40) then s.exportFail else s

/-- The spare has refused a journal entry, which it does when a SEQ is missing: the exporter cuts a generation, event
490 (R253). -/
def State.cutForGap (s : State) : State :=
  if s.led.cutJournal then s else { s.raise 490 with led := { s.led with cutJournal := true } }

/-- The spare's response to a request of the exporter (R249, R251, R253). -/
def State.spareAnswer (s : State) (h : Hdp) : State :=
  if !s.led.xfly.contains h.seq then s
  else
    let s := { s with led := { s.led with xfly := s.led.xfly.erase h.seq } }
    let s :=
      if h.index = O.ledgerJournalRx then (if h.status = 0 then s else s.cutForGap)
      else if !s.exportAway then s
      else if h.index = O.ledgerRxSegment then (if h.status = 0 then s else s.exportFail)
      else if h.index = O.ledgerRxSeal then
        if h.status ≠ 0 then s.exportFail
        else
          let ask : Hdp := ⟨3, 0, Config.spareSession, 0, s.led.xfer % 65535 + 1, O.ledgerSlotGen, 0, 0, 0, 12, 0, []⟩
          { s with led := { s.led with xq := s.led.xq ++ [ask], xfer := s.led.xfer % 65535 + 1 } }
      else if h.index = O.ledgerSlotGen && h.status = 0 then s.spareSealCheck (fld h.value 0 6) (fld h.value 6 6)
      else s
    s.spareFlush

/-- Every journal entry that has not been sent goes to the spare (R253). -/
def State.journalSend (s : State) : State :=
  if s.reg O.ledgerExportEn = 0 then s
  else
    let due := s.led.journalOut.filter fun x => decide (s.led.sentSeq < x.1)
    let s := due.foldl (fun (s : State) x => s.spareQueue O.ledgerJournalRx 0 (decide (1024 < x.2.2.length)) x.2.2) s
    let last := due.foldl (fun m (x : Nat × Nat × List Byte) => Nat.max m x.1) s.led.sentSeq
    let s : State := { s with led := { s.led with sentSeq := last } }
    s.spareFlush

/-! ## The spare (R250, R253 to R255) -/

def State.slotBytes (s : State) (k : Nat) : List Byte := if k = 0 then s.led.slot0 else s.led.slot1

/-- The SEALED slot of the greatest generation. -/
def State.newestSlot (s : State) : Option Nat :=
  let sealed_ (k : Nat) : Bool := s.reg O.ledgerSlotState k == 2
  if sealed_ 0 && sealed_ 1 then some (if s.reg O.ledgerSlotGen 0 < s.reg O.ledgerSlotGen 1 then 1 else 0)
  else if sealed_ 0 then some 0 else if sealed_ 1 then some 1 else none

/-- Bytes `d` take their place at offset `o` of a slot; the others keep what they held (R250). -/
def spanPut (old : List Byte) (o : Nat) (d : List Byte) : List Byte :=
  (old.take o ++ List.replicate (o - old.length) 0xFF) ++ d ++ old.drop (o + d.length)

/-! ## The flash work that waits (R487) -/

/-- What an erase leaves of a 64 KiB block. -/
def erased : List Byte := List.replicate 65536 0xFF

/-- A unit of flash work is done: an erase of 64 KiB, or up to 4 KiB programmed. -/
def State.flashDo (s : State) (u : FUnit) : State :=
  let d := if u.erase then erased else u.data
  if u.slot = 2 then
    { s with mem := { s.mem with flash := if u.erase then SMap.clearSpan s.mem.flash u.at_ 65536
                                          else putMem 0xFF s.mem.flash u.at_ u.data } }
  else
    let b := spanPut (s.slotBytes u.slot) u.at_ d
    { s with led := { s.led with slot0 := if u.slot = 0 then b else s.led.slot0
                                 slot1 := if u.slot = 0 then s.led.slot1 else b } }

/-- The first unit of the Ledger that waits, and of firmware staging. No slot is written in RESTORE (R255). -/
def State.ledgerWork (s : State) : Option FUnit :=
  if s.sys.mode = .restore then none else s.mem.work.find? fun u => u.slot != 2
def State.firmwareWork (s : State) : Option FUnit := s.mem.work.find? fun u => u.slot == 2

/-- The next unit: where both wait they take turns, Ledger work first. -/
def State.flashNext (s : State) : Option FUnit :=
  match s.ledgerWork, s.firmwareWork with
  | some l, some f => some (if s.mem.fwTurn then f else l)
  | some l, none => some l
  | none, f => f

/-- The next unit is done; a programmed one passes the turn on. -/
def State.flashStep (s : State) : State :=
  match s.flashNext with
  | none => s
  | some u =>
    let both := s.ledgerWork.isSome && s.firmwareWork.isSome
    let turn := if !both then false else if u.erase then s.mem.fwTurn else u.slot != 2
    let s := s.flashDo u
    { s with mem := { s.mem with work := s.mem.work.erase u, fwTurn := turn } }

/-- Units are done until none that `who` names is left. -/
def State.flashDrain (s : State) (who : FUnit → Bool) : State :=
  foldRange s.mem.work.length (fun s _ => if s.mem.work.any who then s.flashStep else s) s

/-- A program or an erase fails: counted, event 473 (R378). -/
def State.flashFails (s : State) : State := (s.bump O.flashErrCount 0 32).raise 473

/-- Flash work of a frame: the spec gives no time to a unit, so a free number of units is done (log entry 94). Which of
them fail is a free value; one that fails is done again (log entry 111). -/
def State.flashFrame (s : State) : State :=
  if s.mem.work.isEmpty then s
  else
    let n := s.freeCtr * 2 ^ 16
    (foldRange (min (s.freeVal 15) s.mem.work.length) (fun s i =>
      if Config.free 30 (n + i) % 2 = 1 then s.flashFails else s.flashStep) s).freeTaken

/-- The units that program `d` at offset `o` of a slot, or of the flash. -/
def programUnits (slot o : Nat) (d : List Byte) : List FUnit :=
  (List.range ((d.length + 4095) / 4096)).map fun i => ⟨slot, o + 4096 * i, false, slice d (4096 * i) 4096⟩

/-- Flash work waits. -/
def State.flashQueue (s : State) (l : List FUnit) : State := { s with mem := { s.mem with work := s.mem.work ++ l } }

/-- LEDGER.RX_SEGMENT. -/
def rxSegmentOp (k : Nat) (d : List Byte) (s : State) : State × Nat :=
  if s.sys.mode = .restore then (s, 0x0505)
  else
    let newest := s.newestSlot
    let gen := match newest with
      | some n => s.reg O.ledgerSlotGen n
      | none => 0
    if k = 0 && newest.isSome && genNo d ≤ gen then (s, 0x0803)
    else if k ≠ 0 && (s.led.rxNext ≠ k || s.reg O.ledgerSlotState s.led.rxSlot ≠ 1) then (s, 0x0804)
    else if k ≠ 0 && s.led.rxLen ≤ 65536 * k then (s, 0x0804)
    else
      let slot := if k ≠ 0 then s.led.rxSlot else match newest with
        | some n => 1 - n
        | none => 0
      let s := s.flashQueue (⟨slot, 65536 * k, true, []⟩ :: programUnits slot (65536 * k) d)
      let s := { s with led := { s.led with rxNext := k + 1, rxSlot := slot
                                            rxLen := if k = 0 then genLength d else s.led.rxLen } }
      (if k = 0 then ((s.setReg O.ledgerSlotState slot 1).setReg O.ledgerSlotGen slot 0).setReg O.ledgerSlotFsn slot 0
       else s, 0)

/-- LEDGER.RX_SEAL: once the slot's flash work is done, the slot is read back and compared. Where the stream was BROKEN
or EMPTY, any SEQ may follow the seal (log entry 107). -/
def rxSealOp (d : List Byte) (s : State) : State × Nat :=
  let slot := s.led.rxSlot
  if s.sys.mode = .restore then (s, 0x0505)
  else if s.reg O.ledgerSlotState slot ≠ 1 then (s, 0x0804)
  else
    let s := s.flashDrain fun u => u.slot != 2
    let g := s.slotBytes slot
    let n := genLength g
    if genSealed g && decide (65536 * s.led.rxNext ≥ n) && d == slice g (n - 32) 32 then
      let f := genFsn g
      let fresh := s.reg O.ledgerRxJournalState ≠ 1
      let s := { s with led := { s.led with
        journalIn := s.led.journalIn.filter fun x => precedes48 f x.2.1
        lastIn := if fresh then 0 else s.led.lastIn } }
      let s := ((s.setReg O.ledgerSlotState slot 2).setReg O.ledgerSlotGen slot (genNo g)).setReg O.ledgerSlotFsn slot f
      ((s.setReg O.ledgerRxJournalState 0 1).raise 487, 0)
    else (s.setReg O.ledgerSlotState slot 3, 0x0802)

/-- The whole entries that bytes hold: SEQ, FSN and the entry (Table 6-11); none when they do not divide into entries.
-/
def parseEntries : Nat → List Byte → Option (List (Nat × Nat × List Byte))
  | 0, _ => none
  | n + 1, l =>
    if l.isEmpty then some []
    else
      let len := 16 + fld l 14 2
      if l.length < len then none
      else (parseEntries n (l.drop len)).map fun r => (fld l 0 6, fld l 6 6, l.take len) :: r

/-- One journal entry at the spare: the next SEQ is kept; any other, or one that finds 1 MiB of entries held, breaks
the journal (R253). -/
def State.journalIn (s : State) (x : Nat × Nat × List Byte) : State × Nat :=
  if s.reg O.ledgerRxJournalState ≠ 1 then (s, 0x0804)
  else if (s.led.lastIn ≠ 0 && x.1 ≠ s.led.lastIn + 1) || 1048576 < journalBytes s.led.journalIn + x.2.2.length then
    ((s.setReg O.ledgerRxJournalState 0 2).raise 490, 0x0804)
  else ({ s with led := { s.led with journalIn := s.led.journalIn ++ [x], lastIn := x.1 } }, 0)

/-- LEDGER.JOURNAL_RX. -/
def journalRxOp (d : List Byte) (s : State) : State × Nat :=
  if s.sys.mode = .restore then (s, 0x0505)
  else match parseEntries 4097 d with
    | none => (s, 0x0301)
    | some l => l.foldl (fun r x => if r.2 ≠ 0 then r else r.1.journalIn x) (s, 0)

/-- RX_JOURNAL_STATE and the slots after a power-on reset of a spare (R488, R489). -/
def State.slotsAfterReset (s : State) : State :=
  let s := foldRange 2 (fun s k => if s.reg O.ledgerSlotState k = 1 then s.setReg O.ledgerSlotState k 3 else s) s
  s.setReg O.ledgerRxJournalState 0 (if s.newestSlot.isSome then 2 else 0)

/-! ## Writes -/

def State.writeRxSegment (s : State) (w : Who) (k : Nat) (d : List Byte) : State :=
  s.writeBytes w O.ledgerRxSegment k 65536 d (rxSegmentOp k d)
def State.writeRxSeal (s : State) (w : Who) (d : List Byte) : State :=
  s.writeBytes w O.ledgerRxSeal 0 32 d (rxSealOp (padBytes 32 d))
def State.writeJournalRx (s : State) (w : Who) (d : List Byte) : State :=
  s.writeBytes w O.ledgerJournalRx 0 65536 d (journalRxOp d)

/-! ## The commands -/

def execLedgerPeriodicCut (s : State) : Host.Outcome State Fault Refusal := s.run State.periodicCut
def execGenerationSealed (s : State) : Host.Outcome State Fault Refusal := s.run State.generationSealed
def execRxSegmentWrite (w : Who) (k : Nat) (bytes : List Byte) (s : State) : Host.Outcome State Fault Refusal :=
  s.run fun s => s.writeRxSegment w k bytes
def execRxSealWrite (w : Who) (bytes : List Byte) (s : State) : Host.Outcome State Fault Refusal :=
  s.run fun s => s.writeRxSeal w bytes
def execJournalSend (s : State) : Host.Outcome State Fault Refusal := s.run State.journalSend
def execJournalRxWrite (w : Who) (bytes : List Byte) (s : State) : Host.Outcome State Fault Refusal :=
  s.run fun s => s.writeJournalRx w bytes
def execSpareSealCheck (gen0 gen1 : Nat) (s : State) : Host.Outcome State Fault Refusal :=
  s.run fun s => s.spareSealCheck gen0 gen1
def execExportTimeout (s : State) : Host.Outcome State Fault Refusal := s.run State.exportTimeout

end Sys2Proof.Machine
end

