-- ==== Sys2Proof/Machine/Ref.lean ====
section
/-! DEFINITION. The Horologer and the time servo: inputs, selection, the loop, the tie to network time, phase steps and
alignment (chapter 7; R297 to R301). Phases and times of day are in units of 2^-16 ns. -/

namespace Sys2Proof.Machine

/-! ## Units -/

/-- `e` reduced modulo `m` into the half-open range about zero. -/
def symMod (e : Int) (m : Nat) : Int := (e + (m / 2 : Nat)) % (m : Int) - (m / 2 : Nat)

/-! ## Input types (Table 7-2) -/

/-- Loop bandwidth, mHz. -/
def loopB (i : Nat) : Nat :=
  if i < 8 then 3000 else if i < 10 then 100 else if i = 10 then 10 else if i = 11 then 1 else 30000

/-- The settling interval T_s = 8 / (2π B), in ticks. -/
def settleTicks (i : Nat) : Nat := 396028427994 / loopB i

/-- The modulus of an input's phase, none where e is taken in full (R267). -/
def State.phaseMod (s : State) (i : Nat) : Option Nat :=
  if i < 8 || i = 12 then some frameU
  else if i < 10 then
    let f := s.reg O.refExtFreq (i - 8)
    some (if f = 0 then frameU / 256 else if f = 1 then frameU / 1250 else frameU)
  else if i = 10 && (s.input i).tod.isNone then some secU
  else none

/-! ## Quality levels (R271, R272) -/

/-- Rank of a quality-level code (Table 7-3); 9 for one that is not selectable. -/
def qlRank (q : Nat) : Nat := if q = 2 then 1 else if q = 4 then 2 else if q = 8 then 3 else if q = 0xB then 4 else 9

/-- Table 7-4. -/
def ptpQl (c : Nat) : Nat :=
  if c = 6 || c = 7 then 2 else if c = 135 || c = 140 then 4 else if c = 150 then 8 else if c = 160 || c = 165 then 0xB
  else 0xF

/-- The effective quality level of an input. -/
def State.qlOf (s : State) (i : Nat) : Nat :=
  let cfg := s.reg O.refQlCfg i
  if cfg ≠ 0 then cfg
  else if i = 11 then ptpQl (s.reg O.refPtpClass)
  else if i < 8 then
    let p := s.refPortOf i
    if p < 96 && (s.linkP p).ql.acc then
      let q := bits (s.reg O.portRxQl p) 47 44
      if qlRank q ≤ 4 then q else 0xF
    else 0xF
  else 0xF

/-! ## What an input is worth (Table 7-1, R268) -/

def State.inState (s : State) (i : Nat) : Nat := s.reg O.refInputState i
/-- The stream that PEER follows (R231, R233). -/
def State.peerStream (s : State) : Nat := if s.large then 1 else if s.streamState 0 = 2 then 0 else 1

/-- The loss condition of input `i` holds (Table 7-1); of EXT0 and EXT1 only the outside knows. -/
def State.lossNow (s : State) (i : Nat) : Bool :=
  if i < 8 then
    let p := s.refPortOf i
    !s.sys.fabOn || decide (96 ≤ p) || !s.aligned p || s.reg O.portNegState p == 4
  else if i = 10 then s.elapsed (s.input i).at_ (msTicks 1500)
  else if i = 11 then s.elapsed (s.input i).at_ (secTicks (s.reg O.refPtpTimeout))
  else if i = 12 then !s.sys.fabOn || s.unwatched || s.streamState s.peerStream != 2
  else true

/-- ΔF of a reference that shows time `t` at the start of the current frame (R268). -/
def State.frameDiff (s : State) (t : Int) : Int :=
  dist48 s.clk.fsn (u48 (roundDiv (t - (s.reg O.refFrameOffset : Int)) frameU))

/-- PPS or PTP shows reference time `t` at the start of the current frame. -/
def State.refTime (s : State) (i : Nat) (t : Int) : State :=
  s.setInput i { s.input i with refT := t, refF := s.clk.fsn, refOk := true, dF := s.frameDiff t }

/-- ΔF of PPS and PTP is taken again, after REF.FRAME_OFFSET has changed (R290). -/
def State.frameDiffs (s : State) : State :=
  [10, 11].foldl (fun s i =>
    let x := s.input i
    if x.refOk then s.setInput i { x with dF := s.frameDiff (x.refT + dist48 x.refF s.clk.fsn * frameU) } else s) s

/-! ## Input states (Table 7-5) -/

/-- Input `i` takes state `st`: events 418, 419, 421. Timers start anew. PPS that is LOST no longer has two valid times
of day that follow one another, and so bears no time (log entry 103). -/
def State.setInState (s : State) (i st : Nat) : State :=
  let old := s.inState i
  if old = st then s
  else
    let x := s.input i
    let s := s.setInput i { x with t0 := s.tick, bad := 0, dfb := 0, ever := x.ever || st == 3
                                   have_ := if st = 0 || st = 1 then false else x.have_
                                   twoTods := if st = 0 || st = 1 then false else x.twoTods
                                   mAt := if old ≤ 1 then s.tick else x.mAt }
    let s := s.setReg O.refInputState i st
    let s := if st = 1 || st = 4 then s.raise 418 else s
    let s := if st = 3 then s.raise 419 else s
    (if st = 6 || old = 6 then s.raise 421 else s).tieFails

/-- A Cooper input whose accepted ORIGIN is the device's own is in LOOP (R269); where the conditions of LOST and of LOOP
both hold, it is LOST (log entry 104). -/
def State.loopCheck (s : State) (i : Nat) : State :=
  let p := s.refPortOf i
  if 8 ≤ i || s.inState i = 0 || s.lossNow i then s
  else
    let own := (s.linkP p).ql.acc && s.reg O.portRxQl p % 2 ^ 32 == s.reg O.identDevid % 2 ^ 32
    if own then s.setInState i 6 else if s.inState i = 6 then s.setInState i 2 else s

/-- |d_i| is within W. Of an input that has not been measured since it was enabled, the stored REF.INPUT_OFFSET is d_i
(log entry 105). -/
def State.inWindow (s : State) (i : Nat) : Bool :=
  decide ((i48 (s.reg O.refInputOffset i)).natAbs ≤ s.reg O.refWindow i)

/-- ΔF stands against input `i` (Table 7-5). -/
def State.frameBad (s : State) (i : Nat) : Bool := s.bears i && s.reg O.refTied == 1 && (s.input i).dF != 0

/-- The conditions of Table 7-5 on d_i and ΔF, and the soft alarm (R275), after they may have changed. -/
def State.judgeInput (s : State) (i : Nat) : State :=
  let st := s.inState i
  if st = 0 then s
  else
    let x := s.input i
    let d := (i48 (s.reg O.refInputOffset i)).natAbs
    let w := s.reg O.refWindow i
    let inw := s.inWindow i
    let soft := if x.soft then decide (4 * w ≤ 10 * d) else decide (w < 2 * d)
    let bad := if st ≠ 3 || inw then 0 else if x.bad = 0 then s.tick + 1 else x.bad
    let dfb := if st ≠ 3 || !s.frameBad i then 0 else if x.dfb = 0 then s.tick + 1 else x.dfb
    let t0 := if st = 2 && !inw then s.tick else x.t0
    let s := s.setInput i { x with soft := soft, bad := bad, dfb := dfb, t0 := t0 }
    let s := if soft != x.soft then s.raise 420 else s
    if st = 5 && !inw then s.setInState i 2
    else if st = 4 && inw && !s.frameBad i then s.setInState i 2
    else s

/-- Insertion into a rising list. -/
def insertInt (x : Int) : List Int → List Int
  | [] => [x]
  | y :: l => if x ≤ y then x :: y :: l else y :: insertInt x l

/-- The consensus y_c (R273). The mean of two middle values is rounded down to a whole ppb, and a QUALIFIED input that
has not been measured is no part of it (log entry 106). -/
def State.consensus (s : State) : Int :=
  let l := ((List.range 13).filter fun i => s.inState i == 3 && (s.input i).meas).map fun i => (s.input i).y
  let q := l.foldl (fun a x => insertInt x a) []
  let n := q.length
  if n < 3 then 0
  else if n % 2 = 1 then q.getD (n / 2) 0 else (q.getD (n / 2 - 1) 0 + q.getD (n / 2) 0) / 2

/-- The offset measurement interval of an input, in ticks (Table 7-2). -/
def measureTicks (i : Nat) : Nat := secTicks (if i = 10 then 16 else if i = 11 then 64 else 1)

/-- An offset measurement over the interval of Table 7-2 ends: y_i in ppb, the consensus, every d_i (R273). -/
def State.offsetMeasure (s : State) (i : Nat) (y : Int) : State :=
  if s.inState i = 0 || !s.elapsed (s.input i).mAt (measureTicks i) then s
  else
    let s := s.setInput i { s.input i with y := y, meas := true, mAt := s.tick }
    let c := s.consensus
    let s := foldRange 13 (fun s k =>
      if s.inState k ≠ 0 && (s.input k).meas then s.setReg O.refInputOffset k (u48 ((s.input k).y - c)) else s) s
    (foldRange 13 (fun s k => s.judgeInput k) s).loopCheck i

/-- REF.ENABLE: inputs set start in QUALIFYING, inputs cleared are DISABLED. -/
def refEnableOp (v : Nat) (s : State) : State × Nat :=
  let s := s.setReg O.refEnable 0 v
  (foldRange 13 (fun s i =>
    if !bit v i then s.setInState i 0
    else if s.inState i = 0 then
      ((s.setInState i 2).setInput i { InS.init with at_ := s.tick, t0 := s.tick, mAt := s.tick }).loopCheck i
    else s) s, 0)

/-- The loss condition of an input is met. -/
def State.inputLoss (s : State) (i : Nat) : State :=
  if s.inState i ≠ 0 && s.lossNow i then s.setInState i 1 else s

/-- The loss condition of a LOST input is absent. An EXT input, and the first edge or sample of PPS and PTP, are the
outside's to tell. -/
def State.inputBack (s : State) (i : Nat) : State :=
  if s.inState i = 1 && (i = 8 || i = 9 || !s.lossNow i) then (s.setInState i 2).loopCheck i else s

/-- Q has passed for input `i`. -/
def State.qualExpiry (s : State) (i : Nat) : State :=
  let q := secTicks (s.reg O.refQualTime i)
  let x := s.input i
  let st := s.inState i
  if st = 2 then
    if s.inWindow i && s.elapsed x.t0 q then (s.setInState i (if x.ever then 5 else 3)).loopCheck i else s
  else if st = 3 then
    if (x.bad ≠ 0 && s.elapsed (x.bad - 1) q) || (x.dfb ≠ 0 && s.elapsed (x.dfb - 1) q) then
      (s.setInState i 4).loopCheck i
    else s
  else s

/-- REF.WTR has passed in WAIT_RESTORE. -/
def State.wtrExpiry (s : State) (i : Nat) : State :=
  if s.inState i = 5 && s.elapsed (s.input i).t0 (secTicks (s.reg O.refWtr)) then (s.setInState i 3).loopCheck i else s

/-! ## The tie to network time (R287 to R290, R297) -/

/-- R287 is evaluated. -/
def State.tieCheck (s : State) : State :=
  if !s.tieHolds then s.untie
  else if s.reg O.refTied = 1 then s
  else { ((s.setReg O.refTied 0 1).raise 423) with ref := { s.ref with tieDue := true } }

/-- E of every running context moves by 405 ΔF (R288), and with it what is counted in the local round count. -/
def State.groupsStep (s : State) (d : Int) : State :=
  let k := 405 * d
  let line (l : LineS) : LineS := { l with late := l.late + k, buf := l.buf.map fun x => { x with a := x.a + k } }
  let s := { s with
    grp := { s.grp with lines := s.grp.lines.map fun (x : Nat × LineS) => (x.1, line x.2) }
    rx := s.rx.map fun (x : Nat × RxG) => (x.1, { x.2 with outA := x.2.outA + k }) }
  s.grp.ctxs.foldl (fun s x =>
    let c := x.1
    if x.2.kind = 0 then s
    else
      let t := i48 (s.reg O.groupTarget c)
      (s.setReg O.groupOffset c (u48 (s.offset c + 405 * d))).setReg O.groupTarget c (u48 (t + 405 * d))) s

/-- The grid value of the current frame with a residual (R289, R297), in 2^-32 ns. -/
def State.gridTime (s : State) (left : Int) : Nat :=
  ((s.clk.fsn * frameU + s.reg O.refFrameOffset : Int) + left).toNat * 65536

/-- Entry into REF.TIED = 1 takes its effect at a frame start (R288). -/
def State.fsnStep (s : State) : State :=
  if !s.ref.tieDue then s
  else
    let d := if s.selected < 13 then (s.input s.selected).dF else 0
    let s := { s with clk := { s.clk with fsn := add48 s.clk.fsn d } }
    let g (x : Nat × InS) : Nat × InS := (x.1, { x.2 with dF := x.2.dF - d, refF := add48 x.2.refF d })
    let s := { s with ref := { s.ref with tieDue := false, pull := false, left := 0, frac := 0
                                          ins := s.ref.ins.map g } }
    let s := s.setReg O.timeGridResidual 0 0
    let s := (s.stepPast s.frameLt (s.gridTime 0)).setTime s.clk.base (s.gridTime 0) TimS.init.inc
    let s := { s with tim := { s.tim with integ := 0, clamped := false } }
    let s := s.setReg O.timeServoFreq 0 0
    let s := (s.groupsStep d).commitRestep
    let s := s.setReg O.refFsnStep 0 (u48 d)
    if d = 0 then s else s.raise 422

/-! ## The loop (R281, R283 to R285, R297) -/

/-- 2π / 2.482, in 10^-12. -/
def loopK : Int := 2531500929565

/-- 15.4 ppm, in 10^-18. -/
def dcoClamp : Int := 15400000000000

/-- The phase of the frame starts against input `i`: what PPS and PTP compare is local time, from which, while tied,
what is left of the phase steps is taken out (log entry 83). -/
def State.framePhase (s : State) (i : Nat) : Int :=
  (s.input i).raw - if (i = 10 || i = 11) && s.reg O.refTied = 1 then s.ref.left else 0

/-- What is left of the phase steps, for the input against which they are pulled. -/
def State.leftOf (s : State) (i : Nat) : Int := if s.selected = i then s.ref.left else 0

/-- The phase error of input `i` against the frame phase target (R267). What is reduced as its type asks is the error
without the steps that are being pulled: those are pulled in full (R284; log entry 100). -/
def State.phaseErr (s : State) (i : Nat) : Int :=
  let e := s.framePhase i - i48 (s.reg O.refPhaseAdj)
  let left := s.leftOf i
  match s.phaseMod i with
  | some m => symMod (e + left) m - left
  | none => e

/-- The steps have been pulled out, or there is nothing to pull them against: the token is free (Table 11-8). -/
def State.stepEnd (s : State) : State :=
  if s.ref.stepTok then { s with ref := { s.ref with stepTok := false } }.actEnd 5 else s

/-- The time since the last update of the loop, in ticks. Of the first update since reset or FREE, which has none before
it, one frame (log entry 101). -/
def State.loopDt (s : State) : Int := if s.ref.upd = 0 then 38880 else (s.tick : Int) - (s.ref.upd - 1)

/-- I and DCO after an update with error `e`, and whether DCO is clamped (R281): wn in rad/s is loopK × B / 10^15. -/
def State.loopNext (s : State) (integ0 e : Int) : Int × Int × Bool :=
  let b : Int := loopB s.selected
  let integ := integ0 + roundDiv (loopK * loopK * b * b * e * s.loopDt) (10 ^ 21 * 65536 * 311040000)
  let lim : Int := (s.reg O.refPullLimit : Int) * 1000000000
  let pull := clampInt (-lim) lim (roundDiv (2 * loopK * b * e) (65536 * 1000000))
  let dco := integ + pull
  let hit := decide (dcoClamp < dco.natAbs)
  (if hit then integ0 else integ, clampInt (-dcoClamp) dcoClamp dco, hit)

/-- What is left of the phase steps at a loop update: their sum, less the phase by which the frame starts have moved in
response to them, which is what the DCO gave beyond what it would have given without them (R297; log entry 100). A
faster DCO makes the phase of the frame starts fall. -/
def State.residual (s : State) : State :=
  if !s.ref.pull then s
  else
    let n := s.ref.left * 10 ^ 18 + s.ref.frac + roundDiv ((s.ref.dco - s.ref.dco0) * s.loopDt * frameU) 38880
    let left := roundDiv n (10 ^ 18)
    let s := { s with ref := { s.ref with left := left, frac := n - left * 10 ^ 18 } }
    if s.reg O.refTied = 1 then s.setReg O.timeGridResidual 0 (u48 left) else s

/-- One update of the loop from the selected input (R281), beside it the loop as it would be without the phase steps.
The steps have been pulled when the two are one. -/
def State.loopUpdate (s : State) : State :=
  let s := s.residual
  let e := s.phaseErr s.selected
  let (integ, dco, hit) := s.loopNext s.ref.integ e
  let (integ0, dco0, _) := if s.ref.pull then s.loopNext s.ref.integ0 (e + s.ref.left) else (integ, dco, hit)
  let pull := s.ref.pull && (s.ref.left != 0 || integ != integ0 || dco != dco0)
  let r := { s.ref with
    dco := dco, integ := integ, dco0 := dco0, integ0 := integ0, pull := pull
    frac := if pull then s.ref.frac else 0
    clamp := if !hit then 0 else if s.ref.clamp = 0 then s.tick + 1 else s.ref.clamp
    upd := s.tick + 1 }
  let first := hit && s.ref.clamp == 0
  let s := { s with ref := r }
  let s := s.setReg O.refDcoOffset 0 (u48 (roundDiv r.dco 1000000))
  let s := if first then s.raise 425 else s
  let inside := decide (e.natAbs ≤ s.reg O.refSettleWindow * 65536)
  let win : Nat := if !inside then 0 else if s.ref.win == 0 then s.tick + 1 else s.ref.win
  let s := { s with ref := { s.ref with win := win } }
  if inside then s.stepEnd else s

/-- A phase sample of input `i` (R267); the loop takes it when the input is selected. -/
def State.phaseSample (s : State) (i : Nat) (raw : Int) : State :=
  if s.inState i = 0 then s
  else
    let raw := match s.phaseMod i with
      | some m => symMod raw m
      | none => raw
    let s := s.setInput i { s.input i with raw := raw, have_ := true, at_ := s.tick }
    let s := s.setReg O.refInputPhase i (u48 (s.phaseErr i))
    if s.selected = i then s.loopUpdate else s

/-- C_tx and C_rx of a Cooper port (Table 8-1), in 2^-16 ns. -/
def cooperTx (ver : Nat) : Int := if ver = 2 then 746 * 65536 / 10 else 1319 * 65536 / 10
def cooperRx (ver : Nat) : Int := if ver = 2 then 1183 * 65536 / 10 else 2075 * 65536 / 10

/-- The phase samples that a local frame start gives: Cooper inputs by their receive stamps (R303), EXT inputs by the
phases measured outside (local less reference instant). -/
def State.framePhases (s : State) (ph : List (Nat × Int)) : State :=
  let start : Int := rootTime (32 * s.clk.base)
  let s := foldRange 8 (fun s i =>
    if s.inState i = 0 || s.lossNow i then s
    else
      let p := s.refPortOf i
      let at_ : Int := rootTime (s.linkP p).lastStamp - cooperRx (s.rxVer p) - i48 (s.reg O.timeStampAdj (2 * p + 1)) -
        i48 (s.reg O.refComp i)
      let n := roundDiv (start - at_) frameU
      let s := s.setInput i { s.input i with dF := dist48 s.clk.fsn (add48 (s.reg O.portRxFsn p) n) }
      s.phaseSample i (start - at_)) s
  ph.foldl (fun s x =>
    if (x.1 = 8 || x.1 = 9) && s.inState x.1 ≠ 0 && s.inState x.1 ≠ 1 then
      s.phaseSample x.1 (x.2 + i48 (s.reg O.refComp x.1))
    else s) s

/-- A STATUS record gives PEER's sample: the peer's frame start against the local start of that frame (Table 7-1). -/
def State.peerSample (s : State) (st : Nat) : State :=
  if st ≠ s.peerStream || s.lossNow 12 then s
  else match (s.stream st).start with
    | none => s
    | some (t, f) =>
      let mine : Int := (s.frameLt / 2 ^ 16 : Nat) - dist48 f s.clk.fsn * frameU
      s.phaseSample 12 (mine - t)

/-! ## When the servo takes no sample (R300) -/

/-- The servo is off: REF.TIED is 1, or it has no source. -/
def State.servoOff (s : State) : Bool := s.reg O.refTied == 1 || s.reg O.timeServoSrc == 0

/-- A sample of the input that the servo follows may not be used while the input is selected in ACQUIRE. -/
def State.servoHeld (s : State) : Bool :=
  let i := if s.reg O.timeServoSrc = 1 then 10 else 11
  s.selected == i && s.refState == 1

/-- The servo goes from RUN to HELD: it starts with I = 0 when it runs again (R301). -/
def State.servoHold (s : State) : State :=
  if !s.servoOff && s.servoHeld then { s with tim := { s.tim with run := false } } else s

/-! ## Selection (R277 to R280, R283, R285) -/

/-- Candidates, and the best of them. -/
def State.candidates (s : State) : List Nat :=
  (List.range 13).filter fun i => s.inState i == 3 && decide (qlRank (s.qlOf i) ≤ 4) &&
    (s.sys.mode != .dormant || (decide (8 ≤ i) && decide (i ≤ 11)))

def State.bestInput (s : State) : Option Nat :=
  let l := s.candidates
  let key (i : Nat) : Nat := qlRank (s.qlOf i) * 16 + s.reg O.refPriority i
  if l.contains (s.reg O.refForce) then some (s.reg O.refForce)
  else l.foldl (fun m i => match m with
    | none => some i
    | some b => if key i < key b then some i else some b) none

/-- REF.STATE changes: event 417. -/
def State.setRefState (s : State) (v : Nat) : State :=
  if s.refState = v then s else (s.setReg O.refState 0 v).raise 417

/-- REF.SELECTED changes: event 416. -/
def State.setSelected (s : State) (v : Nat) : State := (s.setReg O.refSelected 0 v).raise 416

/-- The Horologer switches to input `b` (R283, R287). The time at the clamp counts anew (log entry 102). Steps that are
still being pulled while not tied end with the input they were pulled against: e is the new input's (log entry 100). -/
def State.switchTo (s : State) (b : Nat) : State :=
  let keep := s.reg O.refTied == 1 && s.bears b && (s.input b).dF == 0 && s.inWindow b
  let from_ := s.refState == 0 || (s.refState == 1 && s.ref.fromFree)
  let s := { s with ref := { s.ref with sw := s.tick, win := 0, clamp := 0, keep := keep, fromFree := from_,
                                        freeDue := false } }
  let s := if s.reg O.refTied = 1 then s
    else { s with ref := { s.ref with pull := false, left := 0, frac := 0 } }
  (((s.setSelected b).setRefState 1).tieCheck).servoHold

/-- FREE (R285). -/
def State.goFree (s : State) : State :=
  if s.selected = 255 then s
  else
    let s := { s with ref := { s.ref with freeDue := true, win := 0, clamp := 0, keep := false, upd := 0,
                                          pull := false, left := 0, frac := 0 } }
    (((s.setSelected 255).setRefState 0).tieCheck).stepEnd

/-- An evaluation of selection (R277). -/
def State.select (s : State) : State :=
  match s.bestInput with
  | none => s.goFree
  | some b =>
    let sel := s.selected
    if b = sel then s
    else if s.refState = 1 && decide (sel < 13) && s.inState sel = 3 then s
    else s.switchTo b

/-- An alignment begins (R292), with the TIMING token; one of REF.ALIGN_AUTO is skipped while that is held (R405). -/
def State.alignStart (s : State) (tok : Bool) : State :=
  { s with ref := { s.ref with align := true, alignTok := tok, alignTick := s.tick } }

/-- An alignment is over: event 424. -/
def State.alignEnd (s : State) : State :=
  let tok := s.ref.alignTok
  let s := { s with ref := { s.ref with align := false, alignTok := false } }.raise 424
  if tok then s.actEnd 5 else s

/-- The switch has settled (R279): LOCKED. -/
def State.switchSettled (s : State) : State :=
  let i := s.selected
  if s.refState ≠ 1 || 13 ≤ i || s.ref.win = 0 then s
  else
    let t := settleTicks i
    if s.elapsed (s.ref.win - 1) t && s.elapsed s.ref.sw t then
      let auto := s.ref.fromFree && s.reg O.refAlignAuto == 1
      let s := { s with ref := { s.ref with keep := false, fromFree := false } }
      let s := (s.setRefState 2).tieCheck
      if auto && s.reg O.refTied = 0 && s.reg O.refAlignSrc ≠ 0 && !s.ref.align &&
          s.tokFree 5 0xFE then (s.alignStart true).actStart 5 0xFE else s
    else s

/-- The DCO offset has been at its clamp for Q (R276). -/
def State.clampTimeout (s : State) : State :=
  let i := s.selected
  if i < 13 && s.ref.clamp ≠ 0 && s.elapsed (s.ref.clamp - 1) (secTicks (s.reg O.refQualTime i)) && s.inState i = 3 then
    s.setInState i 4
  else s

/-! ## Phase steps and alignment (R284, R292) -/

/-- A phase step of φ (R284): the loop pulls it against the selected input, adding to what is still being pulled. While
tied, local time steps by it at once. -/
def State.phaseStep (s : State) (x : Int) : State :=
  let s := s.setReg O.refPhaseAdj 0 (u48 (i48 (s.reg O.refPhaseAdj) + x))
  let s := if s.ref.pull then s else { s with ref := { s.ref with integ0 := s.ref.integ, dco0 := s.ref.dco } }
  let s := if s.selected < 13 then { s with ref := { s.ref with left := s.ref.left + x, pull := true } } else s
  if s.reg O.refTied = 1 then
    let s := s.setReg O.timeGridResidual 0 (u48 s.ref.left)
    (s.jumpTime ((s.lt : Int) + x * 65536).toNat).commitRestep
  else s

/-- REF.PHASE_STEP: the TIMING token is held while the step is pulled. -/
def phaseStepOp (h v : Nat) (s : State) : State × Nat :=
  if !s.tokFree 5 h then (s, 0x0402)
  else
    let s := s.phaseStep (i48 v)
    if s.selected = 255 || s.ref.stepTok then (s, 0)
    else ({ s with ref := { s.ref with stepTok := true } }.actStart 5 h, 0)

/-- REF.FRAME_OFFSET: a write while tied unties (R290). -/
def frameOffsetOp (v : Nat) (s : State) : State × Nat := ((s.setReg O.refFrameOffset 0 v).untie.frameDiffs, 0)

/-- REF.RETIME. -/
def retimeOp (h : Nat) (s : State) : State × Nat := if s.tokFree 5 h then (s.untie, 0) else (s, 0x0402)

/-- REF.ALIGN_REQ. -/
def alignReqOp (h : Nat) (s : State) : State × Nat :=
  if !s.tokFree 5 h then (s, 0x0402)
  else if s.reg O.refTied = 1 then (s, 0x0505)
  else if s.ref.align then (s, 0)
  else ((s.alignStart true).actStart 5 h, 0)

/-- How long after its nearest frame start an edge falls, `late` ago, with REF.ALIGN_OFFSET added: for PPS_IN the
nearest frame start whose FSN is a multiple of 8,000 (R292). -/
def State.alignErr (s : State) (late : Int) : Int :=
  let at_ : Int := (rootTime (96 * 32 * s.clk.round) : Int) - late + i48 (s.reg O.refAlignOffset)
  if s.reg O.refAlignSrc = 2 then symMod (at_ + (s.clk.fsn % 8000 : Nat) * frameU) secU else symMod at_ frameU

/-- An edge of the pin that REF.ALIGN_SRC names, `late` ago in 2^-16 ns (R292). -/
def State.alignEdge (s : State) (late : Int) : State :=
  if s.reg O.refAlignSrc = 0 then s
  else
    let e := s.alignErr late
    let s := s.setReg O.refAlignErr 0 (u48 e)
    if s.ref.align then (s.phaseStep e).alignEnd else s

/-- No edge within 1.5 s. -/
def State.alignTimeout (s : State) : State :=
  if s.ref.align && s.elapsed s.ref.alignTick (msTicks 1500) then s.alignEnd else s

/-! ## The servo (R300, R301) -/

/-- TIME.SERVO_STATE. -/
def State.servoState (s : State) : Nat := if s.servoOff then 0 else if s.servoHeld || !s.tim.started then 1 else 2

/-- Local time steps by `d`, in 2^-16 ns. -/
def State.timeStep (s : State) (d : Int) : State := (s.jumpTime ((s.lt : Int) + d * 65536).toNat).commitRestep

/-- The increment of a correction y, in 10^-15. -/
def incOf (y : Int) : Nat := (roundDiv ((TimS.init.inc : Int) * (10 ^ 15 - y)) (10 ^ 15)).toNat

/-- The increment changes; local time runs on, and a commit by time follows it (R318). -/
def State.setInc (s : State) (n : Nat) : State := (s.setTime s.tick s.lt n).commitRestep

/-- One used sample θ (R301). -/
def State.servoUse (s : State) (th : Int) : State :=
  let first := !s.tim.started
  let s := if s.tim.run then s else { s with tim := { s.tim with integ := 0, run := true } }
  let dt : Nat := if s.tim.lastUse = 0 then 1 else Nat.max 1 (s.tick - (s.tim.lastUse - 1))
  let s := { s with tim := { s.tim with started := true, lastUse := s.tick + 1 } }
  if first || s.reg O.timeStepThr * 65536 < th.natAbs then (s.timeStep (-th)).raise 426
  else
    let q := roundDiv (th * 311040000 * 1000000) (65536 * dt)
    let lim : Int := (s.reg O.timeServoLimit : Int) * 1000000
    let integ := clampInt (-lim) lim (s.tim.integ + roundDiv ((s.reg O.timeServoKi : Int) * q) 65536)
    let y0 := roundDiv ((s.reg O.timeServoKp : Int) * q) 65536 + integ
    let y := clampInt (-lim) lim y0
    let hit := decide (lim ≤ (y.natAbs : Int))
    let was := s.tim.clamped
    let s := { s with tim := { s.tim with integ := if hit then s.tim.integ else integ, clamped := hit } }
    let s := (s.setInc (incOf y)).setReg O.timeServoFreq 0 (u48 (roundDiv y 1000))
    if hit != was then s.raise 427 else s

/-- A sample from source `src` (1 PPS, 2 PTP). -/
def State.servoSample (s : State) (src : Nat) (th : Int) : State :=
  if s.reg O.timeServoSrc ≠ src then s
  else
    let s := s.setReg O.timeServoOffset 0 (u48 th)
    if s.servoOff then s
    else if s.servoHeld then { s with tim := { s.tim with run := false } }
    else s.servoUse th

/-- TIME.SERVO_SRC: 0 returns the increment to nominal; another source starts the servo. A servo that stops at its clamp
leaves it without event 427 (log entry 82). -/
def servoSrcOp (v : Nat) (s : State) : State × Nat :=
  let old := s.reg O.timeServoSrc
  let s := s.setReg O.timeServoSrc 0 v
  if v = 0 then
    (({ s with tim := { s.tim with started := false, run := false, clamped := false,
                                   lastUse := 0 } }.setInc TimS.init.inc).setReg
      O.timeServoFreq 0 0, 0)
  else if old = 0 then ({ s with tim := { s.tim with started := false, run := false, clamped := false,
                                                     lastUse := 0 } }, 0)
  else (s.servoHold, 0)

/-! ## PPS and PTP samples (R266, R300) -/

/-- An edge of the PPS source (0 PPS_IN, 1 and 2 time ports) at local time `at_`, with its time of day when valid. -/
def State.ppsAt (s : State) (at_ : Int) (tod : Option Nat) : State :=
  let i := 10
  let x := s.input i
  let lt := at_ - i48 (s.reg O.refComp i)
  let th : Int := match tod with
    | some t => lt - t
    | none => symMod lt secU
  let two := match tod, x.tod with
    | some t, some u => t == u + secU
    | _, _ => false
  let s := s.setInput i { x with tod := tod, twoTods := two, at_ := s.tick }
  let s := match tod with
    | some t => s.refTime i ((t : Int) + ((s.frameLt / 2 ^ 16 : Nat) - lt))
    | none => s
  ((s.phaseSample i th).servoSample 1 th).tieFails

/-- A PPS edge `late` ago (R300): of the source that REF.PPS_SRC names. PPS_IN takes its time of day from
REF.PPS_TOD. -/
def State.ppsEdge (s : State) (src : Nat) (tod : Option Nat) (late : Int) : State :=
  if s.reg O.refPpsSrc ≠ src then s
  else
    let t := if src = 0 then s.ref.todNext else tod
    let s := if src = 0 then { s with ref := { s.ref with todNext := none } } else s
    s.ppsAt ((s.now : Int) - late) t

/-- A sample of TIME.PTP_OFFSET. -/
def ptpOffsetOp (v : Nat) (s : State) : State × Nat :=
  let th := i48 v
  let i := 11
  let e := th - i48 (s.reg O.refComp i)
  let s := (s.setInput i { s.input i with at_ := s.tick }).refTime i ((s.frameLt / 2 ^ 16 : Nat) - e)
  ((s.phaseSample i e).servoSample 2 th, 0)

/-! ## Local time (R298, R299) -/

/-- TIME.SET and TIME.STEP: only while not tied; event 431. -/
def timeSetOp (h v : Nat) (s : State) : State × Nat :=
  if !s.tokFree 5 h then (s, 0x0402)
  else if s.reg O.refTied = 1 then (s, 0x0505)
  else (((s.jumpTime (ofTime v * 65536)).commitRestep).raise 431, 0)

def timeStepOp (h v : Nat) (s : State) : State × Nat :=
  if !s.tokFree 5 h then (s, 0x0402)
  else if s.reg O.refTied = 1 then (s, 0x0505)
  else ((s.timeStep (i48 v)).raise 431, 0)

/-- TIME.CAPTURE. -/
def timeCaptureOp (s : State) : State × Nat :=
  ((s.setReg O.timeCapturedTime 0 s.nowTime).setReg O.timeCapturedFsn 0 s.clk.fsn, 0)

/-! ## What the ports tell (R293) -/

/-- The quality-level word that port `p` sends. -/
def State.qlSent (s : State) (p : Nat) : Nat :=
  let sel := s.selected
  let free := decide (13 ≤ sel)
  let cooper := decide (sel < 8)
  let ql := if free then s.reg O.refFreeQl else if cooper && s.refPortOf sel == p then 0xF else s.qlOf sel
  let own := s.reg O.identDevid % 2 ^ 32
  let origin := if cooper then s.reg O.portRxQl (s.refPortOf sel) % 2 ^ 32
    else if sel = 12 then s.reg O.witnessStreamDevid s.peerStream % 2 ^ 32 else own
  ql * 2 ^ 44 + s.reg O.refTied * 2 ^ 43 + b2n free * 2 ^ 42 + origin

/-! ## A local frame start -/

/-- The ROOT cycle nearest to an instant, both counted from a frame start (R291). -/
def rootCycle (u : Int) : Int := roundDiv (u * 1244160) frameU

/-- Output pulses of this frame (R291). -/
def State.pulses (s : State) : State :=
  let en := s.reg O.refOutEn
  let off := i48 (s.reg O.refOutOffset)
  let s := if bit en 0 then s.send (.pulse 0 (rootCycle off) 32) else s
  let t := s.frameLt / 2 ^ 16
  let next := (secU - t % secU) % secU
  if !bit en 1 then s
  else if s.reg O.refTied = 1 then (if next < frameU then s.send (.pulse 1 (rootCycle (next + off)) 31104) else s)
  else if s.clk.fsn % 8000 = 0 then s.send (.pulse 1 (rootCycle off) 31104) else s

/-- CLK_OUT divides ROOT by this; 0 while it is off (R291). -/
def State.clkOut (s : State) : Nat :=
  if !bit (s.reg O.refOutEn) 2 then 0
  else if s.reg O.refClkOutSel = 0 then 4860 else if s.reg O.refClkOutSel = 1 then 512 else 64

/-- Local time at the start of a frame (R289, R296, R297): the grid while tied, else 17,600 × 2^-32 ns more. `s` is the
state as the frame starts. A commit by time follows local time (R318). -/
def State.timeFrame (s : State) : State :=
  let run := s.frameLt + 17600
  let s := { s with tim := { s.tim with tcRun := s.reg O.timeTcEn == 1 } }
  let s := if s.reg O.refTied = 1 && !s.ref.tieDue then
      (s.stepPast run (s.gridTime s.ref.left)).setTime s.clk.base (s.gridTime s.ref.left) s.tim.inc
    else s.setTime s.clk.base run s.tim.inc
  s.commitRestep

/-- The Horologer at a local frame start. -/
def State.refFrame (s : State) (ph : List (Nat × Int)) : State :=
  let s := if s.ref.freeDue then
      ({ s with ref := { s.ref with integ := 0, dco := 0, freeDue := false } }).setReg O.refDcoOffset 0 0
    else s
  let s := s.framePhases ph
  let s := foldRange 13 (fun s i => s.judgeInput i) s
  s.tieCheck.pulses

/-! ## Writes -/

def State.writeRefEnable (s : State) (w : Who) (v : Nat) : State := s.write w O.refEnable 0 v (refEnableOp v)
def State.writePhaseStep (s : State) (w : Who) (v : Nat) : State :=
  s.write w O.refPhaseStep 0 v (phaseStepOp (holderOf w) v)
def State.writeFrameOffset (s : State) (w : Who) (v : Nat) : State := s.write w O.refFrameOffset 0 v (frameOffsetOp v)
def State.writeRetime (s : State) (w : Who) (v : Nat) : State := s.write w O.refRetime 0 v (retimeOp (holderOf w))
def State.writeAlignReq (s : State) (w : Who) (v : Nat) : State := s.write w O.refAlignReq 0 v (alignReqOp (holderOf w))
def State.writePtpOffset (s : State) (w : Who) (v : Nat) : State := s.write w O.timePtpOffset 0 v (ptpOffsetOp v)
def State.writeTimeSet (s : State) (w : Who) (v : Nat) : State := s.write w O.timeSet 0 v (timeSetOp (holderOf w) v)
def State.writeTimeStep (s : State) (w : Who) (v : Nat) : State := s.write w O.timeStep 0 v (timeStepOp (holderOf w) v)
def State.writeTimeCapture (s : State) (w : Who) (v : Nat) : State := s.write w O.timeCapture 0 v timeCaptureOp
def State.writeServoSrc (s : State) (w : Who) (v : Nat) : State := s.write w O.timeServoSrc 0 v (servoSrcOp v)
/-- REF.QL_CFG: 0x0 only for Cooper and PTP inputs (R271). -/
def State.writeQlCfg (s : State) (w : Who) (i v : Nat) : State :=
  s.write w O.refQlCfg i v fun s =>
    if v = 0 && !(decide (i < 8) || i == 11) then (s, 0x0310) else (s.setReg O.refQlCfg i v, 0)
/-- REF.PPS_TOD is for the next edge. -/
def State.writePpsTod (s : State) (w : Who) (v : Nat) : State :=
  s.write w O.refPpsTod 0 v fun s => ({ s with ref := { s.ref with todNext := some (ofTime v) } }, 0)

/-- A STATUS record is taken, and gives PEER its sample; an arbiter's on lane 1 takes no part in the samples (R239). -/
def State.statusTaken (s : State) (st : Nat) (l : List Block) (arrival : Nat) : State :=
  let t := s.statusRx st l arrival
  if s.arbiterCopy st l then t else t.peerSample st

/-! ## The commands -/

def execStatusRecordRx (st : Nat) (x : WitIn) (arrival : Nat) (s : State) :
    Host.Outcome State Fault Refusal :=
  let l := recordOf st x
  s.runIn st 32 fun s => s.rxRecord st l 0x10 fun s => s.statusTaken st l arrival
def execRefEnableWrite (w : Who) (v : Nat) (s : State) : Host.Outcome State Fault Refusal :=
  s.run fun s => s.writeRefEnable w v
def execInputLoss (i : Nat) (s : State) : Host.Outcome State Fault Refusal := s.runIn i 13 fun s => s.inputLoss i
def execInputLossCleared (i : Nat) (s : State) : Host.Outcome State Fault Refusal := s.runIn i 13 fun s => s.inputBack i
def execOffsetMeasure (i : Nat) (y : Int) (s : State) : Host.Outcome State Fault Refusal :=
  s.runIn i 13 fun s => s.offsetMeasure i y
def execQualificationTimeExpiry (i : Nat) (s : State) : Host.Outcome State Fault Refusal :=
  s.runIn i 13 fun s => s.qualExpiry i
def execWaitRestoreExpiry (i : Nat) (s : State) : Host.Outcome State Fault Refusal :=
  s.runIn i 13 fun s => s.wtrExpiry i
def execSelectionEval (s : State) : Host.Outcome State Fault Refusal := s.run State.select
def execSwitchSettled (s : State) : Host.Outcome State Fault Refusal := s.run State.switchSettled
def execDcoClampTimeout (s : State) : Host.Outcome State Fault Refusal := s.run State.clampTimeout
def execFsnStep (s : State) : Host.Outcome State Fault Refusal := s.run State.fsnStep
def execPhaseStepWrite (w : Who) (v : Nat) (s : State) : Host.Outcome State Fault Refusal :=
  s.run fun s => s.writePhaseStep w v
def execFrameOffsetWrite (w : Who) (v : Nat) (s : State) : Host.Outcome State Fault Refusal :=
  s.run fun s => s.writeFrameOffset w v
def execRetime (w : Who) (v : Nat) (s : State) : Host.Outcome State Fault Refusal := s.run fun s => s.writeRetime w v
def execAlignReq (w : Who) (v : Nat) (s : State) : Host.Outcome State Fault Refusal :=
  s.run fun s => s.writeAlignReq w v
def execAlignEdge (late : Int) (s : State) : Host.Outcome State Fault Refusal := s.run fun s => s.alignEdge late
def execAlignTimeout (s : State) : Host.Outcome State Fault Refusal := s.run State.alignTimeout
def execPpsEdge (src : Nat) (tod : Option Nat) (late : Int) (s : State) : Host.Outcome State Fault Refusal :=
  s.runIn src 3 fun s => s.ppsEdge src tod late
def execPtpOffsetWrite (w : Who) (v : Nat) (s : State) : Host.Outcome State Fault Refusal :=
  s.run fun s => s.writePtpOffset w v
def execTimeSet (w : Who) (v : Nat) (s : State) : Host.Outcome State Fault Refusal := s.run fun s => s.writeTimeSet w v
def execTimeStep (w : Who) (v : Nat) (s : State) : Host.Outcome State Fault Refusal :=
  s.run fun s => s.writeTimeStep w v
def execTimeCapture (w : Who) (v : Nat) (s : State) : Host.Outcome State Fault Refusal :=
  s.run fun s => s.writeTimeCapture w v
def execServoSrcWrite (w : Who) (v : Nat) (s : State) : Host.Outcome State Fault Refusal :=
  s.run fun s => s.writeServoSrc w v

end Sys2Proof.Machine
end

