-- ==== Sys2Proof/Machine/Fabric.lean ====
section
/-! DEFINITION. A fabric round: generators, Egress Time Stage, Lodes, Ingress Time Stage, the accounting of slots and
the tagging of words (R138 to R148, R172, R436 to R441). -/

namespace Sys2Proof.Machine

/-! ## Fabric words (Table 4-1) -/

def Tag.code : Tag → Nat
  | .idle => 0 | .empty => 1 | .word => 2 | .tpoa => 3 | .ais => 4 | .test => 5

/-- A tag that carries a tributary word. -/
def Tag.carries (t : Tag) : Bool := t == .word || t == .tpoa

/-- A word with its even parity; DATA is zero where TAG is IDLE, EMPTY or AIS. -/
def Cell.mk' (t : Tag) (d : Word) : Cell :=
  let d : Word := if t.carries || t == .test then d else 0
  ⟨t, d, (popCount 3 t.code + popCount 48 d.toNat) % 2 == 1⟩

/-- The entries of grain `a`'s slots for a unit; the TPO-A of a major grain is the head's word. -/
def cellsOf (a w : Nat) (u : SUnit) : List (Nat × Cell) :=
  (List.range w).map fun i =>
    (a + i, Cell.mk' (if u.tag = .tpoa && i ≠ 0 then .word else u.tag) (u.ws.getD i 0))

/-- The buffer of ITS and ETS that the current round writes; the round before wrote the other (R143, R145). Rounds count
on from frame to frame (log entry 84). -/
def State.buffer (s : State) : Nat := s.tick / 96 % 2

/-- Places of source minor grain `a` in an ITS buffer, and of colour `k` in an ETS buffer of egress port `e`. -/
def itsKey (b a : Nat) : Nat := b * 122880 + a
def etsKey (b e k : Nat) : Nat := b * 368640 + e * 3840 + k

/-- What a stage map entry holds that was loaded with `x`; a value of `n` or more names none. An entry is used as read,
though its parity fails (R420). -/
def State.entHolds (s : State) (port stage e n : Nat) (x : Option Nat) : Option Nat :=
  match SMap.find? s.fab.wrong (entNo port stage e) with
  | some w => if w.v < n then some w.v else none
  | none => x

/-- The colour that external slot `t` reads, and that an entry which does not hold what it was loaded with reads one
that the Live map assigns at its port (R148). -/
def State.slotColour (s : State) (t : Nat) : Option Nat :=
  match s.entHolds (t / 1280) 2 (t % 1280) 3840 (SMap.find? s.fab.cur.ets t) with
  | some k =>
    if (SMap.find? s.fab.wrong (entNo (t / 1280) 2 (t % 1280))).isSome &&
      (SMap.find? s.fab.cur.sel (k * 96 + t / 1280)).isNone then none
    else some k
  | none => none

/-- The entry that external slot `t` carries out: of the colour that its ETS read map names (R145). A TEST word is never
carried out (R148). -/
def State.slotCell (s : State) (t : Nat) : Cell :=
  match s.slotColour t with
  | some k =>
    let c := SMap.get Cell.idle s.fab.ets (etsKey (1 - s.buffer) (t / 1280) k)
    if c.tag = .test then .idle else c
  | none => .idle

/-- The unit that the `w` external slots from `t` carry out. -/
def State.unitAt (s : State) (t w : Nat) : SUnit :=
  let cs := (List.range w).map fun i => s.slotCell (t + i)
  match (cs.headD .idle).tag with
  | .empty => .emptyU
  | .word => if cs.all fun c => c.tag.carries then ⟨.word, cs.map Cell.data, none⟩ else .aisU
  | .tpoa => if cs.all fun c => c.tag.carries then ⟨.tpoa, cs.map Cell.data, none⟩ else .aisU
  | _ => .aisU

/-! ## Generators (R131 to R136, R449) -/

/-- Port `p` sends traffic frames: its transmitter is on, in traffic role, and no return to START interrupts its traffic
(R94, R136; log entry 81). -/
def State.sendsTraffic (s : State) (p : Nat) : Bool :=
  (s.linkP p).txOn && s.lreg O.portRole p == 0 && (s.linkP p).carries

/-- The port of egress grain `a` does not send it in traffic frames (R89, R136). -/
def State.txOff (s : State) (a : Nat) : Bool :=
  let p := a / 1280
  !s.sendsTraffic p || (s.sendVer p == 1 && decide (640 ≤ a % 1280))

/-- Egress grain `a` is forced to AIS by the host, the mode or a fault of its port (R243, R422, R449). -/
def State.txForced (s : State) (a : Nat) : Bool :=
  s.sys.mode.forcesAis || s.octReg O.protPortFaulted 0 12 (a / 1280) || s.lreg O.grainTxForceAis a == 1

/-- Every egress grain that an unplaced branch feeds is AIS (R156). -/
def State.unplaced (s : State) (a : Nat) : Bool := s.octReg O.mapUnplaced 0 15360 a

/-- A unit of source `t` passes the digest tap of egress head `a` and reaches its generator, unless its port sends no
traffic frames; in round 1 the overflow word of the frame before follows it (R142), and an adjustment is pending
(R131). -/
def State.genArrive (s : State) (a t n : Nat) (off : Bool) : State :=
  let take (s : State) (u : SUnit) (d : Int) : State :=
    let s := s.tapOut a t u
    if off then s else s.setTx a (((s.txG a).arrive u).adjust d)
  let u := s.unitAt a (s.widthOut a)
  let s := take s u (if u.tag = .empty then -1 else 0)
  match SMap.find? s.fab.ovf t with
  | some (_, v) => if n = 1 then take s v 1 else s
  | none => s

/-- Words of followers whose PJO stands in a later round than the head's leave as many rounds later (R99). -/
def State.genStraddle (s : State) (a ver n n0 : Nat) : State :=
  let x := s.txG a
  let late (i : Nat) : Nat := pjoN ver (a % 1280 + i) - n0
  if !s.majorOut a || (List.range 8).all (fun i => late i == 0) then s
  else
    let h := (x.out :: x.hist).take 46
    let word (i : Nat) : Word := ((h.getD (late i) [])[i]?).getD (s.uneqWord (a + i) n)
    s.setTx a { x with hist := h, out := (List.range 8).map word }

/-- The NJO words of egress head `a` take their places in the frame (R55, R92). -/
def State.njoOut (s : State) (a ver : Nat) : State :=
  let p := a / 1280
  let q := s.linkQ p
  let njo := (s.txG a).njo
  let put (m : List (Nat × Word)) (i : Nat) : List (Nat × Word) :=
    SMap.set (0 : Word) m (njoAt ver (a % 1280 + i)) (njo.getD i 0)
  s.setLinkQ p { q with ovh := (List.range (s.widthOut a)).foldl put q.ovh }

/-- The generator of egress head `a` in round `n` while its port sends no traffic frames: held in UNEQ (R136); frames go
by for the spacing of R113. -/
def State.genOff (s : State) (a n ver : Nat) : State :=
  let k := (s.txG a).since
  let s := s.setTx a { TxG.init with since := if slotRound ver (a % 1280) = n then k - 1 else k }
  s.setReg O.grainTxState a 0

/-- What a commit boundary of this frame did to the source of egress head `a`: the generator itself follows in round
2, a slot in rounds 0 and 1 sees it before (Table 4-6 step 6, R134). -/
def State.bndOf (s : State) (a : Nat) : Nat :=
  match SMap.find? s.fab.entries a with
  | some c => c
  | none => (s.txG a).bnd

/-- The generator of egress head `a` in round `n`. A unit on external slots 0 to 3 arrives in the cycle in which the
round's pointers are fixed (R139, R516). -/
def State.genRound (s : State) (n a : Nat) : State :=
  let g := a % 1280
  let ver := s.sendVer (a / 1280)
  let n0 := pjoN ver g
  let src := SMap.find? s.fab.cur.src a
  let off := s.txOff a
  let arrive (s : State) : State :=
    match src with
    | some t => s.genArrive a t n off
    | none => s
  let slot (s : State) : State :=
    if slotRound ver g = n && (SMap.find? s.fab.resized (a / 8)).isNone then
      (s.genSlot a n n0 (s.txForced a || s.unplaced a) (s.bndOf a) src.isSome).ptrOut a
    else s
  if off then (arrive s).genOff a n ver
  else
    let s := if g < 4 then slot (arrive s) else arrive (slot s)
    let s := (s.genWord a n n0).genStraddle a ver n n0
    let s := if n = n0 then s.njoOut a ver else s
    let x := s.txG a
    if src.isNone && s.reg O.grainTxState a == 0 && x.bnd == 0 && x.since == 0 && x.cont == 0 && !s.fab.newEts then
      s.setTx a .init
    else s

/-- Egress heads with a generator to run: those with a source, those that do something still, those that are forced
to AIS, and those whose source a boundary changes. -/
def State.txHeads (s : State) : List Nat :=
  let all (p : Nat) : List Nat :=
    if s.sendsTraffic p && (s.sys.mode.forcesAis || s.octReg O.protPortFaulted 0 12 p) then
      (List.range (roundPay (s.sendVer p))).map fun g => 1280 * p + g
    else []
  let forced := ((s.lentries O.grainTxForceAis).filter fun x => x.2 == 1).map Prod.fst
  let l := s.fab.cur.src.map Prod.fst ++ s.fab.entries.map Prod.fst ++ s.tx.map Prod.fst ++ forced ++
    (List.range 96).flatMap all
  ((l.filter fun a => !s.followerOut a).foldl (fun (m : SMap Unit) a => SMap.insert m a ()) []).map Prod.fst

/-- What a boundary does to the generator of egress head `a`, in round 2 (Table 4-6 step 6; `code` 1 a source was given,
2 changed, 3 removed). A slot that has passed in this frame has seen it. -/
def State.genBoundary (s : State) (a code : Nat) : State :=
  let x := s.txG a
  let passed := decide (slotRound (s.sendVer (a / 1280)) (a % 1280) ≤ 1)
  let y := { x.cleared with ptr := x.ptr, bnd := if passed then 0 else code }
  let s := if code = 3 then { s with prot := { s.prot with etaps := tapIdle s.prot.etaps a } } else s
  if s.txOff a then (s.setTx a .init).setReg O.grainTxState a 0
  else if s.txForced a then (s.setTx a { y with bnd := 0, cont := 1 }).setReg O.grainTxState a 1
  else if code = 3 then (s.setTx a { y with cont := 0 }).setReg O.grainTxState a 0
  else (s.setTx a { y with cont := if code = 2 then 1 else y.cont }).setReg O.grainTxState a 1

/-- The word that minor grain `a` sends in round `n`. -/
def State.txWord (s : State) (a n : Nat) : Nat :=
  let h := s.headOut a
  (((s.txG h).out[a - h]?).getD (s.uneqWord a n)).toNat

/-- The payload words of round `n` join the frame that port `p` sends; a version-2 port in Witness role sends those of
its stream (R232). -/
def State.sendRound (s : State) (n p : Nat) : State :=
  if !(s.linkP p).txOn then s
  else
    let q := s.linkQ p
    if q.ver = 2 && s.lreg O.portRole p = 1 then
      let r := witRound n q.wframe q.wtx
      s.setLinkQ p { q with pay := q.pay ++ [r.1], wtx := q.wtx.drop r.2.1, wframe := r.2.2 }
    else s.setLinkQ p { q with pay := q.pay ++ [(List.range (roundPay q.ver)).map fun g => s.txWord (1280 * p + g) n] }

/-- The slots of positions that take a new size and that stand in rounds 0 and 1 of the boundary's frame: their
generators start in AIS where a source is given, else in UNEQ. -/
def State.resizedSlots (s : State) (n : Nat) : State :=
  s.fab.resized.foldl (fun s m => foldRange 8 (fun s i =>
    let a := 8 * m.1 + i
    if s.txOff a || slotRound (s.sendVer (a / 1280)) (a % 1280) ≠ n then s
    else s.ptrField a (if s.txForced a || (SMap.find? s.fab.entries (s.head a)).isSome then 0xFFFF else 0)) s) s

/-- The egress side of a position takes its new size: its generators and taps start anew; the spacing of R113 stands. -/
def State.resizeOut (s : State) (m : Nat) : State :=
  let s := { s with prot := { s.prot with etaps := s.prot.etaps.filter fun x => x.1 / 8 != m } }
  foldRange 8 (fun s i =>
    let a := 8 * m + i
    let passed := decide (slotRound (s.sendVer (a / 1280)) (a % 1280) ≤ 1)
    let k := (s.txG a).since
    (s.setTx a { TxG.init with since := if passed then k - 1 else k }).setReg O.grainTxState a
      (if s.major a && i ≠ 0 then 3 else 0)) s

/-- The stages change configuration: ITS read maps and Lode selects in round 1, ETS read maps in round 2 (Table 4-6). -/
def State.newMaps (s : State) (n : Nat) : State :=
  let f := s.fab
  -- every entry is loaded again; one whose storage is at fault stays wrong (R421)
  let left (ets : Bool) : SMap EntW := f.wrong.filter fun x => x.2.stuck || (x.1 / 4096 % 16 == 2) != ets
  if n = 1 && f.newIts then
    { s with fab := { f with cur := { f.cur with its := f.shadow.its, sel := f.shadow.sel }, newIts := false
                             wrong := left false } }
  else if n = 2 && f.newEts then
    let s := { s with fab := { f with cur := { f.cur with ets := f.shadow.ets, src := f.shadow.src }, newEts := false
                                      entries := [], resized := [], wrong := left true } }
    let s := f.resized.foldl (fun s m => s.resizeOut m.1) s
    f.entries.foldl (fun s x => s.genBoundary x.1 x.2) s
  else s

/-! ## The Egress Time Stage's write side (R145, R147, R412) -/

/-- The DATA of the TEST word that ingress port `i` sends in colour `k` of round `n` of frame `f` (Table 12-3). -/
def testData (i k n f : Nat) : Word :=
  BitVec.ofNat 48 (i * 2 ^ 41 + k / 384 * 2 ^ 37 + k % 384 * 2 ^ 28 + n * 2 ^ 19 + f % 65536 * 8 + 5)

/-- The path under test (R419). -/
def State.pathNow (s : State) : Option XPt :=
  match s.asyRun 1 with
  | some t =>
    let n := s.pathRes t % 2 ^ 44
    if t.res / 2 ^ 44 = 2 && t.phase ≠ 0 && t.phase < 6 then some ⟨n / 65536, n / 256 % 256, n % 256⟩ else none
  | none => none

/-- The ITS and the Lodes carry TEST words in idle colours of Lode `l` (R411, Table 4-2); in a warm spare, of every Lode
(R261). They pause while the Lode has a targeted test (R426). -/
def State.testLode (s : State) (l : Nat) : Bool :=
  bit (s.reg O.assayEnable) 0 && (decide (s.lreg O.fabricLodeState l ≤ 1) || s.warmSpare) &&
    s.background 1 && !s.underTest (resOf 1 l)

/-- What the ITS read map of port `i` names for colour `k`, and the select table for egress port `e` (R143, R144). -/
def State.itsEntry (s : State) (i k : Nat) : Option Nat :=
  s.entHolds i 0 k 1280 (SMap.find? s.fab.cur.its (i * 3840 + k))
def State.selAssigned (s : State) (k e : Nat) : Option Nat := SMap.find? s.fab.cur.sel (k * 96 + e)

/-- Colour `k` is idle at both ports of the path under test (R419). -/
def State.pathColour (s : State) (x : XPt) (k : Nat) : Bool :=
  x.lode == k / 384 && (s.selAssigned k x.e).isNone && (s.itsEntry x.i k).isNone

/-- What the ITS of ingress port `i` sends in colour `k` of round `n`: the entry of the external slot that its read map
names, written in the round before; else a TEST word or IDLE (R143, R411, R419). -/
def State.itsSends (s : State) (n i k : Nat) : Cell :=
  match s.itsEntry i k with
  | some t => SMap.get Cell.idle s.fab.its (itsKey (1 - s.buffer) (1280 * i + t))
  | none =>
    let path := match s.pathNow with
      | some x => x.i == i && s.pathColour x k
      | none => false
    if s.testLode (k / 384) || path then Cell.mk' .test (testData i k n s.clk.fsn) else .idle

/-- What an idle select entry of colour `k` for egress port `e` is loaded with: the port of the path under test, or the
port whose turn it is to be tested (R411, R419). -/
def State.selIdle (s : State) (k e : Nat) : Option Nat :=
  let turn := if s.testLode (k / 384) then some ((e + s.clk.fsn % 96) % 96) else none
  match s.pathNow with
  | some x => if x.e = e && s.pathColour x k then some x.i else turn
  | none => turn

/-- The select entry of colour `k` for egress port `e`: an ingress port, or none, 0x7F (R144). -/
def State.selEntry (s : State) (k e : Nat) : Option Nat :=
  s.entHolds e 1 k 96 (match s.selAssigned k e with
    | some i => some i
    | none => s.selIdle k e)

/-- A word that a Lode has disturbed; a TAG turned to a code that Table 4-1 does not give stays as it was. -/
def Cell.hit (c : Cell) (m : Nat) : Cell :=
  let tag := match c.tag.code ^^^ m / 2 ^ 49 % 8 with
    | 0 => .idle | 1 => .empty | 2 => .word | 3 => .tpoa | 4 => .ais | 5 => .test | _ => c.tag
  ⟨tag, c.data ^^^ BitVec.ofNat 48 m, c.par ^^ m.testBit 48⟩

/-- The word that egress port `e` receives in colour `k` of round `n`. -/
def State.lodeWord (s : State) (io : RoundIn) (n e k : Nat) : Cell :=
  let c := match s.selEntry k e with
    | some i => s.itsSends n i k
    | none => .idle
  (io.hits.filter fun x => x.1 == e && x.2.1 == k).foldl (fun c x => c.hit x.2.2) c

/-- The colours of an egress port in which something other than IDLE may come: those that the select tables assign,
those of Lodes that carry TEST words, and those of words disturbed. -/
def State.etsColours (s : State) (io : RoundIn) : List (Nat × Nat) :=
  let ls := (List.range 10).filter fun l => s.testLode l || (match s.pathNow with
    | some x => x.lode == l
    | none => false)
  s.fab.cur.sel.map (fun x => (x.1 % 96, x.1 / 96)) ++
    (List.range 96).flatMap (fun e => ls.flatMap fun l => (List.range 384).map fun c => (e, 384 * l + c)) ++
    (io.hits.map fun x => (x.1, x.2.1)).filter fun x => decide (x.1 < 96) && decide (x.2 < 3840)

/-- The words that the Lodes bring to the ETS in round `n`. -/
def State.etsWrite (s : State) (io : RoundIn) (n : Nat) : SMap Cell :=
  (s.etsColours io).foldl (fun m x => SMap.insert m (etsKey 0 x.1 x.2) (s.lodeWord io n x.1 x.2)) []

/-- `f` runs once per frame for a kind of error and a resource (R147, R412). -/
def State.onceFrame (s : State) (kind res : Nat) (f : State → State) : State :=
  if s.fab.seen.contains (kind, res) then s
  else f { s with fab := { s.fab with seen := (kind, res) :: s.fab.seen } }

def xptRes (x : XPt) : Nat := resOf 2 (x.i * 65536 + x.lode * 256 + x.e)

/-- A word fails parity at the ETS write side, and is delivered unchanged (R147). -/
def State.parityFail (s : State) (x : XPt) : State :=
  let s := s.bump O.fabricSlotParityErr x.lode 32
  (s.onceFrame 3 (xptRes x) fun s => s.assayError 3 (xptRes x)).raiseLim 388 x.lode (msTicks 1)

/-- A TEST word differs (R412); the check of a crosspoint under a targeted test is that test's (R426). -/
def State.testFail (s : State) (x : XPt) : State :=
  (s.onceFrame 4 (xptRes x) fun s => s.assayError 4 (xptRes x)).raiseLim 395 x.lode (msTicks 1)

/-- The TEST word of crosspoint `x` is checked: not while a targeted test of it pauses the check (R426), but for the
path that the test is on. -/
def State.testChecked (s : State) (x : XPt) : Bool := s.pathNow == some x || !s.underTest (xptRes x)

/-- The word received in colour `k` by egress port `e`, whose select entry is `sel`, is checked at the ETS write side:
its parity (R147), and a TEST word against what the select entry, the Lode, the cycle, the round and the FSN say (R412).
-/
def State.etsCheck (s : State) (n e k : Nat) (sel : Option Nat) (c : Cell) : State :=
  match sel with
  | none => s
  | some i =>
    let x : XPt := ⟨i, k / 384, e⟩
    let odd := (popCount 3 c.tag.code + popCount 48 c.data.toNat + b2n c.par) % 2 == 1
    let s := if odd then s.parityFail x else s
    if c.tag = .test && s.testChecked x then
      (if c.data = testData i k n s.clk.fsn then s else s.testFail x).tally 92 1
    else s

/-- Every entry is used in each round: one whose parity fails is an error at each use (R420). -/
def State.entUse (s : State) : State :=
  s.fab.wrong.foldl (fun s x => if x.2.par then (s.raise 396).assayError 5 (resOf 3 x.1) else s) s

/-- The port whose maps the running audit compares (R421). -/
def State.auditPort (s : State) : Option (TestT × Nat) :=
  match s.asyRun 1 with
  | some t =>
    let n := t.res % 2 ^ 44
    if t.res / 2 ^ 44 = 3 then some (t, n / 65536) else if t.res / 2 ^ 44 = 8 then some (t, n) else none
  | none => none

/-- The 8,960 cycles of a map audit are over: the differing entries of the port are rewritten as this round starts
(R421). -/
def State.auditRound (s : State) : State :=
  match s.auditPort with
  | some (t, p) =>
    if t.phase = 1 && s.tests 1 && s.elapsed t.since auditTicks then
      let found := (s.fab.wrong.filter fun x => x.1 / 65536 == p).map Prod.fst
      let s := { s with fab := { s.fab with wrong := s.fab.wrong.filter fun x => x.1 / 65536 != p || x.2.stuck } }
      s.testNext 1 { t with phase := if found.isEmpty then 2 else 4, fails := found, since := s.tick }
    else s
  | none => s

/-- A data-plane owner reads a bank word with an error (R325); an uncorrectable word is released as read (R205). -/
def State.bankFail (s : State) (x : Nat × Nat × Nat) : State :=
  let o := s.reg O.memBankOwner x.1 % 16
  if x.1 < 256 && x.2.1 < 65536 && ownerSkewed o then
    let r := eccDec (x.2.2 % 2 ^ 55)
    if r.bad then
      (s.bankErr x.1 x.2.1 r).spoil (fun l => o == 1 || (s.lreg O.groupMedia l.ctx == 0 &&
        ((s.ctx l.ctx).kind == 1) == (o == 3))) (o == 1)
    else (s.bankRead x.1 x.2.1 x.2.2).1
  else s

/-- The whole frames of a TSN have left the fabric wrong on an egress port: the XOR of their digests differs (R225). -/
def State.misroute (s : State) (x : Nat × Nat × Nat) : State :=
  if x.1 < 96 && s.digested x.1 then (s.foldRec 2 x.1 x.2.1 x.2.2 0).foldRec 1 x.1 x.2.1 0 0 else s

/-- The faults that words and entries of the round meet. -/
def State.roundFaults (s : State) (io : RoundIn) : State :=
  let s := (io.entries.foldl (fun s x => s.entHit x) s.auditRound).entUse
  let s := io.ddrErr.foldl (fun s x => if s.sys.fabOn then (s.ddrBeat x.1 x.2 false).1 else s) s
  let s := io.bankErr.foldl (fun s x => s.bankFail x) s
  io.misroute.foldl (fun s x => s.misroute x) s

/-! ## The group stage and the Ingress Time Stage's write side (R141, R143) -/

/-- Ingress heads whose carried stream is followed. -/
def State.rxHeads (s : State) : List Nat :=
  let maps := s.fab.cur.branches ++ if s.fab.newIts then s.fab.shadow.branches else []
  let l := s.rx.map Prod.fst ++ s.grp.lines.map Prod.fst ++ maps.map fun b => s.head b.s
  ((l.filter fun a => !s.follower a).foldl (fun (m : SMap Unit) a => SMap.insert m a ()) []).map Prod.fst

/-- Port `p` has been stopped: it writes nothing into the ITS (R483). -/
def State.portStopped (s : State) (p : Nat) : Bool := s.reg O.portEnable p == 0 && !(s.linkP p).stopPending

/-- Grain `a` in round `n`: lane pass, elastic store, group stage, ingress tap and ITS. `k` word times elapse; the
second part collects the entries. -/
def State.grainRound (s : State) (cells : SMap Cell) (n a k : Nat) : State × SMap Cell :=
  let s := s.esTake a k
  let r := s.esRead a n
  let us := if s.assayFaulted (a / 1280) then [SUnit.aisU] else r.2
  let s := r.1.esNote a n us
  let o := s.groupOut a n us
  let o := if s.portStopped (a / 1280) then (o.1, []) else o
  let o := if o.2.isEmpty then ({ o.1 with prot := { o.1.prot with taps := tapIdle o.1.prot.taps a } }, o.2) else o
  let s := o.2.foldl (fun s u => s.tapIn a u) o.1
  let cells := match o.2 with
    | u :: _ => (cellsOf a (s.width a) u).foldl (fun m c => SMap.insert m c.1 c.2) cells
    | [] => cells
  match o.2 with
  | _ :: v :: _ =>
    if v.tag.carries then ({ s with fab := { s.fab with ovf := SMap.insert s.fab.ovf a (s.clk.fsn, v) } }, cells)
    else (s, cells)
  | _ => (s, cells)

/-- Word times of port `p` in the round. -/
def takeOf (io : RoundIn) (p : Nat) : Nat :=
  match io.take.find? fun x => x.1 == p with
  | some x => x.2
  | none => 1

/-- The entries written into the ITS in round `n`. -/
def State.itsWrite (s : State) (io : RoundIn) (n : Nat) : State × SMap Cell :=
  let s := if n = 404 then s.grp.ctxs.foldl (fun s x => s.ctxStep x.1) { s with fab := { s.fab with ovf := [] } } else s
  let r := s.rxHeads.foldl (fun (r : State × SMap Cell) a => r.1.grainRound r.2 n a (takeOf io (a / 1280))) (s, [])
  (if n = 404 then r.1.captures else r.1, r.2)

/-! ## Slot accounting (R436, R437, Table 13-3) -/

/-- Egress grain `a` is squelched; a major grain is forced by its head's element (R116). -/
def State.squelched (s : State) (a : Nat) : Bool := s.txOff a || s.txForced (s.headOut a)

/-- The class of a branch's slot: 0 DELIVERED, 1 WASTED, 2 STARVED_IN, 3 STARVED_OUT. `read` is the ETS read map of its
epoch, `old` that the epoch is one that ends, `ets` what the ETS writes in this round. -/
def State.slotClass (s : State) (read : SMap Nat) (old : Bool) (ets : SMap Cell) (b : Br) : Nat :=
  let st := s.lreg O.fabricLodeState (b.k / 384)
  let fed := (read.filter fun x => x.1 / 1280 == b.e && x.2 == b.k).map Prod.fst
  let t := (SMap.get Cell.idle ets (etsKey 0 b.e b.k)).tag
  if (st ≠ 0 && !(old && st ≠ 3)) || s.reg O.grainRxState (s.head b.s) = 3 then 1
  else if fed.all fun a => s.squelched a then 3
  else if t.carries then 0 else 2

/-- The class counters and counter 0 rise together by the round's totals, in its last cycle; their overflows are sampled
after that (R437, R444). -/
def State.countSlots (s : State) (n : Nat) (ets : SMap Cell) : State :=
  if !s.tal.on then s
  else
    let old := decide (n = 0) && s.fab.newIts
    let read := if n ≠ 0 && s.fab.newEts then s.fab.shadow.ets else s.fab.cur.ets
    let cl := s.fab.cur.branches.map fun b => (b.k / 384, b.e, s.slotClass read old ets b)
    let tot (f : Nat × Nat × Nat → Bool) (all c : Nat) : Nat :=
      let mine := cl.filter f
      (mine.filter fun x => x.2.2 == c).length + (if c = 1 then all - mine.length else 0)
    let sum (i : Nat) : Nat :=
      if i = 0 then 1
      else if i ≤ 4 then tot (fun _ => true) 368640 (i - 1)
      else if i ≤ 49 then tot (fun x => x.1 == (i - 10) / 4) 36864 ((i - 10) % 4)
      else tot (fun x => x.2.1 == (i - 96) / 7) 3840 ((i - 96) % 7)
    let r := foldRange 768 (fun (r : State × List Nat) i =>
      if classCounter i then
        let q := r.1.counted i (sum i)
        (q.1, if q.2 = 0 then r.2 else r.2 ++ [i])
      else r) (s, [])
    r.2.foldl (fun s i => if s.octReg O.tallyOvfEn 0 96 i then s.talSample i else s) r.1

/-! ## Threshold counters (R438, Table 13-4) -/

/-- Occupancy of the source that TALLY.THR_SEL names; of the solver queue the most it can be. -/
def State.occupancy (s : State) (sel : Nat) : Nat :=
  let k := bits sel 47 40
  let i := sel % 2 ^ 40
  if k = 1 then (if i < 122880 then (s.rxG (s.head i)).fill * s.width i else 0)
  else if k = 2 then
    match SMap.find? s.grp.lines i with
    | some l => l.buf.foldl (fun n x => n + x.ws.length) 0
    | none => 0
  else if k = 3 then (if s.solving then (branchesOf s.majorPend s.shadowSrc).length else 0)
  else if k = 4 then (if i < 8 then (s.waitingAt i).length else 0)
  else if k = 5 then s.tal.waiting.length
  else 0

/-- A round's cycles in the clock of a source: 192 MCLK cycles for the matrix, else 384 FCLK cycles. -/
def thrCycles (sel : Nat) : Nat := if bits sel 47 40 = 4 then 192 else 384

/-- How far an occupancy can leave, within a round, what it is at the round's start and end: a store or a line takes up
to two units of eight words and gives as many; the branches that await placement are not fixed at all. -/
def thrSlack (sel most : Nat) : Nat :=
  let k := bits sel 47 40
  if k = 1 || k = 2 then 16 else if k = 3 then most else 0

/-- The threshold counters after a round that began in `old` (R438): all cycles count, or none, where the occupancy
stays on one side of the threshold; else how many do is a free value (log entry 6). -/
def State.thresholds (s old : State) : State :=
  (foldRange 16 (fun s j =>
    let sel := s.reg O.tallyThrSel j
    let n := s.reg O.tallyThrN j
    let a := old.occupancy sel
    let b := s.occupancy sel
    let w := thrSlack sel (max a b)
    if max a b + w ≤ n then s
    else if n < min a b - w then s.tally (50 + j) (thrCycles sel)
    else s.tally (50 + j) (Config.free 7 (16 * s.freeCtr + j) % (thrCycles sel + 1))) s).freeTaken

/-! ## Random tagging (R439, R440) -/

/-- One step of the LFSR with x^32 + x^22 + x^2 + x + 1 (log entry 19). -/
def lfsrStep (x : Nat) : Nat :=
  let y := 2 * x % 2 ^ 32
  if x.testBit 31 then y ^^^ 0x00400007 else y

/-- The eligible words of a round in the order of R439: (cycle, grain). -/
def eligible (cells : SMap Cell) : List (Nat × Nat) :=
  let m := cells.foldl (fun (m : SMap Nat) x =>
    let g := x.1 % 1280
    if x.2.tag.carries then SMap.insert m (((g / 4) * 96 + x.1 / 1280) * 4 + g % 4) x.1 else m) []
  m.map fun x => (x.1 / 384, x.2)

/-- A tagged word of grain `a` sets out at cycle `c` of round `n`. -/
def State.tagWord (s : State) (cells : SMap Cell) (n c a : Nat) : State :=
  let map := if s.fab.newIts then s.fab.shadow else s.fab.cur
  let read := if s.fab.newEts then s.fab.shadow.ets else s.fab.cur.ets
  let br := (map.branches.filter fun b => b.s == a).foldl (fun (m : Option Br) b =>
    match m with
    | some x => if b.e < x.e then some b else m
    | none => some b) none
  let dst := match br with
    | some b => ((read.find? fun x => x.1 / 1280 == b.e && x.2 == b.k).map Prod.fst).getD 0xFFFFFF
    | none => 0xFFFFFF
  let at_ := s.clk.base + 96 * n + (c + 2) / 4
  -- a tick is four cycles; both delays count from the nearest tick to the nearest tick (R139, R143, R146)
  let after (rounds cyc : Nat) : Nat := s.clk.base + 96 * (n + rounds) + (cyc + 2) / 4 - at_
  let w : TagW :=
    { tag := s.tal.nextTag, src := a, dst := dst, lode := br.map fun b => b.k / 384,
      code := (SMap.get Cell.idle cells a).tag.code, round := n, fsn := s.clk.fsn, tick := at_,
      sps := br.map fun b => after 1 (b.k % 384),
      ets := if dst = 0xFFFFFF then none else some (after 2 (dst % 1280 / 4)) }
  { s with tal := { s.tal with nextTag := s.tal.nextTag + 1, flights := s.tal.flights ++ [w] } }

/-- The words of a round are tagged at random; at most one in a cycle, any other is lost (counter 8). -/
def State.tagRound (s : State) (cells : SMap Cell) (n : Nat) : State :=
  let s := if s.tal.reload then { s with tal := { s.tal with lfsr := s.reg O.tallyTagSeed, reload := false } } else s
  let k := s.reg O.tallyTagK
  if k = 0 then s
  else ((eligible cells).foldl (fun (r : State × Nat) x =>
    let l := lfsrStep r.1.tal.lfsr
    let s := { r.1 with tal := { r.1.tal with lfsr := l } }
    if l % 2 ^ k ≠ 0 then (s, r.2)
    else if r.2 = x.1 + 1 then (s.tally 8 1, r.2)
    else (s.tagWord cells n x.1 x.2, x.1 + 1)) (s, 0)).1

/-! ## The trace (R441) -/

/-- The record at a position is stored, and whether it was: not where its bank has left TALLY (R330) or a channel of it
does not serve (Table 15-6). -/
def State.tracePut (s : State) (i : Nat) (r : List Byte) : State × Bool :=
  if s.tal.dest = 0 then
    match s.tal.banks[i / 13107]? with
    | none => (s, false)
    | some b =>
      let q := s.traceOpen b
      if !q.2 then q
      else ((foldRange 5 (fun s k => s.bankPut b (5 * (i % 13107) + k) (fld r (6 * k) 6)) q.1).tally 72 5, true)
  else
    let o := s.tal.base + 30 * i
    let serves (o : Nat) : Bool := s.reg O.memDdrChState (o / 256 % 4) == 2
    if serves o && serves (o + 29) then
      ((s.ddrWrite o (r.map fun b => (b, true))).tally 77 (unitsOf o 30).2, true)
    else (s, false)

/-- A record enters the run. -/
def State.traceAppend (s : State) (r : List Byte) : State :=
  let n := s.reg O.tallyTraceCount
  let q := s.tracePut (n % s.tal.cap) r
  let s := q.1
  if !q.2 then s.tally 8 1
  else
    let s := (s.bump O.tallyTraceCount 0 48).tally 7 1
    if s.tal.wrap then (if s.tal.cap ≤ n then s.setReg O.tallyTraceOldest 0 ((n + 1) % s.tal.cap) else s)
    else if n + 1 = s.tal.cap then s.traceEnd 2 else s

/-- Up to `n` waiting records of the run are written, oldest first. -/
def State.traceWrite (s : State) (n : Nat) : State :=
  foldRange n (fun s _ =>
    match s.tal.waiting with
    | r :: l => if s.tal.run then { s with tal := { s.tal with waiting := l } }.traceAppend r else s
    | [] => s) s

/-- What the trace writes in a round: at most the 8 Gbit/s of R344, 10 records; how many is a free value (log entry 6).
A run that ends first writes what waits (log entry 73). -/
def State.traceRound (s : State) : State :=
  if s.tal.ending then (s.traceWrite 64).traceEnd 0
  else if s.tal.waiting.isEmpty then s
  else (s.traceWrite (s.freeVal 21 % 11)).freeTaken

/-! ## The round -/

/-- Accesses of the data plane to banks and DDR4 in a round, of which the spec gives no number (log entry 6). -/
def State.dataAccesses (s : State) : State :=
  if s.grp.lines.isEmpty then s
  else
    let f (k : Nat) : Nat := s.freeVal k % 98305
    (((s.tally 72 (f 3)).tally 76 (f 4)).tally 77 (f 5)).freeTaken

/-- The first part of a round: maps that change, what the generators and the ports send, and the faults that words and
entries of the round meet. -/
def State.roundHead (s : State) (io : RoundIn) (n : Nat) : State :=
  let s := s.traceRound.solveBusy
  let s := (s.newMaps n).resizedSlots n
  let s := foldRange 96 (fun s p => s.sendRound n p) (s.txHeads.foldl (fun s a => s.genRound n a) s)
  s.roundFaults io

/-- The words that reach the ETS are checked, each by the entry that brought it. -/
def State.etsChecks (s : State) (n : Nat) (ets : SMap Cell) : State :=
  ets.foldl (fun t x =>
    t.etsCheck n (x.1 / 3840) (x.1 % 3840) (s.selEntry (x.1 % 3840) (x.1 / 3840)) x.2) s

/-- A round buffer of `n` entries from `k` on takes the entries of a round. -/
def SMap.putSpan {V : Type} (m new : SMap V) (k n : Nat) : SMap V :=
  new.foldl (fun m x => SMap.insert m (k + x.1) x.2) (SMap.clearSpan m k n)

/-- The buffers of ITS and ETS that the round writes take its entries (R143, R145). -/
def State.putBuffers (s : State) (its ets : SMap Cell) : State :=
  let b := s.buffer
  { s with fab := { s.fab with its := SMap.putSpan s.fab.its its (itsKey b 0) 122880
                               ets := SMap.putSpan s.fab.ets ets (etsKey b 0 0) 368640 } }

/-- Round `n` of the fabric. -/
def State.fabricRound (s : State) (io : RoundIn) (n : Nat) : State :=
  let old := if n = 0 then s.cutCapture else s
  let s := old.roundHead io n
  let ets := s.etsWrite io n
  let w := (s.etsChecks n ets).itsWrite io n
  let s := w.1.putBuffers w.2 ets
  let s := foldRange 96 (fun s p =>
    s.tally (96 + 7 * p + 4) (w.2.filter fun x => x.1 / 1280 == p && x.2.tag.carries).length) s
  (((s.tagRound w.2 n).dataAccesses).thresholds old).countSlots n ets

/-- ROUND_START: the next of the frame's 405 rounds (R138); the rounds pass while the fabric island is off. -/
def State.roundStart (s : State) (io : RoundIn) : State :=
  let n := s.clk.round
  if 405 ≤ n then s
  else
    let s := if s.sys.fabOn then s.fabricRound io n else s
    { s with clk := { s.clk with round := n + 1 } }

def execRoundStart (io : RoundIn) (s : State) : Host.Outcome State Fault Refusal := s.run fun s => s.roundStart io

end Sys2Proof.Machine
end

