-- ==== Sys2Proof/Machine/Tally.lean ====
section
/-! DEFINITION. Tally: presets, random tagging, the trace and the sample records (chapter 13). -/

namespace Sys2Proof.Machine

/-! ## Presets (R443, R445) and tagging (R439) -/

/-- TALLY.PRESET. -/
def presetOp (i v : Nat) (s : State) : State × Nat :=
  if classCounter i then (s, 0x0203)
  else ({ s with tal := { s.tal with count := SMap.set 0 s.tal.count i v } }, 0)

/-- TALLY.TAG_K and TALLY.TAG_SEED: the LFSR is loaded at the next round start. -/
def tagOp (idx v : Nat) (s : State) : State × Nat :=
  ({ (s.setReg idx 0 v) with tal := { s.tal with reload := true } }, 0)

/-! ## The trace (R440 to R442) -/

/-- Bytes of the trace region that the fitted DDR4 holds, and its offset (R342). -/
def State.traceBase (s : State) : Nat := s.reg O.memDdrLsSize * 2 ^ 20
def State.traceBytes (s : State) : Nat :=
  min (s.reg O.memDdrTraceSize * 2 ^ 20) (s.reg O.memDdrSize * 2 ^ 30 - s.traceBase)

/-- Records that the destination has room for. -/
def State.traceRoom (s : State) : Nat :=
  min 16777216 (if s.reg O.tallyTraceDest = 0 then 13107 * (s.ownerBanks 6).length
    else if s.reg O.memDdrState = 3 then s.traceBytes / 30 else 0)

/-- TALLY.TRACE_CTRL = 1 or 2. -/
def traceStartOp (h : Nat) (wrap : Bool) (s : State) : State × Nat :=
  let cap := s.traceRoom
  if cap = 0 then (s, 0x0310)
  else if s.tal.run || !s.tokFree 6 h then (s, 0x0402)
  else
    let tal := { s.tal with run := true, wrap := wrap, ending := false, dest := s.reg O.tallyTraceDest,
                            banks := s.ownerBanks 6, base := s.traceBase, cap := cap }
    let s := ({ s with tal := tal }).actStart 6 h
    (((s.setReg O.tallyTraceState 0 1).setReg O.tallyTraceCount 0 0).setReg O.tallyTraceOldest 0 0, 0)

/-- TALLY.TRACE_CTRL = 3: the run ends at the next round start (Table 15-3). -/
def traceStopOp (s : State) : State × Nat :=
  (if s.tal.run then { s with tal := { s.tal with ending := true } } else s, 0)

/-- What a write of `v` to TALLY.TRACE_CTRL does. -/
def traceCtrlOp (h v : Nat) (s : State) : State × Nat :=
  if v = 1 then traceStartOp h true s else if v = 2 then traceStartOp h false s else traceStopOp s

/-- TALLY.TRACE_DEST. -/
def traceDestOp (v : Nat) (s : State) : State × Nat :=
  if s.tal.run then (s, 0x0402) else (s.setReg O.tallyTraceDest 0 v, 0)

/-- A record of Table 13-5. What a word that no branch carries shows in the delays of the fabric and as Lode is stated
nowhere: the operands `dSps` and `dEts`, and a free value (log entry 6). -/
def State.traceRec (s : State) (x : TagW) (dRx dSps dEts dSer : Nat) : List Byte :=
  let lode := x.lode.getD (s.freeVal 20 % 16)
  toBytes 6 x.tick ++ toBytes 4 dRx ++ toBytes 2 (x.sps.getD dSps) ++ toBytes 2 (x.ets.getD dEts) ++
    toBytes 2 dSer ++ toBytes 3 x.src ++ toBytes 3 x.dst ++ toBytes 1 (16 * lode + 2 * x.code) ++ toBytes 2 x.round ++
    toBytes 3 x.fsn ++ toBytes 2 0

/-- A tagged word has left the serializer, or its 65,535 ticks are over: its record joins the queue of the run; one that
finds 64 waiting is counted in counter 8 (R440, R441). -/
def State.traceRecord (s : State) (tag dRx dSps dEts dSer : Nat) : State :=
  match s.tal.flights.find? fun x => x.tag == tag with
  | none => s
  | some x =>
    let sent := x.dst ≠ 0xFFFFFF && dSer < 65535 && s.elapsed x.tick dSer
    if !sent && !s.elapsed x.tick 65535 then s
    else
      let s := { s with tal := { s.tal with flights := s.tal.flights.filter fun y => y.tag != tag } }
      if !s.tal.run then s
      else if 64 ≤ s.tal.waiting.length then s.tally 8 1
      else
        let r := s.traceRec x dRx dSps dEts (if sent then dSer else 0xFFFF)
        ({ s with tal := { s.tal with waiting := s.tal.waiting ++ [r] } }).freeTaken

/-- TALLY.TRACE_DATA: a position that the run has not written reads zero. -/
def State.traceRead (s : State) (i : Nat) : State × List Byte :=
  if min (s.reg O.tallyTraceCount) s.tal.cap ≤ i then (s, toBytes 30 0)
  else if s.tal.dest = 0 then
    match s.tal.banks[i / 13107]? with
    | none => (s, toBytes 30 0)
    | some b =>
      let q := s.traceOpen b
      if !q.2 then (q.1, toBytes 30 0)
      else foldRange 5 (fun (r : State × List Byte) k =>
        let x := r.1.bankRead b (5 * (i % 13107) + k) 0
        (x.1.tally 72 1, r.2 ++ toBytes 6 x.2.d)) (q.1, [])
  else
    let q := s.ddrRead (s.tal.base + 30 * i) 30 0
    (q.1.tally 76 (unitsOf (s.tal.base + 30 * i) 30).2, q.2.1)

/-! ## Reads (R435, R444, R446) -/

/-- Counter `i` sampled `c` cycles after the start of the round that runs: value and stamp. Within this round the
counter shows its value; what occurs in later rounds of a bulk read is a free value, but for the rounds (log entry 13).
-/
def State.countAt (s : State) (i c : Nat) : List Byte :=
  let v := if i = 0 then s.roundsAt c
    else if c < 383 || !s.tal.on then SMap.get 0 s.tal.count i
    else Config.free 27 (s.freeCtr * 1024 + i) % 2 ^ 48
  toBytes 6 v ++ toBytes 6 (s.talStamp c)

/-- The cycle of the round in which a read samples its first counter, a free value. -/
def State.readCycle (s : State) : Nat := s.freeVal 26 % 383

/-- A read of TALLY.COUNT: one sample (R446). -/
def State.countRead (s : State) (i : Nat) : State × List Byte := (s.freeTaken, s.countAt i s.readCycle)

/-- A bulk read of TALLY.COUNT: samples in order, eight FCLK cycles apart with the matrix free, and at most 2 us (2,488
cycles) apart otherwise (R446). -/
def State.countRange (s : State) (t : Tgt) (k n : Nat) : State × List Byte :=
  let r := foldRange n (fun (r : Nat × List Byte) i =>
    let gap := if s.mtx.txns.isEmpty then 8 else Config.free 28 (s.freeCtr * 1024 + i) % 2488 + 1
    (r.1 + gap, r.2 ++ s.countAt (t.elem (k + i)) r.1)) (s.readCycle, [])
  (s.freeTaken, r.2)

def State.samplesRead (s : State) (w : Who) (first count : Nat) : State :=
  let c := logGate s w O.tallySamples 64 first count
  if c ≠ 0 then s.answer c
  else
    let r := logTake s.tal.samples 32 first count
    (({ s with tal := { s.tal with samples := r.2 } }).give r.1).answer 0

/-! ## The commands -/

def State.writePreset (s : State) (w : Who) (i v : Nat) : State := s.write w O.tallyPreset i v (presetOp i v)
def State.writeTag (s : State) (w : Who) (idx v : Nat) : State := s.write w idx 0 v (tagOp idx v)
def State.writeTraceCtrl (s : State) (w : Who) (v : Nat) : State :=
  s.write w O.tallyTraceCtrl 0 v (traceCtrlOp (holderOf w) v)

/-- A write to an object of Tally (0x7E00 to 0x7FFF). -/
def State.writeTallyObj (s : State) (w : Who) (idx e v : Nat) : State :=
  if idx = O.tallyPreset then s.writePreset w e v
  else if idx = O.tallyTagK || idx = O.tallyTagSeed then s.writeTag w idx v
  else if idx = O.tallyTraceDest then s.write w idx e v (traceDestOp v)
  else if idx = O.tallyTraceCtrl then s.writeTraceCtrl w v
  else s.write w idx e v (store idx e v)

def execTraceRecord (tag dRx dSps dEts dSer : Nat) (s : State) : Host.Outcome State Fault Refusal :=
  s.run fun s => s.traceRecord tag dRx dSps dEts dSer
def execTallyPreset (w : Who) (i v : Nat) (s : State) : Host.Outcome State Fault Refusal :=
  s.run fun s => s.writePreset w i v
def execTagKWrite (w : Who) (v : Nat) (s : State) : Host.Outcome State Fault Refusal :=
  s.run fun s => s.writeTag w O.tallyTagK v
def execTagSeedWrite (w : Who) (v : Nat) (s : State) : Host.Outcome State Fault Refusal :=
  s.run fun s => s.writeTag w O.tallyTagSeed v
def execTraceStartWrap (w : Who) (s : State) : Host.Outcome State Fault Refusal := s.run fun s => s.writeTraceCtrl w 1
def execTraceStartStop (w : Who) (s : State) : Host.Outcome State Fault Refusal := s.run fun s => s.writeTraceCtrl w 2
def execTraceEnd (w : Who) (s : State) : Host.Outcome State Fault Refusal := s.run fun s => s.writeTraceCtrl w 3
def execSamplesRead (w : Who) (first count : Nat) (s : State) : Host.Outcome State Fault Refusal :=
  s.run fun s => s.samplesRead w first count

end Sys2Proof.Machine
end

