-- ==== Sys2Proof/Machine/Flags.lean ====
section
/-! DEFINITION. The flags of the block: event latches, their masks and the IRQ pin (R429 to R432), and the status words
of the Crier bus (R407 to R409, Tables 11-12 and 11-13). -/

namespace Sys2Proof.Machine

/-! ## Latches and the IRQ pin (R430 to R432) -/

/-- The latch of event `ev`. -/
def State.latched (s : State) (ev : Nat) : Bool := s.octReg O.eventLatch 0 64 ev

/-- A latch that its mask bit lets through to IRQ_N; those of the fabric island are masked while it is off (R42). -/
def State.unmasked (s : State) (ev : Nat) : Bool :=
  s.latched ev && !s.octReg O.eventMask 0 64 ev && (s.sys.fabOn || decide (480 ≤ ev))

/-- EVENT.SUMMARY and Crier word 105 [15:0]: bit k for events 32k to 32k + 31. -/
def State.summary (s : State) : Nat :=
  foldRange 16 (fun a k => a + b2n ((List.range 32).any fun j => s.unmasked (32 * k + j)) * 2 ^ k) 0

/-- IRQ_N is asserted. -/
def State.irq (s : State) : Bool := s.reg O.eventIrqEn == 1 && (List.range 512).any s.unmasked

/-! ## Balls of the Cooper lanes (R494, R495) -/

/-- The letters of ball rows. -/
def ballLetters : List String :=
  ["A", "B", "C", "D", "E", "F", "G", "H", "J", "K", "L", "M", "N", "P", "T", "U", "V", "W", "Y"]

/-- The name of row `n`, 1 to 66. -/
def rowName (n : Nat) : String :=
  let first := if n ≤ 19 then "" else if n ≤ 38 then "A" else if n ≤ 57 then "B" else "C"
  first ++ ballLetters.getD ((n - 1) % 19) ""

/-- Row and column of a ball of port `p`: transmit or receive, P or N (Table 16-2). -/
def laneBall (p : Nat) (tx pos : Bool) : Nat × Nat :=
  let i := 9 + 2 * (p % 24) + b2n (!pos)
  match p / 24 with
  | 0 => (if tx then 2 else 5, i)
  | 1 => (i, if tx then 65 else 62)
  | 2 => (if tx then 65 else 62, i)
  | _ => (i, if tx then 2 else 5)

/-- The name of that ball: its row and then its column. -/
def laneBallName (p : Nat) (tx pos : Bool) : String :=
  let b := laneBall p tx pos
  rowName b.1 ++ toString b.2

/-! ## Reset pins of what stands beside the device -/

/-- XSPI_RST_N: low during PORST_N and for 10 µs after it, 3,111 ticks of TCLK (R513). -/
def State.xspiRstN (s : State) : Bool := !s.sys.porst && (!s.sys.byPin || decide (3111 ≤ s.tick))

/-- DDRc_RESET_N of channel `c`: low from the rise of VDDQ_DDR until training begins (R345, R512); no level while the
supply is off or no DDR4 is fitted. -/
def State.ddrResetN (s : State) (c : Nat) : Option Bool :=
  if !s.sys.fabEn || s.sys.ddrNone then none
  else some (s.sys.fabOn && s.reg O.memDdrState != 0 && s.reg O.memDdrChState c != 0)

/-- What an output pin shows. -/
inductive Level where
  | low | high | float
deriving DecidableEq, Repr

/-- The other outputs of a DDR4 channel (Table 16-3): high-impedance until training drives them; no level, as
DDRc_RESET_N, while the supply is off. What they carry then is the DDR4 protocol's (log entry 115). -/
def State.ddrOutputs (s : State) (c : Nat) : Option (Option Level) :=
  match s.ddrResetN c with
  | none => none
  | some false => some (some .float)
  | some true => some none

/-- XSPI_CS_N at reset: high. Between accesses it is high, and every access of the model is whole (log entry 115). -/
def State.xspiCsN (_ : State) : Level := .high

/-- TDO at reset: high-impedance; it stays so, as the board test logic is not modelled (log entry 115). -/
def State.tdo (_ : State) : Level := .float

/-- The written bytes of an OCTET value of access WO, which may be fewer than `n` (R382). -/
def woValue (n : Nat) (v : List Byte) : Nat := ofBytes (padBytes n v)

/-- EVENT.CLEAR: the latches written as 1 are cleared. -/
def eventClearOp (v : Nat) (s : State) : State × Nat :=
  let l := s.reg O.eventLatch
  (s.setReg O.eventLatch 0 (l ^^^ (l &&& v)), 0)

def State.writeEventClear (s : State) (w : Who) (v : Nat) : State := s.write w O.eventClear 0 v (eventClearOp v)
def State.writeEventMask (s : State) (w : Who) (v : Nat) : State := s.write w O.eventMask 0 v (store O.eventMask 0 v)

/-! ## Port words (Table 11-12) -/

/-- Some ingress grain of port `p` is in a state of the list. -/
def State.anyRx (s : State) (p : Nat) (sts : List Nat) : Bool :=
  (List.range 1280).any fun g => sts.contains (s.reg O.grainRxState (1280 * p + g))

/-- RXVER: none while the port does not run. -/
def State.crierVer (s : State) (p : Nat) : Nat := if s.running p then s.rxVer p % 4 else 0

/-- The word of port `p`, zero in DORMANT (R29); each of its sources but POWER.SD_ISLAND_STATE and PROT.PORT_FAULTED
stands in the fabric island. -/
def State.crierPort (s : State) (p : Nat) : Nat :=
  if s.sys.mode == .dormant then 0 else
  let isl := b2n (s.islandReady p) * 2 ^ 12
  let faulted := b2n (s.octReg O.protPortFaulted 0 12 p) * 2 ^ 20
  if !s.sys.fabOn then isl + faulted
  else
    let l := s.linkP p
    s.reg O.portAlignState p * 2 ^ 29 + s.reg O.portNegState p * 2 ^ 26 + s.crierVer p * 2 ^ 24 +
      s.reg O.portEnable p * 2 ^ 23 + b2n l.deg * 2 ^ 22 + b2n (bit (s.reg O.portRxStatus (3 * p)) 47) * 2 ^ 21 +
      faulted + s.reg O.portRole p * 2 ^ 18 + bits (s.reg O.portRxPref p) 47 46 * 2 ^ 16 +
      b2n (s.anyRx p [2, 6]) * 2 ^ 15 + b2n (s.anyRx p [0, 5]) * 2 ^ 14 + b2n (s.crierSlip.contains p) * 2 ^ 13 + isl +
      bits (s.reg O.portRxStatus (3 * p + 2)) 47 40 * 2 ^ 4 +
      b2n (s.latched (4 * p + 3)) * 8 + b2n (s.latched (4 * p + 2)) * 4 + b2n (s.latched (4 * p + 1)) * 2 +
      b2n (s.latched (4 * p))

/-! ## Device words (Table 11-13) -/

def State.word97 (s : State) : Nat :=
  s.sys.mode.code * 2 ^ 28 + s.reg O.protRole * 2 ^ 25 + s.reg O.protConfig * 2 ^ 24 + s.reg O.protPosition * 2 ^ 18 +
    s.reg O.protPromoteStep * 2 ^ 10

def State.word98 (s : State) : Nat :=
  let f := s.reg O.protFlags
  s.reg O.protState * 2 ^ 28 + s.reg O.protPref * 2 ^ 26 + b2n (bit f 0) * 2 ^ 25 + b2n (bit f 1) * 2 ^ 24 +
    b2n (bit f 2) * 2 ^ 23 + s.reg O.witnessStreamState 0 * 2 ^ 21 + s.reg O.witnessStreamState 1 * 2 ^ 19 +
    s.reg O.protFromTsn % 2 ^ 16

/-- MAP.EPOCH stands in the fabric island. -/
def State.word100 (s : State) : Nat :=
  s.clk.fsn / 2 ^ 32 * 2 ^ 16 + (if s.sys.fabOn then s.reg O.mapEpoch % 2 ^ 16 else 0)

def State.word101 (s : State) : Nat :=
  let i := s.reg O.refSelected
  let q := foldRange 13 (fun a k => a + b2n (s.reg O.refInputState k == 3) * 2 ^ (k + 8)) 0
  s.reg O.refState * 2 ^ 30 + (if i = 255 then 15 else i) * 2 ^ 26 + s.reg O.refTied * 2 ^ 25 +
    (if i = 255 then 15 else s.qlOf i) * 2 ^ 21 + q

def State.word102 (s : State) : Nat :=
  if !s.sys.fabOn then 0
  else
    s.reg O.mapState * 2 ^ 30 + s.reg O.mapResult * 2 ^ 14 + s.lodes.length * 2 ^ 10 +
      s.lodes.foldl (fun a l => a + 2 ^ l) 0

def State.word103 (s : State) : Nat :=
  s.reg O.ledgerExportState * 2 ^ 29 + s.reg O.ledgerSlotState 0 * 2 ^ 27 + s.reg O.ledgerSlotState 1 * 2 ^ 25 +
    s.reg O.ledgerRxJournalState * 2 ^ 23 + s.reg O.ledgerGen % 2 ^ 23

/-- The latches of events 32k to 32k + 31; bit j is event 32k + j. -/
def State.latchWord (s : State) (k : Nat) : Nat := foldRange 32 (fun a j => a + b2n (s.latched (32 * k + j)) * 2 ^ j) 0

/-- What latch word `a` shows of its sources (R408, R409). -/
def State.crierWord (s : State) (a : Nat) : Nat :=
  if a < 96 then s.crierPort a
  else if a = 96 then s.reg O.identDevid
  else if a = 97 then s.word97
  else if a = 98 then s.word98
  else if a = 99 then s.clk.fsn % 2 ^ 32
  else if a = 100 then s.word100
  else if a = 101 then s.word101
  else if a = 102 then s.word102
  else if a = 103 then s.word103
  else if a = 104 then s.reg O.protWarmHealth
  else if a = 105 then b2n s.irq * 2 ^ 16 + s.summary
  else if a < 112 then 0
  else s.latchWord (a - 112)

/-- A rising edge of CR_CLK reloads every latch word whole (R408). -/
def State.crierReload (s : State) : State :=
  { s with crier := (List.range 128).foldl (fun m a => SMap.set 0 m a (s.crierWord a % 2 ^ 32)) s.crier,
           crierSlip := [] }

/-- CR_D for an address on CR_A: the latch, which the read does not change (R407); low while PORST_N is low (R507). -/
def State.crierRead (s : State) (a : Nat) : Nat := if s.sys.porst then 0 else SMap.get 0 s.crier (a % 128)

/-! ## The commands -/

def execEventClear (w : Who) (v : Nat) (s : State) : Host.Outcome State Fault Refusal :=
  s.run fun s => s.writeEventClear w v
def execEventMaskWrite (w : Who) (v : Nat) (s : State) : Host.Outcome State Fault Refusal :=
  s.run fun s => s.writeEventMask w v
def execCrierLatchReload (s : State) : Host.Outcome State Fault Refusal := s.run State.crierReload

end Sys2Proof.Machine
end

