-- ==== Sys2Proof/Machine/Time.lean ====
section
/-! DEFINITION. Stamping, the transparent clock and launches (chapter 8, R302 to R321). Time interfaces are numbered as
in R305; message channels of ports are interfaces 128 to 223 towards the Keeper. -/

namespace Sys2Proof.Machine

/-! ## Ethernet frames -/

/-- The low `n` bits of a number in the opposite order. -/
def revBits (n v : Nat) : Nat := foldRange n (fun a i => 2 * a + b2n (v.testBit i)) 0

/-- The frame check sequence of IEEE 802.3: each byte least significant bit first. -/
def fcs (l : List Byte) : List Byte :=
  let c := crcOut (l.foldl (fun c b => crcBits 8 (revBits 8 b.toNat) c) crcInit)
  (toBytes 4 c).map fun b => BitVec.ofNat 8 (revBits 8 b.toNat)

/-- A frame without its frame check sequence. -/
def noFcs (f : List Byte) : List Byte := f.take (f.length - 4)

/-- A whole frame whose frame check sequence is good. -/
def fcsOk (f : List Byte) : Bool := decide (18 ≤ f.length) && fcs (noFcs f) == f.drop (f.length - 4)

/-- Bytes `b` in place of those from offset `o`. -/
def putBytes (l : List Byte) (o : Nat) (b : List Byte) : List Byte := l.take o ++ b ++ l.drop (o + b.length)

/-- Offset of the PTP header of a frame without its FCS, and whether it is over UDP/IPv6 (R307). -/
def ptpAt (f : List Byte) : Option (Nat × Bool) :=
  if fld f 12 2 = 0x88F7 && decide (48 ≤ f.length) then some (14, false)
  else if fld f 12 2 = 0x86DD && fld f 20 1 = 17 && (fld f 56 2 = 319 || fld f 56 2 = 320) &&
    decide (96 ≤ f.length) then
    some (62, true)
  else none

/-- messageType and domainNumber of the PTP header at `o`. -/
def ptpType (f : List Byte) (o : Nat) : Nat := fld f o 1 % 16
def ptpDomain (f : List Byte) (o : Nat) : Nat := fld f (o + 4) 1

/-- The sum of the 16-bit words of a run of bytes. -/
def wordSum : List Byte → Nat
  | a :: b :: l => a.toNat * 256 + b.toNat + wordSum l
  | [a] => a.toNat * 256
  | [] => 0

/-- The one's complement fold of a sum to 16 bits. -/
def onesFold (n : Nat) : Nat := if n = 0 then 0 else (n - 1) % 65535 + 1

/-- The UDP checksum follows a change of the bytes `old` to `new` at an even place (R310); 0 means that there is none.
-/
def udpFix (f old new : List Byte) : List Byte :=
  let c := fld f 60 2
  if c = 0 then f
  else
    let words := (old.length + 1) / 2
    let x := onesFold ((65535 - c) + (65535 * words - wordSum old) + wordSum new)
    let c' := 65535 - x
    putBytes f 60 (toBytes 2 (if c' = 0 then 65535 else c'))

/-- A field of the PTP header at `o` takes new bytes; the checksum follows. -/
def ptpPut (f : List Byte) (o : Nat) (udp : Bool) (k : Nat) (b : List Byte) : List Byte :=
  let f' := putBytes f (o + k) b
  if udp then udpFix f' (slice f (o + k) b.length) b else f'

/-- correctionField of the PTP header at `o` goes up by `d` (R309). -/
def addCorrection (f : List Byte) (o : Nat) (udp : Bool) (d : Int) : List Byte :=
  ptpPut f o udp 8 (toBytes 8 (uInt 64 (sInt 64 (fld f (o + 8) 8) + d)))

/-! ## Stamps (R302 to R306) -/

/-- The corrections of Table 8-2 by HDP.PORT_MODE, in 2^-16 ns. -/
def portTx (mode : Nat) : Int := if mode = 1 then 384 * 65536 / 10 else 88 * 65536
def portRx (mode : Nat) : Int := if mode = 1 then 612 * 65536 / 10 else 144 * 65536

/-- What is added to a transmit stamp of interface `i`: Tables 8-1 and 8-2, and TIME.STAMP_ADJ (R305). -/
def State.txCorr (s : State) (i : Nat) : Int :=
  (if i < 96 then cooperTx (s.sendVer i) else portTx (s.reg O.hdpPortMode (i - 96))) +
    i48 (s.reg O.timeStampAdj (2 * i))

/-- What is subtracted from a receive stamp of interface `i`. -/
def State.rxCorr (s : State) (i : Nat) : Int :=
  (if i < 96 then cooperRx (s.rxVer i) else portRx (s.reg O.hdpPortMode (i - 96))) +
    i48 (s.reg O.timeStampAdj (2 * i + 1))

/-- The stamps of interface `i` at a ROOT cycle, on the count of ROOT cycles (R309). -/
def State.txRoot (s : State) (i : Nat) (c : Nat) : Int := (rootTime c : Int) + s.txCorr i
def State.rxRoot (s : State) (i : Nat) (c : Nat) : Int := (rootTime c : Int) - s.rxCorr i

/-- The receive stamp of interface `i` whose value on the count of ROOT cycles is `u`: local time at the detector, less
what is subtracted (R302 to R305). -/
def State.rxStamp (s : State) (i : Nat) (u : Int) : Int := s.localAt (u + s.rxCorr i) - s.rxCorr i

/-- The ROOT cycle at which the current frame starts. -/
def State.frameRoot (s : State) : Nat := 32 * s.clk.base

/-- The time channel of port `p` is enabled, or was until it ends with the frame (R72, Table 15-3). -/
def State.channelOn (s : State) (p : Nat) : Bool := s.reg O.linkTimeChannelEn p == 1 || (s.linkP p).chanEnd

/-- The time channel of port `p` carries frames (R72, R308, Table 8-1). -/
def State.channelOpen (s : State) (p : Nat) : Bool :=
  s.channelOn p && s.aligned p && s.txVer p == 2 && s.rxVer p == 2 && s.reg O.portLoopback p == 0

/-- The frame that port `p` is sending has a time-channel container to fill. -/
def State.channelSends (s : State) (p : Nat) : Bool := s.channelOpen p && s.sendVer p == 2 && (s.linkP p).txOn

/-! ## The transparent clock (R307 to R312) -/

/-- A transparent-clock frame is dropped for the reason of an element of TIME.TC_STATS. -/
def State.tcDrop (s : State) (why : Nat) : State := (s.bump O.timeTcStats why 48).raise 429

/-- A copy for interface `j` is queued, or dropped (R308, R311). -/
def State.tcCopy (s : State) (j : Nat) (x : TcF) : State :=
  let n := (s.tim.queue.filter fun y => y.iface == j).length
  let put := { s with tim := { s.tim with queue := s.tim.queue ++ [{ x with iface := j }] } }
  if j < 96 then
    if !s.channelOpen j then s.tcDrop 4
    else if 570 < x.frame.length then s.tcDrop 3
    else if 8 ≤ n then s.tcDrop 2
    else put
  else if 32 ≤ n then s.tcDrop 2
  else put

/-- The Keeper receives a frame of interface `i` with its receive stamp. -/
def State.toKeeper (s : State) (i : Nat) (f : List Byte) (t : Int) : State := s.send (.keeper i f t)

/-- A pulse frame gives the PPS input its edge when REF.PPS_SRC names its time port (R269). -/
def State.pulseFrame (s : State) (i : Nat) (f : List Byte) (u : Int) : State :=
  let v := fld f 14 12
  let tod := if bits v 47 16 < 1000000000 then some (ofTime v) else none
  if s.reg O.refPpsSrc = i - 95 then s.ppsAt (s.rxStamp i u) tod else s

/-- A frame of an enabled domain that the transparent clock forwards: general or event message (R307). -/
def tcForwards (t : Nat) : Bool := t == 0 || t == 1 || t == 8 || t == 9 || t == 0xB || t == 0xC || t == 0xD

/-- A frame with a good FCS while TIME.TC_EN is 1, its header at `o` when it is PTP. -/
def State.tcFrame (s : State) (i : Nat) (f : List Byte) (u : Int) (h : Option (Nat × Bool)) : State :=
  match h with
  | none => (s.bump O.timeTcStats 6 48).toKeeper i f (s.rxStamp i u)
  | some (o, _) =>
    let t := ptpType f o
    if t = 2 || t = 3 || t = 0xA then (s.bump O.timeTcStats 7 48).toKeeper i f (s.rxStamp i u)
    else if !(tcForwards t && s.octReg O.timeTcDomains 0 32 (ptpDomain f o)) then
      (s.bump O.timeTcStats 6 48).toKeeper i f (s.rxStamp i u)
    else
      let x : TcF := { iface := i, frame := f, stamp := u, event := decide (t ≤ 1), tick := s.tick }
      let s := foldRange 98 (fun s j => if j != i && s.octReg O.timeTcFwd i 13 j then s.tcCopy j x else s) s
      if s.reg O.timeTcCopyKeeper = 1 then s.toKeeper i f (s.rxStamp i u) else s

/-- A frame received whole on interface `i`, the ROOT cycle of its stamp point at the detector. -/
def State.timeRx (s : State) (i : Nat) (f : List Byte) (c : Nat) : State :=
  let on := s.reg O.timeTcEn == 1 || s.tim.tcRun
  let s := if i < 96 then s.tally 90 1 else s
  if !fcsOk f then (if on then s.bump O.timeTcStats 5 48 else s)
  else if i < 96 && s.reg O.portLoopback i == 1 then (if on then s.tcDrop 4 else s)
  else
    let u := s.rxRoot i c
    let pulse := decide (96 ≤ i) && fld f 12 2 == s.reg O.refPpsEtype
    let s := if pulse then s.pulseFrame i f u else s
    if on then s.tcFrame i f u (if pulse then none else ptpAt (noFcs f)) else s.toKeeper i f (s.rxStamp i u)

/-- A frame without FCS as a time channel carries it: zeros pad it to 64 bytes with its FCS (R70). -/
def padFrame (f : List Byte) : List Byte := padBytes (Nat.max 60 f.length) f

/-- A frame as it leaves: event messages take the residence time and a new FCS (R309, R310); a time channel carries no
frame below 64 bytes (R70). -/
def tcOut (x : TcF) (u : Int) : List Byte :=
  let f := noFcs x.frame
  let g := match ptpAt f with
    | some (o, udp) => if x.event then addCorrection f o udp (u - x.stamp) else f
    | none => f
  let g := if x.iface < 96 then padFrame g else g
  if g = f then x.frame else g ++ fcs g

/-- A queued frame leaves on its interface at a ROOT cycle of the stamp point. -/
def State.tcSend (s : State) (x : TcF) (c : Nat) : State × List Byte :=
  let f := tcOut x (s.txRoot x.iface c)
  let rest := s.tim.queue.erase x
  let s := { s with tim := { s.tim with queue := rest } }
  let s := s.bump O.timeTcStats 0 48
  let s := if x.event then (s.bump O.timeTcStats 1 48).tally 88 1 else s
  ((if x.iface < 96 then s.tally 89 1 else s).send (.eth x.iface f), f)

/-! ## The time-channel container of a transmitted frame (R69 to R72, Table 2-3) -/

/-- Words of 48 bits from bytes, the first byte in [47:40]. -/
def packWords (n : Nat) (l : List Byte) : List Word :=
  (List.range n).map fun k => BitVec.ofNat 48 (ofBytes (padBytes 6 (slice l (6 * k) 6)))

/-- The container of port `p`'s time channel in the current frame carries frame `f`. -/
def State.putContainer (s : State) (p : Nat) (f : List Byte) : State :=
  let d : Word := BitVec.ofNat 48 (2 ^ 47 + f.length * 2 ^ 32)
  let ws := d :: packWords 95 f
  let q := s.linkQ p
  let ovh := (List.range 96).foldl (fun m k => SMap.set (0 : Word) m (256 * 8 + 1 + k) (ws.getD k 0)) q.ovh
  (s.setLinkQ p { q with ovh := ovh })

/-! ## Launches (R313 to R317) -/

/-- The transmit stamp of interface `i` at an instant of the count of ROOT cycles: local time there, and what is added
(R302 to R305); and at a ROOT cycle. -/
def State.txStampAt (s : State) (i : Nat) (u : Int) : Int := s.localAt u + s.txCorr i
def State.txStamp (s : State) (i c : Nat) : Int := s.txStampAt i (rootTime c)

/-- A launch on a time channel whose AT the current frame's transmit stamp has reached. -/
def State.channelDue (s : State) (p : Nat) : Option LaunchR :=
  s.tim.launches.find? fun l => l.iface == p && decide ((l.at_ : Int) ≤ s.txStamp p s.frameRoot)

/-- The bytes of a launch as it leaves (R316). -/
def launchOut (l : LaunchR) (stamp : Int) : List Byte :=
  match ptpAt l.frame with
  | some (o, udp) =>
    if l.insert && decide (ptpType l.frame o ≤ 1) then
      let t := stamp.toNat
      let ns := t / 65536
      let f := ptpPut l.frame o udp 34 (toBytes 6 (ns / 1000000000) ++ toBytes 4 (ns % 1000000000))
      let f := addCorrection f o udp (t % 65536 : Nat)
      f ++ fcs f
    else l.frame ++ fcs l.frame
  | none => l.frame ++ fcs l.frame

/-- Time from the start of a transmission to the stamp point: preamble and delimiter (R304). -/
def preamble (mode : Nat) : Nat := wireTime mode 0

/-- The link of time port `k` is free for a frame whose stamp point is at ROOT cycle `c`. -/
def State.portFree (s : State) (k c : Nat) : Bool :=
  decide (s.wireBusy k + preamble (s.reg O.hdpPortMode k) ≤ rootTime c)

/-- When a frame of `n` bytes whose stamp point on time port `k` is at ROOT cycle `c` has left. -/
def State.portEnd (s : State) (k c n : Nat) : Nat :=
  rootTime c + wireTime (s.reg O.hdpPortMode k) n - preamble (s.reg O.hdpPortMode k)

/-- Positions of the delimiter fall every 3.2 ns at 10GBASE-KR and every 8 ns at 1000BASE-KX (R314), from where the
device puts them (free: Config.delimPhase): how many have fallen on port `k` up to an instant, and the instant of one.
-/
def delimNo (k mode t : Nat) : Nat :=
  let u := t + Config.delimPhase k
  if mode = 1 then u * 5 / (16 * 65536) else u / (8 * 65536)
def delimAt (k mode n : Nat) : Int :=
  (if mode = 1 then n * (16 * 65536) / 5 else n * (8 * 65536) : Nat) - Config.delimPhase k

/-- ROOT cycle `c` is the first at or after a position of the delimiter of port `k`. -/
def delimHere (k mode c : Nat) : Bool := delimNo k mode (rootTime c) != delimNo k mode (rootTime (c - 1))

/-- A launch leaves at the ROOT cycle `c` of its stamp point: LATE beyond `limit`, or when local time has stepped past
its AT (R317). -/
def State.launchSend (s : State) (l : LaunchR) (c limit : Nat) : State :=
  let stamp := s.txStamp l.iface c
  let f := launchOut l stamp
  let late := l.missed || decide ((l.at_ + limit : Nat) < stamp)
  let s := (s.send (.eth l.iface f)).launchEnd l (b2n late) stamp.toNat
  if l.iface < 96 then
    ({ s with tim := { s.tim with taken := l.iface :: s.tim.taken } }.putContainer l.iface f).tally 89 1
  else s.setBusy (l.iface - 96) (s.portEnd (l.iface - 96) c f.length)

/-- `c` is the ROOT cycle of the first position of the delimiter that launch `l` can take on its time port: its stamp is
at or after AT, and that of the position before is not, or the link was not free there, or local time has stepped past
AT since (R314, R317). -/
def State.launchPos (s : State) (l : LaunchR) (c : Nat) : Bool :=
  let k := l.iface - 96
  let mode := s.reg O.hdpPortMode k
  let before := delimAt k mode (delimNo k mode (rootTime c) - 1)
  delimHere k mode c && s.portFree k c && decide ((l.at_ : Int) ≤ s.txStamp l.iface c) &&
    (l.missed || decide (s.txStampAt l.iface before < l.at_) || decide (before < s.wireBusy k + preamble mode))

/-- A launch can leave now: on a time port at the ROOT cycle of its delimiter, on a time channel in the container of
the frame that has just started (R314, R315). -/
def State.launchReady (s : State) (c : Nat) (l : LaunchR) : Bool :=
  if l.iface < 96 then
    s.channelSends l.iface && s.clk.round == 0 && !s.tim.taken.contains l.iface && s.channelDue l.iface == some l
  else s.portUp (l.iface - 96) && s.launchPos l c

/-- A launch with this tag falls due. -/
def State.launchDue (s : State) (tag c : Nat) : State :=
  match s.tim.launches.find? fun l => l.tag == tag && s.launchReady c l with
  | none => s
  | some l => if l.iface < 96 then s.launchSend l s.frameRoot frameU else s.launchSend l c (1000 * 65536)

/-- A launch still queued 1 s after its time is discarded. -/
def State.launchDiscard (s : State) (tag : Nat) : State :=
  match s.tim.launches.find? fun l => l.tag == tag && decide (l.at_ + secU ≤ s.now) with
  | none => s
  | some l => s.launchEnd l 2 0

/-- TIME.LAUNCH (R313, Table 8-4). -/
def launchOp (r : List Byte) (s : State) : State × Nat :=
  let i := fld r 0 1
  let len := fld r 2 2
  let t := ofTime (fld r 4 12)
  if 64 ≤ s.tim.launches.length then (s, 0x0902)
  else if (if i < 96 then 566 else 1518) < len then (s, 0x0903)
  else if r.length < 20 then (s, 0x0310)
  else if t < s.now + 250000 * 65536 then (s, 0x0901)
  else if 2 ≤ fld r 1 1 || 98 ≤ i || len < 60 || r.length ≠ 20 + len || 1000000000 ≤ fld r 10 4 then (s, 0x0310)
  else
    let l : LaunchR :=
      { tag := fld r 16 4, iface := i, insert := fld r 1 1 == 1, at_ := t, frame := r.drop 20, missed := false }
    ({ s with tim := { s.tim with launches := s.tim.launches ++ [l] } }, 0)

/-! ## Sending -/

/-- Time channels at a local frame start: the container takes the oldest queued frame unless a launch is due. -/
def State.channelsFrame (s : State) : State :=
  let s := { s with tim := { s.tim with taken := [] } }
  let ports := (s.tim.queue.map TcF.iface).eraseDups.filter fun i => decide (i < 96)
  ports.foldl (fun s p =>
    if s.channelSends p && (s.channelDue p).isNone then
      match s.tim.queue.find? fun x => x.iface == p with
      | some x =>
        let r := s.tcSend x s.frameRoot
        { r.1 with tim := { r.1.tim with taken := p :: r.1.tim.taken } }.putContainer p r.2
      | none => s
    else s) s

/-- A time port whose link is free sends the oldest HDP or Keeper frame that a launch has kept back, else its oldest
forwarded frame, unless its transmission would still run at a launch (R311, R314). -/
def State.portSend (s : State) (k c : Nat) : State :=
  let i := 96 + k
  let last (n : Nat) : Int :=
    s.txStamp i c + wireTime (s.reg O.hdpPortMode k) n - preamble (s.reg O.hdpPortMode k)
  if !s.portUp k || !s.portFree k c then s
  else match s.tim.held.find? fun x => x.1 == k with
    | some (_, n, m) =>
      if s.portHeld k (last n) then s
      else ({ s with tim := { s.tim with held := s.tim.held.erase (k, n, m) } }.send m).setBusy k (s.portEnd k c n)
    | none => match s.tim.queue.find? fun x => x.iface == i with
      | none => s
      | some x =>
        if s.portHeld k (last x.frame.length) then s
        else (s.tcSend x c).1.setBusy k (s.portEnd k c x.frame.length)

/-! ## Links of the time ports, and the time-triggered cut -/

def State.timeLinkUp (s : State) (k : Nat) : State :=
  if s.portUp k || s.reg O.hdpPortMode k = 0 then s
  else { s with hdp := { s.hdp with linkUp := s.hdp.linkUp ++ [k] } }.setBusy k s.rootNow

/-- The link of a time port goes down: what a launch has kept back there is lost (log entry 85). -/
def State.timeLinkDown (s : State) (k : Nat) : State :=
  { s with hdp := { s.hdp with linkUp := s.hdp.linkUp.filter fun x => x != k }
           tim := { s.tim with held := s.tim.held.filter fun x => x.1 != k } }

/-- The cut of R319, at the frame that R318 gives for TIME.CUT_TIME: by the local time that its start had. -/
def State.timeCut (s : State) : State :=
  let t := ofTime (s.reg O.timeCutTime)
  if !bit (s.reg O.ledgerCutMode) 2 || decide (s.localAt (rootTime s.frameRoot) < t) then s
  else
    let s := s.cutAuto
    let n := s.reg O.timeCutInterval
    let s := if n = 0 then s.setReg O.ledgerCutMode 0 (putBit (s.reg O.ledgerCutMode) 2 false)
      else s.setReg O.timeCutTime 0 (timeOf (t + n * secU) % 2 ^ 96)
    s.raise 430

/-! ## Writes and reads -/

def State.writeLaunch (s : State) (w : Who) (r : List Byte) : State := s.writeBytes w O.timeLaunch 0 1538 r (launchOp r)
def State.writeLaunchFlush (s : State) (w : Who) (v : Nat) : State :=
  s.write w O.timeLaunchFlush 0 v fun s => (s.dropLaunches v, 0)

/-- A read of TIME.LAUNCH_DONE returns and clears the records read. -/
def State.launchDoneRead (s : State) (w : Who) (first count : Nat) : State :=
  let c := logGate s w O.timeLaunchDone 64 first count
  if c ≠ 0 then s.answer c
  else
    let r := logTake s.tim.done 18 first count
    (({ s with tim := { s.tim with done := r.2 } }).give r.1).answer 0

/-! ## The commands -/

def execTimePortFrameRx (k : Nat) (bytes : List Byte) (stamp : Nat) (s : State) : Host.Outcome State Fault Refusal :=
  s.runIn k 2 fun s => if s.portUp k then s.timeRx (96 + k) bytes stamp else s
def execTimePortSend (k : Nat) (stamp : Nat) (s : State) : Host.Outcome State Fault Refusal :=
  s.runIn k 2 fun s => s.portSend k stamp
def execTimePortLinkUp (k : Nat) (s : State) : Host.Outcome State Fault Refusal := s.runIn k 2 fun s => s.timeLinkUp k
def execTimePortLinkDown (k : Nat) (s : State) : Host.Outcome State Fault Refusal :=
  s.runIn k 2 fun s => s.timeLinkDown k
def execLaunch (w : Who) (bytes : List Byte) (s : State) : Host.Outcome State Fault Refusal :=
  s.run fun s => s.writeLaunch w bytes
def execLaunchDue (tag stamp : Nat) (s : State) : Host.Outcome State Fault Refusal :=
  s.run fun s => s.launchDue tag stamp
def execLaunchDiscard (tag : Nat) (s : State) : Host.Outcome State Fault Refusal := s.run fun s => s.launchDiscard tag
def execLaunchFlush (w : Who) (v : Nat) (s : State) : Host.Outcome State Fault Refusal :=
  s.run fun s => s.writeLaunchFlush w v
def execLaunchDoneRead (w : Who) (first count : Nat) (s : State) : Host.Outcome State Fault Refusal :=
  s.run fun s => s.launchDoneRead w first count
def execTimeTriggeredCut (s : State) : Host.Outcome State Fault Refusal := s.run State.timeCut

end Sys2Proof.Machine
end

