-- ==== Sys2Proof/Machine/Cfg.lean ====
section
/-! DEFINITION. A write to an object that has no row of its own (R383, R46), and the one table from the index of a
configuration object to what a write to it does. Restoring a generation and replaying a journal go through the same
table. -/

namespace Sys2Proof.Machine

/-! ## Objects whose write does more than store -/

/-- PORT.LOOPBACK holds the PORTS token while it is 1 (Table 11-8). -/
def loopbackOp (h p v : Nat) (s : State) : State × Nat :=
  let old := s.reg O.portLoopback p
  if old = v then (s, 0)
  else if v = 1 then
    if s.tokFree 7 h then ((s.setReg O.portLoopback p 1).actStart 7 h, 0) else (s, 0x0402)
  else ((s.setReg O.portLoopback p 0).actEnd 7, 0)

/-- HDP.PORT_MODE: a port that is switched off has no link. -/
def portModeOp (k v : Nat) (s : State) : State × Nat :=
  let s := s.setReg O.hdpPortMode k v
  (if v = 0 then s.timeLinkDown k else s, 0)

/-- REF.PORT: the input is compared anew with its port's frames. -/
def refPortOp (k v : Nat) (s : State) : State × Nat :=
  if s.reg O.refPort k = v then (s, 0)
  else
    let x := { s.input k with have_ := false, meas := false, mAt := s.tick }
    (((s.setReg O.refPort k v).setInput k x).tieFails, 0)

/-- LEDGER.CUT_MODE: the period runs from the moment bit 0 is set (R248). -/
def cutModeOp (v : Nat) (s : State) : State × Nat :=
  let start := bit v 0 && !bit (s.reg O.ledgerCutMode) 0
  let s := s.setReg O.ledgerCutMode 0 v
  (if start then { s with led := { s.led with lastCut := s.clk.fsn } } else s, 0)

/-- LEDGER.EXPORT_EN: the journal for the spare is kept while it is 1. -/
def exportEnOp (v : Nat) (s : State) : State × Nat :=
  let s := s.setReg O.ledgerExportEn 0 v
  let wait := s.led.xq.filter fun h => h.index != O.ledgerJournalRx
  (if v = 0 then { s with led := { s.led with journalOut := [], jbytes := 0, cutJournal := false,
                                              xq := wait } } else s, 0)

/-- PROT.POSITION and the other protection objects whose value the comparison reads at use. -/
def protStoreOp (idx v : Nat) (s : State) : State × Nat := ((s.setReg idx 0 v).refreshWatch, 0)

/-! ## The table -/

/-- A write to a configuration object of a port (0x2000 to 0x28FF). -/
def State.writePortObj (s : State) (w : Who) (idx p v : Nat) : State :=
  if idx = O.portEnable then s.writePortEnable w p v
  else if idx = O.portRole then s.writePortRole w p v
  else if idx = O.portLaneOpt then s.write w idx p v (laneOptOp p v)
  else if idx = O.portLoopback then s.write w idx p v (loopbackOp (holderOf w) p v)
  else if idx = O.linkVersionMax then s.writeVersionMax w p v
  else if idx = O.linkVersionExcluded then s.writeVersionExcluded w p v
  else if idx = O.linkRenegotiate then s.writeRenegotiate w p v
  else if idx = O.linkTimeChannelEn then s.writeTimeChannelEn w p v
  else if idx = O.linkTxEq then s.writeTxEq w p v
  else s.write w idx p v (store idx p v)

/-- A write to an object of grains, of the maps and of the groups (0x3000 to 0x57FF). -/
def State.writeMapObj (s : State) (w : Who) (idx e v : Nat) : State :=
  if idx = O.grainSize then s.writeGrainSize w e v
  else if idx = O.grainTxForceAis then s.writeForceAis w e v
  else if idx = O.mapDraftSrc then s.writeDraftSrc w e v
  else if idx = O.mapDraftRevert then s.writeDraftRevert w v
  else if idx = O.mapCommitReq then s.writeCommitReq w v
  else if idx = O.fabricLodeState then s.writeLodeState w e v
  else if idx = O.groupLineCtx then s.writeLineCtx w e v
  else if idx = O.groupLineSq then s.writeLineSq w e v
  else if 0x5000 ≤ idx && idx < 0x5008 then s.writeCtx w idx e v
  else s.write w idx e v (store idx e v)

/-- A write to an object of protection and the Ledger (0x6000 to 0x63FF) that is no command of its own. -/
def State.writeProtObj (s : State) (w : Who) (idx e v : Nat) : State :=
  if idx = O.protRole then s.writeProtRole w v
  else if idx = O.protConfig then s.write w idx e v (protConfigOp v)
  else if idx = O.protPosition then s.write w idx e v (protStoreOp idx v)
  else if idx = O.protPrefSet then s.writePrefSet w v
  else if idx = O.protPortFaultClear then s.writePortFaultClear w v
  else if idx = O.witnessLaneEn then s.write w idx e v (laneEnOp v)
  else if idx = O.ledgerCutMode then s.write w idx e v (cutModeOp v)
  else if idx = O.ledgerExportEn then s.write w idx e v (exportEnOp v)
  else s.write w idx e v (store idx e v)

/-- A write to an object of references and time (0x6800 to 0x6FFF). -/
def State.writeTimeObj (s : State) (w : Who) (idx e v : Nat) : State :=
  if idx = O.refEnable then s.writeRefEnable w v
  else if idx = O.refPort then s.write w idx e v (refPortOp e v)
  else if idx = O.refQlCfg then s.writeQlCfg w e v
  else if idx = O.refFrameOffset then s.writeFrameOffset w v
  else if idx = O.refPhaseStep then s.writePhaseStep w v
  else if idx = O.refRetime then s.writeRetime w v
  else if idx = O.refAlignReq then s.writeAlignReq w v
  else if idx = O.refPpsTod then s.writePpsTod w v
  else if idx = O.timeSet then s.writeTimeSet w v
  else if idx = O.timeStep then s.writeTimeStep w v
  else if idx = O.timeCapture then s.writeTimeCapture w v
  else if idx = O.timeServoSrc then s.writeServoSrc w v
  else if idx = O.timePtpOffset then s.writePtpOffset w v
  else if idx = O.timeLaunchFlush then s.writeLaunchFlush w v
  else s.write w idx e v (store idx e v)

/-- A write to an object of memory (0x7000 to 0x73FF). -/
def State.writeMemObj (s : State) (w : Who) (idx e v : Nat) : State :=
  if idx = O.memBankOwner then s.writeBankOwner w e v
  else if idx = O.memDdrLsEn then s.writeDdrLsEn w v
  else if idx = O.memDdrLsSize || idx = O.memDdrTraceSize then s.writeDdrSize w idx v
  else if idx = O.memDdrRetrain then s.writeDdrRetrain w v
  else s.write w idx e v (store idx e v)

/-- A write of element `e` of a configuration object. -/
def State.writeCfg (s : State) (w : Who) (idx e v : Nat) : State :=
  if 0x2000 ≤ idx && idx < 0x3000 then s.writePortObj w idx e v
  else if 0x3000 ≤ idx && idx < 0x5800 then s.writeMapObj w idx e v
  else if 0x6000 ≤ idx && idx < 0x6400 then s.writeProtObj w idx e v
  else if 0x6800 ≤ idx && idx < 0x7000 then s.writeTimeObj w idx e v
  else if 0x7000 ≤ idx && idx < 0x7400 then s.writeMemObj w idx e v
  else if idx = O.powerSdIslandEn then s.write w idx e v (sdIslandOp (holderOf w) v)
  else if idx = O.hdpPortMode then s.write w idx e v (portModeOp e v)
  else if idx = O.assayTestReq then s.writeTestReq w v
  else s.write w idx e v (store idx e v)

end Sys2Proof.Machine
end

