-- ==== Sys2Proof/Machine/Keeper.lean ====
section
/-! DEFINITION. Resets of the matrix masters, and the boot descriptor in flash (R353, R363, R373 to R376, R463). -/

namespace Sys2Proof.Machine

/-! ## Errors and answers (R351, R368, R371, R372, Table 10-7) -/

/-- An error response is counted and logged: 1 REFUSED, 2 UNMAPPED, 3 timeout; 16 unread entries are kept. -/
def State.mtxError (s : State) (code : Nat) (x : Txn) : State :=
  let e := code * 2 ^ 46 + x.master * 2 ^ 43 + b2n (x.kind != 0) * 2 ^ 42 + x.addr % 2 ^ 40
  let l := s.mtx.errs ++ [e]
  ({ s with mtx := { s.mtx with errs := if 16 < l.length then l.drop 1 else l } }).bump O.matrixErrCount x.master 32

/-- The answer to a transaction that has one. A core that fetches from another target than T0 and T1 takes an
exception. -/
def State.answerTxn (s : State) (x : Txn) : State :=
  let s := s.send (.matrix x.master x.id x.status x.result)
  if x.fetch && x.status ≠ 0 && 2 ≤ x.target && x.target ≤ 7 then s.send (.exception x.master) else s

/-- Transactions that the matrix itself refuses (target 8) are answered in the order of their ID (R368). -/
def State.flushRefused (s : State) : State :=
  (s.waitingAt 8).foldl (fun s x =>
    (({ s with mtx := { s.mtx with txns := s.mtx.txns.erase x } }).mtxError 1 x).answerTxn x) s

/-- What goes on at the matrix after something has changed there. -/
def State.mtxDone (s : State) : State :=
  (foldRange (s.mtx.txns.length + 1) (fun s _ => (s.settleMtx false).flushRefused) s).settleMtx false

/-! ## Master reset (R373 to R375) -/

/-- Transactions of master `k` that the matrix holds. -/
def State.txnsOf (s : State) (k : Nat) : List Txn := s.mtx.txns.filter fun x => x.master == k

/-- Granted writes of master `k` that have data to deliver end in null beats. How many beats each has delivered is its
timing: a free number of those that can have been (log entry 59). -/
def State.beatsNull (s : State) (k : Nat) : State :=
  let cut (x : Txn × Nat) : Txn :=
    if x.1.master = k && x.1.granted && s.delivering x.1 then
      x.1.cut (Config.free 17 (s.freeCtr * 2 ^ 32 + x.2) % (s.txnWait x.1 + 1))
    else x.1
  { s with mtx := { s.mtx with txns := s.mtx.txns.zipIdx.map cut } }.freeTaken

/-- The Ledger DMA is reset: a cut or an export is abandoned, and the next cut can proceed (Table 15-7). -/
def State.dmaReset (s : State) : State :=
  if s.led.cutting then s.cutAbandon
  else if s.exporting then (s.exportDrop.setReg O.ledgerExportState 0 0).actEnd 1
  else s

/-- Master `k` enters reset: what it has not been granted is removed, and its writes end in null beats; a second reset
meanwhile is the same one. -/
def State.masterEnter (s : State) (k : Nat) : State :=
  if s.reg O.matrixMasterState k = 1 then s
  else
    let keep (x : Txn) : Bool := x.master != k || x.granted
    let s := { s with mtx := { s.mtx with txns := s.mtx.txns.filter keep
                                          t5 := SMap.erase s.mtx.t5 k, t5r := SMap.erase s.mtx.t5r k } }
    let s := (s.beatsNull k).setReg O.matrixMasterState k 1 |>.raise 467
    if k = 3 then s.dmaReset else s

/-- Every response of master `k` has arrived or timed out. -/
def State.masterQuiet (s : State) (k : Nat) : State :=
  if s.reg O.matrixMasterState k = 1 && (s.txnsOf k).isEmpty then (s.setReg O.matrixMasterState k 2).raise 468 else s

/-- MATRIX.MASTER_RESET (R375, Table 10-9). -/
def masterResetOp (v : Nat) (s : State) : State × Nat :=
  if v % 4 ≠ 0 then (s, 0x0310)
  else if (List.range 8).any (fun k => bit v k && s.reg O.matrixMasterState k == 1) then (s, 0x0B02)
  else (foldRange 8 (fun s k => if bit v k then s.masterEnter k else s) s, 0)

/-! ## REMAP (R362, R363, R376) -/

/-- MATRIX.REMAP: a change waits until nothing is outstanding at T0 and T1. -/
def remapOp (v : Nat) (s : State) : State × Nat :=
  if s.reg O.matrixMapsel = 0 then (s, 0x0B01)
  else if s.mtx.remapReq.isNone && s.mtx.remapped == (v == 1) then (s, 0)
  else ({ (s.setReg O.matrixRemap 0 v) with mtx := { s.mtx with remapReq := some v } }, 0)

/-- An address in the two regions that REMAP exchanges. -/
def remapZone (a : Nat) : Bool := decide (a < 0x400000)

/-- The change takes effect: event 469. -/
def State.remapApplied (s : State) : State :=
  match s.mtx.remapReq with
  | none => s
  | some v =>
    if s.mtx.txns.any fun x => x.granted && decide (x.target ≤ 1) then s
    else (({ s with mtx := { s.mtx with remapReq := none, remapped := v == 1 } }).raise 469).mtxDone

/-! ## The boot descriptor (R463, Table 14-7) -/

/-- The slot that is ACTIVE: the one that runs, or the other one while a trial runs. -/
def State.activeSlot (s : State) : Nat :=
  let r := s.reg O.fwRunning
  if s.reg O.fwSlotState r = 4 then 1 - r else r

/-- A boot descriptor record of the slots as they stand. -/
def State.bootRecord (s : State) (seq : Nat) : List Byte :=
  let b := toBytes 4 0x42445343 ++ toBytes 6 seq ++ toBytes 1 s.activeSlot ++ toBytes 1 (s.reg O.fwSlotState 0) ++
    toBytes 1 (s.reg O.fwSlotState 1) ++ toBytes 2 (s.reg O.fwTrialTime) ++ toBytes 1 (s.reg O.sysResume) ++
    toBytes 4 (s.reg O.fwSlotVersion 0) ++ toBytes 4 (s.reg O.fwSlotVersion 1) ++ toBytes 228 0
  b ++ toBytes 4 (crc32 b)

/-- A record is written in the next ascending position; before the first of a sector the next sector is erased. -/
def State.descriptor (s : State) : State :=
  let n := s.fw.records
  let at_ := n % 4096 * 256
  let m := if n % 16 = 0 then SMap.clearSpan s.mem.flash ((at_ + 4096) % 1048576) 4096 else s.mem.flash
  { s with mem := { s.mem with flash := putMem 0xFF m at_ (s.bootRecord (n + 1)) }
           fw := { s.fw with records := n + 1, written := s.tick + 1 } }

/-- The record at a position of the boot descriptor is valid: its CRC holds, and it is no erased one. -/
def State.recordOk (s : State) (i : Nat) : Bool :=
  fld (getMem 0xFF s.mem.flash (256 * i) 4) 0 4 == 0x42445343 &&
    fld (getMem 0xFF s.mem.flash (256 * i + 252) 4) 0 4 == crc32 (getMem 0xFF s.mem.flash (256 * i) 252)

/-- Of the valid records at some positions, the position of that with the greatest SEQ. -/
def State.newestRecord (s : State) (l : List Nat) : Option Nat :=
  let seq (i : Nat) : Nat := fld (getMem 0xFF s.mem.flash (256 * i + 4) 6) 0 6
  (l.filter s.recordOk).foldl (fun r i =>
    match r with
    | some j => if seq j < seq i then some i else r
    | none => some i) none

/-- The record that governs (R463): of the sector whose first record is the newest, the newest. -/
def State.bootSearch (s : State) : Option (List Byte) :=
  match s.newestRecord ((List.range 256).map fun k => 16 * k) with
  | none => none
  | some i => (s.newestRecord ((List.range 16).map fun j => i + j)).map fun j => getMem 0xFF s.mem.flash (256 * j) 256

/-- The boot ROM takes the slots' states, the ACTIVE slot, the versions and SYS.RESUME from the record that governs;
before the first record they are as the device shipped. -/
def State.bootLoad (s : State) : State :=
  match s.bootSearch with
  | none => s
  | some b =>
    let a := fld b 10 1 % 2
    let s := (s.setReg O.fwSlotState 0 (fld b 11 1)).setReg O.fwSlotState 1 (fld b 12 1)
    let s := (s.setReg O.fwSlotVersion 0 (fld b 16 4)).setReg O.fwSlotVersion 1 (fld b 20 4)
    let run := if s.reg O.fwSlotState a = 4 then 1 - a else a
    (s.setReg O.sysResume 0 (fld b 15 1)).setReg O.fwRunning 0 run

/-- A power-on reset within the 256 us that a record takes leaves it half written: how much of it stands is a free value
(Table 14-8, log entry 113). -/
def State.halfRecord (s : State) : SMap Nat :=
  if s.fw.written = 0 || s.elapsed (s.fw.written - 1) 79627 then s.mem.flash
  else
    let n := Config.free 32 s.freeCtr % 257
    SMap.clearSpan s.mem.flash ((s.fw.records - 1) % 4096 * 256 + n) (256 - n)

/-- SYS.RESUME is held in the boot descriptor (R472). -/
def State.setResume (s : State) (v : Nat) : State :=
  if s.reg O.sysResume = v then s else (s.setReg O.sysResume 0 v).descriptor

/-! ## The commands -/

def State.writeMasterReset (s : State) (w : Who) (v : Nat) : State :=
  s.write w O.matrixMasterReset 0 v (masterResetOp v)
def State.writeRemap (s : State) (w : Who) (v : Nat) : State := s.write w O.matrixRemap 0 v (remapOp v)

def execMasterReset (w : Who) (v : Nat) (s : State) : Host.Outcome State Fault Refusal :=
  s.run fun s => s.writeMasterReset w v
def execMasterQuiesced (k : Nat) (s : State) : Host.Outcome State Fault Refusal := s.runIn k 8 fun s => s.masterQuiet k
def execRemapWrite (w : Who) (v : Nat) (s : State) : Host.Outcome State Fault Refusal := s.run fun s => s.writeRemap w v
def execRemapApplied (s : State) : Host.Outcome State Fault Refusal := s.run State.remapApplied

end Sys2Proof.Machine
end

