-- ==== Sys2Proof/Machine/Firmware.lean ====
section
/-! DEFINITION. Firmware slots and their verification, the choice of the slot to boot, updates, and attestation
(R460 to R473). -/

namespace Sys2Proof.Machine

/-! ## Images (Table 14-5, R460) -/

/-- Flash offset of a firmware slot (Table 10-2). -/
def slotBase (k : Nat) : Nat := 0x100000 + k * 0x1000000

/-- `n` bytes of slot `k` from an offset on. -/
def State.slotRead (s : State) (k o n : Nat) : List Byte := getMem 0xFF s.mem.flash (slotBase k + o) n

/-- The image of slot `k` was staged here; the others are as the device shipped (log entry 18). -/
def State.ownImage (s : State) (k : Nat) : Bool := s.fw.own.contains k

/-- KEY, and the SHA-256 of the fabric section and of the header, of the image in slot `k`. -/
def State.keyOf (s : State) (k : Nat) : Nat := if s.ownImage k then fld (s.slotRead k 7 1) 0 1 else Config.imageKey k
def State.headerHashOf (s : State) (k : Nat) : List Byte :=
  if s.ownImage k then sha256 (s.slotRead k 0 4096) else Config.headerHash k

/-- Slot offset of the fabric section. -/
def fabricAt (keeperLen : Nat) : Nat := (4096 + keeperLen + 4095) / 4096 * 4096

/-- SHA-256 of the fabric section of the image in slot `k`. -/
def State.fabricHashOf (s : State) (k : Nat) : List Byte :=
  if s.ownImage k then slice (s.slotRead k 0 256) 56 32 else Config.fabricHash k

/-- Step 1 of R460. -/
def formatOk (h : List Byte) : Bool :=
  let kl := fld h 16 4
  let fl := fld h 20 4
  fld h 0 4 == 0x4A584657 && fld h 4 2 == 1 && 
    fld h 12 1 == 0xB0 &&
    fld h 13 3 == 0 && decide (4096 ≤ kl) && decide (kl ≤ 524288) && decide (4096 ≤ fl) && decide (fl ≤ 12582912) &&
    fld h 144 112 == 0 && fld h 2764 1332 == 0

/-- R460 on an image staged here; the sections whose hash is checked are named. -/
def State.verifyBytes (s : State) (k : Nat) (keeper fabric : Bool) : Nat :=
  let h := s.slotRead k 0 4096
  let key := fld h 7 1
  let kl := fld h 16 4
  if !formatOk h then 0x0C01
  else if 1 < key || sha256 (slice h 88 56) ≠ Config.keyHash key || (key = 0 && s.reg O.secKeyRevoked = 1) then 0x0C02
  else if !lmsVerify (slice h 88 56) (h.take 256) (slice h 256 2508) then 0x0C03
  else if fld h 6 1 < s.reg O.secSvnFloor then 0x0C04
  else if keeper && sha256 (s.slotRead k 4096 kl) != slice h 24 32 then 0x0C05
  else if fabric && sha256 (s.slotRead k (fabricAt kl) (fld h 20 4)) != slice h 56 32 then 0x0C05
  else 0

/-- R460 on an image the device shipped with: what a later fuse can change. -/
def State.verifyShipped (s : State) (k : Nat) : Nat :=
  if s.reg O.secKeyRevoked = 1 && Config.imageKey k = 0 then 0x0C02
  else if s.reg O.secSvnFloor ≠ 0 && s.reg O.fwSlotSvn k < s.reg O.secSvnFloor then 0x0C04
  else 0

def State.verifySlot (s : State) (k : Nat) (keeper fabric : Bool) : Nat :=
  if s.ownImage k then s.verifyBytes k keeper fabric else s.verifyShipped k

/-! ## The boot ROM's choice (R464, Table 14-8) -/

/-- Slot `k` takes a state. -/
def State.setSlot (s : State) (k v : Nat) : State := s.setReg O.fwSlotState k v

/-- Slot `k` runs; the boot ROM gives up control (R457). -/
def State.runSlot (s : State) (k boot : Nat) : State :=
  let s := { s with sys := { s.sys with recovery := false } }
  (((s.setReg O.fwRunning 0 k).setReg O.fwBootState 0 boot).setReg O.identFwVersion 0 (s.reg O.fwSlotVersion k))

/-- No slot is left to boot (R457). -/
def State.noSlot (s : State) : State :=
  { (s.setReg O.fwBootState 0 2) with sys := { s.sys with recovery := true } }

/-- The firmware token is free once the trial has ended. -/
def State.fwTokEnd (s : State) : State := if s.acting 2 then s.actEnd 2 else s

/-- The other slot is booted (R464 steps 2 and 3): FALLBACK, event 505. -/
def State.fallBack (s : State) (bad : Nat) : State :=
  let s := s.setSlot bad 6
  let k := 1 - bad
  if s.reg O.fwSlotState k ≠ 5 then (s.descriptor).noSlot
  else if s.verifySlot k true false = 0 then (((s.runSlot k 1).setReg O.sysCause 0 7).descriptor).raise 505
  else ((s.descriptor).raise 504).noSlot

/-- R464, on the record that governs. A slot chosen as TRIAL is verified as any other (Table 14-3 step 5), and falls
back where it fails (log entry 113). -/
def State.bootChoose (s : State) : State :=
  let s := s.bootLoad
  let st := fun k => s.reg O.fwSlotState k
  let pick (v : Nat) : Option Nat := if st 0 = v then some 0 else if st 1 = v then some 1 else none
  match pick 3, pick 4 with
  | some k, _ =>
    let s := (s.setSlot k 4).runSlot k 0
    let s := { s with fw := { s.fw with trialTick := s.tick, fallback := false } }
    let s := (s.setReg O.fwTrialLeft 0 (s.reg O.fwTrialTime)).setReg O.fwUpdateState 0 5
    let s := if s.acting 2 then s else s.actStart 2 0xFE
    let s := (s.descriptor).raise 505
    if s.verifySlot k true false = 0 then s
    else (((s.setReg O.fwTrialLeft 0 0).setReg O.fwUpdateState 0 6).raise 504 |>.fallBack k).fwTokEnd
  | none, some k =>
    let s := { s with fw := { s.fw with fallback := false } }
    let s := (s.setReg O.fwTrialLeft 0 0).setReg O.fwUpdateState 0 6
    (s.fallBack k).fwTokEnd
  | none, none =>
    let k := s.activeSlot
    let s := if st 0 = 2 || st 1 = 2 then s.setReg O.fwUpdateState 0 4 else s
    if s.verifySlot k true false = 0 then s.runSlot k 0 else (s.raise 504).fallBack k

/-- Both Keeper cores restart (R465, R466, R470); the boundary of a commit that RESTORE had requested is no more its own
(R471). -/
def State.keeperRestart (s : State) : State :=
  { ((s.masterEnter 0).masterEnter 1) with
    sys := { s.sys with restarting := true, restoreCommit := false, restoreWait := false } }

/-! ## Updates (R465, R466) -/

/-- The slot that staging uses. -/
def State.stageSlot (s : State) : Nat := 1 - s.activeSlot

/-- FW.STAGE_BEGIN. -/
def stageBeginOp (h : Nat) (s : State) : State × Nat :=
  let u := s.reg O.fwUpdateState
  if !s.tokFree 2 h then (s, 0x0402)
  else if u ≠ 0 && u ≠ 6 then (s, 0x0C08)
  else if s.reg O.fwSlotState 0 = 4 || s.reg O.fwSlotState 1 = 4 then (s, 0x0C08)
  else
    let k := s.stageSlot
    let s := s.actStart 2 h
    let s := s.flashQueue ((List.range 256).map fun i => ⟨2, slotBase k + 65536 * i, true, []⟩)
    let s := { s with fw := { s.fw with next := 0, got := 0, own := if s.ownImage k then s.fw.own else k :: s.fw.own } }
    let s := (((s.setSlot k 1).setReg O.fwSlotVersion k 0).setReg O.fwSlotSvn k 0).setReg O.fwUpdateState 0 1
    (s.descriptor, 0)

/-- The erase completes. -/
def State.eraseDone (s : State) : State :=
  if s.reg O.fwUpdateState = 1 then ((s.flashDrain fun u => u.slot == 2).setReg O.fwUpdateState 0 2).raise 505 else s

/-- The FIRMWARE token is held by a holder other than `h`. -/
def State.fwBusy (s : State) (h : Nat) : Bool :=
  let cur := s.reg O.maintTokenHolder 2
  cur != 0xFF && cur != h

/-- FW.STAGE_SEGMENT: the next one, whole but for the last, which completes its step of the procedure (R466). -/
def stageSegmentOp (h k : Nat) (d : List Byte) (s : State) : State × Nat :=
  if s.fwBusy h then (s, 0x0402)
  else if s.reg O.fwUpdateState ≠ 2 || k ≠ s.fw.next || s.fw.got ≠ 65536 * k then (s, 0x0C08)
  else
    let s := s.flashQueue (programUnits 2 (slotBase s.stageSlot + 65536 * k) d)
    let len := if k = 0 then fabricAt (fld d 16 4) + fld d 20 4 else s.fw.len
    let was := s.fw.got
    let got := was + d.length
    let s := { s with fw := { s.fw with next := k + 1, got := got, len := len } }
    (if was < len && len ≤ got then s.raise 505 else s, 0)

/-- An image fails: the slot is BAD, event 504, and the update is over. -/
def State.imageBad (s : State) (k : Nat) : State :=
  (((s.setSlot k 6).setReg O.fwUpdateState 0 6).descriptor.raise 504).fwTokEnd

/-- COMMIT with INDEX 0x1204. -/
def fwCommitOp (h : Nat) (s : State) : State × Nat :=
  if s.fwBusy h then (s, 0x0402)
  else if s.reg O.fwUpdateState ≠ 2 then (s, 0x0C08)
  else
    let s := s.flashDrain fun u => u.slot == 2
    let k := s.stageSlot
    let c := s.verifySlot k true true
    if c ≠ 0 then (s.imageBad k, c)
    else
      let hd := s.slotRead k 0 16
      let s := ((s.setSlot k 2).setReg O.fwSlotVersion k (fld hd 8 4)).setReg O.fwSlotSvn k (fld hd 6 1)
      (((s.setReg O.fwUpdateState 0 4).descriptor).raise 505, 0)

/-- ABORT with INDEX 0x1204. -/
def fwAbortOp (h : Nat) (s : State) : State × Nat :=
  let u := s.reg O.fwUpdateState
  if s.fwBusy h then (s, 0x0402)
  else if u ≠ 2 && u ≠ 4 then (s, 0x0C08)
  else
    let s := { s with mem := { s.mem with work := s.mem.work.filter fun u => u.slot != 2 } }
    let s := (s.setSlot s.stageSlot 0).setReg O.fwUpdateState 0 0
    ((s.descriptor.fwTokEnd).raise 505, 0)

/-- FW.ACTIVATE (R465, Table 15-5). -/
def activateOp (h : Nat) (s : State) : State × Nat :=
  let m := s.sys.mode
  if m = .wake ∨ m = .attest ∨ m = .restore then (s, 0x0505)
  else if s.fwBusy h || s.locked || s.exporting then (s, 0x0402)
  else if s.reg O.fwUpdateState ≠ 4 then (s, 0x0C08)
  else
    let k := s.stageSlot
    let c := s.verifySlot k true true
    if c ≠ 0 then (s.imageBad k, c)
    else
      let s := if s.acting 2 then s.setReg O.maintTokenHolder 2 0xFE else s.actStart 2 0xFE
      let s := { s with hdp := { s.hdp with tokWrite := SMap.erase s.hdp.tokWrite 2 } }
      (((s.setSlot k 3).descriptor.raise 505).keeperRestart, 0)

/-- FW.CONFIRM. -/
def confirmOp (s : State) : State × Nat :=
  if s.reg O.fwUpdateState ≠ 5 || s.sys.restarting then (s, 0x0C08)
  else
    let k := s.reg O.fwRunning
    let s := ((s.setSlot k 5).setReg O.fwUpdateState 0 0).setReg O.fwTrialLeft 0 0
    let loaded := if s.fw.fabric.isEmpty then s.fabricHashOf (1 - k) else s.fw.fabric
    let s := if loaded == s.fabricHashOf k then s else s.setReg O.fwFabricPending 0 1
    (((s.descriptor).raise 505).fwTokEnd, 0)

/-- Seconds left of the trial (FW.TRIAL_LEFT as it reads). -/
def State.trialLeft (s : State) : Nat := s.reg O.fwTrialLeft - (s.tick - s.fw.trialTick) / secTicks 1

/-- The trial ends without success: both cores restart, and the boot ROM falls back (R466). -/
def State.trialFails (s : State) : State :=
  if s.reg O.fwUpdateState = 5 && !s.fw.fallback then { s.keeperRestart with fw := { s.fw with fallback := true } }
    else s

def State.trialTimeout (s : State) : State :=
  if s.reg O.fwUpdateState = 5 && s.elapsed s.fw.trialTick (secTicks (s.reg O.fwTrialLeft)) then s.trialFails else s

/-! ## Fuses (R462) -/

def revokeOp (s : State) : State × Nat :=
  let bad (k : Nat) : Bool := s.reg O.fwSlotState k == 5 && s.keyOf k != 1
  if s.keyOf (s.reg O.fwRunning) ≠ 1 || bad 0 || bad 1 then (s, 0x0C02) else (s.setReg O.secKeyRevoked 0 1, 0)

def svnCommitOp (v : Nat) (s : State) : State × Nat :=
  let bad (k : Nat) : Bool := s.reg O.fwSlotState k == 4 || (s.reg O.fwSlotState k == 5 &&
    decide (s.reg O.fwSlotSvn k < v))
  if bad 0 || bad 1 then (s, 0x0C04) else (s.setReg O.secSvnFloor 0 (Nat.max v (s.reg O.secSvnFloor)), 0)

/-! ## Attestation (R467 to R469, Table 14-9) -/

/-- Reports signed in the last 86,400 s. -/
def State.signed24 (s : State) : List Nat := s.fw.signed.filter fun t => decide (s.tick < t + secTicks 86400)

/-- One more reservation bit is burned, and the next leaf is its first (R468). -/
def State.burnLeaf (s : State) : State :=
  let r := s.reg O.secReservations
  if r < 16384 then (s.setReg O.secReservations 0 (r + 1)).setReg O.secLeafNext 0 (64 * r)
  else s.setReg O.secLeafNext 0 1048576

/-- The leaf-state mirror in flash takes the next leaf and the burned count (R468). -/
def State.leafMirror (s : State) (next : Nat) : State :=
  { s with fw := { s.fw with mirror := (next, s.reg O.secReservations) } }

/-- The mirror never governs; one that names more burned bits than the OTP holds raises event 504 (R468). -/
def State.mirrorCheck (s : State) : State := if s.reg O.secReservations < s.fw.mirror.2 then s.raise 504 else s

/-- SEC.ATTEST_NONCE. -/
def nonceOp (n : List Byte) (s : State) : State × Nat :=
  if 64 ≤ s.signed24.length then (s, 0x0C06)
  else if 1048576 ≤ s.reg O.secLeafNext then (s, 0x0C07)
  else ({ s with fw := { s.fw with nonces := s.fw.nonces ++ [padBytes 32 n] } }, 0)

/-- Bytes 0 to 203 of a report. -/
def State.reportHead (s : State) (nonce : List Byte) : List Byte :=
  let k := s.reg O.fwRunning
  toBytes 4 0x41545354 ++ toBytes 2 1 ++ toBytes 2 0 ++ toBytes 4 (s.reg O.identDevid) ++ nonce ++ toBytes 12
    s.nowTime ++
    toBytes 6 s.clk.fsn ++ toBytes 1 s.sys.mode.code ++
    toBytes 1 (k + if s.reg O.fwSlotState k = 4 then 128 else 0) ++ toBytes 4 (s.reg O.identFwVersion) ++
    toBytes 1 (s.reg O.secSvnFloor) ++ toBytes 1 (s.keyOf k) ++ toBytes 2 0 ++ padBytes 32 Config.bootRomHash ++
    padBytes 32 (s.headerHashOf k) ++ padBytes 32 s.fw.fabric ++
    padBytes 32 (Config.fuseHash (s.reg O.secKeyRevoked) (s.reg O.secSvnFloor)) ++ toBytes 4 (s.reg O.secLeafNext)

/-- The report of the oldest nonce is signed and stands in SEC.ATTEST_REPORT; the mirror is written first. With no leaf
left nothing is signed. -/
def State.reportDone (s : State) : State :=
  match s.fw.nonces with
  | [] => s
  | n :: ns =>
    let leaf := s.reg O.secLeafNext
    if 1048576 ≤ leaf then { s with fw := { s.fw with nonces := ns } }
    else
    let h := s.reportHead n
    let r := ofBytes (h ++ padBytes 5076 (Config.hssSign leaf h))
    let s := s.leafMirror (leaf + 1)
    let s := { s with fw := { s.fw with nonces := ns, signed := s.signed24 ++ [s.tick] } }
    let s := s.setReg O.secAttestReport 0 r
    if (leaf + 1) % 64 = 0 then s.burnLeaf else s.setReg O.secLeafNext 0 (leaf + 1)

/-! ## The commands -/

/-- COMMIT and ABORT need right [2] (R391) and name a firmware target (R401). -/
def State.fwTarget (s : State) (w : Who) (op : State → State × Nat) : State :=
  if !bit (s.rights w) 2 then s.refuse w 0x0204
  else
    let r := op s
    if r.2 ≠ 0 then r.1.refuse w r.2 else r.1.answer 0

def State.writeStageBegin (s : State) (w : Who) (v : Nat) : State :=
  s.write w O.fwStageBegin 0 v (stageBeginOp (holderOf w))
def State.writeStageSegment (s : State) (w : Who) (k : Nat) (d : List Byte) : State :=
  s.writeBytes w O.fwStageSegment k 65536 d (stageSegmentOp (holderOf w) k d)
def State.writeActivate (s : State) (w : Who) (v : Nat) : State := s.write w O.fwActivate 0 v (activateOp (holderOf w))
def State.writeConfirm (s : State) (w : Who) (v : Nat) : State := s.write w O.fwConfirm 0 v confirmOp
def State.writeRevoke (s : State) (w : Who) (v : Nat) : State := s.write w O.secRevokeKey0 0 v revokeOp
def State.writeSvnCommit (s : State) (w : Who) (v : Nat) : State := s.write w O.secSvnCommit 0 v (svnCommitOp v)
def State.writeNonce (s : State) (w : Who) (n : List Byte) : State := s.writeBytes w O.secAttestNonce 0 32 n (nonceOp n)

def execFwStageBegin (w : Who) (v : Nat) (s : State) : Host.Outcome State Fault Refusal :=
  s.run fun s => s.writeStageBegin w v
def execFwEraseDone (s : State) : Host.Outcome State Fault Refusal := s.run State.eraseDone
def execFwStageSegment (w : Who) (k : Nat) (bytes : List Byte) (s : State) : Host.Outcome State Fault Refusal :=
  s.run fun s => s.writeStageSegment w k bytes
def execFwCommit (w : Who) (s : State) : Host.Outcome State Fault Refusal :=
  s.run fun s => s.fwTarget w (fwCommitOp (holderOf w))
def execFwAbort (w : Who) (s : State) : Host.Outcome State Fault Refusal :=
  s.run fun s => s.fwTarget w (fwAbortOp (holderOf w))
def execFwActivate (w : Who) (v : Nat) (s : State) : Host.Outcome State Fault Refusal :=
  s.run fun s => s.writeActivate w v
def execFwConfirm (w : Who) (v : Nat) (s : State) : Host.Outcome State Fault Refusal :=
  s.run fun s => s.writeConfirm w v
def execTrialTimeout (s : State) : Host.Outcome State Fault Refusal := s.run State.trialTimeout
def execRevokeKey0 (w : Who) (v : Nat) (s : State) : Host.Outcome State Fault Refusal :=
  s.run fun s => s.writeRevoke w v
def execSvnCommit (w : Who) (v : Nat) (s : State) : Host.Outcome State Fault Refusal :=
  s.run fun s => s.writeSvnCommit w v
def execAttestNonce (w : Who) (nonce : List Byte) (s : State) : Host.Outcome State Fault Refusal :=
  s.run fun s => s.writeNonce w nonce
def execAttestReportDone (s : State) : Host.Outcome State Fault Refusal := s.run State.reportDone

end Sys2Proof.Machine
end

