-- ==== Sys2Proof/Machine/Modes.lean ====
section
/-! DEFINITION. Modes, power, restore, promotion and resets (chapter 14, R256 to R263, R470 to R473, R483 to R493,
R500 to R502). -/

namespace Sys2Proof.Machine

/-! ## Steps of a promotion (Table 6-12, R259) -/

/-- A promotion in progress reaches step `n`. -/
def State.promoteStep (s : State) (n : Nat) : State :=
  if s.sys.promoting = 0 then s else (s.setReg O.protPromoteStep 0 n).raise 491

/-- The promotion in progress fails. -/
def State.promoteFail (s : State) : State :=
  if s.sys.promoting = 0 then s
  else
    let s := s.promoteStep 0xFF
    { s with sys := { s.sys with promoting := 0 }, prot := { s.prot with untold := false } }

/-! ## The fabric island goes off (R454, R455, Table 14-10) -/

/-- Objects that keep their values while the fabric island is off: those of the Keeper island, MEM.FENCE_LIST, which
stands in flash (R338), and the causes of ports that the Assayer has faulted, which hold until the host clears them
(R422). -/
def keptOff (i : Nat) : Bool := !inFabric i || i == O.memFenceList || i == O.assayPortCause

/-- Activities of the fabric island end; a token that a write took stays held (R404). -/
def State.dropActivity (s : State) (d : Nat) : State :=
  if !s.acting d then s
  else
    let s := { s with hdp := { s.hdp with tokAct := SMap.erase s.hdp.tokAct d } }
    if SMap.get 0 s.hdp.tokWrite d = 0 then s.tokDrop d else s

/-- A test that the host asked for is queued or running on engine `g`. -/
def State.hostTests (s : State) (g : Nat) : Bool :=
  (s.asyQueue g).any TestT.host || (match s.asyRun g with
    | some t => t.host
    | none => false)

/-- RESTORE is over: its tokens are free (Table 15-5). -/
def State.restoreOver (s : State) : State :=
  let t := s.sys.restoreTok
  let s := { s with sys := { s.sys with restoreTok := 0, restoreCommit := false, restoreWait := false,
                                        restoreAgain := false } }
  let s := if bit t 0 then s.actEnd 0 else s
  if bit t 1 then s.actEnd 1 else s

/-- What the blocks of the fabric island hold is lost, the latches, counts and times of events 0 to 479 among it (R432);
the Keeper SRAM tests, the Keeper's SRAM with the transient history (R423), and the flash are not. -/
def State.fabricLost (s : State) : State :=
  let keeper (m : SMap TestT) : SMap TestT := m.filter fun x => x.1 == 4
  let queues := s.asy.queues.filter fun x => x.1 == 4
  let asy := { AsyS.init with queues := queues, running := keeper s.asy.running, history := s.asy.history }
  let mem := { MemS.init with sram := s.mem.sram, sramBad := s.mem.sramBad, flash := s.mem.flash,
                              flashCmd := s.mem.flashCmd, sramAt := s.mem.sramAt,
                              sramNext := s.mem.sramNext, due := s.mem.due,
                              excluded := s.mem.excluded, work := s.mem.work, fwTurn := s.mem.fwTurn }
  let regs := s.regs.filter fun kv => keptOff (kv.1 / 2 ^ 24)
  let s := (foldRange 480 (fun s e => (s.setReg O.eventCount e 0).setReg O.eventLastTime e 0) { s with regs := regs })
  let s := s.setReg O.eventLatch 0 (s.reg O.eventLatch % 2 ^ 32)
  { s with live := [], link := [], linkq := [], rx := [], tx := [], fab := .init, map := .init,
           grp := .init, prot := { ProtS.init with warmTick := s.prot.warmTick }, wit := [], mem := mem, asy := asy,
           tal := .init, crierSlip := [] }

/-- The fabric island, with the serdes, WPHY and DDR4 PHY islands, loses power. -/
def State.fabricOff (s : State) : State :=
  if !s.sys.fabOn then { s with sys := { s.sys with fabEn := false, fabPg := false } }
  else
    let s := s.handoversOff
    let s := foldRange 12 (fun s k => s.islandState k false) s
    let s := { s with sys := { s.sys with fabOn := false, fabPg := false, fabEn := false, banksClear := false,
                                          serviceReq := false, ddrHeld := false, sdUp := [], sdDrop := [],
                                          sdTok := false } }
    let s := foldRange 96 (fun s p => s.ifaceDown p) s
    let s := s.cutAbandon
    let s := foldRange 32 (fun s k => if s.streamState k = 0 then s else s.blockLoss k) s
    let s := (((s.dropActivity 0).dropActivity 4).dropActivity 6).dropActivity 7
    let s := if s.hostTests 4 then s else s.dropActivity 3
    let s := s.fabricLost
    (foldRange 8 (fun s i => s.inputLoss i) s).inputLoss 12

/-! ## QUARANTINE and DORMANT -/

/-- Entry into QUARANTINE (Table 14-2): a restore, a promotion and a commit end, the Live map stands (R449), banks
that wait for a boundary drain (R329). -/
def State.quarantine (s : State) (cause : Nat) : State :=
  let s := ((s.setReg O.sysCause 0 cause).promoteFail).restoreOver
  -- no repair follows a commit that ends here; one whose boundary has been taken ends by itself (Table 4-7)
  let s := if s.locked && !s.map.drain then s.commitStop 0x060A else s
  let s := { s with sys := { s.sys with isolateReq := false, dormantReq := false, serviceReq := false } }
  ((s.setResume 0).enter .quarantine).pendingDrain

/-- DORMANT is entered (R453). -/
def State.dormantEntry (s : State) : State :=
  if !s.sys.dormantReq then s
  else if s.sys.mode ≠ .stage ∧ s.sys.mode ≠ .isolate ∧ s.sys.mode ≠ .quarantine then
    { s with sys := { s.sys with dormantReq := false } }
  else
    let s := (s.promoteFail).restoreOver
    let s := { s with sys := { s.sys with dormantReq := false, isolateReq := false } }
    ((s.fabricOff).setResume 0).enter .dormant

/-! ## Wake (R458) -/

/-- Entry into WAKE: FAB_EN goes high. -/
def State.startWake (s : State) : State :=
  let s := { s with sys := { s.sys with fabEn := true, fabPg := false, wakeTick := s.tick } }
  (s.setReg O.sysSelftest 0 0).enter .wake

/-- FAB_PG is asserted: every bank is cleared, DDR4 training starts. After the wake has failed it is only noted. -/
def State.fabPgAssert (s : State) : State :=
  if !s.sys.fabEn || s.sys.fabPg then s
  else if s.sys.mode ≠ .wake then { s with sys := { s.sys with fabPg := true } }
  else
    let s := { s with sys := { s.sys with fabPg := true, fabOn := true } }
    let s := foldRange 256 (fun s b => s.setReg O.memBankState b 5) s
    let s := if s.sys.ddrNone then s
      else (foldRange 4 (fun s c => s.setChannel c 1) (s.setReg O.memDdrState 0 1)).ddrShow
    s.promoteStep 2

/-- 90 ms have passed since FAB_EN without FAB_PG. -/
def State.fabPgTimeout (s : State) : State :=
  if s.sys.mode = .wake && !s.sys.fabPg && s.elapsed s.sys.wakeTick (msTicks 90) then s.quarantine 1 else s

/-- FAB_PG is deasserted: FAB_EN goes low, and what the fabric island held is lost (R455, R501); a device in QUARANTINE
keeps its cause. -/
def State.fabPgDeassert (s : State) : State :=
  if !s.sys.fabEn || !s.sys.fabPg then s
  else
    let t := s.fabricOff
    if !s.sys.fabOn || s.sys.mode = .quarantine then t else t.quarantine 5

/-- A Lode that the self-test found faulty (R459, Table 12-4). -/
def State.selftestLode (s : State) (l : Nat) : State :=
  if 10 ≤ l || s.lreg O.fabricLodeState l = 3 then s
  else
    let t : TestT := ⟨resOf 1 l, 4, s.rank (resOf 1 l), s.clk.fsn, false, 1, [], s.tick, false⟩
    let s := ((s.setReg O.fabricLodeState l 3).setLive O.fabricLodeState l 3).raise 386
    ((s.bump O.assayLasting 4 48).asyLog t 1 3).raise 495

/-- The wake self-test ends: `failed` as in SYS.SELFTEST, and the Lodes that it found faulty. Fewer than 7 usable Lodes,
and fewer than 4 banks for WHEELWRIGHT, fail it too (Table 14-4). -/
def State.selftestDone (s : State) (failed : Nat) (lodes : List Nat) : State :=
  if s.sys.mode ≠ .wake || !s.sys.fabOn || !s.sys.banksClear then s
  else
    let s := lodes.foldl State.selftestLode s
    let few : Bool := decide (s.lodes.length < 7)
    let short : Bool := decide ((s.ownerBanks 4).length < 4)
    let bad := putBit (putBit (failed % 32) 1 (bit failed 1 || few)) 0 (bit failed 0 || short)
    let s := s.setReg O.sysSelftest 0 bad
    if bad ≠ 0 then s.quarantine 2 else (s.enter .attest).promoteStep 3

/-! ## Reading a generation back (Table 6-10, R471) -/

/-- Section `k` of a generation. -/
def genSection (g : List Byte) (k : Nat) : List Byte := slice g (fld g (64 + 16 * k + 4) 4) (fld g (64 + 16 * k + 8) 4)

/-- The object and element that an item names: the ports' objects have an index for each port. -/
def unItem (i e : Nat) : Nat × Nat := if 0x2000 ≤ i && i < 0x2600 then (0x2000 + i % 16, (i - 0x2000) / 16) else (i, e)

/-- The items of Table 6-11 in a run of bytes: object, element, value. -/
def parseItems : Nat → List Byte → List (Nat × Nat × Nat)
  | 0, _ => []
  | n + 1, l =>
    if l.length < 6 then []
    else
      let w := fld l 5 1
      let x := unItem (fld l 0 2) (fld l 2 3)
      (x.1, x.2, if w = 0 then 0xFFFFFFFF else fld l 6 w) :: parseItems n (l.drop (6 + w))

/-- Every item of the OBJECTS section. -/
def genItems (g : List Byte) : List (Nat × Nat × Nat) := let o := genSection g 2; parseItems o.length o

/-- A restored value of MEM.BANK_OWNER that names an owner for a bank RETIRED here (R328). -/
def State.substituted (s : State) (x : Nat × Nat × Nat) : Bool :=
  x.1 == O.memBankOwner && s.reg O.memBankOwner x.2.1 == 15 && x.2.2 % 16 != 0 && x.2.2 % 16 != 15

/-- One restored or replayed value: a value that is held already is no write; a port whose island is not ready starts
with it; the map's elements go to the Draft. -/
def State.restoreItem (s : State) (x : Nat × Nat × Nat) : State :=
  let i := x.1
  let e := x.2.1
  let v := x.2.2
  let out := s.out
  if i = O.mapDraftSrc then s.setReg i e v
  else if s.reg i e = v then s
  else if i = O.memBankOwner && s.reg i e = 15 then
    if s.substituted x then s.takeNone (v % 16) else s
  else if i = O.portEnable && v = 1 && !s.islandReady e then s.setReg i e 1
  else { s.writeCfg .keeper i e v with out := out }

/-- The values of the OBJECTS section; owners of banks RETIRED here are given other banks last. -/
def State.restoreObjects (s : State) (g : List Byte) (want : Nat → Bool) : State :=
  let l := (genItems g).filter fun x => want x.1
  let late := l.filter s.substituted
  let now := l.filter fun x => !s.substituted x
  late.foldl State.restoreItem (now.foldl State.restoreItem s)

/-- The map section: every Draft element and every pending size. -/
def State.restoreMap (s : State) (m : List Byte) : State :=
  let src := (List.range 122880).filterMap fun a =>
    let v := fld m (4 * a) 4
    if v < 122880 then some (a, v) else none
  let s := s.putMap O.mapDraftSrc src
  foldRange 15360 (fun s e => s.setReg O.grainSize e (fld m (491520 + e) 1)) s

/-- One group array from offset `at_` of the section. -/
def State.restoreGroup (s : State) (o : Obj) (g : List Byte) (at_ : Nat) : State :=
  foldRange o.cnt (fun s e =>
    let v := fld g (at_ + o.ty.width * e) o.ty.width
    s.setReg o.idx e (if o.idx = O.groupLineCtx && v = 0xFFFE then 0xFFFF else v)) s

/-- The group section, and the reservations that follow from it. -/
def State.restoreGroups (s : State) (g : List Byte) : State :=
  let r := groupRows.foldl (fun (r : State × Nat) o => (r.1.restoreGroup o g r.2, r.2 + o.cnt * o.ty.width)) (s, 0)
  let s := r.1
  (s.entries O.groupType).foldl (fun s x => if x.2 = 0 then s else s.reserve x.1) s

/-- Replay of the journal after the cut, in SEQ order (R471). -/
def State.replay (s : State) (cut : Nat) : State :=
  (s.led.journalIn.filter fun x => precedes48 cut x.2.1).foldl (fun s x =>
    (parseItems x.2.2.length (x.2.2.drop 16)).foldl State.restoreItem s) s

/-- The SEALED slot that is restored: the newest that reads back, else the other. -/
def State.restorable (s : State) : Option Nat :=
  let good (k : Nat) : Bool := s.reg O.ledgerSlotState k == 2 && genSealed (s.slotBytes k)
  match s.newestSlot with
  | some k => if good k then some k else if good (1 - k) then some (1 - k) else none
  | none => none

/-- Objects that a promotion applies in STAGE: of ports, links and references (Table 6-12 step 4). -/
def earlyObject (i : Nat) : Bool := (0x2000 ≤ i && i < 0x2900) || (0x6800 ≤ i && i < 0x6C00)

/-! ## RESTORE (R451, R471) -/

/-- RESTORE fails: back to STAGE. -/
def State.restoreFail (s : State) : State :=
  let s := ((s.setReg O.sysCause 0 6).promoteFail).restoreOver
  (s.setResume 0).enter .stage

/-- The commit of RESTORE is requested; the JX96 itself holds the MAP token. -/
def State.restoreRequest (s : State) : State :=
  let s := { s with sys := { s.sys with restoreWait := false, restoreAgain := false } }
  let c := (s.setReg O.maintTokenHolder 0 0xFF).commitCheck 0xFE 3
  if c ≠ 0 then (s.setReg O.mapResult 0 c).restoreFail
  else
    let s := s.commitStart 3 3 ((s.clk.fsn + 16) % M48) 0xFF
    { s with sys := { s.sys with restoreCommit := true } }

/-- RESTORE begins, from its first step; a commit that stands is let through first. -/
def State.restoreBegin (s : State) : State :=
  let s := { s with sys := { s.sys with restoreCommit := false, restoreWait := false, restoreAgain := s.locked } }
  if s.locked then s
  else
    match s.restorable with
    | none => s.restoreFail
    | some k =>
      let g := s.slotBytes k
      let s := s.restoreMap (genSection g 0)
      let s := s.restoreGroups (genSection g 1)
      let s := s.restoreObjects g fun _ => true
      let s := s.setReg O.mapRecompute 0 1
      let j := s.reg O.ledgerRxJournalState
      if j = 2 then { s with sys := { s.sys with restoreWait := true } }
      else (if j = 1 then s.replay (genFsn g) else s).restoreRequest

/-- RESTORE takes token `d`, for the JX96, or for its requester `h` where that holds it. -/
def State.restoreTake (s : State) (h d : Nat) : State :=
  if s.tokFree d h then
    let t := s.actStart d (if s.reg O.maintTokenHolder d = 0xFF then 0xFE else h)
    { t with sys := { t.sys with restoreTok := putBit t.sys.restoreTok d true } }
  else s

/-- RESTORE is entered, with the tokens of MAP and LEDGER (Table 15-5); a mode asked for before is asked for no more. -/
def State.enterRestore (s : State) (h : Nat) : State :=
  let s := (s.restoreTake h 0).restoreTake h 1
  let s := { s with sys := { s.sys with isolateReq := false, dormantReq := false, serviceReq := false } }
  (s.enter .restore).restoreBegin

/-- What has become of the commit of RESTORE, at a local frame start: one that a repair took the place of, or one left
by an interrupted RESTORE, is let through and RESTORE begins again; one that ended without a boundary is refused. -/
def State.restoreCheck (s : State) : State :=
  if s.sys.mode ≠ .restore || s.sys.restarting then s
  else if s.sys.restoreCommit && s.locked && s.map.origin ≠ 3 then
    { s with sys := { s.sys with restoreCommit := false, restoreAgain := true } }
  else if s.sys.restoreCommit && !s.locked then s.restoreFail
  else if s.sys.restoreAgain && !s.locked then s.restoreBegin
  else s

/-! ## ATTEST (R461) -/

/-- The fabric section has been loaded: STAGE; a promotion applies the first objects of its generation. -/
def State.attested (s : State) (k : Nat) : State :=
  let s := { s with fw := { s.fw with fabric := s.fabricHashOf k } }
  let s : State := (s.setReg O.fwFabricPending 0 0).enter .stage
  let s : State := foldRange 12 (fun s j => if bit (s.reg O.powerSdIslandEn) j then s.islandUp j else s) s
  if s.sys.promoting ≠ 0 then
    let s := { s with sys := { s.sys with stageFsn := s.clk.fsn }, prot := { s.prot with untold := true } }
    let s : State := match s.restorable with
      | some j => s.restoreObjects (s.slotBytes j) earlyObject
      | none => s
    s.promoteStep 4
  else if s.reg O.sysResume = 1 then s.enterRestore 0xFE
  else s

/-- The checks of ATTEST end. -/
def State.attestDone (s : State) : State :=
  if s.sys.mode ≠ .attest then s
  else
    let k := s.reg O.fwRunning
    if s.verifySlot k false true = 0 then s.attested k else (s.raise 504).quarantine 3

/-! ## Mode requests (R451 to R453) -/

/-- A request of a mode is refused in WAKE and ATTEST, and while the device boots. -/
def State.noRequest (s : State) : Bool := s.sys.booting || s.sys.mode == .wake || s.sys.mode == .attest

/-- SYS.MODE_REQ = STAGE. -/
def reqStageOp (s : State) : State × Nat :=
  if s.noRequest || s.sys.mode ≠ .dormant then (s, 0x0505) else (s.startWake, 0)

/-- SYS.MODE_REQ = RESTORE (Table 15-5: not during a firmware trial). -/
def reqRestoreOp (h : Nat) (s : State) : State × Nat :=
  if s.sys.mode ≠ .stage then (s, 0x0505)
  else if !s.tokFree 0 h || !s.tokFree 1 h || s.reg O.fwUpdateState = 5 then (s, 0x0402)
  else if s.newestSlot.isNone then (s, 0x0805)
  else ((s.setResume 1).enterRestore h, 0)

/-- SYS.MODE_REQ = SERVICE (R452): the boundary of the commit that stands, or of one of the JX96's own. -/
def reqServiceOp (h : Nat) (s : State) : State × Nat :=
  let m := s.sys.mode
  let want (s : State) : State := { s with sys := { s.sys with serviceReq := true, isolateReq := false,
                                                               dormantReq := false } }
  if m ≠ .stage ∧ m ≠ .isolate then (s, 0x0505)
  else if s.locked && !s.map.drain then (want s, 0)
  else
    let r := s.commitRequest h 3 4
    if r.2 ≠ 0 then (s.setReg O.mapResult 0 r.2, r.2) else (want r.1, 0)

/-- SYS.MODE_REQ = ISOLATE. -/
def reqIsolateOp (s : State) : State × Nat :=
  let m := s.sys.mode
  if m ≠ .stage ∧ m ≠ .service then (s, 0x0505)
  else ({ s with sys := { s.sys with isolateReq := true, dormantReq := false, serviceReq := false } }, 0)

/-- ISOLATE is entered at the next frame start. -/
def State.isolateEntry (s : State) : State :=
  let t := { s with sys := { s.sys with isolateReq := false } }
  if s.sys.isolateReq && (s.sys.mode == .stage || s.sys.mode == .service) then t.enter .isolate else t

/-- SYS.MODE_REQ = QUARANTINE. -/
def reqQuarantineOp (s : State) : State × Nat :=
  let m := s.sys.mode
  if m ≠ .stage ∧ m ≠ .restore ∧ m ≠ .service ∧ m ≠ .isolate then (s, 0x0505) else (s.quarantine 4, 0)

/-- SYS.MODE_REQ = DORMANT. -/
def reqDormantOp (s : State) : State × Nat :=
  let m := s.sys.mode
  if m ≠ .stage ∧ m ≠ .isolate ∧ m ≠ .quarantine then (s, 0x0505)
  else ({ s with sys := { s.sys with dormantReq := true, isolateReq := false, serviceReq := false } }, 0)

/-- What a write of `v` to SYS.MODE_REQ does. -/
def modeOp (h v : Nat) (s : State) : State × Nat :=
  if v = 0 then reqDormantOp s else if v = 3 then reqStageOp s else if v = 4 then reqRestoreOp h s
  else if v = 5 then reqServiceOp h s else if v = 6 then reqIsolateOp s else if v = 7 then reqQuarantineOp s
  else (s, 0x0310)

def State.writeModeReq (s : State) (w : Who) (v : Nat) : State := s.write w O.sysModeReq 0 v (modeOp (holderOf w) v)

/-! ## Promotion (R256 to R263) -/

/-- PROT.PROMOTE. From ISOLATE steps 1 to 4 are omitted (R263), and the FSN that stands for that at entry into STAGE
is that of the request (log entry 44); its RESTORE needs the tokens of MAP and LEDGER (R403). -/
def promoteOp (h v : Nat) (s : State) : State × Nat :=
  let m := s.sys.mode
  if s.role ≠ 3 || s.sys.booting || (m != .dormant && m != .isolate) then (s, 0x0505)
  else if m = .isolate && !(s.tokFree 0 h && s.tokFree 1 h) then (s, 0x0402)
  else if s.newestSlot.isNone then (s, 0x0805)
  else
    let s := (s.setReg O.protRole 0 v).refreshWatch
    let s := { s with sys := { s.sys with promoting := v, isolateReq := false, dormantReq := false,
                                          serviceReq := false } }
    let s := s.setResume (v + 1)
    if m = .dormant then ((s.startWake).promoteStep 1, 0)
    else
      let s := { s with sys := { s.sys with stageFsn := s.clk.fsn }, prot := { s.prot with untold := true } }
      ((((s.untoldEnd).promoteStep 5).promoteStep 6).enterRestore h, 0)

/-- A promotion in STAGE goes on once the Horologer is locked to an input that bears time (R257); it passes step 5
then, if it has not before (log entry 90), and waits while a session holds MAP or LEDGER (log entry 114). -/
def State.promotionRestore (s : State) : State :=
  if s.sys.mode = .stage && s.sys.promoting ≠ 0 && s.refState = 2 && s.bears s.selected &&
      s.tokFree 0 0xFE && s.tokFree 1 0xFE then
    let s := if s.reg O.protPromoteStep = 4 then s.promoteStep 5 else s
    (s.promoteStep 6).enterRestore 0xFE
  else s

/-- Step 5 of Table 6-12: every enabled port SETTLED in version 2, a Witness stream of the peer UP, and the preference
taken from its STATUS record. -/
def State.stepFive (s : State) : Bool :=
  (List.range 96).all (fun p => s.reg O.portEnable p == 0 || (s.reg O.portNegState p == 5 && s.txVer p == 2)) &&
    s.peerStatus.isSome && !s.prot.untold

/-- The steps of a promotion in STAGE and after SERVICE, at a local frame start. -/
def State.promoteFrame (s : State) : State :=
  if s.sys.promoting = 0 then s
  else if s.sys.mode = .stage then (if s.reg O.protPromoteStep = 4 && s.stepFive then s.promoteStep 5 else s)
  else if s.sys.mode ≠ .service then s
  else
    let n := s.reg O.protPromoteStep
    let ddr := s.reg O.memDdrState = 0 || s.reg O.memDdrLsEn = 0 || (s.reg O.memDdrLsState = 2 && !s.sys.ddrHeld)
    if n = 7 then s.promoteStep 8
    else if n = 8 && ddr then s.promoteStep 9
    else if n = 9 && s.prot.anyDone.isSome && !s.unwatched then
      let s := s.promoteStep 10
      { s with sys := { s.sys with promoting := 0 } }
    else s

/-- PROT.WARM_HEALTH of a warm spare (R262), once per second. LINKS_READY: every enabled port is SETTLED; no lasting
fault: all counts of ASSAY.LASTING are zero (log entry 108). -/
def State.warmHealth (s : State) : State :=
  if s.role ≠ 3 || s.sys.mode ≠ .isolate || !s.elapsed s.prot.warmTick (secTicks 1) then s
  else
    let s := { s with prot := { s.prot with warmTick := s.tick } }
    let locked := s.refState == 2
    let lasting := foldRange 9 (fun a k => a + s.reg O.assayLasting k) 0
    let healthy := lasting == 0 && locked
    let ledger := s.newestSlot.isSome && s.reg O.ledgerRxJournalState == 1
    let links := (List.range 96).all fun p => s.reg O.portEnable p == 0 || s.reg O.portNegState p == 5
    let lodes := ((List.range 10).filter fun l => decide (2 ≤ s.lreg O.fabricLodeState l)).length
    let banks := (s.ownerBanks 15).length
    let ports := ((List.range 96).filter fun p => s.octReg O.protPortFaulted 0 12 p).length
    let v := b2n healthy * 2 ^ 31 + b2n ledger * 2 ^ 30 + b2n locked * 2 ^ 29 + b2n links * 2 ^ 28 + lodes * 2 ^ 24 +
      min banks 255 * 2 ^ 16 + ports * 2 ^ 8
    let was := bit (s.reg O.protWarmHealth) 31
    let s := s.setReg O.protWarmHealth 0 v
    if was = healthy then s else s.raise 492

/-! ## Resets (R456, R464, R470, Tables 14-3 and 14-10) -/

/-- Objects whose values a power-on reset leaves: RWP of 0x1000–0x12FF and 0x6000–0x63FF, what flash and fuses hold, and
the numbers of the Ledger that never restart. -/
def keptReset (i : Nat) : Bool :=
  (inFlash i && (match objAt i with
    | some o => o.acc == .rwp
    | none => false)) ||
  [O.sysResume, O.fwSlotState, O.fwSlotVersion, O.fwSlotSvn, O.fwRunning, O.secKeyState, O.secKeyRevoked, O.secSvnFloor,
   O.secReservations, O.secLeafNext, O.memFenceList, O.ledgerSlotState, O.ledgerSlotGen, O.ledgerSlotFsn, O.ledgerGen,
   O.ledgerJournalSeq].contains i

/-- A power-on reset: the device boots. -/
def State.powerOnReset (s : State) (cause : Nat) (mapsel ddrNone held : Bool) : State :=
  let z := State.reset
  let ses := s.hdp.ses.map fun x => (x.1, { Ses.init with key := x.2.key, ceil := x.2.ceil, floor := x.2.ceil + 1 })
  let regs := s.regs.filter fun kv => keptReset (kv.1 / 2 ^ 24)
  let t := { z with
    regs := regs
    sys := { z.sys with booting := true, porst := held, byPin := decide (cause ≠ 1), ddrNone := ddrNone }
    mem := { z.mem with flash := s.halfRecord, flashCmd := s.mem.flashCmd }
    led := { z.led with slot0 := s.led.slot0, slot1 := s.led.slot1, xseq := s.led.xseq }
    hdp := { z.hdp with ses := ses }
    fw := { z.fw with own := s.fw.own, records := s.fw.records, mirror := s.fw.mirror }
    freeCtr := s.freeCtr + 1 }
  (t.setReg O.sysResetCause 0 cause).setReg O.matrixMapsel 0 (b2n mapsel)

/-- SYS.RESET: the straps are sampled, and what they show is a free value (R497, log entry 97). -/
def sysResetOp (s : State) : State × Nat :=
  let strap (k : Nat) : Bool := Config.free 33 (2 * s.freeCtr + k) % 2 == 1
  if s.sys.mode = .service ∨ s.sys.mode = .restore then (s, 0x0505)
  else (s.powerOnReset 1 (strap 0) (strap 1) false, 0)

/-- The firmware has started (Table 14-3 steps 6 and 7, R472): one reservation is burned, DORMANT, and a wake where
one is due. Where no slot could boot, the boot ROM stays in control (R457). -/
def State.bootEnd (s : State) : State :=
  if s.sys.recovery then s
  else
    let s := ((s.mirrorCheck.burnLeaf).slotsAfterReset).enter .dormant
    let r := s.reg O.sysResume
    if 2 ≤ r then
      let s := { s with sys := { s.sys with promoting := r - 1 } }
      (s.startWake).promoteStep 1
    else if r = 1 || s.reg O.sysWakeAuto = 1 then s.startWake
    else s

/-- The boot ROM has read the SFDP table: event 473 for a device that lacks 8D-8D-8D (R354). -/
def State.flashProbe (s : State) : State := if Config.flashOctal then s else s.raise 473

/-- Boot completes (R456). -/
def State.bootComplete (s : State) : State :=
  if !s.sys.booting || s.sys.porst then s
  else (({ s with sys := { s.sys with booting := false } }).flashProbe.bootChoose).bootEnd

/-- A Keeper restart drops subscriptions and bulk transfers (Table 14-10). -/
def State.sessionsDropped (s : State) : State :=
  let g (x : Nat × Ses) : Nat × Ses := (x.1, { x.2 with sub := 0, queue := [], lost := false })
  { s with hdp := { s.hdp with ses := s.hdp.ses.map g, bulk := [] } }

/-- Both cores have booted again (R465, R470); from RECOVERY the firmware starts as at a boot (R457). -/
def State.restartDone (s : State) : State :=
  if !s.sys.restarting then s
  else
    let was := s.sys.recovery
    let s := ({ s with sys := { s.sys with restarting := false } }).setReg O.sysResetCause 0 2
    let s := (s.flashProbe.bootChoose).sessionsDropped
    if was then s.bootEnd
    else if s.sys.mode = .restore then s.restoreBegin else s

/-- The watchdog of a core expires (R353, R466, R492). -/
def State.watchdog (s : State) (c : Nat) : State :=
  let s := (((s.masterEnter c).bump O.keeperWdogCount c 32).setReg O.sysResetCause 0 3).raise 470
  if s.reg O.fwUpdateState = 5 then s.trialFails
  else if c = 0 && s.sys.mode = .restore then s.restoreBegin
  else s

/-! ## LEDGER.CUT_REQ (R248, R260) -/

/-- A request for a cut; in RESTORE with a BROKEN journal it lets the commit be requested. -/
def cutReqOp (h : Nat) (s : State) : State × Nat :=
  if s.sys.mode = .restore && s.sys.restoreWait then (s.restoreRequest, 0)
  else
    let c := s.cutCheck h
    if c ≠ 0 then (s, c) else (s.cutStart h, 0)

/-! ## Writes and commands -/

def State.writePromote (s : State) (w : Who) (v : Nat) : State := s.write w O.protPromote 0 v (promoteOp (holderOf w) v)
def State.writeSysReset (s : State) (w : Who) (v : Nat) : State := s.write w O.sysReset 0 v sysResetOp
def State.writeCutReq (s : State) (w : Who) (v : Nat) : State := s.write w O.ledgerCutReq 0 v (cutReqOp (holderOf w))

def execModeReqStage (w : Who) (s : State) : Host.Outcome State Fault Refusal := s.run fun s => s.writeModeReq w 3
def execModeReqRestore (w : Who) (s : State) : Host.Outcome State Fault Refusal := s.run fun s => s.writeModeReq w 4
def execModeReqService (w : Who) (s : State) : Host.Outcome State Fault Refusal := s.run fun s => s.writeModeReq w 5
def execModeReqIsolate (w : Who) (s : State) : Host.Outcome State Fault Refusal := s.run fun s => s.writeModeReq w 6
def execModeReqQuarantine (w : Who) (s : State) : Host.Outcome State Fault Refusal := s.run fun s => s.writeModeReq w 7
def execModeReqDormant (w : Who) (s : State) : Host.Outcome State Fault Refusal := s.run fun s => s.writeModeReq w 0
def execIsolateEntry (s : State) : Host.Outcome State Fault Refusal := s.run State.isolateEntry
def execDormantEntry (s : State) : Host.Outcome State Fault Refusal := s.run State.dormantEntry
def execFabPgAssert (s : State) : Host.Outcome State Fault Refusal := s.run State.fabPgAssert
def execFabPgTimeout (s : State) : Host.Outcome State Fault Refusal := s.run State.fabPgTimeout
def execFabPgDeassert (s : State) : Host.Outcome State Fault Refusal := s.run State.fabPgDeassert
def execWakeSelftestDone (failed : Nat) (lodes : List Nat) (s : State) : Host.Outcome State Fault Refusal :=
  s.run fun s => s.selftestDone failed lodes
def execAttestDone (s : State) : Host.Outcome State Fault Refusal := s.run State.attestDone
def execPowerOnReset (mapsel ddrNone : Bool) (s : State) : Host.Outcome State Fault Refusal :=
  s.run fun s => s.powerOnReset 0 mapsel ddrNone false
/-- PORST_N is held low: FAB_EN goes low (R501), and the device waits for POWER_ON_RESET. -/
def execPorstAssert (s : State) : Host.Outcome State Fault Refusal :=
  s.run fun s => s.powerOnReset 0 (s.reg O.matrixMapsel == 1) s.sys.ddrNone true
def execSysReset (w : Who) (v : Nat) (s : State) : Host.Outcome State Fault Refusal :=
  s.run fun s => s.writeSysReset w v
def execBootComplete (s : State) : Host.Outcome State Fault Refusal := s.run State.bootComplete
def execKeeperRestartDone (s : State) : Host.Outcome State Fault Refusal := s.run State.restartDone
def execPromote (w : Who) (v : Nat) (s : State) : Host.Outcome State Fault Refusal := s.run fun s => s.writePromote w v
def execPromotionRestoreStart (s : State) : Host.Outcome State Fault Refusal := s.run State.promotionRestore
def execWarmHealthUpdate (s : State) : Host.Outcome State Fault Refusal := s.run State.warmHealth
def execWatchdogExpiry (core : Nat) (s : State) : Host.Outcome State Fault Refusal :=
  s.runIn core 2 fun s => s.watchdog core
def execLedgerCutReq (w : Who) (v : Nat) (s : State) : Host.Outcome State Fault Refusal :=
  s.run fun s => s.writeCutReq w v

end Sys2Proof.Machine
end

