-- ==== Sys2Proof/Machine/Access.lean ====
section
/-! DEFINITION. Reads and writes of dictionary entries, whoever makes them (chapter 11): what an element reads as, the
one table from an index to what a write does, and the maintenance tokens. -/

namespace Sys2Proof.Machine

/-! ## Maintenance tokens (R403, R404) -/

/-- Domains of a bitmap. -/
def domains (v : Nat) : List Nat := (List.range 8).filter fun d => bit v d

/-- MAINT.TOKEN_TAKE: every named token, or none. -/
def tokenTakeOp (h v : Nat) (s : State) : State × Nat :=
  if (domains v).all fun d => s.tokFree d h then
    ((domains v).foldl (fun s d =>
      { (s.tokTake d h) with hdp := { s.hdp with tokWrite := SMap.set 0 s.hdp.tokWrite d 1 } }) s, 0)
  else (s, 0x0402)

/-- Token `d` taken by a write of holder `h` is given back; one that an activity also holds stays with it. -/
def State.tokBack (s : State) (h d : Nat) : State :=
  if s.reg O.maintTokenHolder d = h && SMap.get 0 s.hdp.tokWrite d = 1 then
    let s := { s with hdp := { s.hdp with tokWrite := SMap.set 0 s.hdp.tokWrite d 0 } }
    if s.acting d then s else s.tokDrop d
  else s

/-- MAINT.TOKEN_RELEASE. -/
def tokenReleaseOp (h v : Nat) (s : State) : State × Nat := ((domains v).foldl (fun s d => s.tokBack h d) s, 0)

/-! ## Values that a read computes -/

/-- A source map element: the followers of a major grain read 0xFFFF_FFFE (R158). -/
def State.srcRead (s : State) (idx a : Nat) : Nat :=
  if idx = O.mapLiveSrc then s.liveSrc a
  else if s.followerPend a then 0xFFFFFFFE else s.reg idx a

/-- GROUP.LINE_CTX: 0xFFFE on a follower. -/
def State.lineCtxRead (s : State) (a : Nat) (live : Bool) : Nat :=
  if live then (if s.follower a then 0xFFFE else s.lreg O.groupLineCtx a)
  else if s.followerPend a then 0xFFFE else s.reg O.groupLineCtx a

/-- Lines of context `c` that are ALIGNED. -/
def State.alignedLines (s : State) (c : Nat) : List Nat :=
  (s.liveLines c).filter fun a => s.reg O.groupLineState a == 2

/-- Greatest minus least lateness over the ALIGNED lines of a context. -/
def State.skew (s : State) (c : Nat) : Nat :=
  match (s.alignedLines c).map fun a => i48 (s.reg O.groupLineLateness a) with
  | [] => 0
  | x :: l => (l.foldl max x - l.foldl min x).toNat

/-- Seconds left in WAIT_RESTORE. -/
def State.wtrLeft (s : State) (i : Nat) : Nat :=
  if s.inState i = 5 then s.reg O.refWtr - (s.tick - (s.input i).t0) / secTicks 1 else 0

/-- Values that stand in no register of their own: `none` for every other object. -/
def State.derived (s : State) (idx e : Nat) : Option Nat :=
  if idx = O.sysMode then some (if s.sys.recovery then 0 else s.sys.mode.code)
  else if idx = O.fwTrialLeft then some s.trialLeft
  else if idx = O.secAttest24h then some s.signed24.length
  else if idx = O.mapChanges then some s.changes.length
  else if idx = O.mapReleases then some s.releases.length
  else if idx = O.groupSkew then some (s.skew e)
  else if idx = O.groupLines then some (s.liveLines e).length
  else if idx = O.groupAligned then some (s.alignedLines e).length
  else if idx = O.groupFreeWords then some (s.freeWords e)
  else if idx = O.groupDdrUnits then some s.ddrUnits
  else if idx = O.refInputQl then some (s.qlOf e)
  else if idx = O.refWtrLeft then some (s.wtrLeft e)
  else if idx = O.refFsn then some s.clk.fsn
  else if idx = O.timeNow then some s.nowTime
  else if idx = O.timeIncrement then some (if e = 0 then s.tim.inc / 2 ^ 32 else s.tim.inc % 2 ^ 32)
  else if idx = O.timeServoState then some s.servoState
  else if idx = O.timeLaunchPending then some s.tim.launches.length
  else if idx = O.memOwnerBanks then some (s.ownerBanks e).length
  else if idx = O.matrixOutstanding then some (s.outstanding e)
  else if idx = O.eventSummary then some s.summary
  else if idx = O.flashSize then some (if s.sys.booting then 0 else Config.flashSize)
  else if idx = O.flashProtocol then some (if s.sys.booting then 0 else b2n Config.flashOctal)
  else none

/-- POWER.TJ is what the sensor shows: a free value in its range; POWER.TJ_MAX never falls (log entry 6). -/
def State.tempRead (s : State) (idx : Nat) : State × Nat :=
  let t : Int := (s.freeVal 8 % 4001 : Nat) - 1600
  let m := max t (i48 (s.reg O.powerTjMax))
  let s := (s.freeTaken).setReg O.powerTjMax 0 (u48 m)
  (s, u48 (if idx = O.powerTj then t else m))

/-- Objects that a read with the LIVE flag reads in effect (R383, R519). -/
def pendingObj (o : Obj) : Bool := o.acc == .rwe || o.idx == O.grainSize || o.idx == O.portRole

/-- The value of an element. -/
def State.valueOf (s : State) (o : Obj) (e : Nat) (live : Bool) : Nat :=
  if o.idx = O.mapDraftSrc || o.idx = O.mapShadowSrc || o.idx = O.mapLiveSrc then s.srcRead o.idx e
  else if o.idx = O.groupLineCtx then s.lineCtxRead e live
  else if live && pendingObj o then s.lreg o.idx e
  else (s.derived o.idx e).getD (s.reg o.idx e)

/-- The log that an object shows, and the bytes of an entry (R325, R372, R428, R444, Table 8-5). -/
def State.logOf (s : State) (idx : Nat) : Option (List Nat) :=
  if idx = O.memEccLog then some s.mem.ecc
  else if idx = O.matrixErrLog then some s.mtx.errs
  else if idx = O.assayLog then some s.asy.log
  else if idx = O.tallySamples then some s.tal.samples
  else if idx = O.timeLaunchDone then some s.tim.done
  else none

def State.setLog (s : State) (idx : Nat) (l : List Nat) : State :=
  if idx = O.memEccLog then { s with mem := { s.mem with ecc := l } }
  else if idx = O.matrixErrLog then { s with mtx := { s.mtx with errs := l } }
  else if idx = O.assayLog then { s with asy := { s.asy with log := l } }
  else if idx = O.tallySamples then { s with tal := { s.tal with samples := l } }
  else { s with tim := { s.tim with done := l } }

/-- One element as a read returns it, and what the read does. -/
def State.readElem (s : State) (o : Obj) (e : Nat) (live : Bool) : State × List Byte :=
  if o.idx = O.grainChanged || o.idx = O.groupLineChanged then readClear o.idx e o.ty.width s
  else if o.idx = O.powerTj || o.idx = O.powerTjMax then
    let r := s.tempRead o.idx
    (r.1, toBytes o.ty.width r.2)
  else if o.idx = O.tallyCount then s.countRead e
  else if o.idx = O.tallyTraceData then s.traceRead e
  else (s, toBytes o.ty.width (s.valueOf o e live))

/-- `n` elements of an entry from element `k` on, in one operation (R387, R398). -/
def State.readRange (s : State) (o : Obj) (t : Tgt) (k n : Nat) (live : Bool) : State × List Byte :=
  match s.logOf o.idx with
  | some l =>
    let r := logTake l o.ty.width k n
    (s.setLog o.idx r.2, r.1)
  | none =>
    if o.idx = O.tallyCount && 1 < n then s.countRange t k n
    else (List.range n).foldl (fun (r : State × List Byte) i =>
      let x := r.1.readElem o (t.elem (k + i)) live
      let b := match t.conv with
        | .one => toBytes 1 1
        | .grains => toBytes 4 (to48 (ofBytes x.2))
        | _ => x.2
      (x.1, r.2 ++ b)) (s, [])

/-! ## The gates by entry (Table 11-6) -/

/-- Checks of a read of `n` elements from element `k`. -/
def State.readCheck (s : State) (w : Who) (t : Tgt) (k n : Nat) : Nat :=
  if !bit (s.rights w) 0 then 0x0204
  else if t.code ≠ 0 then t.code
  else if t.cnt < k + n || n = 0 then 0x0103
  else s.readGate w t.idx (t.elem k)

/-- Checks of a write of `n` elements from element `k`. -/
def State.writeCheck (s : State) (w : Who) (t : Tgt) (k n : Nat) : Nat :=
  if !bit (s.rights w) (rightOf t.idx) then 0x0204
  else if t.code ≠ 0 then t.code
  else if t.cnt < k + n || n = 0 then 0x0103
  else s.gate w t.idx (t.elem k)

/-- A read of `n` elements of an entry. -/
def State.readEntry (s : State) (w : Who) (t : Tgt) (k n : Nat) (live : Bool) : State :=
  let c := s.readCheck w t k n
  if c ≠ 0 then s.answer c
  else if s.romOnly t.idx then s.answer 0x0505
  else
    match objAt t.idx with
    | none => s.answer 0x0101
    | some o =>
      let r := s.readRange o t k n live
      (r.1.give r.2).answer 0

/-- A read of an entry's descriptor, which every entry allows (R384); the request carries the VALUE `v`. -/
def State.describe (s : State) (w : Who) (t : Tgt) (k : Nat) (v : List Byte) : State :=
  if !bit (s.rights w) 0 then s.answer 0x0204
  else if t.code ≠ 0 then s.answer t.code
  else if t.cnt ≤ k then s.answer 0x0103
  else
    match objAt t.idx with
    | none => s.answer 0x0101
    | some o =>
      if s.islandDead o.idx then s.answer 0x0506
      else if v ≠ [] then s.answer 0x0301
      else if s.romOnly o.idx then s.answer 0x0505
      else (s.give (entryDesc o t.cnt (t.elem 0))).answer 0

/-! ## SEC.KEY (R392, R394, R395) -/

/-- Session `k` ends: its tokens taken by writes, its subscription and its bulk transfers (R395). -/
def State.sessionDrop (s : State) (k : Nat) : State :=
  let s := foldRange 8 (fun s d => s.tokBack k d) s
  let x := s.session k
  let s := s.setSession k { x with sub := 0, queue := [], lost := false }
  { s with hdp := { s.hdp with bulk := s.hdp.bulk.filter fun b => b.ses != k } }

/-- SEC.KEY: the key is set and its ceiling is 0 with it; a key that is rewritten drops the session and raises
event 508. -/
def secKeyOp (k : Nat) (key : List Byte) (s : State) : State × Nat :=
  let again := s.reg O.secKeyState k = 1
  let s := if again then s.sessionDrop k else s
  let s := s.setSession k { s.session k with key := padBytes 32 key, ceil := 0, floor := 0 }
  let s := s.setReg O.secKeyState k 1
  (if again then s.raise 508 else s, 0)

/-! ## Writes -/

def State.writeTokenTake (s : State) (w : Who) (v : Nat) : State :=
  s.write w O.maintTokenTake 0 v (tokenTakeOp (holderOf w) v)
def State.writeTokenRelease (s : State) (w : Who) (v : Nat) : State :=
  s.write w O.maintTokenRelease 0 v (tokenReleaseOp (holderOf w) v)
def State.writeSecKey (s : State) (w : Who) (k : Nat) (key : List Byte) : State :=
  s.writeBytes w O.secKey k 32 key (secKeyOp k key)

/-- A write of 1 to the JX48 alias of the commit request: a commit in mode 3. -/
def State.writeCommit48 (s : State) (w : Who) (v : Nat) : State :=
  s.write w O.mapCommitReq 0 v fun s =>
    let r := if s.sys.mode = .restore then (s, 0x0402) else s.commitRequest (holderOf w) 3 0
    if r.2 ≠ 0 then (s.setReg O.mapResult 0 r.2, r.2) else r

/-- A write to an object of modes, tokens, firmware and security (0x1000 to 0x12FF). -/
def State.writeSysObj (s : State) (w : Who) (idx e v : Nat) : State :=
  if idx = O.sysModeReq then s.writeModeReq w v
  else if idx = O.sysReset then s.writeSysReset w v
  else if idx = O.maintTokenTake then s.writeTokenTake w v
  else if idx = O.maintTokenRelease then s.writeTokenRelease w v
  else if idx = O.fwStageBegin then s.writeStageBegin w v
  else if idx = O.fwActivate then s.writeActivate w v
  else if idx = O.fwConfirm then s.writeConfirm w v
  else if idx = O.secRevokeKey0 then s.writeRevoke w v
  else if idx = O.secSvnCommit then s.writeSvnCommit w v
  else s.writeCfg w idx e v

/-- A write of `v` to element `e` of an object whose value is a number. -/
def State.writeObj (s : State) (w : Who) (idx e v : Nat) : State :=
  if idx < 0x1300 then s.writeSysObj w idx e v
  else if idx = O.protPromote then s.writePromote w v
  else if idx = O.ledgerCutReq then s.writeCutReq w v
  else if idx = O.matrixRemap then s.writeRemap w v
  else if idx = O.matrixMasterReset then s.writeMasterReset w v
  else if idx = O.eventClear then s.writeEventClear w v
  else if idx = O.eventMask then s.writeEventMask w v
  else if 0x7E00 ≤ idx && idx < 0x8000 then s.writeTallyObj w idx e v
  else s.writeCfg w idx e v

/-- A write of bytes to an object of OCTET type and access WO. -/
def State.writeOctets (s : State) (w : Who) (o : Obj) (e : Nat) (d : List Byte) : State :=
  let n := o.ty.width
  if d.length = 0 || n < d.length then s.refuse w 0x0301
  else if o.idx = O.secKey then s.writeSecKey w e d
  else if o.idx = O.secAttestNonce then s.writeNonce w d
  else if o.idx = O.fwStageSegment then s.writeStageSegment w e d
  else if o.idx = O.ledgerRxSegment then s.writeRxSegment w e d
  else if o.idx = O.ledgerRxSeal then s.writeRxSeal w d
  else if o.idx = O.ledgerJournalRx then s.writeJournalRx w d
  else if o.idx = O.timeLaunch then s.writeLaunch w d
  else s.writeObj w o.idx e (woValue n d)

/-- A write of one element from its bytes. -/
def State.writeElem (s : State) (w : Who) (o : Obj) (t : Tgt) (k : Nat) (d : List Byte) : State :=
  let e := t.elem k
  if shortOk o then s.writeOctets w o e d
  else if d.length ≠ o.ty.width then s.refuse w 0x0301
  else
    let v := ofBytes d
    match t.conv with
    | .plain => s.writeObj w o.idx e v
    | .one => if v = 1 then s.writeObj w o.idx e v else s.refuse w 0x0310
    | .grains => s.writeObj w o.idx e (of48 v)
    | .mode3 => s.writeCommit48 w v

/-- Objects whose checks look at their other elements: in a transfer they see the values that it brings (R397). -/
def joint (i : Nat) : Bool := i == O.groupLineCtx || i == O.groupLineSq

/-- Elements `k` to `k + n - 1` of an entry hold what `v` says. -/
def State.preset (s : State) (o : Obj) (t : Tgt) (k n : Nat) (v : Nat → Nat) : State :=
  foldRange n (fun s i => s.setReg o.idx (t.elem (k + i)) (v i)) s

/-- An element of a transfer is written, its other elements, `rest` from element `k + 1` on, being as the transfer has
them where the checks look at them. -/
def State.writeJoint (s : State) (w : Who) (o : Obj) (t : Tgt) (k : Nat) (d rest : List Byte) : State :=
  if !joint o.idx then s.writeElem w o t k d
  else
    let n := rest.length / o.ty.width
    let r := (s.preset o t (k + 1) n fun i => fld rest (o.ty.width * i) o.ty.width).writeElem w o t k d
    r.preset o t (k + 1) n fun i => s.reg o.idx (t.elem (k + 1 + i))

/-- A write of `n` elements in one operation: every element passes its checks, or nothing is written (R387). -/
def State.writeAll (s : State) (w : Who) (o : Obj) (t : Tgt) (d : List Byte) : Nat → Nat → State → State
  | 0, _, cur => cur.answer 0
  | n + 1, k, cur =>
    let r := cur.writeJoint w o t k (slice d 0 o.ty.width) (d.drop o.ty.width)
    if r.out.status ≠ 0 then s.refuse w r.out.status else s.writeAll w o t (d.drop o.ty.width) n (k + 1) r

/-- A write of the bytes `d` to an entry from element `k` on; `d` is one element, or the elements of a transfer. -/
def State.writeEntry (s : State) (w : Who) (t : Tgt) (k : Nat) (d : List Byte) : State :=
  match objAt t.idx with
  | none =>
    let c := s.writeCheck w t k 1
    s.refuse w c
  | some o =>
    let n := if shortOk o && d.length ≤ o.ty.width then 1 else max 1 (d.length / o.ty.width)
    let c := s.writeCheck w t k n
    if c ≠ 0 then s.refuse w c
    else if n = 1 then s.writeElem w o t k d
    else s.writeAll w o t d n k s

/-! ## The commands -/

/-- REGISTER_WRITE names an entry by its index and its element, or by its subindex where that is what names it. -/
def State.registerWrite (s : State) (w : Who) (idx elem v : Nat) : State :=
  let bySub : Bool := match objAt idx with
    | some o => o.adr != .element
    | none => decide (0x8300 ≤ idx) && decide (idx ≤ 0x8306)
  let t := resolve idx (if bySub then elem else 0)
  let k := if bySub then 0 else elem
  let c := s.writeCheck w t k 1
  if c ≠ 0 then s.refuse w c
  else if 2 ^ (8 * t.width) ≤ v then s.refuse w 0x0301
  else s.writeEntry w t k (toBytes t.width v)

def execSecKeyWrite (w : Who) (slot : Nat) (key : List Byte) (s : State) : Host.Outcome State Fault Refusal :=
  s.run fun s => s.writeSecKey w slot key
def execTokenTake (w : Who) (v : Nat) (s : State) : Host.Outcome State Fault Refusal :=
  s.run fun s => s.writeTokenTake w v
def execTokenRelease (w : Who) (v : Nat) (s : State) : Host.Outcome State Fault Refusal :=
  s.run fun s => s.writeTokenRelease w v
def execRegisterWrite (w : Who) (idx elem v : Nat) (s : State) : Host.Outcome State Fault Refusal :=
  s.run fun s => s.registerWrite w idx elem v

end Sys2Proof.Machine
end

