-- ==== Sys2Proof/Machine/Frame.lean ====
section
/-! DEFINITION. A local frame start, and a commit boundary (R26, R138, R171 to R174, R207, R483; chapters 2 to 6). -/

namespace Sys2Proof.Machine

/-! ## What a port transmits (Tables 2-3 and 2-15) -/

/-- Reserved overhead positions, 256 × row + h. -/
def reservedAt (ver : Nat) : List Nat :=
  let span (q lo hi : Nat) : List Nat := (List.range (hi + 1 - lo)).map fun i => 256 * q + lo + i
  if ver = 2 then span 1 212 224 ++ span 7 161 224 else span 1 111 111 ++ span 7 86 111 ++ span 8 97 115

/-- The Assayer pattern of a reserved overhead word in frame `fsn` (R413). -/
def reservedWord (fsn at_ : Nat) : Nat := fsn % 65536 * 2 ^ 32 + 0xF * 2 ^ 28 + at_ / 256 * 2 ^ 24 + at_ % 256

/-- Position of the first message-channel word. -/
def msgAt (ver : Nat) : Nat := if ver = 2 then 256 * 8 + 97 else 256 * 8 + 1

/-- The overhead words of port `p`'s frame, but for pointers, NJO words and the time channel. -/
def State.frameOvh (s : State) (p : Nat) : SMap Word :=
  let ver := s.txVer p
  let f := s.clk.fsn
  let pref := if s.lreg O.portRole p = 0 then s.prefSent else 0
  let row0 := [0x5A3C9E61C7B2, 0xA5C3619E384D, f, s.hsSent p, s.qlSent p] ++ (if ver = 2 then [pref]
    else []) ++ s.lsSent p
  let row0 := (List.range row0.length).map fun i => (i, row0.getD i 0)
  let rmws := (List.range 8).map fun q => (256 * (q + 1), rmw (q + 1) f)
  let resv := if bit (s.reg O.assayEnable) 2 then (reservedAt ver).map fun a => (a, reservedWord f a) else []
  let msg := (msgAt ver, if s.reg O.linkMsgChannelEn p = 1 then (s.linkP p).msgTxSeq else 0)
  (row0 ++ rmws ++ resv ++ [msg]).foldl (fun m x => SMap.set (0 : Word) m x.1 (BitVec.ofNat 48 x.2)) []

/-- The frame that port `p` has sent, as it stands on its lane (R45 to R49, R59, R60). -/
def State.sendLane (s : State) (p : Nat) : State :=
  let q := s.linkQ p
  let row (k : Nat) : List Nat :=
    (List.range (rowOvh q.ver k)).map fun h => (SMap.get (0 : Word) q.ovh (256 * k + h)).toNat
  let f : LinkFrame := ⟨(List.range 9).map row, q.pay⟩
  let r := laneParts (frameBits q.ver / 405) q.pre q.opts (f.raw q.ver)
  (s.setLinkQ p { q with lane := r.1, laneBefore := q.lane.getLastD 0, pre := r.2 }).send (.lane p r.1)

/-- LINK.TX_EQ in effect from a frame of version `ver`: the four taps of that version follow the value written (R509).
-/
def eqNext (ver old new : Nat) : Nat :=
  if ver = 2 then new / 2 ^ 32 * 2 ^ 32 + old % 2 ^ 32 else old / 2 ^ 32 * 2 ^ 32 + new % 2 ^ 32

/-- A time channel that LINK.TIME_CHANNEL_EN has ended drops its queued frames (Table 15-3). -/
def State.channelEnd (s : State) (p : Nat) : State :=
  if (s.linkP p).chanEnd then (s.setLink p { s.linkP p with chanEnd := false }).dropQueue p else s

/-- Port `p` at a frame start: its transmitter, its negotiation, its equaliser and its overhead. -/
def State.portFrame (s : State) (p : Nat) : State :=
  let l := s.linkP p
  let s := if l.txOn then s.sendLane p else s
  let s := if l.stopAtFrameEnd then
      s.setLink p { l with stopAtFrameEnd := false, txOn := false, carries := false }
    else s
  let s := s.channelEnd p
  let s := if s.running p then s.negFrame p else s
  let on := s.running p && s.islandReady p && decide (3 ≤ s.sys.mode.code)
  let s := s.setLink p { s.linkP p with txOn := on }
  let ovh := if on then s.frameOvh p else []
  let q := s.linkQ p
  let s := s.setLinkQ p { q with eq := if on then eqNext (s.txVer p) q.eq (s.reg O.linkTxEq p) else q.eq
                                 ver := s.txVer p, ovh := ovh, pay := []
                                 opts := if on then [(0, s.reg O.portLaneOpt p)] else []
                                 wframe := [], wtx := if on && s.txVer p = 2 then q.wtx else [] }
  if on then s.setLink p { s.linkP p with msgTxSeq := ((s.linkP p).msgTxSeq + 1) % 65536 } else s

/-- GRAIN.TX_FORCE_AIS acts from this frame (Table 3-10). -/
def State.forceFrame (s : State) : State :=
  (s.entries O.grainTxForceAis).foldl (fun s x => s.setLive O.grainTxForceAis x.1 x.2) (s.clearLive O.grainTxForceAis)

/-- The read side of every elastic store plans the frame (R127); a store that holds nothing shows a fill of 0. -/
def State.esFrame (s : State) : State :=
  let s := (s.entries O.grainEsFill).foldl (fun s x => s.setReg O.grainEsFill x.1 0) s
  s.rx.foldl (fun s x => if s.follower x.1 then s else s.esPlan x.1) s

/-- What the fabric island does at a local frame start. -/
def State.islandFrame (s : State) : State :=
  let s := { s with fab := { s.fab with seen := [] }, tal := { s.tal with on := true } }
  let s := (s.tally 5 1).forceFrame
  let s := s.groupFrame
  let s := s.esFrame
  let s := foldRange 96 (fun s p => s.portFrame p) s
  (s.digestFrame.statusFrame.ledgerFrame.channelsFrame).fillFrame

/-! ## The commit boundary (Table 4-6 steps 4 to 7) -/

/-- Objects whose written value waits for a boundary: RWE and the two of R519. -/
def liveIdx (i : Nat) : Bool :=
  i == O.grainSize || i == O.portRole || (match objAt i with
    | some o => o.acc == .rwe
    | none => false)

/-- Values that the boundary makes effective: index and element, in rising order. -/
def State.dueLive (s : State) : List (Nat × Nat) :=
  let ks := ((s.regs ++ s.live).map Prod.fst).filter fun k => liveIdx (k / 2 ^ 24)
  let m := ks.foldl (fun (m : SMap Unit) k => SMap.insert m k ()) []
  (m.map fun k => (k.1 / 2 ^ 24, k.1 % 2 ^ 24)).filter fun x => s.reg x.1 x.2 != s.lreg x.1 x.2

/-- Pending values become those in effect. -/
def State.bringLive (s : State) : State :=
  let due := s.regs.filter fun kv => liveIdx (kv.1 / 2 ^ 24)
  let keep := s.live.filter fun kv => !liveIdx (kv.1 / 2 ^ 24)
  { s with live := due.foldl (fun m kv => SMap.insert m kv.1 kv.2) keep }

/-- Every element of GROUP.LINE_CTX that names a context whose TYPE becomes NONE reads 0xFFFF (R211). -/
def State.clearCtxLines (s : State) : State :=
  let gone (c : Nat) : Bool := decide (c < 6144) && s.reg O.groupType c == 0 && s.lreg O.groupType c != 0
  (s.entries O.groupLineCtx).foldl (fun s x => if gone x.2 then s.setReg O.groupLineCtx x.1 0xFFFF else s) s

/-- Contexts on DDR4 media that cannot start because long skew is not ON (Table 6-12 step 9). -/
def State.heldCtxs (s : State) : List Nat :=
  if s.reg O.memDdrLsState = 2 then []
  else ((s.entries O.groupType).filter fun x =>
    x.2 != 0 && s.lreg O.groupType x.1 == 0 && s.reg O.groupMedia x.1 == 1).map Prod.fst

/-- Lines and contexts stop and start (R207, R208, R211); `old` is the state before the boundary. -/
def State.groupBoundary (s old : State) : State :=
  let gone := s.grp.lines.filter fun x => !x.2.closing &&
    (s.lreg O.groupLineCtx x.1 != x.2.ctx || s.lreg O.groupType x.2.ctx == 0)
  let s := gone.foldl (fun s x => s.lineStop x.1) s
  let ends := s.grp.ctxs.filter fun x => x.2.kind != 0 && s.lreg O.groupType x.1 == 0
  let s := ends.foldl (fun s x => s.ctxStop x.1) s
  let types := s.lentries O.groupType
  let s := s.marginsDue
  let starts := (types.filter fun x => x.2 != 0 && old.lreg O.groupType x.1 == 0).map Prod.fst
  let fresh := (s.lentries O.groupLineCtx).filter fun x => decide (x.2 < 6144) && s.lreg O.groupType x.2 != 0 &&
    (match SMap.find? s.grp.lines x.1 with
      | some l => l.closing
      | none => true)
  let s := fresh.foldl (fun s x => s.lineStart x.2 x.1) s
  let s := starts.foldl (fun s c => s.ctxStart c) s
  let copy (x : Nat × LineS) : Nat × LineS := (x.1, { x.2 with copy := s.lreg O.groupLineSq x.1 })
  { s with grp := { s.grp with lines := s.grp.lines.map copy } }

/-- A grain position of size `was` takes a new one: its interpreters restart and its ingress tap starts anew (R97,
R123). Its egress side follows in round 2, when the words of the old epoch have left (R172). -/
def State.resize (s : State) (m was : Nat) : State :=
  let s := s.rxRestart m
  { s with fab := { s.fab with resized := SMap.insert s.fab.resized m was }
           prot := { s.prot with taps := s.prot.taps.filter fun x => x.1 / 8 != m } }

/-- Witness streams whose Cooper port a change of roles changes start again (R232). -/
def State.streamsMoved (s : State) (old : List Nat) : State :=
  foldRange 30 (fun s k =>
    if old[k]? = s.witPorts[k]? then s
    else if s.streamState (k + 2) = 0 then s else s.blockLoss (k + 2)) s

/-- Ports whose stop is pending stop; their transmitters complete this frame (R483). -/
def State.stopsDue (s : State) : State :=
  foldRange 96 (fun s p => if (s.linkP p).stopPending then s.portStop p true else s) s

/-- The Shadow becomes the Live map, and the Draft equals it (R157); what the stages and the generators change follows
in rounds 1 and 2 (Table 4-6). `size` holds of egress grains whose position takes a new size. -/
def State.mapBoundary (s : State) (size : Nat → Bool) : State :=
  let was := (s.entries O.mapLiveSrc).filter fun x => decide (x.2 < 122880)
  let now := (s.entries O.mapShadowSrc).filter fun x => decide (x.2 < 122880)
  let gave := now.filterMap fun x =>
    match was.find? fun y => y.1 == x.1 with
    | some y => if size x.1 then some (x.1, 1) else if y.2 = x.2 then none else some (x.1, 2)
    | none => some (x.1, 1)
  let took := (was.filter fun x => !(now.any fun y => y.1 == x.1)).map fun x => (x.1, 3)
  let entries := (gave ++ took.filter fun x => !size x.1).foldl (fun (m : SMap Nat) x => SMap.insert m x.1 x.2) []
  let ports := ((gave ++ took).map fun x => x.1 / 1280).eraseDups
  let again := now.filter fun x => s.grp.cut.contains (s.head x.2) && !size x.1
  let entries := again.foldl (fun (m : SMap Nat) x => SMap.insert m x.1 (SMap.get 2 entries x.1)) entries
  let s := { s with grp := { s.grp with cut := [] } }
  let s := (s.loadStages.putMap O.mapLiveSrc now).putMap O.mapDraftSrc now
  let eps := (s.prot.epochs.filter fun x => !ports.contains x.1) ++ ports.map fun p => (p, s.clk.fsn)
  let flag (r : DRec) : DRec :=
    if r.kind ≠ 0 && r.plane == s.plane && r.place == s.place && ports.contains r.port && !r.done && !r.aged then
      { r with epoch := true } else r
  let newly := s.prot.recs.filter fun r => flag r != r && !r.epoch
  let s := { s with
    map := { s.map with liveBr := s.map.shadowBr }
    fab := { s.fab with newIts := true, newEts := true, entries := entries }
    prot := { s.prot with epochs := eps, digestDue := true, recs := s.prot.recs.map flag } }
  s.bump O.protDigestStats 5 48 newly.length

/-- The figures of the Live map (Table 4-3), of its unplaced branches too (R149), and the egress grains left unplaced
(R156). -/
def State.mapFigures (s : State) : State :=
  let c := 384 * s.lodes.length
  let br := s.liveBrs
  let s := (s.setReg O.fabricCapacity 0 c).setReg O.fabricExcess 0 (excess br c)
  let s := foldRange 96 (fun s p => (s.setReg O.fabricBranchIn p (bIn br p)).setReg O.fabricBranchOut p (bOut br p)) s
  let was := s.reg O.mapUnplaced
  let now := s.map.shadowOut.foldl (fun v a => octPut 15360 v a true) 0
  let s := s.setReg O.mapUnplaced 0 now
  if (was = 0) = (now = 0) then s else s.raise 387

/-- The journal's entry of a boundary: the Live changes, and the values that become effective (R252); long ones span
several entries of at most 4,096 items (log entry 46). -/
def State.journalBoundary (s : State) (was : List (Nat × Nat)) (due : List (Nat × Nat)) : State :=
  let now := s.entries O.mapLiveSrc
  let put := (now.filter fun x => !was.contains x).map fun x => item O.mapDraftSrc x.1 x.2
  let out := (was.filter fun x => !(now.any fun y => y.1 == x.1)).map fun x => item O.mapDraftSrc x.1 noSrc
  let vals := due.map fun x => item x.1 x.2 (s.reg x.1 x.2)
  let items := put ++ out ++ vals
  foldRange (max 1 ((items.length + 4095) / 4096)) (fun s k => s.journal 2 s.clk.fsn ((items.drop (4096 * k)).take
    4096).flatten) s

/-- SERVICE is entered at this boundary: at the host's request, or as the boundary of RESTORE's own commit (R452,
Table 14-2). -/
def State.serviceBoundary (s : State) : State :=
  let own := s.sys.restoreCommit && s.sys.mode == .restore && s.map.origin == 3
  let asked := s.sys.serviceReq && (s.sys.mode == .stage || s.sys.mode == .isolate)
  if own then
    let s := (s.serviceEntry.enter .service).restoreOver.setResume 0
    if s.sys.promoting ≠ 0 then s.promoteStep 7 else s
  else if asked then ({ s with sys := { s.sys with serviceReq := false } }.serviceEntry.enter .service).setResume 0
  else s

/-- The boundary of the armed commit is due: its frame has come, or a step of the FSN has passed it (R170). -/
def State.boundaryDue (s : State) : Bool :=
  let d := dist48 s.clk.fsn s.map.f
  s.sys.fabOn && s.clk.round == 0 && s.reg O.mapState == 2 && !s.map.resolve && !s.map.drain &&
    ((d == 0 && s.map.loaded) || decide (d < 0))

/-- Round 0 of the boundary frame. -/
def State.boundary (s : State) : State :=
  let s := s.clearCtxLines
  let due := s.dueLive
  let held := s.heldCtxs
  let old := s
  let s := s.bringLive.rolesChanged
  let s := held.foldl (fun s c => s.setLive O.groupType c 0) s
  let s := { s with sys := { s.sys with ddrHeld := !held.isEmpty } }
  let sizes := (due.filter fun x => x.1 == O.grainSize).map Prod.snd
  let s := sizes.foldl (fun s m => s.resize m (old.lreg O.grainSize m)) s
  let s := s.groupBoundary old
  let s := s.streamsMoved old.witPorts
  let s := s.mapBoundary fun a => sizes.contains (a / 8)
  let s := (s.mapFigures.setReg O.mapRecompute 0 0).stopsDue
  let s := s.journalBoundary (old.entries O.mapLiveSrc) due
  let s := s.serviceBoundary
  let s := (s.pendingDrain.shortClear.placeLost).tally 6 1
  { s with map := { s.map with loaded := true, drain := true, lodeDue := false }
           led := { s.led with cutNext := s.led.cutNext || bit (s.reg O.ledgerCutMode) 1 } }

/-- COMMIT_BOUNDARY: what FRAME_START has not found due. -/
def State.commitBoundary (s : State) : State := if s.boundaryDue then s.boundary else s

/-- A local frame starts (R26, R138). A boundary that is due in it is taken before anything that comes later in the same
cycle (R474, log entry 29). -/
def State.frameStart (s : State) (phase : List (Nat × Int)) : State :=
  let s := { s with clk := { base := s.clk.base + 38880, round := 0, fsn := (s.clk.fsn + 1) % M48 } }
  let s := (s.timeFrame).refFrame phase
  let s := s.flashFrame.restoreCheck.promoteFrame.watchFrame
  if s.sys.fabOn then s.islandFrame.commitBoundary else s.channelsFrame

/-- FABRIC_DRAINED: 768 cycles after the boundary the commit ends with success (Table 4-6 step 7). A commit of the
JX96's own repairs is no request, and leaves MAP.RESULT. -/
def State.drained (s : State) : State :=
  if s.map.drain && 2 ≤ s.clk.round && s.sys.fabOn then
    let own := s.ownCommit
    let h := s.map.holder
    let s := s.bump O.mapEpoch 0 32
    let s := (s.setReg O.mapLiveFsn 0 s.clk.fsn).setReg O.mapState 0 0
    let s := if own then s else s.setReg O.mapResult 0 0
    let s := { s with map := { s.map with drain := false, loaded := false, holder := 0xFF } }
    let s := if h = 0xFF then s else s.actEnd 0
    -- a Lode that failed after the boundary reroutes now (R155 step 1), contexts that long skew now lets start do so
    let due := s.map.lodeDue
    let s := ({ s with map := { s.map with lodeDue := false } }).raise 384
    s.repairNext due false
  else s

/-! ## The commands -/

def execFrameStart (phase : List (Nat × Int)) (s : State) : Host.Outcome State Fault Refusal :=
  s.run fun s => s.frameStart phase
def execCommitBoundary (s : State) : Host.Outcome State Fault Refusal := s.run State.commitBoundary
def execFabricDrained (s : State) : Host.Outcome State Fault Refusal := s.run State.drained

end Sys2Proof.Machine
end

