-- ==== Sys2Proof/Machine/HDP.lean ====
section
/-! DEFINITION. The Huant Dictionary Protocol: authentication, sessions, bulk transfers, subscriptions and notification
(R388 to R401). -/

namespace Sys2Proof.Machine

/-! ## Answers -/

/-- Statistics of HDP.STATS. -/
def State.hdpStat (s : State) (k n : Nat) : State := s.bump O.hdpStats k 48 n

/-- A response to `h`: it carries the request's SESSION, SEQ, XFER, INDEX, SUBINDEX and ELEMENT (R390). -/
def Hdp.response (h : Hdp) (status more offset total : Nat) (v : List Byte) : Hdp :=
  { h with flags := flagResponse + more, offset := offset, total := total, status := status, value := v }

/-- Back to where a message came from. -/
def Encap.back : Encap → Encap
  | .raw dst src etype => .raw src dst etype
  | .udp dst src dstIp srcIp dstPort srcPort => .udp src dst srcIp dstIp srcPort dstPort

/-- One response is sent under `key` to the source addresses of its request, in its encapsulation. -/
def State.respond (s : State) (port : Nat) (enc : Encap) (key : List Byte) (r : Hdp) : State :=
  let m := r.wire (macOf key r.bytes)
  let s := (s.sendPort port (hdpBytes enc m.length) (.hdp port (Encap.back enc) m)).hdpStat 1 1
  if r.status = 0 then s else s.hdpStat 2 1

/-- The answer to a request that is served whole: what the operation left as status and value. -/
def State.respondOut (s : State) (port : Nat) (enc : Encap) (key : List Byte) (h : Hdp) : State :=
  s.respond port enc key (h.response s.out.status 0 0 0 (if s.out.status = 0 then s.out.value else []))

/-- A message is discarded: counted, and raised when it failed authentication or was a replay (R390, R393). -/
def State.discard (s : State) (k : Nat) : State :=
  let s := s.hdpStat k 1
  if k = 3 then s else s.raiseLim 507 0 (secTicks 1)

/-! ## READ and WRITE -/

/-- READ: a value or element, or a descriptor. -/
def State.hdpReadOp (s : State) (h : Hdp) : State :=
  let t := resolve h.index h.sub
  let w := Who.ses h.session
  if bit h.flags 5 then s.describe w t h.elem h.value
  else
    let c := s.readCheck w t h.elem 1
    if c = 0 && h.value ≠ [] then s.answer 0x0301 else s.readEntry w t h.elem 1 (bit h.flags 4)

/-- WRITE: a value or element. -/
def State.hdpWriteOp (s : State) (h : Hdp) : State :=
  let t := resolve h.index h.sub
  let w := Who.ses h.session
  let c := s.writeCheck w t h.elem 1
  if c ≠ 0 then s.answer c
  else
    match objAt t.idx with
    | none => s.answer 0x0101
    | some o => s.writeElem w o t h.elem h.value

/-! ## Bulk transfers (R396 to R398) -/

/-- Open transfers of a session. -/
def State.openBulk (s : State) (k : Nat) : List Bulk := s.hdp.bulk.filter fun b => b.ses == k && b.closed.isNone

/-- The transfer of a session with a number. -/
def State.bulkAt (s : State) (k x : Nat) : Option Bulk := s.hdp.bulk.find? fun b => b.ses == k && b.xfer == x

def State.dropBulk (s : State) (k x : Nat) : State :=
  { s with hdp := { s.hdp with bulk := s.hdp.bulk.filter fun b => !(b.ses == k && b.xfer == x) } }

/-- A transfer takes its place in the list; of the complete ones a session keeps the last. -/
def State.putBulk (s : State) (b : Bulk) : State :=
  let keep (y : Bulk) : Bool := !(y.ses == b.ses && (y.xfer == b.xfer || (b.closed.isSome && y.closed.isSome)))
  { s with hdp := { s.hdp with bulk := s.hdp.bulk.filter keep ++ [b] } }

/-- TOTAL bytes are a whole number of elements, which the entry has (R396); `n` elements. -/
def bulkCount (t : Tgt) (total : Nat) : Option Nat :=
  match objAt t.idx with
  | none => none
  | some o =>
    let w := o.ty.width
    if total = 0 || 65536 < total then none
    else if shortOk o && total ≤ w then some 1
    else if total % w = 0 then some (total / w) else none

/-- The segments of a READ_BULK response. -/
def bulkSegments (h : Hdp) (v : List Byte) : List Hdp :=
  (List.range ((v.length + 1023) / 1024)).map fun i =>
    h.response 0 (if 1024 * (i + 1) < v.length then flagMore else 0) (1024 * i) v.length (slice v (1024 * i) 1024)

/-- READ_BULK: the values in force when it is served, in one operation. -/
def State.hdpReadBulk (s : State) (port : Nat) (enc : Encap) (key : List Byte) (h : Hdp) : State :=
  let t := resolve h.index h.sub
  let w := Who.ses h.session
  let s :=
    if !bit (s.rights w) 0 then s.answer 0x0204
    else if 4 ≤ (s.openBulk h.session).length then s.answer 0x0D04
    else if t.code ≠ 0 then s.answer t.code
    else match bulkCount t h.total with
      | none => s.answer 0x0103
      | some n =>
        let c := s.readCheck w t h.elem n
        if c = 0 && h.value ≠ [] then s.answer 0x0301 else s.readEntry w t h.elem n (bit h.flags 4)
  if s.out.status ≠ 0 then s.respondOut port enc key h
  else (bulkSegments h s.out.value).foldl (fun s r => s.respond port enc key r) s

/-- The last segment is in: the transfer is applied whole, and its outcome is the answer. -/
def State.bulkApply (s : State) (b : Bulk) : State :=
  let s := s.writeEntry (.ses b.ses) (resolve b.idx b.sub) b.elem b.got
  s.putBulk { b with closed := some s.out.status }

/-- A segment in order joins its transfer. -/
def State.bulkJoin (s : State) (b : Bulk) (h : Hdp) : State :=
  let more := bit h.flags 6
  let n := b.got.length + h.value.length
  if h.total ≠ b.total || (more && (h.value.length ≠ 1024 || b.total ≤ n)) || (!more && n ≠ b.total)
    then s.answer 0x0301
  else
    let b := { b with got := b.got ++ h.value, last := s.tick, lastSeg := h.offset }
    if more then (s.putBulk b).answer 0 else s.bulkApply b

/-- The checks of a segment that Table 11-6 places before those of its OFFSET; `first` opens a transfer. -/
def State.bulkGate (s : State) (h : Hdp) (first : Bool) : Nat :=
  let t := resolve h.index h.sub
  let w := Who.ses h.session
  if !bit (s.rights w) (rightOf t.idx) then 0x0204
  else if first && decide (4 ≤ (s.openBulk h.session).length) then 0x0D04
  else if t.code ≠ 0 then t.code
  else match bulkCount t h.total with
    | none => 0x0103
    | some n => s.writeCheck w t h.elem n

/-- A segment of no open transfer: the first of one, or lost. -/
def State.bulkFirst (s : State) (h : Hdp) : State :=
  let c := s.bulkGate h (h.offset == 0)
  if c ≠ 0 then s.answer c
  else if h.offset ≠ 0 then s.answer 0x0D03
  else s.bulkJoin ⟨h.session, h.xfer, h.index, h.sub, h.elem, h.total, [], s.tick, 0, none⟩ h

/-- WRITE_BULK: one segment (R396, R397). -/
def State.hdpWriteBulk (s : State) (h : Hdp) : State :=
  match s.bulkAt h.session h.xfer with
  | none => s.bulkFirst h
  | some b =>
    match b.closed with
    | some c =>
      if h.offset = b.lastSeg then s.answer c
      else if h.offset = 0 then (s.dropBulk b.ses b.xfer).bulkFirst h
      else s.bulkFirst h
    | none =>
      let c := s.bulkGate h false
      if c ≠ 0 then s.answer c
      else if s.elapsed b.last (secTicks 1 + 1) then (s.dropBulk b.ses b.xfer).answer 0x0D03
      else if h.offset = b.lastSeg then s.answer 0
      else if h.offset = b.got.length then s.bulkJoin b h
      else (s.dropBulk b.ses b.xfer).answer 0x0D02

/-- A gap of more than 1 s aborts a transfer. -/
def State.bulkTimeout (s : State) (k x : Nat) : State :=
  match s.bulkAt k x with
  | none => s
  | some b => if b.closed.isNone && s.elapsed b.last (secTicks 1 + 1) then s.dropBulk k x else s

/-! ## SUBSCRIBE, COMMIT and ABORT (R399, R401) -/

/-- SUBSCRIBE: the bitmap replaces the session's previous one, and notifications go where it came from. -/
def State.hdpSubscribe (s : State) (port : Nat) (enc : Encap) (h : Hdp) : State :=
  if !bit (s.rights (.ses h.session)) 0 then s.answer 0x0204
  else if h.value.length ≠ 64 then s.answer 0x0301
  else if s.sys.recovery then s.answer 0x0505
  else
    let x := s.session h.session
    let b := ofBytes h.value
    (s.setSession h.session { x with sub := b, subPort := port, subEnc := Encap.back enc, lost := x.lost && b != 0,
                                     queue := x.queue.filter fun r => octBit 64 b r.ev }).answer 0

/-- COMMIT names its target by INDEX. -/
def State.hdpCommit (s : State) (h : Hdp) : State :=
  let w := Who.ses h.session
  if !bit (s.rights w) 2 then s.answer 0x0204
  else if h.index = 0x4000 then s.writeCommitReq w 1
  else if h.index = O.fwStageSegment then s.fwTarget w (fwCommitOp h.session)
  else s.answer 0x0104

/-- ABORT names its target by INDEX; 0x0000 with a transfer number closes that bulk transfer. -/
def State.hdpAbort (s : State) (h : Hdp) : State :=
  let w := Who.ses h.session
  if !bit (s.rights w) 2 then s.answer 0x0204
  else if h.index = 0x4000 then s.abortMap w
  else if h.index = O.fwStageSegment then s.fwTarget w (fwAbortOp h.session)
  else if h.index = 0 && h.xfer ≠ 0 then
    match s.bulkAt h.session h.xfer with
    | some b => if b.closed.isNone then (s.dropBulk h.session h.xfer).answer 0 else s.answer 0x0D03
    | none => s.answer 0x0D03
  else s.answer 0x0104

/-! ## Authentication and sequence numbers (R391 to R394) -/

/-- The one request accepted while slot 0 is EMPTY. -/
def firstKey (h : Hdp) (mac : List Byte) : Bool :=
  h.op == 2 && h.session == 0 && h.index == O.secKey && h.sub == 0 && h.elem == 0 && mac == List.replicate 32 0

/-- The request is authenticated. -/
def State.authentic (s : State) (h : Hdp) (m : List Byte) : Bool :=
  if s.reg O.secKeyState 0 = 0 then firstKey h (hdpMac m)
  else decide (h.session < 8) && s.reg O.secKeyState h.session == 1 &&
    hmac (s.session h.session).key (m.take (m.length - 32)) == hdpMac m

/-- The SEQ is one that the session may accept (R393, R394). -/
def State.fresh48 (s : State) (h : Hdp) : Bool :=
  let x := s.session h.session
  decide (s.reg O.hdpSessionSeq h.session < h.seq + 64) && !x.win.contains h.seq && decide (x.floor ≤ h.seq)

/-- The SEQ lies within 65,536 of the stored ceiling, or above it. -/
def State.nearCeiling (s : State) (h : Hdp) : Bool := decide ((s.session h.session).ceil ≤ h.seq + 65536)

/-- The request is accepted: its SEQ is noted, and the session is not idle. -/
def State.accept (s : State) (h : Hdp) : State :=
  let x := s.session h.session
  let top := max h.seq (s.reg O.hdpSessionSeq h.session)
  let win := (h.seq :: x.win).filter fun q => decide (top < q + 64)
  ((s.setSession h.session { x with win := win, lastTick := s.tick, idle := false }).setReg O.hdpSessionSeq h.session
    top).hdpStat 0 1

/-- An accepted request is served and answered, under the key that authenticated it. -/
def State.serve (s : State) (port : Nat) (enc : Encap) (h : Hdp) : State :=
  let key := if s.reg O.secKeyState 0 = 0 then [] else (s.session h.session).key
  let s := s.accept h
  if h.op = 3 then s.hdpReadBulk port enc key h
  else
    let s := if h.op = 1 then s.hdpReadOp h
      else if h.op = 2 then s.hdpWriteOp h
      else if h.op = 4 then s.hdpWriteBulk h
      else if h.op = 5 then s.hdpSubscribe port enc h
      else if h.op = 6 then s.hdpCommit h
      else if h.op = 7 then s.hdpAbort h
      else s.answer 0x0104
    let total := if h.op = 4 then h.total else 0
    let off := if h.op = 4 then h.offset else 0
    s.respond port enc key (h.response s.out.status 0 off total (if s.out.status = 0 && h.op = 1
      then s.out.value else []))

/-- The right that a request needs (R391): the check that stands before that of R393. -/
def Hdp.right (h : Hdp) : Nat :=
  if h.op = 2 || h.op = 4 then rightOf (resolve h.index h.sub).idx else if h.op = 6 || h.op = 7 then 2 else 0

/-- A well-formed request: authentication, sequence number, ceiling, service. A request that arrives while a new
ceiling is being written waits for it; a 17th unanswered request is refused. -/
def State.takeIn (s : State) (port : Nat) (enc : Encap) (h : Hdp) (m : List Byte) : State :=
  if !s.authentic h m then s.discard 4
  else if !s.fresh48 h then s.discard 5
  else
    let x := s.session h.session
    if x.waiting ≠ [] || s.nearCeiling h then
      if 16 ≤ x.waiting.length then
        (s.answer (if bit (s.rights (.ses h.session)) h.right then 0x0D04 else 0x0204)).respondOut port enc x.key h
      else s.setSession h.session { x with waiting := x.waiting ++ [(port, enc, m)] }
    else s.serve port enc h

/-- The message is addressed to the port: Ethertype HDP.ETYPE and HDP.MAC, or HDP.UDP_PORT and HDP.IPV6, in an
encapsulation that HDP.ENCAP enables (R388). -/
def State.addressed (s : State) (port : Nat) : Encap → Bool
  | .raw dst _ etype => bit (s.reg O.hdpEncap port) 0 && etype == s.reg O.hdpEtype && dst == s.reg O.hdpMac port
  | .udp _ _ dstIp _ dstPort _ =>
    bit (s.reg O.hdpEncap port) 1 && dstPort == s.reg O.hdpUdpPort && s.reg O.hdpIpv6 port != 0 &&
      dstIp == s.reg O.hdpIpv6 port

/-- The Keeper serves what arrives at a port under these addresses. -/
def State.served (s : State) (port : Nat) (enc : Encap) : Bool :=
  !s.sys.booting && !s.sys.restarting && s.portUp port && s.addressed port enc

/-- A response comes from the spare: it carries the MAC of the exporter's session (R392). -/
def State.spareSaid (s : State) (h : Hdp) (m : List Byte) : Bool :=
  h.session == Config.spareSession && macOf s.spareKey (m.take (m.length - 32)) == hdpMac m

/-- A message arrives. One that is malformed is discarded, whatever command brings it; an operation of another command
is not taken by this one. A response goes to the exporter, if to anyone. -/
def State.hdpIn (s : State) (ops : List Nat) (port : Nat) (enc : Encap) (m : List Byte) : State :=
  if !s.served port enc then s
  else
    match hdpParse m with
    | none => s.discard 3
    | some h =>
      if !ops.contains h.op then s
      else if bit h.flags 7 then (if s.spareSaid h m then s.spareAnswer h else s.discard 4)
      else s.takeIn port enc h m

/-- The flash write of a session's new ceiling is complete; the requests that waited are taken in order (R394). -/
def State.ceilingWritten (s : State) (k : Nat) : State :=
  let x := s.session k
  match x.waiting with
  | [] => s
  | r :: l =>
    let s := s.setSession k { x with waiting := [], ceil := min ((hdpFields r.2.2).seq + 2 ^ 24) (2 ^ 48 - 1) }
    (r :: l).foldl (fun s q => s.takeIn q.1 q.2.1 (hdpFields q.2.2) q.2.2) s

/-! ## Idle sessions and NOTIFY (R395, R400) -/

/-- No accepted request for HDP.SESSION_IDLE seconds: event 508. -/
def State.sessionIdle (s : State) (k : Nat) : State :=
  let x := s.session k
  if !x.idle && s.elapsed x.lastTick (secTicks (s.reg O.hdpSessionIdle)) then
    let s := s.sessionDrop k
    (s.setSession k { s.session k with idle := true }).raise 508
  else s

/-- A record of Table 11-5. -/
def NRec.bytes (r : NRec) : List Byte := toBytes 2 r.ev ++ toBytes 2 r.count ++ toBytes 12 r.first

/-- NOTIFY: up to 64 records, at most once in 1 ms; OVERFLOW tells that occurrences were dropped. -/
def State.notify (s : State) (k : Nat) : State :=
  let x := s.session k
  if x.sub = 0 || (x.queue.isEmpty && !x.lost) || (x.notified && !s.elapsed x.lastNotify (msTicks 1)) ||
      s.sys.booting || s.sys.restarting then s
  else
    let v := (x.queue.take 64).flatMap NRec.bytes
    let h : Hdp := ⟨8, if x.lost then flagOverflow else 0, k, x.nseq + 1, 0, 0, 0, 0, 0, 0, 0, v⟩
    let y := { x with queue := x.queue.drop 64, lost := false, nseq := (x.nseq + 1) % M48, lastNotify := s.tick,
                      notified := true }
    let m := h.wire (hmac x.key h.bytes)
    ((s.setSession k y).sendPort x.subPort (hdpBytes x.subEnc m.length) (.hdp x.subPort x.subEnc m)).hdpStat 6 1

/-! ## ICMPv6 (R388) -/

/-- The Keeper's configured address of a port whose link is up. -/
def State.ownAddress (s : State) (port target : Nat) : Bool :=
  !s.sys.booting && !s.sys.restarting && s.portUp port && s.reg O.hdpIpv6 port != 0 && s.reg O.hdpIpv6 port == target

/-- Neighbor Advertisement (type 136) with the port's MAC address. -/
def State.neighbor (s : State) (port target : Nat) : State :=
  if s.ownAddress port target then 
    s.sendPort port (etherBytes 72) (.icmp port 136 target (toBytes 6 (s.reg O.hdpMac port)))
  else s

/-- Echo Reply (type 129) with the payload of the request. -/
def State.echo (s : State) (port target : Nat) (payload : List Byte) : State :=
  if s.ownAddress port target then 
    s.sendPort port (etherBytes (48 + payload.length)) (.icmp port 129 target payload)
  else s

/-! ## The commands -/

def execHdpRead (port : Nat) (enc : Encap) (msg : List Byte) (s : State) : Host.Outcome State Fault Refusal :=
  s.runIn port 2 fun s => s.hdpIn [1] port enc msg
def execHdpWrite (port : Nat) (enc : Encap) (msg : List Byte) (s : State) : Host.Outcome State Fault Refusal :=
  s.runIn port 2 fun s => s.hdpIn [2] port enc msg
def execReadBulk (port : Nat) (enc : Encap) (msg : List Byte) (s : State) : Host.Outcome State Fault Refusal :=
  s.runIn port 2 fun s => s.hdpIn [3] port enc msg
def execWriteBulk (port : Nat) (enc : Encap) (msg : List Byte) (s : State) : Host.Outcome State Fault Refusal :=
  s.runIn port 2 fun s => s.hdpIn [4] port enc msg
def execSubscribe (port : Nat) (enc : Encap) (msg : List Byte) (s : State) : Host.Outcome State Fault Refusal :=
  s.runIn port 2 fun s => s.hdpIn [5] port enc msg
/-- The message that brings an ABORT; a COMMIT, or an operation that no request may name, comes the same way. -/
def execBulkAbort (port : Nat) (enc : Encap) (msg : List Byte) (s : State) : Host.Outcome State Fault Refusal :=
  s.runIn port 2 fun s => s.hdpIn [6, 7, 8] port enc msg
def execNotify (k : Nat) (s : State) : Host.Outcome State Fault Refusal := s.runIn k 8 fun s => s.notify k
def execSeqCeilingWritten (k : Nat) (s : State) : Host.Outcome State Fault Refusal :=
  s.runIn k 8 fun s => s.ceilingWritten k
def execSessionIdle (k : Nat) (s : State) : Host.Outcome State Fault Refusal := s.runIn k 8 fun s => s.sessionIdle k
def execBulkSegmentTimeout (k xfer : Nat) (s : State) : Host.Outcome State Fault Refusal :=
  s.runIn k 8 fun s => s.bulkTimeout k xfer
def execNeighborSolicitation (port target : Nat) (s : State) : Host.Outcome State Fault Refusal :=
  s.runIn port 2 fun s => s.neighbor port target
def execEchoRequest (port target : Nat) (payload : List Byte) (s : State) : Host.Outcome State Fault Refusal :=
  s.runIn port 2 fun s => s.echo port target payload

end Sys2Proof.Machine
end

