-- ==== Sys2Proof/Machine/Matrix.lean ====
section
/-! DEFINITION. The bus matrix: its address map, issue, arbitration, what each target does with a transaction, and
responses (R356 to R372, R327, R330, R334, R342, R352, R359, R385, R386). -/

namespace Sys2Proof.Machine

/-! ## The address map (Tables 10-4 and 10-5) -/

/-- Response codes of R357. -/
def rDone : Nat := 0
def rRefused : Nat := 2
def rUnmapped : Nat := 3

/-- The map of Table 10-4, REMAP applied: T1 stands in for T0 and T0 for T1. -/
def decodeZone (a : Nat) (swap : Bool) : Nat :=
  let low := decide (a < 0x200000)
  if low != swap then (if a % 0x200000 < 0x40000 then 0 else 7) else 1

/-- The target an address decodes to (R362). -/
def State.decode (s : State) (a : Nat) (swap : Bool) : Nat :=
  if remapZone a then decodeZone a swap
  else if 0x10000000 ≤ a && a < 0x20000000 then 5
  else if 0x20000000 ≤ a && a < 0x20010000 then 6
  else if 0x30000000 ≤ a && a < 0x30010000 then 4
  else if 0x40000000 ≤ a && a < 0x80000000 then (if a % 0x40000000 < Config.flashSize * 2 ^ 20 then 4 else 7)
  else if 0x80000000 ≤ a && a < 0x88000000 then 2
  else if 0x8000000000 ≤ a && a < 0x9000000000 then
    -- the size is known while the island is on (log entry 110)
    (if (!s.sys.fabOn && !s.sys.ddrNone) || a % 0x1000000000 < s.reg O.memDdrSize * 2 ^ 30 then 3 else 7)
  else 7

/-- The open pairs of Table 10-5 by master: for T0 to T6, 1 read, 2 write, 4 atomic. -/
def openPairs (m : Nat) : List Nat :=
  match m with
  | 0 => [1, 7, 7, 3, 3, 3, 3]
  | 1 => [1, 7, 7, 3, 3, 3, 3]
  | 2 => [0, 3, 7, 3, 1, 3, 3]
  | 3 => [0, 3, 3, 3, 1, 1, 3]
  | 4 => [0, 1, 7, 1, 1, 1, 0]
  | 5 => [0, 0, 3, 0, 0, 3, 0]
  | 6 => [0, 3, 3, 3, 0, 1, 0]
  | 7 => [0, 3, 0, 0, 0, 3, 0]
  | _ => []

/-- What a pair permits. -/
def pairOf (m t : Nat) : Nat := (openPairs m).getD t 0

/-- A transaction of this kind is permitted on the pair. -/
def pairAllows (m t kind : Nat) : Bool := bit (pairOf m t) (if kind = 0 then 0 else if kind = 1 then 1 else 2)

/-! ## Boot ROM, Keeper SRAM, flash, crypto block (T0, T1, T4, T6) -/

/-- What a target makes of a transaction: the state, the response code, the read data. -/
structure Eff where
  s : State
  code : Nat
  data : List Byte

/-- The access is refused with zero data. -/
def refusedEff (s : State) (x : Txn) : Eff := ⟨s, rRefused, if x.kind = 1 then [] else toBytes x.len 0⟩

def romEff (s : State) (x : Txn) : Eff :=
  ⟨s, rDone, (List.range x.len).map fun i => Config.bootRom (x.addr % 0x200000 + i)⟩

/-- Keeper SRAM: an uncorrectable unit returns the data as stored with an error response (R352). -/
def sramEff (s : State) (x : Txn) : Eff :=
  let o := x.addr % 0x200000
  if x.kind = 1 then ⟨s.sramWrite o x.data, rDone, []⟩
  else if x.kind ≠ 0 then refusedEff s x
  else
    let r := s.sramRead o x.len x.flip
    ⟨r.1, if r.2.2 then rRefused else rDone, r.2.1⟩

/-- The flash at offset `o` holds what a core programmed, or else what the device shipped with. -/
def State.flashKept (s : State) (o : Nat) : Byte :=
  match SMap.get 0 s.mem.flashCmd o with
  | 0 => Config.imageByte o
  | v + 1 => BitVec.ofNat 8 v

/-- A byte of the flash as the window shows it. The boot descriptor, the firmware slots, the generations in the Ledger
slots and the Keeper data are held; of the slot headers and the fence and leaf store the spec gives no layout (log
entry 6). -/
def State.flashByte (s : State) (o : Nat) : Byte :=
  if o < 0x100000 || (o < 0x2100000 && s.ownImage ((o - 0x100000) / 0x1000000)) then
    BitVec.ofNat 8 (SMap.get 0xFF s.mem.flash o)
  else if o < 0x2100000 || 0x3200000 ≤ o then s.flashKept o
  else
    let k := (o - 0x2100000) / 0x800000
    let at_ := (o - 0x2100000) % 0x800000 - Config.slotStart
    let g := s.slotBytes k
    if k < 2 && decide (Config.slotStart ≤ (o - 0x2100000) % 0x800000) && decide (at_ < g.length) then g.getD at_ 0
    else BitVec.ofNat 8 (Config.free 9 (s.freeCtr * 2 ^ 32 + o))

/-- The partition of an offset (Table 10-2). -/
def flashPart (o : Nat) : Nat :=
  [0x100000, 0x1100000, 0x2100000, 0x2900000, 0x3100000, 0x3200000].countP fun b => b ≤ o

/-- A byte of the flash is changed by a core's command, where what the flash holds is held. -/
def State.flashSet (s : State) (o : Nat) (b : Byte) : State :=
  if o < 0x100000 || (o < 0x2100000 && s.ownImage ((o - 0x100000) / 0x1000000)) then
    { s with mem := { s.mem with flash := SMap.set 0xFF s.mem.flash o b.toNat } }
  else if o < 0x2100000 || 0x3200000 ≤ o then
    { s with mem := { s.mem with flashCmd := SMap.set 0 s.mem.flashCmd o (b.toNat + 1) } }
  else
    let k := (o - 0x2100000) / 0x800000
    let at_ := (o - 0x2100000) % 0x800000
    if 2 ≤ k || at_ < Config.slotStart then s
    else
      let d := spanPut (s.slotBytes k) (at_ - Config.slotStart) [b]
      { s with led := { s.led with slot0 := if k = 0 then d else s.led.slot0
                                   slot1 := if k = 0 then s.led.slot1 else d } }

/-- A core programs `d` at offset `o`, or erases `n` bytes there where `d` is empty: refused across a boundary of Table
10-2. It may fail, a free value, with what the bytes then hold (R355, event 473, log entry 111). -/
def flashCmdEff (s : State) (o n : Nat) (d : List Byte) : Eff :=
  if n = 0 then ⟨s, rDone, []⟩
  else if Config.flashSize * 2 ^ 20 < o + n || flashPart o ≠ flashPart (o + n - 1) then ⟨s, rRefused, []⟩
  else
    let fails := Config.free 30 s.freeCtr % 2 == 1
    let t := foldRange n (fun t i =>
      t.flashSet (o + i) (if fails then BitVec.ofNat 8 (Config.free 31 (s.freeCtr * 2 ^ 32 + i))
        else if d = [] then 0xFF else s.flashByte (o + i) &&& d.getD i 0xFF)) s
    ⟨if fails then t.freeTaken.flashFails else t.freeTaken, rDone, []⟩

/-- The flash window, read only, and the command registers, whose layout the spec does not give. -/
def flashEff (s : State) (x : Txn) : Eff :=
  if x.addr < 0x40000000 then
    if x.kind = 0 then ⟨s, rDone, (List.range x.len).map fun i => Config.flashReg (x.addr + i)⟩
    else if x.kind = 1 then
      match Config.flashCmd x.addr x.data with
      | none => ⟨s, rDone, []⟩
      | some c => flashCmdEff s c.1 c.2.1 c.2.2
    else refusedEff s x
  else if x.kind ≠ 0 then refusedEff s x
  else ⟨s.freeTaken, rDone, (List.range x.len).map fun i => s.flashByte (x.addr % 0x40000000 + i)⟩

/-- Registers of the crypto block, whose effect the spec does not give. -/
def cryptoEff (s : State) (x : Txn) : Eff :=
  if x.kind = 0 then ⟨s, rDone, (List.range x.len).map fun i => Config.cryptoReg (x.addr + i)⟩
  else if x.kind = 1 then ⟨s, rDone, []⟩ else refusedEff s x

/-! ## The bank pool window (T2; R327, R330, R334) -/

/-- First bank word and number of words that a transaction touches. -/
def spanOf (o len : Nat) : Nat × Nat := (o / 8, (o + len - 1) / 8 + 1 - o / 8)

/-- Words of bank `b` are read: 6 bytes each and two of zero. -/
def bankReadEff (s : State) (x : Txn) (b : Nat) : Eff :=
  let o := x.addr % 2 ^ 19
  let sp := spanOf o x.len
  let r := (List.range sp.2).foldl (fun (r : State × List Byte × Bool) i =>
    let q := r.1.bankRead b (sp.1 + i) (x.flip >>> (55 * i))
    (q.1.tally 73 1, r.2.1 ++ toBytes 6 q.2.d ++ toBytes 2 0, r.2.2 || q.2.bad)) (s, [], false)
  ⟨r.1, if r.2.2 then rRefused else rDone, slice r.2.1 (o % 8) x.len⟩

/-- Enabled bytes replace those of a value. -/
def mergeBytes (old : List Byte) (d : List (Byte × Bool)) : List Byte :=
  (old.zip d).map fun x => if x.2.2 then x.2.1 else x.1

/-- Words of bank `b` are written; one of which only some bytes are enabled keeps its other bytes. -/
def bankWriteEff (s : State) (x : Txn) (b : Nat) : Eff :=
  let o := x.addr % 2 ^ 19
  let sp := spanOf o x.len
  let s := (List.range sp.2).foldl (fun s i =>
    let w := sp.1 + i
    let d := (slotOf o (8 * w) x.data).take 6
    if d.all fun y => !y.2 then s
    else if d.all fun y => y.2 then (s.bankPut b w (ofBytes (d.map Prod.fst))).tally 73 1
    else
      let q := s.bankRead b w 0
      (q.1.bankPut b w (ofBytes (mergeBytes (toBytes 6 q.2.d) d))).tally 73 1) s
  ⟨s, rDone, []⟩

/-- The new value of an atomic operation: opcode 0 ADD_WRAP, 1 ADD_SAT, 2 SWAP (R334). -/
def atomicNew (op old v : Nat) : Nat :=
  match op with
  | 0 => (old + v) % M48
  | 1 => min (old + v) (M48 - 1)
  | _ => v % M48

/-- An ATOMIC on word `w` of bank `b`: the old value returns; an uncorrectable word leaves it unperformed (R325). -/
def bankAtomicEff (s : State) (x : Txn) (b : Nat) : Eff :=
  let w := x.addr % 2 ^ 19 / 8
  let q := s.bankRead b w x.flip
  if q.2.bad then refusedEff q.1 x
  else ⟨(q.1.bankPut b w (atomicNew (x.kind - 2) q.2.d x.operand)).tally 74 1, rDone, toBytes 6 q.2.d ++ toBytes 2 0⟩

def bankEff (s : State) (x : Txn) : Eff :=
  if !s.sys.fabOn || (2 ≤ x.kind && (x.addr % 8 ≠ 0 || x.len ≠ 8)) then refusedEff s x
  else
    let b := (x.addr % 0x8000000) / 2 ^ 19
    let r := s.bankOpen b x.master (x.kind != 0) x.early
    if !r.2 then refusedEff r.1 x
    else if x.kind = 0 then bankReadEff r.1 x b
    else if x.kind = 1 then bankWriteEff r.1 x b
    else bankAtomicEff r.1 x b

/-! ## DDR4 (T3; R342, R345, R348) -/

/-- The region of a DDR4 offset: 0 long skew, 1 trace, 2 general. -/
def State.ddrRegion (s : State) (o : Nat) : Nat :=
  let ls := s.reg O.memDdrLsSize * 2 ^ 20
  if o < ls then 0 else if o < ls + s.reg O.memDdrTraceSize * 2 ^ 20 then 1 else 2

/-- The matrix may access these bytes. -/
def State.ddrOpen (s : State) (o len : Nat) (wr : Bool) : Bool :=
  let serves (o : Nat) : Bool := s.reg O.memDdrChState (o / 256 % 4) == 2
  let reg := s.ddrRegion o
  s.sys.fabOn && !s.mem.filling && decide (3 ≤ s.reg O.memDdrState) && serves o && serves (o + len - 1) &&
    (len ≤ 256 || serves (o + 256)) && (reg == 2 || (reg == 1 && !wr))

def ddrEff (s : State) (x : Txn) : Eff :=
  let o := x.addr % 0x1000000000
  if 2 ≤ x.kind || !s.ddrOpen o x.len (x.kind == 1) then refusedEff s x
  else
    let s := s.tally 78 (spanOf o x.len).2
    if x.kind = 1 then ⟨s.ddrWrite o x.data, rDone, []⟩
    else
      let r := s.ddrRead o x.len x.flip
      ⟨r.1, if r.2.2 then rRefused else rDone, r.2.1⟩

/-! ## The register space (T5; R359, R385, R386) -/

/-- Every index that exists, in the order of their tables. -/
def allIndices : List Nat :=
  (allRows.flatMap fun o =>
    if 0x2000 ≤ o.idx && o.idx < 0x2600 then (List.range 96).map fun p => o.idx + 16 * p else [o.idx]) ++
  (List.range 48).flatMap (fun p => (List.range 16).map fun k => 0x8000 + 16 * p + k) ++
  (List.range 7).map (fun k => 0x8300 + k) ++ [0x8400, 0x8401, 0x8600, 0x8601]

/-- The entries of an index are told apart by their subindex. -/
def bySubindex (idx : Nat) : Bool :=
  (0x8300 ≤ idx && idx ≤ 0x8306) || (match objAt idx with
    | some o => o.adr != .element
    | none => false)

/-- Elements of the region of an index. -/
def t5Elems (idx : Nat) : Nat :=
  if 0x8300 ≤ idx && idx ≤ 0x8306 then 48
  else if bySubindex idx then (match objAt idx with
    | some o => o.cnt
    | none => 0)
  else (resolve idx 0).cnt

/-- Slots of an element of the region of an index. -/
def t5Slots (idx : Nat) : Nat := ((resolve idx 0).width + 5) / 6

/-- The index, element and slot at an offset of T5. -/
def t5At (o : Nat) : Option (Nat × Nat × Nat) :=
  match allIndices.find? fun i =>
      Config.t5Base i ≠ 0 && decide (Config.t5Base i ≤ o) &&
        decide (o < Config.t5Base i + 8 * t5Elems i * t5Slots i) with
  | none => none
  | some i =>
    let k := (o - Config.t5Base i) / 8
    some (i, k / t5Slots i, k % t5Slots i)

/-- Element `e` of the region of an index as an entry, and its element number there. -/
def t5Entry (idx e : Nat) : Tgt × Nat := if bySubindex idx then (resolve idx e, 0) else (resolve idx 0, e)

/-- The key of an element in State.mtx.t5 and t5r. -/
def t5Key (idx e : Nat) : Nat := idx * 2 ^ 24 + e

/-- A value as the slots of T5 hold it: one slot right-aligned, more slots in order. -/
def t5Pack (v : List Byte) : List Byte :=
  if v.length ≤ 6 then List.replicate (6 - v.length) 0 ++ v else padBytes ((v.length + 5) / 6 * 6) v

/-- A bit set that a read clears: a read of bytes `lo` to `hi - 1` of slot `k` of element `e` of index `i`, whose value
is `v`, clears their bits (R137, R192). -/
def State.t5ClearSlot (s : State) (i e k lo hi : Nat) (v : List Byte) : State :=
  s.setReg i e (ofBytes (v.zipIdx.map fun x => if 6 * k + lo ≤ x.2 && x.2 < 6 * k + min hi 6 then 0 else x.1))

/-- The first slot of an element is the read that the master's reads of its other slots return: a log, whose read clears
it, and a counter with its stamp (R446). -/
def State.t5Latched (s : State) (i : Nat) : Bool := (s.logOf i).isSome || i == O.tallyCount

/-- A read of bytes `lo` to `hi - 1` of one slot: none where it is refused; another slot of a log read alone changes
nothing. Of a bit set that a read clears, the bits of those bytes are read. -/
def State.t5ReadSlot (s : State) (m o lo hi : Nat) : State × Option (List Byte) :=
  if o < 524288 then
    let i := o / 8
    (s, some (toBytes 6 (if allIndices.contains i then Config.t5Base i else 0)))
  else
    match t5At o with
    | none => (s, none)
    | some (i, e, k) =>
      let x := t5Entry i e
      let held := SMap.get (0, 0, []) s.mtx.t5r m
      if k ≠ 0 && s.t5Latched i && held.1 = t5Key i e + 1 then (s, some (slice held.2.2 (6 * k) 6))
      else
        let t := s.readEntry (.master m) x.1 x.2 1 false
        let v := t5Pack t.out.value
        if t.out.status ≠ 0 then (t, none)
        else if i = O.grainChanged || i = O.groupLineChanged then
          (s.t5ClearSlot i (x.1.elem x.2) k lo hi t.out.value, some (slice v (6 * k) 6))
        else if !s.t5Latched i then (t, some (slice v (6 * k) 6))
        else if k ≠ 0 then (s, some (slice v (6 * k) 6))
        else
          ({ t with mtx := { t.mtx with t5r := SMap.insert t.mtx.t5r m (t5Key i e + 1, 0, v) } }, some (slice v 0 6))

/-- A write of the six bytes of one slot; a value of several slots takes effect with its last, when the master has
written every slot in order (R386). -/
def State.t5WriteSlot (s : State) (m o : Nat) (d : List Byte) : State :=
  if o < 524288 then s.refuse (.master m) 0x0203
  else
    match t5At o with
    | none => s.refuse (.master m) 0x0101
    | some (i, e, k) =>
      let x := t5Entry i e
      let w := x.1.width
      let n := t5Slots i
      let c := s.writeCheck (.master m) x.1 x.2 1
      if c ≠ 0 then s.refuse (.master m) c
      else if n ≤ 1 then
        if ofBytes (d.take (6 - w)) ≠ 0 then s.refuse (.master m) 0x0301
        else s.writeEntry (.master m) x.1 x.2 (d.drop (6 - w))
      else
        let held := SMap.get (0, 0, []) s.mtx.t5 m
        let put (r : SMap (Nat × Nat × List Byte)) : State := { s with mtx := { s.mtx with t5 := r } }
        let off := put (SMap.erase s.mtx.t5 m)
        if k = 0 then (put (SMap.insert s.mtx.t5 m (t5Key i e + 1, 1, d))).answer 0
        else if held.1 ≠ t5Key i e + 1 || held.2.1 ≠ k then off.refuse (.master m) 0x0301
        else if k + 1 < n then (put (SMap.insert s.mtx.t5 m (held.1, k + 1, held.2.2 ++ d))).answer 0
        else off.writeEntry (.master m) x.1 x.2 ((held.2.2 ++ d).take w)

/-- The dictionary's answer stays out of the answer of the command. -/
def State.quiet (s t : State) : State := { t with out := { s.out with sent := t.out.sent } }

def t5ReadEff (s : State) (x : Txn) : Eff :=
  let o := x.addr % 0x10000000
  let sp := spanOf o x.len
  let r := (List.range sp.2).foldl (fun (r : State × List Byte × Bool) i =>
    let q := r.1.t5ReadSlot x.master (8 * (sp.1 + i)) (o - 8 * (sp.1 + i)) (o + x.len - 8 * (sp.1 + i))
    (q.1, r.2.1 ++ (q.2.getD (toBytes 6 0)) ++ toBytes 2 0, r.2.2 || q.2.isNone)) (s, [], false)
  if r.2.2 then refusedEff s x else ⟨s.quiet r.1, rDone, slice r.2.1 (o % 8) x.len⟩

/-- A write of registers: every slot that it enables is written, or the write is refused and changes no register (R386,
log entry 112). -/
def t5WriteEff (s : State) (x : Txn) : Eff :=
  let o := x.addr % 0x10000000
  let sp := spanOf o x.len
  let slots := ((List.range sp.2).map fun i => (8 * (sp.1 + i), (slotOf o (8 * (sp.1 + i)) x.data).take 6)).filter
    fun y => y.2.any (·.2)
  let r := slots.foldl (fun (r : State × Bool) y =>
    if r.2 then r
    else if y.2.all (·.2) then
      let t := r.1.t5WriteSlot x.master y.1 (y.2.map Prod.fst)
      (t, t.out.status != 0)
    else (r.1, true)) (s, false)
  if !r.2 then ⟨s.quiet r.1, rDone, []⟩
  else if slots.length ≤ 1 then ⟨s.quiet r.1, rRefused, []⟩
  else
    let t := { s with mtx := { s.mtx with t5 := r.1.mtx.t5 } }
    ⟨t.setReg O.dictLastRefusal x.master (r.1.reg O.dictLastRefusal x.master), rRefused, []⟩

def regEff (s : State) (x : Txn) : Eff :=
  if x.kind = 0 then t5ReadEff s x else if x.kind = 1 then t5WriteEff s x else refusedEff s x

/-! ## Issue (R356, R360, R361, R369, R373, R374) -/

/-- A transaction of good form: 1 to 384 bytes within 4 KiB. -/
def goodForm (a len : Nat) : Bool := decide (1 ≤ len) && decide (len ≤ 384) && decide (a % 4096 + len ≤ 4096)

/-- Master `m` issues a transaction. -/
def State.issue (s : State) (m id kind addr len : Nat) (data : List (Byte × Bool)) (operand flip : Nat)
    (fetch : Bool := false) : State :=
  let a := addr % 2 ^ 40
  let zero := if kind = 1 then [] else toBytes len 0
  let swap := match s.mtx.remapReq with
    | some v => v == 1
    | none => s.mtx.remapped
  let dec := s.decode a swap
  let t := if dec < 7 && pairOf m dec = 0 then 7 else dec
  let x : Txn := ⟨m, id % 16, kind, a, len, data, operand, flip, s.reg O.matrixQos m, t,
    remapZone a && s.mtx.remapReq.isSome, false, 0, s.tick, rDone, [], fetch && decide (m ≤ 1), false,
    false, false, 0⟩
  let bad : Txn := { x with target := 8, status := rRefused, result := zero }
  if s.reg O.matrixMasterState m = 1 then (s.mtxError 1 bad).answerTxn bad
  else
    let s := (if s.reg O.matrixMasterState m = 2 then s.setReg O.matrixMasterState m 0 else s).settleMtx true
    let y := if goodForm a len then x else bad
    let pre := s.mtx.txns
    let s := { s with mtx := { s.mtx with txns := pre ++ [y] } }
    (if s.heldBack pre y then s.bump O.matrixHeld m 32 else s).mtxDone

/-! ## Arbitration and grant (R365 to R367, R372) -/

/-- Effective QoS. -/
def State.effQos (s : State) (x : Txn) : Nat := if s.reg O.matrixAgeLimit ≤ s.txnWait x then 16 else x.qos

/-- `y` goes before `x` at a port whose last grant went to master `last`. -/
def State.before (s : State) (last : Nat) (y x : Txn) : Bool :=
  let ey := s.effQos y
  let ex := s.effQos x
  let turn (z : Txn) : Nat := (z.master + 7 - last) % 8
  if ey ≠ ex then decide (ex < ey)
  else if ey = 16 then decide (s.txnWait x < s.txnWait y)
  else decide (turn y < turn x)

/-- The first request of each master and ID: the others of that ID follow it (R368). -/
def firstOfEach : List Txn → List Txn
  | [] => []
  | x :: l => x :: (firstOfEach l).filter fun y => y.master != x.master || y.id != x.id

/-- The request that target `t` grants now. -/
def State.chosen (s : State) (t : Nat) : Option Txn :=
  let last := SMap.get 7 s.mtx.rr t
  let first := firstOfEach (s.mtx.txns.filter fun x => !x.granted)
  ((s.waitingAt t).filter fun x => first.contains x).foldl (fun (r : Option Txn) y =>
    match r with
    | none => some y
    | some x => if s.before last y x then some y else some x) none

/-- What its target does with a transaction. The cores execute from T0 and T1 alone (R351); an ATOMIC that T2 does not
take is REFUSED, by the default target too (R358). -/
def targetEff (s : State) (x : Txn) : Eff :=
  if x.target = 7 && 2 ≤ x.kind then refusedEff s x
  else if x.target = 7 then ⟨s, rUnmapped, if x.kind = 1 then [] else toBytes x.len 0⟩
  else if x.fetch && 2 ≤ x.target then refusedEff s x
  else if !pairAllows x.master x.target x.kind then refusedEff s x
  else if x.target = 0 then romEff s x
  else if x.target = 1 then sramEff s x
  else if x.target = 2 then bankEff s x
  else if x.target = 3 then ddrEff s x
  else if x.target = 4 then flashEff s x
  else if x.target = 5 then regEff s x
  else cryptoEff s x

/-- `y` stands in place of transaction `x`. -/
def State.putTxn (s : State) (x y : Txn) : State :=
  { s with mtx := { s.mtx with txns := s.mtx.txns.map fun z => if z = x then y else z } }

/-- Granted transaction `x` has its effect: the response code, the read data, and what an error raises. -/
def State.perform (s : State) (x : Txn) : State :=
  let y := { x with due := false }
  let r := targetEff (s.putTxn x y) y
  let s := r.s.putTxn y { y with status := r.code, result := r.data }
  let s := if x.target = 7 then s.raise 464 else s
  if r.code = rUnmapped then s.mtxError 2 x
  else if r.code = rRefused then (s.mtxError 1 x).raiseLim 465 x.master (msTicks 1)
  else s

/-- The writes at target `t` that have been granted are performed: their data comes before that of a later grant. -/
def State.deliver (s : State) (t : Nat) : State :=
  (s.mtx.txns.filter fun x => x.due && x.target == t).foldl (fun s x => s.perform x) s

/-- The transaction is granted, and stands until its response. A write is performed once its data has been delivered,
any other at once. -/
def State.grantTxn (s : State) (x : Txn) : State :=
  let s := s.deliver x.target
  let y := { x with granted := true, age := 0, base := 0, held := false, tick := s.tick, due := x.kind == 1 }
  let s := { s with mtx := { s.mtx with txns := s.mtx.txns.erase x ++ [y]
                                        rr := SMap.insert s.mtx.rr x.target x.master } }.tally (80 + x.target) 1
  if y.due then s else s.perform y

/-- `dt` MCLK cycles pass for every transaction. -/
def State.aged (s : State) (dt : Nat) : State :=
  { s with mtx := { s.mtx with txns := s.mtx.txns.map fun x => { x with age := x.age + dt } } }

/-- `dt` MCLK cycles pass, and target `t` grants the request that R365 chooses. -/
def State.grant (s : State) (t dt : Nat) : State :=
  let s := (s.aged dt).settleMtx true
  match s.chosen t with
  | none => s
  | some x => (s.grantTxn x).mtxDone

/-! ## Responses (R368, R371, R373) -/

/-- The next response of target `t`; that of a master in reset is discarded. -/
def State.respondTxn (s : State) (t : Nat) : State :=
  let s := (s.settleMtx true).deliver t
  match s.mtx.txns.find? fun x => x.granted && x.target == t with
  | none => s
  | some x =>
    let s := { s with mtx := { s.mtx with txns := s.mtx.txns.erase x } }
    (if s.reg O.matrixMasterState x.master = 1 then s else s.answerTxn x).mtxDone

/-- A transaction has not completed within MATRIX.TIMEOUT of its grant: REFUSED, logged, event 466; the target's late
response is discarded. -/
def State.txnTimeout (s : State) (m id : Nat) : State :=
  let late (x : Txn) : Bool := x.master == m && x.id == id && x.granted && decide (s.reg O.matrixTimeout ≤ s.txnWait x)
  let s := match s.mtx.txns.find? late with
    | some x => s.deliver x.target
    | none => s
  match s.mtx.txns.find? late with
  | none => s
  | some x =>
    let s := { s with mtx := { s.mtx with txns := s.mtx.txns.erase x } }
    let y := { x with status := rRefused, result := if x.kind = 1 then [] else toBytes x.len 0 }
    let s := (s.mtxError 3 x).raise 466
    (if s.reg O.matrixMasterState m = 1 then s else s.answerTxn y).mtxDone

def State.errLogRead (s : State) (w : Who) (first count : Nat) : State :=
  let c := logGate s w O.matrixErrLog 16 first count
  if c ≠ 0 then s.answer c
  else
    let r := logTake s.mtx.errs 6 first count
    (({ s with mtx := { s.mtx with errs := r.2 } }).give r.1).answer 0

/-! ## The commands -/

def execMatrixRead (m id addr len : Nat) (x : ReadIn) (s : State) : Host.Outcome State Fault Refusal :=
  s.runIn m 8 fun s => s.issue m id 0 addr len [] 0 x.flip x.fetch
def execMatrixWrite (m id addr : Nat) (data : List (Byte × Bool)) (s : State) : Host.Outcome State Fault Refusal :=
  s.runIn m 8 fun s => s.issue m id 1 addr data.length data 0 0
def execAddWrap (m id addr : Nat) (x : AtomicIn) (s : State) : Host.Outcome State Fault Refusal :=
  s.runIn m 8 fun s => s.issue m id 2 addr x.len [] x.operand.toNat x.flip
def execAddSat (m id addr : Nat) (x : AtomicIn) (s : State) : Host.Outcome State Fault Refusal :=
  s.runIn m 8 fun s => s.issue m id 3 addr x.len [] x.operand.toNat x.flip
def execSwap (m id addr : Nat) (x : AtomicIn) (s : State) : Host.Outcome State Fault Refusal :=
  s.runIn m 8 fun s => s.issue m id 4 addr x.len [] x.operand.toNat x.flip
def execMatrixGrant (t dt : Nat) (s : State) : Host.Outcome State Fault Refusal := s.runIn t 8 fun s => s.grant t dt
def execMatrixResponse (t : Nat) (s : State) : Host.Outcome State Fault Refusal := s.runIn t 8 fun s => s.respondTxn t
def execMatrixTimeout (m id : Nat) (s : State) : Host.Outcome State Fault Refusal :=
  s.runIn m 8 fun s => s.txnTimeout m id
def execErrLogRead (w : Who) (first count : Nat) (s : State) : Host.Outcome State Fault Refusal :=
  s.run fun s => s.errLogRead w first count

end Sys2Proof.Machine
end

