-- ==== Sys2Proof/Machine/Rx.lean ====
section
/-! DEFINITION. A received link frame: alignment, codewords, overhead, pointers, channels and the checks of the
Assayer (R50, R53 to R81, R86 to R92, R413, R414). -/

namespace Sys2Proof.Machine

/-! ## Codewords (R50) -/

/-- A received frame as the port sees it: its version, which codewords were correctable, and its words. -/
structure RxView where
  ver : Nat
  ok : List Bool
  words : LinkFrame
deriving DecidableEq, Repr

/-- The frame of decoded codewords. -/
def rxView (ver : Nat) (cs : List CodeR) : RxView := ⟨ver, cs.map CodeR.ok, linkFrame ver cs⟩

/-- Symbols corrected, and uncorrectable codewords. -/
def corrected (cs : List CodeR) : Nat := (cs.map CodeR.errs).sum
def uncorrectable (cs : List CodeR) : Nat := (cs.filter fun c => !c.ok).length

/-- The overhead word at 256 × row + h, and whether it is marked invalid: it lies wholly or partly in a codeword that
was not correctable. -/
def RxView.word (v : RxView) (at_ : Nat) : Nat := (v.words.ovh.getD (at_ / 256) []).getD (at_ % 256) 0
def RxView.invalid (v : RxView) (at_ : Nat) : Bool :=
  let c := ovhCodewords v.ver (at_ / 256) (at_ % 256)
  !(v.ok.getD c.1 false && v.ok.getD c.2 false)

/-- The payload words of minor grain `g` in order n = 0 to 404 (R52). -/
def RxView.pay (v : RxView) (g : Nat) : List Word := v.words.pay.map fun r => BitVec.ofNat 48 (r.getD g 0)

/-- A word that is not marked invalid. -/
def RxView.valid (v : RxView) (at_ : Nat) : Option Nat := if v.invalid at_ then none else some (v.word at_)

/-- The pointer field of minor grain `g` as received, and whether its word is valid (R67, R68, R92). -/
def RxView.field (v : RxView) (g : Nat) : Nat × Bool :=
  let k := 16 * (2 - g % 3)
  (bits (v.word (ptrAt v.ver g)) (k + 15) k, !v.invalid (ptrAt v.ver g))

/-! ## Fixed-function words (R62 to R66, R80) -/

/-- One reception in a run of R64. -/
def Run.step (r : Run) (w : Option Nat) : Run :=
  match w with
  | none => r
  | some w => if r.n ≠ 0 && r.val = w then { r with n := min 3 (r.n + 1) } else { r with val := w, n := 1 }

/-- A run that has reached three receptions is accepted. -/
def Run.take (r : Run) : Run := if r.n = 3 then { r with acc := true } else r

/-- The quality-level, preference and link-status words of a frame (R64). -/
def State.rxWords (s : State) (p : Nat) (v : RxView) : State :=
  let l := s.linkP p
  let ql := (l.ql.step (v.valid 4)).take
  let pref := if v.ver = 2 then (l.pref.step (v.valid 5)).take else l.pref
  let ls := if v.ver = 2 then 6 else 5
  let ls0 := (l.ls0.step (v.valid ls)).take
  let ls1 := (l.ls1.step (v.valid (ls + 1))).take
  let ls2 := (l.ls2.step (v.valid (ls + 2))).take
  let old := s.reg O.portRxPref p
  let s := s.setLink p { l with ql := ql, pref := pref, ls0 := ls0, ls1 := ls1, ls2 := ls2,
                                prefOld := if pref.n = 3 && pref.val ≠ old then old else l.prefOld }
  let put (s : State) (i e : Nat) (r : Run) : State := if r.n = 3 then s.setReg i e r.val else s
  let s := put s O.portRxQl p ql
  let s := if v.ver = 2 then put s O.portRxPref p pref else s
  let s := put (put (put s O.portRxStatus (3 * p) ls0) O.portRxStatus (3 * p + 1) ls1) O.portRxStatus (3 * p + 2) ls2
  (foldRange 8 (fun s i => if s.refPortOf i = p then s.loopCheck i else s) s).tieFails

/-- PORT.RX_FSN, and the RMWs of rows 1 to 8 against it (R80). -/
def State.rxFsn (s : State) (p : Nat) (v : RxView) : State :=
  let fsn := match v.valid 2 with
    | some f => f
    | none => (s.reg O.portRxFsn p + 1) % M48
  let failed := ((List.range 8).filter fun q => decide (3 < popCount 48 (v.word (256 * (q + 1)) ^^^ rmw (q + 1)
    fsn))).length
  (s.setReg O.portRxFsn p fsn).bump O.portFlintReject p 32 failed

/-- RMWs and FSN show that the frame follows one with FSN `prev` (R87). -/
def RxView.follows (v : RxView) (prev : Nat) : Bool :=
  let f := (prev + 1) % M48
  (match v.valid 2 with
    | some x => x == f
    | none => true) &&
  (List.range 8).any fun q => decide (popCount 48 (v.word (256 * (q + 1)) ^^^ rmw (q + 1) f) ≤ 3)

/-! ## Channels (R69 to R72) -/

/-- The bytes of words of a container after its descriptor. -/
def RxView.bytes (v : RxView) (at_ n : Nat) : List Byte :=
  ((List.range n).map fun i => toBytes 6 (v.word (at_ + 1 + i))).flatten

/-- The time channel's container: one whole frame. -/
def State.rxTime (s : State) (p : Nat) (v : RxView) (stamp : Nat) : State :=
  let at_ := 256 * 8 + 1
  match v.valid at_ with
  | none => s
  | some d =>
    let n := bits d 41 32
    if v.ver ≠ 2 || !s.channelOn p || !bit d 47 || n < 64 || 570 < n then s
    else s.timeRx p ((v.bytes at_ 95).take n) stamp

/-- The message channel's container (R71): a whole frame goes to the Keeper. -/
def State.rxMsg (s : State) (p : Nat) (v : RxView) (stamp : Nat) : State :=
  let at_ := msgAt v.ver
  let words := if v.ver = 2 then 127 else 95
  let l := s.linkP p
  let drop := s.setLink p { l with msgAsm := [], msgSeq := none }
  let d := v.word at_
  let n := bits d 41 32
  let seq := d % 65536
  if s.reg O.linkMsgChannelEn p = 0 then drop
  else if (List.range (words + 1)).any (fun i => v.invalid (at_ + i)) || 6 * words < n then drop
  else
    let go := if bit d 47 then some ([] : List Byte)
      else match l.msgSeq with
        | some q => if (q + 1) % 65536 = seq then some l.msgAsm else none
        | none => none
    match go with
    | none => drop
    | some old =>
      let f := old ++ (v.bytes at_ words).take n
      if bit d 46 then
        let s := drop
        if f.length ≤ 1522 && fcsOk f then s.toKeeper (128 + p) f (s.rxStamp p (s.rxRoot p stamp)) else s
      else if 1522 < f.length then drop
      else s.setLink p { l with msgAsm := f, msgSeq := some seq }

/-! ## The Assayer's checks of a line (R413, R414, Table 12-4) -/

/-- Received minor grains whose interpreter, or whose head's, is in UNEQ. -/
def State.uneqGrains (s : State) (p ver : Nat) : List Nat :=
  (List.range (if ver = 2 then 1280 else 640)).filter fun g => s.reg O.grainRxState (s.head (1280 * p + g)) == 3

/-- The patterns of an unequipped minor grain are as sent in the frame of `fsn`. -/
def patternOk (ver g fsn : Nat) (ws : List Word) : Bool :=
  let n0 := pjoN ver g
  (List.range 405).all fun n =>
    let k := (n + 405 - n0) % 405
    let f := if n < n0 then fsn + M48 - 1 else fsn
    k == 0 || (ws.getD n 0).toNat == f % 65536 * 2 ^ 32 + g * 65536 + k

/-- A frame has one or more differences from the patterns. -/
def State.patternBad (s : State) (p : Nat) (v : RxView) : Bool :=
  let fsn := s.reg O.portRxFsn p
  s.octReg O.assayLineCheck 0 12 p &&
    ((s.uneqGrains p v.ver).any (fun g => !patternOk v.ver g fsn (v.pay g)) ||
      (reservedAt v.ver).any fun a => !v.invalid a && v.word a != reservedWord fsn a)

/-- The observation of a port that is under test counts frames received in SYNC (Table 12-4, Table 15-1). -/
def State.observe (s : State) (p corr : Nat) (bad : Bool) : State :=
  let q := s.linkQ p
  if q.obs = 0 || s.reg O.portAlignState p ≠ 3 then s
  else s.setLinkQ p { q with obs := q.obs - 1, obsBad := q.obsBad || bad, obsSum := q.obsSum + corr }

/-- FEC_BURST and PATTERN errors of a frame. -/
def State.lineErrors (s : State) (p : Nat) (v : RxView) (corr : Nat) : State :=
  let pat := s.patternBad p v
  let unc := v.ok.contains false
  let s := s.observe p corr (unc || pat)
  let s := if unc then s.assayError 7 (resOf 0 p) else s
  if pat then (s.assayError 8 (resOf 0 p)).raiseLim 500 p (msTicks 1) else s

/-! ## A frame (R77) -/

/-- Flint compares the FAW at its expected position; false when alignment is lost (Table 2-11). A return from SLIP1 or
SLIP2 to SYNC is no entry into SYNC: no event, and the runs of R64 go on (log entry 79). -/
def State.flint (s : State) (p d : Nat) : State × Bool :=
  let st := s.reg O.portAlignState p
  if d ≤ 3 then ((s.setLink p { s.linkP p with cands := [] }).setReg O.portAlignState p 3, true)
  else if st = 5 then (s.unalign p 1 true, false)
  else (s.setReg O.portAlignState p (st + 1), true)

/-- What the codewords of a frame count. -/
def State.rxFec (s : State) (p d corr unc stamp : Nat) : State :=
  let s := (s.bump O.portFecCorr p 48 corr).bump O.portFecUncorr p 48 unc
  let l := s.linkP p
  s.setLink p { l with lastRx := true, lastCorr := corr, lastUnc := unc, lastFawd := d, lastStamp := stamp,
                       degSum := l.degSum + corr, degFrames := l.degFrames + 1 }

/-- The negotiation acts on the frame's handshake word (R65, R86, R87). A word that only fails its CRC is, for R87,
taken like one marked invalid (log entry 15). -/
def State.rxHandshake (s : State) (p : Nat) (v : RxView) (prev : Nat) : State :=
  let w := match v.valid 3 with
    | some w => if hsValid w then some w else none
    | none => none
  let s := match w with
    | some w => s.handshake p w
    | none => s
  s.rxCommit p w (v.follows prev)

/-- The raw bits of a frame that port `p` receives; a looped port receives the frame that it sent last (Table 2-16). -/
def State.rxRaw (s : State) (p : Nat) (x : Lane) : List Bool :=
  let q := s.linkQ p
  laneRaw (s.reg O.portLaneOpt p) (if s.reg O.portLoopback p = 1 then ⟨0, q.laneBefore, q.lane⟩ else x)

/-- The frame of raw bits `raw` is taken, its FAW with `d` differences. -/
def State.rxTake (s : State) (p d stamp : Nat) (raw : List Bool) : State :=
  let ver := s.rxVer p
  let cs := decodeRaw ver raw
  let v := rxView ver cs
  let prev := s.reg O.portRxFsn p
  let s := s.rxFec p d (corrected cs) (uncorrectable cs) stamp
  let s := (s.rxFsn p v).rxWords p v
  let s := if (s.linkP p).carries then
      s.rxGrains p ver v.field v.pay (fun g => BitVec.ofNat 48 (v.word (njoAt ver g)))
    else s
  let s := (s.rxTime p v stamp).rxMsg p v stamp
  (s.lineErrors p v (corrected cs)).rxHandshake p v prev

/-- A frame received at its expected position while Flint is in SYNC, SLIP1 or SLIP2 (R77). -/
def State.rxFrame (s : State) (p : Nat) (f : RxFrame) : State :=
  let l := s.linkP p
  if !s.running p || !s.aligned p || f.lane.at_ ≠ l.pos then s
  else
    let raw := s.rxRaw p f.lane
    let d := fawDiff (BitVec.ofNat 96 (ofBits (raw.take 96)))
    let r := (s.setLink p { l with pos := l.pos + frameBits (s.rxVer p) }).flint p d
    (if r.2 then r.1.rxTake p d f.stamp raw else r.1).rxResetDue p

def execRxFrame (p : Nat) (f : RxFrame) (s : State) : Host.Outcome State Fault Refusal :=
  s.runIn p 96 fun s => s.rxFrame p f

end Sys2Proof.Machine
end

