-- ==== Sys2Proof/Machine/Dispatch.lean ====
section
/-! DEFINITION. The meaning of every command: one arm each, one call of its meaning. -/

namespace Sys2Proof.Machine

def exec (i : Instr) (s : State) : Host.Outcome State Fault Refusal :=
  match i with
  | .frameStart phase => Sys2Proof.Machine.execFrameStart phase s
  | .roundStart io => Sys2Proof.Machine.execRoundStart io s
  | .coherentReturn c => Sys2Proof.Machine.execCoherentReturn c s
  | .recapture c => Sys2Proof.Machine.execRecapture c s
  | .lineLate a => Sys2Proof.Machine.execLineLate a s
  | .esReadStart a => Sys2Proof.Machine.execEsReadStart a s
  | .displacedTpoaNew a => Sys2Proof.Machine.execDisplacedTpoaNew a s
  | .traceRecord tag dRx dSps dEts dSer => Sys2Proof.Machine.execTraceRecord tag dRx dSps dEts dSer s
  | .recordAged kind port tsn => Sys2Proof.Machine.execRecordAged kind port tsn s
  | .recordUnmatched kind port tsn => Sys2Proof.Machine.execRecordUnmatched kind port tsn s
  | .stateReturnNormal => Sys2Proof.Machine.execStateReturnNormal s
  | .cdrLock p => Sys2Proof.Machine.execCdrLock p s
  | .lossOfSignal p => Sys2Proof.Machine.execLossOfSignal p s
  | .fawMatch p c lane => Sys2Proof.Machine.execFawMatch p c lane s
  | .row1Check p c head row1 => Sys2Proof.Machine.execRow1Check p c head row1 s
  | .fawConfirm p c lane => Sys2Proof.Machine.execFawConfirm p c lane s
  | .rxFrame p f => Sys2Proof.Machine.execRxFrame p f s
  | .relockTimeout p => Sys2Proof.Machine.execRelockTimeout p s
  | .syncLossRenegotiate p => Sys2Proof.Machine.execSyncLossRenegotiate p s
  | .fecDegInterval p => Sys2Proof.Machine.execFecDegInterval p s
  | .timePortFrameRx k bytes stamp => Sys2Proof.Machine.execTimePortFrameRx k bytes stamp s
  | .timePortSend k stamp => Sys2Proof.Machine.execTimePortSend k stamp s
  | .timePortLinkUp k => Sys2Proof.Machine.execTimePortLinkUp k s
  | .portEnableWrite w p v => Sys2Proof.Machine.execPortEnableWrite w p v s
  | .portRoleWrite w p v => Sys2Proof.Machine.execPortRoleWrite w p v s
  | .linkRenegotiate w p v => Sys2Proof.Machine.execLinkRenegotiate w p v s
  | .versionMaxWrite w p v => Sys2Proof.Machine.execVersionMaxWrite w p v s
  | .versionExcludedWrite w p v => Sys2Proof.Machine.execVersionExcludedWrite w p v s
  | .timeChannelEnWrite w p v => Sys2Proof.Machine.execTimeChannelEnWrite w p v s
  | .sdIslandEnWrite w v => Sys2Proof.Machine.execSdIslandEnWrite w v s
  | .sdIslandReady k => Sys2Proof.Machine.execSdIslandReady k s
  | .txEqWrite w p v => Sys2Proof.Machine.execTxEqWrite w p v s
  | .grainSizeWrite w e v => Sys2Proof.Machine.execGrainSizeWrite w e v s
  | .txForceAisWrite w a v => Sys2Proof.Machine.execTxForceAisWrite w a v s
  | .grainChangedRead w p => Sys2Proof.Machine.execGrainChangedRead w p s
  | .draftSrcWrite w a v => Sys2Proof.Machine.execDraftSrcWrite w a v s
  | .draftRevert w v => Sys2Proof.Machine.execDraftRevert w v s
  | .commitReq w => Sys2Proof.Machine.execCommitReq w s
  | .mapAbort w => Sys2Proof.Machine.execMapAbort w s
  | .solveComplete => Sys2Proof.Machine.execSolveComplete s
  | .armingDeadline => Sys2Proof.Machine.execArmingDeadline s
  | .commitBoundary => Sys2Proof.Machine.execCommitBoundary s
  | .fabricDrained => Sys2Proof.Machine.execFabricDrained s
  | .lodeStateWrite w l v => Sys2Proof.Machine.execLodeStateWrite w l v s
  | .groupTypeWrite w c v => Sys2Proof.Machine.execGroupTypeWrite w c v s
  | .lineCtxWrite w a v => Sys2Proof.Machine.execLineCtxWrite w a v s
  | .latenessWrite w c v => Sys2Proof.Machine.execLatenessWrite w c v s
  | .marginWrite w c v => Sys2Proof.Machine.execMarginWrite w c v s
  | .lineFreed a => Sys2Proof.Machine.execLineFreed a s
  | .lineChangedRead w p => Sys2Proof.Machine.execLineChangedRead w p s
  | .protRoleWrite w v => Sys2Proof.Machine.execProtRoleWrite w v s
  | .witnessBlockLock st => Sys2Proof.Machine.execWitnessBlockLock st s
  | .witnessBlockLockLoss st => Sys2Proof.Machine.execWitnessBlockLockLoss st s
  | .statusRecordRx st x arrival => Sys2Proof.Machine.execStatusRecordRx st x arrival s
  | .verdictRecordRx st x => Sys2Proof.Machine.execVerdictRecordRx st x s
  | .noticeRecordRx st x => Sys2Proof.Machine.execNoticeRecordRx st x s
  | .ingressRecordRx st x => Sys2Proof.Machine.execIngressRecordRx st x s
  | .egressRecordRx st x => Sys2Proof.Machine.execEgressRecordRx st x s
  | .streamStatusTimeout st => Sys2Proof.Machine.execStreamStatusTimeout st s
  | .arbiterWatchTimeout => Sys2Proof.Machine.execArbiterWatchTimeout s
  | .verdictEffective => Sys2Proof.Machine.execVerdictEffective s
  | .prefSet w v => Sys2Proof.Machine.execPrefSet w v s
  | .portFaultClear w v => Sys2Proof.Machine.execPortFaultClear w v s
  | .mapDigestReady => Sys2Proof.Machine.execMapDigestReady s
  | .ledgerPeriodicCut => Sys2Proof.Machine.execLedgerPeriodicCut s
  | .ledgerCutReq w v => Sys2Proof.Machine.execLedgerCutReq w v s
  | .generationSealed => Sys2Proof.Machine.execGenerationSealed s
  | .rxSegmentWrite w k bytes => Sys2Proof.Machine.execRxSegmentWrite w k bytes s
  | .rxSealWrite w bytes => Sys2Proof.Machine.execRxSealWrite w bytes s
  | .journalSend => Sys2Proof.Machine.execJournalSend s
  | .journalRxWrite w bytes => Sys2Proof.Machine.execJournalRxWrite w bytes s
  | .spareSealCheck gen0 gen1 => Sys2Proof.Machine.execSpareSealCheck gen0 gen1 s
  | .exportTimeout => Sys2Proof.Machine.execExportTimeout s
  | .promote w v => Sys2Proof.Machine.execPromote w v s
  | .promotionRestoreStart => Sys2Proof.Machine.execPromotionRestoreStart s
  | .warmHealthUpdate => Sys2Proof.Machine.execWarmHealthUpdate s
  | .refEnableWrite w v => Sys2Proof.Machine.execRefEnableWrite w v s
  | .inputLoss n => Sys2Proof.Machine.execInputLoss n s
  | .inputLossCleared n => Sys2Proof.Machine.execInputLossCleared n s
  | .offsetMeasure n y => Sys2Proof.Machine.execOffsetMeasure n y s
  | .qualificationTimeExpiry n => Sys2Proof.Machine.execQualificationTimeExpiry n s
  | .waitRestoreExpiry n => Sys2Proof.Machine.execWaitRestoreExpiry n s
  | .selectionEval => Sys2Proof.Machine.execSelectionEval s
  | .switchSettled => Sys2Proof.Machine.execSwitchSettled s
  | .dcoClampTimeout => Sys2Proof.Machine.execDcoClampTimeout s
  | .fsnStep => Sys2Proof.Machine.execFsnStep s
  | .phaseStepWrite w v => Sys2Proof.Machine.execPhaseStepWrite w v s
  | .frameOffsetWrite w v => Sys2Proof.Machine.execFrameOffsetWrite w v s
  | .retime w v => Sys2Proof.Machine.execRetime w v s
  | .alignReq w v => Sys2Proof.Machine.execAlignReq w v s
  | .alignEdge late => Sys2Proof.Machine.execAlignEdge late s
  | .alignTimeout => Sys2Proof.Machine.execAlignTimeout s
  | .ppsEdge src tod late => Sys2Proof.Machine.execPpsEdge src tod late s
  | .ptpOffsetWrite w v => Sys2Proof.Machine.execPtpOffsetWrite w v s
  | .timeSet w v => Sys2Proof.Machine.execTimeSet w v s
  | .timeStep w v => Sys2Proof.Machine.execTimeStep w v s
  | .timeCapture w v => Sys2Proof.Machine.execTimeCapture w v s
  | .servoSrcWrite w v => Sys2Proof.Machine.execServoSrcWrite w v s
  | .launch w bytes => Sys2Proof.Machine.execLaunch w bytes s
  | .launchDue tag stamp => Sys2Proof.Machine.execLaunchDue tag stamp s
  | .launchDiscard tag => Sys2Proof.Machine.execLaunchDiscard tag s
  | .launchFlush w v => Sys2Proof.Machine.execLaunchFlush w v s
  | .launchDoneRead w first count => Sys2Proof.Machine.execLaunchDoneRead w first count s
  | .timeTriggeredCut => Sys2Proof.Machine.execTimeTriggeredCut s
  | .bankOwnerWrite w b v => Sys2Proof.Machine.execBankOwnerWrite w b v s
  | .handoverDrainDone b => Sys2Proof.Machine.execHandoverDrainDone b s
  | .handoverScrubDone b => Sys2Proof.Machine.execHandoverScrubDone b s
  | .bankClearDone => Sys2Proof.Machine.execBankClearDone s
  | .eccWriteBack b word => Sys2Proof.Machine.execEccWriteBack b word s
  | .eccLogRead w first count => Sys2Proof.Machine.execEccLogRead w first count s
  | .ddrTrainingDone gib failed => Sys2Proof.Machine.execDdrTrainingDone gib failed s
  | .ddrFillDone => Sys2Proof.Machine.execDdrFillDone s
  | .ddrLsEnWrite w v => Sys2Proof.Machine.execDdrLsEnWrite w v s
  | .ddrRegionSizeWrite w trace v => Sys2Proof.Machine.execDdrRegionSizeWrite w trace v s
  | .patrolBeat flip => Sys2Proof.Machine.execPatrolBeat flip s
  | .ddrAlert ch retried => Sys2Proof.Machine.execDdrAlert ch retried s
  | .retrainAttemptDone ch ok => Sys2Proof.Machine.execRetrainAttemptDone ch ok s
  | .ddrRetrain w ch => Sys2Proof.Machine.execDdrRetrain w ch s
  | .matrixRead m id addr len x => Sys2Proof.Machine.execMatrixRead m id addr len x s
  | .matrixWrite m id addr data => Sys2Proof.Machine.execMatrixWrite m id addr data s
  | .addWrap m id addr operand => Sys2Proof.Machine.execAddWrap m id addr operand s
  | .addSat m id addr operand => Sys2Proof.Machine.execAddSat m id addr operand s
  | .swap m id addr operand => Sys2Proof.Machine.execSwap m id addr operand s
  | .matrixGrant t dt => Sys2Proof.Machine.execMatrixGrant t dt s
  | .matrixResponse t => Sys2Proof.Machine.execMatrixResponse t s
  | .matrixTimeout m id => Sys2Proof.Machine.execMatrixTimeout m id s
  | .masterReset w v => Sys2Proof.Machine.execMasterReset w v s
  | .masterQuiesced k => Sys2Proof.Machine.execMasterQuiesced k s
  | .remapWrite w v => Sys2Proof.Machine.execRemapWrite w v s
  | .remapApplied => Sys2Proof.Machine.execRemapApplied s
  | .watchdogExpiry core => Sys2Proof.Machine.execWatchdogExpiry core s
  | .errLogRead w first count => Sys2Proof.Machine.execErrLogRead w first count s
  | .hdpRead port enc msg => Sys2Proof.Machine.execHdpRead port enc msg s
  | .hdpWrite port enc msg => Sys2Proof.Machine.execHdpWrite port enc msg s
  | .readBulk port enc msg => Sys2Proof.Machine.execReadBulk port enc msg s
  | .writeBulk port enc msg => Sys2Proof.Machine.execWriteBulk port enc msg s
  | .subscribe port enc msg => Sys2Proof.Machine.execSubscribe port enc msg s
  | .bulkAbort port enc msg => Sys2Proof.Machine.execBulkAbort port enc msg s
  | .notify k => Sys2Proof.Machine.execNotify k s
  | .secKeyWrite w slot key => Sys2Proof.Machine.execSecKeyWrite w slot key s
  | .seqCeilingWritten k => Sys2Proof.Machine.execSeqCeilingWritten k s
  | .sessionIdle k => Sys2Proof.Machine.execSessionIdle k s
  | .bulkSegmentTimeout k xfer => Sys2Proof.Machine.execBulkSegmentTimeout k xfer s
  | .tokenTake w v => Sys2Proof.Machine.execTokenTake w v s
  | .tokenRelease w v => Sys2Proof.Machine.execTokenRelease w v s
  | .neighborSolicitation port target => Sys2Proof.Machine.execNeighborSolicitation port target s
  | .echoRequest port target payload => Sys2Proof.Machine.execEchoRequest port target payload s
  | .testStart eng => Sys2Proof.Machine.execTestStart eng s
  | .pathTestDone pass => Sys2Proof.Machine.execPathTestDone pass s
  | .mapAuditRecheck differs => Sys2Proof.Machine.execMapAuditRecheck differs s
  | .testComplete eng pass wide => Sys2Proof.Machine.execTestComplete eng pass wide s
  | .bankWordTest b word bad => Sys2Proof.Machine.execBankWordTest b word bad s
  | .sramPatrolUnit flip => Sys2Proof.Machine.execSramPatrolUnit flip s
  | .testReq w v => Sys2Proof.Machine.execTestReq w v s
  | .assayLogRead w first count => Sys2Proof.Machine.execAssayLogRead w first count s
  | .eventClear w v => Sys2Proof.Machine.execEventClear w v s
  | .eventMaskWrite w v => Sys2Proof.Machine.execEventMaskWrite w v s
  | .tallyPreset w n v => Sys2Proof.Machine.execTallyPreset w n v s
  | .tagKWrite w v => Sys2Proof.Machine.execTagKWrite w v s
  | .tagSeedWrite w v => Sys2Proof.Machine.execTagSeedWrite w v s
  | .traceStartWrap w => Sys2Proof.Machine.execTraceStartWrap w s
  | .traceStartStop w => Sys2Proof.Machine.execTraceStartStop w s
  | .traceEnd w => Sys2Proof.Machine.execTraceEnd w s
  | .samplesRead w first count => Sys2Proof.Machine.execSamplesRead w first count s
  | .modeReqStage w => Sys2Proof.Machine.execModeReqStage w s
  | .modeReqRestore w => Sys2Proof.Machine.execModeReqRestore w s
  | .modeReqService w => Sys2Proof.Machine.execModeReqService w s
  | .modeReqIsolate w => Sys2Proof.Machine.execModeReqIsolate w s
  | .isolateEntry => Sys2Proof.Machine.execIsolateEntry s
  | .modeReqQuarantine w => Sys2Proof.Machine.execModeReqQuarantine w s
  | .modeReqDormant w => Sys2Proof.Machine.execModeReqDormant w s
  | .dormantEntry => Sys2Proof.Machine.execDormantEntry s
  | .fabPgAssert => Sys2Proof.Machine.execFabPgAssert s
  | .fabPgTimeout => Sys2Proof.Machine.execFabPgTimeout s
  | .fabPgDeassert => Sys2Proof.Machine.execFabPgDeassert s
  | .wakeSelftestDone failed lodes => Sys2Proof.Machine.execWakeSelftestDone failed lodes s
  | .attestDone => Sys2Proof.Machine.execAttestDone s
  | .powerOnReset mapsel ddrNone => Sys2Proof.Machine.execPowerOnReset mapsel ddrNone s
  | .porstAssert => Sys2Proof.Machine.execPorstAssert s
  | .sysReset w v => Sys2Proof.Machine.execSysReset w v s
  | .bootComplete => Sys2Proof.Machine.execBootComplete s
  | .fwStageBegin w v => Sys2Proof.Machine.execFwStageBegin w v s
  | .fwEraseDone => Sys2Proof.Machine.execFwEraseDone s
  | .fwStageSegment w k bytes => Sys2Proof.Machine.execFwStageSegment w k bytes s
  | .fwCommit w => Sys2Proof.Machine.execFwCommit w s
  | .fwAbort w => Sys2Proof.Machine.execFwAbort w s
  | .fwActivate w v => Sys2Proof.Machine.execFwActivate w v s
  | .keeperRestartDone => Sys2Proof.Machine.execKeeperRestartDone s
  | .fwConfirm w v => Sys2Proof.Machine.execFwConfirm w v s
  | .trialTimeout => Sys2Proof.Machine.execTrialTimeout s
  | .revokeKey0 w v => Sys2Proof.Machine.execRevokeKey0 w v s
  | .svnCommit w v => Sys2Proof.Machine.execSvnCommit w v s
  | .attestNonce w nonce => Sys2Proof.Machine.execAttestNonce w nonce s
  | .attestReportDone => Sys2Proof.Machine.execAttestReportDone s
  | .registerWrite w idx elem v => Sys2Proof.Machine.execRegisterWrite w idx elem v s
  | .crierLatchReload => Sys2Proof.Machine.execCrierLatchReload s
  | .timePortLinkDown k => Sys2Proof.Machine.execTimePortLinkDown k s

end Sys2Proof.Machine
end

