-- ==== Sys2Proof/WellFormed.lean ====
section
/-! DEFINITION. Well-formed commands: one that names an item of a numbered set names one that the block has
(Table 0-5). A write or a read of a dictionary object is well-formed whatever it names: the block answers it with a
refusal code (Table 11-6). -/

namespace Sys2Proof

/-- The numbered sets of the block (Table 0-5), and how many items each has. -/
inductive Items where
  | ports | grains | contexts | streams | inputs | ppsInputs | banks | ddrChannels | timePorts | islands | masters
  | targets | sessions | engines | cores
deriving DecidableEq, Repr

/-- How many items a set has. -/
def Items.count : Items → Nat
  | .ports => 96 | .grains => 122880 | .contexts => 6144 | .streams => 32 | .inputs => 13 | .ppsInputs => 3
  | .banks => 256 | .ddrChannels => 4 | .timePorts => 2 | .islands => 12 | .masters => 8 | .targets => 8
  | .sessions => 8 | .engines => 5 | .cores => 2

/-- The item that a command names, of which set; none for a command that names none, or names one as the address of a
dictionary access. -/
def Instr.item : Instr → Option (Items × Nat)
  | .frameStart _ => none
  | .roundStart _ => none
  | .coherentReturn c => some (.contexts, c)
  | .recapture c => some (.contexts, c)
  | .lineLate a => some (.grains, a)
  | .esReadStart a => some (.grains, a)
  | .displacedTpoaNew a => some (.grains, a)
  | .traceRecord _ _ _ _ _ => none
  | .recordAged _ port _ => some (.ports, port)
  | .recordUnmatched _ port _ => some (.ports, port)
  | .stateReturnNormal => none
  | .cdrLock p => some (.ports, p)
  | .lossOfSignal p => some (.ports, p)
  | .fawMatch p _ _ => some (.ports, p)
  | .row1Check p _ _ _ => some (.ports, p)
  | .fawConfirm p _ _ => some (.ports, p)
  | .rxFrame p _ => some (.ports, p)
  | .relockTimeout p => some (.ports, p)
  | .syncLossRenegotiate p => some (.ports, p)
  | .fecDegInterval p => some (.ports, p)
  | .timePortFrameRx k _ _ => some (.timePorts, k)
  | .timePortSend k _ => some (.timePorts, k)
  | .timePortLinkUp k => some (.timePorts, k)
  | .portEnableWrite _ _ _ => none
  | .portRoleWrite _ _ _ => none
  | .linkRenegotiate _ _ _ => none
  | .versionMaxWrite _ _ _ => none
  | .versionExcludedWrite _ _ _ => none
  | .timeChannelEnWrite _ _ _ => none
  | .sdIslandEnWrite _ _ => none
  | .sdIslandReady k => some (.islands, k)
  | .txEqWrite _ _ _ => none
  | .grainSizeWrite _ _ _ => none
  | .txForceAisWrite _ _ _ => none
  | .grainChangedRead _ _ => none
  | .draftSrcWrite _ _ _ => none
  | .draftRevert _ _ => none
  | .commitReq _ => none
  | .mapAbort _ => none
  | .solveComplete => none
  | .armingDeadline => none
  | .commitBoundary => none
  | .fabricDrained => none
  | .lodeStateWrite _ _ _ => none
  | .groupTypeWrite _ _ _ => none
  | .lineCtxWrite _ _ _ => none
  | .latenessWrite _ _ _ => none
  | .marginWrite _ _ _ => none
  | .lineFreed a => some (.grains, a)
  | .lineChangedRead _ _ => none
  | .protRoleWrite _ _ => none
  | .witnessBlockLock st => some (.streams, st)
  | .witnessBlockLockLoss st => some (.streams, st)
  | .statusRecordRx st _ _ => some (.streams, st)
  | .verdictRecordRx st _ => some (.streams, st)
  | .noticeRecordRx st _ => some (.streams, st)
  | .ingressRecordRx st _ => some (.streams, st)
  | .egressRecordRx st _ => some (.streams, st)
  | .streamStatusTimeout st => some (.streams, st)
  | .arbiterWatchTimeout => none
  | .verdictEffective => none
  | .prefSet _ _ => none
  | .portFaultClear _ _ => none
  | .mapDigestReady => none
  | .ledgerPeriodicCut => none
  | .ledgerCutReq _ _ => none
  | .generationSealed => none
  | .rxSegmentWrite _ _ _ => none
  | .rxSealWrite _ _ => none
  | .journalSend => none
  | .journalRxWrite _ _ => none
  | .spareSealCheck _ _ => none
  | .exportTimeout => none
  | .promote _ _ => none
  | .promotionRestoreStart => none
  | .warmHealthUpdate => none
  | .refEnableWrite _ _ => none
  | .inputLoss i => some (.inputs, i)
  | .inputLossCleared i => some (.inputs, i)
  | .offsetMeasure i _ => some (.inputs, i)
  | .qualificationTimeExpiry i => some (.inputs, i)
  | .waitRestoreExpiry i => some (.inputs, i)
  | .selectionEval => none
  | .switchSettled => none
  | .dcoClampTimeout => none
  | .fsnStep => none
  | .phaseStepWrite _ _ => none
  | .frameOffsetWrite _ _ => none
  | .retime _ _ => none
  | .alignReq _ _ => none
  | .alignEdge _ => none
  | .alignTimeout => none
  | .ppsEdge src _ _ => some (.ppsInputs, src)
  | .ptpOffsetWrite _ _ => none
  | .timeSet _ _ => none
  | .timeStep _ _ => none
  | .timeCapture _ _ => none
  | .servoSrcWrite _ _ => none
  | .launch _ _ => none
  | .launchDue _ _ => none
  | .launchDiscard _ => none
  | .launchFlush _ _ => none
  | .launchDoneRead _ _ _ => none
  | .timeTriggeredCut => none
  | .bankOwnerWrite _ _ _ => none
  | .handoverDrainDone b => some (.banks, b)
  | .handoverScrubDone b => some (.banks, b)
  | .bankClearDone => none
  | .eccWriteBack b _ => some (.banks, b)
  | .eccLogRead _ _ _ => none
  | .ddrTrainingDone _ _ => none
  | .ddrFillDone => none
  | .ddrLsEnWrite _ _ => none
  | .ddrRegionSizeWrite _ _ _ => none
  | .patrolBeat _ => none
  | .ddrAlert ch _ => some (.ddrChannels, ch)
  | .retrainAttemptDone ch _ => some (.ddrChannels, ch)
  | .ddrRetrain _ _ => none
  | .matrixRead m _ _ _ _ => some (.masters, m)
  | .matrixWrite m _ _ _ => some (.masters, m)
  | .addWrap m _ _ _ => some (.masters, m)
  | .addSat m _ _ _ => some (.masters, m)
  | .swap m _ _ _ => some (.masters, m)
  | .matrixGrant t _ => some (.targets, t)
  | .matrixResponse t => some (.targets, t)
  | .matrixTimeout m _ => some (.masters, m)
  | .masterReset _ _ => none
  | .masterQuiesced k => some (.masters, k)
  | .remapWrite _ _ => none
  | .remapApplied => none
  | .watchdogExpiry core => some (.cores, core)
  | .errLogRead _ _ _ => none
  | .hdpRead port _ _ => some (.timePorts, port)
  | .hdpWrite port _ _ => some (.timePorts, port)
  | .readBulk port _ _ => some (.timePorts, port)
  | .writeBulk port _ _ => some (.timePorts, port)
  | .subscribe port _ _ => some (.timePorts, port)
  | .bulkAbort port _ _ => some (.timePorts, port)
  | .notify k => some (.sessions, k)
  | .secKeyWrite _ _ _ => none
  | .seqCeilingWritten k => some (.sessions, k)
  | .sessionIdle k => some (.sessions, k)
  | .bulkSegmentTimeout k _ => some (.sessions, k)
  | .tokenTake _ _ => none
  | .tokenRelease _ _ => none
  | .neighborSolicitation port _ => some (.timePorts, port)
  | .echoRequest port _ _ => some (.timePorts, port)
  | .testStart eng => some (.engines, eng)
  | .pathTestDone _ => none
  | .mapAuditRecheck _ => none
  | .testComplete eng _ _ => some (.engines, eng)
  | .bankWordTest b _ _ => some (.banks, b)
  | .sramPatrolUnit _ => none
  | .testReq _ _ => none
  | .assayLogRead _ _ _ => none
  | .eventClear _ _ => none
  | .eventMaskWrite _ _ => none
  | .tallyPreset _ _ _ => none
  | .tagKWrite _ _ => none
  | .tagSeedWrite _ _ => none
  | .traceStartWrap _ => none
  | .traceStartStop _ => none
  | .traceEnd _ => none
  | .samplesRead _ _ _ => none
  | .modeReqStage _ => none
  | .modeReqRestore _ => none
  | .modeReqService _ => none
  | .modeReqIsolate _ => none
  | .isolateEntry => none
  | .modeReqQuarantine _ => none
  | .modeReqDormant _ => none
  | .dormantEntry => none
  | .fabPgAssert => none
  | .fabPgTimeout => none
  | .fabPgDeassert => none
  | .wakeSelftestDone _ _ => none
  | .attestDone => none
  | .powerOnReset _ _ => none
  | .porstAssert => none
  | .sysReset _ _ => none
  | .bootComplete => none
  | .fwStageBegin _ _ => none
  | .fwEraseDone => none
  | .fwStageSegment _ _ _ => none
  | .fwCommit _ => none
  | .fwAbort _ => none
  | .fwActivate _ _ => none
  | .keeperRestartDone => none
  | .fwConfirm _ _ => none
  | .trialTimeout => none
  | .revokeKey0 _ _ => none
  | .svnCommit _ _ => none
  | .attestNonce _ _ => none
  | .attestReportDone => none
  | .registerWrite _ _ _ _ => none
  | .crierLatchReload => none
  | .timePortLinkDown k => some (.timePorts, k)

/-- A command is well-formed when the item it names exists. -/
def Instr.wf (i : Instr) : Bool :=
  match i.item with
  | some (t, k) => decide (k < t.count)
  | none => true

end Sys2Proof
end

