-- ==== Sys2Proof/Safety.lean ====
section
/-! DEFINITION. What counts as a safe run, and the terms that the statements are made of: when a command completes, what
a host access needs to be accepted, and what a command leaves alone. -/

namespace Sys2Proof.Machine

/-- The outcome of a step from `s` is a next state. -/
def Completes (s : State) : Prop := ∃ t, step s = .next t

/-- Whether an outcome is a next state. -/
def isNext : Host.Outcome State Fault Refusal → Bool
  | .next _ => true
  | .fault _ => false
  | .refused _ => false

/-- The clock of frames: the frame number is a 48-bit number (R16), no more rounds have begun in the frame than it has
(R17), and frames start on whole frames of 38,880 TCLK ticks (Table 1-4). -/
def Clk.Ok (c : Clk) : Prop := c.fsn < 2 ^ 48 ∧ c.round ≤ 405 ∧ c.base % 38880 = 0

/-- Every command that waits names items the block has. -/
def QueueOk (s : State) : Prop := ∀ i ∈ s.pending, i.wf = true

/-- Command `c` runs in state `s` to a next state of which `P` holds. -/
def Runs (c : Instr) (s : State) (P : State → Prop) : Prop := ∃ t, exec c s = .next t ∧ P t

/-- A write of `v` to element `e` of the object at `idx` passes the general checks of Table 11-6, its value fits the
object, and the boot ROM does not run alone without that object (R457). -/
def Allowed (s : State) (w : Who) (idx e v : Nat) : Prop :=
  s.gate w idx e = 0 ∧ valueCheck idx v = 0 ∧ s.romOnly idx = false

/-- A write of bytes to element `e` of the object at `idx` passes the general checks of Table 11-6, and the boot ROM
does not run alone without that object. -/
def Writable (s : State) (w : Who) (idx e : Nat) : Prop := s.gate w idx e = 0 ∧ s.romOnly idx = false

/-- A read of element `e` of the object at `idx` passes the general checks of Table 11-6, and the boot ROM does not run
alone without that object. -/
def Readable (s : State) (w : Who) (idx e : Nat) : Prop := s.readGate w idx e = 0 ∧ s.romOnly idx = false

/-- A transaction as it was issued: without what counts its wait. -/
def Txn.core (x : Txn) : Txn := { x with held := false, base := 0, age := 0, tick := 0 }

/-- What a commit that ends without a boundary leaves no repair to: no Lode has failed, the commit is none of the JX96's
own, no line has lost its place, and no context waits for long skew; or the mode takes no commit. -/
def State.NoRepair (s : State) : Prop :=
  s.sys.mode.commits = false ∨ (s.map.lodeDue = false ∧ s.ownCommit = false ∧ s.ddrDue = false ∧
    ∀ x ∈ s.grp.lines, x.2.lost = false)

/-- The words of the units of a minor grain that pass a tap (R218). -/
def tapWords (us : List SUnit) : List Word := (us.filter fun u => u.tag == .word).flatMap fun u => u.ws

/-- Record `r` is this device's own of a kind, a port and a TSN (R223). -/
def State.isRec (s : State) (r : DRec) (kind port t : Nat) : Bool :=
  r.kind == kind && r.plane == s.plane && r.place == s.place && r.port == port && r.t == t

/-- The objects that raising an event writes: latches, counts, times, and the count of lost notifications. -/
def evObj (i : Nat) : Bool := i == O.eventLatch || i == O.eventCount || i == O.eventLastTime || i == O.hdpStats

/-- Of the dictionary objects only those listed, and those that raising an event writes, may differ. -/
def OnlyRegs (l : List Nat) (s t : State) : Prop := ∀ i e, evObj i = false → i ∉ l → t.reg i e = s.reg i e

/-- Of the elements of dictionary objects only those listed, and those that raising an event writes, may differ. -/
def OnlyElems (l : List (Nat × Nat)) (s t : State) : Prop :=
  ∀ i e, e < 2 ^ 24 → evObj i = false → (i, e) ∉ l → t.reg i e = s.reg i e

/-- The write of `v` to element `e` of the object at `idx` has been accepted, has stored its value, and has changed no
other element but the count of journal entries. -/
def Stored (s t : State) (idx e v : Nat) : Prop :=
  t.reg idx e = v ∧ t.out.status = 0 ∧
  ∀ i f, f < 2 ^ 24 → evObj i = false → i ≠ O.ledgerJournalSeq → (i, f) ≠ (idx, e) → t.reg i f = s.reg i f

/-- The read of element `e` of the object at `idx` has been accepted, has returned its `n` bytes and has cleared it. -/
def ReadCleared (s t : State) (idx e n : Nat) : Prop :=
  t.out.value = toBytes n (s.reg idx e) ∧ t.reg idx e = 0 ∧ t.out.status = 0 ∧ OnlyElems [(idx, e)] s t

/-- The register arrays are in canonical form: keys strictly rise, and no entry holds what its element reads as
unlisted. -/
def RegsOk (s : State) : Prop := SMap.wf unlisted s.regs = true ∧ SMap.wf unlisted s.live = true

/-- The memories, and the marks beside them, are in canonical form: addresses strictly rise, and no entry holds what an
unlisted address reads as, which is 0, and 0xFF in the flash (log entry 5). -/
def Memory.wf (m : MemS) : Bool :=
  SMap.wf (fun _ => 0) m.bank && SMap.wf (fun _ => 0) m.fence && SMap.wf (fun _ => 0) m.ddr &&
  SMap.wf (fun _ => 0) m.sram && SMap.wf (fun _ => 0xFF) m.flash && SMap.wf (fun _ => 0) m.ddrBad &&
  SMap.wf (fun _ => 0) m.sramBad && SMap.wf (fun _ => 0) m.flashCmd && SMap.wf (fun _ => 0) m.settled &&
  SMap.wf (fun _ => 0) m.former

/-- The register arrays and the memories are in canonical form. -/
def StoresOk (s : State) : Prop := RegsOk s ∧ Memory.wf s.mem = true

/-- Port `p` has returned to START (Table 2-12, R86, R94): SEEK, its traffic interrupted, event 4p + 2; its transmitter
takes version 1 at its next frame start, its receiver at its frame boundary, or at once where it is not aligned. -/
def Returned (s t : State) (p : Nat) : Prop :=
  t.reg O.portNegState p = 1 ∧ t.latched (4 * p + 2) = true ∧ (t.linkP p).carries = false ∧ t.txVer p = s.txVer p ∧
  (t.linkP p).txReset = (s.txVer p != 1) ∧ (t.linkP p).rxReset = (s.aligned p && s.rxVer p != 1) ∧
  t.rxVer p = (if s.aligned p then s.rxVer p else 1)

/-- A frame that leaves on time port `k` now waits for no launch: none is queued for it, and none was kept back
(R314). -/
def PortFree (s : State) (k : Nat) : Prop := (∀ l ∈ s.tim.launches, l.iface ≠ 96 + k) ∧ ∀ x ∈ s.tim.held, x.1 ≠ k

/-- Message `m` on a port is a request `h` of an operation that the block serves at once (R388 to R394). -/
def Admitted (s : State) (port : Nat) (enc : Encap) (op : Nat) (m : List Byte) (h : Hdp) : Prop :=
  port < 2 ∧ s.served port enc = true ∧ hdpParse m = some h ∧ h.op = op ∧ bit h.flags 7 = false ∧
  s.authentic h m = true ∧ s.fresh48 h = true ∧ (s.session h.session).waiting = [] ∧ s.nearCeiling h = false

/-- The fields of a message fit their places: OP is one of Table 11-4, the reserved bits of FLAGS are zero, VALUE
holds at most 1,024 bytes (Table 11-3). -/
def Hdp.Fits (h : Hdp) : Prop :=
  1 ≤ h.op ∧ h.op ≤ 8 ∧ h.flags < 256 ∧ h.flags % 8 = 0 ∧ h.session < 2 ^ 16 ∧ h.seq < 2 ^ 48 ∧ h.xfer < 2 ^ 16 ∧
  h.index < 2 ^ 16 ∧ h.sub < 256 ∧ h.elem < 2 ^ 24 ∧ h.offset < 2 ^ 32 ∧ h.total < 2 ^ 32 ∧ h.status < 2 ^ 16 ∧
  h.value.length ≤ 1024

/-- A read of `n` entries from entry `first` of the log of an object of `size` entries of `width` bytes passes its
checks, and gives them, zeros where there are none, and the log keeps the others (R325, R372, R428, R444, Table 8-5). -/
def LogRead (c : Instr) (s : State) (w : Who) (idx size width first n : Nat) (log : State → List Nat) : Prop :=
  logGate s w idx size first n = 0 → Runs c s fun t =>
    t.out.value = ((List.range n).flatMap fun i => toBytes width ((log s).getD (first + i) 0)) ∧
    log t = (log s).take first ++ (log s).drop (first + n) ∧ t.out.status = 0 ∧ OnlyElems [] s t

/-- Every field of the state but the registers and the answer is what it was. -/
def SameParts (s t : State) : Prop :=
  t.pending = s.pending ∧ t.live = s.live ∧ t.clk = s.clk ∧ t.sys = s.sys ∧ t.rate = s.rate ∧ t.link = s.link ∧
  t.linkq = s.linkq ∧ t.rx = s.rx ∧ t.tx = s.tx ∧ t.fab = s.fab ∧ t.map = s.map ∧ t.grp = s.grp ∧ t.prot = s.prot ∧
  t.wit = s.wit ∧ t.led = s.led ∧ t.ref = s.ref ∧ t.tim = s.tim ∧ t.mem = s.mem ∧ t.mtx = s.mtx ∧ t.hdp = s.hdp ∧
  t.fw = s.fw ∧ t.asy = s.asy ∧ t.tal = s.tal ∧ t.crier = s.crier ∧ t.crierSlip = s.crierSlip ∧ t.freeCtr = s.freeCtr

/-- Command `c` is refused with a code and has no effect: it changes its answer alone, and DICT.LAST_REFUSAL of a matrix
master (R386). -/
def Refuses (c : Instr) (s : State) (code : Nat) : Prop := Runs c s fun t =>
  t.out.status = code ∧ t.out.value = [] ∧ t.out.sent = [] ∧ SameParts s t ∧
  ∀ i e, i ≠ O.dictLastRefusal → t.reg i e = s.reg i e

/-! ## The accesses of the write commands -/

/-- The writer, the object and the element of a command that writes one object of the dictionary. -/
def access : Instr → Option (Who × Nat × Nat)
  | .portEnableWrite w p _ => some (w, O.portEnable, p)
  | .portRoleWrite w p _ => some (w, O.portRole, p)
  | .linkRenegotiate w p _ => some (w, O.linkRenegotiate, p)
  | .versionMaxWrite w p _ => some (w, O.linkVersionMax, p)
  | .versionExcludedWrite w p _ => some (w, O.linkVersionExcluded, p)
  | .timeChannelEnWrite w p _ => some (w, O.linkTimeChannelEn, p)
  | .sdIslandEnWrite w _ => some (w, O.powerSdIslandEn, 0)
  | .txEqWrite w p _ => some (w, O.linkTxEq, p)
  | .grainSizeWrite w e _ => some (w, O.grainSize, e)
  | .txForceAisWrite w a _ => some (w, O.grainTxForceAis, a)
  | .draftSrcWrite w a _ => some (w, O.mapDraftSrc, a)
  | .draftRevert w _ => some (w, O.mapDraftRevert, 0)
  | .commitReq w => some (w, O.mapCommitReq, 0)
  | .lodeStateWrite w l _ => some (w, O.fabricLodeState, l)
  | .groupTypeWrite w c _ => some (w, O.groupType, c)
  | .lineCtxWrite w a _ => some (w, O.groupLineCtx, a)
  | .latenessWrite w c _ => some (w, O.groupLateness, c)
  | .marginWrite w c _ => some (w, O.groupMargin, c)
  | .protRoleWrite w _ => some (w, O.protRole, 0)
  | .prefSet w _ => some (w, O.protPrefSet, 0)
  | .portFaultClear w _ => some (w, O.protPortFaultClear, 0)
  | .ledgerCutReq w _ => some (w, O.ledgerCutReq, 0)
  | .rxSegmentWrite w k _ => some (w, O.ledgerRxSegment, k)
  | .rxSealWrite w _ => some (w, O.ledgerRxSeal, 0)
  | .journalRxWrite w _ => some (w, O.ledgerJournalRx, 0)
  | .promote w _ => some (w, O.protPromote, 0)
  | .refEnableWrite w _ => some (w, O.refEnable, 0)
  | .phaseStepWrite w _ => some (w, O.refPhaseStep, 0)
  | .frameOffsetWrite w _ => some (w, O.refFrameOffset, 0)
  | .retime w _ => some (w, O.refRetime, 0)
  | .alignReq w _ => some (w, O.refAlignReq, 0)
  | .ptpOffsetWrite w _ => some (w, O.timePtpOffset, 0)
  | .timeSet w _ => some (w, O.timeSet, 0)
  | .timeStep w _ => some (w, O.timeStep, 0)
  | .timeCapture w _ => some (w, O.timeCapture, 0)
  | .servoSrcWrite w _ => some (w, O.timeServoSrc, 0)
  | .launch w _ => some (w, O.timeLaunch, 0)
  | .launchFlush w _ => some (w, O.timeLaunchFlush, 0)
  | .bankOwnerWrite w b _ => some (w, O.memBankOwner, b)
  | .ddrLsEnWrite w _ => some (w, O.memDdrLsEn, 0)
  | .ddrRegionSizeWrite w trace _ => some (w, (if trace then O.memDdrTraceSize else O.memDdrLsSize), 0)
  | .ddrRetrain w _ => some (w, O.memDdrRetrain, 0)
  | .masterReset w _ => some (w, O.matrixMasterReset, 0)
  | .remapWrite w _ => some (w, O.matrixRemap, 0)
  | .secKeyWrite w slot _ => some (w, O.secKey, slot)
  | .tokenTake w _ => some (w, O.maintTokenTake, 0)
  | .tokenRelease w _ => some (w, O.maintTokenRelease, 0)
  | .testReq w _ => some (w, O.assayTestReq, 0)
  | .eventClear w _ => some (w, O.eventClear, 0)
  | .eventMaskWrite w _ => some (w, O.eventMask, 0)
  | .tallyPreset w i _ => some (w, O.tallyPreset, i)
  | .tagKWrite w _ => some (w, O.tallyTagK, 0)
  | .tagSeedWrite w _ => some (w, O.tallyTagSeed, 0)
  | .traceStartWrap w => some (w, O.tallyTraceCtrl, 0)
  | .traceStartStop w => some (w, O.tallyTraceCtrl, 0)
  | .traceEnd w => some (w, O.tallyTraceCtrl, 0)
  | .modeReqStage w => some (w, O.sysModeReq, 0)
  | .modeReqRestore w => some (w, O.sysModeReq, 0)
  | .modeReqService w => some (w, O.sysModeReq, 0)
  | .modeReqIsolate w => some (w, O.sysModeReq, 0)
  | .modeReqQuarantine w => some (w, O.sysModeReq, 0)
  | .modeReqDormant w => some (w, O.sysModeReq, 0)
  | .sysReset w _ => some (w, O.sysReset, 0)
  | .fwStageBegin w _ => some (w, O.fwStageBegin, 0)
  | .fwStageSegment w k _ => some (w, O.fwStageSegment, k)
  | .fwActivate w _ => some (w, O.fwActivate, 0)
  | .fwConfirm w _ => some (w, O.fwConfirm, 0)
  | .revokeKey0 w _ => some (w, O.secRevokeKey0, 0)
  | .svnCommit w _ => some (w, O.secSvnCommit, 0)
  | .attestNonce w _ => some (w, O.secAttestNonce, 0)
  | _ => none

/-! ## What each command may change -/

/-- The parts of the state that commands are told apart by. -/
inductive Part where
  | live | clk | sys | link | linkq | rx | tx | fab | map | grp | prot | wit
  | ref | tim | mem | mtx | fw | asy | crier | crierSlip
deriving DecidableEq, Repr

/-- A part of the state is what it was. -/
def Part.same (p : Part) (s t : State) : Prop :=
  match p with
  | .live => t.live = s.live
  | .clk => t.clk = s.clk
  | .sys => t.sys = s.sys
  | .link => t.link = s.link
  | .linkq => t.linkq = s.linkq
  | .rx => t.rx = s.rx
  | .tx => t.tx = s.tx
  | .fab => t.fab = s.fab
  | .map => t.map = s.map
  | .grp => t.grp = s.grp
  | .prot => t.prot = s.prot
  | .wit => t.wit = s.wit
  | .ref => t.ref = s.ref
  | .tim => t.tim = s.tim
  | .mem => t.mem = s.mem
  | .mtx => t.mtx = s.mtx
  | .fw => t.fw = s.fw
  | .asy => t.asy = s.asy
  | .crier => t.crier = s.crier
  | .crierSlip => t.crierSlip = s.crierSlip

/-- Every part. -/
def Part.all : List Part :=
  [.live, .clk, .sys, .link, .linkq, .rx, .tx, .fab, .map, .grp, .prot, .wit, .ref, .tim, .mem, .mtx, .fw, .asy,
    .crier, .crierSlip]

/-- The parts that a command may change. The resets, and the commands that may write any object, may change all. -/
def parts (c : Instr) : List Part :=
  match c with
  | .frameStart _ => [.live, .clk, .sys, .link, .linkq, .rx, .fab, .map, .grp, .prot, .wit, .ref, .tim, .mem, .mtx,
    .fw, .asy]
  | .roundStart _ => [.live, .clk, .linkq, .rx, .tx, .fab, .map, .grp, .prot, .mem, .mtx, .asy, .crierSlip]
  | .coherentReturn _ => [.grp]
  | .recapture _ => [.grp]
  | .lineLate _ => [.live, .grp]
  | .esReadStart _ => [.rx]
  | .displacedTpoaNew _ => [.linkq, .tx]
  | .traceRecord _ _ _ _ _ => []
  | .recordAged _ _ _ => [.linkq, .prot, .wit, .mtx, .asy]
  | .recordUnmatched _ _ _ => [.prot, .mtx]
  | .stateReturnNormal => [.linkq, .prot, .wit]
  | .cdrLock _ => [.link, .linkq]
  | .lossOfSignal _ => [.link, .rx, .prot, .wit, .ref, .tim]
  | .fawMatch _ _ _ => [.link]
  | .row1Check _ _ _ _ => [.link]
  | .fawConfirm _ _ _ => [.link, .rx]
  | .rxFrame _ _ => [.sys, .link, .linkq, .rx, .map, .prot, .wit, .ref, .tim, .mem, .asy]
  | .relockTimeout _ => [.link, .linkq, .rx, .prot, .wit, .ref, .tim]
  | .syncLossRenegotiate _ => [.link, .rx, .prot, .wit, .ref, .tim]
  | .fecDegInterval _ => [.link]
  | .timePortFrameRx _ _ _ => [.sys, .map, .ref, .tim, .mem]
  | .timePortSend _ _ => [.tim]
  | .timePortLinkUp _ => [.tim]
  | .portEnableWrite _ _ _ => [.link, .linkq, .rx, .prot, .wit, .ref, .tim]
  | .portRoleWrite _ _ _ => []
  | .linkRenegotiate _ _ _ => [.link, .linkq, .rx, .prot, .wit, .ref, .tim]
  | .versionMaxWrite _ _ _ => [.link, .linkq, .rx, .prot, .wit, .ref, .tim]
  | .versionExcludedWrite _ _ _ => []
  | .timeChannelEnWrite _ _ _ => [.link]
  | .sdIslandEnWrite _ _ => [.sys, .linkq]
  | .sdIslandReady _ => [.sys, .link, .linkq, .rx, .ref, .tim]
  | .txEqWrite _ _ _ => []
  | .grainSizeWrite _ _ _ => []
  | .txForceAisWrite _ _ _ => []
  | .grainChangedRead _ _ => []
  | .draftSrcWrite _ _ _ => []
  | .draftRevert _ _ => []
  | .commitReq _ => [.map, .mem]
  | .mapAbort _ => [.sys, .map, .mem]
  | .solveComplete => [.linkq, .map, .wit]
  | .armingDeadline => [.sys, .fab, .map, .mem]
  | .commitBoundary => [.live, .sys, .link, .linkq, .rx, .fab, .map, .grp, .prot, .wit, .ref, .tim, .mem, .mtx, .fw]
  | .fabricDrained => [.map, .mem]
  | .lodeStateWrite _ _ _ => [.linkq, .asy]
  | .groupTypeWrite _ _ _ => [.grp]
  | .lineCtxWrite _ _ _ => [.grp]
  | .latenessWrite _ _ _ => [.grp]
  | .marginWrite _ _ _ => [.grp]
  | .lineFreed _ => [.grp, .mem]
  | .lineChangedRead _ _ => []
  | .protRoleWrite _ _ => [.link, .linkq, .rx, .prot, .wit, .ref, .tim]
  | .witnessBlockLock _ => [.prot, .wit]
  | .witnessBlockLockLoss _ => [.prot, .wit]
  | .statusRecordRx _ _ _ => [.linkq, .prot, .wit, .ref]
  | .verdictRecordRx _ _ => [.linkq, .prot, .wit]
  | .noticeRecordRx _ _ => [.prot, .wit]
  | .ingressRecordRx _ _ => [.linkq, .prot, .wit]
  | .egressRecordRx _ _ => [.linkq, .prot, .wit]
  | .streamStatusTimeout _ => [.prot, .wit]
  | .arbiterWatchTimeout => [.prot]
  | .verdictEffective => [.linkq, .prot]
  | .prefSet _ _ => [.linkq, .prot, .wit]
  | .portFaultClear _ _ => []
  | .mapDigestReady => [.linkq, .prot, .wit]
  | .ledgerPeriodicCut => [.mem]
  | .ledgerCutReq _ _ => [.sys, .map, .prot, .mem, .fw]
  | .generationSealed => [.linkq, .wit, .tim]
  | .rxSegmentWrite _ _ _ => [.mem]
  | .rxSealWrite _ _ => [.mem]
  | .journalSend => [.tim]
  | .journalRxWrite _ _ => []
  | .spareSealCheck _ _ => []
  | .exportTimeout => []
  | .promote _ _ => [.live, .sys, .link, .linkq, .rx, .map, .grp, .prot, .wit, .ref, .tim, .mem, .mtx, .fw, .asy]
  | .promotionRestoreStart => [.live, .sys, .link, .linkq, .rx, .map, .grp, .prot, .wit, .ref, .tim, .mem, .mtx,
    .fw, .asy]
  | .warmHealthUpdate => [.prot]
  | .refEnableWrite _ _ => [.ref, .tim]
  | .inputLoss _ => [.ref, .tim]
  | .inputLossCleared _ => [.ref, .tim]
  | .offsetMeasure _ _ => [.ref, .tim]
  | .qualificationTimeExpiry _ => [.ref, .tim]
  | .waitRestoreExpiry _ => [.ref, .tim]
  | .selectionEval => [.ref, .tim]
  | .switchSettled => [.ref, .tim]
  | .dcoClampTimeout => [.ref, .tim]
  | .fsnStep => [.clk, .sys, .rx, .map, .grp, .ref, .tim, .mem]
  | .phaseStepWrite _ _ => [.sys, .map, .ref, .tim, .mem]
  | .frameOffsetWrite _ _ => [.ref, .tim]
  | .retime _ _ => [.ref, .tim]
  | .alignReq _ _ => [.ref]
  | .alignEdge _ => [.sys, .map, .ref, .tim, .mem]
  | .alignTimeout => [.ref]
  | .ppsEdge _ _ _ => [.sys, .map, .ref, .tim, .mem]
  | .ptpOffsetWrite _ _ => [.sys, .map, .ref, .tim, .mem]
  | .timeSet _ _ => [.sys, .map, .tim, .mem]
  | .timeStep _ _ => [.sys, .map, .tim, .mem]
  | .timeCapture _ _ => []
  | .servoSrcWrite _ _ => [.sys, .map, .tim, .mem]
  | .launch _ _ => [.tim]
  | .launchDue _ _ => [.linkq, .tim]
  | .launchDiscard _ => [.tim]
  | .launchFlush _ _ => [.tim]
  | .launchDoneRead _ _ _ => [.tim]
  | .timeTriggeredCut => [.mem]
  | .bankOwnerWrite _ _ _ => [.linkq, .mem, .mtx, .asy]
  | .handoverDrainDone _ => [.mem]
  | .handoverScrubDone _ => [.mem]
  | .bankClearDone => [.sys, .mem]
  | .eccWriteBack _ _ => [.mem]
  | .eccLogRead _ _ _ => [.mem]
  | .ddrTrainingDone _ _ => [.mem]
  | .ddrFillDone => [.map, .mem]
  | .ddrLsEnWrite _ _ => []
  | .ddrRegionSizeWrite _ _ _ => []
  | .patrolBeat _ => [.live, .linkq, .grp, .mem, .asy]
  | .ddrAlert _ _ => [.live, .grp, .mem]
  | .retrainAttemptDone _ _ => [.map, .mem]
  | .ddrRetrain _ _ => [.live, .grp, .mem]
  | .matrixRead _ _ _ _ _ => [.mtx]
  | .matrixWrite _ _ _ _ => [.mtx]
  | .addWrap _ _ _ _ => [.mtx]
  | .addSat _ _ _ _ => [.mtx]
  | .swap _ _ _ _ => [.mtx]
  | .matrixGrant _ _ => Part.all
  | .matrixResponse _ => Part.all
  | .matrixTimeout _ _ => Part.all
  | .masterReset _ _ => [.mtx]
  | .masterQuiesced _ => []
  | .remapWrite _ _ => [.mtx]
  | .remapApplied => [.mtx]
  | .watchdogExpiry _ => [.live, .sys, .link, .linkq, .rx, .map, .grp, .prot, .wit, .ref, .tim, .mem, .mtx, .fw, .asy]
  | .errLogRead _ _ _ => [.mtx]
  | .hdpRead _ _ _ => Part.all
  | .hdpWrite _ _ _ => Part.all
  | .readBulk _ _ _ => Part.all
  | .writeBulk _ _ _ => Part.all
  | .subscribe _ _ _ => Part.all
  | .bulkAbort _ _ _ => Part.all
  | .notify _ => [.tim]
  | .secKeyWrite _ _ _ => []
  | .seqCeilingWritten _ => Part.all
  | .sessionIdle _ => []
  | .bulkSegmentTimeout _ _ => [.linkq, .prot, .wit, .mtx, .asy]
  | .tokenTake _ _ => []
  | .tokenRelease _ _ => []
  | .neighborSolicitation _ _ => [.tim]
  | .echoRequest _ _ _ => [.tim]
  | .testStart _ => [.linkq, .asy]
  | .pathTestDone _ => [.asy]
  | .mapAuditRecheck _ => [.fab, .asy]
  | .testComplete _ _ _ => [.live, .sys, .map, .grp, .mem, .asy]
  | .bankWordTest _ _ _ => [.linkq, .mem, .asy]
  | .sramPatrolUnit _ => [.linkq, .mem, .asy]
  | .testReq _ _ => [.sys, .linkq, .map, .prot, .mem, .mtx, .fw, .asy]
  | .assayLogRead _ _ _ => [.asy]
  | .eventClear _ _ => []
  | .eventMaskWrite _ _ => []
  | .tallyPreset _ _ _ => []
  | .tagKWrite _ _ => []
  | .tagSeedWrite _ _ => []
  | .traceStartWrap _ => []
  | .traceStartStop _ => []
  | .traceEnd _ => []
  | .samplesRead _ _ _ => []
  | .modeReqStage _ => [.live, .sys, .link, .linkq, .rx, .map, .grp, .prot, .wit, .ref, .tim, .mem, .mtx, .fw, .asy]
  | .modeReqRestore _ => [.live, .sys, .link, .linkq, .rx, .map, .grp, .prot, .wit, .ref, .tim, .mem, .mtx, .fw, .asy]
  | .modeReqService _ => [.live, .sys, .link, .linkq, .rx, .map, .grp, .prot, .wit, .ref, .tim, .mem, .mtx, .fw, .asy]
  | .modeReqIsolate _ => [.live, .sys, .link, .linkq, .rx, .map, .grp, .prot, .wit, .ref, .tim, .mem, .mtx, .fw, .asy]
  | .isolateEntry => [.sys]
  | .modeReqQuarantine _ => [.live, .sys, .link, .linkq, .rx, .map, .grp, .prot, .wit, .ref, .tim, .mem, .mtx, .fw,
    .asy]
  | .modeReqDormant _ => [.live, .sys, .link, .linkq, .rx, .map, .grp, .prot, .wit, .ref, .tim, .mem, .mtx, .fw, .asy]
  | .dormantEntry => [.live, .sys, .link, .linkq, .rx, .tx, .fab, .map, .grp, .prot, .wit, .ref, .tim, .mem, .mtx,
    .fw, .asy, .crierSlip]
  | .fabPgAssert => [.sys]
  | .fabPgTimeout => [.sys, .map, .prot, .mem, .mtx, .fw]
  | .fabPgDeassert => [.live, .sys, .link, .linkq, .rx, .tx, .fab, .map, .grp, .prot, .wit, .ref, .tim, .mem, .mtx,
    .fw, .asy, .crierSlip]
  | .wakeSelftestDone _ _ => [.live, .sys, .map, .prot, .mem, .mtx, .fw, .asy]
  | .attestDone => [.live, .sys, .link, .linkq, .rx, .map, .grp, .prot, .wit, .ref, .tim, .mem, .mtx, .fw, .asy]
  | .powerOnReset _ _ => Part.all
  | .porstAssert => Part.all
  | .sysReset _ _ => Part.all
  | .bootComplete => [.sys, .mem, .fw]
  | .fwStageBegin _ _ => [.mem, .fw]
  | .fwEraseDone => [.mem]
  | .fwStageSegment _ _ _ => [.mem, .fw]
  | .fwCommit _ => [.mem, .fw]
  | .fwAbort _ => [.mem, .fw]
  | .fwActivate _ _ => [.sys, .mem, .mtx, .fw]
  | .keeperRestartDone => [.live, .sys, .link, .linkq, .rx, .map, .grp, .prot, .wit, .ref, .tim, .mem, .mtx, .fw,
    .asy]
  | .fwConfirm _ _ => [.mem, .fw]
  | .trialTimeout => [.sys, .mtx, .fw]
  | .revokeKey0 _ _ => []
  | .svnCommit _ _ => []
  | .attestNonce _ _ => [.fw]
  | .attestReportDone => [.fw]
  | .registerWrite _ _ _ _ => Part.all
  | .crierLatchReload => [.crier, .crierSlip]
  | .timePortLinkDown _ => [.tim]

/-- The dictionary objects that a command may write, beside those that raising an event writes; none for a command that
may write whatever object its operand or the restored generation names, or that takes registers back to defaults. -/
def objs (c : Instr) : Option (List Nat) :=
  match c with
  | .frameStart _ => none
  | .roundStart _ => some [O.assayActive, O.assayDropped, O.assayErrors, O.assayQueueLen, O.assayTestResult,
    O.fabricSlotParityErr, O.grainChanged, O.grainCrcErr, O.grainEsSlip, O.grainRxTpob, O.grainRxTsn,
    O.grainTsnJump, O.grainTxJust, O.grainTxPtr, O.grainTxState, O.groupLineChanged, O.groupLineFlags,
    O.groupLineLateness, O.groupLineSlack, O.groupLineState, O.groupOffset, O.groupSieveStats, O.groupTarget,
    O.maintTokenHolder, O.memBankCe, O.memBankUe, O.memDdrCe, O.memDdrChState, O.memDdrState, O.memDdrUe,
    O.memStaleAccess, O.protDigestStats, O.tallyOvfCount, O.tallyTraceCount, O.tallyTraceOldest, O.tallyTraceState]
  | .coherentReturn _ => some [O.groupMode]
  | .recapture _ => some [O.groupLineSlack, O.groupOffset, O.groupTarget]
  | .lineLate _ => some [O.groupLineChanged, O.groupLineState]
  | .esReadStart _ => some []
  | .displacedTpoaNew _ => some [O.grainTxPtr]
  | .traceRecord _ _ _ _ _ => some [O.tallyOvfCount]
  | .recordAged _ _ _ => some [O.assayActive, O.assayDropped, O.assayErrors, O.assayQueueLen, O.assayTestResult,
    O.protDigestStats, O.protFlags, O.protPortFaulted, O.protState, O.tallyOvfCount]
  | .recordUnmatched _ _ _ => some [O.protDigestStats]
  | .stateReturnNormal => some []
  | .cdrLock _ => some [O.portAlignState]
  | .lossOfSignal _ => some [O.grainChanged, O.grainRxState, O.portAlignState, O.portNegState, O.portVersion,
    O.protFlags, O.refTied, O.tallyOvfCount, O.timeGridResidual, O.timeTcStats, O.witnessStreamState]
  | .fawMatch _ _ _ => some [O.portFlintDrop]
  | .row1Check _ _ _ _ => some [O.portAlignState, O.portFlintReject]
  | .fawConfirm _ _ _ => some [O.grainChanged, O.grainRxState, O.portAlignState, O.portFlintReject]
  | .rxFrame _ _ => some [O.assayActive, O.assayDropped, O.assayErrors, O.assayQueueLen, O.assayTestResult,
    O.grainChanged, O.grainRxJust, O.grainRxPtr, O.grainRxState, O.linkChangeCount, O.linkPeerSupported,
    O.maintTokenHolder, O.maintTokenSince, O.mapBoundaryFsn, O.mapResult, O.mapState, O.portAlignState,
    O.portFecCorr, O.portFecUncorr, O.portFlintReject, O.portNegState, O.portRxFsn, O.portRxPref, O.portRxQl,
    O.portRxStatus, O.portVersion, O.protFlags, O.refDcoOffset, O.refInputPhase, O.refInputState, O.refTied,
    O.tallyOvfCount, O.timeGridResidual, O.timeServoFreq, O.timeServoOffset, O.timeTcStats, O.witnessStreamState]
  | .relockTimeout _ => some [O.grainChanged, O.grainRxState, O.linkVersionExcluded, O.portAlignState,
    O.portNegState, O.portVersion, O.protFlags, O.refTied, O.tallyOvfCount, O.timeGridResidual, O.timeTcStats,
    O.witnessStreamState]
  | .syncLossRenegotiate _ => some [O.grainChanged, O.grainRxState, O.portAlignState, O.portNegState, O.portVersion,
    O.protFlags, O.refTied, O.tallyOvfCount, O.timeGridResidual, O.timeTcStats, O.witnessStreamState]
  | .fecDegInterval _ => some []
  | .timePortFrameRx _ _ _ => some [O.maintTokenHolder, O.maintTokenSince, O.mapBoundaryFsn, O.mapResult,
    O.mapState, O.refDcoOffset, O.refInputPhase, O.refTied, O.tallyOvfCount, O.timeGridResidual, O.timeServoFreq,
    O.timeServoOffset, O.timeTcStats]
  | .timePortSend _ _ => some [O.tallyOvfCount, O.timeTcStats]
  | .timePortLinkUp _ => some []
  | .portEnableWrite _ _ _ => some [O.dictLastRefusal, O.grainChanged, O.grainRxState, O.ledgerJournalSeq,
    O.maintTokenHolder, O.portAlignState, O.portEnable, O.portNegState, O.portVersion, O.protFlags, O.refTied,
    O.tallyOvfCount, O.timeGridResidual, O.timeTcStats, O.witnessStreamState]
  | .portRoleWrite _ _ _ => some [O.dictLastRefusal, O.ledgerJournalSeq, O.portRole]
  | .linkRenegotiate _ _ _ => some [O.dictLastRefusal, O.grainChanged, O.grainRxState, O.ledgerJournalSeq,
    O.maintTokenHolder, O.maintTokenSince, O.portAlignState, O.portNegState, O.portVersion, O.protFlags, O.refTied,
    O.tallyOvfCount, O.timeGridResidual, O.timeTcStats, O.witnessStreamState]
  | .versionMaxWrite _ _ _ => some [O.dictLastRefusal, O.grainChanged, O.grainRxState, O.ledgerJournalSeq,
    O.linkVersionMax, O.maintTokenHolder, O.maintTokenSince, O.portAlignState, O.portNegState, O.portVersion,
    O.protFlags, O.refTied, O.tallyOvfCount, O.timeGridResidual, O.timeTcStats, O.witnessStreamState]
  | .versionExcludedWrite _ _ _ => some [O.dictLastRefusal, O.ledgerJournalSeq, O.linkVersionExcluded]
  | .timeChannelEnWrite _ _ _ => some [O.dictLastRefusal, O.ledgerJournalSeq, O.linkTimeChannelEn]
  | .sdIslandEnWrite _ _ => some [O.dictLastRefusal, O.ledgerJournalSeq, O.maintTokenHolder, O.maintTokenSince,
    O.powerSdIslandEn, O.powerSdIslandState]
  | .sdIslandReady _ => some [O.grainChanged, O.grainRxState, O.maintTokenHolder, O.portAlignState, O.portNegState,
    O.portVersion, O.powerSdIslandState, O.refTied, O.timeGridResidual]
  | .txEqWrite _ _ _ => some [O.dictLastRefusal, O.ledgerJournalSeq, O.linkTxEq]
  | .grainSizeWrite _ _ _ => some [O.dictLastRefusal, O.grainSize, O.ledgerJournalSeq]
  | .txForceAisWrite _ _ _ => some [O.dictLastRefusal, O.grainTxForceAis, O.ledgerJournalSeq]
  | .grainChangedRead _ _ => some [O.grainChanged]
  | .draftSrcWrite _ _ _ => some [O.dictLastRefusal, O.ledgerJournalSeq, O.mapDraftSrc]
  | .draftRevert _ _ => some [O.dictLastRefusal, O.ledgerJournalSeq, O.mapDraftSrc]
  | .commitReq _ => some [O.dictLastRefusal, O.ledgerJournalSeq, O.maintTokenHolder, O.maintTokenSince, O.mapResult,
    O.mapState]
  | .mapAbort _ => some [O.dictLastRefusal, O.maintTokenHolder, O.maintTokenSince, O.mapResult, O.mapState,
    O.tallyOvfCount]
  | .solveComplete => some [O.mapBoundaryFsn, O.mapRepairs, O.mapShadowSrc, O.mapSolveCycles, O.mapState,
    O.tallyOvfCount]
  | .armingDeadline => some [O.maintTokenHolder, O.maintTokenSince, O.mapResult, O.mapState, O.tallyOvfCount]
  | .commitBoundary => none
  | .fabricDrained => some [O.maintTokenHolder, O.maintTokenSince, O.mapEpoch, O.mapLiveFsn, O.mapResult, O.mapState]
  | .lodeStateWrite _ _ _ => some [O.assayActive, O.assayDropped, O.assayQueueLen, O.assayTestResult,
    O.dictLastRefusal, O.fabricLodeState, O.ledgerJournalSeq, O.maintTokenHolder, O.maintTokenSince, O.tallyOvfCount]
  | .groupTypeWrite _ _ _ => some [O.dictLastRefusal, O.groupType, O.ledgerJournalSeq]
  | .lineCtxWrite _ _ _ => some [O.dictLastRefusal, O.groupLineCtx, O.ledgerJournalSeq]
  | .latenessWrite _ _ _ => some [O.dictLastRefusal, O.groupLateness, O.ledgerJournalSeq]
  | .marginWrite _ _ _ => some [O.dictLastRefusal, O.groupMargin, O.ledgerJournalSeq]
  | .lineFreed _ => some [O.groupMode]
  | .lineChangedRead _ _ => some [O.groupLineChanged]
  | .protRoleWrite _ _ => some [O.dictLastRefusal, O.grainChanged, O.grainRxState, O.ledgerJournalSeq,
    O.maintTokenHolder, O.portAlignState, O.portNegState, O.portVersion, O.protFlags, O.protRole, O.refTied,
    O.tallyOvfCount, O.timeGridResidual, O.timeTcStats, O.witnessStreamState]
  | .witnessBlockLock _ => some [O.protFlags, O.witnessStreamState]
  | .witnessBlockLockLoss _ => some [O.protFlags, O.witnessStreamState]
  | .statusRecordRx _ _ _ => some [O.maintTokenHolder, O.protFlags, O.protFromTsn, O.protPref, O.refDcoOffset,
    O.refInputPhase, O.timeGridResidual, O.witnessLinkDelay, O.witnessRecErr, O.witnessStreamDevid,
    O.witnessStreamState]
  | .verdictRecordRx _ _ => some [O.witnessLateVerdict, O.witnessRecErr]
  | .noticeRecordRx _ _ => some [O.witnessRecErr]
  | .ingressRecordRx _ _ => some [O.protDigestStats, O.protState, O.witnessRecErr]
  | .egressRecordRx _ _ => some [O.protDigestStats, O.protState, O.witnessRecErr]
  | .streamStatusTimeout _ => some [O.protFlags, O.witnessStreamState]
  | .arbiterWatchTimeout => some [O.protFlags]
  | .verdictEffective => some [O.protFaultPorts, O.protFlags, O.protFromTsn, O.protPref, O.protState]
  | .prefSet _ _ => some [O.dictLastRefusal, O.ledgerJournalSeq]
  | .portFaultClear _ _ => some [O.assayPortCause, O.dictLastRefusal, O.ledgerJournalSeq, O.protPortFaulted]
  | .mapDigestReady => some [O.protMapDigest]
  | .ledgerPeriodicCut => some [O.ledgerExportState, O.maintTokenHolder, O.maintTokenSince]
  | .ledgerCutReq _ _ => some [O.dictLastRefusal, O.ledgerExportState, O.ledgerJournalSeq, O.maintTokenHolder,
    O.maintTokenSince, O.mapResult, O.mapState, O.protPromoteStep, O.protState, O.sysCause, O.sysModeFsn, O.sysResume]
  | .generationSealed => some [O.ledgerExportState, O.ledgerGen, O.ledgerGenFsn, O.ledgerGenHash, O.maintTokenHolder]
  | .rxSegmentWrite _ _ _ => some [O.dictLastRefusal, O.ledgerSlotFsn, O.ledgerSlotGen, O.ledgerSlotState]
  | .rxSealWrite _ _ => some [O.dictLastRefusal, O.ledgerRxJournalState, O.ledgerSlotFsn, O.ledgerSlotGen,
    O.ledgerSlotState]
  | .journalSend => some [O.ledgerExportState]
  | .journalRxWrite _ _ => some [O.dictLastRefusal, O.ledgerRxJournalState]
  | .spareSealCheck _ _ => some [O.ledgerExportState, O.ledgerSpareGen, O.maintTokenHolder]
  | .exportTimeout => some [O.ledgerExportState, O.maintTokenHolder]
  | .promote _ _ => none
  | .promotionRestoreStart => none
  | .warmHealthUpdate => some [O.protWarmHealth]
  | .refEnableWrite _ _ => some [O.dictLastRefusal, O.ledgerJournalSeq, O.refEnable, O.refInputState, O.refTied,
    O.timeGridResidual]
  | .inputLoss _ => some [O.refInputState, O.refTied, O.timeGridResidual]
  | .inputLossCleared _ => some [O.refInputState, O.refTied, O.timeGridResidual]
  | .offsetMeasure _ _ => some [O.refInputOffset, O.refInputState, O.refTied, O.timeGridResidual]
  | .qualificationTimeExpiry _ => some [O.refInputState, O.refTied, O.timeGridResidual]
  | .waitRestoreExpiry _ => some [O.refInputState, O.refTied, O.timeGridResidual]
  | .selectionEval => some [O.maintTokenHolder, O.refSelected, O.refState, O.refTied, O.timeGridResidual]
  | .switchSettled => some [O.maintTokenHolder, O.maintTokenSince, O.refState, O.refTied, O.timeGridResidual]
  | .dcoClampTimeout => some [O.refInputState, O.refTied, O.timeGridResidual]
  | .fsnStep => some [O.groupOffset, O.groupTarget, O.maintTokenHolder, O.maintTokenSince, O.mapBoundaryFsn,
    O.mapResult, O.mapState, O.refFsnStep, O.tallyOvfCount, O.timeGridResidual, O.timeServoFreq]
  | .phaseStepWrite _ _ => some [O.dictLastRefusal, O.ledgerJournalSeq, O.maintTokenHolder, O.maintTokenSince,
    O.mapBoundaryFsn, O.mapResult, O.mapState, O.refPhaseAdj, O.tallyOvfCount, O.timeGridResidual]
  | .frameOffsetWrite _ _ => some [O.dictLastRefusal, O.ledgerJournalSeq, O.refFrameOffset, O.refTied,
    O.timeGridResidual]
  | .retime _ _ => some [O.dictLastRefusal, O.ledgerJournalSeq, O.refTied, O.timeGridResidual]
  | .alignReq _ _ => some [O.dictLastRefusal, O.ledgerJournalSeq, O.maintTokenHolder, O.maintTokenSince]
  | .alignEdge _ => some [O.maintTokenHolder, O.maintTokenSince, O.mapBoundaryFsn, O.mapResult, O.mapState,
    O.refAlignErr, O.refPhaseAdj, O.tallyOvfCount, O.timeGridResidual]
  | .alignTimeout => some [O.maintTokenHolder]
  | .ppsEdge _ _ _ => some [O.maintTokenHolder, O.maintTokenSince, O.mapBoundaryFsn, O.mapResult, O.mapState,
    O.refDcoOffset, O.refInputPhase, O.refTied, O.tallyOvfCount, O.timeGridResidual, O.timeServoFreq,
    O.timeServoOffset]
  | .ptpOffsetWrite _ _ => some [O.dictLastRefusal, O.ledgerJournalSeq, O.maintTokenHolder, O.maintTokenSince,
    O.mapBoundaryFsn, O.mapResult, O.mapState, O.refDcoOffset, O.refInputPhase, O.tallyOvfCount, O.timeGridResidual,
    O.timeServoFreq, O.timeServoOffset]
  | .timeSet _ _ => some [O.dictLastRefusal, O.ledgerJournalSeq, O.maintTokenHolder, O.maintTokenSince,
    O.mapBoundaryFsn, O.mapResult, O.mapState, O.tallyOvfCount]
  | .timeStep _ _ => some [O.dictLastRefusal, O.ledgerJournalSeq, O.maintTokenHolder, O.maintTokenSince,
    O.mapBoundaryFsn, O.mapResult, O.mapState, O.tallyOvfCount]
  | .timeCapture _ _ => some [O.dictLastRefusal, O.ledgerJournalSeq, O.timeCapturedFsn, O.timeCapturedTime]
  | .servoSrcWrite _ _ => some [O.dictLastRefusal, O.ledgerJournalSeq, O.maintTokenHolder, O.maintTokenSince,
    O.mapBoundaryFsn, O.mapResult, O.mapState, O.tallyOvfCount, O.timeServoFreq, O.timeServoSrc]
  | .launch _ _ => some [O.dictLastRefusal]
  | .launchDue _ _ => some [O.tallyOvfCount]
  | .launchDiscard _ => some [O.tallyOvfCount]
  | .launchFlush _ _ => some [O.dictLastRefusal, O.ledgerJournalSeq, O.tallyOvfCount]
  | .launchDoneRead _ _ _ => some []
  | .timeTriggeredCut => some [O.ledgerCutMode, O.ledgerExportState, O.maintTokenHolder, O.maintTokenSince,
    O.timeCutTime]
  | .bankOwnerWrite _ _ _ => some [O.assayActive, O.assayDropped, O.assayQueueLen, O.assayTestResult,
    O.dictLastRefusal, O.ledgerJournalSeq, O.maintTokenHolder, O.maintTokenSince, O.memBankFenced, O.memBankOwner,
    O.memBankState, O.memBankTarget, O.memFenceList, O.tallyOvfCount]
  | .handoverDrainDone _ => some [O.maintTokenHolder, O.memBankOwner, O.memBankState, O.memBankTarget,
    O.memFenceList, O.tallyTraceState]
  | .handoverScrubDone _ => some [O.maintTokenHolder, O.memBankOwner, O.memBankState, O.memBankTarget,
    O.memFenceList, O.tallyTraceState]
  | .bankClearDone => some [O.memBankFenced, O.memBankOwner, O.memBankState]
  | .eccWriteBack _ _ => some [O.tallyOvfCount]
  | .eccLogRead _ _ _ => some []
  | .ddrTrainingDone _ _ => some [O.memDdrChState, O.memDdrFillLeft, O.memDdrSize, O.memDdrState]
  | .ddrFillDone => some [O.maintTokenHolder, O.maintTokenSince, O.mapState, O.memDdrFillLeft, O.memDdrLsState,
    O.memDdrState]
  | .ddrLsEnWrite _ _ => some [O.dictLastRefusal, O.ledgerJournalSeq, O.memDdrLsEn, O.memDdrLsState]
  | .ddrRegionSizeWrite _ _ _ => some [O.dictLastRefusal, O.ledgerJournalSeq, O.memDdrLsSize, O.memDdrTraceSize]
  | .patrolBeat _ => some [O.assayActive, O.assayDropped, O.assayErrors, O.assayQueueLen, O.assayTestResult,
    O.groupLineChanged, O.groupLineState, O.memDdrCe, O.memDdrChState, O.memDdrScrubPasses, O.memDdrState,
    O.memDdrUe, O.tallyOvfCount]
  | .ddrAlert _ _ => some [O.groupLineChanged, O.groupLineState, O.memDdrChState, O.memDdrState]
  | .retrainAttemptDone _ _ => some [O.maintTokenHolder, O.maintTokenSince, O.mapState, O.memDdrChState,
    O.memDdrLsState, O.memDdrState]
  | .ddrRetrain _ _ => some [O.dictLastRefusal, O.groupLineChanged, O.groupLineState, O.ledgerJournalSeq,
    O.maintTokenHolder, O.maintTokenSince, O.memDdrChState, O.memDdrState]
  | .matrixRead _ _ _ _ _ => some [O.matrixErrCount, O.matrixHeld, O.matrixMasterState]
  | .matrixWrite _ _ _ _ => some [O.matrixErrCount, O.matrixHeld, O.matrixMasterState]
  | .addWrap _ _ _ _ => some [O.matrixErrCount, O.matrixHeld, O.matrixMasterState]
  | .addSat _ _ _ _ => some [O.matrixErrCount, O.matrixHeld, O.matrixMasterState]
  | .swap _ _ _ _ => some [O.matrixErrCount, O.matrixHeld, O.matrixMasterState]
  | .matrixGrant _ _ => none
  | .matrixResponse _ => none
  | .matrixTimeout _ _ => none
  | .masterReset _ _ => some [O.dictLastRefusal, O.ledgerExportState, O.ledgerJournalSeq, O.maintTokenHolder,
    O.matrixMasterState]
  | .masterQuiesced _ => some [O.matrixMasterState]
  | .remapWrite _ _ => some [O.dictLastRefusal, O.ledgerJournalSeq, O.matrixRemap]
  | .remapApplied => some [O.matrixErrCount]
  | .watchdogExpiry _ => none
  | .errLogRead _ _ _ => some []
  | .hdpRead _ _ _ => none
  | .hdpWrite _ _ _ => none
  | .readBulk _ _ _ => none
  | .writeBulk _ _ _ => none
  | .subscribe _ _ _ => none
  | .bulkAbort _ _ _ => none
  | .notify _ => some []
  | .secKeyWrite _ _ _ => some [O.dictLastRefusal, O.maintTokenHolder, O.secKeyState]
  | .seqCeilingWritten _ => none
  | .sessionIdle _ => some [O.maintTokenHolder]
  | .bulkSegmentTimeout _ _ => some [O.assayActive, O.assayDropped, O.assayErrors, O.assayQueueLen,
    O.assayTestResult, O.protDigestStats, O.protFlags, O.protPortFaulted, O.protState, O.tallyOvfCount]
  | .tokenTake _ _ => some [O.dictLastRefusal, O.ledgerJournalSeq, O.maintTokenHolder, O.maintTokenSince]
  | .tokenRelease _ _ => some [O.dictLastRefusal, O.ledgerJournalSeq, O.maintTokenHolder]
  | .neighborSolicitation _ _ => some []
  | .echoRequest _ _ _ => some []
  | .testStart _ => some [O.assayActive, O.assayQueueLen, O.assayTestResult, O.tallyOvfCount]
  | .pathTestDone _ => some []
  | .mapAuditRecheck _ => some []
  | .testComplete _ _ _ => some [O.assayActive, O.assayLasting, O.assayPortCause, O.assayQueueLen,
    O.assayTestResult, O.assayTransients, O.fabricLodeState, O.groupLineChanged, O.groupLineState,
    O.ledgerExportState, O.maintTokenHolder, O.maintTokenSince, O.mapResult, O.mapState, O.memBankFenced,
    O.memBankOwner, O.memBankState, O.memBankTarget, O.memDdrChState, O.memDdrState, O.memFenceList,
    O.memOwnerShort, O.protPortFaulted, O.tallyOvfCount, O.tallyTraceState]
  | .bankWordTest _ _ _ => some [O.assayActive, O.assayDropped, O.assayErrors, O.assayPasses, O.assayQueueLen,
    O.assayTestResult, O.tallyOvfCount]
  | .sramPatrolUnit _ => some [O.assayActive, O.assayDropped, O.assayErrors, O.assayPasses, O.assayQueueLen,
    O.assayTestResult, O.keeperSramCe, O.keeperSramUe, O.tallyOvfCount]
  | .testReq _ _ => some [O.assayActive, O.assayDropped, O.assayQueueLen, O.assayTestResult, O.dictLastRefusal,
    O.ledgerJournalSeq, O.maintTokenHolder, O.maintTokenSince, O.mapResult, O.mapState, O.memBankState,
    O.protPromoteStep, O.protState, O.sysCause, O.sysModeFsn, O.sysResume, O.tallyOvfCount]
  | .assayLogRead _ _ _ => some []
  | .eventClear _ _ => some [O.dictLastRefusal, O.ledgerJournalSeq]
  | .eventMaskWrite _ _ => some [O.dictLastRefusal, O.eventMask, O.ledgerJournalSeq]
  | .tallyPreset _ _ _ => some [O.dictLastRefusal, O.ledgerJournalSeq]
  | .tagKWrite _ _ => some [O.dictLastRefusal, O.ledgerJournalSeq, O.tallyTagK]
  | .tagSeedWrite _ _ => some [O.dictLastRefusal, O.ledgerJournalSeq, O.tallyTagSeed]
  | .traceStartWrap _ => some [O.dictLastRefusal, O.ledgerJournalSeq, O.maintTokenHolder, O.maintTokenSince,
    O.tallyTraceCount, O.tallyTraceOldest, O.tallyTraceState]
  | .traceStartStop _ => some [O.dictLastRefusal, O.ledgerJournalSeq, O.maintTokenHolder, O.maintTokenSince,
    O.tallyTraceCount, O.tallyTraceOldest, O.tallyTraceState]
  | .traceEnd _ => some [O.dictLastRefusal, O.ledgerJournalSeq, O.maintTokenHolder, O.maintTokenSince,
    O.tallyTraceCount, O.tallyTraceOldest, O.tallyTraceState]
  | .samplesRead _ _ _ => some []
  | .modeReqStage _ => none
  | .modeReqRestore _ => none
  | .modeReqService _ => none
  | .modeReqIsolate _ => none
  | .isolateEntry => some [O.protState, O.sysModeFsn]
  | .modeReqQuarantine _ => none
  | .modeReqDormant _ => none
  | .dormantEntry => none
  | .fabPgAssert => some [O.memBankState, O.memDdrChState, O.memDdrState, O.protPromoteStep]
  | .fabPgTimeout => some [O.maintTokenHolder, O.mapResult, O.mapState, O.memBankState, O.protPromoteStep,
    O.protState, O.sysCause, O.sysModeFsn, O.sysResume, O.tallyOvfCount]
  | .fabPgDeassert => none
  | .wakeSelftestDone _ _ => some [O.assayLasting, O.fabricLodeState, O.maintTokenHolder, O.mapResult, O.mapState,
    O.memBankState, O.protPromoteStep, O.protState, O.sysCause, O.sysModeFsn, O.sysResume, O.sysSelftest,
    O.tallyOvfCount]
  | .attestDone => none
  | .powerOnReset _ _ => none
  | .porstAssert => none
  | .sysReset _ _ => none
  | .bootComplete => some [O.fwBootState, O.fwRunning, O.fwSlotState, O.fwSlotVersion, O.fwTrialLeft,
    O.fwUpdateState, O.identFwVersion, O.ledgerRxJournalState, O.ledgerSlotState, O.maintTokenHolder,
    O.maintTokenSince, O.protPromoteStep, O.protState, O.secLeafNext, O.secReservations, O.sysCause, O.sysModeFsn,
    O.sysResume, O.sysSelftest]
  | .fwStageBegin _ _ => some [O.dictLastRefusal, O.fwSlotState, O.fwSlotSvn, O.fwSlotVersion, O.fwUpdateState,
    O.ledgerJournalSeq, O.maintTokenHolder, O.maintTokenSince]
  | .fwEraseDone => some [O.fwUpdateState]
  | .fwStageSegment _ _ _ => some [O.dictLastRefusal]
  | .fwCommit _ => some [O.dictLastRefusal, O.fwSlotState, O.fwSlotSvn, O.fwSlotVersion, O.fwUpdateState,
    O.maintTokenHolder]
  | .fwAbort _ => some [O.dictLastRefusal, O.fwSlotState, O.fwUpdateState, O.maintTokenHolder]
  | .fwActivate _ _ => some [O.dictLastRefusal, O.fwSlotState, O.fwUpdateState, O.ledgerExportState,
    O.ledgerJournalSeq, O.maintTokenHolder, O.maintTokenSince, O.matrixMasterState]
  | .keeperRestartDone => none
  | .fwConfirm _ _ => some [O.dictLastRefusal, O.fwFabricPending, O.fwSlotState, O.fwTrialLeft, O.fwUpdateState,
    O.ledgerJournalSeq, O.maintTokenHolder]
  | .trialTimeout => some [O.ledgerExportState, O.maintTokenHolder, O.matrixMasterState]
  | .revokeKey0 _ _ => some [O.dictLastRefusal, O.ledgerJournalSeq, O.secKeyRevoked]
  | .svnCommit _ _ => some [O.dictLastRefusal, O.ledgerJournalSeq, O.secSvnFloor]
  | .attestNonce _ _ => some [O.dictLastRefusal]
  | .attestReportDone => some [O.secAttestReport, O.secLeafNext, O.secReservations]
  | .registerWrite _ _ _ _ => none
  | .crierLatchReload => some []
  | .timePortLinkDown _ => some []

end Sys2Proof.Machine
end

