-- ==== Sys2Proof/Certificates/Slice0/Obligations.lean ====
section
/-! DEFINITION. The statements about the model. -/

open Sys2Proof Sys2Proof.Machine

/-- The search of Flint (Table 2-11; R73 to R76, R79): signal starts the search, a FAW within three bit differences
opens a candidate, unless 16 stand, a good row 1 passes it and a bad one rejects it, a FAW one frame on adopts it, and
loss of signal ends alignment. -/
def Obligations.FlintSearch : Prop :=
  (∀ s p, p < 96 → s.running p = true → s.islandReady p = true → s.reg O.portAlignState p = 0 →
    Runs (.cdrLock p) s fun t =>
      t.reg O.portAlignState p = 1 ∧ (t.linkP p).cands = [] ∧ OnlyElems [(O.portAlignState, p)] s t) ∧
  (∀ s p c x, p < 96 → s.hunting p = true → fawDiff (s.fawAt p [x] c) ≤ 3 →
    (∀ y ∈ (s.linkP p).cands, y.pos ≠ c) → (s.linkP p).cands.length < 16 →
    Runs (.fawMatch p c x) s fun t =>
      (t.linkP p).cands = (s.linkP p).cands ++ [⟨c, false⟩] ∧ OnlyElems [] s t) ∧
  (∀ s p c x, p < 96 → s.hunting p = true → fawDiff (s.fawAt p [x] c) ≤ 3 →
    (∀ y ∈ (s.linkP p).cands, y.pos ≠ c) → 16 ≤ (s.linkP p).cands.length →
    Runs (.fawMatch p c x) s fun t =>
      t.link = s.link ∧ t.reg O.portFlintDrop p = (s.reg O.portFlintDrop p + 1) % 2 ^ 32 ∧
      OnlyElems [(O.portFlintDrop, p)] s t) ∧
  (∀ s p c a r, p < 96 → s.hunting p = true → (∃ x ∈ (s.linkP p).cands, x.pos = c ∧ x.passed = false) →
    s.row1Diff p c (a :: r) ≤ 3 →
    Runs (.row1Check p c a r) s fun t =>
      t.reg O.portAlignState p = (if s.unaligned p then 2 else s.reg O.portAlignState p) ∧
      (∀ x ∈ (t.linkP p).cands, x.pos = c → x.passed = true) ∧ OnlyElems [(O.portAlignState, p)] s t) ∧
  (∀ s p c a r, p < 96 → s.hunting p = true → (∃ x ∈ (s.linkP p).cands, x.pos = c ∧ x.passed = false) →
    3 < s.row1Diff p c (a :: r) →
    Runs (.row1Check p c a r) s fun t =>
      (∀ x, x ∈ (t.linkP p).cands ↔ x ∈ (s.linkP p).cands ∧ x.pos ≠ c) ∧
      t.reg O.portFlintReject p = (s.reg O.portFlintReject p + 1) % 2 ^ 32 ∧
      (s.unaligned p = true → (∀ x ∈ (s.linkP p).cands, x.pos ≠ c → x.passed = false) →
        t.reg O.portAlignState p = 1) ∧
      OnlyElems [(O.portAlignState, p), (O.portFlintReject, p)] s t) ∧
  (∀ s p c x, p < 96 → s.hunting p = true → s.unaligned p = true →
    (∃ y ∈ (s.linkP p).cands, y.pos = c ∧ y.passed = true) →
    fawDiff (s.fawAt p [x] (c + frameBits (s.rxVer p))) ≤ 3 →
    Runs (.fawConfirm p c x) s fun t =>
      t.reg O.portAlignState p = 3 ∧ (t.linkP p).cands = [] ∧ (t.linkP p).pos = c + frameBits (s.rxVer p) ∧
      t.latched (4 * p) = true) ∧
  (∀ s p, p < 96 → s.running p = true → s.reg O.portAlignState p ≠ 0 →
    Runs (.lossOfSignal p) s fun t =>
      t.reg O.portAlignState p = 0 ∧ (t.linkP p).cands = [] ∧ (s.aligned p = true → t.latched (4 * p) = true))

/-- Version negotiation (Table 2-12, R84, R86, R91, R94, R95) and FEC degrade (R81): the returns to START, the version
that the transmitter takes after one, what excludes a version, and the interval's verdict. -/
def Obligations.LinkNegotiation : Prop :=
  (∀ s p, p < 96 → s.running p = true → s.reg O.portNegState p = 4 → 256 ≤ (s.linkP p).relock →
    Runs (.relockTimeout p) s fun t =>
      Returned s t p ∧
      t.reg O.linkVersionExcluded p = (s.reg O.linkVersionExcluded p ||| 2 ^ (s.txVer p - 1)) &&& 0xFE) ∧
  (∀ s p, p < 96 → s.running p = true → s.reg O.portNegState p = 5 → 64 ≤ (s.linkP p).outFrames →
    Runs (.syncLossRenegotiate p) s fun t =>
      Returned s t p ∧ t.reg O.linkVersionExcluded p = s.reg O.linkVersionExcluded p) ∧
  (∀ (s : State) p, p < 96 → (s.linkP p).txReset = true → s.reg O.portNegState p ≠ 3 →
    (s.negFrame p).txVer p = 1 ∧ ((s.negFrame p).linkP p).txReset = false ∧ (s.negFrame p).rxVer p = s.rxVer p) ∧
  (∀ s p, p < 96 → 8000 ≤ (s.linkP p).degFrames →
    Runs (.fecDegInterval p) s fun t =>
      (t.linkP p).degSum = 0 ∧ (t.linkP p).degFrames = 0 ∧
      (t.linkP p).deg = (if s.reg O.portFecDegThr p < (s.linkP p).degSum then true
        else if 2 * (s.linkP p).degSum ≤ s.reg O.portFecDegThr p then false else (s.linkP p).deg) ∧
      ((t.linkP p).deg ≠ (s.linkP p).deg → s.sys.fabOn = true → t.latched (4 * p + 1) = true) ∧ OnlyElems [] s t) ∧
  (∀ s w p v, Allowed s w O.linkRenegotiate p v → s.tokFree 7 (holderOf w) = true → s.running p = true →
    (s.linkQ p).tok = false →
    Runs (.linkRenegotiate w p v) s fun t =>
      Returned s t p ∧ t.out.status = 0 ∧ t.reg O.maintTokenHolder 7 = holderOf w) ∧
  (∀ s w p v, Allowed s w O.linkVersionMax p v → s.tokFree 7 (holderOf w) = true → s.running p = true →
    (s.linkQ p).tok = false →
    Runs (.versionMaxWrite w p v) s fun t =>
      t.reg O.linkVersionMax p = v ∧ Returned s t p ∧ t.out.status = 0 ∧
      t.reg O.maintTokenHolder 7 = holderOf w) ∧
  (∀ s w p v, Allowed s w O.linkVersionExcluded p v →
    Runs (.versionExcludedWrite w p v) s fun t =>
      t.reg O.linkVersionExcluded p =
        ((v ||| if (s.linkQ p).exclFsn = s.clk.fsn then (s.linkQ p).exclBits else 0) &&& 0xFE) ∧
      t.out.status = 0 ∧ OnlyRegs [O.linkVersionExcluded, O.ledgerJournalSeq] s t)

/-- Enabling and stopping a port (R32, R37, R483), its role (R96, R519), its time channel (R72), its equaliser (R509),
and the power of the serdes islands (R33, R502). -/
def Obligations.PortSetup : Prop :=
  (∀ s w p, Allowed s w O.portEnable p 1 → s.reg O.portEnable p ≠ 1 → (s.linkP p).stopPending = false →
    s.islandReady p = true → s.portAllowed p = true →
    Runs (.portEnableWrite w p 1) s fun t =>
      t.reg O.portEnable p = 1 ∧ t.reg O.portNegState p = 1 ∧ t.reg O.portAlignState p = 0 ∧
      t.reg O.portVersion p = 0x11 ∧ t.out.status = 0) ∧
  (∀ s w p, Allowed s w O.portEnable p 1 → s.reg O.portEnable p ≠ 1 → (s.linkP p).stopPending = false →
    s.islandReady p = true → s.portAllowed p = false →
    Runs (.portEnableWrite w p 1) s fun t =>
      t.reg O.portEnable p = 1 ∧ t.running p = false ∧ t.out.status = 0 ∧
      OnlyElems [(O.portEnable, p), (O.ledgerJournalSeq, 0)] s t) ∧
  (∀ s w p, Allowed s w O.portEnable p 0 → s.reg O.portEnable p = 1 → s.portBusy p = false →
    Runs (.portEnableWrite w p 0) s fun t =>
      t.reg O.portEnable p = 0 ∧ t.reg O.portNegState p = 0 ∧ t.reg O.portAlignState p = 0 ∧ t.out.status = 0) ∧
  (∀ s w p, Allowed s w O.portEnable p 0 → s.reg O.portEnable p = 1 → s.portBusy p = true →
    Runs (.portEnableWrite w p 0) s fun t =>
      t.reg O.portEnable p = 0 ∧ (t.linkP p).stopPending = true ∧ t.running p = (s.sys.fabOn && s.portAllowed p) ∧
      t.out.status = 0) ∧
  (∀ s w p v, Allowed s w O.portRole p v →
    (v = 0 ∨ ∀ x ∈ s.entries O.groupLineCtx, x.1 / 1280 = p → 6144 ≤ x.2) →
    Runs (.portRoleWrite w p v) s fun t =>
      Stored s t O.portRole p v ∧ t.lreg O.portRole p = s.lreg O.portRole p) ∧
  (∀ s w p v, Allowed s w O.linkTimeChannelEn p v →
    Runs (.timeChannelEnWrite w p v) s fun t =>
      t.reg O.linkTimeChannelEn p = v ∧ t.out.status = 0 ∧ t.tim = s.tim ∧
      (t.linkP p).chanEnd = (v == 0 && ((s.linkP p).chanEnd || s.reg O.linkTimeChannelEn p == 1))) ∧
  (∀ (s : State) p, (s.linkP p).chanEnd = true →
    (∀ x, x ∈ (s.channelEnd p).tim.queue ↔ x ∈ s.tim.queue ∧ x.iface ≠ p) ∧
      ((s.channelEnd p).linkP p).chanEnd = false) ∧
  (∀ s w p v, Allowed s w O.linkTxEq p v → eqOk v = true →
    Runs (.txEqWrite w p v) s fun t => Stored s t O.linkTxEq p v ∧ t.linkq = s.linkq) ∧
  (∀ s w v, Allowed s w O.powerSdIslandEn 0 v → s.tokFree 7 (holderOf w) = true →
    (∀ k i, k < 12 → i < 8 → bit (s.reg O.powerSdIslandEn) k = true → bit v k = false →
      s.reg O.portEnable (8 * k + i) ≠ 1 ∧ (s.linkP (8 * k + i)).stopPending = false) →
    Runs (.sdIslandEnWrite w v) s fun t => t.reg O.powerSdIslandEn = v ∧ t.out.status = 0) ∧
  (∀ s k, k < 12 → s.sys.sdUp.head? = some k → k ∉ s.sys.sdDrop →
    Runs (.sdIslandReady k) s fun t =>
      bit (t.reg O.powerSdIslandState) k = true ∧ t.sys.sdUp = s.sys.sdUp.drop 1)

/-- Grain sizes, forced AIS and the change sets of grains and lines (R97, R137, R192, R206, Table 3-10); the start of
an elastic store's reading (R128) and the NEW of a displaced TPO-A (R521). What a frame does to every elastic store: it
plans the units that its read side carries by the fill (R127, Table 3-8). What a round does: the read side presents a
unit, in round 404 none or two where the plan departs from nominal (R141), AIS marks while it does not read (R128,
R130), and slips on an empty store (R129); a write slips on a full one. What the pointer of a frame becomes (R133, Table
3-9). -/
def Obligations.GrainCommands : Prop :=
  (∀ s w e v, Allowed s w O.grainSize e v → s.locked = false → (∀ i < 8, 6144 ≤ s.reg O.groupLineCtx (8 * e + i)) →
    Runs (.grainSizeWrite w e v) s fun t =>
      Stored s t O.grainSize e v ∧ t.lreg O.grainSize e = s.lreg O.grainSize e) ∧
  (∀ s w a v, Allowed s w O.grainTxForceAis a v →
    Runs (.txForceAisWrite w a v) s fun t =>
      Stored s t O.grainTxForceAis a v ∧ t.lreg O.grainTxForceAis a = s.lreg O.grainTxForceAis a) ∧
  (∀ s w p, Readable s w O.grainChanged p →
    Runs (.grainChangedRead w p) s fun t => ReadCleared s t O.grainChanged p 160) ∧
  (∀ s w p, Readable s w O.groupLineChanged p →
    Runs (.lineChangedRead w p) s fun t => ReadCleared s t O.groupLineChanged p 160) ∧
  (∀ s a, a < 122880 → (s.rxG a).reading = false → (s.rxG a).writing = true → 12 ≤ (s.rxG a).fill →
    Runs (.esReadStart a) s fun t =>
      (t.rxG a).reading = true ∧ (t.rxG a).plan = 0 ∧ (t.rxG a).store = (s.rxG a).store ∧
      (∀ b, b ≠ a → t.rxG b = s.rxG b) ∧ OnlyElems [] s t) ∧
  (∀ s a, a < 122880 → (s.txG a).mayNew = true → (s.txG a).displaced = true →
    Runs (.displacedTpoaNew a) s fun t =>
      t.reg O.grainTxPtr a = (s.txG a).landing s.clk.round (s.txN0 a) ∧
      (t.txG a).ptr = 0x8000 + t.reg O.grainTxPtr a ∧ (t.txG a).displaced = false ∧
      OnlyElems [(O.grainTxPtr, a)] s t) ∧
  (∀ (s : State) a, a < 122880 →
    ((s.esPlan a).rxG a).plan = (if (s.rxG a).reading = true ∧ (s.rxG a).sinceDep = 0 then
      (if 15 ≤ (s.rxG a).fill then 1 else if (s.rxG a).fill ≤ 9 then -1 else 0) else 0) ∧
    (((s.esPlan a).rxG a).plan ≠ 0 → ((s.esPlan a).rxG a).sinceDep = 3) ∧
    ((s.rxG a).reading = true → (s.rxG a).sinceDep ≠ 0 →
      ((s.esPlan a).rxG a).sinceDep = (s.rxG a).sinceDep - 1) ∧
    (s.esPlan a).reg O.grainEsFill a = (s.rxG a).fill * s.width a ∧
    ((s.esPlan a).rxG a).store = (s.rxG a).store ∧ OnlyElems [(O.grainEsFill, a)] s (s.esPlan a)) ∧
  (∀ (s : State) a, a < 122880 → (∀ x ∈ s.rx, x.1 < 122880) → SMap.find? s.rx a = none →
    s.esFrame.rxG a = s.rxG a ∧ s.esFrame.reg O.grainEsFill a = 0) ∧
  (∀ (s : State) a g, a < 122880 → (∀ x ∈ s.rx, x.1 < 122880) → s.rx.filter (fun x => x.1 == a) = [(a, g)] →
    s.follower a = false →
    s.esFrame.rxG a = (s.esPlan a).rxG a ∧ s.esFrame.reg O.grainEsFill a = (s.rxG a).fill * s.width a) ∧
  (∀ (s : State) a n, (s.rxG a).reading = false → s.esRead a n = (s, [.aisU])) ∧
  (∀ (s : State) a n u us, (s.rxG a).reading = true → (s.rxG a).store = u :: us → u.tag ≠ .ais →
    (n ≠ 404 ∨ (s.rxG a).plan = 0) →
    (s.esRead a n).2 = [u] ∧ ((s.esRead a n).1.rxG a).store = us ∧ ((s.esRead a n).1.rxG a).reading = true ∧
      OnlyElems [] s (s.esRead a n).1) ∧
  (∀ (s : State) a, (s.rxG a).reading = true → (s.rxG a).plan = -1 → s.esRead a 404 = (s, [.emptyU])) ∧
  (∀ (s : State) a u v us, (s.rxG a).reading = true → (s.rxG a).plan = 1 → (s.rxG a).store = u :: v :: us →
    u.tag ≠ .ais → v.tag ≠ .ais →
    (s.esRead a 404).2 = [u, v] ∧ ((s.esRead a 404).1.rxG a).store = us ∧ OnlyElems [] s (s.esRead a 404).1) ∧
  (∀ (s : State) a n, (s.rxG a).reading = true → (s.rxG a).store = [] → (n ≠ 404 ∨ (s.rxG a).plan = 0) →
    (s.esRead a n).2 = [.aisU] ∧ ((s.esRead a n).1.rxG a).reading = false ∧
      ((s.esRead a n).1.rxG a).writing = false ∧ ((s.esRead a n).1.rxG a).broken = true ∧
      (s.esRead a n).1.reg O.grainEsSlip a = (s.reg O.grainEsSlip a + 1) % 2 ^ 32) ∧
  (∀ (s : State) a n u us, (s.rxG a).reading = true → (s.rxG a).store = u :: us → u.tag = .ais →
    (n ≠ 404 ∨ (s.rxG a).plan = 0) →
    (s.esRead a n).2 = [.aisU] ∧ ((s.esRead a n).1.rxG a).reading = false ∧ ((s.esRead a n).1.rxG a).store = us ∧
      OnlyElems [] s (s.esRead a n).1) ∧
  (∀ (s : State) a u, u.tag = .word → (s.rxG a).writing = true →
    ((s.rxG a).fill < 24 → ∃ v, v.tag = .word ∧ v.ws = u.ws ∧
      ((s.esWrite a u).rxG a).store = (s.rxG a).store ++ [v]) ∧
    (24 ≤ (s.rxG a).fill → ((s.esWrite a u).rxG a).store = [] ∧ ((s.esWrite a u).rxG a).reading = false ∧
      (s.esWrite a u).reg O.grainEsSlip a = (s.reg O.grainEsSlip a + 1) % 2 ^ 32)) ∧
  (∀ (s : State) a n n0 bnd src, (s.genSlot a n n0 true bnd src).reg O.grainTxState a = 1 ∧
    ((s.genSlot a n n0 true bnd src).txG a).ptr = 0xFFFF) ∧
  (∀ (s : State) a n n0 bnd src, (bnd = 1 ∨ bnd = 2) → (s.genSlot a n n0 false bnd src).reg O.grainTxState a = 1 ∧
    ((s.genSlot a n n0 false bnd src).txG a).ptr = 0xFFFF ∧ ((s.genSlot a n n0 false bnd src).txG a).pend = 0) ∧
  (∀ (s : State) a n n0 src, (s.genSlot a n n0 false 3 src).reg O.grainTxState a = 0 ∧
    ((s.genSlot a n n0 false 3 src).txG a).ptr = 0) ∧
  (∀ (s : State) a n n0, (s.genSlot a n n0 false 0 false).reg O.grainTxState a = 0 ∧
    ((s.genSlot a n n0 false 0 false).txG a).ptr = 0) ∧
  (∀ (s : State) a n n0 c, s.reg O.grainTxState a = 1 → (s.txG a).placed = true → (s.txG a).since = 0 →
    (s.txG a).landing n n0 = c →
    (s.genSlot a n n0 false 0 true).reg O.grainTxState a = 2 ∧ (s.genSlot a n n0 false 0 true).reg O.grainTxPtr a = c ∧
      ((s.genSlot a n n0 false 0 true).txG a).ptr = fNew c ∧ ((s.genSlot a n n0 false 0 true).txG a).since = 3) ∧
  (∀ (s : State) a n n0, s.reg O.grainTxState a = 1 → (s.txG a).placed = false →
    (s.genSlot a n n0 false 0 true).reg O.grainTxState a = 1 ∧
      ((s.genSlot a n n0 false 0 true).txG a).ptr = 0xFFFF) ∧
  (∀ (s : State) a n n0, s.reg O.grainTxState a = 2 → (s.txG a).aisMark = true →
    (s.genSlot a n n0 false 0 true).reg O.grainTxState a = 1 ∧
      ((s.genSlot a n n0 false 0 true).txG a).ptr = 0xFFFF ∧ ((s.genSlot a n n0 false 0 true).txG a).pend = 0) ∧
  (∀ (s : State) a n n0, s.reg O.grainTxState a = 2 → (s.txG a).aisMark = false → (s.txG a).displaced = false →
    ((s.txG a).pend = 0 ∨ (s.txG a).since ≠ 0) →
    (s.genSlot a n n0 false 0 true).reg O.grainTxState a = 2 ∧
      (s.genSlot a n n0 false 0 true).reg O.grainTxPtr a = s.reg O.grainTxPtr a ∧
      ((s.genSlot a n n0 false 0 true).txG a).ptr = fNorm (s.reg O.grainTxPtr a) ∧
      ((s.genSlot a n n0 false 0 true).txG a).pend = (s.txG a).pend) ∧
  (∀ (s : State) a n n0, s.reg O.grainTxState a = 2 → (s.txG a).aisMark = false → (s.txG a).displaced = false →
    (s.txG a).pend ≠ 0 → (s.txG a).since = 0 →
    (s.genSlot a n n0 false 0 true).reg O.grainTxJust a = (s.reg O.grainTxJust a + 1) % 2 ^ 32 ∧
    ((s.genSlot a n n0 false 0 true).txG a).since = 3 ∧
    (0 < (s.txG a).pend → ((s.genSlot a n n0 false 0 true).txG a).ptr = fDec (s.reg O.grainTxPtr a) ∧
      (s.genSlot a n n0 false 0 true).reg O.grainTxPtr a = (s.reg O.grainTxPtr a + 404) % 405 ∧
      ((s.genSlot a n n0 false 0 true).txG a).pend = (s.txG a).pend - 1) ∧
    ((s.txG a).pend < 0 → ((s.genSlot a n n0 false 0 true).txG a).ptr = fInc (s.reg O.grainTxPtr a) ∧
      (s.genSlot a n n0 false 0 true).reg O.grainTxPtr a = (s.reg O.grainTxPtr a + 1) % 405 ∧
      ((s.genSlot a n n0 false 0 true).txG a).pend = (s.txG a).pend + 1))

/-- The Draft map (R158, R160), Lode states (R153, R154, R427) and commit requests (Table 4-5, R160, R166, R169): what
an accepted one does, and the recompute that an abort leaves to a Lode that has failed (R155). -/
def Obligations.MapRequests : Prop :=
  (∀ s w a v, Allowed s w O.mapDraftSrc a v → s.followerPend a = false → v ≠ 0xFFFFFFFE → s.locked = false →
    Runs (.draftSrcWrite w a v) s fun t => Stored s t O.mapDraftSrc a v) ∧
  (∀ s w v, Allowed s w O.mapDraftRevert 0 v → s.locked = false → RegsOk s →
    Runs (.draftRevert w v) s fun t =>
      (∀ a < 122880, t.reg O.mapDraftSrc a = s.reg O.mapLiveSrc a) ∧ t.out.status = 0 ∧
      OnlyRegs [O.mapDraftSrc, O.ledgerJournalSeq] s t) ∧
  (∀ s w l v, Allowed s w O.fabricLodeState l v → s.locked = false → ¬ (s.lreg O.fabricLodeState l = 3 ∧ v = 0) →
    Runs (.lodeStateWrite w l v) s fun t =>
      Stored s t O.fabricLodeState l v ∧ t.lreg O.fabricLodeState l = s.lreg O.fabricLodeState l) ∧
  (∀ s w l, Allowed s w O.fabricLodeState l 0 → s.locked = false → s.lreg O.fabricLodeState l = 3 →
    s.sys.mode = .isolate → s.tokFree 3 (holderOf w) = true → s.asyRun 1 = none → s.asyQueue 1 = [] →
    Runs (.lodeStateWrite w l 0) s fun t =>
      t.reg O.fabricLodeState l = 0 ∧ t.out.status = 0 ∧ t.reg O.assayTestResult = 1 ∧
      t.reg O.maintTokenHolder 3 = holderOf w ∧
      ∃ x : TestT, t.asyQueue 1 = [x] ∧ x.res = resOf 1 l ∧ x.kind = 4 ∧ x.host = true) ∧
  (∀ s w, Allowed s w O.mapCommitReq 0 1 → s.sys.mode ≠ .restore →
    s.commitCheck (holderOf w) (s.reg O.mapCommitMode) = 0 →
    Runs (.commitReq w) s fun t =>
      t.reg O.mapState = 1 ∧ t.map.f = s.boundaryOf (s.reg O.mapCommitMode) ∧ t.map.loaded = false ∧
      t.reg O.maintTokenHolder 0 = holderOf w ∧ t.out.status = 0 ∧
      OnlyRegs [O.mapState, O.maintTokenHolder, O.maintTokenSince] s t) ∧
  (∀ s w, bit (s.rights w) 2 = true → s.sys.fabOn = true → s.locked = true → s.map.loaded = false →
    s.deadlineDue = false → s.NoRepair →
    Runs (.mapAbort w) s fun t =>
      t.reg O.mapState = 0 ∧ t.out.status = 0 ∧
      OnlyRegs [O.mapState, O.maintTokenHolder, O.tallyOvfCount] s t) ∧
  (∀ s w, bit (s.rights w) 2 = true → s.sys.fabOn = true → s.locked = true → s.map.loaded = false →
    s.deadlineDue = false → (s.map.lodeDue = true ∨ s.map.origin = 1) → s.sys.mode.commits = true →
    Runs (.mapAbort w) s fun t =>
      t.reg O.mapState = 1 ∧ t.map.origin = 1 ∧ t.map.full = true ∧ t.map.f = (s.clk.fsn + 16) % 2 ^ 48 ∧
      t.out.status = 0 ∧ OnlyRegs [O.mapState, O.maintTokenHolder, O.tallyOvfCount] s t)

/-- A commit from its solve to its end (Table 4-6, R155, R157, R163, R167): ARMED with the Shadow and the boundary's
frame, loaded into the stage shadow registers at its deadline or ended with 0x060A, made Live at its boundary, and
finished 768 cycles later; a repair, and one that a failed Lode asks for, begins again. A frame start takes a boundary
that is due before anything that comes later (R474). MAP.RESULT stands through the JX96's own repairs (log entry 31). -/
def Obligations.CommitLife : Prop :=
  (∀ s, (s.reg O.mapState = 1 ∨ s.map.resolve = true) →
    Runs .solveComplete s fun t =>
      t.reg O.mapState = 2 ∧ t.reg O.mapBoundaryFsn = s.map.f ∧ t.map.resolve = false ∧
      t.reg O.mapSolveCycles = t.map.cycles ∧ (RegsOk s → ∀ x ∈ s.shadowSrc, t.reg O.mapShadowSrc x.1 = x.2) ∧
      OnlyRegs [O.mapState, O.mapBoundaryFsn, O.mapSolveCycles, O.mapRepairs, O.mapShadowSrc, O.tallyOvfCount] s t) ∧
  (∀ s, s.locked = true → s.map.loaded = false → s.deadlineDue = true → s.reg O.mapState = 2 → s.map.resolve = false →
    Runs .armingDeadline s fun t =>
      t.map.loaded = true ∧ t.fab = { s.fab with shadow := s.stageShadow } ∧ OnlyElems [] s t) ∧
  (∀ s, s.reg O.mapState = 1 → s.map.loaded = false → s.deadlineDue = true → s.sys.fabOn = true →
    s.sys.mode.commits = true → (s.map.origin = 1 ∨ s.map.lodeDue = true) →
    Runs .armingDeadline s fun t =>
      t.reg O.mapState = 1 ∧ t.map.origin = 1 ∧ t.map.f = (s.clk.fsn + 16) % 2 ^ 48 ∧
      t.reg O.mapResult = (if s.ownCommit then s.reg O.mapResult else 0x060A) ∧ t.latched 385 = true) ∧
  (∀ s, s.reg O.mapState = 1 → s.map.loaded = false → s.deadlineDue = true → s.sys.fabOn = true →
    s.sys.mode.commits = true → s.map.origin = 2 → s.map.lodeDue = false →
    Runs .armingDeadline s fun t =>
      t.reg O.mapState = 1 ∧ t.map.origin = 2 ∧ t.map.f = (s.clk.fsn + 16) % 2 ^ 48 ∧
      t.reg O.mapResult = s.reg O.mapResult ∧ t.latched 385 = true) ∧
  (∀ s, s.reg O.mapState = 1 → s.map.loaded = false → s.deadlineDue = true → s.NoRepair → s.ownCommit = false →
    Runs .armingDeadline s fun t =>
      t.reg O.mapState = 0 ∧ t.reg O.mapResult = 0x060A ∧ (s.sys.fabOn = true → t.latched 385 = true)) ∧
  (∀ s, s.boundaryDue = true → RegsOk s →
    Runs .commitBoundary s fun t =>
      (∀ a < 122880, s.reg O.mapShadowSrc a < 122880 → t.reg O.mapLiveSrc a = s.reg O.mapShadowSrc a) ∧
      (∀ a < 122880, 122880 ≤ s.reg O.mapShadowSrc a → t.reg O.mapLiveSrc a = noSrc) ∧
      (∀ a < 122880, t.reg O.mapDraftSrc a = t.reg O.mapLiveSrc a) ∧
      (∀ p < 96, t.lreg O.portRole p = s.reg O.portRole p) ∧
      (∀ m < 15360, t.lreg O.grainSize m = s.reg O.grainSize m) ∧
      t.map.drain = true ∧ t.fab.newIts = true ∧ t.fab.newEts = true ∧
      (s.map.loaded = true → t.fab.shadow = s.fab.shadow)) ∧
  (∀ s, s.map.drain = true → 2 ≤ s.clk.round → s.sys.fabOn = true →
    Runs .fabricDrained s fun t =>
      t.reg O.mapState = (if s.sys.mode.commits && (s.map.lodeDue || s.ddrDue) then 1 else 0) ∧
        t.reg O.mapEpoch = (s.reg O.mapEpoch + 1) % 2 ^ 32 ∧
      t.reg O.mapLiveFsn = s.clk.fsn ∧ (s.map.origin ≠ 1 → s.map.origin ≠ 2 → t.reg O.mapResult = 0) ∧
      t.map.drain = false ∧ t.latched 384 = true)

/-- Contexts and their lines: accepted writes (Table 5-5, R186, R203, R206), the modes of a context (R184, R189), a
late line (Table 5-1) and the release of a removed line's space (R211). What a round does to a line: the position due
(R182), the lateness of a TPO-A and what is held of it (Table 5-1), the word that is released, the step of E in round
404 (R187), the copy that Sieve chooses for a TSN and the word that it releases (R197). -/
def Obligations.GroupCommands : Prop :=
  (∀ s w c, Allowed s w O.groupType c 0 → s.locked = false →
    Runs (.groupTypeWrite w c 0) s fun t =>
      Stored s t O.groupType c 0 ∧ t.lreg O.groupType c = s.lreg O.groupType c) ∧
  (∀ s w c v, Allowed s w O.groupType c v → s.locked = false → v ≠ 0 →
    (s.lreg O.groupType c = 0 ∨ s.lreg O.groupType c = v) → s.reg O.groupMode c ≠ 3 →
    (s.setReg O.groupType c v).ctxRules c = 0 →
    Runs (.groupTypeWrite w c v) s fun t =>
      Stored s t O.groupType c v ∧ t.grp = ((s.setReg O.groupType c v).reserve c).grp) ∧
  (∀ s w a, Allowed s w O.groupLineCtx a 0xFFFF → s.locked = false → s.followerPend a = false →
    Runs (.lineCtxWrite w a 0xFFFF) s fun t => Stored s t O.groupLineCtx a 0xFFFF) ∧
  (∀ s w a c, Allowed s w O.groupLineCtx a c → s.locked = false → s.followerPend a = false → c < 6144 →
    s.reg O.groupMode c ≠ 3 → (6144 ≤ s.reg O.groupLineCtx a ∨ s.reg O.groupLineCtx a = c) →
    (s.setReg O.groupLineCtx a c).ctxRules c = 0 →
    Runs (.lineCtxWrite w a c) s fun t =>
      Stored s t O.groupLineCtx a c ∧ t.grp = ((s.setReg O.groupLineCtx a c).reserve c).grp) ∧
  (∀ s w c v, Allowed s w O.groupLateness c v → s.locked = false → (s.setReg O.groupLateness c v).ctxRules c = 0 →
    Runs (.latenessWrite w c v) s fun t => Stored s t O.groupLateness c v) ∧
  (∀ s w c v, Allowed s w O.groupMargin c v → s.locked = false → (s.setReg O.groupMargin c v).ctxRules c = 0 →
    Runs (.marginWrite w c v) s fun t =>
      Stored s t O.groupMargin c v ∧ (∀ x, x ∈ t.grp.margins ↔ x = c ∨ x ∈ s.grp.margins) ∧ t.grp.ctxs = s.grp.ctxs) ∧
  (∀ (s : State) c, c ∈ s.grp.margins → (s.ctx c).kind ≠ 0 →
    (s.marginsDue.ctx c).h = s.lreg O.groupMargin c ∧ s.marginsDue.grp.margins = []) ∧
  (∀ s c, c < 6144 → (s.ctx c).kind ≠ 0 → s.reg O.groupMode c = 2 → 64 ≤ (s.ctx c).cond →
    Runs (.coherentReturn c) s fun t =>
      t.reg O.groupMode c = 1 ∧ (t.ctx c).cond = 0 ∧ (s.sys.fabOn = true → t.latched 394 = true) ∧
      OnlyElems [(O.groupMode, c)] s t) ∧
  (∀ s c x, c < 6144 → (s.ctx c).kind ≠ 0 → s.reg O.groupMode c = 2 → 8 ≤ (s.ctx c).noAligned →
    (s.ctx c).hadAligned = false → s.worstLate c = some x →
    Runs (.recapture c) s fun t =>
      t.reg O.groupOffset c = u48 (x + s.lreg O.groupMargin c) ∧ t.reg O.groupTarget c = t.reg O.groupOffset c ∧
      (t.ctx c).started = true ∧ (t.ctx c).h = s.lreg O.groupMargin c ∧ (t.ctx c).bar = (s.ctx c).bar ∧
      (t.ctx c).noAligned = 0 ∧ OnlyRegs [O.groupOffset, O.groupTarget, O.groupLineSlack] s t) ∧
  (∀ s a, a < 122880 → s.reg O.groupLineState a = 2 →
    s.offset (s.line a).ctx - (sMin (s.lreg O.groupMedia (s.line a).ctx) : Int) ≤
      s.since (((s.line a).curT + 1) % 2 ^ 48) s.clk.round - 1 →
    Runs (.lineLate a) s fun t =>
      t.reg O.groupLineState a = 3 ∧ (s.sys.fabOn = true → t.latched 389 = true) ∧
      OnlyElems [(O.groupLineState, a), (O.groupLineChanged, a / 1280)] s t) ∧
  (∀ s a k r, a < 122880 → s.grp.freeing.find? (fun x => x.1 % 122880 == a) = some (k, r) →
    s.reg O.groupMode r.ctx = 3 → (∀ x ∈ s.grp.freeing, x.1 ≠ k → x.2.ctx ≠ r.ctx) →
    Runs (.lineFreed a) s fun t =>
      t.reg O.groupMode r.ctx = 0 ∧ SMap.find? t.grp.freeing k = none ∧ t.grp.lines = s.grp.lines ∧
      (s.sys.fabOn = true → t.latched 393 = true) ∧ OnlyElems [(O.groupMode, r.ctx)] s t) ∧
  (∀ (s : State) n e, n < 405 → s.clk.fsn < 2 ^ 48 → -2 ^ 48 < e → e < 2 ^ 48 →
    (s.dueAt n e).2 < 405 ∧ s.since (s.dueAt n e).1 n = e + (s.dueAt n e).2) ∧
  (∀ (s : State) l n, n ≠ 404 → s.dues l n = [s.dueAt n (s.offset l.ctx - l.lag)]) ∧
  (∀ (s : State) a n t ws, (s.lineTpoa a n t ws).reg O.groupLineLateness a = u48 (s.since t n)) ∧
  (∀ (s : State) a n t ws, (s.ctx (s.line a).ctx).started = true → s.reg O.groupLineState a = 2 →
    (sMin (s.lreg O.groupMedia (s.line a).ctx) : Int) ≤ s.offset (s.line a).ctx - s.since t n →
    s.offset (s.line a).ctx - s.since t n ≤ (s.lreg O.groupDepth (s.line a).ctx : Int) →
    ((s.lineTpoa a n t ws).line a).buf = (s.line a).buf ++ [⟨t, 0, false, ws, s.since t n, true⟩] ∧
      ((s.lineTpoa a n t ws).line a).curT = t ∧ ((s.lineTpoa a n t ws).line a).curPos = 1 ∧
      ((s.lineTpoa a n t ws).line a).live = true ∧ (s.lineTpoa a n t ws).reg O.groupLineState a = 2 ∧
      (s.lineTpoa a n t ws).reg O.groupLineSlack a = u48 (s.offset (s.line a).ctx - s.since t n)) ∧
  (∀ (s : State) a n t ws, (s.ctx (s.line a).ctx).started = true → s.reg O.groupLineState a = 2 →
    s.offset (s.line a).ctx - s.since t n < (sMin (s.lreg O.groupMedia (s.line a).ctx) : Int) →
    s.offset (s.line a).ctx - s.since t n ≤ (s.lreg O.groupDepth (s.line a).ctx : Int) →
    (s.lineTpoa a n t ws).reg O.groupLineState a = 3 ∧ ((s.lineTpoa a n t ws).line a).live = false) ∧
  (∀ (s : State) a q y, (s.line a).at_ q = some y → y.ais = false →
    (if q.2 = 0 then y.go else (s.line a).releasing) = true →
    (s.lineOut a q).2 = ⟨if q.2 = 0 then .tpoa else .word, y.ws, none⟩ ∧
      ((s.lineOut a q).1.line a).at_ q = none ∧ ((s.lineOut a q).1.line a).releasing = true) ∧
  (∀ (s : State) a q y, (s.line a).at_ q = some y →
    (y.ais = true ∨ (if q.2 = 0 then y.go else (s.line a).releasing) = false) →
    (s.lineOut a q).2 = .aisU ∧ ((s.lineOut a q).1.line a).releasing = false ∧ OnlyElems [] s (s.lineOut a q).1) ∧
  (∀ (s : State) c, c < 6144 → (s.ctxStep c).reg O.groupOffset c = u48 (s.offset c + (s.ctx c).step) ∧
    ((s.ctxStep c).ctx c).step = 0 ∧ OnlyElems [(O.groupOffset, c)] s (s.ctxStep c)) ∧
  (∀ (s : State) c a0 a1 t e, (s.copyRank a0 t e (judging (s.lreg O.groupMedia c))).1 = 3 →
    (s.copyRank a1 t e (judging (s.lreg O.groupMedia c))).1 ≠ 3 →
    ((s.sieveChoose c a0 a1 t e).ctx c).chosen = some (t, 0)) ∧
  (∀ (s : State) c a0 a1 t e, (s.copyRank a0 t e (judging (s.lreg O.groupMedia c))).1 ≠ 3 →
    (s.copyRank a1 t e (judging (s.lreg O.groupMedia c))).1 = 3 →
    ((s.sieveChoose c a0 a1 t e).ctx c).chosen = some (t, 1)) ∧
  (∀ (s : State) c a0 a1 t e, (s.copyRank a0 t e (judging (s.lreg O.groupMedia c))).1 = 0 →
    (s.copyRank a1 t e (judging (s.lreg O.groupMedia c))).1 = 0 →
    ((s.sieveChoose c a0 a1 t e).ctx c).chosen = some (t, 2)) ∧
  (∀ (s : State) c a0 a1 t e, (s.copyRank a0 t e (judging (s.lreg O.groupMedia c))).1 = 3 →
    (s.copyRank a1 t e (judging (s.lreg O.groupMedia c))).1 = 3 →
    ((s.sieveChoose c a0 a1 t e).ctx c).chosen = some (t, (s.preferred c a0 a1 t).1)) ∧
  (∀ (s : State) c a0 a1 t e, ((s.sieveChoose c a0 a1 t e).ctx c).chosenPrev = (s.ctx c).chosen ∧
    ∀ a, (s.sieveChoose c a0 a1 t e).line a = s.line a) ∧
  (∀ (s : State) c a0 a1 q e k y, 2 ≤ q.2 → (s.ctx c).chosen = some (q.1, k) → k < 2 →
    (s.line (if k = 0 then a0 else a1)).at_ q = some y → y.ais = false →
    (s.sieveOut c a0 a1 q e).2 = ⟨.word, y.ws, none⟩) ∧
  (∀ (s : State) c a0 a1 q e, q.2 ≠ 0 → (s.ctx c).chosen = some (q.1, 2) → (s.sieveOut c a0 a1 q e).2 = .aisU) ∧
  (∀ (s : State) c a0 a1 t e k j y z, s.major a0 = false → (s.ctx c).chosen = some (t, k) → k < 2 →
    (s.ctx c).chosenPrev = some (j, 1 - k) → (j + 1) % 2 ^ 48 = t →
    (s.line (if k = 0 then a0 else a1)).at_ (t, 1) = some y → y.ais = false →
    (s.line (if k = 0 then a1 else a0)).at_ (t, 1) = some z → z.ais = false →
    (s.sieveOut c a0 a1 (t, 1) e).2 = ⟨.word, z.ws, none⟩)

/-- The clock of frames (R16, R17, R26, R138): a frame start moves to the next frame at round 0, and leaves no boundary
due that has not been taken (R474); a round start moves to the next round, and no frame has more than 405. What a round
does in the fabric: the words of the round before leave the ITS through the Lodes into the ETS (R143, R144, R411), which
checks them (R147, R412) and keeps them for the round after (R145),
  while the external slots carry out those of the round
before, never a TEST word (R148), and the carried streams enter the ITS; the maps of a boundary come into use in rounds
1 and 2 (Table 4-6). -/
def Obligations.FrameClock : Prop :=
  (∀ s ph, Runs (.frameStart ph) s fun t => t.clk = ⟨s.clk.base + 38880, 0, (s.clk.fsn + 1) % 2 ^ 48⟩) ∧
  (∀ s io, s.clk.round < 405 →
    Runs (.roundStart io) s fun t => t.clk = { s.clk with round := s.clk.round + 1 }) ∧
  (∀ s io, 405 ≤ s.clk.round → Runs (.roundStart io) s fun t => t.clk = s.clk ∧ t.regs = s.regs) ∧
  (∀ s ph, Runs (.frameStart ph) s fun t => t.boundaryDue = false) ∧
  (∀ s io, s.clk.round < 405 → s.sys.fabOn = true →
    Runs (.roundStart io) s fun t => t.fab = (s.fresh.fabricRound io s.clk.round).fab ∧
      t.rx = (s.fresh.fabricRound io s.clk.round).rx ∧ t.tx = (s.fresh.fabricRound io s.clk.round).tx ∧
      t.grp = (s.fresh.fabricRound io s.clk.round).grp ∧ t.prot = (s.fresh.fabricRound io s.clk.round).prot) ∧
  (∀ s io, s.clk.round < 405 → s.sys.fabOn = false →
    Runs (.roundStart io) s fun t => t.regs = s.regs ∧ t.fab = s.fab ∧ t.rx = s.rx ∧ t.tx = s.tx ∧ t.grp = s.grp ∧
      t.prot = s.prot) ∧
  (∀ (s m : State) io n e k, (if n = 0 then s.cutCapture else s).roundHead io n = m → e < 96 → k < 3840 →
    SMap.get Cell.idle (s.fabricRound io n).fab.ets (etsKey s.buffer e k) =
      (if (e, k) ∈ m.etsColours io then m.lodeWord io n e k else Cell.idle) ∧
    SMap.get Cell.idle (s.fabricRound io n).fab.ets (etsKey (1 - s.buffer) e k) =
      SMap.get Cell.idle m.fab.ets (etsKey (1 - s.buffer) e k)) ∧
  (∀ (s m : State) io n a, (if n = 0 then s.cutCapture else s).roundHead io n = m → a < 122880 →
    SMap.get Cell.idle (s.fabricRound io n).fab.its (itsKey s.buffer a) =
      SMap.get Cell.idle ((m.etsChecks n (m.etsWrite io n)).itsWrite io n).2 a) ∧
  (∀ (s : State) io n e k i, s.fab.wrong = [] → io.hits = [] → s.selAssigned k e = some i →
    s.lodeWord io n e k = s.itsSends n i k) ∧
  (∀ (s : State) io n e k, s.fab.wrong = [] → io.hits = [] → s.selAssigned k e = none → s.testLode (k / 384) = false →
    s.pathNow = none → s.lodeWord io n e k = Cell.idle) ∧
  (∀ (s : State) n i k x, s.fab.wrong = [] → SMap.find? s.fab.cur.its (i * 3840 + k) = some x →
    s.itsSends n i k = SMap.get Cell.idle s.fab.its (itsKey (1 - s.buffer) (1280 * i + x))) ∧
  (∀ (s : State) n i k, s.fab.wrong = [] → SMap.find? s.fab.cur.its (i * 3840 + k) = none → s.pathNow = none →
    s.itsSends n i k =
      if s.testLode (k / 384) then Cell.mk' .test (testData i k n s.clk.fsn) else Cell.idle) ∧
  (∀ (s : State) x k, s.fab.wrong = [] → SMap.find? s.fab.cur.ets x = some k →
    s.slotCell x = if (SMap.get Cell.idle s.fab.ets (etsKey (1 - s.buffer) (x / 1280) k)).tag = .test then Cell.idle
      else SMap.get Cell.idle s.fab.ets (etsKey (1 - s.buffer) (x / 1280) k)) ∧
  (∀ (s : State) x, s.fab.wrong = [] → SMap.find? s.fab.cur.ets x = none → s.slotCell x = Cell.idle) ∧
  (∀ (s : State) x, (s.slotCell x).tag ≠ .test) ∧
  (∀ (s : State) n e k i c, (popCount 3 c.tag.code + popCount 48 c.data.toNat + b2n c.par) % 2 = 1 → c.tag ≠ .test →
    (s.etsCheck n e k (some i) c).reg O.fabricSlotParityErr (k / 384) =
      (s.reg O.fabricSlotParityErr (k / 384) + 1) % 2 ^ 32) ∧
  (∀ (s : State) n e k i, s.etsCheck n e k (some i) (Cell.mk' .test (testData i k n s.clk.fsn)) =
    if s.testChecked ⟨i, k / 384, e⟩ then s.tally 92 1 else s) ∧
  (∀ (s : State) n e k i c, (popCount 3 c.tag.code + popCount 48 c.data.toNat + b2n c.par) % 2 = 0 → c.tag = .test →
    s.testChecked ⟨i, k / 384, e⟩ = true → c.data ≠ testData i k n s.clk.fsn →
    s.fab.seen.contains (4, xptRes ⟨i, k / 384, e⟩) = false →
    (s.etsCheck n e k (some i) c).reg O.assayErrors 4 = (s.reg O.assayErrors 4 + 1) % 2 ^ 48) ∧
  (∀ (s : State), s.fab.newIts = true →
    (s.newMaps 1).fab.cur.its = s.fab.shadow.its ∧ (s.newMaps 1).fab.cur.sel = s.fab.shadow.sel ∧
      (s.newMaps 1).fab.cur.ets = s.fab.cur.ets ∧ (s.newMaps 1).fab.newIts = false) ∧
  (∀ (s : State), s.fab.newEts = true →
    (s.newMaps 2).fab.cur.ets = s.fab.shadow.ets ∧ (s.newMaps 2).fab.cur.src = s.fab.shadow.src ∧
      (s.newMaps 2).fab.cur.its = s.fab.cur.its ∧ (s.newMaps 2).fab.newEts = false) ∧
  (∀ (s : State) cells n a u us, SMap.find? s.grp.lines a = none → s.assayFaulted (a / 1280) = false →
    s.portStopped (a / 1280) = false → (s.rxG a).reading = true → (s.rxG a).store = u :: us → u.tag ≠ .ais →
    n ≠ 404 → s.major a = false →
    SMap.find? (s.grainRound cells n a 0).2 a = some (Cell.mk' u.tag (u.ws.headD 0)))

/-- The streams of Witness (R228, R230, R231, R239): block lock and its loss, the second good STATUS record, a record
that is discarded, eight frames without one, and the watch for the arbiter. That a discarded record of any type ends
the run of good STATUS records is the model's choice (log entry 16). -/
def Obligations.WitnessStreams : Prop :=
  (∀ s st, st < 32 → s.streamThere st = true → s.streamState st = 0 →
    Runs (.witnessBlockLock st) s fun t =>
      t.streamState st = 1 ∧ (t.stream st).lock = true ∧ (t.stream st).good = 0 ∧ t.latched 483 = true ∧
      OnlyElems [(O.witnessStreamState, st), (O.protFlags, 0)] s t) ∧
  (∀ s st, st < 32 → s.streamState st ≠ 0 →
    Runs (.witnessBlockLockLoss st) s fun t =>
      t.streamState st = 0 ∧ (t.stream st).lock = false ∧ (t.stream st).good = 0 ∧ (t.stream st).last = none ∧
      t.latched 483 = true ∧
      OnlyElems [(O.witnessStreamState, st), (O.protFlags, 0)] s t) ∧
  (∀ s st, st < 32 → s.streamState st ≠ 0 → 8 ≤ (s.stream st).frames →
    Runs (.streamStatusTimeout st) s fun t =>
      t.streamState st = 0 ∧ (t.stream st).lock = (s.stream st).lock ∧ t.latched 483 = true ∧
      OnlyElems [(O.witnessStreamState, st), (O.protFlags, 0)] s t) ∧
  (∀ s st x l arrival, recordOf st x = l → st < 32 → s.streamThere st = true → (s.stream st).lock = true →
    recOk l = true → recType l = 0x10 → s.large = false → s.role ≠ 4 → (s.stream st).held = false →
    s.streamState st = 1 →
    (s.stream st).good = 1 → (s.stream st).cand = bits (blk l 1) 63 32 →
    Runs (.statusRecordRx st x arrival) s fun t =>
      t.streamState st = 2 ∧ t.reg O.witnessStreamDevid st = bits (blk l 1) 63 32 ∧ (t.stream st).frames = 0 ∧
      (t.stream st).pref = bits (blk l 1) 15 14 ∧ t.latched 483 = true) ∧
  (∀ s st x l c arrival, recordOf st x = l → st < 32 → s.streamThere st = true → (s.stream st).lock = true →
    recOk l = false →
    c ∈ [Instr.statusRecordRx st x arrival, .verdictRecordRx st x, .noticeRecordRx st x, .ingressRecordRx st x,
      .egressRecordRx st x] →
    Runs c s fun t =>
      t.reg O.witnessRecErr st = (s.reg O.witnessRecErr st + 1) % 2 ^ 32 ∧ (t.stream st).good = 0 ∧
      t.prot = s.prot ∧ OnlyElems [(O.witnessRecErr, st)] s t) ∧
  (∀ s, s.large = true → s.role ≠ 4 → 8 ≤ s.prot.watch →
    Runs .arbiterWatchTimeout s fun t => t.unwatched = true ∧ OnlyElems [(O.protFlags, 0)] s t) ∧
  (∀ s st x l, recordOf st x = l → st < 32 → s.streamThere st = true → (s.stream st).lock = true → recOk l = true →
    recType l = 0x30 → s.inUse st = true → bits (blk l 1) 63 56 = 2 →
    Runs (.noticeRecordRx st x) s fun t =>
      t.prot.notices = ((bits (blk l 1) 47 0, blk l 2) :: s.prot.notices).take 64 ∧
      ((∃ x ∈ s.prot.notices, x.1 = bits (blk l 1) 47 0 ∧ x.2 ≠ blk l 2) → t.latched 485 = true) ∧ OnlyElems [] s t)

/-- Records, verdicts and preference (Table 6-7, R223, R226, R237, R238, R241), the role (R214), the clearing of port
faults (R243), and the map digest (R229). What a round does at a digest tap: a whole frame gives the CRC of its client
words, its TSN and its payload type, any other none (R218); frames fold into the record of their port and TSN, the
record of the other kind of an egress pair beside it (R219 to R223). -/
def Obligations.Verdicts : Prop :=
  (∀ s st x l, recordOf st x = l → st < 32 → s.streamThere st = true → (s.stream st).lock = true → recOk l = true →
    recType l = 0x20 → s.isPlane = true → s.large = false → s.inUse st = true →
    dist48 (bits (blk l 1) 47 0) s.clk.fsn < 0 →
    (∀ y ∈ s.prot.verdicts ++ s.prot.applied, y.eff ≠ bits (blk l 1) 47 0) →
    Runs (.verdictRecordRx st x) s fun t =>
      OnlyElems [] s t ∧ ∃ v : Vrd, t.prot.verdicts = s.prot.verdicts ++ [v] ∧ v.eff = bits (blk l 1) 47 0 ∧
        v.pref = bits (blk l 1) 63 62 ∧ v.state = bits (blk l 1) 61 58 ∧ v.from_ = bits (blk l 2) 63 16) ∧
  (∀ s v, s.prot.verdicts = [v] → 0 ≤ dist48 v.at_ s.clk.fsn → (v.host = true ∨ s.unwatched = false) → v.pref ≠ 0 →
    (∀ x ∈ s.prot.applied, x.eff = v.eff → x.pref = v.pref) →
    Runs .verdictEffective s fun t =>
      t.prot.verdicts = [] ∧ t.prot.applied = v :: s.prot.applied ∧ t.reg O.protPref = v.pref ∧
      t.reg O.protState = (if s.sys.mode = .service then v.state else s.reg O.protState) ∧
      t.reg O.protFaultPorts = v.ports ∧ (s.reg O.protPref ≠ v.pref → t.reg O.protFromTsn = v.from_) ∧
      OnlyRegs [O.protPref, O.protState, O.protFaultPorts, O.protFromTsn, O.protFlags] s t) ∧
  (∀ s v x, s.prot.verdicts = [v] → 0 ≤ dist48 v.at_ s.clk.fsn → (v.host = true ∨ s.unwatched = false) →
    x ∈ s.prot.applied → x.eff = v.eff → x.pref ≠ v.pref →
    Runs .verdictEffective s fun t =>
      t.prot.verdicts = [] ∧ t.prot.clean = [] ∧ t.reg O.protPref = s.reg O.protPref ∧
      t.reg O.protState = (if s.sys.mode = .service then 4 else s.reg O.protState) ∧ OnlyElems [(O.protState, 0)] s t) ∧
  (∀ s, s.unwatched = true → (∀ v ∈ s.prot.verdicts, v.host = false) →
    Runs .verdictEffective s fun t => t.prot = s.prot ∧ t.regs = s.regs) ∧
  (∀ s, 1 ≤ s.standing.1 → s.standing.1 ≤ 5 → 8000 ≤ s.prot.clean.length → s.unwatched = false →
    s.prefsDiffer = false →
    Runs .stateReturnNormal s fun t =>
      t.prot.clean = s.prot.clean ∧ OnlyElems [] s t ∧ ∃ v : Vrd, t.prot.verdicts = s.prot.verdicts ++ [v] ∧
        v.state = 0 ∧
        v.pref = s.standing.2 ∧ v.eff = (s.clk.fsn + 2) % 2 ^ 48) ∧
  (∀ s, s.prefsDiffer = true → Runs .stateReturnNormal s fun t => t.prot = s.prot ∧ OnlyElems [] s t) ∧
  (∀ s w v, Allowed s w O.protPrefSet 0 v → (s.large = false ∨ s.role = 4) →
    Runs (.prefSet w v) s fun t =>
      t.out.status = 0 ∧ t.reg O.protPref = s.reg O.protPref ∧
      ∃ x : Vrd, t.prot.verdicts = s.prot.verdicts ++ [x] ∧ x.pref = v ∧ x.state = s.standing.1 ∧ x.host = true ∧
        x.eff = (s.clk.fsn + 2) % 2 ^ 48) ∧
  (∀ s w v, Allowed s w O.protRole 0 v → (s.sys.mode = .dormant ∨ s.sys.mode = .stage ∨ s.sys.mode = .isolate) →
    (v = 4 → ∀ p < 96, s.reg O.portEnable p = 1 → s.lreg O.portRole p ≠ 0) →
    Runs (.protRoleWrite w v) s fun t =>
      t.reg O.protRole = v ∧ t.out.status = 0 ∧ (∀ p < 96, t.reg O.portEnable p = s.reg O.portEnable p) ∧
      (v = 4 → ∀ p < 96, t.lreg O.portRole p ≠ 1 → t.running p = false) ∧
      ((∀ p < 96, s.reg O.portEnable p = 0) → OnlyRegs [O.protRole, O.protFlags, O.ledgerJournalSeq] s t)) ∧
  (∀ s w v, Allowed s w O.protPortFaultClear 0 v →
    Runs (.portFaultClear w v) s fun t =>
      t.out.status = 0 ∧
      (∀ p < 96, octBit 12 v p = true → t.octReg O.protPortFaulted 0 12 p = false ∧ t.reg O.assayPortCause p = 0) ∧
      (∀ p < 96, octBit 12 v p = false →
        t.octReg O.protPortFaulted 0 12 p = s.octReg O.protPortFaulted 0 12 p ∧
        t.reg O.assayPortCause p = s.reg O.assayPortCause p)) ∧
  (∀ s, s.prot.digestDue = true → s.map.drain = false →
    Runs .mapDigestReady s fun t =>
      t.reg O.protMapDigest = ofBytes ((sha256 s.mapBytes).take 8) ∧ t.prot.digestDue = false ∧
      t.prot.digestEpoch = s.reg O.mapEpoch ∧ OnlyElems [(O.protMapDigest, 0)] s t) ∧
  (∀ s kind port t r, port < 96 → (s.prot.recs.find? fun r => r.kind == kind && r.plane == s.plane &&
      r.place == s.place && r.port == port && r.t == t && !r.done && !r.aged) = some r →
    (s.reg O.protDigestClose : Int) ≤ dist48 r.first s.clk.fsn →
    Runs (.recordAged kind port t) s fun u =>
      u.reg O.protDigestStats 4 = (s.reg O.protDigestStats 4 + 1) % 2 ^ 48) ∧
  (∀ s kind port t r, port < 96 → s.prot.recs.filter (fun x => x.kind == kind && x.port == port && x.t == t) = [r] →
    kind ≠ 1 → (r.done = true ∨ r.aged = true) → (s.reg O.protDigestClose : Int) + 8 ≤ dist48 r.first s.clk.fsn →
    Runs (.recordUnmatched kind port t) s fun u =>
      r ∉ u.prot.recs ∧ (∀ x ∈ u.prot.recs, x ∈ s.prot.recs) ∧
      u.reg O.protDigestStats 6 = (s.reg O.protDigestStats 6 + 1) % 2 ^ 48 ∧ OnlyElems [(O.protDigestStats, 6)] s u) ∧
  (∀ s kind port t r q, port < 96 →
    s.prot.recs.filter (fun x => x.kind == kind && x.port == port && x.t == t) = [r, q] →
    kind ≠ 1 → r.plane ≠ q.plane → r.place = q.place → (∀ x ∈ [r, q], (x.done = true ∨ x.aged = true) ∧
      (s.reg O.protDigestClose : Int) + 8 ≤ dist48 x.first s.clk.fsn) →
    Runs (.recordUnmatched kind port t) s fun u =>
      r ∉ u.prot.recs ∧ q ∉ u.prot.recs ∧ (∀ x ∈ u.prot.recs, x ∈ s.prot.recs) ∧ OnlyElems [] s u) ∧
  (∀ s st x l, recordOf st x = l → st < 32 → s.streamThere st = true → (s.stream st).lock = true → recOk l = true →
    recType l = 1 →
    s.isPlane = true → s.large = false → s.inUse st = true → s.unwatched = false → bits (blk l 1) 63 56 < 96 →
    (∀ x ∈ s.prot.recs, x.t ≠ recKey l) →
    Runs (.ingressRecordRx st x) s fun t =>
      ∃ r : DRec, t.prot.recs = s.prot.recs ++ [r] ∧ r.kind = 0 ∧ r.plane = 1 - s.plane ∧
        r.port = bits (blk l 1) 63 56 ∧ r.t = recKey l ∧ r.dig = bits (blk l 1) 31 0) ∧
  (∀ s st x l, recordOf st x = l → st < 32 → s.streamThere st = true → (s.stream st).lock = true → recOk l = true →
    recType l = 2 →
    s.isPlane = true → s.large = false → s.inUse st = true → s.unwatched = false → bits (blk l 1) 63 56 < 96 →
    (∀ x ∈ s.prot.recs, x.t ≠ recKey l) →
    Runs (.egressRecordRx st x) s fun t =>
      ∃ r : DRec, t.prot.recs = s.prot.recs ++ [r] ∧ r.kind = 2 ∧ r.plane = 1 - s.plane ∧
        r.port = bits (blk l 1) 63 56 ∧ r.t = recKey l ∧ r.dig = bits (blk l 1) 31 0 ∧ r.cnt = bits (blk l 1) 47 32) ∧
  (∀ (x : Tap) (a b : SUnit) (us : List SUnit), a.tag = .tpoa → a.ws.length = 1 → b.tag = .tpoa →
    (∀ u ∈ us, u.tag = .empty ∨ (u.tag = .word ∧ u.ws.length = 1)) →
    ((us.foldl (fun y u => (y.step u).1) (x.step a).1).step b).2 =
      if (tapWords us).length = 404 then
        some ((a.ws.headD 0).toNat, crcOut (crcWords ((tapWords us).drop 1) crcInit),
          ((tapWords us).headD 0).toNat % 16, x.dst)
      else none) ∧
  (∀ (x : Tap) (u : SUnit), u.tag ≠ .tpoa → u.tag ≠ .word → u.tag ≠ .empty → (x.step u).1.pos = 0 ∧
    (x.step u).2 = none) ∧
  (∀ (x : Tap) (u : SUnit), x.pos = 0 → u.tag ≠ .tpoa → (x.step u).1.pos = 0 ∧ (x.step u).2 = none) ∧
  (∀ (s : State) kind port t crc n, (∀ r ∈ s.prot.recs, s.isRec r kind port t = false) →
    ∃ r : DRec, (s.foldRec kind port t crc n).prot.recs = s.prot.recs ++ [r] ∧ s.isRec r kind port t = true ∧
      r.dig = crc ∧
      r.cnt = n ∧ r.first = s.clk.fsn ∧ r.done = false ∧ r.aged = false) ∧
  (∀ (s : State) kind port t crc n, (∃ r ∈ s.prot.recs, s.isRec r kind port t = true) →
    (s.foldRec kind port t crc n).prot.recs = s.prot.recs.map fun r =>
      if s.isRec r kind port t = true ∧ r.done = false ∧ r.aged = false then
        { r with dig := r.dig ^^^ crc, cnt := (r.cnt + n) % 65536 } else r) ∧
  (∀ (s : State) e t crc kind, (kind = 1 ∨ kind = 2) →
    (∀ r ∈ s.prot.recs, s.isRec r 1 e t = false ∧ s.isRec r 2 e t = false) →
    ∃ r q : DRec, (s.foldPair kind e t crc).prot.recs = s.prot.recs ++ [r, q] ∧ s.isRec r kind e t = true ∧
      r.dig = crc ∧
      r.cnt = 1 ∧ s.isRec q (3 - kind) e t = true ∧ q.dig = 0 ∧ q.cnt = 0)

/-- Cuts and export (R247, R248, R249, R251, R253): the cut, the seal, the HDP messages that carry a generation and
the journal to the spare, and what ends an export: the spare's new generation, 40 s, or a refusal. -/
def Obligations.LedgerExport : Prop :=
  (∀ s, bit (s.reg O.ledgerCutMode) 0 = true → (s.reg O.ledgerCutPeriod : Int) ≤ dist48 s.led.lastCut s.clk.fsn →
    s.cutCheck 0xFE = 0 →
    Runs .ledgerPeriodicCut s fun t =>
      t.led.cutting = true ∧ t.reg O.ledgerExportState = 1 ∧ t.led.lastCut = s.clk.fsn ∧
      t.reg O.maintTokenHolder 1 = 0xFE) ∧
  (∀ s w v, Allowed s w O.ledgerCutReq 0 v → s.sys.mode ≠ .restore → s.cutCheck (holderOf w) = 0 →
    Runs (.ledgerCutReq w v) s fun t =>
      t.led.cutting = true ∧ t.reg O.ledgerExportState = 1 ∧ t.reg O.maintTokenHolder 1 = holderOf w ∧
      t.out.status = 0 ∧ OnlyRegs [O.ledgerExportState, O.maintTokenHolder, O.maintTokenSince] s t) ∧
  (∀ s, s.led.cutting = true → s.led.image ≠ [] →
    Runs .generationSealed s fun t =>
      t.reg O.ledgerGen = genNo s.led.image ∧ t.reg O.ledgerGenFsn = s.led.cutFsn ∧
      t.reg O.ledgerGenHash = ofBytes (s.led.image.drop (s.led.image.length - 32)) ∧ t.led.cutting = false ∧
      t.led.sealedImg = s.led.image ∧ t.latched 487 = true ∧
      (s.reg O.ledgerExportEn ≠ 1 → t.reg O.ledgerExportState = 0) ∧
      (s.reg O.ledgerExportEn = 1 → t.reg O.ledgerExportState = 2 ∨ t.reg O.ledgerExportState = 3)) ∧
  (∀ s, s.led.cutting = true → s.led.image ≠ [] → s.reg O.ledgerExportEn = 1 → s.spareOpen = false →
    Runs .generationSealed s fun t =>
      t.reg O.ledgerExportState = 2 ∧ ∃ q : List Hdp, t.led.xq = s.led.xq ++ q ∧
        q.flatMap Hdp.value = s.led.image ++ s.led.image.drop (s.led.image.length - 32)) ∧
  (∀ s, s.reg O.ledgerExportEn ≠ 0 →
    Runs .journalSend s fun t => ∀ x ∈ s.led.journalOut, x.1 ≤ t.led.sentSeq) ∧
  (∀ s, s.reg O.ledgerExportEn ≠ 0 → s.spareOpen = false →
    Runs .journalSend s fun t =>
      OnlyElems [] s t ∧ ∃ q : List Hdp, t.led.xq = s.led.xq ++ q ∧ (∀ h ∈ q, h.index = O.ledgerJournalRx) ∧
        q.flatMap Hdp.value =
          (s.led.journalOut.filter fun x => decide (s.led.sentSeq < x.1)).flatMap fun x => x.2.2) ∧
  (∀ s x, s.reg O.ledgerExportEn ≠ 0 → s.spareOpen = true → s.led.xq = [] → PortFree s (s.spareAddr 0 1) →
    (s.led.journalOut.filter fun x => decide (s.led.sentSeq < x.1)) = [x] → x.2.2.length ≤ 1024 →
    Runs .journalSend s fun t =>
      t.led.xq = [] ∧ t.led.xseq = (s.led.xseq + 1) % 2 ^ 48 ∧ t.led.xfly = s.led.xfly ++ [t.led.xseq] ∧
      ∃ (h : Hdp) (mac : List Byte), t.out.sent = [.hdp (s.spareAddr 0 1) s.spareEncap (h.wire mac)] ∧ h.op = 2 ∧
        h.index = O.ledgerJournalRx ∧ h.seq = t.led.xseq ∧ h.value = x.2.2) ∧
  (∀ s g0 g1, s.exportAway = true → (g0 = s.reg O.ledgerGen ∨ g1 = s.reg O.ledgerGen) →
    Runs (.spareSealCheck g0 g1) s fun t =>
      t.reg O.ledgerSpareGen = s.reg O.ledgerGen ∧ t.reg O.ledgerExportState = 0 ∧ t.latched 489 = true ∧
      (∀ x, x ∈ t.led.journalOut ↔ x ∈ s.led.journalOut ∧ precedes48 (s.reg O.ledgerGenFsn) x.2.1 = true)) ∧
  (∀ s, s.exportAway = true → s.elapsed s.led.exportTick (secTicks 40) = true →
    Runs .exportTimeout s fun t =>
      t.reg O.ledgerExportState = 4 ∧ t.latched 488 = true ∧ t.led.xfly = [] ∧
      ∀ h ∈ t.led.xq, h.index ≠ O.ledgerRxSegment ∧ h.index ≠ O.ledgerRxSeal) ∧
  (∀ s port enc m h c, (c, h.op) ∈ [(Instr.hdpWrite port enc m, 2), (.writeBulk port enc m, 4)] → port < 2 →
    s.served port enc = true → hdpParse m = some h → bit h.flags 7 = true → s.spareSaid h m = true →
    h.seq ∈ s.led.xfly → h.status ≠ 0 → (h.index = O.ledgerRxSegment ∨ h.index = O.ledgerRxSeal) →
    s.exportAway = true →
    Runs c s fun t => t.reg O.ledgerExportState = 4 ∧ t.latched 488 = true) ∧
  (∀ s port enc m h c, (c, h.op) ∈ [(Instr.hdpWrite port enc m, 2), (.writeBulk port enc m, 4)] → port < 2 →
    s.served port enc = true → hdpParse m = some h → bit h.flags 7 = true → s.spareSaid h m = true →
    h.seq ∈ s.led.xfly → h.status ≠ 0 → h.index = O.ledgerJournalRx → s.led.cutJournal = false →
    Runs c s fun t => t.led.cutJournal = true ∧ t.latched 490 = true)

/-- The spare (R250, R253, R254, R487): the segments, the flash work that stores them, the seal and the journal
entries that it takes. -/
def Obligations.LedgerSpare : Prop :=
  (∀ s w d, Writable s w O.ledgerRxSegment 0 → d ≠ [] → d.length ≤ 65536 → s.sys.mode ≠ .restore →
    (∀ n, s.newestSlot = some n → s.reg O.ledgerSlotGen n < genNo d) →
    Runs (.rxSegmentWrite w 0 d) s fun t =>
      t.led.rxNext = 1 ∧ t.led.rxLen = genLength d ∧
      (s.newestSlot = some 0 → t.led.rxSlot = 1) ∧ (s.newestSlot ≠ some 0 → t.led.rxSlot = 0) ∧
      t.reg O.ledgerSlotState t.led.rxSlot = 1 ∧ t.reg O.ledgerSlotGen t.led.rxSlot = 0 ∧
      (∃ q, t.mem.work = s.mem.work ++ q ∧ ∀ u ∈ q, u.slot = t.led.rxSlot ∧ u.at_ < 65536) ∧ t.out.status = 0) ∧
  (∀ s w k d, Writable s w O.ledgerRxSegment k → d ≠ [] → d.length ≤ 65536 → s.sys.mode ≠ .restore → k ≠ 0 →
    s.led.rxNext = k → s.reg O.ledgerSlotState s.led.rxSlot = 1 → 65536 * k < s.led.rxLen →
    Runs (.rxSegmentWrite w k d) s fun t =>
      t.led.rxNext = k + 1 ∧ t.led.rxSlot = s.led.rxSlot ∧ t.out.status = 0 ∧
      (∃ q, t.mem.work = s.mem.work ++ q ∧ ∀ u ∈ q, u.slot = s.led.rxSlot ∧ u.at_ / 65536 = k) ∧ OnlyElems [] s t) ∧
  (∀ s w k d, Writable s w O.ledgerRxSegment k → d ≠ [] → d.length ≤ 65536 → s.sys.mode ≠ .restore → k ≠ 0 →
    s.led.rxNext = k → s.led.rxSlot < 2 → s.reg O.ledgerSlotState s.led.rxSlot = 1 → 65536 * k < s.led.rxLen →
    s.mem.work = [] →
    Runs (.rxSegmentWrite w k d) s fun t =>
      let u := t.flashDrain fun x => x.slot != 2
      u.mem.work = [] ∧ slice (u.slotBytes s.led.rxSlot) (65536 * k) d.length = d ∧
      (u.slotBytes s.led.rxSlot).take (min (s.slotBytes s.led.rxSlot).length (65536 * k)) =
        (s.slotBytes s.led.rxSlot).take (65536 * k)) ∧
  (∀ s w d g, Writable s w O.ledgerRxSeal 0 → d.length = 32 → s.sys.mode ≠ .restore → s.led.rxSlot < 2 →
    s.reg O.ledgerSlotState s.led.rxSlot = 1 → (s.flashDrain fun u => u.slot != 2).slotBytes s.led.rxSlot = g →
    genSealed g = true → genLength g ≤ 65536 * s.led.rxNext → d = slice g (genLength g - 32) 32 →
    Runs (.rxSealWrite w d) s fun t =>
      t.reg O.ledgerSlotState s.led.rxSlot = 2 ∧ t.reg O.ledgerSlotGen s.led.rxSlot = genNo g ∧
      t.reg O.ledgerSlotFsn s.led.rxSlot = genFsn g ∧ t.reg O.ledgerRxJournalState = 1 ∧
      t.latched 487 = true ∧ t.out.status = 0) ∧
  (∀ s w d x, Writable s w O.ledgerJournalRx 0 → d ≠ [] → d.length ≤ 65536 → s.sys.mode ≠ .restore →
    parseEntries 4097 d = some [x] → s.reg O.ledgerRxJournalState = 1 →
    (s.led.lastIn = 0 ∨ x.1 = s.led.lastIn + 1) → journalBytes s.led.journalIn + x.2.2.length ≤ 1048576 →
    Runs (.journalRxWrite w d) s fun t =>
      t.led.journalIn = s.led.journalIn ++ [x] ∧ t.led.lastIn = x.1 ∧ t.out.status = 0 ∧ OnlyElems [] s t) ∧
  (∀ s w d x, Writable s w O.ledgerJournalRx 0 → d ≠ [] → d.length ≤ 65536 → s.sys.mode ≠ .restore →
    parseEntries 4097 d = some [x] → s.reg O.ledgerRxJournalState = 1 → s.led.lastIn ≠ 0 → x.1 ≠ s.led.lastIn + 1 →
    Runs (.journalRxWrite w d) s fun t =>
      t.reg O.ledgerRxJournalState = 2 ∧ t.latched 490 = true ∧ t.out.status = 0x0804 ∧
      t.led.journalIn = s.led.journalIn)

/-- Mode requests and the changes of mode (Tables 14-1 and 14-2, R451 to R455, R458, R459, R461). -/
def Obligations.ModeChanges : Prop :=
  (∀ s w, Allowed s w O.sysModeReq 0 3 → s.sys.booting = false → s.sys.mode = .dormant →
    Runs (.modeReqStage w) s fun t =>
      t.sys.mode = .wake ∧ t.sys.fabEn = true ∧ t.sys.wakeTick = s.tick ∧ t.reg O.sysModeFsn = s.clk.fsn ∧
      t.latched 503 = true ∧ t.out.status = 0) ∧
  (∀ s w, Allowed s w O.sysModeReq 0 4 → s.sys.mode = .stage → s.tokFree 0 (holderOf w) = true →
    s.tokFree 1 (holderOf w) = true → s.reg O.fwUpdateState ≠ 5 → s.newestSlot ≠ none → s.locked = true →
    Runs (.modeReqRestore w) s fun t =>
      t.sys.mode = .restore ∧ t.sys.restoreAgain = true ∧ t.reg O.sysResume = 1 ∧ t.reg O.sysModeFsn = s.clk.fsn ∧
      t.out.status = 0) ∧
  (∀ s w, Allowed s w O.sysModeReq 0 4 → s.sys.mode = .stage → s.tokFree 0 (holderOf w) = true →
    s.tokFree 1 (holderOf w) = true → s.reg O.fwUpdateState ≠ 5 → s.newestSlot ≠ none → s.locked = false →
    s.restorable = none →
    Runs (.modeReqRestore w) s fun t =>
      t.sys.mode = .stage ∧ t.reg O.sysCause = 6 ∧ t.reg O.sysResume = 0 ∧ t.out.status = 0) ∧
  (∀ s w, Allowed s w O.sysModeReq 0 5 → (s.sys.mode = .stage ∨ s.sys.mode = .isolate) → s.locked = false →
    s.commitCheck (holderOf w) 3 = 0 →
    Runs (.modeReqService w) s fun t =>
      t.sys.mode = s.sys.mode ∧ t.sys.serviceReq = true ∧ t.reg O.mapState = 1 ∧
      t.map.f = (s.clk.fsn + 16) % 2 ^ 48 ∧ t.reg O.maintTokenHolder 0 = holderOf w ∧ t.out.status = 0) ∧
  (∀ s w, Allowed s w O.sysModeReq 0 5 → (s.sys.mode = .stage ∨ s.sys.mode = .isolate) → s.locked = true →
    s.map.drain = false →
    Runs (.modeReqService w) s fun t =>
      t.sys.mode = s.sys.mode ∧ t.sys.serviceReq = true ∧ t.map = s.map ∧ t.out.status = 0 ∧ OnlyElems [] s t) ∧
  (∀ s w, Allowed s w O.sysModeReq 0 6 → (s.sys.mode = .stage ∨ s.sys.mode = .service) →
    Runs (.modeReqIsolate w) s fun t =>
      t.sys.mode = s.sys.mode ∧ t.sys.isolateReq = true ∧ t.out.status = 0 ∧ OnlyElems [] s t) ∧
  (∀ s, s.sys.isolateReq = true → s.sys.mode ≠ .stage → s.sys.mode ≠ .service →
    Runs .isolateEntry s fun t => t.sys = { s.sys with isolateReq := false } ∧ OnlyElems [] s t) ∧
  (∀ s, s.sys.isolateReq = true → (s.sys.mode = .stage ∨ s.sys.mode = .service) →
    Runs .isolateEntry s fun t =>
      t.sys.mode = .isolate ∧ t.sys.isolateReq = false ∧ t.reg O.sysModeFsn = s.clk.fsn ∧ t.reg O.protState = 6 ∧
      t.latched 503 = true ∧ OnlyRegs [O.sysModeFsn, O.protState] s t) ∧
  (∀ s w, Allowed s w O.sysModeReq 0 7 →
    (s.sys.mode = .stage ∨ s.sys.mode = .restore ∨ s.sys.mode = .service ∨ s.sys.mode = .isolate) →
    Runs (.modeReqQuarantine w) s fun t =>
      t.sys.mode = .quarantine ∧ t.reg O.sysCause = 4 ∧ t.reg O.sysResume = 0 ∧ t.reg O.mapState = 0 ∧
      t.out.status = 0) ∧
  (∀ s w, Allowed s w O.sysModeReq 0 0 →
    (s.sys.mode = .stage ∨ s.sys.mode = .isolate ∨ s.sys.mode = .quarantine) →
    Runs (.modeReqDormant w) s fun t =>
      t.sys.mode = s.sys.mode ∧ t.sys.dormantReq = true ∧ t.out.status = 0 ∧ OnlyElems [] s t) ∧
  (∀ s, s.sys.dormantReq = true →
    (s.sys.mode = .stage ∨ s.sys.mode = .isolate ∨ s.sys.mode = .quarantine) →
    Runs .dormantEntry s fun t =>
      t.sys.mode = .dormant ∧ t.sys.fabOn = false ∧ t.sys.fabEn = false ∧ t.sys.dormantReq = false ∧
      t.reg O.sysResume = 0)

/-- Waking up (R458, R459, R461, Tables 14-2 and 14-4): power good and its loss, the self-test and the checks of
ATTEST. -/
def Obligations.Waking : Prop :=
  (∀ s, s.sys.mode = .wake → s.sys.fabEn = true → s.sys.fabPg = false →
    Runs .fabPgAssert s fun t =>
      t.sys.fabOn = true ∧ t.sys.fabPg = true ∧ t.sys.mode = .wake ∧ (∀ b < 256, t.reg O.memBankState b = 5) ∧
      (s.sys.ddrNone = false → ∀ c < 4, t.reg O.memDdrChState c = 1)) ∧
  (∀ s, s.sys.mode = .wake → s.sys.fabPg = false → s.elapsed s.sys.wakeTick (msTicks 90) = true →
    Runs .fabPgTimeout s fun t => t.sys.mode = .quarantine ∧ t.reg O.sysCause = 1) ∧
  (∀ s, s.sys.fabEn = true → s.sys.fabPg = true →
    Runs .fabPgDeassert s fun t => t.sys.fabEn = false ∧ t.sys.fabPg = false ∧ t.sys.fabOn = false) ∧
  (∀ s, s.sys.fabEn = true → s.sys.fabPg = true → s.sys.fabOn = true → s.sys.mode ≠ .quarantine →
    Runs .fabPgDeassert s fun t => t.sys.mode = .quarantine ∧ t.reg O.sysCause = 5 ∧ t.sys.fabOn = false) ∧
  (∀ s, s.sys.mode = .wake → s.sys.fabOn = true → s.sys.banksClear = true → 7 ≤ s.lodes.length →
    4 ≤ (s.ownerBanks 4).length →
    Runs (.wakeSelftestDone 0 []) s fun t => t.sys.mode = .attest ∧ t.reg O.sysSelftest = 0) ∧
  (∀ s n, s.sys.mode = .wake → s.sys.fabOn = true → s.sys.banksClear = true → n % 32 ≠ 0 →
    Runs (.wakeSelftestDone n []) s fun t => t.sys.mode = .quarantine ∧ t.reg O.sysCause = 2) ∧
  (∀ s n, s.sys.mode = .wake → s.sys.fabOn = true → s.sys.banksClear = true →
    (s.lodes.length < 7 ∨ (s.ownerBanks 4).length < 4) →
    Runs (.wakeSelftestDone n []) s fun t =>
      t.sys.mode = .quarantine ∧ t.reg O.sysCause = 2 ∧ t.reg O.sysSelftest ≠ 0) ∧
  (∀ s, s.sys.mode = .attest → s.verifySlot (s.reg O.fwRunning) false true = 0 → s.sys.promoting = 0 →
    s.reg O.sysResume ≠ 1 →
    Runs .attestDone s fun t =>
      t.sys.mode = .stage ∧ t.reg O.fwFabricPending = 0 ∧ t.fw.fabric = s.fabricHashOf (s.reg O.fwRunning)) ∧
  (∀ s, s.sys.mode = .attest → s.verifySlot (s.reg O.fwRunning) false true ≠ 0 →
    Runs .attestDone s fun t => t.sys.mode = .quarantine ∧ t.reg O.sysCause = 3 ∧ t.latched 504 = true)

/-- Resets, boot and restarts (R353, R456, R463, R464, R465, R470, R501, Tables 14-3, 14-8 and 14-10): what a power-on
reset keeps and what it returns to its default, the record that the boot ROM goes by, and what a boot or a restart of
the Keeper leaves. How much of a record that a reset cuts short stands is a free value (log entry 113). -/
def Obligations.ResetsAndBoot : Prop :=
  (∀ s m d, Runs (.powerOnReset m d) s fun t =>
      t.sys.mode = .dormant ∧ t.sys.booting = true ∧ t.sys.porst = false ∧ t.sys.fabOn = false ∧ t.sys.ddrNone = d ∧
      t.clk = ⟨0, 0, 0⟩ ∧ t.reg O.sysResetCause = 0 ∧ t.reg O.matrixMapsel = (if m then 1 else 0) ∧
      (∀ i e, keptReset i = true → t.reg i e = s.reg i e) ∧
      (∀ i e, keptReset i = false → i ≠ O.sysResetCause → i ≠ O.matrixMapsel → t.reg i e = unlisted (regKey i e)) ∧
      t.mem.flash = s.halfRecord ∧ t.pending = s.pending ∧
      ((s.fw.written = 0 ∨ s.elapsed (s.fw.written - 1) 79627 = true) → t.mem.flash = s.mem.flash)) ∧
  (∀ (s : State) l i, s.newestRecord l = some i → i ∈ l ∧ s.recordOk i = true ∧
    ∀ j ∈ l, s.recordOk j = true →
      fld (getMem 0xFF s.mem.flash (256 * j + 4) 6) 0 6 ≤ fld (getMem 0xFF s.mem.flash (256 * i + 4) 6) 0 6) ∧
  (∀ (s : State) l, s.newestRecord l = none ↔ ∀ j ∈ l, s.recordOk j = false) ∧
  (∀ s, Runs .porstAssert s fun t =>
      t.sys.porst = true ∧ t.sys.booting = true ∧ t.sys.fabEn = false ∧ t.clk = ⟨0, 0, 0⟩ ∧
      (∀ i e, keptReset i = true → t.reg i e = s.reg i e)) ∧
  (∀ s w v, Allowed s w O.sysReset 0 v → s.sys.mode ≠ .service → s.sys.mode ≠ .restore →
    Runs (.sysReset w v) s fun t =>
      t.reg O.sysResetCause = 1 ∧ t.sys.booting = true ∧ t.sys.mode = .dormant ∧ t.clk = ⟨0, 0, 0⟩ ∧ t.out.status = 0) ∧
  (∀ s u, s.bootLoad = u → s.sys.booting = true → s.sys.porst = false → s.sys.recovery = false →
    u.reg O.fwRunning = 0 → u.reg O.fwSlotState 0 = 5 → (u.reg O.fwSlotState 1 = 0 ∨ u.reg O.fwSlotState 1 = 5) →
    u.verifySlot 0 true false = 0 → u.reg O.sysResume = 0 → s.reg O.sysWakeAuto = 0 →
    Runs .bootComplete s fun t =>
      t.sys.booting = false ∧ t.sys.mode = .dormant ∧ t.sys.recovery = false ∧ t.reg O.fwRunning = 0 ∧
      t.reg O.fwBootState = 0 ∧ t.reg O.identFwVersion = u.reg O.fwSlotVersion 0 ∧ t.latched 503 = true) ∧
  (∀ s, s.sys.restarting = true → s.sys.mode ≠ .restore →
    Runs .keeperRestartDone s fun t =>
      t.sys.restarting = false ∧ t.reg O.sysResetCause = 2 ∧ t.hdp.bulk = [] ∧ (∀ k, (t.session k).sub = 0)) ∧
  (∀ s c, c < 2 → s.reg O.fwUpdateState ≠ 5 → s.sys.mode ≠ .restore →
    Runs (.watchdogExpiry c) s fun t =>
      t.reg O.keeperWdogCount c = (s.reg O.keeperWdogCount c + 1) % 2 ^ 32 ∧ t.reg O.sysResetCause = 3 ∧
      t.reg O.matrixMasterState c = 1 ∧ (s.sys.fabOn = true → t.latched 470 = true))

/-- Promotion and the warm spare (R256 to R259, R262, R263, Table 6-12). A promotion from ISOLATE omits steps 1 to 4;
that it takes the frame of the request for that of an entry into STAGE, and that a promotion waits for the tokens of its
RESTORE, are the model's choices (log entries 44 and 114). -/
def Obligations.Promotion : Prop :=
  (∀ s w v, Allowed s w O.protPromote 0 v → s.role = 3 → s.sys.booting = false → s.sys.mode = .dormant →
    s.newestSlot ≠ none →
    Runs (.promote w v) s fun t =>
      t.reg O.protRole = v ∧ t.sys.promoting = v ∧ t.sys.mode = .wake ∧ t.reg O.protPromoteStep = 1 ∧
      t.reg O.sysResume = v + 1 ∧ t.latched 491 = true ∧ t.out.status = 0) ∧
  (∀ s w v, Allowed s w O.protPromote 0 v → s.role = 3 → s.sys.booting = false → s.sys.mode = .isolate →
    s.newestSlot ≠ none → s.locked = true → s.tokFree 0 (holderOf w) = true → s.tokFree 1 (holderOf w) = true →
    Runs (.promote w v) s fun t =>
      t.reg O.protRole = v ∧ t.sys.promoting = v ∧ t.sys.mode = .restore ∧ t.reg O.protPromoteStep = 6 ∧
      t.sys.stageFsn = s.clk.fsn ∧ t.reg O.eventCount 491 = (s.reg O.eventCount 491 + 2) % 2 ^ 32 ∧
      t.reg O.sysResume = v + 1 ∧ t.latched 491 = true ∧ t.out.status = 0) ∧
  (∀ s : State, s.sys.mode = .stage → s.sys.promoting ≠ 0 → s.reg O.protPromoteStep = 4 →
    (∀ p < 96, s.reg O.portEnable p ≠ 0 → s.reg O.portNegState p = 5 ∧ s.txVer p = 2) → s.peerStatus ≠ none →
    s.prot.untold = false →
    s.promoteFrame.reg O.protPromoteStep = 5 ∧ s.promoteFrame.sys = s.sys ∧ s.promoteFrame.latched 491 = true) ∧
  (∀ s, s.sys.mode = .stage → s.sys.promoting ≠ 0 → s.refState = 2 → s.bears s.selected = true → s.locked = true →
    s.tokFree 0 0xFE = true → s.tokFree 1 0xFE = true →
    Runs .promotionRestoreStart s fun t =>
      t.sys.mode = .restore ∧ t.reg O.protPromoteStep = 6 ∧ t.sys.restoreAgain = true) ∧
  (∀ s, s.sys.mode = .stage → s.sys.promoting ≠ 0 → s.refState = 2 → s.bears s.selected = true → s.locked = false →
    s.restorable = none → s.tokFree 0 0xFE = true → s.tokFree 1 0xFE = true →
    Runs .promotionRestoreStart s fun t =>
      t.sys.mode = .stage ∧ t.reg O.protPromoteStep = 0xFF ∧ t.sys.promoting = 0 ∧ t.reg O.sysCause = 6) ∧
  (∀ s, (s.tokFree 0 0xFE = false ∨ s.tokFree 1 0xFE = false) →
    Runs .promotionRestoreStart s fun t => t.sys = s.sys ∧ t.regs = s.regs) ∧
  (∀ s, s.role = 3 → s.sys.mode = .isolate → s.elapsed s.prot.warmTick (secTicks 1) = true →
    Runs .warmHealthUpdate s fun t =>
      (bit (t.reg O.protWarmHealth) 31 = true ↔ (∀ k < 9, s.reg O.assayLasting k = 0) ∧ s.refState = 2) ∧
      t.prot.warmTick = s.tick ∧ OnlyElems [(O.protWarmHealth, 0)] s t)

/-- Firmware updates (R462, R465, R466, R487): what each accepted command of an update does to the slots, and to the
flash once its work there is done. -/
def Obligations.FirmwareUpdate : Prop :=
  (∀ s w v, Allowed s w O.fwStageBegin 0 v → s.tokFree 2 (holderOf w) = true →
    (s.reg O.fwUpdateState = 0 ∨ s.reg O.fwUpdateState = 6) → s.reg O.fwSlotState 0 ≠ 4 → s.reg O.fwSlotState 1 ≠ 4 →
    Runs (.fwStageBegin w v) s fun t =>
      t.reg O.fwSlotState s.stageSlot = 1 ∧ t.reg O.fwUpdateState = 1 ∧ t.fw.next = 0 ∧ t.fw.got = 0 ∧
      t.reg O.maintTokenHolder 2 = holderOf w ∧ t.out.status = 0 ∧
      (∀ a, 0x100000 ≤ a → SMap.get 0xFF t.mem.flash a = SMap.get 0xFF s.mem.flash a) ∧
      t.mem.work = s.mem.work ++ (List.range 256).map fun i => ⟨2, slotBase s.stageSlot + 65536 * i, true, []⟩) ∧
  (∀ s, s.reg O.fwUpdateState = 1 →
    Runs .fwEraseDone s fun t =>
      t.reg O.fwUpdateState = 2 ∧ t.latched 505 = true ∧ (∀ u ∈ t.mem.work, u.slot ≠ 2) ∧
      OnlyElems [(O.fwUpdateState, 0)] s t) ∧
  (∀ s k, s.reg O.fwUpdateState = 1 →
    s.mem.work = (List.range 256).map (fun i => ⟨2, slotBase k + 65536 * i, true, []⟩) →
    Runs .fwEraseDone s fun t =>
      (∀ o < 0x1000000, SMap.get 0xFF t.mem.flash (slotBase k + o) = 0xFF) ∧
      (∀ a, (a < slotBase k ∨ slotBase k + 0x1000000 ≤ a) →
        SMap.get 0xFF t.mem.flash a = SMap.get 0xFF s.mem.flash a)) ∧
  (∀ s w k d, Writable s w O.fwStageSegment k → d ≠ [] → d.length ≤ 65536 → s.fwBusy (holderOf w) = false →
    s.reg O.fwUpdateState = 2 → k = s.fw.next → s.fw.got = 65536 * k →
    Runs (.fwStageSegment w k d) s fun t =>
      t.fw.next = k + 1 ∧ t.fw.got = s.fw.got + d.length ∧ t.out.status = 0 ∧ t.mem.flash = s.mem.flash ∧
      OnlyElems [] s t ∧
      (s.mem.work = [] →
        (∀ i < d.length, SMap.get 0xFF (t.flashDrain fun u => u.slot == 2).mem.flash
          (slotBase s.stageSlot + 65536 * k + i) = (d.getD i 0).toNat) ∧
        (∀ a, (a < slotBase s.stageSlot + 65536 * k ∨ slotBase s.stageSlot + 65536 * k + d.length ≤ a) →
          SMap.get 0xFF (t.flashDrain fun u => u.slot == 2).mem.flash a = SMap.get 0xFF s.mem.flash a))) ∧
  (∀ s w u, (s.flashDrain fun u => u.slot == 2) = u → bit (s.rights w) 2 = true → s.fwBusy (holderOf w) = false →
    s.reg O.fwUpdateState = 2 → u.verifySlot s.stageSlot true true = 0 →
    Runs (.fwCommit w) s fun t =>
      t.reg O.fwSlotState s.stageSlot = 2 ∧ t.reg O.fwUpdateState = 4 ∧
      (∀ a, 0x100000 ≤ a → SMap.get 0xFF t.mem.flash a = SMap.get 0xFF u.mem.flash a) ∧
      t.reg O.fwSlotVersion s.stageSlot = fld (u.slotRead s.stageSlot 0 16) 8 4 ∧ t.latched 505 = true ∧
      t.out.status = 0) ∧
  (∀ s w u, (s.flashDrain fun u => u.slot == 2) = u → bit (s.rights w) 2 = true → s.fwBusy (holderOf w) = false →
    s.reg O.fwUpdateState = 2 → u.verifySlot s.stageSlot true true ≠ 0 →
    Runs (.fwCommit w) s fun t =>
      t.reg O.fwSlotState s.stageSlot = 6 ∧ t.latched 504 = true ∧
      t.out.status = u.verifySlot s.stageSlot true true) ∧
  (∀ s w, bit (s.rights w) 2 = true → s.fwBusy (holderOf w) = false →
    (s.reg O.fwUpdateState = 2 ∨ s.reg O.fwUpdateState = 4) →
    Runs (.fwAbort w) s fun t =>
      t.reg O.fwSlotState s.stageSlot = 0 ∧ t.reg O.fwUpdateState = 0 ∧ (∀ u ∈ t.mem.work, u.slot ≠ 2) ∧
      t.out.status = 0) ∧
  (∀ s w v, Allowed s w O.fwActivate 0 v → s.sys.mode ≠ .wake → s.sys.mode ≠ .attest → s.sys.mode ≠ .restore →
    s.fwBusy (holderOf w) = false → s.locked = false → s.exporting = false → s.reg O.fwUpdateState = 4 →
    s.verifySlot s.stageSlot true true = 0 →
    Runs (.fwActivate w v) s fun t =>
      t.reg O.fwSlotState s.stageSlot = 3 ∧ t.sys.restarting = true ∧ t.reg O.maintTokenHolder 2 = 0xFE ∧
      t.reg O.matrixMasterState 0 = 1 ∧ t.reg O.matrixMasterState 1 = 1 ∧ t.out.status = 0) ∧
  (∀ s w v, Allowed s w O.fwConfirm 0 v → s.reg O.fwUpdateState = 5 → s.sys.restarting = false →
    Runs (.fwConfirm w v) s fun t =>
      t.reg O.fwSlotState (s.reg O.fwRunning) = 5 ∧ t.reg O.fwUpdateState = 0 ∧ t.reg O.fwTrialLeft = 0 ∧
      t.latched 505 = true ∧ t.out.status = 0) ∧
  (∀ s, s.reg O.fwUpdateState = 5 → s.elapsed s.fw.trialTick (secTicks (s.reg O.fwTrialLeft)) = true →
    s.fw.fallback = false →
    Runs .trialTimeout s fun t =>
      t.sys.restarting = true ∧ t.fw.fallback = true ∧ t.reg O.matrixMasterState 0 = 1 ∧
      t.reg O.matrixMasterState 1 = 1)

/-- Attestation (R467 to R469): every report takes a leaf of its own, leaves are reserved 64 at a time, and with no
leaf left nothing is signed. -/
def Obligations.AttestReports : Prop :=
  (∀ s w n, Writable s w O.secAttestNonce 0 → n ≠ [] → n.length ≤ 32 → s.signed24.length < 64 →
    s.reg O.secLeafNext < 1048576 →
    Runs (.attestNonce w n) s fun t =>
      t.fw.nonces = s.fw.nonces ++ [padBytes 32 n] ∧ t.out.status = 0 ∧ OnlyElems [] s t) ∧
  (∀ s n ns, s.fw.nonces = n :: ns → s.reg O.secLeafNext < 1048576 → (s.reg O.secLeafNext + 1) % 64 ≠ 0 →
    Runs .attestReportDone s fun t =>
      t.reg O.secLeafNext = s.reg O.secLeafNext + 1 ∧ t.fw.nonces = ns ∧ s.tick ∈ t.fw.signed ∧
      t.fw.mirror = (s.reg O.secLeafNext + 1, s.reg O.secReservations) ∧
      t.reg O.secAttestReport =
        ofBytes (s.reportHead n ++ padBytes 5076 (Config.hssSign (s.reg O.secLeafNext) (s.reportHead n))) ∧
      OnlyElems [(O.secLeafNext, 0), (O.secAttestReport, 0)] s t) ∧
  (∀ s n ns, s.fw.nonces = n :: ns → 1048576 ≤ s.reg O.secLeafNext →
    Runs .attestReportDone s fun t => t.fw = { s.fw with nonces := ns } ∧ OnlyElems [] s t) ∧
  (∀ s n ns, s.fw.nonces = n :: ns → s.reg O.secLeafNext < 1048576 → (s.reg O.secLeafNext + 1) % 64 = 0 →
    s.reg O.secReservations < 16384 →
    Runs .attestReportDone s fun t =>
      t.reg O.secReservations = s.reg O.secReservations + 1 ∧ t.reg O.secLeafNext = 64 * s.reg O.secReservations ∧
      t.fw.nonces = ns)

/-- The engines of the Assayer (R415, R418, R419, R421, R425, R427, Table 12-4). -/
def Obligations.AssayerEngines : Prop :=
  (∀ s g x, g < 5 → s.asyRun g = none → s.tests g = true → topTest (s.asyQueue g) = some x →
    Runs (.testStart g) s fun t =>
      t.asyRun g = some { x with phase := 1, fails := [], since := s.tick, bad := false } ∧
      t.asyQueue g = dropTest x (s.asyQueue g)) ∧
  (∀ s x b, s.asyRun 1 = some x → x.res / 2 ^ 44 = 2 → (x.phase = 2 ∨ x.phase = 4) → s.tests 1 = true →
    s.elapsed x.since 768000 = true →
    Runs (.pathTestDone b) s fun t =>
      t.asyRun 1 = some { x with phase := x.phase + 1, fails := x.fails ++ [if x.bad then 1 else 0],
                                 since := s.tick, bad := false } ∧ OnlyElems [] s t) ∧
  (∀ s x b, s.asyRun 1 = some x → x.res / 2 ^ 44 = 2 → s.elapsed x.since 768000 = false →
    Runs (.pathTestDone b) s fun t => t.asy = s.asy ∧ t.regs = s.regs) ∧
  (∀ (s : State) x p, s.auditPort = some (x, p) → x.phase = 1 → s.tests 1 = true → s.elapsed x.since auditTicks = true →
    (∀ e ∈ s.auditRound.fab.wrong, e.1 / 65536 = p → e.2.stuck = true) ∧
    (∀ e, e ∈ s.auditRound.fab.wrong → e ∈ s.fab.wrong) ∧
    ((∀ e ∈ s.fab.wrong, e.1 / 65536 ≠ p) →
      s.auditRound.asyRun 1 = some { x with phase := 2, fails := [], since := s.tick }) ∧
    ((∃ e ∈ s.fab.wrong, e.1 / 65536 = p) → ∃ l, l ≠ [] ∧
      s.auditRound.asyRun 1 = some { x with phase := 4, fails := l, since := s.tick })) ∧
  (∀ s x hits, s.asyRun 1 = some x → (x.res / 2 ^ 44 = 3 ∨ x.res / 2 ^ 44 = 8) → x.phase = 4 → s.tests 1 = true →
    s.elapsed x.since 38880 = true →
    Runs (.mapAuditRecheck hits) s fun t =>
      OnlyElems [] s t ∧ ∃ k, k ≤ 1 ∧ t.asyRun 1 = some { x with phase := 2, fails := [k], bad := true } ∧
        (k = 1 ↔ ∃ e ∈ x.fails, (SMap.find? t.fab.wrong e).isSome = true)) ∧
  (∀ s x b m, s.asyRun 2 = some x → x.res / 2 ^ 44 = 4 → x.host = false → s.recent x.res < 3 → s.tests 2 = true →
    x.kind < 9 → (s.bankTest (x.res % 2 ^ 44 / 65536) (x.res % 2 ^ 44 % 65536) m).2.1 = false →
    Runs (.testComplete 2 b m) s fun t =>
      t.asyRun 2 = none ∧ t.reg O.assayTransients x.kind = (s.reg O.assayTransients x.kind + 1) % 2 ^ 48 ∧
      t.latched 494 = true) ∧
  (∀ s x b m, s.asyRun 2 = some x → x.res / 2 ^ 44 = 4 → x.host = false → x.kind < 9 → s.tests 2 = true →
    (s.bankTest (x.res % 2 ^ 44 / 65536) (x.res % 2 ^ 44 % 65536) m).2.1 = true →
    Runs (.testComplete 2 b m) s fun t =>
      t.asyRun 2 = none ∧ t.reg O.assayLasting x.kind = (s.reg O.assayLasting x.kind + 1) % 2 ^ 48 ∧
      t.latched 495 = true) ∧
  (∀ s b w n, b < 256 → bit (s.reg O.assayEnable) 3 = true → s.sys.fabOn = true → s.reg O.memBankOwner b = 0 →
    s.reg O.memBankState b ≠ 5 → w < 65536 → s.background 2 = true →
    s.underTest (resOf 4 (b * 65536 + w)) = false →
    s.underTest (resOf 5 b) = false → SMap.get 0 s.mem.bankNext b ≤ s.tick →
    (wordTest (eccDec (s.bankCode b w)).d n).2 = false →
    s.mem.bankAt + 1 < (256 - (s.ownerBanks 15).length) * 65552 →
    Runs (.bankWordTest b w n) s fun t =>
      t.mem.bankAt = s.mem.bankAt + 1 ∧ t.asy = s.asy ∧ t.bankCode b w = eccEnc 0 ∧
      SMap.get 0 t.mem.bankNext b = s.tick + (s.reg O.assayBankInterval + 3) / 4 ∧ OnlyRegs [O.tallyOvfCount] s t) ∧
  (∀ s f, bit (s.reg O.assayEnable) 4 = true → s.background 4 = true → s.mem.sramNext ≤ s.tick →
    s.underTest (resOf 7 s.mem.sramAt) = false → flips f = 1 → s.mem.sramAt + 1 < 262144 →
    SMap.get 0 s.mem.sramBad s.mem.sramAt = 0 →
    Runs (.sramPatrolUnit f) s fun t =>
      t.mem.sramAt = s.mem.sramAt + 1 ∧ (∀ a, SMap.get 0 t.mem.sram a = SMap.get 0 s.mem.sram a) ∧
        t.mem.sramNext = s.tick + 512 ∧
      t.reg O.keeperSramCe = (s.reg O.keeperSramCe + 1) % 2 ^ 32 ∧
      t.reg O.assayErrors 1 = (s.reg O.assayErrors 1 + 1) % 2 ^ 48) ∧
  (∀ s w v, Allowed s w O.assayTestReq 0 v → s.resourceThere v = true → s.tokFree 3 (holderOf w) = true →
    s.sys.mode ≠ .dormant → s.sys.mode ≠ .quarantine → s.asyRun (engineOf v) = none → s.asyQueue (engineOf v) = [] →
    Runs (.testReq w v) s fun t =>
      t.reg O.assayTestResult = 1 ∧ t.reg O.maintTokenHolder 3 = holderOf w ∧ t.out.status = 0 ∧
      ∃ x : TestT, t.asyQueue (engineOf v) = [x] ∧ x.res = v ∧ x.host = true)

/-- Tally (R439 to R445): presets, the tagger's settings, the runs of the trace and what enters them. -/
def Obligations.TallyCommands : Prop :=
  (∀ s w i v, Allowed s w O.tallyPreset i v → classCounter i = false →
    Runs (.tallyPreset w i v) s fun t =>
      SMap.get 0 t.tal.count i = v ∧ t.out.status = 0 ∧ (∀ j, j ≠ i →
      SMap.get 0 t.tal.count j = SMap.get 0 s.tal.count j) ∧
      OnlyElems [] s t) ∧
  (∀ s w v, Allowed s w O.tallyTagK 0 v →
    Runs (.tagKWrite w v) s fun t => Stored s t O.tallyTagK 0 v ∧ t.tal = { s.tal with reload := true }) ∧
  (∀ s w v, Allowed s w O.tallyTagSeed 0 v →
    Runs (.tagSeedWrite w v) s fun t => Stored s t O.tallyTagSeed 0 v ∧ t.tal = { s.tal with reload := true }) ∧
  (∀ s w, Allowed s w O.tallyTraceCtrl 0 1 → s.traceRoom ≠ 0 → s.tal.run = false → s.tokFree 6 (holderOf w) = true →
    Runs (.traceStartWrap w) s fun t =>
      t.tal.run = true ∧ t.tal.wrap = true ∧ t.tal.cap = s.traceRoom ∧ t.reg O.tallyTraceState = 1 ∧
      t.reg O.tallyTraceCount = 0 ∧ t.reg O.tallyTraceOldest = 0 ∧ t.reg O.maintTokenHolder 6 = holderOf w ∧
      t.out.status = 0) ∧
  (∀ s w, Allowed s w O.tallyTraceCtrl 0 2 → s.traceRoom ≠ 0 → s.tal.run = false → s.tokFree 6 (holderOf w) = true →
    Runs (.traceStartStop w) s fun t =>
      t.tal.run = true ∧ t.tal.wrap = false ∧ t.tal.cap = s.traceRoom ∧ t.reg O.tallyTraceState = 1 ∧
      t.reg O.tallyTraceCount = 0 ∧ t.reg O.tallyTraceOldest = 0 ∧ t.reg O.maintTokenHolder 6 = holderOf w ∧
      t.out.status = 0) ∧
  (∀ s w, Allowed s w O.tallyTraceCtrl 0 3 → s.tal.run = true →
    Runs (.traceEnd w) s fun t =>
      t.tal = { s.tal with ending := true } ∧ t.out.status = 0 ∧ OnlyElems [] s t) ∧
  (∀ s x tag rx sps ets ser, (s.tal.flights.find? fun y => y.tag == tag) = some x → x.dst ≠ 0xFFFFFF → ser < 65535 →
    s.elapsed x.tick ser = true → s.tal.run = true → s.tal.waiting.length < 64 →
    Runs (.traceRecord tag rx sps ets ser) s fun t =>
      t.tal.waiting = s.tal.waiting ++ [s.traceRec x rx sps ets ser] ∧
      t.tal.flights = s.tal.flights.filter (fun y => y.tag != tag) ∧ OnlyElems [] s t) ∧
  (∀ s x tag rx sps ets ser, (s.tal.flights.find? fun y => y.tag == tag) = some x → (x.dst = 0xFFFFFF ∨ 65535 ≤ ser) →
    s.elapsed x.tick 65535 = true → s.tal.run = true → s.tal.waiting.length < 64 →
    Runs (.traceRecord tag rx sps ets ser) s fun t =>
      t.tal.waiting = s.tal.waiting ++ [s.traceRec x rx sps ets 0xFFFF] ∧
      t.tal.flights = s.tal.flights.filter (fun y => y.tag != tag) ∧ OnlyElems [] s t) ∧
  (∀ s x tag rx sps ets ser, (s.tal.flights.find? fun y => y.tag == tag) = some x → s.elapsed x.tick 65535 = true →
    s.tal.run = true → 64 ≤ s.tal.waiting.length → s.tal.on = true → SMap.get 0 s.tal.count 8 + 1 < 2 ^ 48 →
    Runs (.traceRecord tag rx sps ets ser) s fun t =>
      SMap.get 0 t.tal.count 8 = SMap.get 0 s.tal.count 8 + 1 ∧ t.tal.waiting = s.tal.waiting ∧
      t.tal.flights = s.tal.flights.filter (fun y => y.tag != tag) ∧ OnlyRegs [O.tallyOvfCount] s t) ∧
  (∀ (s : State) tag rx sps ets ser x, (s.tal.flights.find? fun y => y.tag == tag) = some x → s.elapsed x.tick 65535
    = false →
    (x.dst = 0xFFFFFF ∨ 65535 ≤ ser ∨ s.elapsed x.tick ser = false) →
    Runs (.traceRecord tag rx sps ets ser) s fun t => t.tal = s.tal ∧ OnlyElems [] s t) ∧
  (∀ (s u : State) r, s.tracePut (s.reg O.tallyTraceCount % s.tal.cap) r = (u, true) → s.tal.wrap = true →
    (s.traceAppend r).reg O.tallyTraceCount = (s.reg O.tallyTraceCount + 1) % 2 ^ 48 ∧
    (s.traceAppend r).mem = u.mem ∧ (s.traceAppend r).reg O.tallyTraceOldest =
      if s.tal.cap ≤ s.reg O.tallyTraceCount then (s.reg O.tallyTraceCount + 1) % s.tal.cap
      else s.reg O.tallyTraceOldest) ∧
  (∀ (s u : State) r, s.tracePut (s.reg O.tallyTraceCount % s.tal.cap) r = (u, true) → s.tal.wrap = false →
    s.tal.run = true → s.reg O.tallyTraceCount + 1 = s.tal.cap →
    (s.traceAppend r).reg O.tallyTraceCount = (s.reg O.tallyTraceCount + 1) % 2 ^ 48 ∧
    (s.traceAppend r).mem = u.mem ∧ (s.traceAppend r).reg O.tallyTraceState = 2 ∧ (s.traceAppend r).tal.run = false)

/-- The inputs of the Horologer and its selection (R268 to R280, Tables 7-1 and 7-5). An input whose accepted ORIGIN
is the device's own goes on into LOOP (R269), so that REF inputs are taken without an accepted quality level. -/
def Obligations.ReferenceInputs : Prop :=
  (∀ s w v, Allowed s w O.refEnable 0 v →
    Runs (.refEnableWrite w v) s fun t =>
      t.reg O.refEnable = v ∧ t.out.status = 0 ∧
      (∀ i < 13, bit v i = false → t.inState i = 0) ∧
      (∀ i < 13, bit v i = true → s.inState i ≠ 0 → t.inState i = s.inState i) ∧
      (∀ i < 13, bit v i = true → s.inState i = 0 → t.inState i =
        if i < 8 ∧ s.lossNow i = false ∧ (s.linkP (s.refPortOf i)).ql.acc = true ∧
          s.reg O.portRxQl (s.refPortOf i) % 2 ^ 32 = s.reg O.identDevid % 2 ^ 32 then 6 else 2) ∧
      OnlyRegs [O.refEnable, O.refInputState, O.refTied, O.timeGridResidual, O.ledgerJournalSeq] s t) ∧
  (∀ s i, i < 13 → s.inState i ≠ 0 → s.lossNow i = true →
    Runs (.inputLoss i) s fun t =>
      t.inState i = 1 ∧ (s.inState i ≠ 1 → s.sys.fabOn = true → t.latched 418 = true) ∧
      OnlyElems [(O.refInputState, i), (O.refTied, 0), (O.timeGridResidual, 0)] s t) ∧
  (∀ s i, i < 13 → s.inState i = 1 → (i = 8 ∨ i = 9 ∨ s.lossNow i = false) →
    (8 ≤ i ∨ (s.linkP (s.refPortOf i)).ql.acc = false) →
    Runs (.inputLossCleared i) s fun t =>
      t.inState i = 2 ∧ OnlyElems [(O.refInputState, i), (O.refTied, 0), (O.timeGridResidual, 0)] s t) ∧
  (∀ s i y, i < 13 → s.inState i ≠ 0 → s.elapsed (s.input i).mAt (measureTicks i) = true →
    Runs (.offsetMeasure i y) s fun t =>
      (t.input i).y = y ∧ (t.input i).meas = true ∧
      t.reg O.refInputOffset i = u48 (y - 
        (s.setInput i { s.input i with y := y, meas := true, mAt := s.tick }).consensus) ∧
      OnlyRegs [O.refInputOffset, O.refInputState, O.refTied, O.timeGridResidual] s t) ∧
  (∀ s i, i < 13 → s.inState i = 2 → s.inWindow i = true →
    s.elapsed (s.input i).t0 (secTicks (s.reg O.refQualTime i)) = true →
    (8 ≤ i ∨ (s.linkP (s.refPortOf i)).ql.acc = false) →
    Runs (.qualificationTimeExpiry i) s fun t =>
      t.inState i = (if (s.input i).ever then 5 else 3) ∧
      OnlyElems [(O.refInputState, i), (O.refTied, 0), (O.timeGridResidual, 0)] s t) ∧
  (∀ s i, i < 13 → s.inState i = 3 →
    (((s.input i).bad ≠ 0 ∧ s.elapsed ((s.input i).bad - 1) (secTicks (s.reg O.refQualTime i)) = true) ∨
      ((s.input i).dfb ≠ 0 ∧ s.elapsed ((s.input i).dfb - 1) (secTicks (s.reg O.refQualTime i)) = true)) →
    (8 ≤ i ∨ (s.linkP (s.refPortOf i)).ql.acc = false) →
    Runs (.qualificationTimeExpiry i) s fun t =>
      t.inState i = 4 ∧ OnlyElems [(O.refInputState, i), (O.refTied, 0), (O.timeGridResidual, 0)] s t) ∧
  (∀ s i, i < 13 → s.inState i = 5 → s.elapsed (s.input i).t0 (secTicks (s.reg O.refWtr)) = true →
    (8 ≤ i ∨ (s.linkP (s.refPortOf i)).ql.acc = false) →
    Runs (.waitRestoreExpiry i) s fun t =>
      t.inState i = 3 ∧ (s.sys.fabOn = true → t.latched 419 = true) ∧
      OnlyElems [(O.refInputState, i), (O.refTied, 0), (O.timeGridResidual, 0)] s t) ∧
  (∀ s b, s.bestInput = some b → b ≠ s.selected → (s.refState ≠ 1 ∨ 13 ≤ s.selected ∨ s.inState s.selected ≠ 3) →
    Runs .selectionEval s fun t =>
      t.selected = b ∧ t.refState = 1 ∧ t.ref.sw = s.tick ∧ (s.sys.fabOn = true → t.latched 416 = true)) ∧
  (∀ s, s.bestInput = none → s.selected ≠ 255 →
    Runs .selectionEval s fun t => t.selected = 255 ∧ t.refState = 0 ∧ t.ref.freeDue = true) ∧
  (∀ s, s.refState = 1 → s.selected < 13 → s.ref.win ≠ 0 →
    s.elapsed (s.ref.win - 1) (settleTicks s.selected) = true → s.elapsed s.ref.sw (settleTicks s.selected) = true →
    Runs .switchSettled s fun t =>
      t.refState = 2 ∧ t.selected = s.selected ∧ (s.sys.fabOn = true → t.latched 417 = true)) ∧
  (∀ s, s.selected < 13 → s.ref.clamp ≠ 0 → s.inState s.selected = 3 →
    s.elapsed (s.ref.clamp - 1) (secTicks (s.reg O.refQualTime s.selected)) = true →
    Runs .dcoClampTimeout s fun t =>
      t.inState s.selected = 4 ∧ OnlyElems [(O.refInputState, s.selected), (O.refTied, 0), (O.timeGridResidual, 0)] s t)

/-- The tie to network time, phase steps, alignment and local time (R284, R288, R290, R292, R297 to R301). -/
def Obligations.TimeCommands : Prop :=
  (∀ s, s.ref.tieDue = true → s.selected < 13 →
    Runs .fsnStep s fun t =>
      t.clk = { s.clk with fsn := add48 s.clk.fsn (s.input s.selected).dF } ∧ t.ref.tieDue = false ∧
      t.reg O.refFsnStep = u48 (s.input s.selected).dF ∧ t.reg O.timeGridResidual = 0 ∧
      t.tim.lt = (t.clk.fsn * frameU + s.reg O.refFrameOffset) * 65536 ∧ t.tim.ltTick = s.clk.base) ∧
  (∀ s w v, Allowed s w O.refPhaseStep 0 v → s.tokFree 5 (holderOf w) = true → s.reg O.refTied = 0 →
    Runs (.phaseStepWrite w v) s fun t =>
      t.reg O.refPhaseAdj = u48 (i48 (s.reg O.refPhaseAdj) + i48 v) ∧ t.out.status = 0 ∧ t.tim = s.tim ∧
      (s.selected ≠ 255 → s.ref.stepTok = false → t.ref.stepTok = true ∧ t.reg O.maintTokenHolder 5 = holderOf w)) ∧
  (∀ s w v, Allowed s w O.refFrameOffset 0 v →
    Runs (.frameOffsetWrite w v) s fun t =>
      t.reg O.refFrameOffset = v ∧ t.reg O.refTied = 0 ∧ t.out.status = 0 ∧
      OnlyRegs [O.refFrameOffset, O.refTied, O.timeGridResidual, O.ledgerJournalSeq] s t) ∧
  (∀ s w v, Allowed s w O.refRetime 0 v → s.tokFree 5 (holderOf w) = true → s.reg O.refTied = 1 →
    Runs (.retime w v) s fun t =>
      t.reg O.refTied = 0 ∧ t.ref.keep = false ∧ t.out.status = 0 ∧ (s.sys.fabOn = true → t.latched 423 = true)) ∧
  (∀ s w v, Allowed s w O.refAlignReq 0 v → s.tokFree 5 (holderOf w) = true → s.reg O.refTied = 0 →
    s.ref.align = false →
    Runs (.alignReq w v) s fun t =>
      t.ref.align = true ∧ t.ref.alignTick = s.tick ∧ t.reg O.maintTokenHolder 5 = holderOf w ∧ t.out.status = 0) ∧
  (∀ s late, s.reg O.refAlignSrc ≠ 0 → s.ref.align = true → s.reg O.refTied = 0 →
    Runs (.alignEdge late) s fun t =>
      t.reg O.refAlignErr = u48 (s.alignErr late) ∧ t.ref.align = false ∧
      t.reg O.refPhaseAdj = u48 (i48 (s.reg O.refPhaseAdj) + s.alignErr late) ∧
      (s.sys.fabOn = true → t.latched 424 = true)) ∧
  (∀ s late, s.reg O.refAlignSrc ≠ 0 → s.ref.align = false →
    Runs (.alignEdge late) s fun t =>
      t.reg O.refAlignErr = u48 (s.alignErr late) ∧ OnlyElems [(O.refAlignErr, 0)] s t) ∧
  (∀ (s : State) late, ∃ k : Int, s.alignErr late =
      rootTime (96 * 32 * s.clk.round) - late + i48 (s.reg O.refAlignOffset) +
        (if s.reg O.refAlignSrc = 2 then ((s.clk.fsn % 8000 : Nat) : Int) * frameU + k * secU else k * frameU) ∧
      2 * (s.alignErr late).natAbs ≤ (if s.reg O.refAlignSrc = 2 then secU else frameU)) ∧
  (∀ s, s.ref.align = true → s.elapsed s.ref.alignTick (msTicks 1500) = true →
    Runs .alignTimeout s fun t =>
      t.ref.align = false ∧ t.reg O.refPhaseAdj = s.reg O.refPhaseAdj ∧ (s.sys.fabOn = true → t.latched 424 = true)) ∧
  (∀ s src tod late, src < 3 → s.reg O.refPpsSrc = src → s.inState 10 ≠ 0 →
    Runs (.ppsEdge src tod late) s fun t =>
      (t.input 10).have_ = true ∧ (t.input 10).at_ = s.tick ∧
      (t.input 10).tod = (if src = 0 then s.ref.todNext else tod) ∧ (src = 0 → t.ref.todNext = none)) ∧
  (∀ s w v, Allowed s w O.timePtpOffset 0 v → s.inState 11 ≠ 0 →
    Runs (.ptpOffsetWrite w v) s fun t =>
      (t.input 11).have_ = true ∧ (t.input 11).at_ = s.tick ∧ (t.input 11).raw = i48 v - i48 (s.reg O.refComp 11) ∧
      t.out.status = 0) ∧
  (∀ s w v, Allowed s w O.timeSet 0 v → s.tokFree 5 (holderOf w) = true → s.reg O.refTied = 0 →
    Runs (.timeSet w v) s fun t =>
      t.tim.lt = ofTime v * 65536 ∧ t.tim.ltTick = s.tick ∧ t.tim.inc = s.tim.inc ∧ t.out.status = 0 ∧
      (s.sys.fabOn = true → t.latched 431 = true)) ∧
  (∀ s w v, Allowed s w O.timeStep 0 v → s.tokFree 5 (holderOf w) = true → s.reg O.refTied = 0 →
    Runs (.timeStep w v) s fun t =>
      t.tim.lt = ((s.lt : Int) + i48 v * 65536).toNat ∧ t.tim.ltTick = s.tick ∧ t.out.status = 0 ∧
      (s.sys.fabOn = true → t.latched 431 = true)) ∧
  (∀ s w v, Allowed s w O.timeCapture 0 v →
    Runs (.timeCapture w v) s fun t =>
      t.reg O.timeCapturedTime = s.nowTime ∧ t.reg O.timeCapturedFsn = s.clk.fsn ∧ t.out.status = 0 ∧
      OnlyElems [(O.timeCapturedTime, 0), (O.timeCapturedFsn, 0)] s t) ∧
  (∀ s w v, Allowed s w O.timeServoSrc 0 v → v ≠ 0 → s.reg O.timeServoSrc ≠ 0 →
    Runs (.servoSrcWrite w v) s fun t =>
      Stored s t O.timeServoSrc 0 v ∧
      t.tim = { s.tim with run := s.tim.run && (s.reg O.refTied == 1 || !t.servoHeld) }) ∧
  (∀ s w v, Allowed s w O.timeServoSrc 0 v → v ≠ 0 → s.reg O.timeServoSrc = 0 →
    Runs (.servoSrcWrite w v) s fun t =>
      Stored s t O.timeServoSrc 0 v ∧ t.tim.started = false ∧ t.tim.run = false ∧ t.lt = s.lt ∧
      t.tim.inc = s.tim.inc) ∧
  (∀ s w, Allowed s w O.timeServoSrc 0 0 →
    Runs (.servoSrcWrite w 0) s fun t =>
      t.reg O.timeServoSrc = 0 ∧ t.reg O.timeServoFreq = 0 ∧ t.tim.inc = TimS.init.inc ∧ t.lt = s.lt ∧
      t.out.status = 0)

/-- Time interfaces and launches (R307 to R319, Tables 8-4 and 8-5). -/
def Obligations.Launches : Prop :=
  (∀ s k, k < 2 → s.portUp k = false → s.reg O.hdpPortMode k ≠ 0 →
    Runs (.timePortLinkUp k) s fun t => t.portUp k = true ∧ OnlyElems [] s t) ∧
  (∀ s k, k < 2 → s.portUp k = true →
    Runs (.timePortLinkDown k) s fun t =>
      t.portUp k = false ∧ (∀ x ∈ t.tim.held, x.1 ≠ k) ∧ OnlyElems [] s t) ∧
  (∀ s k f c, k < 2 → s.portUp k = true → fcsOk f = true → s.reg O.timeTcEn = 0 → s.tim.tcRun = false →
    fld f 12 2 ≠ s.reg O.refPpsEtype →
    Runs (.timePortFrameRx k f c) s fun t =>
      t.out.sent = [.keeper (96 + k) f (s.rxStamp (96 + k) (s.rxRoot (96 + k) c))] ∧ OnlyElems [] s t) ∧
  (∀ s k f c, k < 2 → s.portUp k = true → fcsOk f = false → s.reg O.timeTcEn = 1 →
    Runs (.timePortFrameRx k f c) s fun t =>
      t.reg O.timeTcStats 5 = (s.reg O.timeTcStats 5 + 1) % 2 ^ 48 ∧ t.out.sent = [] ∧
      OnlyElems [(O.timeTcStats, 5)] s t) ∧
  (∀ s k x c, k < 2 → (s.tim.queue.find? fun y => y.iface == 96 + k) = some x → s.portUp k = true →
    s.portFree k c = true → PortFree s k →
    Runs (.timePortSend k c) s fun t =>
      t.tim.queue = s.tim.queue.erase x ∧ t.out.sent = [.eth (96 + k) (tcOut x (s.txRoot (96 + k) c))] ∧
      t.reg O.timeTcStats 0 = (s.reg O.timeTcStats 0 + 1) % 2 ^ 48) ∧
  (∀ s k x c, k < 2 → (s.tim.held.find? fun y => y.1 == k) = some x → s.portUp k = true → s.portFree k c = true →
    (∀ l ∈ s.tim.launches, l.iface ≠ 96 + k) →
    Runs (.timePortSend k c) s fun t =>
      t.out.sent = [x.2.2] ∧ t.tim.held = s.tim.held.erase x ∧ t.tim.queue = s.tim.queue ∧ OnlyElems [] s t) ∧
  (∀ s w r, Writable s w O.timeLaunch 0 → r.length = 20 + fld r 2 2 → s.tim.launches.length < 64 → 60 ≤ fld r 2 2 →
    fld r 2 2 ≤ (if fld r 0 1 < 96 then 566 else 1518) → s.now + 250000 * 65536 ≤ ofTime (fld r 4 12) →
    fld r 1 1 < 2 → fld r 0 1 < 98 → fld r 10 4 < 1000000000 →
    Runs (.launch w r) s fun t =>
      t.out.status = 0 ∧ OnlyElems [] s t ∧ ∃ l : LaunchR, t.tim.launches = s.tim.launches ++ [l] ∧
        l.tag = fld r 16 4 ∧ l.iface = fld r 0 1 ∧ l.insert = (fld r 1 1 == 1) ∧ l.at_ = ofTime (fld r 4 12) ∧
        l.frame = r.drop 20) ∧
  (∀ s tag c l, (s.tim.launches.find? fun l => l.tag == tag && s.launchReady c l) = some l →
    Runs (.launchDue tag c) s fun t =>
      t.out.sent = [.eth l.iface (launchOut l (s.txStamp l.iface (if l.iface < 96 then s.frameRoot else c)))] ∧
      t.tim.launches = s.tim.launches.erase l ∧ OnlyRegs [O.tallyOvfCount] s t) ∧
  (∀ s tag l, (s.tim.launches.find? fun l => l.tag == tag && decide (l.at_ + secU ≤ s.now)) = some l →
    Runs (.launchDiscard tag) s fun t =>
      t.tim.launches = s.tim.launches.erase l ∧ t.out.sent = [] ∧ (s.sys.fabOn = true → t.latched 428 = true) ∧
      OnlyRegs [O.tallyOvfCount] s t) ∧
  (∀ s w v, Allowed s w O.timeLaunchFlush 0 v →
    Runs (.launchFlush w v) s fun t =>
      (∀ l, l ∈ t.tim.launches ↔ l ∈ s.tim.launches ∧ l.iface ≠ v) ∧ t.out.status = 0 ∧
      OnlyRegs [O.tallyOvfCount] s t) ∧
  (∀ s, bit (s.reg O.ledgerCutMode) 2 = true → 
    (ofTime (s.reg O.timeCutTime) : Int) ≤ s.localAt (rootTime s.frameRoot) →
    s.reg O.timeCutInterval = 0 → s.cutCheck 0xFE = 0 →
    Runs .timeTriggeredCut s fun t =>
      t.led.cutting = true ∧ bit (t.reg O.ledgerCutMode) 2 = false ∧ (s.sys.fabOn = true → t.latched 430 = true))

/-- Banks (R325, R329, R331, R339, Table 9-8): changes of owner, the clear at power-up, the write-back of a corrected
word. -/
def Obligations.BankCommands : Prop :=
  (∀ s w b v, Allowed s w O.memBankOwner b v → s.sys.fabOn = true → s.reg O.memBankOwner b ≠ 15 →
    s.reg O.memBankState b ≠ 5 → (bankOwnerOp (holderOf w) b v s).2 = 0 →
    Runs (.bankOwnerWrite w b v) s fun t =>
      t.reg O.memBankTarget b = v % 16 ∧ t.reg O.memBankOwner b = s.reg O.memBankOwner b ∧
      t.reg O.memBankState b = (if 1 ≤ s.reg O.memBankOwner b ∧ s.reg O.memBankOwner b ≤ 3 ∧ s.sys.mode.commits = true
        then 1 else 2) ∧
      t.mem.scrub.contains b = bit v 7 ∧ t.out.status = 0) ∧
  (∀ s w b v, Allowed s w O.memBankOwner b v → (s.sys.fabOn = false ∨ s.reg O.memBankState b = 5) →
    (bankOwnerOp (holderOf w) b v s).2 = 0 →
    Runs (.bankOwnerWrite w b v) s fun t =>
      t.reg O.memBankOwner b = v % 16 ∧ t.reg O.memBankState b = s.reg O.memBankState b ∧
      t.reg O.memBankTarget b = s.reg O.memBankTarget b ∧ t.out.status = 0) ∧
  (∀ s w b v, Allowed s w O.memBankOwner b v → s.sys.fabOn = true → s.reg O.memBankOwner b = 15 → v % 16 = 0 →
    s.reg O.memBankState b ≠ 5 → (bankOwnerOp (holderOf w) b v s).2 = 0 →
    Runs (.bankOwnerWrite w b v) s fun t =>
      t.reg O.memBankOwner b = 0 ∧ t.reg O.memBankState b = 0 ∧ t.reg O.memBankFenced b = 0 ∧
      (∀ x < 65552, SMap.get 0 t.mem.bank (b * 65552 + x) = 0) ∧
      (∀ x < 65536, SMap.get 0 t.mem.fence (b * 65536 + x) = 0) ∧ t.latched 452 = true ∧ t.out.status = 0) ∧
  (∀ s b, b < 256 → s.reg O.memBankState b = 2 → s.mem.scrub.contains b = true →
    Runs (.handoverDrainDone b) s fun t => t.reg O.memBankState b = 3 ∧ OnlyElems [(O.memBankState, b)] s t) ∧
  (∀ s b, b < 256 → s.reg O.memBankState b = 2 → s.mem.scrub.contains b = false → s.reg O.memBankTarget b ≠ 15 →
    Runs (.handoverDrainDone b) s fun t =>
      t.reg O.memBankOwner b = s.reg O.memBankTarget b ∧ t.reg O.memBankState b = 0 ∧ t.mem.bank = s.mem.bank ∧
      (s.sys.fabOn = true → t.latched 452 = true) ∧
      OnlyElems [(O.memBankOwner, b), (O.memBankTarget, b), (O.memBankState, b)] s t) ∧
  (∀ s b i, b < 256 → s.reg O.memBankState b = 2 → s.mem.scrub.contains b = false → s.reg O.memBankTarget b = 15 →
    s.reg O.memBankOwner b ≠ 6 → s.fenceFree = some i →
    Runs (.handoverDrainDone b) s fun t =>
      t.reg O.memBankOwner b = 15 ∧ t.reg O.memBankState b = 4 ∧ t.reg O.memFenceList i = 2 ^ 24 + b * 2 ^ 16 ∧
      (s.sys.fabOn = true → t.latched 452 = true) ∧
      OnlyElems [(O.memBankOwner, b), (O.memBankTarget, b), (O.memBankState, b), (O.memFenceList, i)] s t) ∧
  (∀ s b, b < 256 → s.reg O.memBankState b = 3 → s.reg O.memBankTarget b ≠ 15 →
    Runs (.handoverScrubDone b) s fun t =>
      t.reg O.memBankOwner b = s.reg O.memBankTarget b ∧ t.reg O.memBankState b = 0 ∧
      (∀ x < 65552, SMap.get 0 t.mem.bank (b * 65552 + x) = 0) ∧
      (∀ x, (x < b * 65552 ∨ (b + 1) * 65552 ≤ x) → SMap.get 0 t.mem.bank x = SMap.get 0 s.mem.bank x) ∧
      (s.sys.fabOn = true → t.latched 452 = true) ∧
      OnlyElems [(O.memBankOwner, b), (O.memBankTarget, b), (O.memBankState, b)] s t) ∧
  (∀ s, s.sys.fabOn = true → s.sys.banksClear = false →
    Runs .bankClearDone s fun t =>
      t.sys.banksClear = true ∧ t.mem.bank = [] ∧
      (∀ b < 256, t.reg O.memBankState b = if t.reg O.memBankOwner b = 15 then 4 else 0)) ∧
  (∀ s b w, b < 256 → (b, w) ∈ s.mem.back →
    Runs (.eccWriteBack b w) s fun t =>
      t.bankCode b w = eccEnc ((eccDec (s.bankCode b w)).d % 2 ^ 48) ∧ (b, w) ∉ t.mem.back ∧
      OnlyRegs [O.tallyOvfCount] s t)

/-- DDR4 (R342, R345 to R348): training, the zero-fill, long skew, the patrol and the retraining of a channel. -/
def Obligations.DdrCommands : Prop :=
  (∀ s gib l, s.sys.fabOn = true → s.reg O.memDdrState = 1 → (gib = 8 ∨ gib = 16 ∨ gib = 32 ∨ gib = 64) →
    Runs (.ddrTrainingDone gib l) s fun t =>
      t.reg O.memDdrSize = gib ∧ t.reg O.memDdrFillLeft = gib * 1024 ∧
      (∀ c < 4, t.reg O.memDdrChState c = if c ∈ l then 4 else 2) ∧
      t.reg O.memDdrState = (if l.any fun c => decide (c < 4) then 4 else 2) ∧ t.mem.filling = true) ∧
  (∀ s, s.mem.filling = true → s.reg O.memDdrState ≠ 0 → (∀ c < 4, s.reg O.memDdrChState c = 2) →
    Runs .ddrFillDone s fun t =>
      t.reg O.memDdrState = 3 ∧ t.reg O.memDdrFillLeft = 0 ∧ t.mem.ddr = [] ∧ t.mem.filling = false ∧
      (s.sys.fabOn = true → t.latched 457 = true)) ∧
  (∀ s w, Allowed s w O.memDdrLsEn 0 1 →
    Runs (.ddrLsEnWrite w 1) s fun t =>
      t.reg O.memDdrLsEn = 1 ∧ t.out.status = 0 ∧ t.reg O.memDdrLsState =
        if s.reg O.memDdrState = 0 then 0 else if s.reg O.memDdrState = 3 ∨ s.reg O.memDdrLsState = 2 then 2 else 1) ∧
  (∀ s w, Allowed s w O.memDdrLsEn 0 0 → s.ddrUnits = 0 →
    Runs (.ddrLsEnWrite w 0) s fun t => t.reg O.memDdrLsEn = 0 ∧ t.reg O.memDdrLsState = 0 ∧ t.out.status = 0) ∧
  (∀ s w b v, Allowed s w (if b then O.memDdrTraceSize else O.memDdrLsSize) 0 v → s.tokFree 4 (holderOf w) = true →
    s.reg O.memDdrLsState = 0 → s.tal.run = false →
    Runs (.ddrRegionSizeWrite w b v) s fun t => Stored s t (if b then O.memDdrTraceSize else O.memDdrLsSize) 0 v) ∧
  (∀ s f, s.sys.fabOn = true → s.background 3 = true → s.mem.filling = false → 3 ≤ s.reg O.memDdrState → flips f = 0 →
    SMap.get 0 s.mem.ddrBad (s.mem.patrol / 8) = 0 →
    s.mem.patrol + 8 < s.reg O.memDdrSize * 2 ^ 30 → s.mem.patrolNext ≤ s.tick →
    Runs (.patrolBeat f) s fun t =>
      t.mem.patrol = s.mem.patrol + 8 ∧ t.mem.ddr = s.mem.ddr ∧ OnlyRegs [O.tallyOvfCount] s t) ∧
  (∀ s f, s.sys.fabOn = true → s.background 3 = true → s.mem.filling = false → 3 ≤ s.reg O.memDdrState → flips f = 0 →
    SMap.get 0 s.mem.ddrBad (s.mem.patrol / 8) = 0 →
    s.reg O.memDdrSize * 2 ^ 30 ≤ s.mem.patrol + 8 → 0 < s.reg O.memDdrSize → s.mem.patrolNext ≤ s.tick →
    Runs (.patrolBeat f) s fun t =>
      t.mem.patrol = 0 ∧ t.mem.ddr = s.mem.ddr ∧ t.latched 458 = true ∧
      t.reg O.memDdrScrubPasses = (s.reg O.memDdrScrubPasses + 1) % 2 ^ 32 ∧
      OnlyRegs [O.tallyOvfCount, O.memDdrScrubPasses] s t) ∧
  (∀ s f, s.sys.fabOn = true → s.background 3 = true → s.mem.filling = false → 3 ≤ s.reg O.memDdrState → 2 ≤ flips f →
    SMap.get 0 s.mem.ddrBad (s.mem.patrol / 8) = 0 →
    s.mem.patrol + 8 < s.reg O.memDdrSize * 2 ^ 30 → s.reg O.memDdrChState (s.mem.patrol / 256 % 4) = 2 →
    s.mem.patrolNext ≤ s.tick → s.underTest (resOf 6 (s.mem.patrol / 8)) = false →
    Runs (.patrolBeat f) s fun t =>
      t.mem.patrol = s.mem.patrol + 8 ∧ t.mem.ddr = disturb 0 s.mem.ddr s.mem.patrol f ∧
      SMap.get 0 t.mem.ddrBad (s.mem.patrol / 8) = f % 2 ^ 72 ∧ t.latched 455 = true ∧
      t.reg O.memDdrUe (s.mem.patrol / 256 % 4) = (s.reg O.memDdrUe (s.mem.patrol / 256 % 4) + 1) % 2 ^ 32) ∧
  (∀ s f, s.sys.fabOn = true → s.background 3 = true → s.mem.filling = false → 3 ≤ s.reg O.memDdrState → flips f = 1 →
    SMap.get 0 s.mem.ddrBad (s.mem.patrol / 8) = 0 →
    s.mem.patrol + 8 < s.reg O.memDdrSize * 2 ^ 30 → s.reg O.memDdrChState (s.mem.patrol / 256 % 4) = 2 →
    s.mem.patrolNext ≤ s.tick → s.underTest (resOf 6 (s.mem.patrol / 8)) = false →
    Runs (.patrolBeat f) s fun t =>
      t.mem.patrol = s.mem.patrol + 8 ∧ (∀ a, SMap.get 0 t.mem.ddr a = SMap.get 0 s.mem.ddr a) ∧
      t.reg O.memDdrCe (s.mem.patrol / 256 % 4) = (s.reg O.memDdrCe (s.mem.patrol / 256 % 4) + 1) % 2 ^ 32) ∧
  (∀ s c, c < 4 → s.reg O.memDdrChState c = 2 →
    Runs (.ddrAlert c false) s fun t =>
      t.reg O.memDdrChState c = 3 ∧ SMap.get 0 t.mem.tries c = 0 ∧ (s.sys.fabOn = true → t.latched 456 = true)) ∧
  (∀ s c, c < 4 → s.reg O.memDdrChState c = 3 →
    Runs (.retrainAttemptDone c true) s fun t => t.reg O.memDdrChState c = 2) ∧
  (∀ s c, c < 4 → s.reg O.memDdrChState c = 3 →
    Runs (.retrainAttemptDone c false) s fun t =>
      t.reg O.memDdrChState c = (if 2 ≤ SMap.get 0 s.mem.tries c then 4 else 3) ∧
      SMap.get 0 t.mem.tries c = SMap.get 0 s.mem.tries c + 1) ∧
  (∀ s w c, Allowed s w O.memDdrRetrain 0 c → s.tokFree 4 (holderOf w) = true →
    (s.reg O.memDdrChState c = 2 ∨ s.reg O.memDdrChState c = 4) →
    Runs (.ddrRetrain w c) s fun t =>
      t.reg O.memDdrChState c = 3 ∧ t.reg O.maintTokenHolder 4 = holderOf w ∧ t.out.status = 0)

/-- The logs that a read returns and clears (R325, R372, R428, R444, Table 8-5). -/
def Obligations.LogReads : Prop :=
  (∀ s w i n, LogRead (.eccLogRead w i n) s w O.memEccLog 16 6 i n fun s => s.mem.ecc) ∧
  (∀ s w i n, LogRead (.errLogRead w i n) s w O.matrixErrLog 16 6 i n fun s => s.mtx.errs) ∧
  (∀ s w i n, LogRead (.assayLogRead w i n) s w O.assayLog 64 16 i n fun s => s.asy.log) ∧
  (∀ s w i n, LogRead (.samplesRead w i n) s w O.tallySamples 64 32 i n fun s => s.tal.samples) ∧
  (∀ s w i n, LogRead (.launchDoneRead w i n) s w O.timeLaunchDone 64 18 i n fun s => s.tim.done)

/-- Transactions of the matrix (R356, R360, R365, R368, R371): issue by a master that runs, grant, response and
timeout, where the matrix itself has refused none that still waits; a form that R356 does not allow is refused, and a
master in reset issues nothing. -/
def Obligations.MatrixTransactions : Prop :=
  (∀ s m id a n f g, m < 8 → (s.reg O.matrixMasterState m = 0 ∨ s.reg O.matrixMasterState m = 2) →
    goodForm (a % 2 ^ 40) n = true → (∀ x ∈ s.mtx.txns, x.target ≠ 8) →
    Runs (.matrixRead m id a n ⟨f, g⟩) s fun t =>
      t.out.sent = [] ∧ t.reg O.matrixMasterState m = 0 ∧ OnlyElems [(O.matrixHeld, m), (O.matrixMasterState, m)] s t ∧
      ∃ x : Txn, t.mtx.txns.map Txn.core = s.mtx.txns.map Txn.core ++ [x] ∧ x.master = m ∧ x.id = id % 16 ∧
        x.kind = 0 ∧ x.addr = a % 2 ^ 40 ∧
        x.len = n ∧ x.fetch = (g && decide (m ≤ 1)) ∧ x.granted = false ∧ x.due = false) ∧
  (∀ s m id a d, m < 8 → (s.reg O.matrixMasterState m = 0 ∨ s.reg O.matrixMasterState m = 2) →
    goodForm (a % 2 ^ 40) d.length = true → (∀ x ∈ s.mtx.txns, x.target ≠ 8) →
    Runs (.matrixWrite m id a d) s fun t =>
      t.out.sent = [] ∧ t.reg O.matrixMasterState m = 0 ∧ OnlyElems [(O.matrixHeld, m), (O.matrixMasterState, m)] s t ∧
      ∃ x : Txn, t.mtx.txns.map Txn.core = s.mtx.txns.map Txn.core ++ [x] ∧ x.master = m ∧ x.id = id % 16 ∧
        x.kind = 1 ∧ x.addr = a % 2 ^ 40 ∧
        x.data = d ∧ x.granted = false ∧ x.due = false) ∧
  (∀ s m id a v, m < 8 → (s.reg O.matrixMasterState m = 0 ∨ s.reg O.matrixMasterState m = 2) →
    goodForm (a % 2 ^ 40) v.len = true → (∀ x ∈ s.mtx.txns, x.target ≠ 8) →
    Runs (.addWrap m id a v) s fun t =>
      t.out.sent = [] ∧ t.reg O.matrixMasterState m = 0 ∧ OnlyElems [(O.matrixHeld, m), (O.matrixMasterState, m)] s t ∧
      ∃ x : Txn, t.mtx.txns.map Txn.core = s.mtx.txns.map Txn.core ++ [x] ∧ x.master = m ∧ x.id = id % 16 ∧
        x.kind = 2 ∧ x.addr = a % 2 ^ 40 ∧
        x.operand = v.operand.toNat ∧ x.len = v.len ∧ x.flip = v.flip ∧ x.granted = false ∧ x.due = false) ∧
  (∀ s m id a v, m < 8 → (s.reg O.matrixMasterState m = 0 ∨ s.reg O.matrixMasterState m = 2) →
    goodForm (a % 2 ^ 40) v.len = true → (∀ x ∈ s.mtx.txns, x.target ≠ 8) →
    Runs (.addSat m id a v) s fun t =>
      t.out.sent = [] ∧ t.reg O.matrixMasterState m = 0 ∧ OnlyElems [(O.matrixHeld, m), (O.matrixMasterState, m)] s t ∧
      ∃ x : Txn, t.mtx.txns.map Txn.core = s.mtx.txns.map Txn.core ++ [x] ∧ x.master = m ∧ x.id = id % 16 ∧
        x.kind = 3 ∧ x.addr = a % 2 ^ 40 ∧
        x.operand = v.operand.toNat ∧ x.len = v.len ∧ x.flip = v.flip ∧ x.granted = false ∧ x.due = false) ∧
  (∀ s m id a v, m < 8 → (s.reg O.matrixMasterState m = 0 ∨ s.reg O.matrixMasterState m = 2) →
    goodForm (a % 2 ^ 40) v.len = true → (∀ x ∈ s.mtx.txns, x.target ≠ 8) →
    Runs (.swap m id a v) s fun t =>
      t.out.sent = [] ∧ t.reg O.matrixMasterState m = 0 ∧ OnlyElems [(O.matrixHeld, m), (O.matrixMasterState, m)] s t ∧
      ∃ x : Txn, t.mtx.txns.map Txn.core = s.mtx.txns.map Txn.core ++ [x] ∧ x.master = m ∧ x.id = id % 16 ∧
        x.kind = 4 ∧ x.addr = a % 2 ^ 40 ∧
        x.operand = v.operand.toNat ∧ x.len = v.len ∧ x.flip = v.flip ∧ x.granted = false ∧ x.due = false) ∧
  (∀ s m id a n f g, m < 8 → s.reg O.matrixMasterState m ≠ 1 → goodForm (a % 2 ^ 40) n = false → s.mtx.txns = [] →
    s.mtx.remapReq = none →
    Runs (.matrixRead m id a n ⟨f, g⟩) s fun t =>
      t.out.sent = [.matrix m (id % 16) rRefused (toBytes n 0)] ∧ t.mtx.txns = [] ∧
      t.reg O.matrixErrCount m = (s.reg O.matrixErrCount m + 1) % 2 ^ 32) ∧
  (∀ s m id a n f g, m < 8 → s.reg O.matrixMasterState m = 1 →
    Runs (.matrixRead m id a n ⟨f, g⟩) s fun t =>
      t.out.sent = [.matrix m (id % 16) rRefused (toBytes n 0)] ∧ t.mtx.txns = s.mtx.txns ∧
      t.reg O.matrixErrCount m = (s.reg O.matrixErrCount m + 1) % 2 ^ 32) ∧
  (∀ s k dt x, k < 8 → ((s.aged dt).settleMtx true).chosen k = some x →
    Runs (.matrixGrant k dt) s fun t =>
      SMap.get 7 t.mtx.rr x.target = x.master ∧ ∃ y ∈ t.mtx.txns,
        y.master = x.master ∧ y.id = x.id ∧ y.addr = x.addr ∧ y.granted = true ∧ y.due = (x.kind == 1)) ∧
  (∀ s k x, k < 8 → (s.mtx.txns.find? fun y => y.granted && y.target == k) = some x →
    s.reg O.matrixMasterState x.master ≠ 1 → (∀ y ∈ s.mtx.txns, y.target ≠ 8 ∧ (y.target = k → y.due = false)) →
    Runs (.matrixResponse k) s fun t =>
      t.out.sent = .matrix x.master x.id x.status x.result ::
        (if x.fetch = true ∧ x.status ≠ 0 ∧ 2 ≤ x.target ∧ x.target ≤ 7 then [.exception x.master] else []) ∧
      t.mtx.txns.map Txn.core = (s.mtx.txns.erase x).map Txn.core ∧ OnlyElems [] s t) ∧
  (∀ s m id x, m < 8 → (s.mtx.txns.find? fun y => y.master == m && y.id == id && y.granted &&
      decide (s.reg O.matrixTimeout ≤ s.txnWait y)) = some x →
    s.reg O.matrixMasterState m ≠ 1 → (∀ y ∈ s.mtx.txns, y.target ≠ 8 ∧ (y.target = x.target → y.due = false)) →
    Runs (.matrixTimeout m id) s fun t =>
      t.out.sent = .matrix m id rRefused (if x.kind = 1 then [] else toBytes x.len 0) ::
        (if x.fetch = true ∧ 2 ≤ x.target ∧ x.target ≤ 7 then [.exception x.master] else []) ∧
      t.mtx.txns.map Txn.core = (s.mtx.txns.erase x).map Txn.core ∧ (s.sys.fabOn = true → t.latched 466 = true) ∧
      t.reg O.matrixErrCount m = (s.reg O.matrixErrCount m + 1) % 2 ^ 32)

/-- Resets of masters and REMAP (R362, R363, R373 to R376, Table 10-9). -/
def Obligations.MatrixControl : Prop :=
  (∀ s w v, Allowed s w O.matrixMasterReset 0 v → v % 4 = 0 →
    (∀ k < 8, bit v k = true → s.reg O.matrixMasterState k ≠ 1) →
    Runs (.masterReset w v) s fun t =>
      t.out.status = 0 ∧
      (∀ k < 8, bit v k = true →
        t.reg O.matrixMasterState k = 1 ∧ ∀ x ∈ t.mtx.txns, x.master = k → x.granted = true) ∧
      (∀ k < 8, bit v k = false → t.reg O.matrixMasterState k = s.reg O.matrixMasterState k)) ∧
  (∀ s k, k < 8 → s.reg O.matrixMasterState k = 1 → s.txnsOf k = [] →
    Runs (.masterQuiesced k) s fun t =>
      t.reg O.matrixMasterState k = 2 ∧ (s.sys.fabOn = true → t.latched 468 = true) ∧
      OnlyElems [(O.matrixMasterState, k)] s t) ∧
  (∀ s w v, Allowed s w O.matrixRemap 0 v → s.reg O.matrixMapsel ≠ 0 →
    (s.mtx.remapReq ≠ none ∨ s.mtx.remapped ≠ (v == 1)) →
    Runs (.remapWrite w v) s fun t =>
      Stored s t O.matrixRemap 0 v ∧ t.mtx = { s.mtx with remapReq := some v }) ∧
  (∀ s w v, Allowed s w O.matrixRemap 0 v → s.reg O.matrixMapsel ≠ 0 → s.mtx.remapReq = none →
    s.mtx.remapped = (v == 1) →
    Runs (.remapWrite w v) s fun t =>
      t.mtx = s.mtx ∧ t.out.status = 0 ∧ OnlyElems [(O.ledgerJournalSeq, 0)] s t) ∧
  (∀ s v, s.mtx.remapReq = some v → (∀ x ∈ s.mtx.txns, x.granted = true → 2 ≤ x.target) →
    Runs .remapApplied s fun t =>
      t.mtx.remapReq = none ∧ (t.mtx.remapped = true ↔ v = 1) ∧ (s.sys.fabOn = true → t.latched 469 = true) ∧
      OnlyRegs [O.matrixErrCount] s t) ∧
  (∀ s v, s.mtx.remapReq = some v → s.mtx.txns = [] →
    Runs .remapApplied s fun t => t.out.sent = [] ∧ OnlyElems [] s t)

/-- Tokens, keys and plain writes (R383, R392, R403, R404), latches and the Crier bus (R407, R408, R430). -/
def Obligations.HostAccess : Prop :=
  (∀ s w v, Allowed s w O.maintTokenTake 0 v → (∀ d < 8, bit v d = true → s.tokFree d (holderOf w) = true) →
    Runs (.tokenTake w v) s fun t =>
      (∀ d < 8, bit v d = true → t.reg O.maintTokenHolder d = holderOf w) ∧
      (∀ d < 8, bit v d = false → t.reg O.maintTokenHolder d = s.reg O.maintTokenHolder d) ∧ t.out.status = 0 ∧
      OnlyRegs [O.maintTokenHolder, O.maintTokenSince] s t) ∧
  (∀ s w v, Allowed s w O.maintTokenRelease 0 v →
    Runs (.tokenRelease w v) s fun t =>
      (∀ d < 8, bit v d = true → s.reg O.maintTokenHolder d = holderOf w → SMap.get 0 s.hdp.tokWrite d = 1 →
        s.acting d = false → t.reg O.maintTokenHolder d = 0xFF) ∧
      (∀ d < 8, bit v d = false → t.reg O.maintTokenHolder d = s.reg O.maintTokenHolder d) ∧ t.out.status = 0 ∧
      OnlyRegs [O.maintTokenHolder] s t) ∧
  (∀ s w k key, Writable s w O.secKey k → key ≠ [] → key.length ≤ 32 → s.reg O.secKeyState k = 1 →
    Runs (.secKeyWrite w k key) s fun t =>
      (t.session k).key = padBytes 32 key ∧ (t.session k).ceil = 0 ∧ t.reg O.secKeyState k = 1 ∧ t.out.status = 0 ∧
      (t.session k).sub = 0 ∧ (∀ b ∈ t.hdp.bulk, b.ses ≠ k) ∧ t.latched 508 = true) ∧
  (∀ s w k key, Writable s w O.secKey k → key ≠ [] → key.length ≤ 32 → s.reg O.secKeyState k = 0 →
    Runs (.secKeyWrite w k key) s fun t =>
      (t.session k).key = padBytes 32 key ∧ (t.session k).ceil = 0 ∧ t.reg O.secKeyState k = 1 ∧ t.out.status = 0 ∧
      OnlyElems [(O.secKeyState, k)] s t) ∧
  (∀ s w i v, i ∈ [O.hdpSessionIdle, O.protFailThr, O.refPullLimit, O.timeTcEn, O.eventIrqEn] → Allowed s w i 0 v →
    Runs (.registerWrite w i 0 v) s fun t => Stored s t i 0 v) ∧
  (∀ s w a v, Allowed s w O.mapDraftSrc a v → s.followerPend a = false → v ≠ 0xFFFFFFFE → s.locked = false →
    Runs (.registerWrite w O.mapDraftSrc a v) s fun t => Stored s t O.mapDraftSrc a v) ∧
  (∀ s w v, Allowed s w O.eventClear 0 v →
    Runs (.eventClear w v) s fun t =>
      (∀ ev < 512, t.latched ev = (s.latched ev && !octBit 64 v ev)) ∧ t.out.status = 0) ∧
  (∀ s w v, Allowed s w O.eventMask 0 v →
    Runs (.eventMaskWrite w v) s fun t => Stored s t O.eventMask 0 v ∧ ∀ ev, t.latched ev = s.latched ev) ∧
  (∀ s, Runs .crierLatchReload s fun t =>
      (∀ a < 128, t.crierRead a = s.crierWord a % 2 ^ 32) ∧ t.crierSlip = [] ∧ OnlyElems [] s t)

/-- HDP requests that are served, NOTIFY, and the ICMPv6 answers (R388 to R401). -/
def Obligations.HdpService : Prop :=
  (∀ s port enc m h, Admitted s port enc 1 m h → h.index = O.identDevid → h.sub = 0 → h.elem = 0 → h.value = [] →
    bit h.flags 5 = false → bit (s.reg O.secRights h.session) 0 = true → s.sys.recovery = false → PortFree s port →
    Runs (.hdpRead port enc m) s fun t =>
      t.out.status = 0 ∧ (∃ (r : Hdp) (mac : List Byte), t.out.sent = [.hdp port (Encap.back enc) (r.wire mac)] ∧
      r.seq = h.seq ∧
        r.session = h.session ∧ bit r.flags 7 = true ∧ r.status = 0 ∧ r.value = toBytes 4 (s.reg O.identDevid)) ∧
      t.reg O.hdpSessionSeq h.session = max h.seq (s.reg O.hdpSessionSeq h.session)) ∧
  (∀ s port enc m h, Admitted s port enc 2 m h → h.index = O.eventIrqEn → h.sub = 0 → h.elem = 0 →
    h.value.length = 1 → ofBytes h.value ≤ 1 → bit (s.reg O.secRights h.session) 1 = true → s.sys.recovery = false →
    PortFree s port →
    Runs (.hdpWrite port enc m) s fun t =>
      t.reg O.eventIrqEn = ofBytes h.value ∧ t.out.status = 0 ∧
      ∃ (r : Hdp) (mac : List Byte), t.out.sent = [.hdp port (Encap.back enc) (r.wire mac)] ∧ r.seq = h.seq ∧
        bit r.flags 7 = true ∧ r.status = 0) ∧
  (∀ s port enc m h, Admitted s port enc 3 m h → h.index = O.identDevid → h.sub = 0 → h.elem = 0 → h.value = [] →
    h.total = 4 → bit (s.reg O.secRights h.session) 0 = true → s.sys.recovery = false → s.openBulk h.session = [] →
    PortFree s port →
    Runs (.readBulk port enc m) s fun t =>
      ∃ (r : Hdp) (mac : List Byte), t.out.sent = [.hdp port (Encap.back enc) (r.wire mac)] ∧ r.seq = h.seq ∧
        r.offset = 0 ∧ r.total = 4 ∧ bit r.flags 6 = false ∧ r.status = 0 ∧ r.value = toBytes 4 (s.reg O.identDevid)) ∧
  (∀ s port enc m h, Admitted s port enc 4 m h → h.index = O.mapDraftSrc → h.sub = 0 → h.elem + 1000 ≤ 122880 →
    h.total = 4000 → h.offset = 0 → h.value.length = 1024 → bit h.flags 6 = true →
    bit (s.reg O.secRights h.session) 1 = true → s.sys.recovery = false → s.sys.fabOn = true →
    s.openBulk h.session = [] → s.bulkAt h.session h.xfer = none →
    Runs (.writeBulk port enc m) s fun t =>
      t.out.status = 0 ∧ (∃ b : Bulk, t.bulkAt h.session h.xfer = some b ∧ b.got = h.value ∧ b.total = 4000 ∧
        b.closed = none) ∧ (∀ a, t.reg O.mapDraftSrc a = s.reg O.mapDraftSrc a)) ∧
  (∀ s port enc m h, Admitted s port enc 5 m h → h.value.length = 64 →
    bit (s.reg O.secRights h.session) 0 = true → s.sys.recovery = false →
    Runs (.subscribe port enc m) s fun t =>
      (t.session h.session).sub = ofBytes h.value ∧ (t.session h.session).subPort = port ∧
      (t.session h.session).subEnc = Encap.back enc ∧ t.out.status = 0) ∧
  (∀ s port enc m h b, Admitted s port enc 7 m h → h.index = 0 → h.xfer ≠ 0 →
    bit (s.reg O.secRights h.session) 2 = true → s.bulkAt h.session h.xfer = some b → b.closed = none →
    Runs (.bulkAbort port enc m) s fun t => t.bulkAt h.session h.xfer = none ∧ t.out.status = 0) ∧
  (∀ s k, k < 8 → (s.session k).sub ≠ 0 → (s.session k).queue ≠ [] →
    ((s.session k).notified = false ∨ s.elapsed (s.session k).lastNotify (msTicks 1) = true) → s.sys.booting = false →
    s.sys.restarting = false → PortFree s (s.session k).subPort →
    Runs (.notify k) s fun t =>
      (t.session k).queue = (s.session k).queue.drop 64 ∧ (t.session k).lastNotify = s.tick ∧
      ∃ (r : Hdp) (mac : List Byte), t.out.sent = [.hdp (s.session k).subPort (s.session k).subEnc (r.wire mac)] ∧
        r.op = 8 ∧ r.session = k ∧ r.value = ((s.session k).queue.take 64).flatMap NRec.bytes) ∧
  (∀ s k port enc m, k < 8 → (s.session k).waiting = [(port, enc, m)] →
    s.authentic (hdpFields m) m = false →
    Runs (.seqCeilingWritten k) s fun t =>
      (t.session k).waiting = [] ∧ (t.session k).ceil = min ((hdpFields m).seq + 2 ^ 24) (2 ^ 48 - 1) ∧
      OnlyElems [] s t) ∧
  (∀ s k port enc m h, k < 8 → (s.session k).waiting = [(port, enc, m)] → hdpFields m = h → h.session = k →
    s.authentic h m = true → s.fresh48 h = true → h.seq + 65536 < 2 ^ 48 - 1 → h.op = 1 → h.index = O.identDevid →
    h.sub = 0 → h.elem = 0 → h.value = [] → bit h.flags 5 = false → bit (s.reg O.secRights k) 0 = true →
    s.sys.recovery = false → PortFree s port →
    Runs (.seqCeilingWritten k) s fun t =>
      (t.session k).waiting = [] ∧ (t.session k).ceil = min (h.seq + 2 ^ 24) (2 ^ 48 - 1) ∧
      t.reg O.hdpSessionSeq k = max h.seq (s.reg O.hdpSessionSeq k) ∧
      ∃ (r : Hdp) (mac : List Byte), t.out.sent = [.hdp port (Encap.back enc) (r.wire mac)] ∧ r.seq = h.seq ∧
        r.status = 0 ∧ r.value = toBytes 4 (s.reg O.identDevid)) ∧
  (∀ s k, k < 8 → (s.session k).idle = false →
    s.elapsed (s.session k).lastTick (secTicks (s.reg O.hdpSessionIdle)) = true →
    Runs (.sessionIdle k) s fun t =>
      (t.session k).idle = true ∧ (t.session k).sub = 0 ∧ (∀ b ∈ t.hdp.bulk, b.ses ≠ k) ∧ t.latched 508 = true) ∧
  (∀ s k x b, k < 8 → s.bulkAt k x = some b → b.closed = none → s.elapsed b.last (secTicks 1 + 1) = true →
    Runs (.bulkSegmentTimeout k x) s fun t => t.bulkAt k x = none ∧ OnlyElems [] s t) ∧
  (∀ s p a, p < 2 → s.ownAddress p a = true → PortFree s p →
    Runs (.neighborSolicitation p a) s fun t =>
      t.out.sent = [.icmp p 136 a (toBytes 6 (s.reg O.hdpMac p))] ∧ OnlyElems [] s t) ∧
  (∀ s p a l, p < 2 → s.ownAddress p a = true → PortFree s p →
    Runs (.echoRequest p a l) s fun t => t.out.sent = [.icmp p 129 a l] ∧ OnlyElems [] s t)

/-- Received frames in alignment (R50, R62, R77, R80, Table 2-11): the third miss in a row loses alignment; any other
frame is decoded, counts its corrected symbols and its uncorrectable codewords, and takes the FSN sent or the next
one. What stands elsewhere on the lane than where the frame is expected is no frame. -/
def Obligations.LinkFrames : Prop :=
  (∀ s p f d, p < 96 → s.running p = true → s.reg O.portAlignState p = 5 → f.lane.at_ = (s.linkP p).pos →
    fawDiff (BitVec.ofNat 96 (ofBits ((s.rxRaw p f.lane).take 96))) = d → 3 < d → (s.linkP p).rxReset = false →
    Runs (.rxFrame p f) s fun t =>
      t.reg O.portAlignState p = 1 ∧ (t.linkP p).cands = (s.linkP p).cands ∧ t.latched (4 * p) = true ∧
      t.reg O.portFecCorr p = s.reg O.portFecCorr p) ∧
  (∀ s p f d cs, p < 96 → s.running p = true → s.aligned p = true → f.lane.at_ = (s.linkP p).pos →
    fawDiff (BitVec.ofNat 96 (ofBits ((s.rxRaw p f.lane).take 96))) = d → (d ≤ 3 ∨ s.reg O.portAlignState p ≠ 5) →
    decodeRaw (s.rxVer p) (s.rxRaw p f.lane) = cs →
    Runs (.rxFrame p f) s fun t =>
      t.reg O.portFecCorr p = (s.reg O.portFecCorr p + corrected cs) % 2 ^ 48 ∧
      t.reg O.portFecUncorr p = (s.reg O.portFecUncorr p + uncorrectable cs) % 2 ^ 48 ∧
      t.reg O.portRxFsn p = ((rxView (s.rxVer p) cs).valid 2).getD ((s.reg O.portRxFsn p + 1) % 2 ^ 48)) ∧
  (∀ s p f d cs, p < 96 → s.running p = true → s.aligned p = true → f.lane.at_ = (s.linkP p).pos →
    fawDiff (BitVec.ofNat 96 (ofBits ((s.rxRaw p f.lane).take 96))) = d → (d ≤ 3 ∨ s.reg O.portAlignState p ≠ 5) →
    decodeRaw (s.rxVer p) (s.rxRaw p f.lane) = cs → (rxView (s.rxVer p) cs).valid 3 = none →
    (s.linkP p).rxCount ≠ 2 → (s.linkP p).rxReset = false →
    Runs (.rxFrame p f) s fun t =>
      t.reg O.portAlignState p = (if d ≤ 3 then 3 else s.reg O.portAlignState p + 1) ∧
      (t.linkP p).pos = (s.linkP p).pos + frameBits (s.rxVer p)) ∧
  (∀ s p f, p < 96 → f.lane.at_ ≠ (s.linkP p).pos →
    Runs (.rxFrame p f) s fun t => SameParts s t ∧ ∀ i e, t.reg i e = s.reg i e)

/-- Serdes islands and the ports that stand on them (R31, R32): neither is taken from under the other. -/
def Obligations.IslandRefusals : Prop :=
  (∀ s w v k i, Allowed s w O.powerSdIslandEn 0 v → s.tokFree 7 (holderOf w) = true → k < 12 → i < 8 →
    bit (s.reg O.powerSdIslandEn) k = true → bit v k = false →
    (s.reg O.portEnable (8 * k + i) = 1 ∨ (s.linkP (8 * k + i)).stopPending = true) →
    Refuses (.sdIslandEnWrite w v) s 0x0505) ∧
  (∀ s w p, Allowed s w O.portEnable p 1 → s.reg O.portEnable p ≠ 1 → (s.linkP p).stopPending = false →
    s.islandReady p = false → Refuses (.portEnableWrite w p 1) s 0x0505)

/-- While a commit is solving or armed the Draft is locked (R160); MAP.DRAFT_REVERT copies the Live map into it. -/
def Obligations.DraftLocked : Prop :=
  (∀ s : State, s.reg O.mapState = 1 ∨ s.reg O.mapState = 2 → s.locked = true) ∧
  (∀ s w a v, Allowed s w O.mapDraftSrc a v → s.followerPend a = false → v ≠ 0xFFFFFFFE → s.locked = true →
    Refuses (.draftSrcWrite w a v) s 0x060D) ∧
  (∀ s w a v, s.gate w O.mapDraftSrc a = 0 → s.followerPend a = true → Refuses (.draftSrcWrite w a v) s 0x060C) ∧
  (∀ s w e v, s.gate w O.grainSize e = 0 → s.locked = true → Refuses (.grainSizeWrite w e v) s 0x060D) ∧
  (∀ s w l v, s.gate w O.fabricLodeState l = 0 → s.locked = true → Refuses (.lodeStateWrite w l v) s 0x060D) ∧
  (∀ s w v, Allowed s w O.mapDraftRevert 0 v → s.locked = true → Refuses (.draftRevert w v) s 0x060D) ∧
  (∀ s w v, Allowed s w O.mapDraftRevert 0 v → s.locked = false → RegsOk s →
    Runs (.draftRevert w v) s fun t =>
      (∀ a < 122880, t.reg O.mapDraftSrc a = s.reg O.mapLiveSrc a) ∧ t.out.status = 0)

/-- The abort of a commit (R169). -/
def Obligations.CommitAbort : Prop :=
  (∀ s w, bit (s.rights w) 2 = true → s.sys.fabOn = true → s.locked = true → s.map.loaded = false →
    s.deadlineDue = false → (s.map.lodeDue = true ∨ s.map.origin = 1) → s.sys.mode.commits = true →
    Runs (.mapAbort w) s fun t =>
      t.reg O.mapState = 1 ∧ t.map.origin = 1 ∧ t.map.full = true ∧ t.map.f = (s.clk.fsn + 16) % 2 ^ 48 ∧
      t.out.status = 0 ∧ (∀ a, t.reg O.mapDraftSrc a = s.reg O.mapDraftSrc a) ∧
      (∀ a, t.reg O.mapLiveSrc a = s.reg O.mapLiveSrc a)) ∧
  (∀ s w, bit (s.rights w) 2 = true → s.sys.fabOn = true → s.locked = true → s.map.loaded = false →
    s.deadlineDue = false → s.NoRepair →
    Runs (.mapAbort w) s fun t =>
      t.locked = false ∧ t.out.status = 0 ∧ (∀ a, t.reg O.mapDraftSrc a = s.reg O.mapDraftSrc a) ∧
      (∀ a, t.reg O.mapLiveSrc a = s.reg O.mapLiveSrc a) ∧ t.boundaryDue = false) ∧
  (∀ s w, bit (s.rights w) 2 = true → s.sys.fabOn = true → s.locked = true →
    (s.map.loaded = true ∨ s.deadlineDue = true) → Refuses (.mapAbort w) s 0x060E) ∧
  (∀ s w, bit (s.rights w) 2 = true → s.sys.fabOn = true → s.locked = false → Refuses (.mapAbort w) s 0x0610)

/-- A commit request that fails a check of Table 4-5 leaves its code in MAP.RESULT (log entry 12) and changes nothing
else of the maps. -/
def Obligations.CommitRefused : Prop :=
  ∀ s w, Allowed s w O.mapCommitReq 0 1 → s.sys.mode ≠ .restore →
    s.commitCheck (holderOf w) (s.reg O.mapCommitMode) ≠ 0 →
    Runs (.commitReq w) s fun t =>
      t.out.status = s.commitCheck (holderOf w) (s.reg O.mapCommitMode) ∧ t.reg O.mapResult = t.out.status ∧
      t.map = s.map ∧ OnlyRegs [O.mapResult, O.dictLastRefusal] s t

/-- The QoS of transactions (R360). -/
def Obligations.TransactionQos : Prop :=
  (∀ s c m id a d n v f g, c ∈ [Instr.matrixRead m id a n ⟨f, g⟩, .matrixWrite m id a d, .addWrap m id a v,
    .addSat m id a v,
      .swap m id a v] → m < 8 → s.reg O.matrixMasterState m = 0 → (∀ x ∈ s.mtx.txns, x.target ≠ 8) →
    goodForm (a % 2 ^ 40) n = true → goodForm (a % 2 ^ 40) d.length = true → goodForm (a % 2 ^ 40) v.len = true →
    Runs c s fun t =>
      ∃ x : Txn, t.mtx.txns.map Txn.core = s.mtx.txns.map Txn.core ++ [x] ∧ x.master = m ∧
        x.qos = s.reg O.matrixQos m) ∧
  (∀ s w k v, Allowed s w O.matrixQos k v →
    Runs (.registerWrite w O.matrixQos k v) s fun t => Stored s t O.matrixQos k v ∧ t.mtx = s.mtx)

/-- Where an event stands in EVENT.LATCH, EVENT.CLEAR and EVENT.MASK, and what a write of 1 and a mask bit of 1 do
(R430); those of the fabric island are masked while it is off (R42). -/
def Obligations.EventBits : Prop :=
  (∀ v ev, ev < 512 → octBit 64 v ev = bit (v / 256 ^ (63 - ev / 8) % 256) (7 - ev % 8)) ∧
  (∀ s w v, Allowed s w O.eventClear 0 v →
    Runs (.eventClear w v) s fun t => ∀ ev < 512, t.latched ev = (s.latched ev && !octBit 64 v ev)) ∧
  (∀ (s : State) k, k < 16 → (bit (s.crierWord 105) k = true ↔
    ∃ j < 32, s.latched (32 * k + j) = true ∧ octBit 64 (s.reg O.eventMask) (32 * k + j) = false ∧
      (s.sys.fabOn = true ∨ 480 ≤ 32 * k + j))) ∧
  (∀ s : State, s.irq = true ↔ s.reg O.eventIrqEn = 1 ∧
    ∃ ev < 512, s.latched ev = true ∧ octBit 64 (s.reg O.eventMask) ev = false ∧ (s.sys.fabOn = true ∨ 480 ≤ ev)) ∧
  (∀ (s : State) m ev, ((s.setReg O.eventMask 0 m).raise ev).hdp = (s.raise ev).hdp) ∧
  (∀ (s : State) m k, k < 16 → (s.setReg O.eventMask 0 m).crierWord (112 + k) = s.crierWord (112 + k)) ∧
  (∀ (s : State) ev, ev < 512 → bit (s.crierWord (112 + ev / 32)) (ev % 32) = s.latched ev)

/-- The raising of an event (R429, Table 1-2): its latch, its count and its time, whatever its mask bit; a limited
event is raised again only when its time has passed. Event 509 stands apart where raising it loses a notification,
which is event 509 again. -/
def Obligations.EventRaising : Prop :=
  (∀ (s : State) ev, ev < 512 → (480 ≤ ev ∨ s.sys.fabOn = true) →
    (ev ≠ 509 ∨ ∀ k < 8, octBit 64 (s.session k).sub 509 = false) →
    (s.raise ev).latched ev = true ∧ (s.raise ev).reg O.eventCount ev = (s.reg O.eventCount ev + 1) % 2 ^ 32 ∧
    (s.raise ev).reg O.eventLastTime ev = s.nowTime ∧
    ∀ e < 512, e ≠ ev → e ≠ 509 →
      (s.raise ev).latched e = s.latched e ∧ (s.raise ev).reg O.eventCount e = s.reg O.eventCount e ∧
      (s.raise ev).reg O.eventLastTime e = s.reg O.eventLastTime e) ∧
  (∀ (s : State) ev k n, SMap.get 0 s.rate (ev * 2 ^ 20 + k) ≠ 0 →
    s.elapsed (SMap.get 0 s.rate (ev * 2 ^ 20 + k) - 1) n = false → s.raiseLim ev k n = s) ∧
  (∀ (s : State) ev k n, SMap.get 0 s.rate (ev * 2 ^ 20 + k) = 0 ∨
      s.elapsed (SMap.get 0 s.rate (ev * 2 ^ 20 + k) - 1) n = true →
    (s.raiseLim ev k n).regs = (s.raise ev).regs ∧ (s.raiseLim ev k n).hdp = (s.raise ev).hdp)

/-- A run of the trace that cannot start, and a destination that cannot change (R442). -/
def Obligations.TraceRefusals : Prop :=
  (∀ s w c v, (c, v) ∈ [(Instr.traceStartWrap w, 1), (Instr.traceStartStop w, 2)] →
    Allowed s w O.tallyTraceCtrl 0 v → s.traceRoom ≠ 0 → (s.tal.run = true ∨ s.tokFree 6 (holderOf w) = false) →
    Refuses c s 0x0402) ∧
  (∀ s w c v, (c, v) ∈ [(Instr.traceStartWrap w, 1), (Instr.traceStartStop w, 2)] →
    Allowed s w O.tallyTraceCtrl 0 v →
    ((s.reg O.tallyTraceDest = 0 ∧ s.ownerBanks 6 = []) ∨
      (s.reg O.tallyTraceDest ≠ 0 ∧ (s.reg O.memDdrTraceSize = 0 ∨ s.reg O.memDdrState ≠ 3))) →
    Refuses c s 0x0310) ∧
  (∀ s w v, Allowed s w O.tallyTraceDest 0 v → s.tal.run = true →
    Refuses (.registerWrite w O.tallyTraceDest 0 v) s 0x0402)

/-- The version that a port negotiates is the highest that both ends support, that LINK.VERSION_EXCLUDED leaves and
LINK.VERSION_MAX allows (R84); this device's SUPPORTED field is 0b11 (R89). Bit 0 of LINK.VERSION_EXCLUDED always
reads 0, and LINK.VERSION_MAX is at least 1 (Table 2-13). -/
def Obligations.NegotiatedVersion : Prop :=
  ∀ (s : State) p, bit (s.reg O.linkVersionExcluded p) 0 = false → 1 ≤ s.reg O.linkVersionMax p →
    (∀ v, 1 ≤ v → bit 3 (v - 1) = true → bit (s.reg O.linkPeerSupported p) (v - 1) = true →
      bit (s.reg O.linkVersionExcluded p) (v - 1) = false → v ≤ s.reg O.linkVersionMax p → v ≤ s.bestVersion p) ∧
    (1 ≤ s.bestVersion p →
      bit 3 (s.bestVersion p - 1) = true ∧ bit (s.reg O.linkPeerSupported p) (s.bestVersion p - 1) = true ∧
      bit (s.reg O.linkVersionExcluded p) (s.bestVersion p - 1) = false ∧ s.bestVersion p ≤ s.reg O.linkVersionMax p)

/-- Fuse writes (R462): what burns a fuse, what is refused, and the right that they and every write to an FW object
need. -/
def Obligations.FuseWrites : Prop :=
  (∀ s w v, Allowed s w O.secRevokeKey0 0 v → s.keyOf (s.reg O.fwRunning) = 1 →
    (∀ k < 2, s.reg O.fwSlotState k = 5 → s.keyOf k = 1) →
    Runs (.revokeKey0 w v) s fun t =>
      t.reg O.secKeyRevoked = 1 ∧ t.out.status = 0 ∧ OnlyElems [(O.secKeyRevoked, 0)] s t) ∧
  (∀ s w v k, Allowed s w O.secRevokeKey0 0 v → k < 2 →
    (s.keyOf (s.reg O.fwRunning) ≠ 1 ∨ (s.reg O.fwSlotState k = 5 ∧ s.keyOf k ≠ 1)) →
    Refuses (.revokeKey0 w v) s 0x0C02) ∧
  (∀ s w v, Allowed s w O.secSvnCommit 0 v → (∀ k < 2, s.reg O.fwSlotState k ≠ 4) →
    (∀ k < 2, s.reg O.fwSlotState k = 5 → v ≤ s.reg O.fwSlotSvn k) →
    Runs (.svnCommit w v) s fun t =>
      t.reg O.secSvnFloor = max v (s.reg O.secSvnFloor) ∧ t.out.status = 0 ∧ OnlyElems [(O.secSvnFloor, 0)] s t) ∧
  (∀ s w v k, Allowed s w O.secSvnCommit 0 v → k < 2 →
    (s.reg O.fwSlotState k = 4 ∨ (s.reg O.fwSlotState k = 5 ∧ s.reg O.fwSlotSvn k < v)) →
    Refuses (.svnCommit w v) s 0x0C04) ∧
  (∀ s w v k d c, bit (s.rights w) 3 = false →
    c ∈ [Instr.revokeKey0 w v, .svnCommit w v, .fwStageBegin w v, .fwStageSegment w k d, .fwActivate w v,
      .fwConfirm w v] → Refuses c s 0x0204) ∧
  (∀ s w i e v, bit (s.rights w) 3 = false → 0x1200 ≤ i → i < 0x1210 → Refuses (.registerWrite w i e v) s 0x0204)

/-- What transactions do to the memories (R325, R341, R342, R352, R365, Table 10-2). A granted write has taken effect by
its response: the enabled bytes of a DDR4 or Keeper SRAM write, and no other byte of any memory. A DDR4 read, and a
read of a bank word, returns what stands there and changes no memory; an atomic on a bank word returns the old one and
stores the new one. A DDR4 beat with one wrong bit reads corrected and counts in MEM.DDR_CE; a beat with more stays
uncorrectable, and a read of it counts in MEM.DDR_UE. -/
def Obligations.MatrixMemory : Prop :=
  (∀ s k dt x, k < 8 → ((s.aged dt).settleMtx true).chosen k = some x → x.kind = 1 →
    (∀ y ∈ s.mtx.txns, y.target ≠ 8 ∧ (y.target = k → y.due = false)) →
    Runs (.matrixGrant k dt) s fun t => t.mem = s.mem ∧ t.out.sent = [] ∧ OnlyRegs [O.tallyOvfCount] s t) ∧
  (∀ s x, (s.mtx.txns.find? fun y => y.granted && y.target == 3) = some x → x.kind = 1 →
    (s.mtx.txns.filter fun y => y.due && y.target == 3) = [x] → (∀ y ∈ s.mtx.txns, y.target ≠ 8) →
    s.reg O.matrixMasterState x.master ≠ 1 → x.fetch = false → pairAllows x.master 3 1 = true →
    s.ddrOpen (x.addr % 2 ^ 36) x.len true = true → s.mem.ddrBad = [] →
    Runs (.matrixResponse 3) s fun t =>
      (∀ a, SMap.get 0 t.mem.ddr a =
        match (if a < x.addr % 2 ^ 36 then none else x.data[a - x.addr % 2 ^ 36]?) with
        | some (b, true) => b.toNat
        | _ => SMap.get 0 s.mem.ddr a) ∧
      t.mem.bank = s.mem.bank ∧ t.mem.sram = s.mem.sram ∧ t.mem.flash = s.mem.flash ∧
      t.out.sent = [.matrix x.master x.id rDone []] ∧ t.mtx.txns.map Txn.core = (s.mtx.txns.erase x).map Txn.core) ∧
  (∀ s x, (s.mtx.txns.find? fun y => y.granted && y.target == 1) = some x → x.kind = 1 →
    (s.mtx.txns.filter fun y => y.due && y.target == 1) = [x] → (∀ y ∈ s.mtx.txns, y.target ≠ 8) →
    s.reg O.matrixMasterState x.master ≠ 1 → x.fetch = false → pairAllows x.master 1 1 = true →
    s.mem.sramBad = [] →
    Runs (.matrixResponse 1) s fun t =>
      (∀ a, SMap.get 0 t.mem.sram a =
        match (if a < x.addr % 2 ^ 21 then none else x.data[a - x.addr % 2 ^ 21]?) with
        | some (b, true) => b.toNat
        | _ => SMap.get 0 s.mem.sram a) ∧
      t.mem.bank = s.mem.bank ∧ t.mem.ddr = s.mem.ddr ∧ t.mem.flash = s.mem.flash ∧
      t.out.sent = [.matrix x.master x.id rDone []] ∧ t.mtx.txns.map Txn.core = (s.mtx.txns.erase x).map Txn.core) ∧
  (∀ s dt x, ((s.aged dt).settleMtx true).chosen 3 = some x → x.kind = 0 → x.fetch = false →
    pairAllows x.master 3 0 = true →
    s.ddrOpen (x.addr % 2 ^ 36) x.len false = true → x.flip = 0 → s.mem.ddrBad = [] →
    (∀ y ∈ s.mtx.txns, y.target = 3 → y.due = false) →
    Runs (.matrixGrant 3 dt) s fun t =>
      t.mem = s.mem ∧ ∃ y ∈ t.mtx.txns, y.master = x.master ∧ y.id = x.id ∧ y.granted = true ∧ y.status = 0 ∧
        y.result = getMem 0 s.mem.ddr (x.addr % 2 ^ 36) x.len) ∧
  (∀ s dt x, ((s.aged dt).settleMtx true).chosen 2 = some x → x.kind = 0 → x.fetch = false →
    pairAllows x.master 2 0 = true →
    x.addr % 8 = 0 → x.len = 8 → x.flip = 0 → s.sys.fabOn = true →
    s.mem.opened.contains (x.addr % 2 ^ 27 / 2 ^ 19) = false → (∀ y ∈ s.mtx.txns, y.target = 2 → y.due = false) →
    6 ≤ s.reg O.memBankOwner (x.addr % 2 ^ 27 / 2 ^ 19) →
    bankReads (s.reg O.memBankOwner (x.addr % 2 ^ 27 / 2 ^ 19)) x.master = true →
    s.reg O.memBankState (x.addr % 2 ^ 27 / 2 ^ 19) < 2 →
    (eccDec (s.bankCode (x.addr % 2 ^ 27 / 2 ^ 19) (x.addr % 2 ^ 19 / 8))).fixed = false →
    (eccDec (s.bankCode (x.addr % 2 ^ 27 / 2 ^ 19) (x.addr % 2 ^ 19 / 8))).bad = false →
    Runs (.matrixGrant 2 dt) s fun t =>
      t.mem = s.mem ∧ ∃ y ∈ t.mtx.txns, y.master = x.master ∧ y.id = x.id ∧ y.granted = true ∧ y.status = 0 ∧
        y.result = toBytes 6 (eccDec (s.bankCode (x.addr % 2 ^ 27 / 2 ^ 19) (x.addr % 2 ^ 19 / 8))).d ++
          toBytes 2 0) ∧
  (∀ s dt x, ((s.aged dt).settleMtx true).chosen 2 = some x → 2 ≤ x.kind → x.kind ≤ 4 → x.fetch = false →
    pairAllows x.master 2 x.kind = true → x.addr % 8 = 0 → x.len = 8 → x.flip = 0 → s.sys.fabOn = true →
    s.mem.opened.contains (x.addr % 2 ^ 27 / 2 ^ 19) = false →
    (∀ y ∈ s.mtx.txns, y.target = 2 → y.due = false) →
    6 ≤ s.reg O.memBankOwner (x.addr % 2 ^ 27 / 2 ^ 19) →
    bankWrites (s.reg O.memBankOwner (x.addr % 2 ^ 27 / 2 ^ 19)) x.master = true →
    s.reg O.memBankState (x.addr % 2 ^ 27 / 2 ^ 19) < 2 →
    (eccDec (s.bankCode (x.addr % 2 ^ 27 / 2 ^ 19) (x.addr % 2 ^ 19 / 8))).fixed = false →
    (eccDec (s.bankCode (x.addr % 2 ^ 27 / 2 ^ 19) (x.addr % 2 ^ 19 / 8))).bad = false →
    Runs (.matrixGrant 2 dt) s fun t =>
      t.bankCode (x.addr % 2 ^ 27 / 2 ^ 19) (x.addr % 2 ^ 19 / 8) =
        eccEnc (atomicNew (x.kind - 2) (eccDec (s.bankCode (x.addr % 2 ^ 27 / 2 ^ 19) (x.addr % 2 ^ 19 / 8))).d
          x.operand) ∧
      ∃ y ∈ t.mtx.txns, y.master = x.master ∧ y.id = x.id ∧ y.granted = true ∧ y.status = 0 ∧
        y.result = toBytes 6 (eccDec (s.bankCode (x.addr % 2 ^ 27 / 2 ^ 19) (x.addr % 2 ^ 19 / 8))).d ++ toBytes 2 0) ∧
  (∀ (s : State) u f b, SMap.get 0 s.mem.ddrBad u = 0 → flips f = 1 →
    (s.ddrBeat u f b).2 = (getMem 0 s.mem.ddr (8 * u) 8, false) ∧
    (s.ddrBeat u f b).1.reg O.memDdrCe (8 * u / 256 % 4) = (s.reg O.memDdrCe (8 * u / 256 % 4) + 1) % 2 ^ 32) ∧
  (∀ (s : State) u f b, SMap.get 0 s.mem.ddrBad u = 0 → 2 ≤ flips f →
    (s.ddrBeat u f b).2.2 = true ∧ SMap.get 0 (s.ddrBeat u f b).1.mem.ddrBad u = f % 2 ^ 72 ∧
    (s.ddrBeat u f b).1.reg O.memDdrUe (8 * u / 256 % 4) = (s.reg O.memDdrUe (8 * u / 256 % 4) + 1) % 2 ^ 32)

/-- Messages that the Keeper discards without an answer (R388, R390, R392, R393): malformed ones, those that fail
authentication, replays, those not addressed to its port, and responses that do not come from the spare. -/
def Obligations.HdpDiscards : Prop :=
  (∀ s port enc m c, c ∈ [Instr.hdpRead port enc m, .hdpWrite port enc m, .readBulk port enc m, .writeBulk port enc m,
      .subscribe port enc m, .bulkAbort port enc m] → port < 2 → s.served port enc = true → hdpParse m = none →
    Runs c s fun t =>
      t.out.sent = [] ∧ t.reg O.hdpStats 3 = (s.reg O.hdpStats 3 + 1) % 2 ^ 48 ∧ OnlyRegs [] s t) ∧
  (∀ s port enc m h c op, (c, op) ∈ [(Instr.hdpRead port enc m, 1), (.hdpWrite port enc m, 2),
    (.readBulk port enc m, 3),
      (.writeBulk port enc m, 4), (.subscribe port enc m, 5), (.bulkAbort port enc m, 7)] → port < 2 →
    s.served port enc = true → hdpParse m = some h → h.op = op → bit h.flags 7 = false → s.authentic h m = false →
    Runs c s fun t =>
      t.out.sent = [] ∧ t.reg O.hdpStats 4 = (s.reg O.hdpStats 4 + 1) % 2 ^ 48 ∧ OnlyRegs [] s t) ∧
  (∀ s port enc m h c op, (c, op) ∈ [(Instr.hdpRead port enc m, 1), (.hdpWrite port enc m, 2),
    (.readBulk port enc m, 3),
      (.writeBulk port enc m, 4), (.subscribe port enc m, 5), (.bulkAbort port enc m, 7)] → port < 2 →
    s.served port enc = true → hdpParse m = some h → h.op = op → bit h.flags 7 = false → s.authentic h m = true →
    s.fresh48 h = false →
    Runs c s fun t =>
      t.out.sent = [] ∧ t.reg O.hdpStats 5 = (s.reg O.hdpStats 5 + 1) % 2 ^ 48 ∧ OnlyRegs [] s t) ∧
  (∀ s port enc m h c op, (c, op) ∈ [(Instr.hdpRead port enc m, 1), (.hdpWrite port enc m, 2),
    (.readBulk port enc m, 3),
      (.writeBulk port enc m, 4), (.subscribe port enc m, 5), (.bulkAbort port enc m, 7)] → port < 2 →
    s.served port enc = true → hdpParse m = some h → h.op = op → bit h.flags 7 = true → s.spareSaid h m = false →
    Runs c s fun t =>
      t.out.sent = [] ∧ t.reg O.hdpStats 4 = (s.reg O.hdpStats 4 + 1) % 2 ^ 48 ∧ OnlyRegs [] s t) ∧
  (∀ s port enc m c, c ∈ [Instr.hdpRead port enc m, .hdpWrite port enc m, .readBulk port enc m, .writeBulk port enc m,
      .subscribe port enc m, .bulkAbort port enc m] → port < 2 → s.served port enc = false →
    Runs c s fun t => t.out.sent = [] ∧ SameParts s t ∧ ∀ i e, t.reg i e = s.reg i e)

/-- A write that fails a general check of Table 11-6 is refused with the code of the first that it fails. -/
def Obligations.RefusedAccess : Prop :=
  ∀ c s w i e, access c = some (w, i, e) → s.gate w i e ≠ 0 → Refuses c s (s.gate w i e)

/-- A step runs the command at the front of the queue, with the queue's rest. -/
def Obligations.StepRunsTheFrontCommand : Prop :=
  ∀ (s : State) c q, s.pending = c :: q → step s = exec c (s.withQueue q)

/-- On an empty queue the block idles (log entry 2). -/
def Obligations.EmptyQueueIdles : Prop := ∀ s : State, s.pending = [] → step s = .next s

/-- A command that names an item the block has runs to a next state and leaves the queue to the step; one that names
an item which does not exist stops (log entry 3). -/
def Obligations.CommandsAnswer : Prop :=
  (∀ (c : Instr) s, c.wf = true → ∃ t, exec c s = .next t ∧ t.pending = s.pending) ∧
  (∀ (c : Instr) s, c.wf = false → exec c s = .fault .noSuch)

/-- The state right after a power-on reset (R456, R464, Tables 11-10 and 14-3). -/
def Obligations.ResetState : Prop :=
  State.reset.pending = [] ∧ State.reset.sys.mode = .dormant ∧ State.reset.sys.booting = true ∧
  State.reset.sys.fabOn = false ∧ State.reset.sys.fabEn = false ∧ State.reset.clk = ⟨0, 0, 0⟩ ∧
  State.reset.locked = false ∧ State.reset.refState = 0 ∧ State.reset.reg O.matrixRemap = 0 ∧
  (∀ d < 8, State.reset.reg O.maintTokenHolder d = 0xFF) ∧ (∀ p < 96, State.reset.reg O.portEnable p = 0) ∧
  (∀ ev < 512, State.reset.latched ev = false) ∧ (∀ c < 6144, State.reset.reg O.groupType c = 0)

/-- The invariants hold at reset. -/
def Obligations.ResetKeepsOrder : Prop :=
  State.reset.clk.Ok ∧ StoresOk State.reset ∧ QueueOk State.reset

/-- Every step keeps the clock of frames in order (R16, R17, Table 1-4). -/
def Obligations.StepKeepsTheClock : Prop := ∀ s t : State, s.clk.Ok → step s = .next t → t.clk.Ok

/-- Every step keeps the register arrays and every memory in canonical form, so that equal contents are equal data. -/
def Obligations.StepKeepsTheStores : Prop := ∀ s t : State, StoresOk s → step s = .next t → StoresOk t

/-- A queue of well-formed commands runs to its end, whatever the state: no step of it stops. -/
def Obligations.QueueRuns : Prop :=
  ∀ (s : State) k, QueueOk s →
    ∃ t : State, Host.Core.run Sys2Proof.core k s = .next t ∧ t.pending = s.pending.drop k

/-- A command changes no register of a dictionary object but those that its row of `objs` lists, and those that
raising an event writes. -/
def Obligations.ObjectFrame : Prop :=
  ∀ (c : Instr) (s t : State) l, objs c = some l → exec c s = .next t → OnlyRegs l s t

/-- A command changes no part of the state but those that its row of `parts` lists: the clock, the modes, the ports,
the grains, the fabric, the groups, protection, references, time, every byte of the memories, the matrix, firmware,
the Assayer and the Crier latches. -/
def Obligations.PartFrame : Prop :=
  ∀ (c : Instr) (s t : State) (p : Part), p ∉ parts c → exec c s = .next t → p.same s t

/-- HDP messages and their bytes (Table 11-3): what is sent is read back field by field, and a well-formed message is
the bytes of what is read. -/
def Obligations.HdpMessages : Prop :=
  (∀ h : Hdp, ∀ mac : List Byte, h.Fits → mac.length = 32 →
    hdpParse (h.wire mac) = some h ∧ hdpMac (h.wire mac) = mac) ∧
  (∀ m h, hdpParse m = some h → h.Fits ∧ h.wire (hdpMac m) = m)

/-- The code of bank words (R323, R324, Table 9-1): a read of a word as written gives it back; one flipped bit of the
55 is corrected; two are found and not corrected. -/
def Obligations.BankWordCode : Prop :=
  (∀ d, d < 2 ^ 48 → (eccDec (eccEnc d)).d = d ∧ (eccDec (eccEnc d)).fixed = false ∧ (eccDec (eccEnc d)).bad = false) ∧
  (∀ d i, d < 2 ^ 48 → i < 55 →
    (eccDec (eccEnc d ^^^ 2 ^ i)).d = d ∧ (eccDec (eccEnc d ^^^ 2 ^ i)).fixed = true ∧
    (eccDec (eccEnc d ^^^ 2 ^ i)).bad = false) ∧
  (∀ d i j, d < 2 ^ 48 → i < 55 → j < 55 → i ≠ j →
    (eccDec (eccEnc d ^^^ 2 ^ i ^^^ 2 ^ j)).bad = true ∧ (eccDec (eccEnc d ^^^ 2 ^ i ^^^ 2 ^ j)).fixed = false)

/-- The lane (R45, R46, Table 2-2): a receiver that removes the precoder and the inversion of the transmitter, and
knows the level before, takes the raw bits that were sent. -/
def Obligations.LaneCoding : Prop :=
  ∀ tx rx q at_ (raw : List Bool), raw.length % 2 = 0 → bit tx 0 = bit rx 1 → bit tx 3 = bit rx 2 → q < 4 →
    laneRaw rx ⟨at_, invertLevel (bit tx 3) q, laneLevels tx q raw⟩ = raw

/-- A codeword (R47, R48, log entry 78): its symbols are those of the information bits, then the parity; its syndromes
are zero, and a receiver takes the information bits without a correction. -/
def Obligations.CodewordRoundTrip : Prop :=
  ∀ info : List Bool, info.length = 5140 →
    (encodeCode info).length = 5440 ∧ (encodeCode info).take 5140 = info ∧
    (∀ x ∈ rsSyndromes ((chunks 10 544 (encodeCode info)).map ofBits), x = 0) ∧
    decodeCode (encodeCode info) = ⟨info, true, 0⟩

/-- A frame on the lane (R47 to R52, R59, R60, R90): the words of a frame of either version, scrambled and encoded,
are what a receiver descrambles and decodes. -/
def Obligations.FrameRoundTrip : Prop :=
  ∀ ver (f : LinkFrame), (ver = 1 ∨ ver = 2) → f.ovh.length = 9 → f.pay.length = 405 →
    (∀ q < 9, (f.ovh.getD q []).length = rowOvh ver q) → (∀ r ∈ f.pay, r.length = roundPay ver) →
    (∀ r ∈ f.ovh ++ f.pay, ∀ w ∈ r, w < 2 ^ 48) →
    (f.raw ver).length = frameBits ver ∧ linkFrame ver (decodeRaw ver (f.raw ver)) = f

/-- Where the row-1 RMW of a candidate at raw bit `c` stands on the lane (R74): in one stretch in version 2, in two in
version 1. The overhead of a version 2 row stands in its 540 codewords of 5,440 raw bits (R49, R52). -/
def Obligations.MarkerPlaces : Prop :=
  (∀ rs c, rawWord rs 2 c 1 0 = rawSpan rs (c + 2937600) 48) ∧
  (∀ rs c, rawWord rs 1 c 1 0 = rawSpan rs (c + 1468476) 24 * 2 ^ 24 + rawSpan rs (c + 1468800) 24) ∧
  (∀ q h i, q < 9 → h < 225 → i < 48 →
    ovhRaw 2 q h i = 2937600 * q + 5440 * ((48 * (1285 * (h / 5) + h % 5) + i) / 5140) +
      (48 * (1285 * (h / 5) + h % 5) + i) % 5140)
end

