-- ==== Sys2Proof/Laws/Store.lean ====
section
/-! SUPPORT. Laws of sparse arrays: what a read gives after a write, and that every operation keeps the canonical
form; the loop laws that every fold of the model uses; round trips of numbers and bytes. -/

/- One declaration after another: elaborated side by side, each waiting proof holds a thread, and the package as one
text then needs more memory than it has. -/
set_option Elab.async false

namespace Sys2Proof.Machine

section
variable {β : Type}

@[simp] theorem SMap.find?_erase_self (m : SMap β) (k : Nat) : SMap.find? (SMap.erase m k) k = none := by
  induction m with
  | nil => rfl
  | cons x m ih =>
    obtain ⟨i, v⟩ := x
    by_cases h : i = k <;> simp [SMap.erase, SMap.find?, h, ih]

theorem SMap.find?_erase_ne (m : SMap β) {k j : Nat} (h : j ≠ k) :
    SMap.find? (SMap.erase m k) j = SMap.find? m j := by
  induction m with
  | nil => rfl
  | cons x m ih =>
    obtain ⟨i, v⟩ := x
    by_cases hi : i = k
    · subst hi
      simp [SMap.erase, SMap.find?, ih, Ne.symm h]
    · simp [SMap.erase, SMap.find?, hi, ih]

@[simp] theorem SMap.find?_insert_self (m : SMap β) (k : Nat) (v : β) :
    SMap.find? (SMap.insert m k v) k = some v := by
  induction m with
  | nil => simp [SMap.insert, SMap.find?]
  | cons x m ih =>
    obtain ⟨i, u⟩ := x
    by_cases h1 : k < i
    · simp [SMap.insert, SMap.find?, h1]
    · by_cases h2 : i = k <;> simp [SMap.insert, SMap.find?, h1, h2, ih]

theorem SMap.find?_insert_ne (m : SMap β) {k j : Nat} (v : β) (h : j ≠ k) :
    SMap.find? (SMap.insert m k v) j = SMap.find? m j := by
  induction m with
  | nil => simp [SMap.insert, SMap.find?, Ne.symm h]
  | cons x m ih =>
    obtain ⟨i, u⟩ := x
    by_cases h1 : k < i
    · simp [SMap.insert, SMap.find?, h1, Ne.symm h]
    · by_cases h2 : i = k
      · subst h2
        simp [SMap.insert, SMap.find?, Ne.symm h]
      · simp [SMap.insert, SMap.find?, h1, h2, ih]

variable [DecidableEq β]

/-- A read after a write to the same index gives the value written. -/
@[simp] theorem SMap.get_set_self (d : β) (m : SMap β) (k : Nat) (v : β) :
    SMap.get d (SMap.set d m k v) k = v := by
  by_cases h : v = d <;> simp [SMap.get, SMap.set, h]

/-- A write leaves every other index alone. -/
theorem SMap.get_set_ne (d d' : β) (m : SMap β) {k j : Nat} (v : β) (h : j ≠ k) :
    SMap.get d (SMap.set d' m k v) j = SMap.get d m j := by
  by_cases hv : v = d' <;> simp [SMap.get, SMap.set, hv, SMap.find?_erase_ne, SMap.find?_insert_ne, h]

theorem SMap.get_set (d : β) (m : SMap β) (k j : Nat) (v : β) :
    SMap.get d (SMap.set d m k v) j = if j = k then v else SMap.get d m j := by
  by_cases h : j = k
  · simp [h]
  · simp [h, SMap.get_set_ne]

omit [DecidableEq β] in
@[simp] theorem SMap.get_nil (d : β) (k : Nat) : SMap.get d ([] : SMap β) k = d := rfl

/-! ## The canonical form -/

theorem SMap.wfFrom_mono (d : Nat → β) {lo lo' : Nat} (h : lo' ≤ lo) {m : SMap β}
    (hm : SMap.wfFrom d lo m = true) : SMap.wfFrom d lo' m = true := by
  cases m with
  | nil => rfl
  | cons x m =>
    obtain ⟨i, v⟩ := x
    simp only [SMap.wfFrom, Bool.and_eq_true, decide_eq_true_eq] at hm ⊢
    exact ⟨⟨by omega, hm.1.2⟩, hm.2⟩

theorem SMap.wfFrom_erase (d : Nat → β) (k : Nat) {m : SMap β} :
    ∀ {lo : Nat}, SMap.wfFrom d lo m = true → SMap.wfFrom d lo (SMap.erase m k) = true := by
  induction m with
  | nil => intro lo _; rfl
  | cons x m ih =>
    obtain ⟨i, v⟩ := x
    intro lo hm
    simp only [SMap.wfFrom, Bool.and_eq_true, decide_eq_true_eq] at hm
    by_cases h : i = k
    · simp only [SMap.erase, h, if_true]
      exact ih (SMap.wfFrom_mono d (by omega) hm.2)
    · simp only [SMap.erase, h, if_false, SMap.wfFrom, Bool.and_eq_true, decide_eq_true_eq]
      exact ⟨hm.1, ih hm.2⟩

theorem SMap.wfFrom_insert (d : Nat → β) (k : Nat) (v : β) (hv : v ≠ d k) {m : SMap β} :
    ∀ {lo : Nat}, lo ≤ k → SMap.wfFrom d lo m = true → SMap.wfFrom d lo (SMap.insert m k v) = true := by
  induction m with
  | nil => intro lo hk _; simp [SMap.insert, SMap.wfFrom, hk, hv]
  | cons x m ih =>
    obtain ⟨i, u⟩ := x
    intro lo hk hm
    simp only [SMap.wfFrom, Bool.and_eq_true, decide_eq_true_eq] at hm
    by_cases h1 : k < i
    · simp only [SMap.insert, h1, if_true, SMap.wfFrom, Bool.and_eq_true, decide_eq_true_eq]
      exact ⟨⟨hk, by simp [hv]⟩, ⟨by omega, hm.1.2⟩, hm.2⟩
    · by_cases h2 : i = k
      · subst h2
        simp only [SMap.insert, h1, if_false, if_true, SMap.wfFrom, Bool.and_eq_true, decide_eq_true_eq]
        exact ⟨⟨hk, by simp [hv]⟩, hm.2⟩
      · simp only [SMap.insert, h1, h2, if_false, SMap.wfFrom, Bool.and_eq_true, decide_eq_true_eq]
        exact ⟨hm.1, ih (by omega) hm.2⟩

/-- A write of a value keeps the canonical form. -/
theorem SMap.wf_set (d : Nat → β) (m : SMap β) (k : Nat) (v : β) (h : SMap.wf d m = true) :
    SMap.wf d (SMap.set (d k) m k v) = true := by
  unfold SMap.set SMap.wf at *
  by_cases hv : v = d k
  · simpa [hv] using SMap.wfFrom_erase d k h
  · simpa [hv] using SMap.wfFrom_insert d k v hv (Nat.zero_le k) h

theorem SMap.wf_erase (d : Nat → β) (m : SMap β) (k : Nat) (h : SMap.wf d m = true) :
    SMap.wf d (SMap.erase m k) = true := SMap.wfFrom_erase d k h

theorem SMap.wfFrom_filter (d : Nat → β) (p : Nat × β → Bool) {m : SMap β} :
    ∀ {lo : Nat}, SMap.wfFrom d lo m = true → SMap.wfFrom d lo (m.filter p) = true := by
  induction m with
  | nil => intro lo _; rfl
  | cons x m ih =>
    obtain ⟨i, v⟩ := x
    intro lo hm
    simp only [SMap.wfFrom, Bool.and_eq_true, decide_eq_true_eq] at hm
    by_cases h : p (i, v) = true
    · simp only [List.filter_cons, h, if_true, SMap.wfFrom, Bool.and_eq_true, decide_eq_true_eq]
      exact ⟨hm.1, ih hm.2⟩
    · simp only [List.filter_cons, h]
      exact ih (SMap.wfFrom_mono d (by omega) hm.2)

theorem SMap.wf_clearSpan (d : Nat → β) (m : SMap β) (lo n : Nat) (h : SMap.wf d m = true) :
    SMap.wf d (SMap.clearSpan m lo n) = true := SMap.wfFrom_filter d _ h

end

/-! ## Loops -/

/-- What every turn of a loop keeps, the loop keeps. -/
theorem foldl_keeps {α γ : Type} (P : α → Prop) (f : α → γ → α) (l : List γ) (a : α) (ha : P a)
    (hf : ∀ a x, P a → P (f a x)) : P (l.foldl f a) := by
  induction l generalizing a with
  | nil => exact ha
  | cons x l ih => exact ih (f a x) (hf a x ha)

theorem foldRange_keeps {α : Type} (P : α → Prop) (n : Nat) (f : α → Nat → α) (a : α) (ha : P a)
    (hf : ∀ a x, P a → P (f a x)) : P (foldRange n f a) := foldl_keeps P f _ a ha hf

/-- A part of the value that no turn of a loop changes, the loop leaves unchanged. -/
theorem foldl_same {α γ δ : Type} (g : α → δ) (f : α → γ → α) (l : List γ) (a : α)
    (hf : ∀ a x, g (f a x) = g a) : g (l.foldl f a) = g a :=
  foldl_keeps (fun b => g b = g a) f l a rfl fun b x hb => (hf b x).trans hb

theorem foldRange_same {α δ : Type} (g : α → δ) (n : Nat) (f : α → Nat → α) (a : α)
    (hf : ∀ a x, g (f a x) = g a) : g (foldRange n f a) = g a := foldl_same g f _ a hf

/-! ## Numbers and bytes (R381) -/

@[simp] theorem toBytes_length (n v : Nat) : (toBytes n v).length = n := by
  induction n with
  | zero => rfl
  | succ n ih => simp [toBytes, ih]

theorem ofBytes_append (a b : List Byte) : ofBytes (a ++ b) = ofBytes a * 256 ^ b.length + ofBytes b := by
  have key : ∀ (b : List Byte) (x : Nat),
      b.foldl (fun a c => a * 256 + c.toNat) x = x * 256 ^ b.length + ofBytes b := by
    intro b
    induction b with
    | nil => intro x; simp [ofBytes]
    | cons c b ih =>
      intro x
      simp only [List.foldl_cons, List.length_cons, ofBytes]
      rw [ih, ih]
      simp only [ofBytes, pow_succ]
      ring
  simp only [ofBytes, List.foldl_append]
  exact key b _

theorem ofBytes_toBytes (n v : Nat) : ofBytes (toBytes n v) = v % 256 ^ n := by
  induction n with
  | zero => simp [toBytes, ofBytes, Nat.mod_one]
  | succ n ih =>
    have h := ofBytes_append [BitVec.ofNat 8 (v >>> (8 * n))] (toBytes n v)
    simp only [List.singleton_append, toBytes_length, ih] at h
    rw [toBytes, h]
    have c : ofBytes [BitVec.ofNat 8 (v >>> (8 * n))] = v / 256 ^ n % 256 := by
      have e : v >>> (8 * n) = v / 256 ^ n := by rw [Nat.shiftRight_eq_div_pow, pow_mul]; rfl
      have b : (BitVec.ofNat 8 (v / 256 ^ n)).toNat = v / 256 ^ n % 256 := BitVec.toNat_ofNat ..
      simp only [ofBytes, List.foldl_cons, List.foldl_nil, e, b, Nat.zero_mul, Nat.zero_add]
    rw [c, pow_succ, Nat.mod_mul, Nat.mul_comm, Nat.add_comm]

/-- A value that fits `n` bytes survives the trip through them. -/
theorem ofBytes_toBytes_of_lt {n v : Nat} (h : v < 256 ^ n) : ofBytes (toBytes n v) = v := by
  rw [ofBytes_toBytes, Nat.mod_eq_of_lt h]

end Sys2Proof.Machine
end

