-- ==== Sys2Proof/Laws/State.lean ====
section
/-! SUPPORT. The small lemmas of State: for each named update of one place, one lemma for each field; what a register
or an item reads after a write; what a command's ending leaves. -/

namespace Sys2Proof.Machine

variable (s : State)

/-! ### setReg -/

@[simp] theorem State.setReg_pending (i e v : Nat) : (s.setReg i e v).pending = s.pending := (rfl)
@[simp] theorem State.setReg_live (i e v : Nat) : (s.setReg i e v).live = s.live := (rfl)
@[simp] theorem State.setReg_clk (i e v : Nat) : (s.setReg i e v).clk = s.clk := (rfl)
@[simp] theorem State.setReg_sys (i e v : Nat) : (s.setReg i e v).sys = s.sys := (rfl)
@[simp] theorem State.setReg_out (i e v : Nat) : (s.setReg i e v).out = s.out := (rfl)
@[simp] theorem State.setReg_rate (i e v : Nat) : (s.setReg i e v).rate = s.rate := (rfl)
@[simp] theorem State.setReg_link (i e v : Nat) : (s.setReg i e v).link = s.link := (rfl)
@[simp] theorem State.setReg_linkq (i e v : Nat) : (s.setReg i e v).linkq = s.linkq := (rfl)
@[simp] theorem State.setReg_rx (i e v : Nat) : (s.setReg i e v).rx = s.rx := (rfl)
@[simp] theorem State.setReg_tx (i e v : Nat) : (s.setReg i e v).tx = s.tx := (rfl)
@[simp] theorem State.setReg_fab (i e v : Nat) : (s.setReg i e v).fab = s.fab := (rfl)
@[simp] theorem State.setReg_map (i e v : Nat) : (s.setReg i e v).map = s.map := (rfl)
@[simp] theorem State.setReg_grp (i e v : Nat) : (s.setReg i e v).grp = s.grp := (rfl)
@[simp] theorem State.setReg_prot (i e v : Nat) : (s.setReg i e v).prot = s.prot := (rfl)
@[simp] theorem State.setReg_wit (i e v : Nat) : (s.setReg i e v).wit = s.wit := (rfl)
@[simp] theorem State.setReg_led (i e v : Nat) : (s.setReg i e v).led = s.led := (rfl)
@[simp] theorem State.setReg_ref (i e v : Nat) : (s.setReg i e v).ref = s.ref := (rfl)
@[simp] theorem State.setReg_tim (i e v : Nat) : (s.setReg i e v).tim = s.tim := (rfl)
@[simp] theorem State.setReg_mem (i e v : Nat) : (s.setReg i e v).mem = s.mem := (rfl)
@[simp] theorem State.setReg_mtx (i e v : Nat) : (s.setReg i e v).mtx = s.mtx := (rfl)
@[simp] theorem State.setReg_hdp (i e v : Nat) : (s.setReg i e v).hdp = s.hdp := (rfl)
@[simp] theorem State.setReg_fw (i e v : Nat) : (s.setReg i e v).fw = s.fw := (rfl)
@[simp] theorem State.setReg_asy (i e v : Nat) : (s.setReg i e v).asy = s.asy := (rfl)
@[simp] theorem State.setReg_tal (i e v : Nat) : (s.setReg i e v).tal = s.tal := (rfl)
@[simp] theorem State.setReg_crier (i e v : Nat) : (s.setReg i e v).crier = s.crier := (rfl)
@[simp] theorem State.setReg_crierSlip (i e v : Nat) : (s.setReg i e v).crierSlip = s.crierSlip := (rfl)
@[simp] theorem State.setReg_freeCtr (i e v : Nat) : (s.setReg i e v).freeCtr = s.freeCtr := (rfl)

/-! ### setLive -/

@[simp] theorem State.setLive_pending (i e v : Nat) : (s.setLive i e v).pending = s.pending := (rfl)
@[simp] theorem State.setLive_regs (i e v : Nat) : (s.setLive i e v).regs = s.regs := (rfl)
@[simp] theorem State.setLive_clk (i e v : Nat) : (s.setLive i e v).clk = s.clk := (rfl)
@[simp] theorem State.setLive_sys (i e v : Nat) : (s.setLive i e v).sys = s.sys := (rfl)
@[simp] theorem State.setLive_out (i e v : Nat) : (s.setLive i e v).out = s.out := (rfl)
@[simp] theorem State.setLive_rate (i e v : Nat) : (s.setLive i e v).rate = s.rate := (rfl)
@[simp] theorem State.setLive_link (i e v : Nat) : (s.setLive i e v).link = s.link := (rfl)
@[simp] theorem State.setLive_linkq (i e v : Nat) : (s.setLive i e v).linkq = s.linkq := (rfl)
@[simp] theorem State.setLive_rx (i e v : Nat) : (s.setLive i e v).rx = s.rx := (rfl)
@[simp] theorem State.setLive_tx (i e v : Nat) : (s.setLive i e v).tx = s.tx := (rfl)
@[simp] theorem State.setLive_fab (i e v : Nat) : (s.setLive i e v).fab = s.fab := (rfl)
@[simp] theorem State.setLive_map (i e v : Nat) : (s.setLive i e v).map = s.map := (rfl)
@[simp] theorem State.setLive_grp (i e v : Nat) : (s.setLive i e v).grp = s.grp := (rfl)
@[simp] theorem State.setLive_prot (i e v : Nat) : (s.setLive i e v).prot = s.prot := (rfl)
@[simp] theorem State.setLive_wit (i e v : Nat) : (s.setLive i e v).wit = s.wit := (rfl)
@[simp] theorem State.setLive_led (i e v : Nat) : (s.setLive i e v).led = s.led := (rfl)
@[simp] theorem State.setLive_ref (i e v : Nat) : (s.setLive i e v).ref = s.ref := (rfl)
@[simp] theorem State.setLive_tim (i e v : Nat) : (s.setLive i e v).tim = s.tim := (rfl)
@[simp] theorem State.setLive_mem (i e v : Nat) : (s.setLive i e v).mem = s.mem := (rfl)
@[simp] theorem State.setLive_mtx (i e v : Nat) : (s.setLive i e v).mtx = s.mtx := (rfl)
@[simp] theorem State.setLive_hdp (i e v : Nat) : (s.setLive i e v).hdp = s.hdp := (rfl)
@[simp] theorem State.setLive_fw (i e v : Nat) : (s.setLive i e v).fw = s.fw := (rfl)
@[simp] theorem State.setLive_asy (i e v : Nat) : (s.setLive i e v).asy = s.asy := (rfl)
@[simp] theorem State.setLive_tal (i e v : Nat) : (s.setLive i e v).tal = s.tal := (rfl)
@[simp] theorem State.setLive_crier (i e v : Nat) : (s.setLive i e v).crier = s.crier := (rfl)
@[simp] theorem State.setLive_crierSlip (i e v : Nat) : (s.setLive i e v).crierSlip = s.crierSlip := (rfl)
@[simp] theorem State.setLive_freeCtr (i e v : Nat) : (s.setLive i e v).freeCtr = s.freeCtr := (rfl)

/-! ### bump -/

@[simp] theorem State.bump_pending (i e w n : Nat) : (s.bump i e w n).pending = s.pending := (rfl)
@[simp] theorem State.bump_live (i e w n : Nat) : (s.bump i e w n).live = s.live := (rfl)
@[simp] theorem State.bump_clk (i e w n : Nat) : (s.bump i e w n).clk = s.clk := (rfl)
@[simp] theorem State.bump_sys (i e w n : Nat) : (s.bump i e w n).sys = s.sys := (rfl)
@[simp] theorem State.bump_out (i e w n : Nat) : (s.bump i e w n).out = s.out := (rfl)
@[simp] theorem State.bump_rate (i e w n : Nat) : (s.bump i e w n).rate = s.rate := (rfl)
@[simp] theorem State.bump_link (i e w n : Nat) : (s.bump i e w n).link = s.link := (rfl)
@[simp] theorem State.bump_linkq (i e w n : Nat) : (s.bump i e w n).linkq = s.linkq := (rfl)
@[simp] theorem State.bump_rx (i e w n : Nat) : (s.bump i e w n).rx = s.rx := (rfl)
@[simp] theorem State.bump_tx (i e w n : Nat) : (s.bump i e w n).tx = s.tx := (rfl)
@[simp] theorem State.bump_fab (i e w n : Nat) : (s.bump i e w n).fab = s.fab := (rfl)
@[simp] theorem State.bump_map (i e w n : Nat) : (s.bump i e w n).map = s.map := (rfl)
@[simp] theorem State.bump_grp (i e w n : Nat) : (s.bump i e w n).grp = s.grp := (rfl)
@[simp] theorem State.bump_prot (i e w n : Nat) : (s.bump i e w n).prot = s.prot := (rfl)
@[simp] theorem State.bump_wit (i e w n : Nat) : (s.bump i e w n).wit = s.wit := (rfl)
@[simp] theorem State.bump_led (i e w n : Nat) : (s.bump i e w n).led = s.led := (rfl)
@[simp] theorem State.bump_ref (i e w n : Nat) : (s.bump i e w n).ref = s.ref := (rfl)
@[simp] theorem State.bump_tim (i e w n : Nat) : (s.bump i e w n).tim = s.tim := (rfl)
@[simp] theorem State.bump_mem (i e w n : Nat) : (s.bump i e w n).mem = s.mem := (rfl)
@[simp] theorem State.bump_mtx (i e w n : Nat) : (s.bump i e w n).mtx = s.mtx := (rfl)
@[simp] theorem State.bump_hdp (i e w n : Nat) : (s.bump i e w n).hdp = s.hdp := (rfl)
@[simp] theorem State.bump_fw (i e w n : Nat) : (s.bump i e w n).fw = s.fw := (rfl)
@[simp] theorem State.bump_asy (i e w n : Nat) : (s.bump i e w n).asy = s.asy := (rfl)
@[simp] theorem State.bump_tal (i e w n : Nat) : (s.bump i e w n).tal = s.tal := (rfl)
@[simp] theorem State.bump_crier (i e w n : Nat) : (s.bump i e w n).crier = s.crier := (rfl)
@[simp] theorem State.bump_crierSlip (i e w n : Nat) : (s.bump i e w n).crierSlip = s.crierSlip := (rfl)
@[simp] theorem State.bump_freeCtr (i e w n : Nat) : (s.bump i e w n).freeCtr = s.freeCtr := (rfl)

/-! ### setOct -/

@[simp] theorem State.setOct_pending (i e n k : Nat) (b : Bool) : (s.setOct i e n k b).pending = s.pending := (rfl)
@[simp] theorem State.setOct_live (i e n k : Nat) (b : Bool) : (s.setOct i e n k b).live = s.live := (rfl)
@[simp] theorem State.setOct_clk (i e n k : Nat) (b : Bool) : (s.setOct i e n k b).clk = s.clk := (rfl)
@[simp] theorem State.setOct_sys (i e n k : Nat) (b : Bool) : (s.setOct i e n k b).sys = s.sys := (rfl)
@[simp] theorem State.setOct_out (i e n k : Nat) (b : Bool) : (s.setOct i e n k b).out = s.out := (rfl)
@[simp] theorem State.setOct_rate (i e n k : Nat) (b : Bool) : (s.setOct i e n k b).rate = s.rate := (rfl)
@[simp] theorem State.setOct_link (i e n k : Nat) (b : Bool) : (s.setOct i e n k b).link = s.link := (rfl)
@[simp] theorem State.setOct_linkq (i e n k : Nat) (b : Bool) : (s.setOct i e n k b).linkq = s.linkq := (rfl)
@[simp] theorem State.setOct_rx (i e n k : Nat) (b : Bool) : (s.setOct i e n k b).rx = s.rx := (rfl)
@[simp] theorem State.setOct_tx (i e n k : Nat) (b : Bool) : (s.setOct i e n k b).tx = s.tx := (rfl)
@[simp] theorem State.setOct_fab (i e n k : Nat) (b : Bool) : (s.setOct i e n k b).fab = s.fab := (rfl)
@[simp] theorem State.setOct_map (i e n k : Nat) (b : Bool) : (s.setOct i e n k b).map = s.map := (rfl)
@[simp] theorem State.setOct_grp (i e n k : Nat) (b : Bool) : (s.setOct i e n k b).grp = s.grp := (rfl)
@[simp] theorem State.setOct_prot (i e n k : Nat) (b : Bool) : (s.setOct i e n k b).prot = s.prot := (rfl)
@[simp] theorem State.setOct_wit (i e n k : Nat) (b : Bool) : (s.setOct i e n k b).wit = s.wit := (rfl)
@[simp] theorem State.setOct_led (i e n k : Nat) (b : Bool) : (s.setOct i e n k b).led = s.led := (rfl)
@[simp] theorem State.setOct_ref (i e n k : Nat) (b : Bool) : (s.setOct i e n k b).ref = s.ref := (rfl)
@[simp] theorem State.setOct_tim (i e n k : Nat) (b : Bool) : (s.setOct i e n k b).tim = s.tim := (rfl)
@[simp] theorem State.setOct_mem (i e n k : Nat) (b : Bool) : (s.setOct i e n k b).mem = s.mem := (rfl)
@[simp] theorem State.setOct_mtx (i e n k : Nat) (b : Bool) : (s.setOct i e n k b).mtx = s.mtx := (rfl)
@[simp] theorem State.setOct_hdp (i e n k : Nat) (b : Bool) : (s.setOct i e n k b).hdp = s.hdp := (rfl)
@[simp] theorem State.setOct_fw (i e n k : Nat) (b : Bool) : (s.setOct i e n k b).fw = s.fw := (rfl)
@[simp] theorem State.setOct_asy (i e n k : Nat) (b : Bool) : (s.setOct i e n k b).asy = s.asy := (rfl)
@[simp] theorem State.setOct_tal (i e n k : Nat) (b : Bool) : (s.setOct i e n k b).tal = s.tal := (rfl)
@[simp] theorem State.setOct_crier (i e n k : Nat) (b : Bool) : (s.setOct i e n k b).crier = s.crier := (rfl)
@[simp] theorem State.setOct_crierSlip (i e n k : Nat) (b : Bool) :
    (s.setOct i e n k b).crierSlip = s.crierSlip := (rfl)
@[simp] theorem State.setOct_freeCtr (i e n k : Nat) (b : Bool) : (s.setOct i e n k b).freeCtr = s.freeCtr := (rfl)

/-! ### setLink -/

@[simp] theorem State.setLink_pending (p : Nat) (l : LinkP) : (s.setLink p l).pending = s.pending := (rfl)
@[simp] theorem State.setLink_regs (p : Nat) (l : LinkP) : (s.setLink p l).regs = s.regs := (rfl)
@[simp] theorem State.setLink_live (p : Nat) (l : LinkP) : (s.setLink p l).live = s.live := (rfl)
@[simp] theorem State.setLink_clk (p : Nat) (l : LinkP) : (s.setLink p l).clk = s.clk := (rfl)
@[simp] theorem State.setLink_sys (p : Nat) (l : LinkP) : (s.setLink p l).sys = s.sys := (rfl)
@[simp] theorem State.setLink_out (p : Nat) (l : LinkP) : (s.setLink p l).out = s.out := (rfl)
@[simp] theorem State.setLink_rate (p : Nat) (l : LinkP) : (s.setLink p l).rate = s.rate := (rfl)
@[simp] theorem State.setLink_linkq (p : Nat) (l : LinkP) : (s.setLink p l).linkq = s.linkq := (rfl)
@[simp] theorem State.setLink_rx (p : Nat) (l : LinkP) : (s.setLink p l).rx = s.rx := (rfl)
@[simp] theorem State.setLink_tx (p : Nat) (l : LinkP) : (s.setLink p l).tx = s.tx := (rfl)
@[simp] theorem State.setLink_fab (p : Nat) (l : LinkP) : (s.setLink p l).fab = s.fab := (rfl)
@[simp] theorem State.setLink_map (p : Nat) (l : LinkP) : (s.setLink p l).map = s.map := (rfl)
@[simp] theorem State.setLink_grp (p : Nat) (l : LinkP) : (s.setLink p l).grp = s.grp := (rfl)
@[simp] theorem State.setLink_prot (p : Nat) (l : LinkP) : (s.setLink p l).prot = s.prot := (rfl)
@[simp] theorem State.setLink_wit (p : Nat) (l : LinkP) : (s.setLink p l).wit = s.wit := (rfl)
@[simp] theorem State.setLink_led (p : Nat) (l : LinkP) : (s.setLink p l).led = s.led := (rfl)
@[simp] theorem State.setLink_ref (p : Nat) (l : LinkP) : (s.setLink p l).ref = s.ref := (rfl)
@[simp] theorem State.setLink_tim (p : Nat) (l : LinkP) : (s.setLink p l).tim = s.tim := (rfl)
@[simp] theorem State.setLink_mem (p : Nat) (l : LinkP) : (s.setLink p l).mem = s.mem := (rfl)
@[simp] theorem State.setLink_mtx (p : Nat) (l : LinkP) : (s.setLink p l).mtx = s.mtx := (rfl)
@[simp] theorem State.setLink_hdp (p : Nat) (l : LinkP) : (s.setLink p l).hdp = s.hdp := (rfl)
@[simp] theorem State.setLink_fw (p : Nat) (l : LinkP) : (s.setLink p l).fw = s.fw := (rfl)
@[simp] theorem State.setLink_asy (p : Nat) (l : LinkP) : (s.setLink p l).asy = s.asy := (rfl)
@[simp] theorem State.setLink_tal (p : Nat) (l : LinkP) : (s.setLink p l).tal = s.tal := (rfl)
@[simp] theorem State.setLink_crier (p : Nat) (l : LinkP) : (s.setLink p l).crier = s.crier := (rfl)
@[simp] theorem State.setLink_crierSlip (p : Nat) (l : LinkP) : (s.setLink p l).crierSlip = s.crierSlip := (rfl)
@[simp] theorem State.setLink_freeCtr (p : Nat) (l : LinkP) : (s.setLink p l).freeCtr = s.freeCtr := (rfl)

/-! ### setLinkQ -/

@[simp] theorem State.setLinkQ_pending (p : Nat) (l : LinkQ) : (s.setLinkQ p l).pending = s.pending := (rfl)
@[simp] theorem State.setLinkQ_regs (p : Nat) (l : LinkQ) : (s.setLinkQ p l).regs = s.regs := (rfl)
@[simp] theorem State.setLinkQ_live (p : Nat) (l : LinkQ) : (s.setLinkQ p l).live = s.live := (rfl)
@[simp] theorem State.setLinkQ_clk (p : Nat) (l : LinkQ) : (s.setLinkQ p l).clk = s.clk := (rfl)
@[simp] theorem State.setLinkQ_sys (p : Nat) (l : LinkQ) : (s.setLinkQ p l).sys = s.sys := (rfl)
@[simp] theorem State.setLinkQ_out (p : Nat) (l : LinkQ) : (s.setLinkQ p l).out = s.out := (rfl)
@[simp] theorem State.setLinkQ_rate (p : Nat) (l : LinkQ) : (s.setLinkQ p l).rate = s.rate := (rfl)
@[simp] theorem State.setLinkQ_link (p : Nat) (l : LinkQ) : (s.setLinkQ p l).link = s.link := (rfl)
@[simp] theorem State.setLinkQ_rx (p : Nat) (l : LinkQ) : (s.setLinkQ p l).rx = s.rx := (rfl)
@[simp] theorem State.setLinkQ_tx (p : Nat) (l : LinkQ) : (s.setLinkQ p l).tx = s.tx := (rfl)
@[simp] theorem State.setLinkQ_fab (p : Nat) (l : LinkQ) : (s.setLinkQ p l).fab = s.fab := (rfl)
@[simp] theorem State.setLinkQ_map (p : Nat) (l : LinkQ) : (s.setLinkQ p l).map = s.map := (rfl)
@[simp] theorem State.setLinkQ_grp (p : Nat) (l : LinkQ) : (s.setLinkQ p l).grp = s.grp := (rfl)
@[simp] theorem State.setLinkQ_prot (p : Nat) (l : LinkQ) : (s.setLinkQ p l).prot = s.prot := (rfl)
@[simp] theorem State.setLinkQ_wit (p : Nat) (l : LinkQ) : (s.setLinkQ p l).wit = s.wit := (rfl)
@[simp] theorem State.setLinkQ_led (p : Nat) (l : LinkQ) : (s.setLinkQ p l).led = s.led := (rfl)
@[simp] theorem State.setLinkQ_ref (p : Nat) (l : LinkQ) : (s.setLinkQ p l).ref = s.ref := (rfl)
@[simp] theorem State.setLinkQ_tim (p : Nat) (l : LinkQ) : (s.setLinkQ p l).tim = s.tim := (rfl)
@[simp] theorem State.setLinkQ_mem (p : Nat) (l : LinkQ) : (s.setLinkQ p l).mem = s.mem := (rfl)
@[simp] theorem State.setLinkQ_mtx (p : Nat) (l : LinkQ) : (s.setLinkQ p l).mtx = s.mtx := (rfl)
@[simp] theorem State.setLinkQ_hdp (p : Nat) (l : LinkQ) : (s.setLinkQ p l).hdp = s.hdp := (rfl)
@[simp] theorem State.setLinkQ_fw (p : Nat) (l : LinkQ) : (s.setLinkQ p l).fw = s.fw := (rfl)
@[simp] theorem State.setLinkQ_asy (p : Nat) (l : LinkQ) : (s.setLinkQ p l).asy = s.asy := (rfl)
@[simp] theorem State.setLinkQ_tal (p : Nat) (l : LinkQ) : (s.setLinkQ p l).tal = s.tal := (rfl)
@[simp] theorem State.setLinkQ_crier (p : Nat) (l : LinkQ) : (s.setLinkQ p l).crier = s.crier := (rfl)
@[simp] theorem State.setLinkQ_crierSlip (p : Nat) (l : LinkQ) : (s.setLinkQ p l).crierSlip = s.crierSlip := (rfl)
@[simp] theorem State.setLinkQ_freeCtr (p : Nat) (l : LinkQ) : (s.setLinkQ p l).freeCtr = s.freeCtr := (rfl)

/-! ### setRx -/

@[simp] theorem State.setRx_pending (a : Nat) (g : RxG) : (s.setRx a g).pending = s.pending := (rfl)
@[simp] theorem State.setRx_regs (a : Nat) (g : RxG) : (s.setRx a g).regs = s.regs := (rfl)
@[simp] theorem State.setRx_live (a : Nat) (g : RxG) : (s.setRx a g).live = s.live := (rfl)
@[simp] theorem State.setRx_clk (a : Nat) (g : RxG) : (s.setRx a g).clk = s.clk := (rfl)
@[simp] theorem State.setRx_sys (a : Nat) (g : RxG) : (s.setRx a g).sys = s.sys := (rfl)
@[simp] theorem State.setRx_out (a : Nat) (g : RxG) : (s.setRx a g).out = s.out := (rfl)
@[simp] theorem State.setRx_rate (a : Nat) (g : RxG) : (s.setRx a g).rate = s.rate := (rfl)
@[simp] theorem State.setRx_link (a : Nat) (g : RxG) : (s.setRx a g).link = s.link := (rfl)
@[simp] theorem State.setRx_linkq (a : Nat) (g : RxG) : (s.setRx a g).linkq = s.linkq := (rfl)
@[simp] theorem State.setRx_tx (a : Nat) (g : RxG) : (s.setRx a g).tx = s.tx := (rfl)
@[simp] theorem State.setRx_fab (a : Nat) (g : RxG) : (s.setRx a g).fab = s.fab := (rfl)
@[simp] theorem State.setRx_map (a : Nat) (g : RxG) : (s.setRx a g).map = s.map := (rfl)
@[simp] theorem State.setRx_grp (a : Nat) (g : RxG) : (s.setRx a g).grp = s.grp := (rfl)
@[simp] theorem State.setRx_prot (a : Nat) (g : RxG) : (s.setRx a g).prot = s.prot := (rfl)
@[simp] theorem State.setRx_wit (a : Nat) (g : RxG) : (s.setRx a g).wit = s.wit := (rfl)
@[simp] theorem State.setRx_led (a : Nat) (g : RxG) : (s.setRx a g).led = s.led := (rfl)
@[simp] theorem State.setRx_ref (a : Nat) (g : RxG) : (s.setRx a g).ref = s.ref := (rfl)
@[simp] theorem State.setRx_tim (a : Nat) (g : RxG) : (s.setRx a g).tim = s.tim := (rfl)
@[simp] theorem State.setRx_mem (a : Nat) (g : RxG) : (s.setRx a g).mem = s.mem := (rfl)
@[simp] theorem State.setRx_mtx (a : Nat) (g : RxG) : (s.setRx a g).mtx = s.mtx := (rfl)
@[simp] theorem State.setRx_hdp (a : Nat) (g : RxG) : (s.setRx a g).hdp = s.hdp := (rfl)
@[simp] theorem State.setRx_fw (a : Nat) (g : RxG) : (s.setRx a g).fw = s.fw := (rfl)
@[simp] theorem State.setRx_asy (a : Nat) (g : RxG) : (s.setRx a g).asy = s.asy := (rfl)
@[simp] theorem State.setRx_tal (a : Nat) (g : RxG) : (s.setRx a g).tal = s.tal := (rfl)
@[simp] theorem State.setRx_crier (a : Nat) (g : RxG) : (s.setRx a g).crier = s.crier := (rfl)
@[simp] theorem State.setRx_crierSlip (a : Nat) (g : RxG) : (s.setRx a g).crierSlip = s.crierSlip := (rfl)
@[simp] theorem State.setRx_freeCtr (a : Nat) (g : RxG) : (s.setRx a g).freeCtr = s.freeCtr := (rfl)

/-! ### setTx -/

@[simp] theorem State.setTx_pending (a : Nat) (g : TxG) : (s.setTx a g).pending = s.pending := (rfl)
@[simp] theorem State.setTx_regs (a : Nat) (g : TxG) : (s.setTx a g).regs = s.regs := (rfl)
@[simp] theorem State.setTx_live (a : Nat) (g : TxG) : (s.setTx a g).live = s.live := (rfl)
@[simp] theorem State.setTx_clk (a : Nat) (g : TxG) : (s.setTx a g).clk = s.clk := (rfl)
@[simp] theorem State.setTx_sys (a : Nat) (g : TxG) : (s.setTx a g).sys = s.sys := (rfl)
@[simp] theorem State.setTx_out (a : Nat) (g : TxG) : (s.setTx a g).out = s.out := (rfl)
@[simp] theorem State.setTx_rate (a : Nat) (g : TxG) : (s.setTx a g).rate = s.rate := (rfl)
@[simp] theorem State.setTx_link (a : Nat) (g : TxG) : (s.setTx a g).link = s.link := (rfl)
@[simp] theorem State.setTx_linkq (a : Nat) (g : TxG) : (s.setTx a g).linkq = s.linkq := (rfl)
@[simp] theorem State.setTx_rx (a : Nat) (g : TxG) : (s.setTx a g).rx = s.rx := (rfl)
@[simp] theorem State.setTx_fab (a : Nat) (g : TxG) : (s.setTx a g).fab = s.fab := (rfl)
@[simp] theorem State.setTx_map (a : Nat) (g : TxG) : (s.setTx a g).map = s.map := (rfl)
@[simp] theorem State.setTx_grp (a : Nat) (g : TxG) : (s.setTx a g).grp = s.grp := (rfl)
@[simp] theorem State.setTx_prot (a : Nat) (g : TxG) : (s.setTx a g).prot = s.prot := (rfl)
@[simp] theorem State.setTx_wit (a : Nat) (g : TxG) : (s.setTx a g).wit = s.wit := (rfl)
@[simp] theorem State.setTx_led (a : Nat) (g : TxG) : (s.setTx a g).led = s.led := (rfl)
@[simp] theorem State.setTx_ref (a : Nat) (g : TxG) : (s.setTx a g).ref = s.ref := (rfl)
@[simp] theorem State.setTx_tim (a : Nat) (g : TxG) : (s.setTx a g).tim = s.tim := (rfl)
@[simp] theorem State.setTx_mem (a : Nat) (g : TxG) : (s.setTx a g).mem = s.mem := (rfl)
@[simp] theorem State.setTx_mtx (a : Nat) (g : TxG) : (s.setTx a g).mtx = s.mtx := (rfl)
@[simp] theorem State.setTx_hdp (a : Nat) (g : TxG) : (s.setTx a g).hdp = s.hdp := (rfl)
@[simp] theorem State.setTx_fw (a : Nat) (g : TxG) : (s.setTx a g).fw = s.fw := (rfl)
@[simp] theorem State.setTx_asy (a : Nat) (g : TxG) : (s.setTx a g).asy = s.asy := (rfl)
@[simp] theorem State.setTx_tal (a : Nat) (g : TxG) : (s.setTx a g).tal = s.tal := (rfl)
@[simp] theorem State.setTx_crier (a : Nat) (g : TxG) : (s.setTx a g).crier = s.crier := (rfl)
@[simp] theorem State.setTx_crierSlip (a : Nat) (g : TxG) : (s.setTx a g).crierSlip = s.crierSlip := (rfl)
@[simp] theorem State.setTx_freeCtr (a : Nat) (g : TxG) : (s.setTx a g).freeCtr = s.freeCtr := (rfl)

/-! ### setLine -/

@[simp] theorem State.setLine_pending (a : Nat) (l : LineS) : (s.setLine a l).pending = s.pending := (rfl)
@[simp] theorem State.setLine_regs (a : Nat) (l : LineS) : (s.setLine a l).regs = s.regs := (rfl)
@[simp] theorem State.setLine_live (a : Nat) (l : LineS) : (s.setLine a l).live = s.live := (rfl)
@[simp] theorem State.setLine_clk (a : Nat) (l : LineS) : (s.setLine a l).clk = s.clk := (rfl)
@[simp] theorem State.setLine_sys (a : Nat) (l : LineS) : (s.setLine a l).sys = s.sys := (rfl)
@[simp] theorem State.setLine_out (a : Nat) (l : LineS) : (s.setLine a l).out = s.out := (rfl)
@[simp] theorem State.setLine_rate (a : Nat) (l : LineS) : (s.setLine a l).rate = s.rate := (rfl)
@[simp] theorem State.setLine_link (a : Nat) (l : LineS) : (s.setLine a l).link = s.link := (rfl)
@[simp] theorem State.setLine_linkq (a : Nat) (l : LineS) : (s.setLine a l).linkq = s.linkq := (rfl)
@[simp] theorem State.setLine_rx (a : Nat) (l : LineS) : (s.setLine a l).rx = s.rx := (rfl)
@[simp] theorem State.setLine_tx (a : Nat) (l : LineS) : (s.setLine a l).tx = s.tx := (rfl)
@[simp] theorem State.setLine_fab (a : Nat) (l : LineS) : (s.setLine a l).fab = s.fab := (rfl)
@[simp] theorem State.setLine_map (a : Nat) (l : LineS) : (s.setLine a l).map = s.map := (rfl)
@[simp] theorem State.setLine_prot (a : Nat) (l : LineS) : (s.setLine a l).prot = s.prot := (rfl)
@[simp] theorem State.setLine_wit (a : Nat) (l : LineS) : (s.setLine a l).wit = s.wit := (rfl)
@[simp] theorem State.setLine_led (a : Nat) (l : LineS) : (s.setLine a l).led = s.led := (rfl)
@[simp] theorem State.setLine_ref (a : Nat) (l : LineS) : (s.setLine a l).ref = s.ref := (rfl)
@[simp] theorem State.setLine_tim (a : Nat) (l : LineS) : (s.setLine a l).tim = s.tim := (rfl)
@[simp] theorem State.setLine_mem (a : Nat) (l : LineS) : (s.setLine a l).mem = s.mem := (rfl)
@[simp] theorem State.setLine_mtx (a : Nat) (l : LineS) : (s.setLine a l).mtx = s.mtx := (rfl)
@[simp] theorem State.setLine_hdp (a : Nat) (l : LineS) : (s.setLine a l).hdp = s.hdp := (rfl)
@[simp] theorem State.setLine_fw (a : Nat) (l : LineS) : (s.setLine a l).fw = s.fw := (rfl)
@[simp] theorem State.setLine_asy (a : Nat) (l : LineS) : (s.setLine a l).asy = s.asy := (rfl)
@[simp] theorem State.setLine_tal (a : Nat) (l : LineS) : (s.setLine a l).tal = s.tal := (rfl)
@[simp] theorem State.setLine_crier (a : Nat) (l : LineS) : (s.setLine a l).crier = s.crier := (rfl)
@[simp] theorem State.setLine_crierSlip (a : Nat) (l : LineS) : (s.setLine a l).crierSlip = s.crierSlip := (rfl)
@[simp] theorem State.setLine_freeCtr (a : Nat) (l : LineS) : (s.setLine a l).freeCtr = s.freeCtr := (rfl)

/-! ### setCtx -/

@[simp] theorem State.setCtx_pending (c : Nat) (x : CtxS) : (s.setCtx c x).pending = s.pending := (rfl)
@[simp] theorem State.setCtx_regs (c : Nat) (x : CtxS) : (s.setCtx c x).regs = s.regs := (rfl)
@[simp] theorem State.setCtx_live (c : Nat) (x : CtxS) : (s.setCtx c x).live = s.live := (rfl)
@[simp] theorem State.setCtx_clk (c : Nat) (x : CtxS) : (s.setCtx c x).clk = s.clk := (rfl)
@[simp] theorem State.setCtx_sys (c : Nat) (x : CtxS) : (s.setCtx c x).sys = s.sys := (rfl)
@[simp] theorem State.setCtx_out (c : Nat) (x : CtxS) : (s.setCtx c x).out = s.out := (rfl)
@[simp] theorem State.setCtx_rate (c : Nat) (x : CtxS) : (s.setCtx c x).rate = s.rate := (rfl)
@[simp] theorem State.setCtx_link (c : Nat) (x : CtxS) : (s.setCtx c x).link = s.link := (rfl)
@[simp] theorem State.setCtx_linkq (c : Nat) (x : CtxS) : (s.setCtx c x).linkq = s.linkq := (rfl)
@[simp] theorem State.setCtx_rx (c : Nat) (x : CtxS) : (s.setCtx c x).rx = s.rx := (rfl)
@[simp] theorem State.setCtx_tx (c : Nat) (x : CtxS) : (s.setCtx c x).tx = s.tx := (rfl)
@[simp] theorem State.setCtx_fab (c : Nat) (x : CtxS) : (s.setCtx c x).fab = s.fab := (rfl)
@[simp] theorem State.setCtx_map (c : Nat) (x : CtxS) : (s.setCtx c x).map = s.map := (rfl)
@[simp] theorem State.setCtx_prot (c : Nat) (x : CtxS) : (s.setCtx c x).prot = s.prot := (rfl)
@[simp] theorem State.setCtx_wit (c : Nat) (x : CtxS) : (s.setCtx c x).wit = s.wit := (rfl)
@[simp] theorem State.setCtx_led (c : Nat) (x : CtxS) : (s.setCtx c x).led = s.led := (rfl)
@[simp] theorem State.setCtx_ref (c : Nat) (x : CtxS) : (s.setCtx c x).ref = s.ref := (rfl)
@[simp] theorem State.setCtx_tim (c : Nat) (x : CtxS) : (s.setCtx c x).tim = s.tim := (rfl)
@[simp] theorem State.setCtx_mem (c : Nat) (x : CtxS) : (s.setCtx c x).mem = s.mem := (rfl)
@[simp] theorem State.setCtx_mtx (c : Nat) (x : CtxS) : (s.setCtx c x).mtx = s.mtx := (rfl)
@[simp] theorem State.setCtx_hdp (c : Nat) (x : CtxS) : (s.setCtx c x).hdp = s.hdp := (rfl)
@[simp] theorem State.setCtx_fw (c : Nat) (x : CtxS) : (s.setCtx c x).fw = s.fw := (rfl)
@[simp] theorem State.setCtx_asy (c : Nat) (x : CtxS) : (s.setCtx c x).asy = s.asy := (rfl)
@[simp] theorem State.setCtx_tal (c : Nat) (x : CtxS) : (s.setCtx c x).tal = s.tal := (rfl)
@[simp] theorem State.setCtx_crier (c : Nat) (x : CtxS) : (s.setCtx c x).crier = s.crier := (rfl)
@[simp] theorem State.setCtx_crierSlip (c : Nat) (x : CtxS) : (s.setCtx c x).crierSlip = s.crierSlip := (rfl)
@[simp] theorem State.setCtx_freeCtr (c : Nat) (x : CtxS) : (s.setCtx c x).freeCtr = s.freeCtr := (rfl)

/-! ### setStream -/

@[simp] theorem State.setStream_pending (k : Nat) (x : WStr) : (s.setStream k x).pending = s.pending := (rfl)
@[simp] theorem State.setStream_regs (k : Nat) (x : WStr) : (s.setStream k x).regs = s.regs := (rfl)
@[simp] theorem State.setStream_live (k : Nat) (x : WStr) : (s.setStream k x).live = s.live := (rfl)
@[simp] theorem State.setStream_clk (k : Nat) (x : WStr) : (s.setStream k x).clk = s.clk := (rfl)
@[simp] theorem State.setStream_sys (k : Nat) (x : WStr) : (s.setStream k x).sys = s.sys := (rfl)
@[simp] theorem State.setStream_out (k : Nat) (x : WStr) : (s.setStream k x).out = s.out := (rfl)
@[simp] theorem State.setStream_rate (k : Nat) (x : WStr) : (s.setStream k x).rate = s.rate := (rfl)
@[simp] theorem State.setStream_link (k : Nat) (x : WStr) : (s.setStream k x).link = s.link := (rfl)
@[simp] theorem State.setStream_linkq (k : Nat) (x : WStr) : (s.setStream k x).linkq = s.linkq := (rfl)
@[simp] theorem State.setStream_rx (k : Nat) (x : WStr) : (s.setStream k x).rx = s.rx := (rfl)
@[simp] theorem State.setStream_tx (k : Nat) (x : WStr) : (s.setStream k x).tx = s.tx := (rfl)
@[simp] theorem State.setStream_fab (k : Nat) (x : WStr) : (s.setStream k x).fab = s.fab := (rfl)
@[simp] theorem State.setStream_map (k : Nat) (x : WStr) : (s.setStream k x).map = s.map := (rfl)
@[simp] theorem State.setStream_grp (k : Nat) (x : WStr) : (s.setStream k x).grp = s.grp := (rfl)
@[simp] theorem State.setStream_prot (k : Nat) (x : WStr) : (s.setStream k x).prot = s.prot := (rfl)
@[simp] theorem State.setStream_led (k : Nat) (x : WStr) : (s.setStream k x).led = s.led := (rfl)
@[simp] theorem State.setStream_ref (k : Nat) (x : WStr) : (s.setStream k x).ref = s.ref := (rfl)
@[simp] theorem State.setStream_tim (k : Nat) (x : WStr) : (s.setStream k x).tim = s.tim := (rfl)
@[simp] theorem State.setStream_mem (k : Nat) (x : WStr) : (s.setStream k x).mem = s.mem := (rfl)
@[simp] theorem State.setStream_mtx (k : Nat) (x : WStr) : (s.setStream k x).mtx = s.mtx := (rfl)
@[simp] theorem State.setStream_hdp (k : Nat) (x : WStr) : (s.setStream k x).hdp = s.hdp := (rfl)
@[simp] theorem State.setStream_fw (k : Nat) (x : WStr) : (s.setStream k x).fw = s.fw := (rfl)
@[simp] theorem State.setStream_asy (k : Nat) (x : WStr) : (s.setStream k x).asy = s.asy := (rfl)
@[simp] theorem State.setStream_tal (k : Nat) (x : WStr) : (s.setStream k x).tal = s.tal := (rfl)
@[simp] theorem State.setStream_crier (k : Nat) (x : WStr) : (s.setStream k x).crier = s.crier := (rfl)
@[simp] theorem State.setStream_crierSlip (k : Nat) (x : WStr) : (s.setStream k x).crierSlip = s.crierSlip := (rfl)
@[simp] theorem State.setStream_freeCtr (k : Nat) (x : WStr) : (s.setStream k x).freeCtr = s.freeCtr := (rfl)

/-! ### setInput -/

@[simp] theorem State.setInput_pending (i : Nat) (x : InS) : (s.setInput i x).pending = s.pending := (rfl)
@[simp] theorem State.setInput_regs (i : Nat) (x : InS) : (s.setInput i x).regs = s.regs := (rfl)
@[simp] theorem State.setInput_live (i : Nat) (x : InS) : (s.setInput i x).live = s.live := (rfl)
@[simp] theorem State.setInput_clk (i : Nat) (x : InS) : (s.setInput i x).clk = s.clk := (rfl)
@[simp] theorem State.setInput_sys (i : Nat) (x : InS) : (s.setInput i x).sys = s.sys := (rfl)
@[simp] theorem State.setInput_out (i : Nat) (x : InS) : (s.setInput i x).out = s.out := (rfl)
@[simp] theorem State.setInput_rate (i : Nat) (x : InS) : (s.setInput i x).rate = s.rate := (rfl)
@[simp] theorem State.setInput_link (i : Nat) (x : InS) : (s.setInput i x).link = s.link := (rfl)
@[simp] theorem State.setInput_linkq (i : Nat) (x : InS) : (s.setInput i x).linkq = s.linkq := (rfl)
@[simp] theorem State.setInput_rx (i : Nat) (x : InS) : (s.setInput i x).rx = s.rx := (rfl)
@[simp] theorem State.setInput_tx (i : Nat) (x : InS) : (s.setInput i x).tx = s.tx := (rfl)
@[simp] theorem State.setInput_fab (i : Nat) (x : InS) : (s.setInput i x).fab = s.fab := (rfl)
@[simp] theorem State.setInput_map (i : Nat) (x : InS) : (s.setInput i x).map = s.map := (rfl)
@[simp] theorem State.setInput_grp (i : Nat) (x : InS) : (s.setInput i x).grp = s.grp := (rfl)
@[simp] theorem State.setInput_prot (i : Nat) (x : InS) : (s.setInput i x).prot = s.prot := (rfl)
@[simp] theorem State.setInput_wit (i : Nat) (x : InS) : (s.setInput i x).wit = s.wit := (rfl)
@[simp] theorem State.setInput_led (i : Nat) (x : InS) : (s.setInput i x).led = s.led := (rfl)
@[simp] theorem State.setInput_tim (i : Nat) (x : InS) : (s.setInput i x).tim = s.tim := (rfl)
@[simp] theorem State.setInput_mem (i : Nat) (x : InS) : (s.setInput i x).mem = s.mem := (rfl)
@[simp] theorem State.setInput_mtx (i : Nat) (x : InS) : (s.setInput i x).mtx = s.mtx := (rfl)
@[simp] theorem State.setInput_hdp (i : Nat) (x : InS) : (s.setInput i x).hdp = s.hdp := (rfl)
@[simp] theorem State.setInput_fw (i : Nat) (x : InS) : (s.setInput i x).fw = s.fw := (rfl)
@[simp] theorem State.setInput_asy (i : Nat) (x : InS) : (s.setInput i x).asy = s.asy := (rfl)
@[simp] theorem State.setInput_tal (i : Nat) (x : InS) : (s.setInput i x).tal = s.tal := (rfl)
@[simp] theorem State.setInput_crier (i : Nat) (x : InS) : (s.setInput i x).crier = s.crier := (rfl)
@[simp] theorem State.setInput_crierSlip (i : Nat) (x : InS) : (s.setInput i x).crierSlip = s.crierSlip := (rfl)
@[simp] theorem State.setInput_freeCtr (i : Nat) (x : InS) : (s.setInput i x).freeCtr = s.freeCtr := (rfl)

/-! ### setSession -/

@[simp] theorem State.setSession_pending (k : Nat) (x : Ses) : (s.setSession k x).pending = s.pending := (rfl)
@[simp] theorem State.setSession_regs (k : Nat) (x : Ses) : (s.setSession k x).regs = s.regs := (rfl)
@[simp] theorem State.setSession_live (k : Nat) (x : Ses) : (s.setSession k x).live = s.live := (rfl)
@[simp] theorem State.setSession_clk (k : Nat) (x : Ses) : (s.setSession k x).clk = s.clk := (rfl)
@[simp] theorem State.setSession_sys (k : Nat) (x : Ses) : (s.setSession k x).sys = s.sys := (rfl)
@[simp] theorem State.setSession_out (k : Nat) (x : Ses) : (s.setSession k x).out = s.out := (rfl)
@[simp] theorem State.setSession_rate (k : Nat) (x : Ses) : (s.setSession k x).rate = s.rate := (rfl)
@[simp] theorem State.setSession_link (k : Nat) (x : Ses) : (s.setSession k x).link = s.link := (rfl)
@[simp] theorem State.setSession_linkq (k : Nat) (x : Ses) : (s.setSession k x).linkq = s.linkq := (rfl)
@[simp] theorem State.setSession_rx (k : Nat) (x : Ses) : (s.setSession k x).rx = s.rx := (rfl)
@[simp] theorem State.setSession_tx (k : Nat) (x : Ses) : (s.setSession k x).tx = s.tx := (rfl)
@[simp] theorem State.setSession_fab (k : Nat) (x : Ses) : (s.setSession k x).fab = s.fab := (rfl)
@[simp] theorem State.setSession_map (k : Nat) (x : Ses) : (s.setSession k x).map = s.map := (rfl)
@[simp] theorem State.setSession_grp (k : Nat) (x : Ses) : (s.setSession k x).grp = s.grp := (rfl)
@[simp] theorem State.setSession_prot (k : Nat) (x : Ses) : (s.setSession k x).prot = s.prot := (rfl)
@[simp] theorem State.setSession_wit (k : Nat) (x : Ses) : (s.setSession k x).wit = s.wit := (rfl)
@[simp] theorem State.setSession_led (k : Nat) (x : Ses) : (s.setSession k x).led = s.led := (rfl)
@[simp] theorem State.setSession_ref (k : Nat) (x : Ses) : (s.setSession k x).ref = s.ref := (rfl)
@[simp] theorem State.setSession_tim (k : Nat) (x : Ses) : (s.setSession k x).tim = s.tim := (rfl)
@[simp] theorem State.setSession_mem (k : Nat) (x : Ses) : (s.setSession k x).mem = s.mem := (rfl)
@[simp] theorem State.setSession_mtx (k : Nat) (x : Ses) : (s.setSession k x).mtx = s.mtx := (rfl)
@[simp] theorem State.setSession_fw (k : Nat) (x : Ses) : (s.setSession k x).fw = s.fw := (rfl)
@[simp] theorem State.setSession_asy (k : Nat) (x : Ses) : (s.setSession k x).asy = s.asy := (rfl)
@[simp] theorem State.setSession_tal (k : Nat) (x : Ses) : (s.setSession k x).tal = s.tal := (rfl)
@[simp] theorem State.setSession_crier (k : Nat) (x : Ses) : (s.setSession k x).crier = s.crier := (rfl)
@[simp] theorem State.setSession_crierSlip (k : Nat) (x : Ses) : (s.setSession k x).crierSlip = s.crierSlip := (rfl)
@[simp] theorem State.setSession_freeCtr (k : Nat) (x : Ses) : (s.setSession k x).freeCtr = s.freeCtr := (rfl)

/-! ### freeTaken -/

@[simp] theorem State.freeTaken_pending : (s.freeTaken).pending = s.pending := (rfl)
@[simp] theorem State.freeTaken_regs : (s.freeTaken).regs = s.regs := (rfl)
@[simp] theorem State.freeTaken_live : (s.freeTaken).live = s.live := (rfl)
@[simp] theorem State.freeTaken_clk : (s.freeTaken).clk = s.clk := (rfl)
@[simp] theorem State.freeTaken_sys : (s.freeTaken).sys = s.sys := (rfl)
@[simp] theorem State.freeTaken_out : (s.freeTaken).out = s.out := (rfl)
@[simp] theorem State.freeTaken_rate : (s.freeTaken).rate = s.rate := (rfl)
@[simp] theorem State.freeTaken_link : (s.freeTaken).link = s.link := (rfl)
@[simp] theorem State.freeTaken_linkq : (s.freeTaken).linkq = s.linkq := (rfl)
@[simp] theorem State.freeTaken_rx : (s.freeTaken).rx = s.rx := (rfl)
@[simp] theorem State.freeTaken_tx : (s.freeTaken).tx = s.tx := (rfl)
@[simp] theorem State.freeTaken_fab : (s.freeTaken).fab = s.fab := (rfl)
@[simp] theorem State.freeTaken_map : (s.freeTaken).map = s.map := (rfl)
@[simp] theorem State.freeTaken_grp : (s.freeTaken).grp = s.grp := (rfl)
@[simp] theorem State.freeTaken_prot : (s.freeTaken).prot = s.prot := (rfl)
@[simp] theorem State.freeTaken_wit : (s.freeTaken).wit = s.wit := (rfl)
@[simp] theorem State.freeTaken_led : (s.freeTaken).led = s.led := (rfl)
@[simp] theorem State.freeTaken_ref : (s.freeTaken).ref = s.ref := (rfl)
@[simp] theorem State.freeTaken_tim : (s.freeTaken).tim = s.tim := (rfl)
@[simp] theorem State.freeTaken_mem : (s.freeTaken).mem = s.mem := (rfl)
@[simp] theorem State.freeTaken_mtx : (s.freeTaken).mtx = s.mtx := (rfl)
@[simp] theorem State.freeTaken_hdp : (s.freeTaken).hdp = s.hdp := (rfl)
@[simp] theorem State.freeTaken_fw : (s.freeTaken).fw = s.fw := (rfl)
@[simp] theorem State.freeTaken_asy : (s.freeTaken).asy = s.asy := (rfl)
@[simp] theorem State.freeTaken_tal : (s.freeTaken).tal = s.tal := (rfl)
@[simp] theorem State.freeTaken_crier : (s.freeTaken).crier = s.crier := (rfl)
@[simp] theorem State.freeTaken_crierSlip : (s.freeTaken).crierSlip = s.crierSlip := (rfl)

/-! ### send -/

@[simp] theorem State.send_pending (m : Sent) : (s.send m).pending = s.pending := (rfl)
@[simp] theorem State.send_regs (m : Sent) : (s.send m).regs = s.regs := (rfl)
@[simp] theorem State.send_live (m : Sent) : (s.send m).live = s.live := (rfl)
@[simp] theorem State.send_clk (m : Sent) : (s.send m).clk = s.clk := (rfl)
@[simp] theorem State.send_sys (m : Sent) : (s.send m).sys = s.sys := (rfl)
@[simp] theorem State.send_rate (m : Sent) : (s.send m).rate = s.rate := (rfl)
@[simp] theorem State.send_link (m : Sent) : (s.send m).link = s.link := (rfl)
@[simp] theorem State.send_linkq (m : Sent) : (s.send m).linkq = s.linkq := (rfl)
@[simp] theorem State.send_rx (m : Sent) : (s.send m).rx = s.rx := (rfl)
@[simp] theorem State.send_tx (m : Sent) : (s.send m).tx = s.tx := (rfl)
@[simp] theorem State.send_fab (m : Sent) : (s.send m).fab = s.fab := (rfl)
@[simp] theorem State.send_map (m : Sent) : (s.send m).map = s.map := (rfl)
@[simp] theorem State.send_grp (m : Sent) : (s.send m).grp = s.grp := (rfl)
@[simp] theorem State.send_prot (m : Sent) : (s.send m).prot = s.prot := (rfl)
@[simp] theorem State.send_wit (m : Sent) : (s.send m).wit = s.wit := (rfl)
@[simp] theorem State.send_led (m : Sent) : (s.send m).led = s.led := (rfl)
@[simp] theorem State.send_ref (m : Sent) : (s.send m).ref = s.ref := (rfl)
@[simp] theorem State.send_tim (m : Sent) : (s.send m).tim = s.tim := (rfl)
@[simp] theorem State.send_mem (m : Sent) : (s.send m).mem = s.mem := (rfl)
@[simp] theorem State.send_mtx (m : Sent) : (s.send m).mtx = s.mtx := (rfl)
@[simp] theorem State.send_hdp (m : Sent) : (s.send m).hdp = s.hdp := (rfl)
@[simp] theorem State.send_fw (m : Sent) : (s.send m).fw = s.fw := (rfl)
@[simp] theorem State.send_asy (m : Sent) : (s.send m).asy = s.asy := (rfl)
@[simp] theorem State.send_tal (m : Sent) : (s.send m).tal = s.tal := (rfl)
@[simp] theorem State.send_crier (m : Sent) : (s.send m).crier = s.crier := (rfl)
@[simp] theorem State.send_crierSlip (m : Sent) : (s.send m).crierSlip = s.crierSlip := (rfl)
@[simp] theorem State.send_freeCtr (m : Sent) : (s.send m).freeCtr = s.freeCtr := (rfl)

/-! ### answer -/

@[simp] theorem State.answer_pending (c : Nat) : (s.answer c).pending = s.pending := (rfl)
@[simp] theorem State.answer_regs (c : Nat) : (s.answer c).regs = s.regs := (rfl)
@[simp] theorem State.answer_live (c : Nat) : (s.answer c).live = s.live := (rfl)
@[simp] theorem State.answer_clk (c : Nat) : (s.answer c).clk = s.clk := (rfl)
@[simp] theorem State.answer_sys (c : Nat) : (s.answer c).sys = s.sys := (rfl)
@[simp] theorem State.answer_rate (c : Nat) : (s.answer c).rate = s.rate := (rfl)
@[simp] theorem State.answer_link (c : Nat) : (s.answer c).link = s.link := (rfl)
@[simp] theorem State.answer_linkq (c : Nat) : (s.answer c).linkq = s.linkq := (rfl)
@[simp] theorem State.answer_rx (c : Nat) : (s.answer c).rx = s.rx := (rfl)
@[simp] theorem State.answer_tx (c : Nat) : (s.answer c).tx = s.tx := (rfl)
@[simp] theorem State.answer_fab (c : Nat) : (s.answer c).fab = s.fab := (rfl)
@[simp] theorem State.answer_map (c : Nat) : (s.answer c).map = s.map := (rfl)
@[simp] theorem State.answer_grp (c : Nat) : (s.answer c).grp = s.grp := (rfl)
@[simp] theorem State.answer_prot (c : Nat) : (s.answer c).prot = s.prot := (rfl)
@[simp] theorem State.answer_wit (c : Nat) : (s.answer c).wit = s.wit := (rfl)
@[simp] theorem State.answer_led (c : Nat) : (s.answer c).led = s.led := (rfl)
@[simp] theorem State.answer_ref (c : Nat) : (s.answer c).ref = s.ref := (rfl)
@[simp] theorem State.answer_tim (c : Nat) : (s.answer c).tim = s.tim := (rfl)
@[simp] theorem State.answer_mem (c : Nat) : (s.answer c).mem = s.mem := (rfl)
@[simp] theorem State.answer_mtx (c : Nat) : (s.answer c).mtx = s.mtx := (rfl)
@[simp] theorem State.answer_hdp (c : Nat) : (s.answer c).hdp = s.hdp := (rfl)
@[simp] theorem State.answer_fw (c : Nat) : (s.answer c).fw = s.fw := (rfl)
@[simp] theorem State.answer_asy (c : Nat) : (s.answer c).asy = s.asy := (rfl)
@[simp] theorem State.answer_tal (c : Nat) : (s.answer c).tal = s.tal := (rfl)
@[simp] theorem State.answer_crier (c : Nat) : (s.answer c).crier = s.crier := (rfl)
@[simp] theorem State.answer_crierSlip (c : Nat) : (s.answer c).crierSlip = s.crierSlip := (rfl)
@[simp] theorem State.answer_freeCtr (c : Nat) : (s.answer c).freeCtr = s.freeCtr := (rfl)

/-! ### give -/

@[simp] theorem State.give_pending (v : List Byte) : (s.give v).pending = s.pending := (rfl)
@[simp] theorem State.give_regs (v : List Byte) : (s.give v).regs = s.regs := (rfl)
@[simp] theorem State.give_live (v : List Byte) : (s.give v).live = s.live := (rfl)
@[simp] theorem State.give_clk (v : List Byte) : (s.give v).clk = s.clk := (rfl)
@[simp] theorem State.give_sys (v : List Byte) : (s.give v).sys = s.sys := (rfl)
@[simp] theorem State.give_rate (v : List Byte) : (s.give v).rate = s.rate := (rfl)
@[simp] theorem State.give_link (v : List Byte) : (s.give v).link = s.link := (rfl)
@[simp] theorem State.give_linkq (v : List Byte) : (s.give v).linkq = s.linkq := (rfl)
@[simp] theorem State.give_rx (v : List Byte) : (s.give v).rx = s.rx := (rfl)
@[simp] theorem State.give_tx (v : List Byte) : (s.give v).tx = s.tx := (rfl)
@[simp] theorem State.give_fab (v : List Byte) : (s.give v).fab = s.fab := (rfl)
@[simp] theorem State.give_map (v : List Byte) : (s.give v).map = s.map := (rfl)
@[simp] theorem State.give_grp (v : List Byte) : (s.give v).grp = s.grp := (rfl)
@[simp] theorem State.give_prot (v : List Byte) : (s.give v).prot = s.prot := (rfl)
@[simp] theorem State.give_wit (v : List Byte) : (s.give v).wit = s.wit := (rfl)
@[simp] theorem State.give_led (v : List Byte) : (s.give v).led = s.led := (rfl)
@[simp] theorem State.give_ref (v : List Byte) : (s.give v).ref = s.ref := (rfl)
@[simp] theorem State.give_tim (v : List Byte) : (s.give v).tim = s.tim := (rfl)
@[simp] theorem State.give_mem (v : List Byte) : (s.give v).mem = s.mem := (rfl)
@[simp] theorem State.give_mtx (v : List Byte) : (s.give v).mtx = s.mtx := (rfl)
@[simp] theorem State.give_hdp (v : List Byte) : (s.give v).hdp = s.hdp := (rfl)
@[simp] theorem State.give_fw (v : List Byte) : (s.give v).fw = s.fw := (rfl)
@[simp] theorem State.give_asy (v : List Byte) : (s.give v).asy = s.asy := (rfl)
@[simp] theorem State.give_tal (v : List Byte) : (s.give v).tal = s.tal := (rfl)
@[simp] theorem State.give_crier (v : List Byte) : (s.give v).crier = s.crier := (rfl)
@[simp] theorem State.give_crierSlip (v : List Byte) : (s.give v).crierSlip = s.crierSlip := (rfl)
@[simp] theorem State.give_freeCtr (v : List Byte) : (s.give v).freeCtr = s.freeCtr := (rfl)

/-! ### fresh -/

@[simp] theorem State.fresh_pending : (s.fresh).pending = s.pending := (rfl)
@[simp] theorem State.fresh_regs : (s.fresh).regs = s.regs := (rfl)
@[simp] theorem State.fresh_live : (s.fresh).live = s.live := (rfl)
@[simp] theorem State.fresh_clk : (s.fresh).clk = s.clk := (rfl)
@[simp] theorem State.fresh_sys : (s.fresh).sys = s.sys := (rfl)
@[simp] theorem State.fresh_rate : (s.fresh).rate = s.rate := (rfl)
@[simp] theorem State.fresh_link : (s.fresh).link = s.link := (rfl)
@[simp] theorem State.fresh_linkq : (s.fresh).linkq = s.linkq := (rfl)
@[simp] theorem State.fresh_rx : (s.fresh).rx = s.rx := (rfl)
@[simp] theorem State.fresh_tx : (s.fresh).tx = s.tx := (rfl)
@[simp] theorem State.fresh_fab : (s.fresh).fab = s.fab := (rfl)
@[simp] theorem State.fresh_map : (s.fresh).map = s.map := (rfl)
@[simp] theorem State.fresh_grp : (s.fresh).grp = s.grp := (rfl)
@[simp] theorem State.fresh_prot : (s.fresh).prot = s.prot := (rfl)
@[simp] theorem State.fresh_wit : (s.fresh).wit = s.wit := (rfl)
@[simp] theorem State.fresh_led : (s.fresh).led = s.led := (rfl)
@[simp] theorem State.fresh_ref : (s.fresh).ref = s.ref := (rfl)
@[simp] theorem State.fresh_tim : (s.fresh).tim = s.tim := (rfl)
@[simp] theorem State.fresh_mem : (s.fresh).mem = s.mem := (rfl)
@[simp] theorem State.fresh_mtx : (s.fresh).mtx = s.mtx := (rfl)
@[simp] theorem State.fresh_hdp : (s.fresh).hdp = s.hdp := (rfl)
@[simp] theorem State.fresh_fw : (s.fresh).fw = s.fw := (rfl)
@[simp] theorem State.fresh_asy : (s.fresh).asy = s.asy := (rfl)
@[simp] theorem State.fresh_tal : (s.fresh).tal = s.tal := (rfl)
@[simp] theorem State.fresh_crier : (s.fresh).crier = s.crier := (rfl)
@[simp] theorem State.fresh_crierSlip : (s.fresh).crierSlip = s.crierSlip := (rfl)
@[simp] theorem State.fresh_freeCtr : (s.fresh).freeCtr = s.freeCtr := (rfl)

/-! ### withQueue -/

@[simp] theorem State.withQueue_regs (q : List Instr) : (s.withQueue q).regs = s.regs := (rfl)
@[simp] theorem State.withQueue_live (q : List Instr) : (s.withQueue q).live = s.live := (rfl)
@[simp] theorem State.withQueue_clk (q : List Instr) : (s.withQueue q).clk = s.clk := (rfl)
@[simp] theorem State.withQueue_sys (q : List Instr) : (s.withQueue q).sys = s.sys := (rfl)
@[simp] theorem State.withQueue_out (q : List Instr) : (s.withQueue q).out = s.out := (rfl)
@[simp] theorem State.withQueue_rate (q : List Instr) : (s.withQueue q).rate = s.rate := (rfl)
@[simp] theorem State.withQueue_link (q : List Instr) : (s.withQueue q).link = s.link := (rfl)
@[simp] theorem State.withQueue_linkq (q : List Instr) : (s.withQueue q).linkq = s.linkq := (rfl)
@[simp] theorem State.withQueue_rx (q : List Instr) : (s.withQueue q).rx = s.rx := (rfl)
@[simp] theorem State.withQueue_tx (q : List Instr) : (s.withQueue q).tx = s.tx := (rfl)
@[simp] theorem State.withQueue_fab (q : List Instr) : (s.withQueue q).fab = s.fab := (rfl)
@[simp] theorem State.withQueue_map (q : List Instr) : (s.withQueue q).map = s.map := (rfl)
@[simp] theorem State.withQueue_grp (q : List Instr) : (s.withQueue q).grp = s.grp := (rfl)
@[simp] theorem State.withQueue_prot (q : List Instr) : (s.withQueue q).prot = s.prot := (rfl)
@[simp] theorem State.withQueue_wit (q : List Instr) : (s.withQueue q).wit = s.wit := (rfl)
@[simp] theorem State.withQueue_led (q : List Instr) : (s.withQueue q).led = s.led := (rfl)
@[simp] theorem State.withQueue_ref (q : List Instr) : (s.withQueue q).ref = s.ref := (rfl)
@[simp] theorem State.withQueue_tim (q : List Instr) : (s.withQueue q).tim = s.tim := (rfl)
@[simp] theorem State.withQueue_mem (q : List Instr) : (s.withQueue q).mem = s.mem := (rfl)
@[simp] theorem State.withQueue_mtx (q : List Instr) : (s.withQueue q).mtx = s.mtx := (rfl)
@[simp] theorem State.withQueue_hdp (q : List Instr) : (s.withQueue q).hdp = s.hdp := (rfl)
@[simp] theorem State.withQueue_fw (q : List Instr) : (s.withQueue q).fw = s.fw := (rfl)
@[simp] theorem State.withQueue_asy (q : List Instr) : (s.withQueue q).asy = s.asy := (rfl)
@[simp] theorem State.withQueue_tal (q : List Instr) : (s.withQueue q).tal = s.tal := (rfl)
@[simp] theorem State.withQueue_crier (q : List Instr) : (s.withQueue q).crier = s.crier := (rfl)
@[simp] theorem State.withQueue_crierSlip (q : List Instr) : (s.withQueue q).crierSlip = s.crierSlip := (rfl)
@[simp] theorem State.withQueue_freeCtr (q : List Instr) : (s.withQueue q).freeCtr = s.freeCtr := (rfl)

/-! ### What is read after a write -/

/-- A register keeps the value written. -/
@[simp] theorem State.reg_setReg_self (i e v : Nat) : (s.setReg i e v).reg i e = v := by
  simp [State.reg, State.setReg]

/-- Two elements that the dictionary can name share a key only when they are one. -/
theorem regKey_inj {i e j f : Nat} (he : e < 2 ^ 24) (hf : f < 2 ^ 24) (h : regKey i e = regKey j f) :
    i = j ∧ e = f := by
  unfold regKey at h
  omega

theorem regKey_ne_of_obj {i e j f : Nat} (h : j ≠ i) : regKey j f ≠ regKey i e := by
  unfold regKey
  omega

/-- A write to one object leaves every other object alone. -/
@[simp] theorem State.reg_setReg_obj {i e v j f : Nat} (h : j ≠ i) : (s.setReg i e v).reg j f = s.reg j f := by
  simp [State.reg, State.setReg, SMap.get_set_ne _ _ _ _ (regKey_ne_of_obj h)]

/-- A write to one element leaves every other element alone. -/
theorem State.reg_setReg_elem {i e v f : Nat} (he : e < 2 ^ 24) (hf : f < 2 ^ 24) (h : f ≠ e) :
    (s.setReg i e v).reg i f = s.reg i f := by
  have hk : regKey i f ≠ regKey i e := fun c => h (regKey_inj hf he c).2
  simp [State.reg, State.setReg, SMap.get_set_ne _ _ _ _ hk]

@[simp] theorem State.lreg_setLive_self (i e v : Nat) : (s.setLive i e v).lreg i e = v := by
  simp [State.lreg, State.setLive]

theorem State.lreg_setLive_obj {i e v j f : Nat} (h : j ≠ i) : (s.setLive i e v).lreg j f = s.lreg j f := by
  simp [State.lreg, State.setLive, SMap.get_set_ne _ _ _ _ (regKey_ne_of_obj h)]

@[simp] theorem State.lreg_setReg (i e v j f : Nat) : (s.setReg i e v).lreg j f = s.lreg j f := (rfl)

@[simp] theorem State.reg_setLive (i e v j f : Nat) : (s.setLive i e v).reg j f = s.reg j f := (rfl)

/-- A register depends on nothing but the register array. -/
theorem State.reg_congr {s t : State} (h : s.regs = t.regs) (i e : Nat) : s.reg i e = t.reg i e := by
  simp [State.reg, h]

theorem State.lreg_congr {s t : State} (h : s.live = t.live) (i e : Nat) : s.lreg i e = t.lreg i e := by
  simp [State.lreg, h]

@[simp] theorem State.reg_bump_self (i e w n : Nat) : (s.bump i e w n).reg i e = (s.reg i e + n) % 2 ^ w := by
  simp [State.bump]

@[simp] theorem State.reg_bump_obj {i e w n j f : Nat} (h : j ≠ i) : (s.bump i e w n).reg j f = s.reg j f :=
  State.reg_setReg_obj s h

@[simp] theorem State.reg_setOct_obj {i e n k : Nat} {b : Bool} {j f : Nat} (h : j ≠ i) :
    (s.setOct i e n k b).reg j f = s.reg j f := State.reg_setReg_obj s h

@[simp] theorem State.linkP_setLink_self (k : Nat) (x : LinkP) : (s.setLink k x).linkP k = x := by
  simp [State.linkP, State.setLink]

theorem State.linkP_setLink_ne {k j : Nat} (x : LinkP) (h : j ≠ k) : (s.setLink k x).linkP j = s.linkP j := by
  simp [State.linkP, State.setLink, SMap.get_set_ne _ _ _ _ h]

@[simp] theorem State.linkQ_setLinkQ_self (k : Nat) (x : LinkQ) : (s.setLinkQ k x).linkQ k = x := by
  simp [State.linkQ, State.setLinkQ]

theorem State.linkQ_setLinkQ_ne {k j : Nat} (x : LinkQ) (h : j ≠ k) : (s.setLinkQ k x).linkQ j = s.linkQ j := by
  simp [State.linkQ, State.setLinkQ, SMap.get_set_ne _ _ _ _ h]

@[simp] theorem State.rxG_setRx_self (k : Nat) (x : RxG) : (s.setRx k x).rxG k = x := by
  simp [State.rxG, State.setRx]

theorem State.rxG_setRx_ne {k j : Nat} (x : RxG) (h : j ≠ k) : (s.setRx k x).rxG j = s.rxG j := by
  simp [State.rxG, State.setRx, SMap.get_set_ne _ _ _ _ h]

@[simp] theorem State.txG_setTx_self (k : Nat) (x : TxG) : (s.setTx k x).txG k = x := by
  simp [State.txG, State.setTx]

theorem State.txG_setTx_ne {k j : Nat} (x : TxG) (h : j ≠ k) : (s.setTx k x).txG j = s.txG j := by
  simp [State.txG, State.setTx, SMap.get_set_ne _ _ _ _ h]

@[simp] theorem State.line_setLine_self (k : Nat) (x : LineS) : (s.setLine k x).line k = x := by
  simp [State.line, State.setLine]

theorem State.line_setLine_ne {k j : Nat} (x : LineS) (h : j ≠ k) : (s.setLine k x).line j = s.line j := by
  simp [State.line, State.setLine, SMap.get_set_ne _ _ _ _ h]

@[simp] theorem State.ctx_setCtx_self (k : Nat) (x : CtxS) : (s.setCtx k x).ctx k = x := by
  simp [State.ctx, State.setCtx]

theorem State.ctx_setCtx_ne {k j : Nat} (x : CtxS) (h : j ≠ k) : (s.setCtx k x).ctx j = s.ctx j := by
  simp [State.ctx, State.setCtx, SMap.get_set_ne _ _ _ _ h]

@[simp] theorem State.stream_setStream_self (k : Nat) (x : WStr) : (s.setStream k x).stream k = x := by
  simp [State.stream, State.setStream]

theorem State.stream_setStream_ne {k j : Nat} (x : WStr) (h : j ≠ k) : (s.setStream k x).stream j = s.stream j := by
  simp [State.stream, State.setStream, SMap.get_set_ne _ _ _ _ h]

@[simp] theorem State.input_setInput_self (k : Nat) (x : InS) : (s.setInput k x).input k = x := by
  simp [State.input, State.setInput]

theorem State.input_setInput_ne {k j : Nat} (x : InS) (h : j ≠ k) : (s.setInput k x).input j = s.input j := by
  simp [State.input, State.setInput, SMap.get_set_ne _ _ _ _ h]

@[simp] theorem State.session_setSession_self (k : Nat) (x : Ses) : (s.setSession k x).session k = x := by
  simp [State.session, State.setSession]

theorem State.session_setSession_ne {k j : Nat} (x : Ses) (h : j ≠ k) : (s.setSession k x).session j = s.session j := by
  simp [State.session, State.setSession, SMap.get_set_ne _ _ _ _ h]

@[simp] theorem State.linkP_setReg (i e v : Nat) (j : Nat) : (s.setReg i e v).linkP j = s.linkP j := (rfl)
@[simp] theorem State.linkP_setLive (i e v : Nat) (j : Nat) : (s.setLive i e v).linkP j = s.linkP j := (rfl)
@[simp] theorem State.linkP_bump (i e w n : Nat) (j : Nat) : (s.bump i e w n).linkP j = s.linkP j := (rfl)
@[simp] theorem State.linkP_setOct (i e n k : Nat) (b : Bool) (j : Nat) :
    (s.setOct i e n k b).linkP j = s.linkP j := (rfl)
@[simp] theorem State.linkP_setLinkQ (p : Nat) (l : LinkQ) (j : Nat) : (s.setLinkQ p l).linkP j = s.linkP j := (rfl)
@[simp] theorem State.linkP_setRx (a : Nat) (g : RxG) (j : Nat) : (s.setRx a g).linkP j = s.linkP j := (rfl)
@[simp] theorem State.linkP_setTx (a : Nat) (g : TxG) (j : Nat) : (s.setTx a g).linkP j = s.linkP j := (rfl)
@[simp] theorem State.linkP_setLine (a : Nat) (l : LineS) (j : Nat) : (s.setLine a l).linkP j = s.linkP j := (rfl)
@[simp] theorem State.linkP_setCtx (c : Nat) (x : CtxS) (j : Nat) : (s.setCtx c x).linkP j = s.linkP j := (rfl)
@[simp] theorem State.linkP_setStream (k : Nat) (x : WStr) (j : Nat) : (s.setStream k x).linkP j = s.linkP j := (rfl)
@[simp] theorem State.linkP_setInput (i : Nat) (x : InS) (j : Nat) : (s.setInput i x).linkP j = s.linkP j := (rfl)
@[simp] theorem State.linkP_setSession (k : Nat) (x : Ses) (j : Nat) : (s.setSession k x).linkP j = s.linkP j := (rfl)
@[simp] theorem State.linkP_freeTaken (j : Nat) : (s.freeTaken).linkP j = s.linkP j := (rfl)
@[simp] theorem State.linkP_send (m : Sent) (j : Nat) : (s.send m).linkP j = s.linkP j := (rfl)
@[simp] theorem State.linkP_answer (c : Nat) (j : Nat) : (s.answer c).linkP j = s.linkP j := (rfl)
@[simp] theorem State.linkP_give (v : List Byte) (j : Nat) : (s.give v).linkP j = s.linkP j := (rfl)
@[simp] theorem State.linkP_fresh (j : Nat) : (s.fresh).linkP j = s.linkP j := (rfl)
@[simp] theorem State.linkP_withQueue (q : List Instr) (j : Nat) : (s.withQueue q).linkP j = s.linkP j := (rfl)

@[simp] theorem State.linkQ_setReg (i e v : Nat) (j : Nat) : (s.setReg i e v).linkQ j = s.linkQ j := (rfl)
@[simp] theorem State.linkQ_setLive (i e v : Nat) (j : Nat) : (s.setLive i e v).linkQ j = s.linkQ j := (rfl)
@[simp] theorem State.linkQ_bump (i e w n : Nat) (j : Nat) : (s.bump i e w n).linkQ j = s.linkQ j := (rfl)
@[simp] theorem State.linkQ_setOct (i e n k : Nat) (b : Bool) (j : Nat) :
    (s.setOct i e n k b).linkQ j = s.linkQ j := (rfl)
@[simp] theorem State.linkQ_setLink (p : Nat) (l : LinkP) (j : Nat) : (s.setLink p l).linkQ j = s.linkQ j := (rfl)
@[simp] theorem State.linkQ_setRx (a : Nat) (g : RxG) (j : Nat) : (s.setRx a g).linkQ j = s.linkQ j := (rfl)
@[simp] theorem State.linkQ_setTx (a : Nat) (g : TxG) (j : Nat) : (s.setTx a g).linkQ j = s.linkQ j := (rfl)
@[simp] theorem State.linkQ_setLine (a : Nat) (l : LineS) (j : Nat) : (s.setLine a l).linkQ j = s.linkQ j := (rfl)
@[simp] theorem State.linkQ_setCtx (c : Nat) (x : CtxS) (j : Nat) : (s.setCtx c x).linkQ j = s.linkQ j := (rfl)
@[simp] theorem State.linkQ_setStream (k : Nat) (x : WStr) (j : Nat) : (s.setStream k x).linkQ j = s.linkQ j := (rfl)
@[simp] theorem State.linkQ_setInput (i : Nat) (x : InS) (j : Nat) : (s.setInput i x).linkQ j = s.linkQ j := (rfl)
@[simp] theorem State.linkQ_setSession (k : Nat) (x : Ses) (j : Nat) : (s.setSession k x).linkQ j = s.linkQ j := (rfl)
@[simp] theorem State.linkQ_freeTaken (j : Nat) : (s.freeTaken).linkQ j = s.linkQ j := (rfl)
@[simp] theorem State.linkQ_send (m : Sent) (j : Nat) : (s.send m).linkQ j = s.linkQ j := (rfl)
@[simp] theorem State.linkQ_answer (c : Nat) (j : Nat) : (s.answer c).linkQ j = s.linkQ j := (rfl)
@[simp] theorem State.linkQ_give (v : List Byte) (j : Nat) : (s.give v).linkQ j = s.linkQ j := (rfl)
@[simp] theorem State.linkQ_fresh (j : Nat) : (s.fresh).linkQ j = s.linkQ j := (rfl)
@[simp] theorem State.linkQ_withQueue (q : List Instr) (j : Nat) : (s.withQueue q).linkQ j = s.linkQ j := (rfl)

@[simp] theorem State.rxG_setReg (i e v : Nat) (j : Nat) : (s.setReg i e v).rxG j = s.rxG j := (rfl)
@[simp] theorem State.rxG_setLive (i e v : Nat) (j : Nat) : (s.setLive i e v).rxG j = s.rxG j := (rfl)
@[simp] theorem State.rxG_bump (i e w n : Nat) (j : Nat) : (s.bump i e w n).rxG j = s.rxG j := (rfl)
@[simp] theorem State.rxG_setOct (i e n k : Nat) (b : Bool) (j : Nat) : (s.setOct i e n k b).rxG j = s.rxG j := (rfl)
@[simp] theorem State.rxG_setLink (p : Nat) (l : LinkP) (j : Nat) : (s.setLink p l).rxG j = s.rxG j := (rfl)
@[simp] theorem State.rxG_setLinkQ (p : Nat) (l : LinkQ) (j : Nat) : (s.setLinkQ p l).rxG j = s.rxG j := (rfl)
@[simp] theorem State.rxG_setTx (a : Nat) (g : TxG) (j : Nat) : (s.setTx a g).rxG j = s.rxG j := (rfl)
@[simp] theorem State.rxG_setLine (a : Nat) (l : LineS) (j : Nat) : (s.setLine a l).rxG j = s.rxG j := (rfl)
@[simp] theorem State.rxG_setCtx (c : Nat) (x : CtxS) (j : Nat) : (s.setCtx c x).rxG j = s.rxG j := (rfl)
@[simp] theorem State.rxG_setStream (k : Nat) (x : WStr) (j : Nat) : (s.setStream k x).rxG j = s.rxG j := (rfl)
@[simp] theorem State.rxG_setInput (i : Nat) (x : InS) (j : Nat) : (s.setInput i x).rxG j = s.rxG j := (rfl)
@[simp] theorem State.rxG_setSession (k : Nat) (x : Ses) (j : Nat) : (s.setSession k x).rxG j = s.rxG j := (rfl)
@[simp] theorem State.rxG_freeTaken (j : Nat) : (s.freeTaken).rxG j = s.rxG j := (rfl)
@[simp] theorem State.rxG_send (m : Sent) (j : Nat) : (s.send m).rxG j = s.rxG j := (rfl)
@[simp] theorem State.rxG_answer (c : Nat) (j : Nat) : (s.answer c).rxG j = s.rxG j := (rfl)
@[simp] theorem State.rxG_give (v : List Byte) (j : Nat) : (s.give v).rxG j = s.rxG j := (rfl)
@[simp] theorem State.rxG_fresh (j : Nat) : (s.fresh).rxG j = s.rxG j := (rfl)
@[simp] theorem State.rxG_withQueue (q : List Instr) (j : Nat) : (s.withQueue q).rxG j = s.rxG j := (rfl)

@[simp] theorem State.txG_setReg (i e v : Nat) (j : Nat) : (s.setReg i e v).txG j = s.txG j := (rfl)
@[simp] theorem State.txG_setLive (i e v : Nat) (j : Nat) : (s.setLive i e v).txG j = s.txG j := (rfl)
@[simp] theorem State.txG_bump (i e w n : Nat) (j : Nat) : (s.bump i e w n).txG j = s.txG j := (rfl)
@[simp] theorem State.txG_setOct (i e n k : Nat) (b : Bool) (j : Nat) : (s.setOct i e n k b).txG j = s.txG j := (rfl)
@[simp] theorem State.txG_setLink (p : Nat) (l : LinkP) (j : Nat) : (s.setLink p l).txG j = s.txG j := (rfl)
@[simp] theorem State.txG_setLinkQ (p : Nat) (l : LinkQ) (j : Nat) : (s.setLinkQ p l).txG j = s.txG j := (rfl)
@[simp] theorem State.txG_setRx (a : Nat) (g : RxG) (j : Nat) : (s.setRx a g).txG j = s.txG j := (rfl)
@[simp] theorem State.txG_setLine (a : Nat) (l : LineS) (j : Nat) : (s.setLine a l).txG j = s.txG j := (rfl)
@[simp] theorem State.txG_setCtx (c : Nat) (x : CtxS) (j : Nat) : (s.setCtx c x).txG j = s.txG j := (rfl)
@[simp] theorem State.txG_setStream (k : Nat) (x : WStr) (j : Nat) : (s.setStream k x).txG j = s.txG j := (rfl)
@[simp] theorem State.txG_setInput (i : Nat) (x : InS) (j : Nat) : (s.setInput i x).txG j = s.txG j := (rfl)
@[simp] theorem State.txG_setSession (k : Nat) (x : Ses) (j : Nat) : (s.setSession k x).txG j = s.txG j := (rfl)
@[simp] theorem State.txG_freeTaken (j : Nat) : (s.freeTaken).txG j = s.txG j := (rfl)
@[simp] theorem State.txG_send (m : Sent) (j : Nat) : (s.send m).txG j = s.txG j := (rfl)
@[simp] theorem State.txG_answer (c : Nat) (j : Nat) : (s.answer c).txG j = s.txG j := (rfl)
@[simp] theorem State.txG_give (v : List Byte) (j : Nat) : (s.give v).txG j = s.txG j := (rfl)
@[simp] theorem State.txG_fresh (j : Nat) : (s.fresh).txG j = s.txG j := (rfl)
@[simp] theorem State.txG_withQueue (q : List Instr) (j : Nat) : (s.withQueue q).txG j = s.txG j := (rfl)

@[simp] theorem State.line_setReg (i e v : Nat) (j : Nat) : (s.setReg i e v).line j = s.line j := (rfl)
@[simp] theorem State.line_setLive (i e v : Nat) (j : Nat) : (s.setLive i e v).line j = s.line j := (rfl)
@[simp] theorem State.line_bump (i e w n : Nat) (j : Nat) : (s.bump i e w n).line j = s.line j := (rfl)
@[simp] theorem State.line_setOct (i e n k : Nat) (b : Bool) (j : Nat) : (s.setOct i e n k b).line j = s.line j := (rfl)
@[simp] theorem State.line_setLink (p : Nat) (l : LinkP) (j : Nat) : (s.setLink p l).line j = s.line j := (rfl)
@[simp] theorem State.line_setLinkQ (p : Nat) (l : LinkQ) (j : Nat) : (s.setLinkQ p l).line j = s.line j := (rfl)
@[simp] theorem State.line_setRx (a : Nat) (g : RxG) (j : Nat) : (s.setRx a g).line j = s.line j := (rfl)
@[simp] theorem State.line_setTx (a : Nat) (g : TxG) (j : Nat) : (s.setTx a g).line j = s.line j := (rfl)
@[simp] theorem State.line_setStream (k : Nat) (x : WStr) (j : Nat) : (s.setStream k x).line j = s.line j := (rfl)
@[simp] theorem State.line_setInput (i : Nat) (x : InS) (j : Nat) : (s.setInput i x).line j = s.line j := (rfl)
@[simp] theorem State.line_setSession (k : Nat) (x : Ses) (j : Nat) : (s.setSession k x).line j = s.line j := (rfl)
@[simp] theorem State.line_freeTaken (j : Nat) : (s.freeTaken).line j = s.line j := (rfl)
@[simp] theorem State.line_send (m : Sent) (j : Nat) : (s.send m).line j = s.line j := (rfl)
@[simp] theorem State.line_answer (c : Nat) (j : Nat) : (s.answer c).line j = s.line j := (rfl)
@[simp] theorem State.line_give (v : List Byte) (j : Nat) : (s.give v).line j = s.line j := (rfl)
@[simp] theorem State.line_fresh (j : Nat) : (s.fresh).line j = s.line j := (rfl)
@[simp] theorem State.line_withQueue (q : List Instr) (j : Nat) : (s.withQueue q).line j = s.line j := (rfl)

@[simp] theorem State.ctx_setReg (i e v : Nat) (j : Nat) : (s.setReg i e v).ctx j = s.ctx j := (rfl)
@[simp] theorem State.ctx_setLive (i e v : Nat) (j : Nat) : (s.setLive i e v).ctx j = s.ctx j := (rfl)
@[simp] theorem State.ctx_bump (i e w n : Nat) (j : Nat) : (s.bump i e w n).ctx j = s.ctx j := (rfl)
@[simp] theorem State.ctx_setOct (i e n k : Nat) (b : Bool) (j : Nat) : (s.setOct i e n k b).ctx j = s.ctx j := (rfl)
@[simp] theorem State.ctx_setLink (p : Nat) (l : LinkP) (j : Nat) : (s.setLink p l).ctx j = s.ctx j := (rfl)
@[simp] theorem State.ctx_setLinkQ (p : Nat) (l : LinkQ) (j : Nat) : (s.setLinkQ p l).ctx j = s.ctx j := (rfl)
@[simp] theorem State.ctx_setRx (a : Nat) (g : RxG) (j : Nat) : (s.setRx a g).ctx j = s.ctx j := (rfl)
@[simp] theorem State.ctx_setTx (a : Nat) (g : TxG) (j : Nat) : (s.setTx a g).ctx j = s.ctx j := (rfl)
@[simp] theorem State.ctx_setStream (k : Nat) (x : WStr) (j : Nat) : (s.setStream k x).ctx j = s.ctx j := (rfl)
@[simp] theorem State.ctx_setInput (i : Nat) (x : InS) (j : Nat) : (s.setInput i x).ctx j = s.ctx j := (rfl)
@[simp] theorem State.ctx_setSession (k : Nat) (x : Ses) (j : Nat) : (s.setSession k x).ctx j = s.ctx j := (rfl)
@[simp] theorem State.ctx_freeTaken (j : Nat) : (s.freeTaken).ctx j = s.ctx j := (rfl)
@[simp] theorem State.ctx_send (m : Sent) (j : Nat) : (s.send m).ctx j = s.ctx j := (rfl)
@[simp] theorem State.ctx_answer (c : Nat) (j : Nat) : (s.answer c).ctx j = s.ctx j := (rfl)
@[simp] theorem State.ctx_give (v : List Byte) (j : Nat) : (s.give v).ctx j = s.ctx j := (rfl)
@[simp] theorem State.ctx_fresh (j : Nat) : (s.fresh).ctx j = s.ctx j := (rfl)
@[simp] theorem State.ctx_withQueue (q : List Instr) (j : Nat) : (s.withQueue q).ctx j = s.ctx j := (rfl)

@[simp] theorem State.stream_setReg (i e v : Nat) (j : Nat) : (s.setReg i e v).stream j = s.stream j := (rfl)
@[simp] theorem State.stream_setLive (i e v : Nat) (j : Nat) : (s.setLive i e v).stream j = s.stream j := (rfl)
@[simp] theorem State.stream_bump (i e w n : Nat) (j : Nat) : (s.bump i e w n).stream j = s.stream j := (rfl)
@[simp] theorem State.stream_setOct (i e n k : Nat) (b : Bool) (j : Nat) :
    (s.setOct i e n k b).stream j = s.stream j := (rfl)
@[simp] theorem State.stream_setLink (p : Nat) (l : LinkP) (j : Nat) : (s.setLink p l).stream j = s.stream j := (rfl)
@[simp] theorem State.stream_setLinkQ (p : Nat) (l : LinkQ) (j : Nat) : (s.setLinkQ p l).stream j = s.stream j := (rfl)
@[simp] theorem State.stream_setRx (a : Nat) (g : RxG) (j : Nat) : (s.setRx a g).stream j = s.stream j := (rfl)
@[simp] theorem State.stream_setTx (a : Nat) (g : TxG) (j : Nat) : (s.setTx a g).stream j = s.stream j := (rfl)
@[simp] theorem State.stream_setLine (a : Nat) (l : LineS) (j : Nat) : (s.setLine a l).stream j = s.stream j := (rfl)
@[simp] theorem State.stream_setCtx (c : Nat) (x : CtxS) (j : Nat) : (s.setCtx c x).stream j = s.stream j := (rfl)
@[simp] theorem State.stream_setInput (i : Nat) (x : InS) (j : Nat) : (s.setInput i x).stream j = s.stream j := (rfl)
@[simp] theorem State.stream_setSession (k : Nat) (x : Ses) (j : Nat) :
    (s.setSession k x).stream j = s.stream j := (rfl)
@[simp] theorem State.stream_freeTaken (j : Nat) : (s.freeTaken).stream j = s.stream j := (rfl)
@[simp] theorem State.stream_send (m : Sent) (j : Nat) : (s.send m).stream j = s.stream j := (rfl)
@[simp] theorem State.stream_answer (c : Nat) (j : Nat) : (s.answer c).stream j = s.stream j := (rfl)
@[simp] theorem State.stream_give (v : List Byte) (j : Nat) : (s.give v).stream j = s.stream j := (rfl)
@[simp] theorem State.stream_fresh (j : Nat) : (s.fresh).stream j = s.stream j := (rfl)
@[simp] theorem State.stream_withQueue (q : List Instr) (j : Nat) : (s.withQueue q).stream j = s.stream j := (rfl)

@[simp] theorem State.input_setReg (i e v : Nat) (j : Nat) : (s.setReg i e v).input j = s.input j := (rfl)
@[simp] theorem State.input_setLive (i e v : Nat) (j : Nat) : (s.setLive i e v).input j = s.input j := (rfl)
@[simp] theorem State.input_bump (i e w n : Nat) (j : Nat) : (s.bump i e w n).input j = s.input j := (rfl)
@[simp] theorem State.input_setOct (i e n k : Nat) (b : Bool) (j : Nat) :
    (s.setOct i e n k b).input j = s.input j := (rfl)
@[simp] theorem State.input_setLink (p : Nat) (l : LinkP) (j : Nat) : (s.setLink p l).input j = s.input j := (rfl)
@[simp] theorem State.input_setLinkQ (p : Nat) (l : LinkQ) (j : Nat) : (s.setLinkQ p l).input j = s.input j := (rfl)
@[simp] theorem State.input_setRx (a : Nat) (g : RxG) (j : Nat) : (s.setRx a g).input j = s.input j := (rfl)
@[simp] theorem State.input_setTx (a : Nat) (g : TxG) (j : Nat) : (s.setTx a g).input j = s.input j := (rfl)
@[simp] theorem State.input_setLine (a : Nat) (l : LineS) (j : Nat) : (s.setLine a l).input j = s.input j := (rfl)
@[simp] theorem State.input_setCtx (c : Nat) (x : CtxS) (j : Nat) : (s.setCtx c x).input j = s.input j := (rfl)
@[simp] theorem State.input_setStream (k : Nat) (x : WStr) (j : Nat) : (s.setStream k x).input j = s.input j := (rfl)
@[simp] theorem State.input_setSession (k : Nat) (x : Ses) (j : Nat) : (s.setSession k x).input j = s.input j := (rfl)
@[simp] theorem State.input_freeTaken (j : Nat) : (s.freeTaken).input j = s.input j := (rfl)
@[simp] theorem State.input_send (m : Sent) (j : Nat) : (s.send m).input j = s.input j := (rfl)
@[simp] theorem State.input_answer (c : Nat) (j : Nat) : (s.answer c).input j = s.input j := (rfl)
@[simp] theorem State.input_give (v : List Byte) (j : Nat) : (s.give v).input j = s.input j := (rfl)
@[simp] theorem State.input_fresh (j : Nat) : (s.fresh).input j = s.input j := (rfl)
@[simp] theorem State.input_withQueue (q : List Instr) (j : Nat) : (s.withQueue q).input j = s.input j := (rfl)

@[simp] theorem State.session_setReg (i e v : Nat) (j : Nat) : (s.setReg i e v).session j = s.session j := (rfl)
@[simp] theorem State.session_setLive (i e v : Nat) (j : Nat) : (s.setLive i e v).session j = s.session j := (rfl)
@[simp] theorem State.session_bump (i e w n : Nat) (j : Nat) : (s.bump i e w n).session j = s.session j := (rfl)
@[simp] theorem State.session_setOct (i e n k : Nat) (b : Bool) (j : Nat) :
    (s.setOct i e n k b).session j = s.session j := (rfl)
@[simp] theorem State.session_setLink (p : Nat) (l : LinkP) (j : Nat) : (s.setLink p l).session j = s.session j := (rfl)
@[simp] theorem State.session_setLinkQ (p : Nat) (l : LinkQ) (j : Nat) :
    (s.setLinkQ p l).session j = s.session j := (rfl)
@[simp] theorem State.session_setRx (a : Nat) (g : RxG) (j : Nat) : (s.setRx a g).session j = s.session j := (rfl)
@[simp] theorem State.session_setTx (a : Nat) (g : TxG) (j : Nat) : (s.setTx a g).session j = s.session j := (rfl)
@[simp] theorem State.session_setLine (a : Nat) (l : LineS) (j : Nat) : (s.setLine a l).session j = s.session j := (rfl)
@[simp] theorem State.session_setCtx (c : Nat) (x : CtxS) (j : Nat) : (s.setCtx c x).session j = s.session j := (rfl)
@[simp] theorem State.session_setStream (k : Nat) (x : WStr) (j : Nat) :
    (s.setStream k x).session j = s.session j := (rfl)
@[simp] theorem State.session_setInput (i : Nat) (x : InS) (j : Nat) : (s.setInput i x).session j = s.session j := (rfl)
@[simp] theorem State.session_freeTaken (j : Nat) : (s.freeTaken).session j = s.session j := (rfl)
@[simp] theorem State.session_send (m : Sent) (j : Nat) : (s.send m).session j = s.session j := (rfl)
@[simp] theorem State.session_answer (c : Nat) (j : Nat) : (s.answer c).session j = s.session j := (rfl)
@[simp] theorem State.session_give (v : List Byte) (j : Nat) : (s.give v).session j = s.session j := (rfl)
@[simp] theorem State.session_fresh (j : Nat) : (s.fresh).session j = s.session j := (rfl)
@[simp] theorem State.session_withQueue (q : List Instr) (j : Nat) : (s.withQueue q).session j = s.session j := (rfl)

@[simp] theorem State.tick_setReg (i e v : Nat) : (s.setReg i e v).tick = s.tick := (rfl)
@[simp] theorem State.tick_setLive (i e v : Nat) : (s.setLive i e v).tick = s.tick := (rfl)
@[simp] theorem State.lreg_bump_all (i e w n : Nat) (j f : Nat) : (s.bump i e w n).lreg j f = s.lreg j f := (rfl)
@[simp] theorem State.tick_bump (i e w n : Nat) : (s.bump i e w n).tick = s.tick := (rfl)
@[simp] theorem State.lreg_setOct_all (i e n k : Nat) (b : Bool) (j f : Nat) :
    (s.setOct i e n k b).lreg j f = s.lreg j f := (rfl)
@[simp] theorem State.tick_setOct (i e n k : Nat) (b : Bool) : (s.setOct i e n k b).tick = s.tick := (rfl)
@[simp] theorem State.reg_setLink_all (p : Nat) (l : LinkP) (j f : Nat) : (s.setLink p l).reg j f = s.reg j f := (rfl)
@[simp] theorem State.lreg_setLink_all (p : Nat) (l : LinkP) (j f : Nat) :
    (s.setLink p l).lreg j f = s.lreg j f := (rfl)
@[simp] theorem State.tick_setLink (p : Nat) (l : LinkP) : (s.setLink p l).tick = s.tick := (rfl)
@[simp] theorem State.reg_setLinkQ_all (p : Nat) (l : LinkQ) (j f : Nat) : (s.setLinkQ p l).reg j f = s.reg j f := (rfl)
@[simp] theorem State.lreg_setLinkQ_all (p : Nat) (l : LinkQ) (j f : Nat) :
    (s.setLinkQ p l).lreg j f = s.lreg j f := (rfl)
@[simp] theorem State.tick_setLinkQ (p : Nat) (l : LinkQ) : (s.setLinkQ p l).tick = s.tick := (rfl)
@[simp] theorem State.reg_setRx_all (a : Nat) (g : RxG) (j f : Nat) : (s.setRx a g).reg j f = s.reg j f := (rfl)
@[simp] theorem State.lreg_setRx_all (a : Nat) (g : RxG) (j f : Nat) : (s.setRx a g).lreg j f = s.lreg j f := (rfl)
@[simp] theorem State.tick_setRx (a : Nat) (g : RxG) : (s.setRx a g).tick = s.tick := (rfl)
@[simp] theorem State.reg_setTx_all (a : Nat) (g : TxG) (j f : Nat) : (s.setTx a g).reg j f = s.reg j f := (rfl)
@[simp] theorem State.lreg_setTx_all (a : Nat) (g : TxG) (j f : Nat) : (s.setTx a g).lreg j f = s.lreg j f := (rfl)
@[simp] theorem State.tick_setTx (a : Nat) (g : TxG) : (s.setTx a g).tick = s.tick := (rfl)
@[simp] theorem State.reg_setLine_all (a : Nat) (l : LineS) (j f : Nat) : (s.setLine a l).reg j f = s.reg j f := (rfl)
@[simp] theorem State.lreg_setLine_all (a : Nat) (l : LineS) (j f : Nat) :
    (s.setLine a l).lreg j f = s.lreg j f := (rfl)
@[simp] theorem State.tick_setLine (a : Nat) (l : LineS) : (s.setLine a l).tick = s.tick := (rfl)
@[simp] theorem State.reg_setCtx_all (c : Nat) (x : CtxS) (j f : Nat) : (s.setCtx c x).reg j f = s.reg j f := (rfl)
@[simp] theorem State.lreg_setCtx_all (c : Nat) (x : CtxS) (j f : Nat) : (s.setCtx c x).lreg j f = s.lreg j f := (rfl)
@[simp] theorem State.tick_setCtx (c : Nat) (x : CtxS) : (s.setCtx c x).tick = s.tick := (rfl)
@[simp] theorem State.reg_setStream_all (k : Nat) (x : WStr) (j f : Nat) :
    (s.setStream k x).reg j f = s.reg j f := (rfl)
@[simp] theorem State.lreg_setStream_all (k : Nat) (x : WStr) (j f : Nat) :
    (s.setStream k x).lreg j f = s.lreg j f := (rfl)
@[simp] theorem State.tick_setStream (k : Nat) (x : WStr) : (s.setStream k x).tick = s.tick := (rfl)
@[simp] theorem State.reg_setInput_all (i : Nat) (x : InS) (j f : Nat) : (s.setInput i x).reg j f = s.reg j f := (rfl)
@[simp] theorem State.lreg_setInput_all (i : Nat) (x : InS) (j f : Nat) :
    (s.setInput i x).lreg j f = s.lreg j f := (rfl)
@[simp] theorem State.tick_setInput (i : Nat) (x : InS) : (s.setInput i x).tick = s.tick := (rfl)
@[simp] theorem State.reg_setSession_all (k : Nat) (x : Ses) (j f : Nat) :
    (s.setSession k x).reg j f = s.reg j f := (rfl)
@[simp] theorem State.lreg_setSession_all (k : Nat) (x : Ses) (j f : Nat) :
    (s.setSession k x).lreg j f = s.lreg j f := (rfl)
@[simp] theorem State.tick_setSession (k : Nat) (x : Ses) : (s.setSession k x).tick = s.tick := (rfl)
@[simp] theorem State.reg_freeTaken_all (j f : Nat) : (s.freeTaken).reg j f = s.reg j f := (rfl)
@[simp] theorem State.lreg_freeTaken_all (j f : Nat) : (s.freeTaken).lreg j f = s.lreg j f := (rfl)
@[simp] theorem State.tick_freeTaken : (s.freeTaken).tick = s.tick := (rfl)
@[simp] theorem State.reg_send_all (m : Sent) (j f : Nat) : (s.send m).reg j f = s.reg j f := (rfl)
@[simp] theorem State.lreg_send_all (m : Sent) (j f : Nat) : (s.send m).lreg j f = s.lreg j f := (rfl)
@[simp] theorem State.tick_send (m : Sent) : (s.send m).tick = s.tick := (rfl)
@[simp] theorem State.reg_answer_all (c : Nat) (j f : Nat) : (s.answer c).reg j f = s.reg j f := (rfl)
@[simp] theorem State.lreg_answer_all (c : Nat) (j f : Nat) : (s.answer c).lreg j f = s.lreg j f := (rfl)
@[simp] theorem State.tick_answer (c : Nat) : (s.answer c).tick = s.tick := (rfl)
@[simp] theorem State.reg_give_all (v : List Byte) (j f : Nat) : (s.give v).reg j f = s.reg j f := (rfl)
@[simp] theorem State.lreg_give_all (v : List Byte) (j f : Nat) : (s.give v).lreg j f = s.lreg j f := (rfl)
@[simp] theorem State.tick_give (v : List Byte) : (s.give v).tick = s.tick := (rfl)
@[simp] theorem State.reg_fresh_all (j f : Nat) : (s.fresh).reg j f = s.reg j f := (rfl)
@[simp] theorem State.lreg_fresh_all (j f : Nat) : (s.fresh).lreg j f = s.lreg j f := (rfl)
@[simp] theorem State.tick_fresh : (s.fresh).tick = s.tick := (rfl)
@[simp] theorem State.reg_withQueue_all (q : List Instr) (j f : Nat) : (s.withQueue q).reg j f = s.reg j f := (rfl)
@[simp] theorem State.lreg_withQueue_all (q : List Instr) (j f : Nat) : (s.withQueue q).lreg j f = s.lreg j f := (rfl)
@[simp] theorem State.tick_withQueue (q : List Instr) : (s.withQueue q).tick = s.tick := (rfl)

@[simp] theorem State.answer_status (c : Nat) : (s.answer c).out.status = c := (rfl)
@[simp] theorem State.answer_value (c : Nat) : (s.answer c).out.value = s.out.value := (rfl)
@[simp] theorem State.answer_sent (c : Nat) : (s.answer c).out.sent = s.out.sent := (rfl)
@[simp] theorem State.give_status (v : List Byte) : (s.give v).out.status = s.out.status := (rfl)
@[simp] theorem State.give_value (v : List Byte) : (s.give v).out.value = v := (rfl)
@[simp] theorem State.give_sent (v : List Byte) : (s.give v).out.sent = s.out.sent := (rfl)
@[simp] theorem State.send_status (m : Sent) : (s.send m).out.status = s.out.status := (rfl)
@[simp] theorem State.send_value (m : Sent) : (s.send m).out.value = s.out.value := (rfl)
@[simp] theorem State.send_sent (m : Sent) : (s.send m).out.sent = s.out.sent ++ [m] := (rfl)
@[simp] theorem State.fresh_status : s.fresh.out.status = 0 := (rfl)
@[simp] theorem State.fresh_value : s.fresh.out.value = [] := (rfl)
@[simp] theorem State.fresh_sent : s.fresh.out.sent = [] := (rfl)

/-- A register of a state written out field by field. -/
@[simp] theorem State.reg_mk (x0 : List Instr) (x1 : SMap Nat) (x2 : SMap Nat) (x3 : Clk) (x4 : SysS) (x5 : Out)
    (x6 : SMap Nat) (x7 : SMap LinkP) (x8 : SMap LinkQ) (x9 : SMap RxG) (x10 : SMap TxG) (x11 : FabS) (x12 : MapS)
    (x13 : GrpS) (x14 : ProtS) (x15 : SMap WStr) (x16 : LedS) (x17 : RefS) (x18 : TimS) (x19 : MemS) (x20 : MtxS)
    (x21 : HdpS) (x22 : FwS) (x23 : AsyS) (x24 : TalS) (x25 : SMap Nat) (x26 : List Nat) (x27 : Nat) (i e : Nat) :
    (State.mk x0 x1 x2 x3 x4 x5 x6 x7 x8 x9 x10 x11 x12 x13 x14 x15 x16 x17 x18 x19 x20 x21 x22 x23 x24 x25 x26
      x27).reg i e = SMap.get (unlisted (regKey i e)) x1 (regKey i e) := (rfl)

@[simp] theorem State.get_regs (i e : Nat) : SMap.get (unlisted (regKey i e)) s.regs (regKey i e) = s.reg i e := (rfl)

/-! ### How a command ends -/

@[simp] theorem State.withQueue_pending (q : List Instr) : (s.withQueue q).pending = q := (rfl)

/-- A command without a numbered item always answers a next state: its effect, and the queue's rest. -/
theorem State.run_eq (f : State → State) : s.run f = .next ((f s.fresh).withQueue s.pending) := (rfl)

/-- A command that names an item which exists answers a next state. -/
theorem State.runIn_of_lt {k n : Nat} (h : k < n) (f : State → State) :
    s.runIn k n f = .next ((f s.fresh).withQueue s.pending) := by
  unfold State.runIn
  rw [if_pos h]
  rfl

/-- A command that names an item which does not exist stops. -/
theorem State.runIn_of_not_lt {k n : Nat} (h : ¬ k < n) (f : State → State) : s.runIn k n f = .fault .noSuch := by
  simp [State.runIn, h]

end Sys2Proof.Machine
end

