-- ==== Sys2Proof/Laws/Ops.lean ====
section
/-! SUPPORT. What the shared operations of Machine/Ops.lean do, said once: the fields that each leaves alone, the
registers that it writes, and what a host access answers. -/

namespace Sys2Proof.Machine

variable (s : State)

/-! ### latch -/

@[simp] theorem State.latch_pending (ev : Nat) : (s.latch ev).pending = s.pending := by
  simp only [State.latch]; split_ifs <;> simp
@[simp] theorem State.latch_live (ev : Nat) : (s.latch ev).live = s.live := by
  simp only [State.latch]; split_ifs <;> simp
@[simp] theorem State.latch_clk (ev : Nat) : (s.latch ev).clk = s.clk := by
  simp only [State.latch]; split_ifs <;> simp
@[simp] theorem State.latch_sys (ev : Nat) : (s.latch ev).sys = s.sys := by
  simp only [State.latch]; split_ifs <;> simp
@[simp] theorem State.latch_out (ev : Nat) : (s.latch ev).out = s.out := by
  simp only [State.latch]; split_ifs <;> simp
@[simp] theorem State.latch_rate (ev : Nat) : (s.latch ev).rate = s.rate := by
  simp only [State.latch]; split_ifs <;> simp
@[simp] theorem State.latch_link (ev : Nat) : (s.latch ev).link = s.link := by
  simp only [State.latch]; split_ifs <;> simp
@[simp] theorem State.latch_linkq (ev : Nat) : (s.latch ev).linkq = s.linkq := by
  simp only [State.latch]; split_ifs <;> simp
@[simp] theorem State.latch_rx (ev : Nat) : (s.latch ev).rx = s.rx := by
  simp only [State.latch]; split_ifs <;> simp
@[simp] theorem State.latch_tx (ev : Nat) : (s.latch ev).tx = s.tx := by
  simp only [State.latch]; split_ifs <;> simp
@[simp] theorem State.latch_fab (ev : Nat) : (s.latch ev).fab = s.fab := by
  simp only [State.latch]; split_ifs <;> simp
@[simp] theorem State.latch_map (ev : Nat) : (s.latch ev).map = s.map := by
  simp only [State.latch]; split_ifs <;> simp
@[simp] theorem State.latch_grp (ev : Nat) : (s.latch ev).grp = s.grp := by
  simp only [State.latch]; split_ifs <;> simp
@[simp] theorem State.latch_prot (ev : Nat) : (s.latch ev).prot = s.prot := by
  simp only [State.latch]; split_ifs <;> simp
@[simp] theorem State.latch_wit (ev : Nat) : (s.latch ev).wit = s.wit := by
  simp only [State.latch]; split_ifs <;> simp
@[simp] theorem State.latch_led (ev : Nat) : (s.latch ev).led = s.led := by
  simp only [State.latch]; split_ifs <;> simp
@[simp] theorem State.latch_ref (ev : Nat) : (s.latch ev).ref = s.ref := by
  simp only [State.latch]; split_ifs <;> simp
@[simp] theorem State.latch_tim (ev : Nat) : (s.latch ev).tim = s.tim := by
  simp only [State.latch]; split_ifs <;> simp
@[simp] theorem State.latch_mem (ev : Nat) : (s.latch ev).mem = s.mem := by
  simp only [State.latch]; split_ifs <;> simp
@[simp] theorem State.latch_mtx (ev : Nat) : (s.latch ev).mtx = s.mtx := by
  simp only [State.latch]; split_ifs <;> simp
@[simp] theorem State.latch_hdp (ev : Nat) : (s.latch ev).hdp = s.hdp := by
  simp only [State.latch]; split_ifs <;> simp
@[simp] theorem State.latch_fw (ev : Nat) : (s.latch ev).fw = s.fw := by
  simp only [State.latch]; split_ifs <;> simp
@[simp] theorem State.latch_asy (ev : Nat) : (s.latch ev).asy = s.asy := by
  simp only [State.latch]; split_ifs <;> simp
@[simp] theorem State.latch_tal (ev : Nat) : (s.latch ev).tal = s.tal := by
  simp only [State.latch]; split_ifs <;> simp
@[simp] theorem State.latch_crier (ev : Nat) : (s.latch ev).crier = s.crier := by
  simp only [State.latch]; split_ifs <;> simp
@[simp] theorem State.latch_crierSlip (ev : Nat) : (s.latch ev).crierSlip = s.crierSlip := by
  simp only [State.latch]; split_ifs <;> simp
@[simp] theorem State.latch_freeCtr (ev : Nat) : (s.latch ev).freeCtr = s.freeCtr := by
  simp only [State.latch]; split_ifs <;> simp

/-! ### notifyOne -/

@[simp] theorem State.notifyOne_pending (ev : Nat) : (s.notifyOne ev).1.pending = s.pending := by
  refine foldRange_same (fun t => t.1.pending) 8 _ (s, 0) fun a x => ?_
  simp only []; split_ifs <;> simp
@[simp] theorem State.notifyOne_live (ev : Nat) : (s.notifyOne ev).1.live = s.live := by
  refine foldRange_same (fun t => t.1.live) 8 _ (s, 0) fun a x => ?_
  simp only []; split_ifs <;> simp
@[simp] theorem State.notifyOne_clk (ev : Nat) : (s.notifyOne ev).1.clk = s.clk := by
  refine foldRange_same (fun t => t.1.clk) 8 _ (s, 0) fun a x => ?_
  simp only []; split_ifs <;> simp
@[simp] theorem State.notifyOne_sys (ev : Nat) : (s.notifyOne ev).1.sys = s.sys := by
  refine foldRange_same (fun t => t.1.sys) 8 _ (s, 0) fun a x => ?_
  simp only []; split_ifs <;> simp
@[simp] theorem State.notifyOne_out (ev : Nat) : (s.notifyOne ev).1.out = s.out := by
  refine foldRange_same (fun t => t.1.out) 8 _ (s, 0) fun a x => ?_
  simp only []; split_ifs <;> simp
@[simp] theorem State.notifyOne_rate (ev : Nat) : (s.notifyOne ev).1.rate = s.rate := by
  refine foldRange_same (fun t => t.1.rate) 8 _ (s, 0) fun a x => ?_
  simp only []; split_ifs <;> simp
@[simp] theorem State.notifyOne_link (ev : Nat) : (s.notifyOne ev).1.link = s.link := by
  refine foldRange_same (fun t => t.1.link) 8 _ (s, 0) fun a x => ?_
  simp only []; split_ifs <;> simp
@[simp] theorem State.notifyOne_linkq (ev : Nat) : (s.notifyOne ev).1.linkq = s.linkq := by
  refine foldRange_same (fun t => t.1.linkq) 8 _ (s, 0) fun a x => ?_
  simp only []; split_ifs <;> simp
@[simp] theorem State.notifyOne_rx (ev : Nat) : (s.notifyOne ev).1.rx = s.rx := by
  refine foldRange_same (fun t => t.1.rx) 8 _ (s, 0) fun a x => ?_
  simp only []; split_ifs <;> simp
@[simp] theorem State.notifyOne_tx (ev : Nat) : (s.notifyOne ev).1.tx = s.tx := by
  refine foldRange_same (fun t => t.1.tx) 8 _ (s, 0) fun a x => ?_
  simp only []; split_ifs <;> simp
@[simp] theorem State.notifyOne_fab (ev : Nat) : (s.notifyOne ev).1.fab = s.fab := by
  refine foldRange_same (fun t => t.1.fab) 8 _ (s, 0) fun a x => ?_
  simp only []; split_ifs <;> simp
@[simp] theorem State.notifyOne_map (ev : Nat) : (s.notifyOne ev).1.map = s.map := by
  refine foldRange_same (fun t => t.1.map) 8 _ (s, 0) fun a x => ?_
  simp only []; split_ifs <;> simp
@[simp] theorem State.notifyOne_grp (ev : Nat) : (s.notifyOne ev).1.grp = s.grp := by
  refine foldRange_same (fun t => t.1.grp) 8 _ (s, 0) fun a x => ?_
  simp only []; split_ifs <;> simp
@[simp] theorem State.notifyOne_prot (ev : Nat) : (s.notifyOne ev).1.prot = s.prot := by
  refine foldRange_same (fun t => t.1.prot) 8 _ (s, 0) fun a x => ?_
  simp only []; split_ifs <;> simp
@[simp] theorem State.notifyOne_wit (ev : Nat) : (s.notifyOne ev).1.wit = s.wit := by
  refine foldRange_same (fun t => t.1.wit) 8 _ (s, 0) fun a x => ?_
  simp only []; split_ifs <;> simp
@[simp] theorem State.notifyOne_led (ev : Nat) : (s.notifyOne ev).1.led = s.led := by
  refine foldRange_same (fun t => t.1.led) 8 _ (s, 0) fun a x => ?_
  simp only []; split_ifs <;> simp
@[simp] theorem State.notifyOne_ref (ev : Nat) : (s.notifyOne ev).1.ref = s.ref := by
  refine foldRange_same (fun t => t.1.ref) 8 _ (s, 0) fun a x => ?_
  simp only []; split_ifs <;> simp
@[simp] theorem State.notifyOne_tim (ev : Nat) : (s.notifyOne ev).1.tim = s.tim := by
  refine foldRange_same (fun t => t.1.tim) 8 _ (s, 0) fun a x => ?_
  simp only []; split_ifs <;> simp
@[simp] theorem State.notifyOne_mem (ev : Nat) : (s.notifyOne ev).1.mem = s.mem := by
  refine foldRange_same (fun t => t.1.mem) 8 _ (s, 0) fun a x => ?_
  simp only []; split_ifs <;> simp
@[simp] theorem State.notifyOne_mtx (ev : Nat) : (s.notifyOne ev).1.mtx = s.mtx := by
  refine foldRange_same (fun t => t.1.mtx) 8 _ (s, 0) fun a x => ?_
  simp only []; split_ifs <;> simp
@[simp] theorem State.notifyOne_fw (ev : Nat) : (s.notifyOne ev).1.fw = s.fw := by
  refine foldRange_same (fun t => t.1.fw) 8 _ (s, 0) fun a x => ?_
  simp only []; split_ifs <;> simp
@[simp] theorem State.notifyOne_asy (ev : Nat) : (s.notifyOne ev).1.asy = s.asy := by
  refine foldRange_same (fun t => t.1.asy) 8 _ (s, 0) fun a x => ?_
  simp only []; split_ifs <;> simp
@[simp] theorem State.notifyOne_tal (ev : Nat) : (s.notifyOne ev).1.tal = s.tal := by
  refine foldRange_same (fun t => t.1.tal) 8 _ (s, 0) fun a x => ?_
  simp only []; split_ifs <;> simp
@[simp] theorem State.notifyOne_crier (ev : Nat) : (s.notifyOne ev).1.crier = s.crier := by
  refine foldRange_same (fun t => t.1.crier) 8 _ (s, 0) fun a x => ?_
  simp only []; split_ifs <;> simp
@[simp] theorem State.notifyOne_crierSlip (ev : Nat) : (s.notifyOne ev).1.crierSlip = s.crierSlip := by
  refine foldRange_same (fun t => t.1.crierSlip) 8 _ (s, 0) fun a x => ?_
  simp only []; split_ifs <;> simp
@[simp] theorem State.notifyOne_freeCtr (ev : Nat) : (s.notifyOne ev).1.freeCtr = s.freeCtr := by
  refine foldRange_same (fun t => t.1.freeCtr) 8 _ (s, 0) fun a x => ?_
  simp only []; split_ifs <;> simp

/-- What no session's notice changes, an event's notices leave unchanged. -/
theorem State.notifyAll_same {δ : Type} (g : State → δ) (ev : Nat)
    (h : ∀ (a : State) (e : Nat), g (a.notifyOne e).1 = g a) :
    g (s.notifyAll ev) = g s := by
  refine (foldRange_same (fun t : State × Nat => g t.1) 8 _ _ fun a x => ?_).trans (h s ev)
  exact foldRange_same (fun t : State × Nat => g t.1) a.2 _ (a.1, 0) fun b y => h b.1 509

/-- What every session's notice keeps, an event's notices keep. -/
theorem State.notifyAll_of {P : State → Prop} (ev : Nat) (hs : P s)
    (h : ∀ (a : State) (e : Nat), P a → P (a.notifyOne e).1) : P (s.notifyAll ev) := by
  refine foldRange_keeps (fun t : State × Nat => P t.1) 8 _ _ (h s ev hs) fun a x ha => ?_
  exact foldRange_keeps (fun t : State × Nat => P t.1) a.2 _ (a.1, 0) ha fun b y hb => h b.1 509 hb

/-! ### notifyAll -/

@[simp] theorem State.notifyAll_pending (ev : Nat) : (s.notifyAll ev).pending = s.pending := 
  s.notifyAll_same State.pending ev fun a e => a.notifyOne_pending e
@[simp] theorem State.notifyAll_live (ev : Nat) : (s.notifyAll ev).live = s.live := 
  s.notifyAll_same State.live ev fun a e => a.notifyOne_live e
@[simp] theorem State.notifyAll_clk (ev : Nat) : (s.notifyAll ev).clk = s.clk := 
  s.notifyAll_same State.clk ev fun a e => a.notifyOne_clk e
@[simp] theorem State.notifyAll_sys (ev : Nat) : (s.notifyAll ev).sys = s.sys := 
  s.notifyAll_same State.sys ev fun a e => a.notifyOne_sys e
@[simp] theorem State.notifyAll_out (ev : Nat) : (s.notifyAll ev).out = s.out := 
  s.notifyAll_same State.out ev fun a e => a.notifyOne_out e
@[simp] theorem State.notifyAll_rate (ev : Nat) : (s.notifyAll ev).rate = s.rate := 
  s.notifyAll_same State.rate ev fun a e => a.notifyOne_rate e
@[simp] theorem State.notifyAll_link (ev : Nat) : (s.notifyAll ev).link = s.link := 
  s.notifyAll_same State.link ev fun a e => a.notifyOne_link e
@[simp] theorem State.notifyAll_linkq (ev : Nat) : (s.notifyAll ev).linkq = s.linkq := 
  s.notifyAll_same State.linkq ev fun a e => a.notifyOne_linkq e
@[simp] theorem State.notifyAll_rx (ev : Nat) : (s.notifyAll ev).rx = s.rx := 
  s.notifyAll_same State.rx ev fun a e => a.notifyOne_rx e
@[simp] theorem State.notifyAll_tx (ev : Nat) : (s.notifyAll ev).tx = s.tx := 
  s.notifyAll_same State.tx ev fun a e => a.notifyOne_tx e
@[simp] theorem State.notifyAll_fab (ev : Nat) : (s.notifyAll ev).fab = s.fab := 
  s.notifyAll_same State.fab ev fun a e => a.notifyOne_fab e
@[simp] theorem State.notifyAll_map (ev : Nat) : (s.notifyAll ev).map = s.map := 
  s.notifyAll_same State.map ev fun a e => a.notifyOne_map e
@[simp] theorem State.notifyAll_grp (ev : Nat) : (s.notifyAll ev).grp = s.grp := 
  s.notifyAll_same State.grp ev fun a e => a.notifyOne_grp e
@[simp] theorem State.notifyAll_prot (ev : Nat) : (s.notifyAll ev).prot = s.prot := 
  s.notifyAll_same State.prot ev fun a e => a.notifyOne_prot e
@[simp] theorem State.notifyAll_wit (ev : Nat) : (s.notifyAll ev).wit = s.wit := 
  s.notifyAll_same State.wit ev fun a e => a.notifyOne_wit e
@[simp] theorem State.notifyAll_led (ev : Nat) : (s.notifyAll ev).led = s.led := 
  s.notifyAll_same State.led ev fun a e => a.notifyOne_led e
@[simp] theorem State.notifyAll_ref (ev : Nat) : (s.notifyAll ev).ref = s.ref := 
  s.notifyAll_same State.ref ev fun a e => a.notifyOne_ref e
@[simp] theorem State.notifyAll_tim (ev : Nat) : (s.notifyAll ev).tim = s.tim := 
  s.notifyAll_same State.tim ev fun a e => a.notifyOne_tim e
@[simp] theorem State.notifyAll_mem (ev : Nat) : (s.notifyAll ev).mem = s.mem := 
  s.notifyAll_same State.mem ev fun a e => a.notifyOne_mem e
@[simp] theorem State.notifyAll_mtx (ev : Nat) : (s.notifyAll ev).mtx = s.mtx := 
  s.notifyAll_same State.mtx ev fun a e => a.notifyOne_mtx e
@[simp] theorem State.notifyAll_fw (ev : Nat) : (s.notifyAll ev).fw = s.fw := 
  s.notifyAll_same State.fw ev fun a e => a.notifyOne_fw e
@[simp] theorem State.notifyAll_asy (ev : Nat) : (s.notifyAll ev).asy = s.asy := 
  s.notifyAll_same State.asy ev fun a e => a.notifyOne_asy e
@[simp] theorem State.notifyAll_tal (ev : Nat) : (s.notifyAll ev).tal = s.tal := 
  s.notifyAll_same State.tal ev fun a e => a.notifyOne_tal e
@[simp] theorem State.notifyAll_crier (ev : Nat) : (s.notifyAll ev).crier = s.crier := 
  s.notifyAll_same State.crier ev fun a e => a.notifyOne_crier e
@[simp] theorem State.notifyAll_crierSlip (ev : Nat) : (s.notifyAll ev).crierSlip = s.crierSlip := 
  s.notifyAll_same State.crierSlip ev fun a e => a.notifyOne_crierSlip e
@[simp] theorem State.notifyAll_freeCtr (ev : Nat) : (s.notifyAll ev).freeCtr = s.freeCtr := 
  s.notifyAll_same State.freeCtr ev fun a e => a.notifyOne_freeCtr e

/-! ### raise -/

@[simp] theorem State.raise_pending (ev : Nat) : (s.raise ev).pending = s.pending := by
  simp only [State.raise]; split_ifs <;> simp
@[simp] theorem State.raise_live (ev : Nat) : (s.raise ev).live = s.live := by
  simp only [State.raise]; split_ifs <;> simp
@[simp] theorem State.raise_clk (ev : Nat) : (s.raise ev).clk = s.clk := by
  simp only [State.raise]; split_ifs <;> simp
@[simp] theorem State.raise_sys (ev : Nat) : (s.raise ev).sys = s.sys := by
  simp only [State.raise]; split_ifs <;> simp
@[simp] theorem State.raise_out (ev : Nat) : (s.raise ev).out = s.out := by
  simp only [State.raise]; split_ifs <;> simp
@[simp] theorem State.raise_rate (ev : Nat) : (s.raise ev).rate = s.rate := by
  simp only [State.raise]; split_ifs <;> simp
@[simp] theorem State.raise_link (ev : Nat) : (s.raise ev).link = s.link := by
  simp only [State.raise]; split_ifs <;> simp
@[simp] theorem State.raise_linkq (ev : Nat) : (s.raise ev).linkq = s.linkq := by
  simp only [State.raise]; split_ifs <;> simp
@[simp] theorem State.raise_rx (ev : Nat) : (s.raise ev).rx = s.rx := by
  simp only [State.raise]; split_ifs <;> simp
@[simp] theorem State.raise_tx (ev : Nat) : (s.raise ev).tx = s.tx := by
  simp only [State.raise]; split_ifs <;> simp
@[simp] theorem State.raise_fab (ev : Nat) : (s.raise ev).fab = s.fab := by
  simp only [State.raise]; split_ifs <;> simp
@[simp] theorem State.raise_map (ev : Nat) : (s.raise ev).map = s.map := by
  simp only [State.raise]; split_ifs <;> simp
@[simp] theorem State.raise_grp (ev : Nat) : (s.raise ev).grp = s.grp := by
  simp only [State.raise]; split_ifs <;> simp
@[simp] theorem State.raise_prot (ev : Nat) : (s.raise ev).prot = s.prot := by
  simp only [State.raise]; split_ifs <;> simp
@[simp] theorem State.raise_wit (ev : Nat) : (s.raise ev).wit = s.wit := by
  simp only [State.raise]; split_ifs <;> simp
@[simp] theorem State.raise_led (ev : Nat) : (s.raise ev).led = s.led := by
  simp only [State.raise]; split_ifs <;> simp
@[simp] theorem State.raise_ref (ev : Nat) : (s.raise ev).ref = s.ref := by
  simp only [State.raise]; split_ifs <;> simp
@[simp] theorem State.raise_tim (ev : Nat) : (s.raise ev).tim = s.tim := by
  simp only [State.raise]; split_ifs <;> simp
@[simp] theorem State.raise_mem (ev : Nat) : (s.raise ev).mem = s.mem := by
  simp only [State.raise]; split_ifs <;> simp
@[simp] theorem State.raise_mtx (ev : Nat) : (s.raise ev).mtx = s.mtx := by
  simp only [State.raise]; split_ifs <;> simp
@[simp] theorem State.raise_fw (ev : Nat) : (s.raise ev).fw = s.fw := by
  simp only [State.raise]; split_ifs <;> simp
@[simp] theorem State.raise_asy (ev : Nat) : (s.raise ev).asy = s.asy := by
  simp only [State.raise]; split_ifs <;> simp
@[simp] theorem State.raise_tal (ev : Nat) : (s.raise ev).tal = s.tal := by
  simp only [State.raise]; split_ifs <;> simp
@[simp] theorem State.raise_crier (ev : Nat) : (s.raise ev).crier = s.crier := by
  simp only [State.raise]; split_ifs <;> simp
@[simp] theorem State.raise_crierSlip (ev : Nat) : (s.raise ev).crierSlip = s.crierSlip := by
  simp only [State.raise]; split_ifs <;> simp
@[simp] theorem State.raise_freeCtr (ev : Nat) : (s.raise ev).freeCtr = s.freeCtr := by
  simp only [State.raise]; split_ifs <;> simp

/-! ### raiseLim -/

@[simp] theorem State.raiseLim_pending (ev k n : Nat) : (s.raiseLim ev k n).pending = s.pending := by
  simp only [State.raiseLim]; split_ifs <;> simp
@[simp] theorem State.raiseLim_live (ev k n : Nat) : (s.raiseLim ev k n).live = s.live := by
  simp only [State.raiseLim]; split_ifs <;> simp
@[simp] theorem State.raiseLim_clk (ev k n : Nat) : (s.raiseLim ev k n).clk = s.clk := by
  simp only [State.raiseLim]; split_ifs <;> simp
@[simp] theorem State.raiseLim_sys (ev k n : Nat) : (s.raiseLim ev k n).sys = s.sys := by
  simp only [State.raiseLim]; split_ifs <;> simp
@[simp] theorem State.raiseLim_out (ev k n : Nat) : (s.raiseLim ev k n).out = s.out := by
  simp only [State.raiseLim]; split_ifs <;> simp
@[simp] theorem State.raiseLim_link (ev k n : Nat) : (s.raiseLim ev k n).link = s.link := by
  simp only [State.raiseLim]; split_ifs <;> simp
@[simp] theorem State.raiseLim_linkq (ev k n : Nat) : (s.raiseLim ev k n).linkq = s.linkq := by
  simp only [State.raiseLim]; split_ifs <;> simp
@[simp] theorem State.raiseLim_rx (ev k n : Nat) : (s.raiseLim ev k n).rx = s.rx := by
  simp only [State.raiseLim]; split_ifs <;> simp
@[simp] theorem State.raiseLim_tx (ev k n : Nat) : (s.raiseLim ev k n).tx = s.tx := by
  simp only [State.raiseLim]; split_ifs <;> simp
@[simp] theorem State.raiseLim_fab (ev k n : Nat) : (s.raiseLim ev k n).fab = s.fab := by
  simp only [State.raiseLim]; split_ifs <;> simp
@[simp] theorem State.raiseLim_map (ev k n : Nat) : (s.raiseLim ev k n).map = s.map := by
  simp only [State.raiseLim]; split_ifs <;> simp
@[simp] theorem State.raiseLim_grp (ev k n : Nat) : (s.raiseLim ev k n).grp = s.grp := by
  simp only [State.raiseLim]; split_ifs <;> simp
@[simp] theorem State.raiseLim_prot (ev k n : Nat) : (s.raiseLim ev k n).prot = s.prot := by
  simp only [State.raiseLim]; split_ifs <;> simp
@[simp] theorem State.raiseLim_wit (ev k n : Nat) : (s.raiseLim ev k n).wit = s.wit := by
  simp only [State.raiseLim]; split_ifs <;> simp
@[simp] theorem State.raiseLim_led (ev k n : Nat) : (s.raiseLim ev k n).led = s.led := by
  simp only [State.raiseLim]; split_ifs <;> simp
@[simp] theorem State.raiseLim_ref (ev k n : Nat) : (s.raiseLim ev k n).ref = s.ref := by
  simp only [State.raiseLim]; split_ifs <;> simp
@[simp] theorem State.raiseLim_tim (ev k n : Nat) : (s.raiseLim ev k n).tim = s.tim := by
  simp only [State.raiseLim]; split_ifs <;> simp
@[simp] theorem State.raiseLim_mem (ev k n : Nat) : (s.raiseLim ev k n).mem = s.mem := by
  simp only [State.raiseLim]; split_ifs <;> simp
@[simp] theorem State.raiseLim_mtx (ev k n : Nat) : (s.raiseLim ev k n).mtx = s.mtx := by
  simp only [State.raiseLim]; split_ifs <;> simp
@[simp] theorem State.raiseLim_fw (ev k n : Nat) : (s.raiseLim ev k n).fw = s.fw := by
  simp only [State.raiseLim]; split_ifs <;> simp
@[simp] theorem State.raiseLim_asy (ev k n : Nat) : (s.raiseLim ev k n).asy = s.asy := by
  simp only [State.raiseLim]; split_ifs <;> simp
@[simp] theorem State.raiseLim_tal (ev k n : Nat) : (s.raiseLim ev k n).tal = s.tal := by
  simp only [State.raiseLim]; split_ifs <;> simp
@[simp] theorem State.raiseLim_crier (ev k n : Nat) : (s.raiseLim ev k n).crier = s.crier := by
  simp only [State.raiseLim]; split_ifs <;> simp
@[simp] theorem State.raiseLim_crierSlip (ev k n : Nat) : (s.raiseLim ev k n).crierSlip = s.crierSlip := by
  simp only [State.raiseLim]; split_ifs <;> simp
@[simp] theorem State.raiseLim_freeCtr (ev k n : Nat) : (s.raiseLim ev k n).freeCtr = s.freeCtr := by
  simp only [State.raiseLim]; split_ifs <;> simp

/-! ### counted -/

@[simp] theorem State.counted_pending (i n : Nat) : (s.counted i n).1.pending = s.pending := (rfl)
@[simp] theorem State.counted_regs (i n : Nat) : (s.counted i n).1.regs = s.regs := (rfl)
@[simp] theorem State.counted_live (i n : Nat) : (s.counted i n).1.live = s.live := (rfl)
@[simp] theorem State.counted_clk (i n : Nat) : (s.counted i n).1.clk = s.clk := (rfl)
@[simp] theorem State.counted_sys (i n : Nat) : (s.counted i n).1.sys = s.sys := (rfl)
@[simp] theorem State.counted_out (i n : Nat) : (s.counted i n).1.out = s.out := (rfl)
@[simp] theorem State.counted_rate (i n : Nat) : (s.counted i n).1.rate = s.rate := (rfl)
@[simp] theorem State.counted_link (i n : Nat) : (s.counted i n).1.link = s.link := (rfl)
@[simp] theorem State.counted_linkq (i n : Nat) : (s.counted i n).1.linkq = s.linkq := (rfl)
@[simp] theorem State.counted_rx (i n : Nat) : (s.counted i n).1.rx = s.rx := (rfl)
@[simp] theorem State.counted_tx (i n : Nat) : (s.counted i n).1.tx = s.tx := (rfl)
@[simp] theorem State.counted_fab (i n : Nat) : (s.counted i n).1.fab = s.fab := (rfl)
@[simp] theorem State.counted_map (i n : Nat) : (s.counted i n).1.map = s.map := (rfl)
@[simp] theorem State.counted_grp (i n : Nat) : (s.counted i n).1.grp = s.grp := (rfl)
@[simp] theorem State.counted_prot (i n : Nat) : (s.counted i n).1.prot = s.prot := (rfl)
@[simp] theorem State.counted_wit (i n : Nat) : (s.counted i n).1.wit = s.wit := (rfl)
@[simp] theorem State.counted_led (i n : Nat) : (s.counted i n).1.led = s.led := (rfl)
@[simp] theorem State.counted_ref (i n : Nat) : (s.counted i n).1.ref = s.ref := (rfl)
@[simp] theorem State.counted_tim (i n : Nat) : (s.counted i n).1.tim = s.tim := (rfl)
@[simp] theorem State.counted_mem (i n : Nat) : (s.counted i n).1.mem = s.mem := (rfl)
@[simp] theorem State.counted_mtx (i n : Nat) : (s.counted i n).1.mtx = s.mtx := (rfl)
@[simp] theorem State.counted_hdp (i n : Nat) : (s.counted i n).1.hdp = s.hdp := (rfl)
@[simp] theorem State.counted_fw (i n : Nat) : (s.counted i n).1.fw = s.fw := (rfl)
@[simp] theorem State.counted_asy (i n : Nat) : (s.counted i n).1.asy = s.asy := (rfl)
@[simp] theorem State.counted_crier (i n : Nat) : (s.counted i n).1.crier = s.crier := (rfl)
@[simp] theorem State.counted_crierSlip (i n : Nat) : (s.counted i n).1.crierSlip = s.crierSlip := (rfl)
@[simp] theorem State.counted_freeCtr (i n : Nat) : (s.counted i n).1.freeCtr = s.freeCtr := (rfl)

/-! ### talRecord -/

@[simp] theorem State.talRecord_pending (i : Nat) : (s.talRecord i).1.pending = s.pending := by
  simp [State.talRecord]
@[simp] theorem State.talRecord_live (i : Nat) : (s.talRecord i).1.live = s.live := by
  simp [State.talRecord]
@[simp] theorem State.talRecord_clk (i : Nat) : (s.talRecord i).1.clk = s.clk := by
  simp [State.talRecord]
@[simp] theorem State.talRecord_sys (i : Nat) : (s.talRecord i).1.sys = s.sys := by
  simp [State.talRecord]
@[simp] theorem State.talRecord_rate (i : Nat) : (s.talRecord i).1.rate = s.rate := by
  simp [State.talRecord]
@[simp] theorem State.talRecord_link (i : Nat) : (s.talRecord i).1.link = s.link := by
  simp [State.talRecord]
@[simp] theorem State.talRecord_linkq (i : Nat) : (s.talRecord i).1.linkq = s.linkq := by
  simp [State.talRecord]
@[simp] theorem State.talRecord_rx (i : Nat) : (s.talRecord i).1.rx = s.rx := by
  simp [State.talRecord]
@[simp] theorem State.talRecord_tx (i : Nat) : (s.talRecord i).1.tx = s.tx := by
  simp [State.talRecord]
@[simp] theorem State.talRecord_fab (i : Nat) : (s.talRecord i).1.fab = s.fab := by
  simp [State.talRecord]
@[simp] theorem State.talRecord_map (i : Nat) : (s.talRecord i).1.map = s.map := by
  simp [State.talRecord]
@[simp] theorem State.talRecord_grp (i : Nat) : (s.talRecord i).1.grp = s.grp := by
  simp [State.talRecord]
@[simp] theorem State.talRecord_prot (i : Nat) : (s.talRecord i).1.prot = s.prot := by
  simp [State.talRecord]
@[simp] theorem State.talRecord_wit (i : Nat) : (s.talRecord i).1.wit = s.wit := by
  simp [State.talRecord]
@[simp] theorem State.talRecord_led (i : Nat) : (s.talRecord i).1.led = s.led := by
  simp [State.talRecord]
@[simp] theorem State.talRecord_ref (i : Nat) : (s.talRecord i).1.ref = s.ref := by
  simp [State.talRecord]
@[simp] theorem State.talRecord_tim (i : Nat) : (s.talRecord i).1.tim = s.tim := by
  simp [State.talRecord]
@[simp] theorem State.talRecord_mem (i : Nat) : (s.talRecord i).1.mem = s.mem := by
  simp [State.talRecord]
@[simp] theorem State.talRecord_mtx (i : Nat) : (s.talRecord i).1.mtx = s.mtx := by
  simp [State.talRecord]
@[simp] theorem State.talRecord_hdp (i : Nat) : (s.talRecord i).1.hdp = s.hdp := by
  simp [State.talRecord]
@[simp] theorem State.talRecord_fw (i : Nat) : (s.talRecord i).1.fw = s.fw := by
  simp [State.talRecord]
@[simp] theorem State.talRecord_asy (i : Nat) : (s.talRecord i).1.asy = s.asy := by
  simp [State.talRecord]
@[simp] theorem State.talRecord_crier (i : Nat) : (s.talRecord i).1.crier = s.crier := by
  simp [State.talRecord]
@[simp] theorem State.talRecord_crierSlip (i : Nat) : (s.talRecord i).1.crierSlip = s.crierSlip := by
  simp [State.talRecord]
@[simp] theorem State.talRecord_freeCtr (i : Nat) : (s.talRecord i).1.freeCtr = s.freeCtr := by
  simp [State.talRecord]

/-! ### talSample -/

@[simp] theorem State.talSample_pending (i : Nat) : (s.talSample i).pending = s.pending := by
  simp only [State.talSample]; split_ifs <;> simp
@[simp] theorem State.talSample_live (i : Nat) : (s.talSample i).live = s.live := by
  simp only [State.talSample]; split_ifs <;> simp
@[simp] theorem State.talSample_clk (i : Nat) : (s.talSample i).clk = s.clk := by
  simp only [State.talSample]; split_ifs <;> simp
@[simp] theorem State.talSample_sys (i : Nat) : (s.talSample i).sys = s.sys := by
  simp only [State.talSample]; split_ifs <;> simp
@[simp] theorem State.talSample_rate (i : Nat) : (s.talSample i).rate = s.rate := by
  simp only [State.talSample]; split_ifs <;> simp
@[simp] theorem State.talSample_link (i : Nat) : (s.talSample i).link = s.link := by
  simp only [State.talSample]; split_ifs <;> simp
@[simp] theorem State.talSample_linkq (i : Nat) : (s.talSample i).linkq = s.linkq := by
  simp only [State.talSample]; split_ifs <;> simp
@[simp] theorem State.talSample_rx (i : Nat) : (s.talSample i).rx = s.rx := by
  simp only [State.talSample]; split_ifs <;> simp
@[simp] theorem State.talSample_tx (i : Nat) : (s.talSample i).tx = s.tx := by
  simp only [State.talSample]; split_ifs <;> simp
@[simp] theorem State.talSample_fab (i : Nat) : (s.talSample i).fab = s.fab := by
  simp only [State.talSample]; split_ifs <;> simp
@[simp] theorem State.talSample_map (i : Nat) : (s.talSample i).map = s.map := by
  simp only [State.talSample]; split_ifs <;> simp
@[simp] theorem State.talSample_grp (i : Nat) : (s.talSample i).grp = s.grp := by
  simp only [State.talSample]; split_ifs <;> simp
@[simp] theorem State.talSample_prot (i : Nat) : (s.talSample i).prot = s.prot := by
  simp only [State.talSample]; split_ifs <;> simp
@[simp] theorem State.talSample_wit (i : Nat) : (s.talSample i).wit = s.wit := by
  simp only [State.talSample]; split_ifs <;> simp
@[simp] theorem State.talSample_led (i : Nat) : (s.talSample i).led = s.led := by
  simp only [State.talSample]; split_ifs <;> simp
@[simp] theorem State.talSample_ref (i : Nat) : (s.talSample i).ref = s.ref := by
  simp only [State.talSample]; split_ifs <;> simp
@[simp] theorem State.talSample_tim (i : Nat) : (s.talSample i).tim = s.tim := by
  simp only [State.talSample]; split_ifs <;> simp
@[simp] theorem State.talSample_mem (i : Nat) : (s.talSample i).mem = s.mem := by
  simp only [State.talSample]; split_ifs <;> simp
@[simp] theorem State.talSample_mtx (i : Nat) : (s.talSample i).mtx = s.mtx := by
  simp only [State.talSample]; split_ifs <;> simp
@[simp] theorem State.talSample_hdp (i : Nat) : (s.talSample i).hdp = s.hdp := by
  simp only [State.talSample]; split_ifs <;> simp
@[simp] theorem State.talSample_fw (i : Nat) : (s.talSample i).fw = s.fw := by
  simp only [State.talSample]; split_ifs <;> simp
@[simp] theorem State.talSample_asy (i : Nat) : (s.talSample i).asy = s.asy := by
  simp only [State.talSample]; split_ifs <;> simp
@[simp] theorem State.talSample_crier (i : Nat) : (s.talSample i).crier = s.crier := by
  simp only [State.talSample]; split_ifs <;> simp
@[simp] theorem State.talSample_crierSlip (i : Nat) : (s.talSample i).crierSlip = s.crierSlip := by
  simp only [State.talSample]; split_ifs <;> simp
@[simp] theorem State.talSample_freeCtr (i : Nat) : (s.talSample i).freeCtr = s.freeCtr := by
  simp only [State.talSample]; split_ifs <;> simp

/-! ### tally -/

@[simp] theorem State.tally_pending (i n : Nat) : (s.tally i n).pending = s.pending := by
  simp only [State.tally]; split_ifs
  · rfl
  · exact (foldRange_same State.pending _ _ _ fun a x => by simp).trans (by simp)
  · simp
@[simp] theorem State.tally_live (i n : Nat) : (s.tally i n).live = s.live := by
  simp only [State.tally]; split_ifs
  · rfl
  · exact (foldRange_same State.live _ _ _ fun a x => by simp).trans (by simp)
  · simp
@[simp] theorem State.tally_clk (i n : Nat) : (s.tally i n).clk = s.clk := by
  simp only [State.tally]; split_ifs
  · rfl
  · exact (foldRange_same State.clk _ _ _ fun a x => by simp).trans (by simp)
  · simp
@[simp] theorem State.tally_sys (i n : Nat) : (s.tally i n).sys = s.sys := by
  simp only [State.tally]; split_ifs
  · rfl
  · exact (foldRange_same State.sys _ _ _ fun a x => by simp).trans (by simp)
  · simp
@[simp] theorem State.tally_rate (i n : Nat) : (s.tally i n).rate = s.rate := by
  simp only [State.tally]; split_ifs
  · rfl
  · exact (foldRange_same State.rate _ _ _ fun a x => by simp).trans (by simp)
  · simp
@[simp] theorem State.tally_link (i n : Nat) : (s.tally i n).link = s.link := by
  simp only [State.tally]; split_ifs
  · rfl
  · exact (foldRange_same State.link _ _ _ fun a x => by simp).trans (by simp)
  · simp
@[simp] theorem State.tally_linkq (i n : Nat) : (s.tally i n).linkq = s.linkq := by
  simp only [State.tally]; split_ifs
  · rfl
  · exact (foldRange_same State.linkq _ _ _ fun a x => by simp).trans (by simp)
  · simp
@[simp] theorem State.tally_rx (i n : Nat) : (s.tally i n).rx = s.rx := by
  simp only [State.tally]; split_ifs
  · rfl
  · exact (foldRange_same State.rx _ _ _ fun a x => by simp).trans (by simp)
  · simp
@[simp] theorem State.tally_tx (i n : Nat) : (s.tally i n).tx = s.tx := by
  simp only [State.tally]; split_ifs
  · rfl
  · exact (foldRange_same State.tx _ _ _ fun a x => by simp).trans (by simp)
  · simp
@[simp] theorem State.tally_fab (i n : Nat) : (s.tally i n).fab = s.fab := by
  simp only [State.tally]; split_ifs
  · rfl
  · exact (foldRange_same State.fab _ _ _ fun a x => by simp).trans (by simp)
  · simp
@[simp] theorem State.tally_map (i n : Nat) : (s.tally i n).map = s.map := by
  simp only [State.tally]; split_ifs
  · rfl
  · exact (foldRange_same State.map _ _ _ fun a x => by simp).trans (by simp)
  · simp
@[simp] theorem State.tally_grp (i n : Nat) : (s.tally i n).grp = s.grp := by
  simp only [State.tally]; split_ifs
  · rfl
  · exact (foldRange_same State.grp _ _ _ fun a x => by simp).trans (by simp)
  · simp
@[simp] theorem State.tally_prot (i n : Nat) : (s.tally i n).prot = s.prot := by
  simp only [State.tally]; split_ifs
  · rfl
  · exact (foldRange_same State.prot _ _ _ fun a x => by simp).trans (by simp)
  · simp
@[simp] theorem State.tally_wit (i n : Nat) : (s.tally i n).wit = s.wit := by
  simp only [State.tally]; split_ifs
  · rfl
  · exact (foldRange_same State.wit _ _ _ fun a x => by simp).trans (by simp)
  · simp
@[simp] theorem State.tally_led (i n : Nat) : (s.tally i n).led = s.led := by
  simp only [State.tally]; split_ifs
  · rfl
  · exact (foldRange_same State.led _ _ _ fun a x => by simp).trans (by simp)
  · simp
@[simp] theorem State.tally_ref (i n : Nat) : (s.tally i n).ref = s.ref := by
  simp only [State.tally]; split_ifs
  · rfl
  · exact (foldRange_same State.ref _ _ _ fun a x => by simp).trans (by simp)
  · simp
@[simp] theorem State.tally_tim (i n : Nat) : (s.tally i n).tim = s.tim := by
  simp only [State.tally]; split_ifs
  · rfl
  · exact (foldRange_same State.tim _ _ _ fun a x => by simp).trans (by simp)
  · simp
@[simp] theorem State.tally_mem (i n : Nat) : (s.tally i n).mem = s.mem := by
  simp only [State.tally]; split_ifs
  · rfl
  · exact (foldRange_same State.mem _ _ _ fun a x => by simp).trans (by simp)
  · simp
@[simp] theorem State.tally_mtx (i n : Nat) : (s.tally i n).mtx = s.mtx := by
  simp only [State.tally]; split_ifs
  · rfl
  · exact (foldRange_same State.mtx _ _ _ fun a x => by simp).trans (by simp)
  · simp
@[simp] theorem State.tally_hdp (i n : Nat) : (s.tally i n).hdp = s.hdp := by
  simp only [State.tally]; split_ifs
  · rfl
  · exact (foldRange_same State.hdp _ _ _ fun a x => by simp).trans (by simp)
  · simp
@[simp] theorem State.tally_fw (i n : Nat) : (s.tally i n).fw = s.fw := by
  simp only [State.tally]; split_ifs
  · rfl
  · exact (foldRange_same State.fw _ _ _ fun a x => by simp).trans (by simp)
  · simp
@[simp] theorem State.tally_asy (i n : Nat) : (s.tally i n).asy = s.asy := by
  simp only [State.tally]; split_ifs
  · rfl
  · exact (foldRange_same State.asy _ _ _ fun a x => by simp).trans (by simp)
  · simp
@[simp] theorem State.tally_crier (i n : Nat) : (s.tally i n).crier = s.crier := by
  simp only [State.tally]; split_ifs
  · rfl
  · exact (foldRange_same State.crier _ _ _ fun a x => by simp).trans (by simp)
  · simp
@[simp] theorem State.tally_crierSlip (i n : Nat) : (s.tally i n).crierSlip = s.crierSlip := by
  simp only [State.tally]; split_ifs
  · rfl
  · exact (foldRange_same State.crierSlip _ _ _ fun a x => by simp).trans (by simp)
  · simp
@[simp] theorem State.tally_freeCtr (i n : Nat) : (s.tally i n).freeCtr = s.freeCtr := by
  simp only [State.tally]; split_ifs
  · rfl
  · exact (foldRange_same State.freeCtr _ _ _ fun a x => by simp).trans (by simp)
  · simp

/-! ### tokTake -/

@[simp] theorem State.tokTake_pending (d h : Nat) : (s.tokTake d h).pending = s.pending := by
  simp only [State.tokTake]; split_ifs <;> simp
@[simp] theorem State.tokTake_live (d h : Nat) : (s.tokTake d h).live = s.live := by
  simp only [State.tokTake]; split_ifs <;> simp
@[simp] theorem State.tokTake_clk (d h : Nat) : (s.tokTake d h).clk = s.clk := by
  simp only [State.tokTake]; split_ifs <;> simp
@[simp] theorem State.tokTake_sys (d h : Nat) : (s.tokTake d h).sys = s.sys := by
  simp only [State.tokTake]; split_ifs <;> simp
@[simp] theorem State.tokTake_out (d h : Nat) : (s.tokTake d h).out = s.out := by
  simp only [State.tokTake]; split_ifs <;> simp
@[simp] theorem State.tokTake_rate (d h : Nat) : (s.tokTake d h).rate = s.rate := by
  simp only [State.tokTake]; split_ifs <;> simp
@[simp] theorem State.tokTake_link (d h : Nat) : (s.tokTake d h).link = s.link := by
  simp only [State.tokTake]; split_ifs <;> simp
@[simp] theorem State.tokTake_linkq (d h : Nat) : (s.tokTake d h).linkq = s.linkq := by
  simp only [State.tokTake]; split_ifs <;> simp
@[simp] theorem State.tokTake_rx (d h : Nat) : (s.tokTake d h).rx = s.rx := by
  simp only [State.tokTake]; split_ifs <;> simp
@[simp] theorem State.tokTake_tx (d h : Nat) : (s.tokTake d h).tx = s.tx := by
  simp only [State.tokTake]; split_ifs <;> simp
@[simp] theorem State.tokTake_fab (d h : Nat) : (s.tokTake d h).fab = s.fab := by
  simp only [State.tokTake]; split_ifs <;> simp
@[simp] theorem State.tokTake_map (d h : Nat) : (s.tokTake d h).map = s.map := by
  simp only [State.tokTake]; split_ifs <;> simp
@[simp] theorem State.tokTake_grp (d h : Nat) : (s.tokTake d h).grp = s.grp := by
  simp only [State.tokTake]; split_ifs <;> simp
@[simp] theorem State.tokTake_prot (d h : Nat) : (s.tokTake d h).prot = s.prot := by
  simp only [State.tokTake]; split_ifs <;> simp
@[simp] theorem State.tokTake_wit (d h : Nat) : (s.tokTake d h).wit = s.wit := by
  simp only [State.tokTake]; split_ifs <;> simp
@[simp] theorem State.tokTake_led (d h : Nat) : (s.tokTake d h).led = s.led := by
  simp only [State.tokTake]; split_ifs <;> simp
@[simp] theorem State.tokTake_ref (d h : Nat) : (s.tokTake d h).ref = s.ref := by
  simp only [State.tokTake]; split_ifs <;> simp
@[simp] theorem State.tokTake_tim (d h : Nat) : (s.tokTake d h).tim = s.tim := by
  simp only [State.tokTake]; split_ifs <;> simp
@[simp] theorem State.tokTake_mem (d h : Nat) : (s.tokTake d h).mem = s.mem := by
  simp only [State.tokTake]; split_ifs <;> simp
@[simp] theorem State.tokTake_mtx (d h : Nat) : (s.tokTake d h).mtx = s.mtx := by
  simp only [State.tokTake]; split_ifs <;> simp
@[simp] theorem State.tokTake_fw (d h : Nat) : (s.tokTake d h).fw = s.fw := by
  simp only [State.tokTake]; split_ifs <;> simp
@[simp] theorem State.tokTake_asy (d h : Nat) : (s.tokTake d h).asy = s.asy := by
  simp only [State.tokTake]; split_ifs <;> simp
@[simp] theorem State.tokTake_tal (d h : Nat) : (s.tokTake d h).tal = s.tal := by
  simp only [State.tokTake]; split_ifs <;> simp
@[simp] theorem State.tokTake_crier (d h : Nat) : (s.tokTake d h).crier = s.crier := by
  simp only [State.tokTake]; split_ifs <;> simp
@[simp] theorem State.tokTake_crierSlip (d h : Nat) : (s.tokTake d h).crierSlip = s.crierSlip := by
  simp only [State.tokTake]; split_ifs <;> simp
@[simp] theorem State.tokTake_freeCtr (d h : Nat) : (s.tokTake d h).freeCtr = s.freeCtr := by
  simp only [State.tokTake]; split_ifs <;> simp

/-! ### tokDrop -/

@[simp] theorem State.tokDrop_pending (d : Nat) : (s.tokDrop d).pending = s.pending := by
  simp only [State.tokDrop]; split_ifs <;> simp
@[simp] theorem State.tokDrop_live (d : Nat) : (s.tokDrop d).live = s.live := by
  simp only [State.tokDrop]; split_ifs <;> simp
@[simp] theorem State.tokDrop_clk (d : Nat) : (s.tokDrop d).clk = s.clk := by
  simp only [State.tokDrop]; split_ifs <;> simp
@[simp] theorem State.tokDrop_sys (d : Nat) : (s.tokDrop d).sys = s.sys := by
  simp only [State.tokDrop]; split_ifs <;> simp
@[simp] theorem State.tokDrop_out (d : Nat) : (s.tokDrop d).out = s.out := by
  simp only [State.tokDrop]; split_ifs <;> simp
@[simp] theorem State.tokDrop_rate (d : Nat) : (s.tokDrop d).rate = s.rate := by
  simp only [State.tokDrop]; split_ifs <;> simp
@[simp] theorem State.tokDrop_link (d : Nat) : (s.tokDrop d).link = s.link := by
  simp only [State.tokDrop]; split_ifs <;> simp
@[simp] theorem State.tokDrop_linkq (d : Nat) : (s.tokDrop d).linkq = s.linkq := by
  simp only [State.tokDrop]; split_ifs <;> simp
@[simp] theorem State.tokDrop_rx (d : Nat) : (s.tokDrop d).rx = s.rx := by
  simp only [State.tokDrop]; split_ifs <;> simp
@[simp] theorem State.tokDrop_tx (d : Nat) : (s.tokDrop d).tx = s.tx := by
  simp only [State.tokDrop]; split_ifs <;> simp
@[simp] theorem State.tokDrop_fab (d : Nat) : (s.tokDrop d).fab = s.fab := by
  simp only [State.tokDrop]; split_ifs <;> simp
@[simp] theorem State.tokDrop_map (d : Nat) : (s.tokDrop d).map = s.map := by
  simp only [State.tokDrop]; split_ifs <;> simp
@[simp] theorem State.tokDrop_grp (d : Nat) : (s.tokDrop d).grp = s.grp := by
  simp only [State.tokDrop]; split_ifs <;> simp
@[simp] theorem State.tokDrop_prot (d : Nat) : (s.tokDrop d).prot = s.prot := by
  simp only [State.tokDrop]; split_ifs <;> simp
@[simp] theorem State.tokDrop_wit (d : Nat) : (s.tokDrop d).wit = s.wit := by
  simp only [State.tokDrop]; split_ifs <;> simp
@[simp] theorem State.tokDrop_led (d : Nat) : (s.tokDrop d).led = s.led := by
  simp only [State.tokDrop]; split_ifs <;> simp
@[simp] theorem State.tokDrop_ref (d : Nat) : (s.tokDrop d).ref = s.ref := by
  simp only [State.tokDrop]; split_ifs <;> simp
@[simp] theorem State.tokDrop_tim (d : Nat) : (s.tokDrop d).tim = s.tim := by
  simp only [State.tokDrop]; split_ifs <;> simp
@[simp] theorem State.tokDrop_mem (d : Nat) : (s.tokDrop d).mem = s.mem := by
  simp only [State.tokDrop]; split_ifs <;> simp
@[simp] theorem State.tokDrop_mtx (d : Nat) : (s.tokDrop d).mtx = s.mtx := by
  simp only [State.tokDrop]; split_ifs <;> simp
@[simp] theorem State.tokDrop_fw (d : Nat) : (s.tokDrop d).fw = s.fw := by
  simp only [State.tokDrop]; split_ifs <;> simp
@[simp] theorem State.tokDrop_asy (d : Nat) : (s.tokDrop d).asy = s.asy := by
  simp only [State.tokDrop]; split_ifs <;> simp
@[simp] theorem State.tokDrop_tal (d : Nat) : (s.tokDrop d).tal = s.tal := by
  simp only [State.tokDrop]; split_ifs <;> simp
@[simp] theorem State.tokDrop_crier (d : Nat) : (s.tokDrop d).crier = s.crier := by
  simp only [State.tokDrop]; split_ifs <;> simp
@[simp] theorem State.tokDrop_crierSlip (d : Nat) : (s.tokDrop d).crierSlip = s.crierSlip := by
  simp only [State.tokDrop]; split_ifs <;> simp
@[simp] theorem State.tokDrop_freeCtr (d : Nat) : (s.tokDrop d).freeCtr = s.freeCtr := by
  simp only [State.tokDrop]; split_ifs <;> simp

/-! ### actStart -/

@[simp] theorem State.actStart_pending (d h : Nat) : (s.actStart d h).pending = s.pending := by
  simp [State.actStart]
@[simp] theorem State.actStart_live (d h : Nat) : (s.actStart d h).live = s.live := by
  simp [State.actStart]
@[simp] theorem State.actStart_clk (d h : Nat) : (s.actStart d h).clk = s.clk := by
  simp [State.actStart]
@[simp] theorem State.actStart_sys (d h : Nat) : (s.actStart d h).sys = s.sys := by
  simp [State.actStart]
@[simp] theorem State.actStart_out (d h : Nat) : (s.actStart d h).out = s.out := by
  simp [State.actStart]
@[simp] theorem State.actStart_rate (d h : Nat) : (s.actStart d h).rate = s.rate := by
  simp [State.actStart]
@[simp] theorem State.actStart_link (d h : Nat) : (s.actStart d h).link = s.link := by
  simp [State.actStart]
@[simp] theorem State.actStart_linkq (d h : Nat) : (s.actStart d h).linkq = s.linkq := by
  simp [State.actStart]
@[simp] theorem State.actStart_rx (d h : Nat) : (s.actStart d h).rx = s.rx := by
  simp [State.actStart]
@[simp] theorem State.actStart_tx (d h : Nat) : (s.actStart d h).tx = s.tx := by
  simp [State.actStart]
@[simp] theorem State.actStart_fab (d h : Nat) : (s.actStart d h).fab = s.fab := by
  simp [State.actStart]
@[simp] theorem State.actStart_map (d h : Nat) : (s.actStart d h).map = s.map := by
  simp [State.actStart]
@[simp] theorem State.actStart_grp (d h : Nat) : (s.actStart d h).grp = s.grp := by
  simp [State.actStart]
@[simp] theorem State.actStart_prot (d h : Nat) : (s.actStart d h).prot = s.prot := by
  simp [State.actStart]
@[simp] theorem State.actStart_wit (d h : Nat) : (s.actStart d h).wit = s.wit := by
  simp [State.actStart]
@[simp] theorem State.actStart_led (d h : Nat) : (s.actStart d h).led = s.led := by
  simp [State.actStart]
@[simp] theorem State.actStart_ref (d h : Nat) : (s.actStart d h).ref = s.ref := by
  simp [State.actStart]
@[simp] theorem State.actStart_tim (d h : Nat) : (s.actStart d h).tim = s.tim := by
  simp [State.actStart]
@[simp] theorem State.actStart_mem (d h : Nat) : (s.actStart d h).mem = s.mem := by
  simp [State.actStart]
@[simp] theorem State.actStart_mtx (d h : Nat) : (s.actStart d h).mtx = s.mtx := by
  simp [State.actStart]
@[simp] theorem State.actStart_fw (d h : Nat) : (s.actStart d h).fw = s.fw := by
  simp [State.actStart]
@[simp] theorem State.actStart_asy (d h : Nat) : (s.actStart d h).asy = s.asy := by
  simp [State.actStart]
@[simp] theorem State.actStart_tal (d h : Nat) : (s.actStart d h).tal = s.tal := by
  simp [State.actStart]
@[simp] theorem State.actStart_crier (d h : Nat) : (s.actStart d h).crier = s.crier := by
  simp [State.actStart]
@[simp] theorem State.actStart_crierSlip (d h : Nat) : (s.actStart d h).crierSlip = s.crierSlip := by
  simp [State.actStart]
@[simp] theorem State.actStart_freeCtr (d h : Nat) : (s.actStart d h).freeCtr = s.freeCtr := by
  simp [State.actStart]

/-! ### actEnd -/

@[simp] theorem State.actEnd_pending (d : Nat) : (s.actEnd d).pending = s.pending := by
  simp only [State.actEnd]; split_ifs <;> simp
@[simp] theorem State.actEnd_live (d : Nat) : (s.actEnd d).live = s.live := by
  simp only [State.actEnd]; split_ifs <;> simp
@[simp] theorem State.actEnd_clk (d : Nat) : (s.actEnd d).clk = s.clk := by
  simp only [State.actEnd]; split_ifs <;> simp
@[simp] theorem State.actEnd_sys (d : Nat) : (s.actEnd d).sys = s.sys := by
  simp only [State.actEnd]; split_ifs <;> simp
@[simp] theorem State.actEnd_out (d : Nat) : (s.actEnd d).out = s.out := by
  simp only [State.actEnd]; split_ifs <;> simp
@[simp] theorem State.actEnd_rate (d : Nat) : (s.actEnd d).rate = s.rate := by
  simp only [State.actEnd]; split_ifs <;> simp
@[simp] theorem State.actEnd_link (d : Nat) : (s.actEnd d).link = s.link := by
  simp only [State.actEnd]; split_ifs <;> simp
@[simp] theorem State.actEnd_linkq (d : Nat) : (s.actEnd d).linkq = s.linkq := by
  simp only [State.actEnd]; split_ifs <;> simp
@[simp] theorem State.actEnd_rx (d : Nat) : (s.actEnd d).rx = s.rx := by
  simp only [State.actEnd]; split_ifs <;> simp
@[simp] theorem State.actEnd_tx (d : Nat) : (s.actEnd d).tx = s.tx := by
  simp only [State.actEnd]; split_ifs <;> simp
@[simp] theorem State.actEnd_fab (d : Nat) : (s.actEnd d).fab = s.fab := by
  simp only [State.actEnd]; split_ifs <;> simp
@[simp] theorem State.actEnd_map (d : Nat) : (s.actEnd d).map = s.map := by
  simp only [State.actEnd]; split_ifs <;> simp
@[simp] theorem State.actEnd_grp (d : Nat) : (s.actEnd d).grp = s.grp := by
  simp only [State.actEnd]; split_ifs <;> simp
@[simp] theorem State.actEnd_prot (d : Nat) : (s.actEnd d).prot = s.prot := by
  simp only [State.actEnd]; split_ifs <;> simp
@[simp] theorem State.actEnd_wit (d : Nat) : (s.actEnd d).wit = s.wit := by
  simp only [State.actEnd]; split_ifs <;> simp
@[simp] theorem State.actEnd_led (d : Nat) : (s.actEnd d).led = s.led := by
  simp only [State.actEnd]; split_ifs <;> simp
@[simp] theorem State.actEnd_ref (d : Nat) : (s.actEnd d).ref = s.ref := by
  simp only [State.actEnd]; split_ifs <;> simp
@[simp] theorem State.actEnd_tim (d : Nat) : (s.actEnd d).tim = s.tim := by
  simp only [State.actEnd]; split_ifs <;> simp
@[simp] theorem State.actEnd_mem (d : Nat) : (s.actEnd d).mem = s.mem := by
  simp only [State.actEnd]; split_ifs <;> simp
@[simp] theorem State.actEnd_mtx (d : Nat) : (s.actEnd d).mtx = s.mtx := by
  simp only [State.actEnd]; split_ifs <;> simp
@[simp] theorem State.actEnd_fw (d : Nat) : (s.actEnd d).fw = s.fw := by
  simp only [State.actEnd]; split_ifs <;> simp
@[simp] theorem State.actEnd_asy (d : Nat) : (s.actEnd d).asy = s.asy := by
  simp only [State.actEnd]; split_ifs <;> simp
@[simp] theorem State.actEnd_tal (d : Nat) : (s.actEnd d).tal = s.tal := by
  simp only [State.actEnd]; split_ifs <;> simp
@[simp] theorem State.actEnd_crier (d : Nat) : (s.actEnd d).crier = s.crier := by
  simp only [State.actEnd]; split_ifs <;> simp
@[simp] theorem State.actEnd_crierSlip (d : Nat) : (s.actEnd d).crierSlip = s.crierSlip := by
  simp only [State.actEnd]; split_ifs <;> simp
@[simp] theorem State.actEnd_freeCtr (d : Nat) : (s.actEnd d).freeCtr = s.freeCtr := by
  simp only [State.actEnd]; split_ifs <;> simp

/-! ### journal -/

@[simp] theorem State.journal_pending (kind fsn : Nat) (items : List Byte) :
    (s.journal kind fsn items).pending = s.pending := by
  simp only [State.journal]; split_ifs <;> simp
@[simp] theorem State.journal_live (kind fsn : Nat) (items : List Byte) : (s.journal kind fsn items).live = s.live := by
  simp only [State.journal]; split_ifs <;> simp
@[simp] theorem State.journal_clk (kind fsn : Nat) (items : List Byte) : (s.journal kind fsn items).clk = s.clk := by
  simp only [State.journal]; split_ifs <;> simp
@[simp] theorem State.journal_sys (kind fsn : Nat) (items : List Byte) : (s.journal kind fsn items).sys = s.sys := by
  simp only [State.journal]; split_ifs <;> simp
@[simp] theorem State.journal_out (kind fsn : Nat) (items : List Byte) : (s.journal kind fsn items).out = s.out := by
  simp only [State.journal]; split_ifs <;> simp
@[simp] theorem State.journal_rate (kind fsn : Nat) (items : List Byte) : (s.journal kind fsn items).rate = s.rate := by
  simp only [State.journal]; split_ifs <;> simp
@[simp] theorem State.journal_link (kind fsn : Nat) (items : List Byte) : (s.journal kind fsn items).link = s.link := by
  simp only [State.journal]; split_ifs <;> simp
@[simp] theorem State.journal_linkq (kind fsn : Nat) (items : List Byte) :
    (s.journal kind fsn items).linkq = s.linkq := by
  simp only [State.journal]; split_ifs <;> simp
@[simp] theorem State.journal_rx (kind fsn : Nat) (items : List Byte) : (s.journal kind fsn items).rx = s.rx := by
  simp only [State.journal]; split_ifs <;> simp
@[simp] theorem State.journal_tx (kind fsn : Nat) (items : List Byte) : (s.journal kind fsn items).tx = s.tx := by
  simp only [State.journal]; split_ifs <;> simp
@[simp] theorem State.journal_fab (kind fsn : Nat) (items : List Byte) : (s.journal kind fsn items).fab = s.fab := by
  simp only [State.journal]; split_ifs <;> simp
@[simp] theorem State.journal_map (kind fsn : Nat) (items : List Byte) : (s.journal kind fsn items).map = s.map := by
  simp only [State.journal]; split_ifs <;> simp
@[simp] theorem State.journal_grp (kind fsn : Nat) (items : List Byte) : (s.journal kind fsn items).grp = s.grp := by
  simp only [State.journal]; split_ifs <;> simp
@[simp] theorem State.journal_prot (kind fsn : Nat) (items : List Byte) : (s.journal kind fsn items).prot = s.prot := by
  simp only [State.journal]; split_ifs <;> simp
@[simp] theorem State.journal_wit (kind fsn : Nat) (items : List Byte) : (s.journal kind fsn items).wit = s.wit := by
  simp only [State.journal]; split_ifs <;> simp
@[simp] theorem State.journal_ref (kind fsn : Nat) (items : List Byte) : (s.journal kind fsn items).ref = s.ref := by
  simp only [State.journal]; split_ifs <;> simp
@[simp] theorem State.journal_tim (kind fsn : Nat) (items : List Byte) : (s.journal kind fsn items).tim = s.tim := by
  simp only [State.journal]; split_ifs <;> simp
@[simp] theorem State.journal_mem (kind fsn : Nat) (items : List Byte) : (s.journal kind fsn items).mem = s.mem := by
  simp only [State.journal]; split_ifs <;> simp
@[simp] theorem State.journal_mtx (kind fsn : Nat) (items : List Byte) : (s.journal kind fsn items).mtx = s.mtx := by
  simp only [State.journal]; split_ifs <;> simp
@[simp] theorem State.journal_fw (kind fsn : Nat) (items : List Byte) : (s.journal kind fsn items).fw = s.fw := by
  simp only [State.journal]; split_ifs <;> simp
@[simp] theorem State.journal_asy (kind fsn : Nat) (items : List Byte) : (s.journal kind fsn items).asy = s.asy := by
  simp only [State.journal]; split_ifs <;> simp
@[simp] theorem State.journal_tal (kind fsn : Nat) (items : List Byte) : (s.journal kind fsn items).tal = s.tal := by
  simp only [State.journal]; split_ifs <;> simp
@[simp] theorem State.journal_crier (kind fsn : Nat) (items : List Byte) :
    (s.journal kind fsn items).crier = s.crier := by
  simp only [State.journal]; split_ifs <;> simp
@[simp] theorem State.journal_crierSlip (kind fsn : Nat) (items : List Byte) :
    (s.journal kind fsn items).crierSlip = s.crierSlip := by
  simp only [State.journal]; split_ifs <;> simp
@[simp] theorem State.journal_freeCtr (kind fsn : Nat) (items : List Byte) :
    (s.journal kind fsn items).freeCtr = s.freeCtr := by
  simp only [State.journal]; split_ifs <;> simp

/-! ### record -/

@[simp] theorem State.record_pending (idx e v : Nat) : (s.record idx e v).pending = s.pending := by
  simp only [State.record]; split <;> (try split_ifs) <;> simp
@[simp] theorem State.record_live (idx e v : Nat) : (s.record idx e v).live = s.live := by
  simp only [State.record]; split <;> (try split_ifs) <;> simp
@[simp] theorem State.record_clk (idx e v : Nat) : (s.record idx e v).clk = s.clk := by
  simp only [State.record]; split <;> (try split_ifs) <;> simp
@[simp] theorem State.record_sys (idx e v : Nat) : (s.record idx e v).sys = s.sys := by
  simp only [State.record]; split <;> (try split_ifs) <;> simp
@[simp] theorem State.record_out (idx e v : Nat) : (s.record idx e v).out = s.out := by
  simp only [State.record]; split <;> (try split_ifs) <;> simp
@[simp] theorem State.record_rate (idx e v : Nat) : (s.record idx e v).rate = s.rate := by
  simp only [State.record]; split <;> (try split_ifs) <;> simp
@[simp] theorem State.record_link (idx e v : Nat) : (s.record idx e v).link = s.link := by
  simp only [State.record]; split <;> (try split_ifs) <;> simp
@[simp] theorem State.record_linkq (idx e v : Nat) : (s.record idx e v).linkq = s.linkq := by
  simp only [State.record]; split <;> (try split_ifs) <;> simp
@[simp] theorem State.record_rx (idx e v : Nat) : (s.record idx e v).rx = s.rx := by
  simp only [State.record]; split <;> (try split_ifs) <;> simp
@[simp] theorem State.record_tx (idx e v : Nat) : (s.record idx e v).tx = s.tx := by
  simp only [State.record]; split <;> (try split_ifs) <;> simp
@[simp] theorem State.record_fab (idx e v : Nat) : (s.record idx e v).fab = s.fab := by
  simp only [State.record]; split <;> (try split_ifs) <;> simp
@[simp] theorem State.record_map (idx e v : Nat) : (s.record idx e v).map = s.map := by
  simp only [State.record]; split <;> (try split_ifs) <;> simp
@[simp] theorem State.record_grp (idx e v : Nat) : (s.record idx e v).grp = s.grp := by
  simp only [State.record]; split <;> (try split_ifs) <;> simp
@[simp] theorem State.record_prot (idx e v : Nat) : (s.record idx e v).prot = s.prot := by
  simp only [State.record]; split <;> (try split_ifs) <;> simp
@[simp] theorem State.record_wit (idx e v : Nat) : (s.record idx e v).wit = s.wit := by
  simp only [State.record]; split <;> (try split_ifs) <;> simp
@[simp] theorem State.record_ref (idx e v : Nat) : (s.record idx e v).ref = s.ref := by
  simp only [State.record]; split <;> (try split_ifs) <;> simp
@[simp] theorem State.record_tim (idx e v : Nat) : (s.record idx e v).tim = s.tim := by
  simp only [State.record]; split <;> (try split_ifs) <;> simp
@[simp] theorem State.record_mem (idx e v : Nat) : (s.record idx e v).mem = s.mem := by
  simp only [State.record]; split <;> (try split_ifs) <;> simp
@[simp] theorem State.record_mtx (idx e v : Nat) : (s.record idx e v).mtx = s.mtx := by
  simp only [State.record]; split <;> (try split_ifs) <;> simp
@[simp] theorem State.record_fw (idx e v : Nat) : (s.record idx e v).fw = s.fw := by
  simp only [State.record]; split <;> (try split_ifs) <;> simp
@[simp] theorem State.record_asy (idx e v : Nat) : (s.record idx e v).asy = s.asy := by
  simp only [State.record]; split <;> (try split_ifs) <;> simp
@[simp] theorem State.record_tal (idx e v : Nat) : (s.record idx e v).tal = s.tal := by
  simp only [State.record]; split <;> (try split_ifs) <;> simp
@[simp] theorem State.record_crier (idx e v : Nat) : (s.record idx e v).crier = s.crier := by
  simp only [State.record]; split <;> (try split_ifs) <;> simp
@[simp] theorem State.record_crierSlip (idx e v : Nat) : (s.record idx e v).crierSlip = s.crierSlip := by
  simp only [State.record]; split <;> (try split_ifs) <;> simp
@[simp] theorem State.record_freeCtr (idx e v : Nat) : (s.record idx e v).freeCtr = s.freeCtr := by
  simp only [State.record]; split <;> (try split_ifs) <;> simp

/-! ### refuse -/

@[simp] theorem State.refuse_pending (w : Who) (c : Nat) : (s.refuse w c).pending = s.pending := by
  cases w <;> simp [State.refuse]
@[simp] theorem State.refuse_live (w : Who) (c : Nat) : (s.refuse w c).live = s.live := by
  cases w <;> simp [State.refuse]
@[simp] theorem State.refuse_clk (w : Who) (c : Nat) : (s.refuse w c).clk = s.clk := by
  cases w <;> simp [State.refuse]
@[simp] theorem State.refuse_sys (w : Who) (c : Nat) : (s.refuse w c).sys = s.sys := by
  cases w <;> simp [State.refuse]
@[simp] theorem State.refuse_rate (w : Who) (c : Nat) : (s.refuse w c).rate = s.rate := by
  cases w <;> simp [State.refuse]
@[simp] theorem State.refuse_link (w : Who) (c : Nat) : (s.refuse w c).link = s.link := by
  cases w <;> simp [State.refuse]
@[simp] theorem State.refuse_linkq (w : Who) (c : Nat) : (s.refuse w c).linkq = s.linkq := by
  cases w <;> simp [State.refuse]
@[simp] theorem State.refuse_rx (w : Who) (c : Nat) : (s.refuse w c).rx = s.rx := by
  cases w <;> simp [State.refuse]
@[simp] theorem State.refuse_tx (w : Who) (c : Nat) : (s.refuse w c).tx = s.tx := by
  cases w <;> simp [State.refuse]
@[simp] theorem State.refuse_fab (w : Who) (c : Nat) : (s.refuse w c).fab = s.fab := by
  cases w <;> simp [State.refuse]
@[simp] theorem State.refuse_map (w : Who) (c : Nat) : (s.refuse w c).map = s.map := by
  cases w <;> simp [State.refuse]
@[simp] theorem State.refuse_grp (w : Who) (c : Nat) : (s.refuse w c).grp = s.grp := by
  cases w <;> simp [State.refuse]
@[simp] theorem State.refuse_prot (w : Who) (c : Nat) : (s.refuse w c).prot = s.prot := by
  cases w <;> simp [State.refuse]
@[simp] theorem State.refuse_wit (w : Who) (c : Nat) : (s.refuse w c).wit = s.wit := by
  cases w <;> simp [State.refuse]
@[simp] theorem State.refuse_led (w : Who) (c : Nat) : (s.refuse w c).led = s.led := by
  cases w <;> simp [State.refuse]
@[simp] theorem State.refuse_ref (w : Who) (c : Nat) : (s.refuse w c).ref = s.ref := by
  cases w <;> simp [State.refuse]
@[simp] theorem State.refuse_tim (w : Who) (c : Nat) : (s.refuse w c).tim = s.tim := by
  cases w <;> simp [State.refuse]
@[simp] theorem State.refuse_mem (w : Who) (c : Nat) : (s.refuse w c).mem = s.mem := by
  cases w <;> simp [State.refuse]
@[simp] theorem State.refuse_mtx (w : Who) (c : Nat) : (s.refuse w c).mtx = s.mtx := by
  cases w <;> simp [State.refuse]
@[simp] theorem State.refuse_hdp (w : Who) (c : Nat) : (s.refuse w c).hdp = s.hdp := by
  cases w <;> simp [State.refuse]
@[simp] theorem State.refuse_fw (w : Who) (c : Nat) : (s.refuse w c).fw = s.fw := by
  cases w <;> simp [State.refuse]
@[simp] theorem State.refuse_asy (w : Who) (c : Nat) : (s.refuse w c).asy = s.asy := by
  cases w <;> simp [State.refuse]
@[simp] theorem State.refuse_tal (w : Who) (c : Nat) : (s.refuse w c).tal = s.tal := by
  cases w <;> simp [State.refuse]
@[simp] theorem State.refuse_crier (w : Who) (c : Nat) : (s.refuse w c).crier = s.crier := by
  cases w <;> simp [State.refuse]
@[simp] theorem State.refuse_crierSlip (w : Who) (c : Nat) : (s.refuse w c).crierSlip = s.crierSlip := by
  cases w <;> simp [State.refuse]
@[simp] theorem State.refuse_freeCtr (w : Who) (c : Nat) : (s.refuse w c).freeCtr = s.freeCtr := by
  cases w <;> simp [State.refuse]

/-! ### enter -/

@[simp] theorem State.enter_pending (m : Mode) : (s.enter m).pending = s.pending := by
  simp only [State.enter]; split_ifs <;> simp
@[simp] theorem State.enter_live (m : Mode) : (s.enter m).live = s.live := by
  simp only [State.enter]; split_ifs <;> simp
@[simp] theorem State.enter_clk (m : Mode) : (s.enter m).clk = s.clk := by
  simp only [State.enter]; split_ifs <;> simp
@[simp] theorem State.enter_out (m : Mode) : (s.enter m).out = s.out := by
  simp only [State.enter]; split_ifs <;> simp
@[simp] theorem State.enter_rate (m : Mode) : (s.enter m).rate = s.rate := by
  simp only [State.enter]; split_ifs <;> simp
@[simp] theorem State.enter_link (m : Mode) : (s.enter m).link = s.link := by
  simp only [State.enter]; split_ifs <;> simp
@[simp] theorem State.enter_linkq (m : Mode) : (s.enter m).linkq = s.linkq := by
  simp only [State.enter]; split_ifs <;> simp
@[simp] theorem State.enter_rx (m : Mode) : (s.enter m).rx = s.rx := by
  simp only [State.enter]; split_ifs <;> simp
@[simp] theorem State.enter_tx (m : Mode) : (s.enter m).tx = s.tx := by
  simp only [State.enter]; split_ifs <;> simp
@[simp] theorem State.enter_fab (m : Mode) : (s.enter m).fab = s.fab := by
  simp only [State.enter]; split_ifs <;> simp
@[simp] theorem State.enter_map (m : Mode) : (s.enter m).map = s.map := by
  simp only [State.enter]; split_ifs <;> simp
@[simp] theorem State.enter_grp (m : Mode) : (s.enter m).grp = s.grp := by
  simp only [State.enter]; split_ifs <;> simp
@[simp] theorem State.enter_prot (m : Mode) : (s.enter m).prot = s.prot := by
  simp only [State.enter]; split_ifs <;> simp
@[simp] theorem State.enter_wit (m : Mode) : (s.enter m).wit = s.wit := by
  simp only [State.enter]; split_ifs <;> simp
@[simp] theorem State.enter_led (m : Mode) : (s.enter m).led = s.led := by
  simp only [State.enter]; split_ifs <;> simp
@[simp] theorem State.enter_ref (m : Mode) : (s.enter m).ref = s.ref := by
  simp only [State.enter]; split_ifs <;> simp
@[simp] theorem State.enter_tim (m : Mode) : (s.enter m).tim = s.tim := by
  simp only [State.enter]; split_ifs <;> simp
@[simp] theorem State.enter_mem (m : Mode) : (s.enter m).mem = s.mem := by
  simp only [State.enter]; split_ifs <;> simp
@[simp] theorem State.enter_mtx (m : Mode) : (s.enter m).mtx = s.mtx := by
  simp only [State.enter]; split_ifs <;> simp
@[simp] theorem State.enter_fw (m : Mode) : (s.enter m).fw = s.fw := by
  simp only [State.enter]; split_ifs <;> simp
@[simp] theorem State.enter_asy (m : Mode) : (s.enter m).asy = s.asy := by
  simp only [State.enter]; split_ifs <;> simp
@[simp] theorem State.enter_tal (m : Mode) : (s.enter m).tal = s.tal := by
  simp only [State.enter]; split_ifs <;> simp
@[simp] theorem State.enter_crier (m : Mode) : (s.enter m).crier = s.crier := by
  simp only [State.enter]; split_ifs <;> simp
@[simp] theorem State.enter_crierSlip (m : Mode) : (s.enter m).crierSlip = s.crierSlip := by
  simp only [State.enter]; split_ifs <;> simp
@[simp] theorem State.enter_freeCtr (m : Mode) : (s.enter m).freeCtr = s.freeCtr := by
  simp only [State.enter]; split_ifs <;> simp

/-! ### asyShow -/

@[simp] theorem State.asyShow_pending (g : Nat) : (s.asyShow g).pending = s.pending := by
  simp [State.asyShow]
@[simp] theorem State.asyShow_live (g : Nat) : (s.asyShow g).live = s.live := by
  simp [State.asyShow]
@[simp] theorem State.asyShow_clk (g : Nat) : (s.asyShow g).clk = s.clk := by
  simp [State.asyShow]
@[simp] theorem State.asyShow_sys (g : Nat) : (s.asyShow g).sys = s.sys := by
  simp [State.asyShow]
@[simp] theorem State.asyShow_out (g : Nat) : (s.asyShow g).out = s.out := by
  simp [State.asyShow]
@[simp] theorem State.asyShow_rate (g : Nat) : (s.asyShow g).rate = s.rate := by
  simp [State.asyShow]
@[simp] theorem State.asyShow_link (g : Nat) : (s.asyShow g).link = s.link := by
  simp [State.asyShow]
@[simp] theorem State.asyShow_linkq (g : Nat) : (s.asyShow g).linkq = s.linkq := by
  simp [State.asyShow]
@[simp] theorem State.asyShow_rx (g : Nat) : (s.asyShow g).rx = s.rx := by
  simp [State.asyShow]
@[simp] theorem State.asyShow_tx (g : Nat) : (s.asyShow g).tx = s.tx := by
  simp [State.asyShow]
@[simp] theorem State.asyShow_fab (g : Nat) : (s.asyShow g).fab = s.fab := by
  simp [State.asyShow]
@[simp] theorem State.asyShow_map (g : Nat) : (s.asyShow g).map = s.map := by
  simp [State.asyShow]
@[simp] theorem State.asyShow_grp (g : Nat) : (s.asyShow g).grp = s.grp := by
  simp [State.asyShow]
@[simp] theorem State.asyShow_prot (g : Nat) : (s.asyShow g).prot = s.prot := by
  simp [State.asyShow]
@[simp] theorem State.asyShow_wit (g : Nat) : (s.asyShow g).wit = s.wit := by
  simp [State.asyShow]
@[simp] theorem State.asyShow_led (g : Nat) : (s.asyShow g).led = s.led := by
  simp [State.asyShow]
@[simp] theorem State.asyShow_ref (g : Nat) : (s.asyShow g).ref = s.ref := by
  simp [State.asyShow]
@[simp] theorem State.asyShow_tim (g : Nat) : (s.asyShow g).tim = s.tim := by
  simp [State.asyShow]
@[simp] theorem State.asyShow_mem (g : Nat) : (s.asyShow g).mem = s.mem := by
  simp [State.asyShow]
@[simp] theorem State.asyShow_mtx (g : Nat) : (s.asyShow g).mtx = s.mtx := by
  simp [State.asyShow]
@[simp] theorem State.asyShow_hdp (g : Nat) : (s.asyShow g).hdp = s.hdp := by
  simp [State.asyShow]
@[simp] theorem State.asyShow_fw (g : Nat) : (s.asyShow g).fw = s.fw := by
  simp [State.asyShow]
@[simp] theorem State.asyShow_asy (g : Nat) : (s.asyShow g).asy = s.asy := by
  simp [State.asyShow]
@[simp] theorem State.asyShow_tal (g : Nat) : (s.asyShow g).tal = s.tal := by
  simp [State.asyShow]
@[simp] theorem State.asyShow_crier (g : Nat) : (s.asyShow g).crier = s.crier := by
  simp [State.asyShow]
@[simp] theorem State.asyShow_crierSlip (g : Nat) : (s.asyShow g).crierSlip = s.crierSlip := by
  simp [State.asyShow]
@[simp] theorem State.asyShow_freeCtr (g : Nat) : (s.asyShow g).freeCtr = s.freeCtr := by
  simp [State.asyShow]

/-! ### asyLog -/

@[simp] theorem State.asyLog_pending (t : TestT) (o r : Nat) : (s.asyLog t o r).pending = s.pending := (rfl)
@[simp] theorem State.asyLog_regs (t : TestT) (o r : Nat) : (s.asyLog t o r).regs = s.regs := (rfl)
@[simp] theorem State.asyLog_live (t : TestT) (o r : Nat) : (s.asyLog t o r).live = s.live := (rfl)
@[simp] theorem State.asyLog_clk (t : TestT) (o r : Nat) : (s.asyLog t o r).clk = s.clk := (rfl)
@[simp] theorem State.asyLog_sys (t : TestT) (o r : Nat) : (s.asyLog t o r).sys = s.sys := (rfl)
@[simp] theorem State.asyLog_out (t : TestT) (o r : Nat) : (s.asyLog t o r).out = s.out := (rfl)
@[simp] theorem State.asyLog_rate (t : TestT) (o r : Nat) : (s.asyLog t o r).rate = s.rate := (rfl)
@[simp] theorem State.asyLog_link (t : TestT) (o r : Nat) : (s.asyLog t o r).link = s.link := (rfl)
@[simp] theorem State.asyLog_linkq (t : TestT) (o r : Nat) : (s.asyLog t o r).linkq = s.linkq := (rfl)
@[simp] theorem State.asyLog_rx (t : TestT) (o r : Nat) : (s.asyLog t o r).rx = s.rx := (rfl)
@[simp] theorem State.asyLog_tx (t : TestT) (o r : Nat) : (s.asyLog t o r).tx = s.tx := (rfl)
@[simp] theorem State.asyLog_fab (t : TestT) (o r : Nat) : (s.asyLog t o r).fab = s.fab := (rfl)
@[simp] theorem State.asyLog_map (t : TestT) (o r : Nat) : (s.asyLog t o r).map = s.map := (rfl)
@[simp] theorem State.asyLog_grp (t : TestT) (o r : Nat) : (s.asyLog t o r).grp = s.grp := (rfl)
@[simp] theorem State.asyLog_prot (t : TestT) (o r : Nat) : (s.asyLog t o r).prot = s.prot := (rfl)
@[simp] theorem State.asyLog_wit (t : TestT) (o r : Nat) : (s.asyLog t o r).wit = s.wit := (rfl)
@[simp] theorem State.asyLog_led (t : TestT) (o r : Nat) : (s.asyLog t o r).led = s.led := (rfl)
@[simp] theorem State.asyLog_ref (t : TestT) (o r : Nat) : (s.asyLog t o r).ref = s.ref := (rfl)
@[simp] theorem State.asyLog_tim (t : TestT) (o r : Nat) : (s.asyLog t o r).tim = s.tim := (rfl)
@[simp] theorem State.asyLog_mem (t : TestT) (o r : Nat) : (s.asyLog t o r).mem = s.mem := (rfl)
@[simp] theorem State.asyLog_mtx (t : TestT) (o r : Nat) : (s.asyLog t o r).mtx = s.mtx := (rfl)
@[simp] theorem State.asyLog_hdp (t : TestT) (o r : Nat) : (s.asyLog t o r).hdp = s.hdp := (rfl)
@[simp] theorem State.asyLog_fw (t : TestT) (o r : Nat) : (s.asyLog t o r).fw = s.fw := (rfl)
@[simp] theorem State.asyLog_tal (t : TestT) (o r : Nat) : (s.asyLog t o r).tal = s.tal := (rfl)
@[simp] theorem State.asyLog_crier (t : TestT) (o r : Nat) : (s.asyLog t o r).crier = s.crier := (rfl)
@[simp] theorem State.asyLog_crierSlip (t : TestT) (o r : Nat) : (s.asyLog t o r).crierSlip = s.crierSlip := (rfl)
@[simp] theorem State.asyLog_freeCtr (t : TestT) (o r : Nat) : (s.asyLog t o r).freeCtr = s.freeCtr := (rfl)

/-! ### testRun -/

@[simp] theorem State.testRun_pending (g : Nat) (t : TestT) : (s.testRun g t).pending = s.pending := by
  simp only [State.testRun]; split_ifs <;> simp
@[simp] theorem State.testRun_live (g : Nat) (t : TestT) : (s.testRun g t).live = s.live := by
  simp only [State.testRun]; split_ifs <;> simp
@[simp] theorem State.testRun_clk (g : Nat) (t : TestT) : (s.testRun g t).clk = s.clk := by
  simp only [State.testRun]; split_ifs <;> simp
@[simp] theorem State.testRun_sys (g : Nat) (t : TestT) : (s.testRun g t).sys = s.sys := by
  simp only [State.testRun]; split_ifs <;> simp
@[simp] theorem State.testRun_rate (g : Nat) (t : TestT) : (s.testRun g t).rate = s.rate := by
  simp only [State.testRun]; split_ifs <;> simp
@[simp] theorem State.testRun_link (g : Nat) (t : TestT) : (s.testRun g t).link = s.link := by
  simp only [State.testRun]; split_ifs <;> simp
@[simp] theorem State.testRun_rx (g : Nat) (t : TestT) : (s.testRun g t).rx = s.rx := by
  simp only [State.testRun]; split_ifs <;> simp
@[simp] theorem State.testRun_tx (g : Nat) (t : TestT) : (s.testRun g t).tx = s.tx := by
  simp only [State.testRun]; split_ifs <;> simp
@[simp] theorem State.testRun_fab (g : Nat) (t : TestT) : (s.testRun g t).fab = s.fab := by
  simp only [State.testRun]; split_ifs <;> simp
@[simp] theorem State.testRun_map (g : Nat) (t : TestT) : (s.testRun g t).map = s.map := by
  simp only [State.testRun]; split_ifs <;> simp
@[simp] theorem State.testRun_grp (g : Nat) (t : TestT) : (s.testRun g t).grp = s.grp := by
  simp only [State.testRun]; split_ifs <;> simp
@[simp] theorem State.testRun_prot (g : Nat) (t : TestT) : (s.testRun g t).prot = s.prot := by
  simp only [State.testRun]; split_ifs <;> simp
@[simp] theorem State.testRun_wit (g : Nat) (t : TestT) : (s.testRun g t).wit = s.wit := by
  simp only [State.testRun]; split_ifs <;> simp
@[simp] theorem State.testRun_led (g : Nat) (t : TestT) : (s.testRun g t).led = s.led := by
  simp only [State.testRun]; split_ifs <;> simp
@[simp] theorem State.testRun_ref (g : Nat) (t : TestT) : (s.testRun g t).ref = s.ref := by
  simp only [State.testRun]; split_ifs <;> simp
@[simp] theorem State.testRun_tim (g : Nat) (t : TestT) : (s.testRun g t).tim = s.tim := by
  simp only [State.testRun]; split_ifs <;> simp
@[simp] theorem State.testRun_mem (g : Nat) (t : TestT) : (s.testRun g t).mem = s.mem := by
  simp only [State.testRun]; split_ifs <;> simp
@[simp] theorem State.testRun_mtx (g : Nat) (t : TestT) : (s.testRun g t).mtx = s.mtx := by
  simp only [State.testRun]; split_ifs <;> simp
@[simp] theorem State.testRun_hdp (g : Nat) (t : TestT) : (s.testRun g t).hdp = s.hdp := by
  simp only [State.testRun]; split_ifs <;> simp
@[simp] theorem State.testRun_fw (g : Nat) (t : TestT) : (s.testRun g t).fw = s.fw := by
  simp only [State.testRun]; split_ifs <;> simp
@[simp] theorem State.testRun_crier (g : Nat) (t : TestT) : (s.testRun g t).crier = s.crier := by
  simp only [State.testRun]; split_ifs <;> simp
@[simp] theorem State.testRun_crierSlip (g : Nat) (t : TestT) : (s.testRun g t).crierSlip = s.crierSlip := by
  simp only [State.testRun]; split_ifs <;> simp
@[simp] theorem State.testRun_freeCtr (g : Nat) (t : TestT) : (s.testRun g t).freeCtr = s.freeCtr := by
  simp only [State.testRun]; split_ifs <;> simp

/-! ### pathMark -/

@[simp] theorem State.pathMark_pending (res : Nat) : (s.pathMark res).pending = s.pending := by
  simp only [State.pathMark]; split <;> (try split_ifs) <;> simp
@[simp] theorem State.pathMark_regs (res : Nat) : (s.pathMark res).regs = s.regs := by
  simp only [State.pathMark]; split <;> (try split_ifs) <;> simp
@[simp] theorem State.pathMark_live (res : Nat) : (s.pathMark res).live = s.live := by
  simp only [State.pathMark]; split <;> (try split_ifs) <;> simp
@[simp] theorem State.pathMark_clk (res : Nat) : (s.pathMark res).clk = s.clk := by
  simp only [State.pathMark]; split <;> (try split_ifs) <;> simp
@[simp] theorem State.pathMark_sys (res : Nat) : (s.pathMark res).sys = s.sys := by
  simp only [State.pathMark]; split <;> (try split_ifs) <;> simp
@[simp] theorem State.pathMark_out (res : Nat) : (s.pathMark res).out = s.out := by
  simp only [State.pathMark]; split <;> (try split_ifs) <;> simp
@[simp] theorem State.pathMark_rate (res : Nat) : (s.pathMark res).rate = s.rate := by
  simp only [State.pathMark]; split <;> (try split_ifs) <;> simp
@[simp] theorem State.pathMark_link (res : Nat) : (s.pathMark res).link = s.link := by
  simp only [State.pathMark]; split <;> (try split_ifs) <;> simp
@[simp] theorem State.pathMark_linkq (res : Nat) : (s.pathMark res).linkq = s.linkq := by
  simp only [State.pathMark]; split <;> (try split_ifs) <;> simp
@[simp] theorem State.pathMark_rx (res : Nat) : (s.pathMark res).rx = s.rx := by
  simp only [State.pathMark]; split <;> (try split_ifs) <;> simp
@[simp] theorem State.pathMark_tx (res : Nat) : (s.pathMark res).tx = s.tx := by
  simp only [State.pathMark]; split <;> (try split_ifs) <;> simp
@[simp] theorem State.pathMark_fab (res : Nat) : (s.pathMark res).fab = s.fab := by
  simp only [State.pathMark]; split <;> (try split_ifs) <;> simp
@[simp] theorem State.pathMark_map (res : Nat) : (s.pathMark res).map = s.map := by
  simp only [State.pathMark]; split <;> (try split_ifs) <;> simp
@[simp] theorem State.pathMark_grp (res : Nat) : (s.pathMark res).grp = s.grp := by
  simp only [State.pathMark]; split <;> (try split_ifs) <;> simp
@[simp] theorem State.pathMark_prot (res : Nat) : (s.pathMark res).prot = s.prot := by
  simp only [State.pathMark]; split <;> (try split_ifs) <;> simp
@[simp] theorem State.pathMark_wit (res : Nat) : (s.pathMark res).wit = s.wit := by
  simp only [State.pathMark]; split <;> (try split_ifs) <;> simp
@[simp] theorem State.pathMark_led (res : Nat) : (s.pathMark res).led = s.led := by
  simp only [State.pathMark]; split <;> (try split_ifs) <;> simp
@[simp] theorem State.pathMark_ref (res : Nat) : (s.pathMark res).ref = s.ref := by
  simp only [State.pathMark]; split <;> (try split_ifs) <;> simp
@[simp] theorem State.pathMark_tim (res : Nat) : (s.pathMark res).tim = s.tim := by
  simp only [State.pathMark]; split <;> (try split_ifs) <;> simp
@[simp] theorem State.pathMark_mem (res : Nat) : (s.pathMark res).mem = s.mem := by
  simp only [State.pathMark]; split <;> (try split_ifs) <;> simp
@[simp] theorem State.pathMark_mtx (res : Nat) : (s.pathMark res).mtx = s.mtx := by
  simp only [State.pathMark]; split <;> (try split_ifs) <;> simp
@[simp] theorem State.pathMark_hdp (res : Nat) : (s.pathMark res).hdp = s.hdp := by
  simp only [State.pathMark]; split <;> (try split_ifs) <;> simp
@[simp] theorem State.pathMark_fw (res : Nat) : (s.pathMark res).fw = s.fw := by
  simp only [State.pathMark]; split <;> (try split_ifs) <;> simp
@[simp] theorem State.pathMark_tal (res : Nat) : (s.pathMark res).tal = s.tal := by
  simp only [State.pathMark]; split <;> (try split_ifs) <;> simp
@[simp] theorem State.pathMark_crier (res : Nat) : (s.pathMark res).crier = s.crier := by
  simp only [State.pathMark]; split <;> (try split_ifs) <;> simp
@[simp] theorem State.pathMark_crierSlip (res : Nat) : (s.pathMark res).crierSlip = s.crierSlip := by
  simp only [State.pathMark]; split <;> (try split_ifs) <;> simp
@[simp] theorem State.pathMark_freeCtr (res : Nat) : (s.pathMark res).freeCtr = s.freeCtr := by
  simp only [State.pathMark]; split <;> (try split_ifs) <;> simp

/-! ### asyEnqueue -/

@[simp] theorem State.asyEnqueue_pending (t : TestT) : (s.asyEnqueue t).pending = s.pending := by
  simp only [State.asyEnqueue]; split_ifs <;> (try split) <;> (try split_ifs) <;> simp
@[simp] theorem State.asyEnqueue_live (t : TestT) : (s.asyEnqueue t).live = s.live := by
  simp only [State.asyEnqueue]; split_ifs <;> (try split) <;> (try split_ifs) <;> simp
@[simp] theorem State.asyEnqueue_clk (t : TestT) : (s.asyEnqueue t).clk = s.clk := by
  simp only [State.asyEnqueue]; split_ifs <;> (try split) <;> (try split_ifs) <;> simp
@[simp] theorem State.asyEnqueue_sys (t : TestT) : (s.asyEnqueue t).sys = s.sys := by
  simp only [State.asyEnqueue]; split_ifs <;> (try split) <;> (try split_ifs) <;> simp
@[simp] theorem State.asyEnqueue_rate (t : TestT) : (s.asyEnqueue t).rate = s.rate := by
  simp only [State.asyEnqueue]; split_ifs <;> (try split) <;> (try split_ifs) <;> simp
@[simp] theorem State.asyEnqueue_link (t : TestT) : (s.asyEnqueue t).link = s.link := by
  simp only [State.asyEnqueue]; split_ifs <;> (try split) <;> (try split_ifs) <;> simp
@[simp] theorem State.asyEnqueue_rx (t : TestT) : (s.asyEnqueue t).rx = s.rx := by
  simp only [State.asyEnqueue]; split_ifs <;> (try split) <;> (try split_ifs) <;> simp
@[simp] theorem State.asyEnqueue_tx (t : TestT) : (s.asyEnqueue t).tx = s.tx := by
  simp only [State.asyEnqueue]; split_ifs <;> (try split) <;> (try split_ifs) <;> simp
@[simp] theorem State.asyEnqueue_fab (t : TestT) : (s.asyEnqueue t).fab = s.fab := by
  simp only [State.asyEnqueue]; split_ifs <;> (try split) <;> (try split_ifs) <;> simp
@[simp] theorem State.asyEnqueue_map (t : TestT) : (s.asyEnqueue t).map = s.map := by
  simp only [State.asyEnqueue]; split_ifs <;> (try split) <;> (try split_ifs) <;> simp
@[simp] theorem State.asyEnqueue_grp (t : TestT) : (s.asyEnqueue t).grp = s.grp := by
  simp only [State.asyEnqueue]; split_ifs <;> (try split) <;> (try split_ifs) <;> simp
@[simp] theorem State.asyEnqueue_prot (t : TestT) : (s.asyEnqueue t).prot = s.prot := by
  simp only [State.asyEnqueue]; split_ifs <;> (try split) <;> (try split_ifs) <;> simp
@[simp] theorem State.asyEnqueue_wit (t : TestT) : (s.asyEnqueue t).wit = s.wit := by
  simp only [State.asyEnqueue]; split_ifs <;> (try split) <;> (try split_ifs) <;> simp
@[simp] theorem State.asyEnqueue_led (t : TestT) : (s.asyEnqueue t).led = s.led := by
  simp only [State.asyEnqueue]; split_ifs <;> (try split) <;> (try split_ifs) <;> simp
@[simp] theorem State.asyEnqueue_ref (t : TestT) : (s.asyEnqueue t).ref = s.ref := by
  simp only [State.asyEnqueue]; split_ifs <;> (try split) <;> (try split_ifs) <;> simp
@[simp] theorem State.asyEnqueue_tim (t : TestT) : (s.asyEnqueue t).tim = s.tim := by
  simp only [State.asyEnqueue]; split_ifs <;> (try split) <;> (try split_ifs) <;> simp
@[simp] theorem State.asyEnqueue_mem (t : TestT) : (s.asyEnqueue t).mem = s.mem := by
  simp only [State.asyEnqueue]; split_ifs <;> (try split) <;> (try split_ifs) <;> simp
@[simp] theorem State.asyEnqueue_mtx (t : TestT) : (s.asyEnqueue t).mtx = s.mtx := by
  simp only [State.asyEnqueue]; split_ifs <;> (try split) <;> (try split_ifs) <;> simp
@[simp] theorem State.asyEnqueue_fw (t : TestT) : (s.asyEnqueue t).fw = s.fw := by
  simp only [State.asyEnqueue]; split_ifs <;> (try split) <;> (try split_ifs) <;> simp
@[simp] theorem State.asyEnqueue_crier (t : TestT) : (s.asyEnqueue t).crier = s.crier := by
  simp only [State.asyEnqueue]; split_ifs <;> (try split) <;> (try split_ifs) <;> simp
@[simp] theorem State.asyEnqueue_crierSlip (t : TestT) : (s.asyEnqueue t).crierSlip = s.crierSlip := by
  simp only [State.asyEnqueue]; split_ifs <;> (try split) <;> (try split_ifs) <;> simp
@[simp] theorem State.asyEnqueue_freeCtr (t : TestT) : (s.asyEnqueue t).freeCtr = s.freeCtr := by
  simp only [State.asyEnqueue]; split_ifs <;> (try split) <;> (try split_ifs) <;> simp

/-! ### assayError -/

@[simp] theorem State.assayError_pending (kind res : Nat) : (s.assayError kind res).pending = s.pending := by
  simp only [State.assayError]; split_ifs <;> simp
@[simp] theorem State.assayError_live (kind res : Nat) : (s.assayError kind res).live = s.live := by
  simp only [State.assayError]; split_ifs <;> simp
@[simp] theorem State.assayError_clk (kind res : Nat) : (s.assayError kind res).clk = s.clk := by
  simp only [State.assayError]; split_ifs <;> simp
@[simp] theorem State.assayError_sys (kind res : Nat) : (s.assayError kind res).sys = s.sys := by
  simp only [State.assayError]; split_ifs <;> simp
@[simp] theorem State.assayError_rate (kind res : Nat) : (s.assayError kind res).rate = s.rate := by
  simp only [State.assayError]; split_ifs <;> simp
@[simp] theorem State.assayError_link (kind res : Nat) : (s.assayError kind res).link = s.link := by
  simp only [State.assayError]; split_ifs <;> simp
@[simp] theorem State.assayError_rx (kind res : Nat) : (s.assayError kind res).rx = s.rx := by
  simp only [State.assayError]; split_ifs <;> simp
@[simp] theorem State.assayError_tx (kind res : Nat) : (s.assayError kind res).tx = s.tx := by
  simp only [State.assayError]; split_ifs <;> simp
@[simp] theorem State.assayError_fab (kind res : Nat) : (s.assayError kind res).fab = s.fab := by
  simp only [State.assayError]; split_ifs <;> simp
@[simp] theorem State.assayError_map (kind res : Nat) : (s.assayError kind res).map = s.map := by
  simp only [State.assayError]; split_ifs <;> simp
@[simp] theorem State.assayError_grp (kind res : Nat) : (s.assayError kind res).grp = s.grp := by
  simp only [State.assayError]; split_ifs <;> simp
@[simp] theorem State.assayError_prot (kind res : Nat) : (s.assayError kind res).prot = s.prot := by
  simp only [State.assayError]; split_ifs <;> simp
@[simp] theorem State.assayError_wit (kind res : Nat) : (s.assayError kind res).wit = s.wit := by
  simp only [State.assayError]; split_ifs <;> simp
@[simp] theorem State.assayError_led (kind res : Nat) : (s.assayError kind res).led = s.led := by
  simp only [State.assayError]; split_ifs <;> simp
@[simp] theorem State.assayError_ref (kind res : Nat) : (s.assayError kind res).ref = s.ref := by
  simp only [State.assayError]; split_ifs <;> simp
@[simp] theorem State.assayError_tim (kind res : Nat) : (s.assayError kind res).tim = s.tim := by
  simp only [State.assayError]; split_ifs <;> simp
@[simp] theorem State.assayError_mem (kind res : Nat) : (s.assayError kind res).mem = s.mem := by
  simp only [State.assayError]; split_ifs <;> simp
@[simp] theorem State.assayError_mtx (kind res : Nat) : (s.assayError kind res).mtx = s.mtx := by
  simp only [State.assayError]; split_ifs <;> simp
@[simp] theorem State.assayError_fw (kind res : Nat) : (s.assayError kind res).fw = s.fw := by
  simp only [State.assayError]; split_ifs <;> simp
@[simp] theorem State.assayError_crier (kind res : Nat) : (s.assayError kind res).crier = s.crier := by
  simp only [State.assayError]; split_ifs <;> simp
@[simp] theorem State.assayError_crierSlip (kind res : Nat) : (s.assayError kind res).crierSlip = s.crierSlip := by
  simp only [State.assayError]; split_ifs <;> simp
@[simp] theorem State.assayError_freeCtr (kind res : Nat) : (s.assayError kind res).freeCtr = s.freeCtr := by
  simp only [State.assayError]; split_ifs <;> simp

/-! ### hostTest -/

@[simp] theorem State.hostTest_pending (h res kind rank : Nat) : (s.hostTest h res kind rank).pending = s.pending := by
  simp only [State.hostTest]; split_ifs <;> simp
@[simp] theorem State.hostTest_live (h res kind rank : Nat) : (s.hostTest h res kind rank).live = s.live := by
  simp only [State.hostTest]; split_ifs <;> simp
@[simp] theorem State.hostTest_clk (h res kind rank : Nat) : (s.hostTest h res kind rank).clk = s.clk := by
  simp only [State.hostTest]; split_ifs <;> simp
@[simp] theorem State.hostTest_sys (h res kind rank : Nat) : (s.hostTest h res kind rank).sys = s.sys := by
  simp only [State.hostTest]; split_ifs <;> simp
@[simp] theorem State.hostTest_rate (h res kind rank : Nat) : (s.hostTest h res kind rank).rate = s.rate := by
  simp only [State.hostTest]; split_ifs <;> simp
@[simp] theorem State.hostTest_link (h res kind rank : Nat) : (s.hostTest h res kind rank).link = s.link := by
  simp only [State.hostTest]; split_ifs <;> simp
@[simp] theorem State.hostTest_rx (h res kind rank : Nat) : (s.hostTest h res kind rank).rx = s.rx := by
  simp only [State.hostTest]; split_ifs <;> simp
@[simp] theorem State.hostTest_tx (h res kind rank : Nat) : (s.hostTest h res kind rank).tx = s.tx := by
  simp only [State.hostTest]; split_ifs <;> simp
@[simp] theorem State.hostTest_fab (h res kind rank : Nat) : (s.hostTest h res kind rank).fab = s.fab := by
  simp only [State.hostTest]; split_ifs <;> simp
@[simp] theorem State.hostTest_map (h res kind rank : Nat) : (s.hostTest h res kind rank).map = s.map := by
  simp only [State.hostTest]; split_ifs <;> simp
@[simp] theorem State.hostTest_grp (h res kind rank : Nat) : (s.hostTest h res kind rank).grp = s.grp := by
  simp only [State.hostTest]; split_ifs <;> simp
@[simp] theorem State.hostTest_prot (h res kind rank : Nat) : (s.hostTest h res kind rank).prot = s.prot := by
  simp only [State.hostTest]; split_ifs <;> simp
@[simp] theorem State.hostTest_wit (h res kind rank : Nat) : (s.hostTest h res kind rank).wit = s.wit := by
  simp only [State.hostTest]; split_ifs <;> simp
@[simp] theorem State.hostTest_led (h res kind rank : Nat) : (s.hostTest h res kind rank).led = s.led := by
  simp only [State.hostTest]; split_ifs <;> simp
@[simp] theorem State.hostTest_ref (h res kind rank : Nat) : (s.hostTest h res kind rank).ref = s.ref := by
  simp only [State.hostTest]; split_ifs <;> simp
@[simp] theorem State.hostTest_tim (h res kind rank : Nat) : (s.hostTest h res kind rank).tim = s.tim := by
  simp only [State.hostTest]; split_ifs <;> simp
@[simp] theorem State.hostTest_mem (h res kind rank : Nat) : (s.hostTest h res kind rank).mem = s.mem := by
  simp only [State.hostTest]; split_ifs <;> simp
@[simp] theorem State.hostTest_mtx (h res kind rank : Nat) : (s.hostTest h res kind rank).mtx = s.mtx := by
  simp only [State.hostTest]; split_ifs <;> simp
@[simp] theorem State.hostTest_fw (h res kind rank : Nat) : (s.hostTest h res kind rank).fw = s.fw := by
  simp only [State.hostTest]; split_ifs <;> simp
@[simp] theorem State.hostTest_crier (h res kind rank : Nat) : (s.hostTest h res kind rank).crier = s.crier := by
  simp only [State.hostTest]; split_ifs <;> simp
@[simp] theorem State.hostTest_crierSlip (h res kind rank : Nat) :
    (s.hostTest h res kind rank).crierSlip = s.crierSlip := by
  simp only [State.hostTest]; split_ifs <;> simp
@[simp] theorem State.hostTest_freeCtr (h res kind rank : Nat) : (s.hostTest h res kind rank).freeCtr = s.freeCtr := by
  simp only [State.hostTest]; split_ifs <;> simp

/-! ### The registers that the shared operations write -/

theorem evObj_ne {i : Nat} (h : evObj i = false) :
    i ≠ O.eventLatch ∧ i ≠ O.eventCount ∧ i ≠ O.eventLastTime ∧ i ≠ O.hdpStats := by
  simpa [evObj, and_assoc] using h

theorem State.latch_reg {ev i e : Nat} (h : evObj i = false) : (s.latch ev).reg i e = s.reg i e := by
  obtain ⟨h1, h2, h3, _⟩ := evObj_ne h
  simp only [State.latch]
  split_ifs
  · rfl
  · rw [State.reg_setReg_obj _ h3, State.reg_bump_obj _ h2, State.reg_setOct_obj _ h1]

theorem State.notifyOne_reg {ev i e : Nat} (h : evObj i = false) : (s.notifyOne ev).1.reg i e = s.reg i e := by
  obtain ⟨_, _, _, h4⟩ := evObj_ne h
  refine foldRange_same (fun t => t.1.reg i e) 8 _ (s, 0) fun a x => ?_
  simp only []
  split_ifs
  · rw [State.reg_bump_obj _ h4, State.latch_reg _ h]; simp
  · simp
  · rfl

theorem State.notifyAll_reg {ev i e : Nat} (h : evObj i = false) : (s.notifyAll ev).reg i e = s.reg i e :=
  s.notifyAll_same (fun t => t.reg i e) ev fun a _ => a.notifyOne_reg h

/-- Raising an event writes no register but those of evObj. -/
theorem State.raise_reg {ev i e : Nat} (h : evObj i = false) : (s.raise ev).reg i e = s.reg i e := by
  simp only [State.raise]
  split_ifs
  · rfl
  · rw [State.notifyAll_reg _ h, State.latch_reg _ h]

/-- A rate-limited event writes no register but those of evObj. -/
theorem State.raiseLim_reg {ev k n i e : Nat} (h : evObj i = false) : (s.raiseLim ev k n).reg i e = s.reg i e := by
  simp only [State.raiseLim]
  split_ifs
  · rfl
  · exact State.raise_reg s h

/-- A token that another holds, or nobody, is held by who takes it. -/
theorem State.tokTake_holder (d h : Nat) : (s.tokTake d h).reg O.maintTokenHolder d = h := by
  simp only [State.tokTake]
  split_ifs with c
  · exact c
  · rw [State.raise_reg _ (by decide), State.reg_setReg_obj _ (by decide), State.reg_setReg_self]

theorem State.tokTake_reg {d h i e : Nat} (hi : evObj i = false) (h1 : i ≠ O.maintTokenHolder)
    (h2 : i ≠ O.maintTokenSince) : (s.tokTake d h).reg i e = s.reg i e := by
  simp only [State.tokTake]
  split_ifs
  · rfl
  · rw [State.raise_reg _ hi, State.reg_setReg_obj _ h2, State.reg_setReg_obj _ h1]

/-- A token that is dropped is free. -/
theorem State.tokDrop_holder (d : Nat) : (s.tokDrop d).reg O.maintTokenHolder d = 0xFF := by
  simp only [State.tokDrop]
  split_ifs with c
  · exact c
  · rw [State.raise_reg _ (by decide), State.reg_setReg_self]

theorem State.tokDrop_reg {d i e : Nat} (hi : evObj i = false) (h1 : i ≠ O.maintTokenHolder) :
    (s.tokDrop d).reg i e = s.reg i e := by
  simp only [State.tokDrop]
  split_ifs
  · rfl
  · rw [State.raise_reg _ hi, State.reg_setReg_obj _ h1]

/-- An activity that starts holds its domain's token. -/
theorem State.actStart_holder (d h : Nat) : (s.actStart d h).reg O.maintTokenHolder d = h := s.tokTake_holder d h

theorem State.actStart_reg {d h i e : Nat} (hi : evObj i = false) (h1 : i ≠ O.maintTokenHolder)
    (h2 : i ≠ O.maintTokenSince) : (s.actStart d h).reg i e = s.reg i e := s.tokTake_reg hi h1 h2

theorem State.actEnd_reg {d i e : Nat} (hi : evObj i = false) (h1 : i ≠ O.maintTokenHolder) :
    (s.actEnd d).reg i e = s.reg i e := by
  simp only [State.actEnd]
  split_ifs
  · exact State.tokDrop_reg _ hi h1
  · rfl

/-- A journal entry writes no register but the journal's own sequence number and those of evObj. -/
theorem State.journal_reg {k f : Nat} {l : List Byte} {i e : Nat} (h : evObj i = false) (hj : i ≠ O.ledgerJournalSeq) :
    (s.journal k f l).reg i e = s.reg i e := by
  simp only [State.journal]
  split_ifs
  · rw [State.reg_setReg_obj _ hj]
  · have c (a : State) (l : LedS) : ({ a with led := l } : State).reg i e = a.reg i e := rfl
    rw [c, State.raise_reg _ h, c, State.reg_setReg_obj _ hj]
  · exact State.reg_setReg_obj _ hj

theorem State.record_reg {idx el v : Nat} {i e : Nat} (h : evObj i = false) (hj : i ≠ O.ledgerJournalSeq) :
    (s.record idx el v).reg i e = s.reg i e := by
  simp only [State.record]
  split
  · split_ifs
    · exact State.journal_reg _ h hj
    · rfl
  · rfl

theorem State.refuse_reg {w : Who} {c i e : Nat} (h : i ≠ O.dictLastRefusal) : (s.refuse w c).reg i e = s.reg i e := by
  cases w with
  | master k => exact State.reg_setReg_obj s h
  | ses k => rfl
  | keeper => rfl

/-- A refused write answers its code. -/
@[simp] theorem State.refuse_status (w : Who) (c : Nat) : (s.refuse w c).out.status = c := rfl

theorem State.enter_reg {m : Mode} {i e : Nat} (h : evObj i = false) (h1 : i ≠ O.sysModeFsn) (h2 : i ≠ O.protState) :
    (s.enter m).reg i e = s.reg i e := by
  simp only [State.enter]
  split_ifs
  · rw [State.raise_reg _ h, State.reg_setReg_obj _ h1]; rfl
  · rw [State.raise_reg _ h, State.reg_setReg_obj _ h2, State.raise_reg _ h, State.reg_setReg_obj _ h1]; rfl

/-- The mode entered is the mode. -/
@[simp] theorem State.enter_mode (m : Mode) : (s.enter m).sys.mode = m := by
  simp only [State.enter]; split_ifs <;> simp

/-- Entering a mode changes nothing else of the mode machinery. -/
theorem State.enter_sys (m : Mode) : (s.enter m).sys = { s.sys with mode := m } := by
  simp only [State.enter]; split_ifs <;> simp

/-! ### Sets of items, and what raising an event latches (R518, R429) -/

theorem octBit_octPut_self (n v i : Nat) : octBit n (octPut n v i true) i = true := by
  simp [octBit, octPut, putBit]

theorem octBit_octPut_true (n v i k : Nat) (h : octBit n v k = true) : octBit n (octPut n v i true) k = true := by
  simp only [octBit, octPut, putBit, if_true, Nat.testBit_or, Bool.or_eq_true] at *
  exact Or.inl h

/-- An event stands latched while another is latched. -/
theorem State.latch_keeps {a : State} {ev ev' : Nat} (h : a.octReg O.eventLatch 0 64 ev = true) :
    (a.latch ev').octReg O.eventLatch 0 64 ev = true := by
  simp only [State.latch]
  split_ifs
  · exact h
  · have e : ((((a.setOct O.eventLatch 0 64 ev' true).bump O.eventCount ev' 32).setReg O.eventLastTime ev'
        ((a.setOct O.eventLatch 0 64 ev' true).bump O.eventCount ev' 32).nowTime)).reg O.eventLatch 0 =
        octPut 64 (a.reg O.eventLatch 0) ev' true := by
      rw [State.reg_setReg_obj _ (by decide), State.reg_bump_obj _ (by decide), State.setOct, State.reg_setReg_self]
    simp only [State.octReg, e]
    exact octBit_octPut_true _ _ _ _ h

theorem State.notifyAll_keeps {a : State} {ev ev' : Nat} (h : a.octReg O.eventLatch 0 64 ev = true) :
    (a.notifyAll ev').octReg O.eventLatch 0 64 ev = true := by
  refine a.notifyAll_of (P := fun t => t.octReg O.eventLatch 0 64 ev = true) ev' h fun c e' hc => ?_
  refine foldRange_keeps (fun t => t.1.octReg O.eventLatch 0 64 ev = true) 8 _ (c, 0) hc fun b x hb => ?_
  simp only []
  split_ifs
  · simp only [State.octReg]
    rw [State.reg_bump_obj _ (by decide)]
    exact State.latch_keeps hb
  · exact hb
  · exact hb

theorem State.raise_keeps {a : State} {ev ev' : Nat} (h : a.octReg O.eventLatch 0 64 ev = true) :
    (a.raise ev').octReg O.eventLatch 0 64 ev = true := by
  simp only [State.raise]
  split_ifs
  · exact h
  · exact State.notifyAll_keeps (State.latch_keeps h)

/-- An event that can be raised stands latched once it has been. -/
theorem State.raise_latched (ev : Nat) (h : 480 ≤ ev ∨ s.sys.fabOn = true) :
    (s.raise ev).octReg O.eventLatch 0 64 ev = true := by
  have c : (decide (ev < 480) && !s.sys.fabOn) = false := by
    rcases h with h | h
    · simp [Nat.not_lt.mpr h]
    · simp [h]
  simp only [State.raise, c, Bool.false_eq_true, if_false]
  refine State.notifyAll_keeps ?_
  simp only [State.latch, c, Bool.false_eq_true, if_false, State.octReg]
  rw [State.reg_setReg_obj _ (by decide), State.reg_bump_obj _ (by decide), State.setOct, State.reg_setReg_self]
  exact octBit_octPut_self _ _ _

theorem State.latched_congr {a b : State} {ev : Nat} (h : a.reg O.eventLatch 0 = b.reg O.eventLatch 0) :
    a.octReg O.eventLatch 0 64 ev = b.octReg O.eventLatch 0 64 ev := by simp [State.octReg, h]

/-! ### What a host access answers -/

/-- A write that the general checks refuse changes nothing but the answer. -/
theorem State.write_gate {w : Who} {idx e v : Nat} {op : State → State × Nat} {pre : Nat}
    (h : s.gate w idx e ≠ 0) : s.write w idx e v op pre = s.refuse w (s.gate w idx e) := by
  simp only [State.write, h, ne_eq, not_false_eq_true, if_true]

/-- A write that every check accepts has its own effect, enters the journal and answers 0. -/
theorem State.write_ok {w : Who} {idx e v : Nat} {op : State → State × Nat}
    (h : s.gate w idx e = 0) (hv : valueCheck idx v = 0) (hr : s.romOnly idx = false) (ho : (op s).2 = 0) :
    s.write w idx e v op = ((op s).1.record idx e v).answer 0 := by
  simp [State.write, h, hv, hr, ho]

/-- A write whose own checks refuse it answers their code. -/
theorem State.write_op {w : Who} {idx e v : Nat} {op : State → State × Nat}
    (h : s.gate w idx e = 0) (hv : valueCheck idx v = 0) (hr : s.romOnly idx = false) (ho : (op s).2 ≠ 0) :
    s.write w idx e v op = (op s).1.refuse w (op s).2 := by
  simp [State.write, h, hv, hr, ho]

/-- A read that the general checks accept gives its bytes and answers 0. -/
theorem State.readWith_ok {w : Who} {idx e : Nat} {f : State → State × List Byte} (h : s.readGate w idx e = 0)
    (hr : s.romOnly idx = false) : s.readWith w idx e f = ((f s).1.give (f s).2).answer 0 := by
  simp [State.readWith, h, hr]

theorem State.readWith_gate {w : Who} {idx e : Nat} {f : State → State × List Byte} (h : s.readGate w idx e ≠ 0) :
    s.readWith w idx e f = s.answer (s.readGate w idx e) := by
  simp [State.readWith, h]

/-- A write of bytes that every check accepts has its own effect and answers 0. -/
theorem State.writeBytes_ok {w : Who} {idx e n : Nat} {l : List Byte} {op : State → State × Nat}
    (h : s.gate w idx e = 0) (h0 : l.length ≠ 0) (hn : l.length ≤ n) (hr : s.romOnly idx = false)
    (ho : (op s).2 = 0) : s.writeBytes w idx e n l op = (op s).1.answer 0 := by
  have hn' : ¬ n < l.length := Nat.not_lt.mpr hn
  simp [State.writeBytes, h, h0, hn', hr, ho]

/-- The command's answer has no part in what the boot ROM serves. -/
@[simp] theorem State.romOnly_fresh (idx : Nat) : s.fresh.romOnly idx = s.romOnly idx := (rfl)

/-- A write command that passes the general checks, and whose own checks accept it, completes with its effect. -/
theorem State.run_write {w : Who} {idx e v : Nat} {op : State → State × Nat} (h : Allowed s w idx e v)
    (ho : (op s.fresh).2 = 0) : s.run (fun s => s.write w idx e v op) =
      .next ((((op s.fresh).1.record idx e v).answer 0).withQueue s.pending) := by
  rw [State.run_eq, State.write_ok s.fresh h.1 h.2.1 h.2.2 ho]

/-- The same, for an object whose chapter places a check of its own first. -/
theorem State.run_write_pre {w : Who} {idx e v : Nat} {op : State → State × Nat} {pre : State → Nat}
    (h : Allowed s w idx e v) (hp : pre s.fresh = 0) (ho : (op s.fresh).2 = 0) :
    s.run (fun s => s.write w idx e v op (pre := pre s)) =
      .next ((((op s.fresh).1.record idx e v).answer 0).withQueue s.pending) := by
  have h1 : s.fresh.gate w idx e = 0 := h.1
  rw [State.run_eq]
  simp [State.write, h1, h.2.1, h.2.2, hp, ho]

/-- A read command that passes the general checks completes with its bytes. -/
theorem State.run_readWith {w : Who} {idx e : Nat} {f : State → State × List Byte} (h : Readable s w idx e) :
    s.run (fun s => s.readWith w idx e f) =
      .next ((((f s.fresh).1.give (f s.fresh).2).answer 0).withQueue s.pending) := by
  rw [State.run_eq, State.readWith_ok s.fresh h.1 h.2]

end Sys2Proof.Machine
end

