-- ==== Sys2Proof/Laws/Canon.lean ====
section
/-! SUPPORT. Every operation of the model keeps the register arrays and the memories in canonical form (Safety.lean,
StoresOk). One lemma for each operation that answers a state, in the order of the files of Machine/. -/

namespace Sys2Proof.Machine

/-! ### Machine/Ops.lean -/

/-! ### The forms that operations are made of -/

@[simp] theorem StoresOk_ite {c : Prop} [Decidable c] (a b : State) :
    StoresOk (if c then a else b) = if c then StoresOk a else StoresOk b := apply_ite StoresOk c a b

@[simp] theorem ite_fst_stores {c : Prop} [Decidable c] {α : Type} (a b : State × α) :
    (if c then a else b).1 = if c then a.1 else b.1 := apply_ite (fun x : State × α => x.1) c a b

@[simp] theorem ite_s_stores {c : Prop} [Decidable c] (a b : Eff) :
    (if c then a else b).s = if c then a.s else b.s := apply_ite (fun x : Eff => x.s) c a b

@[simp] theorem foldRange_stores (n : Nat) (f : State → Nat → State) (s : State) (hs : StoresOk s)
    (h : ∀ a x, StoresOk a → StoresOk (f a x)) : StoresOk (foldRange n f s) := foldRange_keeps StoresOk n f s hs h

@[simp] theorem foldl_stores {γ : Type} (f : State → γ → State) (l : List γ) (s : State) (hs : StoresOk s)
    (h : ∀ a x, StoresOk a → StoresOk (f a x)) : StoresOk (l.foldl f s) := foldl_keeps StoresOk f l s hs h

@[simp] theorem foldRange_fst_stores {α : Type} (n : Nat) (f : State × α → Nat → State × α) (s : State × α)
    (hs : StoresOk s.1) (h : ∀ a x, StoresOk a.1 → StoresOk (f a x).1) : StoresOk (foldRange n f s).1 :=
  foldRange_keeps (fun t => StoresOk t.1) n f s hs h

@[simp] theorem foldl_fst_stores {γ α : Type} (f : State × α → γ → State × α) (l : List γ) (s : State × α)
    (hs : StoresOk s.1) (h : ∀ a x, StoresOk a.1 → StoresOk (f a x).1) : StoresOk (l.foldl f s).1 :=
  foldl_keeps (fun t => StoresOk t.1) f l s hs h

@[simp] theorem StoresOk_mk (x0 : List Instr) (x1 : SMap Nat) (x2 : SMap Nat) (x3 : Clk) (x4 : SysS) (x5 : Out) (x6
    : SMap Nat) (x7 : SMap LinkP) (x8 : SMap LinkQ) (x9 : SMap RxG) (x10 : SMap TxG) (x11 : FabS) (x12 : MapS) (x13
    : GrpS) (x14 : ProtS) (x15 : SMap WStr) (x16 : LedS) (x17 : RefS) (x18 : TimS) (x19 : MemS) (x20 : MtxS) (x21 :
    HdpS) (x22 : FwS) (x23 : AsyS) (x24 : TalS) (x25 : SMap Nat) (x26 : List Nat) (x27 : Nat) :
    StoresOk (State.mk x0 x1 x2 x3 x4 x5 x6 x7 x8 x9 x10 x11 x12 x13 x14 x15 x16 x17 x18 x19 x20 x21 x22 x23 x24
    x25 x26 x27) ↔
      (SMap.wf unlisted x1 = true ∧ SMap.wf unlisted x2 = true) ∧ Memory.wf x19 = true := Iff.rfl

@[simp] theorem Memory.wf_mk (y0 : SMap Nat) (y1 : SMap Nat) (y2 : List Nat) (y3 : List Nat) (y4 : List (Nat ×
    Nat)) (y5 : List Nat) (y6 : SMap Nat) (y7 : SMap Nat) (y8 : SMap Nat) (y9 : SMap Nat) (y10 : SMap Nat) (y11 :
    SMap Nat) (y12 : List Nat) (y13 : SMap Nat) (y14 : SMap Nat) (y15 : List FUnit) (y16 : Bool) (y17 : Nat) (y18 :
    Nat) (y19 : Bool) (y20 : List (Nat × Nat)) (y21 : SMap Nat) (y22 : SMap Nat) (y23 : Nat) (y24 : Nat) (y25 :
    Nat) (y26 : Nat) (y27 : SMap Nat) (y28 : List Nat) :
    Memory.wf (MemS.mk y0 y1 y2 y3 y4 y5 y6 y7 y8 y9 y10 y11 y12 y13 y14 y15 y16 y17 y18 y19 y20 y21 y22 y23 y24
    y25 y26 y27 y28) = (SMap.wf (fun _ => 0) y0 && SMap.wf (fun _ => 0) y1 && SMap.wf (fun _ => 0) y6 && SMap.wf
    (fun _ => 0) y7 && SMap.wf (fun _ => 0xFF) y8 && SMap.wf (fun _ => 0) y9 && SMap.wf (fun _ => 0) y10 && SMap.wf
    (fun _ => 0) y11 && SMap.wf (fun _ => 0) y13 && SMap.wf (fun _ => 0) y14) := (rfl)

@[simp] theorem StoresOk.regs {s : State} (h : StoresOk s) : SMap.wf unlisted s.regs = true := h.1.1
@[simp] theorem StoresOk.live {s : State} (h : StoresOk s) : SMap.wf unlisted s.live = true := h.1.2
@[simp] theorem StoresOk.mem {s : State} (h : StoresOk s) : Memory.wf s.mem = true := h.2

theorem Memory.wf_parts {m : MemS} (h : Memory.wf m = true) :
    SMap.wf (fun _ => 0) m.bank = true ∧ SMap.wf (fun _ => 0) m.fence = true ∧ SMap.wf (fun _ => 0) m.ddr = true ∧
    SMap.wf (fun _ => 0) m.sram = true ∧ SMap.wf (fun _ => 0xFF) m.flash = true ∧ SMap.wf (fun _ => 0) m.ddrBad =
    true ∧ SMap.wf (fun _ => 0) m.sramBad = true ∧ SMap.wf (fun _ => 0) m.flashCmd = true ∧ SMap.wf (fun _ => 0)
    m.settled = true ∧ SMap.wf (fun _ => 0) m.former = true := by
  simpa [Memory.wf, and_assoc] using h

@[simp] theorem StoresOk.bank {s : State} (h : StoresOk s) : SMap.wf (fun _ => 0) s.mem.bank = true :=
  (Memory.wf_parts h.2).1
@[simp] theorem StoresOk.fence {s : State} (h : StoresOk s) : SMap.wf (fun _ => 0) s.mem.fence = true :=
  (Memory.wf_parts h.2).2.1
@[simp] theorem StoresOk.ddr {s : State} (h : StoresOk s) : SMap.wf (fun _ => 0) s.mem.ddr = true :=
  (Memory.wf_parts h.2).2.2.1
@[simp] theorem StoresOk.sram {s : State} (h : StoresOk s) : SMap.wf (fun _ => 0) s.mem.sram = true :=
  (Memory.wf_parts h.2).2.2.2.1
@[simp] theorem StoresOk.flash {s : State} (h : StoresOk s) : SMap.wf (fun _ => 0xFF) s.mem.flash = true :=
  (Memory.wf_parts h.2).2.2.2.2.1
@[simp] theorem StoresOk.ddrBad {s : State} (h : StoresOk s) : SMap.wf (fun _ => 0) s.mem.ddrBad = true :=
  (Memory.wf_parts h.2).2.2.2.2.2.1
@[simp] theorem StoresOk.sramBad {s : State} (h : StoresOk s) : SMap.wf (fun _ => 0) s.mem.sramBad = true :=
  (Memory.wf_parts h.2).2.2.2.2.2.2.1
@[simp] theorem StoresOk.flashCmd {s : State} (h : StoresOk s) : SMap.wf (fun _ => 0) s.mem.flashCmd = true :=
  (Memory.wf_parts h.2).2.2.2.2.2.2.2.1
@[simp] theorem StoresOk.settled {s : State} (h : StoresOk s) : SMap.wf (fun _ => 0) s.mem.settled = true :=
  (Memory.wf_parts h.2).2.2.2.2.2.2.2.2.1
@[simp] theorem StoresOk.former {s : State} (h : StoresOk s) : SMap.wf (fun _ => 0) s.mem.former = true :=
  (Memory.wf_parts h.2).2.2.2.2.2.2.2.2.2

@[simp] theorem SMap.wf_const_erase (d : Nat) (m : SMap Nat) (k : Nat) (h : SMap.wf (fun _ => d) m = true) :
    SMap.wf (fun _ => d) (SMap.erase m k) = true := SMap.wf_erase (fun _ => d) m k h
@[simp] theorem SMap.wf_unlisted_set (m : SMap Nat) (k v : Nat) (h : SMap.wf unlisted m = true) :
    SMap.wf unlisted (SMap.set (unlisted k) m k v) = true := SMap.wf_set unlisted m k v h
@[simp] theorem SMap.wf_const_set (d : Nat) (m : SMap Nat) (k v : Nat) (h : SMap.wf (fun _ => d) m = true) :
    SMap.wf (fun _ => d) (SMap.set d m k v) = true := SMap.wf_set (fun _ => d) m k v h
@[simp] theorem SMap.wf_clearSpan_of (d : Nat → Nat) (m : SMap Nat) (k n : Nat) (h : SMap.wf d m = true) :
    SMap.wf d (SMap.clearSpan m k n) = true := SMap.wf_clearSpan d m k n h
@[simp] theorem SMap.wf_filter_of (d : Nat → Nat) (m : SMap Nat) (p : Nat × Nat → Bool) (h : SMap.wf d m = true) :
    SMap.wf d (m.filter p) = true := SMap.wfFrom_filter d p h
@[simp] theorem SMap.wf_nil (d : Nat → Nat) : SMap.wf d [] = true := (rfl)

@[simp] theorem putMem_wf (d : Nat) (m : SMap Nat) (o : Nat) (l : List Byte) (h : SMap.wf (fun _ => d) m = true) :
    SMap.wf (fun _ => d) (putMem d m o l) = true := by
  unfold putMem
  exact foldl_keeps (fun r : SMap Nat × Nat => SMap.wf (fun _ => d) r.1 = true) _ _ _ h fun a x ha =>
    SMap.wf_const_set d a.1 _ _ ha

@[simp] theorem State.setReg_stores (s : State) (i : Nat) (e : Nat) (v : Nat) (sok : StoresOk s) :
    StoresOk (State.setReg s i e v) := by
  simp (maxDischargeDepth := 100) [State.setReg, sok]

@[simp] theorem State.setLive_stores (s : State) (i : Nat) (e : Nat) (v : Nat) (sok : StoresOk s) :
    StoresOk (State.setLive s i e v) := by
  simp (maxDischargeDepth := 100) [State.setLive, sok]

@[simp] theorem State.bump_stores (s : State) (i : Nat) (e : Nat) (w : Nat) (n : Nat) (sok : StoresOk s) :
    StoresOk (State.bump s i e w n) := by
  simp (maxDischargeDepth := 100) [State.bump, sok]

@[simp] theorem State.setOct_stores (s : State) (i : Nat) (e : Nat) (n : Nat) (k : Nat) (b : Bool) (sok : StoresOk
    s) :
    StoresOk (State.setOct s i e n k b) := by
  simp (maxDischargeDepth := 100) [State.setOct, sok]

@[simp] theorem State.setLink_stores (s : State) (p : Nat) (l : LinkP) (sok : StoresOk s) :
    StoresOk (State.setLink s p l) := by
  simp (maxDischargeDepth := 100) [State.setLink, sok]

@[simp] theorem State.setLinkQ_stores (s : State) (p : Nat) (l : LinkQ) (sok : StoresOk s) :
    StoresOk (State.setLinkQ s p l) := by
  simp (maxDischargeDepth := 100) [State.setLinkQ, sok]

@[simp] theorem State.setRx_stores (s : State) (a : Nat) (g : RxG) (sok : StoresOk s) :
    StoresOk (State.setRx s a g) := by
  simp (maxDischargeDepth := 100) [State.setRx, sok]

@[simp] theorem State.setTx_stores (s : State) (a : Nat) (g : TxG) (sok : StoresOk s) :
    StoresOk (State.setTx s a g) := by
  simp (maxDischargeDepth := 100) [State.setTx, sok]

@[simp] theorem State.setLine_stores (s : State) (a : Nat) (l : LineS) (sok : StoresOk s) :
    StoresOk (State.setLine s a l) := by
  simp (maxDischargeDepth := 100) [State.setLine, sok]

@[simp] theorem State.setCtx_stores (s : State) (c : Nat) (x : CtxS) (sok : StoresOk s) :
    StoresOk (State.setCtx s c x) := by
  simp (maxDischargeDepth := 100) [State.setCtx, sok]

@[simp] theorem State.setStream_stores (s : State) (k : Nat) (x : WStr) (sok : StoresOk s) :
    StoresOk (State.setStream s k x) := by
  simp (maxDischargeDepth := 100) [State.setStream, sok]

@[simp] theorem State.setInput_stores (s : State) (i : Nat) (x : InS) (sok : StoresOk s) :
    StoresOk (State.setInput s i x) := by
  simp (maxDischargeDepth := 100) [State.setInput, sok]

@[simp] theorem State.setSession_stores (s : State) (k : Nat) (x : Ses) (sok : StoresOk s) :
    StoresOk (State.setSession s k x) := by
  simp (maxDischargeDepth := 100) [State.setSession, sok]

@[simp] theorem State.setTime_stores (s : State) (t : Nat) (lt : Nat) (inc : Nat) (sok : StoresOk s) :
    StoresOk (State.setTime s t lt inc) := by
  simp (maxDischargeDepth := 100) [State.setTime, sok]

@[simp] theorem State.stepPast_stores (s : State) (old : Nat) (new : Nat) (sok : StoresOk s) :
    StoresOk (State.stepPast s old new) := by
  simp (maxDischargeDepth := 100) [State.stepPast, sok]

@[simp] theorem State.jumpTime_stores (s : State) (lt : Nat) (sok : StoresOk s) :
    StoresOk (State.jumpTime s lt) := by
  simp (maxDischargeDepth := 100) [State.jumpTime, sok]

@[simp] theorem State.openBanks_stores (s : State) (o : Nat) (sok : StoresOk s) :
    StoresOk (State.openBanks s o) := by
  simp (maxDischargeDepth := 100) [State.openBanks, sok]

@[simp] theorem State.freeTaken_stores (s : State) (sok : StoresOk s) :
    StoresOk (State.freeTaken s) := by
  simp (maxDischargeDepth := 100) [State.freeTaken, sok]

@[simp] theorem State.latch_stores (s : State) (ev : Nat) (sok : StoresOk s) :
    StoresOk (State.latch s ev) := by
  simp (maxDischargeDepth := 100) [State.latch, sok]

@[simp] theorem State.notifyOne_stores (s : State) (ev : Nat) (sok : StoresOk s) :
    StoresOk (State.notifyOne s ev).1 := by
  simp +contextual (maxDischargeDepth := 100) [State.notifyOne, sok]

@[simp] theorem State.notifyAll_stores (s : State) (ev : Nat) (sok : StoresOk s) :
    StoresOk (State.notifyAll s ev) := by
  refine s.notifyAll_of ev sok fun a e ha => ?_
  exact State.notifyOne_stores a e ha

@[simp] theorem State.raise_stores (s : State) (ev : Nat) (sok : StoresOk s) :
    StoresOk (State.raise s ev) := by
  simp (maxDischargeDepth := 100) [State.raise, sok]

@[simp] theorem State.raiseLim_stores (s : State) (ev : Nat) (k : Nat) (n : Nat) (sok : StoresOk s) :
    StoresOk (State.raiseLim s ev k n) := by
  simp (maxDischargeDepth := 100) [State.raiseLim, sok]

@[simp] theorem State.send_stores (s : State) (m : Sent) (sok : StoresOk s) :
    StoresOk (State.send s m) := by
  simp (maxDischargeDepth := 100) [State.send, sok]

@[simp] theorem State.counted_stores (s : State) (i : Nat) (n : Nat) (sok : StoresOk s) :
    StoresOk (State.counted s i n).1 := by
  simp (maxDischargeDepth := 100) [State.counted, sok]

@[simp] theorem State.talRecord_stores (s : State) (i : Nat) (sok : StoresOk s) :
    StoresOk (State.talRecord s i).1 := by
  simp (maxDischargeDepth := 100) [State.talRecord, sok]

@[simp] theorem State.talSample_stores (s : State) (i : Nat) (sok : StoresOk s) :
    StoresOk (State.talSample s i) := by
  simp (maxDischargeDepth := 100) [State.talSample, sok]

@[simp] theorem State.tally_stores (s : State) (i : Nat) (n : Nat) (sok : StoresOk s) :
    StoresOk (State.tally s i n) := by
  simp +contextual (maxDischargeDepth := 100) [State.tally, sok]

@[simp] theorem State.tokTake_stores (s : State) (d : Nat) (h0 : Nat) (sok : StoresOk s) :
    StoresOk (State.tokTake s d h0) := by
  simp (maxDischargeDepth := 100) [State.tokTake, sok]

@[simp] theorem State.tokDrop_stores (s : State) (d : Nat) (sok : StoresOk s) :
    StoresOk (State.tokDrop s d) := by
  simp (maxDischargeDepth := 100) [State.tokDrop, sok]

@[simp] theorem State.actStart_stores (s : State) (d : Nat) (h0 : Nat) (sok : StoresOk s) :
    StoresOk (State.actStart s d h0) := by
  simp (maxDischargeDepth := 100) [State.actStart, sok]

@[simp] theorem State.actEnd_stores (s : State) (d : Nat) (sok : StoresOk s) :
    StoresOk (State.actEnd s d) := by
  simp (maxDischargeDepth := 100) [State.actEnd, sok]

@[simp] theorem State.setBusy_stores (s : State) (k : Nat) (t : Nat) (sok : StoresOk s) :
    StoresOk (State.setBusy s k t) := by
  simp (maxDischargeDepth := 100) [State.setBusy, sok]

@[simp] theorem State.sendPort_stores (s : State) (k : Nat) (n : Nat) (m : Sent) (sok : StoresOk s) :
    StoresOk (State.sendPort s k n m) := by
  simp (maxDischargeDepth := 100) [State.sendPort, sok]

@[simp] theorem State.answer_stores (s : State) (c : Nat) (sok : StoresOk s) :
    StoresOk (State.answer s c) := by
  simp (maxDischargeDepth := 100) [State.answer, sok]

@[simp] theorem State.give_stores (s : State) (v : List Byte) (sok : StoresOk s) :
    StoresOk (State.give s v) := by
  simp (maxDischargeDepth := 100) [State.give, sok]

@[simp] theorem State.fresh_stores (s : State) (sok : StoresOk s) :
    StoresOk (State.fresh s) := by
  simp (maxDischargeDepth := 100) [State.fresh, sok]

@[simp] theorem State.withQueue_stores (s : State) (q : List Instr) (sok : StoresOk s) :
    StoresOk (State.withQueue s q) := by
  simp (maxDischargeDepth := 100) [State.withQueue, sok]

@[simp] theorem State.journal_stores (s : State) (kind : Nat) (fsn : Nat) (items : List Byte) (sok : StoresOk s) :
    StoresOk (State.journal s kind fsn items) := by
  simp (maxDischargeDepth := 100) [State.journal, sok]

@[simp] theorem State.refuse_stores (s : State) (w : Who) (c : Nat) (sok : StoresOk s) :
    StoresOk (State.refuse s w c) := by
  simp only [State.refuse]; split <;> simp (maxDischargeDepth := 100) [sok]

@[simp] theorem State.record_stores (s : State) (idx : Nat) (e : Nat) (v : Nat) (sok : StoresOk s) :
    StoresOk (State.record s idx e v) := by
  simp only [State.record]; split <;> simp (maxDischargeDepth := 100) [sok]

@[simp] theorem State.write_stores (s : State) (w : Who) (idx : Nat) (e : Nat) (v : Nat) (op : State → State × Nat)
    (pre : Nat) (sok : StoresOk s) (hop : ∀ t, StoresOk t → StoresOk (op t).1) :
    StoresOk (State.write s w idx e v op pre) := by
  simp (maxDischargeDepth := 100) [State.write, sok, hop]

@[simp] theorem State.readWith_stores (s : State) (w : Who) (idx : Nat) (e : Nat) (f : State → State × List Byte)
    (sok : StoresOk s) (hf : ∀ t, StoresOk t → StoresOk (f t).1) :
    StoresOk (State.readWith s w idx e f) := by
  simp (maxDischargeDepth := 100) [State.readWith, sok, hf]

@[simp] theorem readClear_stores (idx : Nat) (e : Nat) (n : Nat) (s : State) (sok : StoresOk s) :
    StoresOk (readClear idx e n s).1 := by
  simp (maxDischargeDepth := 100) [readClear, sok]

@[simp] theorem store_stores (idx : Nat) (e : Nat) (v : Nat) (s : State) (sok : StoresOk s) :
    StoresOk (store idx e v s).1 := by
  simp (maxDischargeDepth := 100) [store, sok]

@[simp] theorem State.writeBytes_stores (s : State) (w : Who) (idx : Nat) (e : Nat) (n : Nat) (v : List Byte) (op :
    State → State × Nat) (sok : StoresOk s) (hop : ∀ t, StoresOk t → StoresOk (op t).1) :
    StoresOk (State.writeBytes s w idx e n v op) := by
  simp (maxDischargeDepth := 100) [State.writeBytes, sok, hop]

@[simp] theorem State.enter_stores (s : State) (m : Mode) (sok : StoresOk s) :
    StoresOk (State.enter s m) := by
  simp (maxDischargeDepth := 100) [State.enter, sok]

@[simp] theorem State.asyLog_stores (s : State) (t : TestT) (outcome : Nat) (repair : Nat) (sok : StoresOk s) :
    StoresOk (State.asyLog s t outcome repair) := by
  simp (maxDischargeDepth := 100) [State.asyLog, sok]

@[simp] theorem State.asyShow_stores (s : State) (g : Nat) (sok : StoresOk s) :
    StoresOk (State.asyShow s g) := by
  simp (maxDischargeDepth := 100) [State.asyShow, sok]

@[simp] theorem State.testRun_stores (s : State) (g : Nat) (t : TestT) (sok : StoresOk s) :
    StoresOk (State.testRun s g t) := by
  simp (maxDischargeDepth := 100) [State.testRun, sok]

@[simp] theorem State.asyEnqueue_stores (s : State) (t : TestT) (sok : StoresOk s) :
    StoresOk (State.asyEnqueue s t) := by
  simp only [State.asyEnqueue]; (repeat' split) <;> simp (maxDischargeDepth := 100) [sok]

@[simp] theorem State.pathMark_stores (s : State) (res : Nat) (sok : StoresOk s) :
    StoresOk (State.pathMark s res) := by
  simp only [State.pathMark]; split <;> simp (maxDischargeDepth := 100) [sok]

@[simp] theorem State.assayError_stores (s : State) (kind : Nat) (res : Nat) (sok : StoresOk s) :
    StoresOk (State.assayError s kind res) := by
  simp (maxDischargeDepth := 100) [State.assayError, sok]

@[simp] theorem State.hostTest_stores (s : State) (h0 : Nat) (res : Nat) (kind : Nat) (rank : Nat) (sok : StoresOk
    s) :
    StoresOk (State.hostTest s h0 res kind rank) := by
  simp only [State.hostTest]; split <;> simp (maxDischargeDepth := 100) [sok]

@[simp] theorem State.settleMtx_stores (s : State) (late : Bool) (sok : StoresOk s) :
    StoresOk (State.settleMtx s late) := by
  simp (maxDischargeDepth := 100) [State.settleMtx, sok]

/-! ### Machine/MapOps.lean -/

@[simp] theorem State.commitStart_stores (s : State) (origin : Nat) (mode : Nat) (f : Nat) (h0 : Nat) (sok :
    StoresOk s) :
    StoresOk (State.commitStart s origin mode f h0) := by
  simp (maxDischargeDepth := 100) [State.commitStart, sok]

@[simp] theorem State.repairCommit_stores (s : State) (origin : Nat) (sok : StoresOk s) :
    StoresOk (State.repairCommit s origin) := by
  simp (maxDischargeDepth := 100) [State.repairCommit, sok]

@[simp] theorem State.solveBusy_stores (s : State) (sok : StoresOk s) :
    StoresOk (State.solveBusy s) := by
  simp (maxDischargeDepth := 100) [State.solveBusy, sok]

@[simp] theorem State.commitStop_stores (s : State) (code : Nat) (sok : StoresOk s) :
    StoresOk (State.commitStop s code) := by
  simp (maxDischargeDepth := 100) [State.commitStop, sok]

@[simp] theorem State.repairNext_stores (s : State) (lode : Bool) (lines : Bool) (sok : StoresOk s) :
    StoresOk (State.repairNext s lode lines) := by
  simp (maxDischargeDepth := 100) [State.repairNext, sok]

@[simp] theorem State.commitEnd_stores (s : State) (code : Nat) (sok : StoresOk s) :
    StoresOk (State.commitEnd s code) := by
  simp (maxDischargeDepth := 100) [State.commitEnd, sok]

@[simp] theorem State.commitRequest_stores (s : State) (h0 : Nat) (mode : Nat) (origin : Nat) (sok : StoresOk s) :
    StoresOk (State.commitRequest s h0 mode origin).1 := by
  simp (maxDischargeDepth := 100) [State.commitRequest, sok]

@[simp] theorem State.solve_stores (s : State) (sok : StoresOk s) :
    StoresOk (State.solve s) := by
  simp (maxDischargeDepth := 100) [State.solve, sok]

@[simp] theorem State.clearObj_stores (s : State) (i : Nat) (sok : StoresOk s) :
    StoresOk (State.clearObj s i) := by
  simp (maxDischargeDepth := 100) [State.clearObj, sok]

@[simp] theorem State.clearLive_stores (s : State) (i : Nat) (sok : StoresOk s) :
    StoresOk (State.clearLive s i) := by
  simp (maxDischargeDepth := 100) [State.clearLive, sok]

@[simp] theorem State.putMap_stores (s : State) (i : Nat) (l : List (Nat × Nat)) (sok : StoresOk s) :
    StoresOk (State.putMap s i l) := by
  simp +contextual (maxDischargeDepth := 100) [State.putMap, sok]

@[simp] theorem State.solveDone_stores (s : State) (sok : StoresOk s) :
    StoresOk (State.solveDone s) := by
  simp (maxDischargeDepth := 100) [State.solveDone, sok]

@[simp] theorem State.loadStages_stores (s : State) (sok : StoresOk s) :
    StoresOk (State.loadStages s) := by
  simp (maxDischargeDepth := 100) [State.loadStages, sok]

@[simp] theorem State.deadline_stores (s : State) (sok : StoresOk s) :
    StoresOk (State.deadline s) := by
  simp (maxDischargeDepth := 100) [State.deadline, sok]

@[simp] theorem State.mapAbortOp_stores (s : State) (sok : StoresOk s) :
    StoresOk (State.mapAbortOp s).1 := by
  simp (maxDischargeDepth := 100) [State.mapAbortOp, sok]

@[simp] theorem State.retireLode_stores (s : State) (l : Nat) (sok : StoresOk s) :
    StoresOk (State.retireLode s l) := by
  simp (maxDischargeDepth := 100) [State.retireLode, sok]

@[simp] theorem State.commitRestep_stores (s : State) (sok : StoresOk s) :
    StoresOk (State.commitRestep s) := by
  simp (maxDischargeDepth := 100) [State.commitRestep, sok]

@[simp] theorem draftSrcOp_stores (a : Nat) (v : Nat) (s : State) (sok : StoresOk s) :
    StoresOk (draftSrcOp a v s).1 := by
  simp (maxDischargeDepth := 100) [draftSrcOp, sok]

@[simp] theorem draftRevertOp_stores (s : State) (sok : StoresOk s) :
    StoresOk (draftRevertOp s).1 := by
  simp (maxDischargeDepth := 100) [draftRevertOp, sok]

@[simp] theorem commitReqOp_stores (h0 : Nat) (s : State) (sok : StoresOk s) :
    StoresOk (commitReqOp h0 s).1 := by
  simp (maxDischargeDepth := 100) [commitReqOp, sok]

@[simp] theorem lodeStateOp_stores (h0 : Nat) (l : Nat) (v : Nat) (s : State) (sok : StoresOk s) :
    StoresOk (lodeStateOp h0 l v s).1 := by
  simp (maxDischargeDepth := 100) [lodeStateOp, sok]

/-! ### Machine/Grains.lean -/

@[simp] theorem State.grainChanged_stores (s : State) (a : Nat) (sok : StoresOk s) :
    StoresOk (State.grainChanged s a) := by
  simp (maxDischargeDepth := 100) [State.grainChanged, sok]

@[simp] theorem State.slipped_stores (s : State) (a : Nat) (sok : StoresOk s) :
    StoresOk (State.slipped s a) := by
  simp (maxDischargeDepth := 100) [State.slipped, sok]

@[simp] theorem State.esWrite_stores (s : State) (a : Nat) (u : SUnit) (sok : StoresOk s) :
    StoresOk (State.esWrite s a u) := by
  simp only [State.esWrite]; (repeat' split) <;> simp (maxDischargeDepth := 100) [sok]

@[simp] theorem State.esTake_stores (s : State) (a : Nat) (n : Nat) (sok : StoresOk s) :
    StoresOk (State.esTake s a n) := by
  simp +contextual (maxDischargeDepth := 100) [State.esTake, sok]

@[simp] theorem State.esPlan_stores (s : State) (a : Nat) (sok : StoresOk s) :
    StoresOk (State.esPlan s a) := by
  simp (maxDischargeDepth := 100) [State.esPlan, sok]

@[simp] theorem State.esStart_stores (s : State) (a : Nat) (sok : StoresOk s) :
    StoresOk (State.esStart s a) := by
  simp (maxDischargeDepth := 100) [State.esStart, sok]

@[simp] theorem State.esPop_stores (s : State) (a : Nat) (sok : StoresOk s) :
    StoresOk (State.esPop s a).1 := by
  simp only [State.esPop]; split <;> simp (maxDischargeDepth := 100) [sok]

@[simp] theorem State.esNote_stores (s : State) (a : Nat) (n : Nat) (us : List SUnit) (sok : StoresOk s) :
    StoresOk (State.esNote s a n us) := by
  simp +contextual (maxDischargeDepth := 100) [State.esNote, sok]

@[simp] theorem State.esRead_stores (s : State) (a : Nat) (n : Nat) (sok : StoresOk s) :
    StoresOk (State.esRead s a n).1 := by
  simp (maxDischargeDepth := 100) [State.esRead, sok]

@[simp] theorem State.rxState_stores (s : State) (a : Nat) (st : Nat) (sok : StoresOk s) :
    StoresOk (State.rxState s a st) := by
  simp (maxDischargeDepth := 100) [State.rxState, sok]

@[simp] theorem State.rxRestart_stores (s : State) (m : Nat) (sok : StoresOk s) :
    StoresOk (State.rxRestart s m) := by
  simp +contextual (maxDischargeDepth := 100) [State.rxRestart, sok]

@[simp] theorem State.portAis_stores (s : State) (p : Nat) (sok : StoresOk s) :
    StoresOk (State.portAis s p) := by
  simp +contextual (maxDischargeDepth := 100) [State.portAis, sok]

@[simp] theorem State.rxGrain_stores (s : State) (p : Nat) (ver : Nat) (g : Nat) (fld : Nat → Nat × Bool) (word :
    Nat → List Word) (nj : Nat → Word) (sok : StoresOk s) :
    StoresOk (State.rxGrain s p ver g fld word nj) := by
  simp +contextual (maxDischargeDepth := 100) [State.rxGrain, sok]

@[simp] theorem State.rxGrains_stores (s : State) (p : Nat) (ver : Nat) (fld : Nat → Nat × Bool) (word : Nat → List
    Word) (nj : Nat → Word) (sok : StoresOk s) :
    StoresOk (State.rxGrains s p ver fld word nj) := by
  simp +contextual (maxDischargeDepth := 100) [State.rxGrains, sok]

@[simp] theorem State.genSlot_stores (s : State) (a : Nat) (n : Nat) (n0 : Nat) (force : Bool) (bnd : Nat) (src :
    Bool) (sok : StoresOk s) :
    StoresOk (State.genSlot s a n n0 force bnd src) := by
  simp (maxDischargeDepth := 100) [State.genSlot, sok]

@[simp] theorem State.ptrField_stores (s : State) (a : Nat) (v : Nat) (sok : StoresOk s) :
    StoresOk (State.ptrField s a v) := by
  simp (maxDischargeDepth := 100) [State.ptrField, sok]

@[simp] theorem State.ptrOut_stores (s : State) (a : Nat) (sok : StoresOk s) :
    StoresOk (State.ptrOut s a) := by
  simp +contextual (maxDischargeDepth := 100) [State.ptrOut, sok]

@[simp] theorem State.newDisplaced_stores (s : State) (a : Nat) (n : Nat) (n0 : Nat) (sok : StoresOk s) :
    StoresOk (State.newDisplaced s a n n0) := by
  simp (maxDischargeDepth := 100) [State.newDisplaced, sok]

@[simp] theorem State.genWord_stores (s : State) (a : Nat) (n : Nat) (n0 : Nat) (sok : StoresOk s) :
    StoresOk (State.genWord s a n n0) := by
  simp (maxDischargeDepth := 100) [State.genWord, sok]

/-! ### Machine/Groups.lean -/

@[simp] theorem State.findPlace_stores (s : State) (bs : List Nat) (n : Nat) (sok : StoresOk s) :
    StoresOk (State.findPlace s bs n).1 := by
  simp +contextual (maxDischargeDepth := 100) [State.findPlace, sok]

@[simp] theorem State.placeWords_stores (s : State) (o : Nat) (n : Nat) (l : List (Nat × Nat)) (sok : StoresOk s) :
    StoresOk (State.placeWords s o n l).1 := by
  simp (maxDischargeDepth := 100) [State.placeWords, sok]

@[simp] theorem State.placeResv_stores (s : State) (r : Resv) (sok : StoresOk s) :
    StoresOk (State.placeResv s r).1 := by
  simp only [State.placeResv]; split <;> simp (maxDischargeDepth := 100) [sok]

@[simp] theorem State.placeAll_stores (s : State) (sok : StoresOk s) :
    StoresOk (State.placeAll s) := by
  simp +contextual (maxDischargeDepth := 100) [State.placeAll, sok]

@[simp] theorem State.reserve_stores (s : State) (c : Nat) (sok : StoresOk s) :
    StoresOk (State.reserve s c) := by
  simp (maxDischargeDepth := 100) [State.reserve, sok]

@[simp] theorem ctxOp_stores (idx : Nat) (c : Nat) (v : Nat) (s : State) (sok : StoresOk s) :
    StoresOk (ctxOp idx c v s).1 := by
  simp (maxDischargeDepth := 100) [ctxOp, sok]

@[simp] theorem lineCtxOp_stores (a : Nat) (v : Nat) (s : State) (sok : StoresOk s) :
    StoresOk (lineCtxOp a v s).1 := by
  simp (maxDischargeDepth := 100) [lineCtxOp, sok]

@[simp] theorem lineSqOp_stores (a : Nat) (v : Nat) (s : State) (sok : StoresOk s) :
    StoresOk (lineSqOp a v s).1 := by
  simp (maxDischargeDepth := 100) [lineSqOp, sok]

@[simp] theorem State.lineState_stores (s : State) (a : Nat) (st : Nat) (sok : StoresOk s) :
    StoresOk (State.lineState s a st) := by
  simp (maxDischargeDepth := 100) [State.lineState, sok]

@[simp] theorem State.lineTpoa_stores (s : State) (a : Nat) (n : Nat) (t : Nat) (ws : List Word) (sok : StoresOk s)
    :
    StoresOk (State.lineTpoa s a n t ws) := by
  simp only [State.lineTpoa]; (repeat' split) <;> simp (maxDischargeDepth := 100) [sok]

@[simp] theorem State.lineWrite_stores (s : State) (a : Nat) (n : Nat) (u : SUnit) (sok : StoresOk s) :
    StoresOk (State.lineWrite s a n u) := by
  simp only [State.lineWrite]; (repeat' split) <;> simp (maxDischargeDepth := 100) [sok]

@[simp] theorem State.lineFlags_stores (s : State) (a : Nat) (tpob : Nat) (sok : StoresOk s) :
    StoresOk (State.lineFlags s a tpob) := by
  simp (maxDischargeDepth := 100) [State.lineFlags, sok]

@[simp] theorem State.lineOut_stores (s : State) (a : Nat) (q : Nat × Nat) (sok : StoresOk s) :
    StoresOk (State.lineOut s a q).1 := by
  simp only [State.lineOut]; split <;> simp (maxDischargeDepth := 100) [sok]

@[simp] theorem State.sieveChoose_stores (s : State) (c : Nat) (a0 : Nat) (a1 : Nat) (t : Nat) (e : Int) (sok :
    StoresOk s) :
    StoresOk (State.sieveChoose s c a0 a1 t e) := by
  simp (maxDischargeDepth := 100) [State.sieveChoose, sok]

@[simp] theorem State.sieveOut_stores (s : State) (c : Nat) (a0 : Nat) (a1 : Nat) (q : Nat × Nat) (e : Int) (sok :
    StoresOk s) :
    StoresOk (State.sieveOut s c a0 a1 q e).1 := by
  unfold State.sieveOut
  extract_lets s1 x at_ pick prev maj s2 s3 frm base tpob
  have k : StoresOk s3 := by simp (maxDischargeDepth := 100) [s3, s2, s1, sok]
  clear_value s3 pick base tpob
  split_ifs <;> first | exact k | (cases base <;> exact k)

@[simp] theorem State.ctxStep_stores (s : State) (c : Nat) (sok : StoresOk s) :
    StoresOk (State.ctxStep s c) := by
  simp (maxDischargeDepth := 100) [State.ctxStep, sok]

@[simp] theorem State.outs_stores (s : State) (f : State → Nat × Nat → State × SUnit) (qs : List (Nat × Nat)) (sok
    : StoresOk s) (hf : ∀ t q, StoresOk t → StoresOk (f t q).1) :
    StoresOk (State.outs s f qs).1 := by
  exact foldl_keeps (fun r : State × List SUnit => StoresOk r.1) _ _ _ sok fun r q hr => hf r.1 q hr

@[simp] theorem State.groupOut_stores (s : State) (a : Nat) (n : Nat) (us : List SUnit) (sok : StoresOk s) :
    StoresOk (State.groupOut s a n us).1 := by
  simp only [State.groupOut]; (repeat' split) <;> simp +contextual (maxDischargeDepth := 100) [sok]

@[simp] theorem State.lineCapture_stores (s : State) (a : Nat) (e : Int) (sok : StoresOk s) :
    StoresOk (State.lineCapture s a e) := by
  simp (maxDischargeDepth := 100) [State.lineCapture, sok]

@[simp] theorem State.capture_stores (s : State) (c : Nat) (sok : StoresOk s) :
    StoresOk (State.capture s c) := by
  simp only [State.capture]; (repeat' split) <;> simp +contextual (maxDischargeDepth := 100) [sok]

@[simp] theorem State.captures_stores (s : State) (sok : StoresOk s) :
    StoresOk (State.captures s) := by
  simp +contextual (maxDischargeDepth := 100) [State.captures, sok]

@[simp] theorem State.ctxMode_stores (s : State) (c : Nat) (m : Nat) (sok : StoresOk s) :
    StoresOk (State.ctxMode s c m) := by
  simp (maxDischargeDepth := 100) [State.ctxMode, sok]

@[simp] theorem State.ctxFrame_stores (s : State) (c : Nat) (sok : StoresOk s) :
    StoresOk (State.ctxFrame s c) := by
  simp (maxDischargeDepth := 100) [State.ctxFrame, sok]

@[simp] theorem State.linesFrame_stores (s : State) (sok : StoresOk s) :
    StoresOk (State.linesFrame s) := by
  simp (maxDischargeDepth := 100) [State.linesFrame, sok]

@[simp] theorem State.groupFrame_stores (s : State) (sok : StoresOk s) :
    StoresOk (State.groupFrame s) := by
  simp +contextual (maxDischargeDepth := 100) [State.groupFrame, sok]

@[simp] theorem State.lineStart_stores (s : State) (c : Nat) (a : Nat) (sok : StoresOk s) :
    StoresOk (State.lineStart s c a) := by
  simp (maxDischargeDepth := 100) [State.lineStart, sok]

@[simp] theorem State.slewLine_stores (s : State) (e : Int) (a : Nat) (sok : StoresOk s) :
    StoresOk (State.slewLine s e a) := by
  simp (maxDischargeDepth := 100) [State.slewLine, sok]

@[simp] theorem State.slewStart_stores (s : State) (c : Nat) (ls : List Nat) (sok : StoresOk s) :
    StoresOk (State.slewStart s c ls) := by
  simp +contextual (maxDischargeDepth := 100) [State.slewStart, sok]

@[simp] theorem State.ctxStart_stores (s : State) (c : Nat) (sok : StoresOk s) :
    StoresOk (State.ctxStart s c) := by
  simp (maxDischargeDepth := 100) [State.ctxStart, sok]

@[simp] theorem State.lineStop_stores (s : State) (a : Nat) (sok : StoresOk s) :
    StoresOk (State.lineStop s a) := by
  simp only [State.lineStop]; (repeat' split) <;> simp (maxDischargeDepth := 100) [sok]

@[simp] theorem State.ctxStop_stores (s : State) (c : Nat) (sok : StoresOk s) :
    StoresOk (State.ctxStop s c) := by
  simp (maxDischargeDepth := 100) [State.ctxStop, sok]

@[simp] theorem State.marginsDue_stores (s : State) (sok : StoresOk s) :
    StoresOk (State.marginsDue s) := by
  simp +contextual (maxDischargeDepth := 100) [State.marginsDue, sok]

@[simp] theorem State.lineScrub_stores (s : State) (r : Resv) (sok : StoresOk s) :
    StoresOk (State.lineScrub s r) := by
  simp (maxDischargeDepth := 100) [State.lineScrub, sok]

@[simp] theorem State.lineFreedOp_stores (s : State) (a : Nat) (sok : StoresOk s) :
    StoresOk (State.lineFreedOp s a) := by
  simp only [State.lineFreedOp]; split <;> simp (maxDischargeDepth := 100) [sok]

@[simp] theorem State.lineLost_stores (s : State) (a : Nat) (lost : Bool) (sok : StoresOk s) :
    StoresOk (State.lineLost s a lost) := by
  simp (maxDischargeDepth := 100) [State.lineLost, sok]

@[simp] theorem State.ddrLinesAis_stores (s : State) (sok : StoresOk s) :
    StoresOk (State.ddrLinesAis s) := by
  simp +contextual (maxDischargeDepth := 100) [State.ddrLinesAis, sok]

@[simp] theorem State.lineLateOp_stores (s : State) (a : Nat) (sok : StoresOk s) :
    StoresOk (State.lineLateOp s a) := by
  simp (maxDischargeDepth := 100) [State.lineLateOp, sok]

@[simp] theorem State.spoil_stores (s : State) (mine : LineS → Bool) (record : Bool) (sok : StoresOk s) :
    StoresOk (State.spoil s mine record) := by
  simp only [State.spoil]; split <;> simp (maxDischargeDepth := 100) [sok]

/-! ### Machine/Memory.lean -/

@[simp] theorem State.bankStore_stores (s : State) (b : Nat) (w : Nat) (c : Nat) (sok : StoresOk s) :
    StoresOk (State.bankStore s b w c) := by
  simp only [State.bankStore]; split_ifs <;> simp (maxDischargeDepth := 100) [sok]

@[simp] theorem State.bankPut_stores (s : State) (b : Nat) (w : Nat) (d : Nat) (sok : StoresOk s) :
    StoresOk (State.bankPut s b w d) := by
  simp (maxDischargeDepth := 100) [State.bankPut, sok]

@[simp] theorem State.bankErr_stores (s : State) (b : Nat) (w : Nat) (r : EccR) (sok : StoresOk s) :
    StoresOk (State.bankErr s b w r) := by
  simp (maxDischargeDepth := 100) [State.bankErr, sok]

@[simp] theorem State.bankHolds_stores (s : State) (b : Nat) (w : Nat) (sok : StoresOk s) :
    StoresOk (State.bankHolds s b w).1 := by
  simp (maxDischargeDepth := 100) [State.bankHolds, sok]

@[simp] theorem State.bankRead_stores (s : State) (b : Nat) (w : Nat) (flip : Nat) (sok : StoresOk s) :
    StoresOk (State.bankRead s b w flip).1 := by
  simp (maxDischargeDepth := 100) [State.bankRead, sok]

@[simp] theorem State.writeBack_stores (s : State) (b : Nat) (w : Nat) (sok : StoresOk s) :
    StoresOk (State.writeBack s b w) := by
  simp (maxDischargeDepth := 100) [State.writeBack, sok]

@[simp] theorem State.fenceApply_stores (s : State) (sok : StoresOk s) :
    StoresOk (State.fenceApply s) := by
  simp +contextual (maxDischargeDepth := 100) [State.fenceApply, sok]

@[simp] theorem State.takeNone_stores (s : State) (o : Nat) (sok : StoresOk s) :
    StoresOk (State.takeNone s o) := by
  simp only [State.takeNone]; split <;> simp (maxDischargeDepth := 100) [sok]

@[simp] theorem State.cutAbandon_stores (s : State) (sok : StoresOk s) :
    StoresOk (State.cutAbandon s) := by
  simp (maxDischargeDepth := 100) [State.cutAbandon, sok]

@[simp] theorem State.loseLines_stores (s : State) (b : Nat) (sok : StoresOk s) :
    StoresOk (State.loseLines s b) := by
  unfold State.loseLines; refine foldl_stores _ _ _ sok fun a x ha => ?_; (repeat' split) <;> simp
    (maxDischargeDepth := 100) [ha]

@[simp] theorem State.retireCommit_stores (s : State) (sok : StoresOk s) :
    StoresOk (State.retireCommit s) := by
  simp (maxDischargeDepth := 100) [State.retireCommit, sok]

@[simp] theorem State.fencePut_stores (s : State) (v : Nat) (sok : StoresOk s) :
    StoresOk (State.fencePut s v) := by
  unfold State.fencePut
  generalize s.fenceFree = o
  cases o <;> simp [sok]

@[simp] theorem State.traceEnd_stores (s : State) (v : Nat) (sok : StoresOk s) :
    StoresOk (State.traceEnd s v) := by
  simp (maxDischargeDepth := 100) [State.traceEnd, sok]

@[simp] theorem State.retireFrom_stores (s : State) (o : Nat) (b : Nat) (sok : StoresOk s) :
    StoresOk (State.retireFrom s o b) := by
  simp only [State.retireFrom]; split <;> simp (maxDischargeDepth := 100) [sok]

@[simp] theorem State.retireBank_stores (s : State) (b : Nat) (sok : StoresOk s) :
    StoresOk (State.retireBank s b) := by
  simp (maxDischargeDepth := 100) [State.retireBank, sok]

@[simp] theorem State.fenceWord_stores (s : State) (b : Nat) (w : Nat) (sok : StoresOk s) :
    StoresOk (State.fenceWord s b w) := by
  simp only [State.fenceWord]; (repeat' split) <;> simp (maxDischargeDepth := 100) [sok]

@[simp] theorem State.placeLost_stores (s : State) (sok : StoresOk s) :
    StoresOk (State.placeLost s) := by
  simp +contextual (maxDischargeDepth := 100) [State.placeLost, sok]

@[simp] theorem State.shortClear_stores (s : State) (sok : StoresOk s) :
    StoresOk (State.shortClear s) := by
  simp (maxDischargeDepth := 100) [State.shortClear, sok]

@[simp] theorem State.startDrain_stores (s : State) (b : Nat) (sok : StoresOk s) :
    StoresOk (State.startDrain s b) := by
  simp (maxDischargeDepth := 100) [State.startDrain, sok]

@[simp] theorem State.handoverDone_stores (s : State) (b : Nat) (sok : StoresOk s) :
    StoresOk (State.handoverDone s b) := by
  simp (maxDischargeDepth := 100) [State.handoverDone, sok]

@[simp] theorem State.drainDone_stores (s : State) (b : Nat) (sok : StoresOk s) :
    StoresOk (State.drainDone s b) := by
  simp (maxDischargeDepth := 100) [State.drainDone, sok]

@[simp] theorem State.bankZero_stores (s : State) (b : Nat) (sok : StoresOk s) :
    StoresOk (State.bankZero s b) := by
  simp (maxDischargeDepth := 100) [State.bankZero, sok]

@[simp] theorem State.scrubDone_stores (s : State) (b : Nat) (sok : StoresOk s) :
    StoresOk (State.scrubDone s b) := by
  simp (maxDischargeDepth := 100) [State.scrubDone, sok]

@[simp] theorem State.pendingDrain_stores (s : State) (sok : StoresOk s) :
    StoresOk (State.pendingDrain s) := by
  simp +contextual (maxDischargeDepth := 100) [State.pendingDrain, sok]

@[simp] theorem State.handoversOff_stores (s : State) (sok : StoresOk s) :
    StoresOk (State.handoversOff s) := by
  simp +contextual (maxDischargeDepth := 100) [State.handoversOff, sok]

@[simp] theorem State.ownerLater_stores (s : State) (b : Nat) (sok : StoresOk s) :
    StoresOk (State.ownerLater s b) := by
  simp (maxDischargeDepth := 100) [State.ownerLater, sok]

@[simp] theorem State.bankReuse_stores (s : State) (h0 : Nat) (b : Nat) (sok : StoresOk s) :
    StoresOk (State.bankReuse s h0 b) := by
  unfold State.bankReuse
  extract_lets l s1 fence m1 a1 s2 s3 s4
  have k1 : StoresOk s1 := foldl_stores _ _ _ sok fun a x ha => by simp [ha]
  have k2 : StoresOk s2 := by simp [s2, m1, a1, fence, k1]
  have k4 : StoresOk s4 := by simp (maxDischargeDepth := 100) [s4, s3, k2]
  clear_value s4
  simp [k4]

@[simp] theorem bankOwnerOp_stores (h0 : Nat) (b : Nat) (v : Nat) (s : State) (sok : StoresOk s) :
    StoresOk (bankOwnerOp h0 b v s).1 := by
  simp (maxDischargeDepth := 100) [bankOwnerOp, sok]

@[simp] theorem State.clearDone_stores (s : State) (sok : StoresOk s) :
    StoresOk (State.clearDone s) := by
  simp +contextual (maxDischargeDepth := 100) [State.clearDone, sok]

@[simp] theorem State.stale_stores (s : State) (sok : StoresOk s) :
    StoresOk (State.stale s) := by
  simp (maxDischargeDepth := 100) [State.stale, sok]

@[simp] theorem State.bankOpen_stores (s : State) (b : Nat) (m : Nat) (wr : Bool) (early : Bool) (sok : StoresOk s)
    :
    StoresOk (State.bankOpen s b m wr early).1 := by
  simp (maxDischargeDepth := 100) [State.bankOpen, sok]

@[simp] theorem State.traceOpen_stores (s : State) (b : Nat) (sok : StoresOk s) :
    StoresOk (State.traceOpen s b).1 := by
  simp (maxDischargeDepth := 100) [State.traceOpen, sok]

@[simp] theorem State.ddrShow_stores (s : State) (sok : StoresOk s) :
    StoresOk (State.ddrShow s) := by
  simp (maxDischargeDepth := 100) [State.ddrShow, sok]

@[simp] theorem State.setLs_stores (s : State) (v : Nat) (sok : StoresOk s) :
    StoresOk (State.setLs s v) := by
  simp (maxDischargeDepth := 100) [State.setLs, sok]

@[simp] theorem State.lsReady_stores (s : State) (sok : StoresOk s) :
    StoresOk (State.lsReady s) := by
  simp (maxDischargeDepth := 100) [State.lsReady, sok]

@[simp] theorem State.setChannel_stores (s : State) (c : Nat) (v : Nat) (sok : StoresOk s) :
    StoresOk (State.setChannel s c v) := by
  simp (maxDischargeDepth := 100) [State.setChannel, sok]

@[simp] theorem State.ddrTrained_stores (s : State) (gib : Nat) (failed : List Nat) (sok : StoresOk s) :
    StoresOk (State.ddrTrained s gib failed) := by
  simp +contextual (maxDischargeDepth := 100) [State.ddrTrained, sok]

@[simp] theorem State.ddrFilled_stores (s : State) (sok : StoresOk s) :
    StoresOk (State.ddrFilled s) := by
  simp (maxDischargeDepth := 100) [State.ddrFilled, sok]

@[simp] theorem State.fillFrame_stores (s : State) (sok : StoresOk s) :
    StoresOk (State.fillFrame s) := by
  simp (maxDischargeDepth := 100) [State.fillFrame, sok]

@[simp] theorem ddrLsEnOp_stores (v : Nat) (s : State) (sok : StoresOk s) :
    StoresOk (ddrLsEnOp v s).1 := by
  simp (maxDischargeDepth := 100) [ddrLsEnOp, sok]

@[simp] theorem ddrSizeOp_stores (h0 : Nat) (idx : Nat) (v : Nat) (s : State) (sok : StoresOk s) :
    StoresOk (ddrSizeOp h0 idx v s).1 := by
  simp (maxDischargeDepth := 100) [ddrSizeOp, sok]

@[simp] theorem State.retrain_stores (s : State) (c : Nat) (sok : StoresOk s) :
    StoresOk (State.retrain s c) := by
  simp (maxDischargeDepth := 100) [State.retrain, sok]

@[simp] theorem State.retrainEnd_stores (s : State) (c : Nat) (sok : StoresOk s) :
    StoresOk (State.retrainEnd s c) := by
  simp (maxDischargeDepth := 100) [State.retrainEnd, sok]

@[simp] theorem State.retrainAttempt_stores (s : State) (c : Nat) (ok : Bool) (sok : StoresOk s) :
    StoresOk (State.retrainAttempt s c ok) := by
  simp (maxDischargeDepth := 100) [State.retrainAttempt, sok]

@[simp] theorem State.ddrErr_stores (s : State) (off : Nat) (bad : Bool) (sok : StoresOk s) :
    StoresOk (State.ddrErr s off bad) := by
  simp (maxDischargeDepth := 100) [State.ddrErr, sok]

@[simp] theorem disturb_wf (d : Nat) (m : SMap Nat) (o f : Nat) (h : SMap.wf (fun _ => d) m = true) :
    SMap.wf (fun _ => d) (disturb d m o f) = true := by
  unfold disturb
  refine foldRange_keeps (fun m => SMap.wf (fun _ => d) m = true) _ _ _ h fun a x ha => ?_
  dsimp only
  split_ifs
  · exact ha
  · exact SMap.wf_const_set d a _ _ ha

@[simp] theorem unitRead_m_wf (m bad : SMap Nat) (u f : Nat) (fix : Bool) (h : SMap.wf (fun _ => 0) m = true) :
    SMap.wf (fun _ => 0) (unitRead m bad u f fix).m = true := by
  unfold unitRead
  extract_lets p now good n
  split_ifs <;> simp [now, good, h]

@[simp] theorem unitRead_bad_wf (m bad : SMap Nat) (u f : Nat) (fix : Bool) (h : SMap.wf (fun _ => 0) bad = true) :
    SMap.wf (fun _ => 0) (unitRead m bad u f fix).bad = true := by
  unfold unitRead
  extract_lets p now good n
  split_ifs <;> simp [h]

@[simp] theorem State.ddrBeat_stores (s : State) (u : Nat) (f : Nat) (fix : Bool) (sok : StoresOk s) :
    StoresOk (State.ddrBeat s u f fix).1 := by
  simp (maxDischargeDepth := 100) [State.ddrBeat, sok]

@[simp] theorem State.ddrRead_stores (s : State) (o : Nat) (n : Nat) (f : Nat) (sok : StoresOk s) :
    StoresOk (State.ddrRead s o n f).1 := by
  simp +contextual (maxDischargeDepth := 100) [State.ddrRead, sok]

@[simp] theorem putEnabled_wf (d : Nat) (m : SMap Nat) (o : Nat) (l : List (Byte × Bool))
    (h : SMap.wf (fun _ => d) m = true) : SMap.wf (fun _ => d) (putEnabled d m o l) = true := by
  unfold putEnabled
  refine foldl_keeps (fun r : SMap Nat × Nat => SMap.wf (fun _ => d) r.1 = true) _ _ _ h fun a x ha => ?_
  dsimp only
  split_ifs
  · exact SMap.wf_const_set d a.1 _ _ ha
  · exact ha

@[simp] theorem eraseAll_wf (d : Nat) (l : List Nat) (m : SMap Nat) (h : SMap.wf (fun _ => d) m = true) :
    SMap.wf (fun _ => d) (l.foldl (fun m u => SMap.erase m u) m) = true :=
  foldl_keeps (fun m => SMap.wf (fun _ => d) m = true) _ l m h fun a x ha => SMap.wf_const_erase d a x ha

@[simp] theorem State.ddrWrite_stores (s : State) (o : Nat) (d : List (Byte × Bool)) (sok : StoresOk s) :
    StoresOk (State.ddrWrite s o d) := by
  simp +contextual (maxDischargeDepth := 100) [State.ddrWrite, sok]

@[simp] theorem State.patrolBeat_stores (s : State) (f : Nat) (sok : StoresOk s) :
    StoresOk (State.patrolBeat s f) := by
  simp (maxDischargeDepth := 100) [State.patrolBeat, sok]

@[simp] theorem ddrRetrainOp_stores (h0 : Nat) (c : Nat) (s : State) (sok : StoresOk s) :
    StoresOk (ddrRetrainOp h0 c s).1 := by
  simp (maxDischargeDepth := 100) [ddrRetrainOp, sok]

@[simp] theorem State.eccLogRead_stores (s : State) (w : Who) (first : Nat) (count : Nat) (sok : StoresOk s) :
    StoresOk (State.eccLogRead s w first count) := by
  simp (maxDischargeDepth := 100) [State.eccLogRead, sok]

@[simp] theorem State.writeBankOwner_stores (s : State) (w : Who) (b : Nat) (v : Nat) (sok : StoresOk s) :
    StoresOk (State.writeBankOwner s w b v) := by
  simp +contextual (maxDischargeDepth := 100) [State.writeBankOwner, sok]

@[simp] theorem State.writeDdrLsEn_stores (s : State) (w : Who) (v : Nat) (sok : StoresOk s) :
    StoresOk (State.writeDdrLsEn s w v) := by
  simp +contextual (maxDischargeDepth := 100) [State.writeDdrLsEn, sok]

@[simp] theorem State.writeDdrSize_stores (s : State) (w : Who) (idx : Nat) (v : Nat) (sok : StoresOk s) :
    StoresOk (State.writeDdrSize s w idx v) := by
  simp +contextual (maxDischargeDepth := 100) [State.writeDdrSize, sok]

@[simp] theorem State.writeDdrRetrain_stores (s : State) (w : Who) (c : Nat) (sok : StoresOk s) :
    StoresOk (State.writeDdrRetrain s w c) := by
  simp +contextual (maxDischargeDepth := 100) [State.writeDdrRetrain, sok]

/-! ### Machine/Witness.lean -/

@[simp] theorem State.setUnwatched_stores (s : State) (b : Bool) (sok : StoresOk s) :
    StoresOk (State.setUnwatched s b) := by
  simp (maxDischargeDepth := 100) [State.setUnwatched, sok]

@[simp] theorem State.refreshWatch_stores (s : State) (sok : StoresOk s) :
    StoresOk (State.refreshWatch s) := by
  simp (maxDischargeDepth := 100) [State.refreshWatch, sok]

@[simp] theorem State.setStreamState_stores (s : State) (st : Nat) (v : Nat) (sok : StoresOk s) :
    StoresOk (State.setStreamState s st v) := by
  simp (maxDischargeDepth := 100) [State.setStreamState, sok]

@[simp] theorem State.blockLoss_stores (s : State) (st : Nat) (sok : StoresOk s) :
    StoresOk (State.blockLoss s st) := by
  simp (maxDischargeDepth := 100) [State.blockLoss, sok]

@[simp] theorem State.streamOff_stores (s : State) (p : Nat) (sok : StoresOk s) :
    StoresOk (State.streamOff s p) := by
  simp only [State.streamOff]; split <;> simp (maxDischargeDepth := 100) [sok]

/-! ### Machine/Link.lean -/

@[simp] theorem State.setVer_stores (s : State) (p : Nat) (r : Nat) (t : Nat) (sok : StoresOk s) :
    StoresOk (State.setVer s p r t) := by
  simp (maxDischargeDepth := 100) [State.setVer, sok]

@[simp] theorem State.untie_stores (s : State) (sok : StoresOk s) :
    StoresOk (State.untie s) := by
  simp (maxDischargeDepth := 100) [State.untie, sok]

@[simp] theorem State.tieFails_stores (s : State) (sok : StoresOk s) :
    StoresOk (State.tieFails s) := by
  simp (maxDischargeDepth := 100) [State.tieFails, sok]

@[simp] theorem State.launchEnd_stores (s : State) (l : LaunchR) (status : Nat) (stamp : Nat) (sok : StoresOk s) :
    StoresOk (State.launchEnd s l status stamp) := by
  simp (maxDischargeDepth := 100) [State.launchEnd, sok]

@[simp] theorem State.dropQueue_stores (s : State) (i : Nat) (sok : StoresOk s) :
    StoresOk (State.dropQueue s i) := by
  simp +contextual (maxDischargeDepth := 100) [State.dropQueue, sok]

@[simp] theorem State.dropLaunches_stores (s : State) (i : Nat) (sok : StoresOk s) :
    StoresOk (State.dropLaunches s i) := by
  simp +contextual (maxDischargeDepth := 100) [State.dropLaunches, sok]

@[simp] theorem State.ifaceDown_stores (s : State) (p : Nat) (sok : StoresOk s) :
    StoresOk (State.ifaceDown s p) := by
  simp (maxDischargeDepth := 100) [State.ifaceDown, sok]

@[simp] theorem State.negDrop_stores (s : State) (p : Nat) (sok : StoresOk s) :
    StoresOk (State.negDrop s p) := by
  simp (maxDischargeDepth := 100) [State.negDrop, sok]

@[simp] theorem State.unalign_stores (s : State) (p : Nat) (st : Nat) (loss : Bool) (sok : StoresOk s) :
    StoresOk (State.unalign s p st loss) := by
  simp (maxDischargeDepth := 100) [State.unalign, sok]

@[simp] theorem State.sync_stores (s : State) (p : Nat) (at_ : Nat) (sok : StoresOk s) :
    StoresOk (State.sync s p at_) := by
  simp (maxDischargeDepth := 100) [State.sync, sok]

@[simp] theorem State.cdrLock_stores (s : State) (p : Nat) (sok : StoresOk s) :
    StoresOk (State.cdrLock s p) := by
  simp (maxDischargeDepth := 100) [State.cdrLock, sok]

@[simp] theorem State.rxSwitch_stores (s : State) (p : Nat) (v : Nat) (sok : StoresOk s) :
    StoresOk (State.rxSwitch s p v) := by
  simp (maxDischargeDepth := 100) [State.rxSwitch, sok]

@[simp] theorem State.rxResetDue_stores (s : State) (p : Nat) (sok : StoresOk s) :
    StoresOk (State.rxResetDue s p) := by
  simp (maxDischargeDepth := 100) [State.rxResetDue, sok]

@[simp] theorem State.signalLoss_stores (s : State) (p : Nat) (sok : StoresOk s) :
    StoresOk (State.signalLoss s p) := by
  simp (maxDischargeDepth := 100) [State.signalLoss, sok]

@[simp] theorem State.fawMatch_stores (s : State) (p : Nat) (c : Nat) (x : Lane) (sok : StoresOk s) :
    StoresOk (State.fawMatch s p c x) := by
  simp (maxDischargeDepth := 100) [State.fawMatch, sok]

@[simp] theorem State.rejectCand_stores (s : State) (p : Nat) (c : Nat) (sok : StoresOk s) :
    StoresOk (State.rejectCand s p c) := by
  simp (maxDischargeDepth := 100) [State.rejectCand, sok]

@[simp] theorem State.row1Check_stores (s : State) (p : Nat) (c : Nat) (ls : List Lane) (sok : StoresOk s) :
    StoresOk (State.row1Check s p c ls) := by
  simp (maxDischargeDepth := 100) [State.row1Check, sok]

@[simp] theorem State.fawConfirm_stores (s : State) (p : Nat) (c : Nat) (x : Lane) (sok : StoresOk s) :
    StoresOk (State.fawConfirm s p c x) := by
  simp (maxDischargeDepth := 100) [State.fawConfirm, sok]

@[simp] theorem State.negReturn_stores (s : State) (p : Nat) (sok : StoresOk s) :
    StoresOk (State.negReturn s p) := by
  simp (maxDischargeDepth := 100) [State.negReturn, sok]

@[simp] theorem State.relockFail_stores (s : State) (p : Nat) (sok : StoresOk s) :
    StoresOk (State.relockFail s p) := by
  simp (maxDischargeDepth := 100) [State.relockFail, sok]

@[simp] theorem State.syncLoss_stores (s : State) (p : Nat) (sok : StoresOk s) :
    StoresOk (State.syncLoss s p) := by
  simp (maxDischargeDepth := 100) [State.syncLoss, sok]

@[simp] theorem State.negEnd_stores (s : State) (p : Nat) (sok : StoresOk s) :
    StoresOk (State.negEnd s p) := by
  simp (maxDischargeDepth := 100) [State.negEnd, sok]

@[simp] theorem State.renegotiate_stores (s : State) (p : Nat) (h0 : Nat) (sok : StoresOk s) :
    StoresOk (State.renegotiate s p h0) := by
  simp (maxDischargeDepth := 100) [State.renegotiate, sok]

@[simp] theorem State.settle_stores (s : State) (p : Nat) (sok : StoresOk s) :
    StoresOk (State.settle s p) := by
  simp (maxDischargeDepth := 100) [State.settle, sok]

@[simp] theorem State.handshakeRow_stores (s : State) (p : Nat) (w : Nat) (sok : StoresOk s) :
    StoresOk (State.handshakeRow s p w) := by
  simp (maxDischargeDepth := 100) [State.handshakeRow, sok]

@[simp] theorem State.handshake_stores (s : State) (p : Nat) (w : Nat) (sok : StoresOk s) :
    StoresOk (State.handshake s p w) := by
  simp (maxDischargeDepth := 100) [State.handshake, sok]

@[simp] theorem State.rxCommit_stores (s : State) (p : Nat) (w : Option Nat) (follows : Bool) (sok : StoresOk s) :
    StoresOk (State.rxCommit s p w follows) := by
  simp only [State.rxCommit]; split <;> simp (maxDischargeDepth := 100) [sok]

@[simp] theorem State.negFrame_stores (s : State) (p : Nat) (sok : StoresOk s) :
    StoresOk (State.negFrame s p) := by
  simp (maxDischargeDepth := 100) [State.negFrame, sok]

@[simp] theorem State.fecInterval_stores (s : State) (p : Nat) (sok : StoresOk s) :
    StoresOk (State.fecInterval s p) := by
  simp (maxDischargeDepth := 100) [State.fecInterval, sok]

@[simp] theorem State.portStart_stores (s : State) (p : Nat) (sok : StoresOk s) :
    StoresOk (State.portStart s p) := by
  simp (maxDischargeDepth := 100) [State.portStart, sok]

@[simp] theorem State.portStop_stores (s : State) (p : Nat) (at_ : Bool) (sok : StoresOk s) :
    StoresOk (State.portStop s p at_) := by
  simp (maxDischargeDepth := 100) [State.portStop, sok]

@[simp] theorem State.rolesChanged_stores (s : State) (sok : StoresOk s) :
    StoresOk (State.rolesChanged s) := by
  simp +contextual (maxDischargeDepth := 100) [State.rolesChanged, sok]

@[simp] theorem portEnableOp_stores (p : Nat) (v : Nat) (s : State) (sok : StoresOk s) :
    StoresOk (portEnableOp p v s).1 := by
  simp (maxDischargeDepth := 100) [portEnableOp, sok]

@[simp] theorem portRoleOp_stores (p : Nat) (v : Nat) (s : State) (sok : StoresOk s) :
    StoresOk (portRoleOp p v s).1 := by
  simp (maxDischargeDepth := 100) [portRoleOp, sok]

@[simp] theorem State.writePortEnable_stores (s : State) (w : Who) (p : Nat) (v : Nat) (sok : StoresOk s) :
    StoresOk (State.writePortEnable s w p v) := by
  simp +contextual (maxDischargeDepth := 100) [State.writePortEnable, sok]

@[simp] theorem State.writePortRole_stores (s : State) (w : Who) (p : Nat) (v : Nat) (sok : StoresOk s) :
    StoresOk (State.writePortRole s w p v) := by
  simp +contextual (maxDischargeDepth := 100) [State.writePortRole, sok]

@[simp] theorem State.writeRenegotiate_stores (s : State) (w : Who) (p : Nat) (v : Nat) (sok : StoresOk s) :
    StoresOk (State.writeRenegotiate s w p v) := by
  simp +contextual (maxDischargeDepth := 100) [State.writeRenegotiate, sok]

@[simp] theorem State.writeVersionMax_stores (s : State) (w : Who) (p : Nat) (v : Nat) (sok : StoresOk s) :
    StoresOk (State.writeVersionMax s w p v) := by
  simp +contextual (maxDischargeDepth := 100) [State.writeVersionMax, sok]

@[simp] theorem State.writeVersionExcluded_stores (s : State) (w : Who) (p : Nat) (v : Nat) (sok : StoresOk s) :
    StoresOk (State.writeVersionExcluded s w p v) := by
  simp +contextual (maxDischargeDepth := 100) [State.writeVersionExcluded, sok]

@[simp] theorem State.writeTimeChannelEn_stores (s : State) (w : Who) (p : Nat) (v : Nat) (sok : StoresOk s) :
    StoresOk (State.writeTimeChannelEn s w p v) := by
  simp +contextual (maxDischargeDepth := 100) [State.writeTimeChannelEn, sok]

@[simp] theorem laneOptOp_stores (p : Nat) (v : Nat) (s : State) (sok : StoresOk s) :
    StoresOk (laneOptOp p v s).1 := by
  simp (maxDischargeDepth := 100) [laneOptOp, sok]

@[simp] theorem State.islandOff_stores (s : State) (k : Nat) (sok : StoresOk s) :
    StoresOk (State.islandOff s k) := by
  simp +contextual (maxDischargeDepth := 100) [State.islandOff, sok]

@[simp] theorem State.islandState_stores (s : State) (k : Nat) (b : Bool) (sok : StoresOk s) :
    StoresOk (State.islandState s k b) := by
  simp (maxDischargeDepth := 100) [State.islandState, sok]

@[simp] theorem State.islandUp_stores (s : State) (k : Nat) (sok : StoresOk s) :
    StoresOk (State.islandUp s k) := by
  simp (maxDischargeDepth := 100) [State.islandUp, sok]

@[simp] theorem State.islandTokEnd_stores (s : State) (sok : StoresOk s) :
    StoresOk (State.islandTokEnd s) := by
  simp (maxDischargeDepth := 100) [State.islandTokEnd, sok]

@[simp] theorem sdIslandOp_stores (h0 : Nat) (v : Nat) (s : State) (sok : StoresOk s) :
    StoresOk (sdIslandOp h0 v s).1 := by
  simp +contextual (maxDischargeDepth := 100) [sdIslandOp, sok]

@[simp] theorem State.islandReadyOp_stores (s : State) (k : Nat) (sok : StoresOk s) :
    StoresOk (State.islandReadyOp s k) := by
  simp +contextual (maxDischargeDepth := 100) [State.islandReadyOp, sok]

@[simp] theorem State.writeTxEq_stores (s : State) (w : Who) (p : Nat) (v : Nat) (sok : StoresOk s) :
    StoresOk (State.writeTxEq s w p v) := by
  simp +contextual (maxDischargeDepth := 100) [State.writeTxEq, sok]

/-! ### Machine/Traffic.lean -/

@[simp] theorem grainSizeOp_stores (e : Nat) (v : Nat) (s : State) (sok : StoresOk s) :
    StoresOk (grainSizeOp e v s).1 := by
  simp (maxDischargeDepth := 100) [grainSizeOp, sok]

@[simp] theorem State.writeGrainSize_stores (s : State) (w : Who) (e : Nat) (v : Nat) (sok : StoresOk s) :
    StoresOk (State.writeGrainSize s w e v) := by
  simp +contextual (maxDischargeDepth := 100) [State.writeGrainSize, sok]

@[simp] theorem State.writeForceAis_stores (s : State) (w : Who) (a : Nat) (v : Nat) (sok : StoresOk s) :
    StoresOk (State.writeForceAis s w a v) := by
  simp +contextual (maxDischargeDepth := 100) [State.writeForceAis, sok]

@[simp] theorem State.coherentReturn_stores (s : State) (c : Nat) (sok : StoresOk s) :
    StoresOk (State.coherentReturn s c) := by
  simp (maxDischargeDepth := 100) [State.coherentReturn, sok]

@[simp] theorem State.recapture_stores (s : State) (c : Nat) (sok : StoresOk s) :
    StoresOk (State.recapture s c) := by
  simp +contextual (maxDischargeDepth := 100) [State.recapture, sok]

@[simp] theorem State.writeCtx_stores (s : State) (w : Who) (idx : Nat) (c : Nat) (v : Nat) (sok : StoresOk s) :
    StoresOk (State.writeCtx s w idx c v) := by
  simp +contextual (maxDischargeDepth := 100) [State.writeCtx, sok]

@[simp] theorem State.writeLineCtx_stores (s : State) (w : Who) (a : Nat) (v : Nat) (sok : StoresOk s) :
    StoresOk (State.writeLineCtx s w a v) := by
  simp +contextual (maxDischargeDepth := 100) [State.writeLineCtx, sok]

@[simp] theorem State.writeLineSq_stores (s : State) (w : Who) (a : Nat) (v : Nat) (sok : StoresOk s) :
    StoresOk (State.writeLineSq s w a v) := by
  simp +contextual (maxDischargeDepth := 100) [State.writeLineSq, sok]

@[simp] theorem State.writeDraftSrc_stores (s : State) (w : Who) (a : Nat) (v : Nat) (sok : StoresOk s) :
    StoresOk (State.writeDraftSrc s w a v) := by
  simp +contextual (maxDischargeDepth := 100) [State.writeDraftSrc, sok]

@[simp] theorem State.writeDraftRevert_stores (s : State) (w : Who) (v : Nat) (sok : StoresOk s) :
    StoresOk (State.writeDraftRevert s w v) := by
  simp +contextual (maxDischargeDepth := 100) [State.writeDraftRevert, sok]

@[simp] theorem State.writeCommitReq_stores (s : State) (w : Who) (v : Nat) (sok : StoresOk s) :
    StoresOk (State.writeCommitReq s w v) := by
  simp +contextual (maxDischargeDepth := 100) [State.writeCommitReq, sok]

@[simp] theorem State.writeLodeState_stores (s : State) (w : Who) (l : Nat) (v : Nat) (sok : StoresOk s) :
    StoresOk (State.writeLodeState s w l v) := by
  simp +contextual (maxDischargeDepth := 100) [State.writeLodeState, sok]

@[simp] theorem State.abortMap_stores (s : State) (w : Who) (sok : StoresOk s) :
    StoresOk (State.abortMap s w) := by
  simp (maxDischargeDepth := 100) [State.abortMap, sok]

/-! ### Machine/Protect.lean -/

@[simp] theorem State.sendBlocks_stores (s : State) (st : Nat) (r : List Block) (sok : StoresOk s) :
    StoresOk (State.sendBlocks s st r) := by
  simp only [State.sendBlocks]; (repeat' split) <;> simp (maxDischargeDepth := 100) [sok]

@[simp] theorem State.sendOn_stores (s : State) (st : Nat) (typ : Nat) (key : Nat) (body : List Nat) (sok :
    StoresOk s) :
    StoresOk (State.sendOn s st typ key body) := by
  simp (maxDischargeDepth := 100) [State.sendOn, sok]

@[simp] theorem State.sendRec_stores (s : State) (typ : Nat) (key : Nat) (body : List Nat) (sok : StoresOk s) :
    StoresOk (State.sendRec s typ key body) := by
  simp +contextual (maxDischargeDepth := 100) [State.sendRec, sok]

@[simp] theorem State.blockLock_stores (s : State) (st : Nat) (sok : StoresOk s) :
    StoresOk (State.blockLock s st) := by
  simp (maxDischargeDepth := 100) [State.blockLock, sok]

@[simp] theorem State.statusTimeout_stores (s : State) (st : Nat) (sok : StoresOk s) :
    StoresOk (State.statusTimeout s st) := by
  simp (maxDischargeDepth := 100) [State.statusTimeout, sok]

@[simp] theorem State.rxRecord_stores (s : State) (st : Nat) (l : List Block) (want : Nat) (f : State → State) (sok
    : StoresOk s) (hf : ∀ t, StoresOk t → StoresOk (f t)) :
    StoresOk (State.rxRecord s st l want f) := by
  simp (maxDischargeDepth := 100) [State.rxRecord, sok, hf]

@[simp] theorem State.streamStatus_stores (s : State) (st : Nat) (d : Nat) (sok : StoresOk s) :
    StoresOk (State.streamStatus s st d) := by
  simp (maxDischargeDepth := 100) [State.streamStatus, sok]

@[simp] theorem State.streamTiming_stores (s : State) (st : Nat) (l : List Block) (arrival : Nat) (sok : StoresOk
    s) :
    StoresOk (State.streamTiming s st l arrival) := by
  simp (maxDischargeDepth := 100) [State.streamTiming, sok]

@[simp] theorem State.setPref_stores (s : State) (pref : Nat) (tsn : Nat) (sok : StoresOk s) :
    StoresOk (State.setPref s pref tsn) := by
  simp (maxDischargeDepth := 100) [State.setPref, sok]

@[simp] theorem State.setPState_stores (s : State) (v : Nat) (sok : StoresOk s) :
    StoresOk (State.setPState s v) := by
  simp (maxDischargeDepth := 100) [State.setPState, sok]

@[simp] theorem State.verdictState_stores (s : State) (v : Nat) (sok : StoresOk s) :
    StoresOk (State.verdictState s v) := by
  simp (maxDischargeDepth := 100) [State.verdictState, sok]

@[simp] theorem State.untoldEnd_stores (s : State) (sok : StoresOk s) :
    StoresOk (State.untoldEnd s) := by
  simp only [State.untoldEnd]; (repeat' split) <;> simp (maxDischargeDepth := 100) [sok]

@[simp] theorem State.statusRx_stores (s : State) (st : Nat) (l : List Block) (arrival : Nat) (sok : StoresOk s) :
    StoresOk (State.statusRx s st l arrival) := by
  simp (maxDischargeDepth := 100) [State.statusRx, sok]

@[simp] theorem State.watchFrame_stores (s : State) (sok : StoresOk s) :
    StoresOk (State.watchFrame s) := by
  simp (maxDischargeDepth := 100) [State.watchFrame, sok]

@[simp] theorem State.statusFrame_stores (s : State) (sok : StoresOk s) :
    StoresOk (State.statusFrame s) := by
  simp +contextual (maxDischargeDepth := 100) [State.statusFrame, sok]

@[simp] theorem State.reach_stores (s : State) (st : Nat) (pref : Nat) (from_ : Nat) (ports : Nat) (host : Bool)
    (sok : StoresOk s) :
    StoresOk (State.reach s st pref from_ ports host) := by
  simp (maxDischargeDepth := 100) [State.reach, sok]

@[simp] theorem State.evaluate_stores (s : State) (place : Nat) (sok : StoresOk s) :
    StoresOk (State.evaluate s place) := by
  simp (maxDischargeDepth := 100) [State.evaluate, sok]

@[simp] theorem State.returnNormal_stores (s : State) (sok : StoresOk s) :
    StoresOk (State.returnNormal s) := by
  simp (maxDischargeDepth := 100) [State.returnNormal, sok]

@[simp] theorem State.verdictRx_stores (s : State) (st : Nat) (l : List Block) (sok : StoresOk s) :
    StoresOk (State.verdictRx s st l) := by
  simp (maxDischargeDepth := 100) [State.verdictRx, sok]

@[simp] theorem State.applyVerdict_stores (s : State) (v : Vrd) (sok : StoresOk s) :
    StoresOk (State.applyVerdict s v) := by
  simp (maxDischargeDepth := 100) [State.applyVerdict, sok]

@[simp] theorem State.prefRefresh_stores (s : State) (sok : StoresOk s) :
    StoresOk (State.prefRefresh s) := by
  simp +contextual (maxDischargeDepth := 100) [State.prefRefresh, sok]

@[simp] theorem State.verdictEffective_stores (s : State) (sok : StoresOk s) :
    StoresOk (State.verdictEffective s) := by
  simp only [State.verdictEffective]; (repeat' split) <;> simp (maxDischargeDepth := 100) [sok]

@[simp] theorem prefSetOp_stores (v : Nat) (s : State) (sok : StoresOk s) :
    StoresOk (prefSetOp v s).1 := by
  simp (maxDischargeDepth := 100) [prefSetOp, sok]

@[simp] theorem protRoleOp_stores (v : Nat) (s : State) (sok : StoresOk s) :
    StoresOk (protRoleOp v s).1 := by
  simp (maxDischargeDepth := 100) [protRoleOp, sok]

@[simp] theorem protConfigOp_stores (v : Nat) (s : State) (sok : StoresOk s) :
    StoresOk (protConfigOp v s).1 := by
  simp (maxDischargeDepth := 100) [protConfigOp, sok]

@[simp] theorem laneEnOp_stores (v : Nat) (s : State) (sok : StoresOk s) :
    StoresOk (laneEnOp v s).1 := by
  simp +contextual (maxDischargeDepth := 100) [laneEnOp, sok]

@[simp] theorem portFaultClearOp_stores (v : Nat) (s : State) (sok : StoresOk s) :
    StoresOk (portFaultClearOp v s).1 := by
  simp +contextual (maxDischargeDepth := 100) [portFaultClearOp, sok]

@[simp] theorem State.faultPort_stores (s : State) (p : Nat) (sok : StoresOk s) :
    StoresOk (State.faultPort s p) := by
  simp (maxDischargeDepth := 100) [State.faultPort, sok]

@[simp] theorem State.foldRec_stores (s : State) (kind : Nat) (port : Nat) (t : Nat) (crc : Nat) (n : Nat) (sok :
    StoresOk s) :
    StoresOk (State.foldRec s kind port t crc n) := by
  simp (maxDischargeDepth := 100) [State.foldRec, sok]

@[simp] theorem State.foldPair_stores (s : State) (kind : Nat) (e : Nat) (t : Nat) (crc : Nat) (sok : StoresOk s) :
    StoresOk (State.foldPair s kind e t crc) := by
  simp (maxDischargeDepth := 100) [State.foldPair, sok]

@[simp] theorem State.tapIn_stores (s : State) (a : Nat) (u : SUnit) (sok : StoresOk s) :
    StoresOk (State.tapIn s a u) := by
  simp only [State.tapIn]; (repeat' split) <;> simp +contextual (maxDischargeDepth := 100) [sok]

@[simp] theorem State.tapOut_stores (s : State) (e : Nat) (src : Nat) (u : SUnit) (sok : StoresOk s) :
    StoresOk (State.tapOut s e src u) := by
  simp only [State.tapOut]; split <;> simp (maxDischargeDepth := 100) [sok]

@[simp] theorem State.strays_stores (s : State) (sok : StoresOk s) :
    StoresOk (State.strays s) := by
  simp (maxDischargeDepth := 100) [State.strays, sok]

@[simp] theorem State.runStep_stores (s : State) (kind : Nat) (place : Nat) (port : Nat) (t : Nat) (bad : Bool)
    (sok : StoresOk s) :
    StoresOk (State.runStep s kind place port t bad) := by
  simp (maxDischargeDepth := 100) [State.runStep, sok]

@[simp] theorem State.recheckPref_stores (s : State) (sok : StoresOk s) :
    StoresOk (State.recheckPref s) := by
  simp only [State.recheckPref]; split <;> simp (maxDischargeDepth := 100) [sok]

@[simp] theorem State.compared_stores (s : State) (kind : Nat) (place : Nat) (port : Nat) (t : Nat) (bad : Bool)
    (sok : StoresOk s) :
    StoresOk (State.compared s kind place port t bad) := by
  simp (maxDischargeDepth := 100) [State.compared, sok]

@[simp] theorem State.compareAt_stores (s : State) (kind : Nat) (place : Nat) (port : Nat) (t : Nat) (sok :
    StoresOk s) :
    StoresOk (State.compareAt s kind place port t) := by
  simp only [State.compareAt]; (repeat' split) <;> simp (maxDischargeDepth := 100) [sok]

@[simp] theorem State.selfFails_stores (s : State) (e : Nat) (sok : StoresOk s) :
    StoresOk (State.selfFails s e) := by
  simp (maxDischargeDepth := 100) [State.selfFails, sok]

@[simp] theorem State.selfCheck_stores (s : State) (e : Nat) (t : Nat) (bad : Bool) (sok : StoresOk s) :
    StoresOk (State.selfCheck s e t bad) := by
  simp (maxDischargeDepth := 100) [State.selfCheck, sok]

@[simp] theorem State.closePair_stores (s : State) (e : Nat) (t : Nat) (sok : StoresOk s) :
    StoresOk (State.closePair s e t) := by
  simp only [State.closePair]; split <;> simp (maxDischargeDepth := 100) [sok]

@[simp] theorem State.closed_stores (s : State) (r : DRec) (sok : StoresOk s) :
    StoresOk (State.closed s r) := by
  simp (maxDischargeDepth := 100) [State.closed, sok]

@[simp] theorem State.digestFrame_stores (s : State) (sok : StoresOk s) :
    StoresOk (State.digestFrame s) := by
  simp +contextual (maxDischargeDepth := 100) [State.digestFrame, sok]

@[simp] theorem State.recordAged_stores (s : State) (kind : Nat) (port : Nat) (t : Nat) (sok : StoresOk s) :
    StoresOk (State.recordAged s kind port t) := by
  simp only [State.recordAged]; split <;> simp (maxDischargeDepth := 100) [sok]

@[simp] theorem State.recordUnmatched_stores (s : State) (kind : Nat) (port : Nat) (t : Nat) (sok : StoresOk s) :
    StoresOk (State.recordUnmatched s kind port t) := by
  simp (maxDischargeDepth := 100) [State.recordUnmatched, sok]

@[simp] theorem State.peerRec_stores (s : State) (st : Nat) (kind : Nat) (l : List Block) (sok : StoresOk s) :
    StoresOk (State.peerRec s st kind l) := by
  simp (maxDischargeDepth := 100) [State.peerRec, sok]

@[simp] theorem State.noticeSeen_stores (s : State) (value : Nat) (dig : Nat) (sok : StoresOk s) :
    StoresOk (State.noticeSeen s value dig) := by
  simp (maxDischargeDepth := 100) [State.noticeSeen, sok]

@[simp] theorem State.sendNotice_stores (s : State) (kind : Nat) (value : Nat) (dig : Nat) (epoch : Nat) (sok :
    StoresOk s) :
    StoresOk (State.sendNotice s kind value dig epoch) := by
  simp (maxDischargeDepth := 100) [State.sendNotice, sok]

@[simp] theorem State.mapDigestReady_stores (s : State) (sok : StoresOk s) :
    StoresOk (State.mapDigestReady s) := by
  simp (maxDischargeDepth := 100) [State.mapDigestReady, sok]

@[simp] theorem State.solveComplete_stores (s : State) (sok : StoresOk s) :
    StoresOk (State.solveComplete s) := by
  simp (maxDischargeDepth := 100) [State.solveComplete, sok]

@[simp] theorem State.noticeRx_stores (s : State) (st : Nat) (l : List Block) (sok : StoresOk s) :
    StoresOk (State.noticeRx s st l) := by
  simp (maxDischargeDepth := 100) [State.noticeRx, sok]

@[simp] theorem State.serviceEntry_stores (s : State) (sok : StoresOk s) :
    StoresOk (State.serviceEntry s) := by
  simp only [State.serviceEntry]; (repeat' split) <;> simp (maxDischargeDepth := 100) [sok]

@[simp] theorem State.writeProtRole_stores (s : State) (w : Who) (v : Nat) (sok : StoresOk s) :
    StoresOk (State.writeProtRole s w v) := by
  simp +contextual (maxDischargeDepth := 100) [State.writeProtRole, sok]

@[simp] theorem State.writePrefSet_stores (s : State) (w : Who) (v : Nat) (sok : StoresOk s) :
    StoresOk (State.writePrefSet s w v) := by
  simp +contextual (maxDischargeDepth := 100) [State.writePrefSet, sok]

@[simp] theorem State.writePortFaultClear_stores (s : State) (w : Who) (v : Nat) (sok : StoresOk s) :
    StoresOk (State.writePortFaultClear s w v) := by
  simp +contextual (maxDischargeDepth := 100) [State.writePortFaultClear, sok]

/-! ### Machine/Assayer.lean -/

@[simp] theorem State.testStart_stores (s : State) (g : Nat) (sok : StoresOk s) :
    StoresOk (State.testStart s g) := by
  simp only [State.testStart]; (repeat' split) <;> simp (maxDischargeDepth := 100) [sok]

@[simp] theorem State.testNext_stores (s : State) (g : Nat) (t : TestT) (sok : StoresOk s) :
    StoresOk (State.testNext s g t) := by
  simp (maxDischargeDepth := 100) [State.testNext, sok]

@[simp] theorem State.assayPort_stores (s : State) (p : Nat) (cause : Nat) (sok : StoresOk s) :
    StoresOk (State.assayPort s p cause) := by
  simp (maxDischargeDepth := 100) [State.assayPort, sok]

@[simp] theorem State.sramExclude_stores (s : State) (unit : Nat) (sok : StoresOk s) :
    StoresOk (State.sramExclude s unit).1 := by
  simp (maxDischargeDepth := 100) [State.sramExclude, sok]

@[simp] theorem State.ddrRepair_stores (s : State) (beat : Nat) (bad : Bool) (sok : StoresOk s) :
    StoresOk (State.ddrRepair s beat bad).1 := by
  simp (maxDischargeDepth := 100) [State.ddrRepair, sok]

@[simp] theorem State.repairOf_stores (s : State) (t : TestT) (wide : Bool) (sok : StoresOk s) :
    StoresOk (State.repairOf s t wide).1 := by
  simp only [State.repairOf]; split <;> simp (maxDischargeDepth := 100) [sok]

@[simp] theorem State.remember_stores (s : State) (res : Nat) (sok : StoresOk s) :
    StoresOk (State.remember s res) := by
  simp (maxDischargeDepth := 100) [State.remember, sok]

@[simp] theorem State.hostDone_stores (s : State) (t : TestT) (failed : Bool) (sok : StoresOk s) :
    StoresOk (State.hostDone s t failed) := by
  simp (maxDischargeDepth := 100) [State.hostDone, sok]

@[simp] theorem State.lastingFault_stores (s : State) (t : TestT) (wide : Bool) (suspect : Bool) (sok : StoresOk s)
    :
    StoresOk (State.lastingFault s t wide suspect) := by
  simp (maxDischargeDepth := 100) [State.lastingFault, sok]

@[simp] theorem State.classify_stores (s : State) (g : Nat) (t : TestT) (failed : Bool) (wide : Bool) (rewritten :
    Bool) (sok : StoresOk s) :
    StoresOk (State.classify s g t failed wide rewritten) := by
  simp (maxDischargeDepth := 100) [State.classify, sok]

@[simp] theorem State.pathDone_stores (s : State) (sok : StoresOk s) :
    StoresOk (State.pathDone s) := by
  simp only [State.pathDone]; split <;> simp (maxDischargeDepth := 100) [sok]

@[simp] theorem State.entHit_stores (s : State) (x : EntIn) (sok : StoresOk s) :
    StoresOk (State.entHit s x) := by
  simp (maxDischargeDepth := 100) [State.entHit, sok]

@[simp] theorem State.auditRecheck_stores (s : State) (hits : List EntIn) (sok : StoresOk s) :
    StoresOk (State.auditRecheck s hits) := by
  simp only [State.auditRecheck]; (repeat' split) <;> simp +contextual (maxDischargeDepth := 100) [sok]

@[simp] theorem State.wordTested_stores (s : State) (b : Nat) (w : Nat) (sok : StoresOk s) :
    StoresOk (State.wordTested s b w) := by
  simp (maxDischargeDepth := 100) [State.wordTested, sok]

@[simp] theorem State.bankTest_stores (s : State) (b : Nat) (w : Nat) (masks : List (Nat × Nat)) (sok : StoresOk s)
    :
    StoresOk (State.bankTest s b w masks).1 := by
  simp +contextual (maxDischargeDepth := 100) [State.bankTest, sok]

@[simp] theorem State.testComplete_stores (s : State) (g : Nat) (pass : Bool) (masks : List (Nat × Nat)) (sok :
    StoresOk s) :
    StoresOk (State.testComplete s g pass masks) := by
  simp only [State.testComplete]; split <;> simp (maxDischargeDepth := 100) [sok]

@[simp] theorem State.bankPass_stores (s : State) (sok : StoresOk s) :
    StoresOk (State.bankPass s) := by
  simp (maxDischargeDepth := 100) [State.bankPass, sok]

@[simp] theorem State.bankWordTest_stores (s : State) (b : Nat) (w : Nat) (bad : Nat) (sok : StoresOk s) :
    StoresOk (State.bankWordTest s b w bad) := by
  simp (maxDischargeDepth := 100) [State.bankWordTest, sok]

@[simp] theorem State.sramErr_stores (s : State) (unit : Nat) (bad : Bool) (sok : StoresOk s) :
    StoresOk (State.sramErr s unit bad) := by
  simp (maxDischargeDepth := 100) [State.sramErr, sok]

@[simp] theorem State.sramUnit_stores (s : State) (u : Nat) (f : Nat) (sok : StoresOk s) :
    StoresOk (State.sramUnit s u f).1 := by
  simp (maxDischargeDepth := 100) [State.sramUnit, sok]

@[simp] theorem State.sramRead_stores (s : State) (o : Nat) (n : Nat) (f : Nat) (sok : StoresOk s) :
    StoresOk (State.sramRead s o n f).1 := by
  simp +contextual (maxDischargeDepth := 100) [State.sramRead, sok]

@[simp] theorem State.sramWrite_stores (s : State) (o : Nat) (d : List (Byte × Bool)) (sok : StoresOk s) :
    StoresOk (State.sramWrite s o d) := by
  simp +contextual (maxDischargeDepth := 100) [State.sramWrite, sok]

@[simp] theorem State.sramPatrol_stores (s : State) (f : Nat) (sok : StoresOk s) :
    StoresOk (State.sramPatrol s f) := by
  simp (maxDischargeDepth := 100) [State.sramPatrol, sok]

@[simp] theorem testReqOp_stores (h0 : Nat) (v : Nat) (s : State) (sok : StoresOk s) :
    StoresOk (testReqOp h0 v s).1 := by
  simp (maxDischargeDepth := 100) [testReqOp, sok]

@[simp] theorem State.writeTestReq_stores (s : State) (w : Who) (v : Nat) (sok : StoresOk s) :
    StoresOk (State.writeTestReq s w v) := by
  simp +contextual (maxDischargeDepth := 100) [State.writeTestReq, sok]

@[simp] theorem State.assayLogRead_stores (s : State) (w : Who) (first : Nat) (count : Nat) (sok : StoresOk s) :
    StoresOk (State.assayLogRead s w first count) := by
  simp (maxDischargeDepth := 100) [State.assayLogRead, sok]

/-! ### Machine/Ledger.lean -/

@[simp] theorem State.cutStart_stores (s : State) (h0 : Nat) (sok : StoresOk s) :
    StoresOk (State.cutStart s h0) := by
  simp (maxDischargeDepth := 100) [State.cutStart, sok]

@[simp] theorem State.cutAuto_stores (s : State) (sok : StoresOk s) :
    StoresOk (State.cutAuto s) := by
  simp (maxDischargeDepth := 100) [State.cutAuto, sok]

@[simp] theorem State.cutCapture_stores (s : State) (sok : StoresOk s) :
    StoresOk (State.cutCapture s) := by
  simp (maxDischargeDepth := 100) [State.cutCapture, sok]

@[simp] theorem State.ledgerFrame_stores (s : State) (sok : StoresOk s) :
    StoresOk (State.ledgerFrame s) := by
  simp (maxDischargeDepth := 100) [State.ledgerFrame, sok]

@[simp] theorem State.periodicCut_stores (s : State) (sok : StoresOk s) :
    StoresOk (State.periodicCut s) := by
  simp (maxDischargeDepth := 100) [State.periodicCut, sok]

@[simp] theorem State.spareQueue_stores (s : State) (idx : Nat) (sub : Nat) (bulk : Bool) (v : List Byte) (sok :
    StoresOk s) :
    StoresOk (State.spareQueue s idx sub bulk v) := by
  simp (maxDischargeDepth := 100) [State.spareQueue, sok]

@[simp] theorem State.spareSend_stores (s : State) (h0 : Hdp) (sok : StoresOk s) :
    StoresOk (State.spareSend s h0) := by
  simp (maxDischargeDepth := 100) [State.spareSend, sok]

@[simp] theorem State.spareFlush_stores (s : State) (sok : StoresOk s) :
    StoresOk (State.spareFlush s) := by
  unfold State.spareFlush; refine foldRange_stores _ _ _ sok fun a x ha => ?_; (repeat' split) <;> simp
    (maxDischargeDepth := 100) [ha]

@[simp] theorem State.exportOut_stores (s : State) (g : List Byte) (sok : StoresOk s) :
    StoresOk (State.exportOut s g) := by
  simp +contextual (maxDischargeDepth := 100) [State.exportOut, sok]

@[simp] theorem State.exportDrop_stores (s : State) (sok : StoresOk s) :
    StoresOk (State.exportDrop s) := by
  simp (maxDischargeDepth := 100) [State.exportDrop, sok]

@[simp] theorem State.exportFail_stores (s : State) (sok : StoresOk s) :
    StoresOk (State.exportFail s) := by
  simp (maxDischargeDepth := 100) [State.exportFail, sok]

@[simp] theorem State.generationSealed_stores (s : State) (sok : StoresOk s) :
    StoresOk (State.generationSealed s) := by
  simp (maxDischargeDepth := 100) [State.generationSealed, sok]

@[simp] theorem State.spareSealCheck_stores (s : State) (g0 : Nat) (g1 : Nat) (sok : StoresOk s) :
    StoresOk (State.spareSealCheck s g0 g1) := by
  simp (maxDischargeDepth := 100) [State.spareSealCheck, sok]

@[simp] theorem State.exportTimeout_stores (s : State) (sok : StoresOk s) :
    StoresOk (State.exportTimeout s) := by
  simp (maxDischargeDepth := 100) [State.exportTimeout, sok]

@[simp] theorem State.cutForGap_stores (s : State) (sok : StoresOk s) :
    StoresOk (State.cutForGap s) := by
  simp (maxDischargeDepth := 100) [State.cutForGap, sok]

@[simp] theorem State.spareAnswer_stores (s : State) (h0 : Hdp) (sok : StoresOk s) :
    StoresOk (State.spareAnswer s h0) := by
  simp (maxDischargeDepth := 100) [State.spareAnswer, sok]

@[simp] theorem State.journalSend_stores (s : State) (sok : StoresOk s) :
    StoresOk (State.journalSend s) := by
  simp +contextual (maxDischargeDepth := 100) [State.journalSend, sok]

@[simp] theorem State.flashDo_stores (s : State) (u : FUnit) (sok : StoresOk s) :
    StoresOk (State.flashDo s u) := by
  simp only [State.flashDo]; split_ifs <;> simp (maxDischargeDepth := 100) [sok]

@[simp] theorem State.flashStep_stores (s : State) (sok : StoresOk s) :
    StoresOk (State.flashStep s) := by
  simp only [State.flashStep]; split <;> simp (maxDischargeDepth := 100) [sok]

@[simp] theorem State.flashDrain_stores (s : State) (who : FUnit → Bool) (sok : StoresOk s) :
    StoresOk (State.flashDrain s who) := by
  simp +contextual (maxDischargeDepth := 100) [State.flashDrain, sok]

@[simp] theorem State.flashFails_stores (s : State) (sok : StoresOk s) :
    StoresOk (State.flashFails s) := by
  simp (maxDischargeDepth := 100) [State.flashFails, sok]

@[simp] theorem State.flashFrame_stores (s : State) (sok : StoresOk s) :
    StoresOk (State.flashFrame s) := by
  simp +contextual (maxDischargeDepth := 100) [State.flashFrame, sok]

@[simp] theorem State.flashQueue_stores (s : State) (l : List FUnit) (sok : StoresOk s) :
    StoresOk (State.flashQueue s l) := by
  simp (maxDischargeDepth := 100) [State.flashQueue, sok]

@[simp] theorem rxSegmentOp_stores (k : Nat) (d : List Byte) (s : State) (sok : StoresOk s) :
    StoresOk (rxSegmentOp k d s).1 := by
  simp (maxDischargeDepth := 100) [rxSegmentOp, sok]

@[simp] theorem rxSealOp_stores (d : List Byte) (s : State) (sok : StoresOk s) :
    StoresOk (rxSealOp d s).1 := by
  simp (maxDischargeDepth := 100) [rxSealOp, sok]

@[simp] theorem State.journalIn_stores (s : State) (x : Nat × Nat × List Byte) (sok : StoresOk s) :
    StoresOk (State.journalIn s x).1 := by
  simp (maxDischargeDepth := 100) [State.journalIn, sok]

@[simp] theorem journalRxOp_stores (d : List Byte) (s : State) (sok : StoresOk s) :
    StoresOk (journalRxOp d s).1 := by
  simp only [journalRxOp]; (repeat' split) <;> simp +contextual (maxDischargeDepth := 100) [sok]

@[simp] theorem State.slotsAfterReset_stores (s : State) (sok : StoresOk s) :
    StoresOk (State.slotsAfterReset s) := by
  simp +contextual (maxDischargeDepth := 100) [State.slotsAfterReset, sok]

@[simp] theorem State.writeRxSegment_stores (s : State) (w : Who) (k : Nat) (d : List Byte) (sok : StoresOk s) :
    StoresOk (State.writeRxSegment s w k d) := by
  simp +contextual (maxDischargeDepth := 100) [State.writeRxSegment, sok]

@[simp] theorem State.writeRxSeal_stores (s : State) (w : Who) (d : List Byte) (sok : StoresOk s) :
    StoresOk (State.writeRxSeal s w d) := by
  simp +contextual (maxDischargeDepth := 100) [State.writeRxSeal, sok]

@[simp] theorem State.writeJournalRx_stores (s : State) (w : Who) (d : List Byte) (sok : StoresOk s) :
    StoresOk (State.writeJournalRx s w d) := by
  simp +contextual (maxDischargeDepth := 100) [State.writeJournalRx, sok]

/-! ### Machine/Fabric.lean -/

@[simp] theorem State.genArrive_stores (s : State) (a : Nat) (t : Nat) (n : Nat) (off : Bool) (sok : StoresOk s) :
    StoresOk (State.genArrive s a t n off) := by
  simp only [State.genArrive]; split <;> simp (maxDischargeDepth := 100) [sok]

@[simp] theorem State.genStraddle_stores (s : State) (a : Nat) (ver : Nat) (n : Nat) (n0 : Nat) (sok : StoresOk s) :
    StoresOk (State.genStraddle s a ver n n0) := by
  simp (maxDischargeDepth := 100) [State.genStraddle, sok]

@[simp] theorem State.njoOut_stores (s : State) (a : Nat) (ver : Nat) (sok : StoresOk s) :
    StoresOk (State.njoOut s a ver) := by
  simp (maxDischargeDepth := 100) [State.njoOut, sok]

@[simp] theorem State.genOff_stores (s : State) (a : Nat) (n : Nat) (ver : Nat) (sok : StoresOk s) :
    StoresOk (State.genOff s a n ver) := by
  simp (maxDischargeDepth := 100) [State.genOff, sok]

@[simp] theorem State.genRound_stores (s : State) (n : Nat) (a : Nat) (sok : StoresOk s) :
    StoresOk (State.genRound s n a) := by
  simp only [State.genRound]; (repeat' split) <;> simp (maxDischargeDepth := 100) [sok]

@[simp] theorem State.genBoundary_stores (s : State) (a : Nat) (code : Nat) (sok : StoresOk s) :
    StoresOk (State.genBoundary s a code) := by
  simp (maxDischargeDepth := 100) [State.genBoundary, sok]

@[simp] theorem State.sendRound_stores (s : State) (n : Nat) (p : Nat) (sok : StoresOk s) :
    StoresOk (State.sendRound s n p) := by
  simp (maxDischargeDepth := 100) [State.sendRound, sok]

@[simp] theorem State.resizedSlots_stores (s : State) (n : Nat) (sok : StoresOk s) :
    StoresOk (State.resizedSlots s n) := by
  simp +contextual (maxDischargeDepth := 100) [State.resizedSlots, sok]

@[simp] theorem State.resizeOut_stores (s : State) (m : Nat) (sok : StoresOk s) :
    StoresOk (State.resizeOut s m) := by
  simp +contextual (maxDischargeDepth := 100) [State.resizeOut, sok]

@[simp] theorem State.newMaps_stores (s : State) (n : Nat) (sok : StoresOk s) :
    StoresOk (State.newMaps s n) := by
  simp only [State.newMaps]; (repeat' split) <;> simp +contextual (maxDischargeDepth := 100) [sok]

@[simp] theorem State.onceFrame_stores (s : State) (kind : Nat) (res : Nat) (f : State → State) (sok : StoresOk s)
    (hf : ∀ t, StoresOk t → StoresOk (f t)) :
    StoresOk (State.onceFrame s kind res f) := by
  simp (maxDischargeDepth := 100) [State.onceFrame, sok, hf]

@[simp] theorem State.parityFail_stores (s : State) (x : XPt) (sok : StoresOk s) :
    StoresOk (State.parityFail s x) := by
  simp +contextual (maxDischargeDepth := 100) [State.parityFail, sok]

@[simp] theorem State.testFail_stores (s : State) (x : XPt) (sok : StoresOk s) :
    StoresOk (State.testFail s x) := by
  simp +contextual (maxDischargeDepth := 100) [State.testFail, sok]

@[simp] theorem State.etsCheck_stores (s : State) (n : Nat) (e : Nat) (k : Nat) (sel : Option Nat) (c : Cell) (sok
    : StoresOk s) :
    StoresOk (State.etsCheck s n e k sel c) := by
  simp only [State.etsCheck]; split <;> simp (maxDischargeDepth := 100) [sok]

@[simp] theorem State.entUse_stores (s : State) (sok : StoresOk s) :
    StoresOk (State.entUse s) := by
  simp +contextual (maxDischargeDepth := 100) [State.entUse, sok]

@[simp] theorem State.auditRound_stores (s : State) (sok : StoresOk s) :
    StoresOk (State.auditRound s) := by
  simp only [State.auditRound]; split <;> simp (maxDischargeDepth := 100) [sok]

@[simp] theorem State.bankFail_stores (s : State) (x : Nat × Nat × Nat) (sok : StoresOk s) :
    StoresOk (State.bankFail s x) := by
  simp (maxDischargeDepth := 100) [State.bankFail, sok]

@[simp] theorem State.misroute_stores (s : State) (x : Nat × Nat × Nat) (sok : StoresOk s) :
    StoresOk (State.misroute s x) := by
  simp (maxDischargeDepth := 100) [State.misroute, sok]

@[simp] theorem State.roundFaults_stores (s : State) (io : RoundIn) (sok : StoresOk s) :
    StoresOk (State.roundFaults s io) := by
  simp +contextual (maxDischargeDepth := 100) [State.roundFaults, sok]

@[simp] theorem State.grainRound_stores (s : State) (cells : SMap Cell) (n : Nat) (a : Nat) (k : Nat) (sok :
    StoresOk s) :
    StoresOk (State.grainRound s cells n a k).1 := by
  simp only [State.grainRound]; (repeat' split) <;> simp +contextual (maxDischargeDepth := 100) [sok]

@[simp] theorem State.itsWrite_stores (s : State) (io : RoundIn) (n : Nat) (sok : StoresOk s) :
    StoresOk (State.itsWrite s io n).1 := by
  simp +contextual (maxDischargeDepth := 100) [State.itsWrite, sok]

@[simp] theorem State.countSlots_stores (s : State) (n : Nat) (ets : SMap Cell) (sok : StoresOk s) :
    StoresOk (State.countSlots s n ets) := by
  unfold State.countSlots
  split
  · exact sok
  · extract_lets old read cl tot sum r
    have k : StoresOk r.1 := foldRange_fst_stores _ _ _ sok fun a x ha => by
      dsimp only
      split_ifs <;> simp [ha]
    refine foldl_stores _ _ _ k fun a x ha => ?_
    split_ifs <;> simp [ha]

@[simp] theorem State.thresholds_stores (s : State) (old : State) (sok : StoresOk s) :
    StoresOk (State.thresholds s old) := by
  simp +contextual (maxDischargeDepth := 100) [State.thresholds, sok]

@[simp] theorem State.tagWord_stores (s : State) (cells : SMap Cell) (n : Nat) (c : Nat) (a : Nat) (sok : StoresOk
    s) :
    StoresOk (State.tagWord s cells n c a) := by
  simp (maxDischargeDepth := 100) [State.tagWord, sok]

@[simp] theorem State.tagRound_stores (s : State) (cells : SMap Cell) (n : Nat) (sok : StoresOk s) :
    StoresOk (State.tagRound s cells n) := by
  simp +contextual (maxDischargeDepth := 100) [State.tagRound, sok]

@[simp] theorem State.tracePut_stores (s : State) (i : Nat) (r : List Byte) (sok : StoresOk s) :
    StoresOk (State.tracePut s i r).1 := by
  simp only [State.tracePut]; (repeat' split) <;> simp +contextual (maxDischargeDepth := 100) [sok]

@[simp] theorem State.traceAppend_stores (s : State) (r : List Byte) (sok : StoresOk s) :
    StoresOk (State.traceAppend s r) := by
  simp (maxDischargeDepth := 100) [State.traceAppend, sok]

@[simp] theorem State.traceWrite_stores (s : State) (n : Nat) (sok : StoresOk s) :
    StoresOk (State.traceWrite s n) := by
  unfold State.traceWrite; refine foldRange_stores _ _ _ sok fun a x ha => ?_; (repeat' split) <;> simp
    (maxDischargeDepth := 100) [ha]

@[simp] theorem State.traceRound_stores (s : State) (sok : StoresOk s) :
    StoresOk (State.traceRound s) := by
  simp (maxDischargeDepth := 100) [State.traceRound, sok]

@[simp] theorem State.dataAccesses_stores (s : State) (sok : StoresOk s) :
    StoresOk (State.dataAccesses s) := by
  simp (maxDischargeDepth := 100) [State.dataAccesses, sok]

@[simp] theorem State.roundHead_stores (s : State) (io : RoundIn) (n : Nat) (sok : StoresOk s) :
    StoresOk (State.roundHead s io n) := by
  simp +contextual (maxDischargeDepth := 100) [State.roundHead, sok]

@[simp] theorem State.etsChecks_stores (s : State) (n : Nat) (ets : SMap Cell) (sok : StoresOk s) :
    StoresOk (State.etsChecks s n ets) := by
  simp +contextual (maxDischargeDepth := 100) [State.etsChecks, sok]

@[simp] theorem State.putBuffers_stores (s : State) (its : SMap Cell) (ets : SMap Cell) (sok : StoresOk s) :
    StoresOk (State.putBuffers s its ets) := by
  simp (maxDischargeDepth := 100) [State.putBuffers, sok]

@[simp] theorem State.fabricRound_stores (s : State) (io : RoundIn) (n : Nat) (sok : StoresOk s) :
    StoresOk (State.fabricRound s io n) := by
  simp +contextual (maxDischargeDepth := 100) [State.fabricRound, sok]

@[simp] theorem State.roundStart_stores (s : State) (io : RoundIn) (sok : StoresOk s) :
    StoresOk (State.roundStart s io) := by
  simp (maxDischargeDepth := 100) [State.roundStart, sok]

/-! ### Machine/Tally.lean -/

@[simp] theorem presetOp_stores (i : Nat) (v : Nat) (s : State) (sok : StoresOk s) :
    StoresOk (presetOp i v s).1 := by
  simp (maxDischargeDepth := 100) [presetOp, sok]

@[simp] theorem tagOp_stores (idx : Nat) (v : Nat) (s : State) (sok : StoresOk s) :
    StoresOk (tagOp idx v s).1 := by
  simp (maxDischargeDepth := 100) [tagOp, sok]

@[simp] theorem traceStartOp_stores (h0 : Nat) (wrap : Bool) (s : State) (sok : StoresOk s) :
    StoresOk (traceStartOp h0 wrap s).1 := by
  simp (maxDischargeDepth := 100) [traceStartOp, sok]

@[simp] theorem traceStopOp_stores (s : State) (sok : StoresOk s) :
    StoresOk (traceStopOp s).1 := by
  simp (maxDischargeDepth := 100) [traceStopOp, sok]

@[simp] theorem traceCtrlOp_stores (h0 : Nat) (v : Nat) (s : State) (sok : StoresOk s) :
    StoresOk (traceCtrlOp h0 v s).1 := by
  simp (maxDischargeDepth := 100) [traceCtrlOp, sok]

@[simp] theorem traceDestOp_stores (v : Nat) (s : State) (sok : StoresOk s) :
    StoresOk (traceDestOp v s).1 := by
  simp (maxDischargeDepth := 100) [traceDestOp, sok]

@[simp] theorem State.traceRecord_stores (s : State) (tag : Nat) (dRx : Nat) (dSps : Nat) (dEts : Nat) (dSer : Nat)
    (sok : StoresOk s) :
    StoresOk (State.traceRecord s tag dRx dSps dEts dSer) := by
  simp only [State.traceRecord]; split <;> simp (maxDischargeDepth := 100) [sok]

@[simp] theorem State.traceRead_stores (s : State) (i : Nat) (sok : StoresOk s) :
    StoresOk (State.traceRead s i).1 := by
  simp only [State.traceRead]; (repeat' split) <;> simp +contextual (maxDischargeDepth := 100) [sok]

@[simp] theorem State.countRead_stores (s : State) (i : Nat) (sok : StoresOk s) :
    StoresOk (State.countRead s i).1 := by
  simp (maxDischargeDepth := 100) [State.countRead, sok]

@[simp] theorem State.countRange_stores (s : State) (t : Tgt) (k : Nat) (n : Nat) (sok : StoresOk s) :
    StoresOk (State.countRange s t k n).1 := by
  simp (maxDischargeDepth := 100) [State.countRange, sok]

@[simp] theorem State.samplesRead_stores (s : State) (w : Who) (first : Nat) (count : Nat) (sok : StoresOk s) :
    StoresOk (State.samplesRead s w first count) := by
  simp (maxDischargeDepth := 100) [State.samplesRead, sok]

@[simp] theorem State.writePreset_stores (s : State) (w : Who) (i : Nat) (v : Nat) (sok : StoresOk s) :
    StoresOk (State.writePreset s w i v) := by
  simp +contextual (maxDischargeDepth := 100) [State.writePreset, sok]

@[simp] theorem State.writeTag_stores (s : State) (w : Who) (idx : Nat) (v : Nat) (sok : StoresOk s) :
    StoresOk (State.writeTag s w idx v) := by
  simp +contextual (maxDischargeDepth := 100) [State.writeTag, sok]

@[simp] theorem State.writeTraceCtrl_stores (s : State) (w : Who) (v : Nat) (sok : StoresOk s) :
    StoresOk (State.writeTraceCtrl s w v) := by
  simp +contextual (maxDischargeDepth := 100) [State.writeTraceCtrl, sok]

@[simp] theorem State.writeTallyObj_stores (s : State) (w : Who) (idx : Nat) (e : Nat) (v : Nat) (sok : StoresOk s)
    :
    StoresOk (State.writeTallyObj s w idx e v) := by
  simp +contextual (maxDischargeDepth := 100) [State.writeTallyObj, sok]

/-! ### Machine/Ref.lean -/

@[simp] theorem State.refTime_stores (s : State) (i : Nat) (t : Int) (sok : StoresOk s) :
    StoresOk (State.refTime s i t) := by
  simp (maxDischargeDepth := 100) [State.refTime, sok]

@[simp] theorem State.frameDiffs_stores (s : State) (sok : StoresOk s) :
    StoresOk (State.frameDiffs s) := by
  simp (maxDischargeDepth := 100) [State.frameDiffs, sok]

@[simp] theorem State.setInState_stores (s : State) (i : Nat) (st : Nat) (sok : StoresOk s) :
    StoresOk (State.setInState s i st) := by
  simp (maxDischargeDepth := 100) [State.setInState, sok]

@[simp] theorem State.loopCheck_stores (s : State) (i : Nat) (sok : StoresOk s) :
    StoresOk (State.loopCheck s i) := by
  simp (maxDischargeDepth := 100) [State.loopCheck, sok]

@[simp] theorem State.judgeInput_stores (s : State) (i : Nat) (sok : StoresOk s) :
    StoresOk (State.judgeInput s i) := by
  simp (maxDischargeDepth := 100) [State.judgeInput, sok]

@[simp] theorem State.offsetMeasure_stores (s : State) (i : Nat) (y : Int) (sok : StoresOk s) :
    StoresOk (State.offsetMeasure s i y) := by
  simp +contextual (maxDischargeDepth := 100) [State.offsetMeasure, sok]

@[simp] theorem refEnableOp_stores (v : Nat) (s : State) (sok : StoresOk s) :
    StoresOk (refEnableOp v s).1 := by
  simp +contextual (maxDischargeDepth := 100) [refEnableOp, sok]

@[simp] theorem State.inputLoss_stores (s : State) (i : Nat) (sok : StoresOk s) :
    StoresOk (State.inputLoss s i) := by
  simp (maxDischargeDepth := 100) [State.inputLoss, sok]

@[simp] theorem State.inputBack_stores (s : State) (i : Nat) (sok : StoresOk s) :
    StoresOk (State.inputBack s i) := by
  simp (maxDischargeDepth := 100) [State.inputBack, sok]

@[simp] theorem State.qualExpiry_stores (s : State) (i : Nat) (sok : StoresOk s) :
    StoresOk (State.qualExpiry s i) := by
  simp (maxDischargeDepth := 100) [State.qualExpiry, sok]

@[simp] theorem State.wtrExpiry_stores (s : State) (i : Nat) (sok : StoresOk s) :
    StoresOk (State.wtrExpiry s i) := by
  simp (maxDischargeDepth := 100) [State.wtrExpiry, sok]

@[simp] theorem State.tieCheck_stores (s : State) (sok : StoresOk s) :
    StoresOk (State.tieCheck s) := by
  simp (maxDischargeDepth := 100) [State.tieCheck, sok]

@[simp] theorem State.groupsStep_stores (s : State) (d : Int) (sok : StoresOk s) :
    StoresOk (State.groupsStep s d) := by
  simp +contextual (maxDischargeDepth := 100) [State.groupsStep, sok]

@[simp] theorem State.fsnStep_stores (s : State) (sok : StoresOk s) :
    StoresOk (State.fsnStep s) := by
  simp (maxDischargeDepth := 100) [State.fsnStep, sok]

@[simp] theorem State.stepEnd_stores (s : State) (sok : StoresOk s) :
    StoresOk (State.stepEnd s) := by
  simp (maxDischargeDepth := 100) [State.stepEnd, sok]

@[simp] theorem State.residual_stores (s : State) (sok : StoresOk s) :
    StoresOk (State.residual s) := by
  simp (maxDischargeDepth := 100) [State.residual, sok]

@[simp] theorem State.loopUpdate_stores (s : State) (sok : StoresOk s) :
    StoresOk (State.loopUpdate s) := by
  simp (maxDischargeDepth := 100) [State.loopUpdate, sok]

@[simp] theorem State.phaseSample_stores (s : State) (i : Nat) (raw : Int) (sok : StoresOk s) :
    StoresOk (State.phaseSample s i raw) := by
  simp (maxDischargeDepth := 100) [State.phaseSample, sok]

@[simp] theorem State.framePhases_stores (s : State) (ph : List (Nat × Int)) (sok : StoresOk s) :
    StoresOk (State.framePhases s ph) := by
  simp +contextual (maxDischargeDepth := 100) [State.framePhases, sok]

@[simp] theorem State.peerSample_stores (s : State) (st : Nat) (sok : StoresOk s) :
    StoresOk (State.peerSample s st) := by
  simp only [State.peerSample]; (repeat' split) <;> simp (maxDischargeDepth := 100) [sok]

@[simp] theorem State.servoHold_stores (s : State) (sok : StoresOk s) :
    StoresOk (State.servoHold s) := by
  simp (maxDischargeDepth := 100) [State.servoHold, sok]

@[simp] theorem State.setRefState_stores (s : State) (v : Nat) (sok : StoresOk s) :
    StoresOk (State.setRefState s v) := by
  simp (maxDischargeDepth := 100) [State.setRefState, sok]

@[simp] theorem State.setSelected_stores (s : State) (v : Nat) (sok : StoresOk s) :
    StoresOk (State.setSelected s v) := by
  simp (maxDischargeDepth := 100) [State.setSelected, sok]

@[simp] theorem State.switchTo_stores (s : State) (b : Nat) (sok : StoresOk s) :
    StoresOk (State.switchTo s b) := by
  simp (maxDischargeDepth := 100) [State.switchTo, sok]

@[simp] theorem State.goFree_stores (s : State) (sok : StoresOk s) :
    StoresOk (State.goFree s) := by
  simp (maxDischargeDepth := 100) [State.goFree, sok]

@[simp] theorem State.select_stores (s : State) (sok : StoresOk s) :
    StoresOk (State.select s) := by
  simp only [State.select]; split <;> simp (maxDischargeDepth := 100) [sok]

@[simp] theorem State.alignStart_stores (s : State) (tok : Bool) (sok : StoresOk s) :
    StoresOk (State.alignStart s tok) := by
  simp (maxDischargeDepth := 100) [State.alignStart, sok]

@[simp] theorem State.alignEnd_stores (s : State) (sok : StoresOk s) :
    StoresOk (State.alignEnd s) := by
  simp (maxDischargeDepth := 100) [State.alignEnd, sok]

@[simp] theorem State.switchSettled_stores (s : State) (sok : StoresOk s) :
    StoresOk (State.switchSettled s) := by
  simp (maxDischargeDepth := 100) [State.switchSettled, sok]

@[simp] theorem State.clampTimeout_stores (s : State) (sok : StoresOk s) :
    StoresOk (State.clampTimeout s) := by
  simp (maxDischargeDepth := 100) [State.clampTimeout, sok]

@[simp] theorem State.phaseStep_stores (s : State) (x : Int) (sok : StoresOk s) :
    StoresOk (State.phaseStep s x) := by
  simp (maxDischargeDepth := 100) [State.phaseStep, sok]

@[simp] theorem phaseStepOp_stores (h0 : Nat) (v : Nat) (s : State) (sok : StoresOk s) :
    StoresOk (phaseStepOp h0 v s).1 := by
  simp (maxDischargeDepth := 100) [phaseStepOp, sok]

@[simp] theorem frameOffsetOp_stores (v : Nat) (s : State) (sok : StoresOk s) :
    StoresOk (frameOffsetOp v s).1 := by
  simp (maxDischargeDepth := 100) [frameOffsetOp, sok]

@[simp] theorem retimeOp_stores (h0 : Nat) (s : State) (sok : StoresOk s) :
    StoresOk (retimeOp h0 s).1 := by
  simp (maxDischargeDepth := 100) [retimeOp, sok]

@[simp] theorem alignReqOp_stores (h0 : Nat) (s : State) (sok : StoresOk s) :
    StoresOk (alignReqOp h0 s).1 := by
  simp (maxDischargeDepth := 100) [alignReqOp, sok]

@[simp] theorem State.alignEdge_stores (s : State) (late : Int) (sok : StoresOk s) :
    StoresOk (State.alignEdge s late) := by
  simp (maxDischargeDepth := 100) [State.alignEdge, sok]

@[simp] theorem State.alignTimeout_stores (s : State) (sok : StoresOk s) :
    StoresOk (State.alignTimeout s) := by
  simp (maxDischargeDepth := 100) [State.alignTimeout, sok]

@[simp] theorem State.timeStep_stores (s : State) (d : Int) (sok : StoresOk s) :
    StoresOk (State.timeStep s d) := by
  simp (maxDischargeDepth := 100) [State.timeStep, sok]

@[simp] theorem State.setInc_stores (s : State) (n : Nat) (sok : StoresOk s) :
    StoresOk (State.setInc s n) := by
  simp (maxDischargeDepth := 100) [State.setInc, sok]

@[simp] theorem State.servoUse_stores (s : State) (th : Int) (sok : StoresOk s) :
    StoresOk (State.servoUse s th) := by
  unfold State.servoUse
  extract_lets first _t0 s1 dt _t1 s2 q lim integ y0 y hit was _t2 s3 s4
  clear_value hit was y dt integ first
  have h1 : StoresOk s1 := by simp only [s1]; split_ifs <;> simp (maxDischargeDepth := 100) [sok]
  have h2 : StoresOk s2 := h1
  have h4 : StoresOk s4 := by simp (maxDischargeDepth := 100) [s4, s3, h2]
  split_ifs <;> simp (maxDischargeDepth := 100) [h2, h4]

@[simp] theorem State.servoSample_stores (s : State) (src : Nat) (th : Int) (sok : StoresOk s) :
    StoresOk (State.servoSample s src th) := by
  simp (maxDischargeDepth := 100) [State.servoSample, sok]

@[simp] theorem servoSrcOp_stores (v : Nat) (s : State) (sok : StoresOk s) :
    StoresOk (servoSrcOp v s).1 := by
  simp (maxDischargeDepth := 100) [servoSrcOp, sok]

@[simp] theorem State.ppsAt_stores (s : State) (at_ : Int) (tod : Option Nat) (sok : StoresOk s) :
    StoresOk (State.ppsAt s at_ tod) := by
  simp only [State.ppsAt]; split <;> simp (maxDischargeDepth := 100) [sok]

@[simp] theorem State.ppsEdge_stores (s : State) (src : Nat) (tod : Option Nat) (late : Int) (sok : StoresOk s) :
    StoresOk (State.ppsEdge s src tod late) := by
  simp (maxDischargeDepth := 100) [State.ppsEdge, sok]

@[simp] theorem ptpOffsetOp_stores (v : Nat) (s : State) (sok : StoresOk s) :
    StoresOk (ptpOffsetOp v s).1 := by
  simp (maxDischargeDepth := 100) [ptpOffsetOp, sok]

@[simp] theorem timeSetOp_stores (h0 : Nat) (v : Nat) (s : State) (sok : StoresOk s) :
    StoresOk (timeSetOp h0 v s).1 := by
  simp (maxDischargeDepth := 100) [timeSetOp, sok]

@[simp] theorem timeStepOp_stores (h0 : Nat) (v : Nat) (s : State) (sok : StoresOk s) :
    StoresOk (timeStepOp h0 v s).1 := by
  simp (maxDischargeDepth := 100) [timeStepOp, sok]

@[simp] theorem timeCaptureOp_stores (s : State) (sok : StoresOk s) :
    StoresOk (timeCaptureOp s).1 := by
  simp (maxDischargeDepth := 100) [timeCaptureOp, sok]

@[simp] theorem State.pulses_stores (s : State) (sok : StoresOk s) :
    StoresOk (State.pulses s) := by
  simp (maxDischargeDepth := 100) [State.pulses, sok]

@[simp] theorem State.timeFrame_stores (s : State) (sok : StoresOk s) :
    StoresOk (State.timeFrame s) := by
  simp (maxDischargeDepth := 100) [State.timeFrame, sok]

@[simp] theorem State.refFrame_stores (s : State) (ph : List (Nat × Int)) (sok : StoresOk s) :
    StoresOk (State.refFrame s ph) := by
  simp +contextual (maxDischargeDepth := 100) [State.refFrame, sok]

@[simp] theorem State.writeRefEnable_stores (s : State) (w : Who) (v : Nat) (sok : StoresOk s) :
    StoresOk (State.writeRefEnable s w v) := by
  simp +contextual (maxDischargeDepth := 100) [State.writeRefEnable, sok]

@[simp] theorem State.writePhaseStep_stores (s : State) (w : Who) (v : Nat) (sok : StoresOk s) :
    StoresOk (State.writePhaseStep s w v) := by
  simp +contextual (maxDischargeDepth := 100) [State.writePhaseStep, sok]

@[simp] theorem State.writeFrameOffset_stores (s : State) (w : Who) (v : Nat) (sok : StoresOk s) :
    StoresOk (State.writeFrameOffset s w v) := by
  simp +contextual (maxDischargeDepth := 100) [State.writeFrameOffset, sok]

@[simp] theorem State.writeRetime_stores (s : State) (w : Who) (v : Nat) (sok : StoresOk s) :
    StoresOk (State.writeRetime s w v) := by
  simp +contextual (maxDischargeDepth := 100) [State.writeRetime, sok]

@[simp] theorem State.writeAlignReq_stores (s : State) (w : Who) (v : Nat) (sok : StoresOk s) :
    StoresOk (State.writeAlignReq s w v) := by
  simp +contextual (maxDischargeDepth := 100) [State.writeAlignReq, sok]

@[simp] theorem State.writePtpOffset_stores (s : State) (w : Who) (v : Nat) (sok : StoresOk s) :
    StoresOk (State.writePtpOffset s w v) := by
  simp +contextual (maxDischargeDepth := 100) [State.writePtpOffset, sok]

@[simp] theorem State.writeTimeSet_stores (s : State) (w : Who) (v : Nat) (sok : StoresOk s) :
    StoresOk (State.writeTimeSet s w v) := by
  simp +contextual (maxDischargeDepth := 100) [State.writeTimeSet, sok]

@[simp] theorem State.writeTimeStep_stores (s : State) (w : Who) (v : Nat) (sok : StoresOk s) :
    StoresOk (State.writeTimeStep s w v) := by
  simp +contextual (maxDischargeDepth := 100) [State.writeTimeStep, sok]

@[simp] theorem State.writeTimeCapture_stores (s : State) (w : Who) (v : Nat) (sok : StoresOk s) :
    StoresOk (State.writeTimeCapture s w v) := by
  simp +contextual (maxDischargeDepth := 100) [State.writeTimeCapture, sok]

@[simp] theorem State.writeServoSrc_stores (s : State) (w : Who) (v : Nat) (sok : StoresOk s) :
    StoresOk (State.writeServoSrc s w v) := by
  simp +contextual (maxDischargeDepth := 100) [State.writeServoSrc, sok]

@[simp] theorem State.writeQlCfg_stores (s : State) (w : Who) (i : Nat) (v : Nat) (sok : StoresOk s) :
    StoresOk (State.writeQlCfg s w i v) := by
  simp +contextual (maxDischargeDepth := 100) [State.writeQlCfg, sok]

@[simp] theorem State.writePpsTod_stores (s : State) (w : Who) (v : Nat) (sok : StoresOk s) :
    StoresOk (State.writePpsTod s w v) := by
  simp +contextual (maxDischargeDepth := 100) [State.writePpsTod, sok]

@[simp] theorem State.statusTaken_stores (s : State) (st : Nat) (l : List Block) (arrival : Nat) (sok : StoresOk s)
    :
    StoresOk (State.statusTaken s st l arrival) := by
  simp (maxDischargeDepth := 100) [State.statusTaken, sok]

/-! ### Machine/Flags.lean -/

@[simp] theorem eventClearOp_stores (v : Nat) (s : State) (sok : StoresOk s) :
    StoresOk (eventClearOp v s).1 := by
  simp (maxDischargeDepth := 100) [eventClearOp, sok]

@[simp] theorem State.writeEventClear_stores (s : State) (w : Who) (v : Nat) (sok : StoresOk s) :
    StoresOk (State.writeEventClear s w v) := by
  simp +contextual (maxDischargeDepth := 100) [State.writeEventClear, sok]

@[simp] theorem State.writeEventMask_stores (s : State) (w : Who) (v : Nat) (sok : StoresOk s) :
    StoresOk (State.writeEventMask s w v) := by
  simp +contextual (maxDischargeDepth := 100) [State.writeEventMask, sok]

@[simp] theorem State.crierReload_stores (s : State) (sok : StoresOk s) :
    StoresOk (State.crierReload s) := by
  simp (maxDischargeDepth := 100) [State.crierReload, sok]

/-! ### Machine/Time.lean -/

@[simp] theorem State.tcDrop_stores (s : State) (why : Nat) (sok : StoresOk s) :
    StoresOk (State.tcDrop s why) := by
  simp (maxDischargeDepth := 100) [State.tcDrop, sok]

@[simp] theorem State.tcCopy_stores (s : State) (j : Nat) (x : TcF) (sok : StoresOk s) :
    StoresOk (State.tcCopy s j x) := by
  simp (maxDischargeDepth := 100) [State.tcCopy, sok]

@[simp] theorem State.toKeeper_stores (s : State) (i : Nat) (f : List Byte) (t : Int) (sok : StoresOk s) :
    StoresOk (State.toKeeper s i f t) := by
  simp (maxDischargeDepth := 100) [State.toKeeper, sok]

@[simp] theorem State.pulseFrame_stores (s : State) (i : Nat) (f : List Byte) (u : Int) (sok : StoresOk s) :
    StoresOk (State.pulseFrame s i f u) := by
  simp (maxDischargeDepth := 100) [State.pulseFrame, sok]

@[simp] theorem State.tcFrame_stores (s : State) (i : Nat) (f : List Byte) (u : Int) (h0 : Option (Nat × Bool))
    (sok : StoresOk s) :
    StoresOk (State.tcFrame s i f u h0) := by
  simp only [State.tcFrame]; (repeat' split) <;> simp +contextual (maxDischargeDepth := 100) [sok]

@[simp] theorem State.timeRx_stores (s : State) (i : Nat) (f : List Byte) (c : Nat) (sok : StoresOk s) :
    StoresOk (State.timeRx s i f c) := by
  simp (maxDischargeDepth := 100) [State.timeRx, sok]

@[simp] theorem State.tcSend_stores (s : State) (x : TcF) (c : Nat) (sok : StoresOk s) :
    StoresOk (State.tcSend s x c).1 := by
  simp (maxDischargeDepth := 100) [State.tcSend, sok]

@[simp] theorem State.putContainer_stores (s : State) (p : Nat) (f : List Byte) (sok : StoresOk s) :
    StoresOk (State.putContainer s p f) := by
  simp (maxDischargeDepth := 100) [State.putContainer, sok]

@[simp] theorem State.launchSend_stores (s : State) (l : LaunchR) (c : Nat) (limit : Nat) (sok : StoresOk s) :
    StoresOk (State.launchSend s l c limit) := by
  simp (maxDischargeDepth := 100) [State.launchSend, sok]

@[simp] theorem State.launchDue_stores (s : State) (tag : Nat) (c : Nat) (sok : StoresOk s) :
    StoresOk (State.launchDue s tag c) := by
  simp only [State.launchDue]; split <;> simp (maxDischargeDepth := 100) [sok]

@[simp] theorem State.launchDiscard_stores (s : State) (tag : Nat) (sok : StoresOk s) :
    StoresOk (State.launchDiscard s tag) := by
  simp only [State.launchDiscard]; split <;> simp (maxDischargeDepth := 100) [sok]

@[simp] theorem launchOp_stores (r : List Byte) (s : State) (sok : StoresOk s) :
    StoresOk (launchOp r s).1 := by
  simp (maxDischargeDepth := 100) [launchOp, sok]

@[simp] theorem State.channelsFrame_stores (s : State) (sok : StoresOk s) :
    StoresOk (State.channelsFrame s) := by
  unfold State.channelsFrame; refine foldl_stores _ _ _ sok fun a x ha => ?_; (repeat' split) <;> simp
    (maxDischargeDepth := 100) [ha]

@[simp] theorem State.portSend_stores (s : State) (k : Nat) (c : Nat) (sok : StoresOk s) :
    StoresOk (State.portSend s k c) := by
  simp only [State.portSend]; (repeat' split) <;> simp (maxDischargeDepth := 100) [sok]

@[simp] theorem State.timeLinkUp_stores (s : State) (k : Nat) (sok : StoresOk s) :
    StoresOk (State.timeLinkUp s k) := by
  simp (maxDischargeDepth := 100) [State.timeLinkUp, sok]

@[simp] theorem State.timeLinkDown_stores (s : State) (k : Nat) (sok : StoresOk s) :
    StoresOk (State.timeLinkDown s k) := by
  simp (maxDischargeDepth := 100) [State.timeLinkDown, sok]

@[simp] theorem State.timeCut_stores (s : State) (sok : StoresOk s) :
    StoresOk (State.timeCut s) := by
  simp (maxDischargeDepth := 100) [State.timeCut, sok]

@[simp] theorem State.writeLaunch_stores (s : State) (w : Who) (r : List Byte) (sok : StoresOk s) :
    StoresOk (State.writeLaunch s w r) := by
  simp +contextual (maxDischargeDepth := 100) [State.writeLaunch, sok]

@[simp] theorem State.writeLaunchFlush_stores (s : State) (w : Who) (v : Nat) (sok : StoresOk s) :
    StoresOk (State.writeLaunchFlush s w v) := by
  simp +contextual (maxDischargeDepth := 100) [State.writeLaunchFlush, sok]

@[simp] theorem State.launchDoneRead_stores (s : State) (w : Who) (first : Nat) (count : Nat) (sok : StoresOk s) :
    StoresOk (State.launchDoneRead s w first count) := by
  simp (maxDischargeDepth := 100) [State.launchDoneRead, sok]

/-! ### Machine/Cfg.lean -/

@[simp] theorem loopbackOp_stores (h0 : Nat) (p : Nat) (v : Nat) (s : State) (sok : StoresOk s) :
    StoresOk (loopbackOp h0 p v s).1 := by
  simp (maxDischargeDepth := 100) [loopbackOp, sok]

@[simp] theorem portModeOp_stores (k : Nat) (v : Nat) (s : State) (sok : StoresOk s) :
    StoresOk (portModeOp k v s).1 := by
  simp (maxDischargeDepth := 100) [portModeOp, sok]

@[simp] theorem refPortOp_stores (k : Nat) (v : Nat) (s : State) (sok : StoresOk s) :
    StoresOk (refPortOp k v s).1 := by
  simp (maxDischargeDepth := 100) [refPortOp, sok]

@[simp] theorem cutModeOp_stores (v : Nat) (s : State) (sok : StoresOk s) :
    StoresOk (cutModeOp v s).1 := by
  simp (maxDischargeDepth := 100) [cutModeOp, sok]

@[simp] theorem exportEnOp_stores (v : Nat) (s : State) (sok : StoresOk s) :
    StoresOk (exportEnOp v s).1 := by
  simp (maxDischargeDepth := 100) [exportEnOp, sok]

@[simp] theorem protStoreOp_stores (idx : Nat) (v : Nat) (s : State) (sok : StoresOk s) :
    StoresOk (protStoreOp idx v s).1 := by
  simp (maxDischargeDepth := 100) [protStoreOp, sok]

@[simp] theorem State.writePortObj_stores (s : State) (w : Who) (idx : Nat) (p : Nat) (v : Nat) (sok : StoresOk s) :
    StoresOk (State.writePortObj s w idx p v) := by
  simp +contextual (maxDischargeDepth := 100) [State.writePortObj, sok]

@[simp] theorem State.writeMapObj_stores (s : State) (w : Who) (idx : Nat) (e : Nat) (v : Nat) (sok : StoresOk s) :
    StoresOk (State.writeMapObj s w idx e v) := by
  simp +contextual (maxDischargeDepth := 100) [State.writeMapObj, sok]

@[simp] theorem State.writeProtObj_stores (s : State) (w : Who) (idx : Nat) (e : Nat) (v : Nat) (sok : StoresOk s) :
    StoresOk (State.writeProtObj s w idx e v) := by
  simp +contextual (maxDischargeDepth := 100) [State.writeProtObj, sok]

@[simp] theorem State.writeTimeObj_stores (s : State) (w : Who) (idx : Nat) (e : Nat) (v : Nat) (sok : StoresOk s) :
    StoresOk (State.writeTimeObj s w idx e v) := by
  have h1 : StoresOk (s.write w idx e v (refPortOp e v)) := by
    simp +contextual (maxDischargeDepth := 100) [sok]
  have h2 : StoresOk (s.write w idx e v (store idx e v)) := by
    simp +contextual (maxDischargeDepth := 100) [sok]
  simp (maxDischargeDepth := 100) [State.writeTimeObj, sok, h1, h2]

@[simp] theorem State.writeMemObj_stores (s : State) (w : Who) (idx : Nat) (e : Nat) (v : Nat) (sok : StoresOk s) :
    StoresOk (State.writeMemObj s w idx e v) := by
  simp +contextual (maxDischargeDepth := 100) [State.writeMemObj, sok]

@[simp] theorem State.writeCfg_stores (s : State) (w : Who) (idx : Nat) (e : Nat) (v : Nat) (sok : StoresOk s) :
    StoresOk (State.writeCfg s w idx e v) := by
  simp +contextual (maxDischargeDepth := 100) [State.writeCfg, sok]

/-! ### Machine/Keeper.lean -/

@[simp] theorem State.mtxError_stores (s : State) (code : Nat) (x : Txn) (sok : StoresOk s) :
    StoresOk (State.mtxError s code x) := by
  simp (maxDischargeDepth := 100) [State.mtxError, sok]

@[simp] theorem State.answerTxn_stores (s : State) (x : Txn) (sok : StoresOk s) :
    StoresOk (State.answerTxn s x) := by
  simp (maxDischargeDepth := 100) [State.answerTxn, sok]

@[simp] theorem State.flushRefused_stores (s : State) (sok : StoresOk s) :
    StoresOk (State.flushRefused s) := by
  simp +contextual (maxDischargeDepth := 100) [State.flushRefused, sok]

@[simp] theorem State.mtxDone_stores (s : State) (sok : StoresOk s) :
    StoresOk (State.mtxDone s) := by
  simp +contextual (maxDischargeDepth := 100) [State.mtxDone, sok]

@[simp] theorem State.beatsNull_stores (s : State) (k : Nat) (sok : StoresOk s) :
    StoresOk (State.beatsNull s k) := by
  simp (maxDischargeDepth := 100) [State.beatsNull, sok]

@[simp] theorem State.dmaReset_stores (s : State) (sok : StoresOk s) :
    StoresOk (State.dmaReset s) := by
  simp (maxDischargeDepth := 100) [State.dmaReset, sok]

@[simp] theorem State.masterEnter_stores (s : State) (k : Nat) (sok : StoresOk s) :
    StoresOk (State.masterEnter s k) := by
  simp (maxDischargeDepth := 100) [State.masterEnter, sok]

@[simp] theorem State.masterQuiet_stores (s : State) (k : Nat) (sok : StoresOk s) :
    StoresOk (State.masterQuiet s k) := by
  simp (maxDischargeDepth := 100) [State.masterQuiet, sok]

@[simp] theorem masterResetOp_stores (v : Nat) (s : State) (sok : StoresOk s) :
    StoresOk (masterResetOp v s).1 := by
  simp +contextual (maxDischargeDepth := 100) [masterResetOp, sok]

@[simp] theorem remapOp_stores (v : Nat) (s : State) (sok : StoresOk s) :
    StoresOk (remapOp v s).1 := by
  simp (maxDischargeDepth := 100) [remapOp, sok]

@[simp] theorem State.remapApplied_stores (s : State) (sok : StoresOk s) :
    StoresOk (State.remapApplied s) := by
  simp only [State.remapApplied]; split <;> simp (maxDischargeDepth := 100) [sok]

@[simp] theorem State.descriptor_stores (s : State) (sok : StoresOk s) :
    StoresOk (State.descriptor s) := by
  simp only [State.descriptor]; split_ifs <;> simp (maxDischargeDepth := 100) [sok]

@[simp] theorem State.bootLoad_stores (s : State) (sok : StoresOk s) :
    StoresOk (State.bootLoad s) := by
  simp only [State.bootLoad]; split <;> simp (maxDischargeDepth := 100) [sok]

@[simp] theorem State.setResume_stores (s : State) (v : Nat) (sok : StoresOk s) :
    StoresOk (State.setResume s v) := by
  simp (maxDischargeDepth := 100) [State.setResume, sok]

@[simp] theorem State.writeMasterReset_stores (s : State) (w : Who) (v : Nat) (sok : StoresOk s) :
    StoresOk (State.writeMasterReset s w v) := by
  simp +contextual (maxDischargeDepth := 100) [State.writeMasterReset, sok]

@[simp] theorem State.writeRemap_stores (s : State) (w : Who) (v : Nat) (sok : StoresOk s) :
    StoresOk (State.writeRemap s w v) := by
  simp +contextual (maxDischargeDepth := 100) [State.writeRemap, sok]

/-! ### Machine/Firmware.lean -/

@[simp] theorem State.setSlot_stores (s : State) (k : Nat) (v : Nat) (sok : StoresOk s) :
    StoresOk (State.setSlot s k v) := by
  simp (maxDischargeDepth := 100) [State.setSlot, sok]

@[simp] theorem State.runSlot_stores (s : State) (k : Nat) (boot : Nat) (sok : StoresOk s) :
    StoresOk (State.runSlot s k boot) := by
  simp (maxDischargeDepth := 100) [State.runSlot, sok]

@[simp] theorem State.noSlot_stores (s : State) (sok : StoresOk s) :
    StoresOk (State.noSlot s) := by
  simp (maxDischargeDepth := 100) [State.noSlot, sok]

@[simp] theorem State.fwTokEnd_stores (s : State) (sok : StoresOk s) :
    StoresOk (State.fwTokEnd s) := by
  simp (maxDischargeDepth := 100) [State.fwTokEnd, sok]

@[simp] theorem State.fallBack_stores (s : State) (bad : Nat) (sok : StoresOk s) :
    StoresOk (State.fallBack s bad) := by
  simp (maxDischargeDepth := 100) [State.fallBack, sok]

@[simp] theorem State.bootChoose_stores (s : State) (sok : StoresOk s) :
    StoresOk (State.bootChoose s) := by
  simp only [State.bootChoose]; split_ifs <;> simp (maxDischargeDepth := 100) [sok]

@[simp] theorem State.keeperRestart_stores (s : State) (sok : StoresOk s) :
    StoresOk (State.keeperRestart s) := by
  simp (maxDischargeDepth := 100) [State.keeperRestart, sok]

@[simp] theorem stageBeginOp_stores (h0 : Nat) (s : State) (sok : StoresOk s) :
    StoresOk (stageBeginOp h0 s).1 := by
  simp (maxDischargeDepth := 100) [stageBeginOp, sok]

@[simp] theorem State.eraseDone_stores (s : State) (sok : StoresOk s) :
    StoresOk (State.eraseDone s) := by
  simp (maxDischargeDepth := 100) [State.eraseDone, sok]

@[simp] theorem stageSegmentOp_stores (h0 : Nat) (k : Nat) (d : List Byte) (s : State) (sok : StoresOk s) :
    StoresOk (stageSegmentOp h0 k d s).1 := by
  simp (maxDischargeDepth := 100) [stageSegmentOp, sok]

@[simp] theorem State.imageBad_stores (s : State) (k : Nat) (sok : StoresOk s) :
    StoresOk (State.imageBad s k) := by
  simp (maxDischargeDepth := 100) [State.imageBad, sok]

@[simp] theorem fwCommitOp_stores (h0 : Nat) (s : State) (sok : StoresOk s) :
    StoresOk (fwCommitOp h0 s).1 := by
  simp (maxDischargeDepth := 100) [fwCommitOp, sok]

@[simp] theorem fwAbortOp_stores (h0 : Nat) (s : State) (sok : StoresOk s) :
    StoresOk (fwAbortOp h0 s).1 := by
  simp (maxDischargeDepth := 100) [fwAbortOp, sok]

@[simp] theorem activateOp_stores (h0 : Nat) (s : State) (sok : StoresOk s) :
    StoresOk (activateOp h0 s).1 := by
  simp (maxDischargeDepth := 100) [activateOp, sok]

@[simp] theorem confirmOp_stores (s : State) (sok : StoresOk s) :
    StoresOk (confirmOp s).1 := by
  simp (maxDischargeDepth := 100) [confirmOp, sok]

@[simp] theorem State.trialFails_stores (s : State) (sok : StoresOk s) :
    StoresOk (State.trialFails s) := by
  simp (maxDischargeDepth := 100) [State.trialFails, sok]

@[simp] theorem State.trialTimeout_stores (s : State) (sok : StoresOk s) :
    StoresOk (State.trialTimeout s) := by
  simp (maxDischargeDepth := 100) [State.trialTimeout, sok]

@[simp] theorem revokeOp_stores (s : State) (sok : StoresOk s) :
    StoresOk (revokeOp s).1 := by
  simp (maxDischargeDepth := 100) [revokeOp, sok]

@[simp] theorem svnCommitOp_stores (v : Nat) (s : State) (sok : StoresOk s) :
    StoresOk (svnCommitOp v s).1 := by
  simp (maxDischargeDepth := 100) [svnCommitOp, sok]

@[simp] theorem State.burnLeaf_stores (s : State) (sok : StoresOk s) :
    StoresOk (State.burnLeaf s) := by
  simp (maxDischargeDepth := 100) [State.burnLeaf, sok]

@[simp] theorem State.leafMirror_stores (s : State) (next : Nat) (sok : StoresOk s) :
    StoresOk (State.leafMirror s next) := by
  simp (maxDischargeDepth := 100) [State.leafMirror, sok]

@[simp] theorem State.mirrorCheck_stores (s : State) (sok : StoresOk s) :
    StoresOk (State.mirrorCheck s) := by
  simp (maxDischargeDepth := 100) [State.mirrorCheck, sok]

@[simp] theorem nonceOp_stores (n : List Byte) (s : State) (sok : StoresOk s) :
    StoresOk (nonceOp n s).1 := by
  simp (maxDischargeDepth := 100) [nonceOp, sok]

@[simp] theorem State.reportDone_stores (s : State) (sok : StoresOk s) :
    StoresOk (State.reportDone s) := by
  simp only [State.reportDone]; split <;> simp (maxDischargeDepth := 100) [sok]

@[simp] theorem State.fwTarget_stores (s : State) (w : Who) (op : State → State × Nat) (sok : StoresOk s) (hop : ∀
    t, StoresOk t → StoresOk (op t).1) :
    StoresOk (State.fwTarget s w op) := by
  simp (maxDischargeDepth := 100) [State.fwTarget, sok, hop]

@[simp] theorem State.writeStageBegin_stores (s : State) (w : Who) (v : Nat) (sok : StoresOk s) :
    StoresOk (State.writeStageBegin s w v) := by
  simp +contextual (maxDischargeDepth := 100) [State.writeStageBegin, sok]

@[simp] theorem State.writeStageSegment_stores (s : State) (w : Who) (k : Nat) (d : List Byte) (sok : StoresOk s) :
    StoresOk (State.writeStageSegment s w k d) := by
  simp +contextual (maxDischargeDepth := 100) [State.writeStageSegment, sok]

@[simp] theorem State.writeActivate_stores (s : State) (w : Who) (v : Nat) (sok : StoresOk s) :
    StoresOk (State.writeActivate s w v) := by
  simp +contextual (maxDischargeDepth := 100) [State.writeActivate, sok]

@[simp] theorem State.writeConfirm_stores (s : State) (w : Who) (v : Nat) (sok : StoresOk s) :
    StoresOk (State.writeConfirm s w v) := by
  simp +contextual (maxDischargeDepth := 100) [State.writeConfirm, sok]

@[simp] theorem State.writeRevoke_stores (s : State) (w : Who) (v : Nat) (sok : StoresOk s) :
    StoresOk (State.writeRevoke s w v) := by
  simp +contextual (maxDischargeDepth := 100) [State.writeRevoke, sok]

@[simp] theorem State.writeSvnCommit_stores (s : State) (w : Who) (v : Nat) (sok : StoresOk s) :
    StoresOk (State.writeSvnCommit s w v) := by
  simp +contextual (maxDischargeDepth := 100) [State.writeSvnCommit, sok]

@[simp] theorem State.writeNonce_stores (s : State) (w : Who) (n : List Byte) (sok : StoresOk s) :
    StoresOk (State.writeNonce s w n) := by
  simp +contextual (maxDischargeDepth := 100) [State.writeNonce, sok]

/-! ### Machine/Modes.lean -/

@[simp] theorem State.promoteStep_stores (s : State) (n : Nat) (sok : StoresOk s) :
    StoresOk (State.promoteStep s n) := by
  simp (maxDischargeDepth := 100) [State.promoteStep, sok]

@[simp] theorem State.promoteFail_stores (s : State) (sok : StoresOk s) :
    StoresOk (State.promoteFail s) := by
  simp (maxDischargeDepth := 100) [State.promoteFail, sok]

@[simp] theorem State.dropActivity_stores (s : State) (d : Nat) (sok : StoresOk s) :
    StoresOk (State.dropActivity s d) := by
  simp (maxDischargeDepth := 100) [State.dropActivity, sok]

@[simp] theorem State.restoreOver_stores (s : State) (sok : StoresOk s) :
    StoresOk (State.restoreOver s) := by
  simp (maxDischargeDepth := 100) [State.restoreOver, sok]

@[simp] theorem State.fabricLost_stores (s : State) (sok : StoresOk s) :
    StoresOk (State.fabricLost s) := by
  unfold State.fabricLost
  extract_lets f1 q a0 a m0 m1 regs s1 s2
  have k1 : StoresOk s1 := by
    refine foldRange_stores _ _ _ ?_ fun a x ha => ?_
    · simp [sok, regs]
    · simp (maxDischargeDepth := 100) [ha]
  have k2 : StoresOk s2 := by simp [s2, k1]
  clear_value s2
  simp [m1, m0, MemS.init, sok, k2]

@[simp] theorem State.fabricOff_stores (s : State) (sok : StoresOk s) :
    StoresOk (State.fabricOff s) := by
  simp +contextual (maxDischargeDepth := 100) [State.fabricOff, sok]

@[simp] theorem State.quarantine_stores (s : State) (cause : Nat) (sok : StoresOk s) :
    StoresOk (State.quarantine s cause) := by
  simp (maxDischargeDepth := 100) [State.quarantine, sok]

@[simp] theorem State.dormantEntry_stores (s : State) (sok : StoresOk s) :
    StoresOk (State.dormantEntry s) := by
  simp (maxDischargeDepth := 100) [State.dormantEntry, sok]

@[simp] theorem State.startWake_stores (s : State) (sok : StoresOk s) :
    StoresOk (State.startWake s) := by
  simp (maxDischargeDepth := 100) [State.startWake, sok]

@[simp] theorem State.fabPgAssert_stores (s : State) (sok : StoresOk s) :
    StoresOk (State.fabPgAssert s) := by
  simp +contextual (maxDischargeDepth := 100) [State.fabPgAssert, sok]

@[simp] theorem State.fabPgTimeout_stores (s : State) (sok : StoresOk s) :
    StoresOk (State.fabPgTimeout s) := by
  simp (maxDischargeDepth := 100) [State.fabPgTimeout, sok]

@[simp] theorem State.fabPgDeassert_stores (s : State) (sok : StoresOk s) :
    StoresOk (State.fabPgDeassert s) := by
  simp (maxDischargeDepth := 100) [State.fabPgDeassert, sok]

@[simp] theorem State.selftestLode_stores (s : State) (l : Nat) (sok : StoresOk s) :
    StoresOk (State.selftestLode s l) := by
  simp (maxDischargeDepth := 100) [State.selftestLode, sok]

@[simp] theorem State.selftestDone_stores (s : State) (failed : Nat) (lodes : List Nat) (sok : StoresOk s) :
    StoresOk (State.selftestDone s failed lodes) := by
  simp +contextual (maxDischargeDepth := 100) [State.selftestDone, sok]

@[simp] theorem State.restoreItem_stores (s : State) (x : Nat × Nat × Nat) (sok : StoresOk s) :
    StoresOk (State.restoreItem s x) := by
  simp (maxDischargeDepth := 100) [State.restoreItem, sok]

@[simp] theorem State.restoreObjects_stores (s : State) (g : List Byte) (want : Nat → Bool) (sok : StoresOk s) :
    StoresOk (State.restoreObjects s g want) := by
  simp +contextual (maxDischargeDepth := 100) [State.restoreObjects, sok]

@[simp] theorem State.restoreMap_stores (s : State) (m : List Byte) (sok : StoresOk s) :
    StoresOk (State.restoreMap s m) := by
  simp +contextual (maxDischargeDepth := 100) [State.restoreMap, sok]

@[simp] theorem State.restoreGroup_stores (s : State) (o : Obj) (g : List Byte) (at_ : Nat) (sok : StoresOk s) :
    StoresOk (State.restoreGroup s o g at_) := by
  simp +contextual (maxDischargeDepth := 100) [State.restoreGroup, sok]

@[simp] theorem State.restoreGroups_stores (s : State) (g : List Byte) (sok : StoresOk s) :
    StoresOk (State.restoreGroups s g) := by
  simp +contextual (maxDischargeDepth := 100) [State.restoreGroups, sok]

@[simp] theorem State.replay_stores (s : State) (cut : Nat) (sok : StoresOk s) :
    StoresOk (State.replay s cut) := by
  simp +contextual (maxDischargeDepth := 100) [State.replay, sok]

@[simp] theorem State.restoreFail_stores (s : State) (sok : StoresOk s) :
    StoresOk (State.restoreFail s) := by
  simp (maxDischargeDepth := 100) [State.restoreFail, sok]

@[simp] theorem State.restoreRequest_stores (s : State) (sok : StoresOk s) :
    StoresOk (State.restoreRequest s) := by
  simp (maxDischargeDepth := 100) [State.restoreRequest, sok]

@[simp] theorem State.restoreBegin_stores (s : State) (sok : StoresOk s) :
    StoresOk (State.restoreBegin s) := by
  simp only [State.restoreBegin]; (repeat' split) <;> simp (maxDischargeDepth := 100) [sok]

@[simp] theorem State.restoreTake_stores (s : State) (h0 : Nat) (d : Nat) (sok : StoresOk s) :
    StoresOk (State.restoreTake s h0 d) := by
  simp (maxDischargeDepth := 100) [State.restoreTake, sok]

@[simp] theorem State.enterRestore_stores (s : State) (h0 : Nat) (sok : StoresOk s) :
    StoresOk (State.enterRestore s h0) := by
  simp (maxDischargeDepth := 100) [State.enterRestore, sok]

@[simp] theorem State.restoreCheck_stores (s : State) (sok : StoresOk s) :
    StoresOk (State.restoreCheck s) := by
  simp (maxDischargeDepth := 100) [State.restoreCheck, sok]

@[simp] theorem State.attested_stores (s : State) (k : Nat) (sok : StoresOk s) :
    StoresOk (State.attested s k) := by
  simp only [State.attested]; (repeat' split) <;> simp +contextual (maxDischargeDepth := 100) [sok]

@[simp] theorem State.attestDone_stores (s : State) (sok : StoresOk s) :
    StoresOk (State.attestDone s) := by
  simp (maxDischargeDepth := 100) [State.attestDone, sok]

@[simp] theorem reqStageOp_stores (s : State) (sok : StoresOk s) :
    StoresOk (reqStageOp s).1 := by
  simp (maxDischargeDepth := 100) [reqStageOp, sok]

@[simp] theorem reqRestoreOp_stores (h0 : Nat) (s : State) (sok : StoresOk s) :
    StoresOk (reqRestoreOp h0 s).1 := by
  simp (maxDischargeDepth := 100) [reqRestoreOp, sok]

@[simp] theorem reqServiceOp_stores (h0 : Nat) (s : State) (sok : StoresOk s) :
    StoresOk (reqServiceOp h0 s).1 := by
  simp (maxDischargeDepth := 100) [reqServiceOp, sok]

@[simp] theorem reqIsolateOp_stores (s : State) (sok : StoresOk s) :
    StoresOk (reqIsolateOp s).1 := by
  simp (maxDischargeDepth := 100) [reqIsolateOp, sok]

@[simp] theorem State.isolateEntry_stores (s : State) (sok : StoresOk s) :
    StoresOk (State.isolateEntry s) := by
  simp (maxDischargeDepth := 100) [State.isolateEntry, sok]

@[simp] theorem reqQuarantineOp_stores (s : State) (sok : StoresOk s) :
    StoresOk (reqQuarantineOp s).1 := by
  simp (maxDischargeDepth := 100) [reqQuarantineOp, sok]

@[simp] theorem reqDormantOp_stores (s : State) (sok : StoresOk s) :
    StoresOk (reqDormantOp s).1 := by
  simp (maxDischargeDepth := 100) [reqDormantOp, sok]

@[simp] theorem modeOp_stores (h0 : Nat) (v : Nat) (s : State) (sok : StoresOk s) :
    StoresOk (modeOp h0 v s).1 := by
  simp (maxDischargeDepth := 100) [modeOp, sok]

@[simp] theorem State.writeModeReq_stores (s : State) (w : Who) (v : Nat) (sok : StoresOk s) :
    StoresOk (State.writeModeReq s w v) := by
  simp +contextual (maxDischargeDepth := 100) [State.writeModeReq, sok]

@[simp] theorem promoteOp_stores (h0 : Nat) (v : Nat) (s : State) (sok : StoresOk s) :
    StoresOk (promoteOp h0 v s).1 := by
  simp (maxDischargeDepth := 100) [promoteOp, sok]

@[simp] theorem State.promotionRestore_stores (s : State) (sok : StoresOk s) :
    StoresOk (State.promotionRestore s) := by
  simp (maxDischargeDepth := 100) [State.promotionRestore, sok]

@[simp] theorem State.promoteFrame_stores (s : State) (sok : StoresOk s) :
    StoresOk (State.promoteFrame s) := by
  simp (maxDischargeDepth := 100) [State.promoteFrame, sok]

@[simp] theorem State.warmHealth_stores (s : State) (sok : StoresOk s) :
    StoresOk (State.warmHealth s) := by
  simp (maxDischargeDepth := 100) [State.warmHealth, sok]

theorem State.halfRecord_wf (s : State) (sok : StoresOk s) : SMap.wf (fun _ => 0xFF) s.halfRecord = true := by
  unfold State.halfRecord
  split_ifs <;> simp [sok]

@[simp] theorem State.powerOnReset_stores (s : State) (cause : Nat) (mapsel : Bool) (ddrNone : Bool) (held : Bool)
    (sok : StoresOk s) :
    StoresOk (State.powerOnReset s cause mapsel ddrNone held) := by
  unfold State.powerOnReset
  refine State.setReg_stores _ _ _ _ (State.setReg_stores _ _ _ _ ⟨⟨?_, rfl⟩, ?_⟩)
  · exact SMap.wf_filter_of _ _ _ sok.regs
  · simp [Memory.wf, State.reset, MemS.init, s.halfRecord_wf sok, sok]

@[simp] theorem sysResetOp_stores (s : State) (sok : StoresOk s) :
    StoresOk (sysResetOp s).1 := by
  simp (maxDischargeDepth := 100) [sysResetOp, sok]

@[simp] theorem State.bootEnd_stores (s : State) (sok : StoresOk s) :
    StoresOk (State.bootEnd s) := by
  simp (maxDischargeDepth := 100) [State.bootEnd, sok]

@[simp] theorem State.flashProbe_stores (s : State) (sok : StoresOk s) :
    StoresOk (State.flashProbe s) := by
  simp (maxDischargeDepth := 100) [State.flashProbe, sok]

@[simp] theorem State.bootComplete_stores (s : State) (sok : StoresOk s) :
    StoresOk (State.bootComplete s) := by
  simp (maxDischargeDepth := 100) [State.bootComplete, sok]

@[simp] theorem State.sessionsDropped_stores (s : State) (sok : StoresOk s) :
    StoresOk (State.sessionsDropped s) := by
  simp (maxDischargeDepth := 100) [State.sessionsDropped, sok]

@[simp] theorem State.restartDone_stores (s : State) (sok : StoresOk s) :
    StoresOk (State.restartDone s) := by
  simp (maxDischargeDepth := 100) [State.restartDone, sok]

@[simp] theorem State.watchdog_stores (s : State) (c : Nat) (sok : StoresOk s) :
    StoresOk (State.watchdog s c) := by
  simp (maxDischargeDepth := 100) [State.watchdog, sok]

@[simp] theorem cutReqOp_stores (h0 : Nat) (s : State) (sok : StoresOk s) :
    StoresOk (cutReqOp h0 s).1 := by
  simp (maxDischargeDepth := 100) [cutReqOp, sok]

@[simp] theorem State.writePromote_stores (s : State) (w : Who) (v : Nat) (sok : StoresOk s) :
    StoresOk (State.writePromote s w v) := by
  simp +contextual (maxDischargeDepth := 100) [State.writePromote, sok]

@[simp] theorem State.writeSysReset_stores (s : State) (w : Who) (v : Nat) (sok : StoresOk s) :
    StoresOk (State.writeSysReset s w v) := by
  simp +contextual (maxDischargeDepth := 100) [State.writeSysReset, sok]

@[simp] theorem State.writeCutReq_stores (s : State) (w : Who) (v : Nat) (sok : StoresOk s) :
    StoresOk (State.writeCutReq s w v) := by
  simp +contextual (maxDischargeDepth := 100) [State.writeCutReq, sok]

/-! ### Machine/Access.lean -/

@[simp] theorem tokenTakeOp_stores (h0 : Nat) (v : Nat) (s : State) (sok : StoresOk s) :
    StoresOk (tokenTakeOp h0 v s).1 := by
  simp +contextual (maxDischargeDepth := 100) [tokenTakeOp, sok]

@[simp] theorem State.tokBack_stores (s : State) (h0 : Nat) (d : Nat) (sok : StoresOk s) :
    StoresOk (State.tokBack s h0 d) := by
  simp (maxDischargeDepth := 100) [State.tokBack, sok]

@[simp] theorem tokenReleaseOp_stores (h0 : Nat) (v : Nat) (s : State) (sok : StoresOk s) :
    StoresOk (tokenReleaseOp h0 v s).1 := by
  simp +contextual (maxDischargeDepth := 100) [tokenReleaseOp, sok]

@[simp] theorem State.tempRead_stores (s : State) (idx : Nat) (sok : StoresOk s) :
    StoresOk (State.tempRead s idx).1 := by
  simp (maxDischargeDepth := 100) [State.tempRead, sok]

@[simp] theorem State.setLog_stores (s : State) (idx : Nat) (l : List Nat) (sok : StoresOk s) :
    StoresOk (State.setLog s idx l) := by
  simp (maxDischargeDepth := 100) [State.setLog, sok]

@[simp] theorem State.readElem_stores (s : State) (o : Obj) (e : Nat) (live : Bool) (sok : StoresOk s) :
    StoresOk (State.readElem s o e live).1 := by
  simp (maxDischargeDepth := 100) [State.readElem, sok]

@[simp] theorem State.readRange_stores (s : State) (o : Obj) (t : Tgt) (k : Nat) (n : Nat) (live : Bool) (sok :
    StoresOk s) :
    StoresOk (State.readRange s o t k n live).1 := by
  simp only [State.readRange]; (repeat' split) <;> simp +contextual (maxDischargeDepth := 100) [sok]

@[simp] theorem State.readEntry_stores (s : State) (w : Who) (t : Tgt) (k : Nat) (n : Nat) (live : Bool) (sok :
    StoresOk s) :
    StoresOk (State.readEntry s w t k n live) := by
  simp only [State.readEntry]; (repeat' split) <;> simp (maxDischargeDepth := 100) [sok]

@[simp] theorem State.describe_stores (s : State) (w : Who) (t : Tgt) (k : Nat) (v : List Byte) (sok : StoresOk s) :
    StoresOk (State.describe s w t k v) := by
  simp only [State.describe]; (repeat' split) <;> simp (maxDischargeDepth := 100) [sok]

@[simp] theorem State.sessionDrop_stores (s : State) (k : Nat) (sok : StoresOk s) :
    StoresOk (State.sessionDrop s k) := by
  simp +contextual (maxDischargeDepth := 100) [State.sessionDrop, sok]

@[simp] theorem secKeyOp_stores (k : Nat) (key : List Byte) (s : State) (sok : StoresOk s) :
    StoresOk (secKeyOp k key s).1 := by
  simp (maxDischargeDepth := 100) [secKeyOp, sok]

@[simp] theorem State.writeTokenTake_stores (s : State) (w : Who) (v : Nat) (sok : StoresOk s) :
    StoresOk (State.writeTokenTake s w v) := by
  simp +contextual (maxDischargeDepth := 100) [State.writeTokenTake, sok]

@[simp] theorem State.writeTokenRelease_stores (s : State) (w : Who) (v : Nat) (sok : StoresOk s) :
    StoresOk (State.writeTokenRelease s w v) := by
  simp +contextual (maxDischargeDepth := 100) [State.writeTokenRelease, sok]

@[simp] theorem State.writeSecKey_stores (s : State) (w : Who) (k : Nat) (key : List Byte) (sok : StoresOk s) :
    StoresOk (State.writeSecKey s w k key) := by
  simp +contextual (maxDischargeDepth := 100) [State.writeSecKey, sok]

@[simp] theorem State.writeCommit48_stores (s : State) (w : Who) (v : Nat) (sok : StoresOk s) :
    StoresOk (State.writeCommit48 s w v) := by
  simp +contextual (maxDischargeDepth := 100) [State.writeCommit48, sok]

@[simp] theorem State.writeSysObj_stores (s : State) (w : Who) (idx : Nat) (e : Nat) (v : Nat) (sok : StoresOk s) :
    StoresOk (State.writeSysObj s w idx e v) := by
  simp (maxDischargeDepth := 100) [State.writeSysObj, sok]

@[simp] theorem State.writeObj_stores (s : State) (w : Who) (idx : Nat) (e : Nat) (v : Nat) (sok : StoresOk s) :
    StoresOk (State.writeObj s w idx e v) := by
  simp (maxDischargeDepth := 100) [State.writeObj, sok]

@[simp] theorem State.writeOctets_stores (s : State) (w : Who) (o : Obj) (e : Nat) (d : List Byte) (sok : StoresOk
    s) :
    StoresOk (State.writeOctets s w o e d) := by
  simp (maxDischargeDepth := 100) [State.writeOctets, sok]

@[simp] theorem State.writeElem_stores (s : State) (w : Who) (o : Obj) (t : Tgt) (k : Nat) (d : List Byte) (sok :
    StoresOk s) :
    StoresOk (State.writeElem s w o t k d) := by
  simp only [State.writeElem]; (repeat' split) <;> simp (maxDischargeDepth := 100) [sok]

@[simp] theorem State.preset_stores (s : State) (o : Obj) (t : Tgt) (k : Nat) (n : Nat) (v : Nat → Nat) (sok :
    StoresOk s) :
    StoresOk (State.preset s o t k n v) := by
  simp +contextual (maxDischargeDepth := 100) [State.preset, sok]

@[simp] theorem State.writeJoint_stores (s : State) (w : Who) (o : Obj) (t : Tgt) (k : Nat) (d : List Byte) (rest :
    List Byte) (sok : StoresOk s) :
    StoresOk (State.writeJoint s w o t k d rest) := by
  simp (maxDischargeDepth := 100) [State.writeJoint, sok]

theorem State.writeAll_stores (s : State) (w : Who) (o : Obj) (t : Tgt) (d : List Byte) (n k : Nat) (cur : State)
    (sok : StoresOk s) (hc : StoresOk cur) : StoresOk (s.writeAll w o t d n k cur) := by
  induction n generalizing d k cur with
  | zero => exact State.answer_stores _ _ hc
  | succ n ih =>
    simp only [State.writeAll]
    have hr : StoresOk (cur.writeJoint w o t k (slice d 0 o.ty.width) (d.drop o.ty.width)) := by simp [hc]
    split_ifs
    · simp [sok]
    · exact ih _ _ _ hr

@[simp] theorem State.writeEntry_stores (s : State) (w : Who) (t : Tgt) (k : Nat) (d : List Byte) (sok : StoresOk
    s) :
    StoresOk (State.writeEntry s w t k d) := by
  unfold State.writeEntry
  split
  · simp [sok]
  · extract_lets n c
    clear_value n c
    have h := fun o => State.writeAll_stores s w o t d n k s sok sok
    split_ifs <;> simp [sok, h]

@[simp] theorem State.registerWrite_stores (s : State) (w : Who) (idx : Nat) (elem : Nat) (v : Nat) (sok : StoresOk
    s) :
    StoresOk (State.registerWrite s w idx elem v) := by
  simp (maxDischargeDepth := 100) [State.registerWrite, sok]

/-! ### Machine/Frame.lean -/

@[simp] theorem State.sendLane_stores (s : State) (p : Nat) (sok : StoresOk s) :
    StoresOk (State.sendLane s p) := by
  simp (maxDischargeDepth := 100) [State.sendLane, sok]

@[simp] theorem State.channelEnd_stores (s : State) (p : Nat) (sok : StoresOk s) :
    StoresOk (State.channelEnd s p) := by
  simp (maxDischargeDepth := 100) [State.channelEnd, sok]

@[simp] theorem State.portFrame_stores (s : State) (p : Nat) (sok : StoresOk s) :
    StoresOk (State.portFrame s p) := by
  simp (maxDischargeDepth := 100) [State.portFrame, sok]

@[simp] theorem State.forceFrame_stores (s : State) (sok : StoresOk s) :
    StoresOk (State.forceFrame s) := by
  simp +contextual (maxDischargeDepth := 100) [State.forceFrame, sok]

@[simp] theorem State.esFrame_stores (s : State) (sok : StoresOk s) :
    StoresOk (State.esFrame s) := by
  simp +contextual (maxDischargeDepth := 100) [State.esFrame, sok]

@[simp] theorem State.islandFrame_stores (s : State) (sok : StoresOk s) :
    StoresOk (State.islandFrame s) := by
  simp +contextual (maxDischargeDepth := 100) [State.islandFrame, sok]

theorem SMap.wfFrom_ne (d : Nat → Nat) {m : SMap Nat} :
    ∀ {lo : Nat}, SMap.wfFrom d lo m = true → ∀ x ∈ m, x.2 ≠ d x.1 := by
  induction m with
  | nil => simp
  | cons y m ih =>
    intro lo h x hx
    simp only [SMap.wfFrom, Bool.and_eq_true, Bool.not_eq_true', decide_eq_true_eq, decide_eq_false_iff_not] at h
    rcases List.mem_cons.mp hx with rfl | hx
    · exact h.1.2
    · exact ih h.2 x hx

theorem SMap.wf_insertAll (d : Nat → Nat) (l : List (Nat × Nat)) (m : SMap Nat) (hl : ∀ x ∈ l, x.2 ≠ d x.1)
    (hm : SMap.wf d m = true) : SMap.wf d (l.foldl (fun m kv => SMap.insert m kv.1 kv.2) m) = true := by
  induction l generalizing m with
  | nil => exact hm
  | cons y l ih =>
    exact ih _ (fun x hx => hl x (List.mem_cons_of_mem _ hx))
      (SMap.wfFrom_insert d y.1 y.2 (hl y List.mem_cons_self) (Nat.zero_le _) hm)

@[simp] theorem State.bringLive_stores (s : State) (sok : StoresOk s) :
    StoresOk (State.bringLive s) := by
  refine ⟨⟨sok.regs, ?_⟩, sok.mem⟩
  refine SMap.wf_insertAll _ _ _ (fun x hx => ?_) (SMap.wf_filter_of _ _ _ sok.live)
  exact SMap.wfFrom_ne _ sok.regs x (List.mem_of_mem_filter hx)

@[simp] theorem State.clearCtxLines_stores (s : State) (sok : StoresOk s) :
    StoresOk (State.clearCtxLines s) := by
  simp +contextual (maxDischargeDepth := 100) [State.clearCtxLines, sok]

@[simp] theorem State.groupBoundary_stores (s : State) (old : State) (sok : StoresOk s) :
    StoresOk (State.groupBoundary s old) := by
  simp +contextual (maxDischargeDepth := 100) [State.groupBoundary, sok]

@[simp] theorem State.resize_stores (s : State) (m : Nat) (was : Nat) (sok : StoresOk s) :
    StoresOk (State.resize s m was) := by
  simp +contextual (maxDischargeDepth := 100) [State.resize, sok]

@[simp] theorem State.streamsMoved_stores (s : State) (old : List Nat) (sok : StoresOk s) :
    StoresOk (State.streamsMoved s old) := by
  simp +contextual (maxDischargeDepth := 100) [State.streamsMoved, sok]

@[simp] theorem State.stopsDue_stores (s : State) (sok : StoresOk s) :
    StoresOk (State.stopsDue s) := by
  simp +contextual (maxDischargeDepth := 100) [State.stopsDue, sok]

@[simp] theorem State.mapBoundary_stores (s : State) (size : Nat → Bool) (sok : StoresOk s) :
    StoresOk (State.mapBoundary s size) := by
  simp (maxDischargeDepth := 100) [State.mapBoundary, sok]

@[simp] theorem State.mapFigures_stores (s : State) (sok : StoresOk s) :
    StoresOk (State.mapFigures s) := by
  simp +contextual (maxDischargeDepth := 100) [State.mapFigures, sok]

@[simp] theorem State.journalBoundary_stores (s : State) (was : List (Nat × Nat)) (due : List (Nat × Nat)) (sok :
    StoresOk s) :
    StoresOk (State.journalBoundary s was due) := by
  simp +contextual (maxDischargeDepth := 100) [State.journalBoundary, sok]

@[simp] theorem State.serviceBoundary_stores (s : State) (sok : StoresOk s) :
    StoresOk (State.serviceBoundary s) := by
  simp (maxDischargeDepth := 100) [State.serviceBoundary, sok]

@[simp] theorem State.boundary_stores (s : State) (sok : StoresOk s) :
    StoresOk (State.boundary s) := by
  simp +contextual (maxDischargeDepth := 100) [State.boundary, sok]

@[simp] theorem State.commitBoundary_stores (s : State) (sok : StoresOk s) :
    StoresOk (State.commitBoundary s) := by
  simp (maxDischargeDepth := 100) [State.commitBoundary, sok]

@[simp] theorem State.frameStart_stores (s : State) (phase : List (Nat × Int)) (sok : StoresOk s) :
    StoresOk (State.frameStart s phase) := by
  simp (maxDischargeDepth := 100) [State.frameStart, sok]

@[simp] theorem State.drained_stores (s : State) (sok : StoresOk s) :
    StoresOk (State.drained s) := by
  simp (maxDischargeDepth := 100) [State.drained, sok]

/-! ### Machine/HDP.lean -/

@[simp] theorem State.hdpStat_stores (s : State) (k : Nat) (n : Nat) (sok : StoresOk s) :
    StoresOk (State.hdpStat s k n) := by
  simp (maxDischargeDepth := 100) [State.hdpStat, sok]

@[simp] theorem State.respond_stores (s : State) (port : Nat) (enc : Encap) (key : List Byte) (r : Hdp) (sok :
    StoresOk s) :
    StoresOk (State.respond s port enc key r) := by
  simp (maxDischargeDepth := 100) [State.respond, sok]

@[simp] theorem State.respondOut_stores (s : State) (port : Nat) (enc : Encap) (key : List Byte) (h0 : Hdp) (sok :
    StoresOk s) :
    StoresOk (State.respondOut s port enc key h0) := by
  simp (maxDischargeDepth := 100) [State.respondOut, sok]

@[simp] theorem State.discard_stores (s : State) (k : Nat) (sok : StoresOk s) :
    StoresOk (State.discard s k) := by
  simp (maxDischargeDepth := 100) [State.discard, sok]

@[simp] theorem State.hdpReadOp_stores (s : State) (h0 : Hdp) (sok : StoresOk s) :
    StoresOk (State.hdpReadOp s h0) := by
  simp (maxDischargeDepth := 100) [State.hdpReadOp, sok]

@[simp] theorem State.hdpWriteOp_stores (s : State) (h0 : Hdp) (sok : StoresOk s) :
    StoresOk (State.hdpWriteOp s h0) := by
  simp only [State.hdpWriteOp]; (repeat' split) <;> simp (maxDischargeDepth := 100) [sok]

@[simp] theorem State.dropBulk_stores (s : State) (k : Nat) (x : Nat) (sok : StoresOk s) :
    StoresOk (State.dropBulk s k x) := by
  simp (maxDischargeDepth := 100) [State.dropBulk, sok]

@[simp] theorem State.putBulk_stores (s : State) (b : Bulk) (sok : StoresOk s) :
    StoresOk (State.putBulk s b) := by
  simp (maxDischargeDepth := 100) [State.putBulk, sok]

@[simp] theorem State.hdpReadBulk_stores (s : State) (port : Nat) (enc : Encap) (key : List Byte) (h0 : Hdp) (sok :
    StoresOk s) :
    StoresOk (State.hdpReadBulk s port enc key h0) := by
  simp only [State.hdpReadBulk]; (repeat' split) <;> simp +contextual (maxDischargeDepth := 100) [sok]

@[simp] theorem State.bulkApply_stores (s : State) (b : Bulk) (sok : StoresOk s) :
    StoresOk (State.bulkApply s b) := by
  simp (maxDischargeDepth := 100) [State.bulkApply, sok]

@[simp] theorem State.bulkJoin_stores (s : State) (b : Bulk) (h0 : Hdp) (sok : StoresOk s) :
    StoresOk (State.bulkJoin s b h0) := by
  simp (maxDischargeDepth := 100) [State.bulkJoin, sok]

@[simp] theorem State.bulkFirst_stores (s : State) (h0 : Hdp) (sok : StoresOk s) :
    StoresOk (State.bulkFirst s h0) := by
  simp only [State.bulkFirst]; (repeat' split) <;> simp (maxDischargeDepth := 100) [sok]

@[simp] theorem State.hdpWriteBulk_stores (s : State) (h0 : Hdp) (sok : StoresOk s) :
    StoresOk (State.hdpWriteBulk s h0) := by
  simp only [State.hdpWriteBulk]; (repeat' split) <;> simp (maxDischargeDepth := 100) [sok]

@[simp] theorem State.bulkTimeout_stores (s : State) (k : Nat) (x : Nat) (sok : StoresOk s) :
    StoresOk (State.bulkTimeout s k x) := by
  simp only [State.bulkTimeout]; split <;> simp (maxDischargeDepth := 100) [sok]

@[simp] theorem State.hdpSubscribe_stores (s : State) (port : Nat) (enc : Encap) (h0 : Hdp) (sok : StoresOk s) :
    StoresOk (State.hdpSubscribe s port enc h0) := by
  simp (maxDischargeDepth := 100) [State.hdpSubscribe, sok]

@[simp] theorem State.hdpCommit_stores (s : State) (h0 : Hdp) (sok : StoresOk s) :
    StoresOk (State.hdpCommit s h0) := by
  simp +contextual (maxDischargeDepth := 100) [State.hdpCommit, sok]

@[simp] theorem State.hdpAbort_stores (s : State) (h0 : Hdp) (sok : StoresOk s) :
    StoresOk (State.hdpAbort s h0) := by
  simp only [State.hdpAbort]; (repeat' split) <;> simp +contextual (maxDischargeDepth := 100) [sok]

@[simp] theorem State.accept_stores (s : State) (h0 : Hdp) (sok : StoresOk s) :
    StoresOk (State.accept s h0) := by
  simp (maxDischargeDepth := 100) [State.accept, sok]

@[simp] theorem State.serve_stores (s : State) (port : Nat) (enc : Encap) (h0 : Hdp) (sok : StoresOk s) :
    StoresOk (State.serve s port enc h0) := by
  simp (maxDischargeDepth := 100) [State.serve, sok]

@[simp] theorem State.takeIn_stores (s : State) (port : Nat) (enc : Encap) (h0 : Hdp) (m : List Byte) (sok :
    StoresOk s) :
    StoresOk (State.takeIn s port enc h0 m) := by
  simp (maxDischargeDepth := 100) [State.takeIn, sok]

@[simp] theorem State.hdpIn_stores (s : State) (ops : List Nat) (port : Nat) (enc : Encap) (m : List Byte) (sok :
    StoresOk s) :
    StoresOk (State.hdpIn s ops port enc m) := by
  simp only [State.hdpIn]; (repeat' split) <;> simp (maxDischargeDepth := 100) [sok]

@[simp] theorem State.ceilingWritten_stores (s : State) (k : Nat) (sok : StoresOk s) :
    StoresOk (State.ceilingWritten s k) := by
  simp only [State.ceilingWritten]; (repeat' split) <;> simp +contextual (maxDischargeDepth := 100) [sok]

@[simp] theorem State.sessionIdle_stores (s : State) (k : Nat) (sok : StoresOk s) :
    StoresOk (State.sessionIdle s k) := by
  simp (maxDischargeDepth := 100) [State.sessionIdle, sok]

@[simp] theorem State.notify_stores (s : State) (k : Nat) (sok : StoresOk s) :
    StoresOk (State.notify s k) := by
  simp (maxDischargeDepth := 100) [State.notify, sok]

@[simp] theorem State.neighbor_stores (s : State) (port : Nat) (target : Nat) (sok : StoresOk s) :
    StoresOk (State.neighbor s port target) := by
  simp (maxDischargeDepth := 100) [State.neighbor, sok]

@[simp] theorem State.echo_stores (s : State) (port : Nat) (target : Nat) (payload : List Byte) (sok : StoresOk s) :
    StoresOk (State.echo s port target payload) := by
  simp (maxDischargeDepth := 100) [State.echo, sok]

/-! ### Machine/Matrix.lean -/

@[simp] theorem refusedEff_stores (s : State) (x : Txn) (sok : StoresOk s) :
    StoresOk (refusedEff s x).s := by
  simp (maxDischargeDepth := 100) [refusedEff, sok]

@[simp] theorem romEff_stores (s : State) (x : Txn) (sok : StoresOk s) :
    StoresOk (romEff s x).s := by
  simp (maxDischargeDepth := 100) [romEff, sok]

@[simp] theorem sramEff_stores (s : State) (x : Txn) (sok : StoresOk s) :
    StoresOk (sramEff s x).s := by
  simp (maxDischargeDepth := 100) [sramEff, sok]

@[simp] theorem State.flashSet_stores (s : State) (o : Nat) (b : Byte) (sok : StoresOk s) :
    StoresOk (State.flashSet s o b) := by
  simp (maxDischargeDepth := 100) [State.flashSet, sok]

@[simp] theorem flashCmdEff_stores (s : State) (o : Nat) (n : Nat) (d : List Byte) (sok : StoresOk s) :
    StoresOk (flashCmdEff s o n d).s := by
  simp +contextual (maxDischargeDepth := 100) [flashCmdEff, sok]

@[simp] theorem flashEff_stores (s : State) (x : Txn) (sok : StoresOk s) :
    StoresOk (flashEff s x).s := by
  simp only [flashEff]; (repeat' split) <;> simp (maxDischargeDepth := 100) [sok]

@[simp] theorem cryptoEff_stores (s : State) (x : Txn) (sok : StoresOk s) :
    StoresOk (cryptoEff s x).s := by
  simp (maxDischargeDepth := 100) [cryptoEff, sok]

@[simp] theorem bankReadEff_stores (s : State) (x : Txn) (b : Nat) (sok : StoresOk s) :
    StoresOk (bankReadEff s x b).s := by
  simp +contextual (maxDischargeDepth := 100) [bankReadEff, sok]

@[simp] theorem bankWriteEff_stores (s : State) (x : Txn) (b : Nat) (sok : StoresOk s) :
    StoresOk (bankWriteEff s x b).s := by
  simp +contextual (maxDischargeDepth := 100) [bankWriteEff, sok]

@[simp] theorem bankAtomicEff_stores (s : State) (x : Txn) (b : Nat) (sok : StoresOk s) :
    StoresOk (bankAtomicEff s x b).s := by
  simp (maxDischargeDepth := 100) [bankAtomicEff, sok]

@[simp] theorem bankEff_stores (s : State) (x : Txn) (sok : StoresOk s) :
    StoresOk (bankEff s x).s := by
  simp (maxDischargeDepth := 100) [bankEff, sok]

@[simp] theorem ddrEff_stores (s : State) (x : Txn) (sok : StoresOk s) :
    StoresOk (ddrEff s x).s := by
  simp (maxDischargeDepth := 100) [ddrEff, sok]

@[simp] theorem State.t5ClearSlot_stores (s : State) (i : Nat) (e : Nat) (k : Nat) (lo : Nat) (hi : Nat) (v : List
    Byte) (sok : StoresOk s) :
    StoresOk (State.t5ClearSlot s i e k lo hi v) := by
  simp (maxDischargeDepth := 100) [State.t5ClearSlot, sok]

@[simp] theorem State.t5ReadSlot_stores (s : State) (m : Nat) (o : Nat) (lo : Nat) (hi : Nat) (sok : StoresOk s) :
    StoresOk (State.t5ReadSlot s m o lo hi).1 := by
  simp only [State.t5ReadSlot]; (repeat' split) <;> simp (maxDischargeDepth := 100) [sok]

@[simp] theorem State.t5WriteSlot_stores (s : State) (m : Nat) (o : Nat) (d : List Byte) (sok : StoresOk s) :
    StoresOk (State.t5WriteSlot s m o d) := by
  simp only [State.t5WriteSlot]; (repeat' split) <;> simp (maxDischargeDepth := 100) [sok]

@[simp] theorem State.quiet_stores (s : State) (t : State) (sok : StoresOk t) :
    StoresOk (State.quiet s t) := by
  simp (maxDischargeDepth := 100) [State.quiet, sok]

@[simp] theorem t5ReadEff_stores (s : State) (x : Txn) (sok : StoresOk s) :
    StoresOk (t5ReadEff s x).s := by
  simp +contextual (maxDischargeDepth := 100) [t5ReadEff, sok]

@[simp] theorem t5WriteEff_stores (s : State) (x : Txn) (sok : StoresOk s) :
    StoresOk (t5WriteEff s x).s := by
  simp +contextual (maxDischargeDepth := 100) [t5WriteEff, sok]

@[simp] theorem regEff_stores (s : State) (x : Txn) (sok : StoresOk s) :
    StoresOk (regEff s x).s := by
  simp (maxDischargeDepth := 100) [regEff, sok]

@[simp] theorem State.issue_stores (s : State) (m : Nat) (id : Nat) (kind : Nat) (addr : Nat) (len : Nat) (data :
    List (Byte × Bool)) (operand : Nat) (flip : Nat) (fetch : Bool) (sok : StoresOk s) :
    StoresOk (State.issue s m id kind addr len data operand flip fetch) := by
  simp (maxDischargeDepth := 100) [State.issue, sok]

@[simp] theorem targetEff_stores (s : State) (x : Txn) (sok : StoresOk s) :
    StoresOk (targetEff s x).s := by
  simp (maxDischargeDepth := 100) [targetEff, sok]

@[simp] theorem State.putTxn_stores (s : State) (x : Txn) (y : Txn) (sok : StoresOk s) :
    StoresOk (State.putTxn s x y) := by
  simp (maxDischargeDepth := 100) [State.putTxn, sok]

@[simp] theorem State.perform_stores (s : State) (x : Txn) (sok : StoresOk s) :
    StoresOk (State.perform s x) := by
  simp (maxDischargeDepth := 100) [State.perform, sok]

@[simp] theorem State.deliver_stores (s : State) (t : Nat) (sok : StoresOk s) :
    StoresOk (State.deliver s t) := by
  simp +contextual (maxDischargeDepth := 100) [State.deliver, sok]

@[simp] theorem State.grantTxn_stores (s : State) (x : Txn) (sok : StoresOk s) :
    StoresOk (State.grantTxn s x) := by
  simp (maxDischargeDepth := 100) [State.grantTxn, sok]

@[simp] theorem State.aged_stores (s : State) (dt : Nat) (sok : StoresOk s) :
    StoresOk (State.aged s dt) := by
  simp (maxDischargeDepth := 100) [State.aged, sok]

@[simp] theorem State.grant_stores (s : State) (t : Nat) (dt : Nat) (sok : StoresOk s) :
    StoresOk (State.grant s t dt) := by
  simp only [State.grant]; split <;> simp (maxDischargeDepth := 100) [sok]

@[simp] theorem State.respondTxn_stores (s : State) (t : Nat) (sok : StoresOk s) :
    StoresOk (State.respondTxn s t) := by
  simp only [State.respondTxn]; split <;> simp (maxDischargeDepth := 100) [sok]

@[simp] theorem State.txnTimeout_stores (s : State) (m : Nat) (id : Nat) (sok : StoresOk s) :
    StoresOk (State.txnTimeout s m id) := by
  simp only [State.txnTimeout]; (repeat' split) <;> simp (maxDischargeDepth := 100) [sok]

@[simp] theorem State.errLogRead_stores (s : State) (w : Who) (first : Nat) (count : Nat) (sok : StoresOk s) :
    StoresOk (State.errLogRead s w first count) := by
  simp (maxDischargeDepth := 100) [State.errLogRead, sok]

/-! ### Machine/Rx.lean -/

@[simp] theorem State.rxWords_stores (s : State) (p : Nat) (v : RxView) (sok : StoresOk s) :
    StoresOk (State.rxWords s p v) := by
  unfold State.rxWords
  extract_lets _ _ _ _ _ _ _ _ s1 put s2 s3 s4
  have hp : ∀ t i e r, StoresOk t → StoresOk (put t i e r) := fun t i e r ht => by
    simp only [put]
    split_ifs <;> simp [ht]
  have h1 : StoresOk s1 := by simp [s1, sok]
  clear_value put s1
  have h4 : StoresOk s4 := by
    simp only [s4, s3, s2]
    split_ifs <;> simp (maxDischargeDepth := 100) [hp, h1]
  refine State.tieFails_stores _ (foldRange_stores _ _ _ h4 fun a i ha => ?_)
  split_ifs <;> simp [ha]

@[simp] theorem State.rxFsn_stores (s : State) (p : Nat) (v : RxView) (sok : StoresOk s) :
    StoresOk (State.rxFsn s p v) := by
  simp (maxDischargeDepth := 100) [State.rxFsn, sok]

@[simp] theorem State.rxTime_stores (s : State) (p : Nat) (v : RxView) (stamp : Nat) (sok : StoresOk s) :
    StoresOk (State.rxTime s p v stamp) := by
  simp only [State.rxTime]; split <;> simp (maxDischargeDepth := 100) [sok]

@[simp] theorem State.rxMsg_stores (s : State) (p : Nat) (v : RxView) (stamp : Nat) (sok : StoresOk s) :
    StoresOk (State.rxMsg s p v stamp) := by
  simp only [State.rxMsg]; (repeat' split) <;> simp (maxDischargeDepth := 100) [sok]

@[simp] theorem State.observe_stores (s : State) (p : Nat) (corr : Nat) (bad : Bool) (sok : StoresOk s) :
    StoresOk (State.observe s p corr bad) := by
  simp (maxDischargeDepth := 100) [State.observe, sok]

@[simp] theorem State.lineErrors_stores (s : State) (p : Nat) (v : RxView) (corr : Nat) (sok : StoresOk s) :
    StoresOk (State.lineErrors s p v corr) := by
  simp (maxDischargeDepth := 100) [State.lineErrors, sok]

@[simp] theorem State.flint_stores (s : State) (p : Nat) (d : Nat) (sok : StoresOk s) :
    StoresOk (State.flint s p d).1 := by
  simp (maxDischargeDepth := 100) [State.flint, sok]

@[simp] theorem State.rxFec_stores (s : State) (p : Nat) (d : Nat) (corr : Nat) (unc : Nat) (stamp : Nat) (sok :
    StoresOk s) :
    StoresOk (State.rxFec s p d corr unc stamp) := by
  simp (maxDischargeDepth := 100) [State.rxFec, sok]

@[simp] theorem State.rxHandshake_stores (s : State) (p : Nat) (v : RxView) (prev : Nat) (sok : StoresOk s) :
    StoresOk (State.rxHandshake s p v prev) := by
  simp only [State.rxHandshake]; split <;> simp (maxDischargeDepth := 100) [sok]

@[simp] theorem State.rxTake_stores (s : State) (p : Nat) (d : Nat) (stamp : Nat) (raw : List Bool) (sok : StoresOk
    s) :
    StoresOk (State.rxTake s p d stamp raw) := by
  simp (maxDischargeDepth := 100) [State.rxTake, sok]

@[simp] theorem State.rxFrame_stores (s : State) (p : Nat) (f : RxFrame) (sok : StoresOk s) :
    StoresOk (State.rxFrame s p f) := by
  simp (maxDischargeDepth := 100) [State.rxFrame, sok]

end Sys2Proof.Machine
end

