-- ==== Sys2Proof/Laws/Frame.lean ====
section
/-! SUPPORT. What each operation of the model may write, said once: a view of the state (State.see) that looks at none
of the places listed shows after the operation what it showed before. A place is one of the parts of Safety.lean (Part)
or an object of the dictionary. One lemma for each operation that answers a state, in the order of the files of
Machine/; an operation that writes an object named by its operand has a lemma about parts alone. To use them on a
register or on the clock, rewrite with reg_see or clk_see; for Part.same there is Part.same_of_see. -/

namespace Sys2Proof.Machine

/-! ### Views -/

/-- The type of what a part of the state holds. -/
abbrev Part.ty : Part → Type
  | .live | .crier => SMap Nat
  | .clk => Clk
  | .sys => SysS
  | .link => SMap LinkP
  | .linkq => SMap LinkQ
  | .rx => SMap RxG
  | .tx => SMap TxG
  | .fab => FabS
  | .map => MapS
  | .grp => GrpS
  | .prot => ProtS
  | .wit => SMap WStr
  | .ref => RefS
  | .tim => TimS
  | .mem => MemS
  | .mtx => MtxS
  | .fw => FwS
  | .asy => AsyS
  | .crierSlip => List Nat

/-- What a part of the state holds. -/
def State.part (s : State) : (p : Part) → p.ty
  | .live => s.live
  | .clk => s.clk
  | .sys => s.sys
  | .link => s.link
  | .linkq => s.linkq
  | .rx => s.rx
  | .tx => s.tx
  | .fab => s.fab
  | .map => s.map
  | .grp => s.grp
  | .prot => s.prot
  | .wit => s.wit
  | .ref => s.ref
  | .tim => s.tim
  | .mem => s.mem
  | .mtx => s.mtx
  | .fw => s.fw
  | .asy => s.asy
  | .crier => s.crier
  | .crierSlip => s.crierSlip

/-- A place that an operation may write: a part of the state, or an object of the dictionary. -/
inductive Place where
  | part (p : Part)
  | obj (i : Nat)
deriving DecidableEq, Repr

/-- What one looks at: a part of the state, or one element of an object. -/
inductive View where
  | part (p : Part)
  | reg (i e : Nat)
deriving DecidableEq, Repr

/-- The place that a view looks at. -/
def View.place : View → Place
  | .part p => .part p
  | .reg i _ => .obj i

abbrev View.ty : View → Type
  | .part p => p.ty
  | .reg _ _ => Nat

/-- What a view shows of a state. -/
def State.see (s : State) : (z : View) → z.ty
  | .part p => s.part p
  | .reg i e => s.reg i e

@[simp] theorem View.place_part (p : Part) : (View.part p).place = .part p := (rfl)
@[simp] theorem View.place_reg (i e : Nat) : (View.reg i e).place = .obj i := (rfl)

/-- A register as a view. -/
theorem reg_see (s : State) (i e : Nat) : s.reg i e = s.see (.reg i e) := rfl

/-- The clock as a view. -/
theorem clk_see (s : State) : s.clk = s.see (.part .clk) := rfl

/-- A part that looks the same is the same (Safety.lean). -/
theorem Part.same_of_see {p : Part} {s t : State} (h : t.see (.part p) = s.see (.part p)) : p.same s t := by
  cases p <;> exact h

theorem see_of_reg {s t : State} {z : View} (hp : ∀ p, z = .part p → t.part p = s.part p)
    (hr : ∀ i e, z = .reg i e → t.reg i e = s.reg i e) : t.see z = s.see z := by
  cases z with
  | part p => exact hp p rfl
  | reg i e => exact hr i e rfl

theorem notMem_cons {α : Type} {a b : α} {l : List α} : (a ∉ b :: l) = (a ≠ b ∧ a ∉ l) := by simp
theorem notMem_nil {α : Type} {a : α} : (a ∉ []) = True := by simp

@[simp] theorem ite_see {c : Prop} [Decidable c] (a b : State) {z : View} :
    (if c then a else b).see z = if c then a.see z else b.see z := apply_ite (fun x : State => x.see z) c a b

@[simp] theorem ite_fst_see {c : Prop} [Decidable c] {α : Type} (a b : State × α) :
    (if c then a else b).1 = if c then a.1 else b.1 := apply_ite (fun x : State × α => x.1) c a b

@[simp] theorem foldRange_see (n : Nat) (f : State → Nat → State) (s : State) {z : View}
    (h : ∀ a x, (f a x).see z = a.see z) : (foldRange n f s).see z = s.see z :=
  foldRange_same (fun t => t.see z) n f s h

@[simp] theorem foldl_see {γ : Type} (f : State → γ → State) (l : List γ) (s : State) {z : View}
    (h : ∀ a x, (f a x).see z = a.see z) : (l.foldl f s).see z = s.see z :=
  foldl_same (fun t => t.see z) f l s h

@[simp] theorem foldRange_fst_see {α : Type} (n : Nat) (f : State × α → Nat → State × α) (s : State × α) {z : View}
    (h : ∀ a x, (f a x).1.see z = a.1.see z) : (foldRange n f s).1.see z = s.1.see z :=
  foldRange_same (fun t => t.1.see z) n f s h

@[simp] theorem foldl_fst_see {γ α : Type} (f : State × α → γ → State × α) (l : List γ) (s : State × α) {z : View}
    (h : ∀ a x, (f a x).1.see z = a.1.see z) : (l.foldl f s).1.see z = s.1.see z :=
  foldl_same (fun t => t.1.see z) f l s h

/-- An update of fields other than the registers is not seen where the field updated is not looked at. -/
theorem see_mk (t : State) (live : SMap Nat) (clk : Clk) (sys : SysS) (out : Out) (rate : SMap Nat)
    (link : SMap LinkP) (linkq : SMap LinkQ) (rx : SMap RxG) (tx : SMap TxG) (fab : FabS) (map : MapS) (grp : GrpS)
    (prot : ProtS) (wit : SMap WStr) (led : LedS) (ref : RefS) (tim : TimS) (mem : MemS) (mtx : MtxS) (hdp : HdpS)
    (fw : FwS) (asy : AsyS) (tal : TalS) (crier : SMap Nat) (crierSlip : List Nat) (free : Nat) {q : List Instr} {z
    : View}
    (h1 : z.place = .part .live → live = t.live) (h2 : z.place = .part .clk → clk = t.clk)
    (h3 : z.place = .part .sys → sys = t.sys) (h4 : z.place = .part .link → link = t.link)
    (h5 : z.place = .part .linkq → linkq = t.linkq) (h6 : z.place = .part .rx → rx = t.rx)
    (h7 : z.place = .part .tx → tx = t.tx) (h8 : z.place = .part .fab → fab = t.fab)
    (h9 : z.place = .part .map → map = t.map) (h10 : z.place = .part .grp → grp = t.grp)
    (h11 : z.place = .part .prot → prot = t.prot) (h12 : z.place = .part .wit → wit = t.wit)
    (h13 : z.place = .part .ref → ref = t.ref) (h14 : z.place = .part .tim → tim = t.tim)
    (h15 : z.place = .part .mem → mem = t.mem) (h16 : z.place = .part .mtx → mtx = t.mtx)
    (h17 : z.place = .part .fw → fw = t.fw) (h18 : z.place = .part .asy → asy = t.asy)
    (h19 : z.place = .part .crier → crier = t.crier) (h20 : z.place = .part .crierSlip → crierSlip = t.crierSlip) :
    (State.mk q t.regs live clk sys out rate link linkq rx tx fab map grp prot wit led ref tim mem mtx hdp fw asy
    tal
      crier crierSlip free).see z = t.see z := by
  cases z with
  | reg i e => exact State.reg_congr rfl i e
  | part p =>
    cases p
    exacts [h1 rfl, h2 rfl, h3 rfl, h4 rfl, h5 rfl, h6 rfl, h7 rfl, h8 rfl, h9 rfl, h10 rfl, h11 rfl, h12 rfl,
      h13 rfl, h14 rfl, h15 rfl, h16 rfl, h17 rfl, h18 rfl, h19 rfl, h20 rfl]

/-- Nor is an update of the registers, where a part is looked at. -/
theorem see_mk_part (t : State) (live : SMap Nat) (clk : Clk) (sys : SysS) (out : Out) (rate : SMap Nat)
    (link : SMap LinkP) (linkq : SMap LinkQ) (rx : SMap RxG) (tx : SMap TxG) (fab : FabS) (map : MapS) (grp : GrpS)
    (prot : ProtS) (wit : SMap WStr) (led : LedS) (ref : RefS) (tim : TimS) (mem : MemS) (mtx : MtxS) (hdp : HdpS)
    (fw : FwS) (asy : AsyS) (tal : TalS) (crier : SMap Nat) (crierSlip : List Nat) (free : Nat) {r : SMap Nat} {z :
    Part}
    (h1 : z = .live → live = t.live) (h2 : z = .clk → clk = t.clk)
    (h3 : z = .sys → sys = t.sys) (h4 : z = .link → link = t.link)
    (h5 : z = .linkq → linkq = t.linkq) (h6 : z = .rx → rx = t.rx)
    (h7 : z = .tx → tx = t.tx) (h8 : z = .fab → fab = t.fab)
    (h9 : z = .map → map = t.map) (h10 : z = .grp → grp = t.grp)
    (h11 : z = .prot → prot = t.prot) (h12 : z = .wit → wit = t.wit)
    (h13 : z = .ref → ref = t.ref) (h14 : z = .tim → tim = t.tim)
    (h15 : z = .mem → mem = t.mem) (h16 : z = .mtx → mtx = t.mtx)
    (h17 : z = .fw → fw = t.fw) (h18 : z = .asy → asy = t.asy)
    (h19 : z = .crier → crier = t.crier) (h20 : z = .crierSlip → crierSlip = t.crierSlip) :
    (State.mk t.pending r live clk sys out rate link linkq rx tx fab map grp prot wit led ref tim mem mtx hdp fw
    asy tal
      crier crierSlip free).see (.part z) = t.see (.part z) := by
  cases z
  exacts [h1 rfl, h2 rfl, h3 rfl, h4 rfl, h5 rfl, h6 rfl, h7 rfl, h8 rfl, h9 rfl, h10 rfl, h11 rfl, h12 rfl, h13
    rfl,
    h14 rfl, h15 rfl, h16 rfl, h17 rfl, h18 rfl, h19 rfl, h20 rfl]

/-! ### Machine/Ops.lean -/

@[simp] theorem State.setReg_see (s : State) (i e v : Nat) {z : View} (h : z.place ≠ .obj i) :
    (s.setReg i e v).see z = s.see z := by
  cases z with
  | part p => cases p <;> rfl
  | reg j f => exact State.reg_setReg_obj s fun k => h (k ▸ rfl)

@[simp] theorem State.bump_see (s : State) (i e w n : Nat) {z : View} (h : z.place ≠ .obj i) :
    (s.bump i e w n).see z = s.see z := s.setReg_see i e _ h

@[simp] theorem State.setOct_see (s : State) (i e n k : Nat) (b : Bool) {z : View} (h : z.place ≠ .obj i) :
    (s.setOct i e n k b).see z = s.see z := s.setReg_see i e _ h

@[simp] theorem store_see (i e v : Nat) (s : State) {z : View} (h : z.place ≠ .obj i) :
    (store i e v s).1.see z = s.see z := s.setReg_see i e _ h

@[simp] theorem readClear_see (i e n : Nat) (s : State) {z : View} (h : z.place ≠ .obj i) :
    (readClear i e n s).1.see z = s.see z := s.setReg_see i e _ h

@[simp] theorem State.setLive_see (s : State) (i e v : Nat) {z : View} (h : z.place ≠ .part .live) :
    (s.setLive i e v).see z = s.see z := by
  simp [State.setLive, ↓see_mk, h]

@[simp] theorem State.setLink_see (s : State) (p : Nat) (l : LinkP) {z : View} (h : z.place ≠ .part .link) :
    (s.setLink p l).see z = s.see z := by
  simp [State.setLink, ↓see_mk, h]

@[simp] theorem State.setLinkQ_see (s : State) (p : Nat) (l : LinkQ) {z : View} (h : z.place ≠ .part .linkq) :
    (s.setLinkQ p l).see z = s.see z := by
  simp [State.setLinkQ, ↓see_mk, h]

@[simp] theorem State.setRx_see (s : State) (a : Nat) (g : RxG) {z : View} (h : z.place ≠ .part .rx) :
    (s.setRx a g).see z = s.see z := by
  simp [State.setRx, ↓see_mk, h]

@[simp] theorem State.setTx_see (s : State) (a : Nat) (g : TxG) {z : View} (h : z.place ≠ .part .tx) :
    (s.setTx a g).see z = s.see z := by
  simp [State.setTx, ↓see_mk, h]

@[simp] theorem State.setLine_see (s : State) (a : Nat) (l : LineS) {z : View} (h : z.place ≠ .part .grp) :
    (s.setLine a l).see z = s.see z := by
  simp [State.setLine, ↓see_mk, h]

@[simp] theorem State.setCtx_see (s : State) (c : Nat) (x : CtxS) {z : View} (h : z.place ≠ .part .grp) :
    (s.setCtx c x).see z = s.see z := by
  simp [State.setCtx, ↓see_mk, h]

@[simp] theorem State.setStream_see (s : State) (k : Nat) (x : WStr) {z : View} (h : z.place ≠ .part .wit) :
    (s.setStream k x).see z = s.see z := by
  simp [State.setStream, ↓see_mk, h]

@[simp] theorem State.setInput_see (s : State) (i : Nat) (x : InS) {z : View} (h : z.place ≠ .part .ref) :
    (s.setInput i x).see z = s.see z := by
  simp [State.setInput, ↓see_mk, h]

@[simp] theorem State.setSession_see (s : State) (k : Nat) (x : Ses) {z : View} :
    (s.setSession k x).see z = s.see z := by
  simp [State.setSession, ↓see_mk]

@[simp] theorem State.freeTaken_see (s : State) {z : View} :
    (s.freeTaken).see z = s.see z := by
  simp [State.freeTaken, ↓see_mk]

@[simp] theorem State.send_see (s : State) (m : Sent) {z : View} :
    (s.send m).see z = s.see z := by
  simp [State.send, ↓see_mk]

@[simp] theorem State.answer_see (s : State) (c : Nat) {z : View} :
    (s.answer c).see z = s.see z := by
  simp [State.answer, ↓see_mk]

@[simp] theorem State.give_see (s : State) (v : List Byte) {z : View} :
    (s.give v).see z = s.see z := by
  simp [State.give, ↓see_mk]

@[simp] theorem State.fresh_see (s : State) {z : View} :
    (s.fresh).see z = s.see z := by
  simp [State.fresh, ↓see_mk]

@[simp] theorem State.withQueue_see (s : State) (q : List Instr) {z : View} :
    (s.withQueue q).see z = s.see z := by
  simp [State.withQueue, ↓see_mk]

@[simp] theorem State.setTime_see (s : State) (t : Nat) (lt : Nat) (inc : Nat) {z : View} (h : z.place ∉ [.part
    .tim]) :
    (State.setTime s t lt inc).see z = s.see z := by
  simp only [notMem_cons, notMem_nil, and_true] at h
  simp only [State.setTime]; simp [↓see_mk, h]

@[simp] theorem State.stepPast_see (s : State) (old : Nat) (new : Nat) {z : View} (h : z.place ∉ [.part .tim]) :
    (State.stepPast s old new).see z = s.see z := by
  simp only [notMem_cons, notMem_nil, and_true] at h
  simp only [State.stepPast]; simp [↓see_mk, h]

@[simp] theorem State.jumpTime_see (s : State) (lt : Nat) {z : View} (h : z.place ∉ [.part .tim]) :
    (State.jumpTime s lt).see z = s.see z := by
  simp only [notMem_cons, notMem_nil, and_true] at h
  simp only [State.jumpTime]; simp [h]

@[simp] theorem State.openBanks_see (s : State) (o : Nat) {z : View} (h : z.place ∉ [.part .mem]) :
    (State.openBanks s o).see z = s.see z := by
  simp only [notMem_cons, notMem_nil, and_true] at h
  simp only [State.openBanks]; simp [↓see_mk, h]

@[simp] theorem State.latch_see (s : State) (ev : Nat) {z : View}
    (h : z.place ∉ [.obj O.eventCount, .obj O.eventLastTime, .obj O.eventLatch]) :
    (State.latch s ev).see z = s.see z := by
  simp only [notMem_cons, notMem_nil, and_true] at h
  simp only [State.latch]; simp [↓ite_see, h]

@[simp] theorem State.notifyOne_see (s : State) (ev : Nat) {z : View}
    (h : z.place ∉ [.obj O.eventCount, .obj O.eventLastTime, .obj O.eventLatch, .obj O.hdpStats]) :
    (State.notifyOne s ev).1.see z = s.see z := by
  simp only [notMem_cons, notMem_nil, and_true] at h
  simp only [State.notifyOne]; simp [↓ite_see, h]

@[simp] theorem State.notifyAll_see (s : State) (ev : Nat) {z : View}
    (h : z.place ∉ [.obj O.eventCount, .obj O.eventLastTime, .obj O.eventLatch, .obj O.hdpStats]) :
    (State.notifyAll s ev).see z = s.see z := by
  simp only [notMem_cons, notMem_nil, and_true] at h
  refine s.notifyAll_same (fun t => t.see z) ev fun a e => State.notifyOne_see a e ?_
  simp only [notMem_cons, notMem_nil, and_true]
  exact h

@[simp] theorem State.raise_see (s : State) (ev : Nat) {z : View}
    (h : z.place ∉ [.obj O.eventCount, .obj O.eventLastTime, .obj O.eventLatch, .obj O.hdpStats]) :
    (State.raise s ev).see z = s.see z := by
  simp only [notMem_cons, notMem_nil, and_true] at h
  simp only [State.raise]; simp [↓ite_see, h]

@[simp] theorem State.raiseLim_see (s : State) (ev : Nat) (k : Nat) (n : Nat) {z : View}
    (h : z.place ∉ [.obj O.eventCount, .obj O.eventLastTime, .obj O.eventLatch, .obj O.hdpStats]) :
    (State.raiseLim s ev k n).see z = s.see z := by
  simp only [notMem_cons, notMem_nil, and_true] at h
  simp only [State.raiseLim]; simp [↓see_mk, ↓ite_see, h]

@[simp] theorem State.counted_see (s : State) (i : Nat) (n : Nat) {z : View} :
    (State.counted s i n).1.see z = s.see z := by
  simp only [State.counted]; simp [↓see_mk]

@[simp] theorem State.talRecord_see (s : State) (i : Nat) {z : View} (h : z.place ∉ [.obj O.tallyOvfCount]) :
    (State.talRecord s i).1.see z = s.see z := by
  simp only [notMem_cons, notMem_nil, and_true] at h
  simp only [State.talRecord]; simp [↓see_mk, h]

@[simp] theorem State.talSample_see (s : State) (i : Nat) {z : View} (h : z.place ∉ [.obj O.tallyOvfCount]) :
    (State.talSample s i).see z = s.see z := by
  simp only [notMem_cons, notMem_nil, and_true] at h
  simp only [State.talSample]; simp [↓ite_see, h]

@[simp] theorem State.tally_see (s : State) (i : Nat) (n : Nat) {z : View} (h : z.place ∉ [.obj O.tallyOvfCount]) :
    (State.tally s i n).see z = s.see z := by
  simp only [notMem_cons, notMem_nil, and_true] at h
  simp only [State.tally]
  split_ifs
  · rfl
  · exact (foldRange_see _ _ _ fun a x => by simp [h]).trans (by simp)
  · simp

@[simp] theorem State.tokTake_see (s : State) (d : Nat) (h0 : Nat) {z : View}
    (h : z.place ∉ [.obj O.eventCount, .obj O.eventLastTime, .obj O.eventLatch, .obj O.hdpStats,
      .obj O.maintTokenHolder, .obj O.maintTokenSince]) :
    (State.tokTake s d h0).see z = s.see z := by
  simp only [notMem_cons, notMem_nil, and_true] at h
  simp only [State.tokTake]; simp [↓ite_see, h]

@[simp] theorem State.tokDrop_see (s : State) (d : Nat) {z : View}
    (h : z.place ∉ [.obj O.eventCount, .obj O.eventLastTime, .obj O.eventLatch, .obj O.hdpStats,
      .obj O.maintTokenHolder]) :
    (State.tokDrop s d).see z = s.see z := by
  simp only [notMem_cons, notMem_nil, and_true] at h
  simp only [State.tokDrop]; simp [↓ite_see, h]

@[simp] theorem State.actStart_see (s : State) (d : Nat) (h0 : Nat) {z : View}
    (h : z.place ∉ [.obj O.eventCount, .obj O.eventLastTime, .obj O.eventLatch, .obj O.hdpStats,
      .obj O.maintTokenHolder, .obj O.maintTokenSince]) :
    (State.actStart s d h0).see z = s.see z := by
  simp only [notMem_cons, notMem_nil, and_true] at h
  simp only [State.actStart]; simp [↓see_mk, h]

@[simp] theorem State.actEnd_see (s : State) (d : Nat) {z : View}
    (h : z.place ∉ [.obj O.eventCount, .obj O.eventLastTime, .obj O.eventLatch, .obj O.hdpStats,
      .obj O.maintTokenHolder]) :
    (State.actEnd s d).see z = s.see z := by
  simp only [notMem_cons, notMem_nil, and_true] at h
  simp only [State.actEnd]; simp [↓see_mk, ↓ite_see, h]

@[simp] theorem State.setBusy_see (s : State) (k : Nat) (t : Nat) {z : View} (h : z.place ∉ [.part .tim]) :
    (State.setBusy s k t).see z = s.see z := by
  simp only [notMem_cons, notMem_nil, and_true] at h
  simp only [State.setBusy]; simp [↓see_mk, h]

@[simp] theorem State.sendPort_see (s : State) (k : Nat) (n : Nat) (m : Sent) {z : View}
    (h : z.place ∉ [.part .tim]) :
    (State.sendPort s k n m).see z = s.see z := by
  simp only [notMem_cons, notMem_nil, and_true] at h
  simp only [State.sendPort]; simp [↓see_mk, ↓ite_see, h]

@[simp] theorem State.journal_see (s : State) (kind : Nat) (fsn : Nat) (items : List Byte) {z : View}
    (h : z.place ∉ [.obj O.eventCount, .obj O.eventLastTime, .obj O.eventLatch, .obj O.hdpStats,
      .obj O.ledgerJournalSeq]) :
    (State.journal s kind fsn items).see z = s.see z := by
  simp only [notMem_cons, notMem_nil, and_true] at h
  simp only [State.journal]; simp [↓see_mk, ↓ite_see, h]

@[simp] theorem State.refuse_see (s : State) (w : Who) (c : Nat) {z : View}
    (h : z.place ∉ [.obj O.dictLastRefusal]) :
    (State.refuse s w c).see z = s.see z := by
  simp only [notMem_cons, notMem_nil, and_true] at h
  simp only [State.refuse]; split <;> simp [h]

@[simp] theorem State.record_see (s : State) (idx : Nat) (e : Nat) (v : Nat) {z : View}
    (h : z.place ∉ [.obj O.eventCount, .obj O.eventLastTime, .obj O.eventLatch, .obj O.hdpStats,
      .obj O.ledgerJournalSeq]) :
    (State.record s idx e v).see z = s.see z := by
  simp only [notMem_cons, notMem_nil, and_true] at h
  simp only [State.record]; split <;> simp [↓ite_see, h]

@[simp] theorem State.write_see (s : State) (w : Who) (idx : Nat) (e : Nat) (v : Nat) (op : State → State × Nat)
    (pre : Nat) {z : View}
    (h : z.place ∉ [.obj O.dictLastRefusal, .obj O.eventCount, .obj O.eventLastTime, .obj O.eventLatch,
      .obj O.hdpStats, .obj O.ledgerJournalSeq]) (hop : ∀ t, (op t).1.see z = t.see z) :
    (State.write s w idx e v op pre).see z = s.see z := by
  simp only [notMem_cons, notMem_nil, and_true] at h
  simp only [State.write]; simp [↓ite_see, h, hop]

@[simp] theorem State.readWith_see (s : State) (w : Who) (idx : Nat) (e : Nat) (f : State → State × List Byte) {z :
    View} (hf : ∀ t, (f t).1.see z = t.see z) :
    (State.readWith s w idx e f).see z = s.see z := by
  simp only [State.readWith]; simp [↓ite_see, hf]

@[simp] theorem State.writeBytes_see (s : State) (w : Who) (idx : Nat) (e : Nat) (n : Nat) (v : List Byte)
    (op : State → State × Nat) {z : View}
    (h : z.place ∉ [.obj O.dictLastRefusal]) (hop : ∀ t, (op t).1.see z = t.see z) :
    (State.writeBytes s w idx e n v op).see z = s.see z := by
  simp only [notMem_cons, notMem_nil, and_true] at h
  simp only [State.writeBytes]; simp [↓ite_see, h, hop]

@[simp] theorem State.enter_see (s : State) (m : Mode) {z : View}
    (h : z.place ∉ [.obj O.eventCount, .obj O.eventLastTime, .obj O.eventLatch, .obj O.hdpStats, .obj O.protState,
      .obj O.sysModeFsn, .part .sys]) :
    (State.enter s m).see z = s.see z := by
  simp only [notMem_cons, notMem_nil, and_true] at h
  simp only [State.enter]; simp [↓see_mk, ↓ite_see, h]

@[simp] theorem State.asyLog_see (s : State) (t : TestT) (outcome : Nat) (repair : Nat) {z : View}
    (h : z.place ∉ [.part .asy]) :
    (State.asyLog s t outcome repair).see z = s.see z := by
  simp only [notMem_cons, notMem_nil, and_true] at h
  simp only [State.asyLog]; simp [↓see_mk, h]

@[simp] theorem State.asyShow_see (s : State) (g : Nat) {z : View}
    (h : z.place ∉ [.obj O.assayActive, .obj O.assayQueueLen]) :
    (State.asyShow s g).see z = s.see z := by
  simp only [notMem_cons, notMem_nil, and_true] at h
  simp only [State.asyShow]; simp [h]

@[simp] theorem State.testRun_see (s : State) (g : Nat) (t : TestT) {z : View}
    (h : z.place ∉ [.obj O.assayActive, .obj O.assayQueueLen, .obj O.assayTestResult, .obj O.tallyOvfCount,
      .part .linkq, .part .asy]) :
    (State.testRun s g t).see z = s.see z := by
  simp only [notMem_cons, notMem_nil, and_true] at h
  simp only [State.testRun]; simp [↓see_mk, ↓ite_see, h]

@[simp] theorem State.asyEnqueue_see (s : State) (t : TestT) {z : View}
    (h : z.place ∉ [.obj O.assayActive, .obj O.assayDropped, .obj O.assayQueueLen, .obj O.assayTestResult,
      .obj O.eventCount, .obj O.eventLastTime, .obj O.eventLatch, .obj O.hdpStats, .obj O.tallyOvfCount,
      .part .linkq, .part .asy]) :
    (State.asyEnqueue s t).see z = s.see z := by
  simp only [notMem_cons, notMem_nil, and_true] at h
  simp only [State.asyEnqueue]; (repeat' split) <;> simp [↓see_mk, h]

@[simp] theorem State.pathMark_see (s : State) (res : Nat) {z : View} (h : z.place ∉ [.part .asy]) :
    (State.pathMark s res).see z = s.see z := by
  simp only [notMem_cons, notMem_nil, and_true] at h
  simp only [State.pathMark]; split <;> simp [↓see_mk, ↓ite_see, h]

@[simp] theorem State.assayError_see (s : State) (kind : Nat) (res : Nat) {z : View}
    (h : z.place ∉ [.obj O.assayActive, .obj O.assayDropped, .obj O.assayErrors, .obj O.assayQueueLen,
      .obj O.assayTestResult, .obj O.eventCount, .obj O.eventLastTime, .obj O.eventLatch, .obj O.hdpStats,
      .obj O.tallyOvfCount, .part .linkq, .part .asy]) :
    (State.assayError s kind res).see z = s.see z := by
  simp only [notMem_cons, notMem_nil, and_true] at h
  simp only [State.assayError]; simp [↓ite_see, h]

@[simp] theorem State.hostTest_see (s : State) (h0 : Nat) (res : Nat) (kind : Nat) (rank : Nat) {z : View}
    (h : z.place ∉ [.obj O.assayActive, .obj O.assayDropped, .obj O.assayQueueLen, .obj O.assayTestResult,
      .obj O.eventCount, .obj O.eventLastTime, .obj O.eventLatch, .obj O.hdpStats, .obj O.maintTokenHolder,
      .obj O.maintTokenSince, .obj O.tallyOvfCount, .part .linkq, .part .asy]) :
    (State.hostTest s h0 res kind rank).see z = s.see z := by
  simp only [notMem_cons, notMem_nil, and_true] at h
  simp only [State.hostTest]; split <;> simp [↓see_mk, ↓ite_see, h]

@[simp] theorem State.settleMtx_see (s : State) (late : Bool) {z : View} (h : z.place ∉ [.part .mtx]) :
    (State.settleMtx s late).see z = s.see z := by
  simp only [notMem_cons, notMem_nil, and_true] at h
  simp only [State.settleMtx]; simp [↓see_mk, h]

/-! ### Machine/MapOps.lean -/

@[simp] theorem State.commitStart_see (s : State) (origin : Nat) (mode : Nat) (f : Nat) (h0 : Nat) {z : View}
    (h : z.place ∉ [.obj O.eventCount, .obj O.eventLastTime, .obj O.eventLatch, .obj O.hdpStats,
      .obj O.maintTokenHolder, .obj O.maintTokenSince, .obj O.mapState, .part .map, .part .mem]) :
    (State.commitStart s origin mode f h0).see z = s.see z := by
  simp only [notMem_cons, notMem_nil, and_true] at h
  simp only [State.commitStart]; simp [↓see_mk, ↓ite_see, h]

@[simp] theorem State.repairCommit_see (s : State) (origin : Nat) {z : View}
    (h : z.place ∉ [.obj O.eventCount, .obj O.eventLastTime, .obj O.eventLatch, .obj O.hdpStats,
      .obj O.maintTokenHolder, .obj O.maintTokenSince, .obj O.mapState, .part .map, .part .mem]) :
    (State.repairCommit s origin).see z = s.see z := by
  simp only [notMem_cons, notMem_nil, and_true] at h
  simp only [State.repairCommit]; simp [h]

@[simp] theorem State.solveBusy_see (s : State) {z : View} (h : z.place ∉ [.obj O.tallyOvfCount, .part .map]) :
    (State.solveBusy s).see z = s.see z := by
  simp only [notMem_cons, notMem_nil, and_true] at h
  simp only [State.solveBusy]; simp [↓see_mk, ↓ite_see, h]

@[simp] theorem State.commitStop_see (s : State) (code : Nat) {z : View}
    (h : z.place ∉ [.obj O.eventCount, .obj O.eventLastTime, .obj O.eventLatch, .obj O.hdpStats,
      .obj O.maintTokenHolder, .obj O.mapResult, .obj O.mapState, .obj O.tallyOvfCount, .part .sys, .part .map]) :
    (State.commitStop s code).see z = s.see z := by
  simp only [notMem_cons, notMem_nil, and_true] at h
  simp only [State.commitStop]; simp [↓see_mk, ↓ite_see, h]

@[simp] theorem State.repairNext_see (s : State) (lode : Bool) (lines : Bool) {z : View}
    (h : z.place ∉ [.obj O.eventCount, .obj O.eventLastTime, .obj O.eventLatch, .obj O.hdpStats,
      .obj O.maintTokenHolder, .obj O.maintTokenSince, .obj O.mapState, .part .map, .part .mem]) :
    (State.repairNext s lode lines).see z = s.see z := by
  simp only [notMem_cons, notMem_nil, and_true] at h
  simp only [State.repairNext]; simp [↓ite_see, h]

@[simp] theorem State.commitEnd_see (s : State) (code : Nat) {z : View}
    (h : z.place ∉ [.obj O.eventCount, .obj O.eventLastTime, .obj O.eventLatch, .obj O.hdpStats,
      .obj O.maintTokenHolder, .obj O.maintTokenSince, .obj O.mapResult, .obj O.mapState, .obj O.tallyOvfCount,
      .part .sys, .part .map, .part .mem]) :
    (State.commitEnd s code).see z = s.see z := by
  simp only [notMem_cons, notMem_nil, and_true] at h
  simp only [State.commitEnd]; simp [h]

@[simp] theorem State.commitRequest_see (s : State) (h0 : Nat) (mode : Nat) (origin : Nat) {z : View}
    (h : z.place ∉ [.obj O.eventCount, .obj O.eventLastTime, .obj O.eventLatch, .obj O.hdpStats,
      .obj O.maintTokenHolder, .obj O.maintTokenSince, .obj O.mapState, .part .map, .part .mem]) :
    (State.commitRequest s h0 mode origin).1.see z = s.see z := by
  simp only [notMem_cons, notMem_nil, and_true] at h
  simp only [State.commitRequest]; simp [↓ite_see, h]

@[simp] theorem State.solve_see (s : State) {z : View} (h : z.place ∉ [.part .map]) :
    (State.solve s).see z = s.see z := by
  simp only [notMem_cons, notMem_nil, and_true] at h
  simp only [State.solve]; simp [↓see_mk, h]

@[simp] theorem State.clearObj_see (s : State) (i : Nat) {z : Part} :
    (State.clearObj s i).see (.part z) = s.see (.part z) := by
  simp only [State.clearObj]; simp [↓see_mk_part]

@[simp] theorem State.clearLive_see (s : State) (i : Nat) {z : View} (h : z.place ∉ [.part .live]) :
    (State.clearLive s i).see z = s.see z := by
  simp only [notMem_cons, notMem_nil, and_true] at h
  simp only [State.clearLive]; simp [↓see_mk, h]

@[simp] theorem State.putMap_see (s : State) (i : Nat) (l : List (Nat × Nat)) {z : Part} :
    (State.putMap s i l).see (.part z) = s.see (.part z) := by
  simp only [State.putMap]; simp

@[simp] theorem State.solveDone_see (s : State) {z : Part} (h : z ∉ [.map]) :
    (State.solveDone s).see (.part z) = s.see (.part z) := by
  simp only [notMem_cons, notMem_nil, and_true] at h
  simp only [State.solveDone]; simp [↓see_mk_part, ↓ite_see, h]

@[simp] theorem State.loadStages_see (s : State) {z : View} (h : z.place ∉ [.part .fab, .part .map]) :
    (State.loadStages s).see z = s.see z := by
  simp only [notMem_cons, notMem_nil, and_true] at h
  simp only [State.loadStages]; simp [↓see_mk, ↓ite_see, h]

@[simp] theorem State.deadline_see (s : State) {z : View}
    (h : z.place ∉ [.obj O.eventCount, .obj O.eventLastTime, .obj O.eventLatch, .obj O.hdpStats,
      .obj O.maintTokenHolder, .obj O.maintTokenSince, .obj O.mapResult, .obj O.mapState, .obj O.tallyOvfCount,
      .part .sys, .part .fab, .part .map, .part .mem]) :
    (State.deadline s).see z = s.see z := by
  simp only [notMem_cons, notMem_nil, and_true] at h
  simp only [State.deadline]; simp [↓ite_see, h]

@[simp] theorem State.mapAbortOp_see (s : State) {z : View}
    (h : z.place ∉ [.obj O.eventCount, .obj O.eventLastTime, .obj O.eventLatch, .obj O.hdpStats,
      .obj O.maintTokenHolder, .obj O.maintTokenSince, .obj O.mapResult, .obj O.mapState, .obj O.tallyOvfCount,
      .part .sys, .part .map, .part .mem]) :
    (State.mapAbortOp s).1.see z = s.see z := by
  simp only [notMem_cons, notMem_nil, and_true] at h
  simp only [State.mapAbortOp]; simp [↓ite_see, h]

@[simp] theorem State.retireLode_see (s : State) (l : Nat) {z : View}
    (h : z.place ∉ [.obj O.eventCount, .obj O.eventLastTime, .obj O.eventLatch, .obj O.fabricLodeState,
      .obj O.hdpStats, .obj O.maintTokenHolder, .obj O.maintTokenSince, .obj O.mapResult, .obj O.mapState,
      .obj O.tallyOvfCount, .part .live, .part .sys, .part .map, .part .mem]) :
    (State.retireLode s l).see z = s.see z := by
  simp only [notMem_cons, notMem_nil, and_true] at h
  simp only [State.retireLode]; simp [↓see_mk, ↓ite_see, h]

@[simp] theorem State.commitRestep_see (s : State) {z : View}
    (h : z.place ∉ [.obj O.eventCount, .obj O.eventLastTime, .obj O.eventLatch, .obj O.hdpStats,
      .obj O.maintTokenHolder, .obj O.maintTokenSince, .obj O.mapBoundaryFsn, .obj O.mapResult, .obj O.mapState,
      .obj O.tallyOvfCount, .part .sys, .part .map, .part .mem]) :
    (State.commitRestep s).see z = s.see z := by
  simp only [notMem_cons, notMem_nil, and_true] at h
  simp only [State.commitRestep]; simp [↓see_mk, ↓ite_see, h]

@[simp] theorem draftSrcOp_see (a : Nat) (v : Nat) (s : State) {z : View} (h : z.place ∉ [.obj O.mapDraftSrc]) :
    (draftSrcOp a v s).1.see z = s.see z := by
  simp only [notMem_cons, notMem_nil, and_true] at h
  simp only [draftSrcOp]; simp [↓ite_see, h]

@[simp] theorem draftRevertOp_see (s : State) {z : Part} :
    (draftRevertOp s).1.see (.part z) = s.see (.part z) := by
  simp only [draftRevertOp]; simp [↓ite_see]

@[simp] theorem commitReqOp_see (h0 : Nat) (s : State) {z : View}
    (h : z.place ∉ [.obj O.eventCount, .obj O.eventLastTime, .obj O.eventLatch, .obj O.hdpStats,
      .obj O.maintTokenHolder, .obj O.maintTokenSince, .obj O.mapResult, .obj O.mapState, .part .map, .part .mem]) :
    (commitReqOp h0 s).1.see z = s.see z := by
  simp only [notMem_cons, notMem_nil, and_true] at h
  simp only [commitReqOp]; simp [↓ite_see, h]

@[simp] theorem lodeStateOp_see (h0 : Nat) (l : Nat) (v : Nat) (s : State) {z : View}
    (h : z.place ∉ [.obj O.assayActive, .obj O.assayDropped, .obj O.assayQueueLen, .obj O.assayTestResult,
      .obj O.eventCount, .obj O.eventLastTime, .obj O.eventLatch, .obj O.fabricLodeState, .obj O.hdpStats,
      .obj O.maintTokenHolder, .obj O.maintTokenSince, .obj O.tallyOvfCount, .part .linkq, .part .asy]) :
    (lodeStateOp h0 l v s).1.see z = s.see z := by
  simp only [notMem_cons, notMem_nil, and_true] at h
  simp only [lodeStateOp]; simp [↓see_mk, ↓ite_see, h]

/-! ### Machine/Grains.lean -/

@[simp] theorem State.grainChanged_see (s : State) (a : Nat) {z : View}
    (h : z.place ∉ [.obj O.eventCount, .obj O.eventLastTime, .obj O.eventLatch, .obj O.grainChanged,
      .obj O.hdpStats]) :
    (State.grainChanged s a).see z = s.see z := by
  simp only [notMem_cons, notMem_nil, and_true] at h
  simp only [State.grainChanged]; simp [h]

@[simp] theorem State.slipped_see (s : State) (a : Nat) {z : View}
    (h : z.place ∉ [.obj O.eventCount, .obj O.eventLastTime, .obj O.eventLatch, .obj O.grainChanged,
      .obj O.grainEsSlip, .obj O.hdpStats, .part .crierSlip]) :
    (State.slipped s a).see z = s.see z := by
  simp only [notMem_cons, notMem_nil, and_true] at h
  simp only [State.slipped]; simp [↓see_mk, h]

@[simp] theorem State.esWrite_see (s : State) (a : Nat) (u : SUnit) {z : View}
    (h : z.place ∉ [.obj O.eventCount, .obj O.eventLastTime, .obj O.eventLatch, .obj O.grainChanged,
      .obj O.grainCrcErr, .obj O.grainEsSlip, .obj O.grainRxTpob, .obj O.grainRxTsn, .obj O.grainTsnJump,
      .obj O.hdpStats, .part .rx, .part .crierSlip]) :
    (State.esWrite s a u).see z = s.see z := by
  simp only [notMem_cons, notMem_nil, and_true] at h
  simp only [State.esWrite]; (repeat' split) <;> simp [h]

@[simp] theorem State.esTake_see (s : State) (a : Nat) (n : Nat) {z : View}
    (h : z.place ∉ [.obj O.eventCount, .obj O.eventLastTime, .obj O.eventLatch, .obj O.grainChanged,
      .obj O.grainCrcErr, .obj O.grainEsSlip, .obj O.grainRxTpob, .obj O.grainRxTsn, .obj O.grainTsnJump,
      .obj O.hdpStats, .part .rx, .part .crierSlip]) :
    (State.esTake s a n).see z = s.see z := by
  simp only [notMem_cons, notMem_nil, and_true] at h
  simp only [State.esTake]; simp [h]

@[simp] theorem State.esPlan_see (s : State) (a : Nat) {z : View} (h : z.place ∉ [.obj O.grainEsFill, .part .rx]) :
    (State.esPlan s a).see z = s.see z := by
  simp only [notMem_cons, notMem_nil, and_true] at h
  simp only [State.esPlan]; simp [↓ite_see, h]

@[simp] theorem State.esStart_see (s : State) (a : Nat) {z : View} (h : z.place ∉ [.part .rx]) :
    (State.esStart s a).see z = s.see z := by
  simp only [notMem_cons, notMem_nil, and_true] at h
  simp only [State.esStart]; simp [↓ite_see, h]

@[simp] theorem State.esPop_see (s : State) (a : Nat) {z : View}
    (h : z.place ∉ [.obj O.eventCount, .obj O.eventLastTime, .obj O.eventLatch, .obj O.grainChanged,
      .obj O.grainEsSlip, .obj O.hdpStats, .part .rx, .part .crierSlip]) :
    (State.esPop s a).1.see z = s.see z := by
  simp only [notMem_cons, notMem_nil, and_true] at h
  simp only [State.esPop]; split <;> simp [↓ite_see, h]

@[simp] theorem State.esNote_see (s : State) (a : Nat) (n : Nat) (us : List SUnit) {z : View}
    (h : z.place ∉ [.part .rx]) :
    (State.esNote s a n us).see z = s.see z := by
  simp only [notMem_cons, notMem_nil, and_true] at h
  simp only [State.esNote]; simp [↓ite_see, h]

@[simp] theorem State.esRead_see (s : State) (a : Nat) (n : Nat) {z : View}
    (h : z.place ∉ [.obj O.eventCount, .obj O.eventLastTime, .obj O.eventLatch, .obj O.grainChanged,
      .obj O.grainEsSlip, .obj O.hdpStats, .part .rx, .part .crierSlip]) :
    (State.esRead s a n).1.see z = s.see z := by
  simp only [notMem_cons, notMem_nil, and_true] at h
  simp only [State.esRead]; simp [↓ite_see, h]

@[simp] theorem State.rxState_see (s : State) (a : Nat) (st : Nat) {z : View}
    (h : z.place ∉ [.obj O.eventCount, .obj O.eventLastTime, .obj O.eventLatch, .obj O.grainChanged,
      .obj O.grainRxState, .obj O.hdpStats]) :
    (State.rxState s a st).see z = s.see z := by
  simp only [notMem_cons, notMem_nil, and_true] at h
  simp only [State.rxState]; simp [↓ite_see, h]

@[simp] theorem State.rxRestart_see (s : State) (m : Nat) {z : View}
    (h : z.place ∉ [.obj O.eventCount, .obj O.eventLastTime, .obj O.eventLatch, .obj O.grainChanged,
      .obj O.grainRxState, .obj O.hdpStats, .part .rx]) :
    (State.rxRestart s m).see z = s.see z := by
  simp only [notMem_cons, notMem_nil, and_true] at h
  simp only [State.rxRestart]; simp [h]

@[simp] theorem State.portAis_see (s : State) (p : Nat) {z : View}
    (h : z.place ∉ [.obj O.eventCount, .obj O.eventLastTime, .obj O.eventLatch, .obj O.grainChanged,
      .obj O.grainRxState, .obj O.hdpStats, .part .rx]) :
    (State.portAis s p).see z = s.see z := by
  simp only [notMem_cons, notMem_nil, and_true] at h
  simp only [State.portAis]; simp [h]

@[simp] theorem State.rxGrain_see (s : State) (p : Nat) (ver : Nat) (g : Nat) (fld : Nat → Nat × Bool)
    (word : Nat → List Word) (nj : Nat → Word) {z : View}
    (h : z.place ∉ [.obj O.eventCount, .obj O.eventLastTime, .obj O.eventLatch, .obj O.grainChanged,
      .obj O.grainRxJust, .obj O.grainRxPtr, .obj O.grainRxState, .obj O.hdpStats, .obj O.tallyOvfCount, .part .rx]) :
    (State.rxGrain s p ver g fld word nj).see z = s.see z := by
  simp only [notMem_cons, notMem_nil, and_true] at h
  simp only [State.rxGrain]; simp [↓ite_see, h]

@[simp] theorem State.rxGrains_see (s : State) (p : Nat) (ver : Nat) (fld : Nat → Nat × Bool)
    (word : Nat → List Word) (nj : Nat → Word) {z : View}
    (h : z.place ∉ [.obj O.eventCount, .obj O.eventLastTime, .obj O.eventLatch, .obj O.grainChanged,
      .obj O.grainRxJust, .obj O.grainRxPtr, .obj O.grainRxState, .obj O.hdpStats, .obj O.tallyOvfCount, .part .rx]) :
    (State.rxGrains s p ver fld word nj).see z = s.see z := by
  simp only [notMem_cons, notMem_nil, and_true] at h
  unfold State.rxGrains; refine foldRange_see _ _ _ fun a x => ?_; (repeat' split) <;> simp [h]

@[simp] theorem State.genSlot_see (s : State) (a : Nat) (n : Nat) (n0 : Nat) (force : Bool) (bnd : Nat)
    (src : Bool) {z : View}
    (h : z.place ∉ [.obj O.grainTxJust, .obj O.grainTxPtr, .obj O.grainTxState, .obj O.tallyOvfCount, .part .tx]) :
    (State.genSlot s a n n0 force bnd src).see z = s.see z := by
  simp only [notMem_cons, notMem_nil, and_true] at h
  simp only [State.genSlot]; simp [↓ite_see, h]

@[simp] theorem State.ptrField_see (s : State) (a : Nat) (v : Nat) {z : View} (h : z.place ∉ [.part .linkq]) :
    (State.ptrField s a v).see z = s.see z := by
  simp only [notMem_cons, notMem_nil, and_true] at h
  simp only [State.ptrField]; simp [h]

@[simp] theorem State.ptrOut_see (s : State) (a : Nat) {z : View} (h : z.place ∉ [.part .linkq]) :
    (State.ptrOut s a).see z = s.see z := by
  simp only [notMem_cons, notMem_nil, and_true] at h
  simp only [State.ptrOut]; simp [h]

@[simp] theorem State.newDisplaced_see (s : State) (a : Nat) (n : Nat) (n0 : Nat) {z : View}
    (h : z.place ∉ [.obj O.grainTxPtr, .part .linkq, .part .tx]) :
    (State.newDisplaced s a n n0).see z = s.see z := by
  simp only [notMem_cons, notMem_nil, and_true] at h
  simp only [State.newDisplaced]; simp [↓ite_see, h]

@[simp] theorem State.genWord_see (s : State) (a : Nat) (n : Nat) (n0 : Nat) {z : View}
    (h : z.place ∉ [.part .tx]) :
    (State.genWord s a n n0).see z = s.see z := by
  simp only [notMem_cons, notMem_nil, and_true] at h
  simp only [State.genWord]; simp [↓ite_see, h]

/-! ### Machine/Groups.lean -/

@[simp] theorem State.findPlace_see (s : State) (bs : List Nat) (n : Nat) {z : View} :
    (State.findPlace s bs n).1.see z = s.see z := by
  simp only [State.findPlace]; simp

@[simp] theorem State.placeWords_see (s : State) (o : Nat) (n : Nat) (l : List (Nat × Nat)) {z : View} :
    (State.placeWords s o n l).1.see z = s.see z := by
  simp only [State.placeWords]; simp [↓ite_see]

@[simp] theorem State.placeResv_see (s : State) (r : Resv) {z : View} :
    (State.placeResv s r).1.see z = s.see z := by
  simp only [State.placeResv]; split <;> simp

@[simp] theorem State.placeAll_see (s : State) {z : View} (h : z.place ∉ [.part .grp]) :
    (State.placeAll s).see z = s.see z := by
  simp only [notMem_cons, notMem_nil, and_true] at h
  simp only [State.placeAll]; simp [↓see_mk, ↓ite_see, h]

@[simp] theorem State.reserve_see (s : State) (c : Nat) {z : View} (h : z.place ∉ [.part .grp]) :
    (State.reserve s c).see z = s.see z := by
  simp only [notMem_cons, notMem_nil, and_true] at h
  simp only [State.reserve]; simp [↓see_mk, h]

@[simp] theorem ctxOp_see (idx : Nat) (c : Nat) (v : Nat) (s : State) {z : Part} (h : z ∉ [.grp]) :
    (ctxOp idx c v s).1.see (.part z) = s.see (.part z) := by
  simp only [notMem_cons, notMem_nil, and_true] at h
  simp only [ctxOp]; simp [↓see_mk_part, ↓ite_see, h]

@[simp] theorem lineCtxOp_see (a : Nat) (v : Nat) (s : State) {z : View}
    (h : z.place ∉ [.obj O.groupLineCtx, .part .grp]) :
    (lineCtxOp a v s).1.see z = s.see z := by
  simp only [notMem_cons, notMem_nil, and_true] at h
  simp only [lineCtxOp]; simp [↓ite_see, h]

@[simp] theorem lineSqOp_see (a : Nat) (v : Nat) (s : State) {z : View} (h : z.place ∉ [.obj O.groupLineSq]) :
    (lineSqOp a v s).1.see z = s.see z := by
  simp only [notMem_cons, notMem_nil, and_true] at h
  simp only [lineSqOp]; simp [↓ite_see, h]

@[simp] theorem State.lineState_see (s : State) (a : Nat) (st : Nat) {z : View}
    (h : z.place ∉ [.obj O.eventCount, .obj O.eventLastTime, .obj O.eventLatch, .obj O.groupLineChanged,
      .obj O.groupLineState, .obj O.hdpStats, .part .grp]) :
    (State.lineState s a st).see z = s.see z := by
  simp only [notMem_cons, notMem_nil, and_true] at h
  simp only [State.lineState]; simp [↓ite_see, h]

@[simp] theorem State.lineTpoa_see (s : State) (a : Nat) (n : Nat) (t : Nat) (ws : List Word) {z : View}
    (h : z.place ∉ [.obj O.eventCount, .obj O.eventLastTime, .obj O.eventLatch, .obj O.groupLineChanged,
      .obj O.groupLineLateness, .obj O.groupLineSlack, .obj O.groupLineState, .obj O.hdpStats, .part .live,
      .part .grp]) :
    (State.lineTpoa s a n t ws).see z = s.see z := by
  simp only [notMem_cons, notMem_nil, and_true] at h
  simp only [State.lineTpoa]; (repeat' split) <;> simp [h]

@[simp] theorem State.lineWrite_see (s : State) (a : Nat) (n : Nat) (u : SUnit) {z : View}
    (h : z.place ∉ [.obj O.eventCount, .obj O.eventLastTime, .obj O.eventLatch, .obj O.groupLineChanged,
      .obj O.groupLineLateness, .obj O.groupLineSlack, .obj O.groupLineState, .obj O.hdpStats, .part .live,
      .part .grp]) :
    (State.lineWrite s a n u).see z = s.see z := by
  simp only [notMem_cons, notMem_nil, and_true] at h
  simp only [State.lineWrite]; (repeat' split) <;> simp [h]

@[simp] theorem State.lineFlags_see (s : State) (a : Nat) (tpob : Nat) {z : View}
    (h : z.place ∉ [.obj O.eventCount, .obj O.eventLastTime, .obj O.eventLatch, .obj O.groupLineFlags,
      .obj O.hdpStats]) :
    (State.lineFlags s a tpob).see z = s.see z := by
  simp only [notMem_cons, notMem_nil, and_true] at h
  simp only [State.lineFlags]; simp [↓ite_see, h]

@[simp] theorem State.lineOut_see (s : State) (a : Nat) (q : Nat × Nat) {z : View}
    (h : z.place ∉ [.obj O.eventCount, .obj O.eventLastTime, .obj O.eventLatch, .obj O.groupLineFlags,
      .obj O.hdpStats, .part .grp]) :
    (State.lineOut s a q).1.see z = s.see z := by
  simp only [notMem_cons, notMem_nil, and_true] at h
  simp only [State.lineOut]; split <;> simp [↓ite_see, h]

@[simp] theorem State.sieveChoose_see (s : State) (c : Nat) (a0 : Nat) (a1 : Nat) (t : Nat) (e : Int) {z : View}
    (h : z.place ∉ [.obj O.eventCount, .obj O.eventLastTime, .obj O.eventLatch, .obj O.groupSieveStats,
      .obj O.hdpStats, .obj O.tallyOvfCount, .part .grp]) :
    (State.sieveChoose s c a0 a1 t e).see z = s.see z := by
  simp only [notMem_cons, notMem_nil, and_true] at h
  simp only [State.sieveChoose]; simp [↓ite_see, h]

@[simp] theorem State.sieveOut_see (s : State) (c : Nat) (a0 : Nat) (a1 : Nat) (q : Nat × Nat) (e : Int) {z : View}
    (h : z.place ∉ [.obj O.eventCount, .obj O.eventLastTime, .obj O.eventLatch, .obj O.groupLineFlags,
      .obj O.groupSieveStats, .obj O.hdpStats, .obj O.tallyOvfCount, .part .grp]) :
    (State.sieveOut s c a0 a1 q e).1.see z = s.see z := by
  simp only [notMem_cons, notMem_nil, and_true] at h
  unfold State.sieveOut
  extract_lets s1 x at_ pick prev maj s2 s3 frm base tpob
  have k : s3.see z = s.see z := by simp [s3, s2, s1, ↓ite_see, h]
  clear_value s3 pick base tpob
  split_ifs <;> first | exact k | (cases base <;> exact k)

@[simp] theorem State.ctxStep_see (s : State) (c : Nat) {z : View}
    (h : z.place ∉ [.obj O.groupOffset, .part .grp]) :
    (State.ctxStep s c).see z = s.see z := by
  simp only [notMem_cons, notMem_nil, and_true] at h
  simp only [State.ctxStep]; simp [↓see_mk, h]

@[simp] theorem State.outs_see (s : State) (f : State → Nat × Nat → State × SUnit) (qs : List (Nat × Nat)) {z :
    View} (hf : ∀ t q, (f t q).1.see z = t.see z) :
    (State.outs s f qs).1.see z = s.see z := by
  exact foldl_same (fun r : State × List SUnit => r.1.see z) _ _ _ fun r q => hf r.1 q

@[simp] theorem State.groupOut_see (s : State) (a : Nat) (n : Nat) (us : List SUnit) {z : View}
    (h : z.place ∉ [.obj O.eventCount, .obj O.eventLastTime, .obj O.eventLatch, .obj O.groupLineChanged,
      .obj O.groupLineFlags, .obj O.groupLineLateness, .obj O.groupLineSlack, .obj O.groupLineState,
      .obj O.groupSieveStats, .obj O.hdpStats, .obj O.tallyOvfCount, .part .live, .part .grp]) :
    (State.groupOut s a n us).1.see z = s.see z := by
  simp only [notMem_cons, notMem_nil, and_true] at h
  simp only [State.groupOut]; split <;> simp [↓see_mk, ↓ite_see, h]

@[simp] theorem State.lineCapture_see (s : State) (a : Nat) (e : Int) {z : View}
    (h : z.place ∉ [.obj O.groupLineSlack, .part .grp]) :
    (State.lineCapture s a e).see z = s.see z := by
  simp only [notMem_cons, notMem_nil, and_true] at h
  simp only [State.lineCapture]; simp [↓ite_see, h]

@[simp] theorem State.capture_see (s : State) (c : Nat) {z : View}
    (h : z.place ∉ [.obj O.groupLineSlack, .obj O.groupOffset, .obj O.groupTarget, .part .grp]) :
    (State.capture s c).see z = s.see z := by
  simp only [notMem_cons, notMem_nil, and_true] at h
  simp only [State.capture]; split <;> simp [h]

@[simp] theorem State.captures_see (s : State) {z : View}
    (h : z.place ∉ [.obj O.groupLineSlack, .obj O.groupOffset, .obj O.groupTarget, .part .grp]) :
    (State.captures s).see z = s.see z := by
  simp only [notMem_cons, notMem_nil, and_true] at h
  simp only [State.captures]; simp [↓ite_see, h]

@[simp] theorem State.ctxMode_see (s : State) (c : Nat) (m : Nat) {z : View}
    (h : z.place ∉ [.obj O.eventCount, .obj O.eventLastTime, .obj O.eventLatch, .obj O.groupMode, .obj O.hdpStats,
      .part .grp]) :
    (State.ctxMode s c m).see z = s.see z := by
  simp only [notMem_cons, notMem_nil, and_true] at h
  simp only [State.ctxMode]; simp [h]

@[simp] theorem State.ctxFrame_see (s : State) (c : Nat) {z : View}
    (h : z.place ∉ [.obj O.eventCount, .obj O.eventLastTime, .obj O.eventLatch, .obj O.groupMode,
      .obj O.groupTarget, .obj O.hdpStats, .part .grp]) :
    (State.ctxFrame s c).see z = s.see z := by
  simp only [notMem_cons, notMem_nil, and_true] at h
  simp only [State.ctxFrame]; simp [↓ite_see, h]

@[simp] theorem State.linesFrame_see (s : State) {z : View} (h : z.place ∉ [.part .grp]) :
    (State.linesFrame s).see z = s.see z := by
  simp only [notMem_cons, notMem_nil, and_true] at h
  simp only [State.linesFrame]; simp [↓see_mk, h]

@[simp] theorem State.groupFrame_see (s : State) {z : View}
    (h : z.place ∉ [.obj O.eventCount, .obj O.eventLastTime, .obj O.eventLatch, .obj O.groupMode,
      .obj O.groupTarget, .obj O.hdpStats, .part .grp]) :
    (State.groupFrame s).see z = s.see z := by
  simp only [notMem_cons, notMem_nil, and_true] at h
  simp only [State.groupFrame]; simp [h]

@[simp] theorem State.lineStart_see (s : State) (c : Nat) (a : Nat) {z : View}
    (h : z.place ∉ [.obj O.eventCount, .obj O.eventLastTime, .obj O.eventLatch, .obj O.groupLineChanged,
      .obj O.groupLineState, .obj O.hdpStats, .part .grp]) :
    (State.lineStart s c a).see z = s.see z := by
  simp only [notMem_cons, notMem_nil, and_true] at h
  simp only [State.lineStart]; simp [↓see_mk, h]

@[simp] theorem State.slewLine_see (s : State) (e : Int) (a : Nat) {z : View}
    (h : z.place ∉ [.obj O.eventCount, .obj O.eventLastTime, .obj O.eventLatch, .obj O.groupLineChanged,
      .obj O.groupLineLateness, .obj O.groupLineSlack, .obj O.groupLineState, .obj O.hdpStats, .part .live,
      .part .grp]) :
    (State.slewLine s e a).see z = s.see z := by
  simp only [notMem_cons, notMem_nil, and_true] at h
  simp only [State.slewLine]; simp [h]

@[simp] theorem State.slewStart_see (s : State) (c : Nat) (ls : List Nat) {z : View}
    (h : z.place ∉ [.obj O.eventCount, .obj O.eventLastTime, .obj O.eventLatch, .obj O.groupLineChanged,
      .obj O.groupLineLateness, .obj O.groupLineSlack, .obj O.groupLineState, .obj O.groupOffset, .obj O.hdpStats,
      .part .live, .part .grp]) :
    (State.slewStart s c ls).see z = s.see z := by
  simp only [notMem_cons, notMem_nil, and_true] at h
  simp only [State.slewStart]; simp [h]

@[simp] theorem State.ctxStart_see (s : State) (c : Nat) {z : View}
    (h : z.place ∉ [.obj O.eventCount, .obj O.eventLastTime, .obj O.eventLatch, .obj O.groupLineChanged,
      .obj O.groupLineLateness, .obj O.groupLineSlack, .obj O.groupLineState, .obj O.groupMode, .obj O.groupOffset,
      .obj O.groupTarget, .obj O.hdpStats, .part .live, .part .grp]) :
    (State.ctxStart s c).see z = s.see z := by
  simp only [notMem_cons, notMem_nil, and_true] at h
  simp only [State.ctxStart]; simp [↓ite_see, h]

@[simp] theorem State.lineStop_see (s : State) (a : Nat) {z : View}
    (h : z.place ∉ [.obj O.eventCount, .obj O.eventLastTime, .obj O.eventLatch, .obj O.groupLineChanged,
      .obj O.groupLineState, .obj O.hdpStats, .part .grp]) :
    (State.lineStop s a).see z = s.see z := by
  simp only [notMem_cons, notMem_nil, and_true] at h
  simp only [State.lineStop]; (repeat' split) <;> simp [↓see_mk, h]

@[simp] theorem State.ctxStop_see (s : State) (c : Nat) {z : View} (h : z.place ∉ [.obj O.groupMode, .part .grp]) :
    (State.ctxStop s c).see z = s.see z := by
  simp only [notMem_cons, notMem_nil, and_true] at h
  simp only [State.ctxStop]; simp [h]

@[simp] theorem State.marginsDue_see (s : State) {z : View} (h : z.place ∉ [.part .grp]) :
    (State.marginsDue s).see z = s.see z := by
  simp only [notMem_cons, notMem_nil, and_true] at h
  simp only [State.marginsDue]; simp [↓see_mk, ↓ite_see, h]

@[simp] theorem State.lineScrub_see (s : State) (r : Resv) {z : View} (h : z.place ∉ [.part .mem]) :
    (State.lineScrub s r).see z = s.see z := by
  simp only [notMem_cons, notMem_nil, and_true] at h
  simp only [State.lineScrub]; simp [↓see_mk, h]

@[simp] theorem State.lineFreedOp_see (s : State) (a : Nat) {z : View}
    (h : z.place ∉ [.obj O.eventCount, .obj O.eventLastTime, .obj O.eventLatch, .obj O.groupMode, .obj O.hdpStats,
      .part .grp, .part .mem]) :
    (State.lineFreedOp s a).see z = s.see z := by
  simp only [notMem_cons, notMem_nil, and_true] at h
  simp only [State.lineFreedOp]; split <;> simp [↓see_mk, ↓ite_see, h]

@[simp] theorem State.lineLost_see (s : State) (a : Nat) (lost : Bool) {z : View}
    (h : z.place ∉ [.obj O.eventCount, .obj O.eventLastTime, .obj O.eventLatch, .obj O.groupLineChanged,
      .obj O.groupLineState, .obj O.hdpStats, .part .live, .part .grp]) :
    (State.lineLost s a lost).see z = s.see z := by
  simp only [notMem_cons, notMem_nil, and_true] at h
  simp only [State.lineLost]; simp [h]

@[simp] theorem State.ddrLinesAis_see (s : State) {z : View}
    (h : z.place ∉ [.obj O.eventCount, .obj O.eventLastTime, .obj O.eventLatch, .obj O.groupLineChanged,
      .obj O.groupLineState, .obj O.hdpStats, .part .live, .part .grp]) :
    (State.ddrLinesAis s).see z = s.see z := by
  simp only [notMem_cons, notMem_nil, and_true] at h
  simp only [State.ddrLinesAis]; simp [↓ite_see, h]

@[simp] theorem State.lineLateOp_see (s : State) (a : Nat) {z : View}
    (h : z.place ∉ [.obj O.eventCount, .obj O.eventLastTime, .obj O.eventLatch, .obj O.groupLineChanged,
      .obj O.groupLineState, .obj O.hdpStats, .part .live, .part .grp]) :
    (State.lineLateOp s a).see z = s.see z := by
  simp only [notMem_cons, notMem_nil, and_true] at h
  simp only [State.lineLateOp]; simp [↓ite_see, h]

@[simp] theorem State.spoil_see (s : State) (mine : LineS → Bool) (record : Bool) {z : View}
    (h : z.place ∉ [.part .grp]) :
    (State.spoil s mine record).see z = s.see z := by
  simp only [notMem_cons, notMem_nil, and_true] at h
  simp only [State.spoil]; split <;> simp [↓ite_see, h]

/-! ### Machine/Memory.lean -/

@[simp] theorem State.bankStore_see (s : State) (b : Nat) (w : Nat) (c : Nat) {z : View}
    (h : z.place ∉ [.part .mem]) :
    (State.bankStore s b w c).see z = s.see z := by
  simp only [notMem_cons, notMem_nil, and_true] at h
  simp only [State.bankStore]; simp [↓see_mk, h]

@[simp] theorem State.bankPut_see (s : State) (b : Nat) (w : Nat) (d : Nat) {z : View}
    (h : z.place ∉ [.part .mem]) :
    (State.bankPut s b w d).see z = s.see z := by
  simp only [notMem_cons, notMem_nil, and_true] at h
  simp only [State.bankPut]; simp [h]

@[simp] theorem State.bankErr_see (s : State) (b : Nat) (w : Nat) (r : EccR) {z : View}
    (h : z.place ∉ [.obj O.assayActive, .obj O.assayDropped, .obj O.assayErrors, .obj O.assayQueueLen,
      .obj O.assayTestResult, .obj O.eventCount, .obj O.eventLastTime, .obj O.eventLatch, .obj O.hdpStats,
      .obj O.memBankCe, .obj O.memBankUe, .obj O.tallyOvfCount, .part .linkq, .part .mem, .part .asy]) :
    (State.bankErr s b w r).see z = s.see z := by
  simp only [notMem_cons, notMem_nil, and_true] at h
  simp only [State.bankErr]; simp [↓see_mk, ↓ite_see, h]

@[simp] theorem State.bankHolds_see (s : State) (b : Nat) (w : Nat) {z : View} (h : z.place ∉ [.part .mem]) :
    (State.bankHolds s b w).1.see z = s.see z := by
  simp only [notMem_cons, notMem_nil, and_true] at h
  simp only [State.bankHolds]; simp [↓ite_see, h]

@[simp] theorem State.bankRead_see (s : State) (b : Nat) (w : Nat) (flip : Nat) {z : View}
    (h : z.place ∉ [.obj O.assayActive, .obj O.assayDropped, .obj O.assayErrors, .obj O.assayQueueLen,
      .obj O.assayTestResult, .obj O.eventCount, .obj O.eventLastTime, .obj O.eventLatch, .obj O.hdpStats,
      .obj O.memBankCe, .obj O.memBankUe, .obj O.tallyOvfCount, .part .linkq, .part .mem, .part .asy]) :
    (State.bankRead s b w flip).1.see z = s.see z := by
  simp only [notMem_cons, notMem_nil, and_true] at h
  simp only [State.bankRead]; simp [↓see_mk, ↓ite_see, h]

@[simp] theorem State.writeBack_see (s : State) (b : Nat) (w : Nat) {z : View}
    (h : z.place ∉ [.obj O.tallyOvfCount, .part .mem]) :
    (State.writeBack s b w).see z = s.see z := by
  simp only [notMem_cons, notMem_nil, and_true] at h
  simp only [State.writeBack]; simp [↓ite_see, h]

@[simp] theorem State.fenceApply_see (s : State) {z : View}
    (h : z.place ∉ [.obj O.memBankFenced, .obj O.memBankOwner, .part .mem]) :
    (State.fenceApply s).see z = s.see z := by
  simp only [notMem_cons, notMem_nil, and_true] at h
  simp only [State.fenceApply]; simp [↓see_mk, ↓ite_see, h]

@[simp] theorem State.takeNone_see (s : State) (o : Nat) {z : View}
    (h : z.place ∉ [.obj O.eventCount, .obj O.eventLastTime, .obj O.eventLatch, .obj O.hdpStats,
      .obj O.memBankOwner, .obj O.memOwnerShort]) :
    (State.takeNone s o).see z = s.see z := by
  simp only [notMem_cons, notMem_nil, and_true] at h
  simp only [State.takeNone]; split <;> simp [h]

@[simp] theorem State.cutAbandon_see (s : State) {z : View}
    (h : z.place ∉ [.obj O.eventCount, .obj O.eventLastTime, .obj O.eventLatch, .obj O.hdpStats,
      .obj O.ledgerExportState, .obj O.maintTokenHolder]) :
    (State.cutAbandon s).see z = s.see z := by
  simp only [notMem_cons, notMem_nil, and_true] at h
  simp only [State.cutAbandon]; simp [↓see_mk, ↓ite_see, h]

@[simp] theorem State.loseLines_see (s : State) (b : Nat) {z : View}
    (h : z.place ∉ [.obj O.eventCount, .obj O.eventLastTime, .obj O.eventLatch, .obj O.groupLineChanged,
      .obj O.groupLineState, .obj O.hdpStats, .part .live, .part .grp]) :
    (State.loseLines s b).see z = s.see z := by
  simp only [notMem_cons, notMem_nil, and_true] at h
  unfold State.loseLines; refine foldl_see _ _ _ fun a x => ?_; (repeat' split) <;> simp [h]

@[simp] theorem State.retireCommit_see (s : State) {z : View}
    (h : z.place ∉ [.obj O.eventCount, .obj O.eventLastTime, .obj O.eventLatch, .obj O.hdpStats,
      .obj O.maintTokenHolder, .obj O.maintTokenSince, .obj O.mapState, .part .map, .part .mem]) :
    (State.retireCommit s).see z = s.see z := by
  simp only [notMem_cons, notMem_nil, and_true] at h
  simp only [State.retireCommit]; simp [↓ite_see, h]

@[simp] theorem State.fencePut_see (s : State) (v : Nat) {z : View}
    (h : z.place ∉ [.obj O.eventCount, .obj O.eventLastTime, .obj O.eventLatch, .obj O.hdpStats,
      .obj O.memFenceList]) :
    (State.fencePut s v).see z = s.see z := by
  simp only [notMem_cons, notMem_nil, and_true] at h
  unfold State.fencePut
  generalize s.fenceFree = o
  cases o <;> simp [↓ite_see, h]

@[simp] theorem State.traceEnd_see (s : State) (v : Nat) {z : View}
    (h : z.place ∉ [.obj O.eventCount, .obj O.eventLastTime, .obj O.eventLatch, .obj O.hdpStats,
      .obj O.maintTokenHolder, .obj O.tallyTraceState]) :
    (State.traceEnd s v).see z = s.see z := by
  simp only [notMem_cons, notMem_nil, and_true] at h
  simp only [State.traceEnd]; simp [↓see_mk, ↓ite_see, h]

@[simp] theorem State.retireFrom_see (s : State) (o : Nat) (b : Nat) {z : View}
    (h : z.place ∉ [.obj O.eventCount, .obj O.eventLastTime, .obj O.eventLatch, .obj O.groupLineChanged,
      .obj O.groupLineState, .obj O.hdpStats, .obj O.ledgerExportState, .obj O.maintTokenHolder,
      .obj O.maintTokenSince, .obj O.mapResult, .obj O.mapState, .obj O.memBankOwner, .obj O.memOwnerShort,
      .obj O.tallyOvfCount, .obj O.tallyTraceState, .part .live, .part .sys, .part .map, .part .grp, .part .mem]) :
    (State.retireFrom s o b).see z = s.see z := by
  simp only [notMem_cons, notMem_nil, and_true] at h
  simp only [State.retireFrom]; split <;> simp [↓ite_see, h]

@[simp] theorem State.retireBank_see (s : State) (b : Nat) {z : View}
    (h : z.place ∉ [.obj O.eventCount, .obj O.eventLastTime, .obj O.eventLatch, .obj O.groupLineChanged,
      .obj O.groupLineState, .obj O.hdpStats, .obj O.ledgerExportState, .obj O.maintTokenHolder,
      .obj O.maintTokenSince, .obj O.mapResult, .obj O.mapState, .obj O.memBankOwner, .obj O.memBankState,
      .obj O.memBankTarget, .obj O.memFenceList, .obj O.memOwnerShort, .obj O.tallyOvfCount,
      .obj O.tallyTraceState, .part .live, .part .sys, .part .map, .part .grp, .part .mem]) :
    (State.retireBank s b).see z = s.see z := by
  simp only [notMem_cons, notMem_nil, and_true] at h
  simp only [State.retireBank]; simp [↓see_mk, ↓ite_see, h]

@[simp] theorem State.fenceWord_see (s : State) (b : Nat) (w : Nat) {z : View}
    (h : z.place ∉ [.obj O.eventCount, .obj O.eventLastTime, .obj O.eventLatch, .obj O.groupLineChanged,
      .obj O.groupLineState, .obj O.hdpStats, .obj O.ledgerExportState, .obj O.maintTokenHolder,
      .obj O.maintTokenSince, .obj O.mapResult, .obj O.mapState, .obj O.memBankFenced, .obj O.memBankOwner,
      .obj O.memBankState, .obj O.memBankTarget, .obj O.memFenceList, .obj O.memOwnerShort, .obj O.tallyOvfCount,
      .obj O.tallyTraceState, .part .live, .part .sys, .part .map, .part .grp, .part .mem]) :
    (State.fenceWord s b w).see z = s.see z := by
  simp only [notMem_cons, notMem_nil, and_true] at h
  simp only [State.fenceWord]; (repeat' split) <;> simp [↓see_mk, h]

@[simp] theorem State.placeLost_see (s : State) {z : View}
    (h : z.place ∉ [.obj O.eventCount, .obj O.eventLastTime, .obj O.eventLatch, .obj O.groupLineChanged,
      .obj O.groupLineState, .obj O.hdpStats, .obj O.memOwnerShort, .part .grp]) :
    (State.placeLost s).see z = s.see z := by
  simp only [notMem_cons, notMem_nil, and_true] at h
  simp only [State.placeLost]; simp [↓ite_see, h]

@[simp] theorem State.shortClear_see (s : State) {z : View} (h : z.place ∉ [.obj O.memOwnerShort]) :
    (State.shortClear s).see z = s.see z := by
  simp only [notMem_cons, notMem_nil, and_true] at h
  simp only [State.shortClear]; simp [h]

@[simp] theorem State.startDrain_see (s : State) (b : Nat) {z : View}
    (h : z.place ∉ [.obj O.memBankState, .part .mem, .part .mtx]) :
    (State.startDrain s b).see z = s.see z := by
  simp only [notMem_cons, notMem_nil, and_true] at h
  simp only [State.startDrain]; simp [↓see_mk, h]

@[simp] theorem State.handoverDone_see (s : State) (b : Nat) {z : View}
    (h : z.place ∉ [.obj O.eventCount, .obj O.eventLastTime, .obj O.eventLatch, .obj O.hdpStats,
      .obj O.maintTokenHolder, .obj O.memBankOwner, .obj O.memBankState, .obj O.memBankTarget, .obj O.memFenceList,
      .obj O.tallyTraceState, .part .mem]) :
    (State.handoverDone s b).see z = s.see z := by
  simp only [notMem_cons, notMem_nil, and_true] at h
  simp only [State.handoverDone]; simp [↓see_mk, ↓ite_see, h]

@[simp] theorem State.drainDone_see (s : State) (b : Nat) {z : View}
    (h : z.place ∉ [.obj O.eventCount, .obj O.eventLastTime, .obj O.eventLatch, .obj O.hdpStats,
      .obj O.maintTokenHolder, .obj O.memBankOwner, .obj O.memBankState, .obj O.memBankTarget, .obj O.memFenceList,
      .obj O.tallyTraceState, .part .mem]) :
    (State.drainDone s b).see z = s.see z := by
  simp only [notMem_cons, notMem_nil, and_true] at h
  simp only [State.drainDone]; simp [↓ite_see, h]

@[simp] theorem State.bankZero_see (s : State) (b : Nat) {z : View} (h : z.place ∉ [.part .mem]) :
    (State.bankZero s b).see z = s.see z := by
  simp only [notMem_cons, notMem_nil, and_true] at h
  simp only [State.bankZero]; simp [↓see_mk, h]

@[simp] theorem State.scrubDone_see (s : State) (b : Nat) {z : View}
    (h : z.place ∉ [.obj O.eventCount, .obj O.eventLastTime, .obj O.eventLatch, .obj O.hdpStats,
      .obj O.maintTokenHolder, .obj O.memBankOwner, .obj O.memBankState, .obj O.memBankTarget, .obj O.memFenceList,
      .obj O.tallyTraceState, .part .mem]) :
    (State.scrubDone s b).see z = s.see z := by
  simp only [notMem_cons, notMem_nil, and_true] at h
  simp only [State.scrubDone]; simp [↓ite_see, h]

@[simp] theorem State.pendingDrain_see (s : State) {z : View}
    (h : z.place ∉ [.obj O.memBankState, .part .mem, .part .mtx]) :
    (State.pendingDrain s).see z = s.see z := by
  simp only [notMem_cons, notMem_nil, and_true] at h
  simp only [State.pendingDrain]; simp [↓ite_see, h]

@[simp] theorem State.handoversOff_see (s : State) {z : View}
    (h : z.place ∉ [.obj O.eventCount, .obj O.eventLastTime, .obj O.eventLatch, .obj O.hdpStats,
      .obj O.memBankOwner, .obj O.memFenceList, .part .mem]) :
    (State.handoversOff s).see z = s.see z := by
  simp only [notMem_cons, notMem_nil, and_true] at h
  simp only [State.handoversOff]; simp [↓see_mk, ↓ite_see, h]

@[simp] theorem State.ownerLater_see (s : State) (b : Nat) {z : View} (h : z.place ∉ [.part .mem]) :
    (State.ownerLater s b).see z = s.see z := by
  simp only [notMem_cons, notMem_nil, and_true] at h
  simp only [State.ownerLater]; simp [↓see_mk, ↓ite_see, h]

@[simp] theorem State.bankReuse_see (s : State) (h0 : Nat) (b : Nat) {z : View}
    (h : z.place ∉ [.obj O.assayActive, .obj O.assayDropped, .obj O.assayQueueLen, .obj O.assayTestResult,
      .obj O.eventCount, .obj O.eventLastTime, .obj O.eventLatch, .obj O.hdpStats, .obj O.maintTokenHolder,
      .obj O.maintTokenSince, .obj O.memBankFenced, .obj O.memBankOwner, .obj O.memBankState, .obj O.memFenceList,
      .obj O.tallyOvfCount, .part .linkq, .part .mem, .part .asy]) :
    (State.bankReuse s h0 b).see z = s.see z := by
  simp only [notMem_cons, notMem_nil, and_true] at h
  simp only [State.bankReuse]; simp [↓see_mk, h]

@[simp] theorem bankOwnerOp_see (h0 : Nat) (b : Nat) (v : Nat) (s : State) {z : View}
    (h : z.place ∉ [.obj O.assayActive, .obj O.assayDropped, .obj O.assayQueueLen, .obj O.assayTestResult,
      .obj O.eventCount, .obj O.eventLastTime, .obj O.eventLatch, .obj O.hdpStats, .obj O.maintTokenHolder,
      .obj O.maintTokenSince, .obj O.memBankFenced, .obj O.memBankOwner, .obj O.memBankState, .obj O.memBankTarget,
      .obj O.memFenceList, .obj O.tallyOvfCount, .part .linkq, .part .mem, .part .mtx, .part .asy]) :
    (bankOwnerOp h0 b v s).1.see z = s.see z := by
  simp only [notMem_cons, notMem_nil, and_true] at h
  simp only [bankOwnerOp]; simp [↓see_mk, ↓ite_see, h]

@[simp] theorem State.clearDone_see (s : State) {z : View}
    (h : z.place ∉ [.obj O.eventCount, .obj O.eventLastTime, .obj O.eventLatch, .obj O.hdpStats,
      .obj O.memBankFenced, .obj O.memBankOwner, .obj O.memBankState, .part .sys, .part .mem]) :
    (State.clearDone s).see z = s.see z := by
  simp only [notMem_cons, notMem_nil, and_true] at h
  simp only [State.clearDone]; simp [↓see_mk, ↓ite_see, h]

@[simp] theorem State.stale_see (s : State) {z : View}
    (h : z.place ∉ [.obj O.eventCount, .obj O.eventLastTime, .obj O.eventLatch, .obj O.hdpStats,
      .obj O.memStaleAccess]) :
    (State.stale s).see z = s.see z := by
  simp only [notMem_cons, notMem_nil, and_true] at h
  simp only [State.stale]; simp [h]

@[simp] theorem State.bankOpen_see (s : State) (b : Nat) (m : Nat) (wr : Bool) (early : Bool) {z : View}
    (h : z.place ∉ [.obj O.eventCount, .obj O.eventLastTime, .obj O.eventLatch, .obj O.hdpStats,
      .obj O.memStaleAccess]) :
    (State.bankOpen s b m wr early).1.see z = s.see z := by
  simp only [notMem_cons, notMem_nil, and_true] at h
  simp only [State.bankOpen]; simp [↓ite_see, h]

@[simp] theorem State.traceOpen_see (s : State) (b : Nat) {z : View}
    (h : z.place ∉ [.obj O.eventCount, .obj O.eventLastTime, .obj O.eventLatch, .obj O.hdpStats,
      .obj O.memStaleAccess]) :
    (State.traceOpen s b).1.see z = s.see z := by
  simp only [notMem_cons, notMem_nil, and_true] at h
  simp only [State.traceOpen]; simp [↓ite_see, h]

@[simp] theorem State.ddrShow_see (s : State) {z : View} (h : z.place ∉ [.obj O.memDdrState]) :
    (State.ddrShow s).see z = s.see z := by
  simp only [notMem_cons, notMem_nil, and_true] at h
  simp only [State.ddrShow]; simp [h]

@[simp] theorem State.setLs_see (s : State) (v : Nat) {z : View}
    (h : z.place ∉ [.obj O.eventCount, .obj O.eventLastTime, .obj O.eventLatch, .obj O.hdpStats,
      .obj O.memDdrLsState]) :
    (State.setLs s v).see z = s.see z := by
  simp only [notMem_cons, notMem_nil, and_true] at h
  simp only [State.setLs]; simp [↓ite_see, h]

@[simp] theorem State.lsReady_see (s : State) {z : View}
    (h : z.place ∉ [.obj O.eventCount, .obj O.eventLastTime, .obj O.eventLatch, .obj O.hdpStats,
      .obj O.maintTokenHolder, .obj O.maintTokenSince, .obj O.mapState, .obj O.memDdrLsState, .part .map,
      .part .mem]) :
    (State.lsReady s).see z = s.see z := by
  simp only [notMem_cons, notMem_nil, and_true] at h
  simp only [State.lsReady]; simp [↓ite_see, h]

@[simp] theorem State.setChannel_see (s : State) (c : Nat) (v : Nat) {z : View}
    (h : z.place ∉ [.obj O.eventCount, .obj O.eventLastTime, .obj O.eventLatch, .obj O.hdpStats,
      .obj O.memDdrChState, .obj O.memDdrState]) :
    (State.setChannel s c v).see z = s.see z := by
  simp only [notMem_cons, notMem_nil, and_true] at h
  simp only [State.setChannel]; simp [↓ite_see, h]

@[simp] theorem State.ddrTrained_see (s : State) (gib : Nat) (failed : List Nat) {z : View}
    (h : z.place ∉ [.obj O.eventCount, .obj O.eventLastTime, .obj O.eventLatch, .obj O.hdpStats,
      .obj O.memDdrChState, .obj O.memDdrFillLeft, .obj O.memDdrSize, .obj O.memDdrState, .part .mem]) :
    (State.ddrTrained s gib failed).see z = s.see z := by
  simp only [notMem_cons, notMem_nil, and_true] at h
  simp only [State.ddrTrained]; simp [↓see_mk, ↓ite_see, h]

@[simp] theorem State.ddrFilled_see (s : State) {z : View}
    (h : z.place ∉ [.obj O.eventCount, .obj O.eventLastTime, .obj O.eventLatch, .obj O.hdpStats,
      .obj O.maintTokenHolder, .obj O.maintTokenSince, .obj O.mapState, .obj O.memDdrFillLeft,
      .obj O.memDdrLsState, .obj O.memDdrState, .part .map, .part .mem]) :
    (State.ddrFilled s).see z = s.see z := by
  simp only [notMem_cons, notMem_nil, and_true] at h
  simp only [State.ddrFilled]; simp [↓see_mk, ↓ite_see, h]

@[simp] theorem State.fillFrame_see (s : State) {z : View} (h : z.place ∉ [.obj O.memDdrFillLeft, .part .mem]) :
    (State.fillFrame s).see z = s.see z := by
  simp only [notMem_cons, notMem_nil, and_true] at h
  simp only [State.fillFrame]; simp [↓see_mk, ↓ite_see, h]

@[simp] theorem ddrLsEnOp_see (v : Nat) (s : State) {z : View}
    (h : z.place ∉ [.obj O.eventCount, .obj O.eventLastTime, .obj O.eventLatch, .obj O.hdpStats, .obj O.memDdrLsEn,
      .obj O.memDdrLsState]) :
    (ddrLsEnOp v s).1.see z = s.see z := by
  simp only [notMem_cons, notMem_nil, and_true] at h
  simp only [ddrLsEnOp]; simp [↓ite_see, h]

@[simp] theorem ddrSizeOp_see (h0 : Nat) (idx : Nat) (v : Nat) (s : State) {z : Part} :
    (ddrSizeOp h0 idx v s).1.see (.part z) = s.see (.part z) := by
  simp only [ddrSizeOp]; simp [↓ite_see]

@[simp] theorem State.retrain_see (s : State) (c : Nat) {z : View}
    (h : z.place ∉ [.obj O.eventCount, .obj O.eventLastTime, .obj O.eventLatch, .obj O.groupLineChanged,
      .obj O.groupLineState, .obj O.hdpStats, .obj O.memDdrChState, .obj O.memDdrState, .part .live, .part .grp,
      .part .mem]) :
    (State.retrain s c).see z = s.see z := by
  simp only [notMem_cons, notMem_nil, and_true] at h
  simp only [State.retrain]; simp [↓see_mk, ↓ite_see, h]

@[simp] theorem State.retrainEnd_see (s : State) (c : Nat) {z : View}
    (h : z.place ∉ [.obj O.eventCount, .obj O.eventLastTime, .obj O.eventLatch, .obj O.hdpStats,
      .obj O.maintTokenHolder, .part .mem]) :
    (State.retrainEnd s c).see z = s.see z := by
  simp only [notMem_cons, notMem_nil, and_true] at h
  simp only [State.retrainEnd]; simp [↓see_mk, ↓ite_see, h]

@[simp] theorem State.retrainAttempt_see (s : State) (c : Nat) (ok : Bool) {z : View}
    (h : z.place ∉ [.obj O.eventCount, .obj O.eventLastTime, .obj O.eventLatch, .obj O.hdpStats,
      .obj O.maintTokenHolder, .obj O.maintTokenSince, .obj O.mapState, .obj O.memDdrChState, .obj O.memDdrLsState,
      .obj O.memDdrState, .part .map, .part .mem]) :
    (State.retrainAttempt s c ok).see z = s.see z := by
  simp only [notMem_cons, notMem_nil, and_true] at h
  simp only [State.retrainAttempt]; simp [↓see_mk, ↓ite_see, h]

@[simp] theorem State.ddrErr_see (s : State) (off : Nat) (bad : Bool) {z : View}
    (h : z.place ∉ [.obj O.assayActive, .obj O.assayDropped, .obj O.assayErrors, .obj O.assayQueueLen,
      .obj O.assayTestResult, .obj O.eventCount, .obj O.eventLastTime, .obj O.eventLatch, .obj O.groupLineChanged,
      .obj O.groupLineState, .obj O.hdpStats, .obj O.memDdrCe, .obj O.memDdrChState, .obj O.memDdrState,
      .obj O.memDdrUe, .obj O.tallyOvfCount, .part .live, .part .linkq, .part .grp, .part .mem, .part .asy]) :
    (State.ddrErr s off bad).see z = s.see z := by
  simp only [notMem_cons, notMem_nil, and_true] at h
  simp only [State.ddrErr]; simp [↓see_mk, ↓ite_see, h]

@[simp] theorem State.ddrBeat_see (s : State) (u : Nat) (f : Nat) (fix : Bool) {z : View}
    (h : z.place ∉ [.obj O.assayActive, .obj O.assayDropped, .obj O.assayErrors, .obj O.assayQueueLen,
      .obj O.assayTestResult, .obj O.eventCount, .obj O.eventLastTime, .obj O.eventLatch, .obj O.groupLineChanged,
      .obj O.groupLineState, .obj O.hdpStats, .obj O.memDdrCe, .obj O.memDdrChState, .obj O.memDdrState,
      .obj O.memDdrUe, .obj O.tallyOvfCount, .part .live, .part .linkq, .part .grp, .part .mem, .part .asy]) :
    (State.ddrBeat s u f fix).1.see z = s.see z := by
  simp only [notMem_cons, notMem_nil, and_true] at h
  simp only [State.ddrBeat]; simp [↓see_mk, ↓ite_see, h]

@[simp] theorem State.ddrRead_see (s : State) (o : Nat) (n : Nat) (f : Nat) {z : View}
    (h : z.place ∉ [.obj O.assayActive, .obj O.assayDropped, .obj O.assayErrors, .obj O.assayQueueLen,
      .obj O.assayTestResult, .obj O.eventCount, .obj O.eventLastTime, .obj O.eventLatch, .obj O.groupLineChanged,
      .obj O.groupLineState, .obj O.hdpStats, .obj O.memDdrCe, .obj O.memDdrChState, .obj O.memDdrState,
      .obj O.memDdrUe, .obj O.tallyOvfCount, .part .live, .part .linkq, .part .grp, .part .mem, .part .asy]) :
    (State.ddrRead s o n f).1.see z = s.see z := by
  simp only [notMem_cons, notMem_nil, and_true] at h
  simp only [State.ddrRead]; simp [h]

@[simp] theorem State.ddrWrite_see (s : State) (o : Nat) (d : List (Byte × Bool)) {z : View}
    (h : z.place ∉ [.obj O.assayActive, .obj O.assayDropped, .obj O.assayErrors, .obj O.assayQueueLen,
      .obj O.assayTestResult, .obj O.eventCount, .obj O.eventLastTime, .obj O.eventLatch, .obj O.groupLineChanged,
      .obj O.groupLineState, .obj O.hdpStats, .obj O.memDdrCe, .obj O.memDdrChState, .obj O.memDdrState,
      .obj O.memDdrUe, .obj O.tallyOvfCount, .part .live, .part .linkq, .part .grp, .part .mem, .part .asy]) :
    (State.ddrWrite s o d).see z = s.see z := by
  simp only [notMem_cons, notMem_nil, and_true] at h
  simp only [State.ddrWrite]; simp [↓see_mk, ↓ite_see, h]

@[simp] theorem State.patrolBeat_see (s : State) (f : Nat) {z : View}
    (h : z.place ∉ [.obj O.assayActive, .obj O.assayDropped, .obj O.assayErrors, .obj O.assayQueueLen,
      .obj O.assayTestResult, .obj O.eventCount, .obj O.eventLastTime, .obj O.eventLatch, .obj O.groupLineChanged,
      .obj O.groupLineState, .obj O.hdpStats, .obj O.memDdrCe, .obj O.memDdrChState, .obj O.memDdrScrubPasses,
      .obj O.memDdrState, .obj O.memDdrUe, .obj O.tallyOvfCount, .part .live, .part .linkq, .part .grp, .part .mem,
      .part .asy]) :
    (State.patrolBeat s f).see z = s.see z := by
  simp only [notMem_cons, notMem_nil, and_true] at h
  simp only [State.patrolBeat]; simp [↓see_mk, ↓ite_see, h]

@[simp] theorem ddrRetrainOp_see (h0 : Nat) (c : Nat) (s : State) {z : View}
    (h : z.place ∉ [.obj O.eventCount, .obj O.eventLastTime, .obj O.eventLatch, .obj O.groupLineChanged,
      .obj O.groupLineState, .obj O.hdpStats, .obj O.maintTokenHolder, .obj O.maintTokenSince,
      .obj O.memDdrChState, .obj O.memDdrState, .part .live, .part .grp, .part .mem]) :
    (ddrRetrainOp h0 c s).1.see z = s.see z := by
  simp only [notMem_cons, notMem_nil, and_true] at h
  simp only [ddrRetrainOp]; simp [↓see_mk, ↓ite_see, h]

@[simp] theorem State.eccLogRead_see (s : State) (w : Who) (first : Nat) (count : Nat) {z : View}
    (h : z.place ∉ [.part .mem]) :
    (State.eccLogRead s w first count).see z = s.see z := by
  simp only [notMem_cons, notMem_nil, and_true] at h
  simp only [State.eccLogRead]; simp [↓see_mk, ↓ite_see, h]

@[simp] theorem State.writeBankOwner_see (s : State) (w : Who) (b : Nat) (v : Nat) {z : View}
    (h : z.place ∉ [.obj O.assayActive, .obj O.assayDropped, .obj O.assayQueueLen, .obj O.assayTestResult,
      .obj O.dictLastRefusal, .obj O.eventCount, .obj O.eventLastTime, .obj O.eventLatch, .obj O.hdpStats,
      .obj O.ledgerJournalSeq, .obj O.maintTokenHolder, .obj O.maintTokenSince, .obj O.memBankFenced,
      .obj O.memBankOwner, .obj O.memBankState, .obj O.memBankTarget, .obj O.memFenceList, .obj O.tallyOvfCount,
      .part .linkq, .part .mem, .part .mtx, .part .asy]) :
    (State.writeBankOwner s w b v).see z = s.see z := by
  simp only [notMem_cons, notMem_nil, and_true] at h
  simp only [State.writeBankOwner]; simp [h]

@[simp] theorem State.writeDdrLsEn_see (s : State) (w : Who) (v : Nat) {z : View}
    (h : z.place ∉ [.obj O.dictLastRefusal, .obj O.eventCount, .obj O.eventLastTime, .obj O.eventLatch,
      .obj O.hdpStats, .obj O.ledgerJournalSeq, .obj O.memDdrLsEn, .obj O.memDdrLsState]) :
    (State.writeDdrLsEn s w v).see z = s.see z := by
  simp only [notMem_cons, notMem_nil, and_true] at h
  simp only [State.writeDdrLsEn]; simp [h]

@[simp] theorem State.writeDdrSize_see (s : State) (w : Who) (idx : Nat) (v : Nat) {z : Part} :
    (State.writeDdrSize s w idx v).see (.part z) = s.see (.part z) := by
  simp only [State.writeDdrSize]; simp

@[simp] theorem State.writeDdrRetrain_see (s : State) (w : Who) (c : Nat) {z : View}
    (h : z.place ∉ [.obj O.dictLastRefusal, .obj O.eventCount, .obj O.eventLastTime, .obj O.eventLatch,
      .obj O.groupLineChanged, .obj O.groupLineState, .obj O.hdpStats, .obj O.ledgerJournalSeq,
      .obj O.maintTokenHolder, .obj O.maintTokenSince, .obj O.memDdrChState, .obj O.memDdrState, .part .live,
      .part .grp, .part .mem]) :
    (State.writeDdrRetrain s w c).see z = s.see z := by
  simp only [notMem_cons, notMem_nil, and_true] at h
  simp only [State.writeDdrRetrain]; simp [h]

/-! ### Machine/Witness.lean -/

@[simp] theorem State.setUnwatched_see (s : State) (b : Bool) {z : View}
    (h : z.place ∉ [.obj O.eventCount, .obj O.eventLastTime, .obj O.eventLatch, .obj O.hdpStats, .obj O.protFlags,
      .part .prot]) :
    (State.setUnwatched s b).see z = s.see z := by
  simp only [notMem_cons, notMem_nil, and_true] at h
  simp only [State.setUnwatched]; simp [↓see_mk, ↓ite_see, h]

@[simp] theorem State.refreshWatch_see (s : State) {z : View}
    (h : z.place ∉ [.obj O.eventCount, .obj O.eventLastTime, .obj O.eventLatch, .obj O.hdpStats, .obj O.protFlags,
      .part .prot]) :
    (State.refreshWatch s).see z = s.see z := by
  simp only [notMem_cons, notMem_nil, and_true] at h
  simp only [State.refreshWatch]; simp [↓ite_see, h]

@[simp] theorem State.setStreamState_see (s : State) (st : Nat) (v : Nat) {z : View}
    (h : z.place ∉ [.obj O.eventCount, .obj O.eventLastTime, .obj O.eventLatch, .obj O.hdpStats, .obj O.protFlags,
      .obj O.witnessStreamState, .part .prot]) :
    (State.setStreamState s st v).see z = s.see z := by
  simp only [notMem_cons, notMem_nil, and_true] at h
  simp only [State.setStreamState]; simp [↓ite_see, h]

@[simp] theorem State.blockLoss_see (s : State) (st : Nat) {z : View}
    (h : z.place ∉ [.obj O.eventCount, .obj O.eventLastTime, .obj O.eventLatch, .obj O.hdpStats, .obj O.protFlags,
      .obj O.witnessStreamState, .part .prot, .part .wit]) :
    (State.blockLoss s st).see z = s.see z := by
  simp only [notMem_cons, notMem_nil, and_true] at h
  simp only [State.blockLoss]; simp [h]

@[simp] theorem State.streamOff_see (s : State) (p : Nat) {z : View}
    (h : z.place ∉ [.obj O.eventCount, .obj O.eventLastTime, .obj O.eventLatch, .obj O.hdpStats, .obj O.protFlags,
      .obj O.witnessStreamState, .part .prot, .part .wit]) :
    (State.streamOff s p).see z = s.see z := by
  simp only [notMem_cons, notMem_nil, and_true] at h
  simp only [State.streamOff]; split <;> simp [↓ite_see, h]

/-! ### Machine/Link.lean -/

@[simp] theorem State.setVer_see (s : State) (p : Nat) (r : Nat) (t : Nat) {z : View}
    (h : z.place ∉ [.obj O.portVersion]) :
    (State.setVer s p r t).see z = s.see z := by
  simp only [notMem_cons, notMem_nil, and_true] at h
  simp only [State.setVer]; simp [h]

@[simp] theorem State.untie_see (s : State) {z : View}
    (h : z.place ∉ [.obj O.eventCount, .obj O.eventLastTime, .obj O.eventLatch, .obj O.hdpStats, .obj O.refTied,
      .obj O.timeGridResidual, .part .ref, .part .tim]) :
    (State.untie s).see z = s.see z := by
  simp only [notMem_cons, notMem_nil, and_true] at h
  simp only [State.untie]; simp [↓see_mk, ↓ite_see, h]

@[simp] theorem State.tieFails_see (s : State) {z : View}
    (h : z.place ∉ [.obj O.eventCount, .obj O.eventLastTime, .obj O.eventLatch, .obj O.hdpStats, .obj O.refTied,
      .obj O.timeGridResidual, .part .ref, .part .tim]) :
    (State.tieFails s).see z = s.see z := by
  simp only [notMem_cons, notMem_nil, and_true] at h
  simp only [State.tieFails]; simp [↓ite_see, h]

@[simp] theorem State.launchEnd_see (s : State) (l : LaunchR) (status : Nat) (stamp : Nat) {z : View}
    (h : z.place ∉ [.obj O.eventCount, .obj O.eventLastTime, .obj O.eventLatch, .obj O.hdpStats,
      .obj O.tallyOvfCount, .part .tim]) :
    (State.launchEnd s l status stamp).see z = s.see z := by
  simp only [notMem_cons, notMem_nil, and_true] at h
  simp only [State.launchEnd]; simp [↓see_mk, ↓ite_see, h]

@[simp] theorem State.dropQueue_see (s : State) (i : Nat) {z : View}
    (h : z.place ∉ [.obj O.eventCount, .obj O.eventLastTime, .obj O.eventLatch, .obj O.hdpStats,
      .obj O.timeTcStats, .part .tim]) :
    (State.dropQueue s i).see z = s.see z := by
  simp only [notMem_cons, notMem_nil, and_true] at h
  simp only [State.dropQueue]; simp [↓see_mk, h]

@[simp] theorem State.dropLaunches_see (s : State) (i : Nat) {z : View}
    (h : z.place ∉ [.obj O.eventCount, .obj O.eventLastTime, .obj O.eventLatch, .obj O.hdpStats,
      .obj O.tallyOvfCount, .part .tim]) :
    (State.dropLaunches s i).see z = s.see z := by
  simp only [notMem_cons, notMem_nil, and_true] at h
  simp only [State.dropLaunches]; simp [h]

@[simp] theorem State.ifaceDown_see (s : State) (p : Nat) {z : View}
    (h : z.place ∉ [.obj O.eventCount, .obj O.eventLastTime, .obj O.eventLatch, .obj O.hdpStats,
      .obj O.tallyOvfCount, .obj O.timeTcStats, .part .tim]) :
    (State.ifaceDown s p).see z = s.see z := by
  simp only [notMem_cons, notMem_nil, and_true] at h
  simp only [State.ifaceDown]; simp [h]

@[simp] theorem State.negDrop_see (s : State) (p : Nat) {z : View}
    (h : z.place ∉ [.obj O.portNegState, .part .link]) :
    (State.negDrop s p).see z = s.see z := by
  simp only [notMem_cons, notMem_nil, and_true] at h
  simp only [State.negDrop]; simp [↓ite_see, h]

@[simp] theorem State.unalign_see (s : State) (p : Nat) (st : Nat) (loss : Bool) {z : View}
    (h : z.place ∉ [.obj O.eventCount, .obj O.eventLastTime, .obj O.eventLatch, .obj O.grainChanged,
      .obj O.grainRxState, .obj O.hdpStats, .obj O.portAlignState, .obj O.portNegState, .obj O.protFlags,
      .obj O.tallyOvfCount, .obj O.timeTcStats, .obj O.witnessStreamState, .part .link, .part .rx, .part .prot,
      .part .wit, .part .tim]) :
    (State.unalign s p st loss).see z = s.see z := by
  simp only [notMem_cons, notMem_nil, and_true] at h
  simp only [State.unalign]; simp [↓ite_see, h]

@[simp] theorem State.sync_see (s : State) (p : Nat) (at_ : Nat) {z : View}
    (h : z.place ∉ [.obj O.eventCount, .obj O.eventLastTime, .obj O.eventLatch, .obj O.grainChanged,
      .obj O.grainRxState, .obj O.hdpStats, .obj O.portAlignState, .part .link, .part .rx]) :
    (State.sync s p at_).see z = s.see z := by
  simp only [notMem_cons, notMem_nil, and_true] at h
  simp only [State.sync]; simp [h]

@[simp] theorem State.cdrLock_see (s : State) (p : Nat) {z : View}
    (h : z.place ∉ [.obj O.portAlignState, .part .link, .part .linkq]) :
    (State.cdrLock s p).see z = s.see z := by
  simp only [notMem_cons, notMem_nil, and_true] at h
  simp only [State.cdrLock]; simp [↓ite_see, h]

@[simp] theorem State.rxSwitch_see (s : State) (p : Nat) (v : Nat) {z : View}
    (h : z.place ∉ [.obj O.eventCount, .obj O.eventLastTime, .obj O.eventLatch, .obj O.grainChanged,
      .obj O.grainRxState, .obj O.hdpStats, .obj O.portAlignState, .obj O.portNegState, .obj O.portVersion,
      .obj O.protFlags, .obj O.refTied, .obj O.tallyOvfCount, .obj O.timeGridResidual, .obj O.timeTcStats,
      .obj O.witnessStreamState, .part .link, .part .rx, .part .prot, .part .wit, .part .ref, .part .tim]) :
    (State.rxSwitch s p v).see z = s.see z := by
  simp only [notMem_cons, notMem_nil, and_true] at h
  simp only [State.rxSwitch]; simp [↓ite_see, h]

@[simp] theorem State.rxResetDue_see (s : State) (p : Nat) {z : View}
    (h : z.place ∉ [.obj O.eventCount, .obj O.eventLastTime, .obj O.eventLatch, .obj O.grainChanged,
      .obj O.grainRxState, .obj O.hdpStats, .obj O.portAlignState, .obj O.portNegState, .obj O.portVersion,
      .obj O.protFlags, .obj O.refTied, .obj O.tallyOvfCount, .obj O.timeGridResidual, .obj O.timeTcStats,
      .obj O.witnessStreamState, .part .link, .part .rx, .part .prot, .part .wit, .part .ref, .part .tim]) :
    (State.rxResetDue s p).see z = s.see z := by
  simp only [notMem_cons, notMem_nil, and_true] at h
  simp only [State.rxResetDue]; simp [↓ite_see, h]

@[simp] theorem State.signalLoss_see (s : State) (p : Nat) {z : View}
    (h : z.place ∉ [.obj O.eventCount, .obj O.eventLastTime, .obj O.eventLatch, .obj O.grainChanged,
      .obj O.grainRxState, .obj O.hdpStats, .obj O.portAlignState, .obj O.portNegState, .obj O.portVersion,
      .obj O.protFlags, .obj O.refTied, .obj O.tallyOvfCount, .obj O.timeGridResidual, .obj O.timeTcStats,
      .obj O.witnessStreamState, .part .link, .part .rx, .part .prot, .part .wit, .part .ref, .part .tim]) :
    (State.signalLoss s p).see z = s.see z := by
  simp only [notMem_cons, notMem_nil, and_true] at h
  simp only [State.signalLoss]; simp [↓ite_see, h]

@[simp] theorem State.fawMatch_see (s : State) (p : Nat) (c : Nat) (x : Lane) {z : View}
    (h : z.place ∉ [.obj O.portFlintDrop, .part .link]) :
    (State.fawMatch s p c x).see z = s.see z := by
  simp only [notMem_cons, notMem_nil, and_true] at h
  simp only [State.fawMatch]; simp [↓ite_see, h]

@[simp] theorem State.rejectCand_see (s : State) (p : Nat) (c : Nat) {z : View}
    (h : z.place ∉ [.obj O.portAlignState, .obj O.portFlintReject, .part .link]) :
    (State.rejectCand s p c).see z = s.see z := by
  simp only [notMem_cons, notMem_nil, and_true] at h
  simp only [State.rejectCand]; simp [↓ite_see, h]

@[simp] theorem State.row1Check_see (s : State) (p : Nat) (c : Nat) (ls : List Lane) {z : View}
    (h : z.place ∉ [.obj O.portAlignState, .obj O.portFlintReject, .part .link]) :
    (State.row1Check s p c ls).see z = s.see z := by
  simp only [notMem_cons, notMem_nil, and_true] at h
  simp only [State.row1Check]; simp [↓ite_see, h]

@[simp] theorem State.fawConfirm_see (s : State) (p : Nat) (c : Nat) (x : Lane) {z : View}
    (h : z.place ∉ [.obj O.eventCount, .obj O.eventLastTime, .obj O.eventLatch, .obj O.grainChanged,
      .obj O.grainRxState, .obj O.hdpStats, .obj O.portAlignState, .obj O.portFlintReject, .part .link, .part .rx]) :
    (State.fawConfirm s p c x).see z = s.see z := by
  simp only [notMem_cons, notMem_nil, and_true] at h
  simp only [State.fawConfirm]; simp [↓ite_see, h]

@[simp] theorem State.negReturn_see (s : State) (p : Nat) {z : View}
    (h : z.place ∉ [.obj O.eventCount, .obj O.eventLastTime, .obj O.eventLatch, .obj O.grainChanged,
      .obj O.grainRxState, .obj O.hdpStats, .obj O.portAlignState, .obj O.portNegState, .obj O.portVersion,
      .obj O.protFlags, .obj O.refTied, .obj O.tallyOvfCount, .obj O.timeGridResidual, .obj O.timeTcStats,
      .obj O.witnessStreamState, .part .link, .part .rx, .part .prot, .part .wit, .part .ref, .part .tim]) :
    (State.negReturn s p).see z = s.see z := by
  simp only [notMem_cons, notMem_nil, and_true] at h
  simp only [State.negReturn]; simp [↓ite_see, h]

@[simp] theorem State.relockFail_see (s : State) (p : Nat) {z : View}
    (h : z.place ∉ [.obj O.eventCount, .obj O.eventLastTime, .obj O.eventLatch, .obj O.grainChanged,
      .obj O.grainRxState, .obj O.hdpStats, .obj O.linkVersionExcluded, .obj O.portAlignState, .obj O.portNegState,
      .obj O.portVersion, .obj O.protFlags, .obj O.refTied, .obj O.tallyOvfCount, .obj O.timeGridResidual,
      .obj O.timeTcStats, .obj O.witnessStreamState, .part .link, .part .linkq, .part .rx, .part .prot, .part .wit,
      .part .ref, .part .tim]) :
    (State.relockFail s p).see z = s.see z := by
  simp only [notMem_cons, notMem_nil, and_true] at h
  simp only [State.relockFail]; simp [↓ite_see, h]

@[simp] theorem State.syncLoss_see (s : State) (p : Nat) {z : View}
    (h : z.place ∉ [.obj O.eventCount, .obj O.eventLastTime, .obj O.eventLatch, .obj O.grainChanged,
      .obj O.grainRxState, .obj O.hdpStats, .obj O.portAlignState, .obj O.portNegState, .obj O.portVersion,
      .obj O.protFlags, .obj O.refTied, .obj O.tallyOvfCount, .obj O.timeGridResidual, .obj O.timeTcStats,
      .obj O.witnessStreamState, .part .link, .part .rx, .part .prot, .part .wit, .part .ref, .part .tim]) :
    (State.syncLoss s p).see z = s.see z := by
  simp only [notMem_cons, notMem_nil, and_true] at h
  simp only [State.syncLoss]; simp [↓ite_see, h]

@[simp] theorem State.negEnd_see (s : State) (p : Nat) {z : View}
    (h : z.place ∉ [.obj O.eventCount, .obj O.eventLastTime, .obj O.eventLatch, .obj O.hdpStats,
      .obj O.maintTokenHolder, .part .linkq]) :
    (State.negEnd s p).see z = s.see z := by
  simp only [notMem_cons, notMem_nil, and_true] at h
  simp only [State.negEnd]; simp [↓ite_see, h]

@[simp] theorem State.renegotiate_see (s : State) (p : Nat) (h0 : Nat) {z : View}
    (h : z.place ∉ [.obj O.eventCount, .obj O.eventLastTime, .obj O.eventLatch, .obj O.grainChanged,
      .obj O.grainRxState, .obj O.hdpStats, .obj O.maintTokenHolder, .obj O.maintTokenSince, .obj O.portAlignState,
      .obj O.portNegState, .obj O.portVersion, .obj O.protFlags, .obj O.refTied, .obj O.tallyOvfCount,
      .obj O.timeGridResidual, .obj O.timeTcStats, .obj O.witnessStreamState, .part .link, .part .linkq, .part .rx,
      .part .prot, .part .wit, .part .ref, .part .tim]) :
    (State.renegotiate s p h0).see z = s.see z := by
  simp only [notMem_cons, notMem_nil, and_true] at h
  simp only [State.renegotiate]; simp [↓ite_see, h]

@[simp] theorem State.settle_see (s : State) (p : Nat) {z : View}
    (h : z.place ∉ [.obj O.portNegState, .part .link]) :
    (State.settle s p).see z = s.see z := by
  simp only [notMem_cons, notMem_nil, and_true] at h
  simp only [State.settle]; simp [h]

@[simp] theorem State.handshakeRow_see (s : State) (p : Nat) (w : Nat) {z : View}
    (h : z.place ∉ [.obj O.eventCount, .obj O.eventLastTime, .obj O.eventLatch, .obj O.hdpStats,
      .obj O.linkChangeCount, .obj O.linkPeerSupported, .obj O.portNegState, .part .link]) :
    (State.handshakeRow s p w).see z = s.see z := by
  simp only [notMem_cons, notMem_nil, and_true] at h
  simp only [State.handshakeRow]; simp [↓ite_see, h]

@[simp] theorem State.handshake_see (s : State) (p : Nat) (w : Nat) {z : View}
    (h : z.place ∉ [.obj O.eventCount, .obj O.eventLastTime, .obj O.eventLatch, .obj O.hdpStats,
      .obj O.linkChangeCount, .obj O.linkPeerSupported, .obj O.maintTokenHolder, .obj O.portNegState, .part .link,
      .part .linkq]) :
    (State.handshake s p w).see z = s.see z := by
  simp only [notMem_cons, notMem_nil, and_true] at h
  simp only [State.handshake]; simp [h]

@[simp] theorem State.rxCommit_see (s : State) (p : Nat) (w : Option Nat) (follows : Bool) {z : View}
    (h : z.place ∉ [.obj O.eventCount, .obj O.eventLastTime, .obj O.eventLatch, .obj O.grainChanged,
      .obj O.grainRxState, .obj O.hdpStats, .obj O.portAlignState, .obj O.portNegState, .obj O.portVersion,
      .obj O.protFlags, .obj O.refTied, .obj O.tallyOvfCount, .obj O.timeGridResidual, .obj O.timeTcStats,
      .obj O.witnessStreamState, .part .link, .part .rx, .part .prot, .part .wit, .part .ref, .part .tim]) :
    (State.rxCommit s p w follows).see z = s.see z := by
  simp only [notMem_cons, notMem_nil, and_true] at h
  simp only [State.rxCommit]; split <;> simp [↓ite_see, h]

@[simp] theorem State.negFrame_see (s : State) (p : Nat) {z : View}
    (h : z.place ∉ [.obj O.eventCount, .obj O.eventLastTime, .obj O.eventLatch, .obj O.hdpStats,
      .obj O.portNegState, .obj O.portVersion, .obj O.tallyOvfCount, .obj O.timeTcStats, .part .link, .part .tim]) :
    (State.negFrame s p).see z = s.see z := by
  simp only [notMem_cons, notMem_nil, and_true] at h
  simp only [State.negFrame]; simp [↓ite_see, h]

@[simp] theorem State.fecInterval_see (s : State) (p : Nat) {z : View}
    (h : z.place ∉ [.obj O.eventCount, .obj O.eventLastTime, .obj O.eventLatch, .obj O.hdpStats, .part .link]) :
    (State.fecInterval s p).see z = s.see z := by
  simp only [notMem_cons, notMem_nil, and_true] at h
  simp only [State.fecInterval]; simp [↓ite_see, h]

@[simp] theorem State.portStart_see (s : State) (p : Nat) {z : View}
    (h : z.place ∉ [.obj O.eventCount, .obj O.eventLastTime, .obj O.eventLatch, .obj O.grainChanged,
      .obj O.grainRxState, .obj O.hdpStats, .obj O.portAlignState, .obj O.portNegState, .obj O.portVersion,
      .obj O.refTied, .obj O.timeGridResidual, .part .link, .part .rx, .part .ref, .part .tim]) :
    (State.portStart s p).see z = s.see z := by
  simp only [notMem_cons, notMem_nil, and_true] at h
  simp only [State.portStart]; simp [↓ite_see, h]

@[simp] theorem State.portStop_see (s : State) (p : Nat) (at_ : Bool) {z : View}
    (h : z.place ∉ [.obj O.eventCount, .obj O.eventLastTime, .obj O.eventLatch, .obj O.grainChanged,
      .obj O.grainRxState, .obj O.hdpStats, .obj O.maintTokenHolder, .obj O.portAlignState, .obj O.portNegState,
      .obj O.portVersion, .obj O.protFlags, .obj O.refTied, .obj O.tallyOvfCount, .obj O.timeGridResidual,
      .obj O.timeTcStats, .obj O.witnessStreamState, .part .link, .part .linkq, .part .rx, .part .prot, .part .wit,
      .part .ref, .part .tim]) :
    (State.portStop s p at_).see z = s.see z := by
  simp only [notMem_cons, notMem_nil, and_true] at h
  simp only [State.portStop]; simp [h]

@[simp] theorem State.rolesChanged_see (s : State) {z : View}
    (h : z.place ∉ [.obj O.eventCount, .obj O.eventLastTime, .obj O.eventLatch, .obj O.grainChanged,
      .obj O.grainRxState, .obj O.hdpStats, .obj O.maintTokenHolder, .obj O.portAlignState, .obj O.portNegState,
      .obj O.portVersion, .obj O.protFlags, .obj O.refTied, .obj O.tallyOvfCount, .obj O.timeGridResidual,
      .obj O.timeTcStats, .obj O.witnessStreamState, .part .link, .part .linkq, .part .rx, .part .prot, .part .wit,
      .part .ref, .part .tim]) :
    (State.rolesChanged s).see z = s.see z := by
  simp only [notMem_cons, notMem_nil, and_true] at h
  simp only [State.rolesChanged]; simp [↓ite_see, h]

@[simp] theorem portEnableOp_see (p : Nat) (v : Nat) (s : State) {z : View}
    (h : z.place ∉ [.obj O.eventCount, .obj O.eventLastTime, .obj O.eventLatch, .obj O.grainChanged,
      .obj O.grainRxState, .obj O.hdpStats, .obj O.maintTokenHolder, .obj O.portAlignState, .obj O.portEnable,
      .obj O.portNegState, .obj O.portVersion, .obj O.protFlags, .obj O.refTied, .obj O.tallyOvfCount,
      .obj O.timeGridResidual, .obj O.timeTcStats, .obj O.witnessStreamState, .part .link, .part .linkq, .part .rx,
      .part .prot, .part .wit, .part .ref, .part .tim]) :
    (portEnableOp p v s).1.see z = s.see z := by
  simp only [notMem_cons, notMem_nil, and_true] at h
  simp only [portEnableOp]; simp [↓ite_see, h]

@[simp] theorem portRoleOp_see (p : Nat) (v : Nat) (s : State) {z : View} (h : z.place ∉ [.obj O.portRole]) :
    (portRoleOp p v s).1.see z = s.see z := by
  simp only [notMem_cons, notMem_nil, and_true] at h
  simp only [portRoleOp]; simp [↓ite_see, h]

@[simp] theorem State.writePortEnable_see (s : State) (w : Who) (p : Nat) (v : Nat) {z : View}
    (h : z.place ∉ [.obj O.dictLastRefusal, .obj O.eventCount, .obj O.eventLastTime, .obj O.eventLatch,
      .obj O.grainChanged, .obj O.grainRxState, .obj O.hdpStats, .obj O.ledgerJournalSeq, .obj O.maintTokenHolder,
      .obj O.portAlignState, .obj O.portEnable, .obj O.portNegState, .obj O.portVersion, .obj O.protFlags,
      .obj O.refTied, .obj O.tallyOvfCount, .obj O.timeGridResidual, .obj O.timeTcStats, .obj O.witnessStreamState,
      .part .link, .part .linkq, .part .rx, .part .prot, .part .wit, .part .ref, .part .tim]) :
    (State.writePortEnable s w p v).see z = s.see z := by
  simp only [notMem_cons, notMem_nil, and_true] at h
  simp only [State.writePortEnable]; simp [h]

@[simp] theorem State.writePortRole_see (s : State) (w : Who) (p : Nat) (v : Nat) {z : View}
    (h : z.place ∉ [.obj O.dictLastRefusal, .obj O.eventCount, .obj O.eventLastTime, .obj O.eventLatch,
      .obj O.hdpStats, .obj O.ledgerJournalSeq, .obj O.portRole]) :
    (State.writePortRole s w p v).see z = s.see z := by
  simp only [notMem_cons, notMem_nil, and_true] at h
  simp only [State.writePortRole]; simp [h]

@[simp] theorem State.writeRenegotiate_see (s : State) (w : Who) (p : Nat) (v : Nat) {z : View}
    (h : z.place ∉ [.obj O.dictLastRefusal, .obj O.eventCount, .obj O.eventLastTime, .obj O.eventLatch,
      .obj O.grainChanged, .obj O.grainRxState, .obj O.hdpStats, .obj O.ledgerJournalSeq, .obj O.maintTokenHolder,
      .obj O.maintTokenSince, .obj O.portAlignState, .obj O.portNegState, .obj O.portVersion, .obj O.protFlags,
      .obj O.refTied, .obj O.tallyOvfCount, .obj O.timeGridResidual, .obj O.timeTcStats, .obj O.witnessStreamState,
      .part .link, .part .linkq, .part .rx, .part .prot, .part .wit, .part .ref, .part .tim]) :
    (State.writeRenegotiate s w p v).see z = s.see z := by
  simp only [notMem_cons, notMem_nil, and_true] at h
  simp only [State.writeRenegotiate]; simp [↓ite_see, h]

@[simp] theorem State.writeVersionMax_see (s : State) (w : Who) (p : Nat) (v : Nat) {z : View}
    (h : z.place ∉ [.obj O.dictLastRefusal, .obj O.eventCount, .obj O.eventLastTime, .obj O.eventLatch,
      .obj O.grainChanged, .obj O.grainRxState, .obj O.hdpStats, .obj O.ledgerJournalSeq, .obj O.linkVersionMax,
      .obj O.maintTokenHolder, .obj O.maintTokenSince, .obj O.portAlignState, .obj O.portNegState,
      .obj O.portVersion, .obj O.protFlags, .obj O.refTied, .obj O.tallyOvfCount, .obj O.timeGridResidual,
      .obj O.timeTcStats, .obj O.witnessStreamState, .part .link, .part .linkq, .part .rx, .part .prot, .part .wit,
      .part .ref, .part .tim]) :
    (State.writeVersionMax s w p v).see z = s.see z := by
  simp only [notMem_cons, notMem_nil, and_true] at h
  simp only [State.writeVersionMax]; simp [↓ite_see, h]

@[simp] theorem State.writeVersionExcluded_see (s : State) (w : Who) (p : Nat) (v : Nat) {z : View}
    (h : z.place ∉ [.obj O.dictLastRefusal, .obj O.eventCount, .obj O.eventLastTime, .obj O.eventLatch,
      .obj O.hdpStats, .obj O.ledgerJournalSeq, .obj O.linkVersionExcluded]) :
    (State.writeVersionExcluded s w p v).see z = s.see z := by
  simp only [notMem_cons, notMem_nil, and_true] at h
  simp only [State.writeVersionExcluded]; simp [h]

@[simp] theorem State.writeTimeChannelEn_see (s : State) (w : Who) (p : Nat) (v : Nat) {z : View}
    (h : z.place ∉ [.obj O.dictLastRefusal, .obj O.eventCount, .obj O.eventLastTime, .obj O.eventLatch,
      .obj O.hdpStats, .obj O.ledgerJournalSeq, .obj O.linkTimeChannelEn, .part .link]) :
    (State.writeTimeChannelEn s w p v).see z = s.see z := by
  simp only [notMem_cons, notMem_nil, and_true] at h
  simp only [State.writeTimeChannelEn]; simp [h]

@[simp] theorem laneOptOp_see (p : Nat) (v : Nat) (s : State) {z : View}
    (h : z.place ∉ [.obj O.portLaneOpt, .part .linkq]) :
    (laneOptOp p v s).1.see z = s.see z := by
  simp only [notMem_cons, notMem_nil, and_true] at h
  simp only [laneOptOp]; simp [h]

@[simp] theorem State.islandOff_see (s : State) (k : Nat) {z : View} (h : z.place ∉ [.part .linkq]) :
    (State.islandOff s k).see z = s.see z := by
  simp only [notMem_cons, notMem_nil, and_true] at h
  simp only [State.islandOff]; simp [h]

@[simp] theorem State.islandState_see (s : State) (k : Nat) (b : Bool) {z : View}
    (h : z.place ∉ [.obj O.eventCount, .obj O.eventLastTime, .obj O.eventLatch, .obj O.hdpStats,
      .obj O.powerSdIslandState]) :
    (State.islandState s k b).see z = s.see z := by
  simp only [notMem_cons, notMem_nil, and_true] at h
  simp only [State.islandState]; simp [↓ite_see, h]

@[simp] theorem State.islandUp_see (s : State) (k : Nat) {z : View} (h : z.place ∉ [.part .sys]) :
    (State.islandUp s k).see z = s.see z := by
  simp only [notMem_cons, notMem_nil, and_true] at h
  simp only [State.islandUp]; simp [↓see_mk, h]

@[simp] theorem State.islandTokEnd_see (s : State) {z : View}
    (h : z.place ∉ [.obj O.eventCount, .obj O.eventLastTime, .obj O.eventLatch, .obj O.hdpStats,
      .obj O.maintTokenHolder, .part .sys]) :
    (State.islandTokEnd s).see z = s.see z := by
  simp only [notMem_cons, notMem_nil, and_true] at h
  simp only [State.islandTokEnd]; simp [↓see_mk, ↓ite_see, h]

@[simp] theorem sdIslandOp_see (h0 : Nat) (v : Nat) (s : State) {z : View}
    (h : z.place ∉ [.obj O.eventCount, .obj O.eventLastTime, .obj O.eventLatch, .obj O.hdpStats,
      .obj O.maintTokenHolder, .obj O.maintTokenSince, .obj O.powerSdIslandEn, .obj O.powerSdIslandState,
      .part .sys, .part .linkq]) :
    (sdIslandOp h0 v s).1.see z = s.see z := by
  simp only [notMem_cons, notMem_nil, and_true] at h
  simp only [sdIslandOp]; simp [↓see_mk, ↓ite_see, h]

@[simp] theorem State.islandReadyOp_see (s : State) (k : Nat) {z : View}
    (h : z.place ∉ [.obj O.eventCount, .obj O.eventLastTime, .obj O.eventLatch, .obj O.grainChanged,
      .obj O.grainRxState, .obj O.hdpStats, .obj O.maintTokenHolder, .obj O.portAlignState, .obj O.portNegState,
      .obj O.portVersion, .obj O.powerSdIslandState, .obj O.refTied, .obj O.timeGridResidual, .part .sys,
      .part .link, .part .linkq, .part .rx, .part .ref, .part .tim]) :
    (State.islandReadyOp s k).see z = s.see z := by
  simp only [notMem_cons, notMem_nil, and_true] at h
  simp only [State.islandReadyOp]; simp [↓see_mk, ↓ite_see, h]

@[simp] theorem State.writeTxEq_see (s : State) (w : Who) (p : Nat) (v : Nat) {z : View}
    (h : z.place ∉ [.obj O.dictLastRefusal, .obj O.eventCount, .obj O.eventLastTime, .obj O.eventLatch,
      .obj O.hdpStats, .obj O.ledgerJournalSeq, .obj O.linkTxEq]) :
    (State.writeTxEq s w p v).see z = s.see z := by
  simp only [notMem_cons, notMem_nil, and_true] at h
  simp only [State.writeTxEq]; simp [↓ite_see, h]

/-! ### Machine/Traffic.lean -/

@[simp] theorem grainSizeOp_see (e : Nat) (v : Nat) (s : State) {z : View} (h : z.place ∉ [.obj O.grainSize]) :
    (grainSizeOp e v s).1.see z = s.see z := by
  simp only [notMem_cons, notMem_nil, and_true] at h
  simp only [grainSizeOp]; simp [↓ite_see, h]

@[simp] theorem State.writeGrainSize_see (s : State) (w : Who) (e : Nat) (v : Nat) {z : View}
    (h : z.place ∉ [.obj O.dictLastRefusal, .obj O.eventCount, .obj O.eventLastTime, .obj O.eventLatch,
      .obj O.grainSize, .obj O.hdpStats, .obj O.ledgerJournalSeq]) :
    (State.writeGrainSize s w e v).see z = s.see z := by
  simp only [notMem_cons, notMem_nil, and_true] at h
  simp only [State.writeGrainSize]; simp [h]

@[simp] theorem State.writeForceAis_see (s : State) (w : Who) (a : Nat) (v : Nat) {z : View}
    (h : z.place ∉ [.obj O.dictLastRefusal, .obj O.eventCount, .obj O.eventLastTime, .obj O.eventLatch,
      .obj O.grainTxForceAis, .obj O.hdpStats, .obj O.ledgerJournalSeq]) :
    (State.writeForceAis s w a v).see z = s.see z := by
  simp only [notMem_cons, notMem_nil, and_true] at h
  simp only [State.writeForceAis]; simp [h]

@[simp] theorem State.coherentReturn_see (s : State) (c : Nat) {z : View}
    (h : z.place ∉ [.obj O.eventCount, .obj O.eventLastTime, .obj O.eventLatch, .obj O.groupMode, .obj O.hdpStats,
      .part .grp]) :
    (State.coherentReturn s c).see z = s.see z := by
  simp only [notMem_cons, notMem_nil, and_true] at h
  simp only [State.coherentReturn]; simp [↓ite_see, h]

@[simp] theorem State.recapture_see (s : State) (c : Nat) {z : View}
    (h : z.place ∉ [.obj O.groupLineSlack, .obj O.groupOffset, .obj O.groupTarget, .part .grp]) :
    (State.recapture s c).see z = s.see z := by
  simp only [notMem_cons, notMem_nil, and_true] at h
  simp only [State.recapture]; simp [↓ite_see, h]

@[simp] theorem State.writeCtx_see (s : State) (w : Who) (idx : Nat) (c : Nat) (v : Nat) {z : Part}
    (h : z ∉ [.grp]) :
    (State.writeCtx s w idx c v).see (.part z) = s.see (.part z) := by
  simp only [notMem_cons, notMem_nil, and_true] at h
  simp only [State.writeCtx]; simp [h]

@[simp] theorem State.writeLineCtx_see (s : State) (w : Who) (a : Nat) (v : Nat) {z : View}
    (h : z.place ∉ [.obj O.dictLastRefusal, .obj O.eventCount, .obj O.eventLastTime, .obj O.eventLatch,
      .obj O.groupLineCtx, .obj O.hdpStats, .obj O.ledgerJournalSeq, .part .grp]) :
    (State.writeLineCtx s w a v).see z = s.see z := by
  simp only [notMem_cons, notMem_nil, and_true] at h
  simp only [State.writeLineCtx]; simp [h]

@[simp] theorem State.writeLineSq_see (s : State) (w : Who) (a : Nat) (v : Nat) {z : View}
    (h : z.place ∉ [.obj O.dictLastRefusal, .obj O.eventCount, .obj O.eventLastTime, .obj O.eventLatch,
      .obj O.groupLineSq, .obj O.hdpStats, .obj O.ledgerJournalSeq]) :
    (State.writeLineSq s w a v).see z = s.see z := by
  simp only [notMem_cons, notMem_nil, and_true] at h
  simp only [State.writeLineSq]; simp [h]

@[simp] theorem State.writeDraftSrc_see (s : State) (w : Who) (a : Nat) (v : Nat) {z : View}
    (h : z.place ∉ [.obj O.dictLastRefusal, .obj O.eventCount, .obj O.eventLastTime, .obj O.eventLatch,
      .obj O.hdpStats, .obj O.ledgerJournalSeq, .obj O.mapDraftSrc]) :
    (State.writeDraftSrc s w a v).see z = s.see z := by
  simp only [notMem_cons, notMem_nil, and_true] at h
  simp only [State.writeDraftSrc]; simp [h]

@[simp] theorem State.writeDraftRevert_see (s : State) (w : Who) (v : Nat) {z : Part} :
    (State.writeDraftRevert s w v).see (.part z) = s.see (.part z) := by
  simp only [State.writeDraftRevert]; simp

@[simp] theorem State.writeCommitReq_see (s : State) (w : Who) (v : Nat) {z : View}
    (h : z.place ∉ [.obj O.dictLastRefusal, .obj O.eventCount, .obj O.eventLastTime, .obj O.eventLatch,
      .obj O.hdpStats, .obj O.ledgerJournalSeq, .obj O.maintTokenHolder, .obj O.maintTokenSince, .obj O.mapResult,
      .obj O.mapState, .part .map, .part .mem]) :
    (State.writeCommitReq s w v).see z = s.see z := by
  simp only [notMem_cons, notMem_nil, and_true] at h
  simp only [State.writeCommitReq]; simp [h]

@[simp] theorem State.writeLodeState_see (s : State) (w : Who) (l : Nat) (v : Nat) {z : View}
    (h : z.place ∉ [.obj O.assayActive, .obj O.assayDropped, .obj O.assayQueueLen, .obj O.assayTestResult,
      .obj O.dictLastRefusal, .obj O.eventCount, .obj O.eventLastTime, .obj O.eventLatch, .obj O.fabricLodeState,
      .obj O.hdpStats, .obj O.ledgerJournalSeq, .obj O.maintTokenHolder, .obj O.maintTokenSince,
      .obj O.tallyOvfCount, .part .linkq, .part .asy]) :
    (State.writeLodeState s w l v).see z = s.see z := by
  simp only [notMem_cons, notMem_nil, and_true] at h
  simp only [State.writeLodeState]; simp [h]

@[simp] theorem State.abortMap_see (s : State) (w : Who) {z : View}
    (h : z.place ∉ [.obj O.dictLastRefusal, .obj O.eventCount, .obj O.eventLastTime, .obj O.eventLatch,
      .obj O.hdpStats, .obj O.maintTokenHolder, .obj O.maintTokenSince, .obj O.mapResult, .obj O.mapState,
      .obj O.tallyOvfCount, .part .sys, .part .map, .part .mem]) :
    (State.abortMap s w).see z = s.see z := by
  simp only [notMem_cons, notMem_nil, and_true] at h
  simp only [State.abortMap]; simp [↓ite_see, h]

/-! ### Machine/Protect.lean -/

@[simp] theorem State.sendBlocks_see (s : State) (st : Nat) (r : List Block) {z : View}
    (h : z.place ∉ [.part .linkq]) :
    (State.sendBlocks s st r).see z = s.see z := by
  simp only [notMem_cons, notMem_nil, and_true] at h
  simp only [State.sendBlocks]; (repeat' split) <;> simp [h]

@[simp] theorem State.sendOn_see (s : State) (st : Nat) (typ : Nat) (key : Nat) (body : List Nat) {z : View}
    (h : z.place ∉ [.part .linkq, .part .wit]) :
    (State.sendOn s st typ key body).see z = s.see z := by
  simp only [notMem_cons, notMem_nil, and_true] at h
  simp only [State.sendOn]; simp [h]

@[simp] theorem State.sendRec_see (s : State) (typ : Nat) (key : Nat) (body : List Nat) {z : View}
    (h : z.place ∉ [.part .linkq, .part .wit]) :
    (State.sendRec s typ key body).see z = s.see z := by
  simp only [notMem_cons, notMem_nil, and_true] at h
  simp only [State.sendRec]; simp [↓ite_see, h]

@[simp] theorem State.blockLock_see (s : State) (st : Nat) {z : View}
    (h : z.place ∉ [.obj O.eventCount, .obj O.eventLastTime, .obj O.eventLatch, .obj O.hdpStats, .obj O.protFlags,
      .obj O.witnessStreamState, .part .prot, .part .wit]) :
    (State.blockLock s st).see z = s.see z := by
  simp only [notMem_cons, notMem_nil, and_true] at h
  simp only [State.blockLock]; simp [↓ite_see, h]

@[simp] theorem State.statusTimeout_see (s : State) (st : Nat) {z : View}
    (h : z.place ∉ [.obj O.eventCount, .obj O.eventLastTime, .obj O.eventLatch, .obj O.hdpStats, .obj O.protFlags,
      .obj O.witnessStreamState, .part .prot, .part .wit]) :
    (State.statusTimeout s st).see z = s.see z := by
  simp only [notMem_cons, notMem_nil, and_true] at h
  simp only [State.statusTimeout]; simp [↓ite_see, h]

@[simp] theorem State.rxRecord_see (s : State) (st : Nat) (l : List Block) (want : Nat) (f : State → State)
    {z : View}
    (h : z.place ∉ [.obj O.witnessRecErr, .part .wit]) (hf : ∀ t, (f t).see z = t.see z) :
    (State.rxRecord s st l want f).see z = s.see z := by
  simp only [notMem_cons, notMem_nil, and_true] at h
  simp only [State.rxRecord]; simp [↓ite_see, h, hf]

@[simp] theorem State.streamStatus_see (s : State) (st : Nat) (d : Nat) {z : View}
    (h : z.place ∉ [.obj O.eventCount, .obj O.eventLastTime, .obj O.eventLatch, .obj O.hdpStats, .obj O.protFlags,
      .obj O.witnessStreamDevid, .obj O.witnessStreamState, .part .prot, .part .wit]) :
    (State.streamStatus s st d).see z = s.see z := by
  simp only [notMem_cons, notMem_nil, and_true] at h
  simp only [State.streamStatus]; simp [↓ite_see, h]

@[simp] theorem State.streamTiming_see (s : State) (st : Nat) (l : List Block) (arrival : Nat) {z : View}
    (h : z.place ∉ [.obj O.witnessLinkDelay, .part .wit]) :
    (State.streamTiming s st l arrival).see z = s.see z := by
  simp only [notMem_cons, notMem_nil, and_true] at h
  simp only [State.streamTiming]; simp [h]

@[simp] theorem State.setPref_see (s : State) (pref : Nat) (tsn : Nat) {z : View}
    (h : z.place ∉ [.obj O.eventCount, .obj O.eventLastTime, .obj O.eventLatch, .obj O.hdpStats,
      .obj O.protFromTsn, .obj O.protPref]) :
    (State.setPref s pref tsn).see z = s.see z := by
  simp only [notMem_cons, notMem_nil, and_true] at h
  simp only [State.setPref]; simp [↓ite_see, h]

@[simp] theorem State.setPState_see (s : State) (v : Nat) {z : View}
    (h : z.place ∉ [.obj O.eventCount, .obj O.eventLastTime, .obj O.eventLatch, .obj O.hdpStats, .obj O.protState]) :
    (State.setPState s v).see z = s.see z := by
  simp only [notMem_cons, notMem_nil, and_true] at h
  simp only [State.setPState]; simp [↓ite_see, h]

@[simp] theorem State.verdictState_see (s : State) (v : Nat) {z : View}
    (h : z.place ∉ [.obj O.eventCount, .obj O.eventLastTime, .obj O.eventLatch, .obj O.hdpStats, .obj O.protState]) :
    (State.verdictState s v).see z = s.see z := by
  simp only [notMem_cons, notMem_nil, and_true] at h
  simp only [State.verdictState]; simp [↓ite_see, h]

@[simp] theorem State.untoldEnd_see (s : State) {z : View}
    (h : z.place ∉ [.obj O.eventCount, .obj O.eventLastTime, .obj O.eventLatch, .obj O.hdpStats,
      .obj O.protFromTsn, .obj O.protPref, .part .prot]) :
    (State.untoldEnd s).see z = s.see z := by
  simp only [notMem_cons, notMem_nil, and_true] at h
  simp only [State.untoldEnd]; (repeat' split) <;> simp [↓see_mk, h]

@[simp] theorem State.statusRx_see (s : State) (st : Nat) (l : List Block) (arrival : Nat) {z : View}
    (h : z.place ∉ [.obj O.eventCount, .obj O.eventLastTime, .obj O.eventLatch, .obj O.hdpStats, .obj O.protFlags,
      .obj O.protFromTsn, .obj O.protPref, .obj O.witnessLinkDelay, .obj O.witnessStreamDevid,
      .obj O.witnessStreamState, .part .linkq, .part .prot, .part .wit]) :
    (State.statusRx s st l arrival).see z = s.see z := by
  simp only [notMem_cons, notMem_nil, and_true] at h
  simp only [State.statusRx]; simp [↓see_mk, ↓ite_see, h]

@[simp] theorem State.watchFrame_see (s : State) {z : View} (h : z.place ∉ [.part .prot]) :
    (State.watchFrame s).see z = s.see z := by
  simp only [notMem_cons, notMem_nil, and_true] at h
  simp only [State.watchFrame]; simp [↓see_mk, h]

@[simp] theorem State.statusFrame_see (s : State) {z : View} (h : z.place ∉ [.part .linkq, .part .wit]) :
    (State.statusFrame s).see z = s.see z := by
  simp only [notMem_cons, notMem_nil, and_true] at h
  simp only [State.statusFrame]; simp [↓ite_see, h]

@[simp] theorem State.reach_see (s : State) (st : Nat) (pref : Nat) (from_ : Nat) (ports : Nat) (host : Bool)
    {z : View}
    (h : z.place ∉ [.part .linkq, .part .prot, .part .wit]) :
    (State.reach s st pref from_ ports host).see z = s.see z := by
  simp only [notMem_cons, notMem_nil, and_true] at h
  simp only [State.reach]; simp [↓see_mk, h]

@[simp] theorem State.evaluate_see (s : State) (place : Nat) {z : View}
    (h : z.place ∉ [.part .linkq, .part .prot, .part .wit]) :
    (State.evaluate s place).see z = s.see z := by
  simp only [notMem_cons, notMem_nil, and_true] at h
  simp only [State.evaluate]; simp [↓see_mk, ↓ite_see, h]

@[simp] theorem State.returnNormal_see (s : State) {z : View}
    (h : z.place ∉ [.part .linkq, .part .prot, .part .wit]) :
    (State.returnNormal s).see z = s.see z := by
  simp only [notMem_cons, notMem_nil, and_true] at h
  simp only [State.returnNormal]; simp [↓ite_see, h]

@[simp] theorem State.verdictRx_see (s : State) (st : Nat) (l : List Block) {z : View}
    (h : z.place ∉ [.obj O.eventCount, .obj O.eventLastTime, .obj O.eventLatch, .obj O.hdpStats,
      .obj O.witnessLateVerdict, .part .linkq, .part .prot, .part .wit]) :
    (State.verdictRx s st l).see z = s.see z := by
  simp only [notMem_cons, notMem_nil, and_true] at h
  simp only [State.verdictRx]; simp [↓see_mk, ↓ite_see, h]

@[simp] theorem State.applyVerdict_see (s : State) (v : Vrd) {z : View}
    (h : z.place ∉ [.obj O.eventCount, .obj O.eventLastTime, .obj O.eventLatch, .obj O.hdpStats,
      .obj O.protFaultPorts, .obj O.protFlags, .obj O.protFromTsn, .obj O.protPref, .obj O.protState]) :
    (State.applyVerdict s v).see z = s.see z := by
  simp only [notMem_cons, notMem_nil, and_true] at h
  simp only [State.applyVerdict]; simp [↓ite_see, h]

@[simp] theorem State.prefRefresh_see (s : State) {z : View} (h : z.place ∉ [.part .linkq]) :
    (State.prefRefresh s).see z = s.see z := by
  simp only [notMem_cons, notMem_nil, and_true] at h
  simp only [State.prefRefresh]; simp [↓ite_see, h]

@[simp] theorem State.verdictEffective_see (s : State) {z : View}
    (h : z.place ∉ [.obj O.eventCount, .obj O.eventLastTime, .obj O.eventLatch, .obj O.hdpStats,
      .obj O.protFaultPorts, .obj O.protFlags, .obj O.protFromTsn, .obj O.protPref, .obj O.protState, .part .linkq,
      .part .prot]) :
    (State.verdictEffective s).see z = s.see z := by
  simp only [notMem_cons, notMem_nil, and_true] at h
  simp only [State.verdictEffective]; (repeat' split) <;> simp [↓see_mk, h]

@[simp] theorem prefSetOp_see (v : Nat) (s : State) {z : View}
    (h : z.place ∉ [.part .linkq, .part .prot, .part .wit]) :
    (prefSetOp v s).1.see z = s.see z := by
  simp only [notMem_cons, notMem_nil, and_true] at h
  simp only [prefSetOp]; simp [↓ite_see, h]

@[simp] theorem protRoleOp_see (v : Nat) (s : State) {z : View}
    (h : z.place ∉ [.obj O.eventCount, .obj O.eventLastTime, .obj O.eventLatch, .obj O.grainChanged,
      .obj O.grainRxState, .obj O.hdpStats, .obj O.maintTokenHolder, .obj O.portAlignState, .obj O.portNegState,
      .obj O.portVersion, .obj O.protFlags, .obj O.protRole, .obj O.refTied, .obj O.tallyOvfCount,
      .obj O.timeGridResidual, .obj O.timeTcStats, .obj O.witnessStreamState, .part .link, .part .linkq, .part .rx,
      .part .prot, .part .wit, .part .ref, .part .tim]) :
    (protRoleOp v s).1.see z = s.see z := by
  simp only [notMem_cons, notMem_nil, and_true] at h
  simp only [protRoleOp]; simp [↓ite_see, h]

@[simp] theorem protConfigOp_see (v : Nat) (s : State) {z : View}
    (h : z.place ∉ [.obj O.eventCount, .obj O.eventLastTime, .obj O.eventLatch, .obj O.hdpStats, .obj O.protConfig,
      .obj O.protFlags, .part .prot]) :
    (protConfigOp v s).1.see z = s.see z := by
  simp only [notMem_cons, notMem_nil, and_true] at h
  simp only [protConfigOp]; simp [h]

@[simp] theorem laneEnOp_see (v : Nat) (s : State) {z : View}
    (h : z.place ∉ [.obj O.eventCount, .obj O.eventLastTime, .obj O.eventLatch, .obj O.hdpStats, .obj O.protFlags,
      .obj O.witnessLaneEn, .obj O.witnessStreamState, .part .prot, .part .wit]) :
    (laneEnOp v s).1.see z = s.see z := by
  simp only [notMem_cons, notMem_nil, and_true] at h
  simp only [laneEnOp]; simp [↓ite_see, h]

@[simp] theorem portFaultClearOp_see (v : Nat) (s : State) {z : View}
    (h : z.place ∉ [.obj O.assayPortCause, .obj O.protPortFaulted]) :
    (portFaultClearOp v s).1.see z = s.see z := by
  simp only [notMem_cons, notMem_nil, and_true] at h
  simp only [portFaultClearOp]; simp [↓ite_see, h]

@[simp] theorem State.faultPort_see (s : State) (p : Nat) {z : View}
    (h : z.place ∉ [.obj O.eventCount, .obj O.eventLastTime, .obj O.eventLatch, .obj O.hdpStats,
      .obj O.protPortFaulted]) :
    (State.faultPort s p).see z = s.see z := by
  simp only [notMem_cons, notMem_nil, and_true] at h
  simp only [State.faultPort]; simp [↓ite_see, h]

@[simp] theorem State.foldRec_see (s : State) (kind : Nat) (port : Nat) (t : Nat) (crc : Nat) (n : Nat) {z : View}
    (h : z.place ∉ [.obj O.protDigestStats, .part .prot, .part .mtx]) :
    (State.foldRec s kind port t crc n).see z = s.see z := by
  simp only [notMem_cons, notMem_nil, and_true] at h
  simp only [State.foldRec]; simp [↓see_mk, ↓ite_see, h]

@[simp] theorem State.foldPair_see (s : State) (kind : Nat) (e : Nat) (t : Nat) (crc : Nat) {z : View}
    (h : z.place ∉ [.obj O.protDigestStats, .part .prot, .part .mtx]) :
    (State.foldPair s kind e t crc).see z = s.see z := by
  simp only [notMem_cons, notMem_nil, and_true] at h
  simp only [State.foldPair]; simp [h]

@[simp] theorem State.tapIn_see (s : State) (a : Nat) (u : SUnit) {z : View}
    (h : z.place ∉ [.obj O.protDigestStats, .part .prot, .part .mtx]) :
    (State.tapIn s a u).see z = s.see z := by
  simp only [notMem_cons, notMem_nil, and_true] at h
  simp only [State.tapIn]; split <;> simp [↓see_mk, ↓ite_see, h]

@[simp] theorem State.tapOut_see (s : State) (e : Nat) (src : Nat) (u : SUnit) {z : View}
    (h : z.place ∉ [.obj O.protDigestStats, .part .prot, .part .mtx]) :
    (State.tapOut s e src u).see z = s.see z := by
  simp only [notMem_cons, notMem_nil, and_true] at h
  simp only [State.tapOut]; split <;> simp [↓see_mk, ↓ite_see, h]

@[simp] theorem State.strays_see (s : State) {z : View} (h : z.place ∉ [.part .prot]) :
    (State.strays s).see z = s.see z := by
  simp only [notMem_cons, notMem_nil, and_true] at h
  simp only [State.strays]; simp [↓see_mk, h]

@[simp] theorem State.runStep_see (s : State) (kind : Nat) (place : Nat) (port : Nat) (t : Nat) (bad : Bool)
    {z : View}
    (h : z.place ∉ [.part .prot]) :
    (State.runStep s kind place port t bad).see z = s.see z := by
  simp only [notMem_cons, notMem_nil, and_true] at h
  simp only [State.runStep]; simp [↓see_mk, h]

@[simp] theorem State.recheckPref_see (s : State) {z : View}
    (h : z.place ∉ [.obj O.eventCount, .obj O.eventLastTime, .obj O.eventLatch, .obj O.hdpStats, .obj O.protState,
      .part .prot]) :
    (State.recheckPref s).see z = s.see z := by
  simp only [notMem_cons, notMem_nil, and_true] at h
  simp only [State.recheckPref]; split <;> simp [↓see_mk, ↓ite_see, h]

@[simp] theorem State.compared_see (s : State) (kind : Nat) (place : Nat) (port : Nat) (t : Nat) (bad : Bool)
    {z : View}
    (h : z.place ∉ [.obj O.eventCount, .obj O.eventLastTime, .obj O.eventLatch, .obj O.hdpStats,
      .obj O.protDigestStats, .obj O.protState, .part .linkq, .part .prot, .part .wit]) :
    (State.compared s kind place port t bad).see z = s.see z := by
  simp only [notMem_cons, notMem_nil, and_true] at h
  simp only [State.compared]; simp [↓see_mk, ↓ite_see, h]

@[simp] theorem State.compareAt_see (s : State) (kind : Nat) (place : Nat) (port : Nat) (t : Nat) {z : View}
    (h : z.place ∉ [.obj O.eventCount, .obj O.eventLastTime, .obj O.eventLatch, .obj O.hdpStats,
      .obj O.protDigestStats, .obj O.protState, .part .linkq, .part .prot, .part .wit]) :
    (State.compareAt s kind place port t).see z = s.see z := by
  simp only [notMem_cons, notMem_nil, and_true] at h
  simp only [State.compareAt]; (repeat' split) <;> simp [h]

@[simp] theorem State.selfFails_see (s : State) (e : Nat) {z : View}
    (h : z.place ∉ [.obj O.assayActive, .obj O.assayDropped, .obj O.assayErrors, .obj O.assayQueueLen,
      .obj O.assayTestResult, .obj O.eventCount, .obj O.eventLastTime, .obj O.eventLatch, .obj O.hdpStats,
      .obj O.protDigestStats, .obj O.protFlags, .obj O.tallyOvfCount, .part .linkq, .part .prot, .part .asy]) :
    (State.selfFails s e).see z = s.see z := by
  simp only [notMem_cons, notMem_nil, and_true] at h
  simp only [State.selfFails]; simp [↓see_mk, h]

@[simp] theorem State.selfCheck_see (s : State) (e : Nat) (t : Nat) (bad : Bool) {z : View}
    (h : z.place ∉ [.obj O.assayActive, .obj O.assayDropped, .obj O.assayErrors, .obj O.assayQueueLen,
      .obj O.assayTestResult, .obj O.eventCount, .obj O.eventLastTime, .obj O.eventLatch, .obj O.hdpStats,
      .obj O.protDigestStats, .obj O.protFlags, .obj O.protPortFaulted, .obj O.tallyOvfCount, .part .linkq,
      .part .prot, .part .asy]) :
    (State.selfCheck s e t bad).see z = s.see z := by
  simp only [notMem_cons, notMem_nil, and_true] at h
  simp only [State.selfCheck]; simp [↓ite_see, h]

@[simp] theorem State.closePair_see (s : State) (e : Nat) (t : Nat) {z : View}
    (h : z.place ∉ [.obj O.assayActive, .obj O.assayDropped, .obj O.assayErrors, .obj O.assayQueueLen,
      .obj O.assayTestResult, .obj O.eventCount, .obj O.eventLastTime, .obj O.eventLatch, .obj O.hdpStats,
      .obj O.protDigestStats, .obj O.protFlags, .obj O.protPortFaulted, .obj O.tallyOvfCount, .part .linkq,
      .part .prot, .part .wit, .part .mtx, .part .asy]) :
    (State.closePair s e t).see z = s.see z := by
  simp only [notMem_cons, notMem_nil, and_true] at h
  simp only [State.closePair]; split <;> simp [↓see_mk, ↓ite_see, h]

@[simp] theorem State.closed_see (s : State) (r : DRec) {z : View}
    (h : z.place ∉ [.obj O.assayActive, .obj O.assayDropped, .obj O.assayErrors, .obj O.assayQueueLen,
      .obj O.assayTestResult, .obj O.eventCount, .obj O.eventLastTime, .obj O.eventLatch, .obj O.hdpStats,
      .obj O.protDigestStats, .obj O.protFlags, .obj O.protPortFaulted, .obj O.protState, .obj O.tallyOvfCount,
      .part .linkq, .part .prot, .part .wit, .part .mtx, .part .asy]) :
    (State.closed s r).see z = s.see z := by
  simp only [notMem_cons, notMem_nil, and_true] at h
  simp only [State.closed]; simp [↓ite_see, h]

@[simp] theorem State.digestFrame_see (s : State) {z : View}
    (h : z.place ∉ [.obj O.assayActive, .obj O.assayDropped, .obj O.assayErrors, .obj O.assayQueueLen,
      .obj O.assayTestResult, .obj O.eventCount, .obj O.eventLastTime, .obj O.eventLatch, .obj O.hdpStats,
      .obj O.protDigestStats, .obj O.protFlags, .obj O.protPortFaulted, .obj O.protState, .obj O.tallyOvfCount,
      .part .linkq, .part .prot, .part .wit, .part .mtx, .part .asy]) :
    (State.digestFrame s).see z = s.see z := by
  simp only [notMem_cons, notMem_nil, and_true] at h
  simp only [State.digestFrame]; simp [↓see_mk, h]

@[simp] theorem State.recordAged_see (s : State) (kind : Nat) (port : Nat) (t : Nat) {z : View}
    (h : z.place ∉ [.obj O.assayActive, .obj O.assayDropped, .obj O.assayErrors, .obj O.assayQueueLen,
      .obj O.assayTestResult, .obj O.eventCount, .obj O.eventLastTime, .obj O.eventLatch, .obj O.hdpStats,
      .obj O.protDigestStats, .obj O.protFlags, .obj O.protPortFaulted, .obj O.protState, .obj O.tallyOvfCount,
      .part .linkq, .part .prot, .part .wit, .part .mtx, .part .asy]) :
    (State.recordAged s kind port t).see z = s.see z := by
  simp only [notMem_cons, notMem_nil, and_true] at h
  simp only [State.recordAged]; split <;> simp [↓see_mk, ↓ite_see, h]

@[simp] theorem State.recordUnmatched_see (s : State) (kind : Nat) (port : Nat) (t : Nat) {z : View}
    (h : z.place ∉ [.obj O.protDigestStats, .part .prot, .part .mtx]) :
    (State.recordUnmatched s kind port t).see z = s.see z := by
  simp only [notMem_cons, notMem_nil, and_true] at h
  simp only [State.recordUnmatched]; simp [↓see_mk, ↓ite_see, h]

@[simp] theorem State.peerRec_see (s : State) (st : Nat) (kind : Nat) (l : List Block) {z : View}
    (h : z.place ∉ [.obj O.eventCount, .obj O.eventLastTime, .obj O.eventLatch, .obj O.hdpStats,
      .obj O.protDigestStats, .obj O.protState, .part .linkq, .part .prot, .part .wit]) :
    (State.peerRec s st kind l).see z = s.see z := by
  simp only [notMem_cons, notMem_nil, and_true] at h
  simp only [State.peerRec]; simp [↓see_mk, ↓ite_see, h]

@[simp] theorem State.noticeSeen_see (s : State) (value : Nat) (dig : Nat) {z : View}
    (h : z.place ∉ [.obj O.eventCount, .obj O.eventLastTime, .obj O.eventLatch, .obj O.hdpStats, .part .prot]) :
    (State.noticeSeen s value dig).see z = s.see z := by
  simp only [notMem_cons, notMem_nil, and_true] at h
  simp only [State.noticeSeen]; simp [↓see_mk, ↓ite_see, h]

@[simp] theorem State.sendNotice_see (s : State) (kind : Nat) (value : Nat) (dig : Nat) (epoch : Nat) {z : View}
    (h : z.place ∉ [.part .linkq, .part .wit]) :
    (State.sendNotice s kind value dig epoch).see z = s.see z := by
  simp only [notMem_cons, notMem_nil, and_true] at h
  simp only [State.sendNotice]; simp [h]

@[simp] theorem State.mapDigestReady_see (s : State) {z : View}
    (h : z.place ∉ [.obj O.eventCount, .obj O.eventLastTime, .obj O.eventLatch, .obj O.hdpStats,
      .obj O.protMapDigest, .part .linkq, .part .prot, .part .wit]) :
    (State.mapDigestReady s).see z = s.see z := by
  simp only [notMem_cons, notMem_nil, and_true] at h
  simp only [State.mapDigestReady]; simp [↓see_mk, ↓ite_see, h]

@[simp] theorem State.solveComplete_see (s : State) {z : Part} (h : z ∉ [.linkq, .map, .wit]) :
    (State.solveComplete s).see (.part z) = s.see (.part z) := by
  simp only [notMem_cons, notMem_nil, and_true] at h
  simp only [State.solveComplete]; simp [↓ite_see, h]

@[simp] theorem State.noticeRx_see (s : State) (st : Nat) (l : List Block) {z : View}
    (h : z.place ∉ [.obj O.eventCount, .obj O.eventLastTime, .obj O.eventLatch, .obj O.hdpStats, .part .prot]) :
    (State.noticeRx s st l).see z = s.see z := by
  simp only [notMem_cons, notMem_nil, and_true] at h
  simp only [State.noticeRx]; simp [↓ite_see, h]

@[simp] theorem State.serviceEntry_see (s : State) {z : View}
    (h : z.place ∉ [.obj O.eventCount, .obj O.eventLastTime, .obj O.eventLatch, .obj O.hdpStats, .obj O.protFlags,
      .obj O.protFromTsn, .obj O.protPref, .obj O.protState, .part .linkq, .part .prot]) :
    (State.serviceEntry s).see z = s.see z := by
  simp only [notMem_cons, notMem_nil, and_true] at h
  simp only [State.serviceEntry]; (repeat' split) <;> simp [↓see_mk, h]

@[simp] theorem State.writeProtRole_see (s : State) (w : Who) (v : Nat) {z : View}
    (h : z.place ∉ [.obj O.dictLastRefusal, .obj O.eventCount, .obj O.eventLastTime, .obj O.eventLatch,
      .obj O.grainChanged, .obj O.grainRxState, .obj O.hdpStats, .obj O.ledgerJournalSeq, .obj O.maintTokenHolder,
      .obj O.portAlignState, .obj O.portNegState, .obj O.portVersion, .obj O.protFlags, .obj O.protRole,
      .obj O.refTied, .obj O.tallyOvfCount, .obj O.timeGridResidual, .obj O.timeTcStats, .obj O.witnessStreamState,
      .part .link, .part .linkq, .part .rx, .part .prot, .part .wit, .part .ref, .part .tim]) :
    (State.writeProtRole s w v).see z = s.see z := by
  simp only [notMem_cons, notMem_nil, and_true] at h
  simp only [State.writeProtRole]; simp [h]

@[simp] theorem State.writePrefSet_see (s : State) (w : Who) (v : Nat) {z : View}
    (h : z.place ∉ [.obj O.dictLastRefusal, .obj O.eventCount, .obj O.eventLastTime, .obj O.eventLatch,
      .obj O.hdpStats, .obj O.ledgerJournalSeq, .part .linkq, .part .prot, .part .wit]) :
    (State.writePrefSet s w v).see z = s.see z := by
  simp only [notMem_cons, notMem_nil, and_true] at h
  simp only [State.writePrefSet]; simp [h]

@[simp] theorem State.writePortFaultClear_see (s : State) (w : Who) (v : Nat) {z : View}
    (h : z.place ∉ [.obj O.assayPortCause, .obj O.dictLastRefusal, .obj O.eventCount, .obj O.eventLastTime,
      .obj O.eventLatch, .obj O.hdpStats, .obj O.ledgerJournalSeq, .obj O.protPortFaulted]) :
    (State.writePortFaultClear s w v).see z = s.see z := by
  simp only [notMem_cons, notMem_nil, and_true] at h
  simp only [State.writePortFaultClear]; simp [h]

/-! ### Machine/Assayer.lean -/

@[simp] theorem State.testStart_see (s : State) (g : Nat) {z : View}
    (h : z.place ∉ [.obj O.assayActive, .obj O.assayQueueLen, .obj O.assayTestResult, .obj O.tallyOvfCount,
      .part .linkq, .part .asy]) :
    (State.testStart s g).see z = s.see z := by
  simp only [notMem_cons, notMem_nil, and_true] at h
  simp only [State.testStart]; (repeat' split) <;> simp [↓see_mk, h]

@[simp] theorem State.testNext_see (s : State) (g : Nat) (t : TestT) {z : View} (h : z.place ∉ [.part .asy]) :
    (State.testNext s g t).see z = s.see z := by
  simp only [notMem_cons, notMem_nil, and_true] at h
  simp only [State.testNext]; simp [↓see_mk, h]

@[simp] theorem State.assayPort_see (s : State) (p : Nat) (cause : Nat) {z : View}
    (h : z.place ∉ [.obj O.assayPortCause, .obj O.eventCount, .obj O.eventLastTime, .obj O.eventLatch,
      .obj O.hdpStats, .obj O.protPortFaulted]) :
    (State.assayPort s p cause).see z = s.see z := by
  simp only [notMem_cons, notMem_nil, and_true] at h
  simp only [State.assayPort]; simp [↓ite_see, h]

@[simp] theorem State.sramExclude_see (s : State) (unit : Nat) {z : View}
    (h : z.place ∉ [.obj O.eventCount, .obj O.eventLastTime, .obj O.eventLatch, .obj O.hdpStats, .part .mem]) :
    (State.sramExclude s unit).1.see z = s.see z := by
  simp only [notMem_cons, notMem_nil, and_true] at h
  simp only [State.sramExclude]; simp [↓see_mk, ↓ite_see, h]

@[simp] theorem State.ddrRepair_see (s : State) (beat : Nat) (bad : Bool) {z : View}
    (h : z.place ∉ [.obj O.eventCount, .obj O.eventLastTime, .obj O.eventLatch, .obj O.groupLineChanged,
      .obj O.groupLineState, .obj O.hdpStats, .obj O.memDdrChState, .obj O.memDdrState, .part .live, .part .grp,
      .part .mem, .part .asy]) :
    (State.ddrRepair s beat bad).1.see z = s.see z := by
  simp only [notMem_cons, notMem_nil, and_true] at h
  simp only [State.ddrRepair]; simp [↓see_mk, ↓ite_see, h]

@[simp] theorem State.repairOf_see (s : State) (t : TestT) (wide : Bool) {z : View}
    (h : z.place ∉ [.obj O.assayPortCause, .obj O.eventCount, .obj O.eventLastTime, .obj O.eventLatch,
      .obj O.fabricLodeState, .obj O.groupLineChanged, .obj O.groupLineState, .obj O.hdpStats,
      .obj O.ledgerExportState, .obj O.maintTokenHolder, .obj O.maintTokenSince, .obj O.mapResult, .obj O.mapState,
      .obj O.memBankFenced, .obj O.memBankOwner, .obj O.memBankState, .obj O.memBankTarget, .obj O.memDdrChState,
      .obj O.memDdrState, .obj O.memFenceList, .obj O.memOwnerShort, .obj O.protPortFaulted, .obj O.tallyOvfCount,
      .obj O.tallyTraceState, .part .live, .part .sys, .part .map, .part .grp, .part .mem, .part .asy]) :
    (State.repairOf s t wide).1.see z = s.see z := by
  simp only [notMem_cons, notMem_nil, and_true] at h
  simp only [State.repairOf]; split <;> simp [↓ite_see, h]

@[simp] theorem State.remember_see (s : State) (res : Nat) {z : View}
    (h : z.place ∉ [.obj O.eventCount, .obj O.eventLastTime, .obj O.eventLatch, .obj O.hdpStats, .part .asy]) :
    (State.remember s res).see z = s.see z := by
  simp only [notMem_cons, notMem_nil, and_true] at h
  simp only [State.remember]; simp [↓see_mk, ↓ite_see, h]

@[simp] theorem State.hostDone_see (s : State) (t : TestT) (failed : Bool) {z : View}
    (h : z.place ∉ [.obj O.assayTestResult, .obj O.eventCount, .obj O.eventLastTime, .obj O.eventLatch,
      .obj O.hdpStats, .obj O.maintTokenHolder]) :
    (State.hostDone s t failed).see z = s.see z := by
  simp only [notMem_cons, notMem_nil, and_true] at h
  simp only [State.hostDone]; simp [↓ite_see, h]

@[simp] theorem State.lastingFault_see (s : State) (t : TestT) (wide : Bool) (suspect : Bool) {z : View}
    (h : z.place ∉ [.obj O.assayLasting, .obj O.assayPortCause, .obj O.eventCount, .obj O.eventLastTime,
      .obj O.eventLatch, .obj O.fabricLodeState, .obj O.groupLineChanged, .obj O.groupLineState, .obj O.hdpStats,
      .obj O.ledgerExportState, .obj O.maintTokenHolder, .obj O.maintTokenSince, .obj O.mapResult, .obj O.mapState,
      .obj O.memBankFenced, .obj O.memBankOwner, .obj O.memBankState, .obj O.memBankTarget, .obj O.memDdrChState,
      .obj O.memDdrState, .obj O.memFenceList, .obj O.memOwnerShort, .obj O.protPortFaulted, .obj O.tallyOvfCount,
      .obj O.tallyTraceState, .part .live, .part .sys, .part .map, .part .grp, .part .mem, .part .asy]) :
    (State.lastingFault s t wide suspect).see z = s.see z := by
  simp only [notMem_cons, notMem_nil, and_true] at h
  simp only [State.lastingFault]; simp [h]

@[simp] theorem State.classify_see (s : State) (g : Nat) (t : TestT) (failed : Bool) (wide : Bool)
    (rewritten : Bool) {z : View}
    (h : z.place ∉ [.obj O.assayActive, .obj O.assayLasting, .obj O.assayPortCause, .obj O.assayQueueLen,
      .obj O.assayTestResult, .obj O.assayTransients, .obj O.eventCount, .obj O.eventLastTime, .obj O.eventLatch,
      .obj O.fabricLodeState, .obj O.groupLineChanged, .obj O.groupLineState, .obj O.hdpStats,
      .obj O.ledgerExportState, .obj O.maintTokenHolder, .obj O.maintTokenSince, .obj O.mapResult, .obj O.mapState,
      .obj O.memBankFenced, .obj O.memBankOwner, .obj O.memBankState, .obj O.memBankTarget, .obj O.memDdrChState,
      .obj O.memDdrState, .obj O.memFenceList, .obj O.memOwnerShort, .obj O.protPortFaulted, .obj O.tallyOvfCount,
      .obj O.tallyTraceState, .part .live, .part .sys, .part .map, .part .grp, .part .mem, .part .asy]) :
    (State.classify s g t failed wide rewritten).see z = s.see z := by
  simp only [notMem_cons, notMem_nil, and_true] at h
  simp only [State.classify]; simp [↓see_mk, ↓ite_see, h]

@[simp] theorem State.pathDone_see (s : State) {z : View} (h : z.place ∉ [.part .asy]) :
    (State.pathDone s).see z = s.see z := by
  simp only [notMem_cons, notMem_nil, and_true] at h
  simp only [State.pathDone]; split <;> simp [↓ite_see, h]

@[simp] theorem State.entHit_see (s : State) (x : EntIn) {z : View} (h : z.place ∉ [.part .fab]) :
    (State.entHit s x).see z = s.see z := by
  simp only [notMem_cons, notMem_nil, and_true] at h
  simp only [State.entHit]; simp [↓see_mk, ↓ite_see, h]

@[simp] theorem State.auditRecheck_see (s : State) (hits : List EntIn) {z : View}
    (h : z.place ∉ [.part .fab, .part .asy]) :
    (State.auditRecheck s hits).see z = s.see z := by
  simp only [notMem_cons, notMem_nil, and_true] at h
  simp only [State.auditRecheck]; split <;> simp [↓ite_see, h]

@[simp] theorem State.wordTested_see (s : State) (b : Nat) (w : Nat) {z : View}
    (h : z.place ∉ [.obj O.tallyOvfCount, .part .mem]) :
    (State.wordTested s b w).see z = s.see z := by
  simp only [notMem_cons, notMem_nil, and_true] at h
  simp only [State.wordTested]; simp [↓ite_see, h]

@[simp] theorem State.bankTest_see (s : State) (b : Nat) (w : Nat) (masks : List (Nat × Nat)) {z : View}
    (h : z.place ∉ [.obj O.tallyOvfCount, .part .mem]) :
    (State.bankTest s b w masks).1.see z = s.see z := by
  simp only [notMem_cons, notMem_nil, and_true] at h
  simp only [State.bankTest]; simp [↓ite_see, h]

@[simp] theorem State.testComplete_see (s : State) (g : Nat) (pass : Bool) (masks : List (Nat × Nat)) {z : View}
    (h : z.place ∉ [.obj O.assayActive, .obj O.assayLasting, .obj O.assayPortCause, .obj O.assayQueueLen,
      .obj O.assayTestResult, .obj O.assayTransients, .obj O.eventCount, .obj O.eventLastTime, .obj O.eventLatch,
      .obj O.fabricLodeState, .obj O.groupLineChanged, .obj O.groupLineState, .obj O.hdpStats,
      .obj O.ledgerExportState, .obj O.maintTokenHolder, .obj O.maintTokenSince, .obj O.mapResult, .obj O.mapState,
      .obj O.memBankFenced, .obj O.memBankOwner, .obj O.memBankState, .obj O.memBankTarget, .obj O.memDdrChState,
      .obj O.memDdrState, .obj O.memFenceList, .obj O.memOwnerShort, .obj O.protPortFaulted, .obj O.tallyOvfCount,
      .obj O.tallyTraceState, .part .live, .part .sys, .part .map, .part .grp, .part .mem, .part .asy]) :
    (State.testComplete s g pass masks).see z = s.see z := by
  simp only [notMem_cons, notMem_nil, and_true] at h
  simp only [State.testComplete]; split <;> simp [↓ite_see, h]

@[simp] theorem State.bankPass_see (s : State) {z : View} (h : z.place ∉ [.obj O.assayPasses, .part .mem]) :
    (State.bankPass s).see z = s.see z := by
  simp only [notMem_cons, notMem_nil, and_true] at h
  simp only [State.bankPass]; simp [↓see_mk, ↓ite_see, h]

@[simp] theorem State.bankWordTest_see (s : State) (b : Nat) (w : Nat) (bad : Nat) {z : View}
    (h : z.place ∉ [.obj O.assayActive, .obj O.assayDropped, .obj O.assayErrors, .obj O.assayPasses,
      .obj O.assayQueueLen, .obj O.assayTestResult, .obj O.eventCount, .obj O.eventLastTime, .obj O.eventLatch,
      .obj O.hdpStats, .obj O.tallyOvfCount, .part .linkq, .part .mem, .part .asy]) :
    (State.bankWordTest s b w bad).see z = s.see z := by
  simp only [notMem_cons, notMem_nil, and_true] at h
  simp only [State.bankWordTest]; simp [↓see_mk, ↓ite_see, h]

@[simp] theorem State.sramErr_see (s : State) (unit : Nat) (bad : Bool) {z : View}
    (h : z.place ∉ [.obj O.assayActive, .obj O.assayDropped, .obj O.assayErrors, .obj O.assayQueueLen,
      .obj O.assayTestResult, .obj O.eventCount, .obj O.eventLastTime, .obj O.eventLatch, .obj O.hdpStats,
      .obj O.keeperSramCe, .obj O.keeperSramUe, .obj O.tallyOvfCount, .part .linkq, .part .asy]) :
    (State.sramErr s unit bad).see z = s.see z := by
  simp only [notMem_cons, notMem_nil, and_true] at h
  simp only [State.sramErr]; simp [↓ite_see, h]

@[simp] theorem State.sramUnit_see (s : State) (u : Nat) (f : Nat) {z : View}
    (h : z.place ∉ [.obj O.assayActive, .obj O.assayDropped, .obj O.assayErrors, .obj O.assayQueueLen,
      .obj O.assayTestResult, .obj O.eventCount, .obj O.eventLastTime, .obj O.eventLatch, .obj O.hdpStats,
      .obj O.keeperSramCe, .obj O.keeperSramUe, .obj O.tallyOvfCount, .part .linkq, .part .mem, .part .asy]) :
    (State.sramUnit s u f).1.see z = s.see z := by
  simp only [notMem_cons, notMem_nil, and_true] at h
  simp only [State.sramUnit]; simp [↓see_mk, ↓ite_see, h]

@[simp] theorem State.sramRead_see (s : State) (o : Nat) (n : Nat) (f : Nat) {z : View}
    (h : z.place ∉ [.obj O.assayActive, .obj O.assayDropped, .obj O.assayErrors, .obj O.assayQueueLen,
      .obj O.assayTestResult, .obj O.eventCount, .obj O.eventLastTime, .obj O.eventLatch, .obj O.hdpStats,
      .obj O.keeperSramCe, .obj O.keeperSramUe, .obj O.tallyOvfCount, .part .linkq, .part .mem, .part .asy]) :
    (State.sramRead s o n f).1.see z = s.see z := by
  simp only [notMem_cons, notMem_nil, and_true] at h
  simp only [State.sramRead]; simp [h]

@[simp] theorem State.sramWrite_see (s : State) (o : Nat) (d : List (Byte × Bool)) {z : View}
    (h : z.place ∉ [.obj O.assayActive, .obj O.assayDropped, .obj O.assayErrors, .obj O.assayQueueLen,
      .obj O.assayTestResult, .obj O.eventCount, .obj O.eventLastTime, .obj O.eventLatch, .obj O.hdpStats,
      .obj O.keeperSramCe, .obj O.keeperSramUe, .obj O.tallyOvfCount, .part .linkq, .part .mem, .part .asy]) :
    (State.sramWrite s o d).see z = s.see z := by
  simp only [notMem_cons, notMem_nil, and_true] at h
  simp only [State.sramWrite]; simp [↓see_mk, ↓ite_see, h]

@[simp] theorem State.sramPatrol_see (s : State) (f : Nat) {z : View}
    (h : z.place ∉ [.obj O.assayActive, .obj O.assayDropped, .obj O.assayErrors, .obj O.assayPasses,
      .obj O.assayQueueLen, .obj O.assayTestResult, .obj O.eventCount, .obj O.eventLastTime, .obj O.eventLatch,
      .obj O.hdpStats, .obj O.keeperSramCe, .obj O.keeperSramUe, .obj O.tallyOvfCount, .part .linkq, .part .mem,
      .part .asy]) :
    (State.sramPatrol s f).see z = s.see z := by
  simp only [notMem_cons, notMem_nil, and_true] at h
  simp only [State.sramPatrol]; simp [↓see_mk, ↓ite_see, h]

@[simp] theorem testReqOp_see (h0 : Nat) (v : Nat) (s : State) {z : View}
    (h : z.place ∉ [.obj O.assayActive, .obj O.assayDropped, .obj O.assayQueueLen, .obj O.assayTestResult,
      .obj O.eventCount, .obj O.eventLastTime, .obj O.eventLatch, .obj O.hdpStats, .obj O.maintTokenHolder,
      .obj O.maintTokenSince, .obj O.mapResult, .obj O.mapState, .obj O.memBankState, .obj O.protPromoteStep,
      .obj O.protState, .obj O.sysCause, .obj O.sysModeFsn, .obj O.sysResume, .obj O.tallyOvfCount, .part .sys,
      .part .linkq, .part .map, .part .prot, .part .mem, .part .mtx, .part .fw, .part .asy]) :
    (testReqOp h0 v s).1.see z = s.see z := by
  simp only [notMem_cons, notMem_nil, and_true] at h
  simp only [testReqOp]; simp [↓ite_see, h]

@[simp] theorem State.writeTestReq_see (s : State) (w : Who) (v : Nat) {z : View}
    (h : z.place ∉ [.obj O.assayActive, .obj O.assayDropped, .obj O.assayQueueLen, .obj O.assayTestResult,
      .obj O.dictLastRefusal, .obj O.eventCount, .obj O.eventLastTime, .obj O.eventLatch, .obj O.hdpStats,
      .obj O.ledgerJournalSeq, .obj O.maintTokenHolder, .obj O.maintTokenSince, .obj O.mapResult, .obj O.mapState,
      .obj O.memBankState, .obj O.protPromoteStep, .obj O.protState, .obj O.sysCause, .obj O.sysModeFsn,
      .obj O.sysResume, .obj O.tallyOvfCount, .part .sys, .part .linkq, .part .map, .part .prot, .part .mem,
      .part .mtx, .part .fw, .part .asy]) :
    (State.writeTestReq s w v).see z = s.see z := by
  simp only [notMem_cons, notMem_nil, and_true] at h
  simp only [State.writeTestReq]; simp [h]

@[simp] theorem State.assayLogRead_see (s : State) (w : Who) (first : Nat) (count : Nat) {z : View}
    (h : z.place ∉ [.part .asy]) :
    (State.assayLogRead s w first count).see z = s.see z := by
  simp only [notMem_cons, notMem_nil, and_true] at h
  simp only [State.assayLogRead]; simp [↓see_mk, ↓ite_see, h]

/-! ### Machine/Ledger.lean -/

@[simp] theorem State.cutStart_see (s : State) (h0 : Nat) {z : View}
    (h : z.place ∉ [.obj O.eventCount, .obj O.eventLastTime, .obj O.eventLatch, .obj O.hdpStats,
      .obj O.ledgerExportState, .obj O.maintTokenHolder, .obj O.maintTokenSince, .part .mem]) :
    (State.cutStart s h0).see z = s.see z := by
  simp only [notMem_cons, notMem_nil, and_true] at h
  simp only [State.cutStart]; simp [↓see_mk, h]

@[simp] theorem State.cutAuto_see (s : State) {z : View}
    (h : z.place ∉ [.obj O.eventCount, .obj O.eventLastTime, .obj O.eventLatch, .obj O.hdpStats,
      .obj O.ledgerExportState, .obj O.maintTokenHolder, .obj O.maintTokenSince, .part .mem]) :
    (State.cutAuto s).see z = s.see z := by
  simp only [notMem_cons, notMem_nil, and_true] at h
  simp only [State.cutAuto]; simp [↓ite_see, h]

@[simp] theorem State.cutCapture_see (s : State) {z : View} :
    (State.cutCapture s).see z = s.see z := by
  simp only [State.cutCapture]; simp [↓see_mk, ↓ite_see]

@[simp] theorem State.ledgerFrame_see (s : State) {z : View}
    (h : z.place ∉ [.obj O.eventCount, .obj O.eventLastTime, .obj O.eventLatch, .obj O.hdpStats,
      .obj O.ledgerExportState, .obj O.maintTokenHolder, .obj O.maintTokenSince, .part .mem]) :
    (State.ledgerFrame s).see z = s.see z := by
  simp only [notMem_cons, notMem_nil, and_true] at h
  simp only [State.ledgerFrame]; simp [↓see_mk, ↓ite_see, h]

@[simp] theorem State.periodicCut_see (s : State) {z : View}
    (h : z.place ∉ [.obj O.eventCount, .obj O.eventLastTime, .obj O.eventLatch, .obj O.hdpStats,
      .obj O.ledgerExportState, .obj O.maintTokenHolder, .obj O.maintTokenSince, .part .mem]) :
    (State.periodicCut s).see z = s.see z := by
  simp only [notMem_cons, notMem_nil, and_true] at h
  simp only [State.periodicCut]; simp [↓see_mk, ↓ite_see, h]

@[simp] theorem State.spareQueue_see (s : State) (idx : Nat) (sub : Nat) (bulk : Bool) (v : List Byte) {z : View} :
    (State.spareQueue s idx sub bulk v).see z = s.see z := by
  simp only [State.spareQueue]; simp [↓see_mk]

@[simp] theorem State.spareSend_see (s : State) (h0 : Hdp) {z : View}
    (h : z.place ∉ [.obj O.ledgerExportState, .part .tim]) :
    (State.spareSend s h0).see z = s.see z := by
  simp only [notMem_cons, notMem_nil, and_true] at h
  simp only [State.spareSend]; simp [↓see_mk, ↓ite_see, h]

@[simp] theorem State.spareFlush_see (s : State) {z : View} (h : z.place ∉ [.obj O.ledgerExportState, .part .tim]) :
    (State.spareFlush s).see z = s.see z := by
  simp only [notMem_cons, notMem_nil, and_true] at h
  unfold State.spareFlush; refine foldRange_see _ _ _ fun a x => ?_; (repeat' split) <;> simp [↓see_mk, h]

@[simp] theorem State.exportOut_see (s : State) (g : List Byte) {z : View}
    (h : z.place ∉ [.obj O.ledgerExportState, .part .tim]) :
    (State.exportOut s g).see z = s.see z := by
  simp only [notMem_cons, notMem_nil, and_true] at h
  simp only [State.exportOut]; simp [h]

@[simp] theorem State.exportDrop_see (s : State) {z : View} :
    (State.exportDrop s).see z = s.see z := by
  simp only [State.exportDrop]; simp [↓see_mk]

@[simp] theorem State.exportFail_see (s : State) {z : View}
    (h : z.place ∉ [.obj O.eventCount, .obj O.eventLastTime, .obj O.eventLatch, .obj O.hdpStats,
      .obj O.ledgerExportState, .obj O.maintTokenHolder]) :
    (State.exportFail s).see z = s.see z := by
  simp only [notMem_cons, notMem_nil, and_true] at h
  simp only [State.exportFail]; simp [↓see_mk, h]

@[simp] theorem State.generationSealed_see (s : State) {z : View}
    (h : z.place ∉ [.obj O.eventCount, .obj O.eventLastTime, .obj O.eventLatch, .obj O.hdpStats,
      .obj O.ledgerExportState, .obj O.ledgerGen, .obj O.ledgerGenFsn, .obj O.ledgerGenHash,
      .obj O.maintTokenHolder, .part .linkq, .part .wit, .part .tim]) :
    (State.generationSealed s).see z = s.see z := by
  simp only [notMem_cons, notMem_nil, and_true] at h
  simp only [State.generationSealed]; simp [↓see_mk, ↓ite_see, h]

@[simp] theorem State.spareSealCheck_see (s : State) (g0 : Nat) (g1 : Nat) {z : View}
    (h : z.place ∉ [.obj O.eventCount, .obj O.eventLastTime, .obj O.eventLatch, .obj O.hdpStats,
      .obj O.ledgerExportState, .obj O.ledgerSpareGen, .obj O.maintTokenHolder]) :
    (State.spareSealCheck s g0 g1).see z = s.see z := by
  simp only [notMem_cons, notMem_nil, and_true] at h
  simp only [State.spareSealCheck]; simp [↓see_mk, ↓ite_see, h]

@[simp] theorem State.exportTimeout_see (s : State) {z : View}
    (h : z.place ∉ [.obj O.eventCount, .obj O.eventLastTime, .obj O.eventLatch, .obj O.hdpStats,
      .obj O.ledgerExportState, .obj O.maintTokenHolder]) :
    (State.exportTimeout s).see z = s.see z := by
  simp only [notMem_cons, notMem_nil, and_true] at h
  simp only [State.exportTimeout]; simp [↓ite_see, h]

@[simp] theorem State.cutForGap_see (s : State) {z : View}
    (h : z.place ∉ [.obj O.eventCount, .obj O.eventLastTime, .obj O.eventLatch, .obj O.hdpStats]) :
    (State.cutForGap s).see z = s.see z := by
  simp only [notMem_cons, notMem_nil, and_true] at h
  simp only [State.cutForGap]; simp [↓see_mk, ↓ite_see, h]

@[simp] theorem State.spareAnswer_see (s : State) (h0 : Hdp) {z : View}
    (h : z.place ∉ [.obj O.eventCount, .obj O.eventLastTime, .obj O.eventLatch, .obj O.hdpStats,
      .obj O.ledgerExportState, .obj O.ledgerSpareGen, .obj O.maintTokenHolder, .part .tim]) :
    (State.spareAnswer s h0).see z = s.see z := by
  simp only [notMem_cons, notMem_nil, and_true] at h
  simp only [State.spareAnswer]; simp [↓see_mk, ↓ite_see, h]

@[simp] theorem State.journalSend_see (s : State) {z : View}
    (h : z.place ∉ [.obj O.ledgerExportState, .part .tim]) :
    (State.journalSend s).see z = s.see z := by
  simp only [notMem_cons, notMem_nil, and_true] at h
  simp only [State.journalSend]; simp [↓see_mk, ↓ite_see, h]

@[simp] theorem State.flashDo_see (s : State) (u : FUnit) {z : View} (h : z.place ∉ [.part .mem]) :
    (State.flashDo s u).see z = s.see z := by
  simp only [notMem_cons, notMem_nil, and_true] at h
  simp only [State.flashDo]; simp [↓see_mk, ↓ite_see, h]

@[simp] theorem State.flashStep_see (s : State) {z : View} (h : z.place ∉ [.part .mem]) :
    (State.flashStep s).see z = s.see z := by
  simp only [notMem_cons, notMem_nil, and_true] at h
  simp only [State.flashStep]; split <;> simp [↓see_mk, h]

@[simp] theorem State.flashDrain_see (s : State) (who : FUnit → Bool) {z : View} (h : z.place ∉ [.part .mem]) :
    (State.flashDrain s who).see z = s.see z := by
  simp only [notMem_cons, notMem_nil, and_true] at h
  simp only [State.flashDrain]; simp [↓ite_see, h]

@[simp] theorem State.flashFails_see (s : State) {z : View}
    (h : z.place ∉ [.obj O.eventCount, .obj O.eventLastTime, .obj O.eventLatch, .obj O.flashErrCount,
      .obj O.hdpStats]) :
    (State.flashFails s).see z = s.see z := by
  simp only [notMem_cons, notMem_nil, and_true] at h
  simp only [State.flashFails]; simp [h]

@[simp] theorem State.flashFrame_see (s : State) {z : View}
    (h : z.place ∉ [.obj O.eventCount, .obj O.eventLastTime, .obj O.eventLatch, .obj O.flashErrCount,
      .obj O.hdpStats, .part .mem]) :
    (State.flashFrame s).see z = s.see z := by
  simp only [notMem_cons, notMem_nil, and_true] at h
  simp only [State.flashFrame]; simp [↓ite_see, h]

@[simp] theorem State.flashQueue_see (s : State) (l : List FUnit) {z : View} (h : z.place ∉ [.part .mem]) :
    (State.flashQueue s l).see z = s.see z := by
  simp only [notMem_cons, notMem_nil, and_true] at h
  simp only [State.flashQueue]; simp [↓see_mk, h]

@[simp] theorem rxSegmentOp_see (k : Nat) (d : List Byte) (s : State) {z : View}
    (h : z.place ∉ [.obj O.ledgerSlotFsn, .obj O.ledgerSlotGen, .obj O.ledgerSlotState, .part .mem]) :
    (rxSegmentOp k d s).1.see z = s.see z := by
  simp only [notMem_cons, notMem_nil, and_true] at h
  simp only [rxSegmentOp]; simp [↓see_mk, ↓ite_see, h]

@[simp] theorem rxSealOp_see (d : List Byte) (s : State) {z : View}
    (h : z.place ∉ [.obj O.eventCount, .obj O.eventLastTime, .obj O.eventLatch, .obj O.hdpStats,
      .obj O.ledgerRxJournalState, .obj O.ledgerSlotFsn, .obj O.ledgerSlotGen, .obj O.ledgerSlotState, .part .mem]) :
    (rxSealOp d s).1.see z = s.see z := by
  simp only [notMem_cons, notMem_nil, and_true] at h
  simp only [rxSealOp]; simp [↓see_mk, ↓ite_see, h]

@[simp] theorem State.journalIn_see (s : State) (x : Nat × Nat × List Byte) {z : View}
    (h : z.place ∉ [.obj O.eventCount, .obj O.eventLastTime, .obj O.eventLatch, .obj O.hdpStats,
      .obj O.ledgerRxJournalState]) :
    (State.journalIn s x).1.see z = s.see z := by
  simp only [notMem_cons, notMem_nil, and_true] at h
  simp only [State.journalIn]; simp [↓see_mk, ↓ite_see, h]

@[simp] theorem journalRxOp_see (d : List Byte) (s : State) {z : View}
    (h : z.place ∉ [.obj O.eventCount, .obj O.eventLastTime, .obj O.eventLatch, .obj O.hdpStats,
      .obj O.ledgerRxJournalState]) :
    (journalRxOp d s).1.see z = s.see z := by
  simp only [notMem_cons, notMem_nil, and_true] at h
  simp only [journalRxOp]; (repeat' split) <;> simp [↓ite_see, h]

@[simp] theorem State.slotsAfterReset_see (s : State) {z : View}
    (h : z.place ∉ [.obj O.ledgerRxJournalState, .obj O.ledgerSlotState]) :
    (State.slotsAfterReset s).see z = s.see z := by
  simp only [notMem_cons, notMem_nil, and_true] at h
  simp only [State.slotsAfterReset]; simp [↓ite_see, h]

@[simp] theorem State.writeRxSegment_see (s : State) (w : Who) (k : Nat) (d : List Byte) {z : View}
    (h : z.place ∉ [.obj O.dictLastRefusal, .obj O.ledgerSlotFsn, .obj O.ledgerSlotGen, .obj O.ledgerSlotState,
      .part .mem]) :
    (State.writeRxSegment s w k d).see z = s.see z := by
  simp only [notMem_cons, notMem_nil, and_true] at h
  simp only [State.writeRxSegment]; simp [h]

@[simp] theorem State.writeRxSeal_see (s : State) (w : Who) (d : List Byte) {z : View}
    (h : z.place ∉ [.obj O.dictLastRefusal, .obj O.eventCount, .obj O.eventLastTime, .obj O.eventLatch,
      .obj O.hdpStats, .obj O.ledgerRxJournalState, .obj O.ledgerSlotFsn, .obj O.ledgerSlotGen,
      .obj O.ledgerSlotState, .part .mem]) :
    (State.writeRxSeal s w d).see z = s.see z := by
  simp only [notMem_cons, notMem_nil, and_true] at h
  simp only [State.writeRxSeal]; simp [h]

@[simp] theorem State.writeJournalRx_see (s : State) (w : Who) (d : List Byte) {z : View}
    (h : z.place ∉ [.obj O.dictLastRefusal, .obj O.eventCount, .obj O.eventLastTime, .obj O.eventLatch,
      .obj O.hdpStats, .obj O.ledgerRxJournalState]) :
    (State.writeJournalRx s w d).see z = s.see z := by
  simp only [notMem_cons, notMem_nil, and_true] at h
  simp only [State.writeJournalRx]; simp [h]

/-! ### Machine/Fabric.lean -/

@[simp] theorem State.genArrive_see (s : State) (a : Nat) (t : Nat) (n : Nat) (off : Bool) {z : View}
    (h : z.place ∉ [.obj O.protDigestStats, .part .tx, .part .prot, .part .mtx]) :
    (State.genArrive s a t n off).see z = s.see z := by
  simp only [notMem_cons, notMem_nil, and_true] at h
  simp only [State.genArrive]; split <;> simp [↓ite_see, h]

@[simp] theorem State.genStraddle_see (s : State) (a : Nat) (ver : Nat) (n : Nat) (n0 : Nat) {z : View}
    (h : z.place ∉ [.part .tx]) :
    (State.genStraddle s a ver n n0).see z = s.see z := by
  simp only [notMem_cons, notMem_nil, and_true] at h
  simp only [State.genStraddle]; simp [↓ite_see, h]

@[simp] theorem State.njoOut_see (s : State) (a : Nat) (ver : Nat) {z : View} (h : z.place ∉ [.part .linkq]) :
    (State.njoOut s a ver).see z = s.see z := by
  simp only [notMem_cons, notMem_nil, and_true] at h
  simp only [State.njoOut]; simp [h]

@[simp] theorem State.genOff_see (s : State) (a : Nat) (n : Nat) (ver : Nat) {z : View}
    (h : z.place ∉ [.obj O.grainTxState, .part .tx]) :
    (State.genOff s a n ver).see z = s.see z := by
  simp only [notMem_cons, notMem_nil, and_true] at h
  simp only [State.genOff]; simp [h]

@[simp] theorem State.genRound_see (s : State) (n : Nat) (a : Nat) {z : View}
    (h : z.place ∉ [.obj O.grainTxJust, .obj O.grainTxPtr, .obj O.grainTxState, .obj O.protDigestStats,
      .obj O.tallyOvfCount, .part .linkq, .part .tx, .part .prot, .part .mtx]) :
    (State.genRound s n a).see z = s.see z := by
  simp only [notMem_cons, notMem_nil, and_true] at h
  simp only [State.genRound]; (repeat' split) <;> simp [h]

@[simp] theorem State.genBoundary_see (s : State) (a : Nat) (code : Nat) {z : View}
    (h : z.place ∉ [.obj O.grainTxState, .part .tx, .part .prot]) :
    (State.genBoundary s a code).see z = s.see z := by
  simp only [notMem_cons, notMem_nil, and_true] at h
  simp only [State.genBoundary]; simp [↓see_mk, ↓ite_see, h]

@[simp] theorem State.sendRound_see (s : State) (n : Nat) (p : Nat) {z : View} (h : z.place ∉ [.part .linkq]) :
    (State.sendRound s n p).see z = s.see z := by
  simp only [notMem_cons, notMem_nil, and_true] at h
  simp only [State.sendRound]; simp [↓ite_see, h]

@[simp] theorem State.resizedSlots_see (s : State) (n : Nat) {z : View} (h : z.place ∉ [.part .linkq]) :
    (State.resizedSlots s n).see z = s.see z := by
  simp only [notMem_cons, notMem_nil, and_true] at h
  unfold State.resizedSlots; refine foldl_see _ _ _ fun a x => ?_; (repeat' split) <;> simp [↓ite_see, h]

@[simp] theorem State.resizeOut_see (s : State) (m : Nat) {z : View}
    (h : z.place ∉ [.obj O.grainTxState, .part .tx, .part .prot]) :
    (State.resizeOut s m).see z = s.see z := by
  simp only [notMem_cons, notMem_nil, and_true] at h
  simp only [State.resizeOut]; simp [↓see_mk, h]

@[simp] theorem State.newMaps_see (s : State) (n : Nat) {z : View}
    (h : z.place ∉ [.obj O.grainTxState, .part .tx, .part .fab, .part .prot]) :
    (State.newMaps s n).see z = s.see z := by
  simp only [notMem_cons, notMem_nil, and_true] at h
  simp only [State.newMaps]; (repeat' split) <;> simp [↓see_mk, h]

@[simp] theorem State.onceFrame_see (s : State) (kind : Nat) (res : Nat) (f : State → State) {z : View}
    (h : z.place ∉ [.part .fab]) (hf : ∀ t, (f t).see z = t.see z) :
    (State.onceFrame s kind res f).see z = s.see z := by
  simp only [notMem_cons, notMem_nil, and_true] at h
  simp only [State.onceFrame]; simp [↓see_mk, ↓ite_see, h, hf]

@[simp] theorem State.parityFail_see (s : State) (x : XPt) {z : View}
    (h : z.place ∉ [.obj O.assayActive, .obj O.assayDropped, .obj O.assayErrors, .obj O.assayQueueLen,
      .obj O.assayTestResult, .obj O.eventCount, .obj O.eventLastTime, .obj O.eventLatch,
      .obj O.fabricSlotParityErr, .obj O.hdpStats, .obj O.tallyOvfCount, .part .linkq, .part .fab, .part .asy]) :
    (State.parityFail s x).see z = s.see z := by
  simp only [notMem_cons, notMem_nil, and_true] at h
  simp only [State.parityFail]; simp [h]

@[simp] theorem State.testFail_see (s : State) (x : XPt) {z : View}
    (h : z.place ∉ [.obj O.assayActive, .obj O.assayDropped, .obj O.assayErrors, .obj O.assayQueueLen,
      .obj O.assayTestResult, .obj O.eventCount, .obj O.eventLastTime, .obj O.eventLatch, .obj O.hdpStats,
      .obj O.tallyOvfCount, .part .linkq, .part .fab, .part .asy]) :
    (State.testFail s x).see z = s.see z := by
  simp only [notMem_cons, notMem_nil, and_true] at h
  simp only [State.testFail]; simp [h]

@[simp] theorem State.etsCheck_see (s : State) (n : Nat) (e : Nat) (k : Nat) (sel : Option Nat) (c : Cell)
    {z : View}
    (h : z.place ∉ [.obj O.assayActive, .obj O.assayDropped, .obj O.assayErrors, .obj O.assayQueueLen,
      .obj O.assayTestResult, .obj O.eventCount, .obj O.eventLastTime, .obj O.eventLatch,
      .obj O.fabricSlotParityErr, .obj O.hdpStats, .obj O.tallyOvfCount, .part .linkq, .part .fab, .part .asy]) :
    (State.etsCheck s n e k sel c).see z = s.see z := by
  simp only [notMem_cons, notMem_nil, and_true] at h
  simp only [State.etsCheck]; split <;> simp [↓ite_see, h]

@[simp] theorem State.entUse_see (s : State) {z : View}
    (h : z.place ∉ [.obj O.assayActive, .obj O.assayDropped, .obj O.assayErrors, .obj O.assayQueueLen,
      .obj O.assayTestResult, .obj O.eventCount, .obj O.eventLastTime, .obj O.eventLatch, .obj O.hdpStats,
      .obj O.tallyOvfCount, .part .linkq, .part .asy]) :
    (State.entUse s).see z = s.see z := by
  simp only [notMem_cons, notMem_nil, and_true] at h
  simp only [State.entUse]; simp [↓ite_see, h]

@[simp] theorem State.auditRound_see (s : State) {z : View} (h : z.place ∉ [.part .fab, .part .asy]) :
    (State.auditRound s).see z = s.see z := by
  simp only [notMem_cons, notMem_nil, and_true] at h
  simp only [State.auditRound]; split <;> simp [↓see_mk, ↓ite_see, h]

@[simp] theorem State.bankFail_see (s : State) (x : Nat × Nat × Nat) {z : View}
    (h : z.place ∉ [.obj O.assayActive, .obj O.assayDropped, .obj O.assayErrors, .obj O.assayQueueLen,
      .obj O.assayTestResult, .obj O.eventCount, .obj O.eventLastTime, .obj O.eventLatch, .obj O.hdpStats,
      .obj O.memBankCe, .obj O.memBankUe, .obj O.tallyOvfCount, .part .linkq, .part .grp, .part .mem, .part .asy]) :
    (State.bankFail s x).see z = s.see z := by
  simp only [notMem_cons, notMem_nil, and_true] at h
  simp only [State.bankFail]; simp [↓ite_see, h]

@[simp] theorem State.misroute_see (s : State) (x : Nat × Nat × Nat) {z : View}
    (h : z.place ∉ [.obj O.protDigestStats, .part .prot, .part .mtx]) :
    (State.misroute s x).see z = s.see z := by
  simp only [notMem_cons, notMem_nil, and_true] at h
  simp only [State.misroute]; simp [↓ite_see, h]

@[simp] theorem State.roundFaults_see (s : State) (io : RoundIn) {z : View}
    (h : z.place ∉ [.obj O.assayActive, .obj O.assayDropped, .obj O.assayErrors, .obj O.assayQueueLen,
      .obj O.assayTestResult, .obj O.eventCount, .obj O.eventLastTime, .obj O.eventLatch, .obj O.groupLineChanged,
      .obj O.groupLineState, .obj O.hdpStats, .obj O.memBankCe, .obj O.memBankUe, .obj O.memDdrCe,
      .obj O.memDdrChState, .obj O.memDdrState, .obj O.memDdrUe, .obj O.protDigestStats, .obj O.tallyOvfCount,
      .part .live, .part .linkq, .part .fab, .part .grp, .part .prot, .part .mem, .part .mtx, .part .asy]) :
    (State.roundFaults s io).see z = s.see z := by
  simp only [notMem_cons, notMem_nil, and_true] at h
  simp only [State.roundFaults]; simp [↓ite_see, h]

@[simp] theorem State.grainRound_see (s : State) (cells : SMap Cell) (n : Nat) (a : Nat) (k : Nat) {z : View}
    (h : z.place ∉ [.obj O.eventCount, .obj O.eventLastTime, .obj O.eventLatch, .obj O.grainChanged,
      .obj O.grainCrcErr, .obj O.grainEsSlip, .obj O.grainRxTpob, .obj O.grainRxTsn, .obj O.grainTsnJump,
      .obj O.groupLineChanged, .obj O.groupLineFlags, .obj O.groupLineLateness, .obj O.groupLineSlack,
      .obj O.groupLineState, .obj O.groupSieveStats, .obj O.hdpStats, .obj O.protDigestStats, .obj O.tallyOvfCount,
      .part .live, .part .rx, .part .fab, .part .grp, .part .prot, .part .mtx, .part .crierSlip]) :
    (State.grainRound s cells n a k).1.see z = s.see z := by
  simp only [notMem_cons, notMem_nil, and_true] at h
  simp only [State.grainRound]; split <;> simp [↓see_mk, ↓ite_see, h]

@[simp] theorem State.itsWrite_see (s : State) (io : RoundIn) (n : Nat) {z : View}
    (h : z.place ∉ [.obj O.eventCount, .obj O.eventLastTime, .obj O.eventLatch, .obj O.grainChanged,
      .obj O.grainCrcErr, .obj O.grainEsSlip, .obj O.grainRxTpob, .obj O.grainRxTsn, .obj O.grainTsnJump,
      .obj O.groupLineChanged, .obj O.groupLineFlags, .obj O.groupLineLateness, .obj O.groupLineSlack,
      .obj O.groupLineState, .obj O.groupOffset, .obj O.groupSieveStats, .obj O.groupTarget, .obj O.hdpStats,
      .obj O.protDigestStats, .obj O.tallyOvfCount, .part .live, .part .rx, .part .fab, .part .grp, .part .prot,
      .part .mtx, .part .crierSlip]) :
    (State.itsWrite s io n).1.see z = s.see z := by
  simp only [notMem_cons, notMem_nil, and_true] at h
  simp only [State.itsWrite]; simp [↓see_mk, ↓ite_see, h]

@[simp] theorem State.countSlots_see (s : State) (n : Nat) (ets : SMap Cell) {z : View}
    (h : z.place ∉ [.obj O.tallyOvfCount]) :
    (State.countSlots s n ets).see z = s.see z := by
  simp only [notMem_cons, notMem_nil, and_true] at h
  simp only [State.countSlots]; simp [↓ite_see, h]

@[simp] theorem State.thresholds_see (s : State) (old : State) {z : View} (h : z.place ∉ [.obj O.tallyOvfCount]) :
    (State.thresholds s old).see z = s.see z := by
  simp only [notMem_cons, notMem_nil, and_true] at h
  simp only [State.thresholds]; simp [↓ite_see, h]

@[simp] theorem State.tagWord_see (s : State) (cells : SMap Cell) (n : Nat) (c : Nat) (a : Nat) {z : View} :
    (State.tagWord s cells n c a).see z = s.see z := by
  simp only [State.tagWord]; simp [↓see_mk]

@[simp] theorem State.tagRound_see (s : State) (cells : SMap Cell) (n : Nat) {z : View}
    (h : z.place ∉ [.obj O.tallyOvfCount]) :
    (State.tagRound s cells n).see z = s.see z := by
  simp only [notMem_cons, notMem_nil, and_true] at h
  simp only [State.tagRound]; simp [↓see_mk, ↓ite_see, h]

@[simp] theorem State.tracePut_see (s : State) (i : Nat) (r : List Byte) {z : View}
    (h : z.place ∉ [.obj O.assayActive, .obj O.assayDropped, .obj O.assayErrors, .obj O.assayQueueLen,
      .obj O.assayTestResult, .obj O.eventCount, .obj O.eventLastTime, .obj O.eventLatch, .obj O.groupLineChanged,
      .obj O.groupLineState, .obj O.hdpStats, .obj O.memDdrCe, .obj O.memDdrChState, .obj O.memDdrState,
      .obj O.memDdrUe, .obj O.memStaleAccess, .obj O.tallyOvfCount, .part .live, .part .linkq, .part .grp,
      .part .mem, .part .asy]) :
    (State.tracePut s i r).1.see z = s.see z := by
  simp only [notMem_cons, notMem_nil, and_true] at h
  simp only [State.tracePut]; (repeat' split) <;> simp [h]

@[simp] theorem State.traceAppend_see (s : State) (r : List Byte) {z : View}
    (h : z.place ∉ [.obj O.assayActive, .obj O.assayDropped, .obj O.assayErrors, .obj O.assayQueueLen,
      .obj O.assayTestResult, .obj O.eventCount, .obj O.eventLastTime, .obj O.eventLatch, .obj O.groupLineChanged,
      .obj O.groupLineState, .obj O.hdpStats, .obj O.maintTokenHolder, .obj O.memDdrCe, .obj O.memDdrChState,
      .obj O.memDdrState, .obj O.memDdrUe, .obj O.memStaleAccess, .obj O.tallyOvfCount, .obj O.tallyTraceCount,
      .obj O.tallyTraceOldest, .obj O.tallyTraceState, .part .live, .part .linkq, .part .grp, .part .mem,
      .part .asy]) :
    (State.traceAppend s r).see z = s.see z := by
  simp only [notMem_cons, notMem_nil, and_true] at h
  simp only [State.traceAppend]; simp [↓ite_see, h]

@[simp] theorem State.traceWrite_see (s : State) (n : Nat) {z : View}
    (h : z.place ∉ [.obj O.assayActive, .obj O.assayDropped, .obj O.assayErrors, .obj O.assayQueueLen,
      .obj O.assayTestResult, .obj O.eventCount, .obj O.eventLastTime, .obj O.eventLatch, .obj O.groupLineChanged,
      .obj O.groupLineState, .obj O.hdpStats, .obj O.maintTokenHolder, .obj O.memDdrCe, .obj O.memDdrChState,
      .obj O.memDdrState, .obj O.memDdrUe, .obj O.memStaleAccess, .obj O.tallyOvfCount, .obj O.tallyTraceCount,
      .obj O.tallyTraceOldest, .obj O.tallyTraceState, .part .live, .part .linkq, .part .grp, .part .mem,
      .part .asy]) :
    (State.traceWrite s n).see z = s.see z := by
  simp only [notMem_cons, notMem_nil, and_true] at h
  unfold State.traceWrite; refine foldRange_see _ _ _ fun a x => ?_; (repeat' split) <;> simp [↓see_mk, h]

@[simp] theorem State.traceRound_see (s : State) {z : View}
    (h : z.place ∉ [.obj O.assayActive, .obj O.assayDropped, .obj O.assayErrors, .obj O.assayQueueLen,
      .obj O.assayTestResult, .obj O.eventCount, .obj O.eventLastTime, .obj O.eventLatch, .obj O.groupLineChanged,
      .obj O.groupLineState, .obj O.hdpStats, .obj O.maintTokenHolder, .obj O.memDdrCe, .obj O.memDdrChState,
      .obj O.memDdrState, .obj O.memDdrUe, .obj O.memStaleAccess, .obj O.tallyOvfCount, .obj O.tallyTraceCount,
      .obj O.tallyTraceOldest, .obj O.tallyTraceState, .part .live, .part .linkq, .part .grp, .part .mem,
      .part .asy]) :
    (State.traceRound s).see z = s.see z := by
  simp only [notMem_cons, notMem_nil, and_true] at h
  simp only [State.traceRound]; simp [↓ite_see, h]

@[simp] theorem State.dataAccesses_see (s : State) {z : View} (h : z.place ∉ [.obj O.tallyOvfCount]) :
    (State.dataAccesses s).see z = s.see z := by
  simp only [notMem_cons, notMem_nil, and_true] at h
  simp only [State.dataAccesses]; simp [↓ite_see, h]

@[simp] theorem State.roundHead_see (s : State) (io : RoundIn) (n : Nat) {z : View}
    (h : z.place ∉ [.obj O.assayActive, .obj O.assayDropped, .obj O.assayErrors, .obj O.assayQueueLen,
      .obj O.assayTestResult, .obj O.eventCount, .obj O.eventLastTime, .obj O.eventLatch, .obj O.grainTxJust,
      .obj O.grainTxPtr, .obj O.grainTxState, .obj O.groupLineChanged, .obj O.groupLineState, .obj O.hdpStats,
      .obj O.maintTokenHolder, .obj O.memBankCe, .obj O.memBankUe, .obj O.memDdrCe, .obj O.memDdrChState,
      .obj O.memDdrState, .obj O.memDdrUe, .obj O.memStaleAccess, .obj O.protDigestStats, .obj O.tallyOvfCount,
      .obj O.tallyTraceCount, .obj O.tallyTraceOldest, .obj O.tallyTraceState, .part .live, .part .linkq,
      .part .tx, .part .fab, .part .map, .part .grp, .part .prot, .part .mem, .part .mtx, .part .asy]) :
    (State.roundHead s io n).see z = s.see z := by
  simp only [notMem_cons, notMem_nil, and_true] at h
  simp only [State.roundHead]; simp [h]

@[simp] theorem State.etsChecks_see (s : State) (n : Nat) (ets : SMap Cell) {z : View}
    (h : z.place ∉ [.obj O.assayActive, .obj O.assayDropped, .obj O.assayErrors, .obj O.assayQueueLen,
      .obj O.assayTestResult, .obj O.eventCount, .obj O.eventLastTime, .obj O.eventLatch,
      .obj O.fabricSlotParityErr, .obj O.hdpStats, .obj O.tallyOvfCount, .part .linkq, .part .fab, .part .asy]) :
    (State.etsChecks s n ets).see z = s.see z := by
  simp only [notMem_cons, notMem_nil, and_true] at h
  simp only [State.etsChecks]; simp [h]

@[simp] theorem State.putBuffers_see (s : State) (its : SMap Cell) (ets : SMap Cell) {z : View}
    (h : z.place ∉ [.part .fab]) :
    (State.putBuffers s its ets).see z = s.see z := by
  simp only [notMem_cons, notMem_nil, and_true] at h
  simp only [State.putBuffers]; simp [↓see_mk, h]

@[simp] theorem State.fabricRound_see (s : State) (io : RoundIn) (n : Nat) {z : View}
    (h : z.place ∉ [.obj O.assayActive, .obj O.assayDropped, .obj O.assayErrors, .obj O.assayQueueLen,
      .obj O.assayTestResult, .obj O.eventCount, .obj O.eventLastTime, .obj O.eventLatch,
      .obj O.fabricSlotParityErr, .obj O.grainChanged, .obj O.grainCrcErr, .obj O.grainEsSlip, .obj O.grainRxTpob,
      .obj O.grainRxTsn, .obj O.grainTsnJump, .obj O.grainTxJust, .obj O.grainTxPtr, .obj O.grainTxState,
      .obj O.groupLineChanged, .obj O.groupLineFlags, .obj O.groupLineLateness, .obj O.groupLineSlack,
      .obj O.groupLineState, .obj O.groupOffset, .obj O.groupSieveStats, .obj O.groupTarget, .obj O.hdpStats,
      .obj O.maintTokenHolder, .obj O.memBankCe, .obj O.memBankUe, .obj O.memDdrCe, .obj O.memDdrChState,
      .obj O.memDdrState, .obj O.memDdrUe, .obj O.memStaleAccess, .obj O.protDigestStats, .obj O.tallyOvfCount,
      .obj O.tallyTraceCount, .obj O.tallyTraceOldest, .obj O.tallyTraceState, .part .live, .part .linkq,
      .part .rx, .part .tx, .part .fab, .part .map, .part .grp, .part .prot, .part .mem, .part .mtx, .part .asy,
      .part .crierSlip]) :
    (State.fabricRound s io n).see z = s.see z := by
  simp only [notMem_cons, notMem_nil, and_true] at h
  simp only [State.fabricRound]; simp [↓ite_see, h]

@[simp] theorem State.roundStart_see (s : State) (io : RoundIn) {z : View}
    (h : z.place ∉ [.obj O.assayActive, .obj O.assayDropped, .obj O.assayErrors, .obj O.assayQueueLen,
      .obj O.assayTestResult, .obj O.eventCount, .obj O.eventLastTime, .obj O.eventLatch,
      .obj O.fabricSlotParityErr, .obj O.grainChanged, .obj O.grainCrcErr, .obj O.grainEsSlip, .obj O.grainRxTpob,
      .obj O.grainRxTsn, .obj O.grainTsnJump, .obj O.grainTxJust, .obj O.grainTxPtr, .obj O.grainTxState,
      .obj O.groupLineChanged, .obj O.groupLineFlags, .obj O.groupLineLateness, .obj O.groupLineSlack,
      .obj O.groupLineState, .obj O.groupOffset, .obj O.groupSieveStats, .obj O.groupTarget, .obj O.hdpStats,
      .obj O.maintTokenHolder, .obj O.memBankCe, .obj O.memBankUe, .obj O.memDdrCe, .obj O.memDdrChState,
      .obj O.memDdrState, .obj O.memDdrUe, .obj O.memStaleAccess, .obj O.protDigestStats, .obj O.tallyOvfCount,
      .obj O.tallyTraceCount, .obj O.tallyTraceOldest, .obj O.tallyTraceState, .part .live, .part .clk,
      .part .linkq, .part .rx, .part .tx, .part .fab, .part .map, .part .grp, .part .prot, .part .mem, .part .mtx,
      .part .asy, .part .crierSlip]) :
    (State.roundStart s io).see z = s.see z := by
  simp only [notMem_cons, notMem_nil, and_true] at h
  simp only [State.roundStart]; simp [↓see_mk, ↓ite_see, h]

/-! ### Machine/Tally.lean -/

@[simp] theorem presetOp_see (i : Nat) (v : Nat) (s : State) {z : View} :
    (presetOp i v s).1.see z = s.see z := by
  simp only [presetOp]; simp [↓see_mk, ↓ite_see]

@[simp] theorem tagOp_see (idx : Nat) (v : Nat) (s : State) {z : Part} :
    (tagOp idx v s).1.see (.part z) = s.see (.part z) := by
  simp only [tagOp]; simp [↓see_mk_part]

@[simp] theorem traceStartOp_see (h0 : Nat) (wrap : Bool) (s : State) {z : View}
    (h : z.place ∉ [.obj O.eventCount, .obj O.eventLastTime, .obj O.eventLatch, .obj O.hdpStats,
      .obj O.maintTokenHolder, .obj O.maintTokenSince, .obj O.tallyTraceCount, .obj O.tallyTraceOldest,
      .obj O.tallyTraceState]) :
    (traceStartOp h0 wrap s).1.see z = s.see z := by
  simp only [notMem_cons, notMem_nil, and_true] at h
  simp only [traceStartOp]; simp [↓see_mk, ↓ite_see, h]

@[simp] theorem traceStopOp_see (s : State) {z : View} :
    (traceStopOp s).1.see z = s.see z := by
  simp only [traceStopOp]; simp [↓see_mk, ↓ite_see]

@[simp] theorem traceCtrlOp_see (h0 : Nat) (v : Nat) (s : State) {z : View}
    (h : z.place ∉ [.obj O.eventCount, .obj O.eventLastTime, .obj O.eventLatch, .obj O.hdpStats,
      .obj O.maintTokenHolder, .obj O.maintTokenSince, .obj O.tallyTraceCount, .obj O.tallyTraceOldest,
      .obj O.tallyTraceState]) :
    (traceCtrlOp h0 v s).1.see z = s.see z := by
  simp only [notMem_cons, notMem_nil, and_true] at h
  simp only [traceCtrlOp]; simp [↓ite_see, h]

@[simp] theorem traceDestOp_see (v : Nat) (s : State) {z : View} (h : z.place ∉ [.obj O.tallyTraceDest]) :
    (traceDestOp v s).1.see z = s.see z := by
  simp only [notMem_cons, notMem_nil, and_true] at h
  simp only [traceDestOp]; simp [↓ite_see, h]

@[simp] theorem State.traceRecord_see (s : State) (tag : Nat) (dRx : Nat) (dSps : Nat) (dEts : Nat) (dSer : Nat)
    {z : View}
    (h : z.place ∉ [.obj O.tallyOvfCount]) :
    (State.traceRecord s tag dRx dSps dEts dSer).see z = s.see z := by
  simp only [notMem_cons, notMem_nil, and_true] at h
  simp only [State.traceRecord]; split <;> simp [↓see_mk, ↓ite_see, h]

@[simp] theorem State.traceRead_see (s : State) (i : Nat) {z : View}
    (h : z.place ∉ [.obj O.assayActive, .obj O.assayDropped, .obj O.assayErrors, .obj O.assayQueueLen,
      .obj O.assayTestResult, .obj O.eventCount, .obj O.eventLastTime, .obj O.eventLatch, .obj O.groupLineChanged,
      .obj O.groupLineState, .obj O.hdpStats, .obj O.memBankCe, .obj O.memBankUe, .obj O.memDdrCe,
      .obj O.memDdrChState, .obj O.memDdrState, .obj O.memDdrUe, .obj O.memStaleAccess, .obj O.tallyOvfCount,
      .part .live, .part .linkq, .part .grp, .part .mem, .part .asy]) :
    (State.traceRead s i).1.see z = s.see z := by
  simp only [notMem_cons, notMem_nil, and_true] at h
  simp only [State.traceRead]; (repeat' split) <;> simp [h]

@[simp] theorem State.countRead_see (s : State) (i : Nat) {z : View} :
    (State.countRead s i).1.see z = s.see z := by
  simp only [State.countRead]; simp

@[simp] theorem State.countRange_see (s : State) (t : Tgt) (k : Nat) (n : Nat) {z : View} :
    (State.countRange s t k n).1.see z = s.see z := by
  simp only [State.countRange]; simp

@[simp] theorem State.samplesRead_see (s : State) (w : Who) (first : Nat) (count : Nat) {z : View} :
    (State.samplesRead s w first count).see z = s.see z := by
  simp only [State.samplesRead]; simp [↓see_mk, ↓ite_see]

@[simp] theorem State.writePreset_see (s : State) (w : Who) (i : Nat) (v : Nat) {z : View}
    (h : z.place ∉ [.obj O.dictLastRefusal, .obj O.eventCount, .obj O.eventLastTime, .obj O.eventLatch,
      .obj O.hdpStats, .obj O.ledgerJournalSeq]) :
    (State.writePreset s w i v).see z = s.see z := by
  simp only [notMem_cons, notMem_nil, and_true] at h
  simp only [State.writePreset]; simp [h]

@[simp] theorem State.writeTag_see (s : State) (w : Who) (idx : Nat) (v : Nat) {z : Part} :
    (State.writeTag s w idx v).see (.part z) = s.see (.part z) := by
  simp only [State.writeTag]; simp

@[simp] theorem State.writeTraceCtrl_see (s : State) (w : Who) (v : Nat) {z : View}
    (h : z.place ∉ [.obj O.dictLastRefusal, .obj O.eventCount, .obj O.eventLastTime, .obj O.eventLatch,
      .obj O.hdpStats, .obj O.ledgerJournalSeq, .obj O.maintTokenHolder, .obj O.maintTokenSince,
      .obj O.tallyTraceCount, .obj O.tallyTraceOldest, .obj O.tallyTraceState]) :
    (State.writeTraceCtrl s w v).see z = s.see z := by
  simp only [notMem_cons, notMem_nil, and_true] at h
  simp only [State.writeTraceCtrl]; simp [h]

@[simp] theorem State.writeTallyObj_see (s : State) (w : Who) (idx : Nat) (e : Nat) (v : Nat) {z : Part} :
    (State.writeTallyObj s w idx e v).see (.part z) = s.see (.part z) := by
  simp only [State.writeTallyObj]; simp [↓ite_see]

/-! ### Machine/Ref.lean -/

@[simp] theorem State.refTime_see (s : State) (i : Nat) (t : Int) {z : View} (h : z.place ∉ [.part .ref]) :
    (State.refTime s i t).see z = s.see z := by
  simp only [notMem_cons, notMem_nil, and_true] at h
  simp only [State.refTime]; simp [h]

@[simp] theorem State.frameDiffs_see (s : State) {z : View} (h : z.place ∉ [.part .ref]) :
    (State.frameDiffs s).see z = s.see z := by
  simp only [notMem_cons, notMem_nil, and_true] at h
  simp only [State.frameDiffs]; simp [↓ite_see, h]

@[simp] theorem State.setInState_see (s : State) (i : Nat) (st : Nat) {z : View}
    (h : z.place ∉ [.obj O.eventCount, .obj O.eventLastTime, .obj O.eventLatch, .obj O.hdpStats,
      .obj O.refInputState, .obj O.refTied, .obj O.timeGridResidual, .part .ref, .part .tim]) :
    (State.setInState s i st).see z = s.see z := by
  simp only [notMem_cons, notMem_nil, and_true] at h
  simp only [State.setInState]; simp [↓ite_see, h]

@[simp] theorem State.loopCheck_see (s : State) (i : Nat) {z : View}
    (h : z.place ∉ [.obj O.eventCount, .obj O.eventLastTime, .obj O.eventLatch, .obj O.hdpStats,
      .obj O.refInputState, .obj O.refTied, .obj O.timeGridResidual, .part .ref, .part .tim]) :
    (State.loopCheck s i).see z = s.see z := by
  simp only [notMem_cons, notMem_nil, and_true] at h
  simp only [State.loopCheck]; simp [↓ite_see, h]

@[simp] theorem State.judgeInput_see (s : State) (i : Nat) {z : View}
    (h : z.place ∉ [.obj O.eventCount, .obj O.eventLastTime, .obj O.eventLatch, .obj O.hdpStats,
      .obj O.refInputState, .obj O.refTied, .obj O.timeGridResidual, .part .ref, .part .tim]) :
    (State.judgeInput s i).see z = s.see z := by
  simp only [notMem_cons, notMem_nil, and_true] at h
  simp only [State.judgeInput]; simp [↓ite_see, h]

@[simp] theorem State.offsetMeasure_see (s : State) (i : Nat) (y : Int) {z : View}
    (h : z.place ∉ [.obj O.eventCount, .obj O.eventLastTime, .obj O.eventLatch, .obj O.hdpStats,
      .obj O.refInputOffset, .obj O.refInputState, .obj O.refTied, .obj O.timeGridResidual, .part .ref, .part .tim]) :
    (State.offsetMeasure s i y).see z = s.see z := by
  simp only [notMem_cons, notMem_nil, and_true] at h
  simp only [State.offsetMeasure]; simp [↓ite_see, h]

@[simp] theorem refEnableOp_see (v : Nat) (s : State) {z : View}
    (h : z.place ∉ [.obj O.eventCount, .obj O.eventLastTime, .obj O.eventLatch, .obj O.hdpStats, .obj O.refEnable,
      .obj O.refInputState, .obj O.refTied, .obj O.timeGridResidual, .part .ref, .part .tim]) :
    (refEnableOp v s).1.see z = s.see z := by
  simp only [notMem_cons, notMem_nil, and_true] at h
  simp only [refEnableOp]; simp [↓ite_see, h]

@[simp] theorem State.inputLoss_see (s : State) (i : Nat) {z : View}
    (h : z.place ∉ [.obj O.eventCount, .obj O.eventLastTime, .obj O.eventLatch, .obj O.hdpStats,
      .obj O.refInputState, .obj O.refTied, .obj O.timeGridResidual, .part .ref, .part .tim]) :
    (State.inputLoss s i).see z = s.see z := by
  simp only [notMem_cons, notMem_nil, and_true] at h
  simp only [State.inputLoss]; simp [↓ite_see, h]

@[simp] theorem State.inputBack_see (s : State) (i : Nat) {z : View}
    (h : z.place ∉ [.obj O.eventCount, .obj O.eventLastTime, .obj O.eventLatch, .obj O.hdpStats,
      .obj O.refInputState, .obj O.refTied, .obj O.timeGridResidual, .part .ref, .part .tim]) :
    (State.inputBack s i).see z = s.see z := by
  simp only [notMem_cons, notMem_nil, and_true] at h
  simp only [State.inputBack]; simp [↓ite_see, h]

@[simp] theorem State.qualExpiry_see (s : State) (i : Nat) {z : View}
    (h : z.place ∉ [.obj O.eventCount, .obj O.eventLastTime, .obj O.eventLatch, .obj O.hdpStats,
      .obj O.refInputState, .obj O.refTied, .obj O.timeGridResidual, .part .ref, .part .tim]) :
    (State.qualExpiry s i).see z = s.see z := by
  simp only [notMem_cons, notMem_nil, and_true] at h
  simp only [State.qualExpiry]; simp [↓ite_see, h]

@[simp] theorem State.wtrExpiry_see (s : State) (i : Nat) {z : View}
    (h : z.place ∉ [.obj O.eventCount, .obj O.eventLastTime, .obj O.eventLatch, .obj O.hdpStats,
      .obj O.refInputState, .obj O.refTied, .obj O.timeGridResidual, .part .ref, .part .tim]) :
    (State.wtrExpiry s i).see z = s.see z := by
  simp only [notMem_cons, notMem_nil, and_true] at h
  simp only [State.wtrExpiry]; simp [↓ite_see, h]

@[simp] theorem State.tieCheck_see (s : State) {z : View}
    (h : z.place ∉ [.obj O.eventCount, .obj O.eventLastTime, .obj O.eventLatch, .obj O.hdpStats, .obj O.refTied,
      .obj O.timeGridResidual, .part .ref, .part .tim]) :
    (State.tieCheck s).see z = s.see z := by
  simp only [notMem_cons, notMem_nil, and_true] at h
  simp only [State.tieCheck]; simp [↓see_mk, ↓ite_see, h]

@[simp] theorem State.groupsStep_see (s : State) (d : Int) {z : View}
    (h : z.place ∉ [.obj O.groupOffset, .obj O.groupTarget, .part .rx, .part .grp]) :
    (State.groupsStep s d).see z = s.see z := by
  simp only [notMem_cons, notMem_nil, and_true] at h
  simp only [State.groupsStep]; simp [↓see_mk, ↓ite_see, h]

@[simp] theorem State.fsnStep_see (s : State) {z : View}
    (h : z.place ∉ [.obj O.eventCount, .obj O.eventLastTime, .obj O.eventLatch, .obj O.groupOffset,
      .obj O.groupTarget, .obj O.hdpStats, .obj O.maintTokenHolder, .obj O.maintTokenSince, .obj O.mapBoundaryFsn,
      .obj O.mapResult, .obj O.mapState, .obj O.refFsnStep, .obj O.tallyOvfCount, .obj O.timeGridResidual,
      .obj O.timeServoFreq, .part .clk, .part .sys, .part .rx, .part .map, .part .grp, .part .ref, .part .tim,
      .part .mem]) :
    (State.fsnStep s).see z = s.see z := by
  simp only [notMem_cons, notMem_nil, and_true] at h
  simp only [State.fsnStep]; simp [↓see_mk, ↓ite_see, h]

@[simp] theorem State.stepEnd_see (s : State) {z : View}
    (h : z.place ∉ [.obj O.eventCount, .obj O.eventLastTime, .obj O.eventLatch, .obj O.hdpStats,
      .obj O.maintTokenHolder, .part .ref]) :
    (State.stepEnd s).see z = s.see z := by
  simp only [notMem_cons, notMem_nil, and_true] at h
  simp only [State.stepEnd]; simp [↓see_mk, ↓ite_see, h]

@[simp] theorem State.residual_see (s : State) {z : View} (h : z.place ∉ [.obj O.timeGridResidual, .part .ref]) :
    (State.residual s).see z = s.see z := by
  simp only [notMem_cons, notMem_nil, and_true] at h
  simp only [State.residual]; simp [↓see_mk, ↓ite_see, h]

@[simp] theorem State.loopUpdate_see (s : State) {z : View}
    (h : z.place ∉ [.obj O.eventCount, .obj O.eventLastTime, .obj O.eventLatch, .obj O.hdpStats,
      .obj O.maintTokenHolder, .obj O.refDcoOffset, .obj O.timeGridResidual, .part .ref]) :
    (State.loopUpdate s).see z = s.see z := by
  simp only [notMem_cons, notMem_nil, and_true] at h
  simp only [State.loopUpdate]; simp [↓see_mk, ↓ite_see, h]

@[simp] theorem State.phaseSample_see (s : State) (i : Nat) (raw : Int) {z : View}
    (h : z.place ∉ [.obj O.eventCount, .obj O.eventLastTime, .obj O.eventLatch, .obj O.hdpStats,
      .obj O.maintTokenHolder, .obj O.refDcoOffset, .obj O.refInputPhase, .obj O.timeGridResidual, .part .ref]) :
    (State.phaseSample s i raw).see z = s.see z := by
  simp only [notMem_cons, notMem_nil, and_true] at h
  simp only [State.phaseSample]; simp [↓ite_see, h]

@[simp] theorem State.framePhases_see (s : State) (ph : List (Nat × Int)) {z : View}
    (h : z.place ∉ [.obj O.eventCount, .obj O.eventLastTime, .obj O.eventLatch, .obj O.hdpStats,
      .obj O.maintTokenHolder, .obj O.refDcoOffset, .obj O.refInputPhase, .obj O.timeGridResidual, .part .ref]) :
    (State.framePhases s ph).see z = s.see z := by
  simp only [notMem_cons, notMem_nil, and_true] at h
  simp only [State.framePhases]; simp [↓ite_see, h]

@[simp] theorem State.peerSample_see (s : State) (st : Nat) {z : View}
    (h : z.place ∉ [.obj O.eventCount, .obj O.eventLastTime, .obj O.eventLatch, .obj O.hdpStats,
      .obj O.maintTokenHolder, .obj O.refDcoOffset, .obj O.refInputPhase, .obj O.timeGridResidual, .part .ref]) :
    (State.peerSample s st).see z = s.see z := by
  simp only [notMem_cons, notMem_nil, and_true] at h
  simp only [State.peerSample]; (repeat' split) <;> simp [h]

@[simp] theorem State.servoHold_see (s : State) {z : View} (h : z.place ∉ [.part .tim]) :
    (State.servoHold s).see z = s.see z := by
  simp only [notMem_cons, notMem_nil, and_true] at h
  simp only [State.servoHold]; simp [↓see_mk, ↓ite_see, h]

@[simp] theorem State.setRefState_see (s : State) (v : Nat) {z : View}
    (h : z.place ∉ [.obj O.eventCount, .obj O.eventLastTime, .obj O.eventLatch, .obj O.hdpStats, .obj O.refState]) :
    (State.setRefState s v).see z = s.see z := by
  simp only [notMem_cons, notMem_nil, and_true] at h
  simp only [State.setRefState]; simp [↓ite_see, h]

@[simp] theorem State.setSelected_see (s : State) (v : Nat) {z : View}
    (h : z.place ∉ [.obj O.eventCount, .obj O.eventLastTime, .obj O.eventLatch, .obj O.hdpStats,
      .obj O.refSelected]) :
    (State.setSelected s v).see z = s.see z := by
  simp only [notMem_cons, notMem_nil, and_true] at h
  simp only [State.setSelected]; simp [h]

@[simp] theorem State.switchTo_see (s : State) (b : Nat) {z : View}
    (h : z.place ∉ [.obj O.eventCount, .obj O.eventLastTime, .obj O.eventLatch, .obj O.hdpStats,
      .obj O.refSelected, .obj O.refState, .obj O.refTied, .obj O.timeGridResidual, .part .ref, .part .tim]) :
    (State.switchTo s b).see z = s.see z := by
  simp only [notMem_cons, notMem_nil, and_true] at h
  simp only [State.switchTo]; simp [↓see_mk, ↓ite_see, h]

@[simp] theorem State.goFree_see (s : State) {z : View}
    (h : z.place ∉ [.obj O.eventCount, .obj O.eventLastTime, .obj O.eventLatch, .obj O.hdpStats,
      .obj O.maintTokenHolder, .obj O.refSelected, .obj O.refState, .obj O.refTied, .obj O.timeGridResidual,
      .part .ref, .part .tim]) :
    (State.goFree s).see z = s.see z := by
  simp only [notMem_cons, notMem_nil, and_true] at h
  simp only [State.goFree]; simp [↓see_mk, ↓ite_see, h]

@[simp] theorem State.select_see (s : State) {z : View}
    (h : z.place ∉ [.obj O.eventCount, .obj O.eventLastTime, .obj O.eventLatch, .obj O.hdpStats,
      .obj O.maintTokenHolder, .obj O.refSelected, .obj O.refState, .obj O.refTied, .obj O.timeGridResidual,
      .part .ref, .part .tim]) :
    (State.select s).see z = s.see z := by
  simp only [notMem_cons, notMem_nil, and_true] at h
  simp only [State.select]; split <;> simp [↓ite_see, h]

@[simp] theorem State.alignStart_see (s : State) (tok : Bool) {z : View} (h : z.place ∉ [.part .ref]) :
    (State.alignStart s tok).see z = s.see z := by
  simp only [notMem_cons, notMem_nil, and_true] at h
  simp only [State.alignStart]; simp [↓see_mk, h]

@[simp] theorem State.alignEnd_see (s : State) {z : View}
    (h : z.place ∉ [.obj O.eventCount, .obj O.eventLastTime, .obj O.eventLatch, .obj O.hdpStats,
      .obj O.maintTokenHolder, .part .ref]) :
    (State.alignEnd s).see z = s.see z := by
  simp only [notMem_cons, notMem_nil, and_true] at h
  simp only [State.alignEnd]; simp [↓see_mk, ↓ite_see, h]

@[simp] theorem State.switchSettled_see (s : State) {z : View}
    (h : z.place ∉ [.obj O.eventCount, .obj O.eventLastTime, .obj O.eventLatch, .obj O.hdpStats,
      .obj O.maintTokenHolder, .obj O.maintTokenSince, .obj O.refState, .obj O.refTied, .obj O.timeGridResidual,
      .part .ref, .part .tim]) :
    (State.switchSettled s).see z = s.see z := by
  simp only [notMem_cons, notMem_nil, and_true] at h
  simp only [State.switchSettled]; simp [↓see_mk, ↓ite_see, h]

@[simp] theorem State.clampTimeout_see (s : State) {z : View}
    (h : z.place ∉ [.obj O.eventCount, .obj O.eventLastTime, .obj O.eventLatch, .obj O.hdpStats,
      .obj O.refInputState, .obj O.refTied, .obj O.timeGridResidual, .part .ref, .part .tim]) :
    (State.clampTimeout s).see z = s.see z := by
  simp only [notMem_cons, notMem_nil, and_true] at h
  simp only [State.clampTimeout]; simp [↓ite_see, h]

@[simp] theorem State.phaseStep_see (s : State) (x : Int) {z : View}
    (h : z.place ∉ [.obj O.eventCount, .obj O.eventLastTime, .obj O.eventLatch, .obj O.hdpStats,
      .obj O.maintTokenHolder, .obj O.maintTokenSince, .obj O.mapBoundaryFsn, .obj O.mapResult, .obj O.mapState,
      .obj O.refPhaseAdj, .obj O.tallyOvfCount, .obj O.timeGridResidual, .part .sys, .part .map, .part .ref,
      .part .tim, .part .mem]) :
    (State.phaseStep s x).see z = s.see z := by
  simp only [notMem_cons, notMem_nil, and_true] at h
  simp only [State.phaseStep]; simp [↓see_mk, ↓ite_see, h]

@[simp] theorem phaseStepOp_see (h0 : Nat) (v : Nat) (s : State) {z : View}
    (h : z.place ∉ [.obj O.eventCount, .obj O.eventLastTime, .obj O.eventLatch, .obj O.hdpStats,
      .obj O.maintTokenHolder, .obj O.maintTokenSince, .obj O.mapBoundaryFsn, .obj O.mapResult, .obj O.mapState,
      .obj O.refPhaseAdj, .obj O.tallyOvfCount, .obj O.timeGridResidual, .part .sys, .part .map, .part .ref,
      .part .tim, .part .mem]) :
    (phaseStepOp h0 v s).1.see z = s.see z := by
  simp only [notMem_cons, notMem_nil, and_true] at h
  simp only [phaseStepOp]; simp [↓see_mk, ↓ite_see, h]

@[simp] theorem frameOffsetOp_see (v : Nat) (s : State) {z : View}
    (h : z.place ∉ [.obj O.eventCount, .obj O.eventLastTime, .obj O.eventLatch, .obj O.hdpStats,
      .obj O.refFrameOffset, .obj O.refTied, .obj O.timeGridResidual, .part .ref, .part .tim]) :
    (frameOffsetOp v s).1.see z = s.see z := by
  simp only [notMem_cons, notMem_nil, and_true] at h
  simp only [frameOffsetOp]; simp [h]

@[simp] theorem retimeOp_see (h0 : Nat) (s : State) {z : View}
    (h : z.place ∉ [.obj O.eventCount, .obj O.eventLastTime, .obj O.eventLatch, .obj O.hdpStats, .obj O.refTied,
      .obj O.timeGridResidual, .part .ref, .part .tim]) :
    (retimeOp h0 s).1.see z = s.see z := by
  simp only [notMem_cons, notMem_nil, and_true] at h
  simp only [retimeOp]; simp [↓ite_see, h]

@[simp] theorem alignReqOp_see (h0 : Nat) (s : State) {z : View}
    (h : z.place ∉ [.obj O.eventCount, .obj O.eventLastTime, .obj O.eventLatch, .obj O.hdpStats,
      .obj O.maintTokenHolder, .obj O.maintTokenSince, .part .ref]) :
    (alignReqOp h0 s).1.see z = s.see z := by
  simp only [notMem_cons, notMem_nil, and_true] at h
  simp only [alignReqOp]; simp [↓ite_see, h]

@[simp] theorem State.alignEdge_see (s : State) (late : Int) {z : View}
    (h : z.place ∉ [.obj O.eventCount, .obj O.eventLastTime, .obj O.eventLatch, .obj O.hdpStats,
      .obj O.maintTokenHolder, .obj O.maintTokenSince, .obj O.mapBoundaryFsn, .obj O.mapResult, .obj O.mapState,
      .obj O.refAlignErr, .obj O.refPhaseAdj, .obj O.tallyOvfCount, .obj O.timeGridResidual, .part .sys,
      .part .map, .part .ref, .part .tim, .part .mem]) :
    (State.alignEdge s late).see z = s.see z := by
  simp only [notMem_cons, notMem_nil, and_true] at h
  simp only [State.alignEdge]; simp [↓ite_see, h]

@[simp] theorem State.alignTimeout_see (s : State) {z : View}
    (h : z.place ∉ [.obj O.eventCount, .obj O.eventLastTime, .obj O.eventLatch, .obj O.hdpStats,
      .obj O.maintTokenHolder, .part .ref]) :
    (State.alignTimeout s).see z = s.see z := by
  simp only [notMem_cons, notMem_nil, and_true] at h
  simp only [State.alignTimeout]; simp [↓ite_see, h]

@[simp] theorem State.timeStep_see (s : State) (d : Int) {z : View}
    (h : z.place ∉ [.obj O.eventCount, .obj O.eventLastTime, .obj O.eventLatch, .obj O.hdpStats,
      .obj O.maintTokenHolder, .obj O.maintTokenSince, .obj O.mapBoundaryFsn, .obj O.mapResult, .obj O.mapState,
      .obj O.tallyOvfCount, .part .sys, .part .map, .part .tim, .part .mem]) :
    (State.timeStep s d).see z = s.see z := by
  simp only [notMem_cons, notMem_nil, and_true] at h
  simp only [State.timeStep]; simp [h]

@[simp] theorem State.setInc_see (s : State) (n : Nat) {z : View}
    (h : z.place ∉ [.obj O.eventCount, .obj O.eventLastTime, .obj O.eventLatch, .obj O.hdpStats,
      .obj O.maintTokenHolder, .obj O.maintTokenSince, .obj O.mapBoundaryFsn, .obj O.mapResult, .obj O.mapState,
      .obj O.tallyOvfCount, .part .sys, .part .map, .part .tim, .part .mem]) :
    (State.setInc s n).see z = s.see z := by
  simp only [notMem_cons, notMem_nil, and_true] at h
  simp only [State.setInc]; simp [h]

@[simp] theorem State.servoUse_see (s : State) (th : Int) {z : View}
    (h : z.place ∉ [.obj O.eventCount, .obj O.eventLastTime, .obj O.eventLatch, .obj O.hdpStats,
      .obj O.maintTokenHolder, .obj O.maintTokenSince, .obj O.mapBoundaryFsn, .obj O.mapResult, .obj O.mapState,
      .obj O.tallyOvfCount, .obj O.timeServoFreq, .part .sys, .part .map, .part .tim, .part .mem]) :
    (State.servoUse s th).see z = s.see z := by
  simp only [notMem_cons, notMem_nil, and_true] at h
  unfold State.servoUse
  extract_lets first _t0 s1 dt _t1 s2 q lim integ y0 y hit was _t2 s3 s4
  clear_value hit was y dt integ first
  have h1 : s1.see z = s.see z := by simp only [s1]; simp [↓see_mk, ↓ite_see, h]
  have h2 : s2.see z = s.see z := by simp only [s2]; simp [↓see_mk, h1, h]
  have h4 : s4.see z = s.see z := by simp only [s4, s3]; simp [↓see_mk, h2, h]
  split_ifs <;> simp [h2, h4, h]

@[simp] theorem State.servoSample_see (s : State) (src : Nat) (th : Int) {z : View}
    (h : z.place ∉ [.obj O.eventCount, .obj O.eventLastTime, .obj O.eventLatch, .obj O.hdpStats,
      .obj O.maintTokenHolder, .obj O.maintTokenSince, .obj O.mapBoundaryFsn, .obj O.mapResult, .obj O.mapState,
      .obj O.tallyOvfCount, .obj O.timeServoFreq, .obj O.timeServoOffset, .part .sys, .part .map, .part .tim,
      .part .mem]) :
    (State.servoSample s src th).see z = s.see z := by
  simp only [notMem_cons, notMem_nil, and_true] at h
  simp only [State.servoSample]; simp [↓see_mk, ↓ite_see, h]

@[simp] theorem servoSrcOp_see (v : Nat) (s : State) {z : View}
    (h : z.place ∉ [.obj O.eventCount, .obj O.eventLastTime, .obj O.eventLatch, .obj O.hdpStats,
      .obj O.maintTokenHolder, .obj O.maintTokenSince, .obj O.mapBoundaryFsn, .obj O.mapResult, .obj O.mapState,
      .obj O.tallyOvfCount, .obj O.timeServoFreq, .obj O.timeServoSrc, .part .sys, .part .map, .part .tim,
      .part .mem]) :
    (servoSrcOp v s).1.see z = s.see z := by
  simp only [notMem_cons, notMem_nil, and_true] at h
  simp only [servoSrcOp]; simp [↓see_mk, ↓ite_see, h]

@[simp] theorem State.ppsAt_see (s : State) (at_ : Int) (tod : Option Nat) {z : View}
    (h : z.place ∉ [.obj O.eventCount, .obj O.eventLastTime, .obj O.eventLatch, .obj O.hdpStats,
      .obj O.maintTokenHolder, .obj O.maintTokenSince, .obj O.mapBoundaryFsn, .obj O.mapResult, .obj O.mapState,
      .obj O.refDcoOffset, .obj O.refInputPhase, .obj O.refTied, .obj O.tallyOvfCount, .obj O.timeGridResidual,
      .obj O.timeServoFreq, .obj O.timeServoOffset, .part .sys, .part .map, .part .ref, .part .tim, .part .mem]) :
    (State.ppsAt s at_ tod).see z = s.see z := by
  simp only [notMem_cons, notMem_nil, and_true] at h
  simp only [State.ppsAt]; split <;> simp [h]

@[simp] theorem State.ppsEdge_see (s : State) (src : Nat) (tod : Option Nat) (late : Int) {z : View}
    (h : z.place ∉ [.obj O.eventCount, .obj O.eventLastTime, .obj O.eventLatch, .obj O.hdpStats,
      .obj O.maintTokenHolder, .obj O.maintTokenSince, .obj O.mapBoundaryFsn, .obj O.mapResult, .obj O.mapState,
      .obj O.refDcoOffset, .obj O.refInputPhase, .obj O.refTied, .obj O.tallyOvfCount, .obj O.timeGridResidual,
      .obj O.timeServoFreq, .obj O.timeServoOffset, .part .sys, .part .map, .part .ref, .part .tim, .part .mem]) :
    (State.ppsEdge s src tod late).see z = s.see z := by
  simp only [notMem_cons, notMem_nil, and_true] at h
  simp only [State.ppsEdge]; simp [↓see_mk, ↓ite_see, h]

@[simp] theorem ptpOffsetOp_see (v : Nat) (s : State) {z : View}
    (h : z.place ∉ [.obj O.eventCount, .obj O.eventLastTime, .obj O.eventLatch, .obj O.hdpStats,
      .obj O.maintTokenHolder, .obj O.maintTokenSince, .obj O.mapBoundaryFsn, .obj O.mapResult, .obj O.mapState,
      .obj O.refDcoOffset, .obj O.refInputPhase, .obj O.tallyOvfCount, .obj O.timeGridResidual,
      .obj O.timeServoFreq, .obj O.timeServoOffset, .part .sys, .part .map, .part .ref, .part .tim, .part .mem]) :
    (ptpOffsetOp v s).1.see z = s.see z := by
  simp only [notMem_cons, notMem_nil, and_true] at h
  simp only [ptpOffsetOp]; simp [h]

@[simp] theorem timeSetOp_see (h0 : Nat) (v : Nat) (s : State) {z : View}
    (h : z.place ∉ [.obj O.eventCount, .obj O.eventLastTime, .obj O.eventLatch, .obj O.hdpStats,
      .obj O.maintTokenHolder, .obj O.maintTokenSince, .obj O.mapBoundaryFsn, .obj O.mapResult, .obj O.mapState,
      .obj O.tallyOvfCount, .part .sys, .part .map, .part .tim, .part .mem]) :
    (timeSetOp h0 v s).1.see z = s.see z := by
  simp only [notMem_cons, notMem_nil, and_true] at h
  simp only [timeSetOp]; simp [↓ite_see, h]

@[simp] theorem timeStepOp_see (h0 : Nat) (v : Nat) (s : State) {z : View}
    (h : z.place ∉ [.obj O.eventCount, .obj O.eventLastTime, .obj O.eventLatch, .obj O.hdpStats,
      .obj O.maintTokenHolder, .obj O.maintTokenSince, .obj O.mapBoundaryFsn, .obj O.mapResult, .obj O.mapState,
      .obj O.tallyOvfCount, .part .sys, .part .map, .part .tim, .part .mem]) :
    (timeStepOp h0 v s).1.see z = s.see z := by
  simp only [notMem_cons, notMem_nil, and_true] at h
  simp only [timeStepOp]; simp [↓ite_see, h]

@[simp] theorem timeCaptureOp_see (s : State) {z : View}
    (h : z.place ∉ [.obj O.timeCapturedFsn, .obj O.timeCapturedTime]) :
    (timeCaptureOp s).1.see z = s.see z := by
  simp only [notMem_cons, notMem_nil, and_true] at h
  simp only [timeCaptureOp]; simp [h]

@[simp] theorem State.pulses_see (s : State) {z : View} :
    (State.pulses s).see z = s.see z := by
  simp only [State.pulses]; simp [↓ite_see]

@[simp] theorem State.timeFrame_see (s : State) {z : View}
    (h : z.place ∉ [.obj O.eventCount, .obj O.eventLastTime, .obj O.eventLatch, .obj O.hdpStats,
      .obj O.maintTokenHolder, .obj O.maintTokenSince, .obj O.mapBoundaryFsn, .obj O.mapResult, .obj O.mapState,
      .obj O.tallyOvfCount, .part .sys, .part .map, .part .tim, .part .mem]) :
    (State.timeFrame s).see z = s.see z := by
  simp only [notMem_cons, notMem_nil, and_true] at h
  simp only [State.timeFrame]; simp [↓see_mk, ↓ite_see, h]

@[simp] theorem State.refFrame_see (s : State) (ph : List (Nat × Int)) {z : View}
    (h : z.place ∉ [.obj O.eventCount, .obj O.eventLastTime, .obj O.eventLatch, .obj O.hdpStats,
      .obj O.maintTokenHolder, .obj O.refDcoOffset, .obj O.refInputPhase, .obj O.refInputState, .obj O.refTied,
      .obj O.timeGridResidual, .part .ref, .part .tim]) :
    (State.refFrame s ph).see z = s.see z := by
  simp only [notMem_cons, notMem_nil, and_true] at h
  simp only [State.refFrame]; simp [↓see_mk, ↓ite_see, h]

@[simp] theorem State.writeRefEnable_see (s : State) (w : Who) (v : Nat) {z : View}
    (h : z.place ∉ [.obj O.dictLastRefusal, .obj O.eventCount, .obj O.eventLastTime, .obj O.eventLatch,
      .obj O.hdpStats, .obj O.ledgerJournalSeq, .obj O.refEnable, .obj O.refInputState, .obj O.refTied,
      .obj O.timeGridResidual, .part .ref, .part .tim]) :
    (State.writeRefEnable s w v).see z = s.see z := by
  simp only [notMem_cons, notMem_nil, and_true] at h
  simp only [State.writeRefEnable]; simp [h]

@[simp] theorem State.writePhaseStep_see (s : State) (w : Who) (v : Nat) {z : View}
    (h : z.place ∉ [.obj O.dictLastRefusal, .obj O.eventCount, .obj O.eventLastTime, .obj O.eventLatch,
      .obj O.hdpStats, .obj O.ledgerJournalSeq, .obj O.maintTokenHolder, .obj O.maintTokenSince,
      .obj O.mapBoundaryFsn, .obj O.mapResult, .obj O.mapState, .obj O.refPhaseAdj, .obj O.tallyOvfCount,
      .obj O.timeGridResidual, .part .sys, .part .map, .part .ref, .part .tim, .part .mem]) :
    (State.writePhaseStep s w v).see z = s.see z := by
  simp only [notMem_cons, notMem_nil, and_true] at h
  simp only [State.writePhaseStep]; simp [h]

@[simp] theorem State.writeFrameOffset_see (s : State) (w : Who) (v : Nat) {z : View}
    (h : z.place ∉ [.obj O.dictLastRefusal, .obj O.eventCount, .obj O.eventLastTime, .obj O.eventLatch,
      .obj O.hdpStats, .obj O.ledgerJournalSeq, .obj O.refFrameOffset, .obj O.refTied, .obj O.timeGridResidual,
      .part .ref, .part .tim]) :
    (State.writeFrameOffset s w v).see z = s.see z := by
  simp only [notMem_cons, notMem_nil, and_true] at h
  simp only [State.writeFrameOffset]; simp [h]

@[simp] theorem State.writeRetime_see (s : State) (w : Who) (v : Nat) {z : View}
    (h : z.place ∉ [.obj O.dictLastRefusal, .obj O.eventCount, .obj O.eventLastTime, .obj O.eventLatch,
      .obj O.hdpStats, .obj O.ledgerJournalSeq, .obj O.refTied, .obj O.timeGridResidual, .part .ref, .part .tim]) :
    (State.writeRetime s w v).see z = s.see z := by
  simp only [notMem_cons, notMem_nil, and_true] at h
  simp only [State.writeRetime]; simp [h]

@[simp] theorem State.writeAlignReq_see (s : State) (w : Who) (v : Nat) {z : View}
    (h : z.place ∉ [.obj O.dictLastRefusal, .obj O.eventCount, .obj O.eventLastTime, .obj O.eventLatch,
      .obj O.hdpStats, .obj O.ledgerJournalSeq, .obj O.maintTokenHolder, .obj O.maintTokenSince, .part .ref]) :
    (State.writeAlignReq s w v).see z = s.see z := by
  simp only [notMem_cons, notMem_nil, and_true] at h
  simp only [State.writeAlignReq]; simp [h]

@[simp] theorem State.writePtpOffset_see (s : State) (w : Who) (v : Nat) {z : View}
    (h : z.place ∉ [.obj O.dictLastRefusal, .obj O.eventCount, .obj O.eventLastTime, .obj O.eventLatch,
      .obj O.hdpStats, .obj O.ledgerJournalSeq, .obj O.maintTokenHolder, .obj O.maintTokenSince,
      .obj O.mapBoundaryFsn, .obj O.mapResult, .obj O.mapState, .obj O.refDcoOffset, .obj O.refInputPhase,
      .obj O.tallyOvfCount, .obj O.timeGridResidual, .obj O.timeServoFreq, .obj O.timeServoOffset, .part .sys,
      .part .map, .part .ref, .part .tim, .part .mem]) :
    (State.writePtpOffset s w v).see z = s.see z := by
  simp only [notMem_cons, notMem_nil, and_true] at h
  simp only [State.writePtpOffset]; simp [h]

@[simp] theorem State.writeTimeSet_see (s : State) (w : Who) (v : Nat) {z : View}
    (h : z.place ∉ [.obj O.dictLastRefusal, .obj O.eventCount, .obj O.eventLastTime, .obj O.eventLatch,
      .obj O.hdpStats, .obj O.ledgerJournalSeq, .obj O.maintTokenHolder, .obj O.maintTokenSince,
      .obj O.mapBoundaryFsn, .obj O.mapResult, .obj O.mapState, .obj O.tallyOvfCount, .part .sys, .part .map,
      .part .tim, .part .mem]) :
    (State.writeTimeSet s w v).see z = s.see z := by
  simp only [notMem_cons, notMem_nil, and_true] at h
  simp only [State.writeTimeSet]; simp [h]

@[simp] theorem State.writeTimeStep_see (s : State) (w : Who) (v : Nat) {z : View}
    (h : z.place ∉ [.obj O.dictLastRefusal, .obj O.eventCount, .obj O.eventLastTime, .obj O.eventLatch,
      .obj O.hdpStats, .obj O.ledgerJournalSeq, .obj O.maintTokenHolder, .obj O.maintTokenSince,
      .obj O.mapBoundaryFsn, .obj O.mapResult, .obj O.mapState, .obj O.tallyOvfCount, .part .sys, .part .map,
      .part .tim, .part .mem]) :
    (State.writeTimeStep s w v).see z = s.see z := by
  simp only [notMem_cons, notMem_nil, and_true] at h
  simp only [State.writeTimeStep]; simp [h]

@[simp] theorem State.writeTimeCapture_see (s : State) (w : Who) (v : Nat) {z : View}
    (h : z.place ∉ [.obj O.dictLastRefusal, .obj O.eventCount, .obj O.eventLastTime, .obj O.eventLatch,
      .obj O.hdpStats, .obj O.ledgerJournalSeq, .obj O.timeCapturedFsn, .obj O.timeCapturedTime]) :
    (State.writeTimeCapture s w v).see z = s.see z := by
  simp only [notMem_cons, notMem_nil, and_true] at h
  simp only [State.writeTimeCapture]; simp [h]

@[simp] theorem State.writeServoSrc_see (s : State) (w : Who) (v : Nat) {z : View}
    (h : z.place ∉ [.obj O.dictLastRefusal, .obj O.eventCount, .obj O.eventLastTime, .obj O.eventLatch,
      .obj O.hdpStats, .obj O.ledgerJournalSeq, .obj O.maintTokenHolder, .obj O.maintTokenSince,
      .obj O.mapBoundaryFsn, .obj O.mapResult, .obj O.mapState, .obj O.tallyOvfCount, .obj O.timeServoFreq,
      .obj O.timeServoSrc, .part .sys, .part .map, .part .tim, .part .mem]) :
    (State.writeServoSrc s w v).see z = s.see z := by
  simp only [notMem_cons, notMem_nil, and_true] at h
  simp only [State.writeServoSrc]; simp [h]

@[simp] theorem State.writeQlCfg_see (s : State) (w : Who) (i : Nat) (v : Nat) {z : View}
    (h : z.place ∉ [.obj O.dictLastRefusal, .obj O.eventCount, .obj O.eventLastTime, .obj O.eventLatch,
      .obj O.hdpStats, .obj O.ledgerJournalSeq, .obj O.refQlCfg]) :
    (State.writeQlCfg s w i v).see z = s.see z := by
  simp only [notMem_cons, notMem_nil, and_true] at h
  simp only [State.writeQlCfg]; simp [↓ite_see, h]

@[simp] theorem State.writePpsTod_see (s : State) (w : Who) (v : Nat) {z : View}
    (h : z.place ∉ [.obj O.dictLastRefusal, .obj O.eventCount, .obj O.eventLastTime, .obj O.eventLatch,
      .obj O.hdpStats, .obj O.ledgerJournalSeq, .part .ref]) :
    (State.writePpsTod s w v).see z = s.see z := by
  simp only [notMem_cons, notMem_nil, and_true] at h
  simp only [State.writePpsTod]; simp [↓see_mk, h]

@[simp] theorem State.statusTaken_see (s : State) (st : Nat) (l : List Block) (arrival : Nat) {z : View}
    (h : z.place ∉ [.obj O.eventCount, .obj O.eventLastTime, .obj O.eventLatch, .obj O.hdpStats,
      .obj O.maintTokenHolder, .obj O.protFlags, .obj O.protFromTsn, .obj O.protPref, .obj O.refDcoOffset,
      .obj O.refInputPhase, .obj O.timeGridResidual, .obj O.witnessLinkDelay, .obj O.witnessStreamDevid,
      .obj O.witnessStreamState, .part .linkq, .part .prot, .part .wit, .part .ref]) :
    (State.statusTaken s st l arrival).see z = s.see z := by
  simp only [notMem_cons, notMem_nil, and_true] at h
  simp only [State.statusTaken]; simp [↓ite_see, h]

/-! ### Machine/Flags.lean -/

@[simp] theorem eventClearOp_see (v : Nat) (s : State) {z : View} (h : z.place ∉ [.obj O.eventLatch]) :
    (eventClearOp v s).1.see z = s.see z := by
  simp only [notMem_cons, notMem_nil, and_true] at h
  simp only [eventClearOp]; simp [h]

@[simp] theorem State.writeEventClear_see (s : State) (w : Who) (v : Nat) {z : View}
    (h : z.place ∉ [.obj O.dictLastRefusal, .obj O.eventCount, .obj O.eventLastTime, .obj O.eventLatch,
      .obj O.hdpStats, .obj O.ledgerJournalSeq]) :
    (State.writeEventClear s w v).see z = s.see z := by
  simp only [notMem_cons, notMem_nil, and_true] at h
  simp only [State.writeEventClear]; simp [h]

@[simp] theorem State.writeEventMask_see (s : State) (w : Who) (v : Nat) {z : View}
    (h : z.place ∉ [.obj O.dictLastRefusal, .obj O.eventCount, .obj O.eventLastTime, .obj O.eventLatch,
      .obj O.eventMask, .obj O.hdpStats, .obj O.ledgerJournalSeq]) :
    (State.writeEventMask s w v).see z = s.see z := by
  simp only [notMem_cons, notMem_nil, and_true] at h
  simp only [State.writeEventMask]; simp [h]

@[simp] theorem State.crierReload_see (s : State) {z : View} (h : z.place ∉ [.part .crier, .part .crierSlip]) :
    (State.crierReload s).see z = s.see z := by
  simp only [notMem_cons, notMem_nil, and_true] at h
  simp only [State.crierReload]; simp [↓see_mk, h]

/-! ### Machine/Time.lean -/

@[simp] theorem State.tcDrop_see (s : State) (why : Nat) {z : View}
    (h : z.place ∉ [.obj O.eventCount, .obj O.eventLastTime, .obj O.eventLatch, .obj O.hdpStats,
      .obj O.timeTcStats]) :
    (State.tcDrop s why).see z = s.see z := by
  simp only [notMem_cons, notMem_nil, and_true] at h
  simp only [State.tcDrop]; simp [h]

@[simp] theorem State.tcCopy_see (s : State) (j : Nat) (x : TcF) {z : View}
    (h : z.place ∉ [.obj O.eventCount, .obj O.eventLastTime, .obj O.eventLatch, .obj O.hdpStats,
      .obj O.timeTcStats, .part .tim]) :
    (State.tcCopy s j x).see z = s.see z := by
  simp only [notMem_cons, notMem_nil, and_true] at h
  simp only [State.tcCopy]; simp [↓see_mk, ↓ite_see, h]

@[simp] theorem State.toKeeper_see (s : State) (i : Nat) (f : List Byte) (t : Int) {z : View} :
    (State.toKeeper s i f t).see z = s.see z := by
  simp only [State.toKeeper]; simp

@[simp] theorem State.pulseFrame_see (s : State) (i : Nat) (f : List Byte) (u : Int) {z : View}
    (h : z.place ∉ [.obj O.eventCount, .obj O.eventLastTime, .obj O.eventLatch, .obj O.hdpStats,
      .obj O.maintTokenHolder, .obj O.maintTokenSince, .obj O.mapBoundaryFsn, .obj O.mapResult, .obj O.mapState,
      .obj O.refDcoOffset, .obj O.refInputPhase, .obj O.refTied, .obj O.tallyOvfCount, .obj O.timeGridResidual,
      .obj O.timeServoFreq, .obj O.timeServoOffset, .part .sys, .part .map, .part .ref, .part .tim, .part .mem]) :
    (State.pulseFrame s i f u).see z = s.see z := by
  simp only [notMem_cons, notMem_nil, and_true] at h
  simp only [State.pulseFrame]; simp [↓ite_see, h]

@[simp] theorem State.tcFrame_see (s : State) (i : Nat) (f : List Byte) (u : Int) (h0 : Option (Nat × Bool))
    {z : View}
    (h : z.place ∉ [.obj O.eventCount, .obj O.eventLastTime, .obj O.eventLatch, .obj O.hdpStats,
      .obj O.timeTcStats, .part .tim]) :
    (State.tcFrame s i f u h0).see z = s.see z := by
  simp only [notMem_cons, notMem_nil, and_true] at h
  simp only [State.tcFrame]; split <;> simp [↓ite_see, h]

@[simp] theorem State.timeRx_see (s : State) (i : Nat) (f : List Byte) (c : Nat) {z : View}
    (h : z.place ∉ [.obj O.eventCount, .obj O.eventLastTime, .obj O.eventLatch, .obj O.hdpStats,
      .obj O.maintTokenHolder, .obj O.maintTokenSince, .obj O.mapBoundaryFsn, .obj O.mapResult, .obj O.mapState,
      .obj O.refDcoOffset, .obj O.refInputPhase, .obj O.refTied, .obj O.tallyOvfCount, .obj O.timeGridResidual,
      .obj O.timeServoFreq, .obj O.timeServoOffset, .obj O.timeTcStats, .part .sys, .part .map, .part .ref,
      .part .tim, .part .mem]) :
    (State.timeRx s i f c).see z = s.see z := by
  simp only [notMem_cons, notMem_nil, and_true] at h
  simp only [State.timeRx]; simp [↓ite_see, h]

@[simp] theorem State.tcSend_see (s : State) (x : TcF) (c : Nat) {z : View}
    (h : z.place ∉ [.obj O.tallyOvfCount, .obj O.timeTcStats, .part .tim]) :
    (State.tcSend s x c).1.see z = s.see z := by
  simp only [notMem_cons, notMem_nil, and_true] at h
  simp only [State.tcSend]; simp [↓see_mk, ↓ite_see, h]

@[simp] theorem State.putContainer_see (s : State) (p : Nat) (f : List Byte) {z : View}
    (h : z.place ∉ [.part .linkq]) :
    (State.putContainer s p f).see z = s.see z := by
  simp only [notMem_cons, notMem_nil, and_true] at h
  simp only [State.putContainer]; simp [h]

@[simp] theorem State.launchSend_see (s : State) (l : LaunchR) (c : Nat) (limit : Nat) {z : View}
    (h : z.place ∉ [.obj O.eventCount, .obj O.eventLastTime, .obj O.eventLatch, .obj O.hdpStats,
      .obj O.tallyOvfCount, .part .linkq, .part .tim]) :
    (State.launchSend s l c limit).see z = s.see z := by
  simp only [notMem_cons, notMem_nil, and_true] at h
  simp only [State.launchSend]; simp [↓see_mk, ↓ite_see, h]

@[simp] theorem State.launchDue_see (s : State) (tag : Nat) (c : Nat) {z : View}
    (h : z.place ∉ [.obj O.eventCount, .obj O.eventLastTime, .obj O.eventLatch, .obj O.hdpStats,
      .obj O.tallyOvfCount, .part .linkq, .part .tim]) :
    (State.launchDue s tag c).see z = s.see z := by
  simp only [notMem_cons, notMem_nil, and_true] at h
  simp only [State.launchDue]; split <;> simp [↓ite_see, h]

@[simp] theorem State.launchDiscard_see (s : State) (tag : Nat) {z : View}
    (h : z.place ∉ [.obj O.eventCount, .obj O.eventLastTime, .obj O.eventLatch, .obj O.hdpStats,
      .obj O.tallyOvfCount, .part .tim]) :
    (State.launchDiscard s tag).see z = s.see z := by
  simp only [notMem_cons, notMem_nil, and_true] at h
  simp only [State.launchDiscard]; split <;> simp [h]

@[simp] theorem launchOp_see (r : List Byte) (s : State) {z : View} (h : z.place ∉ [.part .tim]) :
    (launchOp r s).1.see z = s.see z := by
  simp only [notMem_cons, notMem_nil, and_true] at h
  simp only [launchOp]; simp [↓see_mk, ↓ite_see, h]

@[simp] theorem State.channelsFrame_see (s : State) {z : View}
    (h : z.place ∉ [.obj O.tallyOvfCount, .obj O.timeTcStats, .part .linkq, .part .tim]) :
    (State.channelsFrame s).see z = s.see z := by
  simp only [notMem_cons, notMem_nil, and_true] at h
  unfold State.channelsFrame
  refine (foldl_see _ _ _ fun a p => ?_).trans ?_
  · split_ifs
    · split <;> simp [↓see_mk, h]
    · rfl
  · simp [↓see_mk, h]

@[simp] theorem State.portSend_see (s : State) (k : Nat) (c : Nat) {z : View}
    (h : z.place ∉ [.obj O.tallyOvfCount, .obj O.timeTcStats, .part .tim]) :
    (State.portSend s k c).see z = s.see z := by
  simp only [notMem_cons, notMem_nil, and_true] at h
  simp only [State.portSend]; (repeat' split) <;> simp [↓see_mk, h]

@[simp] theorem State.timeLinkUp_see (s : State) (k : Nat) {z : View} (h : z.place ∉ [.part .tim]) :
    (State.timeLinkUp s k).see z = s.see z := by
  simp only [notMem_cons, notMem_nil, and_true] at h
  simp only [State.timeLinkUp]; simp [↓see_mk, ↓ite_see, h]

@[simp] theorem State.timeLinkDown_see (s : State) (k : Nat) {z : View} (h : z.place ∉ [.part .tim]) :
    (State.timeLinkDown s k).see z = s.see z := by
  simp only [notMem_cons, notMem_nil, and_true] at h
  simp only [State.timeLinkDown]; simp [↓see_mk, h]

@[simp] theorem State.timeCut_see (s : State) {z : View}
    (h : z.place ∉ [.obj O.eventCount, .obj O.eventLastTime, .obj O.eventLatch, .obj O.hdpStats,
      .obj O.ledgerCutMode, .obj O.ledgerExportState, .obj O.maintTokenHolder, .obj O.maintTokenSince,
      .obj O.timeCutTime, .part .mem]) :
    (State.timeCut s).see z = s.see z := by
  simp only [notMem_cons, notMem_nil, and_true] at h
  simp only [State.timeCut]; simp [↓ite_see, h]

@[simp] theorem State.writeLaunch_see (s : State) (w : Who) (r : List Byte) {z : View}
    (h : z.place ∉ [.obj O.dictLastRefusal, .part .tim]) :
    (State.writeLaunch s w r).see z = s.see z := by
  simp only [notMem_cons, notMem_nil, and_true] at h
  simp only [State.writeLaunch]; simp [h]

@[simp] theorem State.writeLaunchFlush_see (s : State) (w : Who) (v : Nat) {z : View}
    (h : z.place ∉ [.obj O.dictLastRefusal, .obj O.eventCount, .obj O.eventLastTime, .obj O.eventLatch,
      .obj O.hdpStats, .obj O.ledgerJournalSeq, .obj O.tallyOvfCount, .part .tim]) :
    (State.writeLaunchFlush s w v).see z = s.see z := by
  simp only [notMem_cons, notMem_nil, and_true] at h
  simp only [State.writeLaunchFlush]; simp [h]

@[simp] theorem State.launchDoneRead_see (s : State) (w : Who) (first : Nat) (count : Nat) {z : View}
    (h : z.place ∉ [.part .tim]) :
    (State.launchDoneRead s w first count).see z = s.see z := by
  simp only [notMem_cons, notMem_nil, and_true] at h
  simp only [State.launchDoneRead]; simp [↓see_mk, ↓ite_see, h]

/-! ### Machine/Cfg.lean -/

@[simp] theorem loopbackOp_see (h0 : Nat) (p : Nat) (v : Nat) (s : State) {z : View}
    (h : z.place ∉ [.obj O.eventCount, .obj O.eventLastTime, .obj O.eventLatch, .obj O.hdpStats,
      .obj O.maintTokenHolder, .obj O.maintTokenSince, .obj O.portLoopback]) :
    (loopbackOp h0 p v s).1.see z = s.see z := by
  simp only [notMem_cons, notMem_nil, and_true] at h
  simp only [loopbackOp]; simp [↓ite_see, h]

@[simp] theorem portModeOp_see (k : Nat) (v : Nat) (s : State) {z : View}
    (h : z.place ∉ [.obj O.hdpPortMode, .part .tim]) :
    (portModeOp k v s).1.see z = s.see z := by
  simp only [notMem_cons, notMem_nil, and_true] at h
  simp only [portModeOp]; simp [↓ite_see, h]

@[simp] theorem refPortOp_see (k : Nat) (v : Nat) (s : State) {z : View}
    (h : z.place ∉ [.obj O.eventCount, .obj O.eventLastTime, .obj O.eventLatch, .obj O.hdpStats, .obj O.refPort,
      .obj O.refTied, .obj O.timeGridResidual, .part .ref, .part .tim]) :
    (refPortOp k v s).1.see z = s.see z := by
  simp only [notMem_cons, notMem_nil, and_true] at h
  simp only [refPortOp]; simp [↓ite_see, h]

@[simp] theorem cutModeOp_see (v : Nat) (s : State) {z : View} (h : z.place ∉ [.obj O.ledgerCutMode]) :
    (cutModeOp v s).1.see z = s.see z := by
  simp only [notMem_cons, notMem_nil, and_true] at h
  simp only [cutModeOp]; simp [↓see_mk, ↓ite_see, h]

@[simp] theorem exportEnOp_see (v : Nat) (s : State) {z : View} (h : z.place ∉ [.obj O.ledgerExportEn]) :
    (exportEnOp v s).1.see z = s.see z := by
  simp only [notMem_cons, notMem_nil, and_true] at h
  simp only [exportEnOp]; simp [↓see_mk, ↓ite_see, h]

@[simp] theorem protStoreOp_see (idx : Nat) (v : Nat) (s : State) {z : Part} (h : z ∉ [.prot]) :
    (protStoreOp idx v s).1.see (.part z) = s.see (.part z) := by
  simp only [notMem_cons, notMem_nil, and_true] at h
  simp only [protStoreOp]; simp [h]

@[simp] theorem State.writePortObj_see (s : State) (w : Who) (idx : Nat) (p : Nat) (v : Nat) {z : Part}
    (h : z ∉ [.link, .linkq, .rx, .prot, .wit, .ref, .tim]) :
    (State.writePortObj s w idx p v).see (.part z) = s.see (.part z) := by
  simp only [notMem_cons, notMem_nil, and_true] at h
  simp only [State.writePortObj]; simp [↓ite_see, h]

@[simp] theorem State.writeMapObj_see (s : State) (w : Who) (idx : Nat) (e : Nat) (v : Nat) {z : Part}
    (h : z ∉ [.linkq, .map, .grp, .mem, .asy]) :
    (State.writeMapObj s w idx e v).see (.part z) = s.see (.part z) := by
  simp only [notMem_cons, notMem_nil, and_true] at h
  simp only [State.writeMapObj]; simp [↓ite_see, h]

@[simp] theorem State.writeProtObj_see (s : State) (w : Who) (idx : Nat) (e : Nat) (v : Nat) {z : Part}
    (h : z ∉ [.link, .linkq, .rx, .prot, .wit, .ref, .tim]) :
    (State.writeProtObj s w idx e v).see (.part z) = s.see (.part z) := by
  simp only [notMem_cons, notMem_nil, and_true] at h
  simp only [State.writeProtObj]; simp [↓ite_see, h]

@[simp] theorem State.writeTimeObj_see (s : State) (w : Who) (idx : Nat) (e : Nat) (v : Nat) {z : Part}
    (h : z ∉ [.sys, .map, .ref, .tim, .mem]) :
    (State.writeTimeObj s w idx e v).see (.part z) = s.see (.part z) := by
  simp only [notMem_cons, notMem_nil, and_true] at h
  simp only [State.writeTimeObj]; simp [↓ite_see, h]

@[simp] theorem State.writeMemObj_see (s : State) (w : Who) (idx : Nat) (e : Nat) (v : Nat) {z : Part}
    (h : z ∉ [.live, .linkq, .grp, .mem, .mtx, .asy]) :
    (State.writeMemObj s w idx e v).see (.part z) = s.see (.part z) := by
  simp only [notMem_cons, notMem_nil, and_true] at h
  simp only [State.writeMemObj]; simp [↓ite_see, h]

@[simp] theorem State.writeCfg_see (s : State) (w : Who) (idx : Nat) (e : Nat) (v : Nat) {z : Part}
    (h : z ∉ [.live, .sys, .link, .linkq, .rx, .map, .grp, .prot, .wit, .ref, .tim, .mem, .mtx, .fw, .asy]) :
    (State.writeCfg s w idx e v).see (.part z) = s.see (.part z) := by
  simp only [notMem_cons, notMem_nil, and_true] at h
  simp only [State.writeCfg]; simp [↓ite_see, h]

/-! ### Machine/Keeper.lean -/

@[simp] theorem State.mtxError_see (s : State) (code : Nat) (x : Txn) {z : View}
    (h : z.place ∉ [.obj O.matrixErrCount, .part .mtx]) :
    (State.mtxError s code x).see z = s.see z := by
  simp only [notMem_cons, notMem_nil, and_true] at h
  simp only [State.mtxError]; simp [↓see_mk, h]

@[simp] theorem State.answerTxn_see (s : State) (x : Txn) {z : View} :
    (State.answerTxn s x).see z = s.see z := by
  simp only [State.answerTxn]; simp [↓ite_see]

@[simp] theorem State.flushRefused_see (s : State) {z : View} (h : z.place ∉ [.obj O.matrixErrCount, .part .mtx]) :
    (State.flushRefused s).see z = s.see z := by
  simp only [notMem_cons, notMem_nil, and_true] at h
  simp only [State.flushRefused]; simp [↓see_mk, h]

@[simp] theorem State.mtxDone_see (s : State) {z : View} (h : z.place ∉ [.obj O.matrixErrCount, .part .mtx]) :
    (State.mtxDone s).see z = s.see z := by
  simp only [notMem_cons, notMem_nil, and_true] at h
  simp only [State.mtxDone]; simp [h]

@[simp] theorem State.beatsNull_see (s : State) (k : Nat) {z : View} (h : z.place ∉ [.part .mtx]) :
    (State.beatsNull s k).see z = s.see z := by
  simp only [notMem_cons, notMem_nil, and_true] at h
  simp only [State.beatsNull]; simp [↓see_mk, h]

@[simp] theorem State.dmaReset_see (s : State) {z : View}
    (h : z.place ∉ [.obj O.eventCount, .obj O.eventLastTime, .obj O.eventLatch, .obj O.hdpStats,
      .obj O.ledgerExportState, .obj O.maintTokenHolder]) :
    (State.dmaReset s).see z = s.see z := by
  simp only [notMem_cons, notMem_nil, and_true] at h
  simp only [State.dmaReset]; simp [↓ite_see, h]

@[simp] theorem State.masterEnter_see (s : State) (k : Nat) {z : View}
    (h : z.place ∉ [.obj O.eventCount, .obj O.eventLastTime, .obj O.eventLatch, .obj O.hdpStats,
      .obj O.ledgerExportState, .obj O.maintTokenHolder, .obj O.matrixMasterState, .part .mtx]) :
    (State.masterEnter s k).see z = s.see z := by
  simp only [notMem_cons, notMem_nil, and_true] at h
  simp only [State.masterEnter]; simp [↓see_mk, ↓ite_see, h]

@[simp] theorem State.masterQuiet_see (s : State) (k : Nat) {z : View}
    (h : z.place ∉ [.obj O.eventCount, .obj O.eventLastTime, .obj O.eventLatch, .obj O.hdpStats,
      .obj O.matrixMasterState]) :
    (State.masterQuiet s k).see z = s.see z := by
  simp only [notMem_cons, notMem_nil, and_true] at h
  simp only [State.masterQuiet]; simp [↓ite_see, h]

@[simp] theorem masterResetOp_see (v : Nat) (s : State) {z : View}
    (h : z.place ∉ [.obj O.eventCount, .obj O.eventLastTime, .obj O.eventLatch, .obj O.hdpStats,
      .obj O.ledgerExportState, .obj O.maintTokenHolder, .obj O.matrixMasterState, .part .mtx]) :
    (masterResetOp v s).1.see z = s.see z := by
  simp only [notMem_cons, notMem_nil, and_true] at h
  simp only [masterResetOp]; simp [↓ite_see, h]

@[simp] theorem remapOp_see (v : Nat) (s : State) {z : View} (h : z.place ∉ [.obj O.matrixRemap, .part .mtx]) :
    (remapOp v s).1.see z = s.see z := by
  simp only [notMem_cons, notMem_nil, and_true] at h
  simp only [remapOp]; simp [↓see_mk, ↓ite_see, h]

@[simp] theorem State.remapApplied_see (s : State) {z : View}
    (h : z.place ∉ [.obj O.eventCount, .obj O.eventLastTime, .obj O.eventLatch, .obj O.hdpStats,
      .obj O.matrixErrCount, .part .mtx]) :
    (State.remapApplied s).see z = s.see z := by
  simp only [notMem_cons, notMem_nil, and_true] at h
  simp only [State.remapApplied]; split <;> simp [↓see_mk, ↓ite_see, h]

@[simp] theorem State.descriptor_see (s : State) {z : View} (h : z.place ∉ [.part .mem, .part .fw]) :
    (State.descriptor s).see z = s.see z := by
  simp only [notMem_cons, notMem_nil, and_true] at h
  simp only [State.descriptor]; simp [↓see_mk, h]

@[simp] theorem State.bootLoad_see (s : State) {z : View}
    (h : z.place ∉ [.obj O.fwRunning, .obj O.fwSlotState, .obj O.fwSlotVersion, .obj O.sysResume]) :
    (State.bootLoad s).see z = s.see z := by
  simp only [notMem_cons, notMem_nil, and_true] at h
  simp only [State.bootLoad]; split <;> simp [h]

@[simp] theorem State.setResume_see (s : State) (v : Nat) {z : View}
    (h : z.place ∉ [.obj O.sysResume, .part .mem, .part .fw]) :
    (State.setResume s v).see z = s.see z := by
  simp only [notMem_cons, notMem_nil, and_true] at h
  simp only [State.setResume]; simp [↓ite_see, h]

@[simp] theorem State.writeMasterReset_see (s : State) (w : Who) (v : Nat) {z : View}
    (h : z.place ∉ [.obj O.dictLastRefusal, .obj O.eventCount, .obj O.eventLastTime, .obj O.eventLatch,
      .obj O.hdpStats, .obj O.ledgerExportState, .obj O.ledgerJournalSeq, .obj O.maintTokenHolder,
      .obj O.matrixMasterState, .part .mtx]) :
    (State.writeMasterReset s w v).see z = s.see z := by
  simp only [notMem_cons, notMem_nil, and_true] at h
  simp only [State.writeMasterReset]; simp [h]

@[simp] theorem State.writeRemap_see (s : State) (w : Who) (v : Nat) {z : View}
    (h : z.place ∉ [.obj O.dictLastRefusal, .obj O.eventCount, .obj O.eventLastTime, .obj O.eventLatch,
      .obj O.hdpStats, .obj O.ledgerJournalSeq, .obj O.matrixRemap, .part .mtx]) :
    (State.writeRemap s w v).see z = s.see z := by
  simp only [notMem_cons, notMem_nil, and_true] at h
  simp only [State.writeRemap]; simp [h]

/-! ### Machine/Firmware.lean -/

@[simp] theorem State.setSlot_see (s : State) (k : Nat) (v : Nat) {z : View} (h : z.place ∉ [.obj O.fwSlotState]) :
    (State.setSlot s k v).see z = s.see z := by
  simp only [notMem_cons, notMem_nil, and_true] at h
  simp only [State.setSlot]; simp [h]

@[simp] theorem State.runSlot_see (s : State) (k : Nat) (boot : Nat) {z : View}
    (h : z.place ∉ [.obj O.fwBootState, .obj O.fwRunning, .obj O.identFwVersion, .part .sys]) :
    (State.runSlot s k boot).see z = s.see z := by
  simp only [notMem_cons, notMem_nil, and_true] at h
  simp only [State.runSlot]; simp [↓see_mk, h]

@[simp] theorem State.noSlot_see (s : State) {z : View} (h : z.place ∉ [.obj O.fwBootState, .part .sys]) :
    (State.noSlot s).see z = s.see z := by
  simp only [notMem_cons, notMem_nil, and_true] at h
  simp only [State.noSlot]; simp [↓see_mk, h]

@[simp] theorem State.fwTokEnd_see (s : State) {z : View}
    (h : z.place ∉ [.obj O.eventCount, .obj O.eventLastTime, .obj O.eventLatch, .obj O.hdpStats,
      .obj O.maintTokenHolder]) :
    (State.fwTokEnd s).see z = s.see z := by
  simp only [notMem_cons, notMem_nil, and_true] at h
  simp only [State.fwTokEnd]; simp [↓ite_see, h]

@[simp] theorem State.fallBack_see (s : State) (bad : Nat) {z : View}
    (h : z.place ∉ [.obj O.eventCount, .obj O.eventLastTime, .obj O.eventLatch, .obj O.fwBootState,
      .obj O.fwRunning, .obj O.fwSlotState, .obj O.hdpStats, .obj O.identFwVersion, .obj O.sysCause, .part .sys,
      .part .mem, .part .fw]) :
    (State.fallBack s bad).see z = s.see z := by
  simp only [notMem_cons, notMem_nil, and_true] at h
  simp only [State.fallBack]; simp [↓ite_see, h]

@[simp] theorem State.bootChoose_see (s : State) {z : View}
    (h : z.place ∉ [.obj O.eventCount, .obj O.eventLastTime, .obj O.eventLatch, .obj O.fwBootState,
      .obj O.fwRunning, .obj O.fwSlotState, .obj O.fwSlotVersion, .obj O.fwTrialLeft, .obj O.fwUpdateState,
      .obj O.hdpStats, .obj O.identFwVersion, .obj O.maintTokenHolder, .obj O.maintTokenSince, .obj O.sysCause,
      .obj O.sysResume, .part .sys, .part .mem, .part .fw]) :
    (State.bootChoose s).see z = s.see z := by
  simp only [notMem_cons, notMem_nil, and_true] at h
  simp only [State.bootChoose]; split_ifs <;> simp [↓see_mk, ↓ite_see, h]

@[simp] theorem State.keeperRestart_see (s : State) {z : View}
    (h : z.place ∉ [.obj O.eventCount, .obj O.eventLastTime, .obj O.eventLatch, .obj O.hdpStats,
      .obj O.ledgerExportState, .obj O.maintTokenHolder, .obj O.matrixMasterState, .part .sys, .part .mtx]) :
    (State.keeperRestart s).see z = s.see z := by
  simp only [notMem_cons, notMem_nil, and_true] at h
  simp only [State.keeperRestart]; simp [↓see_mk, h]

@[simp] theorem stageBeginOp_see (h0 : Nat) (s : State) {z : View}
    (h : z.place ∉ [.obj O.eventCount, .obj O.eventLastTime, .obj O.eventLatch, .obj O.fwSlotState,
      .obj O.fwSlotSvn, .obj O.fwSlotVersion, .obj O.fwUpdateState, .obj O.hdpStats, .obj O.maintTokenHolder,
      .obj O.maintTokenSince, .part .mem, .part .fw]) :
    (stageBeginOp h0 s).1.see z = s.see z := by
  simp only [notMem_cons, notMem_nil, and_true] at h
  simp only [stageBeginOp]; simp [↓see_mk, ↓ite_see, h]

@[simp] theorem State.eraseDone_see (s : State) {z : View}
    (h : z.place ∉ [.obj O.eventCount, .obj O.eventLastTime, .obj O.eventLatch, .obj O.fwUpdateState,
      .obj O.hdpStats, .part .mem]) :
    (State.eraseDone s).see z = s.see z := by
  simp only [notMem_cons, notMem_nil, and_true] at h
  simp only [State.eraseDone]; simp [↓ite_see, h]

@[simp] theorem stageSegmentOp_see (h0 : Nat) (k : Nat) (d : List Byte) (s : State) {z : View}
    (h : z.place ∉ [.obj O.eventCount, .obj O.eventLastTime, .obj O.eventLatch, .obj O.hdpStats, .part .mem,
      .part .fw]) :
    (stageSegmentOp h0 k d s).1.see z = s.see z := by
  simp only [notMem_cons, notMem_nil, and_true] at h
  simp only [stageSegmentOp]; simp [↓see_mk, ↓ite_see, h]

@[simp] theorem State.imageBad_see (s : State) (k : Nat) {z : View}
    (h : z.place ∉ [.obj O.eventCount, .obj O.eventLastTime, .obj O.eventLatch, .obj O.fwSlotState,
      .obj O.fwUpdateState, .obj O.hdpStats, .obj O.maintTokenHolder, .part .mem, .part .fw]) :
    (State.imageBad s k).see z = s.see z := by
  simp only [notMem_cons, notMem_nil, and_true] at h
  simp only [State.imageBad]; simp [h]

@[simp] theorem fwCommitOp_see (h0 : Nat) (s : State) {z : View}
    (h : z.place ∉ [.obj O.eventCount, .obj O.eventLastTime, .obj O.eventLatch, .obj O.fwSlotState,
      .obj O.fwSlotSvn, .obj O.fwSlotVersion, .obj O.fwUpdateState, .obj O.hdpStats, .obj O.maintTokenHolder,
      .part .mem, .part .fw]) :
    (fwCommitOp h0 s).1.see z = s.see z := by
  simp only [notMem_cons, notMem_nil, and_true] at h
  simp only [fwCommitOp]; simp [↓ite_see, h]

@[simp] theorem fwAbortOp_see (h0 : Nat) (s : State) {z : View}
    (h : z.place ∉ [.obj O.eventCount, .obj O.eventLastTime, .obj O.eventLatch, .obj O.fwSlotState,
      .obj O.fwUpdateState, .obj O.hdpStats, .obj O.maintTokenHolder, .part .mem, .part .fw]) :
    (fwAbortOp h0 s).1.see z = s.see z := by
  simp only [notMem_cons, notMem_nil, and_true] at h
  simp only [fwAbortOp]; simp [↓see_mk, ↓ite_see, h]

@[simp] theorem activateOp_see (h0 : Nat) (s : State) {z : View}
    (h : z.place ∉ [.obj O.eventCount, .obj O.eventLastTime, .obj O.eventLatch, .obj O.fwSlotState,
      .obj O.fwUpdateState, .obj O.hdpStats, .obj O.ledgerExportState, .obj O.maintTokenHolder,
      .obj O.maintTokenSince, .obj O.matrixMasterState, .part .sys, .part .mem, .part .mtx, .part .fw]) :
    (activateOp h0 s).1.see z = s.see z := by
  simp only [notMem_cons, notMem_nil, and_true] at h
  simp only [activateOp]; simp [↓see_mk, ↓ite_see, h]

@[simp] theorem confirmOp_see (s : State) {z : View}
    (h : z.place ∉ [.obj O.eventCount, .obj O.eventLastTime, .obj O.eventLatch, .obj O.fwFabricPending,
      .obj O.fwSlotState, .obj O.fwTrialLeft, .obj O.fwUpdateState, .obj O.hdpStats, .obj O.maintTokenHolder,
      .part .mem, .part .fw]) :
    (confirmOp s).1.see z = s.see z := by
  simp only [notMem_cons, notMem_nil, and_true] at h
  simp only [confirmOp]; simp [↓ite_see, h]

@[simp] theorem State.trialFails_see (s : State) {z : View}
    (h : z.place ∉ [.obj O.eventCount, .obj O.eventLastTime, .obj O.eventLatch, .obj O.hdpStats,
      .obj O.ledgerExportState, .obj O.maintTokenHolder, .obj O.matrixMasterState, .part .sys, .part .mtx,
      .part .fw]) :
    (State.trialFails s).see z = s.see z := by
  simp only [notMem_cons, notMem_nil, and_true] at h
  simp only [State.trialFails]; simp [↓see_mk, ↓ite_see, h]

@[simp] theorem State.trialTimeout_see (s : State) {z : View}
    (h : z.place ∉ [.obj O.eventCount, .obj O.eventLastTime, .obj O.eventLatch, .obj O.hdpStats,
      .obj O.ledgerExportState, .obj O.maintTokenHolder, .obj O.matrixMasterState, .part .sys, .part .mtx,
      .part .fw]) :
    (State.trialTimeout s).see z = s.see z := by
  simp only [notMem_cons, notMem_nil, and_true] at h
  simp only [State.trialTimeout]; simp [↓ite_see, h]

@[simp] theorem revokeOp_see (s : State) {z : View} (h : z.place ∉ [.obj O.secKeyRevoked]) :
    (revokeOp s).1.see z = s.see z := by
  simp only [notMem_cons, notMem_nil, and_true] at h
  simp only [revokeOp]; simp [↓ite_see, h]

@[simp] theorem svnCommitOp_see (v : Nat) (s : State) {z : View} (h : z.place ∉ [.obj O.secSvnFloor]) :
    (svnCommitOp v s).1.see z = s.see z := by
  simp only [notMem_cons, notMem_nil, and_true] at h
  simp only [svnCommitOp]; simp [↓ite_see, h]

@[simp] theorem State.burnLeaf_see (s : State) {z : View}
    (h : z.place ∉ [.obj O.secLeafNext, .obj O.secReservations]) :
    (State.burnLeaf s).see z = s.see z := by
  simp only [notMem_cons, notMem_nil, and_true] at h
  simp only [State.burnLeaf]; simp [↓ite_see, h]

@[simp] theorem State.leafMirror_see (s : State) (next : Nat) {z : View} (h : z.place ∉ [.part .fw]) :
    (State.leafMirror s next).see z = s.see z := by
  simp only [notMem_cons, notMem_nil, and_true] at h
  simp only [State.leafMirror]; simp [↓see_mk, h]

@[simp] theorem State.mirrorCheck_see (s : State) {z : View}
    (h : z.place ∉ [.obj O.eventCount, .obj O.eventLastTime, .obj O.eventLatch, .obj O.hdpStats]) :
    (State.mirrorCheck s).see z = s.see z := by
  simp only [notMem_cons, notMem_nil, and_true] at h
  simp only [State.mirrorCheck]; simp [↓ite_see, h]

@[simp] theorem nonceOp_see (n : List Byte) (s : State) {z : View} (h : z.place ∉ [.part .fw]) :
    (nonceOp n s).1.see z = s.see z := by
  simp only [notMem_cons, notMem_nil, and_true] at h
  simp only [nonceOp]; simp [↓see_mk, ↓ite_see, h]

@[simp] theorem State.reportDone_see (s : State) {z : View}
    (h : z.place ∉ [.obj O.secAttestReport, .obj O.secLeafNext, .obj O.secReservations, .part .fw]) :
    (State.reportDone s).see z = s.see z := by
  simp only [notMem_cons, notMem_nil, and_true] at h
  simp only [State.reportDone]; split <;> simp [↓see_mk, ↓ite_see, h]

@[simp] theorem State.fwTarget_see (s : State) (w : Who) (op : State → State × Nat) {z : View}
    (h : z.place ∉ [.obj O.dictLastRefusal]) (hop : ∀ t, (op t).1.see z = t.see z) :
    (State.fwTarget s w op).see z = s.see z := by
  simp only [notMem_cons, notMem_nil, and_true] at h
  simp only [State.fwTarget]; simp [↓ite_see, h, hop]

@[simp] theorem State.writeStageBegin_see (s : State) (w : Who) (v : Nat) {z : View}
    (h : z.place ∉ [.obj O.dictLastRefusal, .obj O.eventCount, .obj O.eventLastTime, .obj O.eventLatch,
      .obj O.fwSlotState, .obj O.fwSlotSvn, .obj O.fwSlotVersion, .obj O.fwUpdateState, .obj O.hdpStats,
      .obj O.ledgerJournalSeq, .obj O.maintTokenHolder, .obj O.maintTokenSince, .part .mem, .part .fw]) :
    (State.writeStageBegin s w v).see z = s.see z := by
  simp only [notMem_cons, notMem_nil, and_true] at h
  simp only [State.writeStageBegin]; simp [h]

@[simp] theorem State.writeStageSegment_see (s : State) (w : Who) (k : Nat) (d : List Byte) {z : View}
    (h : z.place ∉ [.obj O.dictLastRefusal, .obj O.eventCount, .obj O.eventLastTime, .obj O.eventLatch,
      .obj O.hdpStats, .part .mem, .part .fw]) :
    (State.writeStageSegment s w k d).see z = s.see z := by
  simp only [notMem_cons, notMem_nil, and_true] at h
  simp only [State.writeStageSegment]; simp [h]

@[simp] theorem State.writeActivate_see (s : State) (w : Who) (v : Nat) {z : View}
    (h : z.place ∉ [.obj O.dictLastRefusal, .obj O.eventCount, .obj O.eventLastTime, .obj O.eventLatch,
      .obj O.fwSlotState, .obj O.fwUpdateState, .obj O.hdpStats, .obj O.ledgerExportState, .obj O.ledgerJournalSeq,
      .obj O.maintTokenHolder, .obj O.maintTokenSince, .obj O.matrixMasterState, .part .sys, .part .mem,
      .part .mtx, .part .fw]) :
    (State.writeActivate s w v).see z = s.see z := by
  simp only [notMem_cons, notMem_nil, and_true] at h
  simp only [State.writeActivate]; simp [h]

@[simp] theorem State.writeConfirm_see (s : State) (w : Who) (v : Nat) {z : View}
    (h : z.place ∉ [.obj O.dictLastRefusal, .obj O.eventCount, .obj O.eventLastTime, .obj O.eventLatch,
      .obj O.fwFabricPending, .obj O.fwSlotState, .obj O.fwTrialLeft, .obj O.fwUpdateState, .obj O.hdpStats,
      .obj O.ledgerJournalSeq, .obj O.maintTokenHolder, .part .mem, .part .fw]) :
    (State.writeConfirm s w v).see z = s.see z := by
  simp only [notMem_cons, notMem_nil, and_true] at h
  simp only [State.writeConfirm]; simp [h]

@[simp] theorem State.writeRevoke_see (s : State) (w : Who) (v : Nat) {z : View}
    (h : z.place ∉ [.obj O.dictLastRefusal, .obj O.eventCount, .obj O.eventLastTime, .obj O.eventLatch,
      .obj O.hdpStats, .obj O.ledgerJournalSeq, .obj O.secKeyRevoked]) :
    (State.writeRevoke s w v).see z = s.see z := by
  simp only [notMem_cons, notMem_nil, and_true] at h
  simp only [State.writeRevoke]; simp [h]

@[simp] theorem State.writeSvnCommit_see (s : State) (w : Who) (v : Nat) {z : View}
    (h : z.place ∉ [.obj O.dictLastRefusal, .obj O.eventCount, .obj O.eventLastTime, .obj O.eventLatch,
      .obj O.hdpStats, .obj O.ledgerJournalSeq, .obj O.secSvnFloor]) :
    (State.writeSvnCommit s w v).see z = s.see z := by
  simp only [notMem_cons, notMem_nil, and_true] at h
  simp only [State.writeSvnCommit]; simp [h]

@[simp] theorem State.writeNonce_see (s : State) (w : Who) (n : List Byte) {z : View}
    (h : z.place ∉ [.obj O.dictLastRefusal, .part .fw]) :
    (State.writeNonce s w n).see z = s.see z := by
  simp only [notMem_cons, notMem_nil, and_true] at h
  simp only [State.writeNonce]; simp [h]

/-! ### Machine/Modes.lean -/

@[simp] theorem State.promoteStep_see (s : State) (n : Nat) {z : View}
    (h : z.place ∉ [.obj O.eventCount, .obj O.eventLastTime, .obj O.eventLatch, .obj O.hdpStats,
      .obj O.protPromoteStep]) :
    (State.promoteStep s n).see z = s.see z := by
  simp only [notMem_cons, notMem_nil, and_true] at h
  simp only [State.promoteStep]; simp [↓ite_see, h]

@[simp] theorem State.promoteFail_see (s : State) {z : View}
    (h : z.place ∉ [.obj O.eventCount, .obj O.eventLastTime, .obj O.eventLatch, .obj O.hdpStats,
      .obj O.protPromoteStep, .part .sys, .part .prot]) :
    (State.promoteFail s).see z = s.see z := by
  simp only [notMem_cons, notMem_nil, and_true] at h
  simp only [State.promoteFail]; simp [↓see_mk, ↓ite_see, h]

@[simp] theorem State.dropActivity_see (s : State) (d : Nat) {z : View}
    (h : z.place ∉ [.obj O.eventCount, .obj O.eventLastTime, .obj O.eventLatch, .obj O.hdpStats,
      .obj O.maintTokenHolder]) :
    (State.dropActivity s d).see z = s.see z := by
  simp only [notMem_cons, notMem_nil, and_true] at h
  simp only [State.dropActivity]; simp [↓see_mk, ↓ite_see, h]

@[simp] theorem State.restoreOver_see (s : State) {z : View}
    (h : z.place ∉ [.obj O.eventCount, .obj O.eventLastTime, .obj O.eventLatch, .obj O.hdpStats,
      .obj O.maintTokenHolder, .part .sys]) :
    (State.restoreOver s).see z = s.see z := by
  simp only [notMem_cons, notMem_nil, and_true] at h
  simp only [State.restoreOver]; simp [↓see_mk, ↓ite_see, h]

@[simp] theorem State.fabricLost_see (s : State) {z : Part}
    (h : z ∉ [.live, .link, .linkq, .rx, .tx, .fab, .map, .grp, .prot, .wit, .mem, .asy, .crierSlip]) :
    (State.fabricLost s).see (.part z) = s.see (.part z) := by
  simp only [notMem_cons, notMem_nil, and_true] at h
  simp only [State.fabricLost]; simp [↓see_mk_part, h]

@[simp] theorem State.fabricOff_see (s : State) {z : Part}
    (h : z ∉ [.live, .sys, .link, .linkq, .rx, .tx, .fab, .map, .grp, .prot, .wit, .ref, .tim, .mem, .asy,
      .crierSlip]) :
    (State.fabricOff s).see (.part z) = s.see (.part z) := by
  simp only [notMem_cons, notMem_nil, and_true] at h
  simp only [State.fabricOff]; simp [↓see_mk_part, ↓ite_see, h]

@[simp] theorem State.quarantine_see (s : State) (cause : Nat) {z : View}
    (h : z.place ∉ [.obj O.eventCount, .obj O.eventLastTime, .obj O.eventLatch, .obj O.hdpStats,
      .obj O.maintTokenHolder, .obj O.mapResult, .obj O.mapState, .obj O.memBankState, .obj O.protPromoteStep,
      .obj O.protState, .obj O.sysCause, .obj O.sysModeFsn, .obj O.sysResume, .obj O.tallyOvfCount, .part .sys,
      .part .map, .part .prot, .part .mem, .part .mtx, .part .fw]) :
    (State.quarantine s cause).see z = s.see z := by
  simp only [notMem_cons, notMem_nil, and_true] at h
  simp only [State.quarantine]; simp [↓see_mk, ↓ite_see, h]

@[simp] theorem State.dormantEntry_see (s : State) {z : Part}
    (h : z ∉ [.live, .sys, .link, .linkq, .rx, .tx, .fab, .map, .grp, .prot, .wit, .ref, .tim, .mem, .mtx, .fw,
      .asy, .crierSlip]) :
    (State.dormantEntry s).see (.part z) = s.see (.part z) := by
  simp only [notMem_cons, notMem_nil, and_true] at h
  simp only [State.dormantEntry]; simp [↓see_mk_part, ↓ite_see, h]

@[simp] theorem State.startWake_see (s : State) {z : View}
    (h : z.place ∉ [.obj O.eventCount, .obj O.eventLastTime, .obj O.eventLatch, .obj O.hdpStats, .obj O.protState,
      .obj O.sysModeFsn, .obj O.sysSelftest, .part .sys]) :
    (State.startWake s).see z = s.see z := by
  simp only [notMem_cons, notMem_nil, and_true] at h
  simp only [State.startWake]; simp [↓see_mk, h]

@[simp] theorem State.fabPgAssert_see (s : State) {z : View}
    (h : z.place ∉ [.obj O.eventCount, .obj O.eventLastTime, .obj O.eventLatch, .obj O.hdpStats,
      .obj O.memBankState, .obj O.memDdrChState, .obj O.memDdrState, .obj O.protPromoteStep, .part .sys]) :
    (State.fabPgAssert s).see z = s.see z := by
  simp only [notMem_cons, notMem_nil, and_true] at h
  simp only [State.fabPgAssert]; simp [↓see_mk, ↓ite_see, h]

@[simp] theorem State.fabPgTimeout_see (s : State) {z : View}
    (h : z.place ∉ [.obj O.eventCount, .obj O.eventLastTime, .obj O.eventLatch, .obj O.hdpStats,
      .obj O.maintTokenHolder, .obj O.mapResult, .obj O.mapState, .obj O.memBankState, .obj O.protPromoteStep,
      .obj O.protState, .obj O.sysCause, .obj O.sysModeFsn, .obj O.sysResume, .obj O.tallyOvfCount, .part .sys,
      .part .map, .part .prot, .part .mem, .part .mtx, .part .fw]) :
    (State.fabPgTimeout s).see z = s.see z := by
  simp only [notMem_cons, notMem_nil, and_true] at h
  simp only [State.fabPgTimeout]; simp [↓ite_see, h]

@[simp] theorem State.fabPgDeassert_see (s : State) {z : Part}
    (h : z ∉ [.live, .sys, .link, .linkq, .rx, .tx, .fab, .map, .grp, .prot, .wit, .ref, .tim, .mem, .mtx, .fw,
      .asy, .crierSlip]) :
    (State.fabPgDeassert s).see (.part z) = s.see (.part z) := by
  simp only [notMem_cons, notMem_nil, and_true] at h
  simp only [State.fabPgDeassert]; simp [↓ite_see, h]

@[simp] theorem State.selftestLode_see (s : State) (l : Nat) {z : View}
    (h : z.place ∉ [.obj O.assayLasting, .obj O.eventCount, .obj O.eventLastTime, .obj O.eventLatch,
      .obj O.fabricLodeState, .obj O.hdpStats, .part .live, .part .asy]) :
    (State.selftestLode s l).see z = s.see z := by
  simp only [notMem_cons, notMem_nil, and_true] at h
  simp only [State.selftestLode]; simp [↓ite_see, h]

@[simp] theorem State.selftestDone_see (s : State) (failed : Nat) (lodes : List Nat) {z : View}
    (h : z.place ∉ [.obj O.assayLasting, .obj O.eventCount, .obj O.eventLastTime, .obj O.eventLatch,
      .obj O.fabricLodeState, .obj O.hdpStats, .obj O.maintTokenHolder, .obj O.mapResult, .obj O.mapState,
      .obj O.memBankState, .obj O.protPromoteStep, .obj O.protState, .obj O.sysCause, .obj O.sysModeFsn,
      .obj O.sysResume, .obj O.sysSelftest, .obj O.tallyOvfCount, .part .live, .part .sys, .part .map, .part .prot,
      .part .mem, .part .mtx, .part .fw, .part .asy]) :
    (State.selftestDone s failed lodes).see z = s.see z := by
  simp only [notMem_cons, notMem_nil, and_true] at h
  simp only [State.selftestDone]; simp [↓ite_see, h]

@[simp] theorem State.restoreItem_see (s : State) (x : Nat × Nat × Nat) {z : Part}
    (h : z ∉ [.live, .sys, .link, .linkq, .rx, .map, .grp, .prot, .wit, .ref, .tim, .mem, .mtx, .fw, .asy]) :
    (State.restoreItem s x).see (.part z) = s.see (.part z) := by
  simp only [notMem_cons, notMem_nil, and_true] at h
  simp only [State.restoreItem]; simp [↓see_mk_part, ↓ite_see, h]

@[simp] theorem State.restoreObjects_see (s : State) (g : List Byte) (want : Nat → Bool) {z : Part}
    (h : z ∉ [.live, .sys, .link, .linkq, .rx, .map, .grp, .prot, .wit, .ref, .tim, .mem, .mtx, .fw, .asy]) :
    (State.restoreObjects s g want).see (.part z) = s.see (.part z) := by
  simp only [notMem_cons, notMem_nil, and_true] at h
  simp only [State.restoreObjects]; simp [h]

@[simp] theorem State.restoreMap_see (s : State) (m : List Byte) {z : Part} :
    (State.restoreMap s m).see (.part z) = s.see (.part z) := by
  simp only [State.restoreMap]; simp

@[simp] theorem State.restoreGroup_see (s : State) (o : Obj) (g : List Byte) (at_ : Nat) {z : Part} :
    (State.restoreGroup s o g at_).see (.part z) = s.see (.part z) := by
  simp only [State.restoreGroup]; simp

@[simp] theorem State.restoreGroups_see (s : State) (g : List Byte) {z : Part} (h : z ∉ [.grp]) :
    (State.restoreGroups s g).see (.part z) = s.see (.part z) := by
  simp only [notMem_cons, notMem_nil, and_true] at h
  simp only [State.restoreGroups]; simp [↓ite_see, h]

@[simp] theorem State.replay_see (s : State) (cut : Nat) {z : Part}
    (h : z ∉ [.live, .sys, .link, .linkq, .rx, .map, .grp, .prot, .wit, .ref, .tim, .mem, .mtx, .fw, .asy]) :
    (State.replay s cut).see (.part z) = s.see (.part z) := by
  simp only [notMem_cons, notMem_nil, and_true] at h
  unfold State.replay; refine foldl_see _ _ _ fun a x => ?_; (repeat' split) <;> simp [h]

@[simp] theorem State.restoreFail_see (s : State) {z : View}
    (h : z.place ∉ [.obj O.eventCount, .obj O.eventLastTime, .obj O.eventLatch, .obj O.hdpStats,
      .obj O.maintTokenHolder, .obj O.protPromoteStep, .obj O.protState, .obj O.sysCause, .obj O.sysModeFsn,
      .obj O.sysResume, .part .sys, .part .prot, .part .mem, .part .fw]) :
    (State.restoreFail s).see z = s.see z := by
  simp only [notMem_cons, notMem_nil, and_true] at h
  simp only [State.restoreFail]; simp [h]

@[simp] theorem State.restoreRequest_see (s : State) {z : View}
    (h : z.place ∉ [.obj O.eventCount, .obj O.eventLastTime, .obj O.eventLatch, .obj O.hdpStats,
      .obj O.maintTokenHolder, .obj O.maintTokenSince, .obj O.mapResult, .obj O.mapState, .obj O.protPromoteStep,
      .obj O.protState, .obj O.sysCause, .obj O.sysModeFsn, .obj O.sysResume, .part .sys, .part .map, .part .prot,
      .part .mem, .part .fw]) :
    (State.restoreRequest s).see z = s.see z := by
  simp only [notMem_cons, notMem_nil, and_true] at h
  simp only [State.restoreRequest]; simp [↓see_mk, ↓ite_see, h]

@[simp] theorem State.restoreBegin_see (s : State) {z : Part}
    (h : z ∉ [.live, .sys, .link, .linkq, .rx, .map, .grp, .prot, .wit, .ref, .tim, .mem, .mtx, .fw, .asy]) :
    (State.restoreBegin s).see (.part z) = s.see (.part z) := by
  simp only [notMem_cons, notMem_nil, and_true] at h
  simp only [State.restoreBegin]; (repeat' split) <;> simp [↓see_mk_part, h]

@[simp] theorem State.restoreTake_see (s : State) (h0 : Nat) (d : Nat) {z : View}
    (h : z.place ∉ [.obj O.eventCount, .obj O.eventLastTime, .obj O.eventLatch, .obj O.hdpStats,
      .obj O.maintTokenHolder, .obj O.maintTokenSince, .part .sys]) :
    (State.restoreTake s h0 d).see z = s.see z := by
  simp only [notMem_cons, notMem_nil, and_true] at h
  simp only [State.restoreTake]; simp [↓see_mk, ↓ite_see, h]

@[simp] theorem State.enterRestore_see (s : State) (h0 : Nat) {z : Part}
    (h : z ∉ [.live, .sys, .link, .linkq, .rx, .map, .grp, .prot, .wit, .ref, .tim, .mem, .mtx, .fw, .asy]) :
    (State.enterRestore s h0).see (.part z) = s.see (.part z) := by
  simp only [notMem_cons, notMem_nil, and_true] at h
  simp only [State.enterRestore]; simp [↓see_mk_part, h]

@[simp] theorem State.restoreCheck_see (s : State) {z : Part}
    (h : z ∉ [.live, .sys, .link, .linkq, .rx, .map, .grp, .prot, .wit, .ref, .tim, .mem, .mtx, .fw, .asy]) :
    (State.restoreCheck s).see (.part z) = s.see (.part z) := by
  simp only [notMem_cons, notMem_nil, and_true] at h
  simp only [State.restoreCheck]; simp [↓see_mk_part, ↓ite_see, h]

@[simp] theorem State.attested_see (s : State) (k : Nat) {z : Part}
    (h : z ∉ [.live, .sys, .link, .linkq, .rx, .map, .grp, .prot, .wit, .ref, .tim, .mem, .mtx, .fw, .asy]) :
    (State.attested s k).see (.part z) = s.see (.part z) := by
  simp only [notMem_cons, notMem_nil, and_true] at h
  simp only [State.attested]; (repeat' split) <;> simp [↓see_mk_part, ↓ite_see, h]

@[simp] theorem State.attestDone_see (s : State) {z : Part}
    (h : z ∉ [.live, .sys, .link, .linkq, .rx, .map, .grp, .prot, .wit, .ref, .tim, .mem, .mtx, .fw, .asy]) :
    (State.attestDone s).see (.part z) = s.see (.part z) := by
  simp only [notMem_cons, notMem_nil, and_true] at h
  simp only [State.attestDone]; simp [↓ite_see, h]

@[simp] theorem reqStageOp_see (s : State) {z : View}
    (h : z.place ∉ [.obj O.eventCount, .obj O.eventLastTime, .obj O.eventLatch, .obj O.hdpStats, .obj O.protState,
      .obj O.sysModeFsn, .obj O.sysSelftest, .part .sys]) :
    (reqStageOp s).1.see z = s.see z := by
  simp only [notMem_cons, notMem_nil, and_true] at h
  simp only [reqStageOp]; simp [↓ite_see, h]

@[simp] theorem reqRestoreOp_see (h0 : Nat) (s : State) {z : Part}
    (h : z ∉ [.live, .sys, .link, .linkq, .rx, .map, .grp, .prot, .wit, .ref, .tim, .mem, .mtx, .fw, .asy]) :
    (reqRestoreOp h0 s).1.see (.part z) = s.see (.part z) := by
  simp only [notMem_cons, notMem_nil, and_true] at h
  simp only [reqRestoreOp]; simp [↓ite_see, h]

@[simp] theorem reqServiceOp_see (h0 : Nat) (s : State) {z : View}
    (h : z.place ∉ [.obj O.eventCount, .obj O.eventLastTime, .obj O.eventLatch, .obj O.hdpStats,
      .obj O.maintTokenHolder, .obj O.maintTokenSince, .obj O.mapResult, .obj O.mapState, .part .sys, .part .map,
      .part .mem]) :
    (reqServiceOp h0 s).1.see z = s.see z := by
  simp only [notMem_cons, notMem_nil, and_true] at h
  simp only [reqServiceOp]; simp [↓see_mk, ↓ite_see, h]

@[simp] theorem reqIsolateOp_see (s : State) {z : View} (h : z.place ∉ [.part .sys]) :
    (reqIsolateOp s).1.see z = s.see z := by
  simp only [notMem_cons, notMem_nil, and_true] at h
  simp only [reqIsolateOp]; simp [↓see_mk, ↓ite_see, h]

@[simp] theorem State.isolateEntry_see (s : State) {z : View}
    (h : z.place ∉ [.obj O.eventCount, .obj O.eventLastTime, .obj O.eventLatch, .obj O.hdpStats, .obj O.protState,
      .obj O.sysModeFsn, .part .sys]) :
    (State.isolateEntry s).see z = s.see z := by
  simp only [notMem_cons, notMem_nil, and_true] at h
  simp only [State.isolateEntry]; simp [↓see_mk, ↓ite_see, h]

@[simp] theorem reqQuarantineOp_see (s : State) {z : View}
    (h : z.place ∉ [.obj O.eventCount, .obj O.eventLastTime, .obj O.eventLatch, .obj O.hdpStats,
      .obj O.maintTokenHolder, .obj O.mapResult, .obj O.mapState, .obj O.memBankState, .obj O.protPromoteStep,
      .obj O.protState, .obj O.sysCause, .obj O.sysModeFsn, .obj O.sysResume, .obj O.tallyOvfCount, .part .sys,
      .part .map, .part .prot, .part .mem, .part .mtx, .part .fw]) :
    (reqQuarantineOp s).1.see z = s.see z := by
  simp only [notMem_cons, notMem_nil, and_true] at h
  simp only [reqQuarantineOp]; simp [↓ite_see, h]

@[simp] theorem reqDormantOp_see (s : State) {z : View}
    (h : z.place ∉ [.obj O.eventCount, .obj O.eventLastTime, .obj O.eventLatch, .obj O.hdpStats,
      .obj O.maintTokenHolder, .obj O.mapResult, .obj O.mapState, .obj O.memBankState, .obj O.protPromoteStep,
      .obj O.protState, .obj O.sysCause, .obj O.sysModeFsn, .obj O.sysResume, .obj O.tallyOvfCount, .part .sys,
      .part .map, .part .prot, .part .mem, .part .mtx, .part .fw]) :
    (reqDormantOp s).1.see z = s.see z := by
  simp only [notMem_cons, notMem_nil, and_true] at h
  simp only [reqDormantOp]; simp [↓see_mk, ↓ite_see, h]

@[simp] theorem modeOp_see (h0 : Nat) (v : Nat) (s : State) {z : Part}
    (h : z ∉ [.live, .sys, .link, .linkq, .rx, .map, .grp, .prot, .wit, .ref, .tim, .mem, .mtx, .fw, .asy]) :
    (modeOp h0 v s).1.see (.part z) = s.see (.part z) := by
  simp only [notMem_cons, notMem_nil, and_true] at h
  simp only [modeOp]; simp [↓ite_see, h]

@[simp] theorem State.writeModeReq_see (s : State) (w : Who) (v : Nat) {z : Part}
    (h : z ∉ [.live, .sys, .link, .linkq, .rx, .map, .grp, .prot, .wit, .ref, .tim, .mem, .mtx, .fw, .asy]) :
    (State.writeModeReq s w v).see (.part z) = s.see (.part z) := by
  simp only [notMem_cons, notMem_nil, and_true] at h
  simp only [State.writeModeReq]; simp [h]

@[simp] theorem promoteOp_see (h0 : Nat) (v : Nat) (s : State) {z : Part}
    (h : z ∉ [.live, .sys, .link, .linkq, .rx, .map, .grp, .prot, .wit, .ref, .tim, .mem, .mtx, .fw, .asy]) :
    (promoteOp h0 v s).1.see (.part z) = s.see (.part z) := by
  simp only [notMem_cons, notMem_nil, and_true] at h
  simp only [promoteOp]; simp [↓see_mk_part, ↓ite_see, h]

@[simp] theorem State.promotionRestore_see (s : State) {z : Part}
    (h : z ∉ [.live, .sys, .link, .linkq, .rx, .map, .grp, .prot, .wit, .ref, .tim, .mem, .mtx, .fw, .asy]) :
    (State.promotionRestore s).see (.part z) = s.see (.part z) := by
  simp only [notMem_cons, notMem_nil, and_true] at h
  simp only [State.promotionRestore]; simp [↓ite_see, h]

@[simp] theorem State.promoteFrame_see (s : State) {z : View}
    (h : z.place ∉ [.obj O.eventCount, .obj O.eventLastTime, .obj O.eventLatch, .obj O.hdpStats,
      .obj O.protPromoteStep, .part .sys]) :
    (State.promoteFrame s).see z = s.see z := by
  simp only [notMem_cons, notMem_nil, and_true] at h
  simp only [State.promoteFrame]; simp [↓see_mk, ↓ite_see, h]

@[simp] theorem State.warmHealth_see (s : State) {z : View}
    (h : z.place ∉ [.obj O.eventCount, .obj O.eventLastTime, .obj O.eventLatch, .obj O.hdpStats,
      .obj O.protWarmHealth, .part .prot]) :
    (State.warmHealth s).see z = s.see z := by
  simp only [notMem_cons, notMem_nil, and_true] at h
  simp only [State.warmHealth]; simp [↓see_mk, ↓ite_see, h]

@[simp] theorem State.bootEnd_see (s : State) {z : View}
    (h : z.place ∉ [.obj O.eventCount, .obj O.eventLastTime, .obj O.eventLatch, .obj O.hdpStats,
      .obj O.ledgerRxJournalState, .obj O.ledgerSlotState, .obj O.protPromoteStep, .obj O.protState,
      .obj O.secLeafNext, .obj O.secReservations, .obj O.sysModeFsn, .obj O.sysSelftest, .part .sys]) :
    (State.bootEnd s).see z = s.see z := by
  simp only [notMem_cons, notMem_nil, and_true] at h
  simp only [State.bootEnd]; simp [↓see_mk, ↓ite_see, h]

@[simp] theorem State.flashProbe_see (s : State) {z : View}
    (h : z.place ∉ [.obj O.eventCount, .obj O.eventLastTime, .obj O.eventLatch, .obj O.hdpStats]) :
    (State.flashProbe s).see z = s.see z := by
  simp only [notMem_cons, notMem_nil, and_true] at h
  simp only [State.flashProbe]; simp [↓ite_see, h]

@[simp] theorem State.bootComplete_see (s : State) {z : View}
    (h : z.place ∉ [.obj O.eventCount, .obj O.eventLastTime, .obj O.eventLatch, .obj O.fwBootState,
      .obj O.fwRunning, .obj O.fwSlotState, .obj O.fwSlotVersion, .obj O.fwTrialLeft, .obj O.fwUpdateState,
      .obj O.hdpStats, .obj O.identFwVersion, .obj O.ledgerRxJournalState, .obj O.ledgerSlotState,
      .obj O.maintTokenHolder, .obj O.maintTokenSince, .obj O.protPromoteStep, .obj O.protState,
      .obj O.secLeafNext, .obj O.secReservations, .obj O.sysCause, .obj O.sysModeFsn, .obj O.sysResume,
      .obj O.sysSelftest, .part .sys, .part .mem, .part .fw]) :
    (State.bootComplete s).see z = s.see z := by
  simp only [notMem_cons, notMem_nil, and_true] at h
  simp only [State.bootComplete]; simp [↓see_mk, ↓ite_see, h]

@[simp] theorem State.sessionsDropped_see (s : State) {z : View} :
    (State.sessionsDropped s).see z = s.see z := by
  simp only [State.sessionsDropped]; simp [↓see_mk]

@[simp] theorem State.restartDone_see (s : State) {z : Part}
    (h : z ∉ [.live, .sys, .link, .linkq, .rx, .map, .grp, .prot, .wit, .ref, .tim, .mem, .mtx, .fw, .asy]) :
    (State.restartDone s).see (.part z) = s.see (.part z) := by
  simp only [notMem_cons, notMem_nil, and_true] at h
  simp only [State.restartDone]; simp [↓see_mk_part, ↓ite_see, h]

@[simp] theorem State.watchdog_see (s : State) (c : Nat) {z : Part}
    (h : z ∉ [.live, .sys, .link, .linkq, .rx, .map, .grp, .prot, .wit, .ref, .tim, .mem, .mtx, .fw, .asy]) :
    (State.watchdog s c).see (.part z) = s.see (.part z) := by
  simp only [notMem_cons, notMem_nil, and_true] at h
  simp only [State.watchdog]; simp [↓ite_see, h]

@[simp] theorem cutReqOp_see (h0 : Nat) (s : State) {z : View}
    (h : z.place ∉ [.obj O.eventCount, .obj O.eventLastTime, .obj O.eventLatch, .obj O.hdpStats,
      .obj O.ledgerExportState, .obj O.maintTokenHolder, .obj O.maintTokenSince, .obj O.mapResult, .obj O.mapState,
      .obj O.protPromoteStep, .obj O.protState, .obj O.sysCause, .obj O.sysModeFsn, .obj O.sysResume, .part .sys,
      .part .map, .part .prot, .part .mem, .part .fw]) :
    (cutReqOp h0 s).1.see z = s.see z := by
  simp only [notMem_cons, notMem_nil, and_true] at h
  simp only [cutReqOp]; simp [↓ite_see, h]

@[simp] theorem State.writePromote_see (s : State) (w : Who) (v : Nat) {z : Part}
    (h : z ∉ [.live, .sys, .link, .linkq, .rx, .map, .grp, .prot, .wit, .ref, .tim, .mem, .mtx, .fw, .asy]) :
    (State.writePromote s w v).see (.part z) = s.see (.part z) := by
  simp only [notMem_cons, notMem_nil, and_true] at h
  simp only [State.writePromote]; simp [h]

@[simp] theorem State.writeCutReq_see (s : State) (w : Who) (v : Nat) {z : View}
    (h : z.place ∉ [.obj O.dictLastRefusal, .obj O.eventCount, .obj O.eventLastTime, .obj O.eventLatch,
      .obj O.hdpStats, .obj O.ledgerExportState, .obj O.ledgerJournalSeq, .obj O.maintTokenHolder,
      .obj O.maintTokenSince, .obj O.mapResult, .obj O.mapState, .obj O.protPromoteStep, .obj O.protState,
      .obj O.sysCause, .obj O.sysModeFsn, .obj O.sysResume, .part .sys, .part .map, .part .prot, .part .mem,
      .part .fw]) :
    (State.writeCutReq s w v).see z = s.see z := by
  simp only [notMem_cons, notMem_nil, and_true] at h
  simp only [State.writeCutReq]; simp [h]

/-! ### Machine/Access.lean -/

@[simp] theorem tokenTakeOp_see (h0 : Nat) (v : Nat) (s : State) {z : View}
    (h : z.place ∉ [.obj O.eventCount, .obj O.eventLastTime, .obj O.eventLatch, .obj O.hdpStats,
      .obj O.maintTokenHolder, .obj O.maintTokenSince]) :
    (tokenTakeOp h0 v s).1.see z = s.see z := by
  simp only [notMem_cons, notMem_nil, and_true] at h
  simp only [tokenTakeOp]; simp [↓see_mk, ↓ite_see, h]

@[simp] theorem State.tokBack_see (s : State) (h0 : Nat) (d : Nat) {z : View}
    (h : z.place ∉ [.obj O.eventCount, .obj O.eventLastTime, .obj O.eventLatch, .obj O.hdpStats,
      .obj O.maintTokenHolder]) :
    (State.tokBack s h0 d).see z = s.see z := by
  simp only [notMem_cons, notMem_nil, and_true] at h
  simp only [State.tokBack]; simp [↓see_mk, ↓ite_see, h]

@[simp] theorem tokenReleaseOp_see (h0 : Nat) (v : Nat) (s : State) {z : View}
    (h : z.place ∉ [.obj O.eventCount, .obj O.eventLastTime, .obj O.eventLatch, .obj O.hdpStats,
      .obj O.maintTokenHolder]) :
    (tokenReleaseOp h0 v s).1.see z = s.see z := by
  simp only [notMem_cons, notMem_nil, and_true] at h
  simp only [tokenReleaseOp]; simp [h]

@[simp] theorem State.tempRead_see (s : State) (idx : Nat) {z : View} (h : z.place ∉ [.obj O.powerTjMax]) :
    (State.tempRead s idx).1.see z = s.see z := by
  simp only [notMem_cons, notMem_nil, and_true] at h
  simp only [State.tempRead]; simp [h]

@[simp] theorem State.setLog_see (s : State) (idx : Nat) (l : List Nat) {z : View}
    (h : z.place ∉ [.part .tim, .part .mem, .part .mtx, .part .asy]) :
    (State.setLog s idx l).see z = s.see z := by
  simp only [notMem_cons, notMem_nil, and_true] at h
  simp only [State.setLog]; simp [↓see_mk, ↓ite_see, h]

@[simp] theorem State.readElem_see (s : State) (o : Obj) (e : Nat) (live : Bool) {z : Part}
    (h : z ∉ [.live, .linkq, .grp, .mem, .asy]) :
    (State.readElem s o e live).1.see (.part z) = s.see (.part z) := by
  simp only [notMem_cons, notMem_nil, and_true] at h
  simp only [State.readElem]; simp [↓ite_see, h]

@[simp] theorem State.readRange_see (s : State) (o : Obj) (t : Tgt) (k : Nat) (n : Nat) (live : Bool) {z : Part}
    (h : z ∉ [.live, .linkq, .grp, .tim, .mem, .mtx, .asy]) :
    (State.readRange s o t k n live).1.see (.part z) = s.see (.part z) := by
  simp only [notMem_cons, notMem_nil, and_true] at h
  simp only [State.readRange]; split <;> simp [↓ite_see, h]

@[simp] theorem State.readEntry_see (s : State) (w : Who) (t : Tgt) (k : Nat) (n : Nat) (live : Bool) {z : Part}
    (h : z ∉ [.live, .linkq, .grp, .tim, .mem, .mtx, .asy]) :
    (State.readEntry s w t k n live).see (.part z) = s.see (.part z) := by
  simp only [notMem_cons, notMem_nil, and_true] at h
  simp only [State.readEntry]; (repeat' split) <;> simp [h]

@[simp] theorem State.describe_see (s : State) (w : Who) (t : Tgt) (k : Nat) (v : List Byte) {z : View} :
    (State.describe s w t k v).see z = s.see z := by
  simp only [State.describe]; (repeat' split) <;> simp

@[simp] theorem State.sessionDrop_see (s : State) (k : Nat) {z : View}
    (h : z.place ∉ [.obj O.eventCount, .obj O.eventLastTime, .obj O.eventLatch, .obj O.hdpStats,
      .obj O.maintTokenHolder]) :
    (State.sessionDrop s k).see z = s.see z := by
  simp only [notMem_cons, notMem_nil, and_true] at h
  simp only [State.sessionDrop]; simp [↓see_mk, h]

@[simp] theorem secKeyOp_see (k : Nat) (key : List Byte) (s : State) {z : View}
    (h : z.place ∉ [.obj O.eventCount, .obj O.eventLastTime, .obj O.eventLatch, .obj O.hdpStats,
      .obj O.maintTokenHolder, .obj O.secKeyState]) :
    (secKeyOp k key s).1.see z = s.see z := by
  simp only [notMem_cons, notMem_nil, and_true] at h
  simp only [secKeyOp]; simp [↓ite_see, h]

@[simp] theorem State.writeTokenTake_see (s : State) (w : Who) (v : Nat) {z : View}
    (h : z.place ∉ [.obj O.dictLastRefusal, .obj O.eventCount, .obj O.eventLastTime, .obj O.eventLatch,
      .obj O.hdpStats, .obj O.ledgerJournalSeq, .obj O.maintTokenHolder, .obj O.maintTokenSince]) :
    (State.writeTokenTake s w v).see z = s.see z := by
  simp only [notMem_cons, notMem_nil, and_true] at h
  simp only [State.writeTokenTake]; simp [h]

@[simp] theorem State.writeTokenRelease_see (s : State) (w : Who) (v : Nat) {z : View}
    (h : z.place ∉ [.obj O.dictLastRefusal, .obj O.eventCount, .obj O.eventLastTime, .obj O.eventLatch,
      .obj O.hdpStats, .obj O.ledgerJournalSeq, .obj O.maintTokenHolder]) :
    (State.writeTokenRelease s w v).see z = s.see z := by
  simp only [notMem_cons, notMem_nil, and_true] at h
  simp only [State.writeTokenRelease]; simp [h]

@[simp] theorem State.writeSecKey_see (s : State) (w : Who) (k : Nat) (key : List Byte) {z : View}
    (h : z.place ∉ [.obj O.dictLastRefusal, .obj O.eventCount, .obj O.eventLastTime, .obj O.eventLatch,
      .obj O.hdpStats, .obj O.maintTokenHolder, .obj O.secKeyState]) :
    (State.writeSecKey s w k key).see z = s.see z := by
  simp only [notMem_cons, notMem_nil, and_true] at h
  simp only [State.writeSecKey]; simp [h]

@[simp] theorem State.writeCommit48_see (s : State) (w : Who) (v : Nat) {z : View}
    (h : z.place ∉ [.obj O.dictLastRefusal, .obj O.eventCount, .obj O.eventLastTime, .obj O.eventLatch,
      .obj O.hdpStats, .obj O.ledgerJournalSeq, .obj O.maintTokenHolder, .obj O.maintTokenSince, .obj O.mapResult,
      .obj O.mapState, .part .map, .part .mem]) :
    (State.writeCommit48 s w v).see z = s.see z := by
  simp only [notMem_cons, notMem_nil, and_true] at h
  simp only [State.writeCommit48]; simp [↓ite_see, h]

@[simp] theorem State.preset_see (s : State) (o : Obj) (t : Tgt) (k : Nat) (n : Nat) (v : Nat → Nat) {z : Part} :
    (State.preset s o t k n v).see (.part z) = s.see (.part z) := by
  simp only [State.preset]; simp

/-! ### Machine/Frame.lean -/

@[simp] theorem State.sendLane_see (s : State) (p : Nat) {z : View} (h : z.place ∉ [.part .linkq]) :
    (State.sendLane s p).see z = s.see z := by
  simp only [notMem_cons, notMem_nil, and_true] at h
  simp only [State.sendLane]; simp [h]

@[simp] theorem State.channelEnd_see (s : State) (p : Nat) {z : View}
    (h : z.place ∉ [.obj O.eventCount, .obj O.eventLastTime, .obj O.eventLatch, .obj O.hdpStats,
      .obj O.timeTcStats, .part .link, .part .tim]) :
    (State.channelEnd s p).see z = s.see z := by
  simp only [notMem_cons, notMem_nil, and_true] at h
  simp only [State.channelEnd]; simp [↓ite_see, h]

@[simp] theorem State.portFrame_see (s : State) (p : Nat) {z : View}
    (h : z.place ∉ [.obj O.eventCount, .obj O.eventLastTime, .obj O.eventLatch, .obj O.hdpStats,
      .obj O.portNegState, .obj O.portVersion, .obj O.tallyOvfCount, .obj O.timeTcStats, .part .link, .part .linkq,
      .part .tim]) :
    (State.portFrame s p).see z = s.see z := by
  simp only [notMem_cons, notMem_nil, and_true] at h
  simp only [State.portFrame]; simp [↓ite_see, h]

@[simp] theorem State.forceFrame_see (s : State) {z : View} (h : z.place ∉ [.part .live]) :
    (State.forceFrame s).see z = s.see z := by
  simp only [notMem_cons, notMem_nil, and_true] at h
  simp only [State.forceFrame]; simp [h]

@[simp] theorem State.esFrame_see (s : State) {z : View} (h : z.place ∉ [.obj O.grainEsFill, .part .rx]) :
    (State.esFrame s).see z = s.see z := by
  simp only [notMem_cons, notMem_nil, and_true] at h
  simp only [State.esFrame]; simp [↓ite_see, h]

@[simp] theorem State.islandFrame_see (s : State) {z : View}
    (h : z.place ∉ [.obj O.assayActive, .obj O.assayDropped, .obj O.assayErrors, .obj O.assayQueueLen,
      .obj O.assayTestResult, .obj O.eventCount, .obj O.eventLastTime, .obj O.eventLatch, .obj O.grainEsFill,
      .obj O.groupMode, .obj O.groupTarget, .obj O.hdpStats, .obj O.ledgerExportState, .obj O.maintTokenHolder,
      .obj O.maintTokenSince, .obj O.memDdrFillLeft, .obj O.portNegState, .obj O.portVersion,
      .obj O.protDigestStats, .obj O.protFlags, .obj O.protPortFaulted, .obj O.protState, .obj O.tallyOvfCount,
      .obj O.timeTcStats, .part .live, .part .link, .part .linkq, .part .rx, .part .fab, .part .grp, .part .prot,
      .part .wit, .part .tim, .part .mem, .part .mtx, .part .asy]) :
    (State.islandFrame s).see z = s.see z := by
  simp only [notMem_cons, notMem_nil, and_true] at h
  simp only [State.islandFrame]; simp [↓see_mk, h]

@[simp] theorem State.bringLive_see (s : State) {z : View} (h : z.place ∉ [.part .live]) :
    (State.bringLive s).see z = s.see z := by
  simp only [notMem_cons, notMem_nil, and_true] at h
  simp only [State.bringLive]; simp [↓see_mk, h]

@[simp] theorem State.clearCtxLines_see (s : State) {z : View} (h : z.place ∉ [.obj O.groupLineCtx]) :
    (State.clearCtxLines s).see z = s.see z := by
  simp only [notMem_cons, notMem_nil, and_true] at h
  simp only [State.clearCtxLines]; simp [↓ite_see, h]

@[simp] theorem State.groupBoundary_see (s : State) (old : State) {z : View}
    (h : z.place ∉ [.obj O.eventCount, .obj O.eventLastTime, .obj O.eventLatch, .obj O.groupLineChanged,
      .obj O.groupLineLateness, .obj O.groupLineSlack, .obj O.groupLineState, .obj O.groupMode, .obj O.groupOffset,
      .obj O.groupTarget, .obj O.hdpStats, .part .live, .part .grp]) :
    (State.groupBoundary s old).see z = s.see z := by
  simp only [notMem_cons, notMem_nil, and_true] at h
  simp only [State.groupBoundary]; simp [↓see_mk, h]

@[simp] theorem State.resize_see (s : State) (m : Nat) (was : Nat) {z : View}
    (h : z.place ∉ [.obj O.eventCount, .obj O.eventLastTime, .obj O.eventLatch, .obj O.grainChanged,
      .obj O.grainRxState, .obj O.hdpStats, .part .rx, .part .fab, .part .prot]) :
    (State.resize s m was).see z = s.see z := by
  simp only [notMem_cons, notMem_nil, and_true] at h
  simp only [State.resize]; simp [↓see_mk, h]

@[simp] theorem State.streamsMoved_see (s : State) (old : List Nat) {z : View}
    (h : z.place ∉ [.obj O.eventCount, .obj O.eventLastTime, .obj O.eventLatch, .obj O.hdpStats, .obj O.protFlags,
      .obj O.witnessStreamState, .part .prot, .part .wit]) :
    (State.streamsMoved s old).see z = s.see z := by
  simp only [notMem_cons, notMem_nil, and_true] at h
  simp only [State.streamsMoved]; simp [↓ite_see, h]

@[simp] theorem State.stopsDue_see (s : State) {z : View}
    (h : z.place ∉ [.obj O.eventCount, .obj O.eventLastTime, .obj O.eventLatch, .obj O.grainChanged,
      .obj O.grainRxState, .obj O.hdpStats, .obj O.maintTokenHolder, .obj O.portAlignState, .obj O.portNegState,
      .obj O.portVersion, .obj O.protFlags, .obj O.refTied, .obj O.tallyOvfCount, .obj O.timeGridResidual,
      .obj O.timeTcStats, .obj O.witnessStreamState, .part .link, .part .linkq, .part .rx, .part .prot, .part .wit,
      .part .ref, .part .tim]) :
    (State.stopsDue s).see z = s.see z := by
  simp only [notMem_cons, notMem_nil, and_true] at h
  simp only [State.stopsDue]; simp [↓ite_see, h]

@[simp] theorem State.mapBoundary_see (s : State) (size : Nat → Bool) {z : Part}
    (h : z ∉ [.fab, .map, .grp, .prot, .mtx]) :
    (State.mapBoundary s size).see (.part z) = s.see (.part z) := by
  simp only [notMem_cons, notMem_nil, and_true] at h
  simp only [State.mapBoundary]; simp [↓see_mk_part, h]

@[simp] theorem State.mapFigures_see (s : State) {z : View}
    (h : z.place ∉ [.obj O.eventCount, .obj O.eventLastTime, .obj O.eventLatch, .obj O.fabricBranchIn,
      .obj O.fabricBranchOut, .obj O.fabricCapacity, .obj O.fabricExcess, .obj O.hdpStats, .obj O.mapUnplaced]) :
    (State.mapFigures s).see z = s.see z := by
  simp only [notMem_cons, notMem_nil, and_true] at h
  simp only [State.mapFigures]; simp [↓ite_see, h]

@[simp] theorem State.journalBoundary_see (s : State) (was : List (Nat × Nat)) (due : List (Nat × Nat)) {z : View}
    (h : z.place ∉ [.obj O.eventCount, .obj O.eventLastTime, .obj O.eventLatch, .obj O.hdpStats,
      .obj O.ledgerJournalSeq]) :
    (State.journalBoundary s was due).see z = s.see z := by
  simp only [notMem_cons, notMem_nil, and_true] at h
  simp only [State.journalBoundary]; simp [h]

@[simp] theorem State.serviceBoundary_see (s : State) {z : View}
    (h : z.place ∉ [.obj O.eventCount, .obj O.eventLastTime, .obj O.eventLatch, .obj O.hdpStats,
      .obj O.maintTokenHolder, .obj O.protFlags, .obj O.protFromTsn, .obj O.protPref, .obj O.protPromoteStep,
      .obj O.protState, .obj O.sysModeFsn, .obj O.sysResume, .part .sys, .part .linkq, .part .prot, .part .mem,
      .part .fw]) :
    (State.serviceBoundary s).see z = s.see z := by
  simp only [notMem_cons, notMem_nil, and_true] at h
  simp only [State.serviceBoundary]; simp [↓see_mk, ↓ite_see, h]

@[simp] theorem State.boundary_see (s : State) {z : Part}
    (h : z ∉ [.live, .sys, .link, .linkq, .rx, .fab, .map, .grp, .prot, .wit, .ref, .tim, .mem, .mtx, .fw]) :
    (State.boundary s).see (.part z) = s.see (.part z) := by
  simp only [notMem_cons, notMem_nil, and_true] at h
  unfold State.boundary
  extract_lets s1 due held old s2 s3 _src s4 sizes s5 s6 s7 s8 s9 s10 s11 s12
  have h3 : s3.see (.part z) = s.see (.part z) := by
    simp only [s3, s2, s1]; rw [foldl_see _ _ _ fun a x => by simp [h]]; simp [h]
  have h5 : s5.see (.part z) = s.see (.part z) := by
    simp only [s5]; rw [foldl_see _ _ _ fun a x => by simp [h]]; simpa [s4, ↓see_mk_part, h] using h3
  have h12 : s12.see (.part z) = s.see (.part z) := by simp only [s12, s11, s10, s9, s8, s7, s6]; simp
    [h5, h]
  clear_value s12
  simpa [↓see_mk_part, h] using h12

@[simp] theorem State.commitBoundary_see (s : State) {z : Part}
    (h : z ∉ [.live, .sys, .link, .linkq, .rx, .fab, .map, .grp, .prot, .wit, .ref, .tim, .mem, .mtx, .fw]) :
    (State.commitBoundary s).see (.part z) = s.see (.part z) := by
  simp only [notMem_cons, notMem_nil, and_true] at h
  simp only [State.commitBoundary]; simp [↓ite_see, h]

@[simp] theorem State.frameStart_see (s : State) (phase : List (Nat × Int)) {z : Part}
    (h : z ∉ [.live, .clk, .sys, .link, .linkq, .rx, .fab, .map, .grp, .prot, .wit, .ref, .tim, .mem, .mtx, .fw,
      .asy]) :
    (State.frameStart s phase).see (.part z) = s.see (.part z) := by
  simp only [notMem_cons, notMem_nil, and_true] at h
  simp only [State.frameStart]; simp [↓see_mk_part, ↓ite_see, h]

@[simp] theorem State.drained_see (s : State) {z : View}
    (h : z.place ∉ [.obj O.eventCount, .obj O.eventLastTime, .obj O.eventLatch, .obj O.hdpStats,
      .obj O.maintTokenHolder, .obj O.maintTokenSince, .obj O.mapEpoch, .obj O.mapLiveFsn, .obj O.mapResult,
      .obj O.mapState, .part .map, .part .mem]) :
    (State.drained s).see z = s.see z := by
  simp only [notMem_cons, notMem_nil, and_true] at h
  simp only [State.drained]; simp [↓see_mk, ↓ite_see, h]

/-! ### Machine/HDP.lean -/

@[simp] theorem State.hdpStat_see (s : State) (k : Nat) (n : Nat) {z : View} (h : z.place ∉ [.obj O.hdpStats]) :
    (State.hdpStat s k n).see z = s.see z := by
  simp only [notMem_cons, notMem_nil, and_true] at h
  simp only [State.hdpStat]; simp [h]

@[simp] theorem State.respond_see (s : State) (port : Nat) (enc : Encap) (key : List Byte) (r : Hdp) {z : View}
    (h : z.place ∉ [.obj O.hdpStats, .part .tim]) :
    (State.respond s port enc key r).see z = s.see z := by
  simp only [notMem_cons, notMem_nil, and_true] at h
  simp only [State.respond]; simp [↓ite_see, h]

@[simp] theorem State.respondOut_see (s : State) (port : Nat) (enc : Encap) (key : List Byte) (h0 : Hdp) {z : View}
    (h : z.place ∉ [.obj O.hdpStats, .part .tim]) :
    (State.respondOut s port enc key h0).see z = s.see z := by
  simp only [notMem_cons, notMem_nil, and_true] at h
  simp only [State.respondOut]; simp [h]

@[simp] theorem State.discard_see (s : State) (k : Nat) {z : View}
    (h : z.place ∉ [.obj O.eventCount, .obj O.eventLastTime, .obj O.eventLatch, .obj O.hdpStats]) :
    (State.discard s k).see z = s.see z := by
  simp only [notMem_cons, notMem_nil, and_true] at h
  simp only [State.discard]; simp [↓ite_see, h]

@[simp] theorem State.hdpReadOp_see (s : State) (h0 : Hdp) {z : Part}
    (h : z ∉ [.live, .linkq, .grp, .tim, .mem, .mtx, .asy]) :
    (State.hdpReadOp s h0).see (.part z) = s.see (.part z) := by
  simp only [notMem_cons, notMem_nil, and_true] at h
  simp only [State.hdpReadOp]; simp [↓ite_see, h]

@[simp] theorem State.dropBulk_see (s : State) (k : Nat) (x : Nat) {z : View} :
    (State.dropBulk s k x).see z = s.see z := by
  simp only [State.dropBulk]; simp [↓see_mk]

@[simp] theorem State.putBulk_see (s : State) (b : Bulk) {z : View}
    (h : z.place ∉ [.obj O.assayActive, .obj O.assayDropped, .obj O.assayErrors, .obj O.assayQueueLen,
      .obj O.assayTestResult, .obj O.eventCount, .obj O.eventLastTime, .obj O.eventLatch, .obj O.hdpStats,
      .obj O.protDigestStats, .obj O.protFlags, .obj O.protPortFaulted, .obj O.protState, .obj O.tallyOvfCount,
      .part .linkq, .part .prot, .part .wit, .part .mtx, .part .asy]) :
    (State.putBulk s b).see z = s.see z := by
  simp only [notMem_cons, notMem_nil, and_true] at h
  simp only [State.putBulk]; simp [↓see_mk, h]

@[simp] theorem State.hdpReadBulk_see (s : State) (port : Nat) (enc : Encap) (key : List Byte) (h0 : Hdp) {z : Part}
    (h : z ∉ [.live, .linkq, .grp, .tim, .mem, .mtx, .asy]) :
    (State.hdpReadBulk s port enc key h0).see (.part z) = s.see (.part z) := by
  simp only [notMem_cons, notMem_nil, and_true] at h
  simp only [State.hdpReadBulk]; (repeat' split) <;> simp [h]

@[simp] theorem State.bulkTimeout_see (s : State) (k : Nat) (x : Nat) {z : View}
    (h : z.place ∉ [.obj O.assayActive, .obj O.assayDropped, .obj O.assayErrors, .obj O.assayQueueLen,
      .obj O.assayTestResult, .obj O.eventCount, .obj O.eventLastTime, .obj O.eventLatch, .obj O.hdpStats,
      .obj O.protDigestStats, .obj O.protFlags, .obj O.protPortFaulted, .obj O.protState, .obj O.tallyOvfCount,
      .part .linkq, .part .prot, .part .wit, .part .mtx, .part .asy]) :
    (State.bulkTimeout s k x).see z = s.see z := by
  simp only [notMem_cons, notMem_nil, and_true] at h
  simp only [State.bulkTimeout]; split <;> simp [↓ite_see]

@[simp] theorem State.hdpSubscribe_see (s : State) (port : Nat) (enc : Encap) (h0 : Hdp) {z : View} :
    (State.hdpSubscribe s port enc h0).see z = s.see z := by
  simp only [State.hdpSubscribe]; simp [↓ite_see]

@[simp] theorem State.hdpCommit_see (s : State) (h0 : Hdp) {z : View}
    (h : z.place ∉ [.obj O.dictLastRefusal, .obj O.eventCount, .obj O.eventLastTime, .obj O.eventLatch,
      .obj O.fwSlotState, .obj O.fwSlotSvn, .obj O.fwSlotVersion, .obj O.fwUpdateState, .obj O.hdpStats,
      .obj O.ledgerJournalSeq, .obj O.maintTokenHolder, .obj O.maintTokenSince, .obj O.mapResult, .obj O.mapState,
      .part .map, .part .mem, .part .fw]) :
    (State.hdpCommit s h0).see z = s.see z := by
  simp only [notMem_cons, notMem_nil, and_true] at h
  simp only [State.hdpCommit]; simp [↓ite_see, h]

@[simp] theorem State.hdpAbort_see (s : State) (h0 : Hdp) {z : View}
    (h : z.place ∉ [.obj O.assayActive, .obj O.assayDropped, .obj O.assayErrors, .obj O.assayQueueLen,
      .obj O.assayTestResult, .obj O.dictLastRefusal, .obj O.eventCount, .obj O.eventLastTime, .obj O.eventLatch,
      .obj O.fwSlotState, .obj O.fwUpdateState, .obj O.hdpStats, .obj O.maintTokenHolder, .obj O.maintTokenSince,
      .obj O.mapResult, .obj O.mapState, .obj O.protDigestStats, .obj O.protFlags, .obj O.protPortFaulted,
      .obj O.protState, .obj O.tallyOvfCount, .part .sys, .part .linkq, .part .map, .part .prot, .part .wit,
      .part .mem, .part .mtx, .part .fw, .part .asy]) :
    (State.hdpAbort s h0).see z = s.see z := by
  simp only [notMem_cons, notMem_nil, and_true] at h
  simp only [State.hdpAbort]; (repeat' split) <;> simp [h]

@[simp] theorem State.accept_see (s : State) (h0 : Hdp) {z : View}
    (h : z.place ∉ [.obj O.hdpSessionSeq, .obj O.hdpStats]) :
    (State.accept s h0).see z = s.see z := by
  simp only [notMem_cons, notMem_nil, and_true] at h
  simp only [State.accept]; simp [h]

@[simp] theorem State.sessionIdle_see (s : State) (k : Nat) {z : View}
    (h : z.place ∉ [.obj O.eventCount, .obj O.eventLastTime, .obj O.eventLatch, .obj O.hdpStats,
      .obj O.maintTokenHolder]) :
    (State.sessionIdle s k).see z = s.see z := by
  simp only [notMem_cons, notMem_nil, and_true] at h
  simp only [State.sessionIdle]; simp [↓ite_see, h]

@[simp] theorem State.notify_see (s : State) (k : Nat) {z : View} (h : z.place ∉ [.obj O.hdpStats, .part .tim]) :
    (State.notify s k).see z = s.see z := by
  simp only [notMem_cons, notMem_nil, and_true] at h
  simp only [State.notify]; simp [↓ite_see, h]

@[simp] theorem State.neighbor_see (s : State) (port : Nat) (target : Nat) {z : View} (h : z.place ∉ [.part .tim]) :
    (State.neighbor s port target).see z = s.see z := by
  simp only [notMem_cons, notMem_nil, and_true] at h
  simp only [State.neighbor]; simp [↓ite_see, h]

@[simp] theorem State.echo_see (s : State) (port : Nat) (target : Nat) (payload : List Byte) {z : View}
    (h : z.place ∉ [.part .tim]) :
    (State.echo s port target payload).see z = s.see z := by
  simp only [notMem_cons, notMem_nil, and_true] at h
  simp only [State.echo]; simp [↓ite_see, h]

/-! ### Machine/Matrix.lean -/

@[simp] theorem refusedEff_see (s : State) (x : Txn) {z : View} :
    (refusedEff s x).s.see z = s.see z := by
  simp [refusedEff]

@[simp] theorem romEff_see (s : State) (x : Txn) {z : View} :
    (romEff s x).s.see z = s.see z := by
  simp [romEff]

@[simp] theorem sramEff_see (s : State) (x : Txn) {z : View}
    (h : z.place ∉ [.obj O.assayActive, .obj O.assayDropped, .obj O.assayErrors, .obj O.assayQueueLen,
      .obj O.assayTestResult, .obj O.eventCount, .obj O.eventLastTime, .obj O.eventLatch, .obj O.hdpStats,
      .obj O.keeperSramCe, .obj O.keeperSramUe, .obj O.tallyOvfCount, .part .linkq, .part .mem, .part .asy]) :
    (sramEff s x).s.see z = s.see z := by
  simp only [notMem_cons, notMem_nil, and_true] at h
  simp only [sramEff]; split_ifs <;> simp [h]

@[simp] theorem State.flashSet_see (s : State) (o : Nat) (b : Byte) {z : View} (h : z.place ∉ [.part .mem]) :
    (State.flashSet s o b).see z = s.see z := by
  simp only [notMem_cons, notMem_nil, and_true] at h
  simp only [State.flashSet]; simp [↓see_mk, ↓ite_see, h]

@[simp] theorem flashCmdEff_see (s : State) (o : Nat) (n : Nat) (d : List Byte) {z : View}
    (h : z.place ∉ [.obj O.eventCount, .obj O.eventLastTime, .obj O.eventLatch, .obj O.flashErrCount,
      .obj O.hdpStats, .part .mem]) :
    (flashCmdEff s o n d).s.see z = s.see z := by
  simp only [notMem_cons, notMem_nil, and_true] at h
  simp only [flashCmdEff]; split_ifs <;> simp [h]

@[simp] theorem flashEff_see (s : State) (x : Txn) {z : View}
    (h : z.place ∉ [.obj O.eventCount, .obj O.eventLastTime, .obj O.eventLatch, .obj O.flashErrCount,
      .obj O.hdpStats, .part .mem]) :
    (flashEff s x).s.see z = s.see z := by
  simp only [notMem_cons, notMem_nil, and_true] at h
  simp only [flashEff]; (repeat' split) <;> simp [h]

@[simp] theorem cryptoEff_see (s : State) (x : Txn) {z : View} :
    (cryptoEff s x).s.see z = s.see z := by
  simp only [cryptoEff]; split_ifs <;> simp

@[simp] theorem bankReadEff_see (s : State) (x : Txn) (b : Nat) {z : View}
    (h : z.place ∉ [.obj O.assayActive, .obj O.assayDropped, .obj O.assayErrors, .obj O.assayQueueLen,
      .obj O.assayTestResult, .obj O.eventCount, .obj O.eventLastTime, .obj O.eventLatch, .obj O.hdpStats,
      .obj O.memBankCe, .obj O.memBankUe, .obj O.tallyOvfCount, .part .linkq, .part .mem, .part .asy]) :
    (bankReadEff s x b).s.see z = s.see z := by
  simp only [notMem_cons, notMem_nil, and_true] at h
  simp only [bankReadEff]; simp [h]

@[simp] theorem bankWriteEff_see (s : State) (x : Txn) (b : Nat) {z : View}
    (h : z.place ∉ [.obj O.assayActive, .obj O.assayDropped, .obj O.assayErrors, .obj O.assayQueueLen,
      .obj O.assayTestResult, .obj O.eventCount, .obj O.eventLastTime, .obj O.eventLatch, .obj O.hdpStats,
      .obj O.memBankCe, .obj O.memBankUe, .obj O.tallyOvfCount, .part .linkq, .part .mem, .part .asy]) :
    (bankWriteEff s x b).s.see z = s.see z := by
  simp only [notMem_cons, notMem_nil, and_true] at h
  simp only [bankWriteEff]; simp [↓ite_see, h]

@[simp] theorem bankAtomicEff_see (s : State) (x : Txn) (b : Nat) {z : View}
    (h : z.place ∉ [.obj O.assayActive, .obj O.assayDropped, .obj O.assayErrors, .obj O.assayQueueLen,
      .obj O.assayTestResult, .obj O.eventCount, .obj O.eventLastTime, .obj O.eventLatch, .obj O.hdpStats,
      .obj O.memBankCe, .obj O.memBankUe, .obj O.tallyOvfCount, .part .linkq, .part .mem, .part .asy]) :
    (bankAtomicEff s x b).s.see z = s.see z := by
  simp only [notMem_cons, notMem_nil, and_true] at h
  simp only [bankAtomicEff]; split_ifs <;> simp [h]

@[simp] theorem bankEff_see (s : State) (x : Txn) {z : View}
    (h : z.place ∉ [.obj O.assayActive, .obj O.assayDropped, .obj O.assayErrors, .obj O.assayQueueLen,
      .obj O.assayTestResult, .obj O.eventCount, .obj O.eventLastTime, .obj O.eventLatch, .obj O.hdpStats,
      .obj O.memBankCe, .obj O.memBankUe, .obj O.memStaleAccess, .obj O.tallyOvfCount, .part .linkq, .part .mem,
      .part .asy]) :
    (bankEff s x).s.see z = s.see z := by
  simp only [notMem_cons, notMem_nil, and_true] at h
  simp only [bankEff]; split_ifs <;> simp [h]

@[simp] theorem ddrEff_see (s : State) (x : Txn) {z : View}
    (h : z.place ∉ [.obj O.assayActive, .obj O.assayDropped, .obj O.assayErrors, .obj O.assayQueueLen,
      .obj O.assayTestResult, .obj O.eventCount, .obj O.eventLastTime, .obj O.eventLatch, .obj O.groupLineChanged,
      .obj O.groupLineState, .obj O.hdpStats, .obj O.memDdrCe, .obj O.memDdrChState, .obj O.memDdrState,
      .obj O.memDdrUe, .obj O.tallyOvfCount, .part .live, .part .linkq, .part .grp, .part .mem, .part .asy]) :
    (ddrEff s x).s.see z = s.see z := by
  simp only [notMem_cons, notMem_nil, and_true] at h
  simp only [ddrEff]; split_ifs <;> simp [h]

@[simp] theorem State.t5ClearSlot_see (s : State) (i : Nat) (e : Nat) (k : Nat) (lo : Nat) (hi : Nat) (v : List
    Byte) {z : Part} :
    (State.t5ClearSlot s i e k lo hi v).see (.part z) = s.see (.part z) := by
  simp only [State.t5ClearSlot]; simp

@[simp] theorem State.t5ReadSlot_see (s : State) (m : Nat) (o : Nat) (lo : Nat) (hi : Nat) {z : Part}
    (h : z ∉ [.live, .linkq, .grp, .tim, .mem, .mtx, .asy]) :
    (State.t5ReadSlot s m o lo hi).1.see (.part z) = s.see (.part z) := by
  simp only [notMem_cons, notMem_nil, and_true] at h
  simp only [State.t5ReadSlot]; (repeat' split) <;> simp [↓see_mk_part, h]

@[simp] theorem State.quiet_see (s : State) (t : State) {z : View} :
    (State.quiet s t).see z = t.see z := by
  simp only [State.quiet]; simp [↓see_mk]

@[simp] theorem t5ReadEff_see (s : State) (x : Txn) {z : Part}
    (h : z ∉ [.live, .linkq, .grp, .tim, .mem, .mtx, .asy]) :
    (t5ReadEff s x).s.see (.part z) = s.see (.part z) := by
  simp only [notMem_cons, notMem_nil, and_true] at h
  unfold t5ReadEff
  extract_lets o sp r
  clear_value o
  have hr : r.1.see (.part z) = s.see (.part z) :=
    foldl_same (fun r : State × List Byte × Bool => r.1.see (.part z)) _ _ _ fun a i => by simp [h]
  clear_value r
  split_ifs <;> simp [hr]

@[simp] theorem State.issue_see (s : State) (m : Nat) (id : Nat) (kind : Nat) (addr : Nat) (len : Nat)
    (data : List (Byte × Bool)) (operand : Nat) (flip : Nat) (fetch : Bool) {z : View}
    (h : z.place ∉ [.obj O.matrixErrCount, .obj O.matrixHeld, .obj O.matrixMasterState, .part .mtx]) :
    (State.issue s m id kind addr len data operand flip fetch).see z = s.see z := by
  simp only [notMem_cons, notMem_nil, and_true] at h
  simp only [State.issue]; simp [↓see_mk, ↓ite_see, h]

@[simp] theorem State.putTxn_see (s : State) (x : Txn) (y : Txn) {z : View} (h : z.place ∉ [.part .mtx]) :
    (State.putTxn s x y).see z = s.see z := by
  simp only [notMem_cons, notMem_nil, and_true] at h
  simp only [State.putTxn]; simp [↓see_mk, h]

@[simp] theorem State.aged_see (s : State) (dt : Nat) {z : View} (h : z.place ∉ [.part .mtx]) :
    (State.aged s dt).see z = s.see z := by
  simp only [notMem_cons, notMem_nil, and_true] at h
  simp only [State.aged]; simp [↓see_mk, h]

@[simp] theorem State.errLogRead_see (s : State) (w : Who) (first : Nat) (count : Nat) {z : View}
    (h : z.place ∉ [.part .mtx]) :
    (State.errLogRead s w first count).see z = s.see z := by
  simp only [notMem_cons, notMem_nil, and_true] at h
  simp only [State.errLogRead]; simp [↓see_mk, ↓ite_see, h]

/-! ### Machine/Rx.lean -/

@[simp] theorem State.rxWords_see (s : State) (p : Nat) (v : RxView) {z : View}
    (h : z.place ∉ [.obj O.eventCount, .obj O.eventLastTime, .obj O.eventLatch, .obj O.hdpStats, .obj O.portRxPref,
      .obj O.portRxQl, .obj O.portRxStatus, .obj O.refInputState, .obj O.refTied, .obj O.timeGridResidual,
      .part .link, .part .ref, .part .tim]) :
    (State.rxWords s p v).see z = s.see z := by
  simp only [notMem_cons, notMem_nil, and_true] at h
  simp only [State.rxWords]; simp [↓ite_see, h]

@[simp] theorem State.rxFsn_see (s : State) (p : Nat) (v : RxView) {z : View}
    (h : z.place ∉ [.obj O.portFlintReject, .obj O.portRxFsn]) :
    (State.rxFsn s p v).see z = s.see z := by
  simp only [notMem_cons, notMem_nil, and_true] at h
  simp only [State.rxFsn]; simp [h]

@[simp] theorem State.rxTime_see (s : State) (p : Nat) (v : RxView) (stamp : Nat) {z : View}
    (h : z.place ∉ [.obj O.eventCount, .obj O.eventLastTime, .obj O.eventLatch, .obj O.hdpStats,
      .obj O.maintTokenHolder, .obj O.maintTokenSince, .obj O.mapBoundaryFsn, .obj O.mapResult, .obj O.mapState,
      .obj O.refDcoOffset, .obj O.refInputPhase, .obj O.refTied, .obj O.tallyOvfCount, .obj O.timeGridResidual,
      .obj O.timeServoFreq, .obj O.timeServoOffset, .obj O.timeTcStats, .part .sys, .part .map, .part .ref,
      .part .tim, .part .mem]) :
    (State.rxTime s p v stamp).see z = s.see z := by
  simp only [notMem_cons, notMem_nil, and_true] at h
  simp only [State.rxTime]; split <;> simp [↓ite_see, h]

@[simp] theorem State.rxMsg_see (s : State) (p : Nat) (v : RxView) (stamp : Nat) {z : View}
    (h : z.place ∉ [.part .link]) :
    (State.rxMsg s p v stamp).see z = s.see z := by
  simp only [notMem_cons, notMem_nil, and_true] at h
  simp only [State.rxMsg]; (repeat' split) <;> simp [h]

@[simp] theorem State.observe_see (s : State) (p : Nat) (corr : Nat) (bad : Bool) {z : View}
    (h : z.place ∉ [.part .linkq]) :
    (State.observe s p corr bad).see z = s.see z := by
  simp only [notMem_cons, notMem_nil, and_true] at h
  simp only [State.observe]; simp [↓ite_see, h]

@[simp] theorem State.lineErrors_see (s : State) (p : Nat) (v : RxView) (corr : Nat) {z : View}
    (h : z.place ∉ [.obj O.assayActive, .obj O.assayDropped, .obj O.assayErrors, .obj O.assayQueueLen,
      .obj O.assayTestResult, .obj O.eventCount, .obj O.eventLastTime, .obj O.eventLatch, .obj O.hdpStats,
      .obj O.tallyOvfCount, .part .linkq, .part .asy]) :
    (State.lineErrors s p v corr).see z = s.see z := by
  simp only [notMem_cons, notMem_nil, and_true] at h
  simp only [State.lineErrors]; simp [↓ite_see, h]

@[simp] theorem State.flint_see (s : State) (p : Nat) (d : Nat) {z : View}
    (h : z.place ∉ [.obj O.eventCount, .obj O.eventLastTime, .obj O.eventLatch, .obj O.grainChanged,
      .obj O.grainRxState, .obj O.hdpStats, .obj O.portAlignState, .obj O.portNegState, .obj O.protFlags,
      .obj O.tallyOvfCount, .obj O.timeTcStats, .obj O.witnessStreamState, .part .link, .part .rx, .part .prot,
      .part .wit, .part .tim]) :
    (State.flint s p d).1.see z = s.see z := by
  simp only [notMem_cons, notMem_nil, and_true] at h
  simp only [State.flint]; simp [↓ite_see, h]

@[simp] theorem State.rxFec_see (s : State) (p : Nat) (d : Nat) (corr : Nat) (unc : Nat) (stamp : Nat) {z : View}
    (h : z.place ∉ [.obj O.portFecCorr, .obj O.portFecUncorr, .part .link]) :
    (State.rxFec s p d corr unc stamp).see z = s.see z := by
  simp only [notMem_cons, notMem_nil, and_true] at h
  simp only [State.rxFec]; simp [h]

@[simp] theorem State.rxHandshake_see (s : State) (p : Nat) (v : RxView) (prev : Nat) {z : View}
    (h : z.place ∉ [.obj O.eventCount, .obj O.eventLastTime, .obj O.eventLatch, .obj O.grainChanged,
      .obj O.grainRxState, .obj O.hdpStats, .obj O.linkChangeCount, .obj O.linkPeerSupported,
      .obj O.maintTokenHolder, .obj O.portAlignState, .obj O.portNegState, .obj O.portVersion, .obj O.protFlags,
      .obj O.refTied, .obj O.tallyOvfCount, .obj O.timeGridResidual, .obj O.timeTcStats, .obj O.witnessStreamState,
      .part .link, .part .linkq, .part .rx, .part .prot, .part .wit, .part .ref, .part .tim]) :
    (State.rxHandshake s p v prev).see z = s.see z := by
  simp only [notMem_cons, notMem_nil, and_true] at h
  simp only [State.rxHandshake]; split <;> simp [h]

@[simp] theorem State.rxTake_see (s : State) (p : Nat) (d : Nat) (stamp : Nat) (raw : List Bool) {z : View}
    (h : z.place ∉ [.obj O.assayActive, .obj O.assayDropped, .obj O.assayErrors, .obj O.assayQueueLen,
      .obj O.assayTestResult, .obj O.eventCount, .obj O.eventLastTime, .obj O.eventLatch, .obj O.grainChanged,
      .obj O.grainRxJust, .obj O.grainRxPtr, .obj O.grainRxState, .obj O.hdpStats, .obj O.linkChangeCount,
      .obj O.linkPeerSupported, .obj O.maintTokenHolder, .obj O.maintTokenSince, .obj O.mapBoundaryFsn,
      .obj O.mapResult, .obj O.mapState, .obj O.portAlignState, .obj O.portFecCorr, .obj O.portFecUncorr,
      .obj O.portFlintReject, .obj O.portNegState, .obj O.portRxFsn, .obj O.portRxPref, .obj O.portRxQl,
      .obj O.portRxStatus, .obj O.portVersion, .obj O.protFlags, .obj O.refDcoOffset, .obj O.refInputPhase,
      .obj O.refInputState, .obj O.refTied, .obj O.tallyOvfCount, .obj O.timeGridResidual, .obj O.timeServoFreq,
      .obj O.timeServoOffset, .obj O.timeTcStats, .obj O.witnessStreamState, .part .sys, .part .link, .part .linkq,
      .part .rx, .part .map, .part .prot, .part .wit, .part .ref, .part .tim, .part .mem, .part .asy]) :
    (State.rxTake s p d stamp raw).see z = s.see z := by
  simp only [notMem_cons, notMem_nil, and_true] at h
  simp only [State.rxTake]; simp [↓ite_see, h]

@[simp] theorem State.rxFrame_see (s : State) (p : Nat) (f : RxFrame) {z : View}
    (h : z.place ∉ [.obj O.assayActive, .obj O.assayDropped, .obj O.assayErrors, .obj O.assayQueueLen,
      .obj O.assayTestResult, .obj O.eventCount, .obj O.eventLastTime, .obj O.eventLatch, .obj O.grainChanged,
      .obj O.grainRxJust, .obj O.grainRxPtr, .obj O.grainRxState, .obj O.hdpStats, .obj O.linkChangeCount,
      .obj O.linkPeerSupported, .obj O.maintTokenHolder, .obj O.maintTokenSince, .obj O.mapBoundaryFsn,
      .obj O.mapResult, .obj O.mapState, .obj O.portAlignState, .obj O.portFecCorr, .obj O.portFecUncorr,
      .obj O.portFlintReject, .obj O.portNegState, .obj O.portRxFsn, .obj O.portRxPref, .obj O.portRxQl,
      .obj O.portRxStatus, .obj O.portVersion, .obj O.protFlags, .obj O.refDcoOffset, .obj O.refInputPhase,
      .obj O.refInputState, .obj O.refTied, .obj O.tallyOvfCount, .obj O.timeGridResidual, .obj O.timeServoFreq,
      .obj O.timeServoOffset, .obj O.timeTcStats, .obj O.witnessStreamState, .part .sys, .part .link, .part .linkq,
      .part .rx, .part .map, .part .prot, .part .wit, .part .ref, .part .tim, .part .mem, .part .asy]) :
    (State.rxFrame s p f).see z = s.see z := by
  simp only [notMem_cons, notMem_nil, and_true] at h
  simp only [State.rxFrame]; simp [↓ite_see, h]

end Sys2Proof.Machine
end

