-- ==== Sys2Proof/Laws/Clock.lean ====
section
/-! SUPPORT. The clock of frames (State.clk): the operations that move it (a frame start, a round start, a frame number
step, a reset, and those that may write any object) keep it in order (Safety.lean, Clk.Ok); no other moves it
(Laws/Frame.lean). -/

namespace Sys2Proof.Machine

variable (s : State)

theorem State.powerOnReset_clkOk (c : Nat) (m d h : Bool) : (s.powerOnReset c m d h).clk.Ok := by
  have : (s.powerOnReset c m d h).clk = ⟨0, 0, 0⟩ := by
    unfold State.powerOnReset
    simp [State.reset]
  rw [this]; simp [Clk.Ok]

/-- Two states that look the same at the clock have one clock. -/
theorem clk_of_see {t : State} (h : t.see (.part .clk) = s.see (.part .clk)) : t.clk = s.clk := h

theorem State.fabricRound_clk (io : RoundIn) (n : Nat) : (s.fabricRound io n).clk = s.clk := clk_of_see _ (by simp)

theorem State.roundStart_clkOk (io : RoundIn) (h : s.clk.Ok) : (s.roundStart io).clk.Ok := by
  unfold State.roundStart
  obtain ⟨h1, h2, h3⟩ := h
  by_cases c : 405 ≤ s.clk.round
  · simp [c]; exact ⟨h1, h2, h3⟩
  · simp only [c, if_false, Clk.Ok]
    split_ifs <;> simp [State.fabricRound_clk, h3] <;> omega

theorem State.frameStart_clkOk (ph : List (Nat × Int)) (h : s.clk.Ok) : (s.frameStart ph).clk.Ok := by
  have : (s.frameStart ph).clk = { base := s.clk.base + 38880, round := 0, fsn := (s.clk.fsn + 1) % M48 } := by
    unfold State.frameStart
    exact clk_of_see
      { s with clk := { base := s.clk.base + 38880, round := 0, fsn := (s.clk.fsn + 1) % M48 } } (by simp)
  obtain ⟨h1, h2, h3⟩ := h
  rw [this]
  refine ⟨Nat.mod_lt _ (by decide), by simp, by simp [h3]⟩

theorem State.fsnStep_clk (c : s.ref.tieDue = true) : s.fsnStep.clk =
    { s.clk with fsn := add48 s.clk.fsn (if s.selected < 13 then (s.input s.selected).dF else 0) } := by
  unfold State.fsnStep
  simp only [c]
  exact clk_of_see
    { s with clk := { s.clk with fsn := add48 s.clk.fsn (if s.selected < 13 then (s.input s.selected).dF else 0) } }
    (by simp; rfl)

theorem State.fsnStep_clkOk (h : s.clk.Ok) : s.fsnStep.clk.Ok := by
  by_cases c : s.ref.tieDue = true
  · rw [State.fsnStep_clk s c]
    obtain ⟨h1, h2, h3⟩ := h
    refine ⟨?_, h2, h3⟩
    simp only [add48, u48, uInt]
    omega
  · simpa [State.fsnStep, c] using h

theorem State.write_clkOk {w : Who} {idx e v : Nat} {op : State → State × Nat} {pre : Nat} (h : s.clk.Ok)
    (ho : (op s).1.clk.Ok) : (s.write w idx e v op pre).clk.Ok := by
  unfold State.write
  simp only []
  split_ifs <;> simp [h, ho]

theorem sysResetOp_clkOk (h : s.clk.Ok) : (sysResetOp s).1.clk.Ok := by
  unfold sysResetOp
  split_ifs
  · exact h
  · exact s.powerOnReset_clkOk ..

theorem State.writeSysReset_clkOk (w : Who) (v : Nat) (h : s.clk.Ok) : (s.writeSysReset w v).clk.Ok :=
  s.write_clkOk h (sysResetOp_clkOk s h)

theorem State.writeSysObj_clkOk (w : Who) (i e v : Nat) (h : s.clk.Ok) : (s.writeSysObj w i e v).clk.Ok := by
  unfold State.writeSysObj
  split_ifs <;> first | exact s.writeSysReset_clkOk w v h | simpa [clk_see] using h

theorem State.writeObj_clkOk (w : Who) (i e v : Nat) (h : s.clk.Ok) : (s.writeObj w i e v).clk.Ok := by
  unfold State.writeObj
  split_ifs <;> first | exact s.writeSysObj_clkOk w i e v h | simpa [clk_see] using h

theorem State.writeOctets_clkOk (w : Who) (o : Obj) (e : Nat) (d : List Byte) (h : s.clk.Ok) :
    (s.writeOctets w o e d).clk.Ok := by
  unfold State.writeOctets
  simp only []
  split_ifs <;> first | exact s.writeObj_clkOk _ _ _ _ h | simpa [clk_see] using h

theorem State.writeElem_clkOk (w : Who) (o : Obj) (t : Tgt) (k : Nat) (d : List Byte) (h : s.clk.Ok) :
    (s.writeElem w o t k d).clk.Ok := by
  have hw := fun (i e v : Nat) => s.writeObj_clkOk w i e v h
  unfold State.writeElem
  simp only []
  split_ifs
  · exact s.writeOctets_clkOk _ _ _ _ h
  · simpa [clk_see] using h
  all_goals split <;> first | exact hw _ _ _ | simpa [clk_see] using h

theorem State.preset_clk (o : Obj) (t : Tgt) (k n : Nat) (v : Nat → Nat) : (s.preset o t k n v).clk = s.clk :=
  foldRange_same State.clk n _ s fun _ _ => rfl

theorem State.writeJoint_clkOk (w : Who) (o : Obj) (t : Tgt) (k : Nat) (d rest : List Byte) (h : s.clk.Ok) :
    (s.writeJoint w o t k d rest).clk.Ok := by
  unfold State.writeJoint
  split_ifs
  · exact s.writeElem_clkOk _ _ _ _ _ h
  · simp only [State.preset_clk]
    exact State.writeElem_clkOk _ _ _ _ _ _ (by simpa [State.preset_clk] using h)

theorem State.writeAll_clkOk (w : Who) (o : Obj) (t : Tgt) (h : s.clk.Ok) :
    ∀ (n k : Nat) (d : List Byte) (cur : State), cur.clk.Ok → (s.writeAll w o t d n k cur).clk.Ok := by
  intro n
  induction n with
  | zero => intro k d cur hc; simpa [State.writeAll] using hc
  | succ n ih =>
    intro k d cur hc
    simp only [State.writeAll]
    split_ifs
    · simpa [clk_see] using h
    · exact ih _ _ _ (State.writeJoint_clkOk cur w o t k _ _ hc)

theorem State.writeEntry_clkOk (w : Who) (t : Tgt) (k : Nat) (d : List Byte) (h : s.clk.Ok) :
    (s.writeEntry w t k d).clk.Ok := by
  unfold State.writeEntry
  split
  · simpa [clk_see] using h
  · simp only []
    split_ifs <;>
      first | exact s.writeElem_clkOk _ _ _ _ _ h | exact s.writeAll_clkOk _ _ _ h _ _ _ _ h | simpa [clk_see] using h

theorem State.registerWrite_clkOk (w : Who) (i e v : Nat) (h : s.clk.Ok) : (s.registerWrite w i e v).clk.Ok := by
  unfold State.registerWrite
  extract_lets bySub t k c
  split_ifs <;> first | exact s.writeEntry_clkOk _ _ _ _ h | simpa [clk_see] using h

theorem foldl_clkOk {γ : Type} (f : State → γ → State) (l : List γ) (h : s.clk.Ok)
    (hf : ∀ a x, a.clk.Ok → (f a x).clk.Ok) : (l.foldl f s).clk.Ok := foldl_keeps (fun t => t.clk.Ok) f l s h hf

theorem State.hdpWriteOp_clkOk (q : Hdp) (h : s.clk.Ok) : (s.hdpWriteOp q).clk.Ok := by
  unfold State.hdpWriteOp
  simp only []
  repeat' split
  all_goals first | exact s.writeElem_clkOk _ _ _ _ _ h | simpa [clk_see] using h

theorem State.bulkApply_clkOk (b : Bulk) (h : s.clk.Ok) : (s.bulkApply b).clk.Ok := by
  unfold State.bulkApply
  simpa [clk_see] using s.writeEntry_clkOk _ _ _ _ h

theorem State.bulkJoin_clkOk (b : Bulk) (q : Hdp) (h : s.clk.Ok) : (s.bulkJoin b q).clk.Ok := by
  unfold State.bulkJoin
  simp only []
  split_ifs <;> first | exact s.bulkApply_clkOk _ h | simpa [clk_see] using h

theorem State.bulkFirst_clkOk (q : Hdp) (h : s.clk.Ok) : (s.bulkFirst q).clk.Ok := by
  unfold State.bulkFirst
  extract_lets c
  split_ifs <;> first | exact s.bulkJoin_clkOk _ _ h | simpa [clk_see] using h

theorem State.hdpWriteBulk_clkOk (q : Hdp) (h : s.clk.Ok) : (s.hdpWriteBulk q).clk.Ok := by
  unfold State.hdpWriteBulk
  repeat' split
  all_goals (try simp only [])
  all_goals (try split_ifs)
  all_goals first
    | exact s.bulkFirst_clkOk _ h
    | exact State.bulkFirst_clkOk _ _ (by simpa [clk_see] using h)
    | exact s.bulkJoin_clkOk _ _ h
    | simpa [clk_see] using h

theorem State.serve_clkOk (port : Nat) (enc : Encap) (q : Hdp) (h : s.clk.Ok) : (s.serve port enc q).clk.Ok := by
  have ha : (s.accept q).clk.Ok := by simpa [clk_see] using h
  unfold State.serve
  extract_lets key s1 s2 total off
  clear_value key off total
  have h2 : s2.clk.Ok := by
    simp only [s2]
    split_ifs <;> first
      | exact State.hdpWriteOp_clkOk _ _ ha
      | exact State.hdpWriteBulk_clkOk _ _ ha
      | simpa [clk_see, s1] using ha
  split_ifs
  · simpa [clk_see, s1] using ha
  all_goals simpa [clk_see] using h2

theorem State.takeIn_clkOk (port : Nat) (enc : Encap) (q : Hdp) (m : List Byte) (h : s.clk.Ok) :
    (s.takeIn port enc q m).clk.Ok := by
  unfold State.takeIn
  simp only []
  split_ifs <;> first | exact s.serve_clkOk _ _ _ h | simpa [clk_see] using h

theorem State.hdpIn_clkOk (ops : List Nat) (port : Nat) (enc : Encap) (m : List Byte) (h : s.clk.Ok) :
    (s.hdpIn ops port enc m).clk.Ok := by
  unfold State.hdpIn
  split_ifs
  · exact h
  · split
    · simpa [clk_see] using h
    · split_ifs <;> first | exact s.takeIn_clkOk _ _ _ _ h | exact h | simpa [clk_see] using h

theorem State.ceilingWritten_clkOk (k : Nat) (h : s.clk.Ok) : (s.ceilingWritten k).clk.Ok := by
  unfold State.ceilingWritten
  simp only []
  split
  · exact h
  · exact foldl_clkOk _ _ _ (by simpa [clk_see] using h) fun a x ha => a.takeIn_clkOk _ _ _ _ ha

theorem State.t5WriteSlot_clkOk (m o : Nat) (d : List Byte) (h : s.clk.Ok) : (s.t5WriteSlot m o d).clk.Ok := by
  unfold State.t5WriteSlot
  simp only []
  repeat' split
  all_goals first | exact h | exact State.writeEntry_clkOk _ _ _ _ _ (by simpa [clk_see] using h)

theorem t5WriteEff_clkOk (x : Txn) (h : s.clk.Ok) : (t5WriteEff s x).s.clk.Ok := by
  unfold t5WriteEff
  extract_lets o sp slots r t
  have hr : r.1.clk.Ok := by
    refine foldl_keeps (fun r : State × Bool => r.1.clk.Ok) _ _ _ h fun a y ha => ?_
    simp only []
    split_ifs
    · exact ha
    · exact State.t5WriteSlot_clkOk _ _ _ _ ha
    · exact ha
  split_ifs
  · simpa [clk_see] using hr
  · simpa [clk_see] using hr
  · exact h

theorem targetEff_clkOk (x : Txn) (h : s.clk.Ok) : (targetEff s x).s.clk.Ok := by
  have hr : (regEff s x).s.clk.Ok := by
    unfold regEff
    split_ifs
    · simpa [clk_see] using h
    · exact t5WriteEff_clkOk s x h
    · simpa [clk_see] using h
  unfold targetEff
  split_ifs <;> first | exact hr | simpa [clk_see] using h

theorem State.perform_clkOk (x : Txn) (h : s.clk.Ok) : (s.perform x).clk.Ok := by
  unfold State.perform
  extract_lets y r s1 s2
  have h1 : s1.clk.Ok := by
    have hr : r.s.clk.Ok := targetEff_clkOk _ y h
    simpa [s1, clk_see] using hr
  have h2 : s2.clk.Ok := by
    simp only [s2]
    split_ifs <;> simpa [clk_see] using h1
  clear_value s2
  split_ifs <;> simpa [clk_see] using h2

theorem State.mtxDone_clk : s.mtxDone.clk = s.clk := clk_of_see s (by simp)

theorem State.settleMtx_clkOk (late : Bool) (h : s.clk.Ok) : (s.settleMtx late).clk.Ok := h

theorem State.deliver_clkOk (t : Nat) (h : s.clk.Ok) : (s.deliver t).clk.Ok :=
  foldl_clkOk _ _ _ h fun a x ha => a.perform_clkOk x ha

theorem State.grantTxn_clkOk (x : Txn) (h : s.clk.Ok) : (s.grantTxn x).clk.Ok := by
  unfold State.grantTxn
  extract_lets s1 y _m s2
  have h2 : s2.clk.Ok := by
    have h1 := s.deliver_clkOk x.target h
    simpa [s2, State.tally_clk] using h1
  clear_value s2
  split_ifs
  · exact h2
  · exact s2.perform_clkOk _ h2

theorem State.grant_clkOk (t dt : Nat) (h : s.clk.Ok) : (s.grant t dt).clk.Ok := by
  unfold State.grant
  extract_lets s1
  have h1 : s1.clk.Ok := h
  split
  · exact h1
  · rw [State.mtxDone_clk]
    exact State.grantTxn_clkOk _ _ h1

theorem State.respondTxn_clkOk (t : Nat) (h : s.clk.Ok) : (s.respondTxn t).clk.Ok := by
  have h1 := (s.settleMtx true).deliver_clkOk t h
  unfold State.respondTxn
  simp only []
  split
  · exact h1
  · exact (congrArg Clk.Ok (clk_of_see ((s.settleMtx true).deliver t) (by simp [↓see_mk, ↓ite_see]))).mpr h1

theorem State.txnTimeout_clkOk (m id : Nat) (h : s.clk.Ok) : (s.txnTimeout m id).clk.Ok := by
  unfold State.txnTimeout
  extract_lets _l s1
  have h1 : s1.clk.Ok := by
    simp only [s1]
    split
    · exact s.deliver_clkOk _ h
    · exact h
  clear_value s1
  split
  · exact h1
  · exact (congrArg Clk.Ok (clk_of_see s1 (by simp [↓see_mk, ↓ite_see]))).mpr h1

end Sys2Proof.Machine
end

