-- ==== Sys2Proof/Laws/Exec.lean ====
section
/-! SUPPORT. Each command as the operation it runs: the meaning of every constructor, unfolded once. -/

namespace Sys2Proof.Machine

variable (s : State)

theorem exec_frameStart (phase : List (Nat × Int)) :
    exec (.frameStart phase) s = s.run fun s => s.frameStart phase := (rfl)
theorem exec_roundStart (io : RoundIn) : exec (.roundStart io) s = s.run fun s => s.roundStart io := (rfl)
theorem exec_coherentReturn (c : Nat) :
    exec (.coherentReturn c) s = s.runIn c 6144 fun s => s.coherentReturn c := (rfl)
theorem exec_recapture (c : Nat) : exec (.recapture c) s = s.runIn c 6144 fun s => s.recapture c := (rfl)
theorem exec_lineLate (a : Nat) : exec (.lineLate a) s = s.runIn a 122880 fun s => s.lineLateOp a := (rfl)
theorem exec_esReadStart (a : Nat) : exec (.esReadStart a) s = s.runIn a 122880 fun s => s.esStart a := (rfl)
theorem exec_displacedTpoaNew (a : Nat) :
    exec (.displacedTpoaNew a) s = s.runIn a 122880 fun s => s.newDisplaced a s.clk.round (s.txN0 a) := (rfl)
theorem exec_traceRecord (tag : Nat) (dRx : Nat) (dSps : Nat) (dEts : Nat) (dSer : Nat) :
    exec (.traceRecord tag dRx dSps dEts dSer) s = s.run fun s => s.traceRecord tag dRx dSps dEts dSer := (rfl)
theorem exec_recordAged (kind : Nat) (port : Nat) (tsn : Nat) :
    exec (.recordAged kind port tsn) s = s.runIn port 96 fun s => s.recordAged kind port tsn := (rfl)
theorem exec_recordUnmatched (kind : Nat) (port : Nat) (tsn : Nat) :
    exec (.recordUnmatched kind port tsn) s = s.runIn port 96 fun s => s.recordUnmatched kind port tsn := (rfl)
theorem exec_stateReturnNormal : exec .stateReturnNormal s = s.run State.returnNormal := (rfl)
theorem exec_cdrLock (p : Nat) : exec (.cdrLock p) s = s.runIn p 96 fun s => s.cdrLock p := (rfl)
theorem exec_lossOfSignal (p : Nat) : exec (.lossOfSignal p) s = s.runIn p 96 fun s => s.signalLoss p := (rfl)
theorem exec_fawMatch (p : Nat) (c : Nat) (lane : Lane) :
    exec (.fawMatch p c lane) s = s.runIn p 96 fun s => s.fawMatch p c lane := (rfl)
theorem exec_row1Check (p : Nat) (c : Nat) (head : Lane) (row1 : List Lane) :
    exec (.row1Check p c head row1) s = s.runIn p 96 fun s => s.row1Check p c (head :: row1) := (rfl)
theorem exec_fawConfirm (p : Nat) (c : Nat) (lane : Lane) :
    exec (.fawConfirm p c lane) s = s.runIn p 96 fun s => s.fawConfirm p c lane := (rfl)
theorem exec_rxFrame (p : Nat) (f : RxFrame) : exec (.rxFrame p f) s = s.runIn p 96 fun s => s.rxFrame p f := (rfl)
theorem exec_relockTimeout (p : Nat) : exec (.relockTimeout p) s = s.runIn p 96 fun s => s.relockFail p := (rfl)
theorem exec_syncLossRenegotiate (p : Nat) :
    exec (.syncLossRenegotiate p) s = s.runIn p 96 fun s => s.syncLoss p := (rfl)
theorem exec_fecDegInterval (p : Nat) : exec (.fecDegInterval p) s = s.runIn p 96 fun s => s.fecInterval p := (rfl)
theorem exec_timePortFrameRx (k : Nat) (bytes : List Byte) (stamp : Nat) :
    exec (.timePortFrameRx k bytes stamp) s =
      s.runIn k 2 fun s => if s.portUp k then s.timeRx (96 + k) bytes stamp else s := (rfl)
theorem exec_timePortSend (k : Nat) (stamp : Nat) :
    exec (.timePortSend k stamp) s = s.runIn k 2 fun s => s.portSend k stamp := (rfl)
theorem exec_timePortLinkUp (k : Nat) : exec (.timePortLinkUp k) s = s.runIn k 2 fun s => s.timeLinkUp k := (rfl)
theorem exec_portEnableWrite (w : Who) (p : Nat) (v : Nat) :
    exec (.portEnableWrite w p v) s = s.run fun s => s.writePortEnable w p v := (rfl)
theorem exec_portRoleWrite (w : Who) (p : Nat) (v : Nat) :
    exec (.portRoleWrite w p v) s = s.run fun s => s.writePortRole w p v := (rfl)
theorem exec_linkRenegotiate (w : Who) (p : Nat) (v : Nat) :
    exec (.linkRenegotiate w p v) s = s.run fun s => s.writeRenegotiate w p v := (rfl)
theorem exec_versionMaxWrite (w : Who) (p : Nat) (v : Nat) :
    exec (.versionMaxWrite w p v) s = s.run fun s => s.writeVersionMax w p v := (rfl)
theorem exec_versionExcludedWrite (w : Who) (p : Nat) (v : Nat) :
    exec (.versionExcludedWrite w p v) s = s.run fun s => s.writeVersionExcluded w p v := (rfl)
theorem exec_timeChannelEnWrite (w : Who) (p : Nat) (v : Nat) :
    exec (.timeChannelEnWrite w p v) s = s.run fun s => s.writeTimeChannelEn w p v := (rfl)
theorem exec_sdIslandEnWrite (w : Who) (v : Nat) :
    exec (.sdIslandEnWrite w v) s =
      s.run fun s => s.write w O.powerSdIslandEn 0 v (sdIslandOp (holderOf w) v) := (rfl)
theorem exec_sdIslandReady (k : Nat) : exec (.sdIslandReady k) s = s.runIn k 12 fun s => s.islandReadyOp k := (rfl)
theorem exec_txEqWrite (w : Who) (p : Nat) (v : Nat) :
    exec (.txEqWrite w p v) s = s.run fun s => s.writeTxEq w p v := (rfl)
theorem exec_grainSizeWrite (w : Who) (e : Nat) (v : Nat) :
    exec (.grainSizeWrite w e v) s = s.run fun s => s.writeGrainSize w e v := (rfl)
theorem exec_txForceAisWrite (w : Who) (a : Nat) (v : Nat) :
    exec (.txForceAisWrite w a v) s = s.run fun s => s.writeForceAis w a v := (rfl)
theorem exec_grainChangedRead (w : Who) (p : Nat) :
    exec (.grainChangedRead w p) s =
      s.run fun s => s.readWith w O.grainChanged p (readClear O.grainChanged p 160) := (rfl)
theorem exec_draftSrcWrite (w : Who) (a : Nat) (v : Nat) :
    exec (.draftSrcWrite w a v) s = s.run fun s => s.writeDraftSrc w a v := (rfl)
theorem exec_draftRevert (w : Who) (v : Nat) :
    exec (.draftRevert w v) s = s.run fun s => s.writeDraftRevert w v := (rfl)
theorem exec_commitReq (w : Who) : exec (.commitReq w) s = s.run fun s => s.writeCommitReq w 1 := (rfl)
theorem exec_mapAbort (w : Who) : exec (.mapAbort w) s = s.run fun s => s.abortMap w := (rfl)
theorem exec_solveComplete : exec .solveComplete s = s.run State.solveComplete := (rfl)
theorem exec_armingDeadline : exec .armingDeadline s = s.run State.deadline := (rfl)
theorem exec_commitBoundary : exec .commitBoundary s = s.run State.commitBoundary := (rfl)
theorem exec_fabricDrained : exec .fabricDrained s = s.run State.drained := (rfl)
theorem exec_lodeStateWrite (w : Who) (l : Nat) (v : Nat) :
    exec (.lodeStateWrite w l v) s = s.run fun s => s.writeLodeState w l v := (rfl)
theorem exec_groupTypeWrite (w : Who) (c : Nat) (v : Nat) :
    exec (.groupTypeWrite w c v) s = s.run fun s => s.writeCtx w O.groupType c v := (rfl)
theorem exec_lineCtxWrite (w : Who) (a : Nat) (v : Nat) :
    exec (.lineCtxWrite w a v) s = s.run fun s => s.writeLineCtx w a v := (rfl)
theorem exec_latenessWrite (w : Who) (c : Nat) (v : Nat) :
    exec (.latenessWrite w c v) s = s.run fun s => s.writeCtx w O.groupLateness c v := (rfl)
theorem exec_marginWrite (w : Who) (c : Nat) (v : Nat) :
    exec (.marginWrite w c v) s = s.run fun s => s.writeCtx w O.groupMargin c v := (rfl)
theorem exec_lineFreed (a : Nat) : exec (.lineFreed a) s = s.runIn a 122880 fun s => s.lineFreedOp a := (rfl)
theorem exec_lineChangedRead (w : Who) (p : Nat) :
    exec (.lineChangedRead w p) s =
      s.run fun s => s.readWith w O.groupLineChanged p (readClear O.groupLineChanged p 160) := (rfl)
theorem exec_protRoleWrite (w : Who) (v : Nat) :
    exec (.protRoleWrite w v) s = s.run fun s => s.writeProtRole w v := (rfl)
theorem exec_witnessBlockLock (st : Nat) :
    exec (.witnessBlockLock st) s = s.runIn st 32 fun s => s.blockLock st := (rfl)
theorem exec_witnessBlockLockLoss (st : Nat) :
    exec (.witnessBlockLockLoss st) s = s.runIn st 32 fun s => s.blockLoss st := (rfl)
theorem exec_statusRecordRx (st : Nat) (x : WitIn) (arrival : Nat) :
    exec (.statusRecordRx st x arrival) s =
      s.runIn st 32 fun s => s.rxRecord st (recordOf st x) 0x10 fun s => s.statusTaken st (recordOf st x) arrival :=
        (rfl)
theorem exec_verdictRecordRx (st : Nat) (x : WitIn) :
    exec (.verdictRecordRx st x) s =
      s.runIn st 32 fun s => s.rxRecord st (recordOf st x) 0x20 fun s => s.verdictRx st (recordOf st x) := (rfl)
theorem exec_noticeRecordRx (st : Nat) (x : WitIn) :
    exec (.noticeRecordRx st x) s =
      s.runIn st 32 fun s => s.rxRecord st (recordOf st x) 0x30 fun s => s.noticeRx st (recordOf st x) := (rfl)
theorem exec_ingressRecordRx (st : Nat) (x : WitIn) :
    exec (.ingressRecordRx st x) s =
      s.runIn st 32 fun s => s.rxRecord st (recordOf st x) 1 fun s => s.peerRec st 0 (recordOf st x) := (rfl)
theorem exec_egressRecordRx (st : Nat) (x : WitIn) :
    exec (.egressRecordRx st x) s =
      s.runIn st 32 fun s => s.rxRecord st (recordOf st x) 2 fun s => s.peerRec st 2 (recordOf st x) := (rfl)
theorem exec_streamStatusTimeout (st : Nat) :
    exec (.streamStatusTimeout st) s = s.runIn st 32 fun s => s.statusTimeout st := (rfl)
theorem exec_arbiterWatchTimeout :
    exec .arbiterWatchTimeout s =
      s.run fun s => if s.large && s.role ≠ 4 && decide (8 ≤ s.prot.watch) then s.setUnwatched true else s := (rfl)
theorem exec_verdictEffective : exec .verdictEffective s = s.run State.verdictEffective := (rfl)
theorem exec_prefSet (w : Who) (v : Nat) : exec (.prefSet w v) s = s.run fun s => s.writePrefSet w v := (rfl)
theorem exec_portFaultClear (w : Who) (v : Nat) :
    exec (.portFaultClear w v) s = s.run fun s => s.writePortFaultClear w v := (rfl)
theorem exec_mapDigestReady : exec .mapDigestReady s = s.run State.mapDigestReady := (rfl)
theorem exec_ledgerPeriodicCut : exec .ledgerPeriodicCut s = s.run State.periodicCut := (rfl)
theorem exec_ledgerCutReq (w : Who) (v : Nat) : exec (.ledgerCutReq w v) s = s.run fun s => s.writeCutReq w v := (rfl)
theorem exec_generationSealed : exec .generationSealed s = s.run State.generationSealed := (rfl)
theorem exec_rxSegmentWrite (w : Who) (k : Nat) (bytes : List Byte) :
    exec (.rxSegmentWrite w k bytes) s = s.run fun s => s.writeRxSegment w k bytes := (rfl)
theorem exec_rxSealWrite (w : Who) (bytes : List Byte) :
    exec (.rxSealWrite w bytes) s = s.run fun s => s.writeRxSeal w bytes := (rfl)
theorem exec_journalSend : exec .journalSend s = s.run State.journalSend := (rfl)
theorem exec_journalRxWrite (w : Who) (bytes : List Byte) :
    exec (.journalRxWrite w bytes) s = s.run fun s => s.writeJournalRx w bytes := (rfl)
theorem exec_spareSealCheck (gen0 : Nat) (gen1 : Nat) :
    exec (.spareSealCheck gen0 gen1) s = s.run fun s => s.spareSealCheck gen0 gen1 := (rfl)
theorem exec_exportTimeout : exec .exportTimeout s = s.run State.exportTimeout := (rfl)
theorem exec_promote (w : Who) (v : Nat) : exec (.promote w v) s = s.run fun s => s.writePromote w v := (rfl)
theorem exec_promotionRestoreStart : exec .promotionRestoreStart s = s.run State.promotionRestore := (rfl)
theorem exec_warmHealthUpdate : exec .warmHealthUpdate s = s.run State.warmHealth := (rfl)
theorem exec_refEnableWrite (w : Who) (v : Nat) :
    exec (.refEnableWrite w v) s = s.run fun s => s.writeRefEnable w v := (rfl)
theorem exec_inputLoss (i : Nat) : exec (.inputLoss i) s = s.runIn i 13 fun s => s.inputLoss i := (rfl)
theorem exec_inputLossCleared (i : Nat) : exec (.inputLossCleared i) s = s.runIn i 13 fun s => s.inputBack i := (rfl)
theorem exec_offsetMeasure (i : Nat) (y : Int) :
    exec (.offsetMeasure i y) s = s.runIn i 13 fun s => s.offsetMeasure i y := (rfl)
theorem exec_qualificationTimeExpiry (i : Nat) :
    exec (.qualificationTimeExpiry i) s = s.runIn i 13 fun s => s.qualExpiry i := (rfl)
theorem exec_waitRestoreExpiry (i : Nat) :
    exec (.waitRestoreExpiry i) s = s.runIn i 13 fun s => s.wtrExpiry i := (rfl)
theorem exec_selectionEval : exec .selectionEval s = s.run State.select := (rfl)
theorem exec_switchSettled : exec .switchSettled s = s.run State.switchSettled := (rfl)
theorem exec_dcoClampTimeout : exec .dcoClampTimeout s = s.run State.clampTimeout := (rfl)
theorem exec_fsnStep : exec .fsnStep s = s.run State.fsnStep := (rfl)
theorem exec_phaseStepWrite (w : Who) (v : Nat) :
    exec (.phaseStepWrite w v) s = s.run fun s => s.writePhaseStep w v := (rfl)
theorem exec_frameOffsetWrite (w : Who) (v : Nat) :
    exec (.frameOffsetWrite w v) s = s.run fun s => s.writeFrameOffset w v := (rfl)
theorem exec_retime (w : Who) (v : Nat) : exec (.retime w v) s = s.run fun s => s.writeRetime w v := (rfl)
theorem exec_alignReq (w : Who) (v : Nat) : exec (.alignReq w v) s = s.run fun s => s.writeAlignReq w v := (rfl)
theorem exec_alignEdge (late : Int) : exec (.alignEdge late) s = s.run fun s => s.alignEdge late := (rfl)
theorem exec_alignTimeout : exec .alignTimeout s = s.run State.alignTimeout := (rfl)
theorem exec_ppsEdge (src : Nat) (tod : Option Nat) (late : Int) :
    exec (.ppsEdge src tod late) s = s.runIn src 3 fun s => s.ppsEdge src tod late := (rfl)
theorem exec_ptpOffsetWrite (w : Who) (v : Nat) :
    exec (.ptpOffsetWrite w v) s = s.run fun s => s.writePtpOffset w v := (rfl)
theorem exec_timeSet (w : Who) (v : Nat) : exec (.timeSet w v) s = s.run fun s => s.writeTimeSet w v := (rfl)
theorem exec_timeStep (w : Who) (v : Nat) : exec (.timeStep w v) s = s.run fun s => s.writeTimeStep w v := (rfl)
theorem exec_timeCapture (w : Who) (v : Nat) :
    exec (.timeCapture w v) s = s.run fun s => s.writeTimeCapture w v := (rfl)
theorem exec_servoSrcWrite (w : Who) (v : Nat) :
    exec (.servoSrcWrite w v) s = s.run fun s => s.writeServoSrc w v := (rfl)
theorem exec_launch (w : Who) (bytes : List Byte) :
    exec (.launch w bytes) s = s.run fun s => s.writeLaunch w bytes := (rfl)
theorem exec_launchDue (tag : Nat) (stamp : Nat) :
    exec (.launchDue tag stamp) s = s.run fun s => s.launchDue tag stamp := (rfl)
theorem exec_launchDiscard (tag : Nat) : exec (.launchDiscard tag) s = s.run fun s => s.launchDiscard tag := (rfl)
theorem exec_launchFlush (w : Who) (v : Nat) :
    exec (.launchFlush w v) s = s.run fun s => s.writeLaunchFlush w v := (rfl)
theorem exec_launchDoneRead (w : Who) (first : Nat) (count : Nat) :
    exec (.launchDoneRead w first count) s = s.run fun s => s.launchDoneRead w first count := (rfl)
theorem exec_timeTriggeredCut : exec .timeTriggeredCut s = s.run State.timeCut := (rfl)
theorem exec_bankOwnerWrite (w : Who) (b : Nat) (v : Nat) :
    exec (.bankOwnerWrite w b v) s = s.run fun s => s.writeBankOwner w b v := (rfl)
theorem exec_handoverDrainDone (b : Nat) :
    exec (.handoverDrainDone b) s = s.runIn b 256 fun s => s.drainDone b := (rfl)
theorem exec_handoverScrubDone (b : Nat) :
    exec (.handoverScrubDone b) s = s.runIn b 256 fun s => s.scrubDone b := (rfl)
theorem exec_bankClearDone : exec .bankClearDone s = s.run State.clearDone := (rfl)
theorem exec_eccWriteBack (b : Nat) (word : Nat) :
    exec (.eccWriteBack b word) s = s.runIn b 256 fun s => s.writeBack b word := (rfl)
theorem exec_eccLogRead (w : Who) (first : Nat) (count : Nat) :
    exec (.eccLogRead w first count) s = s.run fun s => s.eccLogRead w first count := (rfl)
theorem exec_ddrTrainingDone (gib : Nat) (failed : List Nat) :
    exec (.ddrTrainingDone gib failed) s = s.run fun s => s.ddrTrained gib failed := (rfl)
theorem exec_ddrFillDone : exec .ddrFillDone s = s.run State.ddrFilled := (rfl)
theorem exec_ddrLsEnWrite (w : Who) (v : Nat) :
    exec (.ddrLsEnWrite w v) s = s.run fun s => s.writeDdrLsEn w v := (rfl)
theorem exec_ddrRegionSizeWrite (w : Who) (trace : Bool) (v : Nat) :
    exec (.ddrRegionSizeWrite w trace v) s =
      s.run fun s => s.writeDdrSize w (if trace then O.memDdrTraceSize else O.memDdrLsSize) v := (rfl)
theorem exec_patrolBeat (flip : Nat) : exec (.patrolBeat flip) s = s.run fun s => s.patrolBeat flip := (rfl)
theorem exec_ddrAlert (ch : Nat) (retried : Bool) :
    exec (.ddrAlert ch retried) s =
      s.runIn ch 4 fun s => if !retried && s.reg O.memDdrChState ch = 2 then s.retrain ch else s := (rfl)
theorem exec_retrainAttemptDone (ch : Nat) (ok : Bool) :
    exec (.retrainAttemptDone ch ok) s = s.runIn ch 4 fun s => s.retrainAttempt ch ok := (rfl)
theorem exec_ddrRetrain (w : Who) (ch : Nat) :
    exec (.ddrRetrain w ch) s = s.run fun s => s.writeDdrRetrain w ch := (rfl)
theorem exec_matrixRead (m : Nat) (id : Nat) (addr : Nat) (len : Nat) (x : ReadIn) :
    exec (.matrixRead m id addr len x) s = s.runIn m 8 fun s => s.issue m id 0 addr len [] 0 x.flip x.fetch := (rfl)
theorem exec_matrixWrite (m : Nat) (id : Nat) (addr : Nat) (data : List (Byte × Bool)) :
    exec (.matrixWrite m id addr data) s = s.runIn m 8 fun s => s.issue m id 1 addr data.length data 0 0 := (rfl)
theorem exec_addWrap (m : Nat) (id : Nat) (addr : Nat) (x : AtomicIn) :
    exec (.addWrap m id addr x) s = s.runIn m 8 fun s => s.issue m id 2 addr x.len [] x.operand.toNat x.flip := (rfl)
theorem exec_addSat (m : Nat) (id : Nat) (addr : Nat) (x : AtomicIn) :
    exec (.addSat m id addr x) s = s.runIn m 8 fun s => s.issue m id 3 addr x.len [] x.operand.toNat x.flip := (rfl)
theorem exec_swap (m : Nat) (id : Nat) (addr : Nat) (x : AtomicIn) :
    exec (.swap m id addr x) s = s.runIn m 8 fun s => s.issue m id 4 addr x.len [] x.operand.toNat x.flip := (rfl)
theorem exec_matrixGrant (t : Nat) (dt : Nat) :
    exec (.matrixGrant t dt) s = s.runIn t 8 fun s => s.grant t dt := (rfl)
theorem exec_matrixResponse (t : Nat) : exec (.matrixResponse t) s = s.runIn t 8 fun s => s.respondTxn t := (rfl)
theorem exec_matrixTimeout (m : Nat) (id : Nat) :
    exec (.matrixTimeout m id) s = s.runIn m 8 fun s => s.txnTimeout m id := (rfl)
theorem exec_masterReset (w : Who) (v : Nat) :
    exec (.masterReset w v) s = s.run fun s => s.writeMasterReset w v := (rfl)
theorem exec_masterQuiesced (k : Nat) : exec (.masterQuiesced k) s = s.runIn k 8 fun s => s.masterQuiet k := (rfl)
theorem exec_remapWrite (w : Who) (v : Nat) : exec (.remapWrite w v) s = s.run fun s => s.writeRemap w v := (rfl)
theorem exec_remapApplied : exec .remapApplied s = s.run State.remapApplied := (rfl)
theorem exec_watchdogExpiry (core : Nat) :
    exec (.watchdogExpiry core) s = s.runIn core 2 fun s => s.watchdog core := (rfl)
theorem exec_errLogRead (w : Who) (first : Nat) (count : Nat) :
    exec (.errLogRead w first count) s = s.run fun s => s.errLogRead w first count := (rfl)
theorem exec_hdpRead (port : Nat) (enc : Encap) (msg : List Byte) :
    exec (.hdpRead port enc msg) s = s.runIn port 2 fun s => s.hdpIn [1] port enc msg := (rfl)
theorem exec_hdpWrite (port : Nat) (enc : Encap) (msg : List Byte) :
    exec (.hdpWrite port enc msg) s = s.runIn port 2 fun s => s.hdpIn [2] port enc msg := (rfl)
theorem exec_readBulk (port : Nat) (enc : Encap) (msg : List Byte) :
    exec (.readBulk port enc msg) s = s.runIn port 2 fun s => s.hdpIn [3] port enc msg := (rfl)
theorem exec_writeBulk (port : Nat) (enc : Encap) (msg : List Byte) :
    exec (.writeBulk port enc msg) s = s.runIn port 2 fun s => s.hdpIn [4] port enc msg := (rfl)
theorem exec_subscribe (port : Nat) (enc : Encap) (msg : List Byte) :
    exec (.subscribe port enc msg) s = s.runIn port 2 fun s => s.hdpIn [5] port enc msg := (rfl)
theorem exec_bulkAbort (port : Nat) (enc : Encap) (msg : List Byte) :
    exec (.bulkAbort port enc msg) s = s.runIn port 2 fun s => s.hdpIn [6, 7, 8] port enc msg := (rfl)
theorem exec_notify (k : Nat) : exec (.notify k) s = s.runIn k 8 fun s => s.notify k := (rfl)
theorem exec_secKeyWrite (w : Who) (slot : Nat) (key : List Byte) :
    exec (.secKeyWrite w slot key) s = s.run fun s => s.writeSecKey w slot key := (rfl)
theorem exec_seqCeilingWritten (k : Nat) :
    exec (.seqCeilingWritten k) s = s.runIn k 8 fun s => s.ceilingWritten k := (rfl)
theorem exec_sessionIdle (k : Nat) : exec (.sessionIdle k) s = s.runIn k 8 fun s => s.sessionIdle k := (rfl)
theorem exec_bulkSegmentTimeout (k : Nat) (xfer : Nat) :
    exec (.bulkSegmentTimeout k xfer) s = s.runIn k 8 fun s => s.bulkTimeout k xfer := (rfl)
theorem exec_tokenTake (w : Who) (v : Nat) : exec (.tokenTake w v) s = s.run fun s => s.writeTokenTake w v := (rfl)
theorem exec_tokenRelease (w : Who) (v : Nat) :
    exec (.tokenRelease w v) s = s.run fun s => s.writeTokenRelease w v := (rfl)
theorem exec_neighborSolicitation (port : Nat) (target : Nat) :
    exec (.neighborSolicitation port target) s = s.runIn port 2 fun s => s.neighbor port target := (rfl)
theorem exec_echoRequest (port : Nat) (target : Nat) (payload : List Byte) :
    exec (.echoRequest port target payload) s = s.runIn port 2 fun s => s.echo port target payload := (rfl)
theorem exec_testStart (eng : Nat) : exec (.testStart eng) s = s.runIn eng 5 fun s => s.testStart eng := (rfl)
theorem exec_pathTestDone (_pass : Bool) : exec (.pathTestDone _pass) s = s.run fun s => s.pathDone := (rfl)
theorem exec_mapAuditRecheck (hits : List EntIn) :
    exec (.mapAuditRecheck hits) s = s.run fun s => s.auditRecheck hits := (rfl)
theorem exec_testComplete (eng : Nat) (pass : Bool) (masks : List (Nat × Nat)) :
    exec (.testComplete eng pass masks) s = s.runIn eng 5 fun s => s.testComplete eng pass masks := (rfl)
theorem exec_bankWordTest (b : Nat) (word : Nat) (bad : Nat) :
    exec (.bankWordTest b word bad) s = s.runIn b 256 fun s => s.bankWordTest b word bad := (rfl)
theorem exec_sramPatrolUnit (flip : Nat) : exec (.sramPatrolUnit flip) s = s.run fun s => s.sramPatrol flip := (rfl)
theorem exec_testReq (w : Who) (v : Nat) : exec (.testReq w v) s = s.run fun s => s.writeTestReq w v := (rfl)
theorem exec_assayLogRead (w : Who) (first : Nat) (count : Nat) :
    exec (.assayLogRead w first count) s = s.run fun s => s.assayLogRead w first count := (rfl)
theorem exec_eventClear (w : Who) (v : Nat) : exec (.eventClear w v) s = s.run fun s => s.writeEventClear w v := (rfl)
theorem exec_eventMaskWrite (w : Who) (v : Nat) :
    exec (.eventMaskWrite w v) s = s.run fun s => s.writeEventMask w v := (rfl)
theorem exec_tallyPreset (w : Who) (i : Nat) (v : Nat) :
    exec (.tallyPreset w i v) s = s.run fun s => s.writePreset w i v := (rfl)
theorem exec_tagKWrite (w : Who) (v : Nat) :
    exec (.tagKWrite w v) s = s.run fun s => s.writeTag w O.tallyTagK v := (rfl)
theorem exec_tagSeedWrite (w : Who) (v : Nat) :
    exec (.tagSeedWrite w v) s = s.run fun s => s.writeTag w O.tallyTagSeed v := (rfl)
theorem exec_traceStartWrap (w : Who) : exec (.traceStartWrap w) s = s.run fun s => s.writeTraceCtrl w 1 := (rfl)
theorem exec_traceStartStop (w : Who) : exec (.traceStartStop w) s = s.run fun s => s.writeTraceCtrl w 2 := (rfl)
theorem exec_traceEnd (w : Who) : exec (.traceEnd w) s = s.run fun s => s.writeTraceCtrl w 3 := (rfl)
theorem exec_samplesRead (w : Who) (first : Nat) (count : Nat) :
    exec (.samplesRead w first count) s = s.run fun s => s.samplesRead w first count := (rfl)
theorem exec_modeReqStage (w : Who) : exec (.modeReqStage w) s = s.run fun s => s.writeModeReq w 3 := (rfl)
theorem exec_modeReqRestore (w : Who) : exec (.modeReqRestore w) s = s.run fun s => s.writeModeReq w 4 := (rfl)
theorem exec_modeReqService (w : Who) : exec (.modeReqService w) s = s.run fun s => s.writeModeReq w 5 := (rfl)
theorem exec_modeReqIsolate (w : Who) : exec (.modeReqIsolate w) s = s.run fun s => s.writeModeReq w 6 := (rfl)
theorem exec_isolateEntry : exec .isolateEntry s = s.run State.isolateEntry := (rfl)
theorem exec_modeReqQuarantine (w : Who) : exec (.modeReqQuarantine w) s = s.run fun s => s.writeModeReq w 7 := (rfl)
theorem exec_modeReqDormant (w : Who) : exec (.modeReqDormant w) s = s.run fun s => s.writeModeReq w 0 := (rfl)
theorem exec_dormantEntry : exec .dormantEntry s = s.run State.dormantEntry := (rfl)
theorem exec_fabPgAssert : exec .fabPgAssert s = s.run State.fabPgAssert := (rfl)
theorem exec_fabPgTimeout : exec .fabPgTimeout s = s.run State.fabPgTimeout := (rfl)
theorem exec_fabPgDeassert : exec .fabPgDeassert s = s.run State.fabPgDeassert := (rfl)
theorem exec_wakeSelftestDone (failed : Nat) (lodes : List Nat) :
    exec (.wakeSelftestDone failed lodes) s = s.run fun s => s.selftestDone failed lodes := (rfl)
theorem exec_attestDone : exec .attestDone s = s.run State.attestDone := (rfl)
theorem exec_powerOnReset (mapsel : Bool) (ddrNone : Bool) :
    exec (.powerOnReset mapsel ddrNone) s = s.run fun s => s.powerOnReset 0 mapsel ddrNone false := (rfl)
theorem exec_porstAssert :
    exec .porstAssert s = s.run fun s => s.powerOnReset 0 (s.reg O.matrixMapsel == 1) s.sys.ddrNone true := (rfl)
theorem exec_sysReset (w : Who) (v : Nat) : exec (.sysReset w v) s = s.run fun s => s.writeSysReset w v := (rfl)
theorem exec_bootComplete : exec .bootComplete s = s.run State.bootComplete := (rfl)
theorem exec_fwStageBegin (w : Who) (v : Nat) :
    exec (.fwStageBegin w v) s = s.run fun s => s.writeStageBegin w v := (rfl)
theorem exec_fwEraseDone : exec .fwEraseDone s = s.run State.eraseDone := (rfl)
theorem exec_fwStageSegment (w : Who) (k : Nat) (bytes : List Byte) :
    exec (.fwStageSegment w k bytes) s = s.run fun s => s.writeStageSegment w k bytes := (rfl)
theorem exec_fwCommit (w : Who) :
    exec (.fwCommit w) s = s.run fun s => s.fwTarget w (fwCommitOp (holderOf w)) := (rfl)
theorem exec_fwAbort (w : Who) : exec (.fwAbort w) s = s.run fun s => s.fwTarget w (fwAbortOp (holderOf w)) := (rfl)
theorem exec_fwActivate (w : Who) (v : Nat) : exec (.fwActivate w v) s = s.run fun s => s.writeActivate w v := (rfl)
theorem exec_keeperRestartDone : exec .keeperRestartDone s = s.run State.restartDone := (rfl)
theorem exec_fwConfirm (w : Who) (v : Nat) : exec (.fwConfirm w v) s = s.run fun s => s.writeConfirm w v := (rfl)
theorem exec_trialTimeout : exec .trialTimeout s = s.run State.trialTimeout := (rfl)
theorem exec_revokeKey0 (w : Who) (v : Nat) : exec (.revokeKey0 w v) s = s.run fun s => s.writeRevoke w v := (rfl)
theorem exec_svnCommit (w : Who) (v : Nat) : exec (.svnCommit w v) s = s.run fun s => s.writeSvnCommit w v := (rfl)
theorem exec_attestNonce (w : Who) (nonce : List Byte) :
    exec (.attestNonce w nonce) s = s.run fun s => s.writeNonce w nonce := (rfl)
theorem exec_attestReportDone : exec .attestReportDone s = s.run State.reportDone := (rfl)
theorem exec_registerWrite (w : Who) (idx : Nat) (elem : Nat) (v : Nat) :
    exec (.registerWrite w idx elem v) s = s.run fun s => s.registerWrite w idx elem v := (rfl)
theorem exec_crierLatchReload : exec .crierLatchReload s = s.run State.crierReload := (rfl)
theorem exec_timePortLinkDown (k : Nat) :
    exec (.timePortLinkDown k) s = s.runIn k 2 fun s => s.timeLinkDown k := (rfl)

end Sys2Proof.Machine
end

