-- ==== Sys2Proof/Laws/Refusals.lean ====
section
/-! SUPPORT. Refused commands: a meaning that refuses has no effect. -/

namespace Sys2Proof.Machine

theorem sameParts_refused (s : State) (w : Who) (code : Nat) :
    SameParts s ((s.fresh.refuse w code).withQueue s.pending) := by
  cases w <;> exact ⟨rfl, rfl, rfl, rfl, rfl, rfl, rfl, rfl, rfl, rfl, rfl, rfl, rfl, rfl, rfl, rfl, rfl, rfl, rfl, rfl,
    rfl, rfl, rfl, rfl, rfl, rfl⟩

/-- A meaning that answers with a refusal refuses. -/
theorem refuses_of {c : Instr} {s : State} {w : Who} {code : Nat} {f : State → State} (hc : exec c s = s.run f)
    (hf : f s.fresh = s.fresh.refuse w code) : Refuses c s code := by
  refine ⟨_, hc.trans (s.run_eq f), ?_⟩
  rw [hf]
  cases w with
  | master k => exact ⟨rfl, rfl, rfl, sameParts_refused s _ _, fun i e hi => State.reg_setReg_obj _ hi⟩
  | _ => exact ⟨rfl, rfl, rfl, sameParts_refused s _ _, fun _ _ _ => rfl⟩

/-- A write that fails a general check refuses with its code. -/
theorem State.write_refused {s : State} {w : Who} {idx e v : Nat} {op : State → State × Nat} {pre : Nat}
    (h : s.gate w idx e ≠ 0) : s.write w idx e v op pre = s.refuse w (s.gate w idx e) := by simp [State.write, h]

/-- A write whose chapter's check fails refuses with its code. -/
theorem State.write_refused_pre {s : State} {w : Who} {idx e v : Nat} {op : State → State × Nat} {pre : Nat}
    (h : s.gate w idx e = 0) (hp : pre ≠ 0) : s.write w idx e v op pre = s.refuse w pre := by simp [State.write, h, hp]

/-- A write of bytes that fails a general check refuses with its code. -/
theorem State.writeBytes_refused {s : State} {w : Who} {idx e n : Nat} {v : List Byte} {op : State → State × Nat}
    (h : s.gate w idx e ≠ 0) : s.writeBytes w idx e n v op = s.refuse w (s.gate w idx e) := by
  simp [State.writeBytes, h]

end Sys2Proof.Machine
end

