-- ==== Sys2Proof/Laws/Writes.lean ====
section
/-! SUPPORT. Accepted host accesses: what a write that stores, and a read that clears, leave behind. -/

namespace Sys2Proof.Machine

/-- A write to one element leaves every other element of every object alone. -/
theorem State.reg_setReg_ne (s : State) {i e v j f : Nat} (he : e < 2 ^ 24) (hf : f < 2 ^ 24) (h : (j, f) ≠ (i, e)) :
    (s.setReg i e v).reg j f = s.reg j f := by
  by_cases hj : j = i
  · subst hj
    exact s.reg_setReg_elem he hf (fun c => h (by rw [c]))
  · exact s.reg_setReg_obj hj

/-- Every row of a table has at most 2^24 elements. -/
def rowsSmall (l : List Obj) : Bool := l.all fun o => decide (o.cnt ≤ 2 ^ 24)

theorem rows10_small : rowsSmall rows10 = true := by decide
theorem rows11_small : rowsSmall rows11 = true := by decide
theorem rows12_small : rowsSmall rows12 = true := by decide
theorem rows20_small : rowsSmall rows20 = true := by decide
theorem rows28_small : rowsSmall rows28 = true := by decide
theorem rows30_small : rowsSmall rows30 = true := by decide
theorem rows40_small : rowsSmall rows40 = true := by decide
theorem rows50_small : rowsSmall rows50 = true := by decide
theorem rows60_small : rowsSmall rows60 = true := by decide
theorem rows68_small : rowsSmall rows68 = true := by decide
theorem rows6C_small : rowsSmall rows6C = true := by decide
theorem rows70_small : rowsSmall rows70 = true := by decide
theorem rows74_small : rowsSmall rows74 = true := by decide
theorem rows78_small : rowsSmall rows78 = true := by decide
theorem rows7C_small : rowsSmall rows7C = true := by decide
theorem rows7E_small : rowsSmall rows7E = true := by decide

theorem rowsSmall_find {l : List Obj} {p : Obj → Bool} {o : Obj} (h : rowsSmall l = true) (hf : l.find? p = some o) :
    o.cnt ≤ 2 ^ 24 := by
  simpa using List.all_eq_true.mp h o (List.mem_of_find?_eq_some hf)

theorem rowsSmall_ite {c : Prop} [Decidable c] {a b : List Obj} (ha : rowsSmall a = true) (hb : rowsSmall b = true) :
    rowsSmall (if c then a else b) = true := by
  split <;> assumption

theorem rowsOf_small (k : Nat) : rowsSmall (rowsOf k) = true :=
  rowsSmall_ite rows10_small <|
  rowsSmall_ite rows11_small <|
  rowsSmall_ite rows12_small <|
  rowsSmall_ite rows20_small <|
  rowsSmall_ite rows28_small <|
  rowsSmall_ite rows30_small <|
  rowsSmall_ite rows40_small <|
  rowsSmall_ite rows50_small <|
  rowsSmall_ite rows60_small <|
  rowsSmall_ite rows68_small <|
  rowsSmall_ite rows6C_small <|
  rowsSmall_ite rows70_small <|
  rowsSmall_ite rows74_small <|
  rowsSmall_ite rows78_small <|
  rowsSmall_ite rows7C_small <|
  rowsSmall_ite rows7E_small <|
  rfl

theorem objAt_cnt {i : Nat} {o : Obj} (h : objAt i = some o) : o.cnt ≤ 2 ^ 24 := by
  unfold objAt at h
  split at h
  · exact rowsSmall_find rows20_small h
  · exact rowsSmall_find (rowsOf_small _) h

/-- An element that the general checks let through is one the dictionary can name. -/
theorem State.gate_elem (s : State) {w : Who} {i e : Nat} (h : s.gate w i e = 0) : e < 2 ^ 24 := by
  unfold State.gate at h
  split at h
  · simp at h
  · split at h
    · simp at h
    · rename_i o ho
      split at h
      · split at h <;> simp at h
      · exact lt_of_lt_of_le (by omega) (objAt_cnt ho)

theorem State.readGate_elem (s : State) {w : Who} {i e : Nat} (h : s.readGate w i e = 0) : e < 2 ^ 24 := by
  unfold State.readGate at h
  split at h
  · simp at h
  · split at h
    · simp at h
    · rename_i o ho
      split at h
      · split at h <;> simp at h
      · exact lt_of_lt_of_le (by omega) (objAt_cnt ho)

/-- An accepted operation that has stored the value, and changed no other element, leaves the state of `Stored`. -/
theorem stored_of {s u : State} {w : Who} {i e v : Nat} (q : List Instr) (h : Allowed s w i e v)
    (hj : i ≠ O.ledgerJournalSeq) (he : evObj i = false) (hr : u.reg i e = v) (ho : OnlyElems [(i, e)] s u) :
    Stored s (((u.record i e v).answer 0).withQueue q) i e v := by
  have hk : ∀ {j f}, evObj j = false → j ≠ O.ledgerJournalSeq → (u.record i e v).reg j f = u.reg j f :=
    fun a b => u.record_reg a b
  refine ⟨?_, rfl, ?_⟩
  · simpa [hk he hj] using hr
  · intro j f hf hev hn hne
    simpa [hk hev hn] using ho j f hf hev (by simpa using hne)

end Sys2Proof.Machine
end

