-- ==== Sys2Proof/Tests/Slice0.lean ====
section
/-! SUPPORT. The model's own tests: examples of the spec, ill-formed commands, and for every statement with hypotheses
a state and operands that meet them. -/

set_option Elab.async false

namespace Sys2Proof.Tests

open Sys2Proof.Machine

/-! ## Small states -/

/-- Reset with the fabric island on, in mode SERVICE, and some registers. -/
def on (l : List (Nat × Nat × Nat)) : State :=
  let y := { SysS.init with mode := .service, booting := false, fabEn := true, fabPg := true, fabOn := true }
  l.foldl (fun s x => s.setReg x.1 x.2.1 x.2.2) { State.reset with sys := y }

def sysOf (f : SysS → SysS) (s : State) : State := { s with sys := f s.sys }
def mapOf (f : MapS → MapS) (s : State) : State := { s with map := f s.map }
def grpOf (f : GrpS → GrpS) (s : State) : State := { s with grp := f s.grp }
def protOf (f : ProtS → ProtS) (s : State) : State := { s with prot := f s.prot }
def ledOf (f : LedS → LedS) (s : State) : State := { s with led := f s.led }
def refOf (f : RefS → RefS) (s : State) : State := { s with ref := f s.ref }
def timOf (f : TimS → TimS) (s : State) : State := { s with tim := f s.tim }
def memOf (f : MemS → MemS) (s : State) : State := { s with mem := f s.mem }
def mtxOf (f : MtxS → MtxS) (s : State) : State := { s with mtx := f s.mtx }
def hdpOf (f : HdpS → HdpS) (s : State) : State := { s with hdp := f s.hdp }
def fwOf (f : FwS → FwS) (s : State) : State := { s with fw := f s.fw }
def asyOf (f : AsyS → AsyS) (s : State) : State := { s with asy := f s.asy }
def talOf (f : TalS → TalS) (s : State) : State := { s with tal := f s.tal }
def fabOf (f : FabS → FabS) (s : State) : State := { s with fab := f s.fab }
def regsOf (l : SMap Nat) (s : State) : State := { s with regs := l }
def clkOf (c : Clk) (s : State) : State := { s with clk := c }

/-- A digest record of frame 0. -/
def rec0 : DRec :=
  { kind := 0, plane := 0, place := 0, port := 0, t := 0, dig := 0, cnt := 0, first := 0, epoch := false, done := false,
    aged := false, judged := false }

/-- A generation of 144 bytes with its SHA-256. -/
def imageHead : List Byte := List.replicate 40 0 ++ toBytes 4 144 ++ List.replicate 68 0
def image : List Byte := imageHead ++ sha256 imageHead

/-- A journal entry of sequence 1 with no payload. -/
def entry : List Byte := toBytes 6 1 ++ List.replicate 10 0

/-- A tagged word in flight. -/
def tagged : TagW :=
  { tag := 1, src := 0, dst := 0, lode := some 0, code := 0, round := 0, fsn := 0, tick := 0, sps := some 0,
    ets := some 0 }

/-- A frame of 18 bytes with its FCS. -/
def frame : List Byte := List.replicate 14 0 ++ fcs (List.replicate 14 0)

/-- A launch record of a 60-byte frame for time port 0 at 1 s. -/
def launchRec : List Byte :=
  [96, 0] ++ toBytes 2 60 ++ toBytes 12 (2 ^ 48) ++ toBytes 4 7 ++ List.replicate 60 0

/-- A transaction of master 0 to a target. -/
def txn (t k : Nat) : Txn :=
  { master := 0, id := 0, kind := k, addr := 0, len := 8, data := List.replicate 8 (1, true), operand := 0, flip := 0,
    qos := 0, target := t, zone := false, granted := false, age := 0, tick := 0, status := 0, result := [],
    fetch := false, due := false, early := false, held := false, base := 0 }

/-- The flash with a first boot descriptor of SEQ 1, its other bytes erased but for its CRC (R463). -/
def bootHead : List Byte := toBytes 4 0x42445343 ++ toBytes 6 1 ++ List.replicate 53 255
def bootRest : List Byte := List.replicate 63 255

def bootOne : State :=
  memOf (fun x => { x with flash := putMem 0xFF (putMem 0xFF [] 0 (bootHead.take 10)) 252 (toBytes 4 1085171158) })
    (on [])

theorem boot_crc : crc32 (bootHead ++ (bootRest ++ (bootRest ++ bootRest))) = 1085171158 := by
  have h0 : crcBytes bootHead crcInit = 1485705536 := by decide +kernel
  have h1 : crcBytes bootRest 1485705536 = 2896955326 := by decide +kernel
  have h2 : crcBytes bootRest 2896955326 = 3243004756 := by decide +kernel
  have h3 : crcBytes bootRest 3243004756 = 3209796137 := by decide +kernel
  have h (a b : List Byte) (c : Nat) : crcBytes (a ++ b) c = crcBytes b (crcBytes a c) := List.foldl_append
  rw [crc32, h, h0, h, h1, h, h2, h3]
  rfl

theorem boot_ok : bootOne.recordOk 0 = true := by
  have h : fld (getMem 0xFF bootOne.mem.flash 0 4) 0 4 = 0x42445343 := by decide +kernel
  have g : getMem 0xFF bootOne.mem.flash 0 252 = bootHead ++ (bootRest ++ (bootRest ++ bootRest)) := by decide +kernel
  have c : fld (getMem 0xFF bootOne.mem.flash 252 4) 0 4 = 1085171158 := by decide +kernel
  simp only [State.recordOk, Nat.mul_zero, Nat.zero_add, h, g, boot_crc, c, beq_self_eq_true, Bool.and_self]

/-- Ingress port 0 reads ITS entry 1 in colour 5, egress port 2 selects it, and its slot 9 reads that colour. -/
def mapped : State :=
  fabOf (fun x => { x with cur := ⟨[(5, 1)], [(5 * 96 + 2, 0)], [(2 * 1280 + 9, 5)], []⟩,
                           its := [(itsKey 1 1, Cell.mk' .word 77)], ets := [(etsKey 1 2 5, Cell.mk' .word 78)] })
    (on [])

/-- DDR4 READY, all of it open to the masters. -/
def ddrOn : State :=
  on ((O.memDdrState, 0, 3) :: (O.memDdrSize, 0, 8) :: (O.memDdrLsSize, 0, 0) :: (O.memDdrTraceSize, 0, 0) ::
    (List.range 4).map fun c => (O.memDdrChState, c, 2))

/-- Port 0 up, session 0 with a key, and a request with its MAC. -/
def served : State :=
  hdpOf (fun x => { x with linkUp := [0] }) (on [(O.secKeyState, 0, 1), (O.secRights, 0, 15), (O.hdpEncap, 0, 2),
    (O.hdpUdpPort, 0, 4000), (O.hdpIpv6, 0, 7)])
def enc0 : Encap := .udp 1 2 7 9 4000 4001
def wire (h : Hdp) : List Byte := h.wire (hmac [] (h.wire []))
def bulk0 : Bulk :=
  { ses := 0, xfer := 3, idx := O.mapDraftSrc, sub := 0, elem := 0, total := 4000, got := [], last := 0, lastSeg := 0,
    closed := none }

/-- A stretch of the lane that holds the FAW from raw bit `c` on. -/
def fawLane (c : Nat) : Lane := ⟨c, 0, levelsOf (bitsOf 96 faw.toNat)⟩

/-- The FSN word of frame 0 of version 1 that begins at raw bit 5. -/
def fsnLane : Lane := ⟨101, 0, levelsOf (bitsOf 48 ksFsn)⟩

/-- The two halves of its row-1 RMW (R74). -/
def row1Lanes : List Lane :=
  [⟨1468481, 0, levelsOf (bitsOf 24 (rmw 1 0 / 2 ^ 24))⟩,
    ⟨1468805, 0, levelsOf (bitsOf 24 (rmw 1 0))⟩]

/-- The blocks of a record on a lane, between control blocks. -/
def laneIn (l : List Block) : WitIn := .lane (idleBlock :: laneBlocks idlePay (l.map BitVec.toNat))

/-- A version 1 frame of zero words. -/
def zeroFrame : LinkFrame :=
  ⟨(List.range 9).map fun q => List.replicate (rowOvh 1 q) 0, List.replicate 405 (List.replicate 640 0)⟩

theorem zero_words : ∀ r ∈ zeroFrame.ovh ++ zeroFrame.pay, ∀ w ∈ r, w < 2 ^ 48 := by
  intro r hr w hw
  rcases List.mem_append.mp hr with h | h
  · obtain ⟨q, -, rfl⟩ := List.mem_map.mp h
    rw [List.eq_of_mem_replicate hw]
    decide
  · rw [List.eq_of_mem_replicate h] at hw
    rw [List.eq_of_mem_replicate hw]
    decide

theorem zero_rounds : ∀ r ∈ zeroFrame.pay, r.length = roundPay 1 := by
  intro r h
  rw [List.eq_of_mem_replicate h]
  decide +kernel

/-- An exporter that waits for the responses to its requests, and a refusal of the spare for one of them. -/
def exporter : State := { served with led := { LedS.init with xfly := [5] } }.setReg O.ledgerExportState 0 3
def spareHdr (idx : Nat) (k : Fin 8) : Hdp := ⟨2, 128, k.val, 5, 0, idx, 0, 0, 0, 0, 0x0804, []⟩
def spareWire (idx : Nat) (k : Fin 8) : List Byte := (spareHdr idx k).wire (List.replicate 32 0)

theorem spare_answer : ∀ k : Fin 8,
    hdpParse (spareWire O.ledgerRxSeal k) = some (spareHdr O.ledgerRxSeal k) ∧
    hdpMac (spareWire O.ledgerRxSeal k) = List.replicate 32 0 ∧
    hdpParse (spareWire O.ledgerJournalRx k) = some (spareHdr O.ledgerJournalRx k) ∧
    hdpMac (spareWire O.ledgerJournalRx k) = List.replicate 32 0 := by decide +kernel

/-- The exporter's session holds no key here, and so its MAC is zeros. -/
theorem spare_said (idx : Nat) (h : hdpMac (spareWire idx Config.spareSlot) = List.replicate 32 0) :
    exporter.spareSaid (spareHdr idx Config.spareSlot) (spareWire idx Config.spareSlot) = true := by
  have hk : macOf exporter.spareKey ((spareWire idx Config.spareSlot).take
      ((spareWire idx Config.spareSlot).length - 32)) = List.replicate 32 0 := rfl
  simp [State.spareSaid, hk, h, spareHdr, Config.spareSession]

/-- A response of no spare: its MAC is none of the exporter's session. -/
def notSpareHdr : Hdp := ⟨1, 128, 0, 5, 0, O.identDevid, 0, 0, 0, 0, 0, []⟩
def notSpare : List Byte := notSpareHdr.wire (List.replicate 32 1)
theorem not_spare : hdpParse notSpare = some notSpareHdr ∧ hdpMac notSpare = List.replicate 32 1 := by decide +kernel
theorem not_spare_said : served.spareSaid notSpareHdr notSpare = false := by
  have hk : macOf served.spareKey (notSpare.take (notSpare.length - 32)) = List.replicate 32 0 := rfl
  rw [State.spareSaid, hk, not_spare.2]
  exact Bool.and_false _

/-! ## Worked examples and check values -/

/-- The first 64 keystream bits (after R60). -/
theorem test_keystream : (keystream 64 ksStart 0).1 = 0x0000000E000000FC := by decide +kernel

/-- Where the row-1 Row Marker Word stands: whole in version 2, in two halves in version 1 (R74). -/
theorem test_row1_places :
    ovhRaw 2 1 0 0 = 2937600 ∧ ovhRaw 2 1 0 47 = 2937647 ∧ ovhRaw 1 1 0 0 = 1468476 ∧ ovhRaw 1 1 0 24 = 1468800 := by
  decide

/-- The balls of port 58 (chapter 16). -/
theorem test_port_58_balls :
    laneBallName 58 true true = "CH29" ∧ laneBallName 58 true false = "CH30" ∧ laneBallName 58 false true = "CE29" := by
  decide +kernel

/-- The pairs 00, 01, 11, 10 are levels 0 to 3 (R45). -/
theorem test_levels : levelsOf [false, false, false, true, true, true, true, false] = [0, 1, 2, 3] := by decide

/-- Minor grain 700 of a version 2 frame: pointer word at row 1, h 18; NJO at row 5, h 29; PJO n = 230 (chapter 2). -/
theorem test_grain_700 : ptrAt 2 700 = 256 + 18 ∧ njoAt 2 700 = 5 * 256 + 29 ∧ pjoN 2 700 = 230 := by decide

/-- A handshake word as sent is valid, and its complement in one bit is not (R65). -/
theorem test_handshake : hsValid (hsWord 1 2 0 0 true) = true ∧ hsValid (hsWord 1 2 0 0 true ^^^ 2 ^ 27) = false := by
  decide +kernel

/-- SHA-256 of "abc" (FIPS 180-4). -/
theorem test_sha256 :
    ofBytes (sha256 [0x61, 0x62, 0x63]) =
      0xBA7816BF8F01CFEA414140DE5DAE2223B00361A396177A9CB410FF61F20015AD := by decide +kernel

/-- Word 12 of the Crier bus (chapter 11). -/
theorem test_crier_port_12 :
    ((on [(O.portEnable, 12, 1), (O.portAlignState, 12, 3), (O.portNegState, 12, 5), (O.portVersion, 12, 0x22),
      (O.portRxPref, 12, 2 ^ 46), (O.portRxStatus, 38, 0x0C * 2 ^ 40), (O.powerSdIslandState, 0, 2),
      (O.grainRxState, 12 * 1280, 2)]).crierWord 12) = 0x768190C0 := by decide +kernel

/-- A bank word of zeros and one of ones: read as written, and with one flipped bit (R323). -/
theorem test_bank_word :
    (eccDec (eccEnc 0)).d = 0 ∧ (eccDec (eccEnc (2 ^ 48 - 1) ^^^ 2 ^ 17)).d = 2 ^ 48 - 1 ∧
      (eccDec (eccEnc (2 ^ 48 - 1) ^^^ 2 ^ 17)).fixed = true := by decide +kernel

/-- Atomics on 48 bits (R365): the sum wraps, stays at the largest value, or is the operand. -/
theorem test_atomics :
    atomicNew 0 (2 ^ 48 - 1) 2 = 1 ∧ atomicNew 1 (2 ^ 48 - 1) 2 = 2 ^ 48 - 1 ∧ atomicNew 2 7 2 = 2 := by decide

/-- A segment of a bulk write is a message of 1,092 bytes (chapter 11). -/
theorem test_bulk_segment :
    (Hdp.wire ⟨4, 64, 0, 1, 1, O.ledgerRxSegment, 5, 0, 0, 65536, 0, List.replicate 1024 0⟩
      (List.replicate 32 0)).length = 1092 := by decide +kernel

/-- A property of what a command leaves. -/
def after (c : Instr) (s : State) (f : State → Bool) : Bool :=
  match exec c s with
  | .next t => f t
  | _ => false

/-! ## Commands that run, that are refused, and that stop -/

/-- A token taken, and one that another holds (R403). -/
theorem test_token_take :
    (after (.tokenTake .keeper 1) (on [(O.maintTokenHolder, 1, 3)]) fun t =>
      t.out.status = 0 ∧ t.reg O.maintTokenHolder 0 = 0xFE ∧ t.reg O.maintTokenHolder 1 = 3) = true := by decide +kernel

theorem test_token_refused :
    (after (.tokenTake .keeper 2) (on [(O.maintTokenHolder, 1, 3)]) fun t =>
      t.out.status = 0x0402 ∧ t.reg O.maintTokenHolder 1 = 3) = true := by decide +kernel

/-- A write to an object of the fabric island while it is off (Table 11-6). -/
theorem test_island_off :
    (after (.grainSizeWrite .keeper 0 1) (sysOf (fun x => { x with fabOn := false }) (on [])) fun t =>
      t.out.status = 0x0506) = true := by decide +kernel

/-- A port is enabled where its island is ready, and refused where it is not (R32). -/
theorem test_port_enable :
    (portEnableOp 5 1 (on [(O.powerSdIslandState, 0, 1)])).2 = 0 ∧ (portEnableOp 5 1 (on [])).2 = 0x0505 := by
  decide +kernel

/-- A step takes the front of the queue and leaves the rest. -/
theorem test_step_queue :
    (match step (State.reset.withQueue [.porstAssert, .bootComplete]) with
      | .next t => t.pending == [.bootComplete] && t.sys.porst
      | _ => false) = true := by decide +kernel

/-! ## Ill-formed commands -/

theorem test_ill_formed_items :
    [Instr.cdrLock 96, .lineLate 122880, .recapture 6144, .witnessBlockLock 32, .inputLoss 13, .ppsEdge 3 none 0,
      .handoverDrainDone 256, .ddrAlert 4 true, .timePortLinkUp 2, .sdIslandReady 12, .masterQuiesced 8,
      .matrixGrant 8 0, .notify 8, .testStart 5, .watchdogExpiry 2].all (fun c => !c.wf) = true := by decide

theorem test_well_formed_items :
    [Instr.cdrLock 95, .lineLate 122879, .recapture 6143, .witnessBlockLock 31, .inputLoss 12, .ppsEdge 2 none 0,
      .handoverDrainDone 255, .ddrAlert 3 true, .timePortLinkUp 1, .sdIslandReady 11, .masterQuiesced 7,
      .matrixGrant 7 0, .notify 7, .testStart 4, .watchdogExpiry 1].all (fun c => c.wf) = true := by decide

theorem test_ill_formed_stops : exec (.cdrLock 96) (on []) = .fault .noSuch := rfl


/-! ## A state and operands that meet the hypotheses of each clause of each statement -/

theorem wit_flint_search_1 : ∃ (s : State) (p : Nat), p < 96 ∧ s.running p = true ∧ s.islandReady p = true ∧ s.reg
    O.portAlignState p = 0 :=
  ⟨on [(O.portEnable, 0, 1), (O.powerSdIslandState, 0, 1)], 0, by decide⟩

theorem wit_flint_search_2 : ∃ (s : State) (p : Nat) (c : Nat) (x : Lane), p < 96 ∧ s.hunting p = true ∧ fawDiff
    (s.fawAt p [x] c) ≤ 3 ∧ (∀ y ∈ (s.linkP p).cands, y.pos ≠ c) ∧ (s.linkP p).cands.length < 16 :=
  ⟨on [(O.portEnable, 0, 1), (O.portAlignState, 0, 1)], 0, 5, fawLane 5, by decide +kernel⟩

theorem wit_flint_search_3 : ∃ (s : State) (p : Nat) (c : Nat) (x : Lane), p < 96 ∧ s.hunting p = true ∧ fawDiff
    (s.fawAt p [x] c) ≤ 3 ∧ (∀ y ∈ (s.linkP p).cands, y.pos ≠ c) ∧ 16 ≤ (s.linkP p).cands.length :=
  ⟨(on [(O.portEnable, 0, 1), (O.portAlignState, 0, 1)]).setLink 0
    { LinkP.init with cands := (List.range 16).map fun i => ⟨i + 100, false⟩ }, 0, 5, fawLane 5, by decide +kernel⟩

theorem wit_flint_search_4 : ∃ (s : State) (p : Nat) (c : Nat) (x : Lane) (r : List Lane), p < 96 ∧ s.hunting p = true
    ∧ (∃ x ∈ (s.linkP p).cands, x.pos = c ∧ x.passed = false) ∧ s.row1Diff p c (x :: r) ≤ 3 :=
  ⟨(on [(O.portEnable, 0, 1), (O.portAlignState, 0, 1)]).setLink 0 { LinkP.init with cands := [⟨5, false⟩] }, 0, 5,
    fsnLane, row1Lanes, by decide +kernel⟩

theorem wit_flint_search_5 : ∃ (s : State) (p : Nat) (c : Nat) (x : Lane) (r : List Lane), p < 96 ∧ s.hunting p = true
    ∧ (∃ x ∈ (s.linkP p).cands, x.pos = c ∧ x.passed = false) ∧ 3 < s.row1Diff p c (x :: r) :=
  ⟨(on [(O.portEnable, 0, 1), (O.portAlignState, 0, 1)]).setLink 0 { LinkP.init with cands := [⟨5, false⟩] }, 0, 5,
    fawLane 5, [], by decide +kernel⟩

theorem wit_flint_search_6 : ∃ (s : State) (p : Nat) (c : Nat) (x : Lane), p < 96 ∧ s.hunting p = true ∧ s.unaligned p
    = true ∧ (∃ y ∈ (s.linkP p).cands, y.pos = c ∧ y.passed = true) ∧ fawDiff (s.fawAt p [x] (c + frameBits (s.rxVer
    p))) ≤ 3 :=
  ⟨(on [(O.portEnable, 0, 1), (O.portAlignState, 0, 1)]).setLink 0 { LinkP.init with cands := [⟨5, true⟩] }, 0, 5,
    fawLane 13219205, by decide +kernel⟩

theorem wit_flint_search_7 : ∃ (s : State) (p : Nat), p < 96 ∧ s.running p = true ∧ s.reg O.portAlignState p ≠ 0 :=
  ⟨on [(O.portEnable, 0, 1), (O.portAlignState, 0, 3)], 0, by decide⟩

theorem wit_link_negotiation_1 : ∃ (s : State) (p : Nat), p < 96 ∧ s.running p = true ∧ s.reg O.portNegState p = 4 ∧
    256 ≤ (s.linkP p).relock :=
  ⟨(on [(O.portEnable, 0, 1), (O.portNegState, 0, 4)]).setLink 0 { LinkP.init with relock := 256 }, 0, by decide⟩

theorem wit_link_negotiation_2 : ∃ (s : State) (p : Nat), p < 96 ∧ s.running p = true ∧ s.reg O.portNegState p = 5 ∧
    64 ≤ (s.linkP p).outFrames :=
  ⟨(on [(O.portEnable, 0, 1), (O.portNegState, 0, 5)]).setLink 0 { LinkP.init with outFrames := 64 }, 0, by decide⟩

theorem wit_link_negotiation_3 : ∃ (s : State) (p : Nat), p < 96 ∧ (s.linkP p).txReset = true ∧ s.reg O.portNegState p
    ≠ 3 :=
  ⟨(on []).setLink 0 { LinkP.init with txReset := true }, 0, by decide⟩

theorem wit_link_negotiation_4 : ∃ (s : State) (p : Nat), p < 96 ∧ 8000 ≤ (s.linkP p).degFrames :=
  ⟨(on []).setLink 0 { LinkP.init with degFrames := 8000 }, 0, by decide⟩

theorem wit_link_negotiation_5 : ∃ (s : State) (w : Who) (p : Nat) (v : Nat), Allowed s w O.linkRenegotiate p v ∧
    s.tokFree 7 (holderOf w) = true ∧ s.running p = true ∧ (s.linkQ p).tok = false :=
  ⟨on [(O.portEnable, 0, 1)], .keeper, 0, 1, by unfold Allowed; decide⟩

theorem wit_link_negotiation_6 : ∃ (s : State) (w : Who) (p : Nat) (v : Nat), Allowed s w O.linkVersionMax p v ∧
    s.tokFree 7 (holderOf w) = true ∧ s.running p = true ∧ (s.linkQ p).tok = false :=
  ⟨on [(O.portEnable, 0, 1)], .keeper, 0, 2, by unfold Allowed; decide⟩

theorem wit_link_negotiation_7 : ∃ (s : State) (w : Who) (p : Nat) (v : Nat), Allowed s w O.linkVersionExcluded p v :=
  ⟨on [(O.portEnable, 0, 1)], .keeper, 0, 2, by unfold Allowed; decide⟩

theorem wit_port_setup_1 : ∃ (s : State) (w : Who) (p : Nat), Allowed s w O.portEnable p 1 ∧ s.reg O.portEnable p ≠ 1
    ∧ (s.linkP p).stopPending = false ∧ s.islandReady p = true ∧ s.portAllowed p = true :=
  ⟨on [(O.powerSdIslandState, 0, 1)], .keeper, 0, by unfold Allowed; decide⟩

theorem wit_port_setup_2 : ∃ (s : State) (w : Who) (p : Nat), Allowed s w O.portEnable p 1 ∧ s.reg O.portEnable p ≠ 1
    ∧ (s.linkP p).stopPending = false ∧ s.islandReady p = true ∧ s.portAllowed p = false :=
  ⟨on [(O.powerSdIslandState, 0, 1), (O.protRole, 0, 4)], .keeper, 0, by unfold Allowed; decide⟩

theorem wit_port_setup_3 : ∃ (s : State) (w : Who) (p : Nat), Allowed s w O.portEnable p 0 ∧ s.reg O.portEnable p = 1
    ∧ s.portBusy p = false :=
  ⟨on [(O.portEnable, 0, 1)], .keeper, 0, by unfold Allowed; decide⟩

theorem wit_port_setup_4 : ∃ (s : State) (w : Who) (p : Nat), Allowed s w O.portEnable p 0 ∧ s.reg O.portEnable p = 1
    ∧ s.portBusy p = true :=
  ⟨on [(O.portEnable, 0, 1), (O.mapLiveSrc, 0, 0)], .keeper, 0, by unfold Allowed; decide⟩

theorem wit_port_setup_5 : ∃ (s : State) (w : Who) (p : Nat) (v : Nat), Allowed s w O.portRole p v ∧ (v = 0 ∨ ∀ x ∈
    s.entries O.groupLineCtx, x.1 / 1280 = p → 6144 ≤ x.2) :=
  ⟨on [], .keeper, 0, 1, by unfold Allowed; decide⟩

theorem wit_port_setup_6 : ∃ (s : State) (w : Who) (p : Nat) (v : Nat), Allowed s w O.linkTimeChannelEn p v :=
  ⟨on [], .keeper, 0, 1, by unfold Allowed; decide⟩

theorem wit_port_setup_7 : ∃ (s : State) (p : Nat), (s.linkP p).chanEnd = true :=
  ⟨(on [(O.portEnable, 0, 1), (O.portAlignState, 0, 3)]).setLink 0 { LinkP.init with chanEnd := true }, 0, by decide⟩

theorem wit_port_setup_8 : ∃ (s : State) (w : Who) (p : Nat) (v : Nat), Allowed s w O.linkTxEq p v ∧ eqOk v = true :=
  ⟨on [], .keeper, 0, 0x0002F6FE0000FCFE, by unfold Allowed; decide⟩

theorem wit_port_setup_9 : ∃ (s : State) (w : Who) (v : Nat), Allowed s w O.powerSdIslandEn 0 v ∧ s.tokFree 7
    (holderOf w) = true ∧ (∀ k i, k < 12 → i < 8 → bit (s.reg O.powerSdIslandEn) k = true → bit v k = false → s.reg
    O.portEnable (8 * k + i) ≠ 1 ∧ (s.linkP (8 * k + i)).stopPending = false) :=
  ⟨on [], .keeper, 0xFFF, ⟨by decide, by decide⟩, by decide, fun k _ hk _ _ hv => absurd hv (by revert k; decide)⟩

theorem wit_port_setup_10 : ∃ (s : State) (k : Nat), k < 12 ∧ s.sys.sdUp.head? = some k ∧ k ∉ s.sys.sdDrop :=
  ⟨sysOf (fun x => { x with sdUp := [0] }) (on []), 0, by decide⟩

theorem wit_grain_commands_1 : ∃ (s : State) (w : Who) (e : Nat) (v : Nat), Allowed s w O.grainSize e v ∧ s.locked =
    false ∧ (∀ i < 8, 6144 ≤ s.reg O.groupLineCtx (8 * e + i)) :=
  ⟨on [], .keeper, 0, 1, by unfold Allowed; decide⟩

theorem wit_grain_commands_2 : ∃ (s : State) (w : Who) (a : Nat) (v : Nat), Allowed s w O.grainTxForceAis a v :=
  ⟨on [], .keeper, 0, 1, by unfold Allowed; decide⟩

theorem wit_grain_commands_3 : ∃ (s : State) (w : Who) (p : Nat), Readable s w O.grainChanged p :=
  ⟨on [], .keeper, 0, by unfold Readable; decide⟩

theorem wit_grain_commands_4 : ∃ (s : State) (w : Who) (p : Nat), Readable s w O.groupLineChanged p :=
  ⟨on [], .keeper, 0, by unfold Readable; decide⟩

theorem wit_grain_commands_5 : ∃ (s : State) (a : Nat), a < 122880 ∧ (s.rxG a).reading = false ∧ (s.rxG a).writing =
    true ∧ 12 ≤ (s.rxG a).fill :=
  ⟨(on []).setRx 0 { RxG.init with writing := true, store := List.replicate 12 ⟨.word, [0], none⟩ }, 0, by decide⟩

theorem wit_grain_commands_6 : ∃ (s : State) (a : Nat), a < 122880 ∧ (s.txG a).mayNew = true ∧ (s.txG a).displaced =
    true :=
  ⟨(on []).setTx 0 { TxG.init with mayNew := true, displaced := true }, 0, by decide⟩

theorem wit_grain_commands_7 : ∃ (s : State) (a : Nat), a < 122880 :=
  ⟨(on []).setRx 0 { RxG.init with reading := true, sinceDep := 0, store := List.replicate 15 ⟨.word, [1], none⟩ }, 0,
    by decide⟩

theorem wit_grain_commands_8 : ∃ (s : State) (a : Nat), a < 122880 ∧ (∀ x ∈ s.rx, x.1 < 122880) ∧ SMap.find? s.rx a =
    none :=
  ⟨((on []).setRx 0 { RxG.init with reading := true }).setReg O.grainEsFill 5 8, 5, by decide⟩

theorem wit_grain_commands_9 : ∃ (s : State) (a : Nat) (g : RxG), a < 122880 ∧ (∀ x ∈ s.rx, x.1 < 122880) ∧
    s.rx.filter (fun x => x.1 == a) = [(a, g)] ∧ s.follower a = false :=
  ⟨(on []).setRx 0 { RxG.init with reading := true, store := [⟨.word, [1], none⟩] }, 0,
    { RxG.init with reading := true, store := [⟨.word, [1], none⟩] }, by decide⟩

theorem wit_grain_commands_10 : ∃ (s : State) (a : Nat) (n : Nat), (s.rxG a).reading = false :=
  ⟨on [], 0, 3, by decide⟩

theorem wit_grain_commands_11 : ∃ (s : State) (a : Nat) (n : Nat) (u : SUnit) (us : List SUnit), (s.rxG a).reading =
    true ∧ (s.rxG a).store = u :: us ∧ u.tag ≠ .ais ∧ (n ≠ 404 ∨ (s.rxG a).plan = 0) :=
  ⟨(on []).setRx 0 { RxG.init with reading := true, store := [⟨.word, [1], none⟩, ⟨.word, [2], none⟩] }, 0, 404,
    ⟨.word, [1], none⟩, [⟨.word, [2], none⟩], by decide⟩

theorem wit_grain_commands_12 : ∃ (s : State) (a : Nat), (s.rxG a).reading = true ∧ (s.rxG a).plan = -1 :=
  ⟨(on []).setRx 0 { RxG.init with reading := true, plan := -1 }, 0, by decide⟩

theorem wit_grain_commands_13 : ∃ (s : State) (a : Nat) (u : SUnit) (v : SUnit) (us : List SUnit), (s.rxG a).reading =
    true ∧ (s.rxG a).plan = 1 ∧ (s.rxG a).store = u :: v :: us ∧ u.tag ≠ .ais ∧ v.tag ≠ .ais :=
  ⟨(on []).setRx 0 { RxG.init with reading := true, plan := 1, store := [⟨.word, [1], none⟩, ⟨.word, [2], none⟩] }, 0,
    ⟨.word, [1], none⟩, ⟨.word, [2], none⟩, [], by decide⟩

theorem wit_grain_commands_14 : ∃ (s : State) (a : Nat) (n : Nat), (s.rxG a).reading = true ∧ (s.rxG a).store = [] ∧
    (n ≠ 404 ∨ (s.rxG a).plan = 0) :=
  ⟨(on []).setRx 0 { RxG.init with reading := true, writing := true }, 0, 7, by decide⟩

theorem wit_grain_commands_15 : ∃ (s : State) (a : Nat) (n : Nat) (u : SUnit) (us : List SUnit), (s.rxG a).reading =
    true ∧ (s.rxG a).store = u :: us ∧ u.tag = .ais ∧ (n ≠ 404 ∨ (s.rxG a).plan = 0) :=
  ⟨(on []).setRx 0 { RxG.init with reading := true, store := [⟨.ais, [0], none⟩, ⟨.word, [1], none⟩] }, 0, 404, ⟨.ais,
    [0], none⟩, [⟨.word, [1], none⟩], by decide⟩

theorem wit_grain_commands_16 : ∃ (s : State) (a : Nat) (u : SUnit), u.tag = .word ∧ (s.rxG a).writing = true :=
  ⟨(on []).setRx 0 { RxG.init with writing := true, store := List.replicate 24 ⟨.word, [1], none⟩ }, 0, ⟨.word, [2],
    none⟩, by decide⟩

theorem wit_grain_commands_18 : ∃ (s : State) (a : Nat) (n : Nat) (n0 : Nat) (bnd : Nat) (src : Bool), (bnd = 1 ∨ bnd
    = 2) :=
  ⟨(on [(O.grainTxState, 0, 2)]).setTx 0 { TxG.init with pend := 1 }, 0, 3, 0, 2, true, by decide⟩

theorem wit_grain_commands_21 : ∃ (s : State) (a : Nat) (n : Nat) (n0 : Nat) (c : Nat), s.reg O.grainTxState a = 1 ∧
    (s.txG a).placed = true ∧ (s.txG a).since = 0 ∧ (s.txG a).landing n n0 = c :=
  ⟨(on [(O.grainTxState, 0, 1)]).setTx 0 { TxG.init with placed := true, since := 0 }, 0, 3, 0,
    ({ TxG.init with placed := true, since := 0 } : TxG).landing 3 0, by decide⟩

theorem wit_grain_commands_22 : ∃ (s : State) (a : Nat) (n : Nat) (n0 : Nat), s.reg O.grainTxState a = 1 ∧ (s.txG
    a).placed = false :=
  ⟨(on [(O.grainTxState, 0, 1)]).setTx 0 { TxG.init with placed := false }, 0, 3, 0, by decide⟩

theorem wit_grain_commands_23 : ∃ (s : State) (a : Nat) (n : Nat) (n0 : Nat), s.reg O.grainTxState a = 2 ∧ (s.txG
    a).aisMark = true :=
  ⟨(on [(O.grainTxState, 0, 2)]).setTx 0 { TxG.init with aisMark := true }, 0, 3, 0, by decide⟩

theorem wit_grain_commands_24 : ∃ (s : State) (a : Nat) (n : Nat) (n0 : Nat), s.reg O.grainTxState a = 2 ∧ (s.txG
    a).aisMark = false ∧ (s.txG a).displaced = false ∧ ((s.txG a).pend = 0 ∨ (s.txG a).since ≠ 0) :=
  ⟨(on [(O.grainTxState, 0, 2)]).setTx 0 { TxG.init with pend := 2, since := 1 }, 0, 3, 0, by decide⟩

theorem wit_grain_commands_25 : ∃ (s : State) (a : Nat) (n : Nat) (n0 : Nat), s.reg O.grainTxState a = 2 ∧ (s.txG
    a).aisMark = false ∧ (s.txG a).displaced = false ∧ (s.txG a).pend ≠ 0 ∧ (s.txG a).since = 0 :=
  ⟨(on [(O.grainTxState, 0, 2), (O.grainTxPtr, 0, 404)]).setTx 0 { TxG.init with pend := -1 }, 0, 3, 0, by decide⟩

theorem wit_map_requests_1 : ∃ (s : State) (w : Who) (a : Nat) (v : Nat), Allowed s w O.mapDraftSrc a v ∧
    s.followerPend a = false ∧ v ≠ 0xFFFFFFFE ∧ s.locked = false :=
  ⟨on [], .keeper, 0, 1, by unfold Allowed; decide⟩

theorem wit_map_requests_2 : ∃ (s : State) (w : Who) (v : Nat), Allowed s w O.mapDraftRevert 0 v ∧ s.locked = false ∧
    RegsOk s :=
  ⟨on [], .keeper, 1, by unfold RegsOk Allowed; decide⟩

theorem wit_map_requests_3 : ∃ (s : State) (w : Who) (l : Nat) (v : Nat), Allowed s w O.fabricLodeState l v ∧ s.locked
    = false ∧ ¬ (s.lreg O.fabricLodeState l = 3 ∧ v = 0) :=
  ⟨on [], .keeper, 0, 1, by unfold Allowed; decide⟩

theorem wit_map_requests_4 : ∃ (s : State) (w : Who) (l : Nat), Allowed s w O.fabricLodeState l 0 ∧ s.locked = false ∧
    s.lreg O.fabricLodeState l = 3 ∧ s.sys.mode = .isolate ∧ s.tokFree 3 (holderOf w) = true ∧ s.asyRun 1 = none ∧
    s.asyQueue 1 = [] :=
  ⟨(sysOf (fun x => { x with mode := .isolate }) (on [])).setLive O.fabricLodeState 0 3, .keeper, 0,
    by unfold Allowed; decide⟩

theorem wit_map_requests_5 : ∃ (s : State) (w : Who), Allowed s w O.mapCommitReq 0 1 ∧ s.sys.mode ≠ .restore ∧
    s.commitCheck (holderOf w) (s.reg O.mapCommitMode) = 0 :=
  ⟨on [(O.mapCommitMode, 0, 3)], .keeper, by unfold Allowed; decide⟩

theorem wit_map_requests_6 : ∃ (s : State) (w : Who), bit (s.rights w) 2 = true ∧ s.sys.fabOn = true ∧ s.locked = true
    ∧ s.map.loaded = false ∧ s.deadlineDue = false ∧ s.NoRepair :=
  ⟨mapOf (fun x => { x with f := 16 }) (on [(O.mapState, 0, 1)]), .keeper, by unfold State.NoRepair; decide⟩

theorem wit_map_requests_7 : ∃ (s : State) (w : Who), bit (s.rights w) 2 = true ∧ s.sys.fabOn = true ∧ s.locked = true
    ∧ s.map.loaded = false ∧ s.deadlineDue = false ∧ (s.map.lodeDue = true ∨ s.map.origin = 1) ∧ s.sys.mode.commits =
    true :=
  ⟨mapOf (fun x => { x with f := 16, origin := 1 }) (on [(O.mapState, 0, 1)]), .keeper, by decide⟩

theorem wit_commit_life_1 : ∃ (s : State), (s.reg O.mapState = 1 ∨ s.map.resolve = true) :=
  ⟨on [(O.mapState, 0, 1)], by decide⟩

theorem wit_commit_life_2 : ∃ (s : State), s.locked = true ∧ s.map.loaded = false ∧ s.deadlineDue = true ∧ s.reg
    O.mapState = 2 ∧ s.map.resolve = false :=
  ⟨on [(O.mapState, 0, 2)], by decide⟩

theorem wit_commit_life_3 : ∃ (s : State), s.reg O.mapState = 1 ∧ s.map.loaded = false ∧ s.deadlineDue = true ∧
    s.sys.fabOn = true ∧ s.sys.mode.commits = true ∧ (s.map.origin = 1 ∨ s.map.lodeDue = true) :=
  ⟨mapOf (fun x => { x with origin := 1 }) (on [(O.mapState, 0, 1)]), by decide⟩

theorem wit_commit_life_4 : ∃ (s : State), s.reg O.mapState = 1 ∧ s.map.loaded = false ∧ s.deadlineDue = true ∧
    s.sys.fabOn = true ∧ s.sys.mode.commits = true ∧ s.map.origin = 2 ∧ s.map.lodeDue = false :=
  ⟨mapOf (fun x => { x with origin := 2 }) (on [(O.mapState, 0, 1)]), by decide⟩

theorem wit_commit_life_5 : ∃ (s : State), s.reg O.mapState = 1 ∧ s.map.loaded = false ∧ s.deadlineDue = true ∧
    s.NoRepair ∧ s.ownCommit = false :=
  ⟨on [(O.mapState, 0, 1)], by unfold State.NoRepair; decide⟩

theorem wit_commit_life_6 : ∃ (s : State), s.boundaryDue = true ∧ RegsOk s :=
  ⟨mapOf (fun x => { x with loaded := true }) (on [(O.mapState, 0, 2)]), by unfold RegsOk; decide⟩

theorem wit_commit_life_7 : ∃ (s : State), s.map.drain = true ∧ 2 ≤ s.clk.round ∧ s.sys.fabOn = true :=
  ⟨mapOf (fun x => { x with drain := true }) (clkOf ⟨38880, 3, 1⟩ (on [])), by decide⟩

theorem wit_group_commands_1 : ∃ (s : State) (w : Who) (c : Nat), Allowed s w O.groupType c 0 ∧ s.locked = false :=
  ⟨on [], .keeper, 0, by unfold Allowed; decide⟩

theorem wit_group_commands_2 : ∃ (s : State) (w : Who) (c : Nat) (v : Nat), Allowed s w O.groupType c v ∧ s.locked =
    false ∧ v ≠ 0 ∧ (s.lreg O.groupType c = 0 ∨ s.lreg O.groupType c = v) ∧ s.reg O.groupMode c ≠ 3 ∧ (s.setReg
    O.groupType c v).ctxRules c = 0 :=
  ⟨on [], .keeper, 0, 1, by unfold Allowed; decide⟩

theorem wit_group_commands_3 : ∃ (s : State) (w : Who) (a : Nat), Allowed s w O.groupLineCtx a 0xFFFF ∧ s.locked =
    false ∧ s.followerPend a = false :=
  ⟨on [], .keeper, 0, by unfold Allowed; decide⟩

theorem wit_group_commands_4 : ∃ (s : State) (w : Who) (a : Nat) (c : Nat), Allowed s w O.groupLineCtx a c ∧ s.locked
    = false ∧ s.followerPend a = false ∧ c < 6144 ∧ s.reg O.groupMode c ≠ 3 ∧ (6144 ≤ s.reg O.groupLineCtx a ∨ s.reg
    O.groupLineCtx a = c) ∧ (s.setReg O.groupLineCtx a c).ctxRules c = 0 :=
  ⟨on [], .keeper, 0, 0, by unfold Allowed; decide⟩

theorem wit_group_commands_5 : ∃ (s : State) (w : Who) (c : Nat) (v : Nat), Allowed s w O.groupLateness c v ∧ s.locked
    = false ∧ (s.setReg O.groupLateness c v).ctxRules c = 0 :=
  ⟨on [], .keeper, 0, 1, by unfold Allowed; decide⟩

theorem wit_group_commands_6 : ∃ (s : State) (w : Who) (c : Nat) (v : Nat), Allowed s w O.groupMargin c v ∧ s.locked =
    false ∧ (s.setReg O.groupMargin c v).ctxRules c = 0 :=
  ⟨on [], .keeper, 0, 20, by unfold Allowed; decide⟩

theorem wit_group_commands_7 : ∃ (s : State) (c : Nat), c ∈ s.grp.margins ∧ (s.ctx c).kind ≠ 0 :=
  ⟨grpOf (fun x => { x with margins := [0] }) ((on []).setCtx 0 { CtxS.init with kind := 1 }), 0, by decide⟩

theorem wit_group_commands_8 : ∃ (s : State) (c : Nat), c < 6144 ∧ (s.ctx c).kind ≠ 0 ∧ s.reg O.groupMode c = 2 ∧ 64 ≤
    (s.ctx c).cond :=
  ⟨(on [(O.groupMode, 0, 2)]).setCtx 0 { CtxS.init with kind := 1, cond := 64 }, 0, by decide⟩

theorem wit_group_commands_9 : ∃ (s : State) (c : Nat) (x : Nat), c < 6144 ∧ (s.ctx c).kind ≠ 0 ∧ s.reg O.groupMode c
    = 2 ∧ 8 ≤ (s.ctx c).noAligned ∧ (s.ctx c).hadAligned = false ∧ s.worstLate c = some x :=
  ⟨(((on [(O.groupMode, 0, 2)]).setCtx 0 { CtxS.init with kind := 1, noAligned := 8 }).setLine 0
    { LineS.init with tpoa := true }).setLive O.groupLineCtx 0 0, 0, 0, by decide⟩

theorem wit_group_commands_10 : ∃ (s : State) (a : Nat), a < 122880 ∧ s.reg O.groupLineState a = 2 ∧ s.offset (s.line
    a).ctx - (sMin (s.lreg O.groupMedia (s.line a).ctx) : Int) ≤ s.since (((s.line a).curT + 1) % 2 ^ 48) s.clk.round
    - 1 :=
  ⟨clkOf ⟨0, 300, 2⟩ (on [(O.groupLineState, 0, 2)]), 0, by decide⟩

theorem wit_group_commands_11 : ∃ (s : State) (a : Nat) (k : Nat) (r : Resv), a < 122880 ∧ s.grp.freeing.find? (fun x
    => x.1 % 122880 == a) = some (k, r) ∧ s.reg O.groupMode r.ctx = 3 ∧ (∀ x ∈ s.grp.freeing, x.1 ≠ k → x.2.ctx ≠
    r.ctx) :=
  ⟨grpOf (fun x => { x with freeing := [(0, ⟨0, 1, 0, 0, 0, 0, [], []⟩)] }) (on [(O.groupMode, 0, 3)]), 0, 0, ⟨0, 1,
    0, 0, 0, 0, [], []⟩, by decide⟩

theorem wit_group_commands_12 : ∃ (s : State) (n : Nat) (e : Int), n < 405 ∧ s.clk.fsn < 2 ^ 48 ∧ -2 ^ 48 < e ∧ e < 2
    ^ 48 :=
  ⟨clkOf ⟨0, 0, 5⟩ (on []), 3, -1, by decide⟩

theorem wit_group_commands_13 : ∃ (s : State) (l : LineS) (n : Nat), n ≠ 404 :=
  ⟨clkOf ⟨0, 0, 5⟩ (on []), LineS.init, 3, by decide⟩

theorem wit_group_commands_15 : ∃ (s : State) (a : Nat) (n : Nat) (t : Nat) (ws : List Word), (s.ctx (s.line
    a).ctx).started = true ∧ s.reg O.groupLineState a = 2 ∧ (sMin (s.lreg O.groupMedia (s.line a).ctx) : Int) ≤
    s.offset (s.line a).ctx - s.since t n ∧ s.offset (s.line a).ctx - s.since t n ≤ (s.lreg O.groupDepth (s.line
    a).ctx : Int) :=
  ⟨clkOf ⟨0, 10, 2⟩ (((((on [(O.groupLineState, 0, 2), (O.groupOffset, 0, 1500)]).setCtx 0
    { CtxS.init with started := true }).setLine 0 { LineS.init with live := false }).setLive O.groupDepth 0 3000)), 0,
    20, 1, [7], by decide⟩

theorem wit_group_commands_16 : ∃ (s : State) (a : Nat) (n : Nat) (t : Nat) (ws : List Word), (s.ctx (s.line
    a).ctx).started = true ∧ s.reg O.groupLineState a = 2 ∧ s.offset (s.line a).ctx - s.since t n < (sMin (s.lreg
    O.groupMedia (s.line a).ctx) : Int) ∧ s.offset (s.line a).ctx - s.since t n ≤ (s.lreg O.groupDepth (s.line a).ctx
    : Int) :=
  ⟨clkOf ⟨0, 10, 2⟩ ((((((on [(O.groupLineState, 0, 2), (O.groupOffset, 0, 1500)]).setCtx 0
    { CtxS.init with started := true }).setLine 0 { LineS.init with live := false }).setReg O.groupOffset 0 0).setLive
    O.groupDepth 0 3000)), 0, 20, 1, [7], by decide⟩

theorem wit_group_commands_17 : ∃ (s : State) (a : Nat) (q : Nat × Nat) (y : LEnt), (s.line a).at_ q = some y ∧ y.ais
    = false ∧ (if q.2 = 0 then y.go else (s.line a).releasing) = true :=
  ⟨(on []).setLine 0 { LineS.init with buf := [⟨5, 0, false, [7], 0, true⟩] }, 0, (5, 0), ⟨5, 0, false, [7], 0, true⟩,
    by decide⟩

theorem wit_group_commands_18 : ∃ (s : State) (a : Nat) (q : Nat × Nat) (y : LEnt), (s.line a).at_ q = some y ∧ (y.ais
    = true ∨ (if q.2 = 0 then y.go else (s.line a).releasing) = false) :=
  ⟨(on []).setLine 0 { LineS.init with buf := [⟨5, 1, true, [], 0, false⟩], releasing := true }, 0, (5, 1), ⟨5, 1,
    true, [], 0, false⟩, by decide⟩

theorem wit_group_commands_19 : ∃ (s : State) (c : Nat), c < 6144 :=
  ⟨clkOf ⟨0, 0, 5⟩ ((on [(O.groupOffset, 0, 1500)]).setCtx 0 { CtxS.init with step := 1 }), 0, by decide⟩

theorem wit_group_commands_20 : ∃ (s : State) (c : Nat) (a0 : Nat) (a1 : Nat) (t : Nat) (e : Int), (s.copyRank a0 t e
    (judging (s.lreg O.groupMedia c))).1 = 3 ∧ (s.copyRank a1 t e (judging (s.lreg O.groupMedia c))).1 ≠ 3 :=
  ⟨(on []).setLine 0 { LineS.init with buf := [⟨5, 0, false, [7], 0, true⟩], res := [(5, 1)] }, 0, 0, 1, 5, 200000000,
    by decide⟩

theorem wit_group_commands_21 : ∃ (s : State) (c : Nat) (a0 : Nat) (a1 : Nat) (t : Nat) (e : Int), (s.copyRank a0 t e
    (judging (s.lreg O.groupMedia c))).1 ≠ 3 ∧ (s.copyRank a1 t e (judging (s.lreg O.groupMedia c))).1 = 3 :=
  ⟨(on []).setLine 1 { LineS.init with buf := [⟨5, 0, false, [7], 0, true⟩], res := [(5, 1)] }, 0, 0, 1, 5, 200000000,
    by decide⟩

theorem wit_group_commands_22 : ∃ (s : State) (c : Nat) (a0 : Nat) (a1 : Nat) (t : Nat) (e : Int), (s.copyRank a0 t e
    (judging (s.lreg O.groupMedia c))).1 = 0 ∧ (s.copyRank a1 t e (judging (s.lreg O.groupMedia c))).1 = 0 :=
  ⟨on [], 0, 0, 1, 5, 200000000, by decide⟩

theorem wit_group_commands_23 : ∃ (s : State) (c : Nat) (a0 : Nat) (a1 : Nat) (t : Nat) (e : Int), (s.copyRank a0 t e
    (judging (s.lreg O.groupMedia c))).1 = 3 ∧ (s.copyRank a1 t e (judging (s.lreg O.groupMedia c))).1 = 3 :=
  ⟨((on []).setLine 0 { LineS.init with buf := [⟨5, 0, false, [7], 0, true⟩], res := [(5, 1)] }).setLine 1
    { LineS.init with buf := [⟨5, 0, false, [7], 0, true⟩], res := [(5, 1)] }, 0, 0, 1, 5, 200000000, by decide⟩

theorem wit_group_commands_25 : ∃ (s : State) (c : Nat) (a0 : Nat) (a1 : Nat) (q : Nat × Nat) (e : Int) (k : Nat) (y :
    LEnt), 2 ≤ q.2 ∧ (s.ctx c).chosen = some (q.1, k) ∧ k < 2 ∧ (s.line (if k = 0 then a0 else a1)).at_ q = some y ∧
    y.ais = false :=
  ⟨((on []).setCtx 0 { CtxS.init with chosen := some (5, 0) }).setLine 0
    { LineS.init with buf := [⟨5, 2, false, [9], 0, false⟩] }, 0, 0, 1, (5, 2), 0, 0, ⟨5, 2, false, [9], 0, false⟩,
    by decide⟩

theorem wit_group_commands_26 : ∃ (s : State) (c : Nat) (a0 : Nat) (a1 : Nat) (q : Nat × Nat) (e : Int), q.2 ≠ 0 ∧
    (s.ctx c).chosen = some (q.1, 2) :=
  ⟨(on []).setCtx 0 { CtxS.init with chosen := some (5, 2) }, 0, 0, 1, (5, 2), 0, by decide⟩

theorem wit_group_commands_27 : ∃ (s : State) (c : Nat) (a0 : Nat) (a1 : Nat) (t : Nat) (e : Int) (k : Nat) (j : Nat)
    (y : LEnt) (z : LEnt), s.major a0 = false ∧ (s.ctx c).chosen = some (t, k) ∧ k < 2 ∧ (s.ctx c).chosenPrev = some
    (j, 1 - k) ∧ (j + 1) % 2 ^ 48 = t ∧ (s.line (if k = 0 then a0 else a1)).at_ (t, 1) = some y ∧ y.ais = false ∧
    (s.line (if k = 0 then a1 else a0)).at_ (t, 1) = some z ∧ z.ais = false :=
  ⟨(((on []).setCtx 0 { CtxS.init with chosen := some (5, 0), chosenPrev := some (4, 1) }).setLine 0
    { LineS.init with buf := [⟨5, 1, false, [8], 0, false⟩] }).setLine 1
    { LineS.init with buf := [⟨5, 1, false, [3], 0, false⟩] }, 0, 0, 1, 5, 0, 0, 4, ⟨5, 1, false, [8], 0, false⟩, ⟨5,
    1, false, [3], 0, false⟩, by decide⟩

theorem wit_frame_clock_2 : ∃ (s : State) (io : RoundIn), s.clk.round < 405 :=
  ⟨on [], ⟨[], [], [], [], [], []⟩, by decide⟩

theorem wit_frame_clock_3 : ∃ (s : State) (io : RoundIn), 405 ≤ s.clk.round :=
  ⟨clkOf ⟨0, 405, 0⟩ (on []), ⟨[], [], [], [], [], []⟩, by decide⟩

theorem wit_frame_clock_5 : ∃ (s : State) (io : RoundIn), s.clk.round < 405 ∧ s.sys.fabOn = true :=
  ⟨on [], ⟨[], [], [], [], [], []⟩, by decide⟩

theorem wit_frame_clock_6 : ∃ (s : State) (io : RoundIn), s.clk.round < 405 ∧ s.sys.fabOn = false :=
  ⟨State.reset, ⟨[], [], [], [], [], []⟩, by decide⟩

theorem wit_frame_clock_7 : ∃ (s : State) (m : State) (io : RoundIn) (n : Nat) (e : Nat) (k : Nat), (if n = 0 then
    s.cutCapture else s).roundHead io n = m ∧ e < 96 ∧ k < 3840 :=
  ⟨on [], (on []).roundHead ⟨[], [], [], [], [], []⟩ 3, ⟨[], [], [], [], [], []⟩, 3, 0, 0, rfl, by decide, by decide⟩

theorem wit_frame_clock_8 : ∃ (s : State) (m : State) (io : RoundIn) (n : Nat) (a : Nat), (if n = 0 then s.cutCapture
    else s).roundHead io n = m ∧ a < 122880 :=
  ⟨on [], (on []).roundHead ⟨[], [], [], [], [], []⟩ 3, ⟨[], [], [], [], [], []⟩, 3, 0, rfl, by decide⟩

theorem wit_frame_clock_9 : ∃ (s : State) (io : RoundIn) (n : Nat) (e : Nat) (k : Nat) (i : Nat), s.fab.wrong = [] ∧
    io.hits = [] ∧ s.selAssigned k e = some i :=
  ⟨mapped, ⟨[], [], [], [], [], []⟩, 3, 2, 5, 0, by decide⟩

theorem wit_frame_clock_10 : ∃ (s : State) (io : RoundIn) (n : Nat) (e : Nat) (k : Nat), s.fab.wrong = [] ∧ io.hits =
    [] ∧ s.selAssigned k e = none ∧ s.testLode (k / 384) = false ∧ s.pathNow = none :=
  ⟨on [(O.assayEnable, 0, 0)], ⟨[], [], [], [], [], []⟩, 3, 2, 5, by decide⟩

theorem wit_frame_clock_11 : ∃ (s : State) (n : Nat) (i : Nat) (k : Nat) (x : Nat), s.fab.wrong = [] ∧ SMap.find?
    s.fab.cur.its (i * 3840 + k) = some x :=
  ⟨mapped, 3, 0, 5, 1, by decide⟩

theorem wit_frame_clock_12 : ∃ (s : State) (n : Nat) (i : Nat) (k : Nat), s.fab.wrong = [] ∧ SMap.find? s.fab.cur.its
    (i * 3840 + k) = none ∧ s.pathNow = none :=
  ⟨on [], 3, 0, 5, by decide⟩

theorem wit_frame_clock_13 : ∃ (s : State) (x : Nat) (k : Nat), s.fab.wrong = [] ∧ SMap.find? s.fab.cur.ets x = some k
    :=
  ⟨mapped, 2569, 5, by decide⟩

theorem wit_frame_clock_14 : ∃ (s : State) (x : Nat), s.fab.wrong = [] ∧ SMap.find? s.fab.cur.ets x = none :=
  ⟨on [], 7, by decide⟩

theorem wit_frame_clock_16 : ∃ (s : State) (n : Nat) (e : Nat) (k : Nat) (i : Nat) (c : Cell), (popCount 3 c.tag.code
    + popCount 48 c.data.toNat + b2n c.par) % 2 = 1 ∧ c.tag ≠ .test :=
  ⟨on [], 3, 2, 5, 0, ⟨.word, 1, true⟩, by decide⟩

theorem wit_frame_clock_18 : ∃ (s : State) (n : Nat) (e : Nat) (k : Nat) (i : Nat) (c : Cell), (popCount 3 c.tag.code
    + popCount 48 c.data.toNat + b2n c.par) % 2 = 0 ∧ c.tag = .test ∧ s.testChecked ⟨i, k / 384, e⟩ = true ∧ c.data ≠
    testData i k n s.clk.fsn ∧ s.fab.seen.contains (4, xptRes ⟨i, k / 384, e⟩) = false :=
  ⟨on [], 3, 2, 5, 0, Cell.mk' .test 1, by decide⟩

theorem wit_frame_clock_19 : ∃ (s : State), s.fab.newIts = true :=
  ⟨fabOf (fun x => { x with newIts := true, shadow := ⟨[(1, 2)], [], [(3, 4)], []⟩ }) (on []), by decide⟩

theorem wit_frame_clock_20 : ∃ (s : State), s.fab.newEts = true :=
  ⟨fabOf (fun x => { x with newEts := true, shadow := ⟨[(1, 2)], [], [(3, 4)], []⟩ }) (on []), by decide⟩

theorem wit_frame_clock_21 : ∃ (s : State) (cells : SMap Cell) (n : Nat) (a : Nat) (u : SUnit) (us : List SUnit),
    SMap.find? s.grp.lines a = none ∧ s.assayFaulted (a / 1280) = false ∧ s.portStopped (a / 1280) = false ∧ (s.rxG
    a).reading = true ∧ (s.rxG a).store = u :: us ∧ u.tag ≠ .ais ∧ n ≠ 404 ∧ s.major a = false :=
  ⟨(on [(O.portEnable, 0, 1)]).setRx 0 { RxG.init with reading := true, store := [⟨.word, [1], none⟩] }, [], 3, 0,
    ⟨.word, [1], none⟩, [], by decide⟩

theorem wit_witness_streams_1 : ∃ (s : State) (st : Nat), st < 32 ∧ s.streamThere st = true ∧ s.streamState st = 0 :=
  ⟨on [(O.witnessLaneEn, 0, 1)], 0, by decide⟩

theorem wit_witness_streams_2 : ∃ (s : State) (st : Nat), st < 32 ∧ s.streamState st ≠ 0 :=
  ⟨on [(O.witnessStreamState, 0, 1)], 0, by decide⟩

theorem wit_witness_streams_3 : ∃ (s : State) (st : Nat), st < 32 ∧ s.streamState st ≠ 0 ∧ 8 ≤ (s.stream st).frames :=
  ⟨(on [(O.witnessStreamState, 0, 2)]).setStream 0 { WStr.init with frames := 8 }, 0, by decide⟩

theorem wit_witness_streams_4 : ∃ (s : State) (st : Nat) (x : WitIn) (l : List Block) (arrival : Nat), recordOf st x =
    l ∧ st < 32 ∧ s.streamThere st = true ∧ (s.stream st).lock = true ∧ recOk l = true ∧ recType l = 0x10 ∧ s.large =
    false ∧ s.role ≠ 4 ∧ (s.stream st).held = false ∧ s.streamState st = 1 ∧ (s.stream st).good = 1 ∧ (s.stream
    st).cand = bits (blk l 1) 63 32 :=
  ⟨(on [(O.witnessLaneEn, 0, 1), (O.witnessStreamState, 0, 1)]).setStream 0
    { WStr.init with lock := true, good := 1, cand := 0x12345000 }, 0, laneIn (mkRecord 0x10 0 [0x1234500000000000, 0,
    0, 0, 0, 0] 0), mkRecord 0x10 0 [0x1234500000000000, 0, 0, 0, 0, 0] 0, 0, by decide +kernel⟩

theorem wit_witness_streams_5 : ∃ (s : State) (st : Nat) (x : WitIn) (l : List Block) (c : Instr) (arrival : Nat),
    recordOf st x = l ∧ st < 32 ∧ s.streamThere st = true ∧ (s.stream st).lock = true ∧ recOk l = false ∧ c ∈
    [Instr.statusRecordRx st x arrival, .verdictRecordRx st x, .noticeRecordRx st x, .ingressRecordRx st x,
    .egressRecordRx st x] :=
  ⟨(on [(O.witnessLaneEn, 0, 1)]).setStream 0 { WStr.init with lock := true }, 0, laneIn [], [], .noticeRecordRx 0
    (laneIn []), 0, by decide +kernel⟩

theorem wit_witness_streams_6 : ∃ (s : State), s.large = true ∧ s.role ≠ 4 ∧ 8 ≤ s.prot.watch :=
  ⟨protOf (fun x => { x with watch := 8 }) (on [(O.protConfig, 0, 1)]), by decide⟩

theorem wit_witness_streams_7 : ∃ (s : State) (st : Nat) (x : WitIn) (l : List Block), recordOf st x = l ∧ st < 32 ∧
    s.streamThere st = true ∧ (s.stream st).lock = true ∧ recOk l = true ∧ recType l = 0x30 ∧ s.inUse st = true ∧ bits
    (blk l 1) 63 56 = 2 :=
  ⟨(on [(O.witnessLaneEn, 0, 1), (O.protRole, 0, 1), (O.witnessStreamState, 0, 2)]).setStream 0
    { WStr.init with lock := true }, 0, laneIn (mkRecord 0x30 0 [0x0200000000000007, 0, 0] 0), mkRecord 0x30 0
    [0x0200000000000007, 0, 0] 0, by decide +kernel⟩

theorem wit_verdicts_1 : ∃ (s : State) (st : Nat) (x : WitIn) (l : List Block), recordOf st x = l ∧ st < 32 ∧
    s.streamThere st = true ∧ (s.stream st).lock = true ∧ recOk l = true ∧ recType l = 0x20 ∧ s.isPlane = true ∧
    s.large = false ∧ s.inUse st = true ∧ dist48 (bits (blk l 1) 47 0) s.clk.fsn < 0 ∧ (∀ y ∈ s.prot.verdicts ++
    s.prot.applied, y.eff ≠ bits (blk l 1) 47 0) :=
  ⟨(on [(O.witnessLaneEn, 0, 1), (O.protRole, 0, 1), (O.witnessStreamState, 0, 2)]).setStream 0
    { WStr.init with lock := true }, 0, laneIn (mkRecord 0x20 0 [0x4000000000000003, 0] 0), mkRecord 0x20 0
    [0x4000000000000003, 0] 0, by decide +kernel⟩

theorem wit_verdicts_2 : ∃ (s : State) (v : Vrd), s.prot.verdicts = [v] ∧ 0 ≤ dist48 v.at_ s.clk.fsn ∧ (v.host = true
    ∨ s.unwatched = false) ∧ v.pref ≠ 0 ∧ (∀ x ∈ s.prot.applied, x.eff = v.eff → x.pref = v.pref) :=
  ⟨protOf (fun x => { x with verdicts := [⟨0, 1, 0, 0, false, 0, 0, true⟩] }) (on []), ⟨0, 1, 0, 0, false, 0, 0,
    true⟩, by decide⟩

theorem wit_verdicts_3 : ∃ (s : State) (v : Vrd) (x : Vrd), s.prot.verdicts = [v] ∧ 0 ≤ dist48 v.at_ s.clk.fsn ∧
    (v.host = true ∨ s.unwatched = false) ∧ x ∈ s.prot.applied ∧ x.eff = v.eff ∧ x.pref ≠ v.pref :=
  ⟨protOf (fun x =>
    { x with verdicts := [⟨0, 1, 0, 0, false, 0, 0, true⟩], applied := [⟨0, 2, 0, 0, false, 0, 0, true⟩] }) (on []),
    ⟨0, 1, 0, 0, false, 0, 0, true⟩, ⟨0, 2, 0, 0, false, 0, 0, true⟩, by decide⟩

theorem wit_verdicts_4 : ∃ (s : State), s.unwatched = true ∧ (∀ v ∈ s.prot.verdicts, v.host = false) :=
  ⟨on [(O.protFlags, 0, 1)], by decide⟩

theorem wit_verdicts_5 : ∃ (s : State), 1 ≤ s.standing.1 ∧ s.standing.1 ≤ 5 ∧ 8000 ≤ s.prot.clean.length ∧ s.unwatched
    = false ∧ s.prefsDiffer = false :=
  ⟨protOf (fun x => { x with clean := List.replicate 8000 0 }) (on [(O.protState, 0, 1), (O.protFlags, 0, 0)]),
    by decide +kernel⟩

theorem wit_verdicts_6 : ∃ (s : State), s.prefsDiffer = true :=
  ⟨(on [(O.protRole, 0, 1), (O.protState, 0, 4), (O.witnessStreamState, 0, 2), (O.protPref, 0, 1)]).setStream 0
    { WStr.init with last := some (1, 2), pref := 2 }, by decide⟩

theorem wit_verdicts_7 : ∃ (s : State) (w : Who) (v : Nat), Allowed s w O.protPrefSet 0 v ∧ (s.large = false ∨ s.role
    = 4) :=
  ⟨on [], .keeper, 1, by unfold Allowed; decide⟩

theorem wit_verdicts_8 : ∃ (s : State) (w : Who) (v : Nat), Allowed s w O.protRole 0 v ∧ (s.sys.mode = .dormant ∨
    s.sys.mode = .stage ∨ s.sys.mode = .isolate) ∧ (v = 4 → ∀ p < 96, s.reg O.portEnable p = 1 → s.lreg O.portRole p ≠
    0) :=
  ⟨sysOf (fun x => { x with mode := .stage }) (on []), .keeper, 4, by unfold Allowed; decide⟩

theorem wit_verdicts_9 : ∃ (s : State) (w : Who) (v : Nat), Allowed s w O.protPortFaultClear 0 v :=
  ⟨on [], .keeper, 1, by unfold Allowed; decide⟩

theorem wit_verdicts_10 : ∃ (s : State), s.prot.digestDue = true ∧ s.map.drain = false :=
  ⟨protOf (fun x => { x with digestDue := true }) (on []), by decide⟩

theorem wit_verdicts_11 : ∃ (s : State) (kind : Nat) (port : Nat) (t : Nat) (r : DRec), port < 96 ∧ (s.prot.recs.find?
    fun r => r.kind == kind && r.plane == s.plane && r.place == s.place && r.port == port && r.t == t && !r.done &&
    !r.aged) = some r ∧ (s.reg O.protDigestClose : Int) ≤ dist48 r.first s.clk.fsn :=
  ⟨clkOf ⟨0, 0, 1000⟩ (protOf (fun x => { x with recs := [rec0] }) (on [])), 0, 0, 0, rec0, by decide⟩

theorem wit_verdicts_12 : ∃ (s : State) (kind : Nat) (port : Nat) (t : Nat) (r : DRec), port < 96 ∧ s.prot.recs.filter
    (fun x => x.kind == kind && x.port == port && x.t == t) = [r] ∧ kind ≠ 1 ∧ (r.done = true ∨ r.aged = true) ∧
    (s.reg O.protDigestClose : Int) + 8 ≤ dist48 r.first s.clk.fsn :=
  ⟨clkOf ⟨0, 0, 1000⟩ (protOf (fun x => { x with recs := [{ rec0 with done := true }] }) (on [])), 0, 0, 0,
    { rec0 with done := true }, by decide⟩

theorem wit_verdicts_13 : ∃ (s : State) (kind : Nat) (port : Nat) (t : Nat) (r : DRec) (q : DRec), port < 96 ∧
    s.prot.recs.filter (fun x => x.kind == kind && x.port == port && x.t == t) = [r, q] ∧ kind ≠ 1 ∧ r.plane ≠ q.plane
    ∧ r.place = q.place ∧ (∀ x ∈ [r, q], (x.done = true ∨ x.aged = true) ∧ (s.reg O.protDigestClose : Int) + 8 ≤
    dist48 x.first s.clk.fsn) :=
  ⟨clkOf ⟨0, 0, 1000⟩ (protOf (fun x =>
    { x with recs := [{ rec0 with done := true }, { rec0 with done := true, plane := 1 }] }) (on [])), 0, 0, 0,
    { rec0 with done := true }, { rec0 with done := true, plane := 1 }, by decide +kernel⟩

theorem wit_verdicts_14 : ∃ (s : State) (st : Nat) (x : WitIn) (l : List Block), recordOf st x = l ∧ st < 32 ∧
    s.streamThere st = true ∧ (s.stream st).lock = true ∧ recOk l = true ∧ recType l = 1 ∧ s.isPlane = true ∧ s.large
    = false ∧ s.inUse st = true ∧ s.unwatched = false ∧ bits (blk l 1) 63 56 < 96 ∧ (∀ x ∈ s.prot.recs, x.t ≠ recKey
    l) :=
  ⟨(on [(O.witnessLaneEn, 0, 1), (O.protRole, 0, 1), (O.witnessStreamState, 0, 2), (O.protFlags, 0, 0)]).setStream 0
    { WStr.init with lock := true }, 0, laneIn (mkRecord 1 0 [0] 0), mkRecord 1 0 [0] 0, by decide +kernel⟩

theorem wit_verdicts_15 : ∃ (s : State) (st : Nat) (x : WitIn) (l : List Block), recordOf st x = l ∧ st < 32 ∧
    s.streamThere st = true ∧ (s.stream st).lock = true ∧ recOk l = true ∧ recType l = 2 ∧ s.isPlane = true ∧ s.large
    = false ∧ s.inUse st = true ∧ s.unwatched = false ∧ bits (blk l 1) 63 56 < 96 ∧ (∀ x ∈ s.prot.recs, x.t ≠ recKey
    l) :=
  ⟨(on [(O.witnessLaneEn, 0, 1), (O.protRole, 0, 1), (O.witnessStreamState, 0, 2), (O.protFlags, 0, 0)]).setStream 0
    { WStr.init with lock := true }, 0, laneIn (mkRecord 2 0 [0, 0] 0), mkRecord 2 0 [0, 0] 0, by decide +kernel⟩

theorem wit_verdicts_16 : ∃ (x : Tap) (a : SUnit) (b : SUnit) (us : List SUnit), a.tag = .tpoa ∧ a.ws.length = 1 ∧
    b.tag = .tpoa ∧ (∀ u ∈ us, u.tag = .empty ∨ (u.tag = .word ∧ u.ws.length = 1)) :=
  ⟨⟨0, 0, 0, 0, [], 0, false, 0, false, false⟩, ⟨.tpoa, [7], none⟩, ⟨.tpoa, [8], none⟩, ⟨.empty, [0], none⟩ ::
    List.replicate 404 ⟨.word, [1], none⟩, by decide, by decide, by decide, by decide +kernel⟩

theorem wit_verdicts_17 : ∃ (x : Tap) (u : SUnit), u.tag ≠ .tpoa ∧ u.tag ≠ .word ∧ u.tag ≠ .empty :=
  ⟨⟨9, 0, 0, 0, [], 0, false, 0, false, false⟩, ⟨.ais, [0], none⟩, by decide⟩

theorem wit_verdicts_18 : ∃ (x : Tap) (u : SUnit), x.pos = 0 ∧ u.tag ≠ .tpoa :=
  ⟨⟨0, 0, 0, 0, [], 0, false, 0, false, false⟩, ⟨.word, [1], none⟩, by decide⟩

theorem wit_verdicts_19 : ∃ (s : State) (kind : Nat) (port : Nat) (t : Nat) (crc : Nat) (n : Nat), (∀ r ∈ s.prot.recs,
    s.isRec r kind port t = false) :=
  ⟨on [], 0, 0, 0, 5, 1, by decide⟩

theorem wit_verdicts_20 : ∃ (s : State) (kind : Nat) (port : Nat) (t : Nat) (crc : Nat) (n : Nat), (∃ r ∈ s.prot.recs,
    s.isRec r kind port t = true) :=
  ⟨protOf (fun x => { x with recs := [rec0] }) (on []), 0, 0, 0, 5, 1, by decide⟩

theorem wit_verdicts_21 : ∃ (s : State) (e : Nat) (t : Nat) (crc : Nat) (kind : Nat), (kind = 1 ∨ kind = 2) ∧ (∀ r ∈
    s.prot.recs, s.isRec r 1 e t = false ∧ s.isRec r 2 e t = false) :=
  ⟨on [], 0, 0, 5, 1, by decide⟩

theorem wit_ledger_export_1 : ∃ (s : State), bit (s.reg O.ledgerCutMode) 0 = true ∧ (s.reg O.ledgerCutPeriod : Int) ≤
    dist48 s.led.lastCut s.clk.fsn ∧ s.cutCheck 0xFE = 0 :=
  ⟨clkOf ⟨0, 0, 1000000⟩ (sysOf (fun x => { x with banksClear := true }) (on [(O.ledgerCutMode, 0, 1),
    (O.memBankOwner, 0, 5), (O.memBankOwner, 1, 5), (O.memBankOwner, 2, 5), (O.memBankOwner, 3, 5), (O.memBankOwner,
    4, 5), (O.memBankOwner, 5, 5), (O.memBankOwner, 6, 5), (O.memBankOwner, 7, 5), (O.memBankOwner, 8, 5),
    (O.memBankOwner, 9, 5), (O.memBankOwner, 10, 5)])), by decide⟩

theorem wit_ledger_export_2 : ∃ (s : State) (w : Who) (v : Nat), Allowed s w O.ledgerCutReq 0 v ∧ s.sys.mode ≠
    .restore ∧ s.cutCheck (holderOf w) = 0 :=
  ⟨sysOf (fun x => { x with banksClear := true }) (on [(O.memBankOwner, 0, 5), (O.memBankOwner, 1, 5),
    (O.memBankOwner, 2, 5), (O.memBankOwner, 3, 5), (O.memBankOwner, 4, 5), (O.memBankOwner, 5, 5), (O.memBankOwner,
    6, 5), (O.memBankOwner, 7, 5), (O.memBankOwner, 8, 5), (O.memBankOwner, 9, 5), (O.memBankOwner, 10, 5)]), .keeper,
    1, by unfold Allowed; decide⟩

theorem wit_ledger_export_3 : ∃ (s : State), s.led.cutting = true ∧ s.led.image ≠ [] :=
  ⟨ledOf (fun x => { x with cutting := true, image := [1] }) (on []), by decide⟩

theorem wit_ledger_export_4 : ∃ (s : State), s.led.cutting = true ∧ s.led.image ≠ [] ∧ s.reg O.ledgerExportEn = 1 ∧
    s.spareOpen = false :=
  ⟨ledOf (fun x => { x with cutting := true, image := [1] }) (on [(O.ledgerExportEn, 0, 1)]), by decide⟩

theorem wit_ledger_export_5 : ∃ (s : State), s.reg O.ledgerExportEn ≠ 0 :=
  ⟨on [(O.ledgerExportEn, 0, 1)], by decide⟩

theorem wit_ledger_export_6 : ∃ (s : State), s.reg O.ledgerExportEn ≠ 0 ∧ s.spareOpen = false :=
  ⟨on [(O.ledgerExportEn, 0, 1)], by decide⟩

theorem wit_ledger_export_7 : ∃ (s : State) (x : Nat × Nat × List Byte), s.reg O.ledgerExportEn ≠ 0 ∧ s.spareOpen =
    true ∧ s.led.xq = [] ∧ PortFree s (s.spareAddr 0 1) ∧ (s.led.journalOut.filter fun x => decide (s.led.sentSeq <
    x.1)) = [x] ∧ x.2.2.length ≤ 1024 :=
  ⟨hdpOf (fun x => { x with linkUp := [0] }) (ledOf (fun x => { x with journalOut := [(1, 0, entry)] }) (on
    [(O.ledgerExportEn, 0, 1)])), (1, 0, entry), by unfold PortFree; decide⟩

theorem wit_ledger_export_8 : ∃ (s : State) (g0 : Nat) (g1 : Nat), s.exportAway = true ∧ (g0 = s.reg O.ledgerGen ∨ g1
    = s.reg O.ledgerGen) :=
  ⟨on [(O.ledgerExportState, 0, 3)], 0, 0, by decide⟩

theorem wit_ledger_export_9 : ∃ (s : State), s.exportAway = true ∧ s.elapsed s.led.exportTick (secTicks 40) = true :=
  ⟨clkOf ⟨100 * 311040000, 0, 0⟩ (on [(O.ledgerExportState, 0, 3)]), by decide⟩

theorem wit_ledger_export_10 : ∃ (s : State) (port : Nat) (enc : Encap) (m : List Byte) (h : Hdp) (c : Instr), (c,
    h.op) ∈ [(Instr.hdpWrite port enc m, 2), (.writeBulk port enc m, 4)] ∧ port < 2 ∧ s.served port enc = true ∧
    hdpParse m = some h ∧ bit h.flags 7 = true ∧ s.spareSaid h m = true ∧ h.seq ∈ s.led.xfly ∧ h.status ≠ 0 ∧ (h.index
    = O.ledgerRxSegment ∨ h.index = O.ledgerRxSeal) ∧ s.exportAway = true :=
  ⟨exporter, 0, enc0, spareWire O.ledgerRxSeal Config.spareSlot, spareHdr O.ledgerRxSeal Config.spareSlot, .hdpWrite 0
    enc0 (spareWire O.ledgerRxSeal Config.spareSlot), .head _, by decide, by decide, (spare_answer
    Config.spareSlot).1, rfl, spare_said _ (spare_answer Config.spareSlot).2.1, .head _, by decide, .inr rfl,
    by decide⟩

theorem wit_ledger_export_11 : ∃ (s : State) (port : Nat) (enc : Encap) (m : List Byte) (h : Hdp) (c : Instr), (c,
    h.op) ∈ [(Instr.hdpWrite port enc m, 2), (.writeBulk port enc m, 4)] ∧ port < 2 ∧ s.served port enc = true ∧
    hdpParse m = some h ∧ bit h.flags 7 = true ∧ s.spareSaid h m = true ∧ h.seq ∈ s.led.xfly ∧ h.status ≠ 0 ∧ h.index
    = O.ledgerJournalRx ∧ s.led.cutJournal = false :=
  ⟨exporter, 0, enc0, spareWire O.ledgerJournalRx Config.spareSlot, spareHdr O.ledgerJournalRx Config.spareSlot,
    .hdpWrite 0 enc0 (spareWire O.ledgerJournalRx Config.spareSlot), .head _, by decide, by decide, (spare_answer
    Config.spareSlot).2.2.1, rfl, spare_said _ (spare_answer Config.spareSlot).2.2.2, .head _, by decide, rfl,
    by decide⟩

theorem wit_ledger_spare_1 : ∃ (s : State) (w : Who) (d : List Byte), Writable s w O.ledgerRxSegment 0 ∧ d ≠ [] ∧
    d.length ≤ 65536 ∧ s.sys.mode ≠ .restore ∧ (∀ n, s.newestSlot = some n → s.reg O.ledgerSlotGen n < genNo d) :=
  ⟨on [], .keeper, [1], ⟨by decide, by decide⟩, by decide, by decide, by decide, fun n h => absurd (show (none :
    Option Nat) = some n from h) (by simp)⟩

theorem wit_ledger_spare_2 : ∃ (s : State) (w : Who) (k : Nat) (d : List Byte), Writable s w O.ledgerRxSegment k ∧ d ≠
    [] ∧ d.length ≤ 65536 ∧ s.sys.mode ≠ .restore ∧ k ≠ 0 ∧ s.led.rxNext = k ∧ s.reg O.ledgerSlotState s.led.rxSlot =
    1 ∧ 65536 * k < s.led.rxLen :=
  ⟨ledOf (fun x => { x with rxNext := 1, rxLen := 70000 }) (on [(O.ledgerSlotState, 0, 1)]), .keeper, 1, [1],
    by unfold Writable; decide⟩

theorem wit_ledger_spare_3 : ∃ (s : State) (w : Who) (k : Nat) (d : List Byte), Writable s w O.ledgerRxSegment k ∧ d ≠
    [] ∧ d.length ≤ 65536 ∧ s.sys.mode ≠ .restore ∧ k ≠ 0 ∧ s.led.rxNext = k ∧ s.led.rxSlot < 2 ∧ s.reg
    O.ledgerSlotState s.led.rxSlot = 1 ∧ 65536 * k < s.led.rxLen ∧ s.mem.work = [] :=
  ⟨ledOf (fun x => { x with rxNext := 1, rxLen := 70000 }) (on [(O.ledgerSlotState, 0, 1)]), .keeper, 1, [1],
    by unfold Writable; decide⟩

theorem wit_ledger_spare_4 : ∃ (s : State) (w : Who) (d : List Byte) (g : List Byte), Writable s w O.ledgerRxSeal 0 ∧
    d.length = 32 ∧ s.sys.mode ≠ .restore ∧ s.led.rxSlot < 2 ∧ s.reg O.ledgerSlotState s.led.rxSlot = 1 ∧
    (s.flashDrain fun u => u.slot != 2).slotBytes s.led.rxSlot = g ∧ genSealed g = true ∧ genLength g ≤ 65536 *
    s.led.rxNext ∧ d = slice g (genLength g - 32) 32 :=
  ⟨ledOf (fun x => { x with rxNext := 1, slot0 := image }) (on [(O.ledgerSlotState, 0, 1)]), .keeper, image.drop 112,
    image, by unfold Writable; decide +kernel⟩

theorem wit_ledger_spare_5 : ∃ (s : State) (w : Who) (d : List Byte) (x : Nat × Nat × List Byte), Writable s w
    O.ledgerJournalRx 0 ∧ d ≠ [] ∧ d.length ≤ 65536 ∧ s.sys.mode ≠ .restore ∧ parseEntries 4097 d = some [x] ∧ s.reg
    O.ledgerRxJournalState = 1 ∧ (s.led.lastIn = 0 ∨ x.1 = s.led.lastIn + 1) ∧ journalBytes s.led.journalIn +
    x.2.2.length ≤ 1048576 :=
  ⟨on [(O.ledgerRxJournalState, 0, 1)], .keeper, entry, (1, 0, entry), by unfold Writable; decide⟩

theorem wit_ledger_spare_6 : ∃ (s : State) (w : Who) (d : List Byte) (x : Nat × Nat × List Byte), Writable s w
    O.ledgerJournalRx 0 ∧ d ≠ [] ∧ d.length ≤ 65536 ∧ s.sys.mode ≠ .restore ∧ parseEntries 4097 d = some [x] ∧ s.reg
    O.ledgerRxJournalState = 1 ∧ s.led.lastIn ≠ 0 ∧ x.1 ≠ s.led.lastIn + 1 :=
  ⟨ledOf (fun x => { x with lastIn := 5 }) (on [(O.ledgerRxJournalState, 0, 1)]), .keeper, entry, (1, 0, entry),
    by unfold Writable; decide⟩

theorem wit_mode_changes_1 : ∃ (s : State) (w : Who), Allowed s w O.sysModeReq 0 3 ∧ s.sys.booting = false ∧
    s.sys.mode = .dormant :=
  ⟨sysOf (fun x => { x with mode := .dormant, fabOn := false }) (on []), .keeper, by unfold Allowed; decide⟩

theorem wit_mode_changes_2 : ∃ (s : State) (w : Who), Allowed s w O.sysModeReq 0 4 ∧ s.sys.mode = .stage ∧ s.tokFree 0
    (holderOf w) = true ∧ s.tokFree 1 (holderOf w) = true ∧ s.reg O.fwUpdateState ≠ 5 ∧ s.newestSlot ≠ none ∧ s.locked
    = true :=
  ⟨sysOf (fun x => { x with mode := .stage }) (on [(O.ledgerSlotState, 0, 2), (O.mapState, 0, 1)]), .keeper,
    by unfold Allowed; decide⟩

theorem wit_mode_changes_3 : ∃ (s : State) (w : Who), Allowed s w O.sysModeReq 0 4 ∧ s.sys.mode = .stage ∧ s.tokFree 0
    (holderOf w) = true ∧ s.tokFree 1 (holderOf w) = true ∧ s.reg O.fwUpdateState ≠ 5 ∧ s.newestSlot ≠ none ∧ s.locked
    = false ∧ s.restorable = none :=
  ⟨sysOf (fun x => { x with mode := .stage }) (on [(O.ledgerSlotState, 0, 2)]), .keeper, by unfold Allowed; decide⟩

theorem wit_mode_changes_4 : ∃ (s : State) (w : Who), Allowed s w O.sysModeReq 0 5 ∧ (s.sys.mode = .stage ∨ s.sys.mode
    = .isolate) ∧ s.locked = false ∧ s.commitCheck (holderOf w) 3 = 0 :=
  ⟨sysOf (fun x => { x with mode := .stage }) (on []), .keeper, by unfold Allowed; decide⟩

theorem wit_mode_changes_5 : ∃ (s : State) (w : Who), Allowed s w O.sysModeReq 0 5 ∧ (s.sys.mode = .stage ∨ s.sys.mode
    = .isolate) ∧ s.locked = true ∧ s.map.drain = false :=
  ⟨sysOf (fun x => { x with mode := .stage }) (on [(O.mapState, 0, 1)]), .keeper, by unfold Allowed; decide⟩

theorem wit_mode_changes_6 : ∃ (s : State) (w : Who), Allowed s w O.sysModeReq 0 6 ∧ (s.sys.mode = .stage ∨ s.sys.mode
    = .service) :=
  ⟨sysOf (fun x => { x with mode := .stage }) (on []), .keeper, by unfold Allowed; decide⟩

theorem wit_mode_changes_7 : ∃ (s : State), s.sys.isolateReq = true ∧ s.sys.mode ≠ .stage ∧ s.sys.mode ≠ .service :=
  ⟨sysOf (fun x => { x with isolateReq := true }) (sysOf (fun x => { x with mode := .restore }) (on [])), by decide⟩

theorem wit_mode_changes_8 : ∃ (s : State), s.sys.isolateReq = true ∧ (s.sys.mode = .stage ∨ s.sys.mode = .service) :=
  ⟨sysOf (fun x => { x with isolateReq := true }) (on []), by decide⟩

theorem wit_mode_changes_9 : ∃ (s : State) (w : Who), Allowed s w O.sysModeReq 0 7 ∧ (s.sys.mode = .stage ∨ s.sys.mode
    = .restore ∨ s.sys.mode = .service ∨ s.sys.mode = .isolate) :=
  ⟨sysOf (fun x => { x with mode := .stage }) (on []), .keeper, by unfold Allowed; decide⟩

theorem wit_mode_changes_10 : ∃ (s : State) (w : Who), Allowed s w O.sysModeReq 0 0 ∧ (s.sys.mode = .stage ∨
    s.sys.mode = .isolate ∨ s.sys.mode = .quarantine) :=
  ⟨sysOf (fun x => { x with mode := .stage }) (on []), .keeper, by unfold Allowed; decide⟩

theorem wit_mode_changes_11 : ∃ (s : State), s.sys.dormantReq = true ∧ (s.sys.mode = .stage ∨ s.sys.mode = .isolate ∨
    s.sys.mode = .quarantine) :=
  ⟨sysOf (fun x => { x with dormantReq := true }) (sysOf (fun x => { x with mode := .stage }) (on [])), by decide⟩

theorem wit_waking_1 : ∃ (s : State), s.sys.mode = .wake ∧ s.sys.fabEn = true ∧ s.sys.fabPg = false :=
  ⟨sysOf (fun x => { x with fabOn := false, fabPg := false }) (sysOf (fun x => { x with mode := .wake }) (on [])),
    by decide⟩

theorem wit_waking_2 : ∃ (s : State), s.sys.mode = .wake ∧ s.sys.fabPg = false ∧ s.elapsed s.sys.wakeTick (msTicks 90)
    = true :=
  ⟨clkOf ⟨100 * 311040, 0, 0⟩ (sysOf (fun x => { x with fabOn := false, fabPg := false }) (sysOf (fun x =>
    { x with mode := .wake }) (on []))), by decide⟩

theorem wit_waking_3 : ∃ (s : State), s.sys.fabEn = true ∧ s.sys.fabPg = true :=
  ⟨on [], by decide⟩

theorem wit_waking_4 : ∃ (s : State), s.sys.fabEn = true ∧ s.sys.fabPg = true ∧ s.sys.fabOn = true ∧ s.sys.mode ≠
    .quarantine :=
  ⟨on [], by decide⟩

theorem wit_waking_5 : ∃ (s : State), s.sys.mode = .wake ∧ s.sys.fabOn = true ∧ s.sys.banksClear = true ∧ 7 ≤
    s.lodes.length ∧ 4 ≤ (s.ownerBanks 4).length :=
  ⟨sysOf (fun x => { x with banksClear := true }) (sysOf (fun x => { x with mode := .wake }) (on [])), by decide⟩

theorem wit_waking_6 : ∃ (s : State) (n : Nat), s.sys.mode = .wake ∧ s.sys.fabOn = true ∧ s.sys.banksClear = true ∧ n
    % 32 ≠ 0 :=
  ⟨sysOf (fun x => { x with banksClear := true }) (sysOf (fun x => { x with mode := .wake }) (on [])), 1, by decide⟩

theorem wit_waking_7 : ∃ (s : State) (n : Nat), s.sys.mode = .wake ∧ s.sys.fabOn = true ∧ s.sys.banksClear = true ∧
    (s.lodes.length < 7 ∨ (s.ownerBanks 4).length < 4) :=
  ⟨[0, 1, 2, 3].foldl (fun s l => s.setLive O.fabricLodeState l 3) (sysOf (fun x => { x with banksClear := true })
    (sysOf (fun x => { x with mode := .wake }) (on []))), 1, by decide⟩

theorem wit_waking_8 : ∃ (s : State), s.sys.mode = .attest ∧ s.verifySlot (s.reg O.fwRunning) false true = 0 ∧
    s.sys.promoting = 0 ∧ s.reg O.sysResume ≠ 1 :=
  ⟨sysOf (fun x => { x with mode := .attest }) (on []), by decide⟩

theorem wit_waking_9 : ∃ (s : State), s.sys.mode = .attest ∧ s.verifySlot (s.reg O.fwRunning) false true ≠ 0 :=
  ⟨fwOf (fun x => { x with own := [0] }) (sysOf (fun x => { x with mode := .attest }) (on [])), by decide +kernel⟩

theorem wit_resets_and_boot_2 : ∃ (s : State) (l : List Nat) (i : Nat), s.newestRecord l = some i ∧ i ∈ l ∧ s.recordOk
    i = true ∧ ∀ j ∈ l, s.recordOk j = true :=
  ⟨bootOne, [0], 0, by simp [State.newestRecord, boot_ok], by decide, boot_ok, by simp [boot_ok]⟩

theorem wit_resets_and_boot_5 : ∃ (s : State) (w : Who) (v : Nat), Allowed s w O.sysReset 0 v ∧ s.sys.mode ≠ .service
    ∧ s.sys.mode ≠ .restore :=
  ⟨sysOf (fun x => { x with mode := .stage }) (on []), .keeper, 1, by unfold Allowed; decide⟩

theorem wit_resets_and_boot_6 : ∃ (s : State) (u : State), s.bootLoad = u ∧ s.sys.booting = true ∧ s.sys.porst = false
    ∧ s.sys.recovery = false ∧ u.reg O.fwRunning = 0 ∧ u.reg O.fwSlotState 0 = 5 ∧ (u.reg O.fwSlotState 1 = 0 ∨ u.reg
    O.fwSlotState 1 = 5) ∧ u.verifySlot 0 true false = 0 ∧ u.reg O.sysResume = 0 ∧ s.reg O.sysWakeAuto = 0 :=
  ⟨State.reset.setReg O.fwSlotState 0 5, State.reset.setReg O.fwSlotState 0 5, by decide⟩

theorem wit_resets_and_boot_7 : ∃ (s : State), s.sys.restarting = true ∧ s.sys.mode ≠ .restore :=
  ⟨sysOf (fun x => { x with restarting := true }) (on []), by decide⟩

theorem wit_resets_and_boot_8 : ∃ (s : State) (c : Nat), c < 2 ∧ s.reg O.fwUpdateState ≠ 5 ∧ s.sys.mode ≠ .restore :=
  ⟨on [], 0, by decide⟩

theorem wit_promotion_1 : ∃ (s : State) (w : Who) (v : Nat), Allowed s w O.protPromote 0 v ∧ s.role = 3 ∧
    s.sys.booting = false ∧ s.sys.mode = .dormant ∧ s.newestSlot ≠ none :=
  ⟨sysOf (fun x => { x with mode := .dormant, fabOn := false }) (on [(O.protRole, 0, 3), (O.ledgerSlotState, 0, 2)]),
    .keeper, 1, by unfold Allowed; decide⟩

theorem wit_promotion_2 : ∃ (s : State) (w : Who) (v : Nat), Allowed s w O.protPromote 0 v ∧ s.role = 3 ∧
    s.sys.booting = false ∧ s.sys.mode = .isolate ∧ s.newestSlot ≠ none ∧ s.locked = true ∧ s.tokFree 0 (holderOf w) =
    true ∧ s.tokFree 1 (holderOf w) = true :=
  ⟨sysOf (fun x => { x with mode := .isolate }) (on [(O.protRole, 0, 3), (O.ledgerSlotState, 0, 2), (O.mapState, 0,
    1), (O.maintTokenHolder, 0, 255), (O.maintTokenHolder, 1, 255)]), .keeper, 1, by unfold Allowed; decide⟩

theorem wit_promotion_3 : ∃ (s : State), s.sys.mode = .stage ∧ s.sys.promoting ≠ 0 ∧ s.reg O.protPromoteStep = 4 ∧ (∀
    p < 96, s.reg O.portEnable p ≠ 0 → s.reg O.portNegState p = 5 ∧ s.txVer p = 2) ∧ s.peerStatus ≠ none ∧
    s.prot.untold = false :=
  ⟨(sysOf (fun x => { x with mode := .stage, promoting := 1 }) (on [(O.protPromoteStep, 0, 4), (O.witnessStreamState,
    0, 2)])).setStream 0 { WStr.init with last := some (0, 0) }, by decide⟩

theorem wit_promotion_4 : ∃ (s : State), s.sys.mode = .stage ∧ s.sys.promoting ≠ 0 ∧ s.refState = 2 ∧ s.bears
    s.selected = true ∧ s.locked = true ∧ s.tokFree 0 0xFE = true ∧ s.tokFree 1 0xFE = true :=
  ⟨sysOf (fun x => { x with mode := .stage, promoting := 1 }) (on [(O.refState, 0, 2), (O.refSelected, 0, 11),
    (O.maintTokenHolder, 0, 255), (O.maintTokenHolder, 1, 255), (O.mapState, 0, 1)]), by decide⟩

theorem wit_promotion_5 : ∃ (s : State), s.sys.mode = .stage ∧ s.sys.promoting ≠ 0 ∧ s.refState = 2 ∧ s.bears
    s.selected = true ∧ s.locked = false ∧ s.restorable = none ∧ s.tokFree 0 0xFE = true ∧ s.tokFree 1 0xFE = true :=
  ⟨sysOf (fun x => { x with mode := .stage, promoting := 1 }) (on [(O.refState, 0, 2), (O.refSelected, 0, 11),
    (O.maintTokenHolder, 0, 255), (O.maintTokenHolder, 1, 255)]), by decide⟩

theorem wit_promotion_6 : ∃ (s : State), (s.tokFree 0 0xFE = false ∨ s.tokFree 1 0xFE = false) :=
  ⟨on [(O.maintTokenHolder, 0, 3)], by decide⟩

theorem wit_promotion_7 : ∃ (s : State), s.role = 3 ∧ s.sys.mode = .isolate ∧ s.elapsed s.prot.warmTick (secTicks 1) =
    true :=
  ⟨clkOf ⟨2 * 311040000, 0, 0⟩ (sysOf (fun x => { x with mode := .isolate }) (on [(O.protRole, 0, 3)])), by decide⟩

theorem wit_firmware_update_1 : ∃ (s : State) (w : Who) (v : Nat), Allowed s w O.fwStageBegin 0 v ∧ s.tokFree 2
    (holderOf w) = true ∧ (s.reg O.fwUpdateState = 0 ∨ s.reg O.fwUpdateState = 6) ∧ s.reg O.fwSlotState 0 ≠ 4 ∧ s.reg
    O.fwSlotState 1 ≠ 4 :=
  ⟨on [], .keeper, 1, by unfold Allowed; decide⟩

theorem wit_firmware_update_2 : ∃ (s : State), s.reg O.fwUpdateState = 1 :=
  ⟨on [(O.fwUpdateState, 0, 1)], by decide⟩

theorem wit_firmware_update_3 : ∃ (s : State) (k : Nat), s.reg O.fwUpdateState = 1 ∧ s.mem.work = (List.range 256).map
    (fun i => ⟨2, slotBase k + 65536 * i, true, []⟩) :=
  ⟨memOf (fun x => { x with work := (List.range 256).map fun i => ⟨2, slotBase 0 + 65536 * i, true, []⟩ }) (on
    [(O.fwUpdateState, 0, 1)]), 0, by decide +kernel⟩

theorem wit_firmware_update_4 : ∃ (s : State) (w : Who) (k : Nat) (d : List Byte), Writable s w O.fwStageSegment k ∧ d
    ≠ [] ∧ d.length ≤ 65536 ∧ s.fwBusy (holderOf w) = false ∧ s.reg O.fwUpdateState = 2 ∧ k = s.fw.next ∧ s.fw.got =
    65536 * k :=
  ⟨on [(O.fwUpdateState, 0, 2)], .keeper, 0, [1], by unfold Writable; decide⟩

theorem wit_firmware_update_5 : ∃ (s : State) (w : Who) (u : State), (s.flashDrain fun u => u.slot == 2) = u ∧ bit
    (s.rights w) 2 = true ∧ s.fwBusy (holderOf w) = false ∧ s.reg O.fwUpdateState = 2 ∧ u.verifySlot s.stageSlot true
    true = 0 :=
  ⟨on [(O.fwUpdateState, 0, 2)], .keeper, on [(O.fwUpdateState, 0, 2)], rfl, by decide, by decide, by decide,
    by decide +kernel⟩

theorem wit_firmware_update_6 : ∃ (s : State) (w : Who) (u : State), (s.flashDrain fun u => u.slot == 2) = u ∧ bit
    (s.rights w) 2 = true ∧ s.fwBusy (holderOf w) = false ∧ s.reg O.fwUpdateState = 2 ∧ u.verifySlot s.stageSlot true
    true ≠ 0 :=
  ⟨fwOf (fun x => { x with own := [0, 1] }) (on [(O.fwUpdateState, 0, 2)]), .keeper, fwOf (fun x =>
    { x with own := [0, 1] }) (on [(O.fwUpdateState, 0, 2)]), rfl, by decide, by decide, by decide, by decide +kernel⟩

theorem wit_firmware_update_7 : ∃ (s : State) (w : Who), bit (s.rights w) 2 = true ∧ s.fwBusy (holderOf w) = false ∧
    (s.reg O.fwUpdateState = 2 ∨ s.reg O.fwUpdateState = 4) :=
  ⟨on [(O.fwUpdateState, 0, 2)], .keeper, by decide⟩

theorem wit_firmware_update_8 : ∃ (s : State) (w : Who) (v : Nat), Allowed s w O.fwActivate 0 v ∧ s.sys.mode ≠ .wake ∧
    s.sys.mode ≠ .attest ∧ s.sys.mode ≠ .restore ∧ s.fwBusy (holderOf w) = false ∧ s.locked = false ∧ s.exporting =
    false ∧ s.reg O.fwUpdateState = 4 ∧ s.verifySlot s.stageSlot true true = 0 :=
  ⟨on [(O.fwUpdateState, 0, 4)], .keeper, 1, by unfold Allowed; decide⟩

theorem wit_firmware_update_9 : ∃ (s : State) (w : Who) (v : Nat), Allowed s w O.fwConfirm 0 v ∧ s.reg O.fwUpdateState
    = 5 ∧ s.sys.restarting = false :=
  ⟨on [(O.fwUpdateState, 0, 5)], .keeper, 1, by unfold Allowed; decide⟩

theorem wit_firmware_update_10 : ∃ (s : State), s.reg O.fwUpdateState = 5 ∧ s.elapsed s.fw.trialTick (secTicks (s.reg
    O.fwTrialLeft)) = true ∧ s.fw.fallback = false :=
  ⟨clkOf ⟨100000 * 311040000, 0, 0⟩ (on [(O.fwUpdateState, 0, 5)]), by decide⟩

theorem wit_attest_reports_1 : ∃ (s : State) (w : Who) (n : List Byte), Writable s w O.secAttestNonce 0 ∧ n ≠ [] ∧
    n.length ≤ 32 ∧ s.signed24.length < 64 ∧ s.reg O.secLeafNext < 1048576 :=
  ⟨regsOf [(O.secLeafNext * 2 ^ 24 + 0, 0)] (on []), .keeper, [1], by unfold Writable; decide⟩

theorem wit_attest_reports_2 : ∃ (s : State) (n : List Byte) (ns : List (List Byte)), s.fw.nonces = n :: ns ∧ s.reg
    O.secLeafNext < 1048576 ∧ (s.reg O.secLeafNext + 1) % 64 ≠ 0 :=
  ⟨fwOf (fun x => { x with nonces := [[1]] }) (regsOf [(O.secLeafNext * 2 ^ 24 + 0, 0)] (on [])), [1], [], by decide⟩

theorem wit_attest_reports_3 : ∃ (s : State) (n : List Byte) (ns : List (List Byte)), s.fw.nonces = n :: ns ∧ 1048576
    ≤ s.reg O.secLeafNext :=
  ⟨fwOf (fun x => { x with nonces := [[1]] }) (regsOf [(O.secLeafNext * 2 ^ 24 + 0, 1048576)] (on [])), [1], [],
    by decide⟩

theorem wit_attest_reports_4 : ∃ (s : State) (n : List Byte) (ns : List (List Byte)), s.fw.nonces = n :: ns ∧ s.reg
    O.secLeafNext < 1048576 ∧ (s.reg O.secLeafNext + 1) % 64 = 0 ∧ s.reg O.secReservations < 16384 :=
  ⟨fwOf (fun x => { x with nonces := [[1]] }) (regsOf [(O.secReservations * 2 ^ 24 + 0, 1), (O.secLeafNext * 2 ^ 24 +
    0, 63)] (on [])), [1], [], by decide⟩

theorem wit_assayer_engines_1 : ∃ (s : State) (g : Nat) (x : TestT), g < 5 ∧ s.asyRun g = none ∧ s.tests g = true ∧
    topTest (s.asyQueue g) = some x :=
  ⟨asyOf (fun x => { x with queues := [(1, [⟨2 * 2 ^ 44, 2, 0, 0, true, 0, [], 0, false⟩])] }) (on []), 1, ⟨2 * 2 ^
    44, 2, 0, 0, true, 0, [], 0, false⟩, by decide⟩

theorem wit_assayer_engines_2 : ∃ (s : State) (x : TestT) (b : Bool), s.asyRun 1 = some x ∧ x.res / 2 ^ 44 = 2 ∧
    (x.phase = 2 ∨ x.phase = 4) ∧ s.tests 1 = true ∧ s.elapsed x.since 768000 = true :=
  ⟨clkOf ⟨4000000 * 311040000, 0, 0⟩ (asyOf (fun x =>
    { x with running := [(1, ⟨2 * 2 ^ 44, 2, 0, 0, true, 2, [], 0, false⟩)] }) (on [])), ⟨2 * 2 ^ 44, 2, 0, 0, true,
    2, [], 0, false⟩, true, by decide⟩

theorem wit_assayer_engines_3 : ∃ (s : State) (x : TestT) (b : Bool), s.asyRun 1 = some x ∧ x.res / 2 ^ 44 = 2 ∧
    s.elapsed x.since 768000 = false :=
  ⟨asyOf (fun x => { x with running := [(1, ⟨2 * 2 ^ 44, 2, 0, 0, true, 2, [], 0, false⟩)] }) (on []), ⟨2 * 2 ^ 44, 2,
    0, 0, true, 2, [], 0, false⟩, true, by decide⟩

theorem wit_assayer_engines_4 : ∃ (s : State) (x : TestT) (p : Nat), s.auditPort = some (x, p) ∧ x.phase = 1 ∧ s.tests
    1 = true ∧ s.elapsed x.since auditTicks = true :=
  ⟨clkOf ⟨4000000 * 311040000, 0, 0⟩ (asyOf (fun x =>
    { x with running := [(1, ⟨3 * 2 ^ 44, 3, 0, 0, true, 1, [], 0, false⟩)] }) (on [])), ⟨3 * 2 ^ 44, 3, 0, 0, true,
    1, [], 0, false⟩, 0, by decide⟩

theorem wit_assayer_engines_5 : ∃ (s : State) (x : TestT) (hits : List Nat), s.asyRun 1 = some x ∧ (x.res / 2 ^ 44 = 3
    ∨ x.res / 2 ^ 44 = 8) ∧ x.phase = 4 ∧ s.tests 1 = true ∧ s.elapsed x.since 38880 = true :=
  ⟨clkOf ⟨4000000 * 311040000, 0, 0⟩ (asyOf (fun x =>
    { x with running := [(1, ⟨3 * 2 ^ 44, 3, 0, 0, true, 4, [], 0, false⟩)] }) (on [])), ⟨3 * 2 ^ 44, 3, 0, 0, true,
    4, [], 0, false⟩, [], by decide⟩

theorem wit_assayer_engines_6 : ∃ (s : State) (x : TestT) (b : Bool) (m : List (Nat × Nat)), s.asyRun 2 = some x ∧
    x.res / 2 ^ 44 = 4 ∧ x.host = false ∧ s.recent x.res < 3 ∧ s.tests 2 = true ∧ x.kind < 9 ∧ (s.bankTest (x.res % 2
    ^ 44 / 65536) (x.res % 2 ^ 44 % 65536) m).2.1 = false :=
  ⟨asyOf (fun x => { x with running := [(2, ⟨4 * 2 ^ 44, 4, 0, 0, false, 1, [], 0, false⟩)] }) (on []), ⟨4 * 2 ^ 44,
    4, 0, 0, false, 1, [], 0, false⟩, true, [], by decide +kernel⟩

theorem wit_assayer_engines_7 : ∃ (s : State) (x : TestT) (b : Bool) (m : List (Nat × Nat)), s.asyRun 2 = some x ∧
    x.res / 2 ^ 44 = 4 ∧ x.host = false ∧ x.kind < 9 ∧ s.tests 2 = true ∧ (s.bankTest (x.res % 2 ^ 44 / 65536) (x.res
    % 2 ^ 44 % 65536) m).2.1 = true :=
  ⟨asyOf (fun x => { x with running := [(2, ⟨4 * 2 ^ 44, 4, 0, 0, false, 1, [], 0, false⟩)] }) (on []), ⟨4 * 2 ^ 44,
    4, 0, 0, false, 1, [], 0, false⟩, true, [(0, 1)], by decide +kernel⟩

theorem wit_assayer_engines_8 : ∃ (s : State) (b : Nat) (w : Nat) (n : Nat), b < 256 ∧ bit (s.reg O.assayEnable) 3 =
    true ∧ s.sys.fabOn = true ∧ s.reg O.memBankOwner b = 0 ∧ s.reg O.memBankState b ≠ 5 ∧ w < 65536 ∧ s.background 2 =
    true ∧ s.underTest (resOf 4 (b * 65536 + w)) = false ∧ s.underTest (resOf 5 b) = false ∧ SMap.get 0 s.mem.bankNext
    b ≤ s.tick ∧ (wordTest (eccDec (s.bankCode b w)).d n).2 = false ∧ s.mem.bankAt + 1 < (256 - (s.ownerBanks
    15).length) * 65552 :=
  ⟨on [(O.assayEnable, 0, 0x1F), (O.memBankOwner, 0, 0), (O.memBankState, 0, 0)], 0, 0, 0, by decide +kernel⟩

theorem wit_assayer_engines_9 : ∃ (s : State) (f : Nat), bit (s.reg O.assayEnable) 4 = true ∧ s.background 4 = true ∧
    s.mem.sramNext ≤ s.tick ∧ s.underTest (resOf 7 s.mem.sramAt) = false ∧ flips f = 1 ∧ s.mem.sramAt + 1 < 262144 ∧
    SMap.get 0 s.mem.sramBad s.mem.sramAt = 0 :=
  ⟨on [(O.assayEnable, 0, 0x1F)], 1, by decide⟩

theorem wit_assayer_engines_10 : ∃ (s : State) (w : Who) (v : Nat), Allowed s w O.assayTestReq 0 v ∧ s.resourceThere v
    = true ∧ s.tokFree 3 (holderOf w) = true ∧ s.sys.mode ≠ .dormant ∧ s.sys.mode ≠ .quarantine ∧ s.asyRun (engineOf
    v) = none ∧ s.asyQueue (engineOf v) = [] :=
  ⟨on [], .keeper, 2 ^ 44, by unfold Allowed; decide⟩

theorem wit_tally_commands_1 : ∃ (s : State) (w : Who) (i : Nat) (v : Nat), Allowed s w O.tallyPreset i v ∧
    classCounter i = false :=
  ⟨on [], .keeper, 5, 7, by unfold Allowed; decide⟩

theorem wit_tally_commands_2 : ∃ (s : State) (w : Who) (v : Nat), Allowed s w O.tallyTagK 0 v :=
  ⟨on [], .keeper, 14, by unfold Allowed; decide⟩

theorem wit_tally_commands_3 : ∃ (s : State) (w : Who) (v : Nat), Allowed s w O.tallyTagSeed 0 v :=
  ⟨on [], .keeper, 5, by unfold Allowed; decide⟩

theorem wit_tally_commands_4 : ∃ (s : State) (w : Who), Allowed s w O.tallyTraceCtrl 0 1 ∧ s.traceRoom ≠ 0 ∧ s.tal.run
    = false ∧ s.tokFree 6 (holderOf w) = true :=
  ⟨on [(O.memBankOwner, 0, 6)], .keeper, by unfold Allowed; decide⟩

theorem wit_tally_commands_5 : ∃ (s : State) (w : Who), Allowed s w O.tallyTraceCtrl 0 2 ∧ s.traceRoom ≠ 0 ∧ s.tal.run
    = false ∧ s.tokFree 6 (holderOf w) = true :=
  ⟨on [(O.memBankOwner, 0, 6)], .keeper, by unfold Allowed; decide⟩

theorem wit_tally_commands_6 : ∃ (s : State) (w : Who), Allowed s w O.tallyTraceCtrl 0 3 ∧ s.tal.run = true :=
  ⟨talOf (fun x => { x with run := true }) (on [(O.memBankOwner, 0, 6)]), .keeper, by unfold Allowed; decide⟩

theorem wit_tally_commands_7 : ∃ (s : State) (x : TagW) (tag : Nat) (rx : Nat) (sps : Nat) (ets : Nat) (ser : Nat),
    (s.tal.flights.find? fun y => y.tag == tag) = some x ∧ x.dst ≠ 0xFFFFFF ∧ ser < 65535 ∧ s.elapsed x.tick ser =
    true ∧ s.tal.run = true ∧ s.tal.waiting.length < 64 :=
  ⟨talOf (fun x => { x with run := true, flights := [tagged] }) (on [(O.memBankOwner, 0, 6)]), tagged, 1, 0, 0, 0, 0,
    by decide⟩

theorem wit_tally_commands_8 : ∃ (s : State) (x : TagW) (tag : Nat) (rx : Nat) (sps : Nat) (ets : Nat) (ser : Nat),
    (s.tal.flights.find? fun y => y.tag == tag) = some x ∧ (x.dst = 0xFFFFFF ∨ 65535 ≤ ser) ∧ s.elapsed x.tick 65535 =
    true ∧ s.tal.run = true ∧ s.tal.waiting.length < 64 :=
  ⟨clkOf ⟨100 * 38880, 0, 0⟩ (talOf (fun x => { x with run := true, flights := [tagged] }) (on [(O.memBankOwner, 0,
    6)])), tagged, 1, 0, 0, 0, 65535, by decide⟩

theorem wit_tally_commands_9 : ∃ (s : State) (x : TagW) (tag : Nat) (rx : Nat) (sps : Nat) (ets : Nat) (ser : Nat),
    (s.tal.flights.find? fun y => y.tag == tag) = some x ∧ s.elapsed x.tick 65535 = true ∧ s.tal.run = true ∧ 64 ≤
    s.tal.waiting.length ∧ s.tal.on = true ∧ SMap.get 0 s.tal.count 8 + 1 < 2 ^ 48 :=
  ⟨clkOf ⟨100 * 38880, 0, 0⟩ (talOf (fun x =>
    { x with run := true, flights := [tagged], on := true, waiting := List.replicate 64 [] }) (on [(O.memBankOwner, 0,
    6)])), tagged, 1, 0, 0, 0, 0, by decide⟩

theorem wit_tally_commands_10 : ∃ (s : State) (tag : Nat) (rx : Nat) (sps : Nat) (ets : Nat) (ser : Nat) (x : TagW),
    (s.tal.flights.find? fun y => y.tag == tag) = some x ∧ s.elapsed x.tick 65535 = false ∧ (x.dst = 0xFFFFFF ∨ 65535
    ≤ ser ∨ s.elapsed x.tick ser = false) :=
  ⟨talOf (fun x => { x with run := true, flights := [tagged] }) (on [(O.memBankOwner, 0, 6)]), 1, 0, 0, 0, 5, tagged,
    by decide⟩

theorem wit_tally_commands_11 : ∃ (s : State) (u : State) (r : List Byte), s.tracePut (s.reg O.tallyTraceCount %
    s.tal.cap) r = (u, true) ∧ s.tal.wrap = true :=
  ⟨talOf (fun x => { x with run := true, wrap := true, cap := 10, banks := [0] }) (on [(O.memBankOwner, 0, 6)]),
    ((talOf (fun x => { x with run := true, wrap := true, cap := 10, banks := [0] }) (on [(O.memBankOwner, 0,
    6)])).tracePut 0 []).1, [], by decide +kernel⟩

theorem wit_tally_commands_12 : ∃ (s : State) (u : State) (r : List Byte), s.tracePut (s.reg O.tallyTraceCount %
    s.tal.cap) r = (u, true) ∧ s.tal.wrap = false ∧ s.tal.run = true ∧ s.reg O.tallyTraceCount + 1 = s.tal.cap :=
  ⟨talOf (fun x => { x with run := true, wrap := false, cap := 1, banks := [0] }) (on [(O.memBankOwner, 0, 6)]),
    ((talOf (fun x => { x with run := true, wrap := false, cap := 1, banks := [0] }) (on [(O.memBankOwner, 0,
    6)])).tracePut 0 []).1, [], by decide +kernel⟩

theorem wit_reference_inputs_1 : ∃ (s : State) (w : Who) (v : Nat), Allowed s w O.refEnable 0 v :=
  ⟨on [], .keeper, 1, by unfold Allowed; decide⟩

theorem wit_reference_inputs_2 : ∃ (s : State) (i : Nat), i < 13 ∧ s.inState i ≠ 0 ∧ s.lossNow i = true :=
  ⟨on [(O.refInputState, 8, 2)], 8, by decide⟩

theorem wit_reference_inputs_3 : ∃ (s : State) (i : Nat), i < 13 ∧ s.inState i = 1 ∧ (i = 8 ∨ i = 9 ∨ s.lossNow i =
    false) ∧ (8 ≤ i ∨ (s.linkP (s.refPortOf i)).ql.acc = false) :=
  ⟨on [(O.refInputState, 8, 1)], 8, by decide⟩

theorem wit_reference_inputs_4 : ∃ (s : State) (i : Nat) (y : Int), i < 13 ∧ s.inState i ≠ 0 ∧ s.elapsed (s.input
    i).mAt (measureTicks i) = true :=
  ⟨clkOf ⟨4000000 * 311040000, 0, 0⟩ (on [(O.refInputState, 8, 2)]), 8, 5, by decide⟩

theorem wit_reference_inputs_5 : ∃ (s : State) (i : Nat), i < 13 ∧ s.inState i = 2 ∧ s.inWindow i = true ∧ s.elapsed
    (s.input i).t0 (secTicks (s.reg O.refQualTime i)) = true ∧ (8 ≤ i ∨ (s.linkP (s.refPortOf i)).ql.acc = false) :=
  ⟨clkOf ⟨4000000 * 311040000, 0, 0⟩ (on [(O.refInputState, 8, 2)]), 8, by decide⟩

theorem wit_reference_inputs_6 : ∃ (s : State) (i : Nat), i < 13 ∧ s.inState i = 3 ∧ (((s.input i).bad ≠ 0 ∧ s.elapsed
    ((s.input i).bad - 1) (secTicks (s.reg O.refQualTime i)) = true) ∨ ((s.input i).dfb ≠ 0 ∧ s.elapsed ((s.input
    i).dfb - 1) (secTicks (s.reg O.refQualTime i)) = true)) ∧ (8 ≤ i ∨ (s.linkP (s.refPortOf i)).ql.acc = false) :=
  ⟨clkOf ⟨4000000 * 311040000, 0, 0⟩ ((on [(O.refInputState, 8, 3)]).setInput 8 { InS.init with bad := 1 }), 8,
    by decide⟩

theorem wit_reference_inputs_7 : ∃ (s : State) (i : Nat), i < 13 ∧ s.inState i = 5 ∧ s.elapsed (s.input i).t0
    (secTicks (s.reg O.refWtr)) = true ∧ (8 ≤ i ∨ (s.linkP (s.refPortOf i)).ql.acc = false) :=
  ⟨clkOf ⟨4000000 * 311040000, 0, 0⟩ (on [(O.refInputState, 8, 5)]), 8, by decide⟩

theorem wit_reference_inputs_8 : ∃ (s : State) (b : Nat), s.bestInput = some b ∧ b ≠ s.selected ∧ (s.refState ≠ 1 ∨ 13
    ≤ s.selected ∨ s.inState s.selected ≠ 3) :=
  ⟨on [(O.refInputState, 11, 3), (O.refQlCfg, 11, 2)], 11, by decide⟩

theorem wit_reference_inputs_9 : ∃ (s : State), s.bestInput = none ∧ s.selected ≠ 255 :=
  ⟨on [(O.refSelected, 0, 11)], by decide⟩

theorem wit_reference_inputs_10 : ∃ (s : State), s.refState = 1 ∧ s.selected < 13 ∧ s.ref.win ≠ 0 ∧ s.elapsed
    (s.ref.win - 1) (settleTicks s.selected) = true ∧ s.elapsed s.ref.sw (settleTicks s.selected) = true :=
  ⟨clkOf ⟨2000 * 311040000, 0, 0⟩ (refOf (fun x => { x with win := 1 }) (on [(O.refState, 0, 1), (O.refSelected, 0,
    8)])), by decide⟩

theorem wit_reference_inputs_11 : ∃ (s : State), s.selected < 13 ∧ s.ref.clamp ≠ 0 ∧ s.inState s.selected = 3 ∧
    s.elapsed (s.ref.clamp - 1) (secTicks (s.reg O.refQualTime s.selected)) = true :=
  ⟨clkOf ⟨4000000 * 311040000, 0, 0⟩ (refOf (fun x => { x with clamp := 1 }) (on [(O.refInputState, 8, 3),
    (O.refSelected, 0, 8)])), by decide⟩

theorem wit_time_commands_1 : ∃ (s : State), s.ref.tieDue = true ∧ s.selected < 13 :=
  ⟨refOf (fun x => { x with tieDue := true }) (on [(O.refSelected, 0, 8)]), by decide⟩

theorem wit_time_commands_2 : ∃ (s : State) (w : Who) (v : Nat), Allowed s w O.refPhaseStep 0 v ∧ s.tokFree 5
    (holderOf w) = true ∧ s.reg O.refTied = 0 :=
  ⟨on [], .keeper, 5, by unfold Allowed; decide⟩

theorem wit_time_commands_3 : ∃ (s : State) (w : Who) (v : Nat), Allowed s w O.refFrameOffset 0 v :=
  ⟨on [], .keeper, 5, by unfold Allowed; decide⟩

theorem wit_time_commands_4 : ∃ (s : State) (w : Who) (v : Nat), Allowed s w O.refRetime 0 v ∧ s.tokFree 5 (holderOf
    w) = true ∧ s.reg O.refTied = 1 :=
  ⟨on [(O.refTied, 0, 1)], .keeper, 1, by unfold Allowed; decide⟩

theorem wit_time_commands_5 : ∃ (s : State) (w : Who) (v : Nat), Allowed s w O.refAlignReq 0 v ∧ s.tokFree 5 (holderOf
    w) = true ∧ s.reg O.refTied = 0 ∧ s.ref.align = false :=
  ⟨on [], .keeper, 1, by unfold Allowed; decide⟩

theorem wit_time_commands_6 : ∃ (s : State) (late : Int), s.reg O.refAlignSrc ≠ 0 ∧ s.ref.align = true ∧ s.reg
    O.refTied = 0 :=
  ⟨refOf (fun x => { x with align := true }) (on [(O.refAlignSrc, 0, 1)]), 5, by decide⟩

theorem wit_time_commands_7 : ∃ (s : State) (late : Int), s.reg O.refAlignSrc ≠ 0 ∧ s.ref.align = false :=
  ⟨on [(O.refAlignSrc, 0, 1)], 5, by decide⟩

theorem wit_time_commands_9 : ∃ (s : State), s.ref.align = true ∧ s.elapsed s.ref.alignTick (msTicks 1500) = true :=
  ⟨clkOf ⟨2 * 311040000, 0, 0⟩ (refOf (fun x => { x with align := true }) (on [])), by decide⟩

theorem wit_time_commands_10 : ∃ (s : State) (src : Nat) (tod : Option Nat) (late : Int), src < 3 ∧ s.reg O.refPpsSrc
    = src ∧ s.inState 10 ≠ 0 :=
  ⟨on [(O.refInputState, 10, 2), (O.refPpsSrc, 0, 1)], 1, none, 0, by decide⟩

theorem wit_time_commands_11 : ∃ (s : State) (w : Who) (v : Nat), Allowed s w O.timePtpOffset 0 v ∧ s.inState 11 ≠ 0
    :=
  ⟨on [(O.refInputState, 11, 2)], .keeper, 5, by unfold Allowed; decide⟩

theorem wit_time_commands_12 : ∃ (s : State) (w : Who) (v : Nat), Allowed s w O.timeSet 0 v ∧ s.tokFree 5 (holderOf w)
    = true ∧ s.reg O.refTied = 0 :=
  ⟨on [], .keeper, 5 * 2 ^ 48, by unfold Allowed; decide⟩

theorem wit_time_commands_13 : ∃ (s : State) (w : Who) (v : Nat), Allowed s w O.timeStep 0 v ∧ s.tokFree 5 (holderOf
    w) = true ∧ s.reg O.refTied = 0 :=
  ⟨on [], .keeper, 5, by unfold Allowed; decide⟩

theorem wit_time_commands_14 : ∃ (s : State) (w : Who) (v : Nat), Allowed s w O.timeCapture 0 v :=
  ⟨on [], .keeper, 1, by unfold Allowed; decide⟩

theorem wit_time_commands_15 : ∃ (s : State) (w : Who) (v : Nat), Allowed s w O.timeServoSrc 0 v ∧ v ≠ 0 ∧ s.reg
    O.timeServoSrc ≠ 0 :=
  ⟨on [(O.timeServoSrc, 0, 1)], .keeper, 1, by unfold Allowed; decide⟩

theorem wit_time_commands_16 : ∃ (s : State) (w : Who) (v : Nat), Allowed s w O.timeServoSrc 0 v ∧ v ≠ 0 ∧ s.reg
    O.timeServoSrc = 0 :=
  ⟨on [], .keeper, 1, by unfold Allowed; decide⟩

theorem wit_time_commands_17 : ∃ (s : State) (w : Who), Allowed s w O.timeServoSrc 0 0 :=
  ⟨on [], .keeper, by unfold Allowed; decide⟩

theorem wit_launches_1 : ∃ (s : State) (k : Nat), k < 2 ∧ s.portUp k = false ∧ s.reg O.hdpPortMode k ≠ 0 :=
  ⟨on [(O.hdpPortMode, 0, 1)], 0, by decide⟩

theorem wit_launches_2 : ∃ (s : State) (k : Nat), k < 2 ∧ s.portUp k = true :=
  ⟨hdpOf (fun x => { x with linkUp := [0] }) (on []), 0, by decide⟩

theorem wit_launches_3 : ∃ (s : State) (k : Nat) (f : List Byte) (c : Nat), k < 2 ∧ s.portUp k = true ∧ fcsOk f = true
    ∧ s.reg O.timeTcEn = 0 ∧ s.tim.tcRun = false ∧ fld f 12 2 ≠ s.reg O.refPpsEtype :=
  ⟨hdpOf (fun x => { x with linkUp := [0] }) (on []), 0, frame, 0, by decide +kernel⟩

theorem wit_launches_4 : ∃ (s : State) (k : Nat) (f : List Byte) (c : Nat), k < 2 ∧ s.portUp k = true ∧ fcsOk f =
    false ∧ s.reg O.timeTcEn = 1 :=
  ⟨hdpOf (fun x => { x with linkUp := [0] }) (on [(O.timeTcEn, 0, 1)]), 0, [], 0, by decide⟩

theorem wit_launches_5 : ∃ (s : State) (k : Nat) (x : TcF) (c : Nat), k < 2 ∧ (s.tim.queue.find? fun y => y.iface ==
    96 + k) = some x ∧ s.portUp k = true ∧ s.portFree k c = true ∧ PortFree s k :=
  ⟨timOf (fun x => { x with queue := [⟨96, [], 0, false, 0⟩] }) (hdpOf (fun x => { x with linkUp := [0] }) (on [])),
    0, ⟨96, [], 0, false, 0⟩, 100000, by unfold PortFree; decide⟩

theorem wit_launches_6 : ∃ (s : State) (k : Nat) (x : Nat × Nat × Sent) (c : Nat), k < 2 ∧ (s.tim.held.find? fun y =>
    y.1 == k) = some x ∧ s.portUp k = true ∧ s.portFree k c = true ∧ (∀ l ∈ s.tim.launches, l.iface ≠ 96 + k) :=
  ⟨timOf (fun x => { x with held := [(0, 64, .hdp 0 enc0 [])] }) (hdpOf (fun x => { x with linkUp := [0] }) (on [])),
    0, (0, 64, .hdp 0 enc0 []), 100000, by decide⟩

theorem wit_launches_7 : ∃ (s : State) (w : Who) (r : List Byte), Writable s w O.timeLaunch 0 ∧ r.length = 20 + fld r
    2 2 ∧ s.tim.launches.length < 64 ∧ 60 ≤ fld r 2 2 ∧ fld r 2 2 ≤ (if fld r 0 1 < 96 then 566 else 1518) ∧ s.now +
    250000 * 65536 ≤ ofTime (fld r 4 12) ∧ fld r 1 1 < 2 ∧ fld r 0 1 < 98 ∧ fld r 10 4 < 1000000000 :=
  ⟨on [], .keeper, launchRec, by unfold Writable; decide⟩

theorem wit_launches_8 : ∃ (s : State) (tag : Nat) (c : Nat) (l : LaunchR), (s.tim.launches.find? fun l => l.tag ==
    tag && s.launchReady c l) = some l :=
  ⟨(timOf (fun x => { x with launches := [⟨1, 0, false, 0, [], false⟩] }) (((on [(O.portEnable, 0, 1),
    (O.portAlignState, 0, 3), (O.linkTimeChannelEn, 0, 1)]).setVer 0 2 2).setLinkQ 0
    { LinkQ.init with ver := 2 })).setLink 0 { LinkP.init with txOn := true }, 1, 0, ⟨1, 0, false, 0, [], false⟩,
    by decide⟩

theorem wit_launches_9 : ∃ (s : State) (tag : Nat) (l : LaunchR), (s.tim.launches.find? fun l => l.tag == tag &&
    decide (l.at_ + secU ≤ s.now)) = some l :=
  ⟨clkOf ⟨2 * 311040000, 0, 0⟩ (timOf (fun x => { x with launches := [⟨1, 96, false, 0, [], false⟩] }) (hdpOf (fun x
    => { x with linkUp := [0] }) (on []))), 1, ⟨1, 96, false, 0, [], false⟩, by decide⟩

theorem wit_launches_10 : ∃ (s : State) (w : Who) (v : Nat), Allowed s w O.timeLaunchFlush 0 v :=
  ⟨on [], .keeper, 96, by unfold Allowed; decide⟩

theorem wit_launches_11 : ∃ (s : State), bit (s.reg O.ledgerCutMode) 2 = true ∧ (ofTime (s.reg O.timeCutTime) : Int) ≤
    s.localAt (rootTime s.frameRoot) ∧ s.reg O.timeCutInterval = 0 ∧ s.cutCheck 0xFE = 0 :=
  ⟨sysOf (fun x => { x with banksClear := true }) (on [(O.ledgerCutMode, 0, 4), (O.memBankOwner, 0, 5),
    (O.memBankOwner, 1, 5), (O.memBankOwner, 2, 5), (O.memBankOwner, 3, 5), (O.memBankOwner, 4, 5), (O.memBankOwner,
    5, 5), (O.memBankOwner, 6, 5), (O.memBankOwner, 7, 5), (O.memBankOwner, 8, 5), (O.memBankOwner, 9, 5),
    (O.memBankOwner, 10, 5)]), by decide⟩

theorem wit_bank_commands_1 : ∃ (s : State) (w : Who) (b : Nat) (v : Nat), Allowed s w O.memBankOwner b v ∧
    s.sys.fabOn = true ∧ s.reg O.memBankOwner b ≠ 15 ∧ s.reg O.memBankState b ≠ 5 ∧ (bankOwnerOp (holderOf w) b v s).2
    = 0 :=
  ⟨on [(O.memBankState, 20, 0)], .keeper, 20, 6, by unfold Allowed; decide⟩

theorem wit_bank_commands_2 : ∃ (s : State) (w : Who) (b : Nat) (v : Nat), Allowed s w O.memBankOwner b v ∧
    (s.sys.fabOn = false ∨ s.reg O.memBankState b = 5) ∧ (bankOwnerOp (holderOf w) b v s).2 = 0 :=
  ⟨on [(O.memBankState, 20, 5)], .keeper, 20, 6, by unfold Allowed; decide⟩

theorem wit_bank_commands_3 : ∃ (s : State) (w : Who) (b : Nat) (v : Nat), Allowed s w O.memBankOwner b v ∧
    s.sys.fabOn = true ∧ s.reg O.memBankOwner b = 15 ∧ v % 16 = 0 ∧ s.reg O.memBankState b ≠ 5 ∧ (bankOwnerOp
    (holderOf w) b v s).2 = 0 :=
  ⟨sysOf (fun x => { x with mode := .isolate }) (on [(O.memBankOwner, 20, 15), (O.memBankState, 20, 4)]), .keeper, 20,
    0, by unfold Allowed; decide⟩

theorem wit_bank_commands_4 : ∃ (s : State) (b : Nat), b < 256 ∧ s.reg O.memBankState b = 2 ∧ s.mem.scrub.contains b =
    true :=
  ⟨memOf (fun x => { x with scrub := [0] }) (on [(O.memBankState, 0, 2)]), 0, by decide⟩

theorem wit_bank_commands_5 : ∃ (s : State) (b : Nat), b < 256 ∧ s.reg O.memBankState b = 2 ∧ s.mem.scrub.contains b =
    false ∧ s.reg O.memBankTarget b ≠ 15 :=
  ⟨on [(O.memBankState, 0, 2), (O.memBankTarget, 0, 6)], 0, by decide⟩

theorem wit_bank_commands_6 : ∃ (s : State) (b : Nat) (i : Nat), b < 256 ∧ s.reg O.memBankState b = 2 ∧
    s.mem.scrub.contains b = false ∧ s.reg O.memBankTarget b = 15 ∧ s.reg O.memBankOwner b ≠ 6 ∧ s.fenceFree = some i
    :=
  ⟨on [(O.memBankState, 3, 2), (O.memBankTarget, 3, 15)], 3, 0, by decide +kernel⟩

theorem wit_bank_commands_7 : ∃ (s : State) (b : Nat), b < 256 ∧ s.reg O.memBankState b = 3 ∧ s.reg O.memBankTarget b
    ≠ 15 :=
  ⟨on [(O.memBankState, 0, 3), (O.memBankTarget, 0, 6)], 0, by decide⟩

theorem wit_bank_commands_8 : ∃ (s : State), s.sys.fabOn = true ∧ s.sys.banksClear = false :=
  ⟨on [], by decide⟩

theorem wit_bank_commands_9 : ∃ (s : State) (b : Nat) (w : Nat), b < 256 ∧ (b, w) ∈ s.mem.back :=
  ⟨memOf (fun x => { x with back := [(0, 0)] }) (on []), 0, 0, by decide⟩

theorem wit_ddr_commands_1 : ∃ (s : State) (gib : Nat) (l : List Nat), s.sys.fabOn = true ∧ s.reg O.memDdrState = 1 ∧
    (gib = 8 ∨ gib = 16 ∨ gib = 32 ∨ gib = 64) :=
  ⟨on [(O.memDdrState, 0, 1)], 8, [1], by decide⟩

theorem wit_ddr_commands_2 : ∃ (s : State), s.mem.filling = true ∧ s.reg O.memDdrState ≠ 0 ∧ (∀ c < 4, s.reg
    O.memDdrChState c = 2) :=
  ⟨memOf (fun x => { x with filling := true }) (on [(O.memDdrState, 0, 3), (O.memDdrSize, 0, 8), (O.memDdrChState, 0,
    2), (O.memDdrChState, 1, 2), (O.memDdrChState, 2, 2), (O.memDdrChState, 3, 2)]), by decide⟩

theorem wit_ddr_commands_3 : ∃ (s : State) (w : Who), Allowed s w O.memDdrLsEn 0 1 :=
  ⟨on [(O.memDdrState, 0, 3), (O.memDdrSize, 0, 8), (O.memDdrChState, 0, 2), (O.memDdrChState, 1, 2),
    (O.memDdrChState, 2, 2), (O.memDdrChState, 3, 2)], .keeper, by unfold Allowed; decide⟩

theorem wit_ddr_commands_4 : ∃ (s : State) (w : Who), Allowed s w O.memDdrLsEn 0 0 ∧ s.ddrUnits = 0 :=
  ⟨on [(O.memDdrState, 0, 3), (O.memDdrSize, 0, 8), (O.memDdrChState, 0, 2), (O.memDdrChState, 1, 2),
    (O.memDdrChState, 2, 2), (O.memDdrChState, 3, 2)], .keeper, by unfold Allowed; decide⟩

theorem wit_ddr_commands_5 : ∃ (s : State) (w : Who) (b : Bool) (v : Nat), Allowed s w (if b then O.memDdrTraceSize
    else O.memDdrLsSize) 0 v ∧ s.tokFree 4 (holderOf w) = true ∧ s.reg O.memDdrLsState = 0 ∧ s.tal.run = false :=
  ⟨on [(O.memDdrState, 0, 3), (O.memDdrSize, 0, 8), (O.memDdrChState, 0, 2), (O.memDdrChState, 1, 2),
    (O.memDdrChState, 2, 2), (O.memDdrChState, 3, 2)], .keeper, true, 64, by unfold Allowed; decide⟩

theorem wit_ddr_commands_6 : ∃ (s : State) (f : Nat), s.sys.fabOn = true ∧ s.background 3 = true ∧ s.mem.filling =
    false ∧ 3 ≤ s.reg O.memDdrState ∧ flips f = 0 ∧ SMap.get 0 s.mem.ddrBad (s.mem.patrol / 8) = 0 ∧ s.mem.patrol + 8
    < s.reg O.memDdrSize * 2 ^ 30 ∧ s.mem.patrolNext ≤ s.tick :=
  ⟨on [(O.memDdrState, 0, 3), (O.memDdrSize, 0, 8), (O.memDdrChState, 0, 2), (O.memDdrChState, 1, 2),
    (O.memDdrChState, 2, 2), (O.memDdrChState, 3, 2)], 0, by decide⟩

theorem wit_ddr_commands_7 : ∃ (s : State) (f : Nat), s.sys.fabOn = true ∧ s.background 3 = true ∧ s.mem.filling =
    false ∧ 3 ≤ s.reg O.memDdrState ∧ flips f = 0 ∧ SMap.get 0 s.mem.ddrBad (s.mem.patrol / 8) = 0 ∧ s.reg
    O.memDdrSize * 2 ^ 30 ≤ s.mem.patrol + 8 ∧ 0 < s.reg O.memDdrSize ∧ s.mem.patrolNext ≤ s.tick :=
  ⟨memOf (fun x => { x with patrol := 8589934584 }) (on [(O.memDdrState, 0, 3), (O.memDdrSize, 0, 8),
    (O.memDdrChState, 0, 2), (O.memDdrChState, 1, 2), (O.memDdrChState, 2, 2), (O.memDdrChState, 3, 2)]), 0,
    by decide⟩

theorem wit_ddr_commands_8 : ∃ (s : State) (f : Nat), s.sys.fabOn = true ∧ s.background 3 = true ∧ s.mem.filling =
    false ∧ 3 ≤ s.reg O.memDdrState ∧ 2 ≤ flips f ∧ SMap.get 0 s.mem.ddrBad (s.mem.patrol / 8) = 0 ∧ s.mem.patrol + 8
    < s.reg O.memDdrSize * 2 ^ 30 ∧ s.reg O.memDdrChState (s.mem.patrol / 256 % 4) = 2 ∧ s.mem.patrolNext ≤ s.tick ∧
    s.underTest (resOf 6 (s.mem.patrol / 8)) = false :=
  ⟨on [(O.memDdrState, 0, 3), (O.memDdrSize, 0, 8), (O.memDdrChState, 0, 2), (O.memDdrChState, 1, 2),
    (O.memDdrChState, 2, 2), (O.memDdrChState, 3, 2)], 3, by decide⟩

theorem wit_ddr_commands_9 : ∃ (s : State) (f : Nat), s.sys.fabOn = true ∧ s.background 3 = true ∧ s.mem.filling =
    false ∧ 3 ≤ s.reg O.memDdrState ∧ flips f = 1 ∧ SMap.get 0 s.mem.ddrBad (s.mem.patrol / 8) = 0 ∧ s.mem.patrol + 8
    < s.reg O.memDdrSize * 2 ^ 30 ∧ s.reg O.memDdrChState (s.mem.patrol / 256 % 4) = 2 ∧ s.mem.patrolNext ≤ s.tick ∧
    s.underTest (resOf 6 (s.mem.patrol / 8)) = false :=
  ⟨on [(O.memDdrState, 0, 3), (O.memDdrSize, 0, 8), (O.memDdrChState, 0, 2), (O.memDdrChState, 1, 2),
    (O.memDdrChState, 2, 2), (O.memDdrChState, 3, 2)], 1, by decide⟩

theorem wit_ddr_commands_10 : ∃ (s : State) (c : Nat), c < 4 ∧ s.reg O.memDdrChState c = 2 :=
  ⟨on [(O.memDdrState, 0, 3), (O.memDdrSize, 0, 8), (O.memDdrChState, 0, 2), (O.memDdrChState, 1, 2),
    (O.memDdrChState, 2, 2), (O.memDdrChState, 3, 2)], 0, by decide⟩

theorem wit_ddr_commands_11 : ∃ (s : State) (c : Nat), c < 4 ∧ s.reg O.memDdrChState c = 3 :=
  ⟨on [(O.memDdrChState, 0, 3)], 0, by decide⟩

theorem wit_ddr_commands_12 : ∃ (s : State) (c : Nat), c < 4 ∧ s.reg O.memDdrChState c = 3 :=
  ⟨on [(O.memDdrChState, 0, 3)], 0, by decide⟩

theorem wit_ddr_commands_13 : ∃ (s : State) (w : Who) (c : Nat), Allowed s w O.memDdrRetrain 0 c ∧ s.tokFree 4
    (holderOf w) = true ∧ (s.reg O.memDdrChState c = 2 ∨ s.reg O.memDdrChState c = 4) :=
  ⟨on [(O.memDdrState, 0, 3), (O.memDdrSize, 0, 8), (O.memDdrChState, 0, 2), (O.memDdrChState, 1, 2),
    (O.memDdrChState, 2, 2), (O.memDdrChState, 3, 2)], .keeper, 0, by unfold Allowed; decide⟩

theorem wit_matrix_transactions_1 : ∃ (s : State) (m : Nat) (id : Nat) (a : Nat) (n : Nat) (f : Nat) (g : Bool), m < 8
    ∧ (s.reg O.matrixMasterState m = 0 ∨ s.reg O.matrixMasterState m = 2) ∧ goodForm (a % 2 ^ 40) n = true ∧ (∀ x ∈
    s.mtx.txns, x.target ≠ 8) :=
  ⟨on [], 0, 0, 0x4000000, 8, 0, false, by decide⟩

theorem wit_matrix_transactions_2 : ∃ (s : State) (m : Nat) (id : Nat) (a : Nat) (d : List (Byte × Bool)), m < 8 ∧
    (s.reg O.matrixMasterState m = 0 ∨ s.reg O.matrixMasterState m = 2) ∧ goodForm (a % 2 ^ 40) d.length = true ∧ (∀ x
    ∈ s.mtx.txns, x.target ≠ 8) :=
  ⟨on [], 0, 0, 0x4000000, [(1, true)], by decide⟩

theorem wit_matrix_transactions_3 : ∃ (s : State) (m : Nat) (id : Nat) (a : Nat) (v : AtomicIn), m < 8 ∧ (s.reg
    O.matrixMasterState m = 0 ∨ s.reg O.matrixMasterState m = 2) ∧ goodForm (a % 2 ^ 40) v.len = true ∧ (∀ x ∈
    s.mtx.txns, x.target ≠ 8) :=
  ⟨on [], 0, 0, 0x4000000, ⟨1, 8, 0⟩, by decide⟩

theorem wit_matrix_transactions_4 : ∃ (s : State) (m : Nat) (id : Nat) (a : Nat) (v : AtomicIn), m < 8 ∧ (s.reg
    O.matrixMasterState m = 0 ∨ s.reg O.matrixMasterState m = 2) ∧ goodForm (a % 2 ^ 40) v.len = true ∧ (∀ x ∈
    s.mtx.txns, x.target ≠ 8) :=
  ⟨on [], 0, 0, 0x4000000, ⟨1, 8, 0⟩, by decide⟩

theorem wit_matrix_transactions_5 : ∃ (s : State) (m : Nat) (id : Nat) (a : Nat) (v : AtomicIn), m < 8 ∧ (s.reg
    O.matrixMasterState m = 0 ∨ s.reg O.matrixMasterState m = 2) ∧ goodForm (a % 2 ^ 40) v.len = true ∧ (∀ x ∈
    s.mtx.txns, x.target ≠ 8) :=
  ⟨on [], 0, 0, 0x4000000, ⟨1, 8, 0⟩, by decide⟩

theorem wit_matrix_transactions_6 : ∃ (s : State) (m : Nat) (id : Nat) (a : Nat) (n : Nat) (f : Nat) (g : Bool), m < 8
    ∧ s.reg O.matrixMasterState m ≠ 1 ∧ goodForm (a % 2 ^ 40) n = false ∧ s.mtx.txns = [] ∧ s.mtx.remapReq = none :=
  ⟨on [], 0, 0, 0x4000000, 0, 0, false, by decide⟩

theorem wit_matrix_transactions_7 : ∃ (s : State) (m : Nat) (id : Nat) (a : Nat) (n : Nat) (f : Nat) (g : Bool), m < 8
    ∧ s.reg O.matrixMasterState m = 1 :=
  ⟨on [(O.matrixMasterState, 0, 1)], 0, 0, 0x4000000, 8, 0, false, by decide⟩

theorem wit_matrix_transactions_8 : ∃ (s : State) (k : Nat) (dt : Nat) (x : Txn), k < 8 ∧ ((s.aged dt).settleMtx
    true).chosen k = some x :=
  ⟨mtxOf (fun x => { x with txns := [txn 1 1] }) (on []), 1, 1, { txn 1 1 with age := 1, tick := 0 }, by decide⟩

theorem wit_matrix_transactions_9 : ∃ (s : State) (k : Nat) (x : Txn), k < 8 ∧ (s.mtx.txns.find? fun y => y.granted &&
    y.target == k) = some x ∧ s.reg O.matrixMasterState x.master ≠ 1 ∧ (∀ y ∈ s.mtx.txns, y.target ≠ 8 ∧ (y.target = k
    → y.due = false)) :=
  ⟨mtxOf (fun x => { x with txns := [{ txn 1 1 with granted := true }] }) (on []), 1,
    { txn 1 1 with granted := true }, by decide⟩

theorem wit_matrix_transactions_10 : ∃ (s : State) (m : Nat) (id : Nat) (x : Txn), m < 8 ∧ (s.mtx.txns.find? fun y =>
    y.master == m && y.id == id && y.granted && decide (s.reg O.matrixTimeout ≤ s.txnWait y)) = some x ∧ s.reg
    O.matrixMasterState m ≠ 1 ∧ (∀ y ∈ s.mtx.txns, y.target ≠ 8 ∧ (y.target = x.target → y.due = false)) :=
  ⟨mtxOf (fun x => { x with txns := [{ txn 1 1 with granted := true, age := 2 ^ 40 }] }) (on []), 0, 0,
    { txn 1 1 with granted := true, age := 2 ^ 40 }, by decide⟩

theorem wit_matrix_control_1 : ∃ (s : State) (w : Who) (v : Nat), Allowed s w O.matrixMasterReset 0 v ∧ v % 4 = 0 ∧ (∀
    k < 8, bit v k = true → s.reg O.matrixMasterState k ≠ 1) :=
  ⟨on [], .keeper, 4, by unfold Allowed; decide⟩

theorem wit_matrix_control_2 : ∃ (s : State) (k : Nat), k < 8 ∧ s.reg O.matrixMasterState k = 1 ∧ s.txnsOf k = [] :=
  ⟨on [(O.matrixMasterState, 2, 1)], 2, by decide⟩

theorem wit_matrix_control_3 : ∃ (s : State) (w : Who) (v : Nat), Allowed s w O.matrixRemap 0 v ∧ s.reg O.matrixMapsel
    ≠ 0 ∧ (s.mtx.remapReq ≠ none ∨ s.mtx.remapped ≠ (v == 1)) :=
  ⟨on [(O.matrixMapsel, 0, 1)], .keeper, 1, by unfold Allowed; decide⟩

theorem wit_matrix_control_4 : ∃ (s : State) (w : Who) (v : Nat), Allowed s w O.matrixRemap 0 v ∧ s.reg O.matrixMapsel
    ≠ 0 ∧ s.mtx.remapReq = none ∧ s.mtx.remapped = (v == 1) :=
  ⟨on [(O.matrixMapsel, 0, 1)], .keeper, 0, by unfold Allowed; decide⟩

theorem wit_matrix_control_5 : ∃ (s : State) (v : Nat), s.mtx.remapReq = some v ∧ (∀ x ∈ s.mtx.txns, x.granted = true
    → 2 ≤ x.target) :=
  ⟨mtxOf (fun x => { x with remapReq := some 1 }) (on []), 1, by decide⟩

theorem wit_matrix_control_6 : ∃ (s : State) (v : Nat), s.mtx.remapReq = some v ∧ s.mtx.txns = [] :=
  ⟨mtxOf (fun x => { x with remapReq := some 1 }) (on []), 1, by decide⟩

theorem wit_host_access_1 : ∃ (s : State) (w : Who) (v : Nat), Allowed s w O.maintTokenTake 0 v ∧ (∀ d < 8, bit v d =
    true → s.tokFree d (holderOf w) = true) :=
  ⟨on [], .keeper, 1, by unfold Allowed; decide⟩

theorem wit_host_access_2 : ∃ (s : State) (w : Who) (v : Nat), Allowed s w O.maintTokenRelease 0 v :=
  ⟨on [], .keeper, 1, by unfold Allowed; decide⟩

theorem wit_host_access_3 : ∃ (s : State) (w : Who) (k : Nat) (key : List Byte), Writable s w O.secKey k ∧ key ≠ [] ∧
    key.length ≤ 32 ∧ s.reg O.secKeyState k = 1 :=
  ⟨on [(O.secKeyState, 0, 1)], .keeper, 0, [1], by unfold Writable; decide⟩

theorem wit_host_access_4 : ∃ (s : State) (w : Who) (k : Nat) (key : List Byte), Writable s w O.secKey k ∧ key ≠ [] ∧
    key.length ≤ 32 ∧ s.reg O.secKeyState k = 0 :=
  ⟨on [], .keeper, 0, [1], by unfold Writable; decide⟩

theorem wit_host_access_5 : ∃ (s : State) (w : Who) (i : Nat) (v : Nat), i ∈ [O.hdpSessionIdle, O.protFailThr,
    O.refPullLimit, O.timeTcEn, O.eventIrqEn] ∧ Allowed s w i 0 v :=
  ⟨on [], .keeper, O.eventIrqEn, 1, by unfold Allowed; decide⟩

theorem wit_host_access_6 : ∃ (s : State) (w : Who) (a : Nat) (v : Nat), Allowed s w O.mapDraftSrc a v ∧
    s.followerPend a = false ∧ v ≠ 0xFFFFFFFE ∧ s.locked = false :=
  ⟨on [], .keeper, 0, 1, by unfold Allowed; decide⟩

theorem wit_host_access_7 : ∃ (s : State) (w : Who) (v : Nat), Allowed s w O.eventClear 0 v :=
  ⟨on [], .keeper, 1, by unfold Allowed; decide +kernel⟩

theorem wit_host_access_8 : ∃ (s : State) (w : Who) (v : Nat), Allowed s w O.eventMask 0 v :=
  ⟨on [], .keeper, 1, by unfold Allowed; decide +kernel⟩

theorem wit_hdp_service_1 : ∃ (s : State) (port : Nat) (enc : Encap) (m : List Byte) (h : Hdp), Admitted s port enc 1
    m h ∧ h.index = O.identDevid ∧ h.sub = 0 ∧ h.elem = 0 ∧ h.value = [] ∧ bit h.flags 5 = false ∧ bit (s.reg
    O.secRights h.session) 0 = true ∧ s.sys.recovery = false ∧ PortFree s port :=
  ⟨(served).setSession 0 { Ses.init with ceil := 2 ^ 20 }, 0, enc0, wire ⟨1, 0, 0, 5, 0, O.identDevid, 0, 0, 0, 0, 0,
    []⟩, ⟨1, 0, 0, 5, 0, O.identDevid, 0, 0, 0, 0, 0, []⟩, by unfold Admitted PortFree; decide +kernel⟩

theorem wit_hdp_service_2 : ∃ (s : State) (port : Nat) (enc : Encap) (m : List Byte) (h : Hdp), Admitted s port enc 2
    m h ∧ h.index = O.eventIrqEn ∧ h.sub = 0 ∧ h.elem = 0 ∧ h.value.length = 1 ∧ ofBytes h.value ≤ 1 ∧ bit (s.reg
    O.secRights h.session) 1 = true ∧ s.sys.recovery = false ∧ PortFree s port :=
  ⟨(served).setSession 0 { Ses.init with ceil := 2 ^ 20 }, 0, enc0, wire ⟨2, 0, 0, 5, 0, O.eventIrqEn, 0, 0, 0, 0, 0,
    [1]⟩, ⟨2, 0, 0, 5, 0, O.eventIrqEn, 0, 0, 0, 0, 0, [1]⟩, by unfold Admitted PortFree; decide +kernel⟩

theorem wit_hdp_service_3 : ∃ (s : State) (port : Nat) (enc : Encap) (m : List Byte) (h : Hdp), Admitted s port enc 3
    m h ∧ h.index = O.identDevid ∧ h.sub = 0 ∧ h.elem = 0 ∧ h.value = [] ∧ h.total = 4 ∧ bit (s.reg O.secRights
    h.session) 0 = true ∧ s.sys.recovery = false ∧ s.openBulk h.session = [] ∧ PortFree s port :=
  ⟨(served).setSession 0 { Ses.init with ceil := 2 ^ 20 }, 0, enc0, wire ⟨3, 0, 0, 5, 0, O.identDevid, 0, 0, 0, 4, 0,
    []⟩, ⟨3, 0, 0, 5, 0, O.identDevid, 0, 0, 0, 4, 0, []⟩, by unfold Admitted PortFree; decide +kernel⟩

theorem wit_hdp_service_4 : ∃ (s : State) (port : Nat) (enc : Encap) (m : List Byte) (h : Hdp), Admitted s port enc 4
    m h ∧ h.index = O.mapDraftSrc ∧ h.sub = 0 ∧ h.elem + 1000 ≤ 122880 ∧ h.total = 4000 ∧ h.offset = 0 ∧
    h.value.length = 1024 ∧ bit h.flags 6 = true ∧ bit (s.reg O.secRights h.session) 1 = true ∧ s.sys.recovery = false
    ∧ s.sys.fabOn = true ∧ s.openBulk h.session = [] ∧ s.bulkAt h.session h.xfer = none :=
  ⟨(served).setSession 0 { Ses.init with ceil := 2 ^ 20 }, 0, enc0, wire ⟨4, 64, 0, 5, 0, O.mapDraftSrc, 0, 0, 0,
    4000, 0, List.replicate 1024 0⟩, ⟨4, 64, 0, 5, 0, O.mapDraftSrc, 0, 0, 0, 4000, 0, List.replicate 1024 0⟩,
    by unfold Admitted; decide +kernel⟩

theorem wit_hdp_service_5 : ∃ (s : State) (port : Nat) (enc : Encap) (m : List Byte) (h : Hdp), Admitted s port enc 5
    m h ∧ h.value.length = 64 ∧ bit (s.reg O.secRights h.session) 0 = true ∧ s.sys.recovery = false :=
  ⟨(served).setSession 0 { Ses.init with ceil := 2 ^ 20 }, 0, enc0, wire ⟨5, 0, 0, 5, 0, 0, 0, 0, 0, 0, 0,
    List.replicate 64 255⟩, ⟨5, 0, 0, 5, 0, 0, 0, 0, 0, 0, 0, List.replicate 64 255⟩,
    by unfold Admitted; decide +kernel⟩

theorem wit_hdp_service_6 : ∃ (s : State) (port : Nat) (enc : Encap) (m : List Byte) (h : Hdp) (b : Bulk), Admitted s
    port enc 7 m h ∧ h.index = 0 ∧ h.xfer ≠ 0 ∧ bit (s.reg O.secRights h.session) 2 = true ∧ s.bulkAt h.session h.xfer
    = some b ∧ b.closed = none :=
  ⟨hdpOf (fun x => { x with bulk := [bulk0] }) ((served).setSession 0 { Ses.init with ceil := 2 ^ 20 }), 0, enc0, wire
    ⟨7, 0, 0, 5, 3, 0, 0, 0, 0, 0, 0, []⟩, ⟨7, 0, 0, 5, 3, 0, 0, 0, 0, 0, 0, []⟩, bulk0,
    by unfold Admitted; decide +kernel⟩

theorem wit_hdp_service_7 : ∃ (s : State) (k : Nat), k < 8 ∧ (s.session k).sub ≠ 0 ∧ (s.session k).queue ≠ [] ∧
    ((s.session k).notified = false ∨ s.elapsed (s.session k).lastNotify (msTicks 1) = true) ∧ s.sys.booting = false ∧
    s.sys.restarting = false ∧ PortFree s (s.session k).subPort :=
  ⟨(on []).setSession 0 { Ses.init with sub := 1, queue := [⟨0, 1, 0⟩] }, 0, by unfold PortFree; decide⟩

theorem wit_hdp_service_8 : ∃ (s : State) (k : Nat) (port : Nat) (enc : Encap) (m : List Byte), k < 8 ∧ (s.session
    k).waiting = [(port, enc, m)] ∧ s.authentic (hdpFields m) m = false :=
  ⟨(served).setSession 0 { Ses.init with waiting := [(0, enc0, [])] }, 0, 0, enc0, [], by decide +kernel⟩

theorem wit_hdp_service_9 : ∃ (s : State) (k : Nat) (port : Nat) (enc : Encap) (m : List Byte) (h : Hdp), k < 8 ∧
    (s.session k).waiting = [(port, enc, m)] ∧ hdpFields m = h ∧ h.session = k ∧ s.authentic h m = true ∧ s.fresh48 h
    = true ∧ h.seq + 65536 < 2 ^ 48 - 1 ∧ h.op = 1 ∧ h.index = O.identDevid ∧ h.sub = 0 ∧ h.elem = 0 ∧ h.value = [] ∧
    bit h.flags 5 = false ∧ bit (s.reg O.secRights k) 0 = true ∧ s.sys.recovery = false ∧ PortFree s port :=
  ⟨(served).setSession 0
    { Ses.init with waiting := [(0, enc0, wire ⟨1, 0, 0, 5, 0, O.identDevid, 0, 0, 0, 0, 0, []⟩)] }, 0, 0, enc0, wire
    ⟨1, 0, 0, 5, 0, O.identDevid, 0, 0, 0, 0, 0, []⟩, ⟨1, 0, 0, 5, 0, O.identDevid, 0, 0, 0, 0, 0, []⟩,
    by unfold PortFree; decide +kernel⟩

theorem wit_hdp_service_10 : ∃ (s : State) (k : Nat), k < 8 ∧ (s.session k).idle = false ∧ s.elapsed (s.session
    k).lastTick (secTicks (s.reg O.hdpSessionIdle)) = true :=
  ⟨clkOf ⟨4000 * 311040000, 0, 0⟩ ((on []).setSession 0 { Ses.init with idle := false }), 0, by decide⟩

theorem wit_hdp_service_11 : ∃ (s : State) (k : Nat) (x : Nat) (b : Bulk), k < 8 ∧ s.bulkAt k x = some b ∧ b.closed =
    none ∧ s.elapsed b.last (secTicks 1 + 1) = true :=
  ⟨clkOf ⟨4000 * 311040000, 0, 0⟩ (hdpOf (fun x => { x with bulk := [bulk0] }) (on [])), 0, 3, bulk0, by decide⟩

theorem wit_hdp_service_12 : ∃ (s : State) (p : Nat) (a : Nat), p < 2 ∧ s.ownAddress p a = true ∧ PortFree s p :=
  ⟨hdpOf (fun x => { x with linkUp := [0] }) (on [(O.hdpIpv6, 0, 7)]), 0, 7, by unfold PortFree; decide⟩

theorem wit_hdp_service_13 : ∃ (s : State) (p : Nat) (a : Nat) (l : List Byte), p < 2 ∧ s.ownAddress p a = true ∧
    PortFree s p :=
  ⟨hdpOf (fun x => { x with linkUp := [0] }) (on [(O.hdpIpv6, 0, 7)]), 0, 7, [1], by unfold PortFree; decide⟩

theorem wit_link_frames_1 : ∃ (s : State) (p : Nat) (f : RxFrame) (d : Nat), p < 96 ∧ s.running p = true ∧ s.reg
    O.portAlignState p = 5 ∧ f.lane.at_ = (s.linkP p).pos ∧ fawDiff (BitVec.ofNat 96 (ofBits ((s.rxRaw p f.lane).take
    96))) = d ∧ 3 < d ∧ (s.linkP p).rxReset = false :=
  ⟨on [(O.portEnable, 0, 1), (O.portAlignState, 0, 5)], 0, ⟨⟨0, 0, []⟩, 0⟩, fawDiff 0, by decide +kernel⟩

theorem wit_link_frames_2 : ∃ (s : State) (p : Nat) (f : RxFrame) (d : Nat) (cs : List CodeR), p < 96 ∧ s.running p =
    true ∧ s.aligned p = true ∧ f.lane.at_ = (s.linkP p).pos ∧ fawDiff (BitVec.ofNat 96 (ofBits ((s.rxRaw p
    f.lane).take 96))) = d ∧ (d ≤ 3 ∨ s.reg O.portAlignState p ≠ 5) ∧ decodeRaw (s.rxVer p) (s.rxRaw p f.lane) = cs :=
  ⟨on [(O.portEnable, 0, 1), (O.portAlignState, 0, 3)], 0, ⟨⟨0, 0, []⟩, 0⟩, fawDiff 0, [], by decide +kernel⟩

theorem wit_link_frames_3 : ∃ (s : State) (p : Nat) (f : RxFrame) (d : Nat) (cs : List CodeR), p < 96 ∧ s.running p =
    true ∧ s.aligned p = true ∧ f.lane.at_ = (s.linkP p).pos ∧ fawDiff (BitVec.ofNat 96 (ofBits ((s.rxRaw p
    f.lane).take 96))) = d ∧ (d ≤ 3 ∨ s.reg O.portAlignState p ≠ 5) ∧ decodeRaw (s.rxVer p) (s.rxRaw p f.lane) = cs ∧
    (rxView (s.rxVer p) cs).valid 3 = none ∧ (s.linkP p).rxCount ≠ 2 ∧ (s.linkP p).rxReset = false :=
  ⟨on [(O.portEnable, 0, 1), (O.portAlignState, 0, 3)], 0, ⟨⟨0, 0, []⟩, 0⟩, fawDiff 0, [], by decide +kernel⟩

theorem wit_link_frames_4 : ∃ (s : State) (p : Nat) (f : RxFrame), p < 96 ∧ f.lane.at_ ≠ (s.linkP p).pos :=
  ⟨on [(O.portEnable, 0, 1), (O.portAlignState, 0, 3)], 0, ⟨⟨5, 0, []⟩, 0⟩, by decide⟩

theorem wit_island_refusals_1 : ∃ (s : State) (w : Who) (v : Nat) (k : Nat) (i : Nat), Allowed s w O.powerSdIslandEn 0
    v ∧ s.tokFree 7 (holderOf w) = true ∧ k < 12 ∧ i < 8 ∧ bit (s.reg O.powerSdIslandEn) k = true ∧ bit v k = false ∧
    (s.reg O.portEnable (8 * k + i) = 1 ∨ (s.linkP (8 * k + i)).stopPending = true) :=
  ⟨on [(O.powerSdIslandEn, 0, 1), (O.portEnable, 0, 1)], .keeper, 0, 0, 0, by unfold Allowed; decide⟩

theorem wit_island_refusals_2 : ∃ (s : State) (w : Who) (p : Nat), Allowed s w O.portEnable p 1 ∧ s.reg O.portEnable p
    ≠ 1 ∧ (s.linkP p).stopPending = false ∧ s.islandReady p = false :=
  ⟨on [], .keeper, 0, by unfold Allowed; decide⟩

theorem wit_draft_locked_1 : ∃ (s : State), (s.reg O.mapState = 1 ∨ s.reg O.mapState = 2) :=
  ⟨on [(O.mapState, 0, 1)], by decide⟩

theorem wit_draft_locked_2 : ∃ (s : State) (w : Who) (a : Nat) (v : Nat), Allowed s w O.mapDraftSrc a v ∧
    s.followerPend a = false ∧ v ≠ 0xFFFFFFFE ∧ s.locked = true :=
  ⟨on [(O.mapState, 0, 1)], .keeper, 0, 1, by unfold Allowed; decide⟩

theorem wit_draft_locked_3 : ∃ (s : State) (w : Who) (a : Nat) (v : Nat), s.gate w O.mapDraftSrc a = 0 ∧
    s.followerPend a = true :=
  ⟨on [(O.grainSize, 0, 1)], .keeper, 1, 5, by decide⟩

theorem wit_draft_locked_4 : ∃ (s : State) (w : Who) (e : Nat) (v : Nat), s.gate w O.grainSize e = 0 ∧ s.locked = true
    :=
  ⟨on [(O.mapState, 0, 1)], .keeper, 0, 1, by decide⟩

theorem wit_draft_locked_5 : ∃ (s : State) (w : Who) (l : Nat) (v : Nat), s.gate w O.fabricLodeState l = 0 ∧ s.locked
    = true :=
  ⟨on [(O.mapState, 0, 1)], .keeper, 0, 1, by decide⟩

theorem wit_draft_locked_6 : ∃ (s : State) (w : Who) (v : Nat), Allowed s w O.mapDraftRevert 0 v ∧ s.locked = true :=
  ⟨on [(O.mapState, 0, 1)], .keeper, 1, by unfold Allowed; decide⟩

theorem wit_draft_locked_7 : ∃ (s : State) (w : Who) (v : Nat), Allowed s w O.mapDraftRevert 0 v ∧ s.locked = false ∧
    RegsOk s :=
  ⟨on [], .keeper, 1, by unfold RegsOk Allowed; decide⟩

theorem wit_commit_abort_1 : ∃ (s : State) (w : Who), bit (s.rights w) 2 = true ∧ s.sys.fabOn = true ∧ s.locked = true
    ∧ s.map.loaded = false ∧ s.deadlineDue = false ∧ (s.map.lodeDue = true ∨ s.map.origin = 1) ∧ s.sys.mode.commits =
    true :=
  ⟨mapOf (fun x => { x with f := 16, origin := 1 }) (on [(O.mapState, 0, 1)]), .keeper, by decide⟩

theorem wit_commit_abort_2 : ∃ (s : State) (w : Who), bit (s.rights w) 2 = true ∧ s.sys.fabOn = true ∧ s.locked = true
    ∧ s.map.loaded = false ∧ s.deadlineDue = false ∧ s.NoRepair :=
  ⟨mapOf (fun x => { x with f := 16 }) (on [(O.mapState, 0, 1)]), .keeper, by unfold State.NoRepair; decide⟩

theorem wit_commit_abort_3 : ∃ (s : State) (w : Who), bit (s.rights w) 2 = true ∧ s.sys.fabOn = true ∧ s.locked = true
    ∧ (s.map.loaded = true ∨ s.deadlineDue = true) :=
  ⟨mapOf (fun x => { x with loaded := true }) (on [(O.mapState, 0, 1)]), .keeper, by decide⟩

theorem wit_commit_abort_4 : ∃ (s : State) (w : Who), bit (s.rights w) 2 = true ∧ s.sys.fabOn = true ∧ s.locked =
    false :=
  ⟨on [], .keeper, by decide⟩

theorem wit_commit_refused_1 : ∃ (s : State) (w : Who), Allowed s w O.mapCommitReq 0 1 ∧ s.sys.mode ≠ .restore ∧
    s.commitCheck (holderOf w) (s.reg O.mapCommitMode) ≠ 0 :=
  ⟨on [(O.mapState, 0, 1)], .keeper, by unfold Allowed; decide⟩

theorem wit_transaction_qos_1 : ∃ (s : State) (c : Instr) (m : Nat) (id : Nat) (a : Nat) (d : List (Byte × Bool)) (n :
    Nat) (v : AtomicIn) (f : Nat) (g : Bool), c ∈ [Instr.matrixRead m id a n ⟨f, g⟩, .matrixWrite m id a d, .addWrap m
    id a v, .addSat m id a v, .swap m id a v] ∧ m < 8 ∧ s.reg O.matrixMasterState m = 0 ∧ (∀ x ∈ s.mtx.txns, x.target
    ≠ 8) ∧ goodForm (a % 2 ^ 40) n = true ∧ goodForm (a % 2 ^ 40) d.length = true ∧ goodForm (a % 2 ^ 40) v.len = true
    :=
  ⟨on [], .swap 0 0 0x4000000 ⟨1, 8, 0⟩, 0, 0, 0x4000000, [(0, true)], 8, ⟨1, 8, 0⟩, 0, false, by decide⟩

theorem wit_transaction_qos_2 : ∃ (s : State) (w : Who) (k : Nat) (v : Nat), Allowed s w O.matrixQos k v :=
  ⟨on [], .keeper, 0, 1, by unfold Allowed; decide⟩

theorem wit_event_bits_1 : ∃ (v : Nat) (ev : Nat), ev < 512 :=
  ⟨1, 0, by decide⟩

theorem wit_event_bits_2 : ∃ (s : State) (w : Who) (v : Nat), Allowed s w O.eventClear 0 v :=
  ⟨on [], .keeper, 1, by unfold Allowed; decide +kernel⟩

theorem wit_event_bits_3 : ∃ (s : State) (k : Nat), k < 16 :=
  ⟨on [], 0, by decide +kernel⟩

theorem wit_event_bits_6 : ∃ (s : State) (m : Nat) (k : Nat), k < 16 :=
  ⟨on [], 0, 0, by decide⟩

theorem wit_event_bits_7 : ∃ (s : State) (ev : Nat), ev < 512 :=
  ⟨on [], 0, by decide⟩

theorem wit_event_raising_1 : ∃ (s : State) (ev : Nat), ev < 512 ∧ (480 ≤ ev ∨ s.sys.fabOn = true) ∧ (ev ≠ 509 ∨ ∀ k <
    8, octBit 64 (s.session k).sub 509 = false) :=
  ⟨on [], 509, by decide +kernel⟩

theorem wit_event_raising_2 : ∃ (s : State) (ev : Nat) (k : Nat) (n : Nat), SMap.get 0 s.rate (ev * 2 ^ 20 + k) ≠ 0 ∧
    s.elapsed (SMap.get 0 s.rate (ev * 2 ^ 20 + k) - 1) n = false :=
  ⟨{ on [] with rate := [(0, 1)] }, 0, 0, 1, by decide⟩

theorem wit_event_raising_3 : ∃ (s : State) (ev : Nat) (k : Nat) (n : Nat), (SMap.get 0 s.rate (ev * 2 ^ 20 + k) = 0 ∨
    s.elapsed (SMap.get 0 s.rate (ev * 2 ^ 20 + k) - 1) n = true) :=
  ⟨on [], 0, 0, 1, by decide⟩

theorem wit_trace_refusals_1 : ∃ (s : State) (w : Who) (c : Instr) (v : Nat), (c, v) ∈ [(Instr.traceStartWrap w, 1),
    (Instr.traceStartStop w, 2)] ∧ Allowed s w O.tallyTraceCtrl 0 v ∧ s.traceRoom ≠ 0 ∧ (s.tal.run = true ∨ s.tokFree
    6 (holderOf w) = false) :=
  ⟨talOf (fun x => { x with run := true }) (on [(O.memBankOwner, 0, 6)]), .keeper, .traceStartWrap .keeper, 1,
    by unfold Allowed; decide⟩

theorem wit_trace_refusals_2 : ∃ (s : State) (w : Who) (c : Instr) (v : Nat), (c, v) ∈ [(Instr.traceStartWrap w, 1),
    (Instr.traceStartStop w, 2)] ∧ Allowed s w O.tallyTraceCtrl 0 v ∧ ((s.reg O.tallyTraceDest = 0 ∧ s.ownerBanks 6 =
    []) ∨ (s.reg O.tallyTraceDest ≠ 0 ∧ (s.reg O.memDdrTraceSize = 0 ∨ s.reg O.memDdrState ≠ 3))) :=
  ⟨on [(O.tallyTraceDest, 0, 1)], .keeper, .traceStartStop .keeper, 2, by unfold Allowed; decide⟩

theorem wit_trace_refusals_3 : ∃ (s : State) (w : Who) (v : Nat), Allowed s w O.tallyTraceDest 0 v ∧ s.tal.run = true
    :=
  ⟨talOf (fun x => { x with run := true }) (on []), .keeper, 1, by unfold Allowed; decide⟩

theorem wit_negotiated_version_1 : ∃ (s : State) (p : Nat), bit (s.reg O.linkVersionExcluded p) 0 = false ∧ 1 ≤ s.reg
    O.linkVersionMax p :=
  ⟨on [], 0, by decide⟩

theorem wit_fuse_writes_1 : ∃ (s : State) (w : Who) (v : Nat), Allowed s w O.secRevokeKey0 0 v ∧ s.keyOf (s.reg
    O.fwRunning) = 1 ∧ (∀ k < 2, s.reg O.fwSlotState k = 5 → s.keyOf k = 1) :=
  ⟨memOf (fun x => { x with flash := [(slotBase 0 + 7, 1)] }) (fwOf (fun x => { x with own := [0] }) (on [])),
    .keeper, 1, by unfold Allowed; decide⟩

theorem wit_fuse_writes_2 : ∃ (s : State) (w : Who) (v : Nat) (k : Nat), Allowed s w O.secRevokeKey0 0 v ∧ k < 2 ∧
    (s.keyOf (s.reg O.fwRunning) ≠ 1 ∨ (s.reg O.fwSlotState k = 5 ∧ s.keyOf k ≠ 1)) :=
  ⟨memOf (fun x => { x with flash := [(slotBase 0 + 7, 2)] }) (fwOf (fun x => { x with own := [0] }) (on [])),
    .keeper, 1, 0, by unfold Allowed; decide⟩

theorem wit_fuse_writes_3 : ∃ (s : State) (w : Who) (v : Nat), Allowed s w O.secSvnCommit 0 v ∧ (∀ k < 2, s.reg
    O.fwSlotState k ≠ 4) ∧ (∀ k < 2, s.reg O.fwSlotState k = 5 → v ≤ s.reg O.fwSlotSvn k) :=
  ⟨regsOf [(O.fwSlotSvn * 2 ^ 24 + 0, 3), (O.fwSlotSvn * 2 ^ 24 + 1, 3)] (on []), .keeper, 3,
    by unfold Allowed; decide⟩

theorem wit_fuse_writes_4 : ∃ (s : State) (w : Who) (v : Nat) (k : Nat), Allowed s w O.secSvnCommit 0 v ∧ k < 2 ∧
    (s.reg O.fwSlotState k = 4 ∨ (s.reg O.fwSlotState k = 5 ∧ s.reg O.fwSlotSvn k < v)) :=
  ⟨on [(O.fwSlotState, 0, 4)], .keeper, 3, 0, by unfold Allowed; decide⟩

theorem wit_fuse_writes_5 : ∃ (s : State) (w : Who) (v : Nat) (k : Nat) (d : List Byte) (c : Instr), bit (s.rights w)
    3 = false ∧ c ∈ [Instr.revokeKey0 w v, .svnCommit w v, .fwStageBegin w v, .fwStageSegment w k d, .fwActivate w v,
    .fwConfirm w v] :=
  ⟨on [], .ses 1, 1, 0, [], .fwActivate (.ses 1) 1, by decide⟩

theorem wit_fuse_writes_6 : ∃ (s : State) (w : Who) (i : Nat) (e : Nat) (v : Nat), bit (s.rights w) 3 = false ∧ 0x1200
    ≤ i ∧ i < 0x1210 :=
  ⟨on [], .ses 1, 0x1208, 0, 60, by decide⟩

theorem wit_matrix_memory_1 : ∃ (s : State) (k : Nat) (dt : Nat) (x : Txn), k < 8 ∧ ((s.aged dt).settleMtx
    true).chosen k = some x ∧ x.kind = 1 ∧ (∀ y ∈ s.mtx.txns, y.target ≠ 8 ∧ (y.target = k → y.due = false)) :=
  ⟨mtxOf (fun x => { x with txns := [txn 3 1] }) (ddrOn), 3, 1, { txn 3 1 with age := 1 }, by decide⟩

theorem wit_matrix_memory_2 : ∃ (s : State) (x : Txn), (s.mtx.txns.find? fun y => y.granted && y.target == 3) = some x
    ∧ x.kind = 1 ∧ (s.mtx.txns.filter fun y => y.due && y.target == 3) = [x] ∧ (∀ y ∈ s.mtx.txns, y.target ≠ 8) ∧
    s.reg O.matrixMasterState x.master ≠ 1 ∧ x.fetch = false ∧ pairAllows x.master 3 1 = true ∧ s.ddrOpen (x.addr % 2
    ^ 36) x.len true = true ∧ s.mem.ddrBad = [] :=
  ⟨mtxOf (fun x => { x with txns := [{ txn 3 1 with granted := true, due := true }] }) (ddrOn),
    { txn 3 1 with granted := true, due := true }, by decide⟩

theorem wit_matrix_memory_3 : ∃ (s : State) (x : Txn), (s.mtx.txns.find? fun y => y.granted && y.target == 1) = some x
    ∧ x.kind = 1 ∧ (s.mtx.txns.filter fun y => y.due && y.target == 1) = [x] ∧ (∀ y ∈ s.mtx.txns, y.target ≠ 8) ∧
    s.reg O.matrixMasterState x.master ≠ 1 ∧ x.fetch = false ∧ pairAllows x.master 1 1 = true ∧ s.mem.sramBad = [] :=
  ⟨mtxOf (fun x => { x with txns := [{ txn 1 1 with granted := true, due := true }] }) (on []),
    { txn 1 1 with granted := true, due := true }, by decide⟩

theorem wit_matrix_memory_4 : ∃ (s : State) (dt : Nat) (x : Txn), ((s.aged dt).settleMtx true).chosen 3 = some x ∧
    x.kind = 0 ∧ x.fetch = false ∧ pairAllows x.master 3 0 = true ∧ s.ddrOpen (x.addr % 2 ^ 36) x.len false = true ∧
    x.flip = 0 ∧ s.mem.ddrBad = [] ∧ (∀ y ∈ s.mtx.txns, y.target = 3 → y.due = false) :=
  ⟨mtxOf (fun x => { x with txns := [txn 3 0] }) (ddrOn), 1, { txn 3 0 with age := 1 }, by decide⟩

theorem wit_matrix_memory_5 : ∃ (s : State) (dt : Nat) (x : Txn), ((s.aged dt).settleMtx true).chosen 2 = some x ∧
    x.kind = 0 ∧ x.fetch = false ∧ pairAllows x.master 2 0 = true ∧ x.addr % 8 = 0 ∧ x.len = 8 ∧ x.flip = 0 ∧
    s.sys.fabOn = true ∧ s.mem.opened.contains (x.addr % 2 ^ 27 / 2 ^ 19) = false ∧ (∀ y ∈ s.mtx.txns, y.target = 2 →
    y.due = false) ∧ 6 ≤ s.reg O.memBankOwner (x.addr % 2 ^ 27 / 2 ^ 19) ∧ bankReads (s.reg O.memBankOwner (x.addr % 2
    ^ 27 / 2 ^ 19)) x.master = true ∧ s.reg O.memBankState (x.addr % 2 ^ 27 / 2 ^ 19) < 2 ∧ (eccDec (s.bankCode
    (x.addr % 2 ^ 27 / 2 ^ 19) (x.addr % 2 ^ 19 / 8))).fixed = false ∧ (eccDec (s.bankCode (x.addr % 2 ^ 27 / 2 ^ 19)
    (x.addr % 2 ^ 19 / 8))).bad = false :=
  ⟨mtxOf (fun x => { x with txns := [txn 2 0] }) (on [(O.memBankOwner, 0, 6), (O.memBankState, 0, 0)]), 1,
    { txn 2 0 with age := 1 }, by decide⟩

theorem wit_matrix_memory_6 : ∃ (s : State) (dt : Nat) (x : Txn), ((s.aged dt).settleMtx true).chosen 2 = some x ∧ 2 ≤
    x.kind ∧ x.kind ≤ 4 ∧ x.fetch = false ∧ pairAllows x.master 2 x.kind = true ∧ x.addr % 8 = 0 ∧ x.len = 8 ∧ x.flip
    = 0 ∧ s.sys.fabOn = true ∧ s.mem.opened.contains (x.addr % 2 ^ 27 / 2 ^ 19) = false ∧ (∀ y ∈ s.mtx.txns, y.target
    = 2 → y.due = false) ∧ 6 ≤ s.reg O.memBankOwner (x.addr % 2 ^ 27 / 2 ^ 19) ∧ bankWrites (s.reg O.memBankOwner
    (x.addr % 2 ^ 27 / 2 ^ 19)) x.master = true ∧ s.reg O.memBankState (x.addr % 2 ^ 27 / 2 ^ 19) < 2 ∧ (eccDec
    (s.bankCode (x.addr % 2 ^ 27 / 2 ^ 19) (x.addr % 2 ^ 19 / 8))).fixed = false ∧ (eccDec (s.bankCode (x.addr % 2 ^
    27 / 2 ^ 19) (x.addr % 2 ^ 19 / 8))).bad = false :=
  ⟨mtxOf (fun x => { x with txns := [txn 2 2] }) (on [(O.memBankOwner, 0, 7), (O.memBankState, 0, 0)]), 1,
    { txn 2 2 with age := 1 }, by decide⟩

theorem wit_matrix_memory_7 : ∃ (s : State) (u : Nat) (f : Nat) (b : Bool), SMap.get 0 s.mem.ddrBad u = 0 ∧ flips f =
    1 :=
  ⟨ddrOn, 0, 1, true, by decide⟩

theorem wit_matrix_memory_8 : ∃ (s : State) (u : Nat) (f : Nat) (b : Bool), SMap.get 0 s.mem.ddrBad u = 0 ∧ 2 ≤ flips
    f :=
  ⟨ddrOn, 0, 3, true, by decide⟩

theorem wit_hdp_discards_1 : ∃ (s : State) (port : Nat) (enc : Encap) (m : List Byte) (c : Instr), c ∈ [Instr.hdpRead
    port enc m, .hdpWrite port enc m, .readBulk port enc m, .writeBulk port enc m, .subscribe port enc m, .bulkAbort
    port enc m] ∧ port < 2 ∧ s.served port enc = true ∧ hdpParse m = none :=
  ⟨(served).setSession 0 { Ses.init with ceil := 2 ^ 20 }, 0, enc0, [], .hdpRead 0 enc0 [], by decide⟩

theorem wit_hdp_discards_2 : ∃ (s : State) (port : Nat) (enc : Encap) (m : List Byte) (h : Hdp) (c : Instr) (op :
    Nat), (c, op) ∈ [(Instr.hdpRead port enc m, 1), (.hdpWrite port enc m, 2), (.readBulk port enc m, 3), (.writeBulk
    port enc m, 4), (.subscribe port enc m, 5), (.bulkAbort port enc m, 7)] ∧ port < 2 ∧ s.served port enc = true ∧
    hdpParse m = some h ∧ h.op = op ∧ bit h.flags 7 = false ∧ s.authentic h m = false :=
  ⟨(served).setSession 0 { Ses.init with ceil := 2 ^ 20 }, 0, enc0, (⟨1, 0, 0, 5, 0, 0, 0, 0, 0, 0, 0, []⟩ : Hdp).wire
    (List.replicate 32 0), ⟨1, 0, 0, 5, 0, 0, 0, 0, 0, 0, 0, []⟩, .hdpRead 0 enc0 ((⟨1, 0, 0, 5, 0, 0, 0, 0, 0, 0, 0,
    []⟩ : Hdp).wire (List.replicate 32 0)), 1, by decide +kernel⟩

theorem wit_hdp_discards_3 : ∃ (s : State) (port : Nat) (enc : Encap) (m : List Byte) (h : Hdp) (c : Instr) (op :
    Nat), (c, op) ∈ [(Instr.hdpRead port enc m, 1), (.hdpWrite port enc m, 2), (.readBulk port enc m, 3), (.writeBulk
    port enc m, 4), (.subscribe port enc m, 5), (.bulkAbort port enc m, 7)] ∧ port < 2 ∧ s.served port enc = true ∧
    hdpParse m = some h ∧ h.op = op ∧ bit h.flags 7 = false ∧ s.authentic h m = true ∧ s.fresh48 h = false :=
  ⟨(served).setSession 0 { Ses.init with ceil := 2 ^ 20, win := [5] }, 0, enc0, wire ⟨1, 0, 0, 5, 0, 0, 0, 0, 0, 0, 0,
    []⟩, ⟨1, 0, 0, 5, 0, 0, 0, 0, 0, 0, 0, []⟩, .hdpRead 0 enc0 (wire ⟨1, 0, 0, 5, 0, 0, 0, 0, 0, 0, 0, []⟩), 1,
    by decide +kernel⟩

theorem wit_hdp_discards_4 : ∃ (s : State) (port : Nat) (enc : Encap) (m : List Byte) (h : Hdp) (c : Instr) (op :
    Nat), (c, op) ∈ [(Instr.hdpRead port enc m, 1), (.hdpWrite port enc m, 2), (.readBulk port enc m, 3), (.writeBulk
    port enc m, 4), (.subscribe port enc m, 5), (.bulkAbort port enc m, 7)] ∧ port < 2 ∧ s.served port enc = true ∧
    hdpParse m = some h ∧ h.op = op ∧ bit h.flags 7 = true ∧ s.spareSaid h m = false :=
  ⟨served, 0, enc0, notSpare, notSpareHdr, .hdpRead 0 enc0 notSpare, 1, .head _, by decide, by decide, not_spare.1,
    rfl, by decide, not_spare_said⟩

theorem wit_hdp_discards_5 : ∃ (s : State) (port : Nat) (enc : Encap) (m : List Byte) (c : Instr), c ∈ [Instr.hdpRead
    port enc m, .hdpWrite port enc m, .readBulk port enc m, .writeBulk port enc m, .subscribe port enc m, .bulkAbort
    port enc m] ∧ port < 2 ∧ s.served port enc = false :=
  ⟨on [], 0, enc0, [], .hdpRead 0 enc0 [], .head _, by decide, by decide⟩

theorem wit_refused_access_1 : ∃ (c : Instr) (s : State) (w : Who) (i : Nat) (e : Nat), access c = some (w, i, e) ∧
    s.gate w i e ≠ 0 :=
  ⟨.tokenTake (.ses 1) 1, on [], .ses 1, O.maintTokenTake, 0, by decide⟩

theorem wit_step_runs_the_front_command_1 : ∃ (s : State) (c : Instr) (q : List Instr), s.pending = c :: q :=
  ⟨State.reset.withQueue [.porstAssert], .porstAssert, [], by decide⟩

theorem wit_empty_queue_idles_1 : ∃ (s : State), s.pending = [] :=
  ⟨State.reset, by decide⟩

theorem wit_commands_answer_1 : ∃ (c : Instr) (s : State), c.wf = true :=
  ⟨.cdrLock 95, on [], by decide⟩

theorem wit_commands_answer_2 : ∃ (c : Instr) (s : State), c.wf = false :=
  ⟨.cdrLock 96, on [], by decide⟩

theorem wit_step_keeps_the_clock_1 : ∃ s t : State, s.clk.Ok ∧ step s = .next t :=
  ⟨State.reset.withQueue [.porstAssert], _, by unfold Clk.Ok; decide, rfl⟩

theorem wit_step_keeps_the_stores_1 : ∃ s t : State, StoresOk s ∧ step s = .next t :=
  ⟨State.reset.withQueue [.porstAssert], _, by unfold StoresOk RegsOk; decide, rfl⟩

theorem wit_queue_runs_1 : ∃ s : State, QueueOk s ∧ s.pending = [.cdrLock 95, .porstAssert] :=
  ⟨State.reset.withQueue [.cdrLock 95, .porstAssert], by unfold QueueOk; decide, rfl⟩

theorem wit_object_frame_1 : ∃ (c : Instr) (s t : State) (l : List Nat), objs c = some l ∧ exec c s = .next t :=
  ⟨.cdrLock 0, on [], _, _, rfl, rfl⟩

theorem wit_part_frame_1 : ∃ (c : Instr) (s t : State) (p : Part), p ∉ parts c ∧ exec c s = .next t :=
  ⟨.cdrLock 0, on [], _, .mem, by decide, rfl⟩

theorem wit_hdp_messages_1 : ∃ (h : Hdp) (mac : List Byte), h.Fits ∧ mac.length = 32 :=
  ⟨⟨4, 64, 7, 2 ^ 48 - 1, 1, 0x1000, 255, 2 ^ 24 - 1, 0, 4, 0, [1, 2]⟩, List.replicate 32 1,
    by unfold Hdp.Fits; decide, by decide⟩

theorem wit_hdp_messages_2 : ∃ (m : List Byte) (h : Hdp), hdpParse m = some h :=
  ⟨Hdp.wire ⟨4, 64, 7, 5, 1, 0x1000, 255, 3, 0, 4, 0, [1, 2]⟩ (List.replicate 32 1), ⟨4, 64, 7, 5, 1, 0x1000, 255, 3,
    0, 4, 0, [1, 2]⟩, by decide +kernel⟩

theorem wit_bank_word_code_1 : ∃ (d : Nat), d < 2 ^ 48 :=
  ⟨1, by decide⟩

theorem wit_bank_word_code_2 : ∃ (d : Nat) (i : Nat), d < 2 ^ 48 ∧ i < 55 :=
  ⟨2 ^ 48 - 1, 54, by decide⟩

theorem wit_bank_word_code_3 : ∃ d i j : Nat, d < 2 ^ 48 ∧ i < 55 ∧ j < 55 ∧ i ≠ j :=
  ⟨2 ^ 48 - 1, 54, 0, by decide⟩

theorem wit_lane_coding_1 : ∃ (tx : Nat) (rx : Nat) (q : Nat) (at_ : Nat) (raw : List Bool), raw.length % 2 = 0 ∧ bit
    tx 0 = bit rx 1 ∧ bit tx 3 = bit rx 2 ∧ q < 4 :=
  ⟨0, 0, 0, 0, [true, false], by decide⟩

theorem wit_codeword_round_trip_1 : ∃ (info : List Bool), info.length = 5140 :=
  ⟨List.replicate 5140 false, by decide +kernel⟩

theorem wit_frame_round_trip_1 : ∃ (ver : Nat) (f : LinkFrame), (ver = 1 ∨ ver = 2) ∧ f.ovh.length = 9 ∧ f.pay.length
    = 405 ∧ (∀ q < 9, (f.ovh.getD q []).length = rowOvh ver q) ∧ (∀ r ∈ f.pay, r.length = roundPay ver) ∧ (∀ r ∈ f.ovh
    ++ f.pay, ∀ w ∈ r, w < 2 ^ 48) :=
  ⟨1, zeroFrame, .inl rfl, by decide +kernel, by decide +kernel, by decide +kernel, zero_rounds, zero_words⟩

theorem wit_marker_places_3 : ∃ (q : Nat) (h : Nat) (i : Nat), q < 9 ∧ h < 225 ∧ i < 48 :=
  ⟨0, 224, 47, by decide⟩

end Sys2Proof.Tests
end

/-! Serdes islands and the ports that stand on them: refusals with 0x0505 (R31, R32). -/

namespace Sys2Proof.Machine

/-- A write command that passes the general checks, and whose own checks answer a code and change nothing, refuses with
that code. -/
theorem refuses_of_write {c : Instr} {s : State} {w : Who} {idx e v code : Nat} {op : State → State × Nat}
    (hc : exec c s = s.run fun s => s.write w idx e v op) (ha : Allowed s w idx e v)
    (hop : op s.fresh = (s.fresh, code)) (hcode : code ≠ 0) : Refuses c s code := by
  obtain ⟨hgate, hval, hrom⟩ := ha
  refine refuses_of (w := w) hc ?_
  rw [State.write_op s.fresh hgate hval hrom (by rwa [hop]), hop]

/-- POWER.SD_ISLAND_EN keeps the bit of an island that one of its eight ports still needs: an enabled port, or one whose
stop is pending (R31, log entry 24). -/
theorem sdIslandOp_port_in_use {s : State} {h v k i : Nat} (htok : s.tokFree 7 h = true) (hk : k < 12) (hi : i < 8)
    (hset : bit (s.reg O.powerSdIslandEn) k = true) (hclear : bit v k = false)
    (huse : s.reg O.portEnable (8 * k + i) = 1 ∨ (s.linkP (8 * k + i)).stopPending = true) :
    sdIslandOp h v s = (s, 0x0505) := by
  have hcleared : ∃ k < 12, (bit (s.reg O.powerSdIslandEn) k = true ∧ bit v k = false) ∧
      ∃ i < 8, s.reg O.portEnable (8 * k + i) = 1 ∨ (s.linkP (8 * k + i)).stopPending = true :=
    ⟨k, hk, ⟨hset, hclear⟩, i, hi, huse⟩
  simp only [sdIslandOp, htok, Bool.not_true, Bool.false_eq_true, if_false]
  exact if_pos (by simpa [and_assoc] using hcleared)

/-- PORT.ENABLE does not enable a port that is off, and has no pending stop to take back, while its island is not ready
(R32). -/
theorem portEnableOp_island_not_ready {s : State} {p : Nat} (hoff : s.reg O.portEnable p ≠ 1)
    (hstop : (s.linkP p).stopPending = false) (hisl : s.islandReady p = false) :
    portEnableOp p 1 s = (s, 0x0505) := by
  simp [portEnableOp, hoff, hstop, hisl]

/-- Settles O32: both writes pass the general checks and are refused by their own operation, before it has changed
anything. -/
theorem islandRefusals : Obligations.IslandRefusals := by
  refine ⟨fun s w v k i ha htok hk hi hset hclear huse => ?_, fun s w p ha hoff hstop hisl => ?_⟩
  · exact refuses_of_write (exec_sdIslandEnWrite s w v) ha
      (sdIslandOp_port_in_use (s := s.fresh) htok hk hi hset hclear huse) (by decide)
  · exact refuses_of_write (exec_portEnableWrite s w p 1) ha
      (portEnableOp_island_not_ready (s := s.fresh) hoff hstop hisl) (by decide)

end Sys2Proof.Machine

/-! Lists of bits and runs of a list: a number and its bits (R14), and cutting a list into runs of one length. -/

namespace Sys2Proof.Machine

/-! ## A number and its bits -/

@[simp] theorem bitsOf_length (n v : Nat) : (bitsOf n v).length = n := by
  induction n with
  | zero => rfl
  | succ n ih => simp [bitsOf, ih]

/-- The bits of a number depend on its value below 2^n only. -/
theorem bitsOf_two_pow_mul_add (n a r : Nat) : bitsOf n (2 ^ n * a + r) = bitsOf n r := by
  induction n generalizing a with
  | zero => rfl
  | succ n ih =>
    have split : 2 ^ (n + 1) * a + r = 2 ^ n * (2 * a) + r := by ring
    have top : (2 ^ (n + 1) * a + r).testBit n = r.testBit n := by
      have low : ∀ x, (x % 2 ^ (n + 1)).testBit n = x.testBit n := fun x => by simp [Nat.testBit_mod_two_pow]
      rw [← low, Nat.mul_add_mod, low]
    rw [bitsOf, bitsOf, top, split, ih]

theorem ofBits_append (a b : List Bool) : ofBits (a ++ b) = ofBits a * 2 ^ b.length + ofBits b := by
  induction b using List.reverseRecOn with
  | nil => simp [ofBits]
  | append_singleton b x ih =>
    have snoc : ∀ l : List Bool, ofBits (l ++ [x]) = 2 * ofBits l + b2n x := by simp [ofBits]
    rw [← List.append_assoc, snoc, snoc, ih, List.length_append, List.length_singleton, pow_succ]
    ring

theorem ofBits_cons (b : Bool) (l : List Bool) : ofBits (b :: l) = 2 ^ l.length * b2n b + ofBits l := by
  have h := ofBits_append [b] l
  rw [show ofBits [b] = b2n b by simp [ofBits], List.singleton_append] at h
  rw [h, Nat.mul_comm]

theorem b2n_le_one (b : Bool) : b2n b ≤ 1 := by cases b <;> decide

theorem ofBits_lt (l : List Bool) : ofBits l < 2 ^ l.length := by
  induction l with
  | nil => decide
  | cons b l ih =>
    have hb := Nat.mul_le_mul_left (2 ^ l.length) (b2n_le_one b)
    rw [ofBits_cons, List.length_cons, pow_succ]
    omega

theorem ofBits_bitsOf {n v : Nat} (h : v < 2 ^ n) : ofBits (bitsOf n v) = v := by
  have key : ∀ n, ofBits (bitsOf n v) = v % 2 ^ n := by
    intro n
    induction n with
    | zero => simp [bitsOf, ofBits, Nat.mod_one]
    | succ n ih =>
      have top : b2n (v.testBit n) = v / 2 ^ n % 2 := by
        rw [← Nat.toNat_testBit]; cases v.testBit n <;> rfl
      rw [bitsOf, ofBits_cons, bitsOf_length, ih, top, Nat.mod_pow_succ, Nat.add_comm]
  rw [key, Nat.mod_eq_of_lt h]

theorem bitsOf_ofBits (l : List Bool) : bitsOf l.length (ofBits l) = l := by
  induction l with
  | nil => rfl
  | cons b l ih =>
    have top : (2 ^ l.length * b2n b + ofBits l).testBit l.length = b := by
      rw [Nat.testBit_two_pow_mul_add _ (ofBits_lt l)]
      cases b <;> simp [b2n]
    rw [ofBits_cons, List.length_cons, bitsOf, top, bitsOf_two_pow_mul_add, ih]

/-! ## Runs of one length -/

section
variable {α : Type} {n : Nat}

theorem chunks_succ (k : Nat) {l : List α} (h : l ≠ []) :
    chunks n (k + 1) l = l.take n :: chunks n k (l.drop n) := by
  cases l with
  | nil => exact absurd rfl h
  | cons x l => rfl

/-- Runs of `n` elements put one after another are cut again where they were joined, whatever follows. -/
theorem chunks_flatten_append (hn : 0 < n) (ls : List (List α)) (h : ∀ l ∈ ls, l.length = n) (rest : List α) :
    chunks n ls.length (ls.flatten ++ rest) = ls := by
  induction ls with
  | nil => rfl
  | cons l ls ih =>
    obtain ⟨hl, hls⟩ := List.forall_mem_cons.mp h
    have some : l ++ (ls.flatten ++ rest) ≠ [] :=
      List.append_ne_nil_of_left_ne_nil (List.ne_nil_of_length_pos (hl ▸ hn)) _
    rw [List.length_cons, List.flatten_cons, List.append_assoc, chunks_succ _ some, List.take_left' hl,
      List.drop_left' hl, ih hls]

/-- A list that is a whole number of runs is their join, and each run is of length `n`. -/
theorem chunks_spec (hn : 0 < n) (k : Nat) (l : List α) (h : l.length = n * k) :
    (chunks n k l).flatten = l ∧ (chunks n k l).length = k ∧ ∀ c ∈ chunks n k l, c.length = n := by
  induction k generalizing l with
  | zero => simp [chunks, List.eq_nil_of_length_eq_zero h]
  | succ k ih =>
    have hlen : n + n * k = l.length := by rw [h]; ring
    obtain ⟨hjoin, hcount, hrun⟩ := ih (l.drop n) (by rw [List.length_drop]; omega)
    rw [chunks_succ k (List.ne_nil_of_length_pos (by omega))]
    refine ⟨?_, ?_, ?_⟩
    · rw [List.flatten_cons, hjoin, List.take_append_drop]
    · rw [List.length_cons, hcount]
    · rw [List.forall_mem_cons]
      exact ⟨by rw [List.length_take]; omega, hrun⟩

/-- Words written out in `n` bits each are read back, whatever follows. -/
theorem chunks_words_append (hn : 0 < n) (ws : List Nat) (h : ∀ w ∈ ws, w < 2 ^ n) (rest : List Bool) :
    (chunks n ws.length ((ws.map (bitsOf n)).flatten ++ rest)).map ofBits = ws := by
  have cut := chunks_flatten_append hn (ws.map (bitsOf n)) (by simp) rest
  rw [List.length_map] at cut
  rw [cut, List.map_map]
  exact (List.map_congr_left fun w hw => ofBits_bitsOf (h w hw)).trans (List.map_id ws)

/-- Bits read as words of `n` bits are written out again. -/
theorem words_chunks (hn : 0 < n) (k : Nat) (l : List Bool) (h : l.length = n * k) :
    (((chunks n k l).map ofBits).map (bitsOf n)).flatten = l := by
  obtain ⟨hjoin, -, hrun⟩ := chunks_spec hn k l h
  have same : ((chunks n k l).map ofBits).map (bitsOf n) = chunks n k l := by
    rw [List.map_map]
    exact (List.map_congr_left fun c hc => hrun c hc ▸ bitsOf_ofBits c).trans (List.map_id _)
  rw [same, hjoin]

/-- Runs of one length, joined, are as long as their number times that length. -/
theorem length_flatten_of_runs {ls : List (List α)} (h : ∀ l ∈ ls, l.length = n) :
    ls.flatten.length = n * ls.length := by
  rw [List.length_flatten, List.map_congr_left h, List.map_const', List.sum_replicate, smul_eq_mul, Nat.mul_comm]

end

end Sys2Proof.Machine

/-! The lane in both directions: Gray levels, precoder and polarity (R45, R46). -/

namespace Sys2Proof.Machine

theorem levelOf_lt (a b : Bool) : levelOf a b < 4 := by cases a <;> cases b <;> decide

theorem levelBits_levelOf (a b : Bool) : levelBits (levelOf a b) = [a, b] := by cases a <;> cases b <;> rfl

/-- Every level of a run of bits is one of the four. -/
theorem levelsOf_lt : ∀ (raw : List Bool), ∀ l ∈ levelsOf raw, l < 4
  | [] => by simp [levelsOf]
  | [_] => by simp [levelsOf]
  | a :: b :: raw => by
    rw [levelsOf, List.forall_mem_cons]
    exact ⟨levelOf_lt a b, levelsOf_lt raw⟩

/-- The pairs of bits of the levels are the bits again. -/
theorem levelBits_levelsOf : ∀ (raw : List Bool), raw.length % 2 = 0 → ((levelsOf raw).map levelBits).flatten = raw
  | [], _ => rfl
  | [_], h => by simp at h
  | a :: b :: raw, h => by
    have even : raw.length % 2 = 0 := by
      rw [List.length_cons, List.length_cons] at h
      omega
    rw [levelsOf, List.map_cons, List.flatten_cons, levelBits_levelOf, levelBits_levelsOf raw even]
    rfl

theorem precode_lt (q : Nat) (l : List Nat) : ∀ p ∈ precode q l, p < 4 := by
  induction l generalizing q with
  | nil => simp [precode]
  | cons g l ih =>
    rw [precode, List.forall_mem_cons]
    exact ⟨Nat.mod_lt _ (by decide), ih _⟩

/-- A level is the sum of the symbol sent for it and the symbol before. -/
theorem unprecode_precode (q : Nat) (l : List Nat) (h : ∀ g ∈ l, g < 4) : unprecode q (precode q l) = l := by
  induction l generalizing q with
  | nil => rfl
  | cons g l ih =>
    obtain ⟨hg, hl⟩ := List.forall_mem_cons.mp h
    have sum : ((g + 4 - q % 4) % 4 + q) % 4 = g := by omega
    rw [precode, unprecode, sum, ih _ hl]

theorem invertLevel_invertLevel (b : Bool) {l : Nat} (h : l < 4) : invertLevel b (invertLevel b l) = l := by
  cases b
  · rfl
  · simp only [invertLevel, if_true]
    omega

/-- Inverted twice, levels are as they were. -/
theorem map_invertLevel_twice (b : Bool) (l : List Nat) (h : ∀ x ∈ l, x < 4) :
    (l.map (invertLevel b)).map (invertLevel b) = l := by
  rw [List.map_map]
  exact (List.map_congr_left fun x hx => invertLevel_invertLevel b (h x hx)).trans (List.map_id l)

/-- Settles O57: the receiver undoes the inversion, then the precoder, then the Gray code. -/
theorem laneCoding : Obligations.LaneCoding := by
  intro tx rx q at_ raw heven hpre hinv hq
  have hlevels := levelsOf_lt raw
  simp only [laneRaw, laneLevels, hpre, hinv, invertLevel_invertLevel _ hq]
  cases bit rx 1 with
  | true =>
    simp only [if_true, map_invertLevel_twice _ _ (precode_lt q _), unprecode_precode q _ hlevels]
    exact levelBits_levelsOf raw heven
  | false =>
    simp only [Bool.false_eq_true, if_false, map_invertLevel_twice _ _ hlevels]
    exact levelBits_levelsOf raw heven

end Sys2Proof.Machine

/-! The Reed-Solomon code of a lane (R47, R48, log entry 78): the arithmetic of its field, a codeword's value at each
root of the generator, and what a receiver takes from a codeword. -/

namespace Sys2Proof.Machine

/-! ## The field GF(2^10) -/

/-- What holds of 0 and of the powers of two below 2^n and is kept by sums holds of all below 2^n. -/
theorem xor_induction {P : Nat → Prop} {n : Nat} (zero : P 0) (pow : ∀ i < n, P (2 ^ i))
    (xor : ∀ a b, P a → P b → P (a ^^^ b)) : ∀ a < 2 ^ n, P a := by
  induction n with
  | zero =>
    intro a h
    obtain rfl : a = 0 := by omega
    exact zero
  | succ n ih =>
    intro a h
    have below := ih fun i hi => pow i (by omega)
    by_cases hn : a < 2 ^ n
    · exact below a hn
    · have top : a / 2 ^ n = 1 := Nat.div_eq_of_lt_le (by omega) (by omega)
      have rest : (a ^^^ 2 ^ n) / 2 ^ n = 0 := by
        rw [Nat.xor_div_two_pow, top, Nat.div_self (Nat.two_pow_pos n), Nat.xor_self]
      have small : a ^^^ 2 ^ n < 2 ^ n := (Nat.div_eq_zero_iff_lt (Nat.two_pow_pos n)).mp rest
      rw [← Nat.xor_xor_cancel_right a (2 ^ n)]
      exact xor _ _ (below _ small) (pow n (Nat.lt_succ_self n))

theorem gfX_xor (a b : Nat) : gfX (a ^^^ b) = gfX a ^^^ gfX b := by
  have twice : 2 * (a ^^^ b) = 2 * a ^^^ 2 * b := by
    simpa [Nat.shiftLeft_eq, Nat.mul_comm] using Nat.shiftLeft_xor_distrib (a := a) (b := b) (i := 1)
  simp only [gfX, twice, Nat.testBit_xor]
  cases (2 * a).testBit 10 <;> cases (2 * b).testBit 10 <;>
    simp [Nat.xor_assoc, Nat.xor_comm, Nat.xor_left_comm]

theorem gfX_lt : ∀ a < 1024, gfX a < 1024 := by decide +kernel

/-- One turn of the product: what stands is moved up, and `a` enters where bit 9 − `i` of `b` is set. -/
def gfMulStep (a b r i : Nat) : Nat := if b.testBit (9 - i) then gfX r ^^^ a else gfX r

theorem gfMul_eq_foldl (a b : Nat) : gfMul a b = (List.range 10).foldl (gfMulStep a b) 0 := rfl

theorem gfMulStep_xor_left (a b c r t i : Nat) :
    gfMulStep (a ^^^ b) c (r ^^^ t) i = gfMulStep a c r i ^^^ gfMulStep b c t i := by
  unfold gfMulStep
  rw [gfX_xor]
  split
  · ac_rfl
  · rfl

theorem gfMulStep_xor_right (a b c r t i : Nat) :
    gfMulStep a (b ^^^ c) (r ^^^ t) i = gfMulStep a b r i ^^^ gfMulStep a c t i := by
  simp only [gfMulStep, gfX_xor, Nat.testBit_xor]
  cases b.testBit (9 - i) <;> cases c.testBit (9 - i) <;>
    simp [Nat.xor_assoc, Nat.xor_comm, Nat.xor_left_comm]

/-- A loop whose turn is additive is additive. -/
theorem foldl_xor {f g h : Nat → Nat → Nat} (hf : ∀ r t i, f (r ^^^ t) i = g r i ^^^ h t i) (l : List Nat)
    (r t : Nat) : l.foldl f (r ^^^ t) = l.foldl g r ^^^ l.foldl h t := by
  induction l generalizing r t with
  | nil => rfl
  | cons i l ih => rw [List.foldl_cons, hf, ih, List.foldl_cons, List.foldl_cons]

theorem gfMul_xor_left (a b c : Nat) : gfMul (a ^^^ b) c = gfMul a c ^^^ gfMul b c :=
  foldl_xor (gfMulStep_xor_left a b c) _ 0 0

theorem gfMul_xor_right (a b c : Nat) : gfMul a (b ^^^ c) = gfMul a b ^^^ gfMul a c :=
  foldl_xor (gfMulStep_xor_right a b c) _ 0 0

@[simp] theorem gfMul_zero_left (a : Nat) : gfMul 0 a = 0 := by simpa using gfMul_xor_left 0 0 a

@[simp] theorem gfMul_zero_right (a : Nat) : gfMul a 0 = 0 := by simpa using gfMul_xor_right a 0 0

theorem gfMul_one (a : Nat) : gfMul a 1 = a := by
  have above : ∀ i < 9, gfMulStep a 1 0 i = 0 := fun i hi => by
    have clear : Nat.testBit 1 (9 - i) = false := Nat.testBit_lt_two_pow (Nat.one_lt_two_pow (by omega))
    rw [gfMulStep, clear]
    rfl
  have last : gfMulStep a 1 0 9 = a := Nat.zero_xor a
  simp [gfMul_eq_foldl, List.range_succ, above, last]

/-- A factor times x is the product times x: so it is on powers of two, and so on sums of them. -/
theorem gfMul_gfX {a b : Nat} (ha : a < 1024) (hb : b < 1024) : gfMul a (gfX b) = gfX (gfMul a b) := by
  have powers : ∀ i < 10, ∀ j < 10, gfMul (2 ^ i) (gfX (2 ^ j)) = gfX (gfMul (2 ^ i) (2 ^ j)) := by decide +kernel
  have right : ∀ i < 10, ∀ b < 2 ^ 10, gfMul (2 ^ i) (gfX b) = gfX (gfMul (2 ^ i) b) := fun i hi =>
    xor_induction rfl (powers i hi) fun b c hb hc => by simp only [gfX_xor, gfMul_xor_right, hb, hc]
  have both : ∀ a < 2 ^ 10, ∀ b < 2 ^ 10, gfMul a (gfX b) = gfX (gfMul a b) :=
    xor_induction (by simp [gfX]) right fun a c ha hc b hb => by simp only [gfX_xor, gfMul_xor_left, ha b hb, hc b hb]
  exact both a ha b hb

theorem gfMulStep_lt {a r : Nat} (b i : Nat) (ha : a < 1024) (hr : r < 1024) : gfMulStep a b r i < 1024 := by
  unfold gfMulStep
  split
  · exact Nat.xor_lt_two_pow (n := 10) (gfX_lt r hr) ha
  · exact gfX_lt r hr

theorem gfMul_lt {a : Nat} (b : Nat) (ha : a < 1024) : gfMul a b < 1024 :=
  foldl_keeps (· < 1024) _ _ _ (by decide) fun _ i hr => gfMulStep_lt b i ha hr

/-- A factor goes through one turn of a product. -/
theorem gfMul_gfMulStep {a b r : Nat} (c i : Nat) (ha : a < 1024) (hr : r < 1024) :
    gfMul a (gfMulStep b c r i) = gfMulStep (gfMul a b) c (gfMul a r) i := by
  unfold gfMulStep
  split
  · rw [gfMul_xor_right, gfMul_gfX ha hr]
  · exact gfMul_gfX ha hr

theorem gfMul_assoc {a b : Nat} (c : Nat) (ha : a < 1024) (hb : b < 1024) :
    gfMul (gfMul a b) c = gfMul a (gfMul b c) := by
  have start : 0 < 1024 ∧ 0 = gfMul a 0 := ⟨by decide, (gfMul_zero_right a).symm⟩
  have turns := List.foldl_rel (l := List.range 10) (f := gfMulStep b c) (g := gfMulStep (gfMul a b) c)
    (r := fun r t => r < 1024 ∧ t = gfMul a r) start fun i _ r t ⟨hr, ht⟩ =>
      ⟨gfMulStep_lt c i hb hr, ht ▸ (gfMul_gfMulStep c i ha hr).symm⟩
  exact turns.2

/-! ## The value of a polynomial -/

/-- The value at `x` of a polynomial whose coefficients above those of the list give `acc`. -/
def gfEvalFrom (x acc : Nat) (l : List Nat) : Nat := l.foldl (fun a c => gfMul a x ^^^ c) acc

theorem gfEval_append (x : Nat) (l m : List Nat) : gfEval x (l ++ m) = gfEvalFrom x (gfEval x l) m :=
  List.foldl_append

@[simp] theorem gfEvalFrom_cons (x acc c : Nat) (l : List Nat) :
    gfEvalFrom x acc (c :: l) = gfEvalFrom x (gfMul acc x ^^^ c) l := rfl

theorem gfEval_zeros (x n : Nat) : gfEval x (List.replicate n 0) = 0 := by
  induction n with
  | zero => rfl
  | succ n ih => simpa [gfEval, List.replicate_succ] using ih

/-- The value of a sum of polynomials is the sum of the values. -/
theorem gfEvalFrom_xor (x : Nat) (k l : List Nat) (h : k.length = l.length) (a b : Nat) :
    gfEvalFrom x (a ^^^ b) (List.zipWith (· ^^^ ·) k l) = gfEvalFrom x a k ^^^ gfEvalFrom x b l := by
  induction k generalizing l a b with
  | nil =>
    rw [List.length_eq_zero_iff.mp h.symm]
    rfl
  | cons c k ih =>
    obtain ⟨d, l, rfl⟩ := List.exists_cons_of_length_pos (l := l) (by rw [← h]; exact Nat.succ_pos _)
    have sum : gfMul (a ^^^ b) x ^^^ (c ^^^ d) = (gfMul a x ^^^ c) ^^^ (gfMul b x ^^^ d) := by
      rw [gfMul_xor_left]; ac_rfl
    rw [List.zipWith_cons_cons, gfEvalFrom_cons, gfEvalFrom_cons, gfEvalFrom_cons, sum,
      ih l (Nat.succ.inj h)]

/-- A factor of all coefficients is a factor of the value. -/
theorem gfEvalFrom_map_gfMul {f : Nat} (x : Nat) (hf : f < 1024) (l : List Nat) (hl : ∀ c ∈ l, c < 1024)
    {a : Nat} (ha : a < 1024) : gfEvalFrom x (gfMul f a) (l.map (gfMul f)) = gfMul f (gfEvalFrom x a l) := by
  induction l generalizing a with
  | nil => rfl
  | cons c l ih =>
    obtain ⟨hc, hl⟩ := List.forall_mem_cons.mp hl
    rw [List.map_cons, gfEvalFrom_cons, gfEvalFrom_cons, gfMul_assoc x hf ha, ← gfMul_xor_right,
      ih hl (Nat.xor_lt_two_pow (n := 10) (gfMul_lt x ha) hc)]

/-! ## The parity symbols -/

/-- The coefficients of the generator polynomial below its highest, the highest of them first. -/
def rsTail : List Nat := (rsGen.take 30).reverse

theorem rsTail_spec : rsTail.length = 30 ∧ ∀ c ∈ rsTail, c < 1024 := by decide +kernel

/-- The 30 powers of x from 0 on are roots of the generator polynomial, which is monic. -/
theorem rsGen_roots : ∀ j < 30, gfEval (gfExp j) (1 :: rsTail) = 0 := by decide +kernel

/-- One message symbol enters the division by the generator polynomial. -/
def rsStep (r : List Nat) (m : Nat) : List Nat :=
  List.zipWith (· ^^^ ·) (r.drop 1 ++ [0]) (rsTail.map (gfMul (m ^^^ r.headD 0)))

theorem rsParity_eq_foldl (msg : List Nat) : rsParity msg = msg.foldl rsStep (List.replicate 30 0) := by
  unfold rsParity rsStep
  simp only [List.zipWith_map_right, rsTail]

theorem rsParity_append_singleton (msg : List Nat) (m : Nat) :
    rsParity (msg ++ [m]) = rsStep (rsParity msg) m := by
  rw [rsParity_eq_foldl, rsParity_eq_foldl, List.foldl_append]
  rfl

theorem rsStep_length {r : List Nat} (m : Nat) (h : r.length = 30) : (rsStep r m).length = 30 := by
  simp [rsStep, rsTail_spec.1, h]

theorem rsStep_lt {r : List Nat} {m : Nat} (hr : ∀ c ∈ r, c < 1024) (hm : m < 1024) : ∀ c ∈ rsStep r m, c < 1024 := by
  intro c hc
  obtain ⟨a, ha, b, hb, rfl⟩ : ∃ a ∈ r.drop 1 ++ [0], ∃ b ∈ rsTail.map (gfMul (m ^^^ r.headD 0)), a ^^^ b = c := by
    rw [rsStep, ← List.map_uncurry_zip_eq_zipWith] at hc
    obtain ⟨⟨a, b⟩, hab, rfl⟩ := List.mem_map.mp hc
    obtain ⟨ha, hb⟩ := List.of_mem_zip hab
    exact ⟨a, ha, b, hb, rfl⟩
  have hhead : r.headD 0 < 1024 := by
    cases r with
    | nil => decide
    | cons x r => exact hr x List.mem_cons_self
  obtain ⟨g, -, rfl⟩ := List.mem_map.mp hb
  refine Nat.xor_lt_two_pow (n := 10) ?_ (gfMul_lt g (Nat.xor_lt_two_pow (n := 10) hm hhead))
  rcases List.mem_append.mp ha with h | h
  · exact hr a (List.mem_of_mem_drop h)
  · rw [List.mem_singleton.mp h]
    decide

/-- The next symbol and the parity after it differ from the parity before, moved up by one, by a multiple of the
generator polynomial: at a root of it both give one value. -/
theorem gfEvalFrom_rsStep {x acc m : Nat} {r : List Nat} (hroot : gfEval x (1 :: rsTail) = 0)
    (hlen : r.length = 30) (hr : ∀ c ∈ r, c < 1024) (hm : m < 1024) :
    gfEvalFrom x acc (m :: rsStep r m) = gfMul (gfEvalFrom x acc r) x := by
  obtain ⟨h, r, rfl⟩ := List.exists_cons_of_length_pos (l := r) (by omega)
  have hf : m ^^^ h < 1024 := Nat.xor_lt_two_pow (n := 10) hm (hr h List.mem_cons_self)
  have sum : m :: rsStep (h :: r) m =
      List.zipWith (· ^^^ ·) (h :: (r ++ [0])) ((1 :: rsTail).map (gfMul (m ^^^ h))) := by
    rw [List.map_cons, List.zipWith_cons_cons, gfMul_one, Nat.xor_comm m h, Nat.xor_xor_cancel_left]
    simp only [rsStep, List.headD_cons, Nat.xor_comm m h]
    rfl
  have multiple : gfEvalFrom x 0 ((1 :: rsTail).map (gfMul (m ^^^ h))) = 0 := by
    have all : ∀ c ∈ 1 :: rsTail, c < 1024 := List.forall_mem_cons.mpr ⟨by decide, rsTail_spec.2⟩
    have factor := gfEvalFrom_map_gfMul x hf _ all (a := 0) (by decide)
    rw [gfMul_zero_right] at factor
    rw [factor, show gfEvalFrom x 0 (1 :: rsTail) = 0 from hroot, gfMul_zero_right]
  have moved : gfEvalFrom x acc (h :: (r ++ [0])) = gfMul (gfEvalFrom x acc (h :: r)) x := by
    rw [← List.cons_append, gfEvalFrom, List.foldl_append]
    exact Nat.xor_zero _
  have value := gfEvalFrom_xor x (h :: (r ++ [0])) ((1 :: rsTail).map (gfMul (m ^^^ h)))
    (by simpa [rsTail_spec.1] using hlen) acc 0
  rw [Nat.xor_zero] at value
  rw [sum, value, multiple, Nat.xor_zero, moved]

/-- The message and its parity are a multiple of the generator polynomial: 30 parity symbols of the field, and every
root of the generator is a root of the two together. -/
theorem rsParity_spec (msg : List Nat) (hmsg : ∀ m ∈ msg, m < 1024) :
    (rsParity msg).length = 30 ∧ (∀ c ∈ rsParity msg, c < 1024) ∧
      ∀ x, gfEval x (1 :: rsTail) = 0 → gfEval x (msg ++ rsParity msg) = 0 := by
  induction msg using List.reverseRecOn with
  | nil =>
    have none : rsParity [] = List.replicate 30 0 := rfl
    rw [none]
    exact ⟨by decide, by decide, fun x _ => gfEval_zeros x 30⟩
  | append_singleton msg m ih =>
    obtain ⟨hinit, hlast⟩ := List.forall_mem_append.mp hmsg
    have hm : m < 1024 := hlast m List.mem_cons_self
    obtain ⟨hlen, hlt, hzero⟩ := ih hinit
    rw [rsParity_append_singleton]
    refine ⟨rsStep_length m hlen, rsStep_lt hlt hm, fun x hroot => ?_⟩
    rw [List.append_assoc, List.singleton_append, gfEval_append, gfEvalFrom_rsStep hroot hlen hlt hm,
      ← gfEval_append, hzero x hroot, gfMul_zero_left]

/-! ## A codeword as sent and as received (R48, R50) -/

/-- The message symbols of information bits. -/
def infoSymbols (info : List Bool) : List Nat := (chunks 10 514 info).map ofBits

/-- The symbols of a codeword: those of the information bits, then the parity. -/
def codeSymbols (info : List Bool) : List Nat := infoSymbols info ++ rsParity (infoSymbols info)

theorem encodeCode_eq (info : List Bool) : encodeCode info = ((codeSymbols info).map (bitsOf 10)).flatten := rfl

section
variable {info : List Bool} (h : info.length = 5140)
include h

theorem infoSymbols_length : (infoSymbols info).length = 514 := by
  obtain ⟨-, hcount, -⟩ := chunks_spec (n := 10) (by decide) 514 info h
  rw [infoSymbols, List.length_map, hcount]

theorem infoSymbols_lt : ∀ m ∈ infoSymbols info, m < 1024 := by
  obtain ⟨-, -, hrun⟩ := chunks_spec (n := 10) (by decide) 514 info h
  intro m hm
  obtain ⟨c, hc, rfl⟩ := List.mem_map.mp hm
  have small := ofBits_lt c
  rwa [hrun c hc] at small

theorem infoSymbols_bits : ((infoSymbols info).map (bitsOf 10)).flatten = info :=
  words_chunks (by decide) 514 info h

theorem codeSymbols_length : (codeSymbols info).length = 544 := by
  obtain ⟨hlen, -, -⟩ := rsParity_spec _ (infoSymbols_lt h)
  rw [codeSymbols, List.length_append, infoSymbols_length h, hlen]

theorem codeSymbols_lt : ∀ c ∈ codeSymbols info, c < 1024 := by
  obtain ⟨-, hlt, -⟩ := rsParity_spec _ (infoSymbols_lt h)
  exact List.forall_mem_append.mpr ⟨infoSymbols_lt h, hlt⟩

theorem encodeCode_length : (encodeCode info).length = 5440 := by
  rw [encodeCode_eq, length_flatten_of_runs (n := 10) (by simp), List.length_map, codeSymbols_length h]

theorem take_encodeCode : (encodeCode info).take 5140 = info := by
  rw [encodeCode_eq, codeSymbols, List.map_append, List.flatten_append, infoSymbols_bits h]
  exact List.take_left' h

/-- The symbols that a receiver reads are those that were sent. -/
theorem chunks_encodeCode : (chunks 10 544 (encodeCode info)).map ofBits = codeSymbols info := by
  have read := chunks_words_append (n := 10) (by decide) _ (codeSymbols_lt h) []
  rwa [codeSymbols_length h, List.append_nil, ← encodeCode_eq] at read

theorem rsSyndromes_codeSymbols : ∀ x ∈ rsSyndromes (codeSymbols info), x = 0 := by
  intro x hx
  obtain ⟨j, hj, rfl⟩ := List.mem_map.mp hx
  obtain ⟨-, -, hzero⟩ := rsParity_spec _ (infoSymbols_lt h)
  exact hzero _ (rsGen_roots j (List.mem_range.mp hj))

theorem rsDecode_codeSymbols : rsDecode (codeSymbols info) = some (codeSymbols info, 0) := by
  have clean : (rsSyndromes (codeSymbols info)).all (· == 0) = true := by
    simpa using rsSyndromes_codeSymbols h
  rw [rsDecode, if_pos clean]

theorem decodeCode_encodeCode : decodeCode (encodeCode info) = ⟨info, true, 0⟩ := by
  have whole : ¬ (encodeCode info).length < 5440 := by rw [encodeCode_length h]; decide
  have msg : (codeSymbols info).take 514 = infoSymbols info := List.take_left' (infoSymbols_length h)
  rw [decodeCode, if_neg whole, chunks_encodeCode h, rsDecode_codeSymbols h]
  simp only [msg, infoSymbols_bits h]

end

/-- Settles O58: a codeword is a multiple of the generator polynomial, so its syndromes are zero. -/
theorem codewordRoundTrip : Obligations.CodewordRoundTrip := fun _ h =>
  ⟨encodeCode_length h, take_encodeCode h, (chunks_encodeCode h).symm ▸ rsSyndromes_codeSymbols h,
    decodeCode_encodeCode h⟩

end Sys2Proof.Machine

/-! A frame on the lane (R48, R51, R59, R60, R90): the scrambler undoes itself, the rows of a frame are cut out where
they were put, and the codewords carry the bits between. -/

namespace Sys2Proof.Machine

/-! ## The scrambler (R59, R60) -/

theorem keystream_lt (n r a : Nat) : (keystream n r a).1 < (a + 1) * 2 ^ n := by
  induction n generalizing r a with
  | zero => simp [keystream]
  | succ n ih =>
    have next := ih (ksStep r).1 (2 * a + b2n (ksStep r).2)
    have room : (2 * a + b2n (ksStep r).2 + 1) * 2 ^ n ≤ (a + 1) * 2 ^ (n + 1) := by
      rw [pow_succ', ← mul_assoc]
      exact Nat.mul_le_mul_right _ (by have := b2n_le_one (ksStep r).2; omega)
    exact Nat.lt_of_lt_of_le next room

theorem scramble_length (ver i r : Nat) (l : List Nat) : (scramble ver i r l).1.length = l.length := by
  induction l generalizing i r with
  | nil => rfl
  | cons w l ih => simp [scramble, ih]

/-- Scrambled words are words. -/
theorem scramble_lt (ver i r : Nat) (l : List Nat) (h : ∀ w ∈ l, w < 2 ^ 48) :
    ∀ w ∈ (scramble ver i r l).1, w < 2 ^ 48 := by
  induction l generalizing i r with
  | nil => simp [scramble]
  | cons w l ih =>
    obtain ⟨hw, hl⟩ := List.forall_mem_cons.mp h
    have key : (keystream 48 r 0).1 < 2 ^ 48 := by simpa only [Nat.zero_add, Nat.one_mul] using keystream_lt 48 r 0
    rw [scramble, List.forall_mem_cons]
    refine ⟨?_, ih _ _ hl⟩
    split
    · exact hw
    · exact Nat.xor_lt_two_pow hw key

/-- Scrambled twice from the same place and register, the words are as they were. -/
theorem scramble_scramble (ver i r : Nat) (l : List Nat) :
    (scramble ver i r (scramble ver i r l).1).1 = l := by
  induction l generalizing i r with
  | nil => rfl
  | cons w l ih =>
    simp only [scramble, ih, List.cons.injEq, and_true]
    split
    · rfl
    · exact Nat.xor_xor_cancel_right _ _

/-! ## Lists put together from runs -/

section
variable {α : Type}

theorem map_range_getD_add (l : List α) (d : α) (a n : Nat) (h : a + n ≤ l.length) :
    (List.range n).map (fun i => l.getD (a + i) d) = (l.drop a).take n := by
  refine List.ext_getElem (by simp; omega) fun i hi _ => ?_
  have hlt : a + i < l.length := by rw [List.length_map, List.length_range] at hi; omega
  rw [List.getElem_map, List.getElem_range, List.getElem_take, List.getElem_drop]
  exact List.getD_eq_getElem _ _ hlt

/-- Runs of `n` elements taken one after another from the front. -/
theorem flatten_map_range_drop_take (l : List α) (n k : Nat) :
    ((List.range k).map fun i => (l.drop (n * i)).take n).flatten = l.take (n * k) := by
  induction k with
  | zero => simp
  | succ k ih => simp [List.range_succ, ih, Nat.mul_succ, List.take_add]

/-- In the join of `N` runs, of which those before run `q` are `m` long, run `q` stands at `m * q`. -/
theorem drop_take_flatten_map_range (g : Nat → List α) {m N q : Nat} (hq : q < N) (h : ∀ i < q, (g i).length = m) :
    (((List.range N).map g).flatten.drop (m * q)).take (g q).length = g q := by
  have before : ((List.range q).map g).flatten.length = m * q := by
    rw [length_flatten_of_runs (n := m) (by simpa using h), List.length_map, List.length_range]
  obtain ⟨k, rfl⟩ := Nat.exists_eq_add_of_lt hq
  rw [Nat.add_right_comm, List.range_add, List.range_succ, List.map_append, List.map_append, List.flatten_append,
    List.flatten_append, List.append_assoc, List.drop_left' before]
  simp

end

/-- A list of the right length fits as it is. -/
theorem fit_eq_self {n : Nat} {l : List Nat} (h : l.length = n) : fit n l = l := by
  simp [fit, h]

/-! ## The rows of a frame (R51, R90) -/

/-- The words of a frame are those of its version: 9 rows of overhead, 405 rounds of payload, every word of 48 bits. -/
structure LinkFrame.Fits (f : LinkFrame) (ver : Nat) : Prop where
  ovh : f.ovh.length = 9
  pay : f.pay.length = 405
  row : ∀ q < 9, (f.ovh.getD q []).length = rowOvh ver q
  round : ∀ r ∈ f.pay, r.length = roundPay ver
  word : ∀ r ∈ f.ovh ++ f.pay, ∀ w ∈ r, w < 2 ^ 48

/-- Round `r` of row `q`. -/
def LinkFrame.round (f : LinkFrame) (q r : Nat) : List Nat := f.pay.getD (45 * q + r) []

/-- The words of row `q` in version 2: five overhead words before each round. -/
def LinkFrame.run (f : LinkFrame) (q r : Nat) : List Nat := ((f.ovh.getD q []).drop (5 * r)).take 5 ++ f.round q r

namespace LinkFrame.Fits

variable {f : LinkFrame} {ver q r : Nat} (h : f.Fits ver)
include h

theorem ovh_mem (hq : q < 9) : f.ovh.getD q [] ∈ f.ovh := by
  rw [List.getD_eq_getElem _ _ (by rw [h.ovh]; exact hq)]
  exact List.getElem_mem _

theorem round_mem (hq : q < 9) (hr : r < 45) : f.round q r ∈ f.pay := by
  rw [LinkFrame.round, List.getD_eq_getElem _ _ (by rw [h.pay]; omega)]
  exact List.getElem_mem _

theorem round_length (hq : q < 9) (hr : r < 45) : (f.round q r).length = roundPay ver :=
  h.round _ (h.round_mem hq hr)

theorem rounds_length (hq : q < 9) : ∀ l ∈ (List.range 45).map (f.round q), l.length = roundPay ver := by
  intro l hl
  obtain ⟨r, hr, rfl⟩ := List.mem_map.mp hl
  exact h.round_length hq (List.mem_range.mp hr)

theorem ovh_lt (hq : q < 9) : ∀ w ∈ f.ovh.getD q [], w < 2 ^ 48 :=
  h.word _ (List.mem_append_left _ (h.ovh_mem hq))

theorem round_lt (hq : q < 9) (hr : r < 45) : ∀ w ∈ f.round q r, w < 2 ^ 48 :=
  h.word _ (List.mem_append_right _ (h.round_mem hq hr))

/-- A row of version 1: the overhead, then the rounds. -/
theorem row_eq (hver : ver ≠ 2) (hq : q < 9) :
    f.row ver q = f.ovh.getD q [] ++ ((List.range 45).map (f.round q)).flatten := by
  have rounds : ∀ r ∈ List.range 45, fit (roundPay ver) (f.round q r) = f.round q r := fun r hr =>
    fit_eq_self (h.round_length hq (List.mem_range.mp hr))
  simp only [LinkFrame.row, if_neg hver, fit_eq_self (h.row q hq)]
  exact congrArg (f.ovh.getD q [] ++ List.flatten ·) (List.map_congr_left rounds)

end LinkFrame.Fits

section
variable {f : LinkFrame} {q r : Nat} (h : f.Fits 2)
include h

/-- A row of version 2: 45 runs. -/
theorem LinkFrame.row_eq_runs (hq : q < 9) : f.row 2 q = ((List.range 45).map (f.run q)).flatten := by
  have runs : ∀ r ∈ List.range 45, ((f.ovh.getD q []).drop (5 * r)).take 5 ++ fit (roundPay 2) (f.round q r) =
      f.run q r := fun r hr => by rw [fit_eq_self (h.round_length hq (List.mem_range.mp hr)), run]
  simp only [row, if_true, fit_eq_self (h.row q hq)]
  exact congrArg List.flatten (List.map_congr_left runs)

theorem LinkFrame.run_head_length (hq : q < 9) (hr : r < 45) :
    (((f.ovh.getD q []).drop (5 * r)).take 5).length = 5 := by
  have hrow : (f.ovh.getD q []).length = 225 := h.row q hq
  rw [List.length_take, List.length_drop]
  omega

theorem LinkFrame.run_length (hq : q < 9) (hr : r < 45) : (f.run q r).length = 1285 := by
  have hround : (f.round q r).length = 1280 := h.round_length hq hr
  rw [run, List.length_append, run_head_length h hq hr, hround]

theorem LinkFrame.runs_length (hq : q < 9) : ∀ l ∈ (List.range 45).map (f.run q), l.length = 1285 := by
  intro l hl
  obtain ⟨r, hr, rfl⟩ := List.mem_map.mp hl
  exact run_length h hq (List.mem_range.mp hr)

/-- The runs of a row are cut where they were joined. -/
theorem LinkFrame.chunks_row (hq : q < 9) : chunks 1285 45 (f.row 2 q) = (List.range 45).map (f.run q) := by
  have cut := chunks_flatten_append (by decide) _ (runs_length h hq) []
  rwa [List.length_map, List.length_range, List.append_nil, ← row_eq_runs h hq] at cut

end

/-- The overhead words of a row, as a receiver cuts them out. -/
def rowOverhead (ver q : Nat) (row : List Nat) : List Nat :=
  if ver = 2 then ((chunks 1285 45 row).map (List.take 5)).flatten else row.take (rowOvh ver q)

/-- The rounds of a row's payload, as a receiver cuts them out. -/
def rowRounds (ver q : Nat) (row : List Nat) : List (List Nat) :=
  if ver = 2 then (chunks 1285 45 row).map (List.drop 5) else chunks (roundPay ver) 45 (row.drop (rowOvh ver q))

/-- The words of row `q` among those of a frame. -/
def rowWords (ver q : Nat) (ws : List Nat) : List Nat :=
  (ws.drop (rowStart ver q)).take (rowOvh ver q + 45 * roundPay ver)

theorem linkFrame_eq (ver : Nat) (cs : List CodeR) (ws : List Nat)
    (h : (scramble ver 0 ksStart ((chunks 48 (frameWords ver) (cs.map CodeR.info).flatten).map ofBits)).1 = ws) :
    linkFrame ver cs = ⟨(List.range 9).map fun q => rowOverhead ver q (rowWords ver q ws),
      ((List.range 9).map fun q => rowRounds ver q (rowWords ver q ws)).flatten⟩ := by
  rw [← h]
  rfl

namespace LinkFrame.Fits

variable {f : LinkFrame} {ver q : Nat} (h : f.Fits ver) (hver : ver = 1 ∨ ver = 2)
include h hver

theorem rowOverhead_row (hq : q < 9) : rowOverhead ver q (f.row ver q) = f.ovh.getD q [] := by
  rcases hver with rfl | rfl
  · rw [rowOverhead, if_neg (by decide), h.row_eq (by decide) hq]
    exact List.take_left' (h.row q hq)
  · have heads : ∀ r ∈ List.range 45, (f.run q r).take 5 = ((f.ovh.getD q []).drop (5 * r)).take 5 := fun r hr =>
      List.take_left' (run_head_length h hq (List.mem_range.mp hr))
    rw [rowOverhead, if_pos rfl, chunks_row h hq, List.map_map]
    refine (congrArg List.flatten (List.map_congr_left heads)).trans ?_
    rw [flatten_map_range_drop_take]
    exact List.take_of_length_le (Nat.le_of_eq (h.row q hq))

theorem rowRounds_row (hq : q < 9) : rowRounds ver q (f.row ver q) = (List.range 45).map (f.round q) := by
  rcases hver with rfl | rfl
  · have cut := chunks_flatten_append (by decide) _ (h.rounds_length hq) []
    rw [List.length_map, List.length_range, List.append_nil] at cut
    rw [rowRounds, if_neg (by decide), h.row_eq (by decide) hq, List.drop_left' (h.row q hq)]
    exact cut
  · have tails : ∀ r ∈ List.range 45, (f.run q r).drop 5 = f.round q r := fun r hr =>
      List.drop_left' (run_head_length h hq (List.mem_range.mp hr))
    rw [rowRounds, if_pos rfl, chunks_row h hq, List.map_map]
    exact List.map_congr_left tails

theorem row_length (hq : q < 9) : (f.row ver q).length = rowOvh ver q + 45 * roundPay ver := by
  rcases hver with rfl | rfl
  · rw [h.row_eq (by decide) hq, List.length_append, h.row q hq, length_flatten_of_runs (h.rounds_length hq),
      List.length_map, List.length_range, Nat.mul_comm]
  · rw [row_eq_runs h hq, length_flatten_of_runs (runs_length h hq), List.length_map, List.length_range]
    simp [rowOvh, roundPay]

/-- Every word of a row is a word of the frame. -/
theorem row_lt (hq : q < 9) : ∀ w ∈ f.row ver q, w < 2 ^ 48 := by
  intro w hw
  rcases hver with rfl | rfl
  · rw [h.row_eq (by decide) hq, List.mem_append] at hw
    rcases hw with hw | hw
    · exact h.ovh_lt hq w hw
    · obtain ⟨l, hl, hw⟩ := List.mem_flatten.mp hw
      obtain ⟨r, hr, rfl⟩ := List.mem_map.mp hl
      exact h.round_lt hq (List.mem_range.mp hr) w hw
  · rw [row_eq_runs h hq] at hw
    obtain ⟨l, hl, hw⟩ := List.mem_flatten.mp hw
    obtain ⟨r, hr, rfl⟩ := List.mem_map.mp hl
    rcases List.mem_append.mp hw with hw | hw
    · exact h.ovh_lt hq w (List.mem_of_mem_drop (List.mem_of_mem_take hw))
    · exact h.round_lt hq (List.mem_range.mp hr) w hw

end LinkFrame.Fits

/-! ## The words and the bits of a frame (R48, R49) -/

/-- The words of a frame in the order they are sent. -/
def LinkFrame.words (f : LinkFrame) (ver : Nat) : List Nat := ((List.range 9).map (f.row ver)).flatten

/-- The information bits left over after the words of a frame. -/
def infoRest (ver : Nat) : Nat := if ver = 2 then 0 else 24

theorem LinkFrame.info_eq (f : LinkFrame) (ver : Nat) : ∃ rest : List Bool, rest.length = infoRest ver ∧
    f.info ver = ((scramble ver 0 ksStart (f.words ver)).1.map (bitsOf 48)).flatten ++ rest := by
  refine ⟨_, ?_, rfl⟩
  unfold infoRest
  split
  · rfl
  · exact bitsOf_length 24 _

namespace LinkFrame.Fits

variable {f : LinkFrame} {ver : Nat} (h : f.Fits ver) (hver : ver = 1 ∨ ver = 2)
include h hver

theorem words_length : (f.words ver).length = frameWords ver := by
  have rows : ∀ q ∈ List.range 9, (f.row ver q).length = rowOvh ver q + 45 * roundPay ver := fun q hq =>
    h.row_length hver (List.mem_range.mp hq)
  have total : (f.words ver).length = ((List.range 9).map fun q => rowOvh ver q + 45 * roundPay ver).sum := by
    rw [words, List.length_flatten, List.map_map]
    exact congrArg List.sum (List.map_congr_left rows)
  rw [total]
  rcases hver with rfl | rfl
  · decide +kernel
  · decide +kernel

theorem words_lt : ∀ w ∈ f.words ver, w < 2 ^ 48 := by
  intro w hw
  obtain ⟨l, hl, hw⟩ := List.mem_flatten.mp hw
  obtain ⟨q, hq, rfl⟩ := List.mem_map.mp hl
  exact h.row_lt hver (List.mem_range.mp hq) w hw

/-- Row `q` stands where the receiver looks for it: only row 8 is longer than the others. -/
theorem rowWords_words {q : Nat} (hq : q < 9) : rowWords ver q (f.words ver) = f.row ver q := by
  have place : rowStart ver q = rowStart ver 1 * q := by
    unfold rowStart
    split <;> rfl
  have before : ∀ i < q, (f.row ver i).length = rowStart ver 1 := fun i hi => by
    rw [h.row_length hver (by omega)]
    rcases hver with rfl | rfl
    · simp only [rowOvh, roundPay, rowStart, Nat.reduceEqDiff, if_false]
      rw [if_neg (by omega)]
    · simp only [rowOvh, roundPay, rowStart, if_true]
  rw [rowWords, place, ← h.row_length hver hq]
  exact drop_take_flatten_map_range _ hq before

theorem info_length : (f.info ver).length = 5140 * frameCodes ver := by
  obtain ⟨rest, hrest, hinfo⟩ := f.info_eq ver
  rw [hinfo, List.length_append, length_flatten_of_runs (n := 48) (by simp), List.length_map, scramble_length,
    h.words_length hver, hrest]
  rcases hver with rfl | rfl
  · rfl
  · rfl

/-- The words that a receiver descrambles are those of the frame. -/
theorem descrambled :
    (scramble ver 0 ksStart ((chunks 48 (frameWords ver) (f.info ver)).map ofBits)).1 = f.words ver := by
  obtain ⟨rest, -, hinfo⟩ := f.info_eq ver
  have read := chunks_words_append (by decide) _ (scramble_lt ver 0 ksStart _ (h.words_lt hver)) rest
  rw [scramble_length, h.words_length hver, ← hinfo] at read
  rw [read, scramble_scramble]

/-- The information bits of a frame are a whole number of codewords. -/
theorem codes_spec : (chunks 5140 (frameCodes ver) (f.info ver)).flatten = f.info ver ∧
    (chunks 5140 (frameCodes ver) (f.info ver)).length = frameCodes ver ∧
    ∀ c ∈ chunks 5140 (frameCodes ver) (f.info ver), c.length = 5140 :=
  chunks_spec (by decide) _ _ (h.info_length hver)

theorem codes_raw_length :
    ∀ c ∈ (chunks 5140 (frameCodes ver) (f.info ver)).map encodeCode, c.length = 5440 := by
  obtain ⟨-, -, hrun⟩ := h.codes_spec hver
  intro c hc
  obtain ⟨i, hi, rfl⟩ := List.mem_map.mp hc
  exact encodeCode_length (hrun i hi)

theorem raw_length : (f.raw ver).length = frameBits ver := by
  obtain ⟨-, hcount, -⟩ := h.codes_spec hver
  rw [raw, length_flatten_of_runs (h.codes_raw_length hver), List.length_map, hcount, frameBits]

/-- The decoded codewords of a frame carry its information bits. -/
theorem decodeRaw_raw : ((decodeRaw ver (f.raw ver)).map CodeR.info).flatten = f.info ver := by
  obtain ⟨hjoin, hcount, hrun⟩ := h.codes_spec hver
  have cut := chunks_flatten_append (by decide) _ (h.codes_raw_length hver) []
  rw [List.length_map, hcount, List.append_nil] at cut
  have carried : ∀ c ∈ chunks 5140 (frameCodes ver) (f.info ver), (decodeCode (encodeCode c)).info = c := by
    intro c hc
    rw [decodeCode_encodeCode (hrun c hc)]
  rw [decodeRaw, raw, cut, List.map_map, List.map_map]
  exact (congrArg List.flatten ((List.map_congr_left carried).trans (List.map_id _))).trans hjoin

/-- The frame that a receiver takes from the raw bits is the one sent. -/
theorem linkFrame_raw : linkFrame ver (decodeRaw ver (f.raw ver)) = f := by
  have words := h.descrambled hver
  rw [← h.decodeRaw_raw hver] at words
  have overhead : ∀ q ∈ List.range 9, rowOverhead ver q (rowWords ver q (f.words ver)) = f.ovh.getD q [] := by
    intro q hq
    have hq := List.mem_range.mp hq
    rw [h.rowWords_words hver hq, h.rowOverhead_row hver hq]
  have rounds : ∀ q ∈ List.range 9, rowRounds ver q (rowWords ver q (f.words ver)) =
      (f.pay.drop (45 * q)).take 45 := by
    intro q hq
    have hq := List.mem_range.mp hq
    rw [h.rowWords_words hver hq, h.rowRounds_row hver hq]
    exact map_range_getD_add _ _ _ _ (by rw [h.pay]; omega)
  have allOverhead : (List.range 9).map (f.ovh.getD · []) = f.ovh := by
    have all := map_range_getD_add f.ovh [] 0 9 (by rw [h.ovh])
    simpa only [Nat.zero_add, List.drop_zero, ← h.ovh, List.take_length] using all
  rw [linkFrame_eq ver _ _ words, List.map_congr_left overhead, List.map_congr_left rounds,
    flatten_map_range_drop_take, allOverhead, List.take_of_length_le (by rw [h.pay])]

end LinkFrame.Fits

/-- Settles O59: the codewords carry the information bits, the scrambler undoes itself, and every row stands where the
receiver cuts it out. -/
theorem frameRoundTrip : Obligations.FrameRoundTrip := by
  intro ver f hver hovh hpay hrow hround hword
  have h : f.Fits ver := ⟨hovh, hpay, hrow, hround, hword⟩
  exact ⟨h.raw_length hver, h.linkFrame_raw hver⟩

end Sys2Proof.Machine

/-! Where the overhead of a frame stands on the lane (R49, R52, R74). -/

namespace Sys2Proof.Machine

/-- The number that `m + n` bits spell is that of the first `m` above that of the `n` after them. -/
theorem ofBits_map_range_add (f : Nat → Bool) (m n : Nat) :
    ofBits ((List.range (m + n)).map f) =
      ofBits ((List.range m).map f) * 2 ^ n + ofBits ((List.range n).map fun i => f (m + i)) := by
  rw [List.range_add, List.map_append, ofBits_append, List.map_map, List.length_map, List.length_range]
  rfl

/-- The row-1 RMW of version 2 is the first word of a codeword. -/
theorem ovhRaw_row1_v2 {i : Nat} (hi : i < 48) : ovhRaw 2 1 0 i = 2937600 + i := by
  simp only [ovhRaw, ovhWord, rowStart, rawOf, if_true]
  omega

/-- The row-1 RMW of version 1 has its first 24 bits at the end of a codeword's information bits and the rest at the
start of the next codeword. -/
theorem ovhRaw_row1_v1 {i : Nat} (hi : i < 48) :
    ovhRaw 1 1 0 i = if i < 24 then 1468476 + i else 1468800 + (i - 24) := by
  simp only [ovhRaw, ovhWord, rowStart, rawOf, Nat.reduceEqDiff, if_false]
  split <;> omega

/-- Row `q` of version 2 begins with a codeword, after 540 codewords of 5,440 raw bits for each row before it. -/
theorem ovhRaw_v2 (q h i : Nat) :
    ovhRaw 2 q h i = 2937600 * q + 5440 * ((48 * (1285 * (h / 5) + h % 5) + i) / 5140) +
      (48 * (1285 * (h / 5) + h % 5) + i) % 5140 := by
  simp only [ovhRaw, ovhWord, rowStart, rawOf, if_true]
  omega

theorem rawWord_row1_v2 (rs : List (Nat × List Bool)) (c : Nat) :
    rawWord rs 2 c 1 0 = rawSpan rs (c + 2937600) 48 := by
  refine congrArg ofBits (List.map_congr_left fun i hi => ?_)
  rw [ovhRaw_row1_v2 (List.mem_range.mp hi), Nat.add_assoc]

theorem rawWord_row1_v1 (rs : List (Nat × List Bool)) (c : Nat) :
    rawWord rs 1 c 1 0 = rawSpan rs (c + 1468476) 24 * 2 ^ 24 + rawSpan rs (c + 1468800) 24 := by
  have low : ∀ i ∈ List.range 24, rawAt rs (c + ovhRaw 1 1 0 i) = rawAt rs (c + 1468476 + i) := fun i hi => by
    have hlt := List.mem_range.mp hi
    rw [ovhRaw_row1_v1 (by omega), if_pos hlt, Nat.add_assoc]
  have high : ∀ i ∈ List.range 24, rawAt rs (c + ovhRaw 1 1 0 (24 + i)) = rawAt rs (c + 1468800 + i) := fun i hi => by
    have hlt := List.mem_range.mp hi
    rw [ovhRaw_row1_v1 (by omega), if_neg (by omega), Nat.add_sub_cancel_left, Nat.add_assoc]
  calc rawWord rs 1 c 1 0
      = ofBits ((List.range 24).map fun i => rawAt rs (c + ovhRaw 1 1 0 i)) * 2 ^ 24 +
          ofBits ((List.range 24).map fun i => rawAt rs (c + ovhRaw 1 1 0 (24 + i))) := ofBits_map_range_add _ 24 24
    _ = rawSpan rs (c + 1468476) 24 * 2 ^ 24 + rawSpan rs (c + 1468800) 24 := by
      rw [List.map_congr_left low, List.map_congr_left high, rawSpan, rawSpan]

/-- Settles O60: the words of row 1 at their places in the codewords, and a row of version 2 as whole codewords. -/
theorem markerPlaces : Obligations.MarkerPlaces :=
  ⟨rawWord_row1_v2, rawWord_row1_v1, fun q h i _ _ _ => ovhRaw_v2 q h i⟩

end Sys2Proof.Machine

/-! The version that a port negotiates (R84). -/

namespace Sys2Proof.Machine

/-- The versions of a SUPPORTED field of 0b11 are 1 and 2 (Table 2-5). -/
theorem bit_three_iff {v : Nat} (hv : 1 ≤ v) : bit 3 (v - 1) = true ↔ v = 1 ∨ v = 2 := by
  have three : bit 3 (v - 1) = decide (v - 1 < 2) := Nat.testBit_two_pow_sub_one 2 (v - 1)
  rw [three, decide_eq_true_iff]
  omega

theorem bit_zero_toNat (n : Nat) : b2n (bit n 0) = n % 2 := by
  rw [bit, Nat.testBit_zero]
  rcases Nat.mod_two_eq_zero_or_one n with h | h <;> simp [h, b2n]

theorem bit_one_mod_two (n : Nat) : bit (n % 2) 1 = false := Nat.testBit_lt_two_pow (Nat.mod_lt n (by decide))

theorem bit_and_three (n : Nat) {i : Nat} (hi : i < 2) : bit (n &&& 3) i = bit n i := by
  have three : Nat.testBit 3 i = true := (Nat.testBit_two_pow_sub_one 2 i).trans (decide_eq_true hi)
  rw [bit, Nat.testBit_and, three, Bool.and_true, bit]

/-- Version `v` is open on port `p`: its peer supports it, LINK.VERSION_EXCLUDED leaves it and LINK.VERSION_MAX allows
it (R84). -/
def State.versionOpen (s : State) (p v : Nat) : Bool :=
  bit (s.reg O.linkPeerSupported p) (v - 1) && !bit (s.reg O.linkVersionExcluded p) (v - 1) &&
    decide (v ≤ s.reg O.linkVersionMax p)

/-- The version negotiated is 2 where version 2 is open, else 1 where version 1 is, else none. -/
theorem State.bestVersion_eq {s : State} {p : Nat} (h0 : bit (s.reg O.linkVersionExcluded p) 0 = false)
    (hmax : 1 ≤ s.reg O.linkVersionMax p) :
    s.bestVersion p = if s.versionOpen p 2 then 2 else b2n (s.versionOpen p 1) := by
  have one : s.versionOpen p 1 = bit (s.reg O.linkPeerSupported p) 0 := by simp [versionOpen, h0, hmax]
  cases hx : bit (s.reg O.linkVersionExcluded p) 1 with
  | true =>
    have two : s.versionOpen p 2 = false := by simp [versionOpen, hx]
    simp only [bestVersion, hx, if_true, bit_one_mod_two, Bool.false_and, two, one, Nat.mod_mod]
    rw [← bit_zero_toNat, bit_and_three _ (by decide)]
  | false =>
    have two : s.versionOpen p 2 =
        (bit (s.reg O.linkPeerSupported p) 1 && decide (2 ≤ s.reg O.linkVersionMax p)) := by simp [versionOpen, hx]
    simp only [bestVersion, hx, Bool.false_eq_true, if_false, two, one]
    rw [← bit_zero_toNat, bit_and_three _ (by decide), bit_and_three _ (by decide)]

/-- Settles O40: of the two versions that SUPPORTED = 0b11 names, the one negotiated is the highest that is open. -/
theorem negotiatedVersion : Obligations.NegotiatedVersion := by
  intro s p h0 hmax
  rw [State.bestVersion_eq h0 hmax]
  refine ⟨fun v hv h3 hpeer hexcl hle => ?_, fun hpos => ?_⟩
  · have hopen : s.versionOpen p v = true := by simp [State.versionOpen, hpeer, hexcl, hle]
    rcases (bit_three_iff hv).mp h3 with rfl | rfl
    · rw [hopen]
      split <;> decide
    · simp [hopen]
  · have open_spec : ∀ v, s.versionOpen p v = true → bit (s.reg O.linkPeerSupported p) (v - 1) = true ∧
        bit (s.reg O.linkVersionExcluded p) (v - 1) = false ∧ v ≤ s.reg O.linkVersionMax p := by
      intro v h
      simpa [State.versionOpen, and_assoc] using h
    cases h2 : s.versionOpen p 2 with
    | true =>
      rw [if_pos rfl]
      exact ⟨rfl, open_spec 2 h2⟩
    | false =>
      cases h1 : s.versionOpen p 1 with
      | true =>
        rw [if_neg Bool.false_ne_true]
        exact ⟨rfl, open_spec 1 h1⟩
      | false => simp [h1, h2, b2n] at hpos

end Sys2Proof.Machine

/-! The listed elements of an object (State.entries), and an object that takes those of another (State.putMap). -/

namespace Sys2Proof.Machine

/-! ## What a sparse array lists -/

/-- In the canonical form an entry is what is read at its index: no other entry stands there. -/
theorem SMap.find?_of_mem {β : Type} [DecidableEq β] {d : Nat → β} {m : SMap β} {k : Nat} {v : β} :
    ∀ {lo : Nat}, SMap.wfFrom d lo m = true → (k, v) ∈ m → lo ≤ k ∧ SMap.find? m k = some v := by
  induction m with
  | nil => intro lo _ h; simp at h
  | cons x m ih =>
    obtain ⟨i, u⟩ := x
    intro lo hwf h
    simp only [SMap.wfFrom, Bool.and_eq_true, decide_eq_true_eq] at hwf
    obtain ⟨⟨hlo, -⟩, hm⟩ := hwf
    rcases List.mem_cons.mp h with h | h
    · cases h
      simp [SMap.find?, hlo]
    · obtain ⟨hik, hfind⟩ := ih hm h
      exact ⟨by omega, by simpa [SMap.find?, show i ≠ k by omega] using hfind⟩

theorem SMap.get_of_mem {β : Type} [DecidableEq β] {d : Nat → β} {m : SMap β} (hm : SMap.wf d m = true) {k : Nat}
    {v : β} (h : (k, v) ∈ m) (u : β) : SMap.get u m k = v := by
  simp [SMap.get, (SMap.find?_of_mem hm h).2]

/-- An index that is not listed is read as `u`. -/
theorem SMap.get_of_not_mem {β : Type} {m : SMap β} {k : Nat} (h : ∀ v, (k, v) ∉ m) (u : β) :
    SMap.get u m k = u := by
  induction m with
  | nil => rfl
  | cons x m ih =>
    obtain ⟨i, w⟩ := x
    have hi : i ≠ k := fun c => h w (by simp [c])
    simpa [SMap.get, SMap.find?, hi] using ih fun v hv => h v (List.mem_cons_of_mem _ hv)

/-! ## What an object lists -/

theorem regKey_obj (i e : Nat) : regKey i e / 2 ^ 24 = i := by
  unfold regKey
  omega

theorem regKey_elem {e : Nat} (he : e < 2 ^ 24) (i : Nat) : regKey i e % 2 ^ 24 = e := by
  unfold regKey
  omega

theorem regKey_div_mod (k : Nat) : regKey (k / 2 ^ 24) (k % 2 ^ 24) = k := by
  unfold regKey
  omega

/-- An object lists an element with the value that the element reads. -/
theorem State.reg_of_mem_entries {s : State} {i : Nat} (hs : RegsOk s) {x : Nat × Nat} (hx : x ∈ s.entries i) :
    x.1 < 2 ^ 24 ∧ x.2 = s.reg i x.1 := by
  obtain ⟨⟨k, v⟩, hkv, rfl⟩ := List.mem_map.mp hx
  obtain ⟨hmem, hobj⟩ := List.mem_filter.mp hkv
  obtain rfl : k / 2 ^ 24 = i := beq_iff_eq.mp hobj
  refine ⟨Nat.mod_lt _ (by decide), ?_⟩
  rw [State.reg, regKey_div_mod, SMap.get_of_mem hs.1 hmem]

/-- An element that an object does not list reads as unlisted. -/
theorem State.reg_of_not_mem_entries {s : State} {i e : Nat} (he : e < 2 ^ 24)
    (h : e ∉ (s.entries i).map Prod.fst) : s.reg i e = unlisted (regKey i e) := by
  refine SMap.get_of_not_mem (fun v hv => h ?_) _
  refine List.mem_map.mpr ⟨(e, v), List.mem_map.mpr ⟨(regKey i e, v), List.mem_filter.mpr ⟨hv, ?_⟩, ?_⟩, rfl⟩
  · exact beq_iff_eq.mpr (regKey_obj i e)
  · rw [regKey_elem he]

/-! ## An object that takes listed elements -/

/-- A list that gives each element it names the value of `f`, written to object `i`, leaves `f e` at an element `e`
that it names, and at any other the value that stood there. -/
theorem State.reg_foldl_setReg {i e : Nat} {f : Nat → Nat} (he : e < 2 ^ 24) {l : List (Nat × Nat)}
    (hl : ∀ x ∈ l, x.1 < 2 ^ 24 ∧ x.2 = f x.1) (s : State) :
    (l.foldl (fun s x => s.setReg i x.1 x.2) s).reg i e = if e ∈ l.map Prod.fst then f e else s.reg i e := by
  induction l generalizing s with
  | nil => rfl
  | cons x l ih =>
    obtain ⟨hlt, hval⟩ := hl x List.mem_cons_self
    rw [List.foldl_cons, ih fun y hy => hl y (List.mem_cons_of_mem _ hy)]
    by_cases hx : e = x.1
    · subst hx
      simp [hval]
    · rw [State.reg_setReg_elem s hlt he hx]
      simp only [List.map_cons, List.mem_cons, hx, false_or]

/-- An object whose listed elements are cleared reads as unlisted. -/
theorem State.reg_clearObj (s : State) (i e : Nat) : (s.clearObj i).reg i e = unlisted (regKey i e) := by
  refine SMap.get_of_not_mem (fun v hv => ?_) _
  have hout := (List.mem_filter.mp hv).2
  simp only [Bool.or_eq_true, decide_eq_true_eq] at hout
  unfold regKey at hout
  omega

/-- Object `i` that takes the listed elements of object `j` reads as object `j` does, where an element that neither
lists reads alike in both. -/
theorem State.reg_putMap_entries {s : State} {i j e : Nat} (hs : RegsOk s) (he : e < 2 ^ 24)
    (hd : unlisted (regKey i e) = unlisted (regKey j e)) : (s.putMap i (s.entries j)).reg i e = s.reg j e := by
  rw [State.putMap, State.reg_foldl_setReg he (f := fun a => s.reg j a) fun x hx => State.reg_of_mem_entries hs hx,
    State.reg_clearObj, hd]
  split_ifs with h
  · rfl
  · exact (State.reg_of_not_mem_entries he h).symm

end Sys2Proof.Machine

/-! The lock of the Draft while a commit stands (R158, R160). -/

namespace Sys2Proof.Machine

/-- A write command whose chapter places a check of its own first refuses with that check's code. -/
theorem refuses_of_write_pre {c : Instr} {s : State} {w : Who} {idx e v code : Nat} {op : State → State × Nat}
    {pre : State → Nat} (hc : exec c s = s.run fun s => s.write w idx e v op (pre := pre s))
    (hgate : s.gate w idx e = 0) (hpre : pre s.fresh = code) (hcode : code ≠ 0) : Refuses c s code := by
  refine refuses_of (w := w) hc ?_
  rw [State.write_refused_pre (s := s.fresh) hgate (by rwa [hpre]), hpre]

theorem State.locked_of_standing {s : State} (h : s.reg O.mapState = 1 ∨ s.reg O.mapState = 2) : s.locked = true := by
  rcases h with h | h <;> simp [State.locked, h]

/-- The Draft source of an element that is no follower is checked by its own operation alone. -/
theorem State.writeDraftSrc_of_not_follower {s : State} {a : Nat} (h : s.followerPend a = false) (w : Who) (v : Nat) :
    s.writeDraftSrc w a v = s.write w O.mapDraftSrc a v (draftSrcOp a v) := by
  simp [State.writeDraftSrc, h]

theorem draftSrcOp_locked {s : State} {a v : Nat} (hf : s.followerPend a = false) (hv : v ≠ 0xFFFFFFFE)
    (hl : s.locked = true) : draftSrcOp a v s = (s, 0x060D) := by
  simp [draftSrcOp, hf, hv, hl]

theorem draftRevertOp_locked {s : State} (h : s.locked = true) : draftRevertOp s = (s, 0x060D) := by
  simp [draftRevertOp, h]

theorem draftRevertOp_unlocked {s : State} (h : s.locked = false) :
    draftRevertOp s = (s.putMap O.mapDraftSrc (s.entries O.mapLiveSrc), 0) := by
  simp [draftRevertOp, h]

/-- An element without a source is left out of the Draft and of the Live map alike. -/
theorem unlisted_draft_eq_live (a : Nat) :
    unlisted (regKey O.mapDraftSrc a) = unlisted (regKey O.mapLiveSrc a) := by
  simp only [unlisted, regKey_obj]
  rfl

/-- MAP.DRAFT_SRC of an element that is no follower is refused while the Draft is locked. -/
theorem draftSrcWrite_refused_locked {s : State} {w : Who} {a v : Nat} (ha : Allowed s w O.mapDraftSrc a v)
    (hf : s.followerPend a = false) (hv : v ≠ 0xFFFFFFFE) (hl : s.locked = true) :
    Refuses (.draftSrcWrite w a v) s 0x060D := by
  obtain ⟨hgate, hval, hrom⟩ := ha
  have hop : draftSrcOp a v s.fresh = (s.fresh, 0x060D) := draftSrcOp_locked hf hv hl
  refine refuses_of (w := w) (exec_draftSrcWrite s w a v) ?_
  rw [State.writeDraftSrc_of_not_follower (s := s.fresh) hf,
    State.write_op s.fresh hgate hval hrom (by simp [hop]), hop]

/-- The Draft reverts to the Live map (R160). -/
theorem draftRevert_copies_live {s : State} {w : Who} {v : Nat} (ha : Allowed s w O.mapDraftRevert 0 v)
    (hl : s.locked = false) (hs : RegsOk s) :
    Runs (.draftRevert w v) s fun t =>
      (∀ a < 122880, t.reg O.mapDraftSrc a = s.reg O.mapLiveSrc a) ∧ t.out.status = 0 := by
  have hop : draftRevertOp s.fresh = (s.fresh.putMap O.mapDraftSrc (s.fresh.entries O.mapLiveSrc), 0) :=
    draftRevertOp_unlocked hl
  refine ⟨_, (exec_draftRevert s w v).trans (State.run_write s ha (by rw [hop])), fun a ha' => ?_, rfl⟩
  rw [hop, State.reg_withQueue_all, State.reg_answer_all, State.record_reg _ (by decide) (by decide)]
  exact State.reg_putMap_entries (s := s.fresh) hs (by omega) (unlisted_draft_eq_live a)

/-- Settles O33: each write meets the lock in its chapter's own check, before or in its operation; a revert of an
unlocked Draft lists what the Live map lists. -/
theorem draftLocked : Obligations.DraftLocked := by
  refine ⟨fun s => State.locked_of_standing, fun s w a v => draftSrcWrite_refused_locked, fun s w a v hgate hf => ?_,
    fun s w e v hgate hl => ?_, fun s w l v hgate hl => ?_, fun s w v ha hl => ?_,
    fun s w v => draftRevert_copies_live⟩
  · exact refuses_of_write_pre (exec_draftSrcWrite s w a v) hgate (if_pos hf) (by decide)
  · exact refuses_of_write_pre (exec_grainSizeWrite s w e v) hgate (if_pos hl) (by decide)
  · exact refuses_of_write_pre (exec_lodeStateWrite s w l v) hgate (if_pos hl) (by decide)
  · exact refuses_of_write (exec_draftRevert s w v) ha (draftRevertOp_locked (s := s.fresh) hl) (by decide)

end Sys2Proof.Machine

/-! The abort of a commit (R169): what it does where the firmware runs, and its refusal in RECOVERY (R457). -/

namespace Sys2Proof.Machine

/-! ## A commit that ends without a boundary, and the repairs that follow (R155, R405) -/

theorem State.commitStop_mapState (s : State) (code : Nat) : (s.commitStop code).reg O.mapState = 0 := by
  have hmap (a : State) (m : MapS) (y : SysS) : ({ a with map := m, sys := y } : State).reg O.mapState =
      a.reg O.mapState := rfl
  have hact (a : State) : (a.actEnd 0).reg O.mapState = a.reg O.mapState := a.actEnd_reg (by decide) (by decide)
  have hraise (a : State) : (a.raise 385).reg O.mapState = a.reg O.mapState := a.raise_reg (by decide)
  have hres (a : State) : (a.setReg O.mapResult 0 code).reg O.mapState = a.reg O.mapState :=
    a.reg_setReg_obj (by decide)
  simp only [State.commitStop]
  split_ifs <;> simp only [hraise, hres, hact, hmap, State.reg_setReg_self]

theorem State.commitStop_sys (s : State) (code : Nat) :
    (s.commitStop code).sys = { s.sys with serviceReq := false } := by
  have hbusy : s.solveBusy.sys = s.sys := s.solveBusy_see (z := .part .sys) (by decide)
  simp only [State.commitStop]
  split_ifs <;> simp [hbusy]

theorem State.commitStop_ddrDue (s : State) (code : Nat) : (s.commitStop code).ddrDue = s.ddrDue := by
  have hls : (s.commitStop code).reg O.memDdrLsState = s.reg O.memDdrLsState :=
    s.commitStop_see code (z := .reg O.memDdrLsState 0) (by decide)
  simp only [State.ddrDue, hls, State.commitStop_sys]

theorem State.commitStop_clk (s : State) (code : Nat) : (s.commitStop code).clk = s.clk :=
  s.commitStop_see code (z := .part .clk) (by decide)

/-- A commit that leaves no repair to do only stops. -/
theorem State.commitEnd_of_noRepair {s : State} (h : s.NoRepair) (code : Nat) :
    s.commitEnd code = s.commitStop code := by
  rcases h with hmode | ⟨hlode, hown, hddr, hlines⟩
  · simp [State.commitEnd, State.repairNext, State.commitStop_sys, hmode]
  · obtain ⟨h1, h2⟩ : s.map.origin ≠ 1 ∧ s.map.origin ≠ 2 := by simpa [State.ownCommit] using hown
    have hany : (s.grp.lines.any fun x => x.2.lost) = false := by simpa using hlines
    simp [State.commitEnd, State.repairNext, State.commitStop_ddrDue, hlode, h1, h2, hddr, hany]

/-- A commit that stood while a Lode had failed, or that was the repair of one, gives way to a repair's commit. -/
theorem State.commitEnd_of_lodeDue {s : State} (hlode : s.map.lodeDue = true ∨ s.map.origin = 1)
    (hmode : s.sys.mode.commits = true) (hfab : s.sys.fabOn = true) (code : Nat) :
    s.commitEnd code = (s.commitStop code).repairCommit 1 := by
  have hdue : (s.map.lodeDue || s.map.origin == 1) = true := by simpa using hlode
  simp [State.commitEnd, State.repairNext, State.commitStop_sys, hdue, hmode, hfab]

/-- The commit of a Lode's repair solves in full, for the frame 16 ahead (R155 step 1). -/
theorem State.repairCommit_lode (s : State) :
    (s.repairCommit 1).reg O.mapState = 1 ∧ (s.repairCommit 1).map.origin = 1 ∧ (s.repairCommit 1).map.full = true ∧
      (s.repairCommit 1).map.f = (s.clk.fsn + 16) % 2 ^ 48 := by
  have hbanks (a : State) (o : Nat) : (a.openBanks o).reg O.mapState = a.reg O.mapState := rfl
  refine ⟨?_, rfl, ?_, rfl⟩
  · rw [State.repairCommit, State.commitStart, hbanks, State.reg_setReg_self]
  · simp [State.repairCommit, State.commitStart, State.openBanks]

theorem State.commitEnd_draftSrc (s : State) (code a : Nat) :
    (s.commitEnd code).reg O.mapDraftSrc a = s.reg O.mapDraftSrc a :=
  s.commitEnd_see code (z := .reg O.mapDraftSrc a) (by simp)

theorem State.commitEnd_liveSrc (s : State) (code a : Nat) :
    (s.commitEnd code).reg O.mapLiveSrc a = s.reg O.mapLiveSrc a :=
  s.commitEnd_see code (z := .reg O.mapLiveSrc a) (by simp)

/-! ## What an abort answers -/

theorem State.mapAbortOp_idle {s : State} (h : s.locked = false) : s.mapAbortOp = (s, 0x0610) := by
  simp [State.mapAbortOp, h]

theorem State.mapAbortOp_late {s : State} (h : s.locked = true) (hd : s.map.loaded = true ∨ s.deadlineDue = true) :
    s.mapAbortOp = (s, 0x060E) := by
  simp [State.mapAbortOp, h, hd]

theorem State.mapAbortOp_in_time {s : State} (h : s.locked = true) (hl : s.map.loaded = false)
    (hd : s.deadlineDue = false) : s.mapAbortOp = (s.commitEnd 0, 0) := by
  simp [State.mapAbortOp, h, hl, hd]

/-- Whatever holds of the state that a refused command runs to, its status is the code. -/
theorem Refuses.status_of_runs {c : Instr} {s : State} {code : Nat} {P : State → Prop} (h : Refuses c s code)
    (hr : Runs c s P) : ∃ t, P t ∧ t.out.status = code := by
  obtain ⟨t, ht, hcode, -⟩ := h
  obtain ⟨u, hu, hP⟩ := hr
  obtain rfl : t = u := Host.Outcome.next.inj (ht.symm.trans hu)
  exact ⟨t, hP, hcode⟩

/-- In RECOVERY the boot ROM serves no abort of the map (R457). -/
theorem mapAbort_refused_in_recovery {s : State} {w : Who} (hright : bit (s.rights w) 2 = true)
    (hrec : s.sys.recovery = true) : Refuses (.mapAbort w) s 0x0505 := by
  have hright' : bit (s.fresh.rights w) 2 = true := hright
  have hrec' : s.fresh.sys.recovery = true := hrec
  exact refuses_of (w := w) (exec_mapAbort s w) (by simp only [State.abortMap, hright', hrec']; rfl)

section
variable {s : State} {w : Who} (hright : bit (s.rights w) 2 = true) (hfab : s.sys.fabOn = true)
  (hrec : s.sys.recovery = false)
include hright hfab hrec

/-- Where the firmware runs, the abort answers what its own operation does. -/
theorem State.abortMap_served : s.abortMap w =
    if s.mapAbortOp.2 ≠ 0 then s.mapAbortOp.1.refuse w s.mapAbortOp.2 else s.mapAbortOp.1.answer 0 := by
  simp [State.abortMap, hright, hfab, hrec]

theorem mapAbort_refused {code : Nat} (hop : s.fresh.mapAbortOp = (s.fresh, code)) (hcode : code ≠ 0) :
    Refuses (.mapAbort w) s code := by
  refine refuses_of (w := w) (exec_mapAbort s w) ?_
  rw [State.abortMap_served (s := s.fresh) hright hfab hrec, hop, if_pos hcode]

/-- R169: there is nothing to abort. -/
theorem mapAbort_refused_idle (h : s.locked = false) : Refuses (.mapAbort w) s 0x0610 :=
  mapAbort_refused hright hfab hrec (State.mapAbortOp_idle (s := s.fresh) h) (by decide)

/-- R169: at or after the arming deadline the boundary is taken. -/
theorem mapAbort_refused_late (h : s.locked = true) (hd : s.map.loaded = true ∨ s.deadlineDue = true) :
    Refuses (.mapAbort w) s 0x060E :=
  mapAbort_refused hright hfab hrec (State.mapAbortOp_late (s := s.fresh) h hd) (by decide)

/-- R169: before the arming deadline the commit that stands ends. -/
theorem exec_mapAbort_in_time (h : s.locked = true) (hl : s.map.loaded = false) (hd : s.deadlineDue = false) :
    exec (.mapAbort w) s = .next (((s.fresh.commitEnd 0).answer 0).withQueue s.pending) := by
  rw [exec_mapAbort, State.run_eq, State.abortMap_served (s := s.fresh) hright hfab hrec,
    State.mapAbortOp_in_time (s := s.fresh) h hl hd]
  rfl

/-- R169: an abort before the arming deadline that leaves no repair to do unlocks the Draft unchanged. -/
theorem mapAbort_unlocks_draft (h : s.locked = true) (hl : s.map.loaded = false) (hd : s.deadlineDue = false)
    (hnone : s.NoRepair) :
    Runs (.mapAbort w) s fun t =>
      t.locked = false ∧ t.out.status = 0 ∧ (∀ a, t.reg O.mapDraftSrc a = s.reg O.mapDraftSrc a) ∧
      (∀ a, t.reg O.mapLiveSrc a = s.reg O.mapLiveSrc a) ∧ t.boundaryDue = false := by
  have hidle : (s.fresh.commitEnd 0).reg O.mapState = 0 := by
    rw [State.commitEnd_of_noRepair (s := s.fresh) hnone, State.commitStop_mapState]
  refine ⟨_, exec_mapAbort_in_time hright hfab hrec h hl hd, ?_, rfl,
    s.fresh.commitEnd_draftSrc 0, s.fresh.commitEnd_liveSrc 0, ?_⟩
  · simp [State.locked, hidle]
  · simp [State.boundaryDue, hidle]

/-- R155, R169 and log entry 32: an abort before the arming deadline ends the commit that stands, and the recompute
without a failed Lode, which that commit was or was to carry, begins again. -/
theorem mapAbort_recomputes (h : s.locked = true) (hl : s.map.loaded = false) (hd : s.deadlineDue = false)
    (hlode : s.map.lodeDue = true ∨ s.map.origin = 1) (hmode : s.sys.mode.commits = true) :
    Runs (.mapAbort w) s fun t =>
      t.reg O.mapState = 1 ∧ t.map.origin = 1 ∧ t.map.full = true ∧ t.map.f = (s.clk.fsn + 16) % 2 ^ 48 ∧
      t.out.status = 0 ∧ (∀ a, t.reg O.mapDraftSrc a = s.reg O.mapDraftSrc a) ∧
      (∀ a, t.reg O.mapLiveSrc a = s.reg O.mapLiveSrc a) := by
  obtain ⟨hstate, horigin, hfull, hframe⟩ := (s.fresh.commitStop 0).repairCommit_lode
  rw [← State.commitEnd_of_lodeDue (s := s.fresh) hlode hmode hfab] at hstate horigin hfull hframe
  rw [State.commitStop_clk] at hframe
  exact ⟨_, exec_mapAbort_in_time hright hfab hrec h hl hd, hstate, horigin, hfull, hframe, rfl,
    s.fresh.commitEnd_draftSrc 0, s.fresh.commitEnd_liveSrc 0⟩

end

/-! ## RECOVERY with the fabric island on -/

/-- A commit is solving for frame 16, frame 0 runs, and the device is in RECOVERY: the fabric island stays on while the
Keeper restarts (R470, Table 14-10), and a restart that finds no slot to boot ends so (`State.noSlot`, R457). -/
def solvingInRecovery : State :=
  { State.reset with
    sys := { State.reset.sys with mode := .service, booting := false, fabOn := true, recovery := true }
    map := { State.reset.map with f := 16 } }.setReg O.mapState 0 1

/-- Refutes O34: its clauses name no premise on RECOVERY, where R457 comes before R169. The firmware's abort before the
arming deadline answers 0x0505 in `solvingInRecovery`, and the commit stands. Outside RECOVERY each clause holds:
`mapAbort_recomputes`, `mapAbort_unlocks_draft`, `mapAbort_refused_late`, `mapAbort_refused_idle`. -/
theorem not_commitAbort : ¬ Obligations.CommitAbort := by
  rintro ⟨-, hunlocks, -, -⟩
  have hruns := hunlocks solvingInRecovery .keeper (by decide) (by decide) (by decide) (by decide) (by decide)
    (.inr (by decide))
  have hrefused : Refuses (.mapAbort .keeper) solvingInRecovery 0x0505 :=
    mapAbort_refused_in_recovery (by decide) (by decide)
  obtain ⟨t, ⟨-, haccepted, -⟩, hcode⟩ := hrefused.status_of_runs hruns
  exact absurd (haccepted.symm.trans hcode) (by decide)

end Sys2Proof.Machine

/-! The QoS of matrix transactions (R360): what settling the matrix leaves of the transactions that wait, what an issue
adds to them, and a write of MATRIX.QOS. -/

namespace Sys2Proof.Machine

/-! ## Settling changes only what counts a wait (R363, R367, R369) -/

/-- Settling moves a request between held and waiting, and leaves it otherwise as issued. -/
theorem State.settleTxns_core (s : State) (late : Bool) :
    ∀ l pre : List Txn, (s.settleTxns late pre l).map Txn.core = l.map Txn.core
  | [], _ => rfl
  | x :: l, pre => by
    simp only [State.settleTxns, List.map_cons, s.settleTxns_core late l]
    congr 1
    split_ifs <;> rfl

theorem State.settleMtx_core (s : State) (late : Bool) :
    (s.settleMtx late).mtx.txns.map Txn.core = s.mtx.txns.map Txn.core :=
  s.settleTxns_core late s.mtx.txns []

/-- No transaction that the matrix itself has refused (target 8) waits for its answer. -/
def State.NoneRefused (s : State) : Prop := ∀ x ∈ s.mtx.txns, x.target ≠ 8

/-- Whether a refused transaction waits is told by the transactions as issued. -/
theorem State.noneRefused_iff_core (s : State) : s.NoneRefused ↔ ∀ y ∈ s.mtx.txns.map Txn.core, y.target ≠ 8 :=
  (List.forall_mem_map (f := Txn.core) (P := fun y => y.target ≠ 8)).symm

theorem State.NoneRefused.of_core {s t : State} (h : s.NoneRefused)
    (hcore : t.mtx.txns.map Txn.core = s.mtx.txns.map Txn.core) : t.NoneRefused := by
  rwa [State.noneRefused_iff_core, hcore, ← State.noneRefused_iff_core]

/-- Where the matrix has refused none, it has none to answer (R368). -/
theorem State.flushRefused_of_noneRefused {s : State} (h : s.NoneRefused) : s.flushRefused = s := by
  have hnone : s.waitingAt 8 = [] := List.filter_eq_nil_iff.mpr fun x hx => by simp [h x hx]
  rw [State.flushRefused, hnone, List.foldl_nil]

/-- Where the matrix has refused none, its transactions stay as issued whatever goes on at it. -/
theorem State.mtxDone_core {s : State} (h : s.NoneRefused) :
    s.mtxDone.mtx.txns.map Txn.core = s.mtx.txns.map Txn.core := by
  rw [State.mtxDone, State.settleMtx_core]
  refine foldRange_keeps (fun t : State => t.mtx.txns.map Txn.core = s.mtx.txns.map Txn.core) _ _ s rfl
    fun t _ ht => ?_
  have hcore := (t.settleMtx_core false).trans ht
  rw [State.flushRefused_of_noneRefused (h.of_core hcore), hcore]

/-! ## Issue (R360, R362) -/

theorem decodeZone_lt (a : Nat) (swap : Bool) : decodeZone a swap < 8 := by
  simp only [decodeZone]
  split_ifs <;> decide

/-- An address decodes to one of the eight targets T0 to T7. -/
theorem State.decode_lt (s : State) (a : Nat) (swap : Bool) : s.decode a swap < 8 := by
  unfold State.decode
  split_ifs
  · exact decodeZone_lt a swap
  all_goals decide

/-- The state with transaction `y` behind those that the matrix holds. -/
def State.withTxn (s : State) (y : Txn) : State := { s with mtx := { s.mtx with txns := s.mtx.txns ++ [y] } }

theorem State.withTxn_core (s : State) (y : Txn) :
    (s.withTxn y).mtx.txns.map Txn.core = s.mtx.txns.map Txn.core ++ [y.core] := List.map_append

theorem State.NoneRefused.withTxn {s : State} {y : Txn} (h : s.NoneRefused) (hy : y.target ≠ 8) :
    (s.withTxn y).NoneRefused := fun x hx => by
  rcases List.mem_append.mp hx with hold | hnew
  · exact h x hold
  · rwa [List.mem_singleton.mp hnew]

/-- Transaction `y` joins those that the matrix holds, and counts in MATRIX.HELD where it is held back (R369). -/
def State.join (s : State) (y : Txn) : State :=
  (if (s.withTxn y).heldBack s.mtx.txns y then (s.withTxn y).bump O.matrixHeld y.master 32 else s.withTxn y).mtxDone

/-- What a master that runs issues in good form joins the matrix for one of the targets T0 to T7, with the QoS of the
master (R360, R362). -/
theorem State.issue_joins {s : State} {m id kind addr len operand flip : Nat} {data : List (Byte × Bool)} {fetch : Bool}
    (hrun : s.reg O.matrixMasterState m = 0) (hform : goodForm (addr % 2 ^ 40) len = true) :
    ∃ y : Txn, s.issue m id kind addr len data operand flip fetch = (s.settleMtx true).join y ∧ y.target < 8 ∧
      y.master = m ∧ y.qos = s.reg O.matrixQos m := by
  simp only [State.issue, hrun, hform, if_true, Nat.zero_ne_one, if_false, OfNat.zero_ne_ofNat]
  refine ⟨_, rfl, ?_, rfl, rfl⟩
  split_ifs
  · exact (by decide : 7 < 8)
  all_goals exact State.decode_lt _ _ _

/-- A transaction that is not refused stands, as issued, behind those that were there, and they stay as issued. -/
theorem State.join_core {s : State} {y : Txn} (hnone : s.NoneRefused) (hy : y.target ≠ 8) :
    (s.join y).mtx.txns.map Txn.core = s.mtx.txns.map Txn.core ++ [y.core] := by
  have hwith := hnone.withTxn hy
  rw [← State.withTxn_core, State.join]
  split_ifs
  · exact State.mtxDone_core (s := (s.withTxn y).bump O.matrixHeld y.master 32) hwith
  · exact State.mtxDone_core hwith

/-- A master that runs adds one transaction of good form to those that the matrix holds, with the QoS of the master. -/
theorem State.issue_core {s : State} {m id kind addr len operand flip : Nat} {data : List (Byte × Bool)} {fetch : Bool}
    (hrun : s.reg O.matrixMasterState m = 0) (hnone : s.NoneRefused) (hform : goodForm (addr % 2 ^ 40) len = true) :
    ∃ x : Txn, (s.issue m id kind addr len data operand flip fetch).mtx.txns.map Txn.core =
      s.mtx.txns.map Txn.core ++ [x] ∧ x.master = m ∧ x.qos = s.reg O.matrixQos m := by
  obtain ⟨y, hissue, htarget, hmaster, hqos⟩ := s.issue_joins (id := id) (kind := kind) (data := data)
    (operand := operand) (flip := flip) (fetch := fetch) hrun hform
  refine ⟨y.core, ?_, hmaster, hqos⟩
  rw [hissue, State.join_core (hnone.of_core (s.settleMtx_core true)) htarget.ne, s.settleMtx_core]

/-! ## A write of MATRIX.QOS -/

/-- What the general checks have established when they let a write through. -/
theorem State.gate_passed {s : State} {w : Who} {idx e : Nat} {o : Obj} (ho : objAt idx = some o)
    (h : s.gate w idx e = 0) : bit (s.rights w) (rightOf idx) = true ∧ e < o.cnt := by
  simp only [State.gate, ho] at h
  split_ifs at h with hright
  exact ⟨by simpa using hright, by omega⟩

/-- A plain object below the aliases and outside the objects of ports is an entry of its own (R380). -/
theorem resolve_elem {idx : Nat} {o : Obj} (ho : objAt idx = some o) (hadr : o.adr = .element)
    (hidx : 0x2600 ≤ idx ∧ idx < 0x8000) : resolve idx 0 = ⟨0, idx, 0, o.cnt, .plain⟩ := by
  have hport : ¬ idx < 0x2600 := by omega
  have halias : ¬ 0x8000 ≤ idx := by omega
  simp [resolve, entry, ho, hadr, hport, halias]

/-- REGISTER_WRITE of an element of such an object writes the element itself (R380, R381). -/
theorem State.registerWrite_elem {s : State} {w : Who} {idx e v : Nat} {o : Obj} (ho : objAt idx = some o)
    (hadr : o.adr = .element) (hidx : 0x2600 ≤ idx ∧ idx < 0x8000) (hname : o.idx = idx) (hfull : shortOk o = false)
    (h : Allowed s w idx e v) : s.registerWrite w idx e v = s.writeObj w idx e v := by
  obtain ⟨hgate, hval, -⟩ := h
  obtain ⟨hright, hcnt⟩ := State.gate_passed ho hgate
  have hv : v < 2 ^ (8 * o.ty.width) := by
    by_contra hbig
    simp [valueCheck, ho, Nat.not_lt.mp hbig] at hval
  have hcheck : s.writeCheck w ⟨0, idx, 0, o.cnt, .plain⟩ e 1 = 0 := by
    have hfit : ¬ o.cnt < e + 1 := by omega
    simp [State.writeCheck, Tgt.elem, hright, hgate, hfit]
  have hone : max 1 (o.ty.width / o.ty.width) = 1 := max_eq_left (Nat.div_le_of_le_mul (by rw [Nat.mul_one]))
  have hbytes : ofBytes (toBytes o.ty.width v) = v := ofBytes_toBytes_of_lt (by rwa [pow_mul] at hv)
  simp [State.registerWrite, State.writeEntry, State.writeElem, Tgt.width, Tgt.elem, resolve_elem ho hadr hidx, ho,
    hadr, hname, hfull, hcheck, hone, hbytes, hv.not_ge]

/-- MATRIX.QOS has no rule of its own: a write stores. -/
theorem State.writeObj_matrixQos (s : State) (w : Who) (k v : Nat) :
    s.writeObj w O.matrixQos k v = s.write w O.matrixQos k v (store O.matrixQos k v) := rfl

/-- A write of MATRIX.QOS stores, and leaves the transactions that the matrix holds as they were issued. -/
theorem matrixQos_stored {s : State} {w : Who} {k v : Nat} (h : Allowed s w O.matrixQos k v) :
    Runs (.registerWrite w O.matrixQos k v) s fun t => Stored s t O.matrixQos k v ∧ t.mtx = s.mtx := by
  have ⟨hgate, hval, hrom⟩ := h
  have hwrite : s.fresh.registerWrite w O.matrixQos k v =
      ((s.fresh.setReg O.matrixQos k v).record O.matrixQos k v).answer 0 := by
    rw [State.registerWrite_elem (s := s.fresh) (o := ⟨O.matrixQos, .u8, .rwp, 8, true, .element, .span 0 15⟩)
      rfl rfl (by decide) rfl rfl h, State.writeObj_matrixQos]
    exact s.fresh.write_ok hgate hval hrom rfl
  have hk : k < 2 ^ 24 := s.gate_elem hgate
  refine ⟨(((s.fresh.setReg O.matrixQos k v).record O.matrixQos k v).answer 0).withQueue s.pending, ?_, ?_, ?_⟩
  · rw [exec_registerWrite, State.run_eq, hwrite]
  · refine stored_of s.pending h (by decide) (by decide) (State.reg_setReg_self _ _ _ _) fun i f hf _ hne => ?_
    exact s.fresh.reg_setReg_ne hk hf (by simpa using hne)
  · simp

/-- Settles O36: each of the five commands issues for its master, and the QoS is read as the transaction is made; a
write of MATRIX.QOS stores and does nothing at the matrix. -/
theorem transactionQos : Obligations.TransactionQos := by
  refine ⟨fun s c m id a d n v f g hc hm hrun hnone hn hd hv => ?_, fun s w k v => matrixQos_stored⟩
  have hissue {kind len data operand flip fetch} (hform : goodForm (a % 2 ^ 40) len = true) :=
    State.issue_core (s := s.fresh) (id := id) (kind := kind) (data := data) (operand := operand) (flip := flip)
      (fetch := fetch) hrun hnone hform
  simp only [List.mem_cons, List.not_mem_nil, or_false] at hc
  rcases hc with rfl | rfl | rfl | rfl | rfl
  · exact ⟨_, (exec_matrixRead s m id a n _).trans (State.runIn_of_lt s hm _), hissue hn⟩
  · exact ⟨_, (exec_matrixWrite s m id a d).trans (State.runIn_of_lt s hm _), hissue hd⟩
  · exact ⟨_, (exec_addWrap s m id a v).trans (State.runIn_of_lt s hm _), hissue hv⟩
  · exact ⟨_, (exec_addSat s m id a v).trans (State.runIn_of_lt s hm _), hissue hv⟩
  · exact ⟨_, (exec_swap s m id a v).trans (State.runIn_of_lt s hm _), hissue hv⟩

end Sys2Proof.Machine

/-! The bits of events, and what IRQ_N and the Crier bus show of them (R430, R42). -/

namespace Sys2Proof.Machine

/-! ## Items of an OCTET[n] set (R518) -/

theorem octBitPos_inj {n i k : Nat} (hi : i < 8 * n) (hk : k < 8 * n) (h : octBitPos n i = octBitPos n k) : i = k := by
  unfold octBitPos at h
  omega

/-- An item that is added to a set leaves the other items as they were. -/
theorem octBit_octPut_ne {n v i k : Nat} (hi : i < 8 * n) (hk : k < 8 * n) (h : k ≠ i) :
    octBit n (octPut n v i true) k = octBit n v k := by
  have hpos : octBitPos n i ≠ octBitPos n k := fun c => h (octBitPos_inj hi hk c).symm
  simp [octBit, octPut, putBit, Nat.testBit_or, Nat.testBit_two_pow_of_ne hpos]

/-- Item `i` is bit 7 − (i mod 8) of byte i / 8, where byte 0 is the most significant. -/
theorem octBit_eq_bit_byte (n v i : Nat) : octBit n v i = bit (v / 256 ^ (n - 1 - i / 8) % 256) (7 - i % 8) := by
  have hbyte : (256 : Nat) ^ (n - 1 - i / 8) = 2 ^ (8 * (n - 1 - i / 8)) := (pow_mul 2 8 _).symm
  have hlow : 7 - i % 8 < 8 := by omega
  rw [bit, hbyte, show 256 = 2 ^ 8 from rfl, Nat.testBit_mod_two_pow, decide_eq_true hlow, Bool.true_and,
    Nat.testBit_div_two_pow, Nat.add_comm]
  rfl

/-- Clearing the items of `v` from a set leaves the items that are not in `v`. -/
theorem octBit_clear (n l v i : Nat) : octBit n (l ^^^ (l &&& v)) i = (octBit n l i && !octBit n v i) := by
  simp only [octBit, Nat.testBit_xor, Nat.testBit_and]
  cases l.testBit (octBitPos n i) <;> simp

/-! ## A number summed from its bits -/

theorem foldRange_succ {α : Type} (n : Nat) (f : α → Nat → α) (a : α) :
    foldRange (n + 1) f a = f (foldRange n f a) n := by
  simp [foldRange, List.range_succ]

/-- The number of `n` bits whose bit `k` is `f k`. -/
def bitSum (f : Nat → Bool) (n : Nat) : Nat := foldRange n (fun a k => a + b2n (f k) * 2 ^ k) 0

theorem bitSum_succ (f : Nat → Bool) (n : Nat) : bitSum f (n + 1) = 2 ^ n * b2n (f n) + bitSum f n := by
  rw [bitSum, foldRange_succ, Nat.add_comm, Nat.mul_comm]
  rfl

theorem bitSum_lt (f : Nat → Bool) (n : Nat) : bitSum f n < 2 ^ n := by
  induction n with
  | zero => exact Nat.one_pos
  | succ n ih =>
    have hbit := Nat.mul_le_mul_left (2 ^ n) (b2n_le_one (f n))
    rw [bitSum_succ, pow_succ]
    omega

theorem bit_bitSum (f : Nat → Bool) {n i : Nat} (hi : i < n) : bit (bitSum f n) i = f i := by
  induction n with
  | zero => omega
  | succ n ih =>
    rw [bit, bitSum_succ, Nat.testBit_two_pow_mul_add _ (bitSum_lt f n)]
    by_cases h : i < n
    · rw [if_pos h]
      exact ih h
    · obtain rfl : i = n := by omega
      cases f i <;> simp [b2n]

/-! ## What the mask and the fabric island let through -/

/-- A latch that neither its mask bit nor the fabric island holds back (R42, log entry 74). -/
theorem State.unmasked_iff {s : State} {ev : Nat} : s.unmasked ev = true ↔
    s.latched ev = true ∧ octBit 64 (s.reg O.eventMask) ev = false ∧ (s.sys.fabOn = true ∨ 480 ≤ ev) := by
  simp [State.unmasked, State.octReg, and_assoc]

theorem State.irq_iff {s : State} : s.irq = true ↔ s.reg O.eventIrqEn = 1 ∧ ∃ ev < 512, s.unmasked ev = true := by
  simp [State.irq]

theorem State.summary_eq (s : State) :
    s.summary = bitSum (fun k => (List.range 32).any fun j => s.unmasked (32 * k + j)) 16 := rfl

theorem State.latchWord_eq (s : State) (k : Nat) : s.latchWord k = bitSum (fun j => s.latched (32 * k + j)) 32 := rfl

/-- Word 105 carries EVENT.SUMMARY below the level of IRQ_N. -/
theorem State.crierWord_105 (s : State) : s.crierWord 105 = 2 ^ 16 * b2n s.irq + s.summary := by
  rw [Nat.mul_comm]
  rfl

theorem State.bit_crierWord_105 {s : State} {k : Nat} (hk : k < 16) :
    bit (s.crierWord 105) k = true ↔ ∃ j < 32, s.unmasked (32 * k + j) = true := by
  have hlow : s.summary < 2 ^ 16 := bitSum_lt _ 16
  have hbit : bit (s.crierWord 105) k = bit s.summary k := by
    rw [bit, State.crierWord_105, Nat.testBit_two_pow_mul_add _ hlow, if_pos hk, bit]
  rw [hbit, State.summary_eq, bit_bitSum _ hk]
  simp

/-- Words 112 to 127 are the latches. -/
theorem State.crierWord_latches (s : State) (k : Nat) : s.crierWord (112 + k) = s.latchWord k := by
  have hport : ¬ 112 + k < 96 := by omega
  have hdev : ∀ a < 112, 112 + k ≠ a := fun a ha => by omega
  simp [State.crierWord, hport, hdev]

/-- The latches show nothing of the mask. -/
theorem State.latched_setMask (s : State) (m ev : Nat) : (s.setReg O.eventMask 0 m).latched ev = s.latched ev :=
  State.latched_congr (s.reg_setReg_obj (by decide))

/-! ## EVENT.CLEAR -/

/-- A write of an object that is not carried does not enter the journal (R252). -/
theorem State.record_of_not_carried {s : State} {idx e v : Nat} {o : Obj} (ho : objAt idx = some o)
    (hc : carried o = false) : s.record idx e v = s := by
  simp [State.record, ho, hc]

/-- An accepted write of EVENT.CLEAR clears the latches written as 1, and no other. -/
theorem eventClear_latched {s : State} {w : Who} {v : Nat} (h : Allowed s w O.eventClear 0 v) :
    Runs (.eventClear w v) s fun t => ∀ ev < 512, t.latched ev = (s.latched ev && !octBit 64 v ev) := by
  refine ⟨_, (exec_eventClear s w v).trans (s.run_write h rfl), fun ev _ => ?_⟩
  rw [State.record_of_not_carried (o := ⟨O.eventClear, .octet 64, .wo, 1, false, .element, .any⟩) rfl rfl]
  simp only [State.latched, State.octReg, eventClearOp, State.reg_withQueue_all, State.reg_answer_all,
    State.reg_setReg_self]
  exact octBit_clear _ _ _ _

/-! ## Notifications -/

/-- A relation that every turn of two loops keeps, the loops keep. -/
theorem foldRange_rel {α β : Type} (R : α → β → Prop) (n : Nat) {f : α → Nat → α} {g : β → Nat → β} {a : α}
    {b : β} (h : R a b) (hstep : ∀ k x y, R x y → R (f x k) (g y k)) : R (foldRange n f a) (foldRange n g b) :=
  List.foldl_rel h fun k _ x y => hstep k x y

/-- Two states whose sessions and whose time are the same. -/
def NoticesAlike (a b : State) : Prop := a.hdp = b.hdp ∧ a.clk = b.clk ∧ a.tim = b.tim

theorem NoticesAlike.latch {a b : State} (h : NoticesAlike a b) (ev ev' : Nat) :
    NoticesAlike (a.latch ev) (b.latch ev') := by
  simpa [NoticesAlike] using h

theorem NoticesAlike.bump {a b : State} (h : NoticesAlike a b) (i e w : Nat) :
    NoticesAlike (a.bump i e w) (b.bump i e w) := h

theorem NoticesAlike.setSession {a b : State} (h : NoticesAlike a b) (k : Nat) (x : Ses) :
    NoticesAlike (a.setSession k x) (b.setSession k x) := by
  obtain ⟨hhdp, hclk, htim⟩ := h
  exact ⟨by simp only [State.setSession, hhdp], hclk, htim⟩

theorem NoticesAlike.session {a b : State} (h : NoticesAlike a b) (k : Nat) : a.session k = b.session k := by
  obtain ⟨hhdp, -, -⟩ := h
  rw [State.session, hhdp, State.session]

theorem NoticesAlike.nowTime {a b : State} (h : NoticesAlike a b) : a.nowTime = b.nowTime := by
  obtain ⟨-, hclk, htim⟩ := h
  simp only [State.nowTime, State.now, State.lt, State.tick, hclk, htim]

/-- The same of two states that each come with a number of queues that overflowed. -/
def OverflowsAlike (x y : State × Nat) : Prop := NoticesAlike x.1 y.1 ∧ x.2 = y.2

/-- What the sessions note of an event, and how many of their queues overflow, depends on the sessions and the time. -/
theorem NoticesAlike.notifyOne {a b : State} (h : NoticesAlike a b) (ev : Nat) :
    OverflowsAlike (a.notifyOne ev) (b.notifyOne ev) := by
  refine foldRange_rel OverflowsAlike 8 ⟨h, rfl⟩ ?_
  rintro k x y ⟨hxy, hn⟩
  simp only [hxy.session, hxy.nowTime, hn]
  split_ifs
  · exact ⟨((hxy.setSession _ _).latch _ _).bump _ _ _, rfl⟩
  · exact ⟨hxy.setSession _ _, rfl⟩
  · exact ⟨hxy, rfl⟩

theorem NoticesAlike.notifyAll {a b : State} (h : NoticesAlike a b) (ev : Nat) :
    NoticesAlike (a.notifyAll ev) (b.notifyAll ev) := by
  refine (foldRange_rel OverflowsAlike 8 (h.notifyOne ev) ?_).1
  rintro - x y ⟨hxy, hn⟩
  rw [hn]
  refine foldRange_rel OverflowsAlike y.2 ⟨hxy, rfl⟩ ?_
  rintro - q r ⟨hqr, hm⟩
  obtain ⟨hone, hcount⟩ := hqr.notifyOne 509
  exact ⟨hone, congrArg₂ (· + ·) hm hcount⟩

theorem NoticesAlike.raise {a b : State} (h : NoticesAlike a b) (hsys : a.sys = b.sys) (ev : Nat) :
    NoticesAlike (a.raise ev) (b.raise ev) := by
  simp only [State.raise, hsys]
  split_ifs
  · exact h
  · exact (h.latch ev ev).notifyAll ev

/-- Settles O37: IRQ_N and word 105 show the unmasked latches, words 112 to 127 all of them, and neither a latch nor a
session's notice depends on the mask. -/
theorem eventBits : Obligations.EventBits := by
  refine ⟨fun v ev _ => octBit_eq_bit_byte 64 v ev, fun s w v => eventClear_latched, fun s k hk => ?_, fun s => ?_,
    fun s m ev => ?_, fun s m k _ => ?_, fun s ev _ => ?_⟩
  · simp only [State.bit_crierWord_105 hk, State.unmasked_iff]
  · simp only [State.irq_iff, State.unmasked_iff]
  · have halike : NoticesAlike (s.setReg O.eventMask 0 m) s := ⟨rfl, rfl, rfl⟩
    exact (halike.raise rfl ev).1
  · simp only [State.crierWord_latches, State.latchWord, State.latched_setMask]
  · rw [State.crierWord_latches, State.latchWord_eq, bit_bitSum _ (Nat.mod_lt ev (by decide)), Nat.div_add_mod]

end Sys2Proof.Machine

/-! The raising of an event (R429): its latch, its count and its time. -/

namespace Sys2Proof.Machine

/-- What stands of an event: its latch, its count and its time. -/
structure EventRecord where
  latch : Bool
  count : Nat
  time : Nat

def State.eventRecord (s : State) (ev : Nat) : EventRecord :=
  ⟨s.latched ev, s.reg O.eventCount ev, s.reg O.eventLastTime ev⟩

/-- An event may be raised: its latch stands in the Keeper island, or the fabric island is on (R42). -/
def State.canRaise (s : State) (ev : Nat) : Prop := 480 ≤ ev ∨ s.sys.fabOn = true

theorem State.canRaise_iff {s : State} {ev : Nat} :
    s.canRaise ev ↔ ¬ (decide (ev < 480) && !s.sys.fabOn) = true := by
  simp [State.canRaise, imp_iff_not_or]

theorem State.raise_of_canRaise {s : State} {ev : Nat} (h : s.canRaise ev) :
    s.raise ev = (s.latch ev).notifyAll ev := if_neg (State.canRaise_iff.mp h)

/-! ## Latching -/

theorem State.nowTime_setReg (s : State) (i e v : Nat) : (s.setReg i e v).nowTime = s.nowTime := rfl

/-- An event that is latched is set, counts one more and takes the time. -/
theorem State.eventRecord_latch_self {s : State} {ev : Nat} (h : s.canRaise ev) :
    (s.latch ev).eventRecord ev = ⟨true, (s.reg O.eventCount ev + 1) % 2 ^ 32, s.nowTime⟩ := by
  rw [State.latch, if_neg (State.canRaise_iff.mp h)]
  simp [State.eventRecord, State.latched, State.octReg, State.setOct, State.bump, octBit_octPut_self,
    State.nowTime_setReg]

/-- Another event is left as it stands. -/
theorem State.eventRecord_latch_ne (s : State) {ev e : Nat} (hev : ev < 512) (he : e < 512) (h : e ≠ ev) :
    (s.latch ev).eventRecord e = s.eventRecord e := by
  simp only [State.latch]
  split_ifs
  · rfl
  · simp [State.eventRecord, State.latched, State.octReg, State.setOct, State.bump,
      State.reg_setReg_elem _ (by omega : ev < 2 ^ 24) (by omega : e < 2 ^ 24) h, octBit_octPut_ne (n := 64) hev he h]

/-! ## Notifying -/

/-- HDP.STATS is no part of what stands of an event. -/
theorem State.eventRecord_bump_stats (s : State) (k w e : Nat) :
    (s.bump O.hdpStats k w).eventRecord e = s.eventRecord e := by
  simp [State.eventRecord, State.latched, State.octReg]

/-- Notices touch no event but 509. -/
theorem State.eventRecord_notifyOne (s : State) (ev : Nat) {e : Nat} (he : e < 512) (h : e ≠ 509) :
    (s.notifyOne ev).1.eventRecord e = s.eventRecord e := by
  refine foldRange_same (fun t : State × Nat => t.1.eventRecord e) 8 _ (s, 0) fun a k => ?_
  simp only []
  split_ifs
  · rw [State.eventRecord_bump_stats, State.eventRecord_latch_ne _ (by decide) he h]
    rfl
  · rfl
  · rfl

theorem State.eventRecord_notifyAll (s : State) (ev : Nat) {e : Nat} (he : e < 512) (h : e ≠ 509) :
    (s.notifyAll ev).eventRecord e = s.eventRecord e :=
  s.notifyAll_same (fun t => t.eventRecord e) ev fun a ev' => a.eventRecord_notifyOne ev' he h

/-- An event that no session subscribes to is noted by none. -/
theorem State.notifyOne_of_unsubscribed {s : State} {ev : Nat} (h : ∀ k < 8, octBit 64 (s.session k).sub ev = false) :
    s.notifyOne ev = (s, 0) := by
  refine List.foldlRecOn (motive := fun r => r = (s, 0)) _ _ rfl fun r hr k hk => ?_
  subst hr
  simp [h k (List.mem_range.mp hk)]

theorem State.notifyAll_of_unsubscribed {s : State} {ev : Nat} (h : ∀ k < 8, octBit 64 (s.session k).sub ev = false) :
    s.notifyAll ev = s := by
  rw [State.notifyAll, State.notifyOne_of_unsubscribed h]
  rfl

/-! ## Raising -/

/-- What stands of an event after a raising is what its latching left, but for an event 509 that a lost notification
raises. -/
theorem State.eventRecord_raise {s : State} {ev e : Nat} (hr : s.canRaise ev) (he : e < 512)
    (h : e ≠ 509 ∨ (ev = 509 ∧ ∀ k < 8, octBit 64 (s.session k).sub 509 = false)) :
    (s.raise ev).eventRecord e = (s.latch ev).eventRecord e := by
  rw [State.raise_of_canRaise hr]
  rcases h with h | ⟨rfl, hnone⟩
  · exact State.eventRecord_notifyAll _ ev he h
  · have hses : ∀ k < 8, octBit 64 ((s.latch 509).session k).sub 509 = false := by
      simpa [State.session] using hnone
    rw [State.notifyAll_of_unsubscribed hses]

theorem State.raiseLim_of_recent {s : State} {ev k n : Nat} (hlast : SMap.get 0 s.rate (ev * 2 ^ 20 + k) ≠ 0)
    (hrecent : s.elapsed (SMap.get 0 s.rate (ev * 2 ^ 20 + k) - 1) n = false) : s.raiseLim ev k n = s := by
  exact if_pos (by simpa using ⟨hlast, hrecent⟩)

theorem State.raiseLim_of_due {s : State} {ev k n : Nat} (hdue : SMap.get 0 s.rate (ev * 2 ^ 20 + k) = 0 ∨
      s.elapsed (SMap.get 0 s.rate (ev * 2 ^ 20 + k) - 1) n = true) :
    s.raiseLim ev k n =
      { s.raise ev with rate := SMap.set 0 s.rate (ev * 2 ^ 20 + k) (s.tick + 1) } := by
  refine if_neg fun hc => ?_
  obtain ⟨hlast, hrecent⟩ : SMap.get 0 s.rate (ev * 2 ^ 20 + k) ≠ 0 ∧
      s.elapsed (SMap.get 0 s.rate (ev * 2 ^ 20 + k) - 1) n = false := by simpa using hc
  rcases hdue with hnever | hpast
  · exact hlast hnever
  · exact absurd (hpast.symm.trans hrecent) (by decide)

/-- Settles O38: the notices of a raising touch no record but that of event 509, so that the others stand as the
latching left them; a limited event is raised or left, as its time has passed or not. -/
theorem eventRaising : Obligations.EventRaising := by
  refine ⟨fun s ev hev hr h509 => ?_, fun s ev k n => State.raiseLim_of_recent, fun s ev k n hdue => ?_⟩
  · have hself : (s.raise ev).eventRecord ev = _ :=
      (State.eventRecord_raise hr hev (by tauto)).trans (State.eventRecord_latch_self hr)
    obtain ⟨hlatch, hcount, htime⟩ := EventRecord.mk.inj hself
    refine ⟨hlatch, hcount, htime, fun e he hne hno => ?_⟩
    exact EventRecord.mk.inj
      ((State.eventRecord_raise hr he (.inl hno)).trans (s.eventRecord_latch_ne hev he hne))
  · rw [State.raiseLim_of_due hdue]
    exact ⟨rfl, rfl⟩

end Sys2Proof.Machine

/-! A run of the trace that cannot start, and a destination that cannot change (R442). -/

namespace Sys2Proof.Machine

/-! ## The room of the destination (R441) -/

theorem State.traceRoom_of_no_bank {s : State} (hdest : s.reg O.tallyTraceDest = 0) (hbank : s.ownerBanks 6 = []) :
    s.traceRoom = 0 := by
  simp [State.traceRoom, hdest, hbank]

theorem State.traceRoom_of_no_region {s : State} (hdest : s.reg O.tallyTraceDest ≠ 0)
    (hsize : s.reg O.memDdrTraceSize = 0) : s.traceRoom = 0 := by
  simp [State.traceRoom, State.traceBytes, hdest, hsize]

theorem State.traceRoom_of_ddr_not_ready {s : State} (hdest : s.reg O.tallyTraceDest ≠ 0)
    (hstate : s.reg O.memDdrState ≠ 3) : s.traceRoom = 0 := by
  simp [State.traceRoom, hdest, hstate]

/-! ## The checks of the writes -/

/-- No space is the first of the two checks: it refuses even where the token is held (log entry 73). -/
theorem traceStartOp_no_room {s : State} {h : Nat} {wrap : Bool} (hroom : s.traceRoom = 0) :
    traceStartOp h wrap s = (s, 0x0310) := by
  simp [traceStartOp, hroom]

/-- A run holds the token until it ends, so that no other starts, not for the same session either (log entry 73). -/
theorem traceStartOp_held {s : State} {h : Nat} {wrap : Bool} (hroom : s.traceRoom ≠ 0)
    (hheld : s.tal.run = true ∨ s.tokFree 6 h = false) : traceStartOp h wrap s = (s, 0x0402) := by
  rcases hheld with hrun | htok
  · simp [traceStartOp, hroom, hrun]
  · simp [traceStartOp, hroom, htok]

theorem traceDestOp_running {s : State} {v : Nat} (hrun : s.tal.run = true) : traceDestOp v s = (s, 0x0402) :=
  if_pos hrun

/-- Both commands that start a run refuse with the code that the start answers. -/
theorem traceStart_refused {s : State} {w : Who} {c : Instr} {v code : Nat}
    (hc : (c, v) ∈ [(Instr.traceStartWrap w, 1), (Instr.traceStartStop w, 2)]) (ha : Allowed s w O.tallyTraceCtrl 0 v)
    (hop : ∀ wrap, traceStartOp (holderOf w) wrap s.fresh = (s.fresh, code)) (hcode : code ≠ 0) :
    Refuses c s code := by
  simp only [List.mem_cons, Prod.mk.injEq, List.not_mem_nil, or_false] at hc
  rcases hc with ⟨rfl, rfl⟩ | ⟨rfl, rfl⟩
  · exact refuses_of_write (exec_traceStartWrap s w) ha (hop true) hcode
  · exact refuses_of_write (exec_traceStartStop s w) ha (hop false) hcode

theorem State.writeObj_tallyTraceDest (s : State) (w : Who) (v : Nat) :
    s.writeObj w O.tallyTraceDest 0 v = s.write w O.tallyTraceDest 0 v (traceDestOp v) := rfl

/-- TALLY.TRACE_DEST keeps its value while a run goes on. -/
theorem traceDest_refused {s : State} {w : Who} {v : Nat} (ha : Allowed s w O.tallyTraceDest 0 v)
    (hrun : s.tal.run = true) : Refuses (.registerWrite w O.tallyTraceDest 0 v) s 0x0402 := by
  obtain ⟨hgate, hval, hrom⟩ := ha
  have hop : traceDestOp v s.fresh = (s.fresh, 0x0402) := traceDestOp_running hrun
  refine refuses_of (w := w) (exec_registerWrite s w O.tallyTraceDest 0 v) ?_
  rw [State.registerWrite_elem (s := s.fresh) (o := ⟨O.tallyTraceDest, .u8, .rw, 1, false, .element, .span 0 1⟩)
      rfl rfl (by decide) rfl rfl ⟨hgate, hval, hrom⟩, State.writeObj_tallyTraceDest,
    State.write_op s.fresh hgate hval hrom (by simp [hop]), hop]

/-- Settles O39: the start checks for space before it asks whether a run or a holder has the token, and neither it nor
a write of the destination has changed anything where it refuses. -/
theorem traceRefusals : Obligations.TraceRefusals := by
  refine ⟨fun s w c v hc ha hroom hheld => ?_, fun s w c v hc ha hspace => ?_, fun s w v => traceDest_refused⟩
  · exact traceStart_refused hc ha (fun _ => traceStartOp_held (s := s.fresh) hroom hheld) (by decide)
  · have hroom : s.traceRoom = 0 := by
      rcases hspace with ⟨hdest, hbank⟩ | ⟨hdest, hsize | hstate⟩
      · exact State.traceRoom_of_no_bank hdest hbank
      · exact State.traceRoom_of_no_region hdest hsize
      · exact State.traceRoom_of_ddr_not_ready hdest hstate
    exact traceStart_refused hc ha (fun _ => traceStartOp_no_room (s := s.fresh) hroom) (by decide)

end Sys2Proof.Machine

/-! Fuse writes (R462): what burns a fuse, what is refused, and the right that fuses and firmware need. -/

namespace Sys2Proof.Machine

/-! ## The right of an object (R391, R462) -/

/-- The right is the first of the general checks (Table 11-6). -/
theorem State.gate_without_right {s : State} {w : Who} {idx : Nat} (h : bit (s.rights w) (rightOf idx) = false)
    (e : Nat) : s.gate w idx e = 0x0204 := by
  simp [State.gate, h]

/-- A write command refuses a writer without the right of its object, whatever its own checks would answer. -/
theorem refuses_of_write_without_right {c : Instr} {s : State} {w : Who} {idx e v : Nat} {op : State → State × Nat}
    (hc : exec c s = s.run fun s => s.write w idx e v op) (h : bit (s.rights w) (rightOf idx) = false) :
    Refuses c s 0x0204 := by
  have hgate : s.fresh.gate w idx e = 0x0204 := State.gate_without_right (s := s.fresh) h e
  exact refuses_of (w := w) hc (by rw [State.write_refused (by simp [hgate]), hgate])

theorem refuses_of_writeBytes_without_right {c : Instr} {s : State} {w : Who} {idx e n : Nat} {d : List Byte}
    {op : State → State × Nat} (hc : exec c s = s.run fun s => s.writeBytes w idx e n d op)
    (h : bit (s.rights w) (rightOf idx) = false) : Refuses c s 0x0204 := by
  have hgate : s.fresh.gate w idx e = 0x0204 := State.gate_without_right (s := s.fresh) h e
  exact refuses_of (w := w) hc (by rw [State.writeBytes_refused (by simp [hgate]), hgate])

/-- Every index of the firmware range has right 3, one that names no object too (log entry 10). -/
theorem rightOf_firmware {idx : Nat} (hlo : 0x1200 ≤ idx) (hhi : idx < 0x1210) : rightOf idx = 3 := by
  simp [rightOf, hlo, hhi]

/-- Below the objects of ports an entry, or the refusal of one, keeps the index that was named (R380). -/
theorem resolve_idx_below_ports {idx : Nat} (h : idx < 0x2000) (sub : Nat) : (resolve idx sub).idx = idx := by
  have halias : ¬ 0x8000 ≤ idx := by omega
  have hport : ¬ 0x2000 ≤ idx := by omega
  simp only [resolve, entry, halias, hport, decide_false, Bool.false_and, Bool.false_eq_true, if_false]
  split
  · rfl
  · split_ifs <;> rfl

/-- REGISTER_WRITE checks the right of the index before it asks whether the entry exists. -/
theorem registerWrite_refused_without_right {s : State} {w : Who} {idx : Nat} (hidx : idx < 0x2000)
    (h : bit (s.rights w) (rightOf idx) = false) (e v : Nat) : Refuses (.registerWrite w idx e v) s 0x0204 := by
  have hcheck (sub k : Nat) : s.fresh.writeCheck w (resolve idx sub) k 1 = 0x0204 := by
    have hright : bit (s.fresh.rights w) (rightOf idx) = false := h
    simp [State.writeCheck, resolve_idx_below_ports hidx, hright]
  refine refuses_of (w := w) (exec_registerWrite s w idx e v) ?_
  simp [State.registerWrite, hcheck]

/-- The six commands that write a fuse or an FW object need right 3. -/
theorem fuseOrFirmware_refused_without_right {s : State} {w : Who} {v k : Nat} {d : List Byte} {c : Instr}
    (h : bit (s.rights w) 3 = false)
    (hc : c ∈ [Instr.revokeKey0 w v, .svnCommit w v, .fwStageBegin w v, .fwStageSegment w k d, .fwActivate w v,
      .fwConfirm w v]) : Refuses c s 0x0204 := by
  simp only [List.mem_cons, List.not_mem_nil, or_false] at hc
  rcases hc with rfl | rfl | rfl | rfl | rfl | rfl
  · exact refuses_of_write_without_right (exec_revokeKey0 s w v) h
  · exact refuses_of_write_without_right (exec_svnCommit s w v) h
  · exact refuses_of_write_without_right (exec_fwStageBegin s w v) h
  · exact refuses_of_writeBytes_without_right (exec_fwStageSegment s w k d) h
  · exact refuses_of_write_without_right (exec_fwActivate s w v) h
  · exact refuses_of_write_without_right (exec_fwConfirm s w v) h

/-! ## What each of the two fuse writes checks -/

/-- The revocation burns where the running image and every SEALED slot are signed with key 1. -/
theorem revokeOp_burns {s : State} (hrun : s.keyOf (s.reg O.fwRunning) = 1)
    (hslots : ∀ k < 2, s.reg O.fwSlotState k = 5 → s.keyOf k = 1) :
    revokeOp s = (s.setReg O.secKeyRevoked 0 1, 0) := by
  simpa [revokeOp, hrun] using ⟨hslots 0 two_pos, hslots 1 one_lt_two⟩

theorem revokeOp_refused {s : State} {k : Nat} (hk : k < 2)
    (h : s.keyOf (s.reg O.fwRunning) ≠ 1 ∨ (s.reg O.fwSlotState k = 5 ∧ s.keyOf k ≠ 1)) :
    revokeOp s = (s, 0x0C02) := by
  rcases h with hrun | ⟨hsealed, hkey⟩
  · simp [revokeOp, hrun]
  · interval_cases k <;> simp [revokeOp, hsealed, hkey]

/-- The floor rises to a value that no SEALED slot falls short of, while no slot is in TRIAL; it never falls. -/
theorem svnCommitOp_burns {s : State} {v : Nat} (htrial : ∀ k < 2, s.reg O.fwSlotState k ≠ 4)
    (hslots : ∀ k < 2, s.reg O.fwSlotState k = 5 → v ≤ s.reg O.fwSlotSvn k) :
    svnCommitOp v s = (s.setReg O.secSvnFloor 0 (max v (s.reg O.secSvnFloor)), 0) := by
  refine if_neg ?_
  simpa [htrial 0 two_pos, htrial 1 one_lt_two] using ⟨hslots 0 two_pos, hslots 1 one_lt_two⟩

theorem svnCommitOp_refused {s : State} {v k : Nat} (hk : k < 2)
    (h : s.reg O.fwSlotState k = 4 ∨ (s.reg O.fwSlotState k = 5 ∧ s.reg O.fwSlotSvn k < v)) :
    svnCommitOp v s = (s, 0x0C04) := by
  rcases h with htrial | ⟨hsealed, hsvn⟩
  · interval_cases k <;> simp [svnCommitOp, htrial]
  · interval_cases k <;> simp [svnCommitOp, hsealed, hsvn]

/-! ## An accepted fuse write -/

/-- An accepted write whose object the journal does not carry, and whose operation writes one element, changes that
element and no other. -/
theorem runs_of_write_sets_one {c : Instr} {s : State} {w : Who} {idx e v i x : Nat} {o : Obj}
    {op : State → State × Nat} (hc : exec c s = s.run fun s => s.write w idx e v op) (ha : Allowed s w idx e v)
    (ho : objAt idx = some o) (hcarried : carried o = false) (hop : op s.fresh = (s.fresh.setReg i 0 x, 0)) :
    Runs c s fun t => t.reg i = x ∧ t.out.status = 0 ∧ OnlyElems [(i, 0)] s t := by
  refine ⟨_, hc.trans (State.run_write s ha (by rw [hop])), ?_⟩
  rw [hop, State.record_of_not_carried ho hcarried]
  refine ⟨State.reg_setReg_self s.fresh i 0 x, rfl, fun j f hf _ hne => ?_⟩
  exact s.fresh.reg_setReg_ne (by decide) hf (by simpa using hne)

/-- Settles O41: each fuse write burns or refuses by its own check, and the right of its object is asked for before
everything else. -/
theorem fuseWrites : Obligations.FuseWrites := by
  refine ⟨fun s w v ha hrun hslots => ?_, fun s w v k ha hk h => ?_, fun s w v ha htrial hslots => ?_,
    fun s w v k ha hk h => ?_, fun s w v k d c => fuseOrFirmware_refused_without_right,
    fun s w i e v h hlo hhi => ?_⟩
  · exact runs_of_write_sets_one (o := ⟨O.secRevokeKey0, .bool, .wo, 1, false, .element, .span 1 1⟩)
      (exec_revokeKey0 s w v) ha rfl rfl (revokeOp_burns (s := s.fresh) hrun hslots)
  · exact refuses_of_write (exec_revokeKey0 s w v) ha (revokeOp_refused (s := s.fresh) hk h) (by decide)
  · exact runs_of_write_sets_one (o := ⟨O.secSvnCommit, .u8, .wo, 1, false, .element, .span 1 63⟩)
      (exec_svnCommit s w v) ha rfl rfl (svnCommitOp_burns (s := s.fresh) htrial hslots)
  · exact refuses_of_write (exec_svnCommit s w v) ha (svnCommitOp_refused (s := s.fresh) hk h) (by decide)
  · exact registerWrite_refused_without_right (by omega) (by rwa [rightOf_firmware hlo hhi]) e v

end Sys2Proof.Machine

/-! The operation of each command, and a step and the queue it takes its command from (log entries 2 and 3). -/

namespace Sys2Proof.Machine

/-- The operation that a command runs (Machine/Dispatch.lean). -/
def operation : Instr → State → State
  | .frameStart phase => fun s => s.frameStart phase
  | .roundStart io => fun s => s.roundStart io
  | .coherentReturn c => fun s => s.coherentReturn c
  | .recapture c => fun s => s.recapture c
  | .lineLate a => fun s => s.lineLateOp a
  | .esReadStart a => fun s => s.esStart a
  | .displacedTpoaNew a => fun s => s.newDisplaced a s.clk.round (s.txN0 a)
  | .traceRecord tag dRx dSps dEts dSer => fun s => s.traceRecord tag dRx dSps dEts dSer
  | .recordAged kind port tsn => fun s => s.recordAged kind port tsn
  | .recordUnmatched kind port tsn => fun s => s.recordUnmatched kind port tsn
  | .stateReturnNormal => State.returnNormal
  | .cdrLock p => fun s => s.cdrLock p
  | .lossOfSignal p => fun s => s.signalLoss p
  | .fawMatch p c lane => fun s => s.fawMatch p c lane
  | .row1Check p c head row1 => fun s => s.row1Check p c (head :: row1)
  | .fawConfirm p c lane => fun s => s.fawConfirm p c lane
  | .rxFrame p f => fun s => s.rxFrame p f
  | .relockTimeout p => fun s => s.relockFail p
  | .syncLossRenegotiate p => fun s => s.syncLoss p
  | .fecDegInterval p => fun s => s.fecInterval p
  | .timePortFrameRx k bytes stamp => fun s => if s.portUp k then s.timeRx (96 + k) bytes stamp else s
  | .timePortSend k stamp => fun s => s.portSend k stamp
  | .timePortLinkUp k => fun s => s.timeLinkUp k
  | .portEnableWrite w p v => fun s => s.writePortEnable w p v
  | .portRoleWrite w p v => fun s => s.writePortRole w p v
  | .linkRenegotiate w p v => fun s => s.writeRenegotiate w p v
  | .versionMaxWrite w p v => fun s => s.writeVersionMax w p v
  | .versionExcludedWrite w p v => fun s => s.writeVersionExcluded w p v
  | .timeChannelEnWrite w p v => fun s => s.writeTimeChannelEn w p v
  | .sdIslandEnWrite w v => fun s => s.write w O.powerSdIslandEn 0 v (sdIslandOp (holderOf w) v)
  | .sdIslandReady k => fun s => s.islandReadyOp k
  | .txEqWrite w p v => fun s => s.writeTxEq w p v
  | .grainSizeWrite w e v => fun s => s.writeGrainSize w e v
  | .txForceAisWrite w a v => fun s => s.writeForceAis w a v
  | .grainChangedRead w p => fun s => s.readWith w O.grainChanged p (readClear O.grainChanged p 160)
  | .draftSrcWrite w a v => fun s => s.writeDraftSrc w a v
  | .draftRevert w v => fun s => s.writeDraftRevert w v
  | .commitReq w => fun s => s.writeCommitReq w 1
  | .mapAbort w => fun s => s.abortMap w
  | .solveComplete => State.solveComplete
  | .armingDeadline => State.deadline
  | .commitBoundary => State.commitBoundary
  | .fabricDrained => State.drained
  | .lodeStateWrite w l v => fun s => s.writeLodeState w l v
  | .groupTypeWrite w c v => fun s => s.writeCtx w O.groupType c v
  | .lineCtxWrite w a v => fun s => s.writeLineCtx w a v
  | .latenessWrite w c v => fun s => s.writeCtx w O.groupLateness c v
  | .marginWrite w c v => fun s => s.writeCtx w O.groupMargin c v
  | .lineFreed a => fun s => s.lineFreedOp a
  | .lineChangedRead w p => fun s => s.readWith w O.groupLineChanged p (readClear O.groupLineChanged p 160)
  | .protRoleWrite w v => fun s => s.writeProtRole w v
  | .witnessBlockLock st => fun s => s.blockLock st
  | .witnessBlockLockLoss st => fun s => s.blockLoss st
  | .statusRecordRx st x arrival =>
      fun s => s.rxRecord st (recordOf st x) 0x10 fun s => s.statusTaken st (recordOf st x) arrival
  | .verdictRecordRx st x => fun s => s.rxRecord st (recordOf st x) 0x20 fun s => s.verdictRx st (recordOf st x)
  | .noticeRecordRx st x => fun s => s.rxRecord st (recordOf st x) 0x30 fun s => s.noticeRx st (recordOf st x)
  | .ingressRecordRx st x => fun s => s.rxRecord st (recordOf st x) 1 fun s => s.peerRec st 0 (recordOf st x)
  | .egressRecordRx st x => fun s => s.rxRecord st (recordOf st x) 2 fun s => s.peerRec st 2 (recordOf st x)
  | .streamStatusTimeout st => fun s => s.statusTimeout st
  | .arbiterWatchTimeout =>
      fun s => if s.large && s.role ≠ 4 && decide (8 ≤ s.prot.watch) then s.setUnwatched true else s
  | .verdictEffective => State.verdictEffective
  | .prefSet w v => fun s => s.writePrefSet w v
  | .portFaultClear w v => fun s => s.writePortFaultClear w v
  | .mapDigestReady => State.mapDigestReady
  | .ledgerPeriodicCut => State.periodicCut
  | .ledgerCutReq w v => fun s => s.writeCutReq w v
  | .generationSealed => State.generationSealed
  | .rxSegmentWrite w k bytes => fun s => s.writeRxSegment w k bytes
  | .rxSealWrite w bytes => fun s => s.writeRxSeal w bytes
  | .journalSend => State.journalSend
  | .journalRxWrite w bytes => fun s => s.writeJournalRx w bytes
  | .spareSealCheck gen0 gen1 => fun s => s.spareSealCheck gen0 gen1
  | .exportTimeout => State.exportTimeout
  | .promote w v => fun s => s.writePromote w v
  | .promotionRestoreStart => State.promotionRestore
  | .warmHealthUpdate => State.warmHealth
  | .refEnableWrite w v => fun s => s.writeRefEnable w v
  | .inputLoss i => fun s => s.inputLoss i
  | .inputLossCleared i => fun s => s.inputBack i
  | .offsetMeasure i y => fun s => s.offsetMeasure i y
  | .qualificationTimeExpiry i => fun s => s.qualExpiry i
  | .waitRestoreExpiry i => fun s => s.wtrExpiry i
  | .selectionEval => State.select
  | .switchSettled => State.switchSettled
  | .dcoClampTimeout => State.clampTimeout
  | .fsnStep => State.fsnStep
  | .phaseStepWrite w v => fun s => s.writePhaseStep w v
  | .frameOffsetWrite w v => fun s => s.writeFrameOffset w v
  | .retime w v => fun s => s.writeRetime w v
  | .alignReq w v => fun s => s.writeAlignReq w v
  | .alignEdge late => fun s => s.alignEdge late
  | .alignTimeout => State.alignTimeout
  | .ppsEdge src tod late => fun s => s.ppsEdge src tod late
  | .ptpOffsetWrite w v => fun s => s.writePtpOffset w v
  | .timeSet w v => fun s => s.writeTimeSet w v
  | .timeStep w v => fun s => s.writeTimeStep w v
  | .timeCapture w v => fun s => s.writeTimeCapture w v
  | .servoSrcWrite w v => fun s => s.writeServoSrc w v
  | .launch w bytes => fun s => s.writeLaunch w bytes
  | .launchDue tag stamp => fun s => s.launchDue tag stamp
  | .launchDiscard tag => fun s => s.launchDiscard tag
  | .launchFlush w v => fun s => s.writeLaunchFlush w v
  | .launchDoneRead w first count => fun s => s.launchDoneRead w first count
  | .timeTriggeredCut => State.timeCut
  | .bankOwnerWrite w b v => fun s => s.writeBankOwner w b v
  | .handoverDrainDone b => fun s => s.drainDone b
  | .handoverScrubDone b => fun s => s.scrubDone b
  | .bankClearDone => State.clearDone
  | .eccWriteBack b word => fun s => s.writeBack b word
  | .eccLogRead w first count => fun s => s.eccLogRead w first count
  | .ddrTrainingDone gib failed => fun s => s.ddrTrained gib failed
  | .ddrFillDone => State.ddrFilled
  | .ddrLsEnWrite w v => fun s => s.writeDdrLsEn w v
  | .ddrRegionSizeWrite w trace v => fun s => s.writeDdrSize w (if trace then O.memDdrTraceSize else O.memDdrLsSize) v
  | .patrolBeat flip => fun s => s.patrolBeat flip
  | .ddrAlert ch retried => fun s => if !retried && s.reg O.memDdrChState ch = 2 then s.retrain ch else s
  | .retrainAttemptDone ch ok => fun s => s.retrainAttempt ch ok
  | .ddrRetrain w ch => fun s => s.writeDdrRetrain w ch
  | .matrixRead m id addr len x => fun s => s.issue m id 0 addr len [] 0 x.flip x.fetch
  | .matrixWrite m id addr data => fun s => s.issue m id 1 addr data.length data 0 0
  | .addWrap m id addr x => fun s => s.issue m id 2 addr x.len [] x.operand.toNat x.flip
  | .addSat m id addr x => fun s => s.issue m id 3 addr x.len [] x.operand.toNat x.flip
  | .swap m id addr x => fun s => s.issue m id 4 addr x.len [] x.operand.toNat x.flip
  | .matrixGrant t dt => fun s => s.grant t dt
  | .matrixResponse t => fun s => s.respondTxn t
  | .matrixTimeout m id => fun s => s.txnTimeout m id
  | .masterReset w v => fun s => s.writeMasterReset w v
  | .masterQuiesced k => fun s => s.masterQuiet k
  | .remapWrite w v => fun s => s.writeRemap w v
  | .remapApplied => State.remapApplied
  | .watchdogExpiry core => fun s => s.watchdog core
  | .errLogRead w first count => fun s => s.errLogRead w first count
  | .hdpRead port enc msg => fun s => s.hdpIn [1] port enc msg
  | .hdpWrite port enc msg => fun s => s.hdpIn [2] port enc msg
  | .readBulk port enc msg => fun s => s.hdpIn [3] port enc msg
  | .writeBulk port enc msg => fun s => s.hdpIn [4] port enc msg
  | .subscribe port enc msg => fun s => s.hdpIn [5] port enc msg
  | .bulkAbort port enc msg => fun s => s.hdpIn [6, 7, 8] port enc msg
  | .notify k => fun s => s.notify k
  | .secKeyWrite w slot key => fun s => s.writeSecKey w slot key
  | .seqCeilingWritten k => fun s => s.ceilingWritten k
  | .sessionIdle k => fun s => s.sessionIdle k
  | .bulkSegmentTimeout k xfer => fun s => s.bulkTimeout k xfer
  | .tokenTake w v => fun s => s.writeTokenTake w v
  | .tokenRelease w v => fun s => s.writeTokenRelease w v
  | .neighborSolicitation port target => fun s => s.neighbor port target
  | .echoRequest port target payload => fun s => s.echo port target payload
  | .testStart eng => fun s => s.testStart eng
  | .pathTestDone _pass => fun s => s.pathDone
  | .mapAuditRecheck hits => fun s => s.auditRecheck hits
  | .testComplete eng pass masks => fun s => s.testComplete eng pass masks
  | .bankWordTest b word bad => fun s => s.bankWordTest b word bad
  | .sramPatrolUnit flip => fun s => s.sramPatrol flip
  | .testReq w v => fun s => s.writeTestReq w v
  | .assayLogRead w first count => fun s => s.assayLogRead w first count
  | .eventClear w v => fun s => s.writeEventClear w v
  | .eventMaskWrite w v => fun s => s.writeEventMask w v
  | .tallyPreset w i v => fun s => s.writePreset w i v
  | .tagKWrite w v => fun s => s.writeTag w O.tallyTagK v
  | .tagSeedWrite w v => fun s => s.writeTag w O.tallyTagSeed v
  | .traceStartWrap w => fun s => s.writeTraceCtrl w 1
  | .traceStartStop w => fun s => s.writeTraceCtrl w 2
  | .traceEnd w => fun s => s.writeTraceCtrl w 3
  | .samplesRead w first count => fun s => s.samplesRead w first count
  | .modeReqStage w => fun s => s.writeModeReq w 3
  | .modeReqRestore w => fun s => s.writeModeReq w 4
  | .modeReqService w => fun s => s.writeModeReq w 5
  | .modeReqIsolate w => fun s => s.writeModeReq w 6
  | .isolateEntry => State.isolateEntry
  | .modeReqQuarantine w => fun s => s.writeModeReq w 7
  | .modeReqDormant w => fun s => s.writeModeReq w 0
  | .dormantEntry => State.dormantEntry
  | .fabPgAssert => State.fabPgAssert
  | .fabPgTimeout => State.fabPgTimeout
  | .fabPgDeassert => State.fabPgDeassert
  | .wakeSelftestDone failed lodes => fun s => s.selftestDone failed lodes
  | .attestDone => State.attestDone
  | .powerOnReset mapsel ddrNone => fun s => s.powerOnReset 0 mapsel ddrNone false
  | .porstAssert => fun s => s.powerOnReset 0 (s.reg O.matrixMapsel == 1) s.sys.ddrNone true
  | .sysReset w v => fun s => s.writeSysReset w v
  | .bootComplete => State.bootComplete
  | .fwStageBegin w v => fun s => s.writeStageBegin w v
  | .fwEraseDone => State.eraseDone
  | .fwStageSegment w k bytes => fun s => s.writeStageSegment w k bytes
  | .fwCommit w => fun s => s.fwTarget w (fwCommitOp (holderOf w))
  | .fwAbort w => fun s => s.fwTarget w (fwAbortOp (holderOf w))
  | .fwActivate w v => fun s => s.writeActivate w v
  | .keeperRestartDone => State.restartDone
  | .fwConfirm w v => fun s => s.writeConfirm w v
  | .trialTimeout => State.trialTimeout
  | .revokeKey0 w v => fun s => s.writeRevoke w v
  | .svnCommit w v => fun s => s.writeSvnCommit w v
  | .attestNonce w nonce => fun s => s.writeNonce w nonce
  | .attestReportDone => State.reportDone
  | .registerWrite w idx elem v => fun s => s.registerWrite w idx elem v
  | .crierLatchReload => State.crierReload
  | .timePortLinkDown k => fun s => s.timeLinkDown k

/-- A command that names an item runs its operation where the item exists (log entry 3). -/
theorem exec_of_item {c : Instr} {t : Items} {k : Nat} (h : c.item = some (t, k)) (s : State) :
    exec c s = s.runIn k t.count (operation c) := by
  cases c <;> cases h <;> rfl

/-- A command that names none runs its operation. -/
theorem exec_of_no_item {c : Instr} (h : c.item = none) (s : State) : exec c s = s.run (operation c) := by
  cases c <;> cases h <;> rfl

theorem Instr.wf_of_item {c : Instr} {t : Items} {k : Nat} (h : c.item = some (t, k)) :
    c.wf = decide (k < t.count) := by
  simp [Instr.wf, h]

theorem Instr.wf_of_no_item {c : Instr} (h : c.item = none) : c.wf = true := by
  simp [Instr.wf, h]

theorem exec_of_wf {c : Instr} (s : State) (h : c.wf = true) :
    exec c s = .next ((operation c s.fresh).withQueue s.pending) := by
  cases hi : c.item with
  | none => rw [exec_of_no_item hi, s.run_eq]
  | some y =>
    rw [Instr.wf_of_item hi] at h
    rw [exec_of_item hi, s.runIn_of_lt (of_decide_eq_true h)]

theorem exec_of_not_wf {c : Instr} (s : State) (h : c.wf = false) : exec c s = .fault .noSuch := by
  cases hi : c.item with
  | none => simp [Instr.wf_of_no_item hi] at h
  | some y =>
    rw [Instr.wf_of_item hi] at h
    rw [exec_of_item hi, s.runIn_of_not_lt (of_decide_eq_false h)]

/-- A command that answers a next state has run its operation, and leaves the queue as it was. -/
theorem eq_of_exec {c : Instr} {s t : State} (h : exec c s = .next t) :
    t = (operation c s.fresh).withQueue s.pending := by
  cases hwf : c.wf with
  | true =>
    rw [exec_of_wf s hwf] at h
    exact (Host.Outcome.next.inj h).symm
  | false =>
    rw [exec_of_not_wf s hwf] at h
    cases h

/-- Settles O47: a command runs where the item that it names exists. -/
theorem commandsAnswer : Obligations.CommandsAnswer :=
  ⟨fun _ s h => ⟨_, exec_of_wf s h, rfl⟩, fun _ s => exec_of_not_wf s⟩

/-! ## The queue -/

/-- Settles O45: a step is defined by the queue it meets. -/
theorem stepRunsTheFrontCommand : Obligations.StepRunsTheFrontCommand := by
  intro s c q h
  simp only [step, h]

/-- Settles O46: the other case of the queue. -/
theorem emptyQueueIdles : Obligations.EmptyQueueIdles := by
  intro s h
  simp only [step, h]

/-- A step on a queue of well-formed commands answers a next state and takes the front command from the queue. -/
theorem QueueOk.step {s : State} (h : QueueOk s) : ∃ t, step s = .next t ∧ t.pending = s.pending.drop 1 := by
  cases hq : s.pending with
  | nil => exact ⟨s, emptyQueueIdles s hq, hq⟩
  | cons c q =>
    have hrun := exec_of_wf (s.withQueue q) (h c (by simp [hq]))
    exact ⟨_, (stepRunsTheFrontCommand s c q hq).trans hrun, rfl⟩

/-- What is left of a queue of well-formed commands is such a queue. -/
theorem QueueOk.of_drop {s t : State} {n : Nat} (h : QueueOk s) (hq : t.pending = s.pending.drop n) : QueueOk t :=
  fun c hc => h c (List.mem_of_mem_drop (hq ▸ hc))

theorem core_run_succ {s t : State} (k : Nat) (h : step s = .next t) :
    Host.Core.run Sys2Proof.core (k + 1) s = Host.Core.run Sys2Proof.core k t := by
  have hcore : Sys2Proof.core.step s = .next t := h
  simp only [Host.Core.run, hcore]

/-- Settles O52, by induction on the number of steps: each takes one command and leaves the others. -/
theorem queueRuns : Obligations.QueueRuns := by
  intro s k h
  induction k generalizing s with
  | zero => exact ⟨s, rfl, rfl⟩
  | succ k ih =>
    obtain ⟨t, hstep, hrest⟩ := h.step
    obtain ⟨u, hrun, hleft⟩ := ih t (h.of_drop hrest)
    refine ⟨u, (core_run_succ k hstep).trans hrun, ?_⟩
    rw [hleft, hrest, List.drop_drop, Nat.add_comm]

/-- What every command keeps, a step keeps. -/
theorem step_keeps {P : State → Prop} (hqueue : ∀ (s : State) q, P s → P (s.withQueue q))
    (hfresh : ∀ s : State, P s → P s.fresh) (hop : ∀ c s, P s → P (operation c s)) {s t : State} (h : P s)
    (hstep : step s = .next t) : P t := by
  cases hq : s.pending with
  | nil =>
    rw [emptyQueueIdles s hq] at hstep
    exact Host.Outcome.next.inj hstep ▸ h
  | cons c q =>
    rw [stepRunsTheFrontCommand s c q hq] at hstep
    rw [eq_of_exec hstep]
    exact hqueue _ _ (hop c _ (hfresh _ (hqueue s q h)))

end Sys2Proof.Machine

/-! What every command keeps: the clock of frames, the canonical form of the stores, the parts and the objects outside
its row (Safety.lean, parts and objs). Each is the frame of its operation (Laws/Frame.lean, Laws/Canon.lean). -/

namespace Sys2Proof.Machine

/-! ## Stores -/

theorem operation_stores (c : Instr) (s : State) (h : StoresOk s) : StoresOk (operation c s) := by
  cases c <;> simp +contextual (maxDischargeDepth := 100) [operation, h]

/-- Settles O51: no operation leaves an entry out of order or one that holds what it reads as unlisted. -/
theorem stepKeepsTheStores : Obligations.StepKeepsTheStores := fun _ _ h =>
  step_keeps (fun s q h => s.withQueue_stores q h) (fun s h => s.fresh_stores h) operation_stores h

/-! ## Parts -/

theorem Part.mem_all (p : Part) : p ∈ Part.all := by cases p <;> decide

/-- An operation is not seen by a view of a part outside its command's row. -/
theorem operation_part (c : Instr) (s : State) {p : Part} (h : p ∉ parts c) :
    (operation c s).see (.part p) = s.see (.part p) := by
  cases c <;> simp only [parts, Part.mem_all, not_true_eq_false, notMem_cons, notMem_nil, and_true] at h <;>
    simp [operation, h]

/-- Settles O54: the views of the parts that a command's row leaves out see nothing of its operation. -/
theorem partFrame : Obligations.PartFrame := by
  intro c s t p hp ht
  rw [eq_of_exec ht]
  refine Part.same_of_see ?_
  simpa using operation_part c s.fresh hp

/-! ## The clock -/

/-- The operations whose command's row holds the clock: those of frames, rounds and frame number steps, the resets,
and those that may write any object. -/
theorem operation_clkOk (c : Instr) (s : State) (h : s.clk.Ok) : (operation c s).clk.Ok := by
  cases c
  case frameStart phase => exact s.frameStart_clkOk phase h
  case roundStart io => exact s.roundStart_clkOk io h
  case fsnStep => exact s.fsnStep_clkOk h
  case matrixGrant k dt => exact s.grant_clkOk k dt h
  case matrixResponse k => exact s.respondTxn_clkOk k h
  case matrixTimeout m id => exact s.txnTimeout_clkOk m id h
  case hdpRead port enc m => exact s.hdpIn_clkOk _ port enc m h
  case hdpWrite port enc m => exact s.hdpIn_clkOk _ port enc m h
  case readBulk port enc m => exact s.hdpIn_clkOk _ port enc m h
  case writeBulk port enc m => exact s.hdpIn_clkOk _ port enc m h
  case subscribe port enc m => exact s.hdpIn_clkOk _ port enc m h
  case bulkAbort port enc m => exact s.hdpIn_clkOk _ port enc m h
  case seqCeilingWritten k => exact s.ceilingWritten_clkOk k h
  case powerOnReset m d => exact s.powerOnReset_clkOk ..
  case porstAssert => exact s.powerOnReset_clkOk ..
  case sysReset w v => exact s.writeSysReset_clkOk w v h
  case registerWrite w i e v => exact s.registerWrite_clkOk w i e v h
  all_goals exact (congrArg Clk.Ok (clk_of_see s (operation_part _ s (by simp [parts])))).mpr h

/-- Settles O50: the operations that move the clock keep its order, and the others do not move it. -/
theorem stepKeepsTheClock : Obligations.StepKeepsTheClock := fun _ _ h =>
  step_keeps (P := fun s => s.clk.Ok) (fun _ _ h => h) (fun _ h => h) operation_clkOk h

/-! ## Objects -/

/-- What a filter keeps is found as before. -/
theorem SMap.find?_filter {β : Type} (m : SMap β) {p : Nat × β → Bool} {k : Nat} (h : ∀ v, p (k, v) = true) :
    SMap.find? (m.filter p) k = SMap.find? m k := by
  induction m with
  | nil => rfl
  | cons x m ih =>
    obtain ⟨i, v⟩ := x
    by_cases hi : i = k
    · subst hi
      simp [h, SMap.find?]
    · by_cases hp : p (i, v) = true <;> simp [hp, SMap.find?, hi, ih]

/-- Clearing an object clears no other. -/
theorem State.clearObj_reg (s : State) {i j e : Nat} (h : j ≠ i) : (s.clearObj i).reg j e = s.reg j e := by
  have hout : regKey j e < i * 2 ^ 24 ∨ i * 2 ^ 24 + 2 ^ 24 ≤ regKey j e := by
    unfold regKey
    omega
  have hkeep : ∀ v : Nat, (decide ((regKey j e, v).1 < i * 2 ^ 24) ||
      decide (i * 2 ^ 24 + 2 ^ 24 ≤ (regKey j e, v).1)) = true := by simpa using hout
  simp only [State.reg, State.clearObj, SMap.get, SMap.clearSpan]
  rw [SMap.find?_filter _ hkeep]

/-- An object that takes a list of elements changes no other. -/
theorem State.putMap_reg (s : State) {i j e : Nat} (l : List (Nat × Nat)) (h : j ≠ i) :
    (s.putMap i l).reg j e = s.reg j e :=
  (foldl_same (fun t : State => t.reg j e) _ l _ fun a _ => a.reg_setReg_obj h).trans (s.clearObj_reg h)

theorem draftRevertOp_reg (s : State) {i e : Nat} (h : i ≠ O.mapDraftSrc) :
    (draftRevertOp s).1.see (.reg i e) = s.see (.reg i e) := by
  unfold draftRevertOp
  split_ifs
  · rfl
  · exact s.putMap_reg _ h

theorem ctxOp_reg (idx c v : Nat) (s : State) {i e : Nat} (h : i ≠ idx) :
    (ctxOp idx c v s).1.see (.reg i e) = s.see (.reg i e) := by
  simp only [ctxOp]
  split_ifs <;> simp [↓see_mk, h]

theorem ddrSizeOp_reg (holder idx v : Nat) (s : State) {i e : Nat} (h : i ≠ idx) :
    (ddrSizeOp holder idx v s).1.see (.reg i e) = s.see (.reg i e) := by
  simp only [ddrSizeOp]
  split_ifs <;> simp [h]

theorem tagOp_reg (idx v : Nat) (s : State) {i e : Nat} (h : i ≠ idx) :
    (tagOp idx v s).1.see (.reg i e) = s.see (.reg i e) := by
  simp [tagOp, ↓see_mk, h]

theorem State.solveDone_reg (s : State) {i e : Nat}
    (h : i ∉ [O.mapBoundaryFsn, O.mapRepairs, O.mapShadowSrc, O.mapSolveCycles, O.mapState, O.tallyOvfCount]) :
    s.solveDone.see (.reg i e) = s.see (.reg i e) := by
  simp only [notMem_cons, notMem_nil, and_true] at h
  obtain ⟨hf, hr, hsrc, hc, hst, hov⟩ := h
  have hput : ∀ (t : State) l, (t.putMap O.mapShadowSrc l).see (.reg i e) = t.see (.reg i e) :=
    fun t l => t.putMap_reg l hsrc
  unfold State.solveDone
  split_ifs
  · simp [↓see_mk, hput, hf, hr, hc, hst, hov]
  · rfl

theorem State.solveComplete_reg (s : State) {i e : Nat}
    (h : i ∉ [O.mapBoundaryFsn, O.mapRepairs, O.mapShadowSrc, O.mapSolveCycles, O.mapState, O.tallyOvfCount]) :
    s.solveComplete.see (.reg i e) = s.see (.reg i e) := by
  simp only [State.solveComplete]
  split_ifs
  · simp [s.solveDone_reg h]
  · exact s.solveDone_reg h

/-- An operation is not seen by a view of an object outside its command's row, events apart. -/
theorem operation_reg (c : Instr) (s : State) {l : List Nat} {i e : Nat} (hl : objs c = some l)
    (hev : evObj i = false) (hi : i ∉ l) : (operation c s).see (.reg i e) = s.see (.reg i e) := by
  obtain ⟨hlatch, hcount, htime, hstats⟩ := evObj_ne hev
  cases c
  case solveComplete =>
    cases hl
    exact s.solveComplete_reg hi
  case ddrRegionSizeWrite w trace v =>
    cases hl
    simp only [notMem_cons, notMem_nil, and_true] at hi
    cases trace <;>
      simp [operation, State.writeDdrSize, ddrSizeOp_reg, hlatch, hcount, htime, hstats, hi]
  all_goals
    simp only [objs, reduceCtorEq, Option.some.injEq] at hl
  all_goals
    subst hl
    simp only [notMem_cons, notMem_nil, and_true] at hi
    simp [operation, State.writeDraftRevert, State.writeCtx, State.writeTag, draftRevertOp_reg, ctxOp_reg, tagOp_reg,
      hlatch, hcount, htime, hstats, hi]

/-- Settles O53: the views of the objects that a command's row leaves out see nothing of its operation. -/
theorem objectFrame : Obligations.ObjectFrame := by
  intro c s t l hl ht i e hev hi
  rw [eq_of_exec ht]
  simpa [reg_see] using operation_reg c s.fresh (e := e) hl hev hi

/-! ## Reset -/

/-- Right after a power-on reset every element reads as unlisted: at the default of its table. -/
theorem reset_reg (i e : Nat) : State.reset.reg i e = regDefault i (e % 2 ^ 24) := by
  have hkey : regKey i e % 2 ^ 24 = e % 2 ^ 24 := by
    unfold regKey
    omega
  have hread : State.reset.reg i e = unlisted (regKey i e) := rfl
  rw [hread, unlisted, regKey_obj, hkey]

theorem reset_latched (ev : Nat) : State.reset.latched ev = false := by
  have hzero : State.reset.reg O.eventLatch 0 = 0 := reset_reg O.eventLatch 0
  rw [State.latched, State.octReg, hzero, octBit, Nat.zero_testBit]

/-- Settles O48: what no table shows is as State.reset has it, and the objects stand at their defaults. -/
theorem resetState : Obligations.ResetState :=
  ⟨rfl, rfl, rfl, rfl, rfl, rfl, rfl, rfl, rfl, fun d _ => reset_reg O.maintTokenHolder d,
    fun p _ => reset_reg O.portEnable p, fun ev _ => reset_latched ev, fun c _ => reset_reg O.groupType c⟩

/-- Settles O49. -/
theorem resetKeepsOrder : Obligations.ResetKeepsOrder :=
  ⟨⟨by decide, by decide, by decide⟩, ⟨⟨rfl, rfl⟩, rfl⟩, fun _ h => by cases h⟩

end Sys2Proof.Machine

/-! The SECDED code of bank words (R323, R324, Table 9-1): it is linear, so what a read finds of a word and its flipped
bits follows from single bits. -/

namespace Sys2Proof.Machine

/-! ## Setting a bit -/

theorem testBit_sub_two_pow {v i : Nat} (h : v.testBit i = true) (k : Nat) :
    (v - 2 ^ i).testBit k = (v.testBit k && decide (k ≠ i)) := by
  induction i generalizing v k with
  | zero =>
    have hodd : v % 2 = 1 := by simpa using h
    cases k with
    | zero => simp; omega
    | succ k =>
      have half : (v - 2 ^ 0) / 2 = v / 2 := by omega
      rw [Nat.testBit_succ, Nat.testBit_succ, half]
      simp
  | succ i ih =>
    have half : (v - 2 ^ (i + 1)) / 2 = v / 2 - 2 ^ i := by rw [pow_succ]; omega
    have even : (v - 2 ^ (i + 1)) % 2 = v % 2 := by
      have := Nat.ge_two_pow_of_testBit h
      rw [pow_succ] at *; omega
    cases k with
    | zero => simp [even]
    | succ k =>
      rw [Nat.testBit_succ, Nat.testBit_succ, half, ih (Nat.testBit_succ v i ▸ h)]
      simp

theorem testBit_putBit (v i k : Nat) (b : Bool) :
    (putBit v i b).testBit k = if k = i then b else v.testBit k := by
  by_cases hk : k = i
  · rw [if_pos hk, hk]
    unfold putBit
    split_ifs with hb hv
    · simp [hb]
    · simp [testBit_sub_two_pow hv, hb]
    · simp [hb, hv]
  · unfold putBit
    split_ifs with hb hv
    · simp [Nat.testBit_two_pow_of_ne (Ne.symm hk)]
    · simp [testBit_sub_two_pow hv, hk]
    · rfl

theorem putBit_xor (v w i : Nat) (b c : Bool) :
    putBit (v ^^^ w) i (b ^^ c) = putBit v i b ^^^ putBit w i c :=
  Nat.eq_of_testBit_eq fun k => by
    simp only [Nat.testBit_xor, testBit_putBit]
    split_ifs <;> rfl

/-! ## The parts of the code are linear -/

/-- One turn of spreading or gathering: bit `src` of `v` is put at `dst`, of a position and the count of those before. -/
def moveBit (dst src : Nat → Nat → Nat) (v : Nat) (r : Nat × Nat) (p : Nat) : Nat × Nat :=
  (putBit r.1 (dst p r.2) (v.testBit (src p r.2)), r.2 + 1)

theorem foldl_moveBit_xor (dst src : Nat → Nat → Nat) (v w : Nat) (l : List Nat) (x y n : Nat) :
    (l.foldl (moveBit dst src (v ^^^ w)) (x ^^^ y, n)).1 =
      (l.foldl (moveBit dst src v) (x, n)).1 ^^^ (l.foldl (moveBit dst src w) (y, n)).1 := by
  induction l generalizing x y n with
  | nil => rfl
  | cons p l ih => simp only [List.foldl_cons, moveBit, Nat.testBit_xor, putBit_xor, ih]

theorem spread_xor (v w : Nat) : spread (v ^^^ w) = spread v ^^^ spread w :=
  foldl_moveBit_xor (fun p _ => p - 1) (fun _ n => n) v w dataPos 0 0 0

theorem dataOf_xor (v w : Nat) : dataOf (v ^^^ w) = dataOf v ^^^ dataOf w :=
  foldl_moveBit_xor (fun _ n => n) (fun p _ => p - 1) v w dataPos 0 0 0

/-- One turn of the syndrome: a position that holds a one enters. -/
def syndromeStep (c a i : Nat) : Nat := if c.testBit i then a ^^^ (i + 1) else a

theorem syndromeStep_xor (v w r t i : Nat) :
    syndromeStep (v ^^^ w) (r ^^^ t) i = syndromeStep v r i ^^^ syndromeStep w t i := by
  simp only [syndromeStep, Nat.testBit_xor]
  cases v.testBit i <;> cases w.testBit i <;> simp [Nat.xor_assoc, Nat.xor_comm, Nat.xor_left_comm]

theorem syndrome_xor (v w : Nat) : syndrome (v ^^^ w) = syndrome v ^^^ syndrome w :=
  foldl_xor (syndromeStep_xor v w) (List.range 54) 0 0

theorem popCount_succ (n v : Nat) : popCount (n + 1) v = popCount n v + b2n (v.testBit n) := by
  simp [popCount, foldRange, List.range_succ]

/-- The parity of two numbers' sum is the sum of their parities. -/
theorem popCount_xor (n v w : Nat) :
    (popCount n (v ^^^ w) % 2 == 1) = ((popCount n v % 2 == 1) ^^ (popCount n w % 2 == 1)) := by
  induction n with
  | zero => rfl
  | succ n ih =>
    have flip : ∀ (m : Nat) (b : Bool), ((m + b2n b) % 2 == 1) = ((m % 2 == 1) ^^ b) := by
      intro m b
      rcases Nat.mod_two_eq_zero_or_one m with h | h <;> cases b <;> simp [b2n, Nat.add_mod, h]
    simp only [popCount_succ, flip, ih, Nat.testBit_xor]
    simp [Bool.xor_left_comm]

theorem parity55_xor (v w : Nat) : parity55 (v ^^^ w) = (parity55 v ^^ parity55 w) := popCount_xor 55 v w

/-- Check bits put into their places. -/
def putChecks (c s : Nat) : Nat := foldRange 6 (fun c i => putBit c (2 ^ i - 1) (s.testBit i)) c

theorem foldl_putChecks_xor (v w : Nat) (l : List Nat) (x y : Nat) :
    l.foldl (fun c i => putBit c (2 ^ i - 1) ((v ^^^ w).testBit i)) (x ^^^ y) =
      l.foldl (fun c i => putBit c (2 ^ i - 1) (v.testBit i)) x ^^^
        l.foldl (fun c i => putBit c (2 ^ i - 1) (w.testBit i)) y :=
  foldl_xor (fun r t i => by rw [Nat.testBit_xor, putBit_xor]) l x y

theorem eccEnc_xor (v w : Nat) : eccEnc (v ^^^ w) = eccEnc v ^^^ eccEnc w := by
  have checks : ∀ a b s t, putChecks (a ^^^ b) (s ^^^ t) = putChecks a s ^^^ putChecks b t :=
    fun a b s t => foldl_putChecks_xor s t _ a b
  have split : ∀ d, eccEnc d = putBit (putChecks (spread d) (syndrome (spread d))) 54
      (parity55 (putChecks (spread d) (syndrome (spread d)))) := fun _ => rfl
  simp only [split, spread_xor, syndrome_xor, checks, parity55_xor, putBit_xor]

/-! ## Words as written -/

/-- The code word of one data bit has syndrome and parity zero and holds that bit. -/
theorem eccEnc_two_pow : ∀ i < 48, syndrome (eccEnc (2 ^ i)) = 0 ∧ parity55 (eccEnc (2 ^ i)) = false ∧
    dataOf (eccEnc (2 ^ i)) = 2 ^ i := by decide +kernel

theorem eccEnc_spec : ∀ d < 2 ^ 48, syndrome (eccEnc d) = 0 ∧ parity55 (eccEnc d) = false ∧
    dataOf (eccEnc d) = d := by
  refine xor_induction (by decide +kernel) eccEnc_two_pow ?_
  rintro a b ⟨hsa, hpa, hda⟩ ⟨hsb, hpb, hdb⟩
  simp [eccEnc_xor, syndrome_xor, parity55_xor, dataOf_xor, hsa, hsb, hpa, hpb, hda, hdb]

/-! ## Flipped bits -/

/-- One flipped bit changes the parity; the syndrome is its position, and 0 for the parity bit. -/
theorem flip_spec : ∀ i < 55, parity55 (2 ^ i) = true ∧ syndrome (2 ^ i) = if i < 54 then i + 1 else 0 := by
  decide +kernel

theorem dataOf_parity_bit : dataOf (2 ^ 54) = 0 := by decide +kernel

/-- The positions of two flipped bits do not cancel. -/
theorem syndrome_two_flips {i j : Nat} (hi : i < 55) (hj : j < 55) (h : i ≠ j) :
    syndrome (2 ^ i) ^^^ syndrome (2 ^ j) ≠ 0 := by
  obtain ⟨-, hsi⟩ := flip_spec i hi
  obtain ⟨-, hsj⟩ := flip_spec j hj
  rw [Nat.xor_ne_zero_iff, hsi, hsj]
  split_ifs <;> omega

theorem eccDec_of_syndrome_zero {c : Nat} (h : syndrome c = 0) :
    eccDec c = ⟨dataOf c, parity55 c, false, 0, parity55 c⟩ := by
  simp [eccDec, h]

theorem eccDec_of_position {c i : Nat} (hs : syndrome c = i + 1) (hi : i < 54) (hp : parity55 c = true) :
    eccDec c = ⟨dataOf (c ^^^ 2 ^ i), true, false, i + 1, true⟩ := by
  simp [eccDec, hs, hp, hi]

theorem eccDec_of_even {c : Nat} (hs : syndrome c ≠ 0) (hp : parity55 c = false) :
    eccDec c = ⟨dataOf c, false, true, syndrome c, false⟩ := by
  simp [eccDec, hs, hp]

theorem eccDec_eccEnc {d : Nat} (hd : d < 2 ^ 48) : eccDec (eccEnc d) = ⟨d, false, false, 0, false⟩ := by
  obtain ⟨hs, hp, hdata⟩ := eccEnc_spec d hd
  rw [eccDec_of_syndrome_zero hs, hp, hdata]

theorem eccDec_one_flip {d i : Nat} (hd : d < 2 ^ 48) (hi : i < 55) :
    (eccDec (eccEnc d ^^^ 2 ^ i)).d = d ∧ (eccDec (eccEnc d ^^^ 2 ^ i)).fixed = true ∧
      (eccDec (eccEnc d ^^^ 2 ^ i)).bad = false := by
  obtain ⟨hs, hp, hdata⟩ := eccEnc_spec d hd
  obtain ⟨hpf, hsf⟩ := flip_spec i hi
  have hpar : parity55 (eccEnc d ^^^ 2 ^ i) = true := by simp [parity55_xor, hp, hpf]
  have hsyn : syndrome (eccEnc d ^^^ 2 ^ i) = if i < 54 then i + 1 else 0 := by simp [syndrome_xor, hs, hsf]
  by_cases hpos : i < 54
  · rw [if_pos hpos] at hsyn
    rw [eccDec_of_position hsyn hpos hpar, Nat.xor_xor_cancel_right, hdata]
    exact ⟨rfl, rfl, rfl⟩
  · rw [if_neg hpos] at hsyn
    obtain rfl : i = 54 := by omega
    rw [eccDec_of_syndrome_zero hsyn, hpar, dataOf_xor, hdata, dataOf_parity_bit, Nat.xor_zero]
    exact ⟨rfl, rfl, rfl⟩

theorem eccDec_two_flips {d i j : Nat} (hd : d < 2 ^ 48) (hi : i < 55) (hj : j < 55) (h : i ≠ j) :
    (eccDec (eccEnc d ^^^ 2 ^ i ^^^ 2 ^ j)).bad = true ∧ (eccDec (eccEnc d ^^^ 2 ^ i ^^^ 2 ^ j)).fixed = false := by
  obtain ⟨hs, hp, -⟩ := eccEnc_spec d hd
  obtain ⟨hpi, -⟩ := flip_spec i hi
  obtain ⟨hpj, -⟩ := flip_spec j hj
  have hsyn : syndrome (eccEnc d ^^^ 2 ^ i ^^^ 2 ^ j) ≠ 0 := by
    simpa [syndrome_xor, hs] using syndrome_two_flips hi hj h
  have hpar : parity55 (eccEnc d ^^^ 2 ^ i ^^^ 2 ^ j) = false := by simp [parity55_xor, hp, hpi, hpj]
  rw [eccDec_of_even hsyn hpar]
  exact ⟨rfl, rfl⟩

/-- Settles O56: encoding, syndrome, parity and data are linear, so a read of a word with flipped bits goes by the
syndrome of those bits alone. -/
theorem bankWordCode : Obligations.BankWordCode := by
  refine ⟨fun d hd => ?_, fun d i hd hi => eccDec_one_flip hd hi, fun d i j hd hi hj h => eccDec_two_flips hd hi hj h⟩
  rw [eccDec_eccEnc hd]
  exact ⟨rfl, rfl, rfl⟩

end Sys2Proof.Machine

/-! HDP messages and their bytes (R389, Table 11-3). -/

namespace Sys2Proof.Machine

/-! ## Bytes and numbers -/

theorem ofBytes_lt (l : List Byte) : ofBytes l < 256 ^ l.length := by
  induction l using List.reverseRecOn with
  | nil => decide
  | append_singleton l b ih =>
    have hb : ofBytes [b] < 256 := by simpa [ofBytes] using b.isLt
    rw [ofBytes_append, List.length_append, List.length_singleton, pow_succ]
    omega

/-- The bytes of the number that bytes spell are those bytes. -/
theorem toBytes_ofBytes (l : List Byte) : toBytes l.length (ofBytes l) = l := by
  have high : ∀ (n a r : Nat), toBytes n (a * 256 ^ n + r) = toBytes n r := by
    intro n
    induction n with
    | zero => intro a r; rfl
    | succ n ih =>
      intro a r
      have top : BitVec.ofNat 8 ((a * 256 ^ (n + 1) + r) >>> (8 * n)) = BitVec.ofNat 8 (r >>> (8 * n)) := by
        have e : 2 ^ (8 * n) = 256 ^ n := by rw [pow_mul]; rfl
        have split : a * 256 ^ (n + 1) + r = 256 ^ n * (a * 256) + r := by ring
        refine BitVec.eq_of_toNat_eq ?_
        rw [BitVec.toNat_ofNat, BitVec.toNat_ofNat, Nat.shiftRight_eq_div_pow, Nat.shiftRight_eq_div_pow, e, split,
          Nat.mul_add_div (by positivity)]
        omega
      have low : a * 256 ^ (n + 1) + r = (a * 256) * 256 ^ n + r := by ring
      rw [toBytes, toBytes, top, low, ih]
  induction l with
  | nil => rfl
  | cons b l ih =>
    have spell : ofBytes (b :: l) = b.toNat * 256 ^ l.length + ofBytes l := by
      simpa [ofBytes] using ofBytes_append [b] l
    have top : BitVec.ofNat 8 ((b.toNat * 256 ^ l.length + ofBytes l) >>> (8 * l.length)) = b := by
      have e : 2 ^ (8 * l.length) = 256 ^ l.length := by rw [pow_mul]; rfl
      rw [Nat.shiftRight_eq_div_pow, e, Nat.mul_comm, Nat.mul_add_div (by positivity),
        Nat.div_eq_of_lt (ofBytes_lt l)]
      simp
    rw [spell, List.length_cons, toBytes, top, high, ih]

/-! ## Fields of bytes -/

theorem slice_length {m : List Byte} {o n : Nat} (h : o + n ≤ m.length) : (slice m o n).length = n := by
  rw [slice, List.length_take, List.length_drop]
  omega

theorem fld_lt (m : List Byte) (o n : Nat) : fld m o n < 256 ^ n :=
  (ofBytes_lt _).trans_le (Nat.pow_le_pow_right (by decide) (by simp [slice]))

/-- The bytes of a field that stands within a message are its bytes there. -/
theorem toBytes_fld {m : List Byte} {o n : Nat} (h : o + n ≤ m.length) : toBytes n (fld m o n) = slice m o n := by
  have := toBytes_ofBytes (slice m o n)
  rwa [slice_length h] at this

/-- Fields side by side are one field. -/
theorem slice_append (m : List Byte) {o n p : Nat} (k : Nat) (h : p = o + n) :
    slice m o n ++ slice m p k = slice m o (n + k) := by
  rw [h, slice, slice, slice, ← List.drop_drop, List.take_add]

/-- A field that reads as a number holds its bytes. -/
theorem slice_eq_toBytes {m : List Byte} {o n v : Nat} (h : o + n ≤ m.length) (hv : fld m o n = v) :
    slice m o n = toBytes n v := by
  rw [← hv, toBytes_fld h]

/-! ## What is sent is read back -/

/-- The fixed fields of a message, 36 bytes: how many bytes each has, and what it holds (Table 11-3). -/
def Hdp.fields (h : Hdp) : List (Nat × Nat) :=
  [(1, 1), (1, h.op), (1, h.flags), (1, 0), (2, h.session), (6, h.seq), (2, h.xfer), (2, h.index), (1, h.sub), (1, 0),
    (3, h.elem), (1, 0), (4, h.offset), (4, h.total), (2, h.value.length), (2, h.status), (2, 0)]

/-- Fields as bytes, one after another. -/
def fieldBytes (l : List (Nat × Nat)) : List Byte := l.flatMap fun x => toBytes x.1 x.2

/-- How many bytes fields take. -/
def fieldSpan (l : List (Nat × Nat)) : Nat := (l.map Prod.fst).sum

theorem fieldBytes_length (l : List (Nat × Nat)) : (fieldBytes l).length = fieldSpan l := by
  simp [fieldBytes, fieldSpan, List.length_flatMap]

/-- A field stands behind those before it. -/
theorem slice_fieldBytes {l : List (Nat × Nat)} {k n v : Nat} (h : l[k]? = some (n, v)) (rest : List Byte) :
    slice (fieldBytes l ++ rest) (fieldSpan (l.take k)) n = toBytes n v := by
  obtain ⟨hk, hf⟩ := List.getElem?_eq_some_iff.mp h
  have cut : fieldBytes l = fieldBytes (l.take k) ++ (toBytes n v ++ fieldBytes (l.drop (k + 1))) := by
    conv_lhs => rw [← List.take_append_drop k l, List.drop_eq_getElem_cons hk, hf]
    simp [fieldBytes]
  rw [cut, List.append_assoc, List.append_assoc, slice, List.drop_left' (fieldBytes_length _),
    List.take_left' (toBytes_length n v)]

theorem Hdp.wire_eq (h : Hdp) (mac : List Byte) : h.wire mac = fieldBytes h.fields ++ (h.value ++ mac) := by
  simp [Hdp.wire, Hdp.bytes, fieldBytes, Hdp.fields]

/-- Field `k` of a message sent, at its offset, is read as what it holds. -/
theorem Hdp.fld_wire {h : Hdp} (mac : List Byte) (k : Nat) {o n v : Nat} (hf : h.fields[k]? = some (n, v))
    (ho : ((h.fields.map Prod.fst).take k).sum = o) (hv : v < 256 ^ n) : fld (h.wire mac) o n = v := by
  have hspan : fieldSpan (h.fields.take k) = o := by rw [fieldSpan, List.map_take, ho]
  rw [fld, h.wire_eq, ← hspan, slice_fieldBytes hf, ofBytes_toBytes_of_lt hv]

/-- How many bytes the fixed fields have, whatever they hold. -/
theorem Hdp.fields_widths (h : Hdp) :
    h.fields.map Prod.fst = [1, 1, 1, 1, 2, 6, 2, 2, 1, 1, 3, 1, 4, 4, 2, 2, 2] := rfl

theorem Hdp.header_length (h : Hdp) : (fieldBytes h.fields).length = 36 := by
  simp [fieldBytes_length, fieldSpan, Hdp.fields]

theorem Hdp.length_wire (h : Hdp) {mac : List Byte} (hmac : mac.length = 32) :
    (h.wire mac).length = 68 + h.value.length := by
  rw [h.wire_eq]
  simp only [List.length_append, h.header_length, hmac]
  omega

theorem Hdp.value_wire (h : Hdp) (mac : List Byte) : slice (h.wire mac) 36 h.value.length = h.value := by
  rw [h.wire_eq, slice, List.drop_left' h.header_length, List.take_left]

theorem hdpMac_wire (h : Hdp) {mac : List Byte} (hmac : mac.length = 32) : hdpMac (h.wire mac) = mac := by
  rw [hdpMac, h.length_wire hmac, h.wire_eq, ← List.append_assoc]
  exact List.drop_left' (by rw [List.length_append, h.header_length]; omega)

theorem hdpParse_wire {h : Hdp} (hfits : h.Fits) {mac : List Byte} (hmac : mac.length = 32) :
    hdpParse (h.wire mac) = some h := by
  obtain ⟨hop1, hop8, hflags, hrsvd, hses, hseq, hxfer, hindex, hsub, helem, hoff, htot, hstat, hlen⟩ := hfits
  have ver : fld (h.wire mac) 0 1 = 1 := Hdp.fld_wire mac 0 rfl (by rw [h.fields_widths]; rfl) (by decide)
  have op : fld (h.wire mac) 1 1 = h.op := Hdp.fld_wire mac 1 rfl (by rw [h.fields_widths]; rfl) (by omega)
  have flags : fld (h.wire mac) 2 1 = h.flags := Hdp.fld_wire mac 2 rfl (by rw [h.fields_widths]; rfl) (by omega)
  have rsvd3 : fld (h.wire mac) 3 1 = 0 := Hdp.fld_wire mac 3 rfl (by rw [h.fields_widths]; rfl) (by decide)
  have ses : fld (h.wire mac) 4 2 = h.session := Hdp.fld_wire mac 4 rfl (by rw [h.fields_widths]; rfl) (by omega)
  have seq : fld (h.wire mac) 6 6 = h.seq := Hdp.fld_wire mac 5 rfl (by rw [h.fields_widths]; rfl) (by omega)
  have xfer : fld (h.wire mac) 12 2 = h.xfer := Hdp.fld_wire mac 6 rfl (by rw [h.fields_widths]; rfl) (by omega)
  have index : fld (h.wire mac) 14 2 = h.index := Hdp.fld_wire mac 7 rfl (by rw [h.fields_widths]; rfl) (by omega)
  have sub : fld (h.wire mac) 16 1 = h.sub := Hdp.fld_wire mac 8 rfl (by rw [h.fields_widths]; rfl) (by omega)
  have rsvd17 : fld (h.wire mac) 17 1 = 0 := Hdp.fld_wire mac 9 rfl (by rw [h.fields_widths]; rfl) (by decide)
  have elem : fld (h.wire mac) 18 3 = h.elem := Hdp.fld_wire mac 10 rfl (by rw [h.fields_widths]; rfl) (by omega)
  have rsvd21 : fld (h.wire mac) 21 1 = 0 := Hdp.fld_wire mac 11 rfl (by rw [h.fields_widths]; rfl) (by decide)
  have off : fld (h.wire mac) 22 4 = h.offset := Hdp.fld_wire mac 12 rfl (by rw [h.fields_widths]; rfl) (by omega)
  have tot : fld (h.wire mac) 26 4 = h.total := Hdp.fld_wire mac 13 rfl (by rw [h.fields_widths]; rfl) (by omega)
  have len : fld (h.wire mac) 30 2 = h.value.length := Hdp.fld_wire mac 14 rfl (by rw [h.fields_widths]; rfl) (by omega)
  have stat : fld (h.wire mac) 32 2 = h.status := Hdp.fld_wire mac 15 rfl (by rw [h.fields_widths]; rfl) (by omega)
  have rsvd34 : fld (h.wire mac) 34 2 = 0 := Hdp.fld_wire mac 16 rfl (by rw [h.fields_widths]; rfl) (by decide)
  have hok : hdpOk (h.wire mac) = true := by
    simp [hdpOk, h.length_wire hmac, ver, op, flags, rsvd3, rsvd17, rsvd21, len, rsvd34, hop1, hop8, hrsvd, hlen]
  rw [hdpParse, if_pos hok, hdpFields, op, flags, ses, seq, xfer, index, sub, elem, off, tot, len, stat, h.value_wire]

/-! ## What is read is what was sent -/

/-- The checks of a well-formed message, one by one. -/
theorem hdpOk_iff (m : List Byte) : hdpOk m = true ↔
    68 ≤ m.length ∧ m.length = 68 + fld m 30 2 ∧ fld m 30 2 ≤ 1024 ∧ fld m 0 1 = 1 ∧ 1 ≤ fld m 1 1 ∧ fld m 1 1 ≤ 8 ∧
      fld m 2 1 % 8 = 0 ∧ fld m 3 1 = 0 ∧ fld m 17 1 = 0 ∧ fld m 21 1 = 0 ∧ fld m 34 2 = 0 := by
  simp [hdpOk, and_assoc]

theorem fits_hdpFields {m : List Byte} (h : hdpOk m = true) : (hdpFields m).Fits := by
  obtain ⟨-, hlen, hmax, -, hop1, hop8, hflags, -⟩ := (hdpOk_iff m).mp h
  refine ⟨hop1, hop8, fld_lt m 2 1, hflags, fld_lt m 4 2, fld_lt m 6 6, fld_lt m 12 2, fld_lt m 14 2, fld_lt m 16 1,
    fld_lt m 18 3, fld_lt m 22 4, fld_lt m 26 4, fld_lt m 32 2, ?_⟩
  exact (slice_length (by omega)).trans_le hmax

/-- The header of what is read of a well-formed message is its first 36 bytes. -/
theorem header_hdpFields {m : List Byte} (h : hdpOk m = true) : fieldBytes (hdpFields m).fields = m.take 36 := by
  obtain ⟨h68, hlen, -, hver, -, -, -, h3, h17, h21, h34⟩ := (hdpOk_iff m).mp h
  have bytes : ∀ {o n v}, fld m o n = v → o + n ≤ 68 → slice m o n = toBytes n v :=
    fun hv hin => slice_eq_toBytes (hin.trans h68) hv
  have hvalue : (hdpFields m).value.length = fld m 30 2 := slice_length (by omega)
  have cut : m.take 36 = slice m 0 1 ++ slice m 1 1 ++ slice m 2 1 ++ slice m 3 1 ++ slice m 4 2 ++ slice m 6 6 ++
      slice m 12 2 ++ slice m 14 2 ++ slice m 16 1 ++ slice m 17 1 ++ slice m 18 3 ++ slice m 21 1 ++ slice m 22 4 ++
      slice m 26 4 ++ slice m 30 2 ++ slice m 32 2 ++ slice m 34 2 := by
    simp only [slice_append, Nat.reduceAdd]
    rfl
  rw [cut, bytes hver (by decide), bytes h3 (by decide), bytes h17 (by decide), bytes h21 (by decide),
    bytes h34 (by decide)]
  simp [bytes rfl, fieldBytes, Hdp.fields, hvalue]
  rfl

theorem wire_hdpFields {m : List Byte} (h : hdpOk m = true) : (hdpFields m).wire (hdpMac m) = m := by
  obtain ⟨h68, hlen, -⟩ := (hdpOk_iff m).mp h
  have value : (hdpFields m).value = (m.drop 36).take (m.length - 68) := by
    rw [hdpFields, slice, show fld m 30 2 = m.length - 68 by omega]
  have mac : hdpMac m = (m.drop 36).drop (m.length - 68) := by
    rw [hdpMac, List.drop_drop, show m.length - 32 = 36 + (m.length - 68) by omega]
  rw [Hdp.wire_eq, header_hdpFields h, value, mac, List.take_append_drop, List.take_append_drop]

/-- Settles O55: every field stands at its place in the header, and the fields cover a well-formed message. -/
theorem hdpMessages : Obligations.HdpMessages := by
  refine ⟨fun h mac hfits hmac => ⟨hdpParse_wire hfits hmac, hdpMac_wire h hmac⟩, fun m h hm => ?_⟩
  have hok : hdpOk m = true ∧ hdpFields m = h := by simpa [hdpParse] using hm
  obtain ⟨hok, rfl⟩ := hok
  exact ⟨fits_hdpFields hok, wire_hdpFields hok⟩

end Sys2Proof.Machine

/-! Refused accesses (O44), a refused commit (O35) and the logs that a read clears (O26); before them the ways in which
a command runs. -/

namespace Sys2Proof.Machine

/-! ### How a command runs -/

/-- A command without a numbered item runs to its effect, and keeps the queue. -/
theorem runs_of_run {c : Instr} {s : State} {f : State → State} {P : State → Prop} (hc : exec c s = s.run f)
    (h : P ((f s.fresh).withQueue s.pending)) : Runs c s P := ⟨_, hc.trans (s.run_eq f), h⟩

/-- A command that names an item which exists runs to its effect. -/
theorem runs_of_runIn {c : Instr} {s : State} {k n : Nat} {f : State → State} {P : State → Prop}
    (hc : exec c s = s.runIn k n f) (hk : k < n) (h : P ((f s.fresh).withQueue s.pending)) : Runs c s P :=
  ⟨_, hc.trans (State.runIn_of_lt s hk f), h⟩

/-- A write that its own operation accepts runs to its effect, the journal entry and the answer 0. -/
theorem runs_of_write {c : Instr} {s u : State} {w : Who} {idx e v : Nat} {op : State → State × Nat} {P : State → Prop}
    (hc : exec c s = s.run fun s => s.write w idx e v op) (ha : Allowed s w idx e v) (ho : op s.fresh = (u, 0))
    (h : P (((u.record idx e v).answer 0).withQueue s.pending)) : Runs c s P :=
  ⟨_, hc.trans (s.run_write ha (congrArg Prod.snd ho)), by rwa [ho]⟩

/-- The same, for an object whose chapter places a check of its own first. -/
theorem runs_of_write_pre {c : Instr} {s u : State} {w : Who} {idx e v : Nat} {op : State → State × Nat}
    {pre : State → Nat} {P : State → Prop} (hc : exec c s = s.run fun s => s.write w idx e v op (pre := pre s))
    (ha : Allowed s w idx e v) (hp : pre s.fresh = 0) (ho : op s.fresh = (u, 0))
    (h : P (((u.record idx e v).answer 0).withQueue s.pending)) : Runs c s P :=
  ⟨_, hc.trans (s.run_write_pre ha hp (congrArg Prod.snd ho)), by rwa [ho]⟩

/-! ### A refused access -/

/-- Settles O44: every write of an object goes through the general checks before it does anything. -/
theorem refusedAccess : Obligations.RefusedAccess := by
  intro c s w i e ha hg
  cases c
  case portEnableWrite => cases ha; exact refuses_of (exec_portEnableWrite ..) (State.write_refused hg)
  case portRoleWrite => cases ha; exact refuses_of (exec_portRoleWrite ..) (State.write_refused hg)
  case linkRenegotiate => cases ha; exact refuses_of (exec_linkRenegotiate ..) (State.write_refused hg)
  case versionMaxWrite => cases ha; exact refuses_of (exec_versionMaxWrite ..) (State.write_refused hg)
  case versionExcludedWrite => cases ha; exact refuses_of (exec_versionExcludedWrite ..) (State.write_refused hg)
  case timeChannelEnWrite => cases ha; exact refuses_of (exec_timeChannelEnWrite ..) (State.write_refused hg)
  case sdIslandEnWrite => cases ha; exact refuses_of (exec_sdIslandEnWrite ..) (State.write_refused hg)
  case txEqWrite => cases ha; exact refuses_of (exec_txEqWrite ..) (State.write_refused hg)
  case grainSizeWrite => cases ha; exact refuses_of (exec_grainSizeWrite ..) (State.write_refused hg)
  case txForceAisWrite => cases ha; exact refuses_of (exec_txForceAisWrite ..) (State.write_refused hg)
  case draftSrcWrite => cases ha; exact refuses_of (exec_draftSrcWrite ..) (State.write_refused hg)
  case draftRevert => cases ha; exact refuses_of (exec_draftRevert ..) (State.write_refused hg)
  case commitReq => cases ha; exact refuses_of (exec_commitReq ..) (State.write_refused hg)
  case lodeStateWrite => cases ha; exact refuses_of (exec_lodeStateWrite ..) (State.write_refused hg)
  case groupTypeWrite => cases ha; exact refuses_of (exec_groupTypeWrite ..) (State.write_refused hg)
  case lineCtxWrite => cases ha; exact refuses_of (exec_lineCtxWrite ..) (State.write_refused hg)
  case latenessWrite => cases ha; exact refuses_of (exec_latenessWrite ..) (State.write_refused hg)
  case marginWrite => cases ha; exact refuses_of (exec_marginWrite ..) (State.write_refused hg)
  case protRoleWrite => cases ha; exact refuses_of (exec_protRoleWrite ..) (State.write_refused hg)
  case prefSet => cases ha; exact refuses_of (exec_prefSet ..) (State.write_refused hg)
  case portFaultClear => cases ha; exact refuses_of (exec_portFaultClear ..) (State.write_refused hg)
  case ledgerCutReq => cases ha; exact refuses_of (exec_ledgerCutReq ..) (State.write_refused hg)
  case rxSegmentWrite => cases ha; exact refuses_of (exec_rxSegmentWrite ..) (State.writeBytes_refused hg)
  case rxSealWrite => cases ha; exact refuses_of (exec_rxSealWrite ..) (State.writeBytes_refused hg)
  case journalRxWrite => cases ha; exact refuses_of (exec_journalRxWrite ..) (State.writeBytes_refused hg)
  case promote => cases ha; exact refuses_of (exec_promote ..) (State.write_refused hg)
  case refEnableWrite => cases ha; exact refuses_of (exec_refEnableWrite ..) (State.write_refused hg)
  case phaseStepWrite => cases ha; exact refuses_of (exec_phaseStepWrite ..) (State.write_refused hg)
  case frameOffsetWrite => cases ha; exact refuses_of (exec_frameOffsetWrite ..) (State.write_refused hg)
  case retime => cases ha; exact refuses_of (exec_retime ..) (State.write_refused hg)
  case alignReq => cases ha; exact refuses_of (exec_alignReq ..) (State.write_refused hg)
  case ptpOffsetWrite => cases ha; exact refuses_of (exec_ptpOffsetWrite ..) (State.write_refused hg)
  case timeSet => cases ha; exact refuses_of (exec_timeSet ..) (State.write_refused hg)
  case timeStep => cases ha; exact refuses_of (exec_timeStep ..) (State.write_refused hg)
  case timeCapture => cases ha; exact refuses_of (exec_timeCapture ..) (State.write_refused hg)
  case servoSrcWrite => cases ha; exact refuses_of (exec_servoSrcWrite ..) (State.write_refused hg)
  case launch => cases ha; exact refuses_of (exec_launch ..) (State.writeBytes_refused hg)
  case launchFlush => cases ha; exact refuses_of (exec_launchFlush ..) (State.write_refused hg)
  case bankOwnerWrite => cases ha; exact refuses_of (exec_bankOwnerWrite ..) (State.write_refused hg)
  case ddrLsEnWrite => cases ha; exact refuses_of (exec_ddrLsEnWrite ..) (State.write_refused hg)
  case ddrRegionSizeWrite => cases ha; exact refuses_of (exec_ddrRegionSizeWrite ..) (State.write_refused hg)
  case ddrRetrain => cases ha; exact refuses_of (exec_ddrRetrain ..) (State.write_refused hg)
  case masterReset => cases ha; exact refuses_of (exec_masterReset ..) (State.write_refused hg)
  case remapWrite => cases ha; exact refuses_of (exec_remapWrite ..) (State.write_refused hg)
  case secKeyWrite => cases ha; exact refuses_of (exec_secKeyWrite ..) (State.writeBytes_refused hg)
  case tokenTake => cases ha; exact refuses_of (exec_tokenTake ..) (State.write_refused hg)
  case tokenRelease => cases ha; exact refuses_of (exec_tokenRelease ..) (State.write_refused hg)
  case testReq => cases ha; exact refuses_of (exec_testReq ..) (State.write_refused hg)
  case eventClear => cases ha; exact refuses_of (exec_eventClear ..) (State.write_refused hg)
  case eventMaskWrite => cases ha; exact refuses_of (exec_eventMaskWrite ..) (State.write_refused hg)
  case tallyPreset => cases ha; exact refuses_of (exec_tallyPreset ..) (State.write_refused hg)
  case tagKWrite => cases ha; exact refuses_of (exec_tagKWrite ..) (State.write_refused hg)
  case tagSeedWrite => cases ha; exact refuses_of (exec_tagSeedWrite ..) (State.write_refused hg)
  case traceStartWrap => cases ha; exact refuses_of (exec_traceStartWrap ..) (State.write_refused hg)
  case traceStartStop => cases ha; exact refuses_of (exec_traceStartStop ..) (State.write_refused hg)
  case traceEnd => cases ha; exact refuses_of (exec_traceEnd ..) (State.write_refused hg)
  case modeReqStage => cases ha; exact refuses_of (exec_modeReqStage ..) (State.write_refused hg)
  case modeReqRestore => cases ha; exact refuses_of (exec_modeReqRestore ..) (State.write_refused hg)
  case modeReqService => cases ha; exact refuses_of (exec_modeReqService ..) (State.write_refused hg)
  case modeReqIsolate => cases ha; exact refuses_of (exec_modeReqIsolate ..) (State.write_refused hg)
  case modeReqQuarantine => cases ha; exact refuses_of (exec_modeReqQuarantine ..) (State.write_refused hg)
  case modeReqDormant => cases ha; exact refuses_of (exec_modeReqDormant ..) (State.write_refused hg)
  case sysReset => cases ha; exact refuses_of (exec_sysReset ..) (State.write_refused hg)
  case fwStageBegin => cases ha; exact refuses_of (exec_fwStageBegin ..) (State.write_refused hg)
  case fwStageSegment => cases ha; exact refuses_of (exec_fwStageSegment ..) (State.writeBytes_refused hg)
  case fwActivate => cases ha; exact refuses_of (exec_fwActivate ..) (State.write_refused hg)
  case fwConfirm => cases ha; exact refuses_of (exec_fwConfirm ..) (State.write_refused hg)
  case revokeKey0 => cases ha; exact refuses_of (exec_revokeKey0 ..) (State.write_refused hg)
  case svnCommit => cases ha; exact refuses_of (exec_svnCommit ..) (State.write_refused hg)
  case attestNonce => cases ha; exact refuses_of (exec_attestNonce ..) (State.writeBytes_refused hg)
  all_goals cases ha

/-! ### A refused commit -/

theorem commitReqOp_refused {s : State} {h : Nat} (hmode : s.sys.mode ≠ .restore)
    (hcheck : s.commitCheck h (s.reg O.mapCommitMode) ≠ 0) :
    commitReqOp h s = (s.setReg O.mapResult 0 (s.commitCheck h (s.reg O.mapCommitMode)),
      s.commitCheck h (s.reg O.mapCommitMode)) := by
  simp [commitReqOp, State.commitRequest, hmode, hcheck]

/-- Settles O35: the request stops at its check, which reads the state and writes nothing. -/
theorem commitRefused : Obligations.CommitRefused := by
  intro s w ⟨hgate, hval, hrom⟩ hmode hcheck
  have hop := commitReqOp_refused (s := s.fresh) hmode hcheck
  refine runs_of_run (exec_commitReq s w) ?_
  simp only [State.writeCommitReq]
  rw [State.write_op s.fresh hgate hval hrom (by rw [hop]; exact hcheck), hop]
  refine ⟨rfl, ?_, by simp, fun i e _ hi => ?_⟩
  · rw [State.reg_withQueue_all, State.refuse_reg _ (by decide), State.reg_setReg_self]
    rfl
  · simp only [List.mem_cons, List.not_mem_nil, or_false, not_or] at hi
    rw [State.reg_withQueue_all, State.refuse_reg _ hi.2, State.reg_setReg_obj _ hi.1, State.reg_fresh_all]

/-! ### Logs that a read returns and clears -/

/-- A log whose read takes its entries out of the state, and writes nothing else that a register shows, reads as
`LogRead` says. -/
theorem logRead_of {c : Instr} {s : State} {w : Who} {idx size width first n : Nat} {log : State → List Nat}
    {f : State → State} {put : State → List Nat → State} (hc : exec c s = s.run f)
    (hf : logGate s w idx size first n = 0 → f s.fresh =
      ((put s.fresh (logTake (log s) width first n).2).give (logTake (log s) width first n).1).answer 0)
    (hput : ∀ a l, log (put a l) = l) (hlog : ∀ a d q, log (((State.give a d).answer 0).withQueue q) = log a)
    (hreg : ∀ a l i e, (put a l).reg i e = a.reg i e) : LogRead c s w idx size width first n log := by
  intro hgate
  refine runs_of_run hc ?_
  rw [hf hgate]
  refine ⟨rfl, ?_, rfl, fun i e _ _ _ => ?_⟩
  · rw [hlog, hput, logTake]
  · simp [hreg]

/-- Settles O26: the five logs are read by one rule. -/
theorem logReads : Obligations.LogReads :=
  ⟨fun s w i n => logRead_of (put := fun a l => { a with mem := { a.mem with ecc := l } }) (exec_eccLogRead s w i n)
      (fun h => if_neg (not_not.mpr h)) (fun _ _ => rfl) (fun _ _ _ => rfl) fun _ _ _ _ => rfl,
    fun s w i n => logRead_of (put := fun a l => { a with mtx := { a.mtx with errs := l } }) (exec_errLogRead s w i n)
      (fun h => if_neg (not_not.mpr h)) (fun _ _ => rfl) (fun _ _ _ => rfl) fun _ _ _ _ => rfl,
    fun s w i n => logRead_of (put := fun a l => { a with asy := { a.asy with log := l } }) (exec_assayLogRead s w i n)
      (fun h => if_neg (not_not.mpr h)) (fun _ _ => rfl) (fun _ _ _ => rfl) fun _ _ _ _ => rfl,
    fun s w i n => logRead_of (put := fun a l => { a with tal := { a.tal with samples := l } })
      (exec_samplesRead s w i n) (fun h => if_neg (not_not.mpr h)) (fun _ _ => rfl) (fun _ _ _ => rfl)
      fun _ _ _ _ => rfl,
    fun s w i n => logRead_of (put := fun a l => { a with tim := { a.tim with done := l } })
      (exec_launchDoneRead s w i n) (fun h => if_neg (not_not.mpr h)) (fun _ _ => rfl) (fun _ _ _ => rfl)
      fun _ _ _ _ => rfl⟩

end Sys2Proof.Machine

/-! What stays latched, and what leaves the elements of the dictionary alone: rules that the statements on the link and
on the modes go by. -/

namespace Sys2Proof.Machine

/-- What holds before a loop over the first `n` numbers, and goes from each to the next, holds after it. -/
theorem foldRange_induction {α : Type} (P : Nat → α → Prop) {n : Nat} {f : α → Nat → α} {a : α} (h0 : P 0 a)
    (hs : ∀ i b, i < n → P i b → P (i + 1) (f b i)) : P n (foldRange n f a) := by
  induction n with
  | zero => exact h0
  | succ n ih =>
    rw [foldRange_succ]
    exact hs n _ n.lt_succ_self (ih fun i b hi => hs i b (by omega))

/-! ### Latches that stand (R429)

A latch falls by a write to EVENT.CLEAR alone: each operation keeps what was latched before it. -/

theorem State.sys_of_see {s t : State} (h : t.see (.part .sys) = s.see (.part .sys)) : t.sys = s.sys := h

theorem State.latched_see {s t : State} (h : t.see (.reg O.eventLatch 0) = s.see (.reg O.eventLatch 0)) (ev : Nat) :
    t.latched ev = s.latched ev := State.latched_congr h

section
variable {s : State} {ev : Nat}

@[simp] theorem State.latched_fresh : s.fresh.latched ev = s.latched ev := rfl
@[simp] theorem State.latched_withQueue (q : List Instr) : (s.withQueue q).latched ev = s.latched ev := rfl
@[simp] theorem State.latched_answer (c : Nat) : (s.answer c).latched ev = s.latched ev := rfl
@[simp] theorem State.latched_setLink (p : Nat) (l : LinkP) : (s.setLink p l).latched ev = s.latched ev := rfl
@[simp] theorem State.latched_setLinkQ (p : Nat) (l : LinkQ) : (s.setLinkQ p l).latched ev = s.latched ev := rfl
@[simp] theorem State.latched_setRx (a : Nat) (g : RxG) : (s.setRx a g).latched ev = s.latched ev := rfl
@[simp] theorem State.latched_setStream (k : Nat) (x : WStr) : (s.setStream k x).latched ev = s.latched ev := rfl
@[simp] theorem State.latched_setReg {i e v : Nat} (h : i ≠ O.eventLatch) :
    (s.setReg i e v).latched ev = s.latched ev := State.latched_see (State.setReg_see s i e v (by simp [h.symm])) ev
@[simp] theorem State.latched_bump {i e w n : Nat} (h : i ≠ O.eventLatch) :
    (s.bump i e w n).latched ev = s.latched ev := State.latched_setReg h
@[simp] theorem State.latched_setOct {i e n k : Nat} {b : Bool} (h : i ≠ O.eventLatch) :
    (s.setOct i e n k b).latched ev = s.latched ev := State.latched_setReg h
@[simp] theorem State.latched_tally (i n : Nat) : (s.tally i n).latched ev = s.latched ev :=
  State.latched_see (State.tally_see s i n (by simp)) ev
@[simp] theorem State.latched_negDrop (p : Nat) : (s.negDrop p).latched ev = s.latched ev :=
  State.latched_see (State.negDrop_see s p (by simp)) ev
@[simp] theorem State.latched_setVer (p r t : Nat) : (s.setVer p r t).latched ev = s.latched ev :=
  State.latched_see (State.setVer_see s p r t (by simp)) ev

theorem State.latched_withProt (x : ProtS) : ({ s with prot := x } : State).latched ev = s.latched ev := rfl

theorem State.latched_withLed (x : LedS) : ({ s with led := x } : State).latched ev = s.latched ev := rfl

/-- An event that can be raised stands latched. -/
theorem State.latched_raise_self (h : 480 ≤ ev ∨ s.sys.fabOn = true) : (s.raise ev).latched ev = true :=
  State.raise_latched s ev h

end

section
variable {s : State} {ev : Nat} (h : s.latched ev = true)
include h

theorem State.latched_raise (ev' : Nat) : (s.raise ev').latched ev = true := State.raise_keeps h

theorem State.latched_grainChanged (a : Nat) : (s.grainChanged a).latched ev = true := by
  simp only [State.grainChanged]
  exact State.latched_raise (by rwa [State.latched_setOct (by decide)]) _

theorem State.latched_rxState (a st : Nat) : (s.rxState a st).latched ev = true := by
  have h' : (s.setReg O.grainRxState a st).latched ev = true := (State.latched_setReg (by decide)).trans h
  simp only [State.rxState]
  split
  · exact State.latched_grainChanged h' a
  · exact h'

theorem State.latched_rxRestart (m : Nat) : (s.rxRestart m).latched ev = true :=
  foldRange_keeps (fun t : State => t.latched ev = true) _ _ _ h fun a _ ha =>
    State.latched_rxState (s := a.setRx _ .init) ha _ _

theorem State.latched_portAis (p : Nat) : (s.portAis p).latched ev = true :=
  foldRange_keeps (fun t : State => t.latched ev = true) _ _ _ h fun _ _ ha => State.latched_rxRestart ha _

theorem State.latched_setUnwatched (b : Bool) : (s.setUnwatched b).latched ev = true := by
  simp only [State.setUnwatched]
  split
  · exact h
  · rw [State.latched_withProt]
    exact State.latched_raise (by rwa [State.latched_setReg (by decide)]) _

theorem State.latched_refreshWatch : s.refreshWatch.latched ev = true := by
  simp only [State.refreshWatch]
  split_ifs
  exacts [State.latched_setUnwatched h _, h, State.latched_setUnwatched h _]

theorem State.latched_setStreamState (st v : Nat) : (s.setStreamState st v).latched ev = true := by
  simp only [State.setStreamState]
  split
  · exact h
  · exact State.latched_refreshWatch (State.latched_raise ((State.latched_setReg (by decide)).trans h) _)

theorem State.latched_blockLoss (st : Nat) : (s.blockLoss st).latched ev = true :=
  State.latched_setStreamState (s := s.setStream _ _) h _ _

theorem State.latched_streamOff (p : Nat) : (s.streamOff p).latched ev = true := by
  simp only [State.streamOff]
  split
  · split_ifs
    exacts [h, State.latched_blockLoss h _]
  · exact h

theorem State.latched_untie : s.untie.latched ev = true := by
  simp only [State.untie]
  split
  · exact h
  · have h' := State.latched_raise ((State.latched_setReg (i := O.refTied) (e := 0) (v := 0) (by decide)).trans h) 423
    exact (State.latched_setReg (i := O.timeGridResidual) (e := 0) (v := 0) (by decide)).trans h'

theorem State.latched_tieFails : s.tieFails.latched ev = true := by
  simp only [State.tieFails]
  split
  exacts [h, State.latched_untie h]

theorem State.latched_launchEnd (l : LaunchR) (status stamp : Nat) : (s.launchEnd l status stamp).latched ev = true := by
  have h' (tim : TimS) : (({ s with tim := tim }).tally 91 1).latched ev = true := (State.latched_tally _ _).trans h
  simp only [State.launchEnd]
  split
  exacts [h' _, State.latched_raise (h' _) _]

theorem State.latched_dropQueue (i : Nat) : (s.dropQueue i).latched ev = true :=
  foldRange_keeps (fun t : State => t.latched ev = true) _ _ _ h fun _ _ ha =>
    State.latched_raise ((State.latched_bump (by decide)).trans ha) _

theorem State.latched_dropLaunches (i : Nat) : (s.dropLaunches i).latched ev = true :=
  foldl_keeps (fun t : State => t.latched ev = true) _ _ _ h fun _ _ ha => State.latched_launchEnd ha _ _ _

theorem State.latched_ifaceDown (p : Nat) : (s.ifaceDown p).latched ev = true :=
  State.latched_dropLaunches (State.latched_dropQueue h p) p

/-- A port's traffic and streams stop. -/
theorem State.latched_portDown (p : Nat) : (((s.portAis p).ifaceDown p).streamOff p).latched ev = true :=
  State.latched_streamOff (State.latched_ifaceDown (State.latched_portAis h p) p) p

theorem State.latched_unalign (p st : Nat) (loss : Bool) : (s.unalign p st loss).latched ev = true := by
  have h' (l : LinkP) : ((s.setReg O.portAlignState p st).setLink p l).latched ev = true := by
    rwa [State.latched_setLink, State.latched_setReg (by decide)]
  simp only [State.unalign]
  split
  · rw [State.latched_negDrop]
    exact State.latched_raise (State.latched_portDown (h' _) p) _
  · exact State.latched_portDown (h' _) p

theorem State.latched_rxSwitch (p v : Nat) : (s.rxSwitch p v).latched ev = true := by
  simp only [State.rxSwitch]
  split
  · exact h
  · refine State.latched_tieFails (State.latched_unalign ?_ p 0 false)
    rwa [State.latched_setVer, State.latched_setLink]

theorem State.latched_rxResetDue (p : Nat) : (s.rxResetDue p).latched ev = true := by
  simp only [State.rxResetDue]
  split
  exacts [State.latched_rxSwitch h p 1, h]

theorem State.latched_journal (k f : Nat) (items : List Byte) : (s.journal k f items).latched ev = true := by
  have h' (v : Nat) : (s.setReg O.ledgerJournalSeq 0 v).latched ev = true := by rwa [State.latched_setReg (by decide)]
  simp only [State.journal]
  split_ifs
  · exact h' _
  · rw [State.latched_withLed]
    refine State.latched_raise ?_ _
    rw [State.latched_withLed]
    exact h' _
  · exact h' _

/-- The journal entry of an accepted write keeps what is latched. -/
theorem State.latched_record (idx e v : Nat) : (s.record idx e v).latched ev = true := by
  simp only [State.record]
  split
  · split_ifs
    exacts [State.latched_journal h _ _ _, h]
  · exact h

end

/-! ### What the end of an accepted write leaves alone -/

section
variable (s : State) (idx e v : Nat) (q : List Instr)

theorem State.reg_write {i f : Nat} (h : evObj i = false) (hj : i ≠ O.ledgerJournalSeq) :
    (((s.record idx e v).answer 0).withQueue q).reg i f = s.reg i f := s.record_reg h hj

theorem State.see_write {z : View} (h : z.place ∉ [.obj O.eventCount, .obj O.eventLastTime, .obj O.eventLatch,
    .obj O.hdpStats, .obj O.ledgerJournalSeq]) :
    (((s.record idx e v).answer 0).withQueue q).see z = s.see z := by
  rw [State.withQueue_see, State.answer_see, State.record_see _ _ _ _ h]

end

/-! ### Elements that stand -/

section
variable {l : List (Nat × Nat)} {s t : State}

theorem OnlyElems.refl (l : List (Nat × Nat)) (s : State) : OnlyElems l s s := fun _ _ _ _ _ => rfl

theorem OnlyElems.trans {u : State} (h : OnlyElems l s t) (h' : OnlyElems l t u) : OnlyElems l s u :=
  fun i e he hev hne => (h' i e he hev hne).trans (h i e he hev hne)

/-- An update that writes no register changes no element. -/
theorem OnlyElems.of_regs {u : State} (h : OnlyElems l s t) (hu : u.regs = t.regs) : OnlyElems l s u :=
  fun i e he hev hne => (State.reg_congr hu i e).trans (h i e he hev hne)

/-- A command keeps of the elements what its operation keeps. -/
theorem OnlyElems.run (h : OnlyElems l s.fresh t) (q : List Instr) : OnlyElems l s (t.withQueue q) := h

theorem OnlyElems.setReg {i e : Nat} (h : OnlyElems l s t) (v : Nat) (he : e < 2 ^ 24) (hm : (i, e) ∈ l) :
    OnlyElems l s (t.setReg i e v) := fun j f hf hev hne =>
  (State.reg_setReg_ne t he hf fun c => hne (c ▸ hm)).trans (h j f hf hev hne)

theorem OnlyElems.bump {i e : Nat} (h : OnlyElems l s t) (w n : Nat) (he : e < 2 ^ 24) (hm : (i, e) ∈ l) :
    OnlyElems l s (t.bump i e w n) := h.setReg _ he hm

theorem OnlyElems.journal (h : OnlyElems l s t) (k f : Nat) (items : List Byte) (hm : (O.ledgerJournalSeq, 0) ∈ l) :
    OnlyElems l s (t.journal k f items) := by
  intro i e he hev hne
  have h' (v : Nat) : (t.setReg O.ledgerJournalSeq 0 v).reg i e = s.reg i e :=
    h.setReg v (by decide) hm i e he hev hne
  have hled (u : State) (x : LedS) : ({ u with led := x } : State).reg i e = u.reg i e := rfl
  simp only [State.journal]
  split_ifs
  · exact h' _
  · rw [hled, State.raise_reg _ hev, hled]
    exact h' _
  · exact h' _

/-- The journal entry of an accepted write changes the count of entries alone. -/
theorem OnlyElems.record (h : OnlyElems l s t) (idx el v : Nat) (hm : (O.ledgerJournalSeq, 0) ∈ l) :
    OnlyElems l s (t.record idx el v) := by
  simp only [State.record]
  split
  · split_ifs
    exacts [h.journal _ _ _ hm, h]
  · exact h

theorem OnlyElems.raise (h : OnlyElems l s t) (ev : Nat) : OnlyElems l s (t.raise ev) :=
  fun i e he hev hne => (State.raise_reg t hev).trans (h i e he hev hne)

end

end Sys2Proof.Machine

/-! Flint (Table 2-11): what each of its operations does in the cases that O1 speaks of. -/

namespace Sys2Proof.Machine

theorem elem_of_port {p : Nat} (hp : p < 96) : p < 2 ^ 24 := hp.trans (by decide)

section
variable {s : State} {p : Nat}

theorem State.fabOn_of_running (h : s.running p = true) : s.sys.fabOn = true := by
  simp only [State.running, Bool.and_eq_true] at h
  exact h.1.1

theorem State.running_of_hunting (h : s.hunting p = true) : s.running p = true := by
  simp only [State.hunting, Bool.and_eq_true] at h
  exact h.1.1

theorem State.cdrLock_of_down (hrun : s.running p = true) (hready : s.islandReady p = true)
    (hdown : s.reg O.portAlignState p = 0) : ∃ q, s.cdrLock p =
      ((s.setLinkQ p q).setReg O.portAlignState p 1).setLink p { s.linkP p with cands := [] } := by
  simp only [State.cdrLock, hrun, hready, hdown, BEq.rfl, Bool.and_self, if_true]
  exact ⟨_, rfl⟩

theorem State.fawMatch_opens {c : Nat} {x : Lane} (hhunt : s.hunting p = true) (hfaw : fawDiff (s.fawAt p [x] c) ≤ 3)
    (hnew : ∀ y ∈ (s.linkP p).cands, y.pos ≠ c) (hroom : (s.linkP p).cands.length < 16) :
    s.fawMatch p c x = s.setLink p { s.linkP p with cands := (s.linkP p).cands ++ [⟨c, false⟩] } := by
  have hany : ((s.linkP p).cands.any fun y => y.pos == c) = false := by simpa using hnew
  simp [State.fawMatch, hhunt, hany, Nat.not_lt.mpr hfaw, Nat.not_le.mpr hroom]

theorem State.fawMatch_drops {c : Nat} {x : Lane} (hhunt : s.hunting p = true) (hfaw : fawDiff (s.fawAt p [x] c) ≤ 3)
    (hnew : ∀ y ∈ (s.linkP p).cands, y.pos ≠ c) (hfull : 16 ≤ (s.linkP p).cands.length) :
    s.fawMatch p c x = s.bump O.portFlintDrop p 32 := by
  have hany : ((s.linkP p).cands.any fun y => y.pos == c) = false := by simpa using hnew
  simp [State.fawMatch, hhunt, hany, Nat.not_lt.mpr hfaw, hfull]

/-- A candidate that waits for its row-1 check stands. -/
theorem any_unpassed {l : List Cand} {c : Nat} (h : ∃ x ∈ l, x.pos = c ∧ x.passed = false) :
    (l.any fun x => x.pos == c && !x.passed) = true := by
  simpa using h

theorem any_passed {l : List Cand} {c : Nat} (h : ∃ x ∈ l, x.pos = c ∧ x.passed = true) :
    (l.any fun x => x.pos == c && x.passed) = true := by
  simpa using h

/-- Candidate `c` of a list has passed its row-1 check. -/
def passCand (c : Nat) (l : List Cand) : List Cand := l.map fun x => if x.pos = c then { x with passed := true } else x

theorem passed_of_mem_passCand {c : Nat} {l : List Cand} {x : Cand} (h : x ∈ passCand c l) (hx : x.pos = c) :
    x.passed = true := by
  obtain ⟨y, _, rfl⟩ := List.mem_map.mp h
  by_cases hy : y.pos = c
  · rw [if_pos hy]
  · rw [if_neg hy] at hx
    exact absurd hx hy

theorem State.row1Check_passes {c : Nat} {ls : List Lane} (hhunt : s.hunting p = true)
    (hcand : ∃ x ∈ (s.linkP p).cands, x.pos = c ∧ x.passed = false) (hrow : s.row1Diff p c ls ≤ 3) :
    s.row1Check p c ls = if s.unaligned p then
        (s.setLink p { s.linkP p with cands := passCand c (s.linkP p).cands }).setReg O.portAlignState p 2
      else s.setLink p { s.linkP p with cands := passCand c (s.linkP p).cands } := by
  simp only [State.row1Check, hhunt, any_unpassed hcand, hrow, Bool.not_true, Bool.or_self, Bool.false_eq_true, if_false,
    if_true]
  rfl

theorem State.row1Check_rejects {c : Nat} {ls : List Lane} (hhunt : s.hunting p = true)
    (hcand : ∃ x ∈ (s.linkP p).cands, x.pos = c ∧ x.passed = false) (hrow : 3 < s.row1Diff p c ls) :
    s.row1Check p c ls = s.rejectCand p c := by
  simp [State.row1Check, hhunt, any_unpassed hcand, Nat.not_le.mpr hrow]

theorem State.fawConfirm_adopts {c : Nat} {x : Lane} (hhunt : s.hunting p = true) (hout : s.unaligned p = true)
    (hcand : ∃ y ∈ (s.linkP p).cands, y.pos = c ∧ y.passed = true)
    (hfaw : fawDiff (s.fawAt p [x] (c + frameBits (s.rxVer p))) ≤ 3) :
    s.fawConfirm p c x = s.sync p (c + frameBits (s.rxVer p)) := by
  simp [State.fawConfirm, hhunt, any_passed hcand, hfaw, hout]

/-! ### What becomes of the link state of a port -/

theorem State.linkP_see {t : State} (h : t.see (.part .link) = s.see (.part .link)) (p : Nat) :
    t.linkP p = s.linkP p := by
  have hl : t.link = s.link := h
  simp [State.linkP, hl]

theorem State.sync_linkP (at_ : Nat) : (s.sync p at_).linkP p =
    { (s.linkP p).forget with cands := [], outFrames := 0, pos := at_ } := by
  simp only [State.sync]
  rw [State.linkP_see (State.raise_see _ _ (by simp)), State.linkP_see (State.portAis_see _ _ (by simp))]
  simp

theorem State.sync_alignState (at_ : Nat) : (s.sync p at_).reg O.portAlignState p = 3 := by
  simp only [State.sync]
  rw [State.raise_reg _ (by decide), reg_see, State.portAis_see _ _ (by simp), ← reg_see]
  simp [State.reg_congr (State.setLink_regs _ _ _)]

theorem State.sys_see (t : State) : t.sys = t.see (.part .sys) := rfl

theorem State.sync_latched (hfab : s.sys.fabOn = true) (at_ : Nat) : (s.sync p at_).latched (4 * p) = true := by
  simp only [State.sync]
  refine State.latched_raise_self (Or.inr ?_)
  rw [State.sys_see, State.portAis_see _ _ (by simp)]
  exact hfab

theorem State.setLink_reg (l : LinkP) (i e : Nat) : (s.setLink p l).reg i e = s.reg i e := rfl

theorem State.negDrop_cands : ((s.negDrop p).linkP p).cands = (s.linkP p).cands := by
  simp only [State.negDrop]
  split <;> simp

/-- The end of alignment leaves the state named and, in DOWN, no candidate. -/
theorem State.unalign_alignState (st : Nat) (loss : Bool) : (s.unalign p st loss).reg O.portAlignState p = st := by
  have h (l : LinkP) : ((((((s.setReg O.portAlignState p st).setLink p l).portAis p).ifaceDown p).streamOff p)).reg
      O.portAlignState p = st := by
    rw [reg_see, State.streamOff_see _ _ (by simp), State.ifaceDown_see _ _ (by simp),
      State.portAis_see _ _ (by simp), ← reg_see, State.setLink_reg, State.reg_setReg_self]
  simp only [State.unalign]
  split
  · rw [reg_see, State.negDrop_see _ _ (by simp), ← reg_see, State.raise_reg _ (by decide)]
    exact h _
  · exact h _

theorem State.unalign_cands (loss : Bool) : ((s.unalign p 0 loss).linkP p).cands = [] := by
  have h : ((((((s.setReg O.portAlignState p 0).setLink p { s.linkP p with cands := [], lastRx := false }).portAis
      p).ifaceDown p).streamOff p).linkP p).cands = [] := by
    rw [State.linkP_see (State.streamOff_see _ _ (by simp)), State.linkP_see (State.ifaceDown_see _ _ (by simp)),
      State.linkP_see (State.portAis_see _ _ (by simp)), State.linkP_setLink_self]
  simp only [State.unalign]
  split
  · rw [State.negDrop_cands, State.linkP_see (State.raise_see _ _ (by simp))]
    exact h
  · exact h

/-- A receiver that takes a version stays in DOWN, or goes there. -/
theorem State.rxSwitch_down {v : Nat} (hst : s.reg O.portAlignState p = 0) (hcands : (s.linkP p).cands = []) :
    (s.rxSwitch p v).reg O.portAlignState p = 0 ∧ ((s.rxSwitch p v).linkP p).cands = [] := by
  simp only [State.rxSwitch]
  split
  · exact ⟨hst, by simpa using hcands⟩
  · rw [reg_see, State.tieFails_see _ (by simp), ← reg_see, State.linkP_see (State.tieFails_see _ (by simp))]
    exact ⟨State.unalign_alignState _ _, State.unalign_cands _⟩

theorem State.rxResetDue_down (hst : s.reg O.portAlignState p = 0) (hcands : (s.linkP p).cands = []) :
    (s.rxResetDue p).reg O.portAlignState p = 0 ∧ ((s.rxResetDue p).linkP p).cands = [] := by
  simp only [State.rxResetDue]
  split
  · exact State.rxSwitch_down hst hcands
  · exact ⟨hst, hcands⟩

theorem State.portDown_sys (t : State) (p : Nat) : ((((t.portAis p).ifaceDown p).streamOff p)).sys = t.sys := by
  rw [State.sys_see, State.streamOff_see _ _ (by simp), State.ifaceDown_see _ _ (by simp),
    State.portAis_see _ _ (by simp)]
  rfl

theorem State.unalign_latched (hfab : s.sys.fabOn = true) (st : Nat) :
    (s.unalign p st true).latched (4 * p) = true := by
  simp only [State.unalign, if_true]
  rw [State.latched_negDrop]
  exact State.latched_raise_self (Or.inr (by rw [State.portDown_sys]; exact hfab))

theorem State.signalLoss_of_running (hrun : s.running p = true) (hst : s.reg O.portAlignState p ≠ 0) :
    s.signalLoss p = (s.unalign p 0 (s.aligned p)).rxResetDue p := by
  simp [State.signalLoss, hrun, hst]

/-- The rejection of a candidate. -/
theorem State.rejectCand_linkP {c : Nat} : ((s.rejectCand p c).linkP p).cands =
    (s.linkP p).cands.filter fun x => x.pos != c := by
  simp only [State.rejectCand]
  split <;> simp

theorem State.rejectCand_count {c : Nat} : (s.rejectCand p c).reg O.portFlintReject p =
    (s.reg O.portFlintReject p + 1) % 2 ^ 32 := by
  have h (l : LinkP) : ((s.setLink p l).bump O.portFlintReject p 32).reg O.portFlintReject p =
      (s.reg O.portFlintReject p + 1) % 2 ^ 32 := State.reg_bump_self _ _ _ _ _
  simp only [State.rejectCand]
  split
  · exact h _
  · rw [State.reg_setReg_obj _ (by decide)]
    exact h _

theorem State.rejectCand_hunts {c : Nat} (hout : s.unaligned p = true)
    (hnone : ∀ x ∈ (s.linkP p).cands, x.pos ≠ c → x.passed = false) :
    (s.rejectCand p c).reg O.portAlignState p = 1 := by
  have hany : (((s.linkP p).cands.filter fun x => x.pos != c).any Cand.passed) = false := by
    simpa using hnone
  have hout' (l : LinkP) : ((s.setLink p l).bump O.portFlintReject p 32).unaligned p = true := by
    rw [← hout]
    simp only [State.unaligned]
    rw [State.reg_bump_obj _ (by decide)]
    rfl
  simp only [State.rejectCand, hany, hout', Bool.not_true, Bool.or_self, Bool.false_eq_true, if_false,
    State.reg_setReg_self]

theorem State.rejectCand_onlyElems (hp : p < 96) {c : Nat} :
    OnlyElems [(O.portAlignState, p), (O.portFlintReject, p)] s (s.rejectCand p c) := by
  have h (l : LinkP) : OnlyElems [(O.portAlignState, p), (O.portFlintReject, p)] s
      ((s.setLink p l).bump O.portFlintReject p 32) :=
    OnlyElems.bump (OnlyElems.of_regs (OnlyElems.refl _ s) rfl) _ _ (elem_of_port hp) (by simp)
  simp only [State.rejectCand]
  split
  · exact h _
  · exact (h _).setReg _ (elem_of_port hp) (by simp)

end

/-! ### The search -/

/-- Settles O1: each clause is one case of the command's operation, named above. -/
theorem flintSearch : Obligations.FlintSearch := by
  refine ⟨?_, ?_, ?_, ?_, ?_, ?_, ?_⟩
  · intro s p hp hrun hready hdown
    obtain ⟨q, hq⟩ := State.cdrLock_of_down (s := s.fresh) hrun hready hdown
    refine runs_of_runIn (exec_cdrLock s p) hp ?_
    rw [hq]
    refine ⟨by simp, by simp, OnlyElems.run ?_ _⟩
    have h : OnlyElems [(O.portAlignState, p)] s.fresh (s.fresh.setLinkQ p q) := (OnlyElems.refl _ _).of_regs rfl
    exact (h.setReg 1 (elem_of_port hp) (by simp)).of_regs rfl
  · intro s p c x hp hhunt hfaw hnew hroom
    refine runs_of_runIn (exec_fawMatch s p c x) hp ?_
    rw [State.fawMatch_opens (s := s.fresh) hhunt hfaw hnew hroom]
    exact ⟨by simp, OnlyElems.run ((OnlyElems.refl _ _).of_regs rfl) s.pending⟩
  · intro s p c x hp hhunt hfaw hnew hfull
    refine runs_of_runIn (exec_fawMatch s p c x) hp ?_
    rw [State.fawMatch_drops (s := s.fresh) hhunt hfaw hnew hfull]
    exact ⟨rfl, by simp, OnlyElems.run ((OnlyElems.refl _ _).bump 32 1 (elem_of_port hp) (by simp)) _⟩
  · intro s p c a r hp hhunt hcand hrow
    refine runs_of_runIn (exec_row1Check s p c a r) hp ?_
    rw [State.row1Check_passes (s := s.fresh) hhunt hcand hrow]
    have hu : s.fresh.unaligned p = s.unaligned p := rfl
    have hl (l : LinkP) : OnlyElems [(O.portAlignState, p)] s.fresh (s.fresh.setLink p l) :=
      (OnlyElems.refl _ _).of_regs rfl
    rw [hu]
    split
    · refine ⟨by simp, fun x hx hc => passed_of_mem_passCand (by simpa using hx) hc, ?_⟩
      exact OnlyElems.run ((hl _).setReg 2 (elem_of_port hp) (by simp)) _
    · exact ⟨rfl, fun x hx hc => passed_of_mem_passCand (by simpa using hx) hc, OnlyElems.run (hl _) _⟩
  · intro s p c a r hp hhunt hcand hrow
    refine runs_of_runIn (exec_row1Check s p c a r) hp ?_
    rw [State.row1Check_rejects (s := s.fresh) hhunt hcand hrow]
    refine ⟨fun x => ?_, State.rejectCand_count, State.rejectCand_hunts (s := s.fresh),
      OnlyElems.run (State.rejectCand_onlyElems hp) _⟩
    rw [State.linkP_withQueue, State.rejectCand_linkP]
    simp
  · intro s p c x hp hhunt hout hcand hfaw
    refine runs_of_runIn (exec_fawConfirm s p c x) hp ?_
    rw [State.fawConfirm_adopts (s := s.fresh) hhunt hout hcand hfaw]
    rw [State.linkP_withQueue, State.sync_linkP]
    refine ⟨State.sync_alignState _, rfl, rfl, ?_⟩
    rw [State.latched_withQueue]
    exact State.sync_latched (s := s.fresh) (State.fabOn_of_running (State.running_of_hunting hhunt)) _
  · intro s p hp hrun hst
    refine runs_of_runIn (exec_lossOfSignal s p) hp ?_
    rw [State.signalLoss_of_running (s := s.fresh) hrun hst]
    obtain ⟨halign, hcands⟩ := State.rxResetDue_down (s := s.fresh.unalign p 0 (s.aligned p))
      (State.unalign_alignState _ _) (State.unalign_cands _)
    refine ⟨halign, hcands, fun hal => ?_⟩
    rw [State.latched_withQueue]
    refine State.latched_rxResetDue ?_ p
    have hal' : s.fresh.aligned p = true := hal
    rw [hal']
    exact State.unalign_latched (s := s.fresh) (State.fabOn_of_running hrun) 0

end Sys2Proof.Machine

/-! Version negotiation and FEC degrade (Table 2-12, R81, R84 to R95): what a return to START leaves, and the writes
that bring one about (O2). -/

namespace Sys2Proof.Machine

section
variable {s : State} {p : Nat}

/-! ### The versions of a port -/

theorem State.txVer_lt (s : State) (p : Nat) : s.txVer p < 16 := Nat.mod_lt _ (by decide)

theorem State.rxVer_see {t : State} (h : t.see (.reg O.portVersion p) = s.see (.reg O.portVersion p)) :
    t.rxVer p = s.rxVer p := congrArg (· / 16) h

theorem State.txVer_see {t : State} (h : t.see (.reg O.portVersion p) = s.see (.reg O.portVersion p)) :
    t.txVer p = s.txVer p := congrArg (· % 16) h

theorem State.setVer_rxVer (r : Nat) {t : Nat} (ht : t < 16) : (s.setVer p r t).rxVer p = r := by
  simp only [State.setVer, State.rxVer, State.reg_setReg_self]
  omega

theorem State.setVer_txVer (r : Nat) {t : Nat} (ht : t < 16) : (s.setVer p r t).txVer p = t := by
  simp only [State.setVer, State.txVer, State.reg_setReg_self]
  omega

/-! ### A receiver that takes a version -/

theorem State.unalign_linkP (st : Nat) : (s.unalign p st false).linkP p =
    { s.linkP p with cands := if st = 0 then [] else (s.linkP p).cands, lastRx := false } := by
  simp only [State.unalign, Bool.false_eq_true, if_false]
  rw [State.linkP_see (State.streamOff_see _ _ (by simp)), State.linkP_see (State.ifaceDown_see _ _ (by simp)),
    State.linkP_see (State.portAis_see _ _ (by simp)), State.linkP_setLink_self]
  rfl

theorem State.rxSwitch_linkP (v : Nat) : ∃ c r, (s.rxSwitch p v).linkP p =
    { s.linkP p with rxReset := false, cands := c, lastRx := r } := by
  simp only [State.rxSwitch]
  split
  · exact ⟨(s.linkP p).cands, (s.linkP p).lastRx, State.linkP_setLink_self _ _ _⟩
  · refine ⟨[], false, ?_⟩
    rw [State.linkP_see (State.tieFails_see _ (by simp)), State.unalign_linkP,
      State.linkP_see (State.setVer_see _ _ _ _ (by simp)), State.linkP_setLink_self]
    rfl

theorem State.setLink_rxVer (l : LinkP) : (s.setLink p l).rxVer p = s.rxVer p := rfl

theorem State.setLink_txVer (l : LinkP) : (s.setLink p l).txVer p = s.txVer p := rfl

theorem State.rxSwitch_versions (v : Nat) : (s.rxSwitch p v).rxVer p = v ∧ (s.rxSwitch p v).txVer p = s.txVer p := by
  simp only [State.rxSwitch]
  rw [State.setLink_rxVer]
  split
  · rename_i h
    exact ⟨(State.setLink_rxVer _).trans h, State.setLink_txVer _⟩
  · rw [State.rxVer_see (State.tieFails_see _ (by simp)), State.txVer_see (State.tieFails_see _ (by simp)),
      State.rxVer_see (State.unalign_see _ _ _ _ (by simp)), State.txVer_see (State.unalign_see _ _ _ _ (by simp)),
      State.setVer_rxVer _ (State.txVer_lt _ _), State.setVer_txVer _ (State.txVer_lt _ _)]
    exact ⟨rfl, State.setLink_txVer _⟩

/-! ### A return to START -/

/-- What the return writes to the link state of the port. -/
def LinkP.returned (l : LinkP) (tx rx : Bool) : LinkP :=
  { l with peerSeen := false, target := 0, count := 0, relock := 0, outFrames := 0, seekRun := 0, supp := .init,
           txReset := tx, rxReset := rx, carries := false }

/-- The receiver waits for its frame boundary to take version 1. -/
def State.rxWaits (s : State) (p : Nat) : Bool := s.aligned p && s.rxVer p != 1

/-- The port has dropped what it negotiated, and its receiver has taken version 1 where it does not wait. -/
def State.dropped (s : State) (p : Nat) : State :=
  let u := s.setLink p ((s.linkP p).returned (s.txVer p != 1) (s.rxWaits p))
  if s.rxWaits p then u else u.rxSwitch p 1

theorem State.negReturn_of_running (hrun : s.running p = true) : s.negReturn p =
    (((s.dropped p).portAis p).setReg O.portNegState p 1).raise (4 * p + 2) := by
  simp only [State.negReturn, hrun, Bool.not_true, Bool.false_eq_true, if_false]
  rfl

theorem State.dropped_linkP : ((s.dropped p).linkP p).carries = false ∧
    ((s.dropped p).linkP p).txReset = (s.txVer p != 1) ∧ ((s.dropped p).linkP p).rxReset = s.rxWaits p := by
  simp only [State.dropped]
  cases hw : s.rxWaits p with
  | true => simp [LinkP.returned]
  | false =>
    obtain ⟨c, r, h⟩ := (s.setLink p ((s.linkP p).returned (s.txVer p != 1) false)).rxSwitch_linkP (p := p) 1
    simp only [Bool.false_eq_true, if_false, h, State.linkP_setLink_self]
    exact ⟨rfl, rfl, trivial⟩

theorem State.dropped_versions : (s.dropped p).txVer p = s.txVer p ∧
    (s.dropped p).rxVer p = if s.aligned p then s.rxVer p else 1 := by
  simp only [State.dropped]
  cases hw : s.rxWaits p with
  | true =>
    simp only [State.rxWaits, Bool.and_eq_true] at hw
    rw [if_pos rfl]
    exact ⟨State.setLink_txVer _, (State.setLink_rxVer _).trans (if_pos hw.1).symm⟩
  | false =>
    obtain ⟨hr, ht⟩ := (s.setLink p ((s.linkP p).returned (s.txVer p != 1) false)).rxSwitch_versions (p := p) 1
    rw [if_neg Bool.false_ne_true]
    refine ⟨ht.trans (State.setLink_txVer _), hr.trans ?_⟩
    by_cases ha : s.aligned p = true
    · simp only [State.rxWaits, ha, Bool.true_and, bne_eq_false_iff_eq] at hw
      rw [if_pos ha, hw]
    · rw [if_neg ha]

theorem State.dropped_sys : (s.dropped p).sys = s.sys := by
  simp only [State.dropped]
  split
  · rfl
  · rw [State.sys_see, State.rxSwitch_see _ _ _ (by simp)]
    rfl

theorem State.negReturn_returned (hrun : s.running p = true) : Returned s (s.negReturn p) p := by
  rw [State.negReturn_of_running hrun]
  have hlink : ((((s.dropped p).portAis p).setReg O.portNegState p 1).raise (4 * p + 2)).linkP p =
      (s.dropped p).linkP p := by
    rw [State.linkP_see (State.raise_see _ _ (by simp)), State.linkP_setReg,
      State.linkP_see (State.portAis_see _ _ (by simp))]
  have hver : ((((s.dropped p).portAis p).setReg O.portNegState p 1).raise (4 * p + 2)).see (.reg O.portVersion p) =
      (s.dropped p).see (.reg O.portVersion p) := by
    rw [State.raise_see _ _ (by simp), State.setReg_see _ _ _ _ (by simp), State.portAis_see _ _ (by simp)]
  obtain ⟨hcarries, htx, hrx⟩ := State.dropped_linkP (s := s) (p := p)
  obtain ⟨htxv, hrxv⟩ := State.dropped_versions (s := s) (p := p)
  refine ⟨?_, ?_, by rw [hlink]; exact hcarries, (State.txVer_see hver).trans htxv, by rw [hlink]; exact htx,
    by rw [hlink]; exact hrx, (State.rxVer_see hver).trans hrxv⟩
  · rw [State.raise_reg _ (by decide), State.reg_setReg_self]
  · refine State.latched_raise_self (Or.inr ?_)
    rw [State.setReg_sys, State.sys_see, State.portAis_see _ _ (by simp), ← State.sys_see, State.dropped_sys]
    exact State.fabOn_of_running hrun

/-- A return is one of every state that shows the same versions and the same alignment. -/
theorem Returned.of_see {s' t : State} (h : Returned s' t p)
    (hver : s'.see (.reg O.portVersion p) = s.see (.reg O.portVersion p))
    (hal : s'.see (.reg O.portAlignState p) = s.see (.reg O.portAlignState p)) : Returned s t p := by
  have ha : s'.aligned p = s.aligned p := congrArg (fun n => decide (3 ≤ n)) hal
  simpa only [Returned, State.txVer_see hver, State.rxVer_see hver, ha] using h

/-- What a write leaves of a return: its journal entry and its answer change nothing of it. -/
theorem Returned.write {t : State} (h : Returned s t p) (idx e v : Nat) (q : List Instr) :
    Returned s (((t.record idx e v).answer 0).withQueue q) p := by
  obtain ⟨hneg, hlat, hcarries, htx, htxr, hrxr, hrx⟩ := h
  have hl : (((t.record idx e v).answer 0).withQueue q).linkP p = t.linkP p := State.linkP_see (State.record_see _ _ _ _ (by simp)) p
  have hv : (((t.record idx e v).answer 0).withQueue q).see (.reg O.portVersion p) = t.see (.reg O.portVersion p) :=
    State.record_see (z := .reg O.portVersion p) t idx e v (by simp)
  rw [Returned, State.reg_write _ _ _ _ _ (by decide) (by decide)]
  exact ⟨hneg, State.latched_record hlat _ _ _,
    by rw [hl]; exact hcarries, (State.txVer_see hv).trans htx, by rw [hl]; exact htxr, by rw [hl]; exact hrxr,
    (State.rxVer_see hv).trans hrx⟩

/-! ### What brings a return about -/

theorem State.running_congr {t : State} (hsys : t.sys = s.sys) (hlive : t.live = s.live) (hlink : t.link = s.link)
    (hen : t.reg O.portEnable p = s.reg O.portEnable p) (hrole : t.reg O.protRole = s.reg O.protRole) :
    t.running p = s.running p := by
  simp only [State.running, State.portAllowed, State.linkP, State.lreg, hsys, hlive, hlink, hen, hrole]

theorem State.running_setReg {i : Nat} (h1 : i ≠ O.portEnable) (h2 : i ≠ O.protRole) (e v : Nat) :
    (s.setReg i e v).running p = s.running p :=
  State.running_congr rfl rfl rfl (State.reg_setReg_obj s h1.symm) (State.reg_setReg_obj s h2.symm)

/-- The version that the port excludes after RELOCK, and what it notes of it. -/
def State.excluded (s : State) (p : Nat) (q : LinkQ) : State :=
  ((s.setLinkQ p q).setReg O.linkVersionExcluded p
    ((s.reg O.linkVersionExcluded p ||| 2 ^ (s.txVer p - 1)) &&& 0xFE)).raise (4 * p + 2)

theorem State.relockFail_due (hneg : s.reg O.portNegState p = 4) (hdue : 256 ≤ (s.linkP p).relock) :
    ∃ q, s.relockFail p = (s.excluded p q).negReturn p := by
  simp only [State.relockFail, hneg, hdue, decide_true, Bool.and_self, if_true]
  exact ⟨_, rfl⟩

theorem State.excluded_running (q : LinkQ) : (s.excluded p q).running p = s.running p :=
  State.running_congr (State.raise_sys _ _) (State.raise_live _ _) (State.raise_link _ _)
    (by rw [State.excluded, State.raise_reg _ (by decide), State.reg_setReg_obj _ (by decide)]; rfl)
    (by rw [State.excluded, State.raise_reg _ (by decide), State.reg_setReg_obj _ (by decide)]; rfl)

theorem State.excluded_see (q : LinkQ) {z : View} (h : z.place ∉ [.obj O.eventCount, .obj O.eventLastTime,
    .obj O.eventLatch, .obj O.hdpStats, .obj O.linkVersionExcluded, .part .linkq]) :
    (s.excluded p q).see z = s.see z := by
  simp only [notMem_cons, notMem_nil, and_true] at h
  simp only [State.excluded]; simp [h]

theorem State.syncLoss_due (hneg : s.reg O.portNegState p = 5) (hdue : 64 ≤ (s.linkP p).outFrames) :
    s.syncLoss p = s.negReturn p := by
  simp [State.syncLoss, hneg, hdue]

theorem State.renegotiate_of_running {h : Nat} (hrun : s.running p = true) (htok : (s.linkQ p).tok = false) :
    s.renegotiate p h = ((s.setLinkQ p { s.linkQ p with tok := true }).actStart 7 h).negReturn p := by
  simp [State.renegotiate, hrun, htok]

/-- A renegotiation returns the port to START and holds the PORTS token. -/
theorem State.renegotiate_returned {h : Nat} (hrun : s.running p = true) (htok : (s.linkQ p).tok = false) :
    Returned s (s.renegotiate p h) p ∧ (s.renegotiate p h).reg O.maintTokenHolder 7 = h := by
  rw [State.renegotiate_of_running hrun htok]
  have hsee {z : View} (hz : z.place ∉ [.obj O.eventCount, .obj O.eventLastTime, .obj O.eventLatch, .obj O.hdpStats,
      .obj O.maintTokenHolder, .obj O.maintTokenSince, .part .linkq]) (q : LinkQ) :
      ((s.setLinkQ p q).actStart 7 h).see z = s.see z := by
    simp only [notMem_cons, notMem_nil, and_true] at hz
    rw [State.actStart_see _ _ _ (by simp [hz]), State.setLinkQ_see _ _ _ hz.2.2.2.2.2.2]
  refine ⟨Returned.of_see (State.negReturn_returned ?_) (hsee (by simp) _) (hsee (by simp) _), ?_⟩
  · rw [State.running_congr (State.actStart_sys _ _ _) (State.actStart_live _ _ _) (State.actStart_link _ _ _)
      (State.actStart_reg _ (by decide) (by decide) (by decide))
      (State.actStart_reg _ (by decide) (by decide) (by decide))]
    exact hrun
  · rw [reg_see, State.negReturn_see _ _ (by simp), ← reg_see, State.actStart_holder]

/-- The transmitter that waited for its frame boundary takes version 1. -/
theorem State.negFrame_resets (hreset : (s.linkP p).txReset = true) (hneg : s.reg O.portNegState p ≠ 3) :
    ∃ l : LinkP, l.txReset = false ∧ s.negFrame p = ((s.setLink p l).setVer p (s.rxVer p) 1).ifaceDown p := by
  simp only [State.negFrame, hreset, hneg, if_true, decide_false, Bool.false_and, Bool.false_eq_true, if_false]
  exact ⟨_, rfl, rfl⟩

/-! ### FEC degrade -/

/-- The verdict of an interval (R81). -/
def State.degVerdict (s : State) (p : Nat) : Bool :=
  if s.reg O.portFecDegThr p < (s.linkP p).degSum then true
  else if 2 * (s.linkP p).degSum ≤ s.reg O.portFecDegThr p then false else (s.linkP p).deg

theorem State.fecInterval_due (hdue : 8000 ≤ (s.linkP p).degFrames) : s.fecInterval p =
    if s.degVerdict p != (s.linkP p).deg then
      (s.setLink p { s.linkP p with degSum := 0, degFrames := 0, deg := s.degVerdict p }).raise (4 * p + 1)
    else s.setLink p { s.linkP p with degSum := 0, degFrames := 0, deg := s.degVerdict p } := by
  simp only [State.fecInterval, Nat.not_lt.mpr hdue, if_false]
  rfl

end

/-- Settles O2: the returns are one operation, reached from RELOCK, from SETTLED and by the two writes. -/
theorem linkNegotiation : Obligations.LinkNegotiation := by
  refine ⟨?_, ?_, ?_, ?_, ?_, ?_, ?_⟩
  · intro s p hp hrun hneg hdue
    obtain ⟨q, hq⟩ := State.relockFail_due (s := s.fresh) hneg hdue
    refine runs_of_runIn (exec_relockTimeout s p) hp ?_
    rw [hq]
    refine ⟨Returned.of_see (s' := s.fresh.excluded p q) ?_ (State.excluded_see q (by simp))
      (State.excluded_see q (by simp)), ?_⟩
    · exact State.negReturn_returned ((State.excluded_running q).trans hrun)
    · rw [State.reg_withQueue_all, reg_see, State.negReturn_see _ _ (by simp), ← reg_see, State.excluded,
        State.raise_reg _ (by decide), State.reg_setReg_self]
      rfl
  · intro s p hp hrun hneg hdue
    refine runs_of_runIn (exec_syncLossRenegotiate s p) hp ?_
    rw [State.syncLoss_due (s := s.fresh) hneg hdue]
    refine ⟨State.negReturn_returned (s := s.fresh) hrun, ?_⟩
    rw [State.reg_withQueue_all, reg_see, State.negReturn_see _ _ (by simp), ← reg_see, State.reg_fresh_all]
  · intro s p hp hreset hneg
    obtain ⟨l, hl, h⟩ := State.negFrame_resets hreset hneg
    rw [h, State.txVer_see (State.ifaceDown_see _ _ (by simp)), State.rxVer_see (State.ifaceDown_see _ _ (by simp)),
      State.linkP_see (State.ifaceDown_see _ _ (by simp)), State.linkP_see (State.setVer_see _ _ _ _ (by simp)),
      State.linkP_setLink_self, State.setVer_txVer _ (by decide), State.setVer_rxVer _ (by decide)]
    exact ⟨rfl, hl, rfl⟩
  · intro s p hp hdue
    refine runs_of_runIn (exec_fecDegInterval s p) hp ?_
    rw [State.fecInterval_due (s := s.fresh) hdue]
    have hl (l : LinkP) : OnlyElems [] s.fresh (s.fresh.setLink p l) := (OnlyElems.refl _ _).of_regs rfl
    split
    · have hlink (l : LinkP) : (((s.fresh.setLink p l).raise (4 * p + 1)).withQueue s.pending).linkP p = l :=
        (State.linkP_see (State.raise_see _ _ (by simp)) p).trans (State.linkP_setLink_self _ _ _)
      rw [hlink]
      exact ⟨rfl, rfl, rfl, fun _ hfab => State.latched_raise_self (Or.inr hfab), OnlyElems.run ((hl _).raise _) _⟩
    · rename_i hsame
      have hlink (l : LinkP) : ((s.fresh.setLink p l).withQueue s.pending).linkP p = l :=
        State.linkP_setLink_self _ _ _
      rw [hlink]
      exact ⟨rfl, rfl, rfl, fun hne => absurd (by simpa using hsame) hne, OnlyElems.run (hl _) _⟩
  · intro s w p v ha htok hrun hidle
    have hop : (if s.fresh.tokFree 7 (holderOf w) then (s.fresh.renegotiate p (holderOf w), 0)
        else (s.fresh, 0x0402)) = (s.fresh.renegotiate p (holderOf w), 0) := if_pos htok
    obtain ⟨hret, hhold⟩ := State.renegotiate_returned (s := s.fresh) (h := holderOf w) hrun hidle
    refine runs_of_write (exec_linkRenegotiate s w p v) ha hop ?_
    refine ⟨Returned.write hret _ _ _ _, rfl, ?_⟩
    rw [State.reg_write _ _ _ _ _ (by decide) (by decide), hhold]
  · intro s w p v ha htok hrun hidle
    have hop : (if s.fresh.tokFree 7 (holderOf w) then
        ((s.fresh.setReg O.linkVersionMax p v).renegotiate p (holderOf w), 0) else (s.fresh, 0x0402)) =
        ((s.fresh.setReg O.linkVersionMax p v).renegotiate p (holderOf w), 0) := if_pos htok
    have hrun' : (s.fresh.setReg O.linkVersionMax p v).running p = true :=
      (State.running_setReg (s := s.fresh) (by decide) (by decide) _ _).trans hrun
    obtain ⟨hret, hhold⟩ := State.renegotiate_returned (h := holderOf w) hrun' hidle
    refine runs_of_write (exec_versionMaxWrite s w p v) ha hop ?_
    rw [State.reg_write _ _ _ _ _ (by decide) (by decide), State.reg_write _ _ _ _ _ (by decide) (by decide)]
    refine ⟨?_, Returned.write (Returned.of_see hret (State.setReg_see _ _ _ _ (by simp))
      (State.setReg_see _ _ _ _ (by simp))) _ _ _ _, rfl, hhold⟩
    rw [State.renegotiate_of_running hrun' hidle, reg_see, State.negReturn_see _ _ (by simp), ← reg_see,
      State.actStart_reg _ (by decide) (by decide) (by decide)]
    exact State.reg_setReg_self s.fresh O.linkVersionMax p v
  · intro s w p v ha
    refine runs_of_write (exec_versionExcludedWrite s w p v) ha rfl ?_
    refine ⟨?_, rfl, ?_⟩
    · rw [State.reg_write _ _ _ _ _ (by decide) (by decide), State.reg_setReg_self]
      rfl
    intro i e hev hi
    simp only [List.mem_cons, List.not_mem_nil, or_false, not_or] at hi
    exact (State.record_reg _ hev hi.2).trans (State.reg_setReg_obj _ hi.1)

end Sys2Proof.Machine

/-! Enabling and stopping a port, its settings, and the serdes islands (O3). -/

namespace Sys2Proof.Machine

section
variable {s : State} {p : Nat}

/-! ### Start and stop -/

theorem State.portStart_of_not_allowed (h : s.portAllowed p = false) : s.portStart p = s := by
  simp [State.portStart, h]

/-- What a port that starts does beside its own registers. -/
theorem State.startTail_see (l : LinkP) {z : View} (h : z.place ∉ [.obj O.eventCount, .obj O.eventLastTime,
    .obj O.eventLatch, .obj O.grainChanged, .obj O.grainRxState, .obj O.hdpStats, .obj O.refTied,
    .obj O.timeGridResidual, .part .link, .part .rx, .part .ref, .part .tim]) :
    (((s.setLink p l).portAis p).tieFails).see z = s.see z := by
  simp only [notMem_cons, notMem_nil, and_true] at h
  simp [h]

theorem State.portStart_regs (h : s.portAllowed p = true) : (s.portStart p).reg O.portNegState p = 1 ∧
    (s.portStart p).reg O.portAlignState p = 0 ∧ (s.portStart p).reg O.portVersion p = 0x11 := by
  simp only [State.portStart, h, Bool.not_true, Bool.false_eq_true, if_false]
  refine ⟨?_, ?_, ?_⟩
  · rw [reg_see, State.startTail_see _ (by simp), ← reg_see, State.reg_setReg_obj _ (by decide),
      State.reg_setReg_self]
  · rw [reg_see, State.startTail_see _ (by simp), ← reg_see, State.reg_setReg_self]
  · rw [reg_see, State.startTail_see _ (by simp), ← reg_see, State.reg_setReg_obj _ (by decide),
      State.reg_setReg_obj _ (by decide), State.setVer, State.reg_setReg_self]

/-- What a port that stops does beside its own registers. -/
theorem State.stopTail_see (l : LinkP) {z : View} (h : z.place ∉ [.obj O.eventCount, .obj O.eventLastTime,
    .obj O.eventLatch, .obj O.grainChanged, .obj O.grainRxState, .obj O.hdpStats, .obj O.maintTokenHolder,
    .obj O.protFlags, .obj O.refTied, .obj O.tallyOvfCount, .obj O.timeGridResidual, .obj O.timeTcStats,
    .obj O.witnessStreamState, .part .link, .part .linkq, .part .rx, .part .prot, .part .wit, .part .ref,
    .part .tim]) :
    ((((((s.setLink p l).portAis p).ifaceDown p).streamOff p).negEnd p).tieFails).see z = s.see z := by
  simp only [notMem_cons, notMem_nil, and_true] at h
  simp [h]

theorem State.portStop_regs (atEnd : Bool) : (s.portStop p atEnd).reg O.portNegState p = 0 ∧
    (s.portStop p atEnd).reg O.portAlignState p = 0 := by
  simp only [State.portStop]
  refine ⟨?_, ?_⟩
  · rw [reg_see, State.stopTail_see _ (by simp), ← reg_see, State.reg_setReg_obj _ (by decide),
      State.reg_setReg_self]
  · rw [reg_see, State.stopTail_see _ (by simp), ← reg_see, State.reg_setReg_self]

theorem portEnableOp_starts (hoff : s.reg O.portEnable p ≠ 1) (hstop : (s.linkP p).stopPending = false)
    (hready : s.islandReady p = true) : portEnableOp p 1 s = ((s.setReg O.portEnable p 1).portStart p, 0) := by
  simp [portEnableOp, hoff, hstop, hready]

theorem portEnableOp_stops (hon : s.reg O.portEnable p = 1) (hidle : s.portBusy p = false) :
    portEnableOp p 0 s = ((s.setReg O.portEnable p 0).portStop p false, 0) := by
  simp [portEnableOp, hon, hidle]

theorem portEnableOp_waits (hon : s.reg O.portEnable p = 1) (hbusy : s.portBusy p = true) : portEnableOp p 0 s =
    ((s.setReg O.portEnable p 0).setLink p { s.linkP p with stopPending := true }, 0) := by
  simp [portEnableOp, hon, hbusy]

theorem State.portAllowed_setReg {i : Nat} (h : i ≠ O.protRole) (e v : Nat) :
    (s.setReg i e v).portAllowed p = s.portAllowed p := by
  simp only [State.portAllowed, State.reg_setReg_obj _ h.symm, State.lreg_setReg]

/-! ### Role, time channel, equaliser -/

theorem portRoleOp_accepts {v : Nat} (hfree : v = 0 ∨ ∀ x ∈ s.entries O.groupLineCtx, x.1 / 1280 = p → 6144 ≤ x.2) :
    portRoleOp p v s = (s.setReg O.portRole p v, 0) := by
  rcases hfree with rfl | hfree
  · simp [portRoleOp]
  · have hany : (s.entries O.groupLineCtx).any (fun x => x.1 / 1280 == p && decide (x.2 < 6144)) = false := by
      simpa using hfree
    simp [portRoleOp, hany]

theorem State.dropQueue_queue (i : Nat) : (s.dropQueue i).tim.queue = s.tim.queue.filter fun x => x.iface != i :=
  foldRange_same (fun t : State => t.tim.queue) _ _ _ fun a _ =>
    congrArg TimS.queue (State.raise_tim (a.bump O.timeTcStats 4 48) 429)

/-! ### Islands -/

theorem State.islandState_bit {k : Nat} (b : Bool) : bit ((s.islandState k b).reg O.powerSdIslandState) k = b := by
  simp only [State.islandState]
  split
  · assumption
  · rw [State.raise_reg _ (by decide), State.reg_setReg_self]
    simp [bit, testBit_putBit]

theorem State.islandTokEnd_sdUp : s.islandTokEnd.sys.sdUp = s.sys.sdUp := by
  simp only [State.islandTokEnd]
  split <;> simp

/-- Islands that lose their power: those that power up drop out when they are ready, the others at once. -/
def State.islandDown (s : State) (k : Nat) : State :=
  if s.sys.sdUp.contains k then { s with sys := { s.sys with sdDrop := k :: s.sys.sdDrop } }
  else (s.islandState k false).islandOff k

theorem State.islandDown_en (k e : Nat) :
    (s.islandDown k).reg O.powerSdIslandEn e = s.reg O.powerSdIslandEn e := by
  simp only [State.islandDown]
  split
  · rfl
  · rw [reg_see, State.islandOff_see _ _ (by simp), State.islandState_see _ _ _ (by simp), ← reg_see]

theorem sdIslandOp_accepts {h v : Nat} (htok : s.tokFree 7 h = true)
    (hidle : ∀ k i, k < 12 → i < 8 → bit (s.reg O.powerSdIslandEn) k = true → bit v k = false →
      s.reg O.portEnable (8 * k + i) ≠ 1 ∧ (s.linkP (8 * k + i)).stopPending = false) :
    ∃ u, sdIslandOp h v s = (u, 0) ∧ u.reg O.powerSdIslandEn = v := by
  have hany : (((List.range 12).filter fun k => bit (s.reg O.powerSdIslandEn) k && !bit v k).any fun k =>
      (List.range 8).any fun i =>
        s.reg O.portEnable (8 * k + i) == 1 || (s.linkP (8 * k + i)).stopPending) = false := by
    simp only [List.any_eq_false, List.mem_filter, List.mem_range, Bool.and_eq_true, Bool.not_eq_true',
      Bool.or_eq_true, beq_iff_eq, not_or, Bool.not_eq_true]
    intro k ⟨hk, hon, hoff⟩ i hi
    exact hidle k i hk hi hon hoff
  have hset {a : State} (ha : a.reg O.powerSdIslandEn = v) (l m : List Nat) :
      (m.foldl State.islandUp (l.foldl State.islandDown a)).reg O.powerSdIslandEn = v := by
    refine (foldl_same (fun t : State => t.reg O.powerSdIslandEn 0) _ _ _ fun t k => ?_).trans
      ((foldl_same (fun t : State => t.reg O.powerSdIslandEn 0) _ _ _ fun t k => t.islandDown_en k 0).trans ha)
    rfl
  have hen : (s.setReg O.powerSdIslandEn 0 v).reg O.powerSdIslandEn = v := State.reg_setReg_self _ _ _ _
  have hact (x : SysS) :
      (({ s.setReg O.powerSdIslandEn 0 v with sys := x } : State).actStart 7 h).reg O.powerSdIslandEn = v :=
    (State.actStart_reg _ (by decide) (by decide) (by decide)).trans hen
  simp only [sdIslandOp, htok, hany, Bool.not_true, Bool.false_eq_true, if_false]
  split_ifs
  · exact ⟨_, rfl, hact _⟩
  · exact ⟨_, rfl, hen⟩
  · exact ⟨_, rfl, hset (hact _) _ _⟩
  · exact ⟨_, rfl, hset hen _ _⟩

/-- The island that powers up first is ready, and its place in the queue is free. -/
def State.islandLit (s : State) (k : Nat) (x : SysS) : State :=
  let u := ({ s with sys := x } : State).islandState k true
  if u.sys.sdUp.isEmpty then u.islandTokEnd else u

/-- Ports of an island that were enabled before it was ready start. -/
def State.islandPorts (s : State) (k : Nat) : State :=
  foldRange 8 (fun s i =>
    if s.reg O.portEnable (8 * k + i) = 1 && s.reg O.portNegState (8 * k + i) = 0 then s.portStart (8 * k + i)
    else s) s

theorem State.islandReadyOp_of_next {k : Nat} (hnext : s.sys.sdUp.head? = some k) (hkeep : k ∉ s.sys.sdDrop) :
    s.islandReadyOp k = (s.islandLit k { s.sys with sdUp := s.sys.sdUp.drop 1,
                                                    sdDrop := s.sys.sdDrop.filter fun x => x != k }).islandPorts k := by
  have hdrop : s.sys.sdDrop.contains k = false := by simpa using hkeep
  simp only [State.islandReadyOp, hnext, if_true, hdrop, Bool.false_eq_true, if_false]
  rfl

theorem State.islandState_sys (k : Nat) (b : Bool) : (s.islandState k b).sys = s.sys :=
  State.islandState_see (z := .part .sys) s k b (by simp)

theorem State.islandLit_spec (k : Nat) (x : SysS) : bit ((s.islandLit k x).reg O.powerSdIslandState) k = true ∧
    (s.islandLit k x).sys.sdUp = x.sdUp := by
  have hup := ({ s with sys := x } : State).islandState_bit (k := k) true
  have hsys := ({ s with sys := x } : State).islandState_sys k true
  simp only [State.islandLit]
  split
  · rw [State.islandTokEnd_sdUp, hsys, reg_see, State.islandTokEnd_see _ (by simp)]
    exact ⟨hup, rfl⟩
  · rw [hsys]
    exact ⟨hup, rfl⟩

theorem State.islandPorts_see (k : Nat) {z : View} (h : z.place ∉ [.obj O.eventCount, .obj O.eventLastTime,
    .obj O.eventLatch, .obj O.grainChanged, .obj O.grainRxState, .obj O.hdpStats, .obj O.portAlignState,
    .obj O.portNegState, .obj O.portVersion, .obj O.refTied, .obj O.timeGridResidual, .part .link, .part .rx,
    .part .ref, .part .tim]) : (s.islandPorts k).see z = s.see z := by
  simp only [notMem_cons, notMem_nil, and_true] at h
  refine foldRange_see 8 _ s fun a i => ?_
  simp [↓ite_see, h]

theorem State.islandPorts_sys (k : Nat) : (s.islandPorts k).sys = s.sys :=
  State.islandPorts_see (z := .part .sys) k (by simp)

theorem State.islandReadyOp_next {k : Nat} (hnext : s.sys.sdUp.head? = some k) (hkeep : k ∉ s.sys.sdDrop) :
    bit ((s.islandReadyOp k).reg O.powerSdIslandState) k = true ∧
    (s.islandReadyOp k).sys.sdUp = s.sys.sdUp.drop 1 := by
  rw [State.islandReadyOp_of_next hnext hkeep, State.islandPorts_sys, reg_see, State.islandPorts_see _ (by simp)]
  exact State.islandLit_spec k _

/-! ### What a write leaves beside its registers -/

theorem State.running_of_stopPending (h : (s.linkP p).stopPending = true) :
    s.running p = (s.sys.fabOn && s.portAllowed p) := by
  simp [State.running, h]

theorem State.portAllowed_setLink (l : LinkP) : (s.setLink p l).portAllowed p = s.portAllowed p := rfl

theorem State.running_write (idx e v : Nat) (q : List Instr) :
    (((s.record idx e v).answer 0).withQueue q).running p = s.running p :=
  State.running_congr (s.record_sys idx e v) (s.record_live idx e v) (s.record_link idx e v)
    (State.record_reg s (by decide) (by decide)) (State.record_reg s (by decide) (by decide))

theorem State.portAllowed_write (idx e v : Nat) (q : List Instr) :
    (((s.record idx e v).answer 0).withQueue q).portAllowed p = s.portAllowed p := by
  have hrole : (((s.record idx e v).answer 0).withQueue q).reg O.protRole = s.reg O.protRole :=
    State.record_reg s (by decide) (by decide)
  have hlive : (((s.record idx e v).answer 0).withQueue q).live = s.live := s.record_live idx e v
  simp only [State.portAllowed, State.lreg, hlive, hrole]

end

/-- Settles O3: each write by what its operation leaves, the island's readiness by its own. -/
theorem portSetup : Obligations.PortSetup := by
  refine ⟨?_, ?_, ?_, ?_, ?_, ?_, ?_, ?_, ?_, ?_⟩
  · intro s w p ha hoff hstop hready hallow
    have hop := portEnableOp_starts (s := s.fresh) hoff hstop hready
    refine runs_of_write (exec_portEnableWrite s w p 1) ha hop ?_
    obtain ⟨hneg, hal, hver⟩ := State.portStart_regs (s := s.fresh.setReg O.portEnable p 1) (p := p)
      ((State.portAllowed_setReg (by decide) p 1).trans hallow)
    rw [State.reg_write _ _ _ _ _ (by decide) (by decide), State.reg_write _ _ _ _ _ (by decide) (by decide),
      State.reg_write _ _ _ _ _ (by decide) (by decide), State.reg_write _ _ _ _ _ (by decide) (by decide)]
    refine ⟨?_, hneg, hal, hver, rfl⟩
    rw [reg_see, State.portStart_see _ _ (by simp), ← reg_see, State.reg_setReg_self]
  · intro s w p ha hoff hstop hready hallow
    have hop : portEnableOp p 1 s.fresh = (s.fresh.setReg O.portEnable p 1, 0) := by
      rw [portEnableOp_starts (s := s.fresh) hoff hstop hready, State.portStart_of_not_allowed]
      exact (State.portAllowed_setReg (by decide) p 1).trans hallow
    refine runs_of_write (exec_portEnableWrite s w p 1) ha hop ?_
    rw [State.reg_write _ _ _ _ _ (by decide) (by decide), State.reg_setReg_self]
    refine ⟨rfl, ?_, rfl, ?_⟩
    · have hno := (State.portAllowed_write (s := s.fresh.setReg O.portEnable p 1) (p := p) O.portEnable p 1
        s.pending).trans ((State.portAllowed_setReg (by decide) p 1).trans hallow)
      simp only [State.running, hno, Bool.and_false]
    · have h : OnlyElems [(O.portEnable, p), (O.ledgerJournalSeq, 0)] s.fresh (s.fresh.setReg O.portEnable p 1) :=
        (OnlyElems.refl _ _).setReg 1 (s.gate_elem ha.1) (by simp)
      exact OnlyElems.run (t := (State.record _ _ _ _).answer 0) (h.record _ _ _ (by simp)) _
  · intro s w p ha hon hidle
    have hop := portEnableOp_stops (s := s.fresh) hon hidle
    refine runs_of_write (exec_portEnableWrite s w p 0) ha hop ?_
    obtain ⟨hneg, hal⟩ := State.portStop_regs (s := s.fresh.setReg O.portEnable p 0) (p := p) false
    rw [State.reg_write _ _ _ _ _ (by decide) (by decide), State.reg_write _ _ _ _ _ (by decide) (by decide),
      State.reg_write _ _ _ _ _ (by decide) (by decide)]
    refine ⟨?_, hneg, hal, rfl⟩
    rw [reg_see, State.portStop_see _ _ _ (by simp), ← reg_see, State.reg_setReg_self]
  · intro s w p ha hon hbusy
    have hop := portEnableOp_waits (s := s.fresh) hon hbusy
    refine runs_of_write (exec_portEnableWrite s w p 0) ha hop ?_
    refine ⟨?_, ?_, ?_, rfl⟩
    · rw [State.reg_write _ _ _ _ _ (by decide) (by decide), State.setLink_reg, State.reg_setReg_self]
    · rw [State.linkP_see (State.see_write _ _ _ _ _ (by simp)), State.linkP_setLink_self]
    · rw [State.running_write, State.running_of_stopPending (by rw [State.linkP_setLink_self]),
        State.portAllowed_setLink, State.portAllowed_setReg (by decide)]
      rfl
  · intro s w p v ha hfree
    have hop := portRoleOp_accepts (s := s.fresh) hfree
    refine runs_of_write (exec_portRoleWrite s w p v) ha hop ?_
    refine ⟨stored_of _ ha (by decide) (by decide) (State.reg_setReg_self _ _ _ _)
      ((OnlyElems.refl _ s.fresh).setReg v (s.gate_elem ha.1) (by simp)), ?_⟩
    exact State.lreg_congr (State.record_live (s.fresh.setReg O.portRole p v) _ _ _) _ _
  · intro s w p v ha
    refine runs_of_write (exec_timeChannelEnWrite s w p v) ha rfl ?_
    refine ⟨?_, rfl, State.record_tim _ _ _ _, ?_⟩
    · rw [State.reg_write _ _ _ _ _ (by decide) (by decide), State.setLink_reg, State.reg_setReg_self]
    · rw [State.linkP_see (State.see_write _ _ _ _ _ (by simp)), State.linkP_setLink_self]
      rfl
  · intro s p hend
    have hop : s.channelEnd p = (s.setLink p { s.linkP p with chanEnd := false }).dropQueue p := if_pos hend
    rw [hop]
    refine ⟨fun x => ?_, ?_⟩
    · rw [State.dropQueue_queue]
      simp
    · rw [State.linkP_see (State.dropQueue_see _ _ (by simp)), State.linkP_setLink_self]
  · intro s w p v ha hok
    have hop : (if eqOk v then (s.fresh.setReg O.linkTxEq p v, 0) else (s.fresh, 0x0310)) =
        (s.fresh.setReg O.linkTxEq p v, 0) := if_pos hok
    refine runs_of_write (exec_txEqWrite s w p v) ha hop ?_
    exact ⟨stored_of _ ha (by decide) (by decide) (State.reg_setReg_self _ _ _ _)
      ((OnlyElems.refl _ s.fresh).setReg v (s.gate_elem ha.1) (by simp)), State.record_linkq _ _ _ _⟩
  · intro s w v ha htok hidle
    obtain ⟨u, hop, hreg⟩ := sdIslandOp_accepts (s := s.fresh) htok hidle
    refine runs_of_write (exec_sdIslandEnWrite s w v) ha hop ⟨?_, rfl⟩
    rw [State.reg_write _ _ _ _ _ (by decide) (by decide), hreg]
  · intro s k hk hnext hkeep
    exact runs_of_runIn (exec_sdIslandReady s k) hk (State.islandReadyOp_next (s := s.fresh) hnext hkeep)

end Sys2Proof.Machine

/-! Received link frames (Table 2-11, R50, R62, R77, R80): the third miss, and what a frame that is decoded counts and
leaves (O31). -/

namespace Sys2Proof.Machine

section
variable {s : State} {p : Nat}

/-! ### The frame at its expected position -/

/-- The differences of the FAW of received bits. -/
def fawMisses (raw : List Bool) : Nat := fawDiff (BitVec.ofNat 96 (ofBits (raw.take 96)))

/-- The port has moved on to where the next frame is expected. -/
def State.onward (s : State) (p : Nat) : State :=
  s.setLink p { s.linkP p with pos := (s.linkP p).pos + frameBits (s.rxVer p) }

theorem State.rxFrame_elsewhere {f : RxFrame} (h : f.lane.at_ ≠ (s.linkP p).pos) : s.rxFrame p f = s := by
  simp [State.rxFrame, h]

theorem State.rxFrame_eq {f : RxFrame} (hrun : s.running p = true) (hal : s.aligned p = true)
    (hat : f.lane.at_ = (s.linkP p).pos) : s.rxFrame p f =
      (if ((s.onward p).flint p (fawMisses (s.rxRaw p f.lane))).2 then
        ((s.onward p).flint p (fawMisses (s.rxRaw p f.lane))).1.rxTake p (fawMisses (s.rxRaw p f.lane)) f.stamp
          (s.rxRaw p f.lane)
      else ((s.onward p).flint p (fawMisses (s.rxRaw p f.lane))).1).rxResetDue p :=
  if_neg (by simp [hrun, hal, hat])

theorem State.rxFrame_lost {f : RxFrame} (hrun : s.running p = true) (hal : s.aligned p = true)
    (hat : f.lane.at_ = (s.linkP p).pos) (hst : s.reg O.portAlignState p = 5)
    (hmiss : 3 < fawMisses (s.rxRaw p f.lane)) :
    s.rxFrame p f = ((s.onward p).unalign p 1 true).rxResetDue p := by
  have hflint : (s.onward p).flint p (fawMisses (s.rxRaw p f.lane)) = ((s.onward p).unalign p 1 true, false) := by
    rw [State.flint, if_neg (Nat.not_le.mpr hmiss), if_pos (by exact hst)]
  rw [State.rxFrame_eq hrun hal hat, hflint, if_neg Bool.false_ne_true]

/-- Flint's state after a frame that keeps alignment. -/
def State.stayed (s : State) (p d : Nat) : State :=
  if d ≤ 3 then (s.setLink p { s.linkP p with cands := [] }).setReg O.portAlignState p 3
  else s.setReg O.portAlignState p (s.reg O.portAlignState p + 1)

theorem State.rxFrame_taken {f : RxFrame} (hrun : s.running p = true) (hal : s.aligned p = true)
    (hat : f.lane.at_ = (s.linkP p).pos)
    (hkeep : fawMisses (s.rxRaw p f.lane) ≤ 3 ∨ s.reg O.portAlignState p ≠ 5) :
    s.rxFrame p f = (((s.onward p).stayed p (fawMisses (s.rxRaw p f.lane))).rxTake p (fawMisses (s.rxRaw p f.lane))
      f.stamp (s.rxRaw p f.lane)).rxResetDue p := by
  have hflint : (s.onward p).flint p (fawMisses (s.rxRaw p f.lane)) =
      ((s.onward p).stayed p (fawMisses (s.rxRaw p f.lane)), true) := by
    rw [State.flint, State.stayed]
    split
    · rfl
    · rename_i hmiss
      exact if_neg (hkeep.resolve_left hmiss)
  rw [State.rxFrame_eq hrun hal hat, hflint, if_pos rfl]

theorem State.stayed_alignState (d : Nat) : (s.stayed p d).reg O.portAlignState p =
    if d ≤ 3 then 3 else s.reg O.portAlignState p + 1 := by
  rw [State.stayed]
  split <;> exact State.reg_setReg_self _ _ _ _

theorem State.stayed_see (d : Nat) {z : View} (h : z.place ∉ [.obj O.portAlignState, .part .link]) :
    (s.stayed p d).see z = s.see z := by
  simp only [notMem_cons, notMem_nil, and_true] at h
  rw [State.stayed]
  simp [↓ite_see, h]

theorem State.onward_see {z : View} (h : z.place ≠ .part .link) : (s.onward p).see z = s.see z :=
  State.setLink_see _ _ _ h

/-! ### What each stage leaves of the link state -/

/-- Where the next frame is expected, the COMMIT word received last, and a version that waits. -/
def LinkP.course (l : LinkP) : Nat × Nat × Bool := (l.pos, l.rxCount, l.rxReset)

theorem State.stayed_course (d : Nat) : ((s.stayed p d).linkP p).course = (s.linkP p).course := by
  rw [State.stayed]
  split
  · rw [State.linkP_setReg, State.linkP_setLink_self]
    rfl
  · rfl

theorem State.rxFec_course (d corr unc stamp : Nat) :
    ((s.rxFec p d corr unc stamp).linkP p).course = (s.linkP p).course := by
  rw [State.rxFec, State.linkP_setLink_self]
  rfl

theorem State.putRun_linkP (i e : Nat) (r : Run) : (if r.n = 3 then s.setReg i e r.val else s).linkP p = s.linkP p := by
  split <;> rfl

theorem State.rxWords_course (v : RxView) : ((s.rxWords p v).linkP p).course = (s.linkP p).course := by
  have hloop (a : State) : (foldRange 8 (fun s i => if s.refPortOf i = p then s.loopCheck i else s) a).linkP p =
      a.linkP p := State.linkP_see (foldRange_see 8 _ a fun b i => by simp [↓ite_see]) p
  unfold State.rxWords
  rw [State.linkP_see (State.tieFails_see _ (by simp)), hloop, State.putRun_linkP, State.putRun_linkP,
    State.putRun_linkP]
  split
  · rw [State.putRun_linkP, State.putRun_linkP, State.linkP_setLink_self]
    rfl
  · rw [State.putRun_linkP, State.linkP_setLink_self]
    rfl

theorem State.rxMsg_course (v : RxView) (stamp : Nat) : ((s.rxMsg p v stamp).linkP p).course = (s.linkP p).course := by
  have hput (a : List Byte) (q : Option Nat) :
      ((s.setLink p { s.linkP p with msgAsm := a, msgSeq := q }).linkP p).course = (s.linkP p).course := by
    rw [State.linkP_setLink_self]
    rfl
  have hkeeper (a : State) (i : Nat) (f : List Byte) (t : Int) : (a.toKeeper i f t).linkP p = a.linkP p :=
    State.linkP_see (State.toKeeper_see _ _ _ _) p
  simp only [State.rxMsg]
  generalize (if v.ver = 2 then 127 else 95) = words
  split
  · exact hput _ _
  split
  · exact hput _ _
  generalize (if bit (v.word (msgAt v.ver)) 47 = true then some ([] : List Byte) else _) = go
  cases go with
  | none => exact hput _ _
  | some old =>
    dsimp only
    split
    · split
      · rw [hkeeper]
        exact hput _ _
      · exact hput _ _
    · split
      · exact hput _ _
      · exact hput _ _

/-! ### A frame that is decoded -/

/-- The stages between what the codewords count and the handshake word. -/
def State.rxBody (s : State) (p : Nat) (v : RxView) (corr stamp : Nat) : State :=
  let s := s.rxWords p v
  let s := if (s.linkP p).carries then
      s.rxGrains p v.ver v.field v.pay (fun g => BitVec.ofNat 48 (v.word (njoAt v.ver g)))
    else s
  ((s.rxTime p v stamp).rxMsg p v stamp).lineErrors p v corr

theorem State.rxTake_eq (d stamp : Nat) (raw : List Bool) {cs : List CodeR} (hcs : decodeRaw (s.rxVer p) raw = cs) :
    s.rxTake p d stamp raw =
      ((((s.rxFec p d (corrected cs) (uncorrectable cs) stamp).rxFsn p (rxView (s.rxVer p) cs)).rxBody p
        (rxView (s.rxVer p) cs) (corrected cs) stamp).rxHandshake p (rxView (s.rxVer p) cs)
        (s.reg O.portRxFsn p)) := by
  subst hcs
  rfl

theorem State.rxBody_see (v : RxView) (corr stamp : Nat) {i e : Nat} (h : i = O.portFecCorr ∨ i = O.portFecUncorr ∨
    i = O.portRxFsn ∨ i = O.portAlignState) : (s.rxBody p v corr stamp).reg i e = s.reg i e := by
  have hi : ∀ j ∈ [O.eventCount, O.eventLastTime, O.eventLatch, O.hdpStats, O.portRxPref, O.portRxQl, O.portRxStatus,
      O.refInputState, O.refTied, O.timeGridResidual, O.grainChanged, O.grainRxJust, O.grainRxPtr, O.grainRxState,
      O.tallyOvfCount, O.maintTokenHolder, O.maintTokenSince, O.mapBoundaryFsn, O.mapResult, O.mapState,
      O.refDcoOffset, O.refInputPhase, O.timeServoFreq, O.timeServoOffset, O.timeTcStats, O.assayActive,
      O.assayDropped, O.assayErrors, O.assayQueueLen, O.assayTestResult], i ≠ j := by
    rcases h with rfl | rfl | rfl | rfl <;> decide
  simp only [List.forall_mem_cons, List.not_mem_nil, false_imp_iff, implies_true, and_true] at hi
  simp only [State.rxBody]
  rw [reg_see, State.lineErrors_see _ _ _ _ (by simp [hi]), State.rxMsg_see _ _ _ _ (by simp),
    State.rxTime_see _ _ _ _ (by simp [hi])]
  split
  · rw [State.rxGrains_see _ _ _ _ _ _ (by simp [hi]), State.rxWords_see _ _ _ (by simp [hi])]
    rfl
  · rw [State.rxWords_see _ _ _ (by simp [hi])]
    rfl

theorem State.rxBody_course (v : RxView) (corr stamp : Nat) :
    ((s.rxBody p v corr stamp).linkP p).course = (s.linkP p).course := by
  simp only [State.rxBody]
  rw [State.linkP_see (State.lineErrors_see _ _ _ _ (by simp)), State.rxMsg_course,
    State.linkP_see (State.rxTime_see _ _ _ _ (by simp))]
  split
  · rw [State.linkP_see (State.rxGrains_see _ _ _ _ _ _ (by simp)), State.rxWords_course]
  · rw [State.rxWords_course]

theorem State.rxFsn_fsn (v : RxView) :
    (s.rxFsn p v).reg O.portRxFsn p = (v.valid 2).getD ((s.reg O.portRxFsn p + 1) % 2 ^ 48) := by
  rw [State.rxFsn, State.reg_bump_obj _ (by decide), State.reg_setReg_self]
  cases v.valid 2 <;> rfl

theorem State.rxFec_counts (d corr unc stamp : Nat) :
    (s.rxFec p d corr unc stamp).reg O.portFecCorr p = (s.reg O.portFecCorr p + corr) % 2 ^ 48 ∧
    (s.rxFec p d corr unc stamp).reg O.portFecUncorr p = (s.reg O.portFecUncorr p + unc) % 2 ^ 48 := by
  rw [State.rxFec, State.setLink_reg, State.setLink_reg, State.reg_bump_obj _ (by decide), State.reg_bump_self,
    State.reg_bump_self, State.reg_bump_obj _ (by decide)]
  exact ⟨rfl, rfl⟩

/-- A frame without a valid handshake word, that follows no COMMIT word, changes no version. -/
theorem State.rxHandshake_silent {v : RxView} (prev : Nat) (hv : v.valid 3 = none) (hcount : (s.linkP p).rxCount ≠ 2) :
    s.rxHandshake p v prev = s.setLink p { s.linkP p with rxCount := 0 } := by
  simp [State.rxHandshake, hv, State.rxCommit, hcount]

theorem State.rxResetDue_of_not_waiting (h : (s.linkP p).rxReset = false) : s.rxResetDue p = s := by
  simp [State.rxResetDue, h]

theorem State.negDrop_rxReset : ((s.negDrop p).linkP p).rxReset = (s.linkP p).rxReset := by
  simp only [State.negDrop]
  split <;> simp

/-- A loss of alignment outside DOWN keeps the candidates, and a version that waits. -/
theorem State.unalign_loss_linkP {st : Nat} (hst : st ≠ 0) :
    ((s.unalign p st true).linkP p).cands = (s.linkP p).cands ∧
    ((s.unalign p st true).linkP p).rxReset = (s.linkP p).rxReset := by
  simp only [State.unalign, if_true, hst, if_false]
  rw [State.negDrop_cands, State.negDrop_rxReset, State.linkP_see (State.raise_see _ _ (by simp)),
    State.linkP_see (State.streamOff_see _ _ (by simp)), State.linkP_see (State.ifaceDown_see _ _ (by simp)),
    State.linkP_see (State.portAis_see _ _ (by simp)), State.linkP_setLink_self]
  exact ⟨rfl, rfl⟩

theorem State.stayed_rxVer (d : Nat) : ((s.onward p).stayed p d).rxVer p = s.rxVer p :=
  (State.rxVer_see (State.stayed_see _ (by simp))).trans (State.setLink_rxVer _)

section
variable {f : RxFrame} {cs : List CodeR} (hrun : s.running p = true) (hal : s.aligned p = true)
  (hat : f.lane.at_ = (s.linkP p).pos)
  (hkeep : fawMisses (s.rxRaw p f.lane) ≤ 3 ∨ s.reg O.portAlignState p ≠ 5)
  (hcs : decodeRaw (s.rxVer p) (s.rxRaw p f.lane) = cs)
include hrun hal hat hkeep hcs

/-- A frame that is taken, stage by stage. -/
theorem State.rxFrame_stages : ∃ prev, s.rxFrame p f =
    (((((((s.onward p).stayed p (fawMisses (s.rxRaw p f.lane))).rxFec p (fawMisses (s.rxRaw p f.lane)) (corrected cs)
      (uncorrectable cs) f.stamp).rxFsn p (rxView (s.rxVer p) cs)).rxBody p (rxView (s.rxVer p) cs) (corrected cs)
      f.stamp).rxHandshake p (rxView (s.rxVer p) cs) prev).rxResetDue p) := by
  refine ⟨((s.onward p).stayed p (fawMisses (s.rxRaw p f.lane))).reg O.portRxFsn p, ?_⟩
  rw [State.rxFrame_taken hrun hal hat hkeep, State.rxTake_eq (cs := cs) _ _ _ (by rw [State.stayed_rxVer, hcs]),
    State.stayed_rxVer]

theorem State.rxFrame_counts :
    (s.rxFrame p f).reg O.portFecCorr p = (s.reg O.portFecCorr p + corrected cs) % 2 ^ 48 ∧
    (s.rxFrame p f).reg O.portFecUncorr p = (s.reg O.portFecUncorr p + uncorrectable cs) % 2 ^ 48 ∧
    (s.rxFrame p f).reg O.portRxFsn p =
      ((rxView (s.rxVer p) cs).valid 2).getD ((s.reg O.portRxFsn p + 1) % 2 ^ 48) := by
  obtain ⟨prev, h⟩ := State.rxFrame_stages hrun hal hat hkeep hcs
  obtain ⟨hcorr, hunc⟩ := ((s.onward p).stayed p (fawMisses (s.rxRaw p f.lane))).rxFec_counts (p := p)
    (fawMisses (s.rxRaw p f.lane)) (corrected cs) (uncorrectable cs) f.stamp
  have hstart {i : Nat} (hi : i ≠ O.portAlignState) :
      ((s.onward p).stayed p (fawMisses (s.rxRaw p f.lane))).reg i p = s.reg i p := by
    rw [reg_see, State.stayed_see _ (by simp [hi]), State.onward_see (by simp)]
    rfl
  rw [hstart (by decide)] at hcorr hunc
  rw [h]
  refine ⟨?_, ?_, ?_⟩
  · rw [reg_see, State.rxResetDue_see _ _ (by simp), State.rxHandshake_see _ _ _ _ (by simp), ← reg_see,
      State.rxBody_see _ _ _ (by simp), reg_see, State.rxFsn_see _ _ _ (by simp)]
    exact hcorr
  · rw [reg_see, State.rxResetDue_see _ _ (by simp), State.rxHandshake_see _ _ _ _ (by simp), ← reg_see,
      State.rxBody_see _ _ _ (by simp), reg_see, State.rxFsn_see _ _ _ (by simp)]
    exact hunc
  · rw [reg_see, State.rxResetDue_see _ _ (by simp), State.rxHandshake_see _ _ _ _ (by simp), ← reg_see,
      State.rxBody_see _ _ _ (by simp), State.rxFsn_fsn, reg_see (State.rxFec _ _ _ _ _ _),
      State.rxFec_see _ _ _ _ _ _ (by simp), ← reg_see, hstart (by decide)]

theorem State.rxFrame_align (hsilent : (rxView (s.rxVer p) cs).valid 3 = none) (hcount : (s.linkP p).rxCount ≠ 2)
    (hreset : (s.linkP p).rxReset = false) :
    (s.rxFrame p f).reg O.portAlignState p =
      (if fawMisses (s.rxRaw p f.lane) ≤ 3 then 3 else s.reg O.portAlignState p + 1) ∧
    ((s.rxFrame p f).linkP p).pos = (s.linkP p).pos + frameBits (s.rxVer p) := by
  obtain ⟨prev, h⟩ := State.rxFrame_stages hrun hal hat hkeep hcs
  let u := ((((s.onward p).stayed p (fawMisses (s.rxRaw p f.lane))).rxFec p (fawMisses (s.rxRaw p f.lane))
    (corrected cs) (uncorrectable cs) f.stamp).rxFsn p (rxView (s.rxVer p) cs)).rxBody p (rxView (s.rxVer p) cs)
    (corrected cs) f.stamp
  have hcourse : (u.linkP p).course = ((s.onward p).linkP p).course := by
    rw [State.rxBody_course, State.linkP_see (State.rxFsn_see _ _ _ (by simp)), State.rxFec_course,
      State.stayed_course]
  have hon : (s.onward p).linkP p = { s.linkP p with pos := (s.linkP p).pos + frameBits (s.rxVer p) } :=
    State.linkP_setLink_self _ _ _
  rw [hon] at hcourse
  simp only [LinkP.course, Prod.mk.injEq] at hcourse
  obtain ⟨hpos, hcnt, hres⟩ := hcourse
  rw [h, State.rxHandshake_silent (s := u) prev hsilent (by rw [hcnt]; exact hcount),
    State.rxResetDue_of_not_waiting (by rw [State.linkP_setLink_self]; exact hres.trans hreset),
    State.linkP_setLink_self, State.setLink_reg]
  refine ⟨?_, hpos⟩
  rw [State.rxBody_see _ _ _ (by simp), reg_see, State.rxFsn_see _ _ _ (by simp),
    State.rxFec_see _ _ _ _ _ _ (by simp), ← reg_see, State.stayed_alignState]
  rfl

end

theorem State.aligned_of_slip2 (h : s.reg O.portAlignState p = 5) : s.aligned p = true := by
  simp [State.aligned, h]

end

/-- Settles O31: a frame is lost, taken or none by where it stands and by its FAW; what is taken goes through the stages
named above. -/
theorem linkFrames : Obligations.LinkFrames := by
  refine ⟨?_, ?_, ?_, ?_⟩
  · rintro s p f d hp hrun hst hat rfl hmiss hreset
    refine runs_of_runIn (exec_rxFrame s p f) hp ?_
    rw [State.rxFrame_lost (s := s.fresh) hrun (State.aligned_of_slip2 hst) hat hst hmiss]
    obtain ⟨hcands, hwait⟩ := State.unalign_loss_linkP (s := s.fresh.onward p) (p := p) (st := 1) (by decide)
    have hon : (s.fresh.onward p).linkP p = { s.linkP p with pos := (s.linkP p).pos + frameBits (s.rxVer p) } :=
      State.linkP_setLink_self _ _ _
    rw [hon] at hcands hwait
    rw [State.rxResetDue_of_not_waiting (hwait.trans hreset)]
    refine ⟨State.unalign_alignState _ _, hcands, ?_, ?_⟩
    · have hfab : s.sys.fabOn = true := State.fabOn_of_running hrun
      rw [State.latched_withQueue]
      exact State.unalign_latched (s := s.fresh.onward p) hfab 1
    · rw [State.reg_withQueue_all, reg_see, State.unalign_see _ _ _ _ (by simp)]
      rfl
  · rintro s p f d cs hp hrun hal hat rfl hkeep hcs
    exact runs_of_runIn (exec_rxFrame s p f) hp (State.rxFrame_counts (s := s.fresh) hrun hal hat hkeep hcs)
  · rintro s p f d cs hp hrun hal hat rfl hkeep hcs hsilent hcount hreset
    exact runs_of_runIn (exec_rxFrame s p f) hp
      (State.rxFrame_align (s := s.fresh) hrun hal hat hkeep hcs hsilent hcount hreset)
  · intro s p f hp hat
    refine runs_of_runIn (exec_rxFrame s p f) hp ?_
    rw [State.rxFrame_elsewhere (s := s.fresh) hat]
    exact ⟨⟨rfl, rfl, rfl, rfl, rfl, rfl, rfl, rfl, rfl, rfl, rfl, rfl, rfl, rfl, rfl, rfl, rfl, rfl, rfl, rfl, rfl, rfl,
      rfl, rfl, rfl, rfl⟩, fun _ _ => rfl⟩

end Sys2Proof.Machine

/-! Tally (chapter 13): presets, the tagger's settings, the runs of the trace and what enters them (O20). -/

namespace Sys2Proof.Machine

/-! ### What stands beside the counters -/

/-- The state of Tally but its counters and samples. -/
def TalS.setup (x : TalS) : TalS := { x with count := [], samples := [] }

/-- Both states run the trace, and tag, alike. -/
def TraceAlike (s t : State) : Prop := t.tal.setup = s.tal.setup

section
variable {s t u : State}

theorem TraceAlike.refl (s : State) : TraceAlike s s := rfl

theorem TraceAlike.of_tal (h : t.tal = s.tal) : TraceAlike s t := congrArg TalS.setup h

theorem TraceAlike.trans (h : TraceAlike s t) (h' : TraceAlike t u) : TraceAlike s u := Eq.trans h' h

theorem TraceAlike.proj {α : Type} (h : TraceAlike s t) (f : TalS → α) (hf : ∀ x : TalS, f x.setup = f x) :
    f t.tal = f s.tal := by
  rw [← hf, ← hf s.tal, show t.tal.setup = s.tal.setup from h]

theorem TraceAlike.wrap (h : TraceAlike s t) : t.tal.wrap = s.tal.wrap := h.proj TalS.wrap fun _ => rfl

theorem TraceAlike.run (h : TraceAlike s t) : t.tal.run = s.tal.run := h.proj TalS.run fun _ => rfl

theorem TraceAlike.cap (h : TraceAlike s t) : t.tal.cap = s.tal.cap := h.proj TalS.cap fun _ => rfl

theorem State.counted_alike (s : State) (i n : Nat) : TraceAlike s (s.counted i n).1 := rfl

theorem State.talRecord_alike (s : State) (i : Nat) : TraceAlike s (s.talRecord i).1 := rfl

theorem State.talSample_alike (s : State) (i : Nat) : TraceAlike s (s.talSample i) := by
  rw [State.talSample]
  split
  · exact (s.talRecord_alike i).trans (State.talRecord_alike _ 9)
  · exact s.talRecord_alike i

theorem State.tally_alike (s : State) (i n : Nat) : TraceAlike s (s.tally i n) := by
  rw [State.tally]
  split
  · exact .refl s
  · dsimp only
    split
    · exact foldRange_keeps (TraceAlike s) _ _ _ (s.counted_alike i n) fun a _ ha => ha.trans (a.talSample_alike i)
    · exact s.counted_alike i n

theorem State.asyShow_alike (s : State) (g : Nat) : TraceAlike s (s.asyShow g) := .of_tal (by simp)

theorem State.testRun_alike (s : State) (g : Nat) (x : TestT) : TraceAlike s (s.testRun g x) := by
  unfold State.testRun
  extract_lets run _ s1 s2 p _ s3
  have h2 : TraceAlike s s2 := by
    refine .trans (t := if x.host then s1.setReg O.assayTestResult 0 1 else s1) ?_ (State.tally_alike _ 94 1)
    split <;> exact .of_tal rfl
  have h3 : TraceAlike s2 s3 := by
    simp only [s3]
    split <;> exact .of_tal rfl
  exact (h2.trans h3).trans (State.asyShow_alike _ g)

theorem State.asyEnqueue_alike (s : State) (x : TestT) : TraceAlike s (s.asyEnqueue x) := by
  unfold State.asyEnqueue
  extract_lets g q _ wait
  have hwait : TraceAlike s (wait.asyShow g) := .trans (.of_tal rfl) (State.asyShow_alike _ _)
  split
  · exact .of_tal (by simp)
  split
  · split
    · extract_lets s1 s2
      have h2 : TraceAlike s s2 := by
        refine .trans (t := if _ then s1.setReg O.assayTestResult 0 4 else s1) ?_ (State.tally_alike _ 95 1)
        split <;> exact .of_tal rfl
      exact h2.trans (.trans (.of_tal (by simp)) (State.testRun_alike _ _ _))
    · exact hwait
  · exact hwait

theorem State.assayError_alike (s : State) (kind res : Nat) : TraceAlike s (s.assayError kind res) := by
  unfold State.assayError
  dsimp only
  split
  · exact .of_tal (by simp)
  · exact .trans (.of_tal (by simp)) (State.asyEnqueue_alike _ _)

theorem State.lineState_tal (s : State) (a st : Nat) : (s.lineState a st).tal = s.tal := by
  rw [State.lineState]
  dsimp only
  split <;> split <;> simp

theorem State.lineLost_tal (s : State) (a : Nat) (lost : Bool) : (s.lineLost a lost).tal = s.tal := by
  rw [State.lineLost, State.lineState_tal]
  simp

theorem State.ddrLinesAis_tal (s : State) : s.ddrLinesAis.tal = s.tal := by
  rw [State.ddrLinesAis]
  split
  · rfl
  · rw [State.raise_tal]
    exact foldl_same (fun b : State => b.tal) _ _ _ fun b x => b.lineLost_tal x.1 false

theorem State.setChannel_tal (s : State) (c v : Nat) : (s.setChannel c v).tal = s.tal := by
  rw [State.setChannel]
  split
  · rfl
  · simp [State.ddrShow]

theorem State.retrain_tal (s : State) (c : Nat) : (s.retrain c).tal = s.tal := by
  rw [State.retrain]
  split
  · rfl
  · rw [State.ddrLinesAis_tal, State.setChannel_tal]

theorem State.spoil_tal (s : State) (mine : LineS → Bool) (record : Bool) : (s.spoil mine record).tal = s.tal := by
  rw [State.spoil]
  dsimp only
  split
  · rfl
  · split <;> rfl

theorem State.ddrErr_alike (s : State) (off : Nat) (bad : Bool) : TraceAlike s (s.ddrErr off bad) := by
  unfold State.ddrErr
  extract_lets c l _ s0 s1 s2 s3 n
  have h1 : TraceAlike s s1 := by
    simp only [s1]
    split
    · exact .trans (t := s0) (.of_tal rfl) (.of_tal (by simp))
    · exact .of_tal (by simp)
  have h2 : TraceAlike s1 s2 := s1.assayError_alike 2 _
  have h3 : TraceAlike s2 s3 := by
    simp only [s3]
    split
    · exact .of_tal (State.spoil_tal _ _ _)
    · exact .refl _
  refine (h1.trans h2).trans (h3.trans ?_)
  split
  · exact .of_tal (State.retrain_tal _ _)
  · exact .refl _

theorem State.ddrBeat_alike (s : State) (o f : Nat) (fix : Bool) : TraceAlike s (s.ddrBeat o f fix).1 := by
  unfold State.ddrBeat
  extract_lets r _ s1
  have h1 : TraceAlike s s1 := .of_tal rfl
  split
  · exact h1
  · exact h1.trans (s1.ddrErr_alike _ _)

theorem State.ddrWrite_alike (s : State) (o : Nat) (d : List (Byte × Bool)) : TraceAlike s (s.ddrWrite o d) := by
  unfold State.ddrWrite
  extract_lets s1 _
  have h1 : TraceAlike s s1 := foldl_keeps (TraceAlike s) _ _ _ (.refl s) fun a u ha => by
    split
    · exact ha
    · exact ha.trans (a.ddrBeat_alike u 0 true)
  exact h1.trans (.of_tal rfl)

theorem State.traceOpen_alike (s : State) (b : Nat) : TraceAlike s (s.traceOpen b).1 := by
  unfold State.traceOpen
  dsimp only
  split
  · exact .refl s
  · exact .of_tal (by simp [State.stale])

theorem State.tracePut_alike (s : State) (i : Nat) (r : List Byte) : TraceAlike s (s.tracePut i r).1 := by
  unfold State.tracePut
  split
  · split
    · exact .refl s
    · extract_lets q
      have hq : TraceAlike s q.1 := s.traceOpen_alike _
      split
      · exact hq
      · refine .trans (t := foldRange 5 _ q.1) ?_ (State.tally_alike _ 72 5)
        exact foldRange_keeps (TraceAlike s) 5 _ q.1 hq fun a _ ha => ha
  · extract_lets o serves
    split
    · exact .trans (s.ddrWrite_alike _ _) (State.tally_alike _ _ _)
    · exact .refl s

end

section
variable {s : State}

/-! ### Writes -/

theorem presetOp_accepts {i v : Nat} (h : classCounter i = false) :
    presetOp i v s = ({ s with tal := { s.tal with count := SMap.set 0 s.tal.count i v } }, 0) := by
  simp [presetOp, h]

/-- The state of the run that a write of TALLY.TRACE_CTRL starts: what it will hold, and where. -/
def State.traceStart (s : State) (wrap : Bool) : TalS :=
  { s.tal with run := true, wrap := wrap, ending := false, dest := s.reg O.tallyTraceDest, banks := s.ownerBanks 6,
               base := s.traceBase, cap := s.traceRoom }

theorem traceStartOp_accepts {h : Nat} {wrap : Bool} (hroom : s.traceRoom ≠ 0) (hrun : s.tal.run = false)
    (htok : s.tokFree 6 h = true) : traceStartOp h wrap s =
      ((((({ s with tal := s.traceStart wrap } : State).actStart 6 h).setReg O.tallyTraceState 0 1).setReg
        O.tallyTraceCount 0 0).setReg O.tallyTraceOldest 0 0, 0) := by
  simp only [traceStartOp, hroom, hrun, htok, if_false, Bool.not_true, Bool.or_self, Bool.false_eq_true]
  rfl

/-- A run that has been asked for and can start is on, with its registers at their first values. -/
theorem traceStart_runs {c : Instr} {w : Who} {v : Nat} {wrap : Bool}
    (hc : exec c s = s.run fun s => s.writeTraceCtrl w v) (hop : traceCtrlOp (holderOf w) v = traceStartOp (holderOf w) wrap)
    (ha : Allowed s w O.tallyTraceCtrl 0 v) (hroom : s.traceRoom ≠ 0) (hrun : s.tal.run = false)
    (htok : s.tokFree 6 (holderOf w) = true) : Runs c s fun t =>
      t.tal.run = true ∧ t.tal.wrap = wrap ∧ t.tal.cap = s.traceRoom ∧ t.reg O.tallyTraceState = 1 ∧
      t.reg O.tallyTraceCount = 0 ∧ t.reg O.tallyTraceOldest = 0 ∧ t.reg O.maintTokenHolder 6 = holderOf w ∧
      t.out.status = 0 := by
  refine runs_of_write hc ha ((congrFun hop s.fresh).trans (traceStartOp_accepts (s := s.fresh) hroom hrun htok)) ?_
  have htal (u : State) : (((u.record O.tallyTraceCtrl 0 v).answer 0).withQueue s.pending).tal = u.tal := u.record_tal _ _ _
  rw [htal, State.setReg_tal, State.setReg_tal, State.setReg_tal, State.actStart_tal]
  refine ⟨rfl, rfl, rfl, ?_, ?_, ?_, ?_, rfl⟩
  · rw [State.reg_write _ _ _ _ _ (by decide) (by decide), State.reg_setReg_obj _ (by decide),
      State.reg_setReg_obj _ (by decide), State.reg_setReg_self]
  · rw [State.reg_write _ _ _ _ _ (by decide) (by decide), State.reg_setReg_obj _ (by decide), State.reg_setReg_self]
  · rw [State.reg_write _ _ _ _ _ (by decide) (by decide), State.reg_setReg_self]
  · rw [State.reg_write _ _ _ _ _ (by decide) (by decide), State.reg_setReg_obj _ (by decide),
      State.reg_setReg_obj _ (by decide), State.reg_setReg_obj _ (by decide), State.actStart_holder]

theorem traceStopOp_running (hrun : s.tal.run = true) :
    traceStopOp s = ({ s with tal := { s.tal with ending := true } }, 0) := by
  simp [traceStopOp, hrun]

/-- The tagger's settings: the value stands, and the generator is to be loaded anew. -/
theorem tag_stored {c : Instr} {w : Who} {idx v : Nat} (hc : exec c s = s.run fun s => s.writeTag w idx v)
    (ha : Allowed s w idx 0 v) (hj : idx ≠ O.ledgerJournalSeq) (he : evObj idx = false) :
    Runs c s fun t => Stored s t idx 0 v ∧ t.tal = { s.tal with reload := true } := by
  refine runs_of_write hc ha rfl ⟨?_, State.record_tal _ _ _ _⟩
  refine stored_of _ ha hj he (State.reg_setReg_self _ _ _ _) ?_
  exact ((OnlyElems.refl _ s.fresh).setReg v (by decide) (by simp)).of_regs rfl

/-! ### Tagged words that leave -/

/-- The word with tag `tag` is tracked no longer. -/
def State.landed (s : State) (tag : Nat) : State :=
  { s with tal := { s.tal with flights := s.tal.flights.filter fun y => y.tag != tag } }

/-- A tagged word is sent: it has a destination, and its ticks to the serializer have passed. -/
def State.sent (s : State) (x : TagW) (ser : Nat) : Bool :=
  x.dst ≠ 0xFFFFFF && ser < 65535 && s.elapsed x.tick ser

theorem State.traceRecord_found {x : TagW} {tag rx sps ets ser : Nat}
    (hx : (s.tal.flights.find? fun y => y.tag == tag) = some x) : s.traceRecord tag rx sps ets ser =
      if !s.sent x ser && !s.elapsed x.tick 65535 then s
      else if !s.tal.run then s.landed tag
      else if 64 ≤ s.tal.waiting.length then (s.landed tag).tally 8 1
      else
        ({ s.landed tag with tal := { (s.landed tag).tal with waiting := s.tal.waiting ++
          [s.traceRec x rx sps ets (if s.sent x ser then ser else 0xFFFF)] } }).freeTaken := by
  unfold State.traceRecord
  rw [hx]
  rfl

/-- The record of a word that has left joins the queue of the run. -/
theorem State.traceRecord_joins {x : TagW} {tag rx sps ets ser : Nat}
    (hx : (s.tal.flights.find? fun y => y.tag == tag) = some x)
    (hdue : s.sent x ser = true ∨ s.elapsed x.tick 65535 = true) (hrun : s.tal.run = true)
    (hroom : s.tal.waiting.length < 64) :
    (s.traceRecord tag rx sps ets ser).tal.waiting =
      s.tal.waiting ++ [s.traceRec x rx sps ets (if s.sent x ser then ser else 0xFFFF)] ∧
    (s.traceRecord tag rx sps ets ser).tal.flights = s.tal.flights.filter (fun y => y.tag != tag) ∧
    (s.traceRecord tag rx sps ets ser).regs = s.regs := by
  have hdue' : (!s.sent x ser && !s.elapsed x.tick 65535) = false := by
    rcases hdue with h | h <;> simp [h]
  rw [State.traceRecord_found hx, hdue', hrun, if_neg Bool.false_ne_true, if_neg (by simp),
    if_neg (Nat.not_le.mpr hroom)]
  exact ⟨rfl, rfl, rfl⟩

/-- One that finds 64 waiting is counted, and lost. -/
theorem State.traceRecord_overflows {x : TagW} {tag rx sps ets ser : Nat}
    (hx : (s.tal.flights.find? fun y => y.tag == tag) = some x) (hdue : s.elapsed x.tick 65535 = true)
    (hrun : s.tal.run = true) (hfull : 64 ≤ s.tal.waiting.length) :
    s.traceRecord tag rx sps ets ser = (s.landed tag).tally 8 1 := by
  rw [State.traceRecord_found hx, hdue, hrun, if_neg (by simp), if_neg (by simp), if_pos hfull]

theorem State.traceRecord_waits {x : TagW} {tag rx sps ets ser : Nat}
    (hx : (s.tal.flights.find? fun y => y.tag == tag) = some x) (hdue : s.elapsed x.tick 65535 = false)
    (hsent : s.sent x ser = false) : s.traceRecord tag rx sps ets ser = s := by
  rw [State.traceRecord_found hx, hdue, hsent]
  rfl

/-- A counter that does not overflow rises, and nothing else of Tally or the registers moves. -/
theorem State.tally_one {i : Nat} (hon : s.tal.on = true) (hlow : SMap.get 0 s.tal.count i + 1 < 2 ^ 48) :
    s.tally i 1 = { s with tal := { s.tal with count := SMap.set 0 s.tal.count i (SMap.get 0 s.tal.count i + 1) } } := by
  have hc : s.counted i 1 =
      ({ s with tal := { s.tal with count := SMap.set 0 s.tal.count i (SMap.get 0 s.tal.count i + 1) } }, 0) := by
    simp only [State.counted, hlow, if_true]
  simp only [State.tally, hon, hc]
  simp [foldRange]

/-! ### Records that enter a run -/

theorem State.traceAppend_put {u : State} {r : List Byte}
    (hput : s.tracePut (s.reg O.tallyTraceCount % s.tal.cap) r = (u, true)) :
    s.traceAppend r =
      let t := (u.bump O.tallyTraceCount 0 48).tally 7 1
      if t.tal.wrap then (if t.tal.cap ≤ s.reg O.tallyTraceCount then
        t.setReg O.tallyTraceOldest 0 ((s.reg O.tallyTraceCount + 1) % t.tal.cap) else t)
      else if s.reg O.tallyTraceCount + 1 = t.tal.cap then t.traceEnd 2 else t := by
  simp only [State.traceAppend, hput, Bool.not_true, Bool.false_eq_true, if_false]

section
variable {u : State} {r : List Byte} (hput : s.tracePut (s.reg O.tallyTraceCount % s.tal.cap) r = (u, true))
include hput

/-- The state with the record written and counted. -/
theorem State.traceAppend_counted : TraceAlike s ((u.bump O.tallyTraceCount 0 48).tally 7 1) ∧
    ((u.bump O.tallyTraceCount 0 48).tally 7 1).reg O.tallyTraceCount = (s.reg O.tallyTraceCount + 1) % 2 ^ 48 ∧
    ((u.bump O.tallyTraceCount 0 48).tally 7 1).reg O.tallyTraceOldest = s.reg O.tallyTraceOldest ∧
    ((u.bump O.tallyTraceCount 0 48).tally 7 1).mem = u.mem := by
  have hu : u = (s.tracePut (s.reg O.tallyTraceCount % s.tal.cap) r).1 := (congrArg Prod.fst hput).symm
  have hcount : u.reg O.tallyTraceCount = s.reg O.tallyTraceCount := by
    rw [hu, reg_see, State.tracePut_see _ _ _ (by simp), ← reg_see]
  have hold : u.reg O.tallyTraceOldest = s.reg O.tallyTraceOldest := by
    rw [hu, reg_see, State.tracePut_see _ _ _ (by simp), ← reg_see]
  have halike : TraceAlike s u := by
    rw [hu]
    exact State.tracePut_alike _ _ _
  have hbump : TraceAlike u (u.bump O.tallyTraceCount 0 48) := .of_tal (by simp)
  refine ⟨(halike.trans hbump).trans (State.tally_alike _ 7 1), ?_, ?_, ?_⟩
  · rw [reg_see, State.tally_see _ _ _ (by simp), ← reg_see, State.reg_bump_self, hcount]
  · rw [reg_see, State.tally_see _ _ _ (by simp), ← reg_see, State.reg_bump_obj _ (by decide), hold]
  · exact State.tally_see (z := .part .mem) _ _ _ (by simp)

theorem State.traceAppend_wraps (hwrap : s.tal.wrap = true) :
    (s.traceAppend r).reg O.tallyTraceCount = (s.reg O.tallyTraceCount + 1) % 2 ^ 48 ∧
    (s.traceAppend r).mem = u.mem ∧ (s.traceAppend r).reg O.tallyTraceOldest =
      if s.tal.cap ≤ s.reg O.tallyTraceCount then (s.reg O.tallyTraceCount + 1) % s.tal.cap
      else s.reg O.tallyTraceOldest := by
  obtain ⟨halike, hcount, hold, hmem⟩ := State.traceAppend_counted hput
  rw [State.traceAppend_put hput]
  dsimp only
  rw [halike.wrap, hwrap, if_pos rfl, halike.cap]
  split
  · rw [State.reg_setReg_obj _ (by decide), State.reg_setReg_self]
    exact ⟨hcount, hmem, rfl⟩
  · exact ⟨hcount, hmem, hold⟩

theorem State.traceAppend_fills (hwrap : s.tal.wrap = false) (hrun : s.tal.run = true)
    (hfull : s.reg O.tallyTraceCount + 1 = s.tal.cap) :
    (s.traceAppend r).reg O.tallyTraceCount = (s.reg O.tallyTraceCount + 1) % 2 ^ 48 ∧
    (s.traceAppend r).mem = u.mem ∧ (s.traceAppend r).reg O.tallyTraceState = 2 ∧
    (s.traceAppend r).tal.run = false := by
  obtain ⟨halike, hcount, _, hmem⟩ := State.traceAppend_counted hput
  rw [State.traceAppend_put hput]
  dsimp only
  rw [halike.wrap, hwrap, if_neg Bool.false_ne_true, halike.cap, if_pos hfull, State.traceEnd, halike.run, hrun,
    if_pos rfl, State.actEnd_tal, State.actEnd_mem, State.actEnd_reg _ (by decide) (by decide),
    State.actEnd_reg _ (by decide) (by decide), State.reg_setReg_self, State.reg_setReg_obj _ (by decide)]
  exact ⟨hcount, hmem, rfl, rfl⟩

end
end

/-- Settles O20: presets, settings and run control by their writes; a tagged word by whether it is sent, late or still
on its way; a record by the mode of its run. -/
theorem tallyCommands : Obligations.TallyCommands := by
  have hctrl (u : State) (v : Nat) : u.record O.tallyTraceCtrl 0 v = u := State.record_of_not_carried rfl rfl
  refine ⟨?_, ?_, ?_, ?_, ?_, ?_, ?_, ?_, ?_, ?_, ?_, ?_⟩
  · intro s w i v ha hclass
    have hrec (u : State) : u.record O.tallyPreset i v = u := State.record_of_not_carried rfl rfl
    refine runs_of_write (exec_tallyPreset s w i v) ha (presetOp_accepts (s := s.fresh) hclass) ?_
    rw [hrec]
    exact ⟨SMap.get_set_self _ _ _ _, rfl, fun j hj => SMap.get_set_ne _ _ _ _ hj,
      OnlyElems.run ((OnlyElems.refl _ _).of_regs rfl) s.pending⟩
  · exact fun s w v ha => tag_stored (exec_tagKWrite s w v) ha (by decide) (by decide)
  · exact fun s w v ha => tag_stored (exec_tagSeedWrite s w v) ha (by decide) (by decide)
  · exact fun s w ha hroom hrun htok => traceStart_runs (exec_traceStartWrap s w) rfl ha hroom hrun htok
  · exact fun s w ha hroom hrun htok => traceStart_runs (exec_traceStartStop s w) rfl ha hroom hrun htok
  · intro s w ha hrun
    refine runs_of_write (exec_traceEnd s w) ha (traceStopOp_running (s := s.fresh) hrun) ?_
    rw [hctrl]
    exact ⟨rfl, rfl, OnlyElems.run ((OnlyElems.refl _ _).of_regs rfl) s.pending⟩
  · intro s x tag rx sps ets ser hx hdst hser hdue hrun hroom
    have hsent : s.fresh.sent x ser = true := by
      simp only [State.sent, hdst, hser, ne_eq, not_false_eq_true, decide_true, Bool.and_self, Bool.true_and]
      exact hdue
    obtain ⟨hwait, hfl, hregs⟩ := State.traceRecord_joins (s := s.fresh) (rx := rx) (sps := sps) (ets := ets) hx
      (Or.inl hsent) hrun hroom
    rw [hsent] at hwait
    exact runs_of_run (exec_traceRecord s tag rx sps ets ser)
      ⟨hwait, hfl, OnlyElems.run ((OnlyElems.refl _ _).of_regs hregs) _⟩
  · intro s x tag rx sps ets ser hx hnot hdue hrun hroom
    have hsent : s.fresh.sent x ser = false := by
      rcases hnot with h | h
      · simp [State.sent, h]
      · simp [State.sent, Nat.not_lt.mpr h]
    obtain ⟨hwait, hfl, hregs⟩ := State.traceRecord_joins (s := s.fresh) (rx := rx) (sps := sps) (ets := ets)
      (ser := ser) hx (Or.inr hdue) hrun hroom
    rw [hsent] at hwait
    exact runs_of_run (exec_traceRecord s tag rx sps ets ser)
      ⟨hwait, hfl, OnlyElems.run ((OnlyElems.refl _ _).of_regs hregs) _⟩
  · intro s x tag rx sps ets ser hx hdue hrun hfull hon hlow
    refine runs_of_run (exec_traceRecord s tag rx sps ets ser) ?_
    rw [State.traceRecord_overflows (s := s.fresh) hx hdue hrun hfull,
      State.tally_one (s := s.fresh.landed tag) hon hlow]
    have hcount : SMap.get 0 (SMap.set 0 s.tal.count 8 (SMap.get 0 s.tal.count 8 + 1)) 8 =
        SMap.get 0 s.tal.count 8 + 1 := SMap.get_set_self _ _ _ _
    exact ⟨hcount, rfl, rfl, fun _ _ _ _ => rfl⟩
  · intro s tag rx sps ets ser x hx hdue hnot
    have hsent : s.fresh.sent x ser = false := by
      rcases hnot with h | h | h
      · simp [State.sent, h]
      · simp [State.sent, Nat.not_lt.mpr h]
      · have h' : s.fresh.elapsed x.tick ser = false := h
        simp [State.sent, h']
    refine runs_of_run (exec_traceRecord s tag rx sps ets ser) ?_
    rw [State.traceRecord_waits (s := s.fresh) hx hdue hsent]
    exact ⟨rfl, OnlyElems.run (OnlyElems.refl _ _) _⟩
  · exact fun s u r hput hwrap => State.traceAppend_wraps hput hwrap
  · exact fun s u r hput hwrap hrun hfull => State.traceAppend_fills hput hwrap hrun hfull

end Sys2Proof.Machine

/-! The Crier bus while the device is held in reset (R507): the statement on host access (O29). -/

namespace Sys2Proof.Machine

/-- The block right after power-on, PORST_N still low. -/
def heldInReset : State := { State.reset with sys := { State.reset.sys with porst := true } }

/-- The source of device word 101 is not zero there: no reference input is selected, which the word shows as 15. -/
theorem heldInReset_crierWord : heldInReset.crierWord 101 % 2 ^ 32 ≠ 0 := by decide

/-- Refutes O29: its last clause names no premise on PORST_N. While PORST_N is low, CR_D is low whatever the latch word
holds (R507), so that the bus does not show what a reload takes from the sources. -/
theorem not_hostAccess : ¬ Obligations.HostAccess := by
  intro ⟨_, _, _, _, _, _, _, _, hreload⟩
  obtain ⟨t, ht, hread, -⟩ := hreload heldInReset
  rw [exec_crierLatchReload, State.run_eq] at ht
  cases ht
  exact heldInReset_crierWord (hread 101 (by decide)).symm

end Sys2Proof.Machine

/-! The matrix: resets of masters and REMAP (O28). -/

namespace Sys2Proof.Machine

/-! ### Master reset (R373 to R375, Table 10-9) -/

/-- Master `k` is in reset, and waits for the responses to its granted transactions alone. -/
def State.Entered (s : State) (k : Nat) : Prop :=
  s.reg O.matrixMasterState k = 1 ∧ ∀ x ∈ s.mtx.txns, x.master = k → x.granted = true

theorem State.dmaReset_reg (s : State) (k : Nat) : s.dmaReset.reg O.matrixMasterState k = s.reg O.matrixMasterState k := by
  rw [reg_see, State.dmaReset_see _ (by simp), ← reg_see]

theorem State.dmaReset_mtx (s : State) : s.dmaReset.mtx = s.mtx := State.dmaReset_see (z := .part .mtx) s (by simp)

/-- Null beats change neither the master of a transaction nor its grant. -/
theorem State.beatsNull_txns {s : State} {k : Nat} {x : Txn} (h : x ∈ (s.beatsNull k).mtx.txns) :
    ∃ y ∈ s.mtx.txns, y.master = x.master ∧ y.granted = x.granted := by
  obtain ⟨⟨y, n⟩, hy, rfl⟩ := List.mem_map.mp h
  refine ⟨y, (List.mem_zipIdx' hy).2 ▸ List.getElem_mem _, ?_⟩
  dsimp only
  split_ifs <;> exact ⟨rfl, rfl⟩

/-- Master `k` in reset, before what its reset means to the Ledger DMA. -/
def State.enterTxns (s : State) (k : Nat) : State :=
  ((({ s with mtx := { s.mtx with txns := s.mtx.txns.filter fun x => x.master != k || x.granted
                                  t5 := SMap.erase s.mtx.t5 k, t5r := SMap.erase s.mtx.t5r k } } : State).beatsNull
    k).setReg O.matrixMasterState k 1).raise 467

theorem State.masterEnter_of_running {s : State} {k : Nat} (h : s.reg O.matrixMasterState k ≠ 1) :
    s.masterEnter k = if k = 3 then (s.enterTxns k).dmaReset else s.enterTxns k := if_neg h

theorem State.masterEnter_mtx {s : State} {k : Nat} (h : s.reg O.matrixMasterState k ≠ 1) :
    (s.masterEnter k).mtx = (s.enterTxns k).mtx := by
  rw [State.masterEnter_of_running h]
  split_ifs
  exacts [State.dmaReset_mtx _, rfl]

theorem State.enterTxns_txns {s : State} {k : Nat} {x : Txn} (h : x ∈ (s.enterTxns k).mtx.txns) :
    ∃ y ∈ s.mtx.txns, y.master = x.master ∧ y.granted = x.granted ∧ (x.master = k → x.granted = true) := by
  rw [State.enterTxns, State.raise_mtx, State.setReg_mtx] at h
  obtain ⟨y, hy, hm, hg⟩ := State.beatsNull_txns h
  obtain ⟨hmem, hkeep⟩ := List.mem_filter.mp hy
  refine ⟨y, hmem, hm, hg, fun hk => ?_⟩
  simpa [hm, hg, hk] using hkeep

theorem State.masterEnter_reg {s : State} {k : Nat} (j : Nat) (hk : k < 8) (hj : j < 8)
    (h : s.reg O.matrixMasterState k ≠ 1) :
    (s.masterEnter k).reg O.matrixMasterState j = if j = k then 1 else s.reg O.matrixMasterState j := by
  have hlast : (s.masterEnter k).reg O.matrixMasterState j = (s.enterTxns k).reg O.matrixMasterState j := by
    rw [State.masterEnter_of_running h]
    split_ifs
    exacts [State.dmaReset_reg _ _, rfl]
  rw [hlast, State.enterTxns, State.raise_reg _ (by decide)]
  split_ifs with hjk
  · rw [hjk, State.reg_setReg_self]
  · rw [State.reg_setReg_ne _ (by omega) (by omega) (by simpa using hjk), reg_see, State.beatsNull_see _ _ (by simp)]
    rfl

theorem State.masterEnter_entered {s : State} {k : Nat} (hk : k < 8) (h : s.reg O.matrixMasterState k ≠ 1) :
    (s.masterEnter k).Entered k := by
  refine ⟨by rw [State.masterEnter_reg k hk hk h, if_pos rfl], fun x hx => ?_⟩
  rw [State.masterEnter_mtx h] at hx
  obtain ⟨_, _, _, _, hgranted⟩ := State.enterTxns_txns hx
  exact hgranted

theorem State.Entered.masterEnter {s : State} {j k : Nat} (hj : j < 8) (hk : k < 8) (hs : s.Entered j)
    (h : s.reg O.matrixMasterState k ≠ 1) : (s.masterEnter k).Entered j := by
  obtain ⟨hreg, htxns⟩ := hs
  refine ⟨by rw [State.masterEnter_reg j hk hj h, hreg, ite_self], fun x hx hm => ?_⟩
  rw [State.masterEnter_mtx h] at hx
  obtain ⟨y, hy, hmy, hgy, -⟩ := State.enterTxns_txns hx
  exact hgy ▸ htxns y hy (hmy.trans hm)

/-- The masters of `v` that have entered reset, after the first `n`. -/
structure ResetTo (s : State) (v n : Nat) (t : State) : Prop where
  entered : ∀ k < 8, k < n → bit v k = true → t.Entered k
  others : ∀ k < 8, n ≤ k ∨ bit v k = false → t.reg O.matrixMasterState k = s.reg O.matrixMasterState k

theorem ResetTo.step {s t : State} {v n : Nat} (hn : n < 8) (h : ResetTo s v n t)
    (hfree : bit v n = true → s.reg O.matrixMasterState n ≠ 1) :
    ResetTo s v (n + 1) (if bit v n then t.masterEnter n else t) := by
  cases hb : bit v n
  · simp only [Bool.false_eq_true, if_false]
    refine ⟨fun k hk hkn hv => h.entered k hk ?_ hv, fun k hk ho => h.others k hk ?_⟩
    · have : k ≠ n := fun e => by simp [e, hb] at hv
      omega
    · exact ho.imp_left fun h => by omega
  · simp only [if_true]
    have hrun : t.reg O.matrixMasterState n ≠ 1 := by
      rw [h.others n hn (.inl le_rfl)]
      exact hfree hb
    refine ⟨fun k hk hkn hv => ?_, fun k hk ho => ?_⟩
    · rcases Nat.lt_succ_iff_lt_or_eq.mp hkn with hlt | rfl
      · exact (h.entered k hk hlt hv).masterEnter hk hn hrun
      · exact State.masterEnter_entered hn hrun
    · have hne : k ≠ n := by
        rintro rfl
        rcases ho with ho | ho
        · omega
        · simp [hb] at ho
      rw [State.masterEnter_reg k hn hk hrun, if_neg hne, h.others k hk (ho.imp_left fun h => by omega)]

theorem masterResetOp_enters {s : State} {v : Nat} (hv : v % 4 = 0)
    (hfree : ∀ k < 8, bit v k = true → s.reg O.matrixMasterState k ≠ 1) :
    ∃ t, masterResetOp v s = (t, 0) ∧ ResetTo s v 8 t := by
  have hnone : (List.range 8).any (fun k => bit v k && s.reg O.matrixMasterState k == 1) = false := by
    simpa [List.any_eq_false] using hfree
  refine ⟨_, by rw [masterResetOp, if_neg (by simpa using hv), hnone, if_neg Bool.false_ne_true], ?_⟩
  exact foldRange_induction (ResetTo s v) ⟨fun _ _ h => by omega, fun _ _ _ => rfl⟩ fun n t hn h =>
    h.step hn (hfree n hn)

/-- The clause on MATRIX.MASTER_RESET. -/
theorem masterReset_enters {s : State} {w : Who} {v : Nat} (ha : Allowed s w O.matrixMasterReset 0 v) (hv : v % 4 = 0)
    (hfree : ∀ k < 8, bit v k = true → s.reg O.matrixMasterState k ≠ 1) :
    Runs (.masterReset w v) s fun t =>
      t.out.status = 0 ∧
      (∀ k < 8, bit v k = true →
        t.reg O.matrixMasterState k = 1 ∧ ∀ x ∈ t.mtx.txns, x.master = k → x.granted = true) ∧
      (∀ k < 8, bit v k = false → t.reg O.matrixMasterState k = s.reg O.matrixMasterState k) := by
  obtain ⟨u, hop, hu⟩ := masterResetOp_enters (s := s.fresh) hv hfree
  refine runs_of_write (exec_masterReset s w v) ha hop ⟨rfl, fun k hk hb => ?_, fun k hk hb => ?_⟩
  · obtain ⟨hreg, htxns⟩ := hu.entered k hk hk hb
    refine ⟨(State.reg_write _ _ _ _ _ (by decide) (by decide)).trans hreg, ?_⟩
    have hmtx : (((u.record O.matrixMasterReset 0 v).answer 0).withQueue s.pending).mtx = u.mtx :=
      State.see_write (z := .part .mtx) _ _ _ _ _ (by simp)
    rwa [hmtx]
  · rw [State.reg_write _ _ _ _ _ (by decide) (by decide)]
    exact hu.others k hk (.inr hb)

/-- The clause on the end of a reset (R374). -/
theorem masterQuiesced_ends {s : State} {k : Nat} (hk : k < 8) (hreset : s.reg O.matrixMasterState k = 1)
    (hnone : s.txnsOf k = []) :
    Runs (.masterQuiesced k) s fun t =>
      t.reg O.matrixMasterState k = 2 ∧ (s.sys.fabOn = true → t.latched 468 = true) ∧
      OnlyElems [(O.matrixMasterState, k)] s t := by
  have hquiet : s.fresh.masterQuiet k = (s.fresh.setReg O.matrixMasterState k 2).raise 468 := by
    refine if_pos ?_
    have hnone' : s.fresh.txnsOf k = [] := hnone
    rw [hnone']
    simpa using hreset
  refine runs_of_runIn (exec_masterQuiesced s k) hk ?_
  rw [hquiet]
  refine ⟨?_, fun hon => ?_, ?_⟩
  · rw [State.reg_withQueue_all, State.raise_reg _ (by decide), State.reg_setReg_self]
  · rw [State.latched_withQueue]
    exact State.latched_raise_self (.inr hon)
  · exact OnlyElems.run (((OnlyElems.refl _ _).setReg 2 (by omega) (by simp)).raise 468) _

/-! ### REMAP (R362, R363, R376) -/

/-- MATRIX.REMAP holds `v`, and the change waits. -/
def State.remapAsked (s : State) (v : Nat) : State :=
  { (s.setReg O.matrixRemap 0 v) with mtx := { s.mtx with remapReq := some v } }

theorem remapOp_asks {s : State} {v : Nat} (hsel : s.reg O.matrixMapsel ≠ 0)
    (h : s.mtx.remapReq ≠ none ∨ s.mtx.remapped ≠ (v == 1)) : remapOp v s = (s.remapAsked v, 0) := by
  have hchange : (s.mtx.remapReq.isNone && s.mtx.remapped == (v == 1)) = false := by
    rcases h with h | h
    · simp [Option.isNone_eq_false_iff.mpr (Option.isSome_iff_ne_none.mpr h)]
    · simp only [Bool.and_eq_false_iff, beq_eq_false_iff_ne]
      exact .inr h
  rw [remapOp, if_neg hsel, hchange, if_neg Bool.false_ne_true]
  rfl

theorem remapOp_same {s : State} {v : Nat} (hsel : s.reg O.matrixMapsel ≠ 0) (hreq : s.mtx.remapReq = none)
    (hmap : s.mtx.remapped = (v == 1)) : remapOp v s = (s, 0) := by
  rw [remapOp, if_neg hsel, hreq, hmap]
  simp

/-- The clause on a change of MATRIX.REMAP. -/
theorem remapWrite_asks {s : State} {w : Who} {v : Nat} (ha : Allowed s w O.matrixRemap 0 v)
    (hsel : s.reg O.matrixMapsel ≠ 0) (h : s.mtx.remapReq ≠ none ∨ s.mtx.remapped ≠ (v == 1)) :
    Runs (.remapWrite w v) s fun t =>
      Stored s t O.matrixRemap 0 v ∧ t.mtx = { s.mtx with remapReq := some v } := by
  refine runs_of_write (exec_remapWrite s w v) ha (remapOp_asks (s := s.fresh) hsel h) ⟨?_, ?_⟩
  · refine stored_of _ ha (by decide) (by decide) (State.reg_setReg_self ..) ?_
    exact ((OnlyElems.refl _ s.fresh).setReg v (by decide) (by simp)).of_regs rfl
  · exact State.see_write (z := .part .mtx) _ _ _ _ _ (by simp)

/-- The clause on a write of MATRIX.REMAP that changes nothing. -/
theorem remapWrite_same {s : State} {w : Who} {v : Nat} (ha : Allowed s w O.matrixRemap 0 v)
    (hsel : s.reg O.matrixMapsel ≠ 0) (hreq : s.mtx.remapReq = none) (hmap : s.mtx.remapped = (v == 1)) :
    Runs (.remapWrite w v) s fun t =>
      t.mtx = s.mtx ∧ t.out.status = 0 ∧ OnlyElems [(O.ledgerJournalSeq, 0)] s t := by
  refine runs_of_write (exec_remapWrite s w v) ha (remapOp_same (s := s.fresh) hsel hreq hmap) ⟨?_, rfl, ?_⟩
  · exact State.see_write (z := .part .mtx) _ _ _ _ _ (by simp)
  · exact ((OnlyElems.refl _ s.fresh).record _ _ _ (by simp)).of_regs rfl

/-- What goes on at the matrix does not change REMAP. -/
theorem State.flushRefused_remap (s : State) : s.flushRefused.mtx.remapReq = s.mtx.remapReq ∧
    s.flushRefused.mtx.remapped = s.mtx.remapped := by
  refine foldl_keeps (fun t : State => t.mtx.remapReq = s.mtx.remapReq ∧ t.mtx.remapped = s.mtx.remapped) _ _ s
    ⟨rfl, rfl⟩ fun t x ht => ?_
  have hlast (u : State) : (u.answerTxn x).mtx = u.mtx := State.answerTxn_see (z := .part .mtx) u x
  rw [hlast]
  exact ht

theorem State.mtxDone_remap (s : State) : s.mtxDone.mtx.remapReq = s.mtx.remapReq ∧
    s.mtxDone.mtx.remapped = s.mtx.remapped :=
  foldRange_keeps (fun t : State => t.mtx.remapReq = s.mtx.remapReq ∧ t.mtx.remapped = s.mtx.remapped) _ _ s
    ⟨rfl, rfl⟩ fun t _ ⟨hreq, hmap⟩ =>
      ⟨(t.settleMtx false).flushRefused_remap.1.trans hreq, (t.settleMtx false).flushRefused_remap.2.trans hmap⟩

theorem State.settleMtx_idle {s : State} {late : Bool} (h : s.mtx.txns = []) : s.settleMtx late = s := by
  rw [State.settleMtx, h, State.settleTxns, ← h]

/-- With no transaction at the matrix, nothing goes on there. -/
theorem State.mtxDone_idle {s : State} (h : s.mtx.txns = []) : s.mtxDone = s := by
  have hsettle : s.settleMtx false = s := State.settleMtx_idle h
  have hflush : s.flushRefused = s := State.flushRefused_of_noneRefused fun x hx => by simp [h] at hx
  rw [State.mtxDone, h, List.length_nil, foldRange_succ]
  have hloop : foldRange 0 (fun (t : State) _ => (t.settleMtx false).flushRefused) s = s := rfl
  rw [hloop, hsettle, hflush, hsettle]

/-- REMAP as `v` asks. -/
def State.remapTaken (s : State) (v : Nat) : State :=
  { s with mtx := { s.mtx with remapReq := none, remapped := v == 1 } }

theorem State.remapApplied_takes {s : State} {v : Nat} (hreq : s.mtx.remapReq = some v)
    (hidle : ∀ x ∈ s.mtx.txns, x.granted = true → 2 ≤ x.target) :
    s.remapApplied = ((s.remapTaken v).raise 469).mtxDone := by
  have hnone : (s.mtx.txns.any fun x => x.granted && decide (x.target ≤ 1)) = false := by
    simp only [List.any_eq_false, Bool.and_eq_true, decide_eq_true_eq, not_and]
    intro x hx hg
    have := hidle x hx hg
    omega
  rw [State.remapApplied, hreq]
  simp only [hnone, Bool.false_eq_true, if_false]
  rfl

/-- The clause on a change that takes effect. -/
theorem remapApplied_takes {s : State} {v : Nat} (hreq : s.mtx.remapReq = some v)
    (hidle : ∀ x ∈ s.mtx.txns, x.granted = true → 2 ≤ x.target) :
    Runs .remapApplied s fun t =>
      t.mtx.remapReq = none ∧ (t.mtx.remapped = true ↔ v = 1) ∧ (s.sys.fabOn = true → t.latched 469 = true) ∧
      OnlyRegs [O.matrixErrCount] s t := by
  have htakes := State.remapApplied_takes (s := s.fresh) hreq hidle
  obtain ⟨hnone, hmap⟩ := ((s.fresh.remapTaken v).raise 469).mtxDone_remap
  refine runs_of_run (exec_remapApplied s) ?_
  rw [htakes]
  refine ⟨?_, ?_, fun hon => ?_, fun i e hev hi => ?_⟩
  · exact hnone.trans (by rw [State.raise_mtx]; rfl)
  · refine (Eq.congr_left (hmap.trans ?_)).trans (beq_iff_eq (a := v) (b := 1))
    rw [State.raise_mtx]
    rfl
  · rw [State.latched_withQueue, State.latched_see (State.mtxDone_see _ (by simp))]
    exact State.latched_raise_self (.inr hon)
  · rw [State.reg_withQueue_all, reg_see, State.mtxDone_see _ (by simpa using hi), ← reg_see, State.raise_reg _ hev]
    rfl

/-- The clause on a change with no transaction at the matrix. -/
theorem remapApplied_idle {s : State} {v : Nat} (hreq : s.mtx.remapReq = some v) (hidle : s.mtx.txns = []) :
    Runs .remapApplied s fun t => t.out.sent = [] ∧ OnlyElems [] s t := by
  have htakes := State.remapApplied_takes (s := s.fresh) hreq (by rw [show s.fresh.mtx.txns = [] from hidle]; simp)
  refine runs_of_run (exec_remapApplied s) ?_
  rw [htakes, State.mtxDone_idle (by rw [State.raise_mtx]; exact hidle)]
  refine ⟨?_, ?_⟩
  · rw [State.withQueue_out, State.raise_out]
    rfl
  · have htaken : OnlyElems [] s.fresh (s.fresh.remapTaken v) := (OnlyElems.refl _ _).of_regs rfl
    exact (htaken.raise 469).run _

/-- Settles O28. -/
theorem matrixControl : Obligations.MatrixControl :=
  ⟨fun _ _ _ => masterReset_enters, fun _ _ => masterQuiesced_ends, fun _ _ _ => remapWrite_asks,
    fun _ _ _ => remapWrite_same, fun _ _ => remapApplied_takes, fun _ _ => remapApplied_idle⟩

end Sys2Proof.Machine

/-! Transactions of the matrix: what goes on there leaves of those that it holds, issue, grant, response and timeout
(O27). -/

namespace Sys2Proof.Machine

/-! ### Settling, transaction by transaction (R363, R367, R369) -/

/-- `l'` are the transactions of `l`, those that wait perhaps with another count of their wait. -/
def Settled (l l' : List Txn) : Prop :=
  List.Forall₂ (fun x y => y.core = x.core ∧ (x.granted = true → y = x)) l l'

theorem Settled.refl (l : List Txn) : Settled l l := List.forall₂_same.mpr fun _ _ => ⟨rfl, fun _ => rfl⟩

theorem granted_of_core {x y : Txn} (h : y.core = x.core) : y.granted = x.granted := by
  have h' := congrArg Txn.granted h
  exact h'
theorem due_of_core {x y : Txn} (h : y.core = x.core) : y.due = x.due := by
  have h' := congrArg Txn.due h
  exact h'
theorem target_of_core {x y : Txn} (h : y.core = x.core) : y.target = x.target := by
  have h' := congrArg Txn.target h
  exact h'

theorem Settled.trans {l l' l'' : List Txn} (h : Settled l l') (h' : Settled l' l'') : Settled l l'' := by
  induction h generalizing l'' with
  | nil => exact h'
  | cons hxy _ ih =>
    obtain ⟨hcore, hsame⟩ := hxy
    cases h' with
    | cons hyz htail =>
      obtain ⟨hcore', hsame'⟩ := hyz
      exact .cons ⟨hcore'.trans hcore, fun hg => (hsame' ((granted_of_core hcore).trans hg)).trans (hsame hg)⟩ (ih htail)

theorem Settled.core {l l' : List Txn} (h : Settled l l') : l'.map Txn.core = l.map Txn.core := by
  induction h with
  | nil => rfl
  | cons hxy _ ih => simp only [List.map_cons, hxy.1, ih]

/-- A granted transaction stands. -/
theorem Settled.mem {l l' : List Txn} (h : Settled l l') {x : Txn} (hx : x ∈ l) (hg : x.granted = true) : x ∈ l' := by
  induction h with
  | nil => exact hx
  | cons hxy _ ih =>
    rcases List.mem_cons.mp hx with rfl | hx
    · exact List.mem_cons.mpr (.inl (hxy.2 hg).symm)
    · exact List.mem_cons_of_mem _ (ih hx)

/-- A search among the granted transactions finds the same. -/
theorem Settled.find {l l' : List Txn} (h : Settled l l') {p : Txn → Bool} (hp : ∀ x, p x = true → x.granted = true) :
    l'.find? p = l.find? p := by
  induction h with
  | nil => rfl
  | @cons x y _ _ hxy _ ih =>
    cases hg : x.granted
    · have hx : p x = false := by
        cases hpx : p x
        exacts [rfl, absurd (hp x hpx) (by simp [hg])]
      have hy : p y = false := by
        cases hpy : p y
        exacts [rfl, absurd (hp y hpy) (by simp [granted_of_core hxy.1, hg])]
      rw [List.find?_cons_of_neg (by simp [hy]), List.find?_cons_of_neg (by simp [hx]), ih]
    · rw [hxy.2 hg, List.find?_cons, List.find?_cons, ih]

/-- Taking a granted transaction out commutes with settling. -/
theorem Settled.erase {l l' : List Txn} (h : Settled l l') {x : Txn} (hx : x.granted = true) :
    Settled (l.erase x) (l'.erase x) := by
  induction h with
  | nil => exact .nil
  | @cons a b _ _ hab htail ih =>
    obtain ⟨hcore, hsame⟩ := hab
    by_cases ha : a = x
    · have hb : b = x := (hsame (ha ▸ hx)).trans ha
      rw [ha, hb, List.erase_cons_head, List.erase_cons_head]
      exact htail
    · have hb : b ≠ x := fun e => ha ((hsame ((granted_of_core hcore).symm.trans (e ▸ hx))).symm.trans e)
      rw [List.erase_cons_tail (by simpa using ha), List.erase_cons_tail (by simpa using hb)]
      exact .cons ⟨hcore, hsame⟩ ih

theorem State.settleTxns_settled (s : State) (late : Bool) :
    ∀ l pre : List Txn, Settled l (s.settleTxns late pre l)
  | [], _ => .nil
  | x :: l, pre => by
    refine .cons ⟨?_, fun hg => ?_⟩ (s.settleTxns_settled late l _)
    · split_ifs <;> rfl
    · rw [hg, Bool.true_or, if_pos rfl]

/-- The state with other transactions at the matrix. -/
def State.withTxns (s : State) (l : List Txn) : State := { s with mtx := { s.mtx with txns := l } }

section
variable (s : State) (l : List Txn) (y : Txn) (i e : Nat)

@[simp] theorem State.withTxns_reg : (s.withTxns l).reg i e = s.reg i e := rfl
@[simp] theorem State.withTxns_out : (s.withTxns l).out = s.out := rfl
@[simp] theorem State.withTxns_txns : (s.withTxns l).mtx.txns = l := rfl
@[simp] theorem State.withTxn_reg : (s.withTxn y).reg i e = s.reg i e := rfl
@[simp] theorem State.withTxn_out : (s.withTxn y).out = s.out := rfl
@[simp] theorem State.withTxn_txns : (s.withTxn y).mtx.txns = s.mtx.txns ++ [y] := rfl

end

theorem OnlyElems.withTxns {m : List (Nat × Nat)} {s t : State} (h : OnlyElems m s t) (l : List Txn) :
    OnlyElems m s (t.withTxns l) := h
theorem OnlyElems.withTxn {m : List (Nat × Nat)} {s t : State} (h : OnlyElems m s t) (y : Txn) :
    OnlyElems m s (t.withTxn y) := h

/-- The matrix settles: nothing else changes there. -/
def State.Settles (s t : State) : Prop := ∃ l, t = s.withTxns l ∧ Settled s.mtx.txns l

theorem State.Settles.trans {s t u : State} (h : s.Settles t) (h' : t.Settles u) : s.Settles u := by
  obtain ⟨l, rfl, hl⟩ := h
  obtain ⟨l', rfl, hl'⟩ := h'
  exact ⟨l', rfl, Settled.trans (l' := l) hl hl'⟩

theorem State.settleMtx_settles (s : State) (late : Bool) : s.Settles (s.settleMtx late) :=
  ⟨_, rfl, s.settleTxns_settled late _ _⟩

theorem State.Settles.noneRefused {s t : State} (h : s.Settles t) (hs : s.NoneRefused) : t.NoneRefused := by
  obtain ⟨l, rfl, hl⟩ := h
  exact hs.of_core (t := s.withTxns l) hl.core

/-- Where the matrix has refused none, it settles, whatever goes on. -/
theorem State.mtxDone_settles {s : State} (h : s.NoneRefused) : s.Settles s.mtxDone := by
  have hloop := foldRange_keeps (fun t : State => s.Settles t) (s.mtx.txns.length + 1)
    (fun t _ => (t.settleMtx false).flushRefused) s ⟨s.mtx.txns, rfl, .refl _⟩ fun t _ ht => by
      have hstep := ht.trans (t.settleMtx_settles false)
      rwa [State.flushRefused_of_noneRefused (hstep.noneRefused h)]
  exact hloop.trans (State.settleMtx_settles _ false)

/-! ### Issue (R360 to R362) -/

/-- A master whose reset has ended runs again from its first transaction. -/
def State.awake (s : State) (m : Nat) : State :=
  if s.reg O.matrixMasterState m = 2 then s.setReg O.matrixMasterState m 0 else s

/-- What master `m` issues. -/
def State.issued (s : State) (m id kind addr len : Nat) (data : List (Byte × Bool)) (operand flip : Nat)
    (fetch : Bool) : Txn :=
  let a := addr % 2 ^ 40
  let swap := match s.mtx.remapReq with
    | some v => v == 1
    | none => s.mtx.remapped
  let dec := s.decode a swap
  ⟨m, id % 16, kind, a, len, data, operand, flip, s.reg O.matrixQos m, if dec < 7 && pairOf m dec = 0 then 7 else dec,
    remapZone a && s.mtx.remapReq.isSome, false, 0, s.tick, rDone, [], fetch && decide (m ≤ 1), false, false, false, 0⟩

section
variable {s : State} {m id kind addr len operand flip : Nat} {data : List (Byte × Bool)} {fetch : Bool}

theorem State.issue_of_good (hrun : s.reg O.matrixMasterState m ≠ 1) (hform : goodForm (addr % 2 ^ 40) len = true) :
    s.issue m id kind addr len data operand flip fetch =
      ((s.awake m).settleMtx true).join (s.issued m id kind addr len data operand flip fetch) := by
  simp only [State.issue, hrun, if_false, hform, if_true]
  rfl

theorem State.issued_target : (s.issued m id kind addr len data operand flip fetch).target ≠ 8 := by
  refine Nat.ne_of_lt ?_
  simp only [State.issued]
  split_ifs
  · exact (by decide : 7 < 8)
  all_goals exact State.decode_lt _ _ _

end

theorem State.awake_noneRefused {s : State} (m : Nat) (h : s.NoneRefused) : (s.awake m).NoneRefused := by
  unfold State.awake
  split_ifs
  exacts [h, h]

theorem State.awake_txns (s : State) (m : Nat) : (s.awake m).mtx.txns = s.mtx.txns := by
  unfold State.awake
  split_ifs <;> rfl

theorem State.awake_regObj {s : State} {m i e : Nat} (h : i ≠ O.matrixMasterState) :
    (s.awake m).reg i e = s.reg i e := by
  unfold State.awake
  split_ifs
  exacts [State.reg_setReg_obj _ h, rfl]

theorem State.awake_out (s : State) (m : Nat) : (s.awake m).out = s.out := by
  unfold State.awake
  split_ifs <;> rfl

/-- A transaction that joins is counted if it is held back, and the matrix settles. -/
theorem State.join_settles {s : State} {y : Txn} (hnone : s.NoneRefused) (hy : y.target ≠ 8) :
    ∃ u, (u = (s.withTxn y).bump O.matrixHeld y.master 32 ∨ u = s.withTxn y) ∧ u.Settles (s.join y) := by
  have hwith : (s.withTxn y).NoneRefused := hnone.withTxn hy
  rw [State.join]
  split_ifs
  · exact ⟨_, .inl rfl, State.mtxDone_settles (s := (s.withTxn y).bump O.matrixHeld y.master 32) hwith⟩
  · exact ⟨_, .inr rfl, State.mtxDone_settles hwith⟩

/-- What `issued` adds to the transactions of the matrix, and what an issue leaves alone. -/
def Issued (s t : State) (y : Txn) : Prop :=
  t.out.sent = [] ∧ t.reg O.matrixMasterState y.master = 0 ∧
  OnlyElems [(O.matrixHeld, y.master), (O.matrixMasterState, y.master)] s t ∧
  t.mtx.txns.map Txn.core = s.mtx.txns.map Txn.core ++ [y.core]

theorem Issued.run {s t : State} {y : Txn} (h : Issued s.fresh t y) (q : List Instr) : Issued s (t.withQueue q) y := h

theorem State.awake_elems (s : State) {m : Nat} (hm : m < 8) :
    OnlyElems [(O.matrixHeld, m), (O.matrixMasterState, m)] s (s.awake m) := by
  unfold State.awake
  split_ifs
  · exact (OnlyElems.refl _ _).setReg 0 (by omega) (by simp)
  · exact OnlyElems.refl _ _

theorem State.awake_reg {s : State} {m : Nat} (h : s.reg O.matrixMasterState m = 0 ∨ s.reg O.matrixMasterState m = 2) :
    (s.awake m).reg O.matrixMasterState m = 0 := by
  unfold State.awake
  split_ifs with h2
  · exact State.reg_setReg_self ..
  · exact h.resolve_right h2

theorem State.join_issued {s : State} {y : Txn} (hm : y.master < 8)
    (hrun : s.reg O.matrixMasterState y.master = 0 ∨ s.reg O.matrixMasterState y.master = 2)
    (hnone : s.NoneRefused) (hy : y.target ≠ 8) (hsent : s.out.sent = []) :
    Issued s (((s.awake y.master).settleMtx true).join y) y := by
  have hsettles := (s.awake y.master).settleMtx_settles true
  have hnone' := hsettles.noneRefused (State.awake_noneRefused y.master hnone)
  obtain ⟨l, hu, hl⟩ := hsettles
  rw [hu] at hnone' ⊢
  obtain ⟨v, hv, hw⟩ := State.join_settles hnone' hy
  obtain ⟨l', hj, hl'⟩ := hw
  have hregs : OnlyElems [(O.matrixHeld, y.master), (O.matrixMasterState, y.master)] s v := by
    have h0 := ((s.awake_elems hm).withTxns l).withTxn y
    rcases hv with rfl | rfl
    · exact h0.bump 32 1 (by omega) (by simp)
    · exact h0
  have hstate : v.reg O.matrixMasterState y.master = 0 := by
    rcases hv with rfl | rfl
    · rw [State.reg_bump_obj _ (by decide), State.withTxn_reg, State.withTxns_reg, State.awake_reg hrun]
    · rw [State.withTxn_reg, State.withTxns_reg, State.awake_reg hrun]
  have hout : v.out.sent = [] := by
    rcases hv with rfl | rfl
    · rw [State.bump_out, State.withTxn_out, State.withTxns_out, State.awake_out, hsent]
    · rw [State.withTxn_out, State.withTxns_out, State.awake_out, hsent]
  have htxns : v.mtx.txns = l ++ [y] := by
    rcases hv with rfl | rfl
    · rw [State.bump_mtx, State.withTxn_txns, State.withTxns_txns]
    · rw [State.withTxn_txns, State.withTxns_txns]
  rw [hj]
  refine ⟨by rw [State.withTxns_out, hout], by rw [State.withTxns_reg, hstate], hregs.withTxns l', ?_⟩
  rw [State.withTxns_txns, hl'.core, htxns, List.map_append, hl.core, State.awake_txns]
  rfl

section
variable {s : State} {m id addr len operand flip : Nat} {data : List (Byte × Bool)} {fetch : Bool}

/-- The transaction that a master issues joins those that the matrix holds. -/
theorem State.issue_issued {kind : Nat} (hm : m < 8)
    (hrun : s.reg O.matrixMasterState m = 0 ∨ s.reg O.matrixMasterState m = 2)
    (hform : goodForm (addr % 2 ^ 40) len = true) (hnone : ∀ x ∈ s.mtx.txns, x.target ≠ 8) :
    Issued s ((s.fresh.issue m id kind addr len data operand flip fetch).withQueue s.pending)
      (s.fresh.issued m id kind addr len data operand flip fetch) := by
  rw [State.issue_of_good (s := s.fresh) (fun h => by rcases hrun with h0 | h0 <;> exact absurd (h0.symm.trans h) (by decide)) hform]
  exact (State.join_issued (s := s.fresh) (y := s.fresh.issued m id kind addr len data operand flip fetch) hm hrun hnone
    State.issued_target rfl).run _

end

section
variable {s : State} {m : Nat} (id a : Nat) (hm : m < 8)
    (hrun : s.reg O.matrixMasterState m = 0 ∨ s.reg O.matrixMasterState m = 2)
include hm hrun

theorem matrixRead_issues {n : Nat} (f : Nat) (g : Bool) (hform : goodForm (a % 2 ^ 40) n = true)
    (hnone : ∀ x ∈ s.mtx.txns, x.target ≠ 8) :
    Runs (.matrixRead m id a n ⟨f, g⟩) s fun t =>
      t.out.sent = [] ∧ t.reg O.matrixMasterState m = 0 ∧ OnlyElems [(O.matrixHeld, m), (O.matrixMasterState, m)] s t ∧
      ∃ x : Txn, t.mtx.txns.map Txn.core = s.mtx.txns.map Txn.core ++ [x] ∧ x.master = m ∧ x.id = id % 16 ∧
        x.kind = 0 ∧ x.addr = a % 2 ^ 40 ∧
        x.len = n ∧ x.fetch = (g && decide (m ≤ 1)) ∧ x.granted = false ∧ x.due = false := by
  obtain ⟨hsent, hreg, helems, hcore⟩ := State.issue_issued (kind := 0) (id := id) (operand := 0) (flip := f)
    (data := []) (fetch := g) hm hrun hform hnone
  refine runs_of_runIn (exec_matrixRead ..) hm ⟨hsent, hreg, helems, _, hcore, ?_⟩
  exact ⟨rfl, rfl, rfl, rfl, rfl, rfl, rfl, rfl⟩

theorem matrixWrite_issues (d : List (Byte × Bool)) (hform : goodForm (a % 2 ^ 40) d.length = true)
    (hnone : ∀ x ∈ s.mtx.txns, x.target ≠ 8) :
    Runs (.matrixWrite m id a d) s fun t =>
      t.out.sent = [] ∧ t.reg O.matrixMasterState m = 0 ∧ OnlyElems [(O.matrixHeld, m), (O.matrixMasterState, m)] s t ∧
      ∃ x : Txn, t.mtx.txns.map Txn.core = s.mtx.txns.map Txn.core ++ [x] ∧ x.master = m ∧ x.id = id % 16 ∧
        x.kind = 1 ∧ x.addr = a % 2 ^ 40 ∧ x.data = d ∧ x.granted = false ∧ x.due = false := by
  obtain ⟨hsent, hreg, helems, hcore⟩ := State.issue_issued (kind := 1) (id := id) (operand := 0) (flip := 0)
    (data := d) (fetch := false) hm hrun hform hnone
  refine runs_of_runIn (exec_matrixWrite ..) hm ⟨hsent, hreg, helems, _, hcore, ?_⟩
  exact ⟨rfl, rfl, rfl, rfl, rfl, rfl, rfl⟩

/-- An ATOMIC of each opcode. -/
theorem atomic_issues {kind : Nat} {v : AtomicIn} {c : Instr}
    (hc : exec c s = s.runIn m 8 fun s => s.issue m id kind a v.len [] v.operand.toNat v.flip)
    (hform : goodForm (a % 2 ^ 40) v.len = true) (hnone : ∀ x ∈ s.mtx.txns, x.target ≠ 8) :
    Runs c s fun t =>
      t.out.sent = [] ∧ t.reg O.matrixMasterState m = 0 ∧ OnlyElems [(O.matrixHeld, m), (O.matrixMasterState, m)] s t ∧
      ∃ x : Txn, t.mtx.txns.map Txn.core = s.mtx.txns.map Txn.core ++ [x] ∧ x.master = m ∧ x.id = id % 16 ∧
        x.kind = kind ∧ x.addr = a % 2 ^ 40 ∧
        x.operand = v.operand.toNat ∧ x.len = v.len ∧ x.flip = v.flip ∧ x.granted = false ∧ x.due = false := by
  obtain ⟨hsent, hreg, helems, hcore⟩ := State.issue_issued (kind := kind) (id := id) (operand := v.operand.toNat)
    (flip := v.flip) (data := []) (fetch := false) hm hrun hform hnone
  refine runs_of_runIn hc hm ⟨hsent, hreg, helems, _, hcore, ?_⟩
  exact ⟨rfl, rfl, rfl, rfl, rfl, rfl, rfl, rfl, rfl⟩

end

/-! ### Transactions that are refused at once (R356, R373) -/

/-- A transaction that the matrix itself refuses. -/
def Txn.refused (x : Txn) : Txn :=
  { x with target := 8, status := rRefused, result := if x.kind = 1 then [] else toBytes x.len 0 }

section
variable {s : State} {m id kind addr len operand flip : Nat} {data : List (Byte × Bool)} {fetch : Bool}

theorem State.issue_of_reset (hreset : s.reg O.matrixMasterState m = 1) :
    s.issue m id kind addr len data operand flip fetch =
      (s.mtxError 1 (s.issued m id kind addr len data operand flip fetch).refused).answerTxn
        (s.issued m id kind addr len data operand flip fetch).refused := by
  simp only [State.issue, hreset, if_true]
  rfl

theorem State.issue_of_bad (hrun : s.reg O.matrixMasterState m ≠ 1) (hform : goodForm (addr % 2 ^ 40) len = false) :
    s.issue m id kind addr len data operand flip fetch =
      ((s.awake m).settleMtx true).join (s.issued m id kind addr len data operand flip fetch).refused := by
  simp only [State.issue, hrun, if_false, hform, Bool.false_eq_true]
  rfl

end

/-- An answer from the matrix itself raises no exception. -/
theorem State.answerTxn_refused (s : State) (x : Txn) :
    s.answerTxn x.refused = s.send (.matrix x.master x.id rRefused (if x.kind = 1 then [] else toBytes x.len 0)) := by
  simp only [State.answerTxn]
  rw [if_neg]
  · rfl
  · simp [Txn.refused]

theorem State.mtxError_txns (s : State) (c : Nat) (x : Txn) : (s.mtxError c x).mtx.txns = s.mtx.txns := rfl

theorem State.mtxError_out (s : State) (c : Nat) (x : Txn) : (s.mtxError c x).out = s.out := rfl

theorem State.mtxError_reg (s : State) (c : Nat) (x : Txn) :
    (s.mtxError c x).reg O.matrixErrCount x.master = (s.reg O.matrixErrCount x.master + 1) % 2 ^ 32 :=
  State.reg_bump_self ..

/-- The clause on a master in reset. -/
theorem matrixRead_reset {s : State} {m id a n f : Nat} {g : Bool} (hm : m < 8)
    (hreset : s.reg O.matrixMasterState m = 1) :
    Runs (.matrixRead m id a n ⟨f, g⟩) s fun t =>
      t.out.sent = [.matrix m (id % 16) rRefused (toBytes n 0)] ∧ t.mtx.txns = s.mtx.txns ∧
      t.reg O.matrixErrCount m = (s.reg O.matrixErrCount m + 1) % 2 ^ 32 := by
  refine runs_of_runIn (exec_matrixRead ..) hm ?_
  rw [State.issue_of_reset (s := s.fresh) hreset, State.answerTxn_refused]
  exact ⟨rfl, rfl, State.reg_bump_self ..⟩

/-- With one transaction, settling leaves it as it waits. -/
theorem State.settleMtx_single {s : State} {y : Txn} (h : s.mtx.txns = [y]) (hheld : y.held = false)
    (hkept : s.kept [] y = false) : s.settleMtx false = s := by
  rw [State.settleMtx, h, State.settleTxns, State.settleTxns, hkept, hheld, if_pos (by simp), ← h]

/-- The matrix answers the one transaction that it holds and has refused. -/
theorem State.flushRefused_single {s : State} {y : Txn} (h : s.mtx.txns = [y]) (htarget : y.target = 8)
    (hheld : y.held = false) (hgranted : y.granted = false) :
    s.flushRefused = ((s.withTxns []).mtxError 1 y).answerTxn y := by
  have hwait : s.waitingAt 8 = [y] := by simp [State.waitingAt, h, htarget, hheld, hgranted]
  have herase : s.mtx.txns.erase y = [] := by rw [h, List.erase_cons_head]
  rw [State.flushRefused, hwait, List.foldl_cons, List.foldl_nil, herase]
  rfl

theorem State.answerTxn_txns (s : State) (x : Txn) : (s.answerTxn x).mtx = s.mtx :=
  State.answerTxn_see (z := .part .mtx) s x

theorem State.mtxDone_single {s : State} {y : Txn} (h : s.mtx.txns = [y]) (htarget : y.target = 8)
    (hheld : y.held = false) (hgranted : y.granted = false) (hkept : s.kept [] y = false) :
    s.mtxDone = ((s.withTxns []).mtxError 1 y).answerTxn y := by
  have hidle : (((s.withTxns []).mtxError 1 y).answerTxn y).mtx.txns = [] := by
    rw [State.answerTxn_txns, State.mtxError_txns, State.withTxns_txns]
  have hloop : foldRange 0 (fun (t : State) _ => (t.settleMtx false).flushRefused) s = s := rfl
  rw [State.mtxDone, h, List.length_singleton, foldRange_succ, foldRange_succ, hloop,
    State.settleMtx_single h hheld hkept, State.flushRefused_single h htarget hheld hgranted,
    State.settleMtx_idle hidle, State.flushRefused_of_noneRefused (fun x hx => by simp [hidle] at hx),
    State.settleMtx_idle hidle]

theorem State.join_refused {s : State} {y : Txn} (hidle : s.mtx.txns = []) (hzone : y.zone = false)
    (htarget : y.target = 8) (hheld : y.held = false) (hgranted : y.granted = false) :
    s.join y = (((s.withTxn y).withTxns []).mtxError 1 y).answerTxn y := by
  have htxns : (s.withTxn y).mtx.txns = [y] := by rw [State.withTxn_txns, hidle, List.nil_append]
  have hback : (s.withTxn y).heldBack [] y = false := by
    simp [State.heldBack, hzone, hidle, hgranted]
  have hkept : (s.withTxn y).kept [] y = false := by
    simp [State.kept, hback, State.outstanding, hidle, hgranted]
  rw [State.join, hidle, hback, if_neg Bool.false_ne_true, State.mtxDone_single htxns htarget hheld hgranted hkept]

/-- The clause on a form that R356 does not allow. -/
theorem matrixRead_bad {s : State} {m id a n f : Nat} {g : Bool} (hm : m < 8) (hrun : s.reg O.matrixMasterState m ≠ 1)
    (hform : goodForm (a % 2 ^ 40) n = false) (hidle : s.mtx.txns = []) (hremap : s.mtx.remapReq = none) :
    Runs (.matrixRead m id a n ⟨f, g⟩) s fun t =>
      t.out.sent = [.matrix m (id % 16) rRefused (toBytes n 0)] ∧ t.mtx.txns = [] ∧
      t.reg O.matrixErrCount m = (s.reg O.matrixErrCount m + 1) % 2 ^ 32 := by
  have hawake : (s.fresh.awake m).mtx.txns = [] := (State.awake_txns _ m).trans hidle
  have hzone : ((s.fresh.issued m id 0 a n [] 0 f g).refused).zone = false := by
    have h : (remapZone (a % 2 ^ 40) && s.mtx.remapReq.isSome) = false := by simp [hremap]
    exact h
  have hjoin := State.join_refused hawake hzone rfl rfl rfl
  refine runs_of_runIn (exec_matrixRead ..) hm ?_
  rw [State.issue_of_bad (s := s.fresh) hrun hform, State.settleMtx_idle hawake, hjoin, State.answerTxn_refused]
  refine ⟨?_, rfl, ?_⟩
  · have hout : (s.fresh.awake m).out.sent = [] := by rw [State.awake_out]; rfl
    simp only [State.withQueue_out, State.send, State.mtxError_out, State.withTxns_out, State.withTxn_out, hout]
    rfl
  · have herr (u : State) {x : Txn} (hx : x.master = m) (r : Sent) :
        (((u.mtxError 1 x).send r).withQueue s.pending).reg O.matrixErrCount m =
          (u.reg O.matrixErrCount m + 1) % 2 ^ 32 := by
      rw [← hx]
      exact State.reg_bump_self ..
    rw [herr _ (x := (s.fresh.issued m id 0 a n [] 0 f g).refused) rfl, State.withTxns_reg, State.withTxn_reg, State.awake_regObj (by decide), State.reg_fresh_all]

/-! ### Responses (R368, R371) -/

theorem Settled.mem_core {l l' : List Txn} (h : Settled l l') {y : Txn} (hy : y ∈ l') : ∃ x ∈ l, y.core = x.core := by
  have hmem : y.core ∈ l.map Txn.core := h.core ▸ List.mem_map_of_mem hy
  obtain ⟨x, hx, he⟩ := List.mem_map.mp hmem
  exact ⟨x, hx, he.symm⟩

/-- No write that has been granted at target `k` waits for its data to be delivered. -/
def NoneDue (k : Nat) (l : List Txn) : Prop := ∀ y ∈ l, y.target = k → y.due = false

theorem NoneDue.settled {k : Nat} {l l' : List Txn} (h : NoneDue k l) (hl : Settled l l') : NoneDue k l' := by
  intro y hy ht
  obtain ⟨x, hx, hcore⟩ := hl.mem_core hy
  rw [due_of_core hcore]
  exact h x hx ((target_of_core hcore).symm.trans ht)

theorem State.deliver_noneDue {s : State} {k : Nat} (h : NoneDue k s.mtx.txns) : s.deliver k = s := by
  have hnone : (s.mtx.txns.filter fun x => x.due && x.target == k) = [] := by
    simp only [List.filter_eq_nil_iff, Bool.and_eq_true, beq_iff_eq, not_and]
    intro y hy hdue ht
    simp [h y hy ht] at hdue
  rw [State.deliver, hnone, List.foldl_nil]

theorem State.answerTxn_sent (s : State) (x : Txn) : (s.answerTxn x).out.sent = s.out.sent ++
    .matrix x.master x.id x.status x.result ::
      (if x.fetch = true ∧ x.status ≠ 0 ∧ 2 ≤ x.target ∧ x.target ≤ 7 then [.exception x.master] else []) := by
  simp only [State.answerTxn, Bool.and_eq_true, decide_eq_true_eq, and_assoc]
  split_ifs <;> simp [State.send]

theorem State.answerTxn_reg (s : State) (x : Txn) (i e : Nat) : (s.answerTxn x).reg i e = s.reg i e := by
  rw [reg_see, State.answerTxn_see, ← reg_see]

theorem NoneRefused.erase {s : State} (h : s.NoneRefused) (x : Txn) : (s.withTxns (s.mtx.txns.erase x)).NoneRefused :=
  fun y hy => h y (List.mem_of_mem_erase hy)

/-- Transaction `x` leaves the matrix with its answer. -/
def State.answered (s : State) (x : Txn) : State := ((s.withTxns (s.mtx.txns.erase x)).answerTxn x).mtxDone

theorem State.answered_settles {s : State} (h : s.NoneRefused) (x : Txn) :
    ∃ l, s.answered x = ((s.withTxns (s.mtx.txns.erase x)).answerTxn x).withTxns l ∧ Settled (s.mtx.txns.erase x) l := by
  have htxns : ((s.withTxns (s.mtx.txns.erase x)).answerTxn x).mtx.txns = s.mtx.txns.erase x := by
    rw [State.answerTxn_txns, State.withTxns_txns]
  have hnone : ((s.withTxns (s.mtx.txns.erase x)).answerTxn x).NoneRefused := by
    rw [State.NoneRefused, htxns]
    exact NoneRefused.erase h x
  obtain ⟨l, hdone, hl⟩ := State.mtxDone_settles hnone
  exact ⟨l, hdone, by rwa [htxns] at hl⟩

section
variable {s : State} {k : Nat} {x : Txn}

/-- With nothing due at the target, its first granted transaction is answered. -/
theorem State.respondTxn_answers (hfind : (s.mtx.txns.find? fun y => y.granted && y.target == k) = some x)
    (hrun : s.reg O.matrixMasterState x.master ≠ 1) (hdue : NoneDue k s.mtx.txns) :
    s.respondTxn k = (s.settleMtx true).answered x := by
  have hdue' : (s.settleMtx true).deliver k = s.settleMtx true :=
    State.deliver_noneDue (NoneDue.settled hdue (s.settleTxns_settled true _ _))
  have hfind' : ((s.settleMtx true).mtx.txns.find? fun y => y.granted && y.target == k) = some x :=
    ((s.settleTxns_settled true _ _).find fun y hy => (Bool.and_eq_true_iff.mp hy).1).trans hfind
  have hrun' : ((s.settleMtx true).withTxns ((s.settleMtx true).mtx.txns.erase x)).reg O.matrixMasterState x.master ≠ 1 :=
    hrun
  simp only [State.respondTxn, hdue', hfind']
  exact congrArg State.mtxDone (if_neg hrun')

theorem matrixResponse_answers (hk : k < 8)
    (hfind : (s.mtx.txns.find? fun y => y.granted && y.target == k) = some x)
    (hrun : s.reg O.matrixMasterState x.master ≠ 1)
    (hall : ∀ y ∈ s.mtx.txns, y.target ≠ 8 ∧ (y.target = k → y.due = false)) :
    Runs (.matrixResponse k) s fun t =>
      t.out.sent = .matrix x.master x.id x.status x.result ::
        (if x.fetch = true ∧ x.status ≠ 0 ∧ 2 ≤ x.target ∧ x.target ≤ 7 then [.exception x.master] else []) ∧
      t.mtx.txns.map Txn.core = (s.mtx.txns.erase x).map Txn.core ∧ OnlyElems [] s t := by
  have hgranted : x.granted = true := by
    have := List.find?_some hfind
    exact (Bool.and_eq_true_iff.mp this).1
  have hsettles := s.fresh.settleMtx_settles true
  have hnone := hsettles.noneRefused fun y hy => (hall y hy).1
  have hl := s.fresh.settleTxns_settled true s.fresh.mtx.txns []
  obtain ⟨l, hanswered, hl'⟩ := State.answered_settles hnone x
  refine runs_of_runIn (exec_matrixResponse s k) hk ?_
  rw [State.respondTxn_answers (s := s.fresh) hfind hrun fun y hy => (hall y hy).2, hanswered]
  refine ⟨?_, ?_, fun i e _ _ _ => ?_⟩
  · rw [State.withQueue_out, State.withTxns_out, State.answerTxn_sent]
    rfl
  · exact hl'.core.trans (hl.erase hgranted).core
  · rw [State.reg_withQueue_all, State.withTxns_reg, State.answerTxn_reg]
    rfl

end

/-! ### Timeouts (R371) -/

/-- Transaction `x` of master `m` with ID `id` has waited longer than MATRIX.TIMEOUT since its grant. -/
def State.late (s : State) (m id : Nat) (x : Txn) : Bool :=
  x.master == m && x.id == id && x.granted && decide (s.reg O.matrixTimeout ≤ s.txnWait x)

/-- Transaction `x` as its timeout answers it. -/
def Txn.timedOut (x : Txn) : Txn := { x with status := rRefused, result := if x.kind = 1 then [] else toBytes x.len 0 }

section
variable {s : State} {m id : Nat} {x : Txn}

theorem State.txnTimeout_answers (hfind : s.mtx.txns.find? (s.late m id) = some x)
    (hrun : s.reg O.matrixMasterState m ≠ 1) (hdue : NoneDue x.target s.mtx.txns) :
    s.txnTimeout m id = ((((s.withTxns (s.mtx.txns.erase x)).mtxError 3 x).raise 466).answerTxn x.timedOut).mtxDone := by
  have hdue' : s.deliver x.target = s := State.deliver_noneDue hdue
  have hlate : (fun x : Txn => x.master == m && x.id == id && x.granted &&
      decide (s.reg O.matrixTimeout ≤ s.txnWait x)) = s.late m id := rfl
  have hrun' : (((s.withTxns (s.mtx.txns.erase x)).mtxError 3 x).raise 466).reg O.matrixMasterState m ≠ 1 := by
    rw [State.raise_reg _ (by decide)]
    exact (State.reg_bump_obj _ (by decide)).trans_ne hrun
  simp only [State.txnTimeout, hlate, hfind, hdue']
  exact congrArg State.mtxDone (if_neg hrun')

theorem matrixTimeout_answers (hm : m < 8)
    (hfind : (s.mtx.txns.find? fun y => y.master == m && y.id == id && y.granted &&
      decide (s.reg O.matrixTimeout ≤ s.txnWait y)) = some x)
    (hrun : s.reg O.matrixMasterState m ≠ 1)
    (hall : ∀ y ∈ s.mtx.txns, y.target ≠ 8 ∧ (y.target = x.target → y.due = false)) :
    Runs (.matrixTimeout m id) s fun t =>
      t.out.sent = .matrix m id rRefused (if x.kind = 1 then [] else toBytes x.len 0) ::
        (if x.fetch = true ∧ 2 ≤ x.target ∧ x.target ≤ 7 then [.exception x.master] else []) ∧
      t.mtx.txns.map Txn.core = (s.mtx.txns.erase x).map Txn.core ∧ (s.sys.fabOn = true → t.latched 466 = true) ∧
      t.reg O.matrixErrCount m = (s.reg O.matrixErrCount m + 1) % 2 ^ 32 := by
  have hfind' : s.fresh.mtx.txns.find? (s.fresh.late m id) = some x := hfind
  have hlate := List.find?_some hfind'
  simp only [State.late, Bool.and_eq_true, beq_iff_eq] at hlate
  obtain ⟨⟨⟨hmaster, hid⟩, hgranted⟩, -⟩ := hlate
  set u := ((s.fresh.withTxns (s.mtx.txns.erase x)).mtxError 3 x).raise 466 with hu
  have htxns : (u.answerTxn x.timedOut).mtx.txns = s.mtx.txns.erase x := by
    rw [State.answerTxn_txns, hu, State.raise_mtx, State.mtxError_txns, State.withTxns_txns]
  have hnone : (u.answerTxn x.timedOut).NoneRefused := by
    rw [State.NoneRefused, htxns]
    exact NoneRefused.erase (s := s) (fun y hy => (hall y hy).1) x
  obtain ⟨l, hdone, hl⟩ := State.mtxDone_settles hnone
  refine runs_of_runIn (exec_matrixTimeout s m id) hm ?_
  rw [State.txnTimeout_answers hfind' hrun fun y hy => (hall y hy).2]
  rw [show s.fresh.mtx.txns = s.mtx.txns from rfl, ← hu, hdone]
  refine ⟨?_, ?_, fun hon => ?_, ?_⟩
  · rw [State.withQueue_out, State.withTxns_out, State.answerTxn_sent, hu, State.raise_out, State.mtxError_out,
      State.withTxns_out, ← hmaster, ← hid]
    have hstatus : rRefused ≠ 0 := by decide
    simp [Txn.timedOut, hstatus, State.fresh, Out.init]
  · rw [htxns] at hl
    exact hl.core
  · rw [State.latched_withQueue]
    exact (State.latched_see (State.answerTxn_see _ _) _).trans (State.latched_raise_self (.inr hon))
  · rw [State.reg_withQueue_all, State.withTxns_reg, State.answerTxn_reg, hu, State.raise_reg _ (by decide), ← hmaster,
      State.mtxError_reg]
    rfl

end

/-! ### Grants (R365 to R367) -/

/-- Settling reads no answer. -/
theorem State.settleTxns_fresh (s : State) (late : Bool) :
    ∀ l pre : List Txn, s.fresh.settleTxns late pre l = s.settleTxns late pre l
  | [], _ => rfl
  | x :: l, pre => by
    simp only [State.settleTxns, s.settleTxns_fresh late l]
    rfl

theorem State.settleMtx_fresh (s : State) (late : Bool) : s.fresh.settleMtx late = (s.settleMtx late).fresh := by
  rw [State.settleMtx, State.settleTxns_fresh]
  rfl

theorem State.aged_fresh (s : State) (dt : Nat) : s.fresh.aged dt = (s.aged dt).fresh := rfl

/-- The matrix holds the same transactions, and granted last to the same masters. -/
def SameTxns (s t : State) : Prop := t.mtx.txns = s.mtx.txns ∧ t.mtx.rr = s.mtx.rr

theorem SameTxns.refl (s : State) : SameTxns s s := ⟨rfl, rfl⟩

theorem SameTxns.trans {s t u : State} (h : SameTxns s t) (h' : SameTxns t u) : SameTxns s u :=
  ⟨h'.1.trans h.1, h'.2.trans h.2⟩

theorem SameTxns.of_mtx {s t : State} (h : t.mtx = s.mtx) : SameTxns s t := ⟨congrArg _ h, congrArg _ h⟩

theorem SameTxns.of_see {s t : State} (h : t.see (.part .mtx) = s.see (.part .mtx)) : SameTxns s t := .of_mtx h

theorem SameTxns.ite {s : State} {c : Prop} [Decidable c] {a b : Eff} (ha : SameTxns s a.s) (hb : SameTxns s b.s) :
    SameTxns s (if c then a else b).s := by
  split_ifs
  exacts [ha, hb]

theorem State.setLog_sameTxns (s : State) (idx : Nat) (l : List Nat) : SameTxns s (s.setLog idx l) := by
  unfold State.setLog
  split_ifs <;> exact ⟨rfl, rfl⟩

theorem State.readRange_sameTxns (s : State) (o : Obj) (t : Tgt) (k n : Nat) (live : Bool) :
    SameTxns s (s.readRange o t k n live).1 := by
  simp only [State.readRange]
  split
  · exact s.setLog_sameTxns _ _
  · split_ifs
    · exact .of_see (State.countRange_see s t k n)
    · exact foldl_keeps (fun r : State × List Byte => SameTxns s r.1) _ _ _ (SameTxns.refl s) fun r i hr =>
        hr.trans (.of_see (State.readElem_see r.1 o _ live (by simp)))

theorem State.readEntry_sameTxns (s : State) (w : Who) (t : Tgt) (k n : Nat) (live : Bool) :
    SameTxns s (s.readEntry w t k n live) := by
  simp only [State.readEntry]
  split_ifs
  · exact ⟨rfl, rfl⟩
  · exact ⟨rfl, rfl⟩
  · split
    · exact ⟨rfl, rfl⟩
    · exact (s.readRange_sameTxns _ t k n live).trans ⟨rfl, rfl⟩

theorem State.t5ReadSlot_sameTxns (s : State) (m o lo hi : Nat) : SameTxns s (s.t5ReadSlot m o lo hi).1 := by
  simp only [State.t5ReadSlot]
  split
  · exact .refl s
  · split
    · exact .refl s
    · next i e _ _ =>
      have hread := s.readEntry_sameTxns (.master m) (t5Entry i e).1 (t5Entry i e).2 1 false
      generalize s.readEntry (.master m) (t5Entry i e).1 (t5Entry i e).2 1 false = t at hread ⊢
      split_ifs
      exacts [.refl s, hread, .of_see (State.t5ClearSlot_see ..), hread, .refl s, hread.trans ⟨rfl, rfl⟩]

theorem t5ReadEff_sameTxns (s : State) (x : Txn) : SameTxns s (t5ReadEff s x).s := by
  simp only [t5ReadEff]
  split_ifs
  · exact .refl s
  · exact foldl_keeps (fun r : State × List Byte × Bool => SameTxns s r.1) _ _ _ (SameTxns.refl s) fun r _ hr =>
      hr.trans (r.1.t5ReadSlot_sameTxns _ _ _ _)

/-- Nothing but a write of registers changes what the matrix holds. -/
theorem targetEff_sameTxns (s : State) {x : Txn} (h : x.kind ≠ 1) : SameTxns s (targetEff s x).s := by
  have hreg : SameTxns s (regEff s x).s := by
    rw [regEff, if_neg h]
    exact .ite (t5ReadEff_sameTxns s x) (.refl s)
  exact .ite (.refl s) <| .ite (.refl s) <| .ite (.refl s) <| .ite (.refl s) <| .ite (.refl s) <|
    .ite (.of_see (sramEff_see s x (by simp))) <| .ite (.of_see (bankEff_see s x (by simp))) <|
    .ite (.of_see (ddrEff_see s x (by simp))) <| .ite (.of_see (flashEff_see s x (by simp))) <|
    .ite hreg (.of_see (cryptoEff_see s x))

/-- Transaction `x` with its response. -/
def Txn.done (x : Txn) (code : Nat) (result : List Byte) : Txn := { x with status := code, result := result }

/-- What an error of transaction `x` raises. -/
def State.errored (s : State) (x : Txn) (code : Nat) : State :=
  let s := if x.target = 7 then s.raise 464 else s
  if code = rUnmapped then s.mtxError 2 x
  else if code = rRefused then (s.mtxError 1 x).raiseLim 465 x.master (msTicks 1)
  else s

theorem State.errored_sameTxns (s : State) (x : Txn) (code : Nat) : SameTxns s (s.errored x code) := by
  have hraise : SameTxns s (if x.target = 7 then s.raise 464 else s) := by
    split_ifs
    exacts [.of_mtx (State.raise_mtx s 464), .refl s]
  simp only [State.errored]
  generalize (if x.target = 7 then s.raise 464 else s) = t at hraise ⊢
  split_ifs
  · exact hraise.trans ⟨rfl, rfl⟩
  · exact hraise.trans (.trans (t := t.mtxError 1 x) ⟨rfl, rfl⟩ (.of_mtx (State.raiseLim_mtx ..)))
  · exact hraise

theorem State.putTxn_self (s : State) (x : Txn) : s.putTxn x x = s := by
  have hmap : (s.mtx.txns.map fun z => if z = x then x else z) = s.mtx.txns := by
    refine (List.map_congr_left fun z _ => ?_).trans (List.map_id _)
    split_ifs with h
    exacts [h.symm, rfl]
  rw [State.putTxn, hmap]

/-- Transaction `x` whose data has been delivered. -/
def Txn.undue (x : Txn) : Txn := { x with due := false }

theorem Txn.undue_of_not_due {x : Txn} (h : x.due = false) : x.undue = x := by
  rw [Txn.undue, ← h]

theorem State.perform_eq (s : State) (x : Txn) :
    s.perform x = ((targetEff (s.putTxn x x.undue) x.undue).s.putTxn x.undue
      (x.undue.done (targetEff (s.putTxn x x.undue) x.undue).code (targetEff (s.putTxn x x.undue) x.undue).data)).errored x
      (targetEff (s.putTxn x x.undue) x.undue).code := rfl

theorem State.perform_of_not_due {s : State} {x : Txn} (h : x.due = false) :
    s.perform x = ((targetEff s x).s.putTxn x (x.done (targetEff s x).code (targetEff s x).data)).errored x
      (targetEff s x).code := by
  rw [State.perform_eq, Txn.undue_of_not_due h, State.putTxn_self]

theorem State.mem_putTxn {s : State} {x y : Txn} (h : x ∈ s.mtx.txns) : y ∈ (s.putTxn x y).mtx.txns :=
  List.mem_map.mpr ⟨x, h, if_pos rfl⟩

/-- A transaction that is no write stands, with its response, once it is performed. -/
theorem State.perform_stands {s : State} {x : Txn} (hx : x ∈ s.mtx.txns) (hkind : x.kind ≠ 1) (hdue : x.due = false) :
    (s.perform x).mtx.rr = s.mtx.rr ∧ x.done (targetEff s x).code (targetEff s x).data ∈ (s.perform x).mtx.txns := by
  obtain ⟨htxns, hrr⟩ := targetEff_sameTxns s hkind
  obtain ⟨htxns', hrr'⟩ := ((targetEff s x).s.putTxn x (x.done (targetEff s x).code
    (targetEff s x).data)).errored_sameTxns x (targetEff s x).code
  rw [State.perform_of_not_due hdue]
  refine ⟨hrr'.trans hrr, ?_⟩
  rw [htxns']
  exact State.mem_putTxn (htxns ▸ hx)

/-- A granted transaction outlasts what goes on at the matrix. -/
theorem State.flushRefused_granted {s : State} {y : Txn} (hy : y ∈ s.mtx.txns) (hg : y.granted = true) :
    s.flushRefused.mtx.rr = s.mtx.rr ∧ y ∈ s.flushRefused.mtx.txns := by
  unfold State.flushRefused
  have hwait : ∀ x ∈ s.waitingAt 8, x.granted = false := fun x hx => by
    have := (List.mem_filter.mp hx).2
    simp only [Bool.and_eq_true, Bool.not_eq_true'] at this
    exact this.1.1
  generalize s.waitingAt 8 = l at hwait
  have main : ∀ (l : List Txn) (t : State), (∀ x ∈ l, x.granted = false) → (t.mtx.rr = s.mtx.rr ∧ y ∈ t.mtx.txns) →
      (l.foldl (fun s x => (({ s with mtx := { s.mtx with txns := s.mtx.txns.erase x } } : State).mtxError 1 x).answerTxn
        x) t).mtx.rr = s.mtx.rr ∧
      y ∈ (l.foldl (fun s x => (({ s with mtx := { s.mtx with txns := s.mtx.txns.erase x } } : State).mtxError 1
        x).answerTxn x) t).mtx.txns := by
    intro l
    induction l with
    | nil => exact fun _ _ h => h
    | cons x l ih =>
      intro t hl ⟨hrr, hmem⟩
      rw [List.forall_mem_cons] at hl
      refine ih _ hl.2 ?_
      rw [State.answerTxn_txns]
      exact ⟨hrr, (List.mem_erase_of_ne fun e => by simp [e, hl.1] at hg).mpr hmem⟩
  exact main l s hwait ⟨rfl, hy⟩

theorem State.mtxDone_granted {s : State} {y : Txn} (hy : y ∈ s.mtx.txns) (hg : y.granted = true) :
    s.mtxDone.mtx.rr = s.mtx.rr ∧ y ∈ s.mtxDone.mtx.txns := by
  have hsettle (t : State) (h : y ∈ t.mtx.txns) : y ∈ (t.settleMtx false).mtx.txns :=
    (t.settleTxns_settled false _ _).mem h hg
  obtain ⟨hrr, hmem⟩ := foldRange_keeps (fun t : State => t.mtx.rr = s.mtx.rr ∧ y ∈ t.mtx.txns) (s.mtx.txns.length + 1)
    (fun t _ => (t.settleMtx false).flushRefused) s ⟨rfl, hy⟩ fun t _ ⟨hrr, hmem⟩ =>
      (State.flushRefused_granted (hsettle t hmem) hg).imp_left fun h => h.trans hrr
  exact ⟨hrr, hsettle _ hmem⟩

/-- Transaction `x` granted at a tick. -/
def Txn.grantedAt (x : Txn) (tick : Nat) : Txn :=
  { x with granted := true, age := 0, base := 0, held := false, tick := tick, due := x.kind == 1 }

/-- The matrix with transaction `x` granted, before the effect of one that is no write. -/
def State.granting (s : State) (x : Txn) : State :=
  ({ s with mtx := { s.mtx with txns := s.mtx.txns.erase x ++ [x.grantedAt s.tick]
                                rr := SMap.insert s.mtx.rr x.target x.master } } : State).tally (80 + x.target) 1

theorem State.granting_mtx (s : State) (x : Txn) : (s.granting x).mtx =
    { s.mtx with txns := s.mtx.txns.erase x ++ [x.grantedAt s.tick], rr := SMap.insert s.mtx.rr x.target x.master } :=
  State.tally_mtx ..

theorem State.granting_mem (s : State) (x : Txn) : x.grantedAt s.tick ∈ (s.granting x).mtx.txns := by
  rw [State.granting_mtx]
  exact List.mem_append_right _ (List.mem_singleton_self _)

theorem State.granting_rr (s : State) (x : Txn) : SMap.get 7 (s.granting x).mtx.rr x.target = x.master := by
  rw [State.granting_mtx]
  rw [SMap.get, SMap.find?_insert_self]

theorem State.grantTxn_write {s : State} {x : Txn} (h : x.kind = 1) :
    s.grantTxn x = (s.deliver x.target).granting x := by
  have hdue : (x.kind == 1) = true := by simp [h]
  simp only [State.grantTxn, hdue, if_true]
  rw [State.granting, Txn.grantedAt, hdue]

theorem State.grantTxn_other {s : State} {x : Txn} (h : x.kind ≠ 1) :
    s.grantTxn x = ((s.deliver x.target).granting x).perform (x.grantedAt (s.deliver x.target).tick) := by
  have hdue : (x.kind == 1) = false := by simp [h]
  simp only [State.grantTxn, hdue, Bool.false_eq_true, if_false]
  rw [State.granting, Txn.grantedAt, hdue]

/-- The transaction that is granted stands with its grant, and its master is the last of its target. -/
theorem State.grantTxn_stands (s : State) (x : Txn) : SMap.get 7 (s.grantTxn x).mtx.rr x.target = x.master ∧
    ∃ y ∈ (s.grantTxn x).mtx.txns,
      y.master = x.master ∧ y.id = x.id ∧ y.addr = x.addr ∧ y.granted = true ∧ y.due = (x.kind == 1) := by
  have hmem := (s.deliver x.target).granting_mem x
  have hrr := (s.deliver x.target).granting_rr x
  by_cases hkind : x.kind = 1
  · rw [State.grantTxn_write hkind]
    exact ⟨hrr, _, hmem, rfl, rfl, rfl, rfl, rfl⟩
  · have hdue : (x.kind == 1) = false := by simp [hkind]
    obtain ⟨hrr', hmem'⟩ := State.perform_stands hmem hkind hdue
    rw [State.grantTxn_other hkind, hrr']
    exact ⟨hrr, _, hmem', rfl, rfl, rfl, rfl, rfl⟩

theorem State.grant_chosen {s : State} {k dt : Nat} {x : Txn} (h : ((s.aged dt).settleMtx true).chosen k = some x) :
    s.grant k dt = (((s.aged dt).settleMtx true).grantTxn x).mtxDone := by
  simp only [State.grant, h]

theorem matrixGrant_grants {s : State} {k dt : Nat} {x : Txn} (hk : k < 8)
    (hchosen : ((s.aged dt).settleMtx true).chosen k = some x) :
    Runs (.matrixGrant k dt) s fun t =>
      SMap.get 7 t.mtx.rr x.target = x.master ∧ ∃ y ∈ t.mtx.txns,
        y.master = x.master ∧ y.id = x.id ∧ y.addr = x.addr ∧ y.granted = true ∧ y.due = (x.kind == 1) := by
  have hchosen' : ((s.fresh.aged dt).settleMtx true).chosen k = some x := by
    rw [State.aged_fresh, State.settleMtx_fresh]
    exact hchosen
  obtain ⟨hrr, y, hy, hmaster, hid, haddr, hgranted, hdue⟩ := ((s.fresh.aged dt).settleMtx true).grantTxn_stands x
  obtain ⟨hrr', hy'⟩ := State.mtxDone_granted hy hgranted
  refine runs_of_runIn (exec_matrixGrant s k dt) hk ?_
  rw [State.grant_chosen hchosen', State.withQueue_mtx, hrr']
  exact ⟨hrr, y, hy', hmaster, hid, haddr, hgranted, hdue⟩

/-- Settles O27. -/
theorem matrixTransactions : Obligations.MatrixTransactions :=
  ⟨fun _ _ id a _ f g hm hrun hform hnone => matrixRead_issues id a hm hrun f g hform hnone,
    fun _ _ id a d hm hrun hform hnone => matrixWrite_issues id a hm hrun d hform hnone,
    fun s m id a v hm hrun hform hnone => atomic_issues id a hm hrun (exec_addWrap s m id a v) hform hnone,
    fun s m id a v hm hrun hform hnone => atomic_issues id a hm hrun (exec_addSat s m id a v) hform hnone,
    fun s m id a v hm hrun hform hnone => atomic_issues id a hm hrun (exec_swap s m id a v) hform hnone,
    fun _ _ _ _ _ _ _ => matrixRead_bad, fun _ _ _ _ _ _ _ => matrixRead_reset, fun _ _ _ _ => matrixGrant_grants,
    fun _ _ _ => matrixResponse_answers, fun _ _ _ _ => matrixTimeout_answers⟩

end Sys2Proof.Machine

/-! What a response leaves of the other transactions of its target: the statement on transactions and the memories
(O42). -/

namespace Sys2Proof.Machine

/-- A granted write to Keeper SRAM whose data is to be delivered; its status is not that of a response to come. -/
def oddWrite : Txn :=
  { master := 0, id := 0, kind := 1, addr := 0, len := 8, data := List.replicate 8 (1, true), operand := 0, flip := 0,
    qos := 0, target := 1, zone := false, granted := true, age := 0, tick := 0, status := rRefused, result := [],
    fetch := false, due := true, early := false, held := false, base := 0 }

/-- The matrix holds that write and, behind it, one that is the same but for having been delivered. -/
def twoWrites : State := State.reset.withTxns [oddWrite, oddWrite.undue]

/-- Delivery writes the status of both. -/
theorem twoWrites_left : (twoWrites.fresh.respondTxn 1).mtx.txns.map (·.status) = [rDone] := by decide

theorem twoWrites_kept : ((twoWrites.mtx.txns.erase oddWrite).map Txn.core).map (·.status) = [rRefused] := by decide

/-- Refutes O42: its clauses on a granted write name no premise on the status of the write. A write at the same target
that differs from it in nothing but that its data has been delivered is answered with the same status, so that it does
not stand as it was. -/
theorem not_matrixMemory : ¬ Obligations.MatrixMemory := by
  intro ⟨_, _, hsram, _⟩
  obtain ⟨t, ht, -, -, -, -, -, hleft⟩ := hsram twoWrites oddWrite (by decide) (by decide) (by decide) (by decide)
    (by decide) (by decide) (by decide) (by decide)
  rw [exec_matrixResponse, State.runIn_of_lt _ (by decide)] at ht
  cases ht
  have hstatus := congrArg (List.map (·.status)) hleft
  rw [twoWrites_kept] at hstatus
  exact absurd (twoWrites_left.symm.trans ((List.map_map).symm.trans hstatus)) (by decide)

end Sys2Proof.Machine

/-! Messages that the Keeper discards without an answer (O43). -/

namespace Sys2Proof.Machine

/-! ### Counting a discarded message -/

/-- An event's notices count in entry 7 of HDP.STATS alone (R400). -/
theorem State.raise_hdpStats (s : State) (ev : Nat) {k : Nat} (hk : k < 7) :
    (s.raise ev).reg O.hdpStats k = s.reg O.hdpStats k := by
  have hlatch (a : State) (e : Nat) : (a.latch e).reg O.hdpStats k = a.reg O.hdpStats k := by
    rw [reg_see, State.latch_see _ _ (by simp), ← reg_see]
  have hbump (a : State) : (a.bump O.hdpStats 7 48).reg O.hdpStats k = a.reg O.hdpStats k :=
    State.reg_setReg_ne _ (by omega) (by omega) (by simpa using (by omega : k ≠ 7))
  simp only [State.raise]
  split_ifs
  · rfl
  · refine ((s.latch ev).notifyAll_same (fun t => t.reg O.hdpStats k) ev fun a e => ?_).trans (hlatch s ev)
    refine foldRange_same (fun t : State × Nat => t.1.reg O.hdpStats k) 8 _ (a, 0) fun b x => ?_
    simp only []
    split_ifs
    · rw [hbump, hlatch]
      rfl
    · rfl
    · rfl

theorem State.raiseLim_hdpStats (s : State) (ev k n : Nat) {e : Nat} (he : e < 7) :
    (s.raiseLim ev k n).reg O.hdpStats e = s.reg O.hdpStats e := by
  simp only [State.raiseLim]
  split_ifs
  · rfl
  · exact s.raise_hdpStats ev he

section
variable (s : State) {k : Nat}

theorem State.discard_counts (hk : k < 7) :
    (s.discard k).reg O.hdpStats k = (s.reg O.hdpStats k + 1) % 2 ^ 48 := by
  simp only [State.discard]
  split_ifs
  · exact State.reg_bump_self ..
  · rw [State.raiseLim_hdpStats _ _ _ _ hk]
    exact State.reg_bump_self ..

theorem State.discard_regs (k : Nat) : OnlyRegs [] s (s.discard k) := by
  intro i e hev _
  have hne : i ≠ O.hdpStats := by
    rintro rfl
    exact absurd hev (by decide)
  have hstat : (s.hdpStat k 1).reg i e = s.reg i e := State.reg_bump_obj _ hne
  simp only [State.discard]
  split_ifs
  · exact hstat
  · rw [State.raiseLim_reg _ hev, hstat]

theorem State.discard_out (k : Nat) : (s.discard k).out = s.out := by
  simp only [State.discard]
  split_ifs
  · rfl
  · rw [State.raiseLim_out]
    rfl

end

/-! ### What a message meets on its way in -/

section
variable {s : State} {ops : List Nat} {port : Nat} {enc : Encap} {m : List Byte} {h : Hdp}

theorem State.hdpIn_unserved (hno : s.served port enc = false) : s.hdpIn ops port enc m = s := by
  simp [State.hdpIn, hno]

theorem State.hdpIn_malformed (hserved : s.served port enc = true) (hbad : hdpParse m = none) :
    s.hdpIn ops port enc m = s.discard 3 := by
  simp [State.hdpIn, hserved, hbad]

theorem State.hdpIn_request (hserved : s.served port enc = true) (hparse : hdpParse m = some h) (hop : h.op ∈ ops)
    (hreq : bit h.flags 7 = false) : s.hdpIn ops port enc m = s.takeIn port enc h m := by
  simp [State.hdpIn, hserved, hparse, hop, hreq]

theorem State.hdpIn_response (hserved : s.served port enc = true) (hparse : hdpParse m = some h) (hop : h.op ∈ ops)
    (hresp : bit h.flags 7 = true) (hsaid : s.spareSaid h m = false) : s.hdpIn ops port enc m = s.discard 4 := by
  simp [State.hdpIn, hserved, hparse, hop, hresp, hsaid]

theorem State.takeIn_unauthentic (hauth : s.authentic h m = false) : s.takeIn port enc h m = s.discard 4 := by
  simp [State.takeIn, hauth]

theorem State.takeIn_replay (hauth : s.authentic h m = true) (hfresh : s.fresh48 h = false) :
    s.takeIn port enc h m = s.discard 5 := by
  simp [State.takeIn, hauth, hfresh]

/-- The commands that bring a message, each with an operation of those that it takes. -/
def hdpCommands (port : Nat) (enc : Encap) (m : List Byte) : List (Instr × Nat) :=
  [(.hdpRead port enc m, 1), (.hdpWrite port enc m, 2), (.readBulk port enc m, 3), (.writeBulk port enc m, 4),
    (.subscribe port enc m, 5), (.bulkAbort port enc m, 7)]

theorem exec_hdpCommand {c : Instr} {op : Nat} (hc : (c, op) ∈ hdpCommands port enc m) (s : State) :
    ∃ ops, exec c s = s.runIn port 2 (fun s => s.hdpIn ops port enc m) ∧ op ∈ ops := by
  simp only [hdpCommands, List.mem_cons, Prod.mk.injEq, List.not_mem_nil, or_false] at hc
  rcases hc with ⟨rfl, rfl⟩ | ⟨rfl, rfl⟩ | ⟨rfl, rfl⟩ | ⟨rfl, rfl⟩ | ⟨rfl, rfl⟩ | ⟨rfl, rfl⟩
  exacts [⟨_, exec_hdpRead .., by simp⟩, ⟨_, exec_hdpWrite .., by simp⟩, ⟨_, exec_readBulk .., by simp⟩,
    ⟨_, exec_writeBulk .., by simp⟩, ⟨_, exec_subscribe .., by simp⟩, ⟨_, exec_bulkAbort .., by simp⟩]

theorem mem_hdpCommands {c : Instr} (hc : c ∈ [Instr.hdpRead port enc m, .hdpWrite port enc m, .readBulk port enc m,
    .writeBulk port enc m, .subscribe port enc m, .bulkAbort port enc m]) : ∃ op, (c, op) ∈ hdpCommands port enc m := by
  obtain ⟨x, hx, rfl⟩ := List.mem_map.mp (show c ∈ (hdpCommands port enc m).map Prod.fst from hc)
  exact ⟨x.2, hx⟩

/-- A message that is discarded is not answered: it counts, and no register changes but those of an event. -/
theorem runs_discard {c : Instr} {k n : Nat} {f : State → State} (hc : exec c s = s.runIn port n f) (hp : port < n)
    (hk : k < 7) (hf : f s.fresh = s.fresh.discard k) :
    Runs c s fun t =>
      t.out.sent = [] ∧ t.reg O.hdpStats k = (s.reg O.hdpStats k + 1) % 2 ^ 48 ∧ OnlyRegs [] s t := by
  refine runs_of_runIn hc hp ?_
  rw [hf]
  refine ⟨?_, s.fresh.discard_counts hk, s.fresh.discard_regs k⟩
  rw [State.withQueue_out, State.discard_out]
  rfl

end

/-- Settles O43. -/
theorem hdpDiscards : Obligations.HdpDiscards := by
  refine ⟨fun s port enc m c hc hp hserved hbad => ?_, fun s port enc m h c op hc hp hserved hparse hop hreq hauth => ?_,
    fun s port enc m h c op hc hp hserved hparse hop hreq hauth hfresh => ?_,
    fun s port enc m h c op hc hp hserved hparse hop hresp hsaid => ?_, fun s port enc m c hc hp hno => ?_⟩
  · obtain ⟨op, hcop⟩ := mem_hdpCommands hc
    obtain ⟨ops, hexec, -⟩ := exec_hdpCommand hcop s
    exact runs_discard hexec hp (by decide) (State.hdpIn_malformed (s := s.fresh) hserved hbad)
  · obtain ⟨ops, hexec, hmem⟩ := exec_hdpCommand hc s
    refine runs_discard hexec hp (by decide) ?_
    rw [State.hdpIn_request (s := s.fresh) hserved hparse (hop ▸ hmem) hreq]
    exact State.takeIn_unauthentic (s := s.fresh) hauth
  · obtain ⟨ops, hexec, hmem⟩ := exec_hdpCommand hc s
    refine runs_discard hexec hp (by decide) ?_
    rw [State.hdpIn_request (s := s.fresh) hserved hparse (hop ▸ hmem) hreq]
    exact State.takeIn_replay (s := s.fresh) hauth hfresh
  · obtain ⟨ops, hexec, hmem⟩ := exec_hdpCommand hc s
    exact runs_discard hexec hp (by decide)
      (State.hdpIn_response (s := s.fresh) hserved hparse (hop ▸ hmem) hresp hsaid)
  · obtain ⟨op, hcop⟩ := mem_hdpCommands hc
    obtain ⟨ops, hexec, -⟩ := exec_hdpCommand hcop s
    refine runs_of_runIn hexec hp ?_
    rw [State.hdpIn_unserved (s := s.fresh) hno]
    exact ⟨rfl, by simp [SameParts, State.fresh], fun _ _ => rfl⟩

end Sys2Proof.Machine

/-! Attestation reports and their leaves (O18). -/

namespace Sys2Proof.Machine

/-- A write of bytes that its own operation accepts runs to its effect and the answer 0. -/
theorem runs_of_writeBytes {c : Instr} {s u : State} {w : Who} {idx e n : Nat} {v : List Byte} {op : State → State × Nat}
    {P : State → Prop} (hc : exec c s = s.run fun s => s.writeBytes w idx e n v op) (ha : Writable s w idx e)
    (hv : v ≠ []) (hn : v.length ≤ n) (ho : op s.fresh = (u, 0)) (h : P ((u.answer 0).withQueue s.pending)) :
    Runs c s P := by
  refine runs_of_run hc ?_
  rw [State.writeBytes_ok s.fresh ha.1 (mt List.eq_nil_of_length_eq_zero hv) hn ha.2 (congrArg Prod.snd ho), ho]
  exact h

/-! ### Nonces (R467) -/

theorem nonceOp_takes {s : State} {n : List Byte} (hday : s.signed24.length < 64)
    (hleaf : s.reg O.secLeafNext < 1048576) :
    nonceOp n s = ({ s with fw := { s.fw with nonces := s.fw.nonces ++ [padBytes 32 n] } }, 0) := by
  rw [nonceOp, if_neg (by omega), if_neg (by omega)]

theorem attestNonce_takes {s : State} {w : Who} {n : List Byte} (ha : Writable s w O.secAttestNonce 0) (hn : n ≠ [])
    (hlen : n.length ≤ 32) (hday : s.signed24.length < 64) (hleaf : s.reg O.secLeafNext < 1048576) :
    Runs (.attestNonce w n) s fun t =>
      t.fw.nonces = s.fw.nonces ++ [padBytes 32 n] ∧ t.out.status = 0 ∧ OnlyElems [] s t :=
  runs_of_writeBytes (exec_attestNonce s w n) ha hn hlen (nonceOp_takes (s := s.fresh) hday hleaf)
    ⟨rfl, rfl, (OnlyElems.refl [] s.fresh).of_regs rfl⟩

/-! ### Reports (R467, R468) -/

/-- A report over nonce `n` is signed with the next leaf; `ns` are the nonces that wait. -/
def State.signed (s : State) (n : List Byte) (ns : List (List Byte)) : State :=
  ({ s with fw := { s.fw with mirror := (s.reg O.secLeafNext + 1, s.reg O.secReservations), nonces := ns,
                              signed := s.signed24 ++ [s.tick] } } : State).setReg O.secAttestReport 0
    (ofBytes (s.reportHead n ++ padBytes 5076 (Config.hssSign (s.reg O.secLeafNext) (s.reportHead n))))

section
variable {s : State} {n : List Byte} {ns : List (List Byte)}

theorem State.signed_fw : (s.signed n ns).fw = { s.fw with
    mirror := (s.reg O.secLeafNext + 1, s.reg O.secReservations), nonces := ns, signed := s.signed24 ++ [s.tick] } := rfl

theorem State.signed_reg {i e : Nat} (h : i ≠ O.secAttestReport) : (s.signed n ns).reg i e = s.reg i e :=
  State.reg_setReg_obj _ h

theorem State.signed_report : (s.signed n ns).reg O.secAttestReport =
    ofBytes (s.reportHead n ++ padBytes 5076 (Config.hssSign (s.reg O.secLeafNext) (s.reportHead n))) :=
  State.reg_setReg_self ..

theorem State.signed_elems : OnlyElems [(O.secLeafNext, 0), (O.secAttestReport, 0)] s (s.signed n ns) :=
  ((OnlyElems.refl _ s).of_regs rfl).setReg _ (by decide) (by simp)

variable (hnonce : s.fw.nonces = n :: ns)
include hnonce

theorem State.reportDone_exhausted (hleaf : 1048576 ≤ s.reg O.secLeafNext) :
    s.reportDone = { s with fw := { s.fw with nonces := ns } } := by
  simp only [State.reportDone, hnonce, if_pos hleaf]

theorem State.reportDone_signs (hleaf : s.reg O.secLeafNext < 1048576) :
    s.reportDone = if (s.reg O.secLeafNext + 1) % 64 = 0 then (s.signed n ns).burnLeaf
      else (s.signed n ns).setReg O.secLeafNext 0 (s.reg O.secLeafNext + 1) := by
  simp only [State.reportDone, hnonce, if_neg (Nat.not_le.mpr hleaf)]
  rfl

theorem attestReportDone_signs (hleaf : s.reg O.secLeafNext < 1048576) (hmore : (s.reg O.secLeafNext + 1) % 64 ≠ 0) :
    Runs .attestReportDone s fun t =>
      t.reg O.secLeafNext = s.reg O.secLeafNext + 1 ∧ t.fw.nonces = ns ∧ s.tick ∈ t.fw.signed ∧
      t.fw.mirror = (s.reg O.secLeafNext + 1, s.reg O.secReservations) ∧
      t.reg O.secAttestReport =
        ofBytes (s.reportHead n ++ padBytes 5076 (Config.hssSign (s.reg O.secLeafNext) (s.reportHead n))) ∧
      OnlyElems [(O.secLeafNext, 0), (O.secAttestReport, 0)] s t := by
  have hdone := State.reportDone_signs (s := s.fresh) hnonce hleaf
  rw [State.reg_fresh_all, if_neg hmore] at hdone
  refine runs_of_run (exec_attestReportDone s) ?_
  rw [hdone, State.withQueue_fw, State.setReg_fw, State.signed_fw]
  refine ⟨?_, rfl, by simp, rfl, ?_, ?_⟩
  · rw [State.reg_withQueue_all, State.reg_setReg_self]
  · rw [State.reg_withQueue_all, State.reg_setReg_obj _ (by decide), State.signed_report]
    rfl
  · exact ((State.signed_elems (s := s.fresh)).setReg _ (by decide) (by simp)).run _

theorem attestReportDone_exhausted (hleaf : 1048576 ≤ s.reg O.secLeafNext) :
    Runs .attestReportDone s fun t => t.fw = { s.fw with nonces := ns } ∧ OnlyElems [] s t := by
  refine runs_of_run (exec_attestReportDone s) ?_
  rw [State.reportDone_exhausted (s := s.fresh) hnonce hleaf]
  exact ⟨rfl, (OnlyElems.refl [] s.fresh).of_regs rfl⟩

theorem attestReportDone_burns (hleaf : s.reg O.secLeafNext < 1048576) (hlast : (s.reg O.secLeafNext + 1) % 64 = 0)
    (hres : s.reg O.secReservations < 16384) :
    Runs .attestReportDone s fun t =>
      t.reg O.secReservations = s.reg O.secReservations + 1 ∧ t.reg O.secLeafNext = 64 * s.reg O.secReservations ∧
      t.fw.nonces = ns := by
  have hdone := State.reportDone_signs (s := s.fresh) hnonce hleaf
  have hkeep : (s.fresh.signed n ns).reg O.secReservations = s.reg O.secReservations := State.signed_reg (by decide)
  rw [State.reg_fresh_all, if_pos hlast, State.burnLeaf, hkeep, if_pos hres] at hdone
  refine runs_of_run (exec_attestReportDone s) ?_
  rw [hdone]
  refine ⟨?_, ?_, rfl⟩
  · rw [State.reg_withQueue_all, State.reg_setReg_obj _ (by decide), State.reg_setReg_self]
  · rw [State.reg_withQueue_all, State.reg_setReg_self]

end

/-- Settles O18. -/
theorem attestReports : Obligations.AttestReports :=
  ⟨fun _ _ _ => attestNonce_takes, fun _ _ _ => attestReportDone_signs, fun _ _ _ => attestReportDone_exhausted,
    fun _ _ _ => attestReportDone_burns⟩

end Sys2Proof.Machine

/-! Entry into QUARANTINE and DORMANT, and what the power of the fabric island brings and takes: waking up (O14), and the
mode requests (O13). -/

namespace Sys2Proof.Machine

/-! ### What ends with a mode -/

/-- FAB_EN, FAB_PG and whether the fabric island is on. -/
def State.power (s : State) : Bool × Bool × Bool := (s.sys.fabEn, s.sys.fabPg, s.sys.fabOn)

theorem State.power_congr {s t : State} (h : t.sys = s.sys) : t.power = s.power := by rw [State.power, h, State.power]

section
variable (s : State)

theorem State.promoteStep_sys (n : Nat) : (s.promoteStep n).sys = s.sys :=
  State.promoteStep_see (z := .part .sys) s n (by simp)

/-- A promotion is over. -/
def State.unpromoted (s : State) : State :=
  { s with sys := { s.sys with promoting := 0 }, prot := { s.prot with untold := false } }

theorem State.promoteFail_eq :
    s.promoteFail = if s.sys.promoting = 0 then s else (s.promoteStep 0xFF).unpromoted := rfl

/-- RESTORE is over, but for its tokens. -/
def State.restoreOff (s : State) : State :=
  { s with sys := { s.sys with restoreTok := 0, restoreCommit := false, restoreWait := false, restoreAgain := false } }

theorem State.restoreOver_keeps {P : State → Prop} (h : P s.restoreOff) (hend : ∀ t d, P t → P (State.actEnd t d)) :
    P s.restoreOver := by
  have hfirst : P (if bit s.sys.restoreTok 0 then s.restoreOff.actEnd 0 else s.restoreOff) := by
    split_ifs
    exacts [hend _ _ h, h]
  change P (if bit s.sys.restoreTok 1 then (if bit s.sys.restoreTok 0 then s.restoreOff.actEnd 0
    else s.restoreOff).actEnd 1 else (if bit s.sys.restoreTok 0 then s.restoreOff.actEnd 0 else s.restoreOff))
  split
  exacts [hend _ _ hfirst, hfirst]

/-- A commit has stopped, but for its token and its result. -/
def State.stopped (s : State) : State :=
  { s.solveBusy.setReg O.mapState 0 0 with
    map := { s.solveBusy.map with loaded := false, resolve := false, lodeDue := false, holder := 0xFF }
    sys := { s.solveBusy.sys with serviceReq := false } }

theorem State.commitStop_keeps {P : State → Prop} (c : Nat) (h : P s.stopped) (hend : ∀ t, P t → P (State.actEnd t 0))
    (hresult : ∀ t v, P t → P (State.setReg t O.mapResult 0 v)) (hraise : ∀ t, P t → P (State.raise t 385)) :
    P (s.commitStop c) := by
  have htok : P (if s.map.holder = 0xFF then s.stopped else s.stopped.actEnd 0) := by
    split_ifs
    exacts [h, hend _ h]
  change P (if c ≠ 0x060A then (if s.map.holder = 0xFF then s.stopped else s.stopped.actEnd 0)
    else (if s.ownCommit then (if s.map.holder = 0xFF then s.stopped else s.stopped.actEnd 0)
      else (if s.map.holder = 0xFF then s.stopped else s.stopped.actEnd 0).setReg O.mapResult 0 c).raise 385)
  split
  · exact htok
  · refine hraise _ ?_
    split
    exacts [htok, hresult _ _ htok]

theorem State.promoteFail_power : s.promoteFail.power = s.power := by
  rw [State.promoteFail_eq]
  split_ifs
  · rfl
  · exact State.power_congr (t := s.promoteStep 0xFF) (s.promoteStep_sys 0xFF)

theorem State.restoreOver_power : s.restoreOver.power = s.power :=
  s.restoreOver_keeps (P := fun t => t.power = s.power) rfl fun t d h => (State.power_congr (t.actEnd_sys d)).trans h

theorem State.solveBusy_sys : s.solveBusy.sys = s.sys :=
  State.solveBusy_see (z := .part .sys) s (by simp)

theorem State.commitStop_power (c : Nat) : (s.commitStop c).power = s.power :=
  s.commitStop_keeps c (P := fun t => t.power = s.power)
    (State.power_congr (t := s.solveBusy) s.solveBusy_sys)
    (fun t h => (State.power_congr (t.actEnd_sys 0)).trans h) (fun _ _ h => h)
    fun t h => (State.power_congr (t.raise_sys 385)).trans h

theorem State.enter_modeFsn (m : Mode) : (s.enter m).reg O.sysModeFsn = s.clk.fsn := by
  simp only [State.enter]
  split_ifs
  · rw [State.raise_reg _ (by decide), State.reg_setReg_self]
  · rw [State.raise_reg _ (by decide), State.reg_setReg_obj _ (by decide), State.raise_reg _ (by decide),
      State.reg_setReg_self]

theorem State.enter_latches (m : Mode) : (s.enter m).latched 503 = true := by
  have h : (({ s with sys := { s.sys with mode := m } } : State).setReg O.sysModeFsn 0 s.clk.fsn |>.raise 503).latched
      503 = true := State.latched_raise_self (.inl (by decide))
  simp only [State.enter]
  split_ifs
  · exact h
  · refine State.latched_raise ?_ _
    rwa [State.latched_setReg (by decide)]

theorem State.setResume_sys (v : Nat) : (s.setResume v).sys = s.sys :=
  State.setResume_see (z := .part .sys) s v (by simp)

theorem State.setResume_reg (v : Nat) : (s.setResume v).reg O.sysResume = v := by
  simp only [State.setResume]
  split_ifs with h
  · exact h
  · rw [reg_see, State.descriptor_see _ (by simp), ← reg_see, State.reg_setReg_self]

theorem State.pendingDrain_sys : s.pendingDrain.sys = s.sys :=
  State.pendingDrain_see (z := .part .sys) s (by simp)

end

/-! ### QUARANTINE -/

/-- What stands when QUARANTINE is entered, but for the commit. -/
def State.restoreEnded (s : State) (cause : Nat) : State := ((s.setReg O.sysCause 0 cause).promoteFail).restoreOver

/-- The commit ends too, but one whose boundary has been taken. -/
def State.commitEnded (s : State) : State := if s.locked && !s.map.drain then s.commitStop 0x060A else s

/-- No mode is asked for any more. -/
def State.unasked (s : State) : State :=
  { s with sys := { s.sys with isolateReq := false, dormantReq := false, serviceReq := false } }

section
variable (s : State)

theorem State.quarantine_eq (cause : Nat) :
    s.quarantine cause = (((s.restoreEnded cause).commitEnded.unasked.setResume 0).enter .quarantine).pendingDrain := rfl

theorem State.restoreEnded_power (cause : Nat) : (s.restoreEnded cause).power = s.power := by
  rw [State.restoreEnded, State.restoreOver_power, State.promoteFail_power]
  rfl

theorem State.commitEnded_power : s.commitEnded.power = s.power := by
  unfold State.commitEnded
  split_ifs
  exacts [s.commitStop_power _, rfl]

theorem State.quarantine_mode (cause : Nat) : (s.quarantine cause).sys.mode = .quarantine := by
  rw [State.quarantine_eq, State.pendingDrain_sys, State.enter_sys]

theorem State.quarantine_power (cause : Nat) : (s.quarantine cause).power = s.power := by
  have h : (s.quarantine cause).power = ((s.restoreEnded cause).commitEnded.unasked.setResume 0).power := by
    rw [State.quarantine_eq, State.power_congr (State.pendingDrain_sys _), State.power, State.enter_sys]
    rfl
  rw [h, State.power_congr (State.setResume_sys _ _)]
  exact (State.commitEnded_power _).trans (s.restoreEnded_power cause)

theorem State.quarantine_cause (cause : Nat) : (s.quarantine cause).reg O.sysCause = cause := by
  have hended (t : State) : t.commitEnded.reg O.sysCause = t.reg O.sysCause := by
    unfold State.commitEnded
    split_ifs
    · rw [reg_see, State.commitStop_see _ _ (by simp), ← reg_see]
    · rfl
  have hunasked (t : State) : t.unasked.reg O.sysCause = t.reg O.sysCause := rfl
  rw [State.quarantine_eq, reg_see, State.pendingDrain_see _ (by simp), State.enter_see _ _ (by simp),
    State.setResume_see _ _ (by simp), ← reg_see, hunasked, hended, State.restoreEnded, reg_see,
    State.restoreOver_see _ (by simp), State.promoteFail_see _ (by simp), ← reg_see, State.reg_setReg_self]

/-- A commit whose boundary has been taken goes on (Table 4-7). -/
theorem State.quarantine_mapState {s : State} (cause : Nat) (h : s.map.drain = true) :
    (s.quarantine cause).reg O.mapState = s.reg O.mapState := by
  have hmap : (s.restoreEnded cause).map = s.map := by
    rw [State.restoreEnded]
    exact (State.restoreOver_see (z := .part .map) _ (by simp)).trans
      ((State.promoteFail_see (z := .part .map) _ (by simp)).trans rfl)
  have hended : (s.restoreEnded cause).commitEnded = s.restoreEnded cause := by
    rw [State.commitEnded, hmap, h]
    simp
  have hunasked (t : State) : t.unasked.reg O.mapState = t.reg O.mapState := rfl
  rw [State.quarantine_eq, hended, reg_see, State.pendingDrain_see _ (by simp), State.enter_see _ _ (by simp),
    State.setResume_see _ _ (by simp), ← reg_see, hunasked, State.restoreEnded, reg_see,
    State.restoreOver_see _ (by simp), State.promoteFail_see _ (by simp), ← reg_see,
    State.reg_setReg_obj _ (by decide)]

end

section
variable {s : State} {ev : Nat} (h : s.latched ev = true)
include h

theorem State.latched_promoteFail : s.promoteFail.latched ev = true := by
  have hstep : (s.promoteStep 0xFF).latched ev = true := by
    simp only [State.promoteStep]
    split_ifs
    · exact h
    · exact State.latched_raise (by rwa [State.latched_setReg (by decide)]) _
  rw [State.promoteFail_eq]
  split_ifs
  exacts [h, hstep]

theorem State.latched_actEnd (d : Nat) : (s.actEnd d).latched ev = true := by
  simp only [State.actEnd, State.tokDrop]
  split_ifs
  · exact h
  · refine State.latched_raise ?_ _
    rw [State.latched_setReg (by decide)]
    exact h
  · exact h

theorem State.latched_restoreOver : s.restoreOver.latched ev = true :=
  s.restoreOver_keeps (P := fun t => t.latched ev = true) h fun _ d ht => State.latched_actEnd ht d

theorem State.latched_commitStop (c : Nat) : (s.commitStop c).latched ev = true := by
  refine s.commitStop_keeps c (P := fun t => t.latched ev = true) ?_ (fun _ ht => State.latched_actEnd ht 0)
    (fun t v ht => (State.latched_setReg (s := t) (by decide)).trans ht) fun _ ht => State.latched_raise ht _
  have hstop : s.stopped.latched ev = (s.solveBusy.setReg O.mapState 0 0).latched ev := rfl
  rw [hstop, State.latched_setReg (by decide), State.latched_see (State.solveBusy_see _ (by simp))]
  exact h

theorem State.latched_enter (m : Mode) : (s.enter m).latched ev = true := by
  have h0 : (({ s with sys := { s.sys with mode := m } } : State).setReg O.sysModeFsn 0 s.clk.fsn |>.raise 503).latched
      ev = true := State.latched_raise (by rw [State.latched_setReg (by decide)]; exact h) _
  simp only [State.enter]
  split_ifs
  · exact h0
  · exact State.latched_raise (by rwa [State.latched_setReg (by decide)]) _

theorem State.latched_quarantine (cause : Nat) : (s.quarantine cause).latched ev = true := by
  have hrestore : (s.restoreEnded cause).latched ev = true :=
    State.latched_restoreOver (State.latched_promoteFail (by rwa [State.latched_setReg (by decide)]))
  have hcommit : (s.restoreEnded cause).commitEnded.latched ev = true := by
    unfold State.commitEnded
    split_ifs
    exacts [State.latched_commitStop hrestore _, hrestore]
  rw [State.quarantine_eq, State.latched_see (State.pendingDrain_see _ (by simp))]
  refine State.latched_enter ?_ _
  rw [State.latched_see (State.setResume_see _ _ (by simp))]
  exact hcommit

end

/-! ### Mode requests -/

/-- A device in STAGE with a commit whose boundary has been taken. -/
def drainingCommit : State :=
  { State.reset.setReg O.mapState 0 3 with
    sys := { State.reset.sys with mode := .stage, booting := false, fabEn := true, fabPg := true, fabOn := true }
    map := { State.reset.map with drain := true } }

/-- Refutes O13: its clause on SYS.MODE_REQ = QUARANTINE names no premise on the boundary of a commit. One whose boundary
has been taken goes on in QUARANTINE (Table 4-7), so that MAP.STATE does not return to 0. -/
theorem not_modeChanges : ¬ Obligations.ModeChanges := by
  intro ⟨_, _, _, _, _, _, _, _, hquarantine, _⟩
  have ha : Allowed drainingCommit .keeper O.sysModeReq 0 7 := by unfold Allowed; decide
  obtain ⟨t, ht, -, -, -, hstate, -⟩ := hquarantine drainingCommit .keeper ha (.inl rfl)
  have hop : modeOp (holderOf .keeper) 7 drainingCommit.fresh = (drainingCommit.fresh.quarantine 4, 0) := rfl
  have hrun : exec (.modeReqQuarantine .keeper) drainingCommit = .next ((((drainingCommit.fresh.quarantine 4).record
      O.sysModeReq 0 7).answer 0).withQueue drainingCommit.pending) := by
    rw [exec_modeReqQuarantine]
    refine (drainingCommit.run_write ha (congrArg Prod.snd hop)).trans ?_
    rw [hop]
  rw [hrun] at ht
  cases ht
  rw [State.reg_write _ _ _ _ _ (by decide) (by decide), State.quarantine_mapState 4 rfl] at hstate
  exact absurd hstate (by decide)

end Sys2Proof.Machine

/-! Waking up: power good and its loss, the self-test and the checks of ATTEST (O14). -/

namespace Sys2Proof.Machine

/-! ### Power good (R458) -/

theorem State.promoteStep_reg (s : State) (n : Nat) {i e : Nat} (hev : evObj i = false) (h : i ≠ O.protPromoteStep) :
    (s.promoteStep n).reg i e = s.reg i e := by
  simp only [State.promoteStep]
  split_ifs
  · rfl
  · rw [State.raise_reg _ hev, State.reg_setReg_obj _ h]

theorem State.setChannel_reg_self (s : State) (c v : Nat) : (s.setChannel c v).reg O.memDdrChState c = v := by
  simp only [State.setChannel]
  split_ifs with h
  · exact h
  · rw [reg_see, State.ddrShow_see _ (by simp), ← reg_see, State.raise_reg _ (by decide), State.reg_setReg_self]

theorem State.setChannel_reg_ne (s : State) {c d : Nat} (v : Nat) (hc : c < 4) (hd : d < 4) (h : d ≠ c) :
    (s.setChannel c v).reg O.memDdrChState d = s.reg O.memDdrChState d := by
  simp only [State.setChannel]
  split_ifs
  · rfl
  · rw [reg_see, State.ddrShow_see _ (by simp), ← reg_see, State.raise_reg _ (by decide),
      State.reg_setReg_ne _ (by omega) (by omega) (by simpa using h)]

/-- The four channels take their states. -/
theorem foldRange_setChannel (s : State) (v : Nat → Nat) : ∀ c < 4,
    (foldRange 4 (fun s c => s.setChannel c (v c)) s).reg O.memDdrChState c = v c := by
  have main := foldRange_induction (fun n t => n ≤ 4 → ∀ c < n, t.reg O.memDdrChState c = v c) (n := 4)
    (f := fun s c => s.setChannel c (v c)) (a := s) (fun _ _ h => absurd h (by omega)) fun n t hn ih _ c hc => by
      rcases Nat.lt_succ_iff_lt_or_eq.mp hc with hlt | rfl
      · rw [State.setChannel_reg_ne _ _ hn (by omega) (by omega), ih (by omega) c hlt]
      · exact t.setChannel_reg_self c (v c)
  exact main le_rfl

/-- Every bank is to be cleared. -/
theorem foldRange_setBank (s : State) (v : Nat) : ∀ b < 256,
    (foldRange 256 (fun s b => s.setReg O.memBankState b v) s).reg O.memBankState b = v := by
  have main := foldRange_induction (fun n t => n ≤ 256 → ∀ b < n, t.reg O.memBankState b = v) (n := 256)
    (f := fun s b => s.setReg O.memBankState b v) (a := s) (fun _ _ h => absurd h (by omega)) fun n t hn ih _ b hb => by
      rcases Nat.lt_succ_iff_lt_or_eq.mp hb with hlt | rfl
      · rw [State.reg_setReg_ne _ (by omega) (by omega) (by simpa using Nat.ne_of_lt hlt), ih (by omega) b hlt]
      · exact State.reg_setReg_self ..
  exact main le_rfl

/-- Power good: the banks are to be cleared. -/
def State.banksUp (s : State) : State :=
  foldRange 256 (fun s b => s.setReg O.memBankState b 5) { s with sys := { s.sys with fabPg := true, fabOn := true } }

/-- DDR4 is trained, where there is any. -/
def State.ddrUp (s : State) : State :=
  if s.sys.ddrNone then s else (foldRange 4 (fun s c => s.setChannel c 1) (s.setReg O.memDdrState 0 1)).ddrShow

section
variable (s : State)

theorem State.banksUp_sys : s.banksUp.sys = { s.sys with fabPg := true, fabOn := true } :=
  foldRange_same (fun t : State => t.sys) _ _ _ fun _ _ => rfl

theorem State.ddrUp_see {z : View} (h : z.place ∉ [.obj O.eventCount, .obj O.eventLastTime, .obj O.eventLatch,
    .obj O.hdpStats, .obj O.memDdrChState, .obj O.memDdrState]) : s.ddrUp.see z = s.see z := by
  simp only [notMem_cons, notMem_nil, and_true] at h
  simp only [State.ddrUp]
  split_ifs
  · rfl
  · rw [State.ddrShow_see _ (by simp [h]), foldRange_see _ _ _ fun a c => State.setChannel_see a c 1 (by simp [h]),
      State.setReg_see _ _ _ _ (by simp [h])]

theorem State.ddrUp_channels (h : s.sys.ddrNone = false) : ∀ c < 4, s.ddrUp.reg O.memDdrChState c = 1 := by
  intro c hc
  rw [State.ddrUp, h, if_neg Bool.false_ne_true, reg_see, State.ddrShow_see _ (by simp), ← reg_see]
  exact foldRange_setChannel _ (fun _ => 1) c hc

theorem State.fabPgAssert_up {s : State} (hmode : s.sys.mode = .wake) (hen : s.sys.fabEn = true)
    (hpg : s.sys.fabPg = false) : s.fabPgAssert = s.banksUp.ddrUp.promoteStep 2 := by
  simp only [State.fabPgAssert, hen, hpg, hmode, Bool.not_true, Bool.or_self, Bool.false_eq_true, if_false, ne_eq,
    not_true_eq_false, State.ddrUp, State.banksUp]

end

theorem fabPgAssert_wakes {s : State} (hmode : s.sys.mode = .wake) (hen : s.sys.fabEn = true)
    (hpg : s.sys.fabPg = false) :
    Runs .fabPgAssert s fun t =>
      t.sys.fabOn = true ∧ t.sys.fabPg = true ∧ t.sys.mode = .wake ∧ (∀ b < 256, t.reg O.memBankState b = 5) ∧
      (s.sys.ddrNone = false → ∀ c < 4, t.reg O.memDdrChState c = 1) := by
  have hsys : (s.fresh.banksUp.ddrUp.promoteStep 2).sys = { s.sys with fabPg := true, fabOn := true } := by
    rw [State.promoteStep_sys, State.sys_of_see (State.ddrUp_see _ (by simp)), State.banksUp_sys]
    rfl
  refine runs_of_run (exec_fabPgAssert s) ?_
  rw [State.fabPgAssert_up (s := s.fresh) hmode hen hpg, State.withQueue_sys, hsys]
  refine ⟨rfl, rfl, hmode, fun b hb => ?_, fun hnone c hc => ?_⟩
  · rw [State.reg_withQueue_all, State.promoteStep_reg _ _ (by decide) (by decide), reg_see,
      State.ddrUp_see _ (by simp), ← reg_see]
    exact foldRange_setBank _ 5 b hb
  · rw [State.reg_withQueue_all, State.promoteStep_reg _ _ (by decide) (by decide)]
    refine State.ddrUp_channels _ ?_ c hc
    rw [State.banksUp_sys]
    exact hnone

theorem State.elapsed_fresh (s : State) (t n : Nat) : s.fresh.elapsed t n = s.elapsed t n := rfl

theorem fabPgTimeout_quarantines {s : State} (hmode : s.sys.mode = .wake) (hpg : s.sys.fabPg = false)
    (hlate : s.elapsed s.sys.wakeTick (msTicks 90) = true) :
    Runs .fabPgTimeout s fun t => t.sys.mode = .quarantine ∧ t.reg O.sysCause = 1 := by
  have htimeout : s.fresh.fabPgTimeout = s.fresh.quarantine 1 := by
    have hcond : (s.fresh.sys.mode = .wake && !s.fresh.sys.fabPg &&
        s.fresh.elapsed s.fresh.sys.wakeTick (msTicks 90)) = true := by
      rw [State.elapsed_fresh]
      simp [State.fresh, hmode, hpg, hlate]
    rw [State.fabPgTimeout, if_pos hcond]
  refine runs_of_run (exec_fabPgTimeout s) ?_
  rw [htimeout, State.withQueue_sys, State.reg_withQueue_all]
  exact ⟨State.quarantine_mode _ _, State.quarantine_cause _ _⟩

/-! ### Loss of power good (R455, R501) -/

section
variable (s : State)

/-- The fabric island loses power, but for what its blocks held. -/
def State.powerCut (s : State) : State :=
  { s with sys := { s.sys with fabOn := false, fabPg := false, fabEn := false, banksClear := false,
                               serviceReq := false, ddrHeld := false, sdUp := [], sdDrop := [], sdTok := false } }

theorem State.dropActivity_sys (d : Nat) : (s.dropActivity d).sys = s.sys :=
  State.dropActivity_see (z := .part .sys) s d (by simp)

/-- The serdes islands go down first. -/
def State.islandsOff (s : State) : State := foldRange 12 (fun s k => s.islandState k false) s.handoversOff

/-- What the loss of power ends outside the fabric island, in order. -/
def State.offActs (s : State) : State :=
  let s := foldRange 96 (fun s p => s.ifaceDown p) s
  let s := s.cutAbandon
  let s := foldRange 32 (fun s k => if s.streamState k = 0 then s else s.blockLoss k) s
  let s := (((s.dropActivity 0).dropActivity 4).dropActivity 6).dropActivity 7
  let s := if s.hostTests 4 then s else s.dropActivity 3
  let s := s.fabricLost
  (foldRange 8 (fun s i => s.inputLoss i) s).inputLoss 12

theorem State.fabricOff_eq (h : s.sys.fabOn = true) : s.fabricOff = s.islandsOff.powerCut.offActs := by
  rw [State.fabricOff, h, Bool.not_true, if_neg Bool.false_ne_true]
  rfl

theorem State.offActs_sys : s.offActs.sys = s.sys := by
  have hface (t : State) : (foldRange 96 (fun s p => s.ifaceDown p) t).sys = t.sys :=
    foldRange_same (fun t : State => t.sys) _ _ _ fun a p => State.sys_of_see (State.ifaceDown_see a p (by simp))
  have hblock (t : State) : (foldRange 32 (fun s k => if s.streamState k = 0 then s else s.blockLoss k) t).sys = t.sys :=
    foldRange_same (fun t : State => t.sys) _ _ _ fun a k => by
      split_ifs
      exacts [rfl, State.sys_of_see (State.blockLoss_see a k (by simp))]
  have hloss (t : State) : (foldRange 8 (fun s i => s.inputLoss i) t).sys = t.sys :=
    foldRange_same (fun t : State => t.sys) _ _ _ fun a i => State.sys_of_see (State.inputLoss_see a i (by simp))
  have htests (t : State) : (if t.hostTests 4 then t else t.dropActivity 3).sys = t.sys := by
    split_ifs
    exacts [rfl, t.dropActivity_sys 3]
  simp only [State.offActs]
  rw [State.sys_of_see (State.inputLoss_see _ _ (by simp)), hloss, State.sys_of_see (State.fabricLost_see _ (by simp)),
    htests, State.dropActivity_sys, State.dropActivity_sys, State.dropActivity_sys, State.dropActivity_sys, hblock,
    State.sys_of_see (State.cutAbandon_see _ (by simp)), hface]

theorem State.islandsOff_sys : s.islandsOff.sys = s.sys := by
  have hislands (t : State) : (foldRange 12 (fun s k => s.islandState k false) t).sys = t.sys :=
    foldRange_same (fun t : State => t.sys) _ _ _ fun a k => State.sys_of_see (State.islandState_see a k false (by simp))
  rw [State.islandsOff, hislands, State.sys_of_see (State.handoversOff_see _ (by simp))]

/-- The fabric island goes off whatever the mode. -/
theorem State.fabricOff_sys : s.fabricOff.sys =
    if s.sys.fabOn then { s.sys with fabOn := false, fabPg := false, fabEn := false, banksClear := false,
                                     serviceReq := false, ddrHeld := false, sdUp := [], sdDrop := [], sdTok := false }
    else { s.sys with fabEn := false, fabPg := false } := by
  cases h : s.sys.fabOn
  · simp only [State.fabricOff, h, Bool.not_false, if_true, Bool.false_eq_true, if_false]
  · rw [State.fabricOff_eq s h, State.offActs_sys, if_pos rfl, State.powerCut, State.islandsOff_sys]

theorem State.fabricOff_power : s.fabricOff.power = (false, false, false) := by
  rw [State.power, State.fabricOff_sys]
  cases h : s.sys.fabOn
  · rw [if_neg Bool.false_ne_true, h]
  · rfl

theorem State.fabricOff_mode : s.fabricOff.sys.mode = s.sys.mode := by
  rw [State.fabricOff_sys]
  split_ifs <;> rfl

theorem State.fabPgDeassert_off {s : State} (hen : s.sys.fabEn = true) (hpg : s.sys.fabPg = true) :
    s.fabPgDeassert = if !s.sys.fabOn || s.sys.mode = .quarantine then s.fabricOff else s.fabricOff.quarantine 5 := by
  simp only [State.fabPgDeassert, hen, hpg, Bool.not_true, Bool.or_self, Bool.false_eq_true, if_false]

end

theorem State.power_off {s : State} (h : s.power = (false, false, false)) :
    s.sys.fabEn = false ∧ s.sys.fabPg = false ∧ s.sys.fabOn = false := by
  simpa only [State.power, Prod.mk.injEq] using h

theorem fabPgDeassert_cuts {s : State} (hen : s.sys.fabEn = true) (hpg : s.sys.fabPg = true) :
    Runs .fabPgDeassert s fun t => t.sys.fabEn = false ∧ t.sys.fabPg = false ∧ t.sys.fabOn = false := by
  refine runs_of_run (exec_fabPgDeassert s) ?_
  rw [State.fabPgDeassert_off (s := s.fresh) hen hpg]
  rw [State.withQueue_sys]
  refine State.power_off ?_
  split
  · exact s.fresh.fabricOff_power
  · exact (State.quarantine_power _ 5).trans s.fresh.fabricOff_power

theorem fabPgDeassert_quarantines {s : State} (hen : s.sys.fabEn = true) (hpg : s.sys.fabPg = true)
    (hon : s.sys.fabOn = true) (hmode : s.sys.mode ≠ .quarantine) :
    Runs .fabPgDeassert s fun t => t.sys.mode = .quarantine ∧ t.reg O.sysCause = 5 ∧ t.sys.fabOn = false := by
  have hcond : ¬ (!s.fresh.sys.fabOn || s.fresh.sys.mode = .quarantine) = true := by
    simp [State.fresh, hon, hmode]
  refine runs_of_run (exec_fabPgDeassert s) ?_
  rw [State.fabPgDeassert_off (s := s.fresh) hen hpg, if_neg hcond]
  have hpower := (State.quarantine_power s.fresh.fabricOff 5).trans s.fresh.fabricOff_power
  obtain ⟨-, -, hoff⟩ := State.power_off hpower
  rw [State.withQueue_sys, State.reg_withQueue_all]
  exact ⟨State.quarantine_mode _ _, State.quarantine_cause _ _, hoff⟩

/-! ### The self-test (R459, Table 14-4) -/

/-- What SYS.SELFTEST shows of a self-test that found no Lode faulty: `failed` as reported, and what is missing. -/
def State.selftest (s : State) (failed : Nat) : Nat :=
  putBit (putBit (failed % 32) 1 (bit failed 1 || decide (s.lodes.length < 7))) 0
    (bit failed 0 || decide ((s.ownerBanks 4).length < 4))

section
variable {s : State} {n : Nat}

theorem State.selftestDone_eq (hmode : s.sys.mode = .wake) (hon : s.sys.fabOn = true)
    (hclear : s.sys.banksClear = true) : s.selftestDone n [] =
      if s.selftest n ≠ 0 then (s.setReg O.sysSelftest 0 (s.selftest n)).quarantine 2
      else ((s.setReg O.sysSelftest 0 (s.selftest n)).enter .attest).promoteStep 3 := by
  simp only [State.selftestDone, hmode, hon, hclear, ne_eq, not_true_eq_false, decide_false, Bool.not_true,
    Bool.or_self, Bool.false_eq_true, if_false, List.foldl_nil]
  rfl

/-- A self-test is passed where nothing has failed and nothing is missing. -/
theorem State.selftest_passed (hlodes : 7 ≤ s.lodes.length) (hbanks : 4 ≤ (s.ownerBanks 4).length) :
    s.selftest 0 = 0 := by
  rw [State.selftest, decide_eq_false (by omega), decide_eq_false (by omega)]
  decide

theorem testBit_selftest (i : Nat) : (s.selftest n).testBit i =
    if i = 0 then bit n 0 || decide ((s.ownerBanks 4).length < 4)
    else if i = 1 then bit n 1 || decide (s.lodes.length < 7) else (n % 32).testBit i := by
  rw [State.selftest, testBit_putBit, testBit_putBit]

theorem State.selftest_short (h : s.lodes.length < 7 ∨ (s.ownerBanks 4).length < 4) : s.selftest n ≠ 0 := by
  intro h0
  have h1 := testBit_selftest (s := s) (n := n) 1
  have h2 := testBit_selftest (s := s) (n := n) 0
  rw [h0, Nat.zero_testBit] at h1 h2
  rcases h with h | h
  · simp [h] at h1
  · simp [h] at h2

theorem State.selftest_failed (h : n % 32 ≠ 0) : s.selftest n ≠ 0 := by
  obtain ⟨i, hi⟩ := Nat.exists_testBit_of_ne_zero h
  intro h0
  have htest := testBit_selftest (s := s) (n := n) i
  have hbit (hlt : i < 5) : bit n i = true := by
    rw [show 32 = 2 ^ 5 from rfl, Nat.testBit_mod_two_pow] at hi
    simpa [bit, hlt] using hi
  rw [h0, Nat.zero_testBit] at htest
  split_ifs at htest with hzero hone
  · simp [← hzero, hbit (by omega)] at htest
  · simp [← hone, hbit (by omega)] at htest
  · exact absurd hi (by simp [← htest])

theorem wakeSelftestDone_passes (hmode : s.sys.mode = .wake) (hon : s.sys.fabOn = true)
    (hclear : s.sys.banksClear = true) (hlodes : 7 ≤ s.lodes.length) (hbanks : 4 ≤ (s.ownerBanks 4).length) :
    Runs (.wakeSelftestDone 0 []) s fun t => t.sys.mode = .attest ∧ t.reg O.sysSelftest = 0 := by
  have hpass : s.fresh.selftest 0 = 0 := State.selftest_passed (s := s.fresh) hlodes hbanks
  refine runs_of_run (exec_wakeSelftestDone s 0 []) ?_
  rw [State.selftestDone_eq (s := s.fresh) hmode hon hclear, hpass, if_neg (not_not.mpr rfl), State.withQueue_sys,
    State.reg_withQueue_all, State.promoteStep_sys, State.enter_sys, State.promoteStep_reg _ _ (by decide) (by decide),
    reg_see, State.enter_see _ _ (by simp), ← reg_see, State.reg_setReg_self]
  exact ⟨rfl, rfl⟩

theorem wakeSelftestDone_fails (hmode : s.sys.mode = .wake) (hon : s.sys.fabOn = true)
    (hclear : s.sys.banksClear = true) (hfail : s.selftest n ≠ 0) :
    Runs (.wakeSelftestDone n []) s fun t =>
      t.sys.mode = .quarantine ∧ t.reg O.sysCause = 2 ∧ t.reg O.sysSelftest ≠ 0 := by
  have hfail' : s.fresh.selftest n ≠ 0 := hfail
  refine runs_of_run (exec_wakeSelftestDone s n []) ?_
  rw [State.selftestDone_eq (s := s.fresh) hmode hon hclear, if_pos hfail', State.withQueue_sys,
    State.reg_withQueue_all, State.reg_withQueue_all]
  refine ⟨State.quarantine_mode _ _, State.quarantine_cause _ _, ?_⟩
  rw [reg_see, State.quarantine_see _ _ (by simp), ← reg_see, State.reg_setReg_self]
  exact hfail'

end

/-! ### The checks of ATTEST (R461) -/

section
variable {s : State}

/-- The fabric section of slot `k` has been loaded, and STAGE is entered. -/
def State.staged (s : State) (k : Nat) : State :=
  foldRange 12 (fun s j => if bit (s.reg O.powerSdIslandEn) j then s.islandUp j else s)
    ((({ s with fw := { s.fw with fabric := s.fabricHashOf k } } : State).setReg O.fwFabricPending 0 0).enter .stage)

theorem State.staged_see (k : Nat) {z : View} (h : z.place ∉ [.obj O.eventCount, .obj O.eventLastTime, .obj O.eventLatch,
    .obj O.hdpStats, .obj O.protState, .obj O.sysModeFsn, .part .sys]) :
    (s.staged k).see z = (({ s with fw := { s.fw with fabric := s.fabricHashOf k } } : State).setReg O.fwFabricPending 0
      0).see z := by
  have hislands (t : State) : (foldRange 12 (fun s j => if bit (s.reg O.powerSdIslandEn) j then s.islandUp j else s)
      t).see z = t.see z := by
    refine foldRange_see _ _ _ fun a j => ?_
    simp only [notMem_cons, notMem_nil, and_true] at h
    split_ifs
    exacts [State.islandUp_see a j (by simp [h]), rfl]
  rw [State.staged, hislands, State.enter_see _ _ h]

theorem State.staged_sys (k : Nat) : (s.staged k).sys.mode = .stage ∧ (s.staged k).sys.promoting = s.sys.promoting := by
  refine foldRange_keeps (fun t : State => t.sys.mode = .stage ∧ t.sys.promoting = s.sys.promoting) 12 _ _ ?_
    fun a j ha => ?_
  · rw [State.enter_sys]
    exact ⟨rfl, rfl⟩
  · split_ifs
    exacts [ha, ha]

theorem State.attested_idle {k : Nat} (hpromote : s.sys.promoting = 0) (hresume : s.reg O.sysResume ≠ 1) :
    s.attested k = s.staged k := by
  have hidle : ¬ (s.staged k).sys.promoting ≠ 0 := by
    rw [(s.staged_sys k).2, hpromote]
    exact not_not.mpr rfl
  have hno : ¬ (s.staged k).reg O.sysResume = 1 := by
    rw [reg_see, State.staged_see _ (by simp), ← reg_see, State.reg_setReg_obj _ (by decide)]
    exact hresume
  exact (if_neg hidle).trans (if_neg hno)

theorem attestDone_stages (hmode : s.sys.mode = .attest)
    (hverify : s.verifySlot (s.reg O.fwRunning) false true = 0) (hpromote : s.sys.promoting = 0)
    (hresume : s.reg O.sysResume ≠ 1) :
    Runs .attestDone s fun t =>
      t.sys.mode = .stage ∧ t.reg O.fwFabricPending = 0 ∧ t.fw.fabric = s.fabricHashOf (s.reg O.fwRunning) := by
  have hdone : s.fresh.attestDone = s.fresh.staged (s.reg O.fwRunning) := by
    have hmode' : ¬ s.fresh.sys.mode ≠ .attest := not_not.mpr hmode
    have hverify' : s.fresh.verifySlot (s.fresh.reg O.fwRunning) false true = 0 := hverify
    rw [State.attestDone, if_neg hmode']
    exact (if_pos hverify').trans (State.attested_idle (s := s.fresh) hpromote hresume)
  refine runs_of_run (exec_attestDone s) ?_
  rw [hdone, State.withQueue_sys, State.reg_withQueue_all, State.withQueue_fw]
  refine ⟨(State.staged_sys _).1, ?_, ?_⟩
  · rw [reg_see, State.staged_see _ (by simp), ← reg_see, State.reg_setReg_self]
  · have hfw : (s.fresh.staged (s.reg O.fwRunning)).fw = { s.fw with fabric := s.fresh.fabricHashOf (s.reg O.fwRunning) } :=
      (State.staged_see (z := .part .fw) (s := s.fresh) _ (by simp)).trans rfl
    rw [hfw]
    rfl

theorem attestDone_quarantines (hmode : s.sys.mode = .attest)
    (hverify : s.verifySlot (s.reg O.fwRunning) false true ≠ 0) :
    Runs .attestDone s fun t => t.sys.mode = .quarantine ∧ t.reg O.sysCause = 3 ∧ t.latched 504 = true := by
  have hdone : s.fresh.attestDone = (s.fresh.raise 504).quarantine 3 := by
    have hmode' : ¬ s.fresh.sys.mode ≠ .attest := not_not.mpr hmode
    have hverify' : ¬ s.fresh.verifySlot (s.fresh.reg O.fwRunning) false true = 0 := hverify
    rw [State.attestDone, if_neg hmode']
    exact if_neg hverify'
  refine runs_of_run (exec_attestDone s) ?_
  rw [hdone, State.withQueue_sys, State.reg_withQueue_all, State.latched_withQueue]
  exact ⟨State.quarantine_mode _ _, State.quarantine_cause _ _,
    State.latched_quarantine (State.latched_raise_self (.inl (by decide))) _⟩

end

/-- Settles O14. -/
theorem waking : Obligations.Waking :=
  ⟨fun _ => fabPgAssert_wakes, fun _ => fabPgTimeout_quarantines, fun _ => fabPgDeassert_cuts,
    fun _ => fabPgDeassert_quarantines, fun _ => wakeSelftestDone_passes,
    fun _ _ hmode hon hclear hn => (wakeSelftestDone_fails hmode hon hclear (State.selftest_failed hn)).imp
      fun _ ⟨ht, hmode, hcause, _⟩ => ⟨ht, hmode, hcause⟩,
    fun _ _ hmode hon hclear hshort => wakeSelftestDone_fails hmode hon hclear (State.selftest_short hshort),
    fun _ => attestDone_stages, fun _ => attestDone_quarantines⟩

end Sys2Proof.Machine

/-! Promotion of a warm spare (O16). -/

namespace Sys2Proof.Machine

/-! ### Counts of events -/

theorem State.raise_count_self {s : State} {ev : Nat} (h : 480 ≤ ev) (hev : ev < 512) (h9 : ev ≠ 509) :
    (s.raise ev).reg O.eventCount ev = (s.reg O.eventCount ev + 1) % 2 ^ 32 := by
  have hr : s.canRaise ev := .inl h
  exact congrArg EventRecord.count ((State.eventRecord_raise hr hev (.inl h9)).trans (State.eventRecord_latch_self hr))

/-- Another mode. -/
def State.withMode (s : State) (m : Mode) : State := { s with sys := { s.sys with mode := m } }

theorem State.withMode_reg (s : State) (m : Mode) (i e : Nat) : (s.withMode m).reg i e = s.reg i e := rfl

/-- The mode has changed, and event 503 tells it. -/
def State.entered (s : State) (m : Mode) : State := ((s.withMode m).setReg O.sysModeFsn 0 s.clk.fsn).raise 503

theorem State.enter_eq (s : State) (m : Mode) : s.enter m =
    if m = .service || (s.entered m).reg O.protState = 6 then s.entered m
    else ((s.entered m).setReg O.protState 0 6).raise 480 := rfl

section
variable (s : State) {e : Nat} (he : e < 512) (h9 : e ≠ 509)
include he h9

/-- Raising an event counts it, and what notices lose. -/
theorem State.raise_count_ne {ev : Nat} (hev : ev < 512) (hne : e ≠ ev) :
    (s.raise ev).reg O.eventCount e = s.reg O.eventCount e := by
  by_cases hr : s.canRaise ev
  · exact congrArg EventRecord.count ((State.eventRecord_raise hr he (.inl h9)).trans
      (s.eventRecord_latch_ne hev he hne))
  · rw [State.raise, if_pos (by simpa [State.canRaise_iff] using hr)]

theorem State.actStart_count (d h : Nat) (hne : e ≠ 506) :
    (s.actStart d h).reg O.eventCount e = s.reg O.eventCount e := by
  have htake : (s.tokTake d h).reg O.eventCount e = s.reg O.eventCount e := by
    simp only [State.tokTake]
    split_ifs
    · rfl
    · rw [State.raise_count_ne _ he h9 (by decide) hne, State.reg_setReg_obj _ (by decide),
        State.reg_setReg_obj _ (by decide)]
  exact htake

theorem State.restoreTake_count (h d : Nat) (hne : e ≠ 506) :
    (s.restoreTake h d).reg O.eventCount e = s.reg O.eventCount e := by
  simp only [State.restoreTake]
  split
  · exact s.actStart_count he h9 d _ hne
  · rfl

theorem State.enter_count (m : Mode) (h1 : e ≠ 503) (h2 : e ≠ 480) :
    (s.enter m).reg O.eventCount e = s.reg O.eventCount e := by
  have h0 : (s.entered m).reg O.eventCount e = s.reg O.eventCount e := by
    rw [State.entered, State.raise_count_ne _ he h9 (by decide) h1, State.reg_setReg_obj _ (by decide),
      State.withMode_reg]
  rw [State.enter_eq]
  split_ifs
  · exact h0
  · rw [State.raise_count_ne _ he h9 (by decide) h2, State.reg_setReg_obj _ (by decide), h0]

theorem State.refreshWatch_count (hne : e ≠ 484) : s.refreshWatch.reg O.eventCount e = s.reg O.eventCount e := by
  have hprot (t : State) (x : ProtS) : ({ t with prot := x } : State).reg O.eventCount e = t.reg O.eventCount e := rfl
  have hset (b : Bool) : (s.setUnwatched b).reg O.eventCount e = s.reg O.eventCount e := by
    simp only [State.setUnwatched]
    split
    · rfl
    · rw [hprot, State.raise_count_ne _ he h9 (by decide) hne, State.reg_setReg_obj _ (by decide)]
  simp only [State.refreshWatch]
  split_ifs
  exacts [hset _, rfl, hset _]

theorem State.setPref_count (pref tsn : Nat) (hne : e ≠ 481) :
    (s.setPref pref tsn).reg O.eventCount e = s.reg O.eventCount e := by
  have h0 : ((s.setReg O.protPref 0 pref).setReg O.protFromTsn 0 tsn).reg O.eventCount e = s.reg O.eventCount e := by
    rw [State.reg_setReg_obj _ (by decide), State.reg_setReg_obj _ (by decide)]
  simp only [State.setPref]
  split_ifs
  · exact h0
  · rw [State.raise_count_ne _ he h9 (by decide) hne, h0]

theorem State.untoldEnd_count (hne : e ≠ 481) : s.untoldEnd.reg O.eventCount e = s.reg O.eventCount e := by
  simp only [State.untoldEnd]
  split_ifs
  · split
    · exact s.setPref_count he h9 _ _ hne
    · rfl
  · rfl

theorem State.record_count (idx el v : Nat) (hne : e ≠ 490) :
    (s.record idx el v).reg O.eventCount e = s.reg O.eventCount e := by
  have hjournal (k f : Nat) (items : List Byte) : (s.journal k f items).reg O.eventCount e = s.reg O.eventCount e := by
    have h0 (v : Nat) : (s.setReg O.ledgerJournalSeq 0 v).reg O.eventCount e = s.reg O.eventCount e :=
      State.reg_setReg_obj _ (by decide)
    have hled (t : State) (x : LedS) : ({ t with led := x } : State).reg O.eventCount e = t.reg O.eventCount e := rfl
    simp only [State.journal]
    split_ifs
    · exact h0 _
    · rw [hled, State.raise_count_ne _ he h9 (by decide) hne, hled, h0]
    · exact h0 _
  simp only [State.record]
  split
  · split_ifs
    exacts [hjournal _ _ _, rfl]
  · rfl

end

/-! ### Steps of a promotion (Table 6-12) -/

section
variable {s : State} (h : s.sys.promoting ≠ 0) (n : Nat)
include h

theorem State.promoteStep_eq : s.promoteStep n = (s.setReg O.protPromoteStep 0 n).raise 491 := if_neg h

theorem State.promoteStep_step : (s.promoteStep n).reg O.protPromoteStep = n := by
  rw [State.promoteStep_eq h, State.raise_reg _ (by decide), State.reg_setReg_self]

theorem State.promoteStep_latches : (s.promoteStep n).latched 491 = true := by
  rw [State.promoteStep_eq h]
  exact State.latched_raise_self (.inl (by decide))

theorem State.promoteStep_count :
    (s.promoteStep n).reg O.eventCount 491 = (s.reg O.eventCount 491 + 1) % 2 ^ 32 := by
  rw [State.promoteStep_eq h, State.raise_count_self (by decide) (by decide) (by decide),
    State.reg_setReg_obj _ (by decide)]

end

/-! ### Entry into RESTORE (R471, Table 15-5) -/

section
variable (s : State) (h : Nat)

/-- Only the note of the tokens that RESTORE has taken changes in the modes. -/
theorem State.restoreTake_sys (d : Nat) : ∃ t, (s.restoreTake h d).sys = { s.sys with restoreTok := t } := by
  simp only [State.restoreTake]
  split
  · exact ⟨_, by rw [State.actStart_sys]⟩
  · exact ⟨s.sys.restoreTok, rfl⟩

theorem State.restoreTake_led (d : Nat) : (s.restoreTake h d).led = s.led := by
  simp only [State.restoreTake]
  split
  · exact State.actStart_led (s := s) d _
  · rfl

/-- RESTORE is entered, but for its first step. -/
def State.restoring : State := ((s.restoreTake h 0).restoreTake h 1).unasked.enter .restore

theorem State.enterRestore_eq : s.enterRestore h = (s.restoring h).restoreBegin := by
  simp only [State.enterRestore, State.restoring, State.unasked]

theorem State.restoring_sys : ∃ t, (s.restoring h).sys =
    { s.sys with mode := .restore, restoreTok := t, isolateReq := false, dormantReq := false, serviceReq := false } := by
  obtain ⟨t, ht⟩ := s.restoreTake_sys h 0
  obtain ⟨u, hu⟩ := (s.restoreTake h 0).restoreTake_sys h 1
  refine ⟨u, ?_⟩
  rw [State.restoring, State.enter_sys, State.unasked, hu, ht]

theorem State.restoring_reg {i e : Nat} (hev : evObj i = false) (h1 : i ≠ O.maintTokenHolder)
    (h2 : i ≠ O.maintTokenSince) (h3 : i ≠ O.protState) (h4 : i ≠ O.sysModeFsn) :
    (s.restoring h).reg i e = s.reg i e := by
  have hplace : (View.reg i e).place ∉ [.obj O.eventCount, .obj O.eventLastTime, .obj O.eventLatch, .obj O.hdpStats,
      .obj O.maintTokenHolder, .obj O.maintTokenSince, .part .sys] := by
    obtain ⟨e1, e2, e3, e4⟩ := evObj_ne hev
    simp [e1, e2, e3, e4, h1, h2]
  have hplace' : (View.reg i e).place ∉ [.obj O.eventCount, .obj O.eventLastTime, .obj O.eventLatch, .obj O.hdpStats,
      .obj O.protState, .obj O.sysModeFsn, .part .sys] := by
    obtain ⟨e1, e2, e3, e4⟩ := evObj_ne hev
    simp [e1, e2, e3, e4, h3, h4]
  have hunasked (t : State) : t.unasked.reg i e = t.reg i e := rfl
  rw [State.restoring, reg_see, State.enter_see _ _ hplace', ← reg_see, hunasked, reg_see,
    State.restoreTake_see _ _ _ hplace, State.restoreTake_see _ _ _ hplace, ← reg_see]

theorem State.restoring_count : (s.restoring h).reg O.eventCount 491 = s.reg O.eventCount 491 := by
  have hunasked (t : State) : t.unasked.reg O.eventCount 491 = t.reg O.eventCount 491 := rfl
  rw [State.restoring, State.enter_count _ (by decide) (by decide) _ (by decide) (by decide), hunasked,
    State.restoreTake_count _ (by decide) (by decide) _ _ (by decide),
    State.restoreTake_count _ (by decide) (by decide) _ _ (by decide)]

end

theorem State.latched_restoring {s : State} {ev : Nat} (hs : s.latched ev = true) (h : Nat) :
    (s.restoring h).latched ev = true := by
  have hact {t : State} (ht : t.latched ev = true) (d k : Nat) : (t.actStart d k).latched ev = true := by
    have : (t.tokTake d k).latched ev = true := by
      simp only [State.tokTake]
      split_ifs
      · exact ht
      · refine State.latched_raise ?_ _
        rwa [State.latched_setReg (by decide), State.latched_setReg (by decide)]
    exact this
  have htake {t : State} (ht : t.latched ev = true) (d : Nat) : (t.restoreTake h d).latched ev = true := by
    simp only [State.restoreTake]
    split
    · exact hact ht d _
    · exact ht
  have htaken : ((s.restoreTake h 0).restoreTake h 1).latched ev = true := htake (htake hs 0) 1
  exact State.latched_enter (s := State.unasked _) htaken _

section
variable {s : State} {h : Nat}

/-- RESTORE is at its first step; a commit that stands is let through before it goes on. -/
def State.restoreMark (s : State) (again : Bool) : State :=
  { s with sys := { s.sys with restoreCommit := false, restoreWait := false, restoreAgain := again } }

theorem State.restoreBegin_locked (hlock : s.locked = true) : s.restoreBegin = s.restoreMark true := by
  have hlock' : (s.restoreMark true).locked = true := hlock
  rw [State.restoreBegin, hlock]
  exact if_pos hlock'

theorem State.restoreBegin_none (hlock : s.locked = false) (hnone : s.restorable = none) :
    s.restoreBegin = (s.restoreMark false).restoreFail := by
  have hlock' : ¬ (s.restoreMark false).locked = true := fun c => Bool.false_ne_true (hlock.symm.trans c)
  have hnone' : (s.restoreMark false).restorable = none := hnone
  rw [State.restoreBegin, hlock]
  refine (if_neg hlock').trans ?_
  split
  · rfl
  · next k hk => exact absurd (hnone'.symm.trans hk) (by simp)

theorem State.restoring_locked : (s.restoring h).locked = s.locked := by
  rw [State.locked, State.restoring_reg _ _ (by decide) (by decide) (by decide) (by decide) (by decide), State.locked]

theorem State.restorable_congr {t : State} (hled : t.led = s.led)
    (hreg : ∀ i, i = O.ledgerSlotState ∨ i = O.ledgerSlotGen → ∀ e, t.reg i e = s.reg i e) :
    t.restorable = s.restorable := by
  have hslot (e : Nat) := hreg O.ledgerSlotState (.inl rfl) e
  have hgen (e : Nat) := hreg O.ledgerSlotGen (.inr rfl) e
  simp only [State.restorable, State.newestSlot, State.slotBytes, hslot, hgen, hled]
  rfl

theorem State.restoring_restorable : (s.restoring h).restorable = s.restorable := by
  refine State.restorable_congr ?_ ?_
  · have hunasked (t : State) : t.unasked.led = t.led := rfl
    rw [State.restoring, State.enter_led, hunasked, State.restoreTake_led, State.restoreTake_led]
  · rintro i (rfl | rfl) e <;>
      exact State.restoring_reg _ _ (by decide) (by decide) (by decide) (by decide) (by decide)

theorem State.enterRestore_locked (hlock : s.locked = true) :
    s.enterRestore h = (s.restoring h).restoreMark true := by
  rw [State.enterRestore_eq, State.restoreBegin_locked (State.restoring_locked.trans hlock)]

theorem State.enterRestore_none (hlock : s.locked = false) (hnone : s.restorable = none) :
    s.enterRestore h = ((s.restoring h).restoreMark false).restoreFail := by
  rw [State.enterRestore_eq, State.restoreBegin_none (State.restoring_locked.trans hlock)
    (State.restoring_restorable.trans hnone)]

end

/-! ### PROT.PROMOTE (R256, R263) -/

/-- The role of a promotion is taken. -/
def State.promoted (s : State) (v : Nat) : State :=
  { (s.setReg O.protRole 0 v).refreshWatch with
    sys := { (s.setReg O.protRole 0 v).refreshWatch.sys with
      promoting := v, isolateReq := false, dormantReq := false, serviceReq := false } }

theorem State.refreshWatch_sys (s : State) : s.refreshWatch.sys = s.sys := State.sys_of_see (State.refreshWatch_see s (by simp))

theorem State.promoted_reg {s : State} {v i e : Nat} (hev : evObj i = false) (h1 : i ≠ O.protRole) (h2 : i ≠ O.protFlags) :
    (s.promoted v).reg i e = s.reg i e := by
  have hsys : (s.promoted v).reg i e = (s.setReg O.protRole 0 v).refreshWatch.reg i e := rfl
  obtain ⟨e1, e2, e3, e4⟩ := evObj_ne hev
  rw [hsys, reg_see, State.refreshWatch_see _ (by simp [e1, e2, e3, e4, h2]), ← reg_see, State.reg_setReg_obj _ h1]

theorem State.promoted_sys {s : State} {v : Nat} : (s.promoted v).sys =
    { s.sys with promoting := v, isolateReq := false, dormantReq := false, serviceReq := false } := by
  rw [State.promoted, State.refreshWatch_sys, State.setReg_sys]

theorem State.promoted_role {s : State} {v : Nat} : (s.promoted v).reg O.protRole = v := by
  have hsys : (s.promoted v).reg O.protRole = (s.setReg O.protRole 0 v).refreshWatch.reg O.protRole := rfl
  rw [hsys, reg_see, State.refreshWatch_see _ (by simp), ← reg_see, State.reg_setReg_self]

theorem State.promoted_count {s : State} {v : Nat} :
    (s.promoted v).reg O.eventCount 491 = s.reg O.eventCount 491 := by
  have hsys : (s.promoted v).reg O.eventCount 491 = (s.setReg O.protRole 0 v).refreshWatch.reg O.eventCount 491 := rfl
  rw [hsys, State.refreshWatch_count _ (by decide) (by decide) (by decide), State.reg_setReg_obj _ (by decide)]

/-- The promotion is noted in flash (R472). -/
def State.promotionNoted (s : State) (v : Nat) : State := (s.promoted v).setResume (v + 1)

theorem State.promotionNoted_sys {s : State} {v : Nat} : (s.promotionNoted v).sys =
    { s.sys with promoting := v, isolateReq := false, dormantReq := false, serviceReq := false } :=
  (State.setResume_sys _ _).trans State.promoted_sys

theorem State.promotionNoted_resume {s : State} {v : Nat} : (s.promotionNoted v).reg O.sysResume = v + 1 :=
  State.setResume_reg _ _

theorem State.promotionNoted_see {s : State} {v : Nat} {z : View} (h : z.place ∉ [.obj O.sysResume, .part .mem,
    .part .fw]) : (s.promotionNoted v).see z = (s.promoted v).see z := State.setResume_see _ _ h

theorem State.startWake_sys (s : State) : s.startWake.sys =
    { s.sys with fabEn := true, fabPg := false, wakeTick := s.tick, mode := .wake } := by
  simp only [State.startWake]
  rw [State.enter_sys, State.setReg_sys]

/-- A promotion from ISOLATE has steps 1 to 4 behind it: the links of the spare are up, and the preference of its peer is
told (R263). -/
def State.promotionTold (s : State) (v : Nat) : State :=
  { s.promotionNoted v with
    sys := { (s.promotionNoted v).sys with stageFsn := (s.promotionNoted v).clk.fsn }
    prot := { (s.promotionNoted v).prot with untold := true } }

section
variable {s : State} {h v : Nat} (hrole : s.role = 3) (hboot : s.sys.booting = false) (hslot : s.newestSlot ≠ none)
include hrole hboot hslot

theorem promoteOp_wakes (hmode : s.sys.mode = .dormant) :
    promoteOp h v s = ((s.promotionNoted v).startWake.promoteStep 1, 0) := by
  unfold promoteOp
  extract_lets m a b c
  have hm : m = .dormant := hmode
  rw [if_neg (by simp [hrole, hboot, hm]), if_neg (by simp [hm]), if_neg (by simpa using hslot), if_pos hm]
  rfl

theorem promoteOp_restores (hmode : s.sys.mode = .isolate) (h0 : s.tokFree 0 h = true) (h1 : s.tokFree 1 h = true) :
    promoteOp h v s = ((((s.promotionTold v).untoldEnd.promoteStep 5).promoteStep 6).enterRestore h, 0) := by
  unfold promoteOp
  extract_lets m a b c d
  have hm : m = .isolate := hmode
  rw [if_neg (by simp [hrole, hboot, hm]), if_neg (by simp [hm, h0, h1]), if_neg (by simpa using hslot),
    if_neg (by simp [hm])]
  rfl

end

/-- What is told of a command's own effect holds after the journal entry of its write too. -/
theorem State.sys_write (s : State) (idx e v : Nat) (q : List Instr) :
    (((s.record idx e v).answer 0).withQueue q).sys = s.sys :=
  State.sys_of_see (State.see_write (z := .part .sys) s idx e v q (by simp))

theorem State.status_write (s : State) (idx e v : Nat) (q : List Instr) :
    (((s.record idx e v).answer 0).withQueue q).out.status = 0 := rfl

theorem promote_ne_zero {s : State} {w : Who} {v : Nat} (ha : Allowed s w O.protPromote 0 v) : v ≠ 0 := by
  obtain ⟨-, hval, -⟩ := ha
  rintro rfl
  exact absurd hval (by decide)

theorem promote_wakes {s : State} {w : Who} {v : Nat} (ha : Allowed s w O.protPromote 0 v) (hrole : s.role = 3)
    (hboot : s.sys.booting = false) (hmode : s.sys.mode = .dormant) (hslot : s.newestSlot ≠ none) :
    Runs (.promote w v) s fun t =>
      t.reg O.protRole = v ∧ t.sys.promoting = v ∧ t.sys.mode = .wake ∧ t.reg O.protPromoteStep = 1 ∧
      t.reg O.sysResume = v + 1 ∧ t.latched 491 = true ∧ t.out.status = 0 := by
  have hsys : (s.fresh.promotionNoted v).startWake.sys.promoting = v ∧
      (s.fresh.promotionNoted v).startWake.sys.mode = .wake := by
    rw [State.startWake_sys, State.promotionNoted_sys]
    exact ⟨rfl, rfl⟩
  have hpro : (s.fresh.promotionNoted v).startWake.sys.promoting ≠ 0 := by
    rw [hsys.1]
    exact promote_ne_zero ha
  refine runs_of_write (exec_promote s w v) ha (promoteOp_wakes (s := s.fresh) hrole hboot hslot hmode) ?_
  rw [State.sys_write, State.promoteStep_sys, State.status_write]
  refine ⟨?_, hsys.1, hsys.2, ?_, ?_, ?_, rfl⟩
  · rw [State.reg_write _ _ _ _ _ (by decide) (by decide), State.promoteStep_reg _ _ (by decide) (by decide), reg_see,
      State.startWake_see _ (by simp), State.promotionNoted_see (by simp), ← reg_see, State.promoted_role]
  · rw [State.reg_write _ _ _ _ _ (by decide) (by decide), State.promoteStep_step hpro]
  · rw [State.reg_write _ _ _ _ _ (by decide) (by decide), State.promoteStep_reg _ _ (by decide) (by decide), reg_see,
      State.startWake_see _ (by simp), ← reg_see, State.promotionNoted_resume]
  · rw [State.latched_withQueue, State.latched_answer]
    exact State.latched_record (State.promoteStep_latches hpro 1) _ _ _

/-- Steps 5 and 6 of a promotion from ISOLATE. -/
def State.promotionSteps (s : State) (v : Nat) : State := ((s.promotionTold v).untoldEnd.promoteStep 5).promoteStep 6

section
variable {s : State} {v : Nat}

theorem State.promotionTold_sys : (s.promotionTold v).sys =
    { s.sys with promoting := v, isolateReq := false, dormantReq := false, serviceReq := false, stageFsn := s.clk.fsn } := by
  have hclk : (s.promotionNoted v).clk = s.clk := by
    have hnoted : (s.promotionNoted v).clk = (s.promoted v).clk := State.promotionNoted_see (z := .part .clk) (by simp)
    have hpromoted : (s.promoted v).clk = (s.setReg O.protRole 0 v).refreshWatch.clk := rfl
    rw [hnoted, hpromoted]
    exact State.refreshWatch_see (z := .part .clk) (s.setReg O.protRole 0 v) (by simp)
  rw [State.promotionTold, State.promotionNoted_sys, hclk]

theorem State.untoldEnd_told_sys : (s.promotionTold v).untoldEnd.sys = (s.promotionTold v).sys :=
  State.sys_of_see (State.untoldEnd_see _ (by simp))

theorem State.promotionSteps_sys : (s.promotionSteps v).sys = (s.promotionTold v).sys := by
  rw [State.promotionSteps, State.promoteStep_sys, State.promoteStep_sys, State.untoldEnd_told_sys]

theorem State.promotionTold_reg (i e : Nat) : (s.promotionTold v).reg i e = (s.promotionNoted v).reg i e := rfl

theorem State.promotionSteps_reg {i e : Nat} (hev : evObj i = false) (h1 : i ≠ O.protPromoteStep)
    (h2 : i ≠ O.protFromTsn) (h3 : i ≠ O.protPref) : (s.promotionSteps v).reg i e = (s.promotionNoted v).reg i e := by
  obtain ⟨e1, e2, e3, e4⟩ := evObj_ne hev
  rw [State.promotionSteps, State.promoteStep_reg _ _ hev h1, State.promoteStep_reg _ _ hev h1, reg_see,
    State.untoldEnd_see _ (by simp [e1, e2, e3, e4, h2, h3]), ← reg_see, State.promotionTold_reg]

variable (hv : v ≠ 0)
include hv

theorem State.promotionSteps_step : (s.promotionSteps v).reg O.protPromoteStep = 6 := by
  have hpro : ((s.promotionTold v).untoldEnd.promoteStep 5).sys.promoting ≠ 0 := by
    rw [State.promoteStep_sys, State.untoldEnd_told_sys, State.promotionTold_sys]
    exact hv
  rw [State.promotionSteps, State.promoteStep_step hpro]

theorem State.promotionSteps_latches : (s.promotionSteps v).latched 491 = true := by
  have hpro : ((s.promotionTold v).untoldEnd.promoteStep 5).sys.promoting ≠ 0 := by
    rw [State.promoteStep_sys, State.untoldEnd_told_sys, State.promotionTold_sys]
    exact hv
  exact State.promoteStep_latches hpro 6

/-- The two steps are told by event 491. -/
theorem State.promotionSteps_count :
    (s.promotionSteps v).reg O.eventCount 491 = (s.reg O.eventCount 491 + 2) % 2 ^ 32 := by
  have hpro : (s.promotionTold v).untoldEnd.sys.promoting ≠ 0 := by
    rw [State.untoldEnd_told_sys, State.promotionTold_sys]
    exact hv
  have hpro' : ((s.promotionTold v).untoldEnd.promoteStep 5).sys.promoting ≠ 0 := by rwa [State.promoteStep_sys]
  have hnoted : (s.promotionNoted v).reg O.eventCount 491 = s.reg O.eventCount 491 := by
    rw [reg_see, State.promotionNoted_see (by simp), ← reg_see, State.promoted_count]
  rw [State.promotionSteps, State.promoteStep_count hpro', State.promoteStep_count hpro,
    State.untoldEnd_count _ (by decide) (by decide) (by decide), State.promotionTold_reg, hnoted, Nat.mod_add_mod]

end

theorem promote_restores {s : State} {w : Who} {v : Nat} (ha : Allowed s w O.protPromote 0 v) (hrole : s.role = 3)
    (hboot : s.sys.booting = false) (hmode : s.sys.mode = .isolate) (hslot : s.newestSlot ≠ none)
    (hlock : s.locked = true) (h0 : s.tokFree 0 (holderOf w) = true) (h1 : s.tokFree 1 (holderOf w) = true) :
    Runs (.promote w v) s fun t =>
      t.reg O.protRole = v ∧ t.sys.promoting = v ∧ t.sys.mode = .restore ∧ t.reg O.protPromoteStep = 6 ∧
      t.sys.stageFsn = s.clk.fsn ∧ t.reg O.eventCount 491 = (s.reg O.eventCount 491 + 2) % 2 ^ 32 ∧
      t.reg O.sysResume = v + 1 ∧ t.latched 491 = true ∧ t.out.status = 0 := by
  have hv := promote_ne_zero ha
  set u := s.fresh.promotionSteps v with hu
  have hlock' : u.locked = true := by
    have hmap : u.reg O.mapState = s.reg O.mapState := by
      rw [hu, State.promotionSteps_reg (by decide) (by decide) (by decide) (by decide), reg_see,
        State.promotionNoted_see (by simp), ← reg_see, State.promoted_reg (by decide) (by decide) (by decide)]
      rfl
    rw [State.locked, hmap]
    exact hlock
  have hop : promoteOp (holderOf w) v s.fresh = ((u.restoring (holderOf w)).restoreMark true, 0) := by
    rw [promoteOp_restores (s := s.fresh) hrole hboot hslot hmode h0 h1, ← State.enterRestore_locked hlock']
    rfl
  obtain ⟨k, hsys⟩ := u.restoring_sys (holderOf w)
  have hmark (t : State) (i e : Nat) : (t.restoreMark true).reg i e = t.reg i e := rfl
  have hreg {i e : Nat} (hev : evObj i = false) (hj : i ≠ O.ledgerJournalSeq) (g1 : i ≠ O.maintTokenHolder)
      (g2 : i ≠ O.maintTokenSince) (g3 : i ≠ O.protState) (g4 : i ≠ O.sysModeFsn) :
      (((((u.restoring (holderOf w)).restoreMark true).record O.protPromote 0 v).answer 0).withQueue s.pending).reg i e =
        u.reg i e := by
    rw [State.reg_write _ _ _ _ _ hev hj, hmark, State.restoring_reg _ _ hev g1 g2 g3 g4]
  refine runs_of_write (exec_promote s w v) ha hop ?_
  have hmarked : ((u.restoring (holderOf w)).restoreMark true).sys.promoting = v ∧
      ((u.restoring (holderOf w)).restoreMark true).sys.mode = .restore ∧
      ((u.restoring (holderOf w)).restoreMark true).sys.stageFsn = s.clk.fsn := by
    rw [State.restoreMark, hsys, hu, State.promotionSteps_sys, State.promotionTold_sys]
    exact ⟨rfl, rfl, rfl⟩
  obtain ⟨hpromoting, hrestore, hstage⟩ := hmarked
  rw [State.sys_write, State.status_write]
  refine ⟨?_, hpromoting, hrestore, ?_, hstage, ?_, ?_, ?_, rfl⟩
  · rw [hreg (by decide) (by decide) (by decide) (by decide) (by decide) (by decide), hu,
      State.promotionSteps_reg (by decide) (by decide) (by decide) (by decide), reg_see,
      State.promotionNoted_see (by simp), ← reg_see, State.promoted_role]
  · rw [hreg (by decide) (by decide) (by decide) (by decide) (by decide) (by decide), hu, State.promotionSteps_step hv]
  · rw [State.reg_withQueue_all, State.reg_answer_all, State.record_count _ (by decide) (by decide) _ _ _ (by decide), hmark,
      State.restoring_count, hu, State.promotionSteps_count hv]
    rfl
  · rw [hreg (by decide) (by decide) (by decide) (by decide) (by decide) (by decide), hu,
      State.promotionSteps_reg (by decide) (by decide) (by decide) (by decide), State.promotionNoted_resume]
  · have hlatch : u.latched 491 = true := by
      rw [hu]
      exact State.promotionSteps_latches hv
    have hrestoring : (u.restoring (holderOf w)).latched 491 = true := State.latched_restoring hlatch (holderOf w)
    rw [State.latched_withQueue, State.latched_answer]
    generalize u.restoring (holderOf w) = m at hrestoring ⊢
    have hm : (m.restoreMark true).latched 491 = true := hrestoring
    exact State.latched_record hm _ _ _

/-! ### Steps in STAGE (Table 6-12) -/

section
variable {s : State}

theorem State.promoteFrame_steps (hmode : s.sys.mode = .stage) (hpro : s.sys.promoting ≠ 0)
    (hstep : s.reg O.protPromoteStep = 4) (hfive : s.stepFive = true) : s.promoteFrame = s.promoteStep 5 := by
  rw [State.promoteFrame, if_neg hpro, if_pos hmode, if_pos (by simp [hstep, hfive])]

theorem State.stepFive_of
    (hlinks : ∀ p < 96, s.reg O.portEnable p ≠ 0 → s.reg O.portNegState p = 5 ∧ s.txVer p = 2)
    (hpeer : s.peerStatus ≠ none) (htold : s.prot.untold = false) : s.stepFive = true := by
  have hall : (List.range 96).all
      (fun p => s.reg O.portEnable p == 0 || (s.reg O.portNegState p == 5 && s.txVer p == 2)) = true := by
    refine List.all_eq_true.mpr fun p hp => ?_
    by_cases he : s.reg O.portEnable p = 0
    · simp [he]
    · obtain ⟨hneg, hver⟩ := hlinks p (List.mem_range.mp hp) he
      simp [hneg, hver]
  rw [State.stepFive, hall, Option.isSome_iff_ne_none.mpr hpeer, htold]
  rfl

theorem promoteFrame_five (hmode : s.sys.mode = .stage) (hpro : s.sys.promoting ≠ 0)
    (hstep : s.reg O.protPromoteStep = 4)
    (hlinks : ∀ p < 96, s.reg O.portEnable p ≠ 0 → s.reg O.portNegState p = 5 ∧ s.txVer p = 2)
    (hpeer : s.peerStatus ≠ none) (htold : s.prot.untold = false) :
    s.promoteFrame.reg O.protPromoteStep = 5 ∧ s.promoteFrame.sys = s.sys ∧ s.promoteFrame.latched 491 = true := by
  rw [State.promoteFrame_steps hmode hpro hstep (State.stepFive_of hlinks hpeer htold)]
  exact ⟨State.promoteStep_step hpro 5, State.promoteStep_sys _ _, State.promoteStep_latches hpro 5⟩

/-! ### RESTORE of a promotion (R257) -/

/-- Steps 5 and 6: step 5 is passed where it has not been (log entry 90). -/
def State.stepSix (s : State) : State :=
  (if s.reg O.protPromoteStep = 4 then s.promoteStep 5 else s).promoteStep 6

/-- What a step of a promotion leaves, two of them leave. -/
theorem State.stepSix_keeps {P : State → Prop} (h : P s) (hs : ∀ t n, P t → P (State.promoteStep t n)) :
    P s.stepSix := by
  refine hs _ _ ?_
  split_ifs
  exacts [hs _ _ h, h]

theorem State.stepSix_sys : s.stepSix.sys = s.sys :=
  s.stepSix_keeps (P := fun t => t.sys = s.sys) rfl fun t n h => (t.promoteStep_sys n).trans h

theorem State.stepSix_reg {i e : Nat} (hev : evObj i = false) (h : i ≠ O.protPromoteStep) :
    s.stepSix.reg i e = s.reg i e :=
  s.stepSix_keeps (P := fun t => t.reg i e = s.reg i e) rfl fun t n ht => (t.promoteStep_reg n hev h).trans ht

theorem State.promoteStep_led (n : Nat) : (s.promoteStep n).led = s.led := by
  simp only [State.promoteStep]
  split_ifs
  · rfl
  · rw [State.raise_led, State.setReg_led]

theorem State.stepSix_led : s.stepSix.led = s.led :=
  s.stepSix_keeps (P := fun t => t.led = s.led) rfl fun t n h => (State.promoteStep_led (s := t) n).trans h

theorem State.stepSix_step (hpro : s.sys.promoting ≠ 0) : s.stepSix.reg O.protPromoteStep = 6 := by
  refine State.promoteStep_step ?_ 6
  split_ifs
  · rwa [State.promoteStep_sys]
  · exact hpro

theorem State.stepSix_locked : s.stepSix.locked = s.locked := by
  rw [State.locked, State.stepSix_reg (by decide) (by decide), State.locked]

theorem State.stepSix_restorable : s.stepSix.restorable = s.restorable := by
  refine State.restorable_congr State.stepSix_led ?_
  rintro i (rfl | rfl) e <;> exact State.stepSix_reg (by decide) (by decide)

theorem State.promotionRestore_begins (hmode : s.sys.mode = .stage) (hpro : s.sys.promoting ≠ 0)
    (href : s.refState = 2) (hbears : s.bears s.selected = true) (h0 : s.tokFree 0 0xFE = true)
    (h1 : s.tokFree 1 0xFE = true) : s.promotionRestore = s.stepSix.enterRestore 0xFE := by
  rw [State.promotionRestore, if_pos (by simp [hmode, hpro, href, hbears, h0, h1])]
  rfl

theorem State.promotionRestore_waits (h : s.tokFree 0 0xFE = false ∨ s.tokFree 1 0xFE = false) :
    s.promotionRestore = s := by
  rw [State.promotionRestore, if_neg]
  rcases h with h | h <;> simp [h]

theorem promotionRestore_locked (hmode : s.sys.mode = .stage) (hpro : s.sys.promoting ≠ 0)
    (href : s.refState = 2) (hbears : s.bears s.selected = true) (hlock : s.locked = true)
    (h0 : s.tokFree 0 0xFE = true) (h1 : s.tokFree 1 0xFE = true) :
    s.promotionRestore.sys.mode = .restore ∧ s.promotionRestore.reg O.protPromoteStep = 6 ∧
      s.promotionRestore.sys.restoreAgain = true := by
  obtain ⟨k, hsys⟩ := s.stepSix.restoring_sys 0xFE
  have hmark (t : State) (i e : Nat) : (t.restoreMark true).reg i e = t.reg i e := rfl
  rw [State.promotionRestore_begins hmode hpro href hbears h0 h1,
    State.enterRestore_locked (State.stepSix_locked.trans hlock), hmark,
    State.restoring_reg _ _ (by decide) (by decide) (by decide) (by decide) (by decide), State.stepSix_step hpro,
    State.restoreMark, hsys]
  exact ⟨rfl, rfl, rfl⟩

/-! ### RESTORE that fails (R258) -/

theorem State.restoreFail_eq : s.restoreFail = ((s.restoreEnded 6).setResume 0).enter .stage := rfl

theorem State.promoteFail_step (hpro : s.sys.promoting ≠ 0) :
    s.promoteFail.reg O.protPromoteStep = 0xFF ∧ s.promoteFail.sys.promoting = 0 := by
  have hreg (t : State) (i : Nat) : t.unpromoted.reg i = t.reg i := rfl
  rw [State.promoteFail_eq, if_neg hpro, hreg, State.promoteStep_step hpro]
  exact ⟨rfl, rfl⟩

theorem State.actEnd_promoting (d : Nat) : (s.actEnd d).sys.promoting = s.sys.promoting := by
  rw [State.actEnd_sys]

theorem State.restoreOver_promoting : s.restoreOver.sys.promoting = s.sys.promoting :=
  s.restoreOver_keeps (P := fun t => t.sys.promoting = s.sys.promoting) rfl fun t d h =>
    (State.actEnd_promoting (s := t) d).trans h

theorem State.restoreFail_ends (hpro : s.sys.promoting ≠ 0) :
    s.restoreFail.sys.mode = .stage ∧ s.restoreFail.reg O.protPromoteStep = 0xFF ∧
      s.restoreFail.sys.promoting = 0 ∧ s.restoreFail.reg O.sysCause = 6 := by
  have hpro' : (s.setReg O.sysCause 0 6).sys.promoting ≠ 0 := by rwa [State.setReg_sys]
  obtain ⟨hstep, hzero⟩ := State.promoteFail_step hpro'
  have hreg {i : Nat} (h : (View.reg i 0).place ∉ [.obj O.eventCount, .obj O.eventLastTime, .obj O.eventLatch,
      .obj O.hdpStats, .obj O.protState, .obj O.sysModeFsn, .part .sys])
      (h' : (View.reg i 0).place ∉ [.obj O.sysResume, .part .mem, .part .fw])
      (h'' : (View.reg i 0).place ∉ [.obj O.eventCount, .obj O.eventLastTime, .obj O.eventLatch,
        .obj O.hdpStats, .obj O.maintTokenHolder, .part .sys]) :
      s.restoreFail.reg i = ((s.setReg O.sysCause 0 6).promoteFail).reg i := by
    rw [State.restoreFail_eq, reg_see, State.enter_see _ _ h, State.setResume_see _ _ h', State.restoreEnded,
      State.restoreOver_see _ h'', ← reg_see]
  refine ⟨?_, ?_, ?_, ?_⟩
  · rw [State.restoreFail_eq, State.enter_sys]
  · rw [hreg (by simp) (by simp) (by simp), hstep]
  · rw [State.restoreFail_eq, State.enter_sys]
    have hend : ((s.restoreEnded 6).setResume 0).sys.promoting = 0 := by
      rw [State.setResume_sys, State.restoreEnded, State.restoreOver_promoting, hzero]
    exact hend
  · rw [hreg (by simp) (by simp) (by simp), reg_see, State.promoteFail_see _ (by simp), ← reg_see,
      State.reg_setReg_self]

theorem promotionRestore_none (hmode : s.sys.mode = .stage) (hpro : s.sys.promoting ≠ 0)
    (href : s.refState = 2) (hbears : s.bears s.selected = true) (hlock : s.locked = false)
    (hnone : s.restorable = none) (h0 : s.tokFree 0 0xFE = true) (h1 : s.tokFree 1 0xFE = true) :
    s.promotionRestore.sys.mode = .stage ∧ s.promotionRestore.reg O.protPromoteStep = 0xFF ∧
      s.promotionRestore.sys.promoting = 0 ∧ s.promotionRestore.reg O.sysCause = 6 := by
  rw [State.promotionRestore_begins hmode hpro href hbears h0 h1,
    State.enterRestore_none (State.stepSix_locked.trans hlock) (State.stepSix_restorable.trans hnone)]
  refine State.restoreFail_ends ?_
  obtain ⟨k, hsys⟩ := s.stepSix.restoring_sys 0xFE
  rw [State.restoreMark, hsys, State.stepSix_sys]
  exact hpro

/-! ### PROT.WARM_HEALTH (R262) -/

/-- No count of lasting faults (log entry 108), and the Horologer locked. -/
def State.healthy (s : State) : Bool := foldRange 9 (fun a k => a + s.reg O.assayLasting k) 0 == 0 && s.refState == 2

theorem State.lastingSum_eq_zero_iff (n : Nat) :
    foldRange n (fun a k => a + s.reg O.assayLasting k) 0 = 0 ↔ ∀ k < n, s.reg O.assayLasting k = 0 := by
  induction n with
  | zero => simp [foldRange]
  | succ n ih =>
    rw [foldRange_succ, Nat.add_eq_zero_iff, ih]
    constructor
    · rintro ⟨hlow, htop⟩ k hk
      rcases Nat.lt_succ_iff_lt_or_eq.mp hk with h | rfl
      exacts [hlow k h, htop]
    · exact fun h => ⟨fun k hk => h k (by omega), h n (by omega)⟩

theorem State.healthy_iff : s.healthy = true ↔ (∀ k < 9, s.reg O.assayLasting k = 0) ∧ s.refState = 2 := by
  simp only [State.healthy, Bool.and_eq_true, beq_iff_eq, State.lastingSum_eq_zero_iff]

/-- The bits of PROT.WARM_HEALTH under HEALTHY. -/
def State.warmRest (s : State) : Nat :=
  b2n (s.newestSlot.isSome && s.reg O.ledgerRxJournalState == 1) * 2 ^ 30 + b2n (s.refState == 2) * 2 ^ 29 +
    b2n ((List.range 96).all fun p => s.reg O.portEnable p == 0 || s.reg O.portNegState p == 5) * 2 ^ 28 +
    ((List.range 10).filter fun l => decide (2 ≤ s.lreg O.fabricLodeState l)).length * 2 ^ 24 +
    min (s.ownerBanks 15).length 255 * 2 ^ 16 +
    ((List.range 96).filter fun p => s.octReg O.protPortFaulted 0 12 p).length * 2 ^ 8

theorem State.warmRest_lt : s.warmRest < 2 ^ 31 := by
  have hb (b : Bool) : b2n b ≤ 1 := by cases b <;> decide
  have h1 := hb (s.newestSlot.isSome && s.reg O.ledgerRxJournalState == 1)
  have h2 := hb (s.refState == 2)
  have h3 := hb ((List.range 96).all fun p => s.reg O.portEnable p == 0 || s.reg O.portNegState p == 5)
  have h4 := List.length_filter_le (fun l => decide (2 ≤ s.lreg O.fabricLodeState l)) (List.range 10)
  have h5 := Nat.min_le_right (s.ownerBanks 15).length 255
  have h6 := List.length_filter_le (fun p => s.octReg O.protPortFaulted 0 12 p) (List.range 96)
  rw [List.length_range] at h4 h6
  rw [State.warmRest]
  omega

/-- PROT.WARM_HEALTH is given its value. -/
def State.warmNoted (s : State) : State :=
  State.setReg { s with prot := { s.prot with warmTick := s.tick } } O.protWarmHealth 0
    (b2n s.healthy * 2 ^ 31 + s.warmRest)

theorem State.warmHealth_eq (hrole : s.role = 3) (hmode : s.sys.mode = .isolate)
    (hdue : s.elapsed s.prot.warmTick (secTicks 1) = true) :
    s.warmHealth = if bit (s.reg O.protWarmHealth) 31 = s.healthy then s.warmNoted else s.warmNoted.raise 492 := by
  have hvalue : s.warmNoted = State.setReg { s with prot := { s.prot with warmTick := s.tick } } O.protWarmHealth 0
      (b2n s.healthy * 2 ^ 31 +
      b2n (s.newestSlot.isSome && s.reg O.ledgerRxJournalState == 1) * 2 ^ 30 + b2n (s.refState == 2) * 2 ^ 29 +
      b2n ((List.range 96).all fun p => s.reg O.portEnable p == 0 || s.reg O.portNegState p == 5) * 2 ^ 28 +
      ((List.range 10).filter fun l => decide (2 ≤ s.lreg O.fabricLodeState l)).length * 2 ^ 24 +
      min (s.ownerBanks 15).length 255 * 2 ^ 16 +
      ((List.range 96).filter fun p => s.octReg O.protPortFaulted 0 12 p).length * 2 ^ 8) := by
    simp only [State.warmNoted, State.warmRest, Nat.add_assoc]
  rw [hvalue, State.warmHealth, if_neg (by simp [hrole, hmode, hdue])]
  rfl

theorem warmHealth_tells (hrole : s.role = 3) (hmode : s.sys.mode = .isolate)
    (hdue : s.elapsed s.prot.warmTick (secTicks 1) = true) :
    (bit (s.warmHealth.reg O.protWarmHealth) 31 = true ↔
        (∀ k < 9, s.reg O.assayLasting k = 0) ∧ s.refState = 2) ∧
      s.warmHealth.prot.warmTick = s.tick ∧ OnlyElems [(O.protWarmHealth, 0)] s s.warmHealth := by
  have hnoted : s.warmNoted.reg O.protWarmHealth = b2n s.healthy * 2 ^ 31 + s.warmRest := State.reg_setReg_self _ _ _ _
  have hbit : bit (b2n s.healthy * 2 ^ 31 + s.warmRest) 31 = s.healthy := by
    have := State.warmRest_lt (s := s)
    rw [bit, Nat.testBit_eq_decide_div_mod_eq]
    cases s.healthy <;> simp [b2n] <;> omega
  have honly : OnlyElems [(O.protWarmHealth, 0)] s s.warmNoted :=
    (OnlyElems.refl _ s).of_regs (u := { s with prot := { s.prot with warmTick := s.tick } }) rfl |>.setReg _
      (by decide) (by simp)
  rw [State.warmHealth_eq hrole hmode hdue, ← State.healthy_iff]
  split_ifs
  · rw [hnoted, hbit]
    exact ⟨Iff.rfl, rfl, honly⟩
  · rw [State.raise_reg _ (by decide), State.raise_prot, hnoted, hbit]
    exact ⟨Iff.rfl, rfl, honly.raise 492⟩

end

/-- Settles O16: a promotion's steps, its RESTORE with a commit that stands or with nothing to restore, and the health of
a warm spare. -/
theorem promotion : Obligations.Promotion := by
  unfold Obligations.Promotion
  refine ⟨fun _ _ _ ha hrole hboot hmode hslot => promote_wakes ha hrole hboot hmode hslot,
    fun _ _ _ ha hrole hboot hmode hslot hlock h0 h1 => promote_restores ha hrole hboot hmode hslot hlock h0 h1,
    fun _ hmode hpro hstep hlinks hpeer htold => promoteFrame_five hmode hpro hstep hlinks hpeer htold, ?_, ?_, ?_, ?_⟩
  · intro s hmode hpro href hbears hlock h0 h1
    exact runs_of_run (exec_promotionRestoreStart s) (promotionRestore_locked (s := s.fresh) hmode hpro href hbears hlock h0 h1)
  · intro s hmode hpro href hbears hlock hnone h0 h1
    exact runs_of_run (exec_promotionRestoreStart s)
      (promotionRestore_none (s := s.fresh) hmode hpro href hbears hlock hnone h0 h1)
  · intro s h
    refine runs_of_run (exec_promotionRestoreStart s) ?_
    rw [State.promotionRestore_waits (s := s.fresh) h]
    exact ⟨rfl, rfl⟩
  · intro s hrole hmode hdue
    exact runs_of_run (exec_warmHealthUpdate s) (warmHealth_tells (s := s.fresh) hrole hmode hdue)

end Sys2Proof.Machine

/-! The streams of Witness (O9). -/

namespace Sys2Proof.Machine

/-! ### The watch (R239) -/

section
variable {l : List (Nat × Nat)} {s t : State}

theorem OnlyElems.withProt (h : OnlyElems l s t) (p : ProtS) : OnlyElems l s { t with prot := p } := h

theorem OnlyElems.setUnwatched (h : OnlyElems l s t) (b : Bool) (hm : (O.protFlags, 0) ∈ l) :
    OnlyElems l s (t.setUnwatched b) := by
  simp only [State.setUnwatched]
  split
  · exact h
  · exact ((h.setReg _ (by decide) hm).raise 484).withProt _

theorem OnlyElems.refreshWatch (h : OnlyElems l s t) (hm : (O.protFlags, 0) ∈ l) :
    OnlyElems l s t.refreshWatch := by
  simp only [State.refreshWatch]
  split_ifs
  exacts [h.setUnwatched _ hm, h, h.setUnwatched _ hm]

theorem OnlyElems.setStreamState (h : OnlyElems l s t) {st : Nat} (v : Nat) (hst : st < 32)
    (hm : (O.witnessStreamState, st) ∈ l) (hf : (O.protFlags, 0) ∈ l) : OnlyElems l s (t.setStreamState st v) := by
  simp only [State.setStreamState]
  split
  · exact h
  · exact ((h.setReg _ (by omega) hm).raise 483).refreshWatch hf

theorem OnlyElems.setStream (h : OnlyElems l s t) (k : Nat) (x : WStr) : OnlyElems l s (t.setStream k x) := h.of_regs rfl

end

theorem State.unwatched_setUnwatched (s : State) (b : Bool) : (s.setUnwatched b).unwatched = b := by
  simp only [State.setUnwatched]
  split
  · next h => exact h
  · have hflags (t : State) (p : ProtS) : ({ t with prot := p } : State).unwatched = t.unwatched := rfl
    rw [hflags, State.unwatched, State.raise_reg _ (by decide), State.reg_setReg_self, bit, testBit_putBit]
    simp

/-! ### The state of a stream (R230) -/

section
variable (s : State) (st v : Nat)

theorem State.streamState_setStream (k : Nat) (x : WStr) (j : Nat) :
    (s.setStream k x).streamState j = s.streamState j := rfl

theorem State.setStreamState_state : (s.setStreamState st v).streamState st = v := by
  simp only [State.setStreamState]
  split
  · next h => exact h
  · rw [State.streamState, reg_see, State.refreshWatch_see _ (by simp), ← reg_see, State.raise_reg _ (by decide),
      State.reg_setReg_self]

theorem State.setStreamState_stream (k : Nat) : (s.setStreamState st v).stream k = s.stream k := by
  have hwit : (s.setStreamState st v).wit = s.wit := State.setStreamState_see (z := .part .wit) _ _ _ (by simp)
  rw [State.stream, hwit, State.stream]

theorem State.setStreamState_latches (h : s.streamState st ≠ v) : (s.setStreamState st v).latched 483 = true := by
  rw [State.setStreamState, if_neg h]
  exact State.latched_refreshWatch (State.latched_raise_self (.inl (by decide)))

/-- A change of a stream's state and its own note. -/
theorem State.streamChanged {x : WStr} (hst : st < 32) (h : s.streamState st ≠ v) :
    ((s.setStream st x).setStreamState st v).streamState st = v ∧
      ((s.setStream st x).setStreamState st v).stream st = x ∧
      ((s.setStream st x).setStreamState st v).latched 483 = true ∧
      OnlyElems [(O.witnessStreamState, st), (O.protFlags, 0)] s ((s.setStream st x).setStreamState st v) :=
  ⟨State.setStreamState_state _ _ _, (State.setStreamState_stream _ _ _ _).trans (State.stream_setStream_self ..),
    State.setStreamState_latches _ _ _ h,
    ((OnlyElems.refl _ s).setStream _ _).setStreamState _ hst (by simp) (by simp)⟩

end

/-- A second good STATUS record in a row brings the stream UP. -/
theorem State.streamStatus_second {s : State} {st d : Nat} (hheld : (s.stream st).held = false) (hstate : s.streamState st = 1)
    (hgood : (s.stream st).good = 1) (hcand : (s.stream st).cand = d) :
    s.streamStatus st d =
      (((s.setStream st { s.stream st with good := 2, cand := d }).setReg O.witnessStreamDevid st d).setStream st
        { s.stream st with good := 2, cand := d, held := true }).setStreamState st 2 := by
  have hn : (if s.streamState st = 1 && (s.stream st).cand = d then (s.stream st).good + 1 else 1) = 2 := by
    rw [if_pos (by simp [hstate, hcand]), hgood]
  have hstate' (x : WStr) : (s.setStream st x).streamState st = 1 := hstate
  have hback (x : WStr) : ((s.setStream st x).setReg O.witnessStreamDevid st d).stream st = x :=
    State.stream_setStream_self s st x
  simp only [State.streamStatus]
  rw [if_neg (by simp [hheld]), hn, if_neg (by simp [hstate']), if_pos (by simp [hstate']), hback]

/-- A NOTICE is noted. -/
def State.noticeNoted (s : State) (value dig : Nat) : State :=
  { s with prot := { s.prot with notices := ((value, dig) :: s.prot.notices).take 64 } }

theorem State.noticeSeen_clash {s : State} {value dig : Nat}
    (h : s.prot.notices.any (fun x => x.1 == value && x.2 != dig) = true) :
    s.noticeSeen value dig = (s.raise 485).noticeNoted value dig := by
  rw [State.noticeSeen, if_pos h]
  rfl

theorem State.noticeSeen_agrees {s : State} {value dig : Nat}
    (h : ¬ s.prot.notices.any (fun x => x.1 == value && x.2 != dig) = true) :
    s.noticeSeen value dig = s.noticeNoted value dig := by
  rw [State.noticeSeen, if_neg h]
  rfl

theorem State.latched_noticeNoted (s : State) (value dig ev : Nat) :
    (s.noticeNoted value dig).latched ev = s.latched ev := rfl

theorem State.noticeNoted_notices (s : State) (value dig : Nat) :
    (s.noticeNoted value dig).prot.notices = ((value, dig) :: s.prot.notices).take 64 := rfl

theorem OnlyElems.noticeNoted {l : List (Nat × Nat)} {s t : State} (h : OnlyElems l s t) (value dig : Nat) :
    OnlyElems l s (t.noticeNoted value dig) := h

/-- A NOTICE record stands with the others, and one of another digest for its boundary raises event 485. -/
theorem State.noticeSeen_tells (s : State) (value dig : Nat) :
    (s.noticeSeen value dig).prot.notices = ((value, dig) :: s.prot.notices).take 64 ∧
      ((∃ x ∈ s.prot.notices, x.1 = value ∧ x.2 ≠ dig) → (s.noticeSeen value dig).latched 485 = true) ∧
      OnlyElems [] s (s.noticeSeen value dig) := by
  by_cases hany : s.prot.notices.any (fun x => x.1 == value && x.2 != dig) = true
  · rw [State.noticeSeen_clash hany, State.noticeNoted_notices, State.raise_prot, State.latched_noticeNoted]
    exact ⟨rfl, fun _ => State.latched_raise_self (.inl (by decide)), ((OnlyElems.refl _ s).raise 485).noticeNoted _ _⟩
  · rw [State.noticeSeen_agrees hany]
    refine ⟨rfl, fun ⟨y, hy, hvalue, hdig⟩ => absurd ?_ hany, (OnlyElems.refl _ s).noticeNoted _ _⟩
    exact List.any_eq_true.mpr ⟨y, hy, by simp [hvalue, hdig]⟩

theorem State.streamTiming_stream (s : State) (st : Nat) (l : List Block) (arrival : Nat) :
    ((s.streamTiming st l arrival).stream st).frames = 0 ∧
      ((s.streamTiming st l arrival).stream st).pref = bits (blk l 1) 15 14 := by
  simp only [State.streamTiming, State.stream_setStream_self, and_self]

theorem State.statusRx_small {s : State} {st : Nat} {l : List Block} {arrival : Nat} (hsmall : s.large = false)
    (hrole : s.role ≠ 4) :
    s.statusRx st l arrival = ((s.streamStatus st (bits (blk l 1) 63 32)).streamTiming st l arrival).untoldEnd := by
  have hcopy : s.arbiterCopy st l = false := by rw [State.arbiterCopy, hsmall]; rfl
  have hrole' : ((s.streamStatus st (bits (blk l 1) 63 32)).streamTiming st l arrival).role ≠ 4 := by
    rw [State.role, reg_see, State.streamTiming_see _ _ _ _ (by simp), State.streamStatus_see _ _ _ (by simp), ← reg_see]
    exact hrole
  unfold State.statusRx
  extract_lets pl dev seen u v w x y
  have hv : v = s := if_neg (by simp [dev, hsmall])
  rw [if_neg (by simp [hcopy])]
  refine congrArg State.untoldEnd ((if_neg ?_).trans ?_)
  · have hx : x.role ≠ 4 := by
      simp only [x, w, hv]
      exact hrole'
    simp [hx]
  · simp only [x, w, hv]

theorem State.latched_untoldEnd {s : State} {ev : Nat} (h : s.latched ev = true) : s.untoldEnd.latched ev = true := by
  have hpref (t : State) (ht : t.latched ev = true) (a b : Nat) : (t.setPref a b).latched ev = true := by
    have h0 : ((t.setReg O.protPref 0 a).setReg O.protFromTsn 0 b).latched ev = true := by
      rwa [State.latched_setReg (by decide), State.latched_setReg (by decide)]
    simp only [State.setPref]
    split_ifs
    exacts [h0, State.latched_raise h0 _]
  simp only [State.untoldEnd]
  split_ifs
  · split
    · exact hpref s h _ _
    · exact h
  · exact h

theorem State.latched_streamTiming (s : State) (st : Nat) (l : List Block) (arrival ev : Nat) :
    (s.streamTiming st l arrival).latched ev = s.latched ev := by
  simp only [State.streamTiming, State.latched_setStream]
  exact State.latched_setReg (by decide)

/-! ### What a phase sample keeps latched (R267) -/

/-- Another state of the Horologer. -/
def State.withRef (s : State) (x : RefS) : State := { s with ref := x }

/-- The DCO has its value, and event 425 tells that it is clamped for the first time. -/
def State.dcoNoted (s : State) (x : RefS) (v : Nat) (first : Bool) : State :=
  if first then ((s.withRef x).setReg O.refDcoOffset 0 v).raise 425 else (s.withRef x).setReg O.refDcoOffset 0 v

/-- An update of the loop gives the DCO its value, and ends the phase steps where it settles. -/
theorem State.loopUpdate_shape (s : State) : ∃ x v first x' inside, s.loopUpdate =
    if inside = true then ((s.residual.dcoNoted x v first).withRef x').stepEnd
    else (s.residual.dcoNoted x v first).withRef x' := by
  simp only [State.loopUpdate]
  generalize s.residual = u
  exact ⟨_, _, _, _, _, rfl⟩

section
variable {s : State} {ev : Nat} (h : s.latched ev = true)
include h

theorem State.latched_stepEnd : s.stepEnd.latched ev = true := by
  simp only [State.stepEnd]
  split_ifs
  · exact State.latched_actEnd (s := { s with ref := { s.ref with stepTok := false } }) h 5
  · exact h

theorem State.latched_dcoNoted (x : RefS) (v : Nat) (first : Bool) : (s.dcoNoted x v first).latched ev = true := by
  have hset : ((s.withRef x).setReg O.refDcoOffset 0 v).latched ev = true := (State.latched_setReg (by decide)).trans h
  simp only [State.dcoNoted]
  split_ifs
  exacts [State.latched_raise hset _, hset]

theorem State.latched_loopUpdate : s.loopUpdate.latched ev = true := by
  have hres : s.residual.latched ev = true := by
    rwa [State.latched_see (State.residual_see s (by simp))]
  obtain ⟨x, v, first, x', inside, heq⟩ := s.loopUpdate_shape
  have hnoted : ((s.residual.dcoNoted x v first).withRef x').latched ev = true := State.latched_dcoNoted hres x v first
  rw [heq]
  split_ifs
  exacts [State.latched_stepEnd hnoted, hnoted]

theorem State.latched_phaseSample (i : Nat) (raw : Int) : (s.phaseSample i raw).latched ev = true := by
  have hset (x : InS) (v : Nat) : ((s.setInput i x).setReg O.refInputPhase i v).latched ev = true :=
    (State.latched_setReg (by decide)).trans h
  simp only [State.phaseSample]
  split_ifs
  exacts [h, State.latched_loopUpdate (hset _ _), hset _ _]

theorem State.latched_peerSample (st : Nat) : (s.peerSample st).latched ev = true := by
  simp only [State.peerSample]
  split_ifs
  · exact h
  · split
    exacts [h, State.latched_phaseSample h _ _]

end

theorem State.statusTaken_second {s : State} {st : Nat} {l : List Block} {arrival : Nat} (hsmall : s.large = false)
    (hrole : s.role ≠ 4) (hheld : (s.stream st).held = false)
    (hstate : s.streamState st = 1) (hgood : (s.stream st).good = 1) (hcand : (s.stream st).cand = bits (blk l 1) 63 32) :
    (s.statusTaken st l arrival).streamState st = 2 ∧
      (s.statusTaken st l arrival).reg O.witnessStreamDevid st = bits (blk l 1) 63 32 ∧
      ((s.statusTaken st l arrival).stream st).frames = 0 ∧
      ((s.statusTaken st l arrival).stream st).pref = bits (blk l 1) 15 14 ∧
      (s.statusTaken st l arrival).latched 483 = true := by
  have hcopy : s.arbiterCopy st l = false := by rw [State.arbiterCopy, hsmall]; rfl
  have htaken : s.statusTaken st l arrival =
      (((s.streamStatus st (bits (blk l 1) 63 32)).streamTiming st l arrival).untoldEnd).peerSample st := by
    rw [State.statusTaken, if_neg (by simp [hcopy]), State.statusRx_small hsmall hrole]
  have hwit : (s.statusTaken st l arrival).wit =
      ((s.streamStatus st (bits (blk l 1) 63 32)).streamTiming st l arrival).wit := by
    rw [htaken]
    exact (State.peerSample_see (z := .part .wit) _ _ (by simp)).trans (State.untoldEnd_see (z := .part .wit) _ (by simp))
  have hstream (k : Nat) : (s.statusTaken st l arrival).stream k =
      ((s.streamStatus st (bits (blk l 1) 63 32)).streamTiming st l arrival).stream k := by
    rw [State.stream, hwit, State.stream]
  have hreg {i : Nat} (h1 : i = O.witnessStreamState ∨ i = O.witnessStreamDevid) (e : Nat) :
      (s.statusTaken st l arrival).reg i e = (s.streamStatus st (bits (blk l 1) 63 32)).reg i e := by
    rw [htaken]
    rcases h1 with rfl | rfl <;>
      rw [reg_see, State.peerSample_see _ _ (by simp), State.untoldEnd_see _ (by simp),
        State.streamTiming_see _ _ _ _ (by simp), ← reg_see]
  have hsecond := State.streamStatus_second hheld hstate hgood hcand
  obtain ⟨hframes, hpref⟩ := State.streamTiming_stream (s.streamStatus st (bits (blk l 1) 63 32)) st l arrival
  refine ⟨?_, ?_, ?_, ?_, ?_⟩
  · rw [State.streamState, hreg (.inl rfl), hsecond]
    exact State.setStreamState_state _ _ _
  · rw [hreg (.inr rfl), hsecond, reg_see, State.setStreamState_see _ _ _ (by simp), ← reg_see, State.reg_setStream_all,
      State.reg_setReg_self]
  · rw [hstream, hframes]
  · rw [hstream, hpref]
  · rw [htaken]
    refine State.latched_peerSample (State.latched_untoldEnd ?_) st
    rw [State.latched_streamTiming, hsecond]
    refine State.setStreamState_latches _ _ _ fun c => absurd (hstate.symm.trans (.trans ?_ c)) (by decide)
    have hkeep (t : State) (x : WStr) (d : Nat) :
        ((t.setReg O.witnessStreamDevid st d).setStream st x).streamState st = t.streamState st :=
      State.reg_setReg_obj _ (by decide)
    rw [hkeep, State.streamState_setStream]

section
variable {s : State} {st : Nat} (hst : st < 32)
include hst

theorem blockLock_brings_up (hthere : s.streamThere st = true) (hdown : s.streamState st = 0) :
    Runs (.witnessBlockLock st) s fun t =>
      t.streamState st = 1 ∧ (t.stream st).lock = true ∧ (t.stream st).good = 0 ∧ t.latched 483 = true ∧
      OnlyElems [(O.witnessStreamState, st), (O.protFlags, 0)] s t := by
  have hlock : s.fresh.blockLock st =
      (s.fresh.setStream st { s.fresh.stream st with lock := true, good := 0, frames := 0 }).setStreamState st 1 := by
    rw [State.blockLock, if_pos (show s.fresh.streamThere st = true from hthere)]
    exact if_pos hdown
  have hne : s.fresh.streamState st ≠ 1 := fun c => absurd (hdown.symm.trans c) (by decide)
  obtain ⟨hstate, hstream, hlatch, honly⟩ := State.streamChanged s.fresh st 1 hst hne
    (x := { s.fresh.stream st with lock := true, good := 0, frames := 0 })
  refine runs_of_runIn (exec_witnessBlockLock s st) hst ?_
  rw [hlock]
  refine ⟨hstate, ?_, ?_, hlatch, honly⟩
  · exact (congrArg WStr.lock hstream).trans rfl
  · exact (congrArg WStr.good hstream).trans rfl

theorem blockLoss_takes_down (hup : s.streamState st ≠ 0) :
    Runs (.witnessBlockLockLoss st) s fun t =>
      t.streamState st = 0 ∧ (t.stream st).lock = false ∧ (t.stream st).good = 0 ∧ (t.stream st).last = none ∧
      t.latched 483 = true ∧ OnlyElems [(O.witnessStreamState, st), (O.protFlags, 0)] s t := by
  obtain ⟨hstate, hstream, hlatch, honly⟩ := State.streamChanged s.fresh st 0 hst hup
    (x := { s.fresh.stream st with lock := false, good := 0, last := none, start := none })
  refine runs_of_runIn (exec_witnessBlockLockLoss s st) hst ⟨hstate, ?_, ?_, ?_, hlatch, honly⟩
  · exact congrArg WStr.lock hstream
  · exact congrArg WStr.good hstream
  · exact congrArg WStr.last hstream

theorem statusTimeout_takes_down (hup : s.streamState st ≠ 0) (hdue : 8 ≤ (s.stream st).frames) :
    Runs (.streamStatusTimeout st) s fun t =>
      t.streamState st = 0 ∧ (t.stream st).lock = (s.stream st).lock ∧ t.latched 483 = true ∧
      OnlyElems [(O.witnessStreamState, st), (O.protFlags, 0)] s t := by
  have hout : s.fresh.statusTimeout st =
      (s.fresh.setStream st { s.fresh.stream st with good := 0, start := none }).setStreamState st 0 :=
    if_pos (Bool.and_eq_true_iff.mpr ⟨decide_eq_true hup, decide_eq_true hdue⟩)
  obtain ⟨hstate, hstream, hlatch, honly⟩ := State.streamChanged s.fresh st 0 hst hup
    (x := { s.fresh.stream st with good := 0, start := none })
  refine runs_of_runIn (exec_streamStatusTimeout s st) hst ?_
  rw [hout]
  exact ⟨hstate, (congrArg WStr.lock hstream).trans rfl, hlatch, honly⟩

/-! ### Records (R228, log entry 16) -/

variable (hthere : s.streamThere st = true) (hlock : (s.stream st).lock = true)
include hthere hlock

omit hst in
theorem State.rxRecord_taken {l : List Block} {want : Nat} (f : State → State) (hok : recOk l = true)
    (htype : recType l = want) : s.rxRecord st l want f = f s := by
  rw [State.rxRecord, if_neg (by simp [hthere, hlock]), if_neg (by simp [hok]), if_neg (by simp [htype])]

omit hst in
theorem State.rxRecord_discarded {l : List Block} (want : Nat) (f : State → State) (hbad : recOk l = false) :
    s.rxRecord st l want f = (s.setStream st { s.stream st with good := 0 }).bump O.witnessRecErr st 32 := by
  rw [State.rxRecord, if_neg (by simp [hthere, hlock]), if_pos (by simp [hbad])]

theorem record_discarded {x : WitIn} {c : Instr} {arrival : Nat} (hbad : recOk (recordOf st x) = false)
    (hc : c ∈ [Instr.statusRecordRx st x arrival, .verdictRecordRx st x, .noticeRecordRx st x, .ingressRecordRx st x,
      .egressRecordRx st x]) :
    Runs c s fun t =>
      t.reg O.witnessRecErr st = (s.reg O.witnessRecErr st + 1) % 2 ^ 32 ∧ (t.stream st).good = 0 ∧
      t.prot = s.prot ∧ OnlyElems [(O.witnessRecErr, st)] s t := by
  have hout {want : Nat} {f : State → State} (h : exec c s = s.runIn st 32 fun s => s.rxRecord st (recordOf st x) want f) :
      Runs c s fun t =>
        t.reg O.witnessRecErr st = (s.reg O.witnessRecErr st + 1) % 2 ^ 32 ∧ (t.stream st).good = 0 ∧
        t.prot = s.prot ∧ OnlyElems [(O.witnessRecErr, st)] s t := by
    refine runs_of_runIn h hst ?_
    rw [State.rxRecord_discarded (s := s.fresh) hthere hlock want f hbad]
    refine ⟨State.reg_setReg_self .., ?_, rfl, ?_⟩
    · exact congrArg WStr.good (State.stream_setStream_self s.fresh st _)
    · exact ((OnlyElems.refl _ s.fresh).setStream _ _).bump _ _ (by omega) (by simp)
  simp only [List.mem_cons, List.not_mem_nil, or_false] at hc
  rcases hc with rfl | rfl | rfl | rfl | rfl
  exacts [hout (exec_statusRecordRx ..), hout (exec_verdictRecordRx ..), hout (exec_noticeRecordRx ..),
    hout (exec_ingressRecordRx ..), hout (exec_egressRecordRx ..)]

/-! ### NOTICE records (R244) -/

theorem notice_stands {x : WitIn} {l : List Block} (hrec : recordOf st x = l) (hok : recOk l = true)
    (htype : recType l = 0x30) (huse : s.inUse st = true) (hkind : bits (blk l 1) 63 56 = 2) :
    Runs (.noticeRecordRx st x) s fun t =>
      t.prot.notices = ((bits (blk l 1) 47 0, blk l 2) :: s.prot.notices).take 64 ∧
      ((∃ x ∈ s.prot.notices, x.1 = bits (blk l 1) 47 0 ∧ x.2 ≠ blk l 2) → t.latched 485 = true) ∧
      OnlyElems [] s t := by
  have htaken : s.fresh.rxRecord st (recordOf st x) 0x30 (fun s => s.noticeRx st (recordOf st x)) =
      s.fresh.noticeSeen (bits (blk l 1) 47 0) (blk l 2) := by
    rw [hrec, State.rxRecord_taken (s := s.fresh) hthere hlock _ hok htype]
    have huse' : s.fresh.inUse st = true := huse
    exact if_pos (by simp [huse', hkind])
  refine runs_of_runIn (exec_noticeRecordRx s st x) hst ?_
  rw [htaken]
  exact State.noticeSeen_tells s.fresh _ _

/-! ### STATUS records (R230) -/

theorem statusRx_second {x : WitIn} {l : List Block} {arrival : Nat} (hrec : recordOf st x = l) (hok : recOk l = true)
    (htype : recType l = 0x10) (hsmall : s.large = false) (hrole : s.role ≠ 4) (hheld : (s.stream st).held = false)
    (hstate : s.streamState st = 1) (hgood : (s.stream st).good = 1) (hcand : (s.stream st).cand = bits (blk l 1) 63 32) :
    Runs (.statusRecordRx st x arrival) s fun t =>
      t.streamState st = 2 ∧ t.reg O.witnessStreamDevid st = bits (blk l 1) 63 32 ∧ (t.stream st).frames = 0 ∧
      (t.stream st).pref = bits (blk l 1) 15 14 ∧ t.latched 483 = true := by
  have htaken : s.fresh.rxRecord st (recordOf st x) 0x10 (fun s => s.statusTaken st (recordOf st x) arrival) =
      s.fresh.statusTaken st l arrival := by
    rw [hrec, State.rxRecord_taken (s := s.fresh) hthere hlock _ hok htype]
  refine runs_of_runIn (exec_statusRecordRx s st x arrival) hst ?_
  rw [htaken]
  exact State.statusTaken_second (s := s.fresh) hsmall hrole hheld hstate hgood hcand

end

/-! ### The arbiter's watch (R239) -/

theorem arbiterWatch_ends {s : State} (hlarge : s.large = true) (hrole : s.role ≠ 4) (hdue : 8 ≤ s.prot.watch) :
    Runs .arbiterWatchTimeout s fun t => t.unwatched = true ∧ OnlyElems [(O.protFlags, 0)] s t := by
  have hwatch : (if s.fresh.large && s.fresh.role ≠ 4 && decide (8 ≤ s.fresh.prot.watch) then s.fresh.setUnwatched true
      else s.fresh) = s.fresh.setUnwatched true := by
    exact if_pos (Bool.and_eq_true_iff.mpr ⟨Bool.and_eq_true_iff.mpr ⟨hlarge, decide_eq_true hrole⟩,
      decide_eq_true hdue⟩)
  refine runs_of_run (exec_arbiterWatchTimeout s) ?_
  rw [hwatch]
  exact ⟨State.unwatched_setUnwatched s.fresh true, (OnlyElems.refl _ s.fresh).setUnwatched _ (by simp)⟩

/-- Settles O9: block lock and its loss, the second good STATUS record, a record discarded, eight frames without one,
the watch and the notices. -/
theorem witnessStreams : Obligations.WitnessStreams := by
  unfold Obligations.WitnessStreams
  refine ⟨fun _ _ hst hthere hdown => blockLock_brings_up hst hthere hdown,
    fun _ _ hst hup => blockLoss_takes_down hst hup,
    fun _ _ hst hup hdue => statusTimeout_takes_down hst hup hdue, ?_, ?_,
    fun _ hlarge hrole hdue => arbiterWatch_ends hlarge hrole hdue, ?_⟩
  · intro s st x l arrival hrec hst hthere hlock hok htype hsmall hrole hheld hstate hgood hcand
    exact statusRx_second hst hthere hlock hrec hok htype hsmall hrole hheld hstate hgood hcand
  · rintro s st x l c arrival rfl hst hthere hlock hbad hc
    exact record_discarded hst hthere hlock hbad hc
  · intro s st x l hrec hst hthere hlock hok htype huse hkind
    exact notice_stands hst hthere hlock hrec hok htype huse hkind

end Sys2Proof.Machine

/-! Banks (O24): changes of owner, the clear at power-up, the write-back of a corrected word; before them what tests
keep latched. -/

namespace Sys2Proof.Machine

/-! ### What tests keep latched (R424, R427) -/

section
variable {s : State} {ev : Nat} (h : s.latched ev = true)
include h

theorem State.latched_tokTake (d k : Nat) : (s.tokTake d k).latched ev = true := by
  simp only [State.tokTake]
  split_ifs
  · exact h
  · refine State.latched_raise ?_ _
    rwa [State.latched_setReg (by decide), State.latched_setReg (by decide)]

theorem State.latched_actStart (d k : Nat) : (s.actStart d k).latched ev = true := State.latched_tokTake h d k

theorem State.latched_asyShow (g : Nat) : (s.asyShow g).latched ev = true := by
  rwa [State.latched_see (State.asyShow_see s g (by simp))]

theorem State.latched_testRun (g : Nat) (x : TestT) : (s.testRun g x).latched ev = true := by
  rwa [State.latched_see (State.testRun_see s g x (by simp))]

theorem State.latched_asyEnqueue (x : TestT) : (s.asyEnqueue x).latched ev = true := by
  have hasy (t : State) (a : AsyS) : ({ t with asy := a } : State).latched ev = t.latched ev := rfl
  have hlog (t : State) (y : TestT) (a b : Nat) : (t.asyLog y a b).latched ev = t.latched ev := rfl
  simp only [State.asyEnqueue]
  split_ifs
  · refine State.latched_raise ?_ _
    rwa [hlog, State.latched_bump (by decide)]
  · split
    · split_ifs
      · refine State.latched_testRun (State.latched_raise ?_ _) _ _
        rwa [hlog, State.latched_tally, State.latched_setReg (by decide), hasy]
      · refine State.latched_testRun (State.latched_raise ?_ _) _ _
        rwa [hlog, State.latched_tally, hasy]
      · exact State.latched_asyShow ((hasy s _).trans h) _
    · exact State.latched_asyShow ((hasy s _).trans h) _

theorem State.latched_hostTest (k res kind rank : Nat) : (s.hostTest k res kind rank).latched ev = true := by
  have h0 : ((s.actStart 3 k).setReg O.assayTestResult 0 1).latched ev = true :=
    (State.latched_setReg (by decide)).trans (State.latched_actStart h 3 k)
  simp only [State.hostTest]
  generalize (s.actStart 3 k).setReg O.assayTestResult 0 1 = u at h0
  split_ifs
  · exact h0
  · refine State.latched_actEnd ?_ 3
    rw [State.latched_setReg (by decide)]
    exact State.latched_asyEnqueue h0 _
  · exact State.latched_asyEnqueue h0 _

end

/-! ### Spans of a sparse array -/

section
variable {β : Type} (m : SMap β) (lo n : Nat)

theorem SMap.find?_clearSpan (k : Nat) :
    SMap.find? (SMap.clearSpan m lo n) k = if lo ≤ k ∧ k < lo + n then none else SMap.find? m k := by
  induction m with
  | nil => simp [SMap.clearSpan, SMap.find?]
  | cons x m ih =>
    obtain ⟨i, v⟩ := x
    simp only [SMap.clearSpan] at ih
    by_cases hout : i < lo ∨ lo + n ≤ i
    · have hkeep : decide (i < lo) || decide (lo + n ≤ i) = true := by simpa using hout
      rw [SMap.clearSpan, List.filter_cons_of_pos (by simpa using hout), SMap.find?, ih, SMap.find?]
      by_cases hk : i = k
      · rw [if_pos hk, if_pos hk, if_neg (by omega)]
      · rw [if_neg hk, if_neg hk]
    · rw [SMap.clearSpan, List.filter_cons_of_neg (by simpa using hout), ih, SMap.find?]
      by_cases hk : i = k
      · rw [if_pos (by omega), if_pos (by omega)]
      · rw [if_neg hk]

theorem SMap.get_clearSpan_in (d : β) {k : Nat} (h : lo ≤ k) (h' : k < lo + n) :
    SMap.get d (SMap.clearSpan m lo n) k = d := by
  rw [SMap.get, SMap.find?_clearSpan, if_pos ⟨h, h'⟩]

theorem SMap.get_clearSpan_out (d : β) {k : Nat} (h : k < lo ∨ lo + n ≤ k) :
    SMap.get d (SMap.clearSpan m lo n) k = SMap.get d m k := by
  rw [SMap.get, SMap.find?_clearSpan, if_neg (by omega), SMap.get]

end

/-! ### The end of a handover (R329) -/

section
variable (s : State) (b : Nat)

/-- The bank passes to owner `o`. -/
def State.handedOver (s : State) (b o : Nat) : State :=
  let t := (s.setReg O.memBankOwner b o).setReg O.memBankTarget b 0
  { t with mem := { t.mem with scrub := t.mem.scrub.filter fun x => x != b } }

theorem State.handedOver_reg (o i e : Nat) :
    (s.handedOver b o).reg i e = ((s.setReg O.memBankOwner b o).setReg O.memBankTarget b 0).reg i e := rfl

theorem State.handoverDone_kept (h : s.reg O.memBankTarget b ≠ 15) :
    s.handoverDone b = ((s.handedOver b (s.reg O.memBankTarget b)).setReg O.memBankState b 0).raise 452 := by
  simp only [State.handoverDone, State.handedOver]
  rw [if_neg h, if_neg (by simp [h])]

theorem State.handoverDone_retired (h : s.reg O.memBankTarget b = 15) (h6 : s.reg O.memBankOwner b ≠ 6) :
    s.handoverDone b =
      (((s.handedOver b 15).fencePut (2 ^ 24 + b * 65536)).setReg O.memBankState b 4).raise 452 := by
  simp only [State.handoverDone, State.handedOver]
  rw [if_pos h, if_neg (by simp [h6]), h]

theorem State.handedOver_sys (o : Nat) : (s.handedOver b o).sys = s.sys := rfl

variable {s b} {l : List (Nat × Nat)}

theorem OnlyElems.handedOver {t : State} (h : OnlyElems l s t) (hb : b < 256) (o : Nat)
    (h1 : (O.memBankOwner, b) ∈ l) (h2 : (O.memBankTarget, b) ∈ l) : OnlyElems l s (t.handedOver b o) :=
  (h.setReg o (by omega) h1).setReg 0 (by omega) h2

/-- The state of a bank that has its new owner. -/
theorem State.handoverDone_keeps (hb : b < 256) (h : s.reg O.memBankTarget b ≠ 15) :
    (s.handoverDone b).reg O.memBankOwner b = s.reg O.memBankTarget b ∧ (s.handoverDone b).reg O.memBankState b = 0 ∧
      (s.handoverDone b).mem.bank = s.mem.bank ∧
      (s.sys.fabOn = true → (s.handoverDone b).latched 452 = true) ∧
      OnlyElems [(O.memBankOwner, b), (O.memBankTarget, b), (O.memBankState, b)] s (s.handoverDone b) := by
  rw [State.handoverDone_kept s b h, State.raise_reg _ (by decide), State.raise_reg _ (by decide), State.raise_mem,
    State.reg_setReg_self, State.reg_setReg_obj _ (by decide), State.handedOver_reg, State.reg_setReg_obj _ (by decide),
    State.reg_setReg_self, State.setReg_mem]
  exact ⟨rfl, rfl, rfl, fun hon => State.latched_raise_self (.inr hon),
    ((((OnlyElems.refl _ s).handedOver hb _ (by simp) (by simp)).setReg 0 (by omega) (by simp)).raise 452)⟩

end

/-! ### Entries of MEM.FENCE_LIST (R338) -/

theorem lt_of_find?_range {n i : Nat} {p : Nat → Bool} (h : (List.range n).find? p = some i) : i < n :=
  List.mem_range.mp (List.mem_of_find?_eq_some h)

section
variable {s : State} {i v : Nat} (h : s.fenceFree = some i)
include h

theorem State.fenceFree_lt : i < 4352 := by
  rw [State.fenceFree] at h
  exact lt_of_find?_range h

theorem State.fencePut_eq : s.fencePut v =
    if (s.setReg O.memFenceList i v).fenceFree.isNone then (s.setReg O.memFenceList i v).raise 460
    else s.setReg O.memFenceList i v := by
  unfold State.fencePut
  generalize s.fenceFree = o at h ⊢
  subst h
  rfl

theorem State.fencePut_list : (s.fencePut v).reg O.memFenceList i = v := by
  rw [State.fencePut_eq h]
  split_ifs
  · rw [State.raise_reg _ (by decide), State.reg_setReg_self]
  · exact State.reg_setReg_self _ _ _ _

omit h in
theorem State.fencePut_sys : (s.fencePut v).sys = s.sys := State.sys_of_see (State.fencePut_see s v (by simp))

theorem OnlyElems.fencePut {l : List (Nat × Nat)} {r : State} (ho : OnlyElems l r s)
    (hm : (O.memFenceList, i) ∈ l) : OnlyElems l r (s.fencePut v) := by
  have hset := ho.setReg v ((State.fenceFree_lt h).trans (by decide)) hm
  rw [State.fencePut_eq h]
  split_ifs
  exacts [hset.raise _, hset]

end

theorem State.handoverDone_retires {s : State} {b i : Nat} (hb : b < 256) (h : s.reg O.memBankTarget b = 15)
    (h6 : s.reg O.memBankOwner b ≠ 6) (hfree : s.fenceFree = some i) :
    (s.handoverDone b).reg O.memBankOwner b = 15 ∧ (s.handoverDone b).reg O.memBankState b = 4 ∧
      (s.handoverDone b).reg O.memFenceList i = 2 ^ 24 + b * 2 ^ 16 ∧
      (s.sys.fabOn = true → (s.handoverDone b).latched 452 = true) ∧
      OnlyElems [(O.memBankOwner, b), (O.memBankTarget, b), (O.memBankState, b), (O.memFenceList, i)] s
        (s.handoverDone b) := by
  have hfree' : (s.handedOver b 15).fenceFree = some i := by
    have hlist (j : Nat) : (s.handedOver b 15).reg O.memFenceList j = s.reg O.memFenceList j := by
      rw [State.handedOver_reg, State.reg_setReg_obj _ (by decide), State.reg_setReg_obj _ (by decide)]
    simp only [State.fenceFree, hlist]
    exact hfree
  have howner : ((s.handedOver b 15).fencePut (2 ^ 24 + b * 65536)).reg O.memBankOwner b = 15 := by
    rw [reg_see, State.fencePut_see _ _ (by simp), ← reg_see, State.handedOver_reg, State.reg_setReg_obj _ (by decide),
      State.reg_setReg_self]
  have hsys : (((s.handedOver b 15).fencePut (2 ^ 24 + b * 65536)).setReg O.memBankState b 4).sys = s.sys := by
    rw [State.setReg_sys, State.fencePut_sys, State.handedOver_sys]
  rw [State.handoverDone_retired s b h h6, State.raise_reg _ (by decide), State.raise_reg _ (by decide),
    State.raise_reg _ (by decide), State.reg_setReg_obj _ (by decide), State.reg_setReg_self,
    State.reg_setReg_obj _ (by decide), howner, State.fencePut_list hfree']
  refine ⟨rfl, rfl, rfl, fun hon => State.latched_raise_self (.inr ?_), ?_⟩
  · rwa [hsys]
  · exact ((((OnlyElems.refl _ s).handedOver hb 15 (by simp) (by simp)).fencePut hfree' (by simp)).setReg 4 (by omega)
      (by simp)).raise 452

/-! ### MEM.BANK_OWNER (Table 9-8) -/

/-- The handover of bank `b` is asked for: it waits for a commit boundary, or starts to drain. -/
def State.bankAsked (s : State) (b v : Nat) : State :=
  let wait := 1 ≤ s.reg O.memBankOwner b && s.reg O.memBankOwner b ≤ 3 && s.sys.mode.commits
  let s := s.setReg O.memBankTarget b (v % 16)
  let s := if wait then s.setReg O.memBankState b 1 else s.startDrain b
  let scrub := s.mem.scrub.filter fun x => x != b
  { s with mem := { s.mem with scrub := if bit v 7 then b :: scrub else scrub } }

/-- An accepted operation has passed each of its refusals. -/
theorem accepted_else {c : Prop} [Decidable c] {s : State} {n : Nat} {x r : State × Nat} (hn : n ≠ 0) (hok : r.2 = 0)
    (hr : (if c then (s, n) else x) = r) : x = r := by
  rwa [if_neg] at hr
  intro hc
  rw [if_pos hc] at hr
  exact hn ((congrArg Prod.snd hr).trans hok)

section
variable {s : State} {h b v : Nat} (hok : (bankOwnerOp h b v s).2 = 0)
include hok

/-- What an accepted write of a bank's owner does. -/
theorem bankOwnerOp_accepts :
    bankOwnerOp h b v s =
      if s.reg O.memBankOwner b = 15 ∧ v % 16 = 15 then (s, 0)
      else if s.sys.fabOn = false ∨ s.reg O.memBankState b = 5 then
        (((if v % 16 = 15 then s.fencePut (2 ^ 24 + b * 65536) else s).setReg O.memBankOwner b (v % 16)).ownerLater b, 0)
      else if s.reg O.memBankOwner b = 15 ∧ v % 16 = 0 then (s.bankReuse h b, 0)
      else (s.bankAsked b v, 0) := by
  generalize hr : bankOwnerOp h b v s = r at hok ⊢
  unfold bankOwnerOp at hr
  extract_lets code old st back t wait t1 t2 scrub t3 at hr
  replace hr := accepted_else (by decide) hok hr
  replace hr := accepted_else (by decide) hok hr
  replace hr := accepted_else (by decide) hok hr
  replace hr := accepted_else (by decide) hok hr
  by_cases h1 : s.reg O.memBankOwner b = 15 ∧ v % 16 = 15
  · rw [if_pos h1, ← hr, if_pos (by simpa [old, code] using h1)]
  rw [if_neg h1]
  rw [if_neg (by simpa [old, code] using h1)] at hr
  replace hr := accepted_else (by decide) hok hr
  replace hr := accepted_else (by decide) hok hr
  replace hr := accepted_else (by decide) hok hr
  replace hr := accepted_else (by decide) hok hr
  by_cases h2 : s.sys.fabOn = false ∨ s.reg O.memBankState b = 5
  · rw [if_pos h2, ← hr, if_pos (by simpa [st] using h2)]
  rw [if_neg h2]
  rw [if_neg (by simpa [st] using h2)] at hr
  by_cases h3 : s.reg O.memBankOwner b = 15 ∧ v % 16 = 0
  · rw [if_pos h3, ← hr, if_pos (by simpa [back, old, code] using h3)]
  rw [if_neg h3, ← hr, if_neg (by simpa [back, old, code] using h3)]
  rfl

end

/-- The answer does not turn on what the step before sent. -/
theorem bankOwnerOp_fresh (s : State) (h b v : Nat) :
    (bankOwnerOp h b v s.fresh).2 = (bankOwnerOp h b v s).2 := by
  unfold bankOwnerOp
  extract_lets code old st back t wait t1 t2 scrub t3 old' st' back' t' wait' t1' t2' scrub' t3'
  simp only [apply_ite Prod.snd]
  rfl

/-! ### What an accepted write of a bank's owner leaves -/

section
variable (s : State) (b v : Nat)

theorem State.startDrain_reg (i e : Nat) : (s.startDrain b).reg i e = (s.setReg O.memBankState b 2).reg i e := rfl

/-- The bank whose handover is asked for waits for a boundary, or drains. -/
def State.askedState : Nat :=
  if 1 ≤ s.reg O.memBankOwner b ∧ s.reg O.memBankOwner b ≤ 3 ∧ s.sys.mode.commits = true then 1 else 2

theorem State.bankAsked_reg (i e : Nat) : (s.bankAsked b v).reg i e =
    ((s.setReg O.memBankTarget b (v % 16)).setReg O.memBankState b (s.askedState b)).reg i e := by
  have hmem (t : State) (m : MemS) : ({ t with mem := m } : State).reg i e = t.reg i e := rfl
  simp only [State.bankAsked, hmem, State.askedState, Bool.and_eq_true, decide_eq_true_eq, and_assoc]
  split_ifs
  · rfl
  · exact State.startDrain_reg _ _ _ _

theorem State.bankAsked_scrub : (s.bankAsked b v).mem.scrub.contains b = bit v 7 := by
  simp only [State.bankAsked]
  cases bit v 7 <;> simp

theorem State.ownerLater_reg (i e : Nat) : (s.ownerLater b).reg i e = s.reg i e := by
  simp only [State.ownerLater]
  split_ifs <;> rfl

end

/-! ### A retired bank in use again (R338) -/

/-- The bank is empty and has no fences. -/
def State.bankEmptied (s : State) (b : Nat) : State :=
  let l := (List.range 4352).filter fun i => let e := s.reg O.memFenceList i
                                             e != 0xFFFFFFFF && bits e 23 16 == b
  let s := l.foldl (fun s i => s.setReg O.memFenceList i 0xFFFFFFFF) s
  let fence := SMap.clearSpan s.mem.fence (b * 65536) 65536
  let s := { s with mem := { s.mem with fence := fence }
                    asy := { s.asy with returning := (256 + b) :: s.asy.returning } }
  (s.setReg O.memBankFenced b 0).bankZero b

theorem State.bankReuse_eq (s : State) (h b : Nat) : s.bankReuse h b =
    ((((s.bankEmptied b).setReg O.memBankOwner b 0).setReg O.memBankState b 0).raise 452).hostTest h (resOf 5 b) 0 3 :=
  rfl

theorem State.bankZero_bank (s : State) (b : Nat) :
    (∀ x < 65552, SMap.get 0 (s.bankZero b).mem.bank (b * 65552 + x) = 0) ∧
      ∀ x, (x < b * 65552 ∨ (b + 1) * 65552 ≤ x) → SMap.get 0 (s.bankZero b).mem.bank x = SMap.get 0 s.mem.bank x := by
  refine ⟨fun x hx => SMap.get_clearSpan_in _ _ _ _ (by omega) (by omega),
    fun x hx => SMap.get_clearSpan_out _ _ _ _ (by omega)⟩

theorem State.bankEmptied_tells (s : State) (b : Nat) : (s.bankEmptied b).sys = s.sys ∧
    (s.bankEmptied b).reg O.memBankFenced b = 0 ∧
    (∀ x < 65552, SMap.get 0 (s.bankEmptied b).mem.bank (b * 65552 + x) = 0) ∧
    ∀ x < 65536, SMap.get 0 (s.bankEmptied b).mem.fence (b * 65536 + x) = 0 := by
  simp only [State.bankEmptied]
  generalize hu : List.foldl (fun t i => State.setReg t O.memFenceList i 0xFFFFFFFF) s _ = u
  have hsys : u.sys = s.sys := by
    rw [← hu]
    exact foldl_same State.sys _ _ _ fun t i => State.setReg_sys _ _ _ _
  have hzero (t : State) (i e : Nat) : (t.bankZero b).reg i e = t.reg i e := rfl
  have hfence (t : State) : (t.bankZero b).mem.fence = t.mem.fence := rfl
  have hmode (t : State) : (t.bankZero b).sys = t.sys := rfl
  rw [hmode, hzero, hfence, State.setReg_sys, State.setReg_mem, State.reg_setReg_self]
  exact ⟨hsys, rfl, (State.bankZero_bank _ b).1,
    fun x hx => SMap.get_clearSpan_in _ _ _ _ (by omega) (by omega)⟩

theorem State.bankReuse_tells (s : State) (h b : Nat) (hon : s.sys.fabOn = true) :
    (s.bankReuse h b).reg O.memBankOwner b = 0 ∧ (s.bankReuse h b).reg O.memBankState b = 0 ∧
      (s.bankReuse h b).reg O.memBankFenced b = 0 ∧
      (∀ x < 65552, SMap.get 0 (s.bankReuse h b).mem.bank (b * 65552 + x) = 0) ∧
      (∀ x < 65536, SMap.get 0 (s.bankReuse h b).mem.fence (b * 65536 + x) = 0) ∧
      (s.bankReuse h b).latched 452 = true := by
  obtain ⟨hsys, hfenced, hbank, hfence⟩ := s.bankEmptied_tells b
  rw [State.bankReuse_eq]
  generalize s.bankEmptied b = u at *
  have hon' : ((u.setReg O.memBankOwner b 0).setReg O.memBankState b 0).sys.fabOn = true := by
    rwa [State.setReg_sys, State.setReg_sys, hsys]
  rw [reg_see, reg_see, reg_see, State.hostTest_see _ _ _ _ _ (by simp),
    State.hostTest_see _ _ _ _ _ (by simp), State.hostTest_see _ _ _ _ _ (by simp), ← reg_see, ← reg_see, ← reg_see,
    State.hostTest_mem, State.raise_mem, State.setReg_mem, State.setReg_mem, State.raise_reg _ (by decide),
    State.raise_reg _ (by decide), State.raise_reg _ (by decide), State.reg_setReg_obj _ (by decide),
    State.reg_setReg_self, State.reg_setReg_self, State.reg_setReg_obj _ (by decide), State.reg_setReg_obj _ (by decide),
    hfenced]
  exact ⟨rfl, rfl, rfl, hbank, hfence, State.latched_hostTest (State.latched_raise_self (.inr hon')) _ _ _ _⟩

/-! ### Writes of MEM.BANK_OWNER -/

theorem State.mem_write (s : State) (idx e v : Nat) (q : List Instr) :
    (((s.record idx e v).answer 0).withQueue q).mem = s.mem :=
  State.see_write (z := .part .mem) s idx e v q (by simp)

section
variable {s : State} {w : Who} {b v : Nat} (ha : Allowed s w O.memBankOwner b v)
  (hok : (bankOwnerOp (holderOf w) b v s).2 = 0)
include ha hok

theorem bankOwner_asked (hon : s.sys.fabOn = true) (hold : s.reg O.memBankOwner b ≠ 15)
    (hst : s.reg O.memBankState b ≠ 5) :
    Runs (.bankOwnerWrite w b v) s fun t =>
      t.reg O.memBankTarget b = v % 16 ∧ t.reg O.memBankOwner b = s.reg O.memBankOwner b ∧
      t.reg O.memBankState b = (if 1 ≤ s.reg O.memBankOwner b ∧ s.reg O.memBankOwner b ≤ 3 ∧ s.sys.mode.commits = true
        then 1 else 2) ∧
      t.mem.scrub.contains b = bit v 7 ∧ t.out.status = 0 := by
  have hop : bankOwnerOp (holderOf w) b v s.fresh = (s.fresh.bankAsked b v, 0) := by
    rw [bankOwnerOp_accepts ((bankOwnerOp_fresh s _ b v).trans hok), State.reg_fresh_all, State.reg_fresh_all,
      if_neg fun c => hold c.1, if_neg, if_neg fun c => hold c.1]
    rintro (c | c)
    exacts [Bool.false_ne_true (c.symm.trans hon), hst c]
  refine runs_of_write (exec_bankOwnerWrite s w b v) ha hop ?_
  rw [State.reg_write _ _ _ _ _ (by decide) (by decide), State.reg_write _ _ _ _ _ (by decide) (by decide),
    State.reg_write _ _ _ _ _ (by decide) (by decide), State.bankAsked_reg, State.bankAsked_reg, State.bankAsked_reg,
    State.mem_write, State.reg_setReg_obj _ (by decide), State.reg_setReg_self, State.reg_setReg_obj _ (by decide),
    State.reg_setReg_obj _ (by decide), State.reg_setReg_self]
  exact ⟨rfl, rfl, rfl, State.bankAsked_scrub _ _ _, rfl⟩

theorem bankOwner_later (hst : s.sys.fabOn = false ∨ s.reg O.memBankState b = 5) :
    Runs (.bankOwnerWrite w b v) s fun t =>
      t.reg O.memBankOwner b = v % 16 ∧ t.reg O.memBankState b = s.reg O.memBankState b ∧
      t.reg O.memBankTarget b = s.reg O.memBankTarget b ∧ t.out.status = 0 := by
  have hstatus (u : State) (q : List Instr) : (((u.record O.memBankOwner b v).answer 0).withQueue q).out.status = 0 := rfl
  by_cases hstay : s.reg O.memBankOwner b = 15 ∧ v % 16 = 15
  · have hop : bankOwnerOp (holderOf w) b v s.fresh = (s.fresh, 0) := by
      rw [bankOwnerOp_accepts ((bankOwnerOp_fresh s _ b v).trans hok), State.reg_fresh_all, if_pos hstay]
    refine runs_of_write (exec_bankOwnerWrite s w b v) ha hop ?_
    rw [State.reg_write _ _ _ _ _ (by decide) (by decide), State.reg_write _ _ _ _ _ (by decide) (by decide),
      State.reg_write _ _ _ _ _ (by decide) (by decide), State.reg_fresh_all, State.reg_fresh_all, State.reg_fresh_all,
      hstay.1, hstay.2]
    exact ⟨rfl, rfl, rfl, hstatus _ _⟩
  · have hop : bankOwnerOp (holderOf w) b v s.fresh =
        (((if v % 16 = 15 then s.fresh.fencePut (2 ^ 24 + b * 65536) else s.fresh).setReg O.memBankOwner b
          (v % 16)).ownerLater b, 0) := by
      rw [bankOwnerOp_accepts ((bankOwnerOp_fresh s _ b v).trans hok), State.reg_fresh_all, State.reg_fresh_all,
        if_neg hstay]
      exact if_pos hst
    have hkeep {i : Nat} (h : i = O.memBankState ∨ i = O.memBankTarget) :
        (if v % 16 = 15 then s.fresh.fencePut (2 ^ 24 + b * 65536) else s.fresh).reg i b = s.reg i b := by
      split_ifs
      · rcases h with rfl | rfl <;> rw [reg_see, State.fencePut_see _ _ (by simp), ← reg_see, State.reg_fresh_all]
      · rfl
    refine runs_of_write (exec_bankOwnerWrite s w b v) ha hop ?_
    rw [State.reg_write _ _ _ _ _ (by decide) (by decide), State.reg_write _ _ _ _ _ (by decide) (by decide),
      State.reg_write _ _ _ _ _ (by decide) (by decide), State.ownerLater_reg, State.ownerLater_reg,
      State.ownerLater_reg, State.reg_setReg_self, State.reg_setReg_obj _ (by decide), State.reg_setReg_obj _ (by decide),
      hkeep (.inl rfl), hkeep (.inr rfl)]
    exact ⟨rfl, rfl, rfl, hstatus _ _⟩

theorem bankOwner_reused (hon : s.sys.fabOn = true) (hold : s.reg O.memBankOwner b = 15) (hv : v % 16 = 0)
    (hst : s.reg O.memBankState b ≠ 5) :
    Runs (.bankOwnerWrite w b v) s fun t =>
      t.reg O.memBankOwner b = 0 ∧ t.reg O.memBankState b = 0 ∧ t.reg O.memBankFenced b = 0 ∧
      (∀ x < 65552, SMap.get 0 t.mem.bank (b * 65552 + x) = 0) ∧
      (∀ x < 65536, SMap.get 0 t.mem.fence (b * 65536 + x) = 0) ∧ t.latched 452 = true ∧ t.out.status = 0 := by
  have hop : bankOwnerOp (holderOf w) b v s.fresh = (s.fresh.bankReuse (holderOf w) b, 0) := by
    rw [bankOwnerOp_accepts ((bankOwnerOp_fresh s _ b v).trans hok), State.reg_fresh_all, State.reg_fresh_all,
      if_neg fun c => absurd (hv.symm.trans c.2) (by decide), if_neg, if_pos ⟨hold, hv⟩]
    rintro (c | c)
    exacts [Bool.false_ne_true (c.symm.trans hon), hst c]
  refine runs_of_write (exec_bankOwnerWrite s w b v) ha hop ?_
  obtain ⟨howner, hstate, hfenced, hbank, hfence, hlatch⟩ := State.bankReuse_tells s.fresh (holderOf w) b hon
  rw [State.reg_write _ _ _ _ _ (by decide) (by decide), State.reg_write _ _ _ _ _ (by decide) (by decide),
    State.reg_write _ _ _ _ _ (by decide) (by decide), State.mem_write, State.latched_withQueue, State.latched_answer]
  exact ⟨howner, hstate, hfenced, hbank, hfence, State.latched_record hlatch _ _ _, rfl⟩

end

/-! ### The clear at power-up (R339) -/

/-- The banks hold nothing any more. -/
def State.banksEmptied (s : State) : State :=
  { s with sys := { s.sys with banksClear := true },
           mem := { s.mem with bank := [], back := [], opened := [], settled := [], former := [] } }

/-- The banks' states are those of their owners. -/
def State.bankStates (s : State) : State :=
  foldRange 256 (fun s b => s.setReg O.memBankState b (if s.reg O.memBankOwner b = 15 then 4 else 0)) s

theorem State.bankStates_tells (s : State) : ∀ b < 256,
    s.bankStates.reg O.memBankState b = if s.bankStates.reg O.memBankOwner b = 15 then 4 else 0 := by
  have h := foldRange_induction (n := 256) (a := s)
    (f := fun s b => s.setReg O.memBankState b (if s.reg O.memBankOwner b = 15 then 4 else 0))
    (P := fun n t => n ≤ 256 → ∀ b < n, t.reg O.memBankState b = if t.reg O.memBankOwner b = 15 then 4 else 0)
    (fun _ b hb => absurd hb (by omega)) ?_
  · exact h le_rfl
  · intro n t hn ih hle b hb
    rw [State.reg_setReg_obj (j := O.memBankOwner) _ (by decide)]
    by_cases hbn : b = n
    · rw [hbn, State.reg_setReg_self]
    · rw [State.reg_setReg_ne _ (by omega) (by omega) (by simpa using fun c => hbn c), ih (by omega) b (by omega)]

/-- The events 452 of the banks whose owner was to change. -/
def State.handoversTold (s : State) : State :=
  let n := s.mem.due.length
  let s := { s with mem := { s.mem with due := [] } }
  foldRange n (fun s _ => s.raise 452) s

theorem State.clearDone_eq {s : State} (hon : s.sys.fabOn = true) (hclear : s.sys.banksClear = false) :
    s.clearDone =
      (foldRange 256 (fun s b => s.setReg O.memBankFenced b 0) s.banksEmptied).fenceApply.bankStates.handoversTold := by
  simp only [State.clearDone, State.banksEmptied, State.bankStates, State.handoversTold, hon, hclear, Bool.not_false,
    Bool.and_self, if_true]

theorem State.handoversTold_reg (s : State) {i : Nat} (e : Nat) (h : evObj i = false) :
    s.handoversTold.reg i e = s.reg i e :=
  foldRange_same (fun t : State => t.reg i e) _ _ _ fun t _ => State.raise_reg t h

theorem State.handoversTold_sys (s : State) : s.handoversTold.sys = s.sys :=
  foldRange_same State.sys _ _ _ fun t _ => State.raise_sys t 452

theorem State.handoversTold_bank (s : State) : s.handoversTold.mem.bank = s.mem.bank :=
  foldRange_same (fun t : State => t.mem.bank) _ _ _ fun t _ => congrArg MemS.bank (State.raise_mem t 452)

theorem State.fenceApply_bank (s : State) : s.fenceApply.mem.bank = s.mem.bank := by
  simp only [State.fenceApply]
  refine foldl_same (fun t : State => t.mem.bank) _ _ _ fun t v => ?_
  split_ifs <;> rfl

theorem State.clearDone_tells {s : State} (hon : s.sys.fabOn = true) (hclear : s.sys.banksClear = false) :
    s.clearDone.sys.banksClear = true ∧ s.clearDone.mem.bank = [] ∧
      ∀ b < 256, s.clearDone.reg O.memBankState b = if s.clearDone.reg O.memBankOwner b = 15 then 4 else 0 := by
  rw [State.clearDone_eq hon hclear]
  have hsys : (foldRange 256 (fun s b => s.setReg O.memBankFenced b 0) s.banksEmptied).sys = s.banksEmptied.sys :=
    foldRange_same State.sys _ _ _ fun t _ => State.setReg_sys _ _ _ _
  have hmem : (foldRange 256 (fun s b => s.setReg O.memBankFenced b 0) s.banksEmptied).mem = s.banksEmptied.mem :=
    foldRange_same State.mem _ _ _ fun t _ => State.setReg_mem _ _ _ _
  generalize foldRange 256 (fun s b => s.setReg O.memBankFenced b 0) s.banksEmptied = u at hsys hmem
  have hstates_sys (t : State) : t.bankStates.sys = t.sys :=
    foldRange_same State.sys _ _ _ fun t _ => State.setReg_sys _ _ _ _
  have hstates_mem (t : State) : t.bankStates.mem = t.mem :=
    foldRange_same State.mem _ _ _ fun t _ => State.setReg_mem _ _ _ _
  refine ⟨?_, ?_, fun b hb => ?_⟩
  · rw [State.handoversTold_sys, hstates_sys, State.sys_of_see (State.fenceApply_see (z := .part .sys) u (by simp)), hsys]
    rfl
  · rw [State.handoversTold_bank, hstates_mem, State.fenceApply_bank, hmem]
    rfl
  · rw [State.handoversTold_reg _ _ (by decide), State.handoversTold_reg _ _ (by decide)]
    exact State.bankStates_tells _ b hb

/-! ### The write-back of a corrected word (R325) -/

theorem State.writeBack_tells {s : State} {b w : Nat} (h : (b, w) ∈ s.mem.back) :
    (s.writeBack b w).bankCode b w = eccEnc ((eccDec (s.bankCode b w)).d % 2 ^ 48) ∧
      (b, w) ∉ (s.writeBack b w).mem.back ∧ OnlyRegs [O.tallyOvfCount] s (s.writeBack b w) := by
  have hback : s.writeBack b w = (s.bankPut b w (eccDec (s.bankCode b w)).d).tally 75 1 :=
    if_pos (List.contains_iff_mem.mpr h)
  have hmem (t : State) : (t.tally 75 1).mem = t.mem := State.tally_see (z := .part .mem) t 75 1 (by simp)
  rw [hback]
  refine ⟨?_, ?_, fun i e hev hne => ?_⟩
  · rw [State.bankCode, State.bankSlot, hmem]
    exact SMap.get_set_self _ _ _ _
  · rw [hmem]
    have hput : (s.bankPut b w (eccDec (s.bankCode b w)).d).mem.back = s.mem.back.filter fun x => x != (b, w) := rfl
    rw [hput]
    simp
  · have hne' : i ≠ O.tallyOvfCount := by simpa using hne
    rw [reg_see, State.tally_see _ _ _ (by simpa using hne'), ← reg_see]
    rfl

/-- Settles O24: what an accepted write of a bank's owner does, the ends of drain and scrub, the clear of all banks, and
the write-back. -/
theorem bankCommands : Obligations.BankCommands := by
  unfold Obligations.BankCommands
  refine ⟨fun _ _ _ _ ha hon hold hst hok => bankOwner_asked ha hok hon hold hst,
    fun _ _ _ _ ha hst hok => bankOwner_later ha hok hst,
    fun _ _ _ _ ha hon hold hv hst hok => bankOwner_reused ha hok hon hold hv hst, ?_, ?_, ?_, ?_, ?_, ?_⟩
  · intro s b hb hst hscrub
    have hdrain : s.fresh.drainDone b = s.fresh.setReg O.memBankState b 3 := by
      rw [State.drainDone, State.reg_fresh_all, if_pos hst]
      exact if_pos hscrub
    refine runs_of_runIn (exec_handoverDrainDone s b) hb ?_
    rw [hdrain]
    exact ⟨State.reg_setReg_self .., ((OnlyElems.refl _ s.fresh).setReg 3 (by omega) (by simp)).run _⟩
  · intro s b hb hst hscrub htarget
    have hdrain : s.fresh.drainDone b = s.fresh.handoverDone b := by
      rw [State.drainDone, State.reg_fresh_all, if_pos hst]
      exact if_neg (fun c => Bool.false_ne_true (hscrub.symm.trans c))
    refine runs_of_runIn (exec_handoverDrainDone s b) hb ?_
    rw [hdrain]
    exact State.handoverDone_keeps (s := s.fresh) hb htarget
  · intro s b i hb hst hscrub htarget howner hfree
    have hdrain : s.fresh.drainDone b = s.fresh.handoverDone b := by
      rw [State.drainDone, State.reg_fresh_all, if_pos hst]
      exact if_neg (fun c => Bool.false_ne_true (hscrub.symm.trans c))
    obtain ⟨h1, h2, h3, h4, h5⟩ := State.handoverDone_retires (s := s.fresh) hb htarget howner hfree
    refine runs_of_runIn (exec_handoverDrainDone s b) hb ?_
    rw [hdrain]
    exact ⟨h1, h2, h3, h4, h5⟩
  · intro s b hb hst htarget
    have hscrub : s.fresh.scrubDone b = (s.fresh.bankZero b).handoverDone b := by
      rw [State.scrubDone, State.reg_fresh_all, if_pos hst]
    obtain ⟨hin, hout⟩ := s.fresh.bankZero_bank b
    obtain ⟨h1, h2, h3, h4, h5⟩ := State.handoverDone_keeps (s := s.fresh.bankZero b) hb htarget
    refine runs_of_runIn (exec_handoverScrubDone s b) hb ?_
    rw [hscrub, State.withQueue_mem, h3]
    exact ⟨h1, h2, hin, hout, h4, h5⟩
  · intro s hon hclear
    exact runs_of_run (exec_bankClearDone s) (State.clearDone_tells (s := s.fresh) hon hclear)
  · intro s b w hb hmem
    exact runs_of_runIn (exec_eccWriteBack s b w) hb (State.writeBack_tells (s := s.fresh) hmem)

end Sys2Proof.Machine

/-! DDR4 (O25): training, zero-fill, long skew, patrol and the retraining of a channel. -/

namespace Sys2Proof.Machine

/-! ### The disturbance of a unit -/

/-- What disturbance `f` of the unit at offset `8 * u` turns in the byte at `a`. -/
def turnedByte (u f a : Nat) : Nat := if a / 8 = u then f / 2 ^ (8 * (7 - a % 8)) % 256 else 0

theorem disturb_get (m : SMap Nat) (u f a : Nat) :
    SMap.get 0 (disturb 0 m (8 * u) f) a = SMap.get 0 m a ^^^ turnedByte u f a := by
  have main : ∀ n b, n ≤ 8 → b = foldRange n (fun m i =>
      let x := f / 2 ^ (8 * (7 - i)) % 256
      if x = 0 then m else SMap.set 0 m (8 * u / 8 * 8 + i) (SMap.get 0 m (8 * u / 8 * 8 + i) ^^^ x)) m →
      SMap.get 0 b a = SMap.get 0 m a ^^^ if a % 8 < n then turnedByte u f a else 0 := by
    intro n
    induction n with
    | zero => rintro b - rfl; simp
    | succ n ih =>
      rintro b hn rfl
      have ih' := ih _ (by omega) rfl
      rw [foldRange_succ]
      generalize foldRange n _ m = c at ih' ⊢
      dsimp only
      have hbase : 8 * u / 8 * 8 = 8 * u := by omega
      rw [hbase]
      by_cases ha : a = 8 * u + n
      · have hmod : a % 8 = n := by omega
        have hdiv : a / 8 = u := by omega
        rw [if_pos (show a % 8 < n + 1 by omega), turnedByte, if_pos hdiv, hmod]
        rw [if_neg (by omega), Nat.xor_zero] at ih'
        split_ifs with h0
        · rw [ih', h0, Nat.xor_zero]
        · rw [← ha, SMap.get_set_self, ih']
      · have hstep : SMap.get 0 (if f / 2 ^ (8 * (7 - n)) % 256 = 0 then c else
            SMap.set 0 c (8 * u + n) (SMap.get 0 c (8 * u + n) ^^^ f / 2 ^ (8 * (7 - n)) % 256)) a = SMap.get 0 c a := by
          split_ifs
          exacts [rfl, SMap.get_set_ne _ _ _ _ ha]
        rw [hstep, ih']
        by_cases hlt : a % 8 < n
        · rw [if_pos hlt, if_pos (by omega)]
        · rw [if_neg hlt]
          split_ifs
          · rw [turnedByte, if_neg (by omega)]
          · rfl
  rw [disturb, main 8 _ le_rfl rfl, if_pos (Nat.mod_lt _ (by decide))]

/-- The code's 8 bits lie above those that a disturbance turns in the data. -/
theorem dataByte_mod (f i : Nat) : f % 2 ^ 72 / 2 ^ (8 * (7 - i)) % 256 = f / 2 ^ (8 * (7 - i)) % 256 := by
  refine Nat.eq_of_testBit_eq fun j => ?_
  rw [show 256 = 2 ^ 8 from rfl, Nat.testBit_mod_two_pow, Nat.testBit_mod_two_pow, Nat.testBit_div_two_pow,
    Nat.testBit_div_two_pow, Nat.testBit_mod_two_pow]
  by_cases hj : j < 8
  · rw [decide_eq_true (show j + 8 * (7 - i) < 72 by omega), Bool.true_and]
  · simp [hj]

theorem turnedByte_mod (u f a : Nat) : turnedByte u (f % 2 ^ 72) a = turnedByte u f a := by
  rw [turnedByte, turnedByte, dataByte_mod]

/-- A disturbance of none of the 72 bits changes nothing. -/
theorem disturb_none (m : SMap Nat) (o : Nat) {f : Nat} (hf : f % 2 ^ 72 = 0) : disturb 0 m o f = m :=
  foldRange_keeps (fun b => b = m) _ _ _ rfl fun b i hb => by
    have hx : f / 2 ^ (8 * (7 - i)) % 256 = 0 := by rw [← dataByte_mod, hf, Nat.zero_div]
    simp only [hx, if_true, hb]

/-- A disturbance turns the unit in which its offset lies. -/
theorem disturb_unit (m : SMap Nat) (o f : Nat) : disturb 0 m (8 * (o / 8)) f = disturb 0 m o f := by
  rw [disturb, show 8 * (o / 8) / 8 * 8 = o / 8 * 8 by omega]
  rfl

theorem popCount_mod (f : Nat) : popCount 72 (f % 2 ^ 72) = popCount 72 f := by
  have main : ∀ n, n ≤ 72 → foldRange n (fun a i => a + b2n ((f % 2 ^ 72).testBit i)) 0 =
      foldRange n (fun a i => a + b2n (f.testBit i)) 0 := by
    intro n
    induction n with
    | zero => intro _; rfl
    | succ n ih =>
      intro hn
      rw [foldRange_succ, foldRange_succ, ih (by omega), Nat.testBit_mod_two_pow,
        decide_eq_true (by omega : n < 72), Bool.true_and]
  exact main 72 le_rfl

theorem flips_mod (f : Nat) : flips (f % 2 ^ 72) = flips f := popCount_mod f

theorem mod_eq_zero_of_flips {f : Nat} (hf : flips f = 0) : f % 2 ^ 72 = 0 := by
  have main : ∀ n, foldRange n (fun a i => a + b2n (f.testBit i)) 0 = 0 → ∀ i < n, f.testBit i = false := by
    intro n
    induction n with
    | zero => intro _ i hi; omega
    | succ n ih =>
      intro h i hi
      rw [foldRange_succ, Nat.add_eq_zero_iff] at h
      obtain ⟨hlow, htop⟩ := h
      rcases Nat.lt_succ_iff_lt_or_eq.mp hi with hlt | rfl
      · exact ih hlow i hlt
      · cases hbit : f.testBit i
        · rfl
        · rw [hbit] at htop; exact absurd htop (by decide)
  refine Nat.eq_of_testBit_eq fun i => ?_
  rw [Nat.testBit_mod_two_pow, Nat.zero_testBit]
  by_cases hi : i < 72
  · rw [main 72 hf i hi, Bool.and_false]
  · simp [hi]

/-- A byte turned twice by the same disturbance is as it was. -/
theorem get_disturb_disturb (m : SMap Nat) (u f a : Nat) :
    SMap.get 0 (disturb 0 (disturb 0 m (8 * u) f) (8 * u) (f % 2 ^ 72)) a = SMap.get 0 m a := by
  rw [disturb_get, disturb_get, turnedByte_mod, Nat.xor_assoc, Nat.xor_self, Nat.xor_zero]

section
variable (m bad : SMap Nat) (u f : Nat) (hgood : SMap.get 0 bad u = 0)
include hgood

theorem unitRead_clean (hf : flips f = 0) :
    (unitRead m bad u f true).m = m ∧ (unitRead m bad u f true).wrong = 0 := by
  have hmod := mod_eq_zero_of_flips hf
  have hp : SMap.get 0 bad u ^^^ f % 2 ^ 72 = 0 := by rw [hgood, hmod]; rfl
  have h0 : flips 0 = 0 := by decide
  simp only [unitRead, hp, h0, decide_true, Bool.true_or, if_true, disturb_none m _ hmod,
    disturb_none m _ (Nat.zero_mod _), and_self]

/-- One wrong bit is corrected in the array. -/
theorem unitRead_corrected (hf : flips f = 1) :
    (unitRead m bad u f true).wrong = 1 ∧ ∀ a, SMap.get 0 (unitRead m bad u f true).m a = SMap.get 0 m a := by
  have hp : SMap.get 0 bad u ^^^ f % 2 ^ 72 = f % 2 ^ 72 := by rw [hgood, Nat.zero_xor]
  have hn : flips (f % 2 ^ 72) = 1 := (flips_mod f).trans hf
  simp only [unitRead, hp, hn]
  exact ⟨rfl, get_disturb_disturb m u f⟩

/-- More stay, marked as wrong. -/
theorem unitRead_uncorrectable (hf : 2 ≤ flips f) :
    (unitRead m bad u f true).wrong = flips f ∧ (unitRead m bad u f true).m = disturb 0 m (8 * u) f ∧
      (unitRead m bad u f true).bad = SMap.set 0 bad u (f % 2 ^ 72) := by
  have hp : SMap.get 0 bad u ^^^ f % 2 ^ 72 = f % 2 ^ 72 := by rw [hgood, Nat.zero_xor]
  have hno : (flips f = 0 || (flips f = 1 && true)) = false := by
    simp only [Bool.or_eq_false_iff, decide_eq_false_iff_not, Bool.and_eq_false_iff]
    omega
  simp only [unitRead, hp, flips_mod, hno, Bool.false_eq_true, if_false, and_self]

end

/-- The state of a line is set. -/
def State.lineAt (s : State) (a st : Nat) : State :=
  let s := s.setReg O.groupLineState a st
  let c := (s.line a).ctx
  if st = 2 then s.setCtx c { s.ctx c with hadAligned := true } else s

theorem State.lineState_eq (s : State) (a st : Nat) : s.lineState a st =
    if (s.reg O.groupLineState a = 2) ≠ (st = 2) then
      ((s.lineAt a st).setOct O.groupLineChanged (a / 1280) 160 (a % 1280) true).raise 389
    else s.lineAt a st := rfl

/-- Other memories. -/
def State.withMem (s : State) (m : MemS) : State := { s with mem := m }

/-- Another list of uncorrectable beats. -/
def MemS.withUe (m : MemS) (l : List (Nat × Nat)) : MemS := { m with ueAt := l }

/-- The uncorrectable beats of the last second. -/
def State.ueNoted (s : State) (c : Nat) : State :=
  s.withMem (s.mem.withUe (((c, s.tick) :: s.mem.ueAt).filter fun x => s.tick < x.2 + secTicks 1))

/-- An error of DDR4 is counted. -/
def State.ddrCounted (s : State) (off : Nat) (bad : Bool) : State :=
  let c := off / 256 % 4
  if bad then (((s.ueNoted c).bump O.memDdrUe c 32).raise 455)
  else (s.bump O.memDdrCe c 32).raiseLim 454 c (msTicks 1)

theorem State.ddrCounted_bad (s : State) (off : Nat) : s.ddrCounted off true =
    ((s.ueNoted (off / 256 % 4)).bump O.memDdrUe (off / 256 % 4) 32).raise 455 := rfl

theorem State.ddrCounted_good (s : State) (off : Nat) : s.ddrCounted off false =
    (s.bump O.memDdrCe (off / 256 % 4) 32).raiseLim 454 (off / 256 % 4) (msTicks 1) := by
  simp only [State.ddrCounted, Bool.false_eq_true, if_false]

theorem State.ueNoted_eq (s : State) (c : Nat) : ∃ l, s.ueNoted c = s.withMem (s.mem.withUe l) := ⟨_, rfl⟩

theorem State.ueNoted_keeps (s : State) (c : Nat) : (s.ueNoted c).mem.ddr = s.mem.ddr ∧
    (s.ueNoted c).mem.ddrBad = s.mem.ddrBad ∧ (s.ueNoted c).sys = s.sys ∧
    ∀ i e, (s.ueNoted c).reg i e = s.reg i e := by
  obtain ⟨l, hl⟩ := s.ueNoted_eq c
  rw [hl]
  exact ⟨rfl, rfl, rfl, fun _ _ => rfl⟩

/-- An error of DDR4 is told to the Assayer, and spoils what lies there. -/
def State.ddrTested (s : State) (off : Nat) (bad : Bool) : State :=
  let s := s.assayError 2 (resOf 6 (off / 8))
  if bad && s.inLongSkew off then s.spoil (fun l => s.lreg O.groupMedia l.ctx == 1) false else s

theorem State.ddrErr_eq (s : State) (off : Nat) (bad : Bool) : s.ddrErr off bad =
    if bad && ((s.ddrCounted off bad).ddrTested off bad).reg O.memDdrUeThr <
        (((s.ddrCounted off bad).ddrTested off bad).mem.ueAt.filter fun x => x.1 == off / 256 % 4).length &&
        ((s.ddrCounted off bad).ddrTested off bad).reg O.memDdrChState (off / 256 % 4) = 2 then
      ((s.ddrCounted off bad).ddrTested off bad).retrain (off / 256 % 4)
    else (s.ddrCounted off bad).ddrTested off bad := rfl

theorem State.ddrErr_cases (s : State) (off : Nat) (bad : Bool) {P : State → Prop}
    (h : P ((s.ddrCounted off bad).ddrTested off bad)) (hr : ∀ t c, P t → P (State.retrain t c)) :
    P (s.ddrErr off bad) := by
  rw [State.ddrErr_eq]
  split_ifs
  exacts [hr _ _ h, h]

/-! ### What errors of DDR4 keep latched -/

section
variable {s : State} {ev : Nat} (h : s.latched ev = true)
include h

theorem State.latched_raiseLim (ev' k n : Nat) : (s.raiseLim ev' k n).latched ev = true := by
  have hrate (t : State) (x : SMap Nat) : ({ t with rate := x } : State).latched ev = t.latched ev := rfl
  simp only [State.raiseLim]
  split_ifs
  · exact h
  · exact (hrate _ _).trans (State.latched_raise h _)

theorem State.latched_assayError (kind res : Nat) : (s.assayError kind res).latched ev = true := by
  have h0 : ((s.bump O.assayErrors kind 48).pathMark res).latched ev = true := by
    rwa [State.latched_see (State.pathMark_see _ _ (by simp)), State.latched_bump (by decide)]
  simp only [State.assayError]
  split_ifs
  exacts [h0, State.latched_asyEnqueue h0 _]

theorem State.latched_lineAt (a st : Nat) : (s.lineAt a st).latched ev = true := by
  have h0 : (s.setReg O.groupLineState a st).latched ev = true := (State.latched_setReg (by decide)).trans h
  simp only [State.lineAt]
  split_ifs
  exacts [h0, h0]

theorem State.latched_lineState (a st : Nat) : (s.lineState a st).latched ev = true := by
  have h0 := State.latched_lineAt h a st
  rw [State.lineState_eq]
  split_ifs
  · refine State.latched_raise ?_ _
    rwa [State.latched_setOct (by decide)]
  · exact h0

theorem State.latched_lineLost (a : Nat) (lost : Bool) : (s.lineLost a lost).latched ev = true := by
  have hline (l : LineS) : (s.setLine a l).latched ev = s.latched ev := rfl
  simp only [State.lineLost]
  exact State.latched_lineState ((hline _).trans h) a 5

theorem State.latched_ddrLinesAis : s.ddrLinesAis.latched ev = true := by
  simp only [State.ddrLinesAis]
  split_ifs
  · exact h
  · exact State.latched_raise (foldl_keeps (fun t : State => t.latched ev = true) _ _ _ h fun t x ht =>
      State.latched_lineLost ht _ _) _

theorem State.latched_setChannel (c v : Nat) : (s.setChannel c v).latched ev = true := by
  simp only [State.setChannel]
  split_ifs
  · exact h
  · rw [State.latched_see (State.ddrShow_see _ (by simp))]
    exact State.latched_raise ((State.latched_setReg (by decide)).trans h) _

theorem State.latched_retrain (c : Nat) : (s.retrain c).latched ev = true := by
  simp only [State.retrain]
  split_ifs
  · exact h
  · have hmem (m : MemS) : ({ s with mem := m } : State).latched ev = s.latched ev := rfl
    exact State.latched_ddrLinesAis (State.latched_setChannel ((hmem _).trans h) _ _)

theorem State.latched_ddrTested (off : Nat) (bad : Bool) : (s.ddrTested off bad).latched ev = true := by
  have h0 := State.latched_assayError h 2 (resOf 6 (off / 8))
  simp only [State.ddrTested]
  split_ifs
  · rwa [State.latched_see (State.spoil_see _ _ _ (by simp))]
  · exact h0

end

/-! ### What an error of DDR4 leaves (R347) -/

section
variable (s : State) (off : Nat) (bad : Bool)

theorem State.retrain_ddr (c : Nat) : (s.retrain c).mem.ddr = s.mem.ddr ∧ (s.retrain c).mem.ddrBad = s.mem.ddrBad := by
  have hlines (t : State) : t.ddrLinesAis.mem = t.mem := State.ddrLinesAis_see (z := .part .mem) t (by simp)
  have hset (t : State) (c v : Nat) : (t.setChannel c v).mem = t.mem := State.setChannel_see (z := .part .mem) t c v (by simp)
  simp only [State.retrain]
  split_ifs
  · exact ⟨rfl, rfl⟩
  · rw [hlines, hset]
    exact ⟨rfl, rfl⟩

theorem State.ddrTested_mem : (s.ddrTested off bad).mem = s.mem := by
  have hassay : (s.assayError 2 (resOf 6 (off / 8))).mem = s.mem := State.assayError_see (z := .part .mem) _ _ _ (by simp)
  simp only [State.ddrTested]
  split_ifs
  · exact (State.spoil_see (z := .part .mem) _ _ _ (by simp)).trans hassay
  · exact hassay

theorem State.ddrCounted_ddr :
    (s.ddrCounted off bad).mem.ddr = s.mem.ddr ∧ (s.ddrCounted off bad).mem.ddrBad = s.mem.ddrBad := by
  have hbump (t : State) (i e : Nat) : (t.bump i e 32).mem = t.mem := rfl
  obtain ⟨hddr, hbad, -, -⟩ := s.ueNoted_keeps (off / 256 % 4)
  cases bad
  · rw [State.ddrCounted_good, State.raiseLim_mem, hbump]
    exact ⟨rfl, rfl⟩
  · rw [State.ddrCounted_bad, State.raise_mem, hbump]
    exact ⟨hddr, hbad⟩

theorem State.ddrErr_ddr : (s.ddrErr off bad).mem.ddr = s.mem.ddr ∧ (s.ddrErr off bad).mem.ddrBad = s.mem.ddrBad := by
  refine s.ddrErr_cases off bad (P := fun t => t.mem.ddr = s.mem.ddr ∧ t.mem.ddrBad = s.mem.ddrBad) ?_ fun t c ht => ?_
  · rw [State.ddrTested_mem]
    exact s.ddrCounted_ddr off bad
  · exact ⟨(t.retrain_ddr c).1.trans ht.1, (t.retrain_ddr c).2.trans ht.2⟩

theorem State.ddrErr_reg {i : Nat} (h : i = O.memDdrUe ∨ i = O.memDdrCe) (e : Nat) :
    (s.ddrErr off bad).reg i e = (s.ddrCounted off bad).reg i e := by
  refine s.ddrErr_cases off bad (P := fun t => t.reg i e = (s.ddrCounted off bad).reg i e) ?_ fun t c ht => ?_
  · have hassay (t : State) : (t.assayError 2 (resOf 6 (off / 8))).reg i e = t.reg i e := by
      rcases h with rfl | rfl <;> rw [reg_see, State.assayError_see _ _ _ (by simp), ← reg_see]
    simp only [State.ddrTested]
    split_ifs
    · rw [reg_see, State.spoil_see _ _ _ (by rcases h with rfl | rfl <;> simp), ← reg_see, hassay]
    · exact hassay _
  · rw [← ht]
    rcases h with rfl | rfl <;> rw [reg_see, State.retrain_see _ _ (by simp), ← reg_see]

theorem State.ddrErr_counts_ue (hon : s.sys.fabOn = true) :
    (s.ddrErr off true).reg O.memDdrUe (off / 256 % 4) = (s.reg O.memDdrUe (off / 256 % 4) + 1) % 2 ^ 32 ∧
      (s.ddrErr off true).latched 455 = true := by
  obtain ⟨-, -, hsys, hreg⟩ := s.ueNoted_keeps (off / 256 % 4)
  refine ⟨?_, ?_⟩
  · rw [State.ddrErr_reg _ _ _ (.inl rfl), State.ddrCounted_bad, State.raise_reg _ (by decide), State.bump,
      State.reg_setReg_self, hreg]
  · refine s.ddrErr_cases off true (P := fun t => t.latched 455 = true) ?_ fun t c ht => State.latched_retrain ht c
    refine State.latched_ddrTested ?_ off true
    rw [State.ddrCounted_bad]
    generalize s.ueNoted (off / 256 % 4) = u at hsys
    refine State.latched_raise_self (.inr ?_)
    rw [State.bump, State.setReg_sys, hsys, hon]

theorem State.ddrErr_counts_ce :
    (s.ddrErr off false).reg O.memDdrCe (off / 256 % 4) = (s.reg O.memDdrCe (off / 256 % 4) + 1) % 2 ^ 32 := by
  rw [State.ddrErr_reg _ _ _ (.inr rfl), State.ddrCounted_good, reg_see,
    State.raiseLim_see _ _ _ _ (by simp), ← reg_see, State.bump, State.reg_setReg_self]

end

/-! ### The patrol (R347) -/

section
variable (s : State) (f : Nat)

/-- The patrol's next beat is due at tick `next`. -/
def State.patrolTimed (next : Nat) : State := s.withMem { s.mem with patrolNext := next }

/-- The beat at offset `o` has been read, unless its channel does not serve or a test has the beat. -/
def State.patrolRead (o : Nat) : State :=
  if s.reg O.memDdrChState (o / 256 % 4) ≠ 2 || s.underTest (resOf 6 (o / 8)) then s else (s.ddrBeat (o / 8) f true).1

/-- The patrol stands at offset `o`. -/
def State.patrolAt (o : Nat) : State := s.withMem { s.mem with patrol := o }

/-- The patrol reads its beat, and its next beat is due at tick `next`. -/
def State.patrolStep (next : Nat) : State :=
  let size := s.reg O.memDdrSize * 2 ^ 30
  let o := s.mem.patrol
  let c := o / 256 % 4
  let s := { s with mem := { s.mem with patrolNext := next } }
  let s := if s.reg O.memDdrChState c ≠ 2 || s.underTest (resOf 6 (o / 8)) then s
    else (s.ddrBeat (o / 8) f true).1
  let n := o + 8
  let s := s.tally 79 1
  let s := { s with mem := { s.mem with patrol := if size ≤ n then 0 else n } }
  if size ≤ n then (s.bump O.memDdrScrubPasses 0 32).raise 458 else s

theorem State.patrolBeat_eq : s.patrolBeat f =
    if !s.sys.fabOn || !s.background 3 || s.mem.filling || s.reg O.memDdrSize * 2 ^ 30 = 0 ||
      s.reg O.memDdrState < 3 || s.tick < s.mem.patrolNext then s
    else s.patrolStep f (s.tick + secTicks (3600 * s.reg O.memDdrScrubPeriod) * 8 / (s.reg O.memDdrSize * 2 ^ 30)) := by
  unfold State.patrolBeat State.patrolStep
  rfl

theorem State.patrolStep_eq (next : Nat) : s.patrolStep f next =
    if s.reg O.memDdrSize * 2 ^ 30 ≤ s.mem.patrol + 8 then
      (((((s.patrolTimed next).patrolRead f s.mem.patrol).tally 79 1).patrolAt 0).bump O.memDdrScrubPasses 0 32).raise 458
    else (((s.patrolTimed next).patrolRead f s.mem.patrol).tally 79 1).patrolAt (s.mem.patrol + 8) := by
  unfold State.patrolStep
  extract_lets size o c u v w n m x y
  by_cases hn : size ≤ n
  · have hy : y = m.patrolAt 0 := by simp only [y, if_pos hn]; rfl
    rw [if_pos hn, if_pos hn, hy]
    rfl
  · have hy : y = m.patrolAt n := by simp only [y, if_neg hn]; rfl
    rw [if_neg hn, if_neg hn, hy]
    rfl

theorem State.patrolBeat_goes {s : State} {f : Nat} (hon : s.sys.fabOn = true) (hback : s.background 3 = true)
    (hfill : s.mem.filling = false) (hsize : 0 < s.reg O.memDdrSize) (hst : 3 ≤ s.reg O.memDdrState)
    (hdue : s.mem.patrolNext ≤ s.tick) : ∃ next, s.patrolBeat f = s.patrolStep f next := by
  have hgo : ¬ (!s.sys.fabOn || !s.background 3 || s.mem.filling || s.reg O.memDdrSize * 2 ^ 30 = 0 ||
      s.reg O.memDdrState < 3 || s.tick < s.mem.patrolNext) = true := by
    simp [hon, hback, hfill]
    omega
  exact ⟨_, (s.patrolBeat_eq f).trans (if_neg hgo)⟩

end

/-! ### What the patrol's read leaves -/

section
variable {s : State} {f o : Nat} (hgood : SMap.get 0 s.mem.ddrBad (o / 8) = 0)
include hgood

theorem State.patrolRead_clean (hf : flips f = 0) : (s.patrolRead f o).mem.ddr = s.mem.ddr ∧
    (s.patrolRead f o).sys = s.sys ∧ ∀ i e, (s.patrolRead f o).reg i e = s.reg i e := by
  obtain ⟨hm, hwrong⟩ := unitRead_clean s.mem.ddr s.mem.ddrBad (o / 8) f hgood hf
  have hbeat : (s.ddrBeat (o / 8) f true).1 =
      s.withMem { s.mem with
        ddr := (unitRead s.mem.ddr s.mem.ddrBad (o / 8) f true).m
        ddrBad := (unitRead s.mem.ddr s.mem.ddrBad (o / 8) f true).bad } := if_pos hwrong
  simp only [State.patrolRead]
  split_ifs
  · exact ⟨rfl, rfl, fun _ _ => rfl⟩
  · rw [hbeat]
    exact ⟨hm, rfl, fun _ _ => rfl⟩

variable (hch : s.reg O.memDdrChState (o / 256 % 4) = 2) (htest : s.underTest (resOf 6 (o / 8)) = false)
include hch htest

omit hgood in
theorem State.patrolRead_wrong (hf : flips f ≠ 0) (hw : (unitRead s.mem.ddr s.mem.ddrBad (o / 8) f true).wrong = flips f) :
    s.patrolRead f o = (s.withMem { s.mem with
        ddr := (unitRead s.mem.ddr s.mem.ddrBad (o / 8) f true).m
        ddrBad := (unitRead s.mem.ddr s.mem.ddrBad (o / 8) f true).bad }).ddrErr (8 * (o / 8)) (decide (1 < flips f)) := by
  rw [State.patrolRead, if_neg (by simp [hch, htest])]
  have hne : (unitRead s.mem.ddr s.mem.ddrBad (o / 8) f true).wrong ≠ 0 := fun c => hf (hw.symm.trans c)
  refine (if_neg hne).trans ?_
  rw [hw]
  rfl

theorem State.patrolRead_uncorrectable (hf : 2 ≤ flips f) (hon : s.sys.fabOn = true) :
    (s.patrolRead f o).mem.ddr = disturb 0 s.mem.ddr o f ∧
      SMap.get 0 (s.patrolRead f o).mem.ddrBad (o / 8) = f % 2 ^ 72 ∧ (s.patrolRead f o).latched 455 = true ∧
      (s.patrolRead f o).reg O.memDdrUe (o / 256 % 4) = (s.reg O.memDdrUe (o / 256 % 4) + 1) % 2 ^ 32 := by
  obtain ⟨hwrong, hm, hbad⟩ := unitRead_uncorrectable s.mem.ddr s.mem.ddrBad (o / 8) f hgood hf
  rw [State.patrolRead_wrong hch htest (by omega) hwrong, hm, hbad, decide_eq_true (by omega : 1 < flips f)]
  generalize hu : s.withMem _ = u
  have hmem : u.mem.ddr = disturb 0 s.mem.ddr (8 * (o / 8)) f ∧
      u.mem.ddrBad = SMap.set 0 s.mem.ddrBad (o / 8) (f % 2 ^ 72) ∧ u.sys = s.sys ∧ ∀ i e, u.reg i e = s.reg i e := by
    rw [← hu]
    exact ⟨rfl, rfl, rfl, fun _ _ => rfl⟩
  obtain ⟨hddr, hmark, hsys, hreg⟩ := hmem
  obtain ⟨hue, hlatch⟩ := u.ddrErr_counts_ue (8 * (o / 8)) (by rwa [hsys])
  rw [show 8 * (o / 8) / 256 % 4 = o / 256 % 4 by omega, hreg] at hue
  obtain ⟨hkeep, hkeep'⟩ := u.ddrErr_ddr (8 * (o / 8)) true
  rw [hkeep, hddr, disturb_unit, hkeep', hmark, SMap.get_set_self]
  exact ⟨rfl, rfl, hlatch, hue⟩

theorem State.patrolRead_corrected (hf : flips f = 1) :
    (∀ a, SMap.get 0 (s.patrolRead f o).mem.ddr a = SMap.get 0 s.mem.ddr a) ∧
      (s.patrolRead f o).reg O.memDdrCe (o / 256 % 4) = (s.reg O.memDdrCe (o / 256 % 4) + 1) % 2 ^ 32 := by
  obtain ⟨hwrong, hm⟩ := unitRead_corrected s.mem.ddr s.mem.ddrBad (o / 8) f hgood hf
  rw [State.patrolRead_wrong hch htest (by omega) (hwrong.trans hf.symm), hf]
  generalize hu : s.withMem _ = u
  have hmem : u.mem.ddr = (unitRead s.mem.ddr s.mem.ddrBad (o / 8) f true).m ∧ ∀ i e, u.reg i e = s.reg i e := by
    rw [← hu]
    exact ⟨rfl, fun _ _ => rfl⟩
  obtain ⟨hddr, hreg⟩ := hmem
  have hce := u.ddrErr_counts_ce (8 * (o / 8))
  rw [show 8 * (o / 8) / 256 % 4 = o / 256 % 4 by omega, hreg] at hce
  have hdec : decide (1 < 1) = false := rfl
  rw [hdec, (u.ddrErr_ddr (8 * (o / 8)) false).1, hddr]
  exact ⟨hm, hce⟩

end

/-- After its read the patrol stands at the next beat, and counts a pass at the end. -/
theorem State.patrolAt_keeps (s : State) (o : Nat) : ((s.tally 79 1).patrolAt o).mem.ddr = s.mem.ddr ∧
    ((s.tally 79 1).patrolAt o).mem.ddrBad = s.mem.ddrBad ∧ ((s.tally 79 1).patrolAt o).mem.patrol = o ∧
    ((s.tally 79 1).patrolAt o).sys = s.sys ∧ (∀ ev, ((s.tally 79 1).patrolAt o).latched ev = s.latched ev) ∧
    ∀ i e, i ≠ O.tallyOvfCount → ((s.tally 79 1).patrolAt o).reg i e = s.reg i e := by
  have hmem : (s.tally 79 1).mem = s.mem := State.tally_see (z := .part .mem) s 79 1 (by simp)
  have hsys : (s.tally 79 1).sys = s.sys := State.sys_of_see (State.tally_see (z := .part .sys) s 79 1 (by simp))
  have hlatch (ev : Nat) : (s.tally 79 1).latched ev = s.latched ev := State.latched_tally 79 1
  have hreg (i e : Nat) (hi : i ≠ O.tallyOvfCount) : (s.tally 79 1).reg i e = s.reg i e := by
    rw [reg_see, State.tally_see _ _ _ (by simpa using hi), ← reg_see]
  have hddr : (s.tally 79 1).mem.ddr = s.mem.ddr := congrArg MemS.ddr hmem
  have hbad : (s.tally 79 1).mem.ddrBad = s.mem.ddrBad := congrArg MemS.ddrBad hmem
  generalize s.tally 79 1 = t at *
  exact ⟨hddr, hbad, rfl, hsys, hlatch, hreg⟩

section
variable {s : State} {f : Nat} (hon : s.sys.fabOn = true) (hback : s.background 3 = true)
  (hfill : s.mem.filling = false) (hst : 3 ≤ s.reg O.memDdrState) (hdue : s.mem.patrolNext ≤ s.tick)
  (hgood : SMap.get 0 s.mem.ddrBad (s.mem.patrol / 8) = 0)
include hon hback hfill hst hdue hgood

theorem patrolBeat_moves (hf : flips f = 0) (hlt : s.mem.patrol + 8 < s.reg O.memDdrSize * 2 ^ 30) :
    Runs (.patrolBeat f) s fun t =>
      t.mem.patrol = s.mem.patrol + 8 ∧ t.mem.ddr = s.mem.ddr ∧ OnlyRegs [O.tallyOvfCount] s t := by
  obtain ⟨next, hgo⟩ := State.patrolBeat_goes (s := s.fresh) (f := f) hon hback hfill (by rw [State.reg_fresh_all]; omega)
    hst hdue
  obtain ⟨hddr, -, hreg⟩ := State.patrolRead_clean (s := s.fresh.patrolTimed next) hgood hf
  rw [State.patrolStep_eq, if_neg (by rw [State.reg_fresh_all]; exact not_le.mpr hlt)] at hgo
  refine runs_of_run (exec_patrolBeat s f) ?_
  have hpatrol : s.fresh.mem.patrol = s.mem.patrol := rfl
  rw [hgo, hpatrol]
  generalize (s.fresh.patrolTimed next).patrolRead f s.mem.patrol = u at *
  obtain ⟨h1, -, h2, -, -, h3⟩ := u.patrolAt_keeps (s.mem.patrol + 8)
  refine ⟨h2, h1.trans hddr, fun i e hev hne => (h3 i e (by simpa using hne)).trans (hreg i e)⟩

theorem patrolBeat_passes (hf : flips f = 0) (hge : s.reg O.memDdrSize * 2 ^ 30 ≤ s.mem.patrol + 8)
    (hsize : 0 < s.reg O.memDdrSize) :
    Runs (.patrolBeat f) s fun t =>
      t.mem.patrol = 0 ∧ t.mem.ddr = s.mem.ddr ∧ t.latched 458 = true ∧
      t.reg O.memDdrScrubPasses = (s.reg O.memDdrScrubPasses + 1) % 2 ^ 32 ∧
      OnlyRegs [O.tallyOvfCount, O.memDdrScrubPasses] s t := by
  obtain ⟨next, hgo⟩ := State.patrolBeat_goes (s := s.fresh) (f := f) hon hback hfill hsize hst hdue
  obtain ⟨hddr, hsys, hreg⟩ := State.patrolRead_clean (s := s.fresh.patrolTimed next) hgood hf
  rw [State.patrolStep_eq, if_pos (by rw [State.reg_fresh_all]; exact hge)] at hgo
  refine runs_of_run (exec_patrolBeat s f) ?_
  have hpatrol : s.fresh.mem.patrol = s.mem.patrol := rfl
  rw [hgo, hpatrol]
  generalize (s.fresh.patrolTimed next).patrolRead f s.mem.patrol = u at *
  obtain ⟨h1, -, h2, h4, -, h3⟩ := u.patrolAt_keeps 0
  generalize (u.tally 79 1).patrolAt 0 = w at *
  have hmem (t : State) (i e : Nat) : (t.bump i e 32).mem = t.mem := rfl
  have hon' : (w.bump O.memDdrScrubPasses 0 32).sys.fabOn = true := by
    rw [State.bump, State.setReg_sys, h4, hsys]
    exact hon
  rw [State.withQueue_mem, State.raise_mem, hmem, State.latched_withQueue]
  refine ⟨h2, h1.trans hddr, State.latched_raise_self (.inr hon'), ?_, fun i e hev hne => ?_⟩
  · rw [State.reg_withQueue_all, State.raise_reg _ (by decide), State.bump, State.reg_setReg_self, h3 _ _ (by decide), hreg]
    rfl
  · obtain ⟨hne1, hne2⟩ : i ≠ O.tallyOvfCount ∧ i ≠ O.memDdrScrubPasses := by simpa using hne
    rw [State.reg_withQueue_all, State.raise_reg _ hev, State.bump, State.reg_setReg_obj _ hne2, h3 _ _ hne1, hreg]
    rfl

variable (hlt : s.mem.patrol + 8 < s.reg O.memDdrSize * 2 ^ 30)
  (hch : s.reg O.memDdrChState (s.mem.patrol / 256 % 4) = 2)
  (htest : s.underTest (resOf 6 (s.mem.patrol / 8)) = false)
include hlt hch htest

theorem patrolBeat_uncorrectable (hf : 2 ≤ flips f) :
    Runs (.patrolBeat f) s fun t =>
      t.mem.patrol = s.mem.patrol + 8 ∧ t.mem.ddr = disturb 0 s.mem.ddr s.mem.patrol f ∧
      SMap.get 0 t.mem.ddrBad (s.mem.patrol / 8) = f % 2 ^ 72 ∧ t.latched 455 = true ∧
      t.reg O.memDdrUe (s.mem.patrol / 256 % 4) = (s.reg O.memDdrUe (s.mem.patrol / 256 % 4) + 1) % 2 ^ 32 := by
  obtain ⟨next, hgo⟩ := State.patrolBeat_goes (s := s.fresh) (f := f) hon hback hfill (by rw [State.reg_fresh_all]; omega)
    hst hdue
  obtain ⟨hddr, hbad, hlatch, hue⟩ := State.patrolRead_uncorrectable (s := s.fresh.patrolTimed next) hgood hch htest hf hon
  rw [State.patrolStep_eq, if_neg (by rw [State.reg_fresh_all]; exact not_le.mpr hlt)] at hgo
  refine runs_of_run (exec_patrolBeat s f) ?_
  have hpatrol : s.fresh.mem.patrol = s.mem.patrol := rfl
  rw [hgo, hpatrol]
  generalize (s.fresh.patrolTimed next).patrolRead f s.mem.patrol = u at *
  obtain ⟨h1, h5, h2, -, h4, h3⟩ := u.patrolAt_keeps (s.mem.patrol + 8)
  rw [State.withQueue_mem, h1, h5, State.latched_withQueue, h4, State.reg_withQueue_all, h3 _ _ (by decide)]
  exact ⟨h2, hddr, hbad, hlatch, hue⟩

theorem patrolBeat_corrected (hf : flips f = 1) :
    Runs (.patrolBeat f) s fun t =>
      t.mem.patrol = s.mem.patrol + 8 ∧ (∀ a, SMap.get 0 t.mem.ddr a = SMap.get 0 s.mem.ddr a) ∧
      t.reg O.memDdrCe (s.mem.patrol / 256 % 4) = (s.reg O.memDdrCe (s.mem.patrol / 256 % 4) + 1) % 2 ^ 32 := by
  obtain ⟨next, hgo⟩ := State.patrolBeat_goes (s := s.fresh) (f := f) hon hback hfill (by rw [State.reg_fresh_all]; omega)
    hst hdue
  obtain ⟨hddr, hce⟩ := State.patrolRead_corrected (s := s.fresh.patrolTimed next) hgood hch htest hf
  rw [State.patrolStep_eq, if_neg (by rw [State.reg_fresh_all]; exact not_le.mpr hlt)] at hgo
  refine runs_of_run (exec_patrolBeat s f) ?_
  have hpatrol : s.fresh.mem.patrol = s.mem.patrol := rfl
  rw [hgo, hpatrol]
  generalize (s.fresh.patrolTimed next).patrolRead f s.mem.patrol = u at *
  obtain ⟨h1, -, h2, -, -, h3⟩ := u.patrolAt_keeps (s.mem.patrol + 8)
  rw [State.withQueue_mem, h1, State.reg_withQueue_all, h3 _ _ (by decide)]
  exact ⟨h2, hddr, hce⟩

end

/-! ### Training, fill and long skew (R345, R346) -/

section
variable (s : State)

/-- MEM.DDR_STATE as the channels and the fill give it. -/
theorem State.ddrShow_state : s.ddrShow.reg O.memDdrState =
    if s.reg O.memDdrState = 0 then 0
    else if ((List.range 4).map fun c => s.reg O.memDdrChState c).contains 1 then 1
    else if ((List.range 4).map fun c => s.reg O.memDdrChState c).contains 4 || (s.reg O.memDdrState == 4 &&
      ((List.range 4).map fun c => s.reg O.memDdrChState c).any (· != 2)) then 4
    else if s.mem.filling then 2 else 3 := State.reg_setReg_self _ _ _ _

theorem State.ddrShow_state_ne (h : s.reg O.memDdrState ≠ 0) : s.ddrShow.reg O.memDdrState ≠ 0 := by
  rw [State.ddrShow_state, if_neg h]
  split_ifs <;> decide

theorem State.setChannel_state_ne (c v : Nat) (h : s.reg O.memDdrState ≠ 0) :
    (s.setChannel c v).reg O.memDdrState ≠ 0 := by
  simp only [State.setChannel]
  split_ifs
  · exact h
  · refine State.ddrShow_state_ne _ ?_
    rwa [State.raise_reg _ (by decide), State.reg_setReg_obj _ (by decide)]

theorem State.setChannel_mem (c v : Nat) : (s.setChannel c v).mem = s.mem :=
  State.setChannel_see (z := .part .mem) s c v (by simp)

theorem State.ddrShow_mem : s.ddrShow.mem = s.mem := State.ddrShow_see (z := .part .mem) s (by simp)

/-- Channels that serve or have failed give FAULT where one has failed. -/
theorem trainedState (l : List Nat) (b : Bool) :
    (if ((List.range 4).map fun c => if l.contains c then 4 else 2).contains 1 then 1
      else if ((List.range 4).map fun c => if l.contains c then 4 else 2).contains 4 ||
        (b && ((List.range 4).map fun c => if l.contains c then 4 else 2).any (· != 2)) then 4
      else if true then 2 else 3) = if l.any fun c => decide (c < 4) then 4 else 2 := by
  have hone : ((List.range 4).map fun c => if l.contains c then 4 else 2).contains 1 = false := by
    simp only [List.contains_eq_mem, List.mem_map, List.mem_range, decide_eq_false_iff_not, not_exists, not_and]
    intro c _
    split_ifs <;> decide
  by_cases hany : ∃ c ∈ l, c < 4
  · have hfour : ((List.range 4).map fun c => if l.contains c then 4 else 2).contains 4 = true := by
      obtain ⟨c, hc, hlt⟩ := hany
      exact List.contains_iff_mem.mpr (List.mem_map.mpr ⟨c, List.mem_range.mpr hlt, if_pos (List.contains_iff_mem.mpr hc)⟩)
    have hany' : (l.any fun c => decide (c < 4)) = true := by simpa using hany
    rw [hone, hfour, hany']
    rfl
  · have htwo : ((List.range 4).map fun c => if l.contains c then 4 else 2) = (List.range 4).map fun _ => 2 :=
      List.map_congr_left fun c hc => if_neg fun h =>
        hany ⟨c, List.contains_iff_mem.mp h, List.mem_range.mp hc⟩
    have hany' : (l.any fun c => decide (c < 4)) = false := by simpa using hany
    rw [hany', htwo]
    cases b <;> rfl

/-- The channels serve, but those that have failed. -/
def State.channelsTrained (l : List Nat) : State :=
  (foldRange 4 (fun s c => s.setChannel c (if l.contains c then 4 else 2)) s).ddrShow

theorem State.channelsTrained_tells (l : List Nat) (h : s.reg O.memDdrState ≠ 0) (hfill : s.mem.filling = true) :
    (∀ c < 4, (s.channelsTrained l).reg O.memDdrChState c = if c ∈ l then 4 else 2) ∧
      (s.channelsTrained l).reg O.memDdrState = (if l.any fun c => decide (c < 4) then 4 else 2) ∧
      (s.channelsTrained l).mem = s.mem := by
  have hch := foldRange_setChannel s fun c => if l.contains c then 4 else 2
  have hst : (foldRange 4 (fun s c => s.setChannel c (if l.contains c then 4 else 2)) s).reg O.memDdrState ≠ 0 :=
    foldRange_keeps (fun t : State => t.reg O.memDdrState ≠ 0) _ _ _ h fun t c ht => t.setChannel_state_ne c _ ht
  have hmem : (foldRange 4 (fun s c => s.setChannel c (if l.contains c then 4 else 2)) s).mem = s.mem :=
    foldRange_same State.mem _ _ _ fun t c => t.setChannel_mem c _
  rw [State.channelsTrained]
  generalize foldRange 4 (fun s c => s.setChannel c (if l.contains c then 4 else 2)) s = t at *
  refine ⟨fun c hc => ?_, ?_, (State.ddrShow_mem t).trans hmem⟩
  · rw [reg_see, State.ddrShow_see _ (by simp), ← reg_see, hch c hc]
    simp
  · have hmap : ((List.range 4).map fun c => t.reg O.memDdrChState c) =
        (List.range 4).map fun c => if l.contains c then 4 else 2 :=
      List.map_congr_left fun c hc => hch c (List.mem_range.mp hc)
    rw [State.ddrShow_state, if_neg hst, hmap, hmem, hfill]
    exact trainedState l _

end

/-- Training has given the size and starts the zero-fill. -/
def State.ddrSized (s : State) (gib : Nat) : State :=
  let s := { s with mem := { s.mem with filling := true, filled := 0, ddr := [], ddrBad := [], patrol := 0 } }
  (s.setReg O.memDdrSize 0 gib).setReg O.memDdrFillLeft 0 (gib * 1024)

theorem State.ddrSized_tells (s : State) (gib : Nat) : (s.ddrSized gib).mem.filling = true ∧
    (s.ddrSized gib).reg O.memDdrSize = gib ∧ (s.ddrSized gib).reg O.memDdrFillLeft = gib * 1024 ∧
    (s.ddrSized gib).reg O.memDdrState = s.reg O.memDdrState := by
  refine ⟨rfl, ?_, ?_, ?_⟩
  · rw [State.ddrSized, State.reg_setReg_obj _ (by decide), State.reg_setReg_self]
  · rw [State.ddrSized, State.reg_setReg_self]
  · rw [State.ddrSized, State.reg_setReg_obj _ (by decide), State.reg_setReg_obj _ (by decide)]
    rfl

theorem State.ddrTrained_eq {s : State} {gib : Nat} (hon : s.sys.fabOn = true) (hst : s.reg O.memDdrState = 1)
    (hgib : gib = 8 ∨ gib = 16 ∨ gib = 32 ∨ gib = 64) (l : List Nat) :
    s.ddrTrained gib l = (s.ddrSized gib).channelsTrained l := by
  rw [State.ddrTrained, if_pos (by simp [hon, hst]; omega)]
  rfl

theorem State.channelsTrained_see (s : State) (l : List Nat) {i : Nat} (e : Nat) (hev : evObj i = false)
    (h1 : i ≠ O.memDdrChState) (h2 : i ≠ O.memDdrState) : (s.channelsTrained l).reg i e = s.reg i e := by
  obtain ⟨e1, e2, e3, e4⟩ := evObj_ne hev
  rw [State.channelsTrained, reg_see, State.ddrShow_see _ (by simp [h2]),
    foldRange_see _ _ _ fun t c => State.setChannel_see t c _ (by simp [e1, e2, e3, e4, h1, h2]), ← reg_see]

theorem ddrTraining_done {s : State} {gib : Nat} {l : List Nat} (hon : s.sys.fabOn = true)
    (hst : s.reg O.memDdrState = 1) (hgib : gib = 8 ∨ gib = 16 ∨ gib = 32 ∨ gib = 64) :
    Runs (.ddrTrainingDone gib l) s fun t =>
      t.reg O.memDdrSize = gib ∧ t.reg O.memDdrFillLeft = gib * 1024 ∧
      (∀ c < 4, t.reg O.memDdrChState c = if c ∈ l then 4 else 2) ∧
      t.reg O.memDdrState = (if l.any fun c => decide (c < 4) then 4 else 2) ∧ t.mem.filling = true := by
  obtain ⟨hfill, hsize, hleft, hkeep⟩ := s.fresh.ddrSized_tells gib
  rw [State.reg_fresh_all, hst] at hkeep
  have hgo := State.ddrTrained_eq (s := s.fresh) hon hst hgib l
  generalize s.fresh.ddrSized gib = w at *
  obtain ⟨hch, hstate, hmem⟩ := State.channelsTrained_tells w l (by rw [hkeep]; decide) hfill
  refine runs_of_run (exec_ddrTrainingDone s gib l) ?_
  simp only [State.reg_withQueue_all, State.withQueue_mem]
  rw [hgo, hmem, State.channelsTrained_see _ _ _ (by decide) (by decide) (by decide), hsize,
    State.channelsTrained_see _ _ _ (by decide) (by decide) (by decide), hleft]
  exact ⟨rfl, rfl, hch, hstate, hfill⟩

/-! ### The start of a commit (R160) -/

/-- The commit state of a commit that starts. -/
def State.commitMap (s t : State) (origin mode f h : Nat) : MapS :=
  let n := if origin = 1 || origin = 2 then 0 else s.changes.length
  let full := decide (256 < n) || s.lodeChange || s.reg O.mapRecompute == 1 || origin == 1
  { t.map with f := f, full := full, loaded := false, origin := origin, mode := mode, holder := h,
               time := ofTime (t.reg O.mapCommitTime), resolve := false, lodeDue := false, busy := 0 }

/-- A commit solves. -/
def State.mapAsked (s : State) (m : MapS) : State := (({ s with map := m }).setReg O.mapState 0 1).openBanks 4

theorem State.commitStart_eq (s : State) (origin mode f h : Nat) : s.commitStart origin mode f h =
    (if h = 0xFF then s else s.actStart 0 h).mapAsked
      (s.commitMap (if h = 0xFF then s else s.actStart 0 h) origin mode f h) := by
  simp only [State.commitStart, State.mapAsked, State.commitMap]

/-! ### Long skew (R346) -/

section
variable (s : State)

theorem State.setLs_state (v : Nat) : (s.setLs v).reg O.memDdrLsState = v := by
  simp only [State.setLs]
  split_ifs with h
  · exact h
  · rw [State.raise_reg _ (by decide), State.reg_setReg_self]

theorem State.setLs_mem (v : Nat) : (s.setLs v).mem = s.mem := State.setLs_see (z := .part .mem) s v (by simp)

theorem State.commitStart_ddr (origin mode f h : Nat) : (s.commitStart origin mode f h).mem.ddr = s.mem.ddr ∧
    (s.commitStart origin mode f h).mem.filling = s.mem.filling := by
  have hact : (if h = 0xFF then s else s.actStart 0 h).mem = s.mem := by
    split_ifs
    · rfl
    · exact State.actStart_see (z := .part .mem) _ _ _ (by simp)
  rw [State.commitStart_eq, State.mapAsked]
  generalize (if h = 0xFF then s else s.actStart 0 h) = t at hact
  rw [← hact]
  exact ⟨rfl, rfl⟩

theorem State.lsReady_ddr : s.lsReady.mem.ddr = s.mem.ddr ∧ s.lsReady.mem.filling = s.mem.filling := by
  simp only [State.lsReady]
  split_ifs
  · rw [← s.setLs_mem 2]
    exact State.commitStart_ddr _ _ _ _ _
  · rw [s.setLs_mem 2]
    exact ⟨rfl, rfl⟩
  · exact ⟨rfl, rfl⟩

variable {s} {ev : Nat} (h : s.latched ev = true)
include h

theorem State.latched_setLs (v : Nat) : (s.setLs v).latched ev = true := by
  simp only [State.setLs]
  split_ifs
  · exact h
  · exact State.latched_raise ((State.latched_setReg (by decide)).trans h) _

theorem State.latched_commitStart (origin mode f k : Nat) : (s.commitStart origin mode f k).latched ev = true := by
  have hact : (if k = 0xFF then s else s.actStart 0 k).latched ev = true := by
    split_ifs
    exacts [h, State.latched_actStart h _ _]
  have hmap (t : State) (m : MapS) : ({ t with map := m } : State).latched ev = t.latched ev := rfl
  rw [State.commitStart_eq, State.mapAsked, State.latched_see (State.openBanks_see _ _ (by simp)),
    State.latched_setReg (by decide), hmap]
  exact hact

theorem State.latched_lsReady : s.lsReady.latched ev = true := by
  simp only [State.lsReady]
  split_ifs
  exacts [State.latched_commitStart (State.latched_setLs h 2) _ _ _ _, State.latched_setLs h 2, h]

end

/-! ### The end of the zero-fill -/

/-- The fill is over. -/
def State.fillEnded (s : State) : State :=
  let s := { s with mem := { s.mem with filling := false, ddr := [], ddrBad := [] } }
  (s.setReg O.memDdrFillLeft 0 0).ddrShow

theorem State.ddrFilled_eq {s : State} (h : s.mem.filling = true) : s.ddrFilled = (s.fillEnded.raise 457).lsReady :=
  if_pos h

theorem State.fillEnded_tells {s : State} (hst : s.reg O.memDdrState ≠ 0)
    (hch : ∀ c < 4, s.reg O.memDdrChState c = 2) :
    s.fillEnded.reg O.memDdrState = 3 ∧ s.fillEnded.reg O.memDdrFillLeft = 0 ∧ s.fillEnded.mem.ddr = [] ∧
      s.fillEnded.mem.filling = false ∧ s.fillEnded.sys = s.sys := by
  have hmap (t : State) (ht : ∀ c < 4, t.reg O.memDdrChState c = 2) :
      ((List.range 4).map fun c => t.reg O.memDdrChState c) = [2, 2, 2, 2] :=
    (List.map_congr_left fun c hc => ht c (List.mem_range.mp hc)).trans rfl
  have hw (m : MemS) (i e : Nat) (hi : i ≠ O.memDdrFillLeft) :
      (State.setReg { s with mem := m } O.memDdrFillLeft 0 0).reg i e = s.reg i e := State.reg_setReg_obj _ hi
  simp only [State.fillEnded]
  refine ⟨?_, ?_, ?_, ?_, ?_⟩
  · rw [State.ddrShow_state, hw _ _ _ (by decide), if_neg hst,
      hmap _ fun c hc => (hw _ _ _ (by decide)).trans (hch c hc)]
    cases s.reg O.memDdrState == 4 <;> rfl
  · rw [reg_see, State.ddrShow_see _ (by simp), ← reg_see, State.reg_setReg_self]
  · rw [State.ddrShow_mem]
    rfl
  · rw [State.ddrShow_mem]
    rfl
  · exact State.sys_of_see (State.ddrShow_see (z := .part .sys) _ (by simp))

theorem ddrFill_done {s : State} (hfill : s.mem.filling = true) (hst : s.reg O.memDdrState ≠ 0)
    (hch : ∀ c < 4, s.reg O.memDdrChState c = 2) :
    Runs .ddrFillDone s fun t =>
      t.reg O.memDdrState = 3 ∧ t.reg O.memDdrFillLeft = 0 ∧ t.mem.ddr = [] ∧ t.mem.filling = false ∧
      (s.sys.fabOn = true → t.latched 457 = true) := by
  have hgo := State.ddrFilled_eq (s := s.fresh) hfill
  obtain ⟨hstate, hleft, hddr, hfilling, hsys⟩ := State.fillEnded_tells (s := s.fresh) hst hch
  generalize s.fresh.fillEnded = u at *
  obtain ⟨hkeep, hkeep'⟩ := (u.raise 457).lsReady_ddr
  refine runs_of_run (exec_ddrFillDone s) ?_
  simp only [State.reg_withQueue_all, State.withQueue_mem, State.latched_withQueue]
  rw [hgo, hkeep, hkeep', State.raise_mem]
  refine ⟨?_, ?_, hddr, hfilling, fun hon => State.latched_lsReady (State.latched_raise_self (.inr ?_))⟩
  · rw [reg_see, State.lsReady_see _ (by simp), ← reg_see, State.raise_reg _ (by decide), hstate]
  · rw [reg_see, State.lsReady_see _ (by simp), ← reg_see, State.raise_reg _ (by decide), hleft]
  · rw [hsys]
    exact hon

/-! ### MEM.DDR_LS_EN and the sizes of the regions (R342, R346) -/

theorem ddrLsEn_on {s : State} {w : Who} (ha : Allowed s w O.memDdrLsEn 0 1) :
    Runs (.ddrLsEnWrite w 1) s fun t =>
      t.reg O.memDdrLsEn = 1 ∧ t.out.status = 0 ∧ t.reg O.memDdrLsState =
        if s.reg O.memDdrState = 0 then 0 else if s.reg O.memDdrState = 3 ∨ s.reg O.memDdrLsState = 2 then 2 else 1 := by
  have hop : ddrLsEnOp 1 s.fresh = ((s.fresh.setReg O.memDdrLsEn 0 1).setLs
      (if s.reg O.memDdrState = 0 then 0 else if s.reg O.memDdrState = 3 ∨ s.reg O.memDdrLsState = 2 then 2 else 1), 0) := by
    have hkeep {i : Nat} (e : Nat) (hi : i ≠ O.memDdrLsEn) : (s.fresh.setReg O.memDdrLsEn 0 1).reg i e = s.reg i e :=
      State.reg_setReg_obj _ hi
    simp only [ddrLsEnOp, hkeep _ (show O.memDdrState ≠ O.memDdrLsEn by decide),
      hkeep _ (show O.memDdrLsState ≠ O.memDdrLsEn by decide)]
    rw [if_neg (by simp)]
    simp [or_comm]
  refine runs_of_write (exec_ddrLsEnWrite s w 1) ha hop ?_
  rw [State.reg_write _ _ _ _ _ (by decide) (by decide), State.reg_write _ _ _ _ _ (by decide) (by decide),
    State.setLs_state, reg_see, State.setLs_see _ _ (by simp), ← reg_see, State.reg_setReg_self]
  exact ⟨rfl, rfl, rfl⟩

theorem ddrLsEn_off {s : State} {w : Who} (ha : Allowed s w O.memDdrLsEn 0 0) (hunits : s.ddrUnits = 0) :
    Runs (.ddrLsEnWrite w 0) s fun t =>
      t.reg O.memDdrLsEn = 0 ∧ t.reg O.memDdrLsState = 0 ∧ t.out.status = 0 := by
  have hop : ddrLsEnOp 0 s.fresh = ((s.fresh.setReg O.memDdrLsEn 0 0).setLs 0, 0) := by
    have hunits' : s.fresh.ddrUnits = 0 := hunits
    simp only [ddrLsEnOp]
    rw [if_neg (by simp [hunits'])]
    rfl
  refine runs_of_write (exec_ddrLsEnWrite s w 0) ha hop ?_
  rw [State.reg_write _ _ _ _ _ (by decide) (by decide), State.reg_write _ _ _ _ _ (by decide) (by decide),
    State.setLs_state, reg_see, State.setLs_see _ _ (by simp), ← reg_see, State.reg_setReg_self]
  exact ⟨rfl, rfl, rfl⟩

theorem ddrSize_stored {s : State} {w : Who} {b : Bool} {v : Nat}
    (ha : Allowed s w (if b then O.memDdrTraceSize else O.memDdrLsSize) 0 v) (htok : s.tokFree 4 (holderOf w) = true)
    (hls : s.reg O.memDdrLsState = 0) (hrun : s.tal.run = false) :
    Runs (.ddrRegionSizeWrite w b v) s fun t => Stored s t (if b then O.memDdrTraceSize else O.memDdrLsSize) 0 v := by
  have hop (i : Nat) : ddrSizeOp (holderOf w) i v s.fresh = (s.fresh.setReg i 0 v, 0) := by
    have htok' : s.fresh.tokFree 4 (holderOf w) = true := htok
    rw [ddrSizeOp, if_neg (by simp [htok']), if_neg (by simp [hls, hrun])]
  refine runs_of_write (exec_ddrRegionSizeWrite s w b v) ha (hop _) ?_
  have hstored {i : Nat} (hi : Allowed s w i 0 v) (hj : i ≠ O.ledgerJournalSeq) (hev : evObj i = false) :
      Stored s ((((s.fresh.setReg i 0 v).record i 0 v).answer 0).withQueue s.pending) i 0 v :=
    stored_of s.pending hi hj hev (State.reg_setReg_self ..)
      ((OnlyElems.refl _ s.fresh).setReg v (by decide) (by simp))
  cases b
  exacts [hstored ha (by decide) (by decide), hstored ha (by decide) (by decide)]

/-! ### The retraining of a channel (R348) -/

section
variable {s : State} {c : Nat}

theorem State.setChannel_latches {v : Nat} (hne : s.reg O.memDdrChState c ≠ v) (hon : s.sys.fabOn = true) :
    (s.setChannel c v).latched 456 = true := by
  rw [State.setChannel, if_neg hne, State.latched_see (State.ddrShow_see _ (by simp))]
  exact State.latched_raise_self (.inr hon)

/-- No attempt of channel `c` has failed yet. -/
def State.untried (s : State) (c : Nat) : State :=
  { s with mem := { s.mem with tries := SMap.set 0 s.mem.tries c 0 } }

theorem State.untried_tries : SMap.get 0 (s.untried c).mem.tries c = 0 :=
  SMap.get_set_self 0 s.mem.tries c 0

theorem State.retrain_eq (h : s.reg O.memDdrChState c ≠ 3) : s.retrain c = ((s.untried c).setChannel c 3).ddrLinesAis :=
  if_neg h

theorem State.retrain_tells (h : s.reg O.memDdrChState c ≠ 3) : (s.retrain c).reg O.memDdrChState c = 3 ∧
    SMap.get 0 (s.retrain c).mem.tries c = 0 ∧ (s.sys.fabOn = true → (s.retrain c).latched 456 = true) := by
  have hmem (t : State) : t.ddrLinesAis.mem = t.mem := State.ddrLinesAis_see (z := .part .mem) t (by simp)
  rw [State.retrain_eq h, hmem, State.setChannel_mem]
  refine ⟨?_, State.untried_tries, fun hon => State.latched_ddrLinesAis (State.setChannel_latches h hon)⟩
  rw [reg_see, State.ddrLinesAis_see _ (by simp), ← reg_see, State.setChannel_reg_self]

theorem State.retrainEnd_tries : (s.retrainEnd c).mem.tries = s.mem.tries := by
  have hmem (t : State) : (t.actEnd 4).mem = t.mem := State.actEnd_see (z := .part .mem) _ _ (by simp)
  simp only [State.retrainEnd]
  split_ifs
  · rfl
  · rw [hmem]

/-- Another attempt has failed. -/
def State.tried (s : State) (c n : Nat) : State :=
  { s with mem := { s.mem with tries := SMap.set 0 s.mem.tries c n } }

theorem State.tried_tries (n : Nat) : SMap.get 0 (s.tried c n).mem.tries c = n := SMap.get_set_self 0 s.mem.tries c n

theorem State.retrainAttempt_fails (h : s.reg O.memDdrChState c = 3) : s.retrainAttempt c false =
    if 3 ≤ SMap.get 0 s.mem.tries c + 1 then
      ((s.tried c (SMap.get 0 s.mem.tries c + 1)).setChannel c 4).retrainEnd c
    else s.tried c (SMap.get 0 s.mem.tries c + 1) := by
  rw [State.retrainAttempt, if_neg (by simp [h])]
  rfl

theorem State.retrainAttempt_serves (h : s.reg O.memDdrChState c = 3) :
    s.retrainAttempt c true = ((s.setChannel c 2).lsReady).retrainEnd c := by
  rw [State.retrainAttempt, if_neg (by simp [h])]
  rfl

theorem State.retrainAttempt_tells (h : s.reg O.memDdrChState c = 3) :
    (s.retrainAttempt c false).reg O.memDdrChState c = (if 2 ≤ SMap.get 0 s.mem.tries c then 4 else 3) ∧
      SMap.get 0 (s.retrainAttempt c false).mem.tries c = SMap.get 0 s.mem.tries c + 1 := by
  rw [State.retrainAttempt_fails h]
  by_cases hn : 2 ≤ SMap.get 0 s.mem.tries c
  · rw [if_pos (by omega), if_pos hn, State.retrainEnd_tries, State.setChannel_mem, reg_see,
      State.retrainEnd_see _ _ (by simp), ← reg_see, State.setChannel_reg_self]
    exact ⟨rfl, State.tried_tries _⟩
  · rw [if_neg (by omega), if_neg hn]
    exact ⟨h, State.tried_tries _⟩

theorem ddrRetrain_begins {w : Who} (ha : Allowed s w O.memDdrRetrain 0 c) (htok : s.tokFree 4 (holderOf w) = true)
    (hst : s.reg O.memDdrChState c = 2 ∨ s.reg O.memDdrChState c = 4) :
    Runs (.ddrRetrain w c) s fun t =>
      t.reg O.memDdrChState c = 3 ∧ t.reg O.maintTokenHolder 4 = holderOf w ∧ t.out.status = 0 := by
  have hop : ddrRetrainOp (holderOf w) c s.fresh = (((s.fresh.actStart 4 (holderOf w)).withMem
      { (s.fresh.actStart 4 (holderOf w)).mem with
        retrainBy := SMap.set 0 (s.fresh.actStart 4 (holderOf w)).mem.retrainBy c 1 }).retrain c, 0) := by
    have htok' : s.fresh.tokFree 4 (holderOf w) = true := htok
    rw [ddrRetrainOp, if_neg (by simp [htok']), if_neg (by rw [State.reg_fresh_all]; rcases hst with h | h <;> simp [h])]
    rfl
  have hch : (s.fresh.actStart 4 (holderOf w)).reg O.memDdrChState c ≠ 3 := by
    rw [reg_see, State.actStart_see _ _ _ (by simp), ← reg_see, State.reg_fresh_all]
    omega
  have hholder : (s.fresh.actStart 4 (holderOf w)).reg O.maintTokenHolder 4 = holderOf w :=
    State.actStart_holder ..
  generalize s.fresh.actStart 4 (holderOf w) = u at *
  refine runs_of_write (exec_ddrRetrain s w c) ha hop ?_
  have hreg (m : MemS) (i e : Nat) : (u.withMem m).reg i e = u.reg i e := rfl
  rw [State.reg_write _ _ _ _ _ (by decide) (by decide), State.reg_write _ _ _ _ _ (by decide) (by decide),
    (State.retrain_tells (by rwa [hreg])).1, reg_see, State.retrain_see _ _ (by simp), ← reg_see, hreg, hholder]
  exact ⟨rfl, rfl, rfl⟩

end

/-- Settles O25: training and zero-fill, long skew, the patrol's beats and the retraining of a channel. -/
theorem ddrCommands : Obligations.DdrCommands := by
  unfold Obligations.DdrCommands
  refine ⟨fun _ _ _ hon hst hgib => ddrTraining_done hon hst hgib, fun _ hfill hst hch => ddrFill_done hfill hst hch,
    fun _ _ ha => ddrLsEn_on ha, fun _ _ ha hunits => ddrLsEn_off ha hunits,
    fun _ _ _ _ ha htok hls hrun => ddrSize_stored ha htok hls hrun, ?_, ?_, ?_, ?_, ?_, ?_, ?_,
    fun _ _ _ ha htok hst => ddrRetrain_begins ha htok hst⟩
  · intro s f hon hback hfill hst hf hgood hlt hdue
    exact patrolBeat_moves hon hback hfill hst hdue hgood hf hlt
  · intro s f hon hback hfill hst hf hgood hge hsize hdue
    exact patrolBeat_passes hon hback hfill hst hdue hgood hf hge hsize
  · intro s f hon hback hfill hst hf hgood hlt hch hdue htest
    exact patrolBeat_uncorrectable hon hback hfill hst hdue hgood hlt hch htest hf
  · intro s f hon hback hfill hst hf hgood hlt hch hdue htest
    exact patrolBeat_corrected hon hback hfill hst hdue hgood hlt hch htest hf
  · intro s c hc hst
    have hgo : (if !false && s.fresh.reg O.memDdrChState c = 2 then s.fresh.retrain c else s.fresh) = s.fresh.retrain c :=
      if_pos (decide_eq_true hst)
    obtain ⟨h1, h2, h3⟩ := State.retrain_tells (s := s.fresh) (c := c) (by rw [State.reg_fresh_all, hst]; decide)
    refine runs_of_runIn (exec_ddrAlert s c false) hc ?_
    simp only [State.reg_withQueue_all, State.withQueue_mem, State.latched_withQueue]
    rw [hgo]
    exact ⟨h1, h2, h3⟩
  · intro s c hc hst
    refine runs_of_runIn (exec_retrainAttemptDone s c true) hc ?_
    simp only [State.reg_withQueue_all]
    rw [State.retrainAttempt_serves (s := s.fresh) hst, reg_see, State.retrainEnd_see _ _ (by simp),
      State.lsReady_see _ (by simp), ← reg_see, State.setChannel_reg_self]
  · intro s c hc hst
    obtain ⟨h1, h2⟩ := State.retrainAttempt_tells (s := s.fresh) hst
    refine runs_of_runIn (exec_retrainAttemptDone s c false) hc ?_
    simp only [State.reg_withQueue_all, State.withQueue_mem]
    exact ⟨h1, h2⟩

end Sys2Proof.Machine

/-! The spare of a Ledger (O12): segments, their flash work, the seal and the journal; before them what flash work that
waits leaves once it is done. -/

namespace Sys2Proof.Machine

/-- A write of bytes that its own operation refuses answers with that code, and keeps what the operation did. -/
theorem runs_of_writeBytes_refused {c : Instr} {s u : State} {w : Who} {idx e n code : Nat} {v : List Byte}
    {op : State → State × Nat} {P : State → Prop} (hc : exec c s = s.run fun s => s.writeBytes w idx e n v op)
    (ha : Writable s w idx e) (hv : v ≠ []) (hn : v.length ≤ n) (ho : op s.fresh = (u, code)) (hcode : code ≠ 0)
    (h : P ((u.refuse w code).withQueue s.pending)) : Runs c s P := by
  obtain ⟨hgate, hrom⟩ := ha
  have hlen : ¬ (v.length = 0 || n < v.length) = true := by
    simp [mt List.eq_nil_of_length_eq_zero hv, hn]
  refine runs_of_run hc ?_
  rw [State.writeBytes]
  have hgate' : s.fresh.gate w idx e = 0 := hgate
  rw [if_neg (by simpa using hgate'), if_neg hlen, if_neg (by simp [hrom]), ho, if_pos hcode]
  exact h

/-! ### Bytes put into a slot (R250) -/

section
variable (old d : List Byte) (o : Nat)

theorem spanPut_length : (spanPut old o d).length = max old.length (o + d.length) := by
  simp only [spanPut, List.length_append, List.length_take, List.length_replicate, List.length_drop]
  omega

/-- A byte of a slot reads as erased where none has been put. -/
theorem spanPut_getD (j : Nat) : (spanPut old o d).getD j 0xFF =
    if o ≤ j ∧ j < o + d.length then d.getD (j - o) 0xFF else old.getD j 0xFF := by
  have hhead : (old.take o ++ List.replicate (o - old.length) (0xFF : Byte)).length = o := by
    simp only [List.length_append, List.length_take, List.length_replicate]
    omega
  simp only [spanPut, List.getD_eq_getElem?_getD]
  by_cases hj : j < o
  · rw [if_neg (by omega), List.getElem?_append_left (by rw [List.length_append, hhead]; omega),
      List.getElem?_append_left (by omega)]
    by_cases hold : j < old.length
    · rw [List.getElem?_append_left (by rw [List.length_take]; omega), List.getElem?_take, if_pos hj]
    · rw [List.getElem?_append_right (by rw [List.length_take]; omega), List.length_take,
        List.getElem?_replicate, if_pos (by omega), List.getElem?_eq_none (by omega)]
      rfl
  · by_cases hd : j < o + d.length
    · rw [if_pos ⟨by omega, hd⟩, List.getElem?_append_left (by rw [List.length_append, hhead]; omega),
        List.getElem?_append_right (by omega), hhead]
    · rw [if_neg (by omega), List.getElem?_append_right (by rw [List.length_append, hhead]; omega), List.length_append,
        hhead, List.getElem?_drop, show o + d.length + (j - (o + d.length)) = j by omega]

end

/-- Lists of one length that agree at each place are one. -/
theorem eq_of_getD {l m : List Byte} (hlen : l.length = m.length)
    (h : ∀ j < l.length, l.getD j 0xFF = m.getD j 0xFF) : l = m := by
  refine List.ext_getElem hlen fun j hl hm => ?_
  have hj := h j hl
  rwa [List.getD_eq_getElem _ _ hl, List.getD_eq_getElem _ _ hm] at hj

/-- The bytes that a unit of flash work stores. -/
def FUnit.bytes (u : FUnit) : List Byte := if u.erase then erased else u.data

/-- A slot after a unit of flash work. -/
def slotDo (b : List Byte) (u : FUnit) : List Byte := spanPut b u.at_ u.bytes

/-- The units that program `d` at `o` leave its bytes there, and change no other byte. -/
theorem programUnits_foldl (slot o : Nat) (d b : List Byte) :
    (∀ j, ((programUnits slot o d).foldl slotDo b).getD j 0xFF =
      if o ≤ j ∧ j < o + d.length then d.getD (j - o) 0xFF else b.getD j 0xFF) ∧
      b.length ≤ ((programUnits slot o d).foldl slotDo b).length := by
  have main : ∀ m, (∀ j, ((List.range m).foldl (fun b i => spanPut b (o + 4096 * i) (slice d (4096 * i) 4096)) b).getD j
      0xFF = if o ≤ j ∧ j < o + min (4096 * m) d.length then d.getD (j - o) 0xFF else b.getD j 0xFF) ∧
      b.length ≤ ((List.range m).foldl (fun b i => spanPut b (o + 4096 * i) (slice d (4096 * i) 4096)) b).length := by
    intro m
    induction m with
    | zero => exact ⟨fun j => (if_neg (by omega)).symm, le_rfl⟩
    | succ m ih =>
      obtain ⟨ihj, ihl⟩ := ih
      rw [List.range_succ, List.foldl_append, List.foldl_cons, List.foldl_nil]
      refine ⟨fun j => ?_, ?_⟩
      · have hlen : (slice d (4096 * m) 4096).length = min 4096 (d.length - 4096 * m) := by
          rw [slice, List.length_take, List.length_drop]
        rw [spanPut_getD, ihj, hlen]
        by_cases hin : o + 4096 * m ≤ j ∧ j < o + 4096 * m + min 4096 (d.length - 4096 * m)
        · rw [if_pos hin, if_pos (by omega), slice, List.getD_eq_getElem?_getD, List.getElem?_take, if_pos (by omega),
            List.getElem?_drop, show 4096 * m + (j - (o + 4096 * m)) = j - o by omega, ← List.getD_eq_getElem?_getD]
        · rw [if_neg hin]
          by_cases hbefore : o ≤ j ∧ j < o + min (4096 * m) d.length
          · rw [if_pos hbefore, if_pos (by omega)]
          · rw [if_neg hbefore, if_neg (by omega)]
      · rw [spanPut_length]
        omega
  have hfold : (programUnits slot o d).foldl slotDo b = (List.range ((d.length + 4095) / 4096)).foldl
      (fun b i => spanPut b (o + 4096 * i) (slice d (4096 * i) 4096)) b := by
    rw [programUnits, List.foldl_map]
    rfl
  obtain ⟨hj, hl⟩ := main ((d.length + 4095) / 4096)
  rw [hfold]
  refine ⟨fun j => ?_, hl⟩
  rw [hj, show min (4096 * ((d.length + 4095) / 4096)) d.length = d.length by omega]

/-- A block that is erased and programmed holds the bytes programmed, and what lies before it stays. -/
theorem segment_foldl (slot k : Nat) (d b : List Byte) (hd : d.length ≤ 65536) :
    slice ((⟨slot, 65536 * k, true, []⟩ :: programUnits slot (65536 * k) d).foldl slotDo b) (65536 * k) d.length = d ∧
      ((⟨slot, 65536 * k, true, []⟩ :: programUnits slot (65536 * k) d).foldl slotDo b).take
        (min b.length (65536 * k)) = b.take (65536 * k) := by
  rw [List.foldl_cons]
  have herased : erased.length = 65536 := List.length_replicate ..
  have hblock : slotDo b ⟨slot, 65536 * k, true, []⟩ = spanPut b (65536 * k) erased := rfl
  obtain ⟨hj, hl⟩ := programUnits_foldl slot (65536 * k) d (slotDo b ⟨slot, 65536 * k, true, []⟩)
  generalize (programUnits slot (65536 * k) d).foldl slotDo (slotDo b ⟨slot, 65536 * k, true, []⟩) = r at hj hl ⊢
  rw [hblock, spanPut_length, herased] at hl
  have hlen : (slice r (65536 * k) d.length).length = d.length := by
    rw [slice, List.length_take, List.length_drop]
    omega
  refine ⟨eq_of_getD hlen fun j hlt => ?_, eq_of_getD ?_ fun j hlt => ?_⟩
  · rw [hlen] at hlt
    rw [slice, List.getD_eq_getElem?_getD, List.getElem?_take, if_pos hlt, List.getElem?_drop,
      ← List.getD_eq_getElem?_getD, hj, if_pos (by omega), show 65536 * k + j - 65536 * k = j by omega]
  · rw [List.length_take, List.length_take]
    omega
  · rw [List.length_take] at hlt
    rw [List.getD_eq_getElem?_getD, List.getElem?_take, if_pos (by omega), ← List.getD_eq_getElem?_getD, hj,
      if_neg (by omega), hblock, spanPut_getD, if_neg (by omega), List.getD_eq_getElem?_getD, List.getD_eq_getElem?_getD,
      List.getElem?_take, if_pos (by omega)]

/-! ### Flash work of a slot (R487) -/

section
variable {s : State}

theorem State.flashDo_slot {u : FUnit} (h : u.slot ≠ 2) (k : Nat) (hu : u.slot < 2) (hk : k < 2) :
    (s.flashDo u).slotBytes k = (if k = u.slot then slotDo (s.slotBytes k) u else s.slotBytes k) ∧
      (s.flashDo u).mem = s.mem ∧ (s.flashDo u).sys = s.sys := by
  rw [State.flashDo, if_neg h]
  refine ⟨?_, rfl, rfl⟩
  obtain h0 | h1 : u.slot = 0 ∨ u.slot = 1 := by omega
  · obtain rfl | rfl : k = 0 ∨ k = 1 := by omega
    · rw [if_pos h0.symm, h0]
      rfl
    · rw [if_neg (show ¬ 1 = u.slot by omega), h0]
      rfl
  · obtain rfl | rfl : k = 0 ∨ k = 1 := by omega
    · rw [if_neg (show ¬ 0 = u.slot by omega), h1]
      rfl
    · rw [if_pos h1.symm, h1]
      rfl

/-- The first unit of a Ledger's work is done where no other work waits. -/
theorem State.flashStep_ledger {u : FUnit} {l : List FUnit} (hmode : s.sys.mode ≠ .restore) (hwork : s.mem.work = u :: l)
    (hslot : ∀ x ∈ u :: l, x.slot ≠ 2) :
    s.flashStep = { s.flashDo u with mem := { (s.flashDo u).mem with work := l, fwTurn := false } } := by
  have hu : u.slot ≠ 2 := hslot u (List.mem_cons_self ..)
  have hledger : s.ledgerWork = some u := by
    rw [State.ledgerWork, if_neg hmode, hwork]
    exact List.find?_cons_of_pos (by simpa using hu)
  have hfirmware : s.firmwareWork = none := by
    rw [State.firmwareWork, hwork, List.find?_eq_none]
    intro x hx
    simpa using hslot x hx
  have hnext : s.flashNext = some u := by rw [State.flashNext, hledger, hfirmware]
  have hdo : (s.flashDo u).mem.work = u :: l := by
    rw [State.flashDo, if_neg hu]
    exact hwork
  rw [State.flashStep, hnext, hledger, hfirmware]
  simp only [hdo, List.erase_cons_head]
  rfl

/-- Ledger work that waits alone is all done, in its order. -/
theorem State.flashDrain_ledger {l : List FUnit} {k : Nat} (hmode : s.sys.mode ≠ .restore) (hwork : s.mem.work = l)
    (hk : k < 2) (hslot : ∀ x ∈ l, x.slot = k) :
    (s.flashDrain fun u => u.slot != 2).mem.work = [] ∧
      (s.flashDrain fun u => u.slot != 2).slotBytes k = l.foldl slotDo (s.slotBytes k) := by
  have main := foldRange_induction (n := l.length) (a := s)
    (f := fun s _ => if s.mem.work.any (fun u => u.slot != 2) then s.flashStep else s)
    (P := fun n t => t.sys.mode ≠ .restore ∧ t.mem.work = l.drop n ∧
      t.slotBytes k = (l.take n).foldl slotDo (s.slotBytes k))
    ⟨hmode, hwork, rfl⟩ ?_
  · obtain ⟨-, hempty, hbytes⟩ := main
    rw [List.drop_length] at hempty
    rw [List.take_length] at hbytes
    rw [State.flashDrain, hwork]
    exact ⟨hempty, hbytes⟩
  · rintro n t hn ⟨hm, hw, hb⟩
    have hcons : l.drop n = l[n] :: l.drop (n + 1) := List.drop_eq_getElem_cons hn
    have hall : ∀ x ∈ l[n] :: l.drop (n + 1), x.slot ≠ 2 := by
      rw [← hcons]
      intro x hx
      have := hslot x (List.mem_of_mem_drop hx)
      omega
    have hn2 := hslot l[n] (List.getElem_mem hn)
    have hany : t.mem.work.any (fun u => u.slot != 2) = true := by
      rw [hw, hcons, List.any_cons]
      have : (l[n].slot != 2) = true := by simpa using hall _ (List.mem_cons_self ..)
      rw [this, Bool.true_or]
    rw [if_pos hany, State.flashStep_ledger hm (hw.trans hcons) hall]
    obtain ⟨hbytes, -, hsys⟩ := State.flashDo_slot (s := t) (hall _ (List.mem_cons_self ..)) k (by omega) hk
    refine ⟨?_, rfl, ?_⟩
    · rw [← hsys] at hm
      exact hm
    · refine Eq.trans (b := (t.flashDo l[n]).slotBytes k) rfl ?_
      rw [hbytes, if_pos hn2.symm, hb, List.take_succ_eq_append_getElem hn, List.foldl_append]
      rfl

/-- What no unit of flash work changes, the drain leaves. -/
theorem State.flashDrain_keeps (who : FUnit → Bool) : (s.flashDrain who).regs = s.regs ∧ (s.flashDrain who).sys = s.sys ∧
    (s.flashDrain who).led.rxNext = s.led.rxNext ∧ (s.flashDrain who).led.rxSlot = s.led.rxSlot := by
  have hstep (t : State) : t.flashStep.regs = t.regs ∧ t.flashStep.sys = t.sys ∧ t.flashStep.led.rxNext = t.led.rxNext ∧
      t.flashStep.led.rxSlot = t.led.rxSlot := by
    simp only [State.flashStep]
    split
    · exact ⟨rfl, rfl, rfl, rfl⟩
    · simp only [State.flashDo]
      split_ifs <;> exact ⟨rfl, rfl, rfl, rfl⟩
  refine foldRange_keeps (fun t : State => t.regs = s.regs ∧ t.sys = s.sys ∧ t.led.rxNext = s.led.rxNext ∧
    t.led.rxSlot = s.led.rxSlot) _ _ _ ⟨rfl, rfl, rfl, rfl⟩ fun t _ ht => ?_
  split_ifs
  · obtain ⟨h1, h2, h3, h4⟩ := ht
    obtain ⟨g1, g2, g3, g4⟩ := hstep t
    exact ⟨g1.trans h1, g2.trans h2, g3.trans h3, g4.trans h4⟩
  · exact ht

/-- The drain does not turn on what the step before sent. -/
theorem State.flashDrain_fresh (who : FUnit → Bool) : s.fresh.flashDrain who = (s.flashDrain who).fresh := by
  have hdo (t : State) (u : FUnit) : t.fresh.flashDo u = (t.flashDo u).fresh := by
    simp only [State.flashDo]
    by_cases hu : u.slot = 2
    · rw [if_pos hu, if_pos hu]
      rfl
    · rw [if_neg hu, if_neg hu]
      rfl
  have hstep (t : State) : t.fresh.flashStep = t.flashStep.fresh := by
    have hnext : t.fresh.flashNext = t.flashNext := rfl
    have hledger : t.fresh.ledgerWork = t.ledgerWork := rfl
    have hfirmware : t.fresh.firmwareWork = t.firmwareWork := rfl
    simp only [State.flashStep, hnext, hledger, hfirmware]
    cases t.flashNext with
    | none => rfl
    | some u =>
      simp only [hdo]
      rfl
  refine foldRange_induction (n := s.mem.work.length) (a := s.fresh)
    (f := fun s _ => if s.mem.work.any who then s.flashStep else s)
    (P := fun n t => t = (foldRange n (fun s _ => if s.mem.work.any who then s.flashStep else s) s).fresh) rfl ?_
  rintro n t - rfl
  rw [foldRange_succ]
  generalize foldRange n (fun s _ => if s.mem.work.any who then s.flashStep else s) s = t
  have hany : t.fresh.mem.work = t.mem.work := rfl
  rw [hany]
  split_ifs
  exacts [hstep t, rfl]

end

/-! ### Segments (R250) -/

/-- The slot that a new generation is stored in: the one that does not hold the newest. -/
def State.rxTarget (s : State) : Nat :=
  match s.newestSlot with
  | some n => 1 - n
  | none => 0

/-- Segment `k` waits to be stored in a slot. -/
def State.segmentTaken (s : State) (slot k : Nat) (d : List Byte) : State :=
  let s := s.flashQueue (⟨slot, 65536 * k, true, []⟩ :: programUnits slot (65536 * k) d)
  { s with led := { s.led with rxNext := k + 1, rxSlot := slot
                               rxLen := if k = 0 then genLength d else s.led.rxLen } }

/-- The slot is being written. -/
def State.slotOpened (s : State) (slot : Nat) : State :=
  ((s.setReg O.ledgerSlotState slot 1).setReg O.ledgerSlotGen slot 0).setReg O.ledgerSlotFsn slot 0

section
variable {s : State} {k : Nat} {d : List Byte} (hmode : s.sys.mode ≠ .restore)
include hmode

theorem rxSegmentOp_first (hnew : ∀ n, s.newestSlot = some n → s.reg O.ledgerSlotGen n < genNo d) :
    rxSegmentOp 0 d s = ((s.segmentTaken s.rxTarget 0 d).slotOpened s.rxTarget, 0) := by
  rw [rxSegmentOp, if_neg hmode, State.rxTarget]
  cases h : s.newestSlot with
  | none => rfl
  | some n =>
    have hlt := hnew n h
    simp only [Option.isSome_some]
    rw [if_neg (by simp; omega)]
    rfl

theorem rxSegmentOp_next (hk : k ≠ 0) (hnext : s.led.rxNext = k) (hst : s.reg O.ledgerSlotState s.led.rxSlot = 1)
    (hlen : 65536 * k < s.led.rxLen) : rxSegmentOp k d s = (s.segmentTaken s.led.rxSlot k d, 0) := by
  rw [rxSegmentOp, if_neg hmode]
  extract_lets newest gen slot t u
  rw [if_neg (by simp [hk]), if_neg (by simp [hnext, hst]), if_neg (by simp; omega), if_neg hk]
  have hslot : slot = s.led.rxSlot := if_pos hk
  rw [← hslot]
  rfl

end

theorem State.segmentTaken_work (s : State) (slot k : Nat) (d : List Byte) : (s.segmentTaken slot k d).mem.work =
    s.mem.work ++ (⟨slot, 65536 * k, true, []⟩ :: programUnits slot (65536 * k) d) := rfl

/-- The units that store a segment lie in its block. -/
theorem segmentUnits_at {slot k : Nat} {d : List Byte} (hd : d.length ≤ 65536) :
    ∀ u ∈ (⟨slot, 65536 * k, true, []⟩ :: programUnits slot (65536 * k) d : List FUnit),
      u.slot = slot ∧ 65536 * k ≤ u.at_ ∧ u.at_ < 65536 * (k + 1) := by
  intro u hu
  rcases List.mem_cons.mp hu with rfl | hu
  · exact ⟨rfl, le_rfl, by dsimp only; omega⟩
  · obtain ⟨i, hi, rfl⟩ := List.mem_map.mp hu
    have hi' := List.mem_range.mp hi
    exact ⟨rfl, by dsimp only; omega, by dsimp only; omega⟩

section
variable {s : State} {w : Who} {d : List Byte} (hd : d ≠ []) (hlen : d.length ≤ 65536) (hmode : s.sys.mode ≠ .restore)
include hd hlen hmode

theorem rxSegment_first (ha : Writable s w O.ledgerRxSegment 0)
    (hnew : ∀ n, s.newestSlot = some n → s.reg O.ledgerSlotGen n < genNo d) :
    Runs (.rxSegmentWrite w 0 d) s fun t =>
      t.led.rxNext = 1 ∧ t.led.rxLen = genLength d ∧
      (s.newestSlot = some 0 → t.led.rxSlot = 1) ∧ (s.newestSlot ≠ some 0 → t.led.rxSlot = 0) ∧
      t.reg O.ledgerSlotState t.led.rxSlot = 1 ∧ t.reg O.ledgerSlotGen t.led.rxSlot = 0 ∧
      (∃ q, t.mem.work = s.mem.work ++ q ∧ ∀ u ∈ q, u.slot = t.led.rxSlot ∧ u.at_ < 65536) ∧ t.out.status = 0 := by
  have hop := rxSegmentOp_first (s := s.fresh) hmode hnew
  have hled (t : State) (k : Nat) : (t.slotOpened k).led = t.led := rfl
  have hmem (t : State) (k : Nat) : (t.slotOpened k).mem = t.mem := rfl
  have hnewest : s.newestSlot = some 0 ∨ s.newestSlot = some 1 ∨ s.newestSlot = none := by
    simp only [State.newestSlot]
    split_ifs <;> simp
  have hzero : s.newestSlot = some 0 → s.fresh.rxTarget = 1 := fun h => by
    have h' : s.fresh.newestSlot = some 0 := h
    rw [State.rxTarget, h']
  have hone : s.newestSlot ≠ some 0 → s.fresh.rxTarget = 0 := fun h => by
    have h' : s.fresh.newestSlot = some 1 ∨ s.fresh.newestSlot = none := hnewest.resolve_left h
    rw [State.rxTarget]
    rcases h' with h' | h' <;> rw [h']
  generalize s.fresh.rxTarget = slot at *
  have hslot : ((s.fresh.segmentTaken slot 0 d).slotOpened slot).led.rxSlot = slot := rfl
  refine runs_of_writeBytes (exec_rxSegmentWrite s w 0 d) ha hd hlen hop ?_
  simp only [State.withQueue_led, State.answer_led, State.reg_withQueue_all, State.reg_answer_all, State.withQueue_mem,
    State.answer_mem]
  rw [hslot, hled, hmem, State.segmentTaken_work]
  refine ⟨rfl, rfl, hzero, hone, ?_, ?_, ⟨_, rfl, fun u hu => ?_⟩, rfl⟩
  · rw [State.slotOpened, State.reg_setReg_obj _ (by decide), State.reg_setReg_obj _ (by decide), State.reg_setReg_self]
  · rw [State.slotOpened, State.reg_setReg_obj _ (by decide), State.reg_setReg_self]
  · obtain ⟨h1, h2, h3⟩ := segmentUnits_at hlen u hu
    exact ⟨h1, by omega⟩

variable {k : Nat} (ha : Writable s w O.ledgerRxSegment k) (hk : k ≠ 0) (hnext : s.led.rxNext = k)
  (hst : s.reg O.ledgerSlotState s.led.rxSlot = 1) (hin : 65536 * k < s.led.rxLen)
include ha hk hnext hst hin

theorem rxSegment_next :
    Runs (.rxSegmentWrite w k d) s fun t =>
      t.led.rxNext = k + 1 ∧ t.led.rxSlot = s.led.rxSlot ∧ t.out.status = 0 ∧
      (∃ q, t.mem.work = s.mem.work ++ q ∧ ∀ u ∈ q, u.slot = s.led.rxSlot ∧ u.at_ / 65536 = k) ∧ OnlyElems [] s t := by
  refine runs_of_writeBytes (exec_rxSegmentWrite s w k d) ha hd hlen
    (rxSegmentOp_next (s := s.fresh) hmode hk hnext hst hin) ⟨rfl, rfl, rfl, ⟨_, rfl, fun u hu => ?_⟩, fun _ _ _ _ _ => rfl⟩
  obtain ⟨h1, h2, h3⟩ := segmentUnits_at hlen u hu
  exact ⟨h1, by omega⟩

theorem rxSegment_stored (hslot : s.led.rxSlot < 2) (hwork : s.mem.work = []) :
    Runs (.rxSegmentWrite w k d) s fun t =>
      let u := t.flashDrain fun x => x.slot != 2
      u.mem.work = [] ∧ slice (u.slotBytes s.led.rxSlot) (65536 * k) d.length = d ∧
      (u.slotBytes s.led.rxSlot).take (min (s.slotBytes s.led.rxSlot).length (65536 * k)) =
        (s.slotBytes s.led.rxSlot).take (65536 * k) := by
  refine runs_of_writeBytes (exec_rxSegmentWrite s w k d) ha hd hlen
    (rxSegmentOp_next (s := s.fresh) hmode hk hnext hst hin) ?_
  have hq : (((s.fresh.segmentTaken s.led.rxSlot k d).answer 0).withQueue s.pending).mem.work =
      ⟨s.led.rxSlot, 65536 * k, true, []⟩ :: programUnits s.led.rxSlot (65536 * k) d := by
    refine (State.segmentTaken_work s.fresh s.led.rxSlot k d).trans ?_
    have hwork' : s.fresh.mem.work = [] := hwork
    rw [hwork', List.nil_append]
  obtain ⟨hempty, hbytes⟩ := State.flashDrain_ledger (s :=
    ((s.fresh.segmentTaken s.led.rxSlot k d).answer 0).withQueue s.pending) hmode hq hslot
    fun u hu => (segmentUnits_at hlen u hu).1
  obtain ⟨hslice, htake⟩ := segment_foldl s.led.rxSlot k d (s.slotBytes s.led.rxSlot) hlen
  have hold : (((s.fresh.segmentTaken s.led.rxSlot k d).answer 0).withQueue s.pending).slotBytes s.led.rxSlot =
      s.slotBytes s.led.rxSlot := rfl
  rw [hold] at hbytes
  dsimp only
  refine ⟨hempty, ?_, ?_⟩
  · exact (congrArg (fun b => slice b (65536 * k) d.length) hbytes).trans hslice
  · exact (congrArg (fun b : List Byte => b.take (min (s.slotBytes s.led.rxSlot).length (65536 * k))) hbytes).trans htake

end

/-! ### The seal (R250, R254) -/

/-- The generation in a slot is sealed. -/
def State.slotSealed (s : State) (slot : Nat) (g : List Byte) : State :=
  let f := genFsn g
  let fresh := s.reg O.ledgerRxJournalState ≠ 1
  let s := { s with led := { s.led with
    journalIn := s.led.journalIn.filter fun x => precedes48 f x.2.1
    lastIn := if fresh then 0 else s.led.lastIn } }
  let s := ((s.setReg O.ledgerSlotState slot 2).setReg O.ledgerSlotGen slot (genNo g)).setReg O.ledgerSlotFsn slot f
  (s.setReg O.ledgerRxJournalState 0 1).raise 487

theorem rxSealOp_seals {s u : State} {d g : List Byte} (hmode : s.sys.mode ≠ .restore)
    (hst : s.reg O.ledgerSlotState s.led.rxSlot = 1) (hu : (s.flashDrain fun u => u.slot != 2) = u)
    (hg : u.slotBytes s.led.rxSlot = g) (hseal : genSealed g = true) (hlen : genLength g ≤ 65536 * u.led.rxNext)
    (hd : d = slice g (genLength g - 32) 32) : rxSealOp d s = (u.slotSealed s.led.rxSlot g, 0) := by
  have hcond : (genSealed g && decide (65536 * u.led.rxNext ≥ genLength g) &&
      d == slice g (genLength g - 32) 32) = true := by
    simp [hseal, hlen, ← hd]
  subst hg
  rw [rxSealOp, if_neg hmode, if_neg (by simpa using hst), hu]
  extract_lets
  exact (if_pos hcond).trans rfl

theorem State.slotSealed_tells (s : State) (slot : Nat) (g : List Byte) :
    (s.slotSealed slot g).reg O.ledgerSlotState slot = 2 ∧ (s.slotSealed slot g).reg O.ledgerSlotGen slot = genNo g ∧
      (s.slotSealed slot g).reg O.ledgerSlotFsn slot = genFsn g ∧
      (s.slotSealed slot g).reg O.ledgerRxJournalState = 1 ∧ (s.slotSealed slot g).latched 487 = true := by
  simp only [State.slotSealed]
  refine ⟨?_, ?_, ?_, ?_, State.latched_raise_self (.inl (by decide))⟩
  · rw [State.raise_reg _ (by decide), State.reg_setReg_obj _ (by decide), State.reg_setReg_obj _ (by decide),
      State.reg_setReg_obj _ (by decide), State.reg_setReg_self]
  · rw [State.raise_reg _ (by decide), State.reg_setReg_obj _ (by decide), State.reg_setReg_obj _ (by decide),
      State.reg_setReg_self]
  · rw [State.raise_reg _ (by decide), State.reg_setReg_obj _ (by decide), State.reg_setReg_self]
  · rw [State.raise_reg _ (by decide), State.reg_setReg_self]

theorem rxSeal_seals {s : State} {w : Who} {d g : List Byte} (ha : Writable s w O.ledgerRxSeal 0) (hd : d.length = 32)
    (hmode : s.sys.mode ≠ .restore) (hst : s.reg O.ledgerSlotState s.led.rxSlot = 1)
    (hg : (s.flashDrain fun u => u.slot != 2).slotBytes s.led.rxSlot = g) (hseal : genSealed g = true)
    (hlen : genLength g ≤ 65536 * s.led.rxNext) (hdig : d = slice g (genLength g - 32) 32) :
    Runs (.rxSealWrite w d) s fun t =>
      t.reg O.ledgerSlotState s.led.rxSlot = 2 ∧ t.reg O.ledgerSlotGen s.led.rxSlot = genNo g ∧
      t.reg O.ledgerSlotFsn s.led.rxSlot = genFsn g ∧ t.reg O.ledgerRxJournalState = 1 ∧
      t.latched 487 = true ∧ t.out.status = 0 := by
  have hpad : padBytes 32 d = d := by
    rw [padBytes, hd, Nat.sub_self, List.replicate_zero, List.append_nil, List.take_of_length_le hd.le]
  obtain ⟨-, -, hnext, -⟩ := s.flashDrain_keeps fun u => u.slot != 2
  have hop := rxSealOp_seals (s := s.fresh) (u := (s.flashDrain fun u => u.slot != 2).fresh) (d := d) hmode hst
    (s.flashDrain_fresh _) hg hseal (hnext ▸ hlen) hdig
  generalize (s.flashDrain fun u => u.slot != 2).fresh = u at hop
  obtain ⟨h1, h2, h3, h4, h5⟩ := u.slotSealed_tells s.led.rxSlot g
  refine runs_of_writeBytes (exec_rxSealWrite s w d) ha (by rintro rfl; exact absurd hd (by decide)) hd.le
    (by rw [hpad]; exact hop) ?_
  simp only [State.reg_withQueue_all, State.reg_answer_all, State.latched_withQueue, State.latched_answer]
  exact ⟨h1, h2, h3, h4, h5, rfl⟩

/-! ### Journal entries (R253) -/

theorem journalRxOp_one {s : State} {d : List Byte} {x : Nat × Nat × List Byte} (hmode : s.sys.mode ≠ .restore)
    (hx : parseEntries 4097 d = some [x]) : journalRxOp d s = s.journalIn x := by
  rw [journalRxOp, if_neg hmode, hx]
  rfl

section
variable {s : State} {w : Who} {d : List Byte} {x : Nat × Nat × List Byte} (ha : Writable s w O.ledgerJournalRx 0)
  (hd : d ≠ []) (hlen : d.length ≤ 65536) (hmode : s.sys.mode ≠ .restore) (hx : parseEntries 4097 d = some [x])
  (hst : s.reg O.ledgerRxJournalState = 1)
include ha hd hlen hmode hx hst

theorem journalRx_kept (hseq : s.led.lastIn = 0 ∨ x.1 = s.led.lastIn + 1)
    (hroom : journalBytes s.led.journalIn + x.2.2.length ≤ 1048576) :
    Runs (.journalRxWrite w d) s fun t =>
      t.led.journalIn = s.led.journalIn ++ [x] ∧ t.led.lastIn = x.1 ∧ t.out.status = 0 ∧ OnlyElems [] s t := by
  have hop : journalRxOp d s.fresh =
      ({ s.fresh with led := { s.fresh.led with journalIn := s.fresh.led.journalIn ++ [x], lastIn := x.1 } }, 0) := by
    rw [journalRxOp_one (s := s.fresh) hmode hx, State.journalIn, if_neg (by simpa using hst), if_neg]
    have hseq' : s.fresh.led.lastIn = 0 ∨ x.1 = s.fresh.led.lastIn + 1 := hseq
    have hroom' : journalBytes s.fresh.led.journalIn + x.2.2.length ≤ 1048576 := hroom
    simp only [Bool.or_eq_true, Bool.and_eq_true, decide_eq_true_eq]
    omega
  exact runs_of_writeBytes (exec_journalRxWrite s w d) ha hd hlen hop ⟨rfl, rfl, rfl, fun _ _ _ _ _ => rfl⟩

theorem journalRx_broken (hlast : s.led.lastIn ≠ 0) (hseq : x.1 ≠ s.led.lastIn + 1) :
    Runs (.journalRxWrite w d) s fun t =>
      t.reg O.ledgerRxJournalState = 2 ∧ t.latched 490 = true ∧ t.out.status = 0x0804 ∧
      t.led.journalIn = s.led.journalIn := by
  have hop : journalRxOp d s.fresh = ((s.fresh.setReg O.ledgerRxJournalState 0 2).raise 490, 0x0804) := by
    rw [journalRxOp_one (s := s.fresh) hmode hx, State.journalIn, if_neg (by simpa using hst), if_pos]
    have hlast' : s.fresh.led.lastIn ≠ 0 := hlast
    have hseq' : x.1 ≠ s.fresh.led.lastIn + 1 := hseq
    simp only [Bool.or_eq_true, Bool.and_eq_true, decide_eq_true_eq]
    exact .inl ⟨hlast', hseq'⟩
  refine runs_of_writeBytes_refused (exec_journalRxWrite s w d) ha hd hlen hop (by decide) ?_
  have hled (t : State) (c : Nat) : (t.refuse w c).led = t.led := by
    simp only [State.refuse]
    split <;> rfl
  rw [State.withQueue_led, hled, State.raise_led, State.reg_withQueue_all, State.latched_withQueue, reg_see,
    State.refuse_see _ _ _ (by simp), ← reg_see, State.raise_reg _ (by decide), State.reg_setReg_self,
    State.latched_see (State.refuse_see _ _ _ (by simp))]
  exact ⟨rfl, State.latched_raise_self (.inl (by decide)), rfl, rfl⟩

end

/-- Settles O12: what a spare takes of a generation and of the journal, and the flash work that stores a segment. -/
theorem ledgerSpare : Obligations.LedgerSpare := by
  unfold Obligations.LedgerSpare
  refine ⟨fun _ _ _ ha hd hlen hmode hnew => rxSegment_first hd hlen hmode ha hnew,
    fun _ _ _ _ ha hd hlen hmode hk hnext hst hin => rxSegment_next hd hlen hmode ha hk hnext hst hin, ?_, ?_,
    fun _ _ _ _ ha hd hlen hmode hx hst hseq hroom => journalRx_kept ha hd hlen hmode hx hst hseq hroom,
    fun _ _ _ _ ha hd hlen hmode hx hst hlast hseq => journalRx_broken ha hd hlen hmode hx hst hlast hseq⟩
  · intro s w k d ha hd hlen hmode hk hnext hslot hst hin hwork
    exact rxSegment_stored hd hlen hmode ha hk hnext hst hin hslot hwork
  · intro s w d g ha hd hmode _ hst hg hseal hlen hdig
    exact rxSeal_seals ha hd hmode hst hg hseal hlen hdig

end Sys2Proof.Machine

/-! Resets, boot and restarts (O15): what a power-on reset keeps, the record that the boot ROM goes by, the slot it
boots, and what a restart of the Keeper leaves. -/

namespace Sys2Proof.Machine

/-! ### A power-on reset (Table 14-10) -/

theorem SMap.find?_filter_keys {β : Type} (p : Nat → Bool) (m : SMap β) (k : Nat) :
    SMap.find? (m.filter fun kv => p kv.1) k = if p k then SMap.find? m k else none := by
  induction m with
  | nil => exact (ite_self none).symm
  | cons x m ih =>
    obtain ⟨j, v⟩ := x
    by_cases hj : j = k
    · subst hj
      by_cases hp : p j = true
      · simp [SMap.find?, hp]
      · rw [List.filter_cons_of_neg (by simpa using hp), ih, if_neg hp, if_neg hp]
    · by_cases hp : p j = true
      · rw [List.filter_cons_of_pos (by simpa using hp), SMap.find?, if_neg hj, ih, SMap.find?, if_neg hj]
      · rw [List.filter_cons_of_neg (by simpa using hp), ih, SMap.find?, if_neg hj]

theorem regKey_div (i e : Nat) : regKey i e / 2 ^ 24 = i := by
  simp only [regKey]
  omega

theorem State.powerOnReset_reg (s : State) (c : Nat) (m d h : Bool) {i e : Nat} (hc : i ≠ O.sysResetCause)
    (hm : i ≠ O.matrixMapsel) :
    (s.powerOnReset c m d h).reg i e = if keptReset i then s.reg i e else unlisted (regKey i e) := by
  unfold State.powerOnReset
  rw [State.reg_setReg_obj _ hm, State.reg_setReg_obj _ hc]
  simp only [State.reg, SMap.get]
  rw [SMap.find?_filter_keys (fun k => keptReset (k / 2 ^ 24)), regKey_div]
  split_ifs <;> rfl

theorem State.powerOnReset_kept (s : State) (c : Nat) (m d h : Bool) {i e : Nat} (hk : keptReset i = true) :
    (s.powerOnReset c m d h).reg i e = s.reg i e := by
  have hc : keptReset O.sysResetCause = false := by decide
  have hm : keptReset O.matrixMapsel = false := by decide
  have hne {j : Nat} (hj : keptReset j = false) : i ≠ j := fun h => by rw [h, hj] at hk; cases hk
  rw [State.powerOnReset_reg s c m d h (hne hc) (hne hm), if_pos hk]

theorem State.powerOnReset_cause (s : State) (c : Nat) (m d h : Bool) :
    (s.powerOnReset c m d h).reg O.sysResetCause = c := by
  unfold State.powerOnReset
  rw [State.reg_setReg_obj _ (by decide), State.reg_setReg_self]

theorem State.powerOnReset_mapsel (s : State) (c : Nat) (m d h : Bool) :
    (s.powerOnReset c m d h).reg O.matrixMapsel = b2n m := by
  unfold State.powerOnReset
  rw [State.reg_setReg_self]

theorem State.powerOnReset_sys (s : State) (c : Nat) (m d h : Bool) :
    (s.powerOnReset c m d h).sys =
      { State.reset.sys with booting := true, porst := h, byPin := decide (c ≠ 1), ddrNone := d } := rfl

theorem State.powerOnReset_clk (s : State) (c : Nat) (m d h : Bool) : (s.powerOnReset c m d h).clk = ⟨0, 0, 0⟩ := rfl

theorem State.powerOnReset_flash (s : State) (c : Nat) (m d h : Bool) :
    (s.powerOnReset c m d h).mem.flash = s.halfRecord := rfl

theorem State.halfRecord_fresh (s : State) : s.fresh.halfRecord = s.halfRecord := by
  simp only [State.halfRecord, State.elapsed_fresh, State.fresh_fw, State.fresh_mem, State.fresh_freeCtr]

theorem State.halfRecord_whole {s : State} (h : s.fw.written = 0 ∨ s.elapsed (s.fw.written - 1) 79627 = true) :
    s.halfRecord = s.mem.flash :=
  if_pos (by simpa using h)

theorem powerOnReset_runs (s : State) (m d : Bool) : Runs (.powerOnReset m d) s fun t =>
    t.sys.mode = .dormant ∧ t.sys.booting = true ∧ t.sys.porst = false ∧ t.sys.fabOn = false ∧ t.sys.ddrNone = d ∧
    t.clk = ⟨0, 0, 0⟩ ∧ t.reg O.sysResetCause = 0 ∧ t.reg O.matrixMapsel = (if m then 1 else 0) ∧
    (∀ i e, keptReset i = true → t.reg i e = s.reg i e) ∧
    (∀ i e, keptReset i = false → i ≠ O.sysResetCause → i ≠ O.matrixMapsel → t.reg i e = unlisted (regKey i e)) ∧
    t.mem.flash = s.halfRecord ∧ t.pending = s.pending ∧
    ((s.fw.written = 0 ∨ s.elapsed (s.fw.written - 1) 79627 = true) → t.mem.flash = s.mem.flash) := by
  refine runs_of_run (exec_powerOnReset s m d) ?_
  have hsys := s.fresh.powerOnReset_sys 0 m d false
  have hclk := s.fresh.powerOnReset_clk 0 m d false
  have hcause := s.fresh.powerOnReset_cause 0 m d false
  have hmap := s.fresh.powerOnReset_mapsel 0 m d false
  have hkept (i e : Nat) := @State.powerOnReset_kept s.fresh 0 m d false i e
  have hreg (i e : Nat) := @State.powerOnReset_reg s.fresh 0 m d false i e
  have hflash := s.fresh.powerOnReset_flash 0 m d false
  generalize s.fresh.powerOnReset 0 m d false = u at *
  have hhalf : s.fresh.halfRecord = s.halfRecord := s.halfRecord_fresh
  simp only [State.withQueue_sys, State.withQueue_clk, State.reg_withQueue_all, State.withQueue_mem, hsys, hclk,
    hflash, hcause, hmap, hhalf]
  refine ⟨rfl, trivial, trivial, rfl, trivial, trivial, trivial, by cases m <;> rfl, fun i e hk => hkept i e hk,
    fun i e hk hc hm => (hreg i e hc hm).trans (if_neg (by simp [hk])), trivial, rfl, State.halfRecord_whole⟩

theorem porstAssert_runs (s : State) : Runs .porstAssert s fun t =>
    t.sys.porst = true ∧ t.sys.booting = true ∧ t.sys.fabEn = false ∧ t.clk = ⟨0, 0, 0⟩ ∧
    (∀ i e, keptReset i = true → t.reg i e = s.reg i e) := by
  refine runs_of_run (exec_porstAssert s) ⟨rfl, rfl, rfl, rfl, fun i e hk => ?_⟩
  exact s.fresh.powerOnReset_kept 0 _ _ true hk

theorem sysReset_runs {s : State} {w : Who} {v : Nat} (ha : Allowed s w O.sysReset 0 v) (hs : s.sys.mode ≠ .service)
    (hr : s.sys.mode ≠ .restore) : Runs (.sysReset w v) s fun t =>
      t.reg O.sysResetCause = 1 ∧ t.sys.booting = true ∧ t.sys.mode = .dormant ∧ t.clk = ⟨0, 0, 0⟩ ∧ t.out.status = 0 := by
  have hop : sysResetOp s.fresh = (s.fresh.powerOnReset 1 (Config.free 33 (2 * s.freeCtr + 0) % 2 == 1)
      (Config.free 33 (2 * s.freeCtr + 1) % 2 == 1) false, 0) := by
    have hmode : ¬ (s.fresh.sys.mode = .service ∨ s.fresh.sys.mode = .restore) := by simp [hs, hr]
    rw [sysResetOp, if_neg hmode]
    rfl
  refine runs_of_write (exec_sysReset s w v) ha hop ⟨?_, rfl, rfl, rfl, rfl⟩
  exact s.fresh.powerOnReset_cause 1 _ _ false

/-! ### The record that governs (R463) -/

/-- The greater of two records' positions, as the search of the boot ROM keeps it. -/
def newerOf (seq : Nat → Nat) (r : Option Nat) (i : Nat) : Option Nat :=
  match r with
  | some j => if seq j < seq i then some i else r
  | none => some i

/-- SEQ of the record at a position. -/
def State.seqAt (s : State) (i : Nat) : Nat := fld (getMem 0xFF s.mem.flash (256 * i + 4) 6) 0 6

theorem State.newestRecord_eq (s : State) (l : List Nat) :
    s.newestRecord l = (l.filter s.recordOk).foldl (newerOf s.seqAt) none := rfl

theorem newerOf_foldl_some (seq : Nat → Nat) (l : List Nat) (j : Nat) :
    ∃ i, l.foldl (newerOf seq) (some j) = some i ∧ (i = j ∨ i ∈ l) ∧ seq j ≤ seq i ∧ ∀ k ∈ l, seq k ≤ seq i := by
  induction l generalizing j with
  | nil => exact ⟨j, rfl, .inl rfl, le_rfl, by simp⟩
  | cons a l ih =>
    by_cases h : seq j < seq a
    · obtain ⟨i, hi, hmem, hle, hall⟩ := ih a
      refine ⟨i, by rwa [List.foldl_cons, newerOf, if_pos h], ?_, h.le.trans hle, ?_⟩
      · rcases hmem with rfl | hmem
        · exact .inr List.mem_cons_self
        · exact .inr (List.mem_cons_of_mem _ hmem)
      · simpa using ⟨hle, hall⟩
    · obtain ⟨i, hi, hmem, hle, hall⟩ := ih j
      refine ⟨i, by rwa [List.foldl_cons, newerOf, if_neg h], hmem.imp_right (List.mem_cons_of_mem _), hle, ?_⟩
      simpa using ⟨(not_lt.mp h).trans hle, hall⟩

theorem newerOf_foldl_cons (seq : Nat → Nat) (a : Nat) (l : List Nat) :
    ∃ i ∈ a :: l, (a :: l).foldl (newerOf seq) none = some i ∧ ∀ k ∈ a :: l, seq k ≤ seq i := by
  obtain ⟨i, hi, hmem, hle, hall⟩ := newerOf_foldl_some seq l a
  exact ⟨i, by simpa using hmem, hi, by simpa using ⟨hle, hall⟩⟩

theorem State.newestRecord_some {s : State} {l : List Nat} {i : Nat} (h : s.newestRecord l = some i) :
    i ∈ l ∧ s.recordOk i = true ∧ ∀ j ∈ l, s.recordOk j = true → s.seqAt j ≤ s.seqAt i := by
  rw [State.newestRecord_eq] at h
  cases hl : l.filter s.recordOk with
  | nil => rw [hl] at h; cases h
  | cons a r =>
    obtain ⟨k, hk, hfold, hall⟩ := newerOf_foldl_cons s.seqAt a r
    rw [hl, hfold] at h
    cases h
    rw [← hl] at hk hall
    obtain ⟨hmem, hok⟩ := List.mem_filter.mp hk
    exact ⟨hmem, hok, fun j hj hjok => hall j (List.mem_filter.mpr ⟨hj, hjok⟩)⟩

theorem State.newestRecord_none (s : State) (l : List Nat) :
    s.newestRecord l = none ↔ ∀ j ∈ l, s.recordOk j = false := by
  rw [State.newestRecord_eq]
  cases hl : l.filter s.recordOk with
  | nil => simpa [List.filter_eq_nil_iff] using hl
  | cons a r =>
    obtain ⟨k, hk, hfold, -⟩ := newerOf_foldl_cons s.seqAt a r
    rw [← hl] at hk
    obtain ⟨hmem, hok⟩ := List.mem_filter.mp hk
    rw [hfold]
    exact ⟨fun h => (by cases h), fun h => by rw [h k hmem] at hok; cases hok⟩

/-! ### The slot that is booted (R464) -/

section
variable {s t : State}

theorem State.verifySlot_congr (hmem : t.mem = s.mem) (hfw : t.fw = s.fw)
    (hrev : t.reg O.secKeyRevoked = s.reg O.secKeyRevoked) (hfloor : t.reg O.secSvnFloor = s.reg O.secSvnFloor)
    (hsvn : ∀ k, t.reg O.fwSlotSvn k = s.reg O.fwSlotSvn k) (k : Nat) (a b : Bool) :
    t.verifySlot k a b = s.verifySlot k a b := by
  have hread : t.slotRead = s.slotRead := funext fun _ => by unfold State.slotRead; rw [hmem]
  have hbytes : t.verifyBytes k a b = s.verifyBytes k a b := by
    unfold State.verifyBytes
    rw [hread, hrev, hfloor]
  have hshipped : t.verifyShipped k = s.verifyShipped k := by
    unfold State.verifyShipped
    rw [hrev, hfloor, hsvn]
  rw [State.verifySlot, State.verifySlot, State.ownImage, State.ownImage, hfw, hbytes, hshipped]

/-- Two states hold one object alike. -/
def SameObj (i : Nat) (t s : State) : Prop := ∀ e, t.reg i e = s.reg i e

theorem SameObj.setReg {i : Nat} (h : SameObj i t s) (j f v : Nat) : SameObj i (t.setReg j f v) (s.setReg j f v) := by
  intro e
  have he := h e
  simp only [State.reg] at he
  simp only [State.reg, State.setReg]
  by_cases hk : regKey i e = regKey j f
  · rw [hk, SMap.get_set_self, SMap.get_set_self]
  · rw [SMap.get_set_ne _ _ _ _ hk, SMap.get_set_ne _ _ _ _ hk, he]

theorem State.bootSearch_congr (h : t.mem = s.mem) : t.bootSearch = s.bootSearch := by
  have hok : t.recordOk = s.recordOk := funext fun i => by simp only [State.recordOk, h]
  have hseq : t.seqAt = s.seqAt := funext fun i => by simp only [State.seqAt, h]
  simp only [State.bootSearch, State.newestRecord_eq, hok, hseq, h]

theorem SameObj.bootLoad (hmem : t.mem = s.mem) (hst : SameObj O.fwSlotState t s) {i : Nat} (h : SameObj i t s) :
    SameObj i t.bootLoad s.bootLoad := by
  unfold State.bootLoad
  rw [State.bootSearch_congr hmem]
  cases s.bootSearch with
  | none => exact h
  | some b =>
    dsimp only
    rw [(((hst.setReg _ _ _).setReg _ _ _).setReg _ _ _).setReg _ _ _ (fld b 10 1 % 2)]
    exact (((((h.setReg _ _ _).setReg _ _ _).setReg _ _ _).setReg _ _ _).setReg _ _ _).setReg _ _ _

/-- The first slot in a state. -/
def State.slotIn (s : State) (v : Nat) : Option Nat :=
  if s.reg O.fwSlotState 0 = v then some 0 else if s.reg O.fwSlotState 1 = v then some 1 else none

/-- The trial of slot `k` has begun. -/
def State.trialBegun (s : State) (k : Nat) : State :=
  let s := (s.setSlot k 4).runSlot k 0
  let s := { s with fw := { s.fw with trialTick := s.tick, fallback := false } }
  let s := (s.setReg O.fwTrialLeft 0 (s.reg O.fwTrialTime)).setReg O.fwUpdateState 0 5
  let s := if s.acting 2 then s else s.actStart 2 0xFE
  (s.descriptor).raise 505

/-- Slot `k` is booted as a trial, where it verifies. -/
def State.trialBoot (s : State) (k : Nat) : State :=
  let s := s.trialBegun k
  if s.verifySlot k true false = 0 then s
  else (((s.setReg O.fwTrialLeft 0 0).setReg O.fwUpdateState 0 6).raise 504 |>.fallBack k).fwTokEnd

/-- A trial that has ended without confirmation falls back. -/
def State.trialLost (s : State) (k : Nat) : State :=
  let s := { s with fw := { s.fw with fallback := false } }
  let s := (s.setReg O.fwTrialLeft 0 0).setReg O.fwUpdateState 0 6
  (s.fallBack k).fwTokEnd

/-- FW.UPDATE_STATE shows an image that is staged. -/
def State.stagedShown (s : State) : State :=
  if s.reg O.fwSlotState 0 = 2 || s.reg O.fwSlotState 1 = 2 then s.setReg O.fwUpdateState 0 4 else s

/-- The ACTIVE slot is booted, where it verifies. -/
def State.activeBoot (s : State) : State :=
  let t := s.stagedShown
  if t.verifySlot s.activeSlot true false = 0 then t.runSlot s.activeSlot 0 else (t.raise 504).fallBack s.activeSlot

theorem State.bootChoose_eq (s : State) : s.bootChoose =
    match s.bootLoad.slotIn 3, s.bootLoad.slotIn 4 with
    | some k, _ => s.bootLoad.trialBoot k
    | none, some k => s.bootLoad.trialLost k
    | none, none => s.bootLoad.activeBoot := by
  unfold State.bootChoose State.slotIn State.trialBoot State.trialBegun State.trialLost State.activeBoot State.stagedShown
  rfl

theorem State.bootChoose_active {u : State} (hu : s.bootLoad = u) (h0 : u.reg O.fwSlotState 0 = 5)
    (h1 : u.reg O.fwSlotState 1 = 0 ∨ u.reg O.fwSlotState 1 = 5) (hrun : u.reg O.fwRunning = 0)
    (hv : u.verifySlot 0 true false = 0) : s.bootChoose = u.runSlot 0 0 := by
  have h3 : u.reg O.fwSlotState 1 ≠ 3 := by omega
  have h4 : u.reg O.fwSlotState 1 ≠ 4 := by omega
  have h2 : u.reg O.fwSlotState 1 ≠ 2 := by omega
  simp [State.bootChoose, State.activeSlot, hu, h0, h2, h3, h4, hrun, hv]

end

/-! ### The firmware starts (Table 14-3 steps 6 and 7, R472) -/

/-- The steps of the firmware's start before it enters DORMANT. -/
def State.started (s : State) : State := (s.mirrorCheck.burnLeaf).slotsAfterReset

theorem State.started_see (s : State) {z : View}
    (h : z.place ∉ [.obj O.eventCount, .obj O.eventLastTime, .obj O.eventLatch, .obj O.hdpStats,
      .obj O.ledgerRxJournalState, .obj O.ledgerSlotState, .obj O.secLeafNext, .obj O.secReservations]) :
    s.started.see z = s.see z := by
  simp only [notMem_cons, notMem_nil, and_true] at h
  simp [State.started, h]

/-- The promotion that SYS.RESUME asks for goes on. -/
def State.resumed (s : State) (k : Nat) : State := { s with sys := { s.sys with promoting := k } }

theorem State.bootEnd_eq (s : State) : s.bootEnd =
    if s.sys.recovery then s
    else
      let u := s.started.enter .dormant
      if 2 ≤ u.reg O.sysResume then ((u.resumed (u.reg O.sysResume - 1)).startWake).promoteStep 1
      else if u.reg O.sysResume = 1 || u.reg O.sysWakeAuto = 1 then u.startWake
      else u := by
  unfold State.bootEnd State.started State.resumed
  rfl

/-- Where nothing asks for a wake the firmware stays in DORMANT. -/
theorem State.bootEnd_dormant {s : State} (hrec : s.sys.recovery = false) (hres : s.reg O.sysResume = 0)
    (hauto : s.reg O.sysWakeAuto = 0) :
    s.bootEnd = s.started.enter .dormant := by
  have hreg (i : Nat) (h : i = O.sysResume ∨ i = O.sysWakeAuto) :
      (s.started.enter .dormant).reg i = s.reg i := by
    rcases h with rfl | rfl <;>
      rw [reg_see, State.enter_see _ _ (by simp), State.started_see _ (by simp), ← reg_see]
  unfold State.started at hreg ⊢
  unfold State.bootEnd
  rw [if_neg (by simp [hrec])]
  dsimp only
  rw [hreg _ (.inl rfl), hreg _ (.inr rfl), hres, hauto, if_neg (by decide), if_neg (by decide)]

theorem State.runSlot_tells (s : State) (k b : Nat) :
    (s.runSlot k b).sys = { s.sys with recovery := false } ∧ (s.runSlot k b).reg O.fwRunning = k ∧
      (s.runSlot k b).reg O.fwBootState = b ∧ (s.runSlot k b).reg O.identFwVersion = s.reg O.fwSlotVersion k := by
  unfold State.runSlot
  refine ⟨rfl, ?_, ?_, ?_⟩
  · rw [State.reg_setReg_obj _ (by decide), State.reg_setReg_obj _ (by decide), State.reg_setReg_self]
  · rw [State.reg_setReg_obj _ (by decide), State.reg_setReg_self]
  · rw [State.reg_setReg_self]
    rfl

/-- The boot has given up its control of the device. -/
def State.bootOver (s : State) : State := { s with sys := { s.sys with booting := false } }

theorem State.flashProbe_keeps (s : State) {i : Nat} (h : evObj i = false) : SameObj i s.flashProbe s := by
  intro e
  unfold State.flashProbe
  split_ifs
  · rfl
  · exact s.raise_reg h

theorem State.bootComplete_eq {s : State} (hboot : s.sys.booting = true) (hporst : s.sys.porst = false) :
    s.bootComplete = (s.bootOver.flashProbe.bootChoose).bootEnd := by
  rw [State.bootComplete, if_neg (by simp [hboot, hporst])]
  rfl

section
variable {s u : State} (hload : s.bootLoad = u) (hboot : s.sys.booting = true) (hporst : s.sys.porst = false)
  (hrun : u.reg O.fwRunning = 0) (h0 : u.reg O.fwSlotState 0 = 5)
  (h1 : u.reg O.fwSlotState 1 = 0 ∨ u.reg O.fwSlotState 1 = 5) (hv : u.verifySlot 0 true false = 0)
include hload hrun h0 h1 hv

/-- What reading the SFDP table raises has no part in the choice of the slot. -/
theorem State.bootChoose_slot0 {x : State} (hmem : x.mem = s.mem) (hfw : x.fw = s.fw)
    (hreg : ∀ i, evObj i = false → SameObj i x s) : x.bootChoose = (x.bootLoad).runSlot 0 0 := by
  have hobj {i : Nat} (h : evObj i = false) : SameObj i x.bootLoad u :=
    hload ▸ SameObj.bootLoad hmem (hreg _ (by decide)) (hreg i h)
  have hverify : x.bootLoad.verifySlot 0 true false = u.verifySlot 0 true false := by
    subst hload
    refine State.verifySlot_congr ?_ ?_ (hobj (by decide) 0) (hobj (by decide) 0) (fun k => hobj (by decide) k) 0 _ _
    · exact (State.bootLoad_see (z := .part .mem) x (by simp)).trans
        (hmem.trans (State.bootLoad_see (z := .part .mem) s (by simp)).symm)
    · exact (State.bootLoad_see (z := .part .fw) x (by simp)).trans
        (hfw.trans (State.bootLoad_see (z := .part .fw) s (by simp)).symm)
  refine State.bootChoose_active rfl ?_ ?_ ?_ (hverify.trans hv)
  · rw [hobj (by decide) 0, h0]
  · rwa [hobj (by decide) 1]
  · rw [hobj (by decide) 0, hrun]

include hboot hporst

theorem bootComplete_runs (hres : u.reg O.sysResume = 0) (hauto : s.reg O.sysWakeAuto = 0) :
    Runs .bootComplete s fun t =>
      t.sys.booting = false ∧ t.sys.mode = .dormant ∧ t.sys.recovery = false ∧ t.reg O.fwRunning = 0 ∧
      t.reg O.fwBootState = 0 ∧ t.reg O.identFwVersion = u.reg O.fwSlotVersion 0 ∧ t.latched 503 = true := by
  have hprobe {i : Nat} (h : evObj i = false) : SameObj i s.fresh.bootOver.flashProbe s := fun e =>
    (State.flashProbe_keeps _ h e).trans rfl
  generalize hx : s.fresh.bootOver.flashProbe = x at hprobe
  have hxmem : x.mem = s.mem := hx ▸ State.flashProbe_see (z := .part .mem) _ (by simp)
  have hxfw : x.fw = s.fw := hx ▸ State.flashProbe_see (z := .part .fw) _ (by simp)
  have hxsys : x.sys = s.bootOver.sys := hx ▸ State.flashProbe_see (z := .part .sys) _ (by simp)
  have hchoose := State.bootChoose_slot0 hload hrun h0 h1 hv hxmem hxfw fun i h => hprobe h
  have hobj {i : Nat} (h : evObj i = false) : SameObj i x.bootLoad u :=
    hload ▸ SameObj.bootLoad hxmem (hprobe (by decide)) (hprobe h)
  have hysys : x.bootLoad.sys = s.bootOver.sys :=
    (State.sys_of_see (State.bootLoad_see x (by simp))).trans hxsys
  have hyres : x.bootLoad.reg O.sysResume = 0 := (hobj (by decide) 0).trans hres
  have hyauto : x.bootLoad.reg O.sysWakeAuto = 0 := by
    rw [reg_see, State.bootLoad_see _ (by simp), ← reg_see, hprobe (by decide) 0, hauto]
  have hyver : x.bootLoad.reg O.fwSlotVersion 0 = u.reg O.fwSlotVersion 0 := hobj (by decide) 0
  generalize x.bootLoad = y at *
  obtain ⟨hzsys, hzrun, hzboot, hzver⟩ := y.runSlot_tells 0 0
  have hzreg (i : Nat) (h : i = O.sysResume ∨ i = O.sysWakeAuto) : (y.runSlot 0 0).reg i = y.reg i := by
    rcases h with rfl | rfl <;> rw [reg_see, State.runSlot_see _ _ _ (by simp), ← reg_see]
  have hend := State.bootEnd_dormant (s := y.runSlot 0 0) (by rw [hzsys]) ((hzreg _ (.inl rfl)).trans hyres)
    ((hzreg _ (.inr rfl)).trans hyauto)
  generalize y.runSlot 0 0 = z at *
  have hfin : s.fresh.bootComplete = z.started.enter .dormant := by
    rw [State.bootComplete_eq (s := s.fresh) hboot hporst, hx, hchoose, hend]
  have hsys : (z.started.enter .dormant).sys = { z.sys with mode := .dormant } :=
    (State.enter_sys _ _).trans (congrArg (fun q : SysS => { q with mode := .dormant })
      (State.sys_of_see (State.started_see z (by simp))))
  refine runs_of_run (exec_bootComplete s) ?_
  rw [hfin]
  simp only [State.withQueue_sys, State.reg_withQueue_all, State.latched_withQueue, hsys, hzsys, hysys]
  have hkeep (i : Nat) (h : i = O.fwRunning ∨ i = O.fwBootState ∨ i = O.identFwVersion) :
      (z.started.enter .dormant).reg i = z.reg i := by
    rcases h with rfl | rfl | rfl <;>
      rw [reg_see, State.enter_see _ _ (by simp), State.started_see _ (by simp), ← reg_see]
  refine ⟨rfl, trivial, trivial, ?_, ?_, ?_, State.enter_latches _ _⟩
  · rw [hkeep _ (.inl rfl), hzrun]
  · rw [hkeep _ (.inr (.inl rfl)), hzboot]
  · rw [hkeep _ (.inr (.inr rfl)), hzver, hyver]

end

/-! ### A restart of the Keeper (R465, R470, Table 14-10) -/

/-- The bulk transfers, and what each session subscribes to. -/
def State.subscribed (s : State) : List Bulk × (Nat → Nat) := (s.hdp.bulk, fun k => (s.session k).sub)

section
variable (s : State)

theorem State.subscribed_of_hdp {s t : State} (h : t.hdp = s.hdp) : t.subscribed = s.subscribed := by
  simp only [State.subscribed, State.session, h]

theorem State.subscribed_setReg (i e v : Nat) : (s.setReg i e v).subscribed = s.subscribed :=
  State.subscribed_of_hdp (s.setReg_hdp i e v)

theorem Ses.notice_sub (x : Ses) (ev now : Nat) : (x.notice ev now).sub = x.sub := by
  simp only [Ses.notice]
  split_ifs <;> rfl

theorem State.subscribed_setSession {k : Nat} {x : Ses} (h : x.sub = (s.session k).sub) :
    (s.setSession k x).subscribed = s.subscribed := by
  refine Prod.ext rfl (funext fun j => ?_)
  simp only [State.subscribed, State.session, State.setSession] at h ⊢
  by_cases hj : j = k
  · rw [hj, SMap.get_set_self, h]
  · rw [SMap.get_set_ne _ _ _ _ hj]

/-- An event is put into the queues of those who subscribe to it; nobody's subscription changes. -/
theorem State.subscribed_raise (ev : Nat) : (s.raise ev).subscribed = s.subscribed := by
  have hlatch (a : State) (e : Nat) : (a.latch e).subscribed = a.subscribed :=
    State.subscribed_of_hdp (a.latch_hdp e)
  simp only [State.raise]
  split_ifs
  · rfl
  · refine ((s.latch ev).notifyAll_same State.subscribed ev fun a e => ?_).trans (hlatch s ev)
    refine foldRange_same (fun t : State × Nat => t.1.subscribed) 8 _ (a, 0) fun b k => ?_
    have hset := b.1.subscribed_setSession (k := k) ((b.1.session k).notice_sub e b.1.nowTime)
    simp only []
    split_ifs
    · exact (State.subscribed_of_hdp (State.bump_hdp _ _ _ _ _)).trans ((hlatch _ _).trans hset)
    · exact hset
    · rfl

theorem State.subscribed_started : s.started.subscribed = s.subscribed := by
  have hslots (a : State) : a.slotsAfterReset.subscribed = a.subscribed := by
    rw [State.slotsAfterReset, State.subscribed_setReg]
    refine foldRange_same State.subscribed 2 _ a fun b k => ?_
    split_ifs
    · exact b.subscribed_setReg _ _ _
    · rfl
  have hburn (a : State) : a.burnLeaf.subscribed = a.subscribed := by
    simp only [State.burnLeaf]
    split_ifs
    · rw [State.subscribed_setReg, State.subscribed_setReg]
    · rw [State.subscribed_setReg]
  have hmirror : s.mirrorCheck.subscribed = s.subscribed := by
    simp only [State.mirrorCheck]
    split_ifs
    · exact s.subscribed_raise _
    · rfl
  exact (hslots _).trans ((hburn _).trans hmirror)

theorem State.subscribed_enter (m : Mode) : (s.enter m).subscribed = s.subscribed := by
  have hentered : (s.entered m).subscribed = s.subscribed := by
    rw [State.entered, State.subscribed_raise, State.subscribed_setReg]
    rfl
  rw [State.enter_eq]
  split_ifs
  · exact hentered
  · rw [State.subscribed_raise, State.subscribed_setReg, hentered]

theorem State.subscribed_promoteStep (n : Nat) : (s.promoteStep n).subscribed = s.subscribed := by
  simp only [State.promoteStep]
  split_ifs
  · rfl
  · rw [State.subscribed_raise, State.subscribed_setReg]

theorem State.subscribed_startWake : s.startWake.subscribed = s.subscribed := by
  rw [State.startWake, State.subscribed_enter, State.subscribed_setReg]
  rfl

theorem State.subscribed_bootEnd : s.bootEnd.subscribed = s.subscribed := by
  have hdormant : (s.started.enter .dormant).subscribed = s.subscribed :=
    (State.subscribed_enter _ _).trans s.subscribed_started
  rw [State.bootEnd_eq]
  generalize s.started.enter .dormant = u at hdormant
  dsimp only
  split_ifs
  · rfl
  · rw [State.subscribed_promoteStep, State.subscribed_startWake]
    exact hdormant
  · rw [State.subscribed_startWake, hdormant]
  · exact hdormant

/-! What the boot ROM's choice and the firmware's start leave of the modes. -/

/-- A boot changes the modes but not that the Keeper restarts. -/
theorem State.bootEnd_restarting : s.bootEnd.sys.restarting = s.sys.restarting := by
  have hwake (a : State) : a.startWake.sys.restarting = a.sys.restarting := by
    rw [State.startWake, State.enter_sys]
    rfl
  have hdormant : (s.started.enter .dormant).sys.restarting = s.sys.restarting := by
    rw [State.enter_sys, State.sys_of_see (State.started_see s (by simp))]
  rw [State.bootEnd_eq]
  generalize s.started.enter .dormant = u at hdormant
  dsimp only
  split_ifs
  · rfl
  · rw [State.promoteStep_sys, hwake]
    exact hdormant
  · rw [hwake, hdormant]
  · exact hdormant

/-- The modes but for the hold of the boot ROM. -/
def State.modes (s : State) : SysS := { s.sys with recovery := false }

theorem State.modes_of_sys {s t : State} (h : t.sys = s.sys) : t.modes = s.modes := by
  rw [State.modes, h, State.modes]

theorem State.modes_see {s t : State} (h : t.see (.part .sys) = s.see (.part .sys)) : t.modes = s.modes :=
  State.modes_of_sys h

theorem State.modes_runSlot (k b : Nat) : (s.runSlot k b).modes = s.modes := rfl

theorem State.modes_noSlot : s.noSlot.modes = s.modes := rfl

theorem State.modes_raise (ev : Nat) : (s.raise ev).modes = s.modes := State.modes_of_sys (s.raise_sys ev)

theorem State.modes_descriptor : s.descriptor.modes = s.modes := State.modes_see (s.descriptor_see (by simp))

theorem State.modes_fwTokEnd : s.fwTokEnd.modes = s.modes := State.modes_see (s.fwTokEnd_see (by simp))

theorem State.modes_fallBack (bad : Nat) : (s.fallBack bad).modes = s.modes := by
  simp only [State.fallBack]
  split_ifs
  · rfl
  · exact State.modes_raise _ _
  · rw [State.modes_noSlot, State.modes_raise, State.modes_descriptor]
    rfl

theorem State.modes_bootLoad : s.bootLoad.modes = s.modes := State.modes_see (s.bootLoad_see (by simp))

theorem State.modes_actStart (d h : Nat) : (s.actStart d h).modes = s.modes := State.modes_of_sys (s.actStart_sys d h)

theorem State.modes_setReg (i e v : Nat) : (s.setReg i e v).modes = s.modes := rfl

theorem State.modes_withFw (f : FwS) : ({ s with fw := f } : State).modes = s.modes := rfl

/-- The boot ROM's choice changes none of the modes but its own hold. -/
theorem State.modes_bootChoose : s.bootChoose.modes = s.modes := by
  rw [State.bootChoose_eq, ← s.modes_bootLoad]
  generalize s.bootLoad = u
  have hbegun (k : Nat) : (u.trialBegun k).modes = u.modes := by
    simp only [State.trialBegun]
    rw [State.modes_raise, State.modes_descriptor]
    have hrun : ((u.setSlot k 4).runSlot k 0).modes = u.modes := rfl
    generalize (u.setSlot k 4).runSlot k 0 = v at hrun
    split_ifs
    · rw [State.modes_setReg, State.modes_setReg]
      exact (v.modes_withFw _).trans hrun
    · rw [State.modes_actStart, State.modes_setReg, State.modes_setReg]
      exact (v.modes_withFw _).trans hrun
  cases u.slotIn 3 with
  | some k =>
    simp only [State.trialBoot]
    split_ifs
    · exact hbegun k
    · rw [State.modes_fwTokEnd, State.modes_fallBack, State.modes_raise, State.modes_setReg, State.modes_setReg]
      exact hbegun k
  | none =>
    cases u.slotIn 4 with
    | some k =>
      simp only [State.trialLost]
      rw [State.modes_fwTokEnd, State.modes_fallBack, State.modes_setReg, State.modes_setReg]
      exact u.modes_withFw _
    | none =>
      have hstaged : u.stagedShown.modes = u.modes := by
        simp only [State.stagedShown]
        split_ifs <;> rfl
      simp only [State.activeBoot]
      split_ifs
      · exact hstaged
      · rw [State.modes_fallBack, State.modes_raise, hstaged]

end

theorem State.modes_flashProbe (s : State) : s.flashProbe.modes = s.modes := State.modes_see (s.flashProbe_see (by simp))

/-- The cores are up again: the Keeper no longer restarts, and says that it did (Table 14-10). -/
def State.restarted (s : State) : State :=
  ({ s with sys := { s.sys with restarting := false } }).setReg O.sysResetCause 0 2

/-- The state that a restart leaves before the firmware goes on from RECOVERY or in RESTORE. -/
def State.rebooted (s : State) : State := (s.restarted.flashProbe.bootChoose).sessionsDropped

theorem State.modes_sessionsDropped (s : State) : s.sessionsDropped.modes = s.modes := rfl

theorem State.sessionsDropped_reg (s : State) (i e : Nat) : s.sessionsDropped.reg i e = s.reg i e := rfl

theorem State.rebooted_modes (s : State) :
    s.rebooted.sys.restarting = false ∧ s.rebooted.sys.mode = s.sys.mode := by
  have h : s.rebooted.modes = s.restarted.modes := by
    rw [State.rebooted, State.modes_sessionsDropped, State.modes_bootChoose, State.modes_flashProbe]
  have hr : s.restarted.modes = { s.modes with restarting := false } := rfl
  rw [hr] at h
  generalize s.rebooted = u at h
  exact ⟨(congrArg SysS.restarting h :), (congrArg SysS.mode h :)⟩

theorem State.rebooted_cause (s : State) : s.rebooted.reg O.sysResetCause = 2 := by
  rw [State.rebooted, State.sessionsDropped_reg, reg_see, State.bootChoose_see _ (by simp),
    State.flashProbe_see _ (by simp), ← reg_see, State.restarted, State.reg_setReg_self]

theorem SMap.find?_map {β γ : Type} (f : β → γ) (m : SMap β) (k : Nat) :
    SMap.find? (m.map fun x => (x.1, f x.2)) k = (SMap.find? m k).map f := by
  induction m with
  | nil => rfl
  | cons x m ih =>
    obtain ⟨j, v⟩ := x
    by_cases hj : j = k
    · simp [SMap.find?, hj]
    · rw [List.map_cons, SMap.find?, if_neg hj, ih, SMap.find?, if_neg hj]

/-- A session without its subscription and what waits for it. -/
def Ses.dropped (x : Ses) : Ses := { x with sub := 0, queue := [], lost := false }

theorem State.sessionsDropped_ses (s : State) :
    s.sessionsDropped.hdp.ses = s.hdp.ses.map fun x => (x.1, x.2.dropped) := rfl

theorem State.rebooted_subscribed (s : State) : s.rebooted.subscribed = ([], fun _ => 0) := by
  refine Prod.ext rfl (funext fun k => ?_)
  simp only [State.subscribed, State.session, State.rebooted, State.sessionsDropped_ses, SMap.get]
  rw [SMap.find?_map]
  cases SMap.find? s.restarted.flashProbe.bootChoose.hdp.ses k <;> rfl

theorem State.restartDone_eq {s : State} (h : s.sys.restarting = true) : s.restartDone =
    if s.sys.recovery then s.rebooted.bootEnd
    else if s.rebooted.sys.mode = .restore then s.rebooted.restoreBegin else s.rebooted := by
  rw [State.restartDone, if_neg (by simp [h])]
  rfl

theorem keeperRestartDone_runs {s : State} (hr : s.sys.restarting = true) (hm : s.sys.mode ≠ .restore) :
    Runs .keeperRestartDone s fun t =>
      t.sys.restarting = false ∧ t.reg O.sysResetCause = 2 ∧ t.hdp.bulk = [] ∧ (∀ k, (t.session k).sub = 0) := by
  obtain ⟨hrest, hmode⟩ := s.fresh.rebooted_modes
  have hcause := s.fresh.rebooted_cause
  have hsub := s.fresh.rebooted_subscribed
  refine runs_of_run (exec_keeperRestartDone s) ?_
  rw [State.restartDone_eq (s := s.fresh) hr]
  generalize s.fresh.rebooted = u at *
  have hm' : u.sys.mode ≠ .restore := hmode ▸ hm
  have hfin (t : State) (h1 : t.sys.restarting = false) (h2 : t.reg O.sysResetCause = 2)
      (h3 : t.subscribed = ([], fun _ => 0)) :
      t.sys.restarting = false ∧ t.reg O.sysResetCause = 2 ∧ t.hdp.bulk = [] ∧ (∀ k, (t.session k).sub = 0) :=
    ⟨h1, h2, congrArg Prod.fst h3, fun k => congrFun (congrArg Prod.snd h3) k⟩
  split_ifs
  · refine hfin _ (u.bootEnd_restarting.trans hrest) ?_ (u.subscribed_bootEnd.trans hsub)
    rw [State.reg_withQueue_all, reg_see, State.bootEnd_see _ (by simp), ← reg_see, hcause]
  · exact hfin _ hrest hcause hsub

/-! ### The watchdogs (R353) -/

theorem watchdogExpiry_runs {s : State} {c : Nat} (hc : c < 2) (hu : s.reg O.fwUpdateState ≠ 5)
    (hm : s.sys.mode ≠ .restore) : Runs (.watchdogExpiry c) s fun t =>
      t.reg O.keeperWdogCount c = (s.reg O.keeperWdogCount c + 1) % 2 ^ 32 ∧ t.reg O.sysResetCause = 3 ∧
      t.reg O.matrixMasterState c = 1 ∧ (s.sys.fabOn = true → t.latched 470 = true) := by
  have hsys : (s.fresh.masterEnter c).sys = s.sys := State.masterEnter_see (z := .part .sys) s.fresh c (by simp)
  have hkeep (i e : Nat) (h : i = O.fwUpdateState ∨ i = O.keeperWdogCount) :
      (s.fresh.masterEnter c).reg i e = s.reg i e := by
    rcases h with rfl | rfl <;> rw [reg_see, State.masterEnter_see _ _ (by simp)] <;> rfl
  have hstate : (s.fresh.masterEnter c).reg O.matrixMasterState c = 1 := by
    by_cases h : s.fresh.reg O.matrixMasterState c = 1
    · rw [State.masterEnter, if_pos h, h]
    · rw [State.masterEnter_reg c (by omega) (by omega) h, if_pos rfl]
  refine runs_of_runIn (exec_watchdogExpiry s c) hc ?_
  rw [State.watchdog]
  generalize s.fresh.masterEnter c = u at *
  generalize hw : ((u.bump O.keeperWdogCount c 32).setReg O.sysResetCause 0 3).raise 470 = w
  have hwsys : w.sys = s.sys := hw ▸ (State.raise_sys _ _).trans hsys
  have hwreg {i : Nat} (e : Nat) (h : evObj i = false) :
      w.reg i e = ((u.bump O.keeperWdogCount c 32).setReg O.sysResetCause 0 3).reg i e := hw ▸ State.raise_reg _ h
  rw [if_neg, if_neg (by simp [hwsys, hm])]
  · simp only [State.reg_withQueue_all, State.latched_withQueue]
    refine ⟨?_, ?_, ?_, fun hon => hw ▸ State.latched_raise_self (.inr (hsys.symm ▸ hon))⟩
    · rw [hwreg _ (by decide), State.reg_setReg_obj _ (by decide), State.bump, State.reg_setReg_self,
        hkeep _ _ (.inr rfl)]
    · rw [hwreg _ (by decide), State.reg_setReg_self]
    · rw [hwreg _ (by decide), State.reg_setReg_obj _ (by decide), State.bump, State.reg_setReg_obj _ (by decide),
        hstate]
  · rw [hwreg _ (by decide), State.reg_setReg_obj _ (by decide), State.bump, State.reg_setReg_obj _ (by decide),
      hkeep _ _ (.inl rfl)]
    exact hu

/-- Settles O15: power-on resets, the record that governs, a boot, a restart of the Keeper and the watchdogs. -/
theorem resetsAndBoot : Obligations.ResetsAndBoot := by
  unfold Obligations.ResetsAndBoot
  refine ⟨powerOnReset_runs, fun _ _ _ h => State.newestRecord_some h, fun s l => s.newestRecord_none l,
    porstAssert_runs, fun _ _ _ ha hs hr => sysReset_runs ha hs hr, ?_, fun _ hr hm => keeperRestartDone_runs hr hm,
    fun _ _ hc hu hm => watchdogExpiry_runs hc hu hm⟩
  intro s u hload hboot hporst _ hrun h0 h1 hv hres hauto
  exact bootComplete_runs hload hboot hporst hrun h0 h1 hv hres hauto

end Sys2Proof.Machine

/-! Updates of the firmware (O17): the flash work of the update, its commands, and the trial that follows. -/

namespace Sys2Proof.Machine

/-! ### Bytes put into the flash (R487) -/

theorem putMem_cons (d : Nat) (m : SMap Nat) (o : Nat) (b : Byte) (l : List Byte) :
    putMem d m o (b :: l) = putMem d (SMap.set d m o b.toNat) (o + 1) l := rfl

theorem putMem_get (d : Nat) (l : List Byte) (m : SMap Nat) (o a : Nat) : SMap.get d (putMem d m o l) a =
    if o ≤ a ∧ a < o + l.length then (l.getD (a - o) 0).toNat else SMap.get d m a := by
  induction l generalizing m o with
  | nil => exact (if_neg (by rw [List.length_nil]; omega)).symm
  | cons b l ih =>
    rw [putMem_cons, ih, List.length_cons]
    by_cases ha : a = o
    · subst ha
      rw [if_neg (by omega), if_pos (by omega), SMap.get_set_self, Nat.sub_self]
      rfl
    · rw [SMap.get_set_ne _ _ _ _ ha]
      by_cases hin : o + 1 ≤ a ∧ a < o + 1 + l.length
      · rw [if_pos hin, if_pos (by omega), show a - o = a - (o + 1) + 1 by omega, List.getD_cons_succ]
      · rw [if_neg hin, if_neg (by omega)]

/-- The flash after a unit of firmware work. -/
def flashUnit (m : SMap Nat) (u : FUnit) : SMap Nat :=
  if u.erase then SMap.clearSpan m u.at_ 65536 else putMem 0xFF m u.at_ u.data

/-- The units that erase `n` blocks from an address on. -/
def eraseUnits (o n : Nat) : List FUnit := (List.range n).map fun i => ⟨2, o + 65536 * i, true, []⟩

theorem eraseUnits_foldl (o n : Nat) (m : SMap Nat) (a : Nat) :
    SMap.get 0xFF ((eraseUnits o n).foldl flashUnit m) a =
      if o ≤ a ∧ a < o + 65536 * n then 0xFF else SMap.get 0xFF m a := by
  induction n with
  | zero => exact (if_neg (by omega)).symm
  | succ n ih =>
    have hstep : (eraseUnits o (n + 1)).foldl flashUnit m =
        SMap.clearSpan ((eraseUnits o n).foldl flashUnit m) (o + 65536 * n) 65536 := by
      rw [eraseUnits, List.range_succ, List.map_append, List.foldl_append]
      rfl
    rw [hstep]
    by_cases hin : o + 65536 * n ≤ a ∧ a < o + 65536 * n + 65536
    · rw [SMap.get_clearSpan_in _ _ _ _ hin.1 hin.2, if_pos (by omega)]
    · rw [SMap.get_clearSpan_out _ _ _ _ (by omega), ih]
      by_cases hbefore : o ≤ a ∧ a < o + 65536 * n
      · rw [if_pos hbefore, if_pos (by omega)]
      · rw [if_neg hbefore, if_neg (by omega)]

/-- The units that program `d` at `o` leave its bytes in the flash, and change no other byte. -/
theorem programUnits_flash (o : Nat) (d : List Byte) (m : SMap Nat) (a : Nat) :
    SMap.get 0xFF ((programUnits 2 o d).foldl flashUnit m) a =
      if o ≤ a ∧ a < o + d.length then (d.getD (a - o) 0).toNat else SMap.get 0xFF m a := by
  have main (n : Nat) : SMap.get 0xFF
      ((List.range n).foldl (fun m i => putMem 0xFF m (o + 4096 * i) (slice d (4096 * i) 4096)) m) a =
      if o ≤ a ∧ a < o + min (4096 * n) d.length then (d.getD (a - o) 0).toNat else SMap.get 0xFF m a := by
    induction n with
    | zero => exact (if_neg (by omega)).symm
    | succ n ih =>
      have hlen : (slice d (4096 * n) 4096).length = min 4096 (d.length - 4096 * n) := by
        rw [slice, List.length_take, List.length_drop]
      rw [List.range_succ, List.foldl_append, List.foldl_cons, List.foldl_nil, putMem_get, ih, hlen]
      by_cases hin : o + 4096 * n ≤ a ∧ a < o + 4096 * n + min 4096 (d.length - 4096 * n)
      · rw [if_pos hin, if_pos (by omega), slice, List.getD_eq_getElem?_getD, List.getElem?_take, if_pos (by omega),
          List.getElem?_drop, show 4096 * n + (a - (o + 4096 * n)) = a - o by omega, ← List.getD_eq_getElem?_getD]
      · rw [if_neg hin]
        by_cases hbefore : o ≤ a ∧ a < o + min (4096 * n) d.length
        · rw [if_pos hbefore, if_pos (by omega)]
        · rw [if_neg hbefore, if_neg (by omega)]
  have hfold : (programUnits 2 o d).foldl flashUnit m = (List.range ((d.length + 4095) / 4096)).foldl
      (fun m i => putMem 0xFF m (o + 4096 * i) (slice d (4096 * i) 4096)) m := by
    rw [programUnits, List.foldl_map]
    rfl
  rw [hfold, main, show min (4096 * ((d.length + 4095) / 4096)) d.length = d.length by omega]

theorem State.bootRecord_length (s : State) (n : Nat) : (s.bootRecord n).length = 256 := by
  simp only [State.bootRecord, List.length_append, toBytes_length]

/-- A record of the boot descriptor lies below the slots. -/
theorem State.descriptor_flash (s : State) {a : Nat} (h : 0x100000 ≤ a) :
    SMap.get 0xFF s.descriptor.mem.flash a = SMap.get 0xFF s.mem.flash a := by
  simp only [State.descriptor]
  rw [putMem_get, State.bootRecord_length, if_neg (by omega)]
  split_ifs
  · exact SMap.get_clearSpan_out _ _ _ _ (by omega)
  · rfl

theorem State.descriptor_reg (s : State) (i e : Nat) : s.descriptor.reg i e = s.reg i e := by
  rw [reg_see, State.descriptor_see _ (by simp), ← reg_see]

theorem State.descriptor_work (s : State) : s.descriptor.mem.work = s.mem.work := by
  obtain ⟨m, f, h⟩ : ∃ (m : SMap Nat) (f : FwS),
      s.descriptor = { s with mem := { s.mem with flash := m }, fw := f } := ⟨_, _, rfl⟩
  rw [h]

/-! ### The drain of firmware work -/

section
variable {s : State}

theorem State.flashStep_firmware {u : FUnit} {l : List FUnit} (hwork : s.mem.work = u :: l)
    (hslot : ∀ x ∈ u :: l, x.slot = 2) :
    s.flashStep.mem.work = l ∧ s.flashStep.mem.flash = flashUnit s.mem.flash u := by
  have hu : u.slot = 2 := hslot u List.mem_cons_self
  have hledger : s.ledgerWork = none := by
    rw [State.ledgerWork, hwork]
    split_ifs
    · rfl
    · rw [List.find?_eq_none]
      intro x hx
      simpa using hslot x hx
  have hfirmware : s.firmwareWork = some u := by
    rw [State.firmwareWork, hwork]
    exact List.find?_cons_of_pos (by simpa using hu)
  have hnext : s.flashNext = some u := by rw [State.flashNext, hledger, hfirmware]
  have hdo : (s.flashDo u).mem.work = u :: l := by
    rw [State.flashDo, if_pos hu]
    exact hwork
  rw [State.flashStep, hnext]
  simp only [hdo, List.erase_cons_head]
  rw [State.flashDo, if_pos hu]
  exact ⟨trivial, rfl⟩

/-- Firmware work that waits alone is all done, in its order. -/
theorem State.flashDrain_firmware {l : List FUnit} (hwork : s.mem.work = l) (hslot : ∀ x ∈ l, x.slot = 2) :
    (s.flashDrain fun u => u.slot == 2).mem.flash = l.foldl flashUnit s.mem.flash := by
  have main := foldRange_induction (n := l.length) (a := s)
    (f := fun s _ => if s.mem.work.any (fun u => u.slot == 2) then s.flashStep else s)
    (P := fun n t => t.mem.work = l.drop n ∧ t.mem.flash = (l.take n).foldl flashUnit s.mem.flash) ⟨hwork, rfl⟩ ?_
  · obtain ⟨-, hflash⟩ := main
    rw [List.take_length] at hflash
    rwa [State.flashDrain, hwork]
  · rintro n t hn ⟨hw, hf⟩
    have hcons : l.drop n = l[n] :: l.drop (n + 1) := List.drop_eq_getElem_cons hn
    have hall : ∀ x ∈ l[n] :: l.drop (n + 1), x.slot = 2 := by
      rw [← hcons]
      exact fun x hx => hslot x (List.mem_of_mem_drop hx)
    have hany : t.mem.work.any (fun u => u.slot == 2) = true := by
      rw [hw, hcons, List.any_cons]
      have : (l[n].slot == 2) = true := by simpa using hall _ List.mem_cons_self
      rw [this, Bool.true_or]
    obtain ⟨hwork', hflash'⟩ := State.flashStep_firmware (hw.trans hcons) hall
    rw [if_pos hany]
    exact ⟨hwork', by rw [hflash', hf, List.take_succ_eq_append_getElem hn, List.foldl_append]; rfl⟩

theorem State.flashDo_work (u : FUnit) : (s.flashDo u).mem.work = s.mem.work := by
  simp only [State.flashDo]
  split_ifs <;> rfl

/-- A step does one unit wherever firmware work waits. -/
theorem State.flashStep_work (h : s.mem.work.any (fun u => u.slot == 2) = true) :
    s.flashStep.mem.work.length + 1 = s.mem.work.length := by
  have hfirmware : s.firmwareWork.isSome = true := by
    rw [State.firmwareWork, List.find?_isSome]
    simpa using h
  obtain ⟨u, hnext, hmem⟩ : ∃ u, s.flashNext = some u ∧ u ∈ s.mem.work := by
    obtain ⟨f, hf⟩ := Option.isSome_iff_exists.mp hfirmware
    have hfmem : f ∈ s.mem.work := List.mem_of_find?_eq_some hf
    cases hl : s.ledgerWork with
    | none => exact ⟨f, by rw [State.flashNext, hl, hf], hfmem⟩
    | some x =>
      have hxmem : x ∈ s.mem.work := by
        rw [State.ledgerWork] at hl
        split_ifs at hl
        exact List.mem_of_find?_eq_some hl
      by_cases hturn : s.mem.fwTurn = true
      · exact ⟨f, by simp only [State.flashNext, hl, hf, if_pos hturn], hfmem⟩
      · exact ⟨x, by simp only [State.flashNext, hl, hf, if_neg hturn], hxmem⟩
  rw [State.flashStep, hnext]
  simp only [State.flashDo_work]
  rw [List.length_erase_of_mem hmem]
  have := List.length_pos_of_mem hmem
  omega

/-- The drain leaves no firmware work. -/
theorem State.flashDrain_done : ∀ u ∈ (s.flashDrain fun u => u.slot == 2).mem.work, u.slot ≠ 2 := by
  have main := foldRange_induction (n := s.mem.work.length) (a := s)
    (f := fun s _ => if s.mem.work.any (fun u => u.slot == 2) then s.flashStep else s)
    (P := fun n t => (∀ u ∈ t.mem.work, u.slot ≠ 2) ∨ t.mem.work.length + n = s.mem.work.length) (.inr rfl) ?_
  · rcases main with h | h
    · exact h
    · intro u hu
      have := List.length_pos_of_mem hu
      simp only [State.flashDrain] at hu this
      omega
  · rintro n t - ht
    by_cases hany : t.mem.work.any (fun u => u.slot == 2) = true
    · rw [if_pos hany]
      refine .inr ?_
      have hlen := State.flashStep_work hany
      rcases ht with hnone | hlen'
      · obtain ⟨u, hu, h2⟩ := List.any_eq_true.mp hany
        exact absurd (by simpa using h2) (hnone u hu)
      · omega
    · rw [if_neg hany]
      exact .inl fun u hu h2 => hany (List.any_eq_true.mpr ⟨u, hu, by simpa using h2⟩)

end

/-! ### FW.STAGE_BEGIN (R466) -/

/-- A write to the firmware's COMMIT or ABORT runs by its own operation. -/
theorem runs_of_fwTarget {c : Instr} {s u : State} {w : Who} {op : State → State × Nat} {P : State → Prop}
    (hc : exec c s = s.run fun s => s.fwTarget w op) (hright : bit (s.rights w) 2 = true) (ho : op s.fresh = (u, 0))
    (h : P ((u.answer 0).withQueue s.pending)) : Runs c s P := by
  refine runs_of_run hc ?_
  have hright' : bit (s.fresh.rights w) 2 = true := hright
  rw [State.fwTarget, if_neg (by simp [hright']), ho]
  exact h

theorem runs_of_fwTarget_refused {c : Instr} {s u : State} {w : Who} {op : State → State × Nat} {code : Nat}
    {P : State → Prop} (hc : exec c s = s.run fun s => s.fwTarget w op) (hright : bit (s.rights w) 2 = true)
    (ho : op s.fresh = (u, code)) (hcode : code ≠ 0) (h : P ((u.refuse w code).withQueue s.pending)) : Runs c s P := by
  refine runs_of_run hc ?_
  have hright' : bit (s.fresh.rights w) 2 = true := hright
  rw [State.fwTarget, if_neg (by simp [hright']), ho]
  dsimp only
  rw [if_pos hcode]
  exact h

/-- The slot that staging uses is being erased. -/
def State.stageBegun (s : State) (h : Nat) : State :=
  let k := s.stageSlot
  let s := s.actStart 2 h
  let s := s.flashQueue ((List.range 256).map fun i => ⟨2, slotBase k + 65536 * i, true, []⟩)
  let s := { s with fw := { s.fw with next := 0, got := 0, own := if s.ownImage k then s.fw.own else k :: s.fw.own } }
  let s := (((s.setSlot k 1).setReg O.fwSlotVersion k 0).setReg O.fwSlotSvn k 0).setReg O.fwUpdateState 0 1
  s.descriptor

theorem stageBeginOp_begins {s : State} {h : Nat} (htok : s.tokFree 2 h = true)
    (hu : s.reg O.fwUpdateState = 0 ∨ s.reg O.fwUpdateState = 6) (h0 : s.reg O.fwSlotState 0 ≠ 4)
    (h1 : s.reg O.fwSlotState 1 ≠ 4) : stageBeginOp h s = (s.stageBegun h, 0) := by
  have hu' : ¬ (decide (s.reg O.fwUpdateState ≠ 0) && decide (s.reg O.fwUpdateState ≠ 6)) = true := by
    rcases hu with hu | hu <;> simp [hu]
  rw [stageBeginOp, if_neg (by simp [htok]), if_neg hu', if_neg (by simp [h0, h1])]
  rfl

theorem State.stageBegun_tells (s : State) (h : Nat) :
    (s.stageBegun h).reg O.fwSlotState s.stageSlot = 1 ∧ (s.stageBegun h).reg O.fwUpdateState = 1 ∧
      (s.stageBegun h).fw.next = 0 ∧ (s.stageBegun h).fw.got = 0 ∧ (s.stageBegun h).reg O.maintTokenHolder 2 = h ∧
      (∀ a, 0x100000 ≤ a → SMap.get 0xFF (s.stageBegun h).mem.flash a = SMap.get 0xFF s.mem.flash a) ∧
      (s.stageBegun h).mem.work = s.mem.work ++ eraseUnits (slotBase s.stageSlot) 256 := by
  have hmem := State.actStart_see (z := .part .mem) s 2 h (by simp)
  have hholder := s.actStart_holder 2 h
  simp only [State.stageBegun]
  generalize s.actStart 2 h = u at *
  generalize s.stageSlot = k
  have hmem' : u.mem = s.mem := hmem
  refine ⟨?_, ?_, ?_, ?_, ?_, fun a ha => ?_, ?_⟩
  · rw [State.descriptor_reg, State.reg_setReg_obj _ (by decide), State.reg_setReg_obj _ (by decide),
      State.reg_setReg_obj _ (by decide), State.setSlot, State.reg_setReg_self]
  · rw [State.descriptor_reg, State.reg_setReg_self]
  · rfl
  · rfl
  · rw [State.descriptor_reg, State.reg_setReg_obj _ (by decide), State.reg_setReg_obj _ (by decide),
      State.reg_setReg_obj _ (by decide), State.setSlot, State.reg_setReg_obj _ (by decide)]
    exact hholder
  · rw [State.descriptor_flash _ ha, ← hmem']
    rfl
  · rw [State.descriptor_work, ← hmem']
    rfl

theorem fwStageBegin_runs {s : State} {w : Who} {v : Nat} (ha : Allowed s w O.fwStageBegin 0 v)
    (htok : s.tokFree 2 (holderOf w) = true) (hu : s.reg O.fwUpdateState = 0 ∨ s.reg O.fwUpdateState = 6)
    (h0 : s.reg O.fwSlotState 0 ≠ 4) (h1 : s.reg O.fwSlotState 1 ≠ 4) : Runs (.fwStageBegin w v) s fun t =>
      t.reg O.fwSlotState s.stageSlot = 1 ∧ t.reg O.fwUpdateState = 1 ∧ t.fw.next = 0 ∧ t.fw.got = 0 ∧
      t.reg O.maintTokenHolder 2 = holderOf w ∧ t.out.status = 0 ∧
      (∀ a, 0x100000 ≤ a → SMap.get 0xFF t.mem.flash a = SMap.get 0xFF s.mem.flash a) ∧
      t.mem.work = s.mem.work ++ (List.range 256).map fun i => ⟨2, slotBase s.stageSlot + 65536 * i, true, []⟩ := by
  obtain ⟨g1, g2, g3, g4, g5, g6, g7⟩ := s.fresh.stageBegun_tells (holderOf w)
  refine runs_of_write (exec_fwStageBegin s w v) ha (stageBeginOp_begins (s := s.fresh) htok hu h0 h1) ?_
  generalize s.fresh.stageBegun (holderOf w) = u at *
  exact ⟨g1, g2, g3, g4, g5, rfl, g6, g7⟩

/-! ### The erase and the segments -/

theorem State.eraseDone_eq {s : State} (h : s.reg O.fwUpdateState = 1) :
    s.eraseDone = ((s.flashDrain fun u => u.slot == 2).setReg O.fwUpdateState 0 2).raise 505 := if_pos h

theorem fwEraseDone_runs {s : State} (h : s.reg O.fwUpdateState = 1) : Runs .fwEraseDone s fun t =>
    t.reg O.fwUpdateState = 2 ∧ t.latched 505 = true ∧ (∀ u ∈ t.mem.work, u.slot ≠ 2) ∧
    OnlyElems [(O.fwUpdateState, 0)] s t := by
  have hregs := (s.flashDrain_keeps fun u => u.slot == 2).1
  have hdone := s.flashDrain_done
  refine runs_of_run (exec_fwEraseDone s) ?_
  rw [State.eraseDone_eq (s := s.fresh) h, State.flashDrain_fresh]
  generalize s.flashDrain (fun u => u.slot == 2) = u at *
  have hmem : ((u.fresh.setReg O.fwUpdateState 0 2).raise 505).mem = u.mem := State.raise_mem _ _
  have hreg (i e : Nat) : u.fresh.reg i e = s.reg i e := by simp only [State.reg, State.fresh, hregs]
  simp only [State.reg_withQueue_all, State.latched_withQueue, State.withQueue_mem, hmem]
  refine ⟨?_, State.latched_raise_self (.inl (by decide)), hdone, fun i e he hi hne => ?_⟩
  · rw [State.raise_reg _ (by decide), State.reg_setReg_self]
  · rw [State.reg_withQueue_all, State.raise_reg _ hi,
      State.reg_setReg_ne _ (by decide) he (by simpa using hne), hreg]

theorem fwEraseDone_erased {s : State} {k : Nat} (h : s.reg O.fwUpdateState = 1)
    (hwork : s.mem.work = eraseUnits (slotBase k) 256) : Runs .fwEraseDone s fun t =>
      (∀ o < 0x1000000, SMap.get 0xFF t.mem.flash (slotBase k + o) = 0xFF) ∧
      (∀ a, (a < slotBase k ∨ slotBase k + 0x1000000 ≤ a) →
        SMap.get 0xFF t.mem.flash a = SMap.get 0xFF s.mem.flash a) := by
  have hslot : ∀ x ∈ eraseUnits (slotBase k) 256, x.slot = 2 := by
    intro x hx
    obtain ⟨i, -, rfl⟩ := List.mem_map.mp hx
    rfl
  have hflash := State.flashDrain_firmware hwork hslot
  have herased := eraseUnits_foldl (slotBase k) 256 s.mem.flash
  rw [← hflash] at herased
  refine runs_of_run (exec_fwEraseDone s) ?_
  rw [State.eraseDone_eq (s := s.fresh) h, State.flashDrain_fresh]
  generalize s.flashDrain (fun u => u.slot == 2) = u at *
  have hmem : ((u.fresh.setReg O.fwUpdateState 0 2).raise 505).mem = u.mem := State.raise_mem _ _
  simp only [State.withQueue_mem, hmem]
  exact ⟨fun o ho => (herased _).trans (if_pos (by omega)), fun a ha => (herased a).trans (if_neg (by omega))⟩

/-- Segment `k` waits to be programmed. -/
def State.segmentStaged (s : State) (k : Nat) (d : List Byte) : State :=
  let s := s.flashQueue (programUnits 2 (slotBase s.stageSlot + 65536 * k) d)
  let len := if k = 0 then fabricAt (fld d 16 4) + fld d 20 4 else s.fw.len
  { s with fw := { s.fw with next := k + 1, got := s.fw.got + d.length, len := len } }

theorem stageSegmentOp_stages {s : State} {h k : Nat} {d : List Byte} (hbusy : s.fwBusy h = false)
    (hu : s.reg O.fwUpdateState = 2) (hk : k = s.fw.next) (hgot : s.fw.got = 65536 * k) :
    stageSegmentOp h k d s = (s.segmentStaged k d, 0) ∨ stageSegmentOp h k d s = ((s.segmentStaged k d).raise 505, 0) := by
  rw [stageSegmentOp, if_neg (by simp [hbusy]), if_neg (by simp [hu, hk.symm, hgot])]
  extract_lets u len was got t
  split_ifs
  · exact .inr rfl
  · exact .inl rfl

theorem fwStageSegment_runs {s : State} {w : Who} {k : Nat} {d : List Byte} (ha : Writable s w O.fwStageSegment k)
    (hd : d ≠ []) (hlen : d.length ≤ 65536) (hbusy : s.fwBusy (holderOf w) = false) (hu : s.reg O.fwUpdateState = 2)
    (hk : k = s.fw.next) (hgot : s.fw.got = 65536 * k) : Runs (.fwStageSegment w k d) s fun t =>
      t.fw.next = k + 1 ∧ t.fw.got = s.fw.got + d.length ∧ t.out.status = 0 ∧ t.mem.flash = s.mem.flash ∧
      OnlyElems [] s t ∧
      (s.mem.work = [] →
        (∀ i < d.length, SMap.get 0xFF (t.flashDrain fun u => u.slot == 2).mem.flash
          (slotBase s.stageSlot + 65536 * k + i) = (d.getD i 0).toNat) ∧
        (∀ a, (a < slotBase s.stageSlot + 65536 * k ∨ slotBase s.stageSlot + 65536 * k + d.length ≤ a) →
          SMap.get 0xFF (t.flashDrain fun u => u.slot == 2).mem.flash a = SMap.get 0xFF s.mem.flash a)) := by
  obtain ⟨u, hop, hfw, hmem, honly⟩ : ∃ u, stageSegmentOp (holderOf w) k d s.fresh = (u, 0) ∧
      u.fw = (s.fresh.segmentStaged k d).fw ∧ u.mem = (s.fresh.segmentStaged k d).mem ∧ OnlyElems [] s u := by
    rcases stageSegmentOp_stages (s := s.fresh) (d := d) hbusy hu hk hgot with h | h
    · exact ⟨_, h, rfl, rfl, fun _ _ _ _ _ => rfl⟩
    · exact ⟨_, h, State.raise_see (z := .part .fw) _ _ (by simp), State.raise_mem _ _,
        fun _ _ _ hi _ => State.raise_reg _ hi⟩
  refine runs_of_writeBytes (exec_fwStageSegment s w k d) ha hd hlen hop ?_
  have hwork : u.mem.work = s.mem.work ++ programUnits 2 (slotBase s.stageSlot + 65536 * k) d := by
    rw [hmem]
    rfl
  have hflash : u.mem.flash = s.mem.flash := by
    rw [hmem]
    rfl
  refine ⟨?_, ?_, rfl, hflash, honly, fun hempty => ?_⟩
  · rw [State.withQueue_fw, State.answer_fw, hfw]
    rfl
  · rw [State.withQueue_fw, State.answer_fw, hfw]
    rfl
  · rw [hempty, List.nil_append] at hwork
    have hslot : ∀ x ∈ programUnits 2 (slotBase s.stageSlot + 65536 * k) d, x.slot = 2 := by
      intro x hx
      obtain ⟨i, -, rfl⟩ := List.mem_map.mp hx
      rfl
    have hdrain := State.flashDrain_firmware (s := (u.answer 0).withQueue s.pending) hwork hslot
    have hprog := programUnits_flash (slotBase s.stageSlot + 65536 * k) d s.mem.flash
    have hold : ((u.answer 0).withQueue s.pending).mem.flash = s.mem.flash := hflash
    rw [hdrain, hold]
    refine ⟨fun i hi => ?_, fun a ha => (hprog a).trans (if_neg (by omega))⟩
    rw [hprog, if_pos (by omega), Nat.add_sub_cancel_left]

/-! ### The end of an update -/

section
variable (s : State)

theorem State.fwTokEnd_reg {i e : Nat} (hi : evObj i = false) (h : i ≠ O.maintTokenHolder) :
    s.fwTokEnd.reg i e = s.reg i e := by
  simp only [State.fwTokEnd]
  split_ifs
  · exact s.actEnd_reg hi h
  · rfl

theorem State.fwTokEnd_latched {ev : Nat} (h : s.latched ev = true) : s.fwTokEnd.latched ev = true := by
  simp only [State.fwTokEnd]
  split_ifs
  · exact State.latched_actEnd h 2
  · exact h

theorem State.fwTokEnd_mem : s.fwTokEnd.mem = s.mem := State.fwTokEnd_see (z := .part .mem) s (by simp)

theorem State.imageBad_tells (k : Nat) :
    (s.imageBad k).reg O.fwSlotState k = 6 ∧ (s.imageBad k).latched 504 = true := by
  unfold State.imageBad
  refine ⟨?_, State.fwTokEnd_latched _ (State.latched_raise_self (.inl (by decide)))⟩
  rw [State.fwTokEnd_reg _ (by decide) (by decide), State.raise_reg _ (by decide), State.descriptor_reg,
    State.reg_setReg_obj _ (by decide), State.setSlot, State.reg_setReg_self]

/-- A staged image that verifies stands in its slot. -/
def State.imageStaged (s : State) (k : Nat) : State :=
  let hd := s.slotRead k 0 16
  let s := ((s.setSlot k 2).setReg O.fwSlotVersion k (fld hd 8 4)).setReg O.fwSlotSvn k (fld hd 6 1)
  ((s.setReg O.fwUpdateState 0 4).descriptor).raise 505

theorem State.imageStaged_tells (k : Nat) :
    (s.imageStaged k).reg O.fwSlotState k = 2 ∧ (s.imageStaged k).reg O.fwUpdateState = 4 ∧
      (∀ a, 0x100000 ≤ a → SMap.get 0xFF (s.imageStaged k).mem.flash a = SMap.get 0xFF s.mem.flash a) ∧
      (s.imageStaged k).reg O.fwSlotVersion k = fld (s.slotRead k 0 16) 8 4 ∧ (s.imageStaged k).latched 505 = true := by
  unfold State.imageStaged
  dsimp only
  refine ⟨?_, ?_, fun a ha => ?_, ?_, State.latched_raise_self (.inl (by decide))⟩
  · rw [State.raise_reg _ (by decide), State.descriptor_reg, State.reg_setReg_obj _ (by decide),
      State.reg_setReg_obj _ (by decide), State.reg_setReg_obj _ (by decide), State.setSlot, State.reg_setReg_self]
  · rw [State.raise_reg _ (by decide), State.descriptor_reg, State.reg_setReg_self]
  · rw [State.raise_mem, State.descriptor_flash _ ha]
    rfl
  · rw [State.raise_reg _ (by decide), State.descriptor_reg, State.reg_setReg_obj _ (by decide),
      State.reg_setReg_obj _ (by decide), State.reg_setReg_self]

end

section
variable {s u : State} {h : Nat} (hdrain : (s.flashDrain fun u => u.slot == 2) = u) (hbusy : s.fwBusy h = false)
  (hu : s.reg O.fwUpdateState = 2)
include hdrain hbusy hu

theorem fwCommitOp_eq : fwCommitOp h s =
    if u.verifySlot u.stageSlot true true ≠ 0 then
      (u.imageBad u.stageSlot, u.verifySlot u.stageSlot true true)
    else (u.imageStaged u.stageSlot, 0) := by
  rw [fwCommitOp, if_neg (by simp [hbusy]), if_neg (by simp [hu]), hdrain]
  rfl

end

/-- The slots do not change while the flash work is done. -/
theorem State.flashDrain_stageSlot (s : State) (who : FUnit → Bool) : (s.flashDrain who).stageSlot = s.stageSlot := by
  have hregs := (s.flashDrain_keeps who).1
  have hreg (i e : Nat) : (s.flashDrain who).reg i e = s.reg i e := by simp only [State.reg, hregs]
  simp only [State.stageSlot, State.activeSlot]
  rw [hreg, hreg]

section
variable {s u : State} {w : Who} (hdrain : (s.flashDrain fun u => u.slot == 2) = u) (hright : bit (s.rights w) 2 = true)
  (hbusy : s.fwBusy (holderOf w) = false) (hu : s.reg O.fwUpdateState = 2)
include hdrain hright hbusy hu

theorem fwCommit_staged (hv : u.verifySlot s.stageSlot true true = 0) : Runs (.fwCommit w) s fun t =>
    t.reg O.fwSlotState s.stageSlot = 2 ∧ t.reg O.fwUpdateState = 4 ∧
    (∀ a, 0x100000 ≤ a → SMap.get 0xFF t.mem.flash a = SMap.get 0xFF u.mem.flash a) ∧
    t.reg O.fwSlotVersion s.stageSlot = fld (u.slotRead s.stageSlot 0 16) 8 4 ∧ t.latched 505 = true ∧
    t.out.status = 0 := by
  have hslot : u.fresh.stageSlot = s.stageSlot := by rw [← hdrain]; exact s.flashDrain_stageSlot _
  have hfresh : (s.fresh.flashDrain fun u => u.slot == 2) = u.fresh := by rw [← hdrain]; exact State.flashDrain_fresh _
  have hop := fwCommitOp_eq (s := s.fresh) (h := holderOf w) hfresh hbusy hu
  have hv' : u.fresh.verifySlot s.stageSlot true true = 0 := hv
  rw [hslot, hv', if_neg (by decide)] at hop
  obtain ⟨g1, g2, g3, g4, g5⟩ := u.fresh.imageStaged_tells s.stageSlot
  refine runs_of_fwTarget (exec_fwCommit s w) hright hop ?_
  generalize u.fresh.imageStaged s.stageSlot = x at *
  exact ⟨g1, g2, g3, g4, g5, rfl⟩

theorem fwCommit_bad (hv : u.verifySlot s.stageSlot true true ≠ 0) : Runs (.fwCommit w) s fun t =>
    t.reg O.fwSlotState s.stageSlot = 6 ∧ t.latched 504 = true ∧
    t.out.status = u.verifySlot s.stageSlot true true := by
  have hslot : u.fresh.stageSlot = s.stageSlot := by rw [← hdrain]; exact s.flashDrain_stageSlot _
  have hfresh : (s.fresh.flashDrain fun u => u.slot == 2) = u.fresh := by rw [← hdrain]; exact State.flashDrain_fresh _
  have hop := fwCommitOp_eq (s := s.fresh) (h := holderOf w) hfresh hbusy hu
  have hv' : u.fresh.verifySlot s.stageSlot true true = u.verifySlot s.stageSlot true true := rfl
  rw [hslot, hv', if_pos hv] at hop
  obtain ⟨g1, g2⟩ := u.fresh.imageBad_tells s.stageSlot
  refine runs_of_fwTarget_refused (exec_fwCommit s w) hright hop hv ?_
  generalize u.fresh.imageBad s.stageSlot = x at *
  rw [State.reg_withQueue_all, State.latched_withQueue, reg_see, State.refuse_see _ _ _ (by simp), ← reg_see,
    State.latched_see (State.refuse_see _ _ _ (by simp))]
  exact ⟨g1, g2, rfl⟩

end

/-- The flash work of an update is given up. -/
def State.workDropped (s : State) : State :=
  { s with mem := { s.mem with work := s.mem.work.filter fun u => u.slot != 2 } }

theorem fwAbortOp_aborts {s : State} {h : Nat} (hbusy : s.fwBusy h = false)
    (hu : s.reg O.fwUpdateState = 2 ∨ s.reg O.fwUpdateState = 4) : fwAbortOp h s =
    (((((s.workDropped).setSlot s.stageSlot 0).setReg O.fwUpdateState 0 0).descriptor.fwTokEnd).raise 505, 0) := by
  have hu' : ¬ (decide (s.reg O.fwUpdateState ≠ 2) && decide (s.reg O.fwUpdateState ≠ 4)) = true := by
    rcases hu with hu | hu <;> simp [hu]
  rw [fwAbortOp, if_neg (by simp [hbusy]), if_neg hu']
  rfl

theorem fwAbort_runs {s : State} {w : Who} (hright : bit (s.rights w) 2 = true) (hbusy : s.fwBusy (holderOf w) = false)
    (hu : s.reg O.fwUpdateState = 2 ∨ s.reg O.fwUpdateState = 4) : Runs (.fwAbort w) s fun t =>
      t.reg O.fwSlotState s.stageSlot = 0 ∧ t.reg O.fwUpdateState = 0 ∧ (∀ u ∈ t.mem.work, u.slot ≠ 2) ∧
      t.out.status = 0 := by
  refine runs_of_fwTarget (exec_fwAbort s w) hright (fwAbortOp_aborts (s := s.fresh) hbusy hu) ?_
  have hslot : s.fresh.stageSlot = s.stageSlot := rfl
  have hwork (u : FUnit) (h : u ∈ s.fresh.workDropped.mem.work) : u.slot ≠ 2 := by
    have := (List.mem_filter.mp h).2
    simpa using this
  rw [hslot]
  generalize s.fresh.workDropped = v at *
  simp only [State.reg_withQueue_all, State.reg_answer_all, State.withQueue_mem, State.answer_mem, State.raise_mem,
    State.fwTokEnd_mem, State.descriptor_work]
  refine ⟨?_, ?_, hwork, rfl⟩
  · rw [State.raise_reg _ (by decide), State.fwTokEnd_reg _ (by decide) (by decide), State.descriptor_reg,
      State.reg_setReg_obj _ (by decide), State.setSlot, State.reg_setReg_self]
  · rw [State.raise_reg _ (by decide), State.fwTokEnd_reg _ (by decide) (by decide), State.descriptor_reg,
      State.reg_setReg_self]

/-! ### Activation, confirmation and the end of a trial (R465, R466) -/

section
variable (s : State)

theorem State.masterEnter_self {k : Nat} (hk : k < 8) : (s.masterEnter k).reg O.matrixMasterState k = 1 := by
  by_cases h : s.reg O.matrixMasterState k = 1
  · rw [State.masterEnter, if_pos h, h]
  · rw [State.masterEnter_reg k hk hk h, if_pos rfl]

theorem State.masterEnter_entered_ne {j k : Nat} (hj : j < 8) (hk : k < 8) (hjk : j ≠ k) :
    (s.masterEnter k).reg O.matrixMasterState j = s.reg O.matrixMasterState j := by
  by_cases h : s.reg O.matrixMasterState k = 1
  · rw [State.masterEnter, if_pos h]
  · rw [State.masterEnter_reg j hk hj h, if_neg hjk]

/-- A core's reset takes no token back. -/
theorem State.masterEnter_holder {k : Nat} (hk : k ≠ 3) (d : Nat) :
    (s.masterEnter k).reg O.maintTokenHolder d = s.reg O.maintTokenHolder d := by
  by_cases h : s.reg O.matrixMasterState k = 1
  · rw [State.masterEnter, if_pos h]
  · rw [State.masterEnter_of_running h, if_neg hk, State.enterTxns, State.raise_reg _ (by decide),
      State.reg_setReg_obj _ (by decide), reg_see, State.beatsNull_see _ _ (by simp)]
    rfl

theorem State.keeperRestart_tells :
    s.keeperRestart.sys.restarting = true ∧ s.keeperRestart.reg O.matrixMasterState 0 = 1 ∧
      s.keeperRestart.reg O.matrixMasterState 1 = 1 ∧
      ∀ d, s.keeperRestart.reg O.maintTokenHolder d = s.reg O.maintTokenHolder d := by
  have hreg (i e : Nat) : s.keeperRestart.reg i e = ((s.masterEnter 0).masterEnter 1).reg i e := rfl
  refine ⟨rfl, ?_, ?_, fun d => ?_⟩
  · rw [hreg, State.masterEnter_entered_ne _ (by decide) (by decide) (by decide), State.masterEnter_self _ (by decide)]
  · rw [hreg, State.masterEnter_self _ (by decide)]
  · rw [hreg, State.masterEnter_holder _ (by decide), State.masterEnter_holder _ (by decide)]

end

/-- The restart's activity holds the token of the firmware. -/
def State.activationHeld (s : State) : State :=
  let s := if s.acting 2 then s.setReg O.maintTokenHolder 2 0xFE else s.actStart 2 0xFE
  { s with hdp := { s.hdp with tokWrite := SMap.erase s.hdp.tokWrite 2 } }

theorem State.activationHeld_holder (s : State) : s.activationHeld.reg O.maintTokenHolder 2 = 0xFE := by
  have h (t : State) (x : HdpS) : ({ t with hdp := x } : State).reg O.maintTokenHolder 2 = t.reg O.maintTokenHolder 2 :=
    rfl
  simp only [State.activationHeld]
  rw [h]
  split_ifs
  · rw [State.reg_setReg_self]
  · exact s.actStart_holder 2 0xFE

theorem activateOp_activates {s : State} {h : Nat} (hw : s.sys.mode ≠ .wake) (ha : s.sys.mode ≠ .attest)
    (hr : s.sys.mode ≠ .restore) (hbusy : s.fwBusy h = false) (hlocked : s.locked = false)
    (hexp : s.exporting = false) (hu : s.reg O.fwUpdateState = 4) (hv : s.verifySlot s.stageSlot true true = 0) :
    activateOp h s = ((((s.activationHeld).setSlot s.stageSlot 3).descriptor.raise 505).keeperRestart, 0) := by
  rw [activateOp, if_neg (show ¬ (s.sys.mode = .wake ∨ s.sys.mode = .attest ∨ s.sys.mode = .restore) by simp [hw, ha, hr]),
    if_neg (by simp [hbusy, hlocked, hexp]), if_neg (by simp [hu]),
    if_neg (show ¬ s.verifySlot s.stageSlot true true ≠ 0 by simp [hv])]
  rfl

theorem fwActivate_runs {s : State} {w : Who} {v : Nat} (ha : Allowed s w O.fwActivate 0 v) (hw : s.sys.mode ≠ .wake)
    (hat : s.sys.mode ≠ .attest) (hr : s.sys.mode ≠ .restore) (hbusy : s.fwBusy (holderOf w) = false)
    (hlocked : s.locked = false) (hexp : s.exporting = false) (hu : s.reg O.fwUpdateState = 4)
    (hv : s.verifySlot s.stageSlot true true = 0) : Runs (.fwActivate w v) s fun t =>
      t.reg O.fwSlotState s.stageSlot = 3 ∧ t.sys.restarting = true ∧ t.reg O.maintTokenHolder 2 = 0xFE ∧
      t.reg O.matrixMasterState 0 = 1 ∧ t.reg O.matrixMasterState 1 = 1 ∧ t.out.status = 0 := by
  have hop := activateOp_activates (s := s.fresh) (h := holderOf w) hw hat hr hbusy hlocked hexp hu hv
  refine runs_of_write (exec_fwActivate s w v) ha hop ?_
  have hslot : s.fresh.stageSlot = s.stageSlot := rfl
  have hheld := s.fresh.activationHeld_holder
  rw [hslot]
  generalize s.fresh.activationHeld = x at *
  have hstate : ((x.setSlot s.stageSlot 3).descriptor.raise 505).reg O.fwSlotState s.stageSlot = 3 := by
    rw [State.raise_reg _ (by decide), State.descriptor_reg, State.setSlot, State.reg_setReg_self]
  have hholder : ((x.setSlot s.stageSlot 3).descriptor.raise 505).reg O.maintTokenHolder 2 = 0xFE := by
    rw [State.raise_reg _ (by decide), State.descriptor_reg, State.setSlot, State.reg_setReg_obj _ (by decide), hheld]
  generalize (x.setSlot s.stageSlot 3).descriptor.raise 505 = y at *
  obtain ⟨g1, g2, g3, g4⟩ := y.keeperRestart_tells
  have g5 : y.keeperRestart.reg O.fwSlotState s.stageSlot = 3 := by
    rw [reg_see, State.keeperRestart_see _ (by simp), ← reg_see, hstate]
  generalize y.keeperRestart = z at *
  exact ⟨g5, g1, (g4 2).trans hholder, g2, g3, rfl⟩

/-- The image that runs is the one to boot from now on. -/
def State.confirmed (s : State) : State :=
  let k := s.reg O.fwRunning
  let s := ((s.setSlot k 5).setReg O.fwUpdateState 0 0).setReg O.fwTrialLeft 0 0
  let loaded := if s.fw.fabric.isEmpty then s.fabricHashOf (1 - k) else s.fw.fabric
  if loaded == s.fabricHashOf k then s else s.setReg O.fwFabricPending 0 1

theorem confirmOp_confirms {s : State} (hu : s.reg O.fwUpdateState = 5) (hr : s.sys.restarting = false) :
    confirmOp s = ((s.confirmed.descriptor.raise 505).fwTokEnd, 0) := by
  rw [confirmOp, if_neg (by simp [hu, hr])]
  rfl

theorem State.confirmed_tells (s : State) :
    s.confirmed.reg O.fwSlotState (s.reg O.fwRunning) = 5 ∧ s.confirmed.reg O.fwUpdateState = 0 ∧
      s.confirmed.reg O.fwTrialLeft = 0 := by
  have hset : (((s.setSlot (s.reg O.fwRunning) 5).setReg O.fwUpdateState 0 0).setReg O.fwTrialLeft 0 0).reg O.fwSlotState
      (s.reg O.fwRunning) = 5 := by
    rw [State.reg_setReg_obj _ (by decide), State.reg_setReg_obj _ (by decide), State.setSlot, State.reg_setReg_self]
  have hupdate : (((s.setSlot (s.reg O.fwRunning) 5).setReg O.fwUpdateState 0 0).setReg O.fwTrialLeft 0 0).reg
      O.fwUpdateState = 0 := by
    rw [State.reg_setReg_obj _ (by decide), State.reg_setReg_self]
  have htrial := State.reg_setReg_self ((s.setSlot (s.reg O.fwRunning) 5).setReg O.fwUpdateState 0 0) O.fwTrialLeft 0 0
  have hpend (t : State) (c : Bool) {i : Nat} (e : Nat) (h : i ≠ O.fwFabricPending) :
      (if c then t else t.setReg O.fwFabricPending 0 1).reg i e = t.reg i e := by
    split_ifs
    · rfl
    · exact State.reg_setReg_obj t h
  simp only [State.confirmed]
  rw [hpend _ _ _ (by decide), hpend _ _ _ (by decide), hpend _ _ _ (by decide)]
  exact ⟨hset, hupdate, htrial⟩

theorem fwConfirm_runs {s : State} {w : Who} {v : Nat} (ha : Allowed s w O.fwConfirm 0 v)
    (hu : s.reg O.fwUpdateState = 5) (hr : s.sys.restarting = false) : Runs (.fwConfirm w v) s fun t =>
      t.reg O.fwSlotState (s.reg O.fwRunning) = 5 ∧ t.reg O.fwUpdateState = 0 ∧ t.reg O.fwTrialLeft = 0 ∧
      t.latched 505 = true ∧ t.out.status = 0 := by
  obtain ⟨g1, g2, g3⟩ := s.fresh.confirmed_tells
  have hrun : s.fresh.reg O.fwRunning = s.reg O.fwRunning := rfl
  rw [hrun] at g1
  refine runs_of_write (exec_fwConfirm s w v) ha (confirmOp_confirms (s := s.fresh) hu hr) ?_
  generalize s.fresh.confirmed = x at *
  have hkeep {i : Nat} (e : Nat) (hi : evObj i = false) (h : i ≠ O.maintTokenHolder) :
      (x.descriptor.raise 505).fwTokEnd.reg i e = x.reg i e := by
    rw [State.fwTokEnd_reg _ hi h, State.raise_reg _ hi, State.descriptor_reg]
  have hlatch : (x.descriptor.raise 505).fwTokEnd.latched 505 = true :=
    State.fwTokEnd_latched _ (State.latched_raise_self (.inl (by decide)))
  have h1 := (hkeep (s.reg O.fwRunning) (by decide) (by decide)).trans g1
  have h2 := (hkeep 0 (by decide) (by decide)).trans g2
  have h3 := (hkeep 0 (by decide) (by decide)).trans g3
  generalize (x.descriptor.raise 505).fwTokEnd = y at *
  exact ⟨h1, h2, h3, hlatch, rfl⟩

/-- The trial is lost, and the cores restart. -/
def State.trialEnded (s : State) : State := { s.keeperRestart with fw := { s.fw with fallback := true } }

theorem State.trialTimeout_ends {s : State} (hu : s.reg O.fwUpdateState = 5)
    (ht : s.elapsed s.fw.trialTick (secTicks (s.reg O.fwTrialLeft)) = true) (hf : s.fw.fallback = false) :
    s.trialTimeout = s.trialEnded := by
  rw [State.trialTimeout, if_pos (Bool.and_eq_true_iff.mpr ⟨decide_eq_true hu, ht⟩), State.trialFails,
    if_pos (by simp [hu, hf])]
  rfl

theorem trialTimeout_runs {s : State} (hu : s.reg O.fwUpdateState = 5)
    (ht : s.elapsed s.fw.trialTick (secTicks (s.reg O.fwTrialLeft)) = true) (hf : s.fw.fallback = false) :
    Runs .trialTimeout s fun t => t.sys.restarting = true ∧ t.fw.fallback = true ∧ t.reg O.matrixMasterState 0 = 1 ∧
      t.reg O.matrixMasterState 1 = 1 := by
  refine runs_of_run (exec_trialTimeout s) ?_
  rw [State.trialTimeout_ends (s := s.fresh) hu ht hf]
  obtain ⟨g1, g2, g3, -⟩ := s.fresh.keeperRestart_tells
  unfold State.trialEnded
  generalize s.fresh.keeperRestart = x at *
  exact ⟨g1, rfl, g2, g3⟩

/-- Settles O17: what the commands of an update do to the slots and the flash, and the end of a trial. -/
theorem firmwareUpdate : Obligations.FirmwareUpdate := by
  unfold Obligations.FirmwareUpdate
  refine ⟨fun _ _ _ ha htok hu h0 h1 => fwStageBegin_runs ha htok hu h0 h1, fun _ h => fwEraseDone_runs h,
    fun _ _ h hwork => fwEraseDone_erased h hwork,
    fun _ _ _ _ ha hd hlen hbusy hu hk hgot => fwStageSegment_runs ha hd hlen hbusy hu hk hgot, ?_, ?_,
    fun _ _ hright hbusy hu => fwAbort_runs hright hbusy hu, ?_,
    fun _ _ _ ha hu hr => fwConfirm_runs ha hu hr, fun _ hu ht hf => trialTimeout_runs hu ht hf⟩
  · intro s w u hdrain hright hbusy hu hv
    exact fwCommit_staged hdrain hright hbusy hu hv
  · intro s w u hdrain hright hbusy hu hv
    exact fwCommit_bad hdrain hright hbusy hu hv
  · intro s w v ha hw hat hr hbusy hlocked hexp hu hv
    exact fwActivate_runs ha hw hat hr hbusy hlocked hexp hu hv

end Sys2Proof.Machine

/-! Requests on the maps (O5): an abort in RECOVERY. -/

namespace Sys2Proof.Machine

/-- Refutes O5: its clauses on an abort of the map name no premise on RECOVERY, where R457 comes before R169. In
`solvingInRecovery` the firmware's abort before the arming deadline answers 0x0505, and the commit stands.
Outside RECOVERY those clauses' cores are `mapAbort_unlocks_draft` and `mapAbort_recomputes`. -/
theorem not_mapRequests : ¬ Obligations.MapRequests := by
  rintro ⟨-, -, -, -, -, habort, -⟩
  have hruns := habort solvingInRecovery .keeper (by decide) (by decide) (by decide) (by decide) (by decide)
    (.inr (by decide))
  have hrefused : Refuses (.mapAbort .keeper) solvingInRecovery 0x0505 :=
    mapAbort_refused_in_recovery (by decide) (by decide)
  obtain ⟨t, ⟨-, haccepted, -⟩, hcode⟩ := hrefused.status_of_runs hruns
  exact absurd (haccepted.symm.trans hcode) (by decide)

end Sys2Proof.Machine

/-! The engines of the Assayer (O19): a test that the host asks for while the fabric island is off. -/

namespace Sys2Proof.Machine

/-- The device wakes, and the fabric island does not run yet (Table 14-2). -/
def wakingDark : State := { State.reset with sys := { State.reset.sys with mode := .wake, booting := false } }

/-- No test begins while the fabric island is off, in whatever mode. -/
theorem testReqOp_dark {s : State} {h v : Nat} (hthere : s.resourceThere v = true) (htok : s.tokFree 3 h = true)
    (hd : s.sys.mode ≠ .dormant) (hq : s.sys.mode ≠ .quarantine) (hoff : s.sys.fabOn = false) :
    testReqOp h v s = (s, 0x0506) := by
  have hmode : ¬ (decide (s.sys.mode = .dormant) || decide (s.sys.mode = .quarantine)) = true := by
    simpa using ⟨hd, hq⟩
  rw [testReqOp, if_neg (by simp [hthere]), if_neg (by simp [htok]), if_neg hmode, if_pos (by simp [hoff])]

theorem testReq_refused_dark {s : State} {w : Who} {v : Nat} (ha : Allowed s w O.assayTestReq 0 v)
    (hthere : s.resourceThere v = true) (htok : s.tokFree 3 (holderOf w) = true) (hd : s.sys.mode ≠ .dormant)
    (hq : s.sys.mode ≠ .quarantine) (hoff : s.sys.fabOn = false) : Refuses (.testReq w v) s 0x0506 :=
  refuses_of_write (exec_testReq s w v) ha (testReqOp_dark (s := s.fresh) hthere htok hd hq hoff) (by decide)

/-- Refutes O19: its last clause, on ASSAY.TEST_REQ, has no premise that the fabric island is on, and no general check
asks it of that object. In `wakingDark`, before FAB_PG, the host's request for a test of Lode 0 passes the general
checks and is refused with 0x0506. -/
theorem not_assayerEngines : ¬ Obligations.AssayerEngines := by
  rintro ⟨-, -, -, -, -, -, -, -, -, hreq⟩
  have hruns := hreq wakingDark .keeper (resOf 1 0) (by unfold Allowed; decide) (by decide) (by decide)
    (by decide) (by decide) (by decide) (by decide)
  have hrefused : Refuses (.testReq .keeper (resOf 1 0)) wakingDark 0x0506 :=
    testReq_refused_dark (by unfold Allowed; decide) (by decide) (by decide) (by decide) (by decide) (by decide)
  obtain ⟨t, ⟨-, -, haccepted, -⟩, hcode⟩ := hrefused.status_of_runs hruns
  exact absurd (haccepted.symm.trans hcode) (by decide)

end Sys2Proof.Machine

/-! Chapter 7: the inputs of the Horologer and its selection (R266 to R285). -/

namespace Sys2Proof.Machine

/-! ### The end of the tie -/

/-- The objects that the end of the tie to network time writes. -/
def tieObj (o : Nat) : Bool := o == O.refTied || o == O.timeGridResidual

theorem State.untie_reg (s : State) {o : Nat} (e : Nat) (he : evObj o = false) (ht : tieObj o = false) :
    s.untie.reg o e = s.reg o e := by
  simp only [evObj, tieObj, Bool.or_eq_false_iff, beq_eq_false_iff_ne, ne_eq] at he ht
  rw [reg_see, State.untie_see _ (by simp [View.place, he, ht]), ← reg_see]

theorem State.tieFails_reg (s : State) {o : Nat} (e : Nat) (he : evObj o = false) (ht : tieObj o = false) :
    s.tieFails.reg o e = s.reg o e := by
  simp only [State.tieFails]
  split
  exacts [rfl, s.untie_reg e he ht]

theorem State.input_congr {s t : State} (h : t.ref.ins = s.ref.ins) (k : Nat) : t.input k = s.input k :=
  congrArg (SMap.get InS.init · k) h

theorem State.untie_ins (s : State) : s.untie.ref.ins = s.ref.ins := by
  simp only [State.untie]
  split
  · rfl
  · simp only [State.setTime, State.setReg_ref, State.raise_ref]

theorem State.tieFails_ins (s : State) : s.tieFails.ref.ins = s.ref.ins := by
  simp only [State.tieFails]
  split
  exacts [rfl, s.untie_ins]

theorem OnlyElems.untie {l : List (Nat × Nat)} {s t : State} (h : OnlyElems l s t) (h1 : (O.refTied, 0) ∈ l)
    (h2 : (O.timeGridResidual, 0) ∈ l) : OnlyElems l s t.untie := by
  simp only [State.untie]
  split
  · exact h
  · exact (((h.setReg 0 (by decide) h1).raise 423).setReg 0 (by decide) h2).of_regs rfl

theorem OnlyElems.tieFails {l : List (Nat × Nat)} {s t : State} (h : OnlyElems l s t) (h1 : (O.refTied, 0) ∈ l)
    (h2 : (O.timeGridResidual, 0) ∈ l) : OnlyElems l s t.tieFails := by
  simp only [State.tieFails]
  split
  exacts [h, h.untie h1 h2]

/-! ### An input takes a state (Table 7-5) -/

/-- What is kept of input `x` that goes from state `old` to `st`: its timers start anew. -/
def InS.entered (x : InS) (tick old st : Nat) : InS :=
  { x with t0 := tick, bad := 0, dfb := 0, ever := x.ever || st == 3
           have_ := if st = 0 || st = 1 then false else x.have_
           twoTods := if st = 0 || st = 1 then false else x.twoTods
           mAt := if old ≤ 1 then tick else x.mAt }

/-- Input `i` has state `st`, and its timers have started anew. -/
def State.stateTaken (s : State) (i st : Nat) : State :=
  (s.setInput i ((s.input i).entered s.tick (s.inState i) st)).setReg O.refInputState i st

/-- The events of a change of state have been raised. -/
def State.stateTold (s : State) (old st : Nat) : State :=
  let s := if st = 1 || st = 4 then s.raise 418 else s
  let s := if st = 3 then s.raise 419 else s
  if st = 6 || old = 6 then s.raise 421 else s

theorem State.setInState_same {s : State} {i st : Nat} (h : s.inState i = st) : s.setInState i st = s := by
  unfold State.setInState
  rw [if_pos h]

theorem State.setInState_eq {s : State} {i st : Nat} (h : s.inState i ≠ st) :
    s.setInState i st = ((s.stateTaken i st).stateTold (s.inState i) st).tieFails := by
  unfold State.setInState
  rw [if_neg h]
  rfl

theorem State.stateTold_reg (s : State) (old st : Nat) {o : Nat} (e : Nat) (he : evObj o = false) :
    (s.stateTold old st).reg o e = s.reg o e := by
  simp only [State.stateTold]
  split_ifs <;> simp only [State.raise_reg _ he]

theorem State.stateTold_ins (s : State) (old st : Nat) : (s.stateTold old st).ref.ins = s.ref.ins := by
  simp only [State.stateTold]
  split_ifs <;> simp only [State.raise_ref]

theorem OnlyElems.stateTold {l : List (Nat × Nat)} {s t : State} (h : OnlyElems l s t) (old st : Nat) :
    OnlyElems l s (t.stateTold old st) := fun o e he hev hne => (t.stateTold_reg old st e hev).trans (h o e he hev hne)

/-- A change of an input's state writes that state, and what the end of the tie writes. -/
theorem OnlyElems.setInState {l : List (Nat × Nat)} {s t : State} (h : OnlyElems l s t) {i : Nat} (st : Nat)
    (hi : i < 13) (h0 : (O.refInputState, i) ∈ l) (h1 : (O.refTied, 0) ∈ l) (h2 : (O.timeGridResidual, 0) ∈ l) :
    OnlyElems l s (t.setInState i st) := by
  by_cases heq : t.inState i = st
  · rwa [State.setInState_same heq]
  · rw [State.setInState_eq heq]
    have hin : OnlyElems l s (t.setInput i ((t.input i).entered t.tick (t.inState i) st)) := h.of_regs rfl
    exact ((hin.setReg st (by omega) h0).stateTold _ st).tieFails h1 h2

theorem State.setInState_self (s : State) (i st : Nat) : (s.setInState i st).inState i = st := by
  by_cases heq : s.inState i = st
  · rwa [State.setInState_same heq]
  · rw [State.setInState_eq heq, State.inState, State.tieFails_reg _ _ (by decide) (by decide),
      State.stateTold_reg _ _ _ _ (by decide)]
    exact State.reg_setReg_self _ _ _ _

theorem State.setInState_ne (s : State) {i k : Nat} (st : Nat) (hi : i < 13) (hk : k < 13) (h : k ≠ i) :
    (s.setInState i st).inState k = s.inState k :=
  (OnlyElems.refl [(O.refInputState, i), (O.refTied, 0), (O.timeGridResidual, 0)] s).setInState st hi (by simp)
    (by simp) (by simp) O.refInputState k (by omega) (by decide) (by simp [O.refInputState, O.refTied, O.timeGridResidual, h])

theorem State.setInState_ins (s : State) (i st : Nat) :
    (s.setInState i st).ref.ins = s.ref.ins ∨
      (s.setInState i st).ref.ins = SMap.set .init s.ref.ins i ((s.input i).entered s.tick (s.inState i) st) := by
  by_cases heq : s.inState i = st
  · exact .inl (by rw [State.setInState_same heq])
  · refine .inr ?_
    rw [State.setInState_eq heq, State.tieFails_ins, State.stateTold_ins, State.stateTaken, State.setReg_ref]
    rfl

/-- A change of state keeps what has been measured of every input. -/
theorem State.setInState_measured (s : State) (i st k : Nat) :
    ((s.setInState i st).input k).y = (s.input k).y ∧ ((s.setInState i st).input k).meas = (s.input k).meas := by
  obtain h | h := s.setInState_ins i st
  · rw [State.input_congr h k]
    exact ⟨rfl, rfl⟩
  · simp only [State.input, h]
    by_cases hk : k = i
    · rw [hk, SMap.get_set_self]
      exact ⟨rfl, rfl⟩
    · rw [SMap.get_set_ne _ _ _ _ hk]
      exact ⟨rfl, rfl⟩

section
variable {s : State} {ev : Nat}

theorem State.latched_raiseIf (h : s.latched ev = true) (p : Prop) [Decidable p] (e : Nat) :
    (if p then s.raise e else s).latched ev = true := by
  split
  exacts [State.latched_raise h e, h]

theorem State.latched_stateTold (h : s.latched ev = true) (old st : Nat) : (s.stateTold old st).latched ev = true :=
  State.latched_raiseIf (State.latched_raiseIf (State.latched_raiseIf h _ 418) _ 419) _ 421

theorem State.latched_setInState (h : s.latched ev = true) (i st : Nat) : (s.setInState i st).latched ev = true := by
  by_cases heq : s.inState i = st
  · rwa [State.setInState_same heq]
  · rw [State.setInState_eq heq]
    have htaken : (s.stateTaken i st).latched ev = true :=
      (State.latched_setReg (s := s.setInput i ((s.input i).entered s.tick (s.inState i) st)) (by decide)).trans h
    exact State.latched_tieFails (State.latched_stateTold htaken _ _)

theorem State.latched_loopCheck (h : s.latched ev = true) (i : Nat) : (s.loopCheck i).latched ev = true := by
  simp only [State.loopCheck]
  split_ifs
  exacts [h, State.latched_setInState h i 6, State.latched_setInState h i 2, h]

/-- An input that is LOST raises event 418. -/
theorem State.setInState_lost {i : Nat} (h : s.inState i ≠ 1) (hon : s.sys.fabOn = true) :
    (s.setInState i 1).latched 418 = true := by
  rw [State.setInState_eq h]
  exact State.latched_tieFails (State.latched_raiseIf
    (State.latched_raise_self (s := s.stateTaken i 1) (.inr hon)) _ 421)

/-- An input that is QUALIFIED raises event 419. -/
theorem State.setInState_qualified {i : Nat} (h : s.inState i ≠ 3) (hon : s.sys.fabOn = true) :
    (s.setInState i 3).latched 419 = true := by
  rw [State.setInState_eq h]
  exact State.latched_tieFails (State.latched_raiseIf
    (State.latched_raise_self (s := s.stateTaken i 3) (.inr hon)) _ 421)

end

/-! ### What an input's change of state leaves unchanged -/

/-- The accepted ORIGIN of Cooper input `i` is the device's own. -/
def State.ownOrigin (s : State) (i : Nat) : Bool :=
  (s.linkP (s.refPortOf i)).ql.acc && s.reg O.portRxQl (s.refPortOf i) % 2 ^ 32 == s.reg O.identDevid % 2 ^ 32

/-- The places that a change of an input's state may write. -/
def inputPlaces : List Place :=
  [.obj O.eventCount, .obj O.eventLastTime, .obj O.eventLatch, .obj O.hdpStats, .obj O.refInputState, .obj O.refTied,
    .obj O.timeGridResidual, .part .ref, .part .tim]

/-- Only what a change of an input's state may write differs. -/
def InputsOnly (s t : State) : Prop := ∀ z : View, z.place ∉ inputPlaces → t.see z = s.see z

namespace InputsOnly

theorem refl (s : State) : InputsOnly s s := fun _ _ => rfl

section
variable {s t : State} (h : InputsOnly s t)
include h

theorem setInState (i st : Nat) : InputsOnly s (t.setInState i st) := fun z hz =>
  (State.setInState_see t i st hz).trans (h z hz)

theorem setInput (i : Nat) (x : InS) : InputsOnly s (t.setInput i x) := fun z hz =>
  (State.setInput_see t i x (fun c => hz (by rw [c]; simp [inputPlaces]))).trans (h z hz)

theorem loopCheck (i : Nat) : InputsOnly s (t.loopCheck i) := fun z hz =>
  (State.loopCheck_see t i hz).trans (h z hz)

theorem judgeInput (i : Nat) : InputsOnly s (t.judgeInput i) := fun z hz =>
  (State.judgeInput_see t i hz).trans (h z hz)

theorem reg {o : Nat} (e : Nat) (ho : Place.obj o ∉ inputPlaces) : t.reg o e = s.reg o e := h (.reg o e) ho

theorem linkP (p : Nat) : t.linkP p = s.linkP p := by
  have hlink : t.link = s.link := h (.part .link) (by simp [inputPlaces, View.place])
  rw [State.linkP, hlink, ← State.linkP]

theorem sys : t.sys = s.sys := h (.part .sys) (by simp [inputPlaces, View.place])

theorem clk : t.clk = s.clk := h (.part .clk) (by simp [inputPlaces, View.place])

theorem refPortOf (i : Nat) : t.refPortOf i = s.refPortOf i := h.reg (o := O.refPort) i (by decide)

theorem ownOrigin (i : Nat) : t.ownOrigin i = s.ownOrigin i := by
  simp only [State.ownOrigin, h.linkP, h.refPortOf, h.reg _ (o := O.portRxQl) (by decide),
    h.reg _ (o := O.identDevid) (by decide)]

theorem lossNow {i : Nat} (hi : i < 8) : t.lossNow i = s.lossNow i := by
  simp only [State.lossNow, hi, if_true, h.sys, h.refPortOf, State.aligned,
    h.reg _ (o := O.portAlignState) (by decide), h.reg _ (o := O.portNegState) (by decide)]

end
end InputsOnly

/-! ### LOOP (R269) -/

/-- Only a Cooper input that is enabled and not lost goes into LOOP or out of it. -/
theorem State.loopCheck_eq (s : State) (i : Nat) : s.loopCheck i =
    if 8 ≤ i || s.inState i = 0 || s.lossNow i then s
    else if s.ownOrigin i then s.setInState i 6 else if s.inState i = 6 then s.setInState i 2 else s := rfl

/-- An input without an accepted quality level that is not in LOOP stays out of it. -/
theorem State.loopCheck_same {s : State} {i : Nat} (h : 8 ≤ i ∨ (s.linkP (s.refPortOf i)).ql.acc = false)
    (h6 : s.inState i ≠ 6) : s.loopCheck i = s := by
  rw [State.loopCheck_eq]
  obtain h | h := h
  · simp [h]
  · simp [State.ownOrigin, h, h6]

/-- What the check for LOOP leaves is the state before, or an input's change of state. -/
theorem State.loopCheck_cases (s : State) (i : Nat) : s.loopCheck i = s ∨ ∃ st, s.loopCheck i = s.setInState i st := by
  rw [State.loopCheck_eq]
  split_ifs
  exacts [.inl rfl, .inr ⟨6, rfl⟩, .inr ⟨2, rfl⟩, .inl rfl]

/-- What one input's change of state may write. -/
def inputElems (i : Nat) : List (Nat × Nat) := [(O.refInputState, i), (O.refTied, 0), (O.timeGridResidual, 0)]

theorem OnlyElems.inputState {s t : State} {i : Nat} (h : OnlyElems (inputElems i) s t) (hi : i < 13) (st : Nat) :
    OnlyElems (inputElems i) s (t.setInState i st) :=
  h.setInState st hi (by simp [inputElems]) (by simp [inputElems]) (by simp [inputElems])

/-- The state that the check for LOOP leaves unchanged: an input goes to `st`, other than LOOP. -/
theorem State.setInState_noLoop {s : State} {i st : Nat} (h : 8 ≤ i ∨ (s.linkP (s.refPortOf i)).ql.acc = false)
    (h6 : st ≠ 6) : (s.setInState i st).loopCheck i = s.setInState i st := by
  refine State.loopCheck_same ?_ (by rwa [State.setInState_self])
  have honly := (InputsOnly.refl s).setInState i st
  rwa [honly.refPortOf, honly.linkP]

/-! ### The clauses on one input -/

theorem inputLoss_runs {s : State} {i : Nat} (hi : i < 13) (h0 : s.inState i ≠ 0) (hl : s.lossNow i = true) :
    Runs (.inputLoss i) s fun t => t.inState i = 1 ∧
      (s.inState i ≠ 1 → s.sys.fabOn = true → t.latched 418 = true) ∧ OnlyElems (inputElems i) s t := by
  refine runs_of_runIn (exec_inputLoss s i) hi ?_
  have hop : s.fresh.inputLoss i = s.fresh.setInState i 1 := if_pos (by simpa using ⟨h0, hl⟩)
  rw [hop]
  exact ⟨State.setInState_self _ i 1, fun h1 hon => State.setInState_lost (s := s.fresh) h1 hon,
    ((OnlyElems.refl _ s.fresh).inputState hi 1).run _⟩

/-- Input `i` goes to a state other than LOOP, and the check for LOOP leaves it there. -/
theorem runs_to_state {c : Instr} {s : State} {i st : Nat} {f : State → State} {P : State → Prop}
    (hc : exec c s = s.runIn i 13 f) (hi : i < 13)
    (hq : 8 ≤ i ∨ (s.linkP (s.refPortOf i)).ql.acc = false) (h6 : st ≠ 6)
    (hf : f s.fresh = (s.fresh.setInState i st).loopCheck i)
    (h : ∀ t, t.inState i = st → OnlyElems (inputElems i) s t →
      (s.inState i ≠ 3 → st = 3 → s.sys.fabOn = true → t.latched 419 = true) → P t) : Runs c s P := by
  refine runs_of_runIn hc hi ?_
  rw [hf, State.setInState_noLoop (s := s.fresh) hq h6]
  refine h _ (State.setInState_self _ i st) (((OnlyElems.refl _ s.fresh).inputState hi st).run _) fun h3 hst hon => ?_
  rw [hst]
  exact State.setInState_qualified (s := s.fresh) h3 hon

theorem inputLossCleared_runs {s : State} {i : Nat} (hi : i < 13) (h1 : s.inState i = 1)
    (hl : i = 8 ∨ i = 9 ∨ s.lossNow i = false) (hq : 8 ≤ i ∨ (s.linkP (s.refPortOf i)).ql.acc = false) :
    Runs (.inputLossCleared i) s fun t => t.inState i = 2 ∧ OnlyElems (inputElems i) s t :=
  runs_to_state (exec_inputLossCleared s i) hi hq (by decide)
    (if_pos (by simpa [or_assoc] using ⟨h1, hl⟩)) fun _ hst honly _ => ⟨hst, honly⟩

theorem qualified_runs {s : State} {i : Nat} (hi : i < 13) (h2 : s.inState i = 2) (hw : s.inWindow i = true)
    (ht : s.elapsed (s.input i).t0 (secTicks (s.reg O.refQualTime i)) = true)
    (hq : 8 ≤ i ∨ (s.linkP (s.refPortOf i)).ql.acc = false) :
    Runs (.qualificationTimeExpiry i) s fun t =>
      t.inState i = (if (s.input i).ever then 5 else 3) ∧ OnlyElems (inputElems i) s t :=
  runs_to_state (exec_qualificationTimeExpiry s i) hi hq (by split <;> decide)
    ((if_pos h2).trans (if_pos (Bool.and_eq_true_iff.mpr ⟨hw, ht⟩))) fun _ hst honly _ => ⟨hst, honly⟩

theorem disqualified_runs {s : State} {i : Nat} (hi : i < 13) (h3 : s.inState i = 3)
    (hb : ((s.input i).bad ≠ 0 ∧ s.elapsed ((s.input i).bad - 1) (secTicks (s.reg O.refQualTime i)) = true) ∨
      ((s.input i).dfb ≠ 0 ∧ s.elapsed ((s.input i).dfb - 1) (secTicks (s.reg O.refQualTime i)) = true))
    (hq : 8 ≤ i ∨ (s.linkP (s.refPortOf i)).ql.acc = false) :
    Runs (.qualificationTimeExpiry i) s fun t => t.inState i = 4 ∧ OnlyElems (inputElems i) s t :=
  runs_to_state (exec_qualificationTimeExpiry s i) hi hq (by decide)
    ((if_neg (show ¬ s.fresh.inState i = 2 from fun c => absurd (c.symm.trans h3) (by decide))).trans
      ((if_pos h3).trans (if_pos (by simpa [State.elapsed_fresh] using hb)))) fun _ hst honly _ => ⟨hst, honly⟩

theorem waitRestoreExpiry_runs {s : State} {i : Nat} (hi : i < 13) (h5 : s.inState i = 5)
    (ht : s.elapsed (s.input i).t0 (secTicks (s.reg O.refWtr)) = true)
    (hq : 8 ≤ i ∨ (s.linkP (s.refPortOf i)).ql.acc = false) :
    Runs (.waitRestoreExpiry i) s fun t =>
      t.inState i = 3 ∧ (s.sys.fabOn = true → t.latched 419 = true) ∧ OnlyElems (inputElems i) s t :=
  runs_to_state (exec_waitRestoreExpiry s i) hi hq (by decide)
    (if_pos (Bool.and_eq_true_iff.mpr ⟨decide_eq_true h5, ht⟩))
    fun _ hst honly hev => ⟨hst, hev (by rw [h5]; decide) rfl, honly⟩

theorem dcoClampTimeout_runs {s : State} (hi : s.selected < 13) (hc : s.ref.clamp ≠ 0) (h3 : s.inState s.selected = 3)
    (ht : s.elapsed (s.ref.clamp - 1) (secTicks (s.reg O.refQualTime s.selected)) = true) :
    Runs .dcoClampTimeout s fun t => t.inState s.selected = 4 ∧ OnlyElems (inputElems s.selected) s t := by
  refine runs_of_run (exec_dcoClampTimeout s) ?_
  have hop : s.fresh.clampTimeout = s.fresh.setInState s.selected 4 := if_pos (by simpa using ⟨⟨⟨hi, hc⟩, ht⟩, h3⟩)
  rw [hop]
  exact ⟨State.setInState_self _ _ 4, ((OnlyElems.refl _ s.fresh).inputState hi 4).run _⟩

/-! ### Offset measurement (R273) -/

/-- What has been measured of every input, and every offset, is as before. -/
def SameMeasure (s t : State) : Prop :=
  ∀ k, (t.input k).y = (s.input k).y ∧ (t.input k).meas = (s.input k).meas ∧
    t.reg O.refInputOffset k = s.reg O.refInputOffset k

theorem SameMeasure.refl (s : State) : SameMeasure s s := fun _ => ⟨rfl, rfl, rfl⟩

theorem SameMeasure.trans {s t u : State} (h : SameMeasure s t) (h' : SameMeasure t u) : SameMeasure s u := fun k => by
  obtain ⟨hy, hm, hr⟩ := h k
  obtain ⟨hy', hm', hr'⟩ := h' k
  exact ⟨hy'.trans hy, hm'.trans hm, hr'.trans hr⟩

theorem SameMeasure.setInState (s : State) (i st : Nat) : SameMeasure s (s.setInState i st) := fun k => by
  obtain ⟨hy, hm⟩ := s.setInState_measured i st k
  exact ⟨hy, hm, ((InputsOnly.refl s).setInState i st).reg k (by decide)⟩

theorem SameMeasure.loopCheck (s : State) (i : Nat) : SameMeasure s (s.loopCheck i) := by
  obtain h | ⟨st, h⟩ := s.loopCheck_cases i
  all_goals rw [h]
  exacts [.refl s, .setInState s i st]

/-- The soft alarm and the timers of input `i` are as `x` has them, and event 420 tells of a soft alarm that changed. -/
def State.judged (s : State) (i : Nat) (x : InS) : State :=
  if x.soft != (s.input i).soft then (s.setInput i x).raise 420 else s.setInput i x

/-- A judgement sets an input's soft alarm and timers, and may take the input back into QUALIFYING. -/
theorem State.judgeInput_cases (s : State) (i : Nat) : s.judgeInput i = s ∨
    ∃ soft bad dfb t0, s.judgeInput i =
        s.judged i { s.input i with soft := soft, bad := bad, dfb := dfb, t0 := t0 } ∨
      s.judgeInput i = (s.judged i { s.input i with soft := soft, bad := bad, dfb := dfb, t0 := t0 }).setInState i 2 := by
  unfold State.judgeInput
  extract_lets st x d w inw soft bad dfb t0
  split
  · exact .inl rfl
  · refine .inr ⟨soft, bad, dfb, t0, ?_⟩
    split_ifs
    exacts [.inr rfl, .inr rfl, .inl rfl]

theorem SameMeasure.judged (s : State) (i : Nat) {x : InS} (hy : x.y = (s.input i).y) (hm : x.meas = (s.input i).meas) :
    SameMeasure s (s.judged i x) := fun k => by
  have hin : ((s.setInput i x).input k).y = (s.input k).y ∧ ((s.setInput i x).input k).meas = (s.input k).meas := by
    by_cases hk : k = i
    · rw [hk, State.input_setInput_self]
      exact ⟨hy, hm⟩
    · rw [State.input_setInput_ne _ _ hk]
      exact ⟨rfl, rfl⟩
  simp only [State.judged]
  split
  · rw [State.input_congr (congrArg RefS.ins ((s.setInput i x).raise_ref 420)) k, State.raise_reg _ (by decide)]
    exact ⟨hin.1, hin.2, rfl⟩
  · exact ⟨hin.1, hin.2, rfl⟩

theorem SameMeasure.judgeInput (s : State) (i : Nat) : SameMeasure s (s.judgeInput i) := by
  obtain h | ⟨soft, bad, dfb, t0, h | h⟩ := s.judgeInput_cases i
  · rw [h]; exact .refl s
  all_goals
    have hj : SameMeasure s (s.judged i { s.input i with soft := soft, bad := bad, dfb := dfb, t0 := t0 }) :=
      .judged s i rfl rfl
    rw [h]
  · exact hj
  · exact hj.trans (.setInState _ i 2)

/-- The offset of input `k`, where it is enabled and measured, is taken against the consensus `c`. -/
def State.offsetTaken (c : Int) (s : State) (k : Nat) : State :=
  if s.inState k ≠ 0 && (s.input k).meas then s.setReg O.refInputOffset k (u48 ((s.input k).y - c)) else s

theorem State.offsetTaken_ref (c : Int) (s : State) (k : Nat) : (s.offsetTaken c k).ref = s.ref := by
  simp only [State.offsetTaken]
  split <;> rfl

theorem State.offsetTaken_reg (c : Int) (s : State) (k : Nat) {o : Nat} (e : Nat) (ho : o ≠ O.refInputOffset) :
    (s.offsetTaken c k).reg o e = s.reg o e := by
  simp only [State.offsetTaken]
  split
  exacts [State.reg_setReg_obj s ho, rfl]

/-- The offsets of the inputs are taken in turn: that of a measured one is its own less the consensus. -/
theorem offsetsTaken_offset {s : State} (c : Int) {i : Nat} (hi : i < 13) (h0 : s.inState i ≠ 0)
    (hm : (s.input i).meas = true) :
    (foldRange 13 (State.offsetTaken c) s).reg O.refInputOffset i = u48 ((s.input i).y - c) := by
  have hall := foldRange_induction
    (fun n (t : State) => t.inState i = s.inState i ∧ t.ref = s.ref ∧
      (i < n → t.reg O.refInputOffset i = u48 ((s.input i).y - c)))
    (n := 13) (f := State.offsetTaken c) (a := s) ⟨rfl, rfl, fun h => absurd h (by omega)⟩
    (fun k t hk ht => by
      obtain ⟨hst, href, hoff⟩ := ht
      refine ⟨(t.offsetTaken_reg c k i (by decide)).trans hst, (t.offsetTaken_ref c k).trans href, fun hik => ?_⟩
      have hin : t.input i = s.input i := State.input_congr (congrArg RefS.ins href) i
      rw [State.offsetTaken]
      by_cases hki : k = i
      · rw [hki, if_pos (by simp [hst, h0, hin, hm]), State.reg_setReg_self, hin]
      · split
        · rw [State.reg_setReg_elem t (by omega) (by omega) (Ne.symm hki), hoff (by omega)]
        · exact hoff (by omega))
  exact hall.2.2 hi

/-- Input `i` has shown `y` over the interval that ends now. -/
def State.measured (s : State) (i : Nat) (y : Int) : State :=
  s.setInput i { s.input i with y := y, meas := true, mAt := s.tick }

/-- What a measurement leaves once the offsets are taken: every input is judged, and input `i` is checked for LOOP. -/
def State.allJudged (s : State) (i : Nat) : State := (foldRange 13 (fun s k => s.judgeInput k) s).loopCheck i

theorem SameMeasure.allJudged (s : State) (i : Nat) : SameMeasure s (s.allJudged i) :=
  (foldRange_keeps (SameMeasure s) 13 _ s (.refl s) fun t k h => h.trans (.judgeInput t k)).trans (.loopCheck _ i)

theorem offsetMeasure_eq {s : State} {i : Nat} (y : Int) (h0 : s.inState i ≠ 0)
    (ht : s.elapsed (s.input i).mAt (measureTicks i) = true) : s.offsetMeasure i y =
    (foldRange 13 (State.offsetTaken (s.measured i y).consensus) (s.measured i y)).allJudged i := by
  unfold State.offsetMeasure
  rw [if_neg (by simp [h0, ht])]
  rfl

theorem offsetMeasure_runs {s : State} {i : Nat} (y : Int) (hi : i < 13) (h0 : s.inState i ≠ 0)
    (ht : s.elapsed (s.input i).mAt (measureTicks i) = true) :
    Runs (.offsetMeasure i y) s fun t =>
      (t.input i).y = y ∧ (t.input i).meas = true ∧
      t.reg O.refInputOffset i = u48 (y - (s.measured i y).consensus) ∧
      OnlyRegs [O.refInputOffset, O.refInputState, O.refTied, O.timeGridResidual] s t := by
  refine runs_of_runIn (exec_offsetMeasure s i y) hi ?_
  have honly : OnlyRegs [O.refInputOffset, O.refInputState, O.refTied, O.timeGridResidual] s.fresh
      (s.fresh.offsetMeasure i y) := fun o e he ho => by
    simp only [evObj, Bool.or_eq_false_iff, beq_eq_false_iff_ne, ne_eq] at he
    simp only [List.mem_cons, List.not_mem_nil, or_false, not_or] at ho
    rw [reg_see, State.offsetMeasure_see _ _ _ (by simp [View.place, he, ho]), ← reg_see]
  rw [offsetMeasure_eq (s := s.fresh) y h0 ht] at honly ⊢
  have hin : ((s.fresh.measured i y).input i).y = y ∧ ((s.fresh.measured i y).input i).meas = true := by
    rw [State.measured, State.input_setInput_self]
    exact ⟨rfl, rfl⟩
  have href : ∀ c t, ((foldRange 13 (State.offsetTaken c) t).input i) = t.input i := fun c t =>
    State.input_congr (congrArg RefS.ins (foldRange_same State.ref 13 _ t (fun u k => u.offsetTaken_ref c k))) i
  have hoff := offsetsTaken_offset (s := s.fresh.measured i y) (s.fresh.measured i y).consensus hi h0 hin.2
  obtain ⟨hy, hm, hr⟩ := SameMeasure.allJudged
    (foldRange 13 (State.offsetTaken (s.fresh.measured i y).consensus) (s.fresh.measured i y)) i i
  rw [href] at hy hm
  exact ⟨hy.trans hin.1, hm.trans hin.2, hr.trans (hoff.trans (by rw [hin.1]; rfl)), honly⟩

/-! ### REF.ENABLE -/

/-- Input `i` as REF.ENABLE `v` leaves it. -/
def State.enabledAs (v : Nat) (s : State) (i : Nat) : State :=
  if !bit v i then s.setInState i 0
  else if s.inState i = 0 then
    ((s.setInState i 2).setInput i { InS.init with at_ := s.tick, t0 := s.tick, mAt := s.tick }).loopCheck i
  else s

/-- The state of input `i` after REF.ENABLE `v`, where it has started anew or stands as before. -/
def State.enabledState (s : State) (v i : Nat) : Nat :=
  if bit v i = false then 0
  else if s.inState i ≠ 0 then s.inState i
  else if i < 8 ∧ s.lossNow i = false ∧ s.ownOrigin i = true then 6 else 2

theorem State.loopCheck_ne (s : State) {i k : Nat} (hi : i < 13) (hk : k < 13) (h : k ≠ i) :
    (s.loopCheck i).inState k = s.inState k := by
  obtain heq | ⟨st, heq⟩ := s.loopCheck_cases i
  all_goals rw [heq]
  exact s.setInState_ne st hi hk h

/-- An input in QUALIFYING goes into LOOP where its accepted ORIGIN is the device's own. -/
theorem State.loopCheck_qualifying {s : State} {i : Nat} (h : s.inState i = 2) :
    (s.loopCheck i).inState i = if i < 8 ∧ s.lossNow i = false ∧ s.ownOrigin i = true then 6 else 2 := by
  rw [State.loopCheck_eq]
  by_cases hq : (decide (8 ≤ i) || decide (s.inState i = 0) || s.lossNow i) = true
  · have hno : ¬(i < 8 ∧ s.lossNow i = false ∧ s.ownOrigin i = true) := by
      rintro ⟨h8, hloss, -⟩
      rw [h, hloss] at hq
      simp at hq
      omega
    rw [if_pos hq, if_neg hno, h]
  · have h8 : i < 8 ∧ s.lossNow i = false := by
      rw [h] at hq
      simpa using hq
    rw [if_neg hq]
    by_cases hown : s.ownOrigin i = true
    · rw [if_pos hown, if_pos ⟨h8.1, h8.2, hown⟩, State.setInState_self]
    · rw [if_neg hown, if_neg (by omega), if_neg fun c => hown c.2.2, h]

section
variable {s t : State} {v i : Nat} (h : InputsOnly s t)
include h

theorem InputsOnly.enabledAs : InputsOnly s (t.enabledAs v i) := by
  simp only [State.enabledAs]
  split_ifs
  exacts [h.setInState i 0, ((h.setInState i 2).setInput i _).loopCheck i, h]

/-- The check for LOOP of an input that starts anew goes by what the others have left. -/
theorem enabledAs_self (hs : t.inState i = s.inState i) : (t.enabledAs v i).inState i = s.enabledState v i := by
  unfold State.enabledAs State.enabledState
  by_cases hv : bit v i = false
  · rw [if_pos hv, if_pos (by rw [hv]; rfl), State.setInState_self]
  · rw [if_neg hv, if_neg (by simpa using hv), hs]
    by_cases h0 : s.inState i = 0
    · have honly := (h.setInState i 2).setInput i { InS.init with at_ := t.tick, t0 := t.tick, mAt := t.tick }
      rw [if_pos h0, if_neg (by simpa using h0)]
      refine (State.loopCheck_qualifying (s := (t.setInState i 2).setInput i _) (t.setInState_self i 2)).trans ?_
      by_cases h8 : i < 8
      · rw [honly.lossNow h8, honly.ownOrigin]
      · rw [if_neg fun c => h8 c.1, if_neg fun c => h8 c.1]
    · rw [if_neg h0, if_pos h0, hs]

end

theorem enabledAs_ne {t : State} {v i k : Nat} (hi : i < 13) (hk : k < 13) (hki : k ≠ i) :
    (t.enabledAs v i).inState k = t.inState k := by
  unfold State.enabledAs
  split_ifs
  · exact t.setInState_ne 0 hi hk hki
  · rw [State.loopCheck_ne _ hi hk hki]
    exact t.setInState_ne 2 hi hk hki
  · rfl

/-- Every input stands as REF.ENABLE asks. -/
theorem enabled_all (s : State) (v : Nat) : InputsOnly s (foldRange 13 (State.enabledAs v) s) ∧
    ∀ k < 13, (foldRange 13 (State.enabledAs v) s).inState k = s.enabledState v k := by
  have hall := foldRange_induction
    (fun n (t : State) => InputsOnly s t ∧ ∀ k < 13, t.inState k = if k < n then s.enabledState v k else s.inState k)
    (n := 13) (f := State.enabledAs v) (a := s) ⟨.refl s, fun k _ => by rw [if_neg (by omega)]⟩
    (fun i t hi ht => by
      obtain ⟨honly, hst⟩ := ht
      refine ⟨honly.enabledAs, fun k hk => ?_⟩
      by_cases hki : k = i
      · rw [hki, if_pos (by omega)]
        exact enabledAs_self honly ((hst i hi).trans (if_neg (by omega)))
      · rw [enabledAs_ne hi hk hki, hst k hk]
        exact if_congr (by omega) rfl rfl)
  exact ⟨hall.1, fun k hk => (hall.2 k hk).trans (if_pos hk)⟩

theorem State.enabledState_setReg (s : State) (v i : Nat) :
    (s.setReg O.refEnable 0 v).enabledState v i = s.enabledState v i := by
  have hreg {o : Nat} (e : Nat) (ho : o ≠ O.refEnable) : (s.setReg O.refEnable 0 v).reg o e = s.reg o e :=
    State.reg_setReg_obj _ ho
  have hport : (s.setReg O.refEnable 0 v).refPortOf i = s.refPortOf i := hreg i (by decide)
  have hown : (s.setReg O.refEnable 0 v).ownOrigin i = s.ownOrigin i := by
    simp only [State.ownOrigin, hport, hreg _ (show O.portRxQl ≠ O.refEnable by decide),
      hreg _ (show O.identDevid ≠ O.refEnable by decide)]
    rfl
  have hloss (h8 : i < 8) : (s.setReg O.refEnable 0 v).lossNow i = s.lossNow i := by
    simp only [State.lossNow, h8, if_true, hport, State.aligned, State.setReg_sys,
      hreg _ (show O.portAlignState ≠ O.refEnable by decide), hreg _ (show O.portNegState ≠ O.refEnable by decide)]
  unfold State.enabledState
  rw [hown, State.inState, hreg i (by decide), ← State.inState]
  by_cases h8 : i < 8
  · rw [hloss h8]
  · rw [if_neg (show ¬(i < 8 ∧ _) from fun c => h8 c.1), if_neg (show ¬(i < 8 ∧ _) from fun c => h8 c.1)]

theorem refEnableWrite_runs {s : State} {w : Who} {v : Nat} (ha : Allowed s w O.refEnable 0 v) :
    Runs (.refEnableWrite w v) s fun t =>
      t.reg O.refEnable = v ∧ t.out.status = 0 ∧ (∀ i < 13, t.inState i = s.enabledState v i) ∧
      OnlyRegs [O.refEnable, O.refInputState, O.refTied, O.timeGridResidual, O.ledgerJournalSeq] s t := by
  obtain ⟨honly, hst⟩ := enabled_all (s.fresh.setReg O.refEnable 0 v) v
  refine runs_of_write (u := foldRange 13 (State.enabledAs v) (s.fresh.setReg O.refEnable 0 v))
    (exec_refEnableWrite s w v) ha rfl ⟨?_, rfl, fun i hi => ?_, fun o e he ho => ?_⟩
  · rw [State.reg_write _ _ _ _ _ (by decide) (by decide), honly.reg _ (by decide), State.reg_setReg_self]
  · rw [State.inState, State.reg_write _ _ _ _ _ (by decide) (by decide), ← State.inState, hst i hi]
    exact s.fresh.enabledState_setReg v i
  · simp only [List.mem_cons, List.not_mem_nil, or_false, not_or] at ho
    obtain ⟨h1, h2, h3, h4, h5⟩ := ho
    have hp : Place.obj o ∉ inputPlaces := by
      simp only [evObj, Bool.or_eq_false_iff, beq_eq_false_iff_ne, ne_eq] at he
      simp [inputPlaces, he, h2, h3, h4]
    rw [State.reg_write _ _ _ _ _ he h5, honly.reg e hp, State.reg_setReg_obj _ h1]
    rfl

/-! ### Selection (R277 to R280, R283, R285) -/

/-- The objects that the tie to network time writes. -/
theorem State.tieCheck_reg (s : State) {o : Nat} (e : Nat) (he : evObj o = false) (ht : tieObj o = false) :
    s.tieCheck.reg o e = s.reg o e := by
  simp only [evObj, tieObj, Bool.or_eq_false_iff, beq_eq_false_iff_ne, ne_eq] at he ht
  rw [reg_see, State.tieCheck_see _ (by simp [View.place, he, ht]), ← reg_see]

theorem State.latched_tieCheck {s : State} {ev : Nat} (h : s.latched ev = true) : s.tieCheck.latched ev = true := by
  simp only [State.tieCheck]
  split_ifs
  · exact State.latched_untie h
  · exact h
  · exact State.latched_raise ((State.latched_setReg (i := O.refTied) (e := 0) (v := 1) (by decide)).trans h) 423

/-- What the tie leaves of the Horologer's selection. -/
theorem State.tieCheck_ref (s : State) : s.tieCheck.ref.sw = s.ref.sw ∧ s.tieCheck.ref.freeDue = s.ref.freeDue := by
  simp only [State.tieCheck, State.untie]
  split_ifs
  all_goals simp only [State.setTime, State.setReg_ref, State.raise_ref, and_self]

theorem State.latched_setRefState {s : State} {ev : Nat} (h : s.latched ev = true) (v : Nat) :
    (s.setRefState v).latched ev = true := by
  simp only [State.setRefState]
  split
  · exact h
  · exact State.latched_raise ((State.latched_setReg (i := O.refState) (e := 0) (v := v) (by decide)).trans h) 417

theorem State.setRefState_refState (s : State) (v : Nat) : (s.setRefState v).refState = v := by
  simp only [State.setRefState]
  split
  · assumption
  · rw [State.refState, State.raise_reg _ (by decide), State.reg_setReg_self]

theorem State.setRefState_selected (s : State) (v : Nat) : (s.setRefState v).selected = s.selected := by
  simp only [State.setRefState]
  split
  · rfl
  · rw [State.selected, State.raise_reg _ (by decide), State.reg_setReg_obj _ (by decide), ← State.selected]

theorem State.setRefState_ref (s : State) (v : Nat) : (s.setRefState v).ref = s.ref := by
  simp only [State.setRefState]
  split
  · rfl
  · rw [State.raise_ref, State.setReg_ref]

/-- The Horologer follows input `b` in REF.STATE `v`. -/
def State.follow (s : State) (b v : Nat) : State := ((s.setSelected b).setRefState v).tieCheck

theorem State.follow_selected (s : State) (b v : Nat) : (s.follow b v).selected = b := by
  rw [State.selected, State.follow, State.tieCheck_reg _ _ (by decide) (by decide), ← State.selected,
    State.setRefState_selected, State.selected, State.setSelected, State.raise_reg _ (by decide),
    State.reg_setReg_self]

theorem State.follow_refState (s : State) (b v : Nat) : (s.follow b v).refState = v := by
  rw [State.refState, State.follow, State.tieCheck_reg _ _ (by decide) (by decide), ← State.refState,
    State.setRefState_refState]

theorem State.follow_ref (s : State) (b v : Nat) :
    (s.follow b v).ref.sw = s.ref.sw ∧ (s.follow b v).ref.freeDue = s.ref.freeDue := by
  obtain ⟨h1, h2⟩ := ((s.setSelected b).setRefState v).tieCheck_ref
  rw [State.setRefState_ref, State.setSelected, State.raise_ref, State.setReg_ref] at h1 h2
  exact ⟨h1, h2⟩

theorem State.follow_latched (s : State) (b v : Nat) (hon : s.sys.fabOn = true) : (s.follow b v).latched 416 = true :=
  State.latched_tieCheck (State.latched_setRefState
    (State.latched_raise_self (s := s.setReg O.refSelected 0 b) (.inr hon)) v)

/-- A switch to input `b` follows it in ACQUIRE; the servo may go from RUN to HELD. -/
theorem State.switchTo_eq (s : State) (b : Nat) : ∃ x : RefS, x.sw = s.tick ∧
    s.switchTo b = ((s.withRef x).follow b 1).servoHold := by
  simp only [State.switchTo]
  split
  exacts [⟨_, rfl, rfl⟩, ⟨_, rfl, rfl⟩]

theorem selectionEval_runs {s : State} {b : Nat} (hb : s.bestInput = some b) (hne : b ≠ s.selected)
    (hq : s.refState ≠ 1 ∨ 13 ≤ s.selected ∨ s.inState s.selected ≠ 3) :
    Runs .selectionEval s fun t =>
      t.selected = b ∧ t.refState = 1 ∧ t.ref.sw = s.tick ∧ (s.sys.fabOn = true → t.latched 416 = true) := by
  refine runs_of_run (exec_selectionEval s) ?_
  have hop : s.fresh.select = s.fresh.switchTo b := by
    have hbest : s.fresh.bestInput = some b := hb
    have hstay : ¬(decide (s.refState = 1) && decide (s.selected < 13) && decide (s.inState s.selected = 3)) = true := by
      simp only [Bool.and_eq_true, decide_eq_true_eq]
      omega
    unfold State.select
    rw [hbest]
    exact (if_neg hne).trans (if_neg hstay)
  obtain ⟨x, hsw, heq⟩ := s.fresh.switchTo_eq b
  have hsee {z : View} (hz : z.place ∉ [.part .tim]) := State.servoHold_see ((s.fresh.withRef x).follow b 1) hz
  have href : ((s.fresh.withRef x).follow b 1).servoHold.ref = ((s.fresh.withRef x).follow b 1).ref :=
    hsee (z := .part .ref) (by simp [View.place])
  rw [hop, heq]
  refine ⟨?_, ?_, ?_, fun hon => ?_⟩
  · rw [State.selected, State.reg_withQueue_all, reg_see, hsee (by simp [View.place]), ← reg_see, ← State.selected,
      State.follow_selected]
  · rw [State.refState, State.reg_withQueue_all, reg_see, hsee (by simp [View.place]), ← reg_see, ← State.refState,
      State.follow_refState]
  · rw [State.withQueue_ref, href, (State.follow_ref _ b 1).1]
    exact hsw
  · rw [State.latched_withQueue, State.latched_see (hsee (by simp [View.place]))]
    exact State.follow_latched _ b 1 hon

/-- The Horologer goes to FREE, and the token of phase steps is given back. -/
theorem State.goFree_eq {s : State} (h : s.selected ≠ 255) : ∃ x : RefS, x.freeDue = true ∧
    s.goFree = ((s.withRef x).follow 255 0).stepEnd := by
  unfold State.goFree
  rw [if_neg h]
  exact ⟨_, rfl, rfl⟩

theorem State.stepEnd_freeDue (s : State) : s.stepEnd.ref.freeDue = s.ref.freeDue := by
  simp only [State.stepEnd]
  split
  · rw [State.actEnd_ref]
  · rfl

theorem selectionFree_runs {s : State} (hb : s.bestInput = none) (hne : s.selected ≠ 255) :
    Runs .selectionEval s fun t => t.selected = 255 ∧ t.refState = 0 ∧ t.ref.freeDue = true := by
  refine runs_of_run (exec_selectionEval s) ?_
  have hop : s.fresh.select = s.fresh.goFree := by
    have hbest : s.fresh.bestInput = none := hb
    unfold State.select
    rw [hbest]
  obtain ⟨x, hdue, heq⟩ := State.goFree_eq (s := s.fresh) hne
  have hreg {o : Nat} (e : Nat) (ho : o = O.refSelected ∨ o = O.refState) :
      ((s.fresh.withRef x).follow 255 0).stepEnd.reg o e = ((s.fresh.withRef x).follow 255 0).reg o e := by
    rw [reg_see, State.stepEnd_see _ (by obtain rfl | rfl := ho <;> simp [View.place]), ← reg_see]
  rw [hop, heq]
  refine ⟨?_, ?_, ?_⟩
  · rw [State.selected, State.reg_withQueue_all, hreg 0 (.inl rfl), ← State.selected, State.follow_selected]
  · rw [State.refState, State.reg_withQueue_all, hreg 0 (.inr rfl), ← State.refState, State.follow_refState]
  · rw [State.withQueue_ref, State.stepEnd_freeDue, (State.follow_ref _ 255 0).2]
    exact hdue

/-- A switch that has settled is LOCKED; an alignment may begin with it. -/
theorem State.switchSettled_eq {s : State} (h1 : s.refState = 1) (hsel : s.selected < 13) (hw : s.ref.win ≠ 0)
    (ht : s.elapsed (s.ref.win - 1) (settleTicks s.selected) = true)
    (hsw : s.elapsed s.ref.sw (settleTicks s.selected) = true) : ∃ x : RefS,
    s.switchSettled = ((s.withRef x).setRefState 2).tieCheck ∨
      s.switchSettled = ((((s.withRef x).setRefState 2).tieCheck).alignStart true).actStart 5 0xFE := by
  unfold State.switchSettled
  refine ⟨{ s.ref with keep := false, fromFree := false }, ?_⟩
  rw [if_neg (by simp [h1, hw]; omega), if_pos (by rw [ht, hsw]; rfl)]
  dsimp only
  split
  exacts [.inr rfl, .inl rfl]

theorem switchSettled_runs {s : State} (h1 : s.refState = 1) (hsel : s.selected < 13) (hw : s.ref.win ≠ 0)
    (ht : s.elapsed (s.ref.win - 1) (settleTicks s.selected) = true)
    (hsw : s.elapsed s.ref.sw (settleTicks s.selected) = true) : Runs .switchSettled s fun t =>
      t.refState = 2 ∧ t.selected = s.selected ∧ (s.sys.fabOn = true → t.latched 417 = true) := by
  refine runs_of_run (exec_switchSettled s) ?_
  obtain ⟨x, heq⟩ := State.switchSettled_eq (s := s.fresh) h1 hsel hw ht hsw
  have hstate : (((s.fresh.withRef x).setRefState 2).tieCheck).refState = 2 := by
    rw [State.refState, State.tieCheck_reg _ _ (by decide) (by decide), ← State.refState, State.setRefState_refState]
  have hselected : (((s.fresh.withRef x).setRefState 2).tieCheck).selected = s.selected := by
    rw [State.selected, State.tieCheck_reg _ _ (by decide) (by decide), ← State.selected, State.setRefState_selected]
    rfl
  have hlatch (hon : s.sys.fabOn = true) : (((s.fresh.withRef x).setRefState 2).tieCheck).latched 417 = true := by
    have hne : ¬(s.fresh.withRef x).refState = 2 := fun c => absurd (h1.symm.trans c) (by decide)
    rw [State.setRefState, if_neg hne]
    exact State.latched_tieCheck (State.latched_raise_self (s := (s.fresh.withRef x).setReg O.refState 0 2) (.inr hon))
  generalize ((s.fresh.withRef x).setRefState 2).tieCheck = u at heq hstate hselected hlatch
  obtain heq | heq := heq
  · rw [heq]
    exact ⟨hstate, hselected, hlatch⟩
  · rw [heq]
    exact ⟨(State.actStart_reg _ (by decide) (by decide) (by decide)).trans hstate,
      (State.actStart_reg _ (by decide) (by decide) (by decide)).trans hselected,
      fun hon => State.latched_actStart (s := u.alignStart true) (hlatch hon) 5 _⟩

/-- Settles O21: each change of an input's state goes through `setInState`, whose one frame lemma is `OnlyElems.setInState`;
selection goes through `follow`. -/
theorem referenceInputs : Obligations.ReferenceInputs := by
  unfold Obligations.ReferenceInputs
  refine ⟨fun s w v ha => ?_, fun s i hi h0 hl => inputLoss_runs hi h0 hl,
    fun s i hi h1 hl hq => inputLossCleared_runs hi h1 hl hq, fun s i y hi h0 ht => offsetMeasure_runs y hi h0 ht,
    fun s i hi h2 hw ht hq => qualified_runs hi h2 hw ht hq, fun s i hi h3 hb hq => disqualified_runs hi h3 hb hq,
    fun s i hi h5 ht hq => waitRestoreExpiry_runs hi h5 ht hq, fun s b hb hne hq => selectionEval_runs hb hne hq,
    fun s hb hne => selectionFree_runs hb hne, fun s h1 hsel hw ht hsw => switchSettled_runs h1 hsel hw ht hsw,
    fun s hi hc h3 ht => dcoClampTimeout_runs hi hc h3 ht⟩
  obtain ⟨t, hrun, hv, hst, hin, honly⟩ := refEnableWrite_runs ha
  refine ⟨t, hrun, hv, hst, fun i hi hb => ?_, fun i hi hb h0 => ?_, fun i hi hb h0 => ?_, honly⟩
  · rw [hin i hi, State.enabledState, if_pos hb]
  · rw [hin i hi, State.enabledState, if_neg (by simp [hb]), if_pos h0]
  · rw [hin i hi, State.enabledState, if_neg (by simp [hb]), if_neg (by simpa using h0)]
    simp only [State.ownOrigin, Bool.and_eq_true, beq_iff_eq]

end Sys2Proof.Machine

/-! Chapters 7 and 8: the tie to network time, phase steps, alignment, local time and the servo (R284 to R301). -/

namespace Sys2Proof.Machine

/-! ### A commit by time follows local time (R318) -/

/-- The places that a commit may write as local time moves. -/
def commitPlaces : List Place :=
  [.obj O.eventCount, .obj O.eventLastTime, .obj O.eventLatch, .obj O.hdpStats, .obj O.maintTokenHolder,
    .obj O.maintTokenSince, .obj O.mapBoundaryFsn, .obj O.mapResult, .obj O.mapState, .obj O.tallyOvfCount, .part .sys,
    .part .map, .part .mem]

theorem State.commitRestep_reg (s : State) {o : Nat} (e : Nat) (ho : Place.obj o ∉ commitPlaces) :
    s.commitRestep.reg o e = s.reg o e := s.commitRestep_see (z := .reg o e) ho

theorem State.commitRestep_tim (s : State) : s.commitRestep.tim = s.tim :=
  s.commitRestep_see (z := .part .tim) (by simp [View.place])

theorem State.commitRestep_ref (s : State) : s.commitRestep.ref = s.ref :=
  s.commitRestep_see (z := .part .ref) (by simp [View.place])

theorem State.commitRestep_clk (s : State) : s.commitRestep.clk = s.clk :=
  s.commitRestep_see (z := .part .clk) (by simp [View.place])

/-- Local time moves a commit's boundary, and may end the commit. -/
theorem State.commitRestep_cases (s : State) : ∃ u : State, u.sys = s.sys ∧
    (s.commitRestep = u ∨ s.commitRestep = u.commitEnd 0x060A) := by
  unfold State.commitRestep
  split
  · exact ⟨s, rfl, .inl rfl⟩
  · extract_lets f m u v
    have hv : v.sys = s.sys := by
      simp only [v]
      split <;> rfl
    refine ⟨v, hv, ?_⟩
    split
    exacts [.inr rfl, .inl rfl]

/-- The end of a commit leaves the fabric island as it is. -/
theorem State.commitRestep_fabOn (s : State) : s.commitRestep.sys.fabOn = s.sys.fabOn := by
  obtain ⟨u, hu, h | h⟩ := s.commitRestep_cases
  · rw [h, hu]
  · rw [h, State.commitEnd, State.sys_of_see (State.repairNext_see _ _ _ (by simp [View.place])), State.commitStop_sys,
      hu]

theorem State.ref_write (s : State) (idx e v : Nat) (q : List Instr) :
    (((s.record idx e v).answer 0).withQueue q).ref = s.ref :=
  State.see_write s idx e v q (z := .part .ref) (by simp [View.place])

theorem State.tim_write (s : State) (idx e v : Nat) (q : List Instr) :
    (((s.record idx e v).answer 0).withQueue q).tim = s.tim :=
  State.see_write s idx e v q (z := .part .tim) (by simp [View.place])

/-! ### Local time (R298, R299) -/

/-- Local time steps to `lt`: what is written is local time and what follows it of a commit. -/
theorem State.jumpTime_tim (s : State) (lt : Nat) :
    (s.jumpTime lt).tim.lt = lt ∧ (s.jumpTime lt).tim.ltTick = s.tick ∧ (s.jumpTime lt).tim.inc = s.tim.inc :=
  ⟨rfl, rfl, rfl⟩

/-- Local time has stepped to `lt`, and event 431 tells of it. -/
def State.timeTold (s : State) (lt : Nat) : State := ((s.jumpTime lt).commitRestep).raise 431

theorem State.timeTold_tim (s : State) (lt : Nat) : (s.timeTold lt).tim = (s.jumpTime lt).tim := by
  rw [State.timeTold, State.raise_tim, State.commitRestep_tim]

theorem State.timeTold_latched (s : State) (lt : Nat) (hon : s.sys.fabOn = true) :
    (s.timeTold lt).latched 431 = true :=
  State.latched_raise_self (.inr ((State.commitRestep_fabOn _).trans hon))

theorem timeTold_runs {c : Instr} {s : State} {w : Who} {idx v lt : Nat} {op : State → State × Nat}
    (hc : exec c s = s.run fun s => s.write w idx 0 v op) (ha : Allowed s w idx 0 v)
    (hop : op s.fresh = (s.fresh.timeTold lt, 0)) : Runs c s fun t =>
      t.tim.lt = lt ∧ t.tim.ltTick = s.tick ∧ t.tim.inc = s.tim.inc ∧ t.out.status = 0 ∧
      (s.sys.fabOn = true → t.latched 431 = true) := by
  have htim : ((((s.fresh.timeTold lt).record idx 0 v).answer 0).withQueue s.pending).tim =
      (s.fresh.jumpTime lt).tim := by
    rw [State.tim_write, s.fresh.timeTold_tim lt]
  refine runs_of_write hc ha hop ⟨?_, ?_, ?_, rfl, fun hon => ?_⟩
  · rw [htim]; rfl
  · rw [htim]; rfl
  · rw [htim]; rfl
  · rw [State.latched_withQueue, State.latched_answer]
    exact State.latched_record (s.fresh.timeTold_latched lt hon) _ _ _

theorem timeSet_runs {s : State} {w : Who} {v : Nat} (ha : Allowed s w O.timeSet 0 v)
    (hf : s.tokFree 5 (holderOf w) = true) (ht : s.reg O.refTied = 0) : Runs (.timeSet w v) s fun t =>
      t.tim.lt = ofTime v * 65536 ∧ t.tim.ltTick = s.tick ∧ t.tim.inc = s.tim.inc ∧ t.out.status = 0 ∧
      (s.sys.fabOn = true → t.latched 431 = true) := by
  refine timeTold_runs (exec_timeSet s w v) ha ?_
  have hfree : s.fresh.tokFree 5 (holderOf w) = true := hf
  have htied : s.fresh.reg O.refTied = 0 := ht
  simp only [timeSetOp, hfree, htied]
  rfl

theorem timeStep_runs {s : State} {w : Who} {v : Nat} (ha : Allowed s w O.timeStep 0 v)
    (hf : s.tokFree 5 (holderOf w) = true) (ht : s.reg O.refTied = 0) : Runs (.timeStep w v) s fun t =>
      t.tim.lt = ((s.lt : Int) + i48 v * 65536).toNat ∧ t.tim.ltTick = s.tick ∧ t.out.status = 0 ∧
      (s.sys.fabOn = true → t.latched 431 = true) := by
  have hfree : s.fresh.tokFree 5 (holderOf w) = true := hf
  have htied : s.fresh.reg O.refTied = 0 := ht
  obtain ⟨t, hrun, hlt, htick, -, hst, hev⟩ := timeTold_runs (lt := ((s.lt : Int) + i48 v * 65536).toNat)
    (exec_timeStep s w v) ha (by simp only [timeStepOp, hfree, htied]; rfl)
  exact ⟨t, hrun, hlt, htick, hst, hev⟩

theorem timeCapture_runs {s : State} {w : Who} {v : Nat} (ha : Allowed s w O.timeCapture 0 v) :
    Runs (.timeCapture w v) s fun t =>
      t.reg O.timeCapturedTime = s.nowTime ∧ t.reg O.timeCapturedFsn = s.clk.fsn ∧ t.out.status = 0 ∧
      OnlyElems [(O.timeCapturedTime, 0), (O.timeCapturedFsn, 0)] s t := by
  refine runs_of_write (exec_timeCapture s w v) ha rfl ⟨?_, ?_, rfl, fun o e he hev hne => ?_⟩
  · rw [State.reg_write _ _ _ _ _ (by decide) (by decide), State.reg_setReg_obj _ (by decide), State.reg_setReg_self]
    rfl
  · rw [State.reg_write _ _ _ _ _ (by decide) (by decide), State.reg_setReg_self]
    rfl
  · simp only [List.mem_cons, List.not_mem_nil, or_false, not_or] at hne
    rw [State.record_of_not_carried rfl rfl, State.reg_withQueue_all, State.reg_answer_all,
      State.reg_setReg_ne _ (by decide) he hne.2, State.reg_setReg_ne _ (by decide) he hne.1]
    rfl

/-! ### The tie to network time (R288) -/

theorem State.gridTime_zero (s : State) : s.gridTime 0 = (s.clk.fsn * frameU + s.reg O.refFrameOffset) * 65536 := by
  have h : ((s.clk.fsn * frameU + s.reg O.refFrameOffset : Int) + 0).toNat =
      s.clk.fsn * frameU + s.reg O.refFrameOffset := by
    rw [add_zero]
    exact_mod_cast Int.toNat_natCast _
  rw [State.gridTime, h]

/-- The FSN has stepped by `d`, and the steps that were being pulled, or due, are over. -/
def State.fsnTaken (s : State) (d : Int) : State :=
  let s := { s with clk := { s.clk with fsn := add48 s.clk.fsn d } }
  let g (x : Nat × InS) : Nat × InS := (x.1, { x.2 with dF := x.2.dF - d, refF := add48 x.2.refF d })
  { s with ref := { s.ref with tieDue := false, pull := false, left := 0, frac := 0, ins := s.ref.ins.map g } }

/-- Local time stands on the grid, at nominal rate and without what is left of a step. -/
def State.onGrid (s : State) : State :=
  let s := s.setReg O.timeGridResidual 0 0
  let s := (s.stepPast s.frameLt (s.gridTime 0)).setTime s.clk.base (s.gridTime 0) TimS.init.inc
  { s with tim := { s.tim with integ := 0, clamped := false } }.setReg O.timeServoFreq 0 0

/-- The FSN steps by `d` at a frame start: what follows of time, groups and a commit, and REF.FSN_STEP. -/
def State.fsnStepped (s : State) (d : Int) : State :=
  (((s.fsnTaken d).onGrid.groupsStep d).commitRestep).setReg O.refFsnStep 0 (u48 d)

theorem State.fsnStep_eq {s : State} (hd : s.ref.tieDue = true) (hs : s.selected < 13) :
    s.fsnStep = if (s.input s.selected).dF = 0 then s.fsnStepped (s.input s.selected).dF
      else (s.fsnStepped (s.input s.selected).dF).raise 422 := by
  have hstep : s.fsnStep = if (!s.ref.tieDue) = true then s
      else if (if s.selected < 13 then (s.input s.selected).dF else 0) = 0 then
        s.fsnStepped (if s.selected < 13 then (s.input s.selected).dF else 0)
      else (s.fsnStepped (if s.selected < 13 then (s.input s.selected).dF else 0)).raise 422 := rfl
  rw [hstep, if_neg (by simp [hd]), if_pos hs]

/-- Another local time. -/
def State.withTim (s : State) (x : TimS) : State := { s with tim := x }

theorem State.onGrid_eq (s : State) : ∃ x : TimS, x.lt = (s.clk.fsn * frameU + s.reg O.refFrameOffset) * 65536 ∧
    x.ltTick = s.clk.base ∧ s.onGrid = ((s.setReg O.timeGridResidual 0 0).withTim x).setReg O.timeServoFreq 0 0 := by
  have hgrid : (s.setReg O.timeGridResidual 0 0).gridTime 0 = (s.clk.fsn * frameU + s.reg O.refFrameOffset) * 65536 := by
    rw [State.gridTime_zero, State.reg_setReg_obj _ (by decide), State.setReg_clk]
  exact ⟨_, hgrid, rfl, rfl⟩

/-- What the step of the FSN leaves to the groups and to a commit keeps the clock, the Horologer and local time. -/
theorem State.fsnStepped_see (s : State) (d : Int) {z : View} (h : z.place ∉ commitPlaces)
    (h1 : z.place ≠ .obj O.groupOffset) (h2 : z.place ≠ .obj O.groupTarget) (h3 : z.place ≠ .part .rx)
    (h4 : z.place ≠ .part .grp) (h5 : z.place ≠ .obj O.refFsnStep) :
    (s.fsnStepped d).see z = (s.fsnTaken d).onGrid.see z := by
  rw [State.fsnStepped, State.setReg_see _ _ _ _ h5, State.commitRestep_see _ h,
    State.groupsStep_see _ _ (by simp [h1, h2, h3, h4])]

theorem fsnStep_runs {s : State} (hd : s.ref.tieDue = true) (hs : s.selected < 13) :
    Runs .fsnStep s fun t =>
      t.clk = { s.clk with fsn := add48 s.clk.fsn (s.input s.selected).dF } ∧ t.ref.tieDue = false ∧
      t.reg O.refFsnStep = u48 (s.input s.selected).dF ∧ t.reg O.timeGridResidual = 0 ∧
      t.tim.lt = (t.clk.fsn * frameU + s.reg O.refFrameOffset) * 65536 ∧ t.tim.ltTick = s.clk.base := by
  refine runs_of_run (exec_fsnStep s) ?_
  set d := (s.input s.selected).dF with hdef
  have hsee {z : View} (h : z.place ∉ commitPlaces) (h1 : z.place ≠ .obj O.groupOffset)
      (h2 : z.place ≠ .obj O.groupTarget) (h3 : z.place ≠ .part .rx) (h4 : z.place ≠ .part .grp)
      (h5 : z.place ≠ .obj O.refFsnStep) := s.fresh.fsnStepped_see d h h1 h2 h3 h4 h5
  obtain ⟨x, hlt, htick, hgrid⟩ := (s.fresh.fsnTaken d).onGrid_eq
  have hclk : (s.fresh.fsnStepped d).clk = { s.clk with fsn := add48 s.clk.fsn d } := by
    refine (hsee (z := .part .clk) (by decide) (by decide) (by decide) (by decide) (by decide) (by decide)).trans ?_
    rw [hgrid]
    rfl
  have href : (s.fresh.fsnStepped d).ref.tieDue = false := by
    refine (congrArg RefS.tieDue
      (hsee (z := .part .ref) (by decide) (by decide) (by decide) (by decide) (by decide) (by decide))).trans ?_
    rw [hgrid]
    rfl
  have htim : (s.fresh.fsnStepped d).tim = x := by
    refine (hsee (z := .part .tim) (by decide) (by decide) (by decide) (by decide) (by decide) (by decide)).trans ?_
    rw [hgrid]
    rfl
  have hres : (s.fresh.fsnStepped d).reg O.timeGridResidual = 0 := by
    refine (hsee (z := .reg O.timeGridResidual 0) (by decide) (by decide) (by decide) (by decide) (by decide)
      (by decide)).trans ?_
    rw [hgrid]
    exact (State.reg_setReg_obj _ (by decide)).trans
      (State.reg_setReg_self (s.fresh.fsnTaken d) O.timeGridResidual 0 0)
  have hstep : (s.fresh.fsnStepped d).reg O.refFsnStep = u48 d := State.reg_setReg_self _ _ _ _
  have hend : s.fresh.fsnStep = s.fresh.fsnStepped d ∨ s.fresh.fsnStep = (s.fresh.fsnStepped d).raise 422 := by
    have heq := State.fsnStep_eq (s := s.fresh) hd hs
    split at heq
    exacts [.inl heq, .inr heq]
  have hat : x.lt = (add48 s.clk.fsn d * frameU + s.reg O.refFrameOffset) * 65536 := hlt
  have hbase : x.ltTick = s.clk.base := htick
  generalize s.fresh.fsnStepped d = u at *
  obtain heq | heq := hend
  · rw [heq, State.withQueue_clk, State.withQueue_ref, State.withQueue_tim, State.reg_withQueue_all,
      State.reg_withQueue_all, hclk, htim]
    exact ⟨rfl, href, hstep, hres, hat, hbase⟩
  · rw [heq, State.withQueue_clk, State.withQueue_ref, State.withQueue_tim, State.reg_withQueue_all,
      State.reg_withQueue_all, State.raise_clk, State.raise_ref, State.raise_tim, State.raise_reg _ (by decide),
      State.raise_reg _ (by decide), hclk, htim]
    exact ⟨rfl, href, hstep, hres, hat, hbase⟩

/-! ### Phase steps and alignment (R284, R292) -/

/-- The loop pulls a step of `x` more against the selected input. -/
def State.pulling (s : State) (x : Int) : State :=
  let s := if s.ref.pull then s else { s with ref := { s.ref with integ0 := s.ref.integ, dco0 := s.ref.dco } }
  if s.selected < 13 then { s with ref := { s.ref with left := s.ref.left + x, pull := true } } else s

theorem State.pulling_eq (s : State) (x : Int) :
    ∃ r : RefS, s.pulling x = s.withRef r ∧ r.stepTok = s.ref.stepTok := by
  simp only [State.pulling]
  split_ifs
  exacts [⟨_, rfl, rfl⟩, ⟨_, rfl, rfl⟩, ⟨_, rfl, rfl⟩, ⟨_, rfl, rfl⟩]

/-- A phase step of `x` has been asked for: REF.PHASE_ADJ has it, and the loop pulls it. -/
def State.stepAsked (s : State) (x : Int) : State :=
  (s.setReg O.refPhaseAdj 0 (u48 (i48 (s.reg O.refPhaseAdj) + x))).pulling x

theorem State.stepAsked_eq (s : State) (x : Int) : ∃ r : RefS,
    s.stepAsked x = (s.setReg O.refPhaseAdj 0 (u48 (i48 (s.reg O.refPhaseAdj) + x))).withRef r ∧
      r.stepTok = s.ref.stepTok := State.pulling_eq _ x

theorem State.stepAsked_reg (s : State) (x : Int) {o : Nat} (e : Nat) (ho : o ≠ O.refPhaseAdj) :
    (s.stepAsked x).reg o e = s.reg o e := by
  obtain ⟨r, heq, -⟩ := s.stepAsked_eq x
  rw [heq]
  exact State.reg_setReg_obj s ho

/-- While not tied a phase step moves REF.PHASE_ADJ and what the loop pulls, no more. -/
theorem State.phaseStep_untied {s : State} (h : s.reg O.refTied = 0) (x : Int) : s.phaseStep x = s.stepAsked x :=
  if_neg (show ¬(s.stepAsked x).reg O.refTied = 1 by rw [s.stepAsked_reg x 0 (by decide), h]; decide)

theorem phaseStepWrite_runs {s : State} {w : Who} {v : Nat} (ha : Allowed s w O.refPhaseStep 0 v)
    (hf : s.tokFree 5 (holderOf w) = true) (ht : s.reg O.refTied = 0) : Runs (.phaseStepWrite w v) s fun t =>
      t.reg O.refPhaseAdj = u48 (i48 (s.reg O.refPhaseAdj) + i48 v) ∧ t.out.status = 0 ∧ t.tim = s.tim ∧
      (s.selected ≠ 255 → s.ref.stepTok = false → t.ref.stepTok = true ∧
        t.reg O.maintTokenHolder 5 = holderOf w) := by
  have huntied : s.fresh.phaseStep (i48 v) = s.fresh.stepAsked (i48 v) :=
    State.phaseStep_untied (s := s.fresh) ht (i48 v)
  obtain ⟨r, heq, hr⟩ := s.fresh.stepAsked_eq (i48 v)
  have hfree : s.fresh.tokFree 5 (holderOf w) = true := hf
  have hsel : (s.fresh.stepAsked (i48 v)).selected = s.selected := by
    rw [heq]
    exact State.reg_setReg_obj s.fresh (by decide)
  have htok : (s.fresh.stepAsked (i48 v)).ref.stepTok = s.ref.stepTok := by
    rw [heq]
    exact hr
  have hadj : (s.fresh.stepAsked (i48 v)).reg O.refPhaseAdj = u48 (i48 (s.reg O.refPhaseAdj) + i48 v) := by
    rw [heq]
    exact State.reg_setReg_self s.fresh _ _ _
  have htim : (s.fresh.stepAsked (i48 v)).tim = s.tim := by
    rw [heq]
    rfl
  have hop : phaseStepOp (holderOf w) v s.fresh =
      if s.selected = 255 || s.ref.stepTok then (s.fresh.stepAsked (i48 v), 0)
      else (((s.fresh.stepAsked (i48 v)).withRef { (s.fresh.stepAsked (i48 v)).ref with stepTok := true }).actStart 5
        (holderOf w), 0) := by
    rw [← hsel, ← htok, phaseStepOp, hfree, huntied]
    rfl
  generalize s.fresh.stepAsked (i48 v) = u at hop hsel htok hadj htim
  by_cases hq : (decide (s.selected = 255) || s.ref.stepTok) = true
  · rw [if_pos hq] at hop
    refine runs_of_write (exec_phaseStepWrite s w v) ha hop ⟨?_, rfl, ?_, fun h1 h2 => ?_⟩
    · rw [State.reg_write _ _ _ _ _ (by decide) (by decide), hadj]
    · rw [State.tim_write, htim]
    · simp [h1, h2] at hq
  · rw [if_neg hq] at hop
    refine runs_of_write (exec_phaseStepWrite s w v) ha hop ⟨?_, rfl, ?_, fun h1 h2 => ⟨?_, ?_⟩⟩
    · rw [State.reg_write _ _ _ _ _ (by decide) (by decide), State.actStart_reg _ (by decide) (by decide) (by decide)]
      exact hadj
    · rw [State.tim_write, State.actStart_tim]
      exact htim
    · rw [State.ref_write, State.actStart_ref]
      rfl
    · rw [State.reg_write _ _ _ _ _ (by decide) (by decide), State.actStart_holder]

/-! ### The tie ends by a write (R290) -/

/-- Local time runs on at its nominal rate, and nothing is left of the steps and of the servo's run. -/
def State.tieOver (s : State) : State :=
  let s := s.setTime s.tick s.lt TimS.init.inc
  { s with ref := { s.ref with keep := false, tieDue := false, pull := false, left := 0, frac := 0 }
           tim := { s.tim with started := false, run := false, clamped := false, lastUse := 0 } }

theorem State.untie_eq {s : State} (h : s.reg O.refTied ≠ 0) :
    s.untie = (((s.setReg O.refTied 0 0).raise 423).setReg O.timeGridResidual 0 0).tieOver := by
  rw [State.untie, if_neg h]
  rfl

theorem State.tieOver_reg (s : State) (o e : Nat) : s.tieOver.reg o e = s.reg o e := rfl

theorem State.tieOver_latched (s : State) (ev : Nat) : s.tieOver.latched ev = s.latched ev := rfl

theorem State.untie_tied (s : State) : s.untie.reg O.refTied = 0 := by
  by_cases h : s.reg O.refTied = 0
  · rw [State.untie, if_pos h, h]
  · rw [State.untie_eq h, State.tieOver_reg, State.reg_setReg_obj _ (by decide), State.raise_reg _ (by decide),
      State.reg_setReg_self]

/-- Where the device was tied, event 423 tells that it is not, and no input keeps the tie. -/
theorem State.untie_tells {s : State} (h : s.reg O.refTied = 1) :
    s.untie.ref.keep = false ∧ (s.sys.fabOn = true → s.untie.latched 423 = true) := by
  rw [State.untie_eq (by rw [h]; decide)]
  refine ⟨rfl, fun hon => ?_⟩
  rw [State.tieOver_latched, State.latched_setReg (by decide)]
  exact State.latched_raise_self (s := s.setReg O.refTied 0 0) (.inr hon)

theorem frameOffsetWrite_runs {s : State} {w : Who} {v : Nat} (ha : Allowed s w O.refFrameOffset 0 v) :
    Runs (.frameOffsetWrite w v) s fun t =>
      t.reg O.refFrameOffset = v ∧ t.reg O.refTied = 0 ∧ t.out.status = 0 ∧
      OnlyRegs [O.refFrameOffset, O.refTied, O.timeGridResidual, O.ledgerJournalSeq] s t := by
  have hreg (o e : Nat) : (s.fresh.setReg O.refFrameOffset 0 v).untie.frameDiffs.reg o e =
      (s.fresh.setReg O.refFrameOffset 0 v).untie.reg o e := State.frameDiffs_see _ (z := .reg o e) (by simp [View.place])
  refine runs_of_write (exec_frameOffsetWrite s w v) ha rfl ⟨?_, ?_, rfl, fun o e hev ho => ?_⟩
  · rw [State.reg_write _ _ _ _ _ (by decide) (by decide), hreg, State.untie_reg _ _ (by decide) (by decide),
      State.reg_setReg_self]
  · rw [State.reg_write _ _ _ _ _ (by decide) (by decide), hreg, State.untie_tied]
  · simp only [List.mem_cons, List.not_mem_nil, or_false, not_or] at ho
    obtain ⟨h1, h2, h3, h4⟩ := ho
    rw [State.reg_write _ _ _ _ _ hev h4, hreg, State.untie_reg _ _ hev (by simp [tieObj, h2, h3]),
      State.reg_setReg_obj _ h1]
    rfl

theorem retime_runs {s : State} {w : Who} {v : Nat} (ha : Allowed s w O.refRetime 0 v)
    (hf : s.tokFree 5 (holderOf w) = true) (ht : s.reg O.refTied = 1) : Runs (.retime w v) s fun t =>
      t.reg O.refTied = 0 ∧ t.ref.keep = false ∧ t.out.status = 0 ∧ (s.sys.fabOn = true → t.latched 423 = true) := by
  have hfree : s.fresh.tokFree 5 (holderOf w) = true := hf
  have htied : s.fresh.reg O.refTied = 1 := ht
  have hop : retimeOp (holderOf w) s.fresh = (s.fresh.untie, 0) := if_pos hfree
  obtain ⟨hkeep, hev⟩ := State.untie_tells htied
  refine runs_of_write (exec_retime s w v) ha hop ⟨?_, ?_, rfl, fun hon => ?_⟩
  · rw [State.reg_write _ _ _ _ _ (by decide) (by decide), State.untie_tied]
  · rw [State.ref_write, hkeep]
  · rw [State.latched_withQueue, State.latched_answer]
    exact State.latched_record (hev hon) _ _ _

/-! ### Alignment (R292) -/

theorem alignReq_runs {s : State} {w : Who} {v : Nat} (ha : Allowed s w O.refAlignReq 0 v)
    (hf : s.tokFree 5 (holderOf w) = true) (ht : s.reg O.refTied = 0) (hno : s.ref.align = false) :
    Runs (.alignReq w v) s fun t =>
      t.ref.align = true ∧ t.ref.alignTick = s.tick ∧ t.reg O.maintTokenHolder 5 = holderOf w ∧ t.out.status = 0 := by
  have hfree : s.fresh.tokFree 5 (holderOf w) = true := hf
  have htied : s.fresh.reg O.refTied = 0 := ht
  have halign : s.fresh.ref.align = false := hno
  have hop : alignReqOp (holderOf w) s.fresh = ((s.fresh.alignStart true).actStart 5 (holderOf w), 0) := by
    rw [alignReqOp, hfree, htied, halign]
    rfl
  refine runs_of_write (exec_alignReq s w v) ha hop ⟨?_, ?_, ?_, rfl⟩
  · rw [State.ref_write, State.actStart_ref]
    rfl
  · rw [State.ref_write, State.actStart_ref]
    rfl
  · rw [State.reg_write _ _ _ _ _ (by decide) (by decide), State.actStart_holder]

/-- The end of an alignment writes no register but its token's and what event 424 writes. -/
theorem State.alignEnd_reg (s : State) {o : Nat} (e : Nat) (he : evObj o = false) (ho : o ≠ O.maintTokenHolder) :
    s.alignEnd.reg o e = s.reg o e := by
  have hraise (x : RefS) : ((s.withRef x).raise 424).reg o e = s.reg o e := State.raise_reg _ he
  simp only [State.alignEnd]
  split
  · exact (State.actEnd_reg _ he ho).trans (hraise _)
  · exact hraise _

theorem State.alignEnd_tells (s : State) :
    s.alignEnd.ref.align = false ∧ (s.sys.fabOn = true → s.alignEnd.latched 424 = true) := by
  have href (x : RefS) (hx : x.align = false) : ((s.withRef x).raise 424).ref.align = false := by
    rw [State.raise_ref]
    exact hx
  have hev (x : RefS) (hon : s.sys.fabOn = true) : ((s.withRef x).raise 424).latched 424 = true :=
    State.latched_raise_self (s := s.withRef x) (.inr hon)
  simp only [State.alignEnd]
  split
  · exact ⟨by rw [State.actEnd_ref]; exact href _ rfl, fun hon => State.latched_actEnd (hev _ hon) 5⟩
  · exact ⟨href _ rfl, hev _⟩

theorem alignTimeout_runs {s : State} (hal : s.ref.align = true) (ht : s.elapsed s.ref.alignTick (msTicks 1500) = true) :
    Runs .alignTimeout s fun t =>
      t.ref.align = false ∧ t.reg O.refPhaseAdj = s.reg O.refPhaseAdj ∧ (s.sys.fabOn = true → t.latched 424 = true) := by
  refine runs_of_run (exec_alignTimeout s) ?_
  have hop : s.fresh.alignTimeout = s.fresh.alignEnd := if_pos (Bool.and_eq_true_iff.mpr ⟨hal, ht⟩)
  obtain ⟨href, hev⟩ := s.fresh.alignEnd_tells
  have hreg := s.fresh.alignEnd_reg (o := O.refPhaseAdj) 0 (by decide) (by decide)
  rw [hop]
  exact ⟨href, hreg, hev⟩

theorem alignEdge_runs {s : State} (late : Int) (hsrc : s.reg O.refAlignSrc ≠ 0) (hal : s.ref.align = true)
    (ht : s.reg O.refTied = 0) : Runs (.alignEdge late) s fun t =>
      t.reg O.refAlignErr = u48 (s.alignErr late) ∧ t.ref.align = false ∧
      t.reg O.refPhaseAdj = u48 (i48 (s.reg O.refPhaseAdj) + s.alignErr late) ∧
      (s.sys.fabOn = true → t.latched 424 = true) := by
  refine runs_of_run (exec_alignEdge s late) ?_
  set u := s.fresh.setReg O.refAlignErr 0 (u48 (s.alignErr late)) with hu
  have htied : u.reg O.refTied = 0 := (State.reg_setReg_obj s.fresh (by decide)).trans ht
  have hop : s.fresh.alignEdge late = (u.stepAsked (s.alignErr late)).alignEnd := by
    rw [← State.phaseStep_untied htied]
    exact (if_neg hsrc).trans (if_pos hal)
  obtain ⟨r, heq, -⟩ := u.stepAsked_eq (s.alignErr late)
  obtain ⟨href, hev⟩ := (u.stepAsked (s.alignErr late)).alignEnd_tells
  have herr : (u.stepAsked (s.alignErr late)).alignEnd.reg O.refAlignErr = u48 (s.alignErr late) := by
    rw [State.alignEnd_reg _ _ (by decide) (by decide), State.stepAsked_reg _ _ _ (by decide), hu, State.reg_setReg_self]
  have hadj : (u.stepAsked (s.alignErr late)).alignEnd.reg O.refPhaseAdj =
      u48 (i48 (s.reg O.refPhaseAdj) + s.alignErr late) := by
    have hkept : u.reg O.refPhaseAdj = s.reg O.refPhaseAdj := State.reg_setReg_obj s.fresh (by decide)
    rw [State.alignEnd_reg _ _ (by decide) (by decide), heq, ← hkept]
    exact State.reg_setReg_self u _ _ _
  have hon : s.sys.fabOn = true → (u.stepAsked (s.alignErr late)).sys.fabOn = true := fun h => by
    rw [heq]
    exact h
  rw [hop]
  exact ⟨herr, href, hadj, fun h => hev (hon h)⟩

theorem alignEdge_idle_runs {s : State} (late : Int) (hsrc : s.reg O.refAlignSrc ≠ 0) (hal : s.ref.align = false) :
    Runs (.alignEdge late) s fun t =>
      t.reg O.refAlignErr = u48 (s.alignErr late) ∧ OnlyElems [(O.refAlignErr, 0)] s t := by
  refine runs_of_run (exec_alignEdge s late) ?_
  have hno : ¬s.ref.align = true := by rw [hal]; decide
  have hop : s.fresh.alignEdge late = s.fresh.setReg O.refAlignErr 0 (u48 (s.alignErr late)) :=
    (if_neg hsrc).trans (if_neg hno)
  rw [hop]
  exact ⟨State.reg_setReg_self s.fresh _ _ _, ((OnlyElems.refl _ s.fresh).setReg _ (by decide) (by simp)).run _⟩

/-- What is reduced modulo `m` differs by a multiple of `m`, and is at most half of it. -/
theorem symMod_spec (e : Int) (m : Nat) (hm : 0 < m) :
    (∃ k : Int, symMod e m = e + k * m) ∧ 2 * (symMod e m).natAbs ≤ m := by
  have hpos := Int.emod_nonneg (e + (m / 2 : Nat)) (show (m : Int) ≠ 0 by omega)
  have hlt := Int.emod_lt_of_pos (e + (m / 2 : Nat)) (show (0 : Int) < m by omega)
  have hdiv := Int.mul_ediv_add_emod (e + (m / 2 : Nat)) m
  refine ⟨⟨-((e + (m / 2 : Nat)) / m), ?_⟩, ?_⟩
  · rw [symMod]
    linarith
  · rw [symMod]
    generalize (e + (m / 2 : Nat)) % (m : Int) = r at *
    omega

theorem alignErr_spec (s : State) (late : Int) : ∃ k : Int, s.alignErr late =
      rootTime (96 * 32 * s.clk.round) - late + i48 (s.reg O.refAlignOffset) +
        (if s.reg O.refAlignSrc = 2 then ((s.clk.fsn % 8000 : Nat) : Int) * frameU + k * secU else k * frameU) ∧
      2 * (s.alignErr late).natAbs ≤ (if s.reg O.refAlignSrc = 2 then secU else frameU) := by
  have herr : s.alignErr late = if s.reg O.refAlignSrc = 2 then
      symMod (rootTime (96 * 32 * s.clk.round) - late + i48 (s.reg O.refAlignOffset) +
        ((s.clk.fsn % 8000 : Nat) : Int) * frameU) secU
    else symMod (rootTime (96 * 32 * s.clk.round) - late + i48 (s.reg O.refAlignOffset)) frameU := rfl
  by_cases hsrc : s.reg O.refAlignSrc = 2
  · rw [if_pos hsrc] at herr
    obtain ⟨⟨k, hk⟩, hle⟩ := symMod_spec (rootTime (96 * 32 * s.clk.round) - late + i48 (s.reg O.refAlignOffset) +
        ((s.clk.fsn % 8000 : Nat) : Int) * frameU) secU (by decide)
    exact ⟨k, by rw [if_pos hsrc, herr, hk, add_assoc], by rwa [if_pos hsrc, herr]⟩
  · rw [if_neg hsrc] at herr
    obtain ⟨⟨k, hk⟩, hle⟩ := symMod_spec (rootTime (96 * 32 * s.clk.round) - late + i48 (s.reg O.refAlignOffset)) frameU
      (by decide)
    exact ⟨k, by rw [if_neg hsrc, herr, hk], by rwa [if_neg hsrc, herr]⟩

/-! ### Samples of PPS and PTP (R266, R300) -/

/-- What is kept of the inputs, and the time of day of the next edge, are as before. -/
def SameInputs (x y : RefS) : Prop := y.ins = x.ins ∧ y.todNext = x.todNext

theorem State.residual_inputs (s : State) : SameInputs s.ref s.residual.ref := by
  simp only [State.residual]
  split_ifs <;> exact ⟨rfl, rfl⟩

theorem State.stepEnd_inputs (s : State) : SameInputs s.ref s.stepEnd.ref := by
  simp only [State.stepEnd]
  split
  · rw [State.actEnd_ref]
    exact ⟨rfl, rfl⟩
  · exact ⟨rfl, rfl⟩

theorem State.tieFails_inputs (s : State) : SameInputs s.ref s.tieFails.ref := by
  refine ⟨s.tieFails_ins, ?_⟩
  simp only [State.tieFails, State.untie]
  split_ifs
  all_goals simp only [State.setTime, State.setReg_ref, State.raise_ref]

/-- The phase error has been within its window since `n`. -/
def State.withWin (s : State) (n : Nat) : State := { s with ref := { s.ref with win := n } }

theorem State.loopUpdate_keeps (s : State) : ∃ x v first n inside, s.loopUpdate =
    (if inside = true then ((s.residual.dcoNoted x v first).withWin n).stepEnd
      else (s.residual.dcoNoted x v first).withWin n) ∧ SameInputs s.residual.ref x := by
  simp only [State.loopUpdate]
  generalize s.residual = u
  refine ⟨_, _, _, _, _, rfl, ?_⟩
  exact ⟨rfl, rfl⟩

theorem State.dcoNoted_ref (s : State) (x : RefS) (v : Nat) (first : Bool) : (s.dcoNoted x v first).ref = x := by
  simp only [State.dcoNoted]
  split
  · rw [State.raise_ref]
    rfl
  · rfl

/-- An update of the loop leaves what is kept of the inputs. -/
theorem State.loopUpdate_inputs (s : State) : SameInputs s.ref s.loopUpdate.ref := by
  obtain ⟨x, v, first, n, inside, heq, hins, htod⟩ := s.loopUpdate_keeps
  obtain ⟨hri, hrt⟩ := s.residual_inputs
  have hx := s.residual.dcoNoted_ref x v first
  have hnoted : SameInputs s.ref ((s.residual.dcoNoted x v first).withWin n).ref := by
    rw [State.withWin, hx]
    exact ⟨hins.trans hri, htod.trans hrt⟩
  rw [heq]
  split
  · obtain ⟨hi, ht⟩ := ((s.residual.dcoNoted x v first).withWin n).stepEnd_inputs
    exact ⟨hi.trans hnoted.1, ht.trans hnoted.2⟩
  · exact hnoted

/-- The raw phase of input `i`, reduced as its type asks. -/
def State.rawPhase (s : State) (i : Nat) (raw : Int) : Int :=
  match s.phaseMod i with
  | some m => symMod raw m
  | none => raw

/-- Input `i` with a phase sample. -/
def State.sampled (s : State) (i : Nat) (raw : Int) : InS :=
  { s.input i with raw := s.rawPhase i raw, have_ := true, at_ := s.tick }

theorem State.phaseSample_eq {s : State} {i : Nat} (h : s.inState i ≠ 0) (raw : Int) : ∃ v, s.phaseSample i raw =
    if ((s.setInput i (s.sampled i raw)).setReg O.refInputPhase i v).selected = i then
      ((s.setInput i (s.sampled i raw)).setReg O.refInputPhase i v).loopUpdate
    else (s.setInput i (s.sampled i raw)).setReg O.refInputPhase i v := by
  rw [State.phaseSample, if_neg h]
  exact ⟨_, rfl⟩

/-- A phase sample of an enabled input is kept of it. -/
theorem State.phaseSample_input {s : State} {i : Nat} (h : s.inState i ≠ 0) (raw : Int) :
    (s.phaseSample i raw).input i = s.sampled i raw ∧ (s.phaseSample i raw).ref.todNext = s.ref.todNext := by
  obtain ⟨v, heq⟩ := State.phaseSample_eq h raw
  have hset : ((s.setInput i (s.sampled i raw)).setReg O.refInputPhase i v).input i = s.sampled i raw :=
    State.input_setInput_self s i _
  rw [heq]
  split
  · obtain ⟨hins, htod⟩ := ((s.setInput i (s.sampled i raw)).setReg O.refInputPhase i v).loopUpdate_inputs
    exact ⟨by rw [State.input_congr hins, hset], htod⟩
  · exact ⟨hset, rfl⟩

/-- What the servo makes of a sample leaves the inputs as they are. -/
theorem State.servoSample_ref (s : State) (src : Nat) (th : Int) : (s.servoSample src th).ref = s.ref :=
  State.servoSample_see s src th (z := .part .ref) (by simp [View.place])

/-- PPS or PTP shows a reference time: a sample's phase and time are as before. -/
theorem State.refTime_input (s : State) (i : Nat) (t : Int) :
    ∃ f d, (s.refTime i t).input i = { s.input i with refT := t, refF := f, refOk := true, dF := d } :=
  ⟨_, _, State.input_setInput_self s i _⟩

/-- A PPS edge: input 10 with its time of day, and with the reference time that this shows. -/
def State.ppsSeen (s : State) (two : Bool) (lt : Int) (tod : Option Nat) : State :=
  let s := s.setInput 10 { s.input 10 with tod := tod, twoTods := two, at_ := s.tick }
  match tod with
  | some t => s.refTime 10 ((t : Int) + ((s.frameLt / 2 ^ 16 : Nat) - lt))
  | none => s

/-- Of what is kept of an input a reference time is all that a time of day adds. -/
theorem State.ppsSeen_tells (s : State) (two : Bool) (lt : Int) (tod : Option Nat) :
    ((s.ppsSeen two lt tod).input 10).tod = tod ∧ (s.ppsSeen two lt tod).ref.todNext = s.ref.todNext ∧
      (s.ppsSeen two lt tod).tick = s.tick ∧ (s.ppsSeen two lt tod).inState 10 = s.inState 10 := by
  have hset (x : InS) : (s.setInput 10 x).input 10 = x := State.input_setInput_self s 10 x
  cases tod with
  | none =>
    refine ⟨?_, rfl, rfl, rfl⟩
    rw [State.ppsSeen]
    exact congrArg InS.tod (hset _)
  | some t =>
    refine ⟨?_, rfl, rfl, rfl⟩
    rw [State.ppsSeen]
    obtain ⟨f, d, h⟩ := (s.setInput 10 { s.input 10 with tod := some t, twoTods := two, at_ := s.tick }).refTime_input 10
      ((t : Int) + (((s.setInput 10 { s.input 10 with tod := some t, twoTods := two, at_ := s.tick }).frameLt / 2 ^ 16 :
        Nat) - lt))
    refine (congrArg InS.tod h).trans ?_
    rw [hset]

theorem State.ppsAt_eq (s : State) (at_ : Int) (tod : Option Nat) : ∃ two lt th, s.ppsAt at_ tod =
    (((s.ppsSeen two lt tod).phaseSample 10 th).servoSample 1 th).tieFails := by
  cases tod <;> exact ⟨_, at_ - i48 (s.reg O.refComp 10), _, rfl⟩

theorem State.ppsAt_tells {s : State} (h : s.inState 10 ≠ 0) (at_ : Int) (tod : Option Nat) :
    ((s.ppsAt at_ tod).input 10).have_ = true ∧ ((s.ppsAt at_ tod).input 10).at_ = s.tick ∧
      ((s.ppsAt at_ tod).input 10).tod = tod ∧ (s.ppsAt at_ tod).ref.todNext = s.ref.todNext := by
  obtain ⟨two, lt, th, heq⟩ := s.ppsAt_eq at_ tod
  obtain ⟨htod, hnext, htick, hst⟩ := s.ppsSeen_tells two lt tod
  obtain ⟨hin, hkeep⟩ := State.phaseSample_input (s := s.ppsSeen two lt tod) (by rwa [hst]) th
  obtain ⟨hins, hlast⟩ := (((s.ppsSeen two lt tod).phaseSample 10 th).servoSample 1 th).tieFails_inputs
  rw [State.servoSample_ref] at hins hlast
  rw [heq, State.input_congr hins, hin, hlast, hkeep, hnext]
  exact ⟨rfl, htick, htod, rfl⟩

theorem ppsEdge_runs {s : State} {src : Nat} (tod : Option Nat) (late : Int) (h3 : src < 3)
    (hsrc : s.reg O.refPpsSrc = src) (h : s.inState 10 ≠ 0) : Runs (.ppsEdge src tod late) s fun t =>
      (t.input 10).have_ = true ∧ (t.input 10).at_ = s.tick ∧
      (t.input 10).tod = (if src = 0 then s.ref.todNext else tod) ∧ (src = 0 → t.ref.todNext = none) := by
  refine runs_of_runIn (exec_ppsEdge s src tod late) h3 ?_
  have hno : ¬s.fresh.reg O.refPpsSrc ≠ src := fun c => c hsrc
  by_cases h0 : src = 0
  · have hop : s.fresh.ppsEdge src tod late =
        (s.fresh.withRef { s.ref with todNext := none }).ppsAt ((s.fresh.now : Int) - late) s.ref.todNext := by
      rw [State.ppsEdge, if_neg hno, if_pos h0, if_pos h0]
      rfl
    obtain ⟨h1, h2, h4, h5⟩ := State.ppsAt_tells (s := s.fresh.withRef { s.ref with todNext := none }) h
      ((s.fresh.now : Int) - late) s.ref.todNext
    rw [hop, if_pos h0]
    generalize State.ppsAt _ _ _ = u at *
    exact ⟨h1, h2, h4, fun _ => h5⟩
  · have hop : s.fresh.ppsEdge src tod late = s.fresh.ppsAt ((s.fresh.now : Int) - late) tod := by
      rw [State.ppsEdge, if_neg hno, if_neg h0, if_neg h0]
    obtain ⟨h1, h2, h4, -⟩ := State.ppsAt_tells (s := s.fresh) h ((s.fresh.now : Int) - late) tod
    rw [hop, if_neg h0]
    generalize State.ppsAt _ _ _ = u at *
    exact ⟨h1, h2, h4, fun c => absurd c h0⟩

/-- The phase of PTP is taken in full (R267). -/
theorem State.rawPhase_ptp (s : State) (e : Int) : s.rawPhase 11 e = e := rfl

theorem ptpOffsetWrite_runs {s : State} {w : Who} {v : Nat} (ha : Allowed s w O.timePtpOffset 0 v)
    (h : s.inState 11 ≠ 0) : Runs (.ptpOffsetWrite w v) s fun t =>
      (t.input 11).have_ = true ∧ (t.input 11).at_ = s.tick ∧
      (t.input 11).raw = i48 v - i48 (s.reg O.refComp 11) ∧ t.out.status = 0 := by
  set e := i48 v - i48 (s.reg O.refComp 11) with he
  obtain ⟨u, hu, hst, htick⟩ : ∃ u : State, ptpOffsetOp v s.fresh = ((u.phaseSample 11 e).servoSample 2 (i48 v), 0) ∧
      u.inState 11 = s.inState 11 ∧ u.tick = s.tick := ⟨_, rfl, rfl, rfl⟩
  obtain ⟨hin, -⟩ := State.phaseSample_input (s := u) (i := 11) (by rwa [hst]) e
  refine runs_of_write (exec_ptpOffsetWrite s w v) ha hu ?_
  have hinput : (((((u.phaseSample 11 e).servoSample 2 (i48 v)).record O.timePtpOffset 0 v).answer 0).withQueue
      s.pending).input 11 = u.sampled 11 e := by
    rw [State.input_congr (congrArg RefS.ins ((State.ref_write _ _ _ _ _).trans (State.servoSample_ref _ 2 _))) 11, hin]
  rw [hinput]
  exact ⟨rfl, htick, u.rawPhase_ptp e, rfl⟩

/-! ### The source of the servo (R300, R301) -/

theorem State.clk_write (s : State) (idx e v : Nat) (q : List Instr) :
    (((s.record idx e v).answer 0).withQueue q).clk = s.clk :=
  State.see_write s idx e v q (z := .part .clk) (by simp [View.place])

theorem State.setInc_tim (s : State) (n : Nat) : (s.setInc n).tim = (s.setTime s.tick s.lt n).tim := by
  rw [State.setInc, State.commitRestep_tim]

theorem State.setInc_clk (s : State) (n : Nat) : (s.setInc n).clk = s.clk := by
  rw [State.setInc, State.commitRestep_clk]
  rfl

/-- Local time is that of its last step, and what has passed since. -/
theorem State.lt_of {s : State} {x : TimS} {c : Clk} (hx : s.tim = x) (hc : s.clk = c) :
    s.lt = x.lt + (c.base + 96 * c.round - x.ltTick) * x.inc := by
  subst hx hc
  rfl

/-- The registers that decide whether the servo is held are as they are. -/
theorem State.servoHeld_congr {s t : State} (h1 : t.reg O.timeServoSrc = s.reg O.timeServoSrc)
    (h2 : t.reg O.refSelected = s.reg O.refSelected) (h3 : t.reg O.refState = s.reg O.refState) :
    t.servoHeld = s.servoHeld := by
  simp only [State.servoHeld, State.selected, State.refState, h1, h2, h3]

theorem State.servoHold_reg (s : State) (o e : Nat) : s.servoHold.reg o e = s.reg o e :=
  s.servoHold_see (z := .reg o e) (by simp [View.place])

/-- Of local time the servo that goes into HELD changes no more than that it runs. -/
theorem State.servoHold_tim (s : State) :
    s.servoHold.tim = { s.tim with run := s.tim.run && (s.servoOff || !s.servoHeld) } := by
  rw [State.servoHold]
  cases hoff : s.servoOff <;> cases hheld : s.servoHeld
  all_goals simp

theorem servoSrcWrite_kept {s : State} {w : Who} {v : Nat} (ha : Allowed s w O.timeServoSrc 0 v) (hv : v ≠ 0)
    (hold : s.reg O.timeServoSrc ≠ 0) : Runs (.servoSrcWrite w v) s fun t =>
      Stored s t O.timeServoSrc 0 v ∧
      t.tim = { s.tim with run := s.tim.run && (s.reg O.refTied == 1 || !t.servoHeld) } := by
  have hop : servoSrcOp v s.fresh = ((s.fresh.setReg O.timeServoSrc 0 v).servoHold, 0) :=
    (if_neg hv).trans (if_neg hold)
  have hself : (s.fresh.setReg O.timeServoSrc 0 v).reg O.timeServoSrc = v := State.reg_setReg_self s.fresh _ _ _
  have htied : (s.fresh.setReg O.timeServoSrc 0 v).reg O.refTied = s.reg O.refTied :=
    State.reg_setReg_obj s.fresh (by decide)
  have hoff : (s.fresh.setReg O.timeServoSrc 0 v).servoOff = (s.reg O.refTied == 1) := by
    rw [State.servoOff, hself, htied, beq_false_of_ne hv, Bool.or_false]
  have htim : (s.fresh.setReg O.timeServoSrc 0 v).tim = s.tim := rfl
  have honly : OnlyElems [(O.timeServoSrc, 0)] s (s.fresh.setReg O.timeServoSrc 0 v) :=
    (OnlyElems.refl _ s.fresh).setReg v (by decide) (by simp)
  refine runs_of_write (exec_servoSrcWrite s w v) ha hop ?_
  generalize s.fresh.setReg O.timeServoSrc 0 v = u at *
  refine ⟨stored_of s.pending ha (by decide) (by decide) ((u.servoHold_reg _ _).trans hself)
    fun o e he hev hne => (u.servoHold_reg o e).trans (honly o e he hev hne), ?_⟩
  have hheld : (((u.servoHold.record O.timeServoSrc 0 v).answer 0).withQueue s.pending).servoHeld = u.servoHeld := by
    apply State.servoHeld_congr
    all_goals rw [State.reg_write _ _ _ _ _ (by decide) (by decide), u.servoHold_reg]
  rw [hheld, State.tim_write, u.servoHold_tim, hoff, htim]

theorem servoSrcWrite_starts {s : State} {w : Who} {v : Nat} (ha : Allowed s w O.timeServoSrc 0 v) (hv : v ≠ 0)
    (hold : s.reg O.timeServoSrc = 0) : Runs (.servoSrcWrite w v) s fun t =>
      Stored s t O.timeServoSrc 0 v ∧ t.tim.started = false ∧ t.tim.run = false ∧ t.lt = s.lt ∧
      t.tim.inc = s.tim.inc := by
  have hop : servoSrcOp v s.fresh = ((s.fresh.setReg O.timeServoSrc 0 v).withTim
      { s.tim with started := false, run := false, clamped := false, lastUse := 0 }, 0) :=
    (if_neg hv).trans (if_pos hold)
  refine runs_of_write (exec_servoSrcWrite s w v) ha hop ⟨?_, ?_, ?_, ?_, ?_⟩
  · exact stored_of s.pending ha (by decide) (by decide) (State.reg_setReg_self s.fresh _ _ _)
      ((OnlyElems.refl _ s.fresh).setReg v (by decide) (by simp))
  · rw [State.tim_write]; rfl
  · rw [State.tim_write]; rfl
  · rw [State.lt_of (State.tim_write _ _ _ _ _) (State.clk_write _ _ _ _ _)]
    rfl
  · rw [State.tim_write]; rfl

theorem servoSrcWrite_off {s : State} {w : Who} (ha : Allowed s w O.timeServoSrc 0 0) :
    Runs (.servoSrcWrite w 0) s fun t =>
      t.reg O.timeServoSrc = 0 ∧ t.reg O.timeServoFreq = 0 ∧ t.tim.inc = TimS.init.inc ∧ t.lt = s.lt ∧
      t.out.status = 0 := by
  obtain ⟨x, hx, hop⟩ : ∃ x : TimS, (x.lt = s.tim.lt ∧ x.ltTick = s.tim.ltTick ∧ x.inc = s.tim.inc) ∧
      servoSrcOp 0 s.fresh = ((((s.fresh.setReg O.timeServoSrc 0 0).withTim x).setInc TimS.init.inc).setReg
        O.timeServoFreq 0 0, 0) := ⟨{ s.tim with started := false, run := false, clamped := false, lastUse := 0 },
      ⟨rfl, rfl, rfl⟩, rfl⟩
  set u := (s.fresh.setReg O.timeServoSrc 0 0).withTim x with hu
  have hsrc : (u.setInc TimS.init.inc).reg O.timeServoSrc = 0 := by
    have hset : u.reg O.timeServoSrc = 0 := State.reg_setReg_self s.fresh O.timeServoSrc 0 0
    rw [State.setInc, State.commitRestep_reg _ _ (by decide)]
    exact hset
  have hlt : u.lt = s.lt := by
    obtain ⟨h1, h2, h3⟩ := hx
    rw [State.lt_of (s := u) (x := x) (c := s.clk) rfl rfl, h1, h2, h3]
    rfl
  have htim : ((u.setInc TimS.init.inc).setReg O.timeServoFreq 0 0).tim = (u.setTime u.tick u.lt TimS.init.inc).tim :=
    u.setInc_tim _
  have hclk : ((u.setInc TimS.init.inc).setReg O.timeServoFreq 0 0).clk = u.clk := u.setInc_clk _
  refine runs_of_write (exec_servoSrcWrite s w 0) ha hop ⟨?_, ?_, ?_, ?_, rfl⟩
  · rw [State.reg_write _ _ _ _ _ (by decide) (by decide), State.reg_setReg_obj _ (by decide), hsrc]
  · rw [State.reg_write _ _ _ _ _ (by decide) (by decide), State.reg_setReg_self]
  · rw [State.tim_write, htim]
    rfl
  · rw [State.lt_of ((State.tim_write _ _ _ _ _).trans htim) ((State.clk_write _ _ _ _ _).trans hclk)]
    have hnow : u.lt + (u.clk.base + 96 * u.clk.round - (u.clk.base + 96 * u.clk.round)) * TimS.init.inc = u.lt := by
      rw [Nat.sub_self, Nat.zero_mul, Nat.add_zero]
    exact hnow.trans hlt

/-- Settles O22: local time moves by `jumpTime` and a commit follows it, and what a sample or an edge leaves of the inputs
is said once by `phaseSample_input`. -/
theorem timeCommands : Obligations.TimeCommands := by
  unfold Obligations.TimeCommands
  exact ⟨fun s hd hs => fsnStep_runs hd hs, fun s w v ha hf ht => phaseStepWrite_runs ha hf ht,
    fun s w v ha => frameOffsetWrite_runs ha, fun s w v ha hf ht => retime_runs ha hf ht,
    fun s w v ha hf ht hno => alignReq_runs ha hf ht hno, fun s late hsrc hal ht => alignEdge_runs late hsrc hal ht,
    fun s late hsrc hal => alignEdge_idle_runs late hsrc hal, alignErr_spec, fun s hal ht => alignTimeout_runs hal ht,
    fun s src tod late h3 hsrc h => ppsEdge_runs tod late h3 hsrc h, fun s w v ha h => ptpOffsetWrite_runs ha h,
    fun s w v ha hf ht => timeSet_runs ha hf ht, fun s w v ha hf ht => timeStep_runs ha hf ht,
    fun s w v ha => timeCapture_runs ha, fun s w v ha hv hold => servoSrcWrite_kept ha hv hold,
    fun s w v ha hv hold => servoSrcWrite_starts ha hv hold, fun s w ha => servoSrcWrite_off ha⟩

end Sys2Proof.Machine

/-! Chapter 8: launches (R313 to R317), and an overflow of the counter of launches while one is discarded. -/

namespace Sys2Proof.Machine

/-- The sample of an overflow sends its interrupt (R443). -/
theorem State.talSample_sends (s : State) (i : Nat) : (s.talSample i).out.sent ≠ [] := by
  have hrec (t : State) (k : Nat) : (t.talRecord k).1.out.sent = t.out.sent ++ [.interrupt 1] := rfl
  simp only [State.talSample]
  split
  · rw [hrec]
    exact List.append_ne_nil_of_right_ne_nil _ (List.cons_ne_nil _ _)
  · rw [hrec]
    exact List.append_ne_nil_of_right_ne_nil _ (List.cons_ne_nil _ _)

/-- A counter that stands one short of its overflow overflows once by the next occurrence. -/
theorem State.counted_overflow {s : State} {i : Nat} (hi : classCounter i = false)
    (hc : SMap.get 0 s.tal.count i = 2 ^ 48 - 1) : (s.counted i 1).2 = 1 := by
  simp [State.counted, hc, hi]

/-- The overflow of a counter whose sampling is enabled is told by an interrupt. -/
theorem State.tally_overflow_sends {s : State} {i : Nat} (hon : s.tal.on = true) (hi : classCounter i = false)
    (hc : SMap.get 0 s.tal.count i = 2 ^ 48 - 1) (hen : s.octReg O.tallyOvfEn 0 96 i = true) :
    (s.tally i 1).out.sent ≠ [] := by
  have htally : s.tally i 1 = foldRange 1 (fun s _ => s.talSample i) (s.counted i 1).1 := by
    rw [State.tally, if_neg (by simp [hon])]
    simp only [hen, if_true, State.counted_overflow hi hc]
  rw [htally]
  exact State.talSample_sends _ i

theorem State.launchEnd_sends {s : State} (l : LaunchR) (stamp : Nat) (hon : s.tal.on = true)
    (hc : SMap.get 0 s.tal.count 91 = 2 ^ 48 - 1) (hen : s.octReg O.tallyOvfEn 0 96 91 = true) :
    (s.launchEnd l 2 stamp).out.sent ≠ [] := by
  have hsends (x : TimS) : ((s.withTim x).tally 91 1).out.sent ≠ [] :=
    State.tally_overflow_sends (s := s.withTim x) hon (by decide) hc hen
  obtain ⟨x, heq⟩ : ∃ x, s.launchEnd l 2 stamp = ((s.withTim x).tally 91 1).raise 428 := ⟨_, rfl⟩
  rw [heq, State.raise_out]
  exact hsends x

/-- A launch whose time is long past. -/
def staleLaunch : LaunchR := { tag := 0, iface := 96, insert := false, at_ := 0, frame := [], missed := false }

/-- A launch still waits 1 s after its time, and counter 91 of Tally, which counts the launches that end, is one short of
its overflow. -/
def lastCount : State :=
  { State.reset with
    tim := { State.reset.tim with lt := secU * 65536, launches := [staleLaunch] }
    tal := { State.reset.tal with on := true, count := [(91, 2 ^ 48 - 1)] } }

/-- The overflow of that counter is to be sampled. -/
def overflowDue : State := lastCount.setOct O.tallyOvfEn 0 96 91 true

theorem overflowDue_sampled : overflowDue.octReg O.tallyOvfEn 0 96 91 = true := by
  rw [State.octReg, overflowDue, State.setOct, State.reg_setReg_self]
  exact octBit_octPut_self 96 _ 91

theorem State.now_setOct (s : State) (i e n k : Nat) (b : Bool) : (s.setOct i e n k b).now = s.now := rfl

/-- The launch of a tag that a discard takes. -/
def State.lateLaunch (s : State) (tag : Nat) : Option LaunchR :=
  s.tim.launches.find? fun l => l.tag == tag && decide (l.at_ + secU ≤ s.now)

theorem overflowDue_stale : overflowDue.lateLaunch 0 = some staleLaunch := by
  rw [State.lateLaunch, overflowDue, State.now_setOct, State.setOct_tim]
  decide

theorem State.launchDiscard_of_stale {s : State} {tag : Nat} {l : LaunchR} (h : s.lateLaunch tag = some l) :
    s.fresh.launchDiscard tag = s.fresh.launchEnd l 2 0 := by
  have hfind : (s.fresh.tim.launches.find? fun l => l.tag == tag && decide (l.at_ + secU ≤ s.fresh.now)) = some l := h
  rw [State.launchDiscard, hfind]

/-- Refutes O23: where the launch that is discarded makes counter 91 overflow, `overflowDue`, the command sends the
interrupt of the overflow's sample, and not nothing. -/
theorem not_launches : ¬ Obligations.Launches := by
  unfold Obligations.Launches
  intro ⟨_, _, _, _, _, _, _, _, hdiscard, _⟩
  obtain ⟨t, hrun, -, hsent, -⟩ := hdiscard overflowDue 0 staleLaunch overflowDue_stale
  have ht : t = (overflowDue.fresh.launchDiscard 0).withQueue overflowDue.pending := by
    rw [exec_launchDiscard, State.run_eq] at hrun
    exact (Host.Outcome.next.inj hrun).symm
  have htal : overflowDue.fresh.tal = lastCount.tal := State.setOct_tal lastCount O.tallyOvfEn 0 96 91 true
  rw [ht, State.launchDiscard_of_stale overflowDue_stale] at hsent
  have hsampled : overflowDue.fresh.octReg O.tallyOvfEn 0 96 91 = true := by
    have hfresh (s : State) : s.fresh.octReg O.tallyOvfEn 0 96 91 = s.octReg O.tallyOvfEn 0 96 91 := rfl
    rw [hfresh, overflowDue_sampled]
  generalize overflowDue.fresh = u at *
  exact State.launchEnd_sends staleLaunch 0 (by rw [htal]; rfl) (by rw [htal]; rfl) hsampled hsent

end Sys2Proof.Machine

/-! Section 4: the buffers of the Egress Time Stage (R145), and a colour beyond the 3,840 that stands in the place of
one of the next port. -/

namespace Sys2Proof.Machine

theorem State.clk_of_see {s t : State} (h : t.see (.part .clk) = s.see (.part .clk)) : t.clk = s.clk := h
theorem State.fab_of_see {s t : State} (h : t.see (.part .fab) = s.see (.part .fab)) : t.fab = s.fab := h
theorem State.asy_of_see {s t : State} (h : t.see (.part .asy) = s.see (.part .asy)) : t.asy = s.asy := h

theorem State.putBuffers_ets (s : State) (its ets : SMap Cell) :
    (s.putBuffers its ets).fab.ets = SMap.putSpan s.fab.ets ets (etsKey s.buffer 0 0) 368640 := rfl

/-- What follows the writing of the buffers in a round leaves them as written. -/
theorem State.fabricRound_ets (s : State) (io : RoundIn) {n : Nat} (hn : n ≠ 0) :
    ∃ ets, (s.fabricRound io n).fab.ets =
      SMap.putSpan ets ((s.roundHead io n).etsWrite io n) (etsKey s.buffer 0 0) 368640 := by
  have hclk : (((s.roundHead io n).etsChecks n ((s.roundHead io n).etsWrite io n)).itsWrite io n).1.clk = s.clk := by
    refine State.clk_of_see ?_
    rw [State.itsWrite_see _ _ _ (by simp [View.place]), State.etsChecks_see _ _ _ (by simp [View.place])]
    simp [State.roundHead, View.place]
  have hbuf : (((s.roundHead io n).etsChecks n ((s.roundHead io n).etsWrite io n)).itsWrite io n).1.buffer =
      s.buffer := by
    rw [State.buffer, State.tick, hclk, State.buffer, State.tick]
  have hfab : (s.fabricRound io n).fab =
      ((((s.roundHead io n).etsChecks n ((s.roundHead io n).etsWrite io n)).itsWrite io n).1.putBuffers
        (((s.roundHead io n).etsChecks n ((s.roundHead io n).etsWrite io n)).itsWrite io n).2
        ((s.roundHead io n).etsWrite io n)).fab := by
    refine State.fab_of_see ?_
    simp only [State.fabricRound, if_neg hn]
    rw [State.countSlots_see _ _ _ (by simp [View.place]), State.thresholds_see _ _ (by simp [View.place]),
      State.dataAccesses_see _ (by simp [View.place]), State.tagRound_see _ _ _ (by simp [View.place]),
      foldRange_see _ _ _ fun t p => State.tally_see t _ _ (by simp [View.place])]
  rw [hfab, State.putBuffers_ets, hbuf]
  exact ⟨_, rfl⟩

/-- What the generators and the ports send in a round, once its maps stand. -/
def State.sentRound (s : State) (n : Nat) : State :=
  foldRange 96 (fun s p => s.sendRound n p) (s.txHeads.foldl (fun s a => s.genRound n a) s)

theorem State.roundHead_eq (s : State) (io : RoundIn) (n : Nat) :
    s.roundHead io n = (((s.traceRound.solveBusy.newMaps n).resizedSlots n).sentRound n).roundFaults io := rfl

/-- The places that sending in a round may write. -/
theorem State.sentRound_see (s : State) (n : Nat) {z : View}
    (h : z.place ∉ [.obj O.grainTxJust, .obj O.grainTxPtr, .obj O.grainTxState, .obj O.protDigestStats,
      .obj O.tallyOvfCount, .part .linkq, .part .tx, .part .prot, .part .mtx]) : (s.sentRound n).see z = s.see z := by
  rw [State.sentRound, foldRange_see _ _ _ fun t p => State.sendRound_see t n p fun hz => h (by simp_all),
    foldl_see _ _ _ fun t a => State.genRound_see t n a h]

/-- A round that meets no fault. -/
def noFaults : RoundIn := { take := [], hits := [], entries := [], ddrErr := [], bankErr := [], misroute := [] }

/-- A select table with an entry for port 0 beyond colour 3,839, and a word in the ITS that it brings to the ETS. -/
def strayColour : State :=
  { State.reset.setReg O.assayEnable 0 0 with fab := { State.reset.fab with
      cur := { State.reset.fab.cur with sel := [(3840 * 96, 0)], its := [(3840, 0)] }
      its := [(122880, Cell.mk' .word 1)] } }

/-- The round of `strayColour` up to its faults: no map changes and no trace record waits. -/
def strayColourSent : State := (strayColour.solveBusy.resizedSlots 3).sentRound 3

theorem strayColour_head : strayColour.roundHead noFaults 3 = strayColourSent.roundFaults noFaults := by
  rw [State.roundHead_eq, show strayColour.traceRound = strayColour from rfl,
    show strayColour.solveBusy.newMaps 3 = strayColour.solveBusy from rfl]
  rfl

theorem strayColourSent_see {z : View}
    (h : z.place ∈ [.part .fab, .part .asy, .part .clk, .obj O.assayEnable]) :
    strayColourSent.see z = strayColour.see z := by
  simp only [List.mem_cons, List.not_mem_nil, or_false] at h
  rw [strayColourSent, State.sentRound_see _ _ (by rcases h with h | h | h | h <;> simp [h]),
    State.resizedSlots_see _ _ (by rcases h with h | h | h | h <;> simp [h]),
    State.solveBusy_see _ (by rcases h with h | h | h | h <;> simp [h])]

/-- A state of the Assayer at rest meets no fault of its own. -/
theorem State.roundFaults_none {s : State} (hwrong : s.fab.wrong = []) (hrun : s.asyRun 1 = none) :
    s.roundFaults noFaults = s := by
  have haudit : s.auditRound = s := by simp [State.auditRound, State.auditPort, hrun]
  simp [State.roundFaults, noFaults, haudit, State.entUse, hwrong]

/-- Beyond the colours that it assigns, a table of a device at rest brings nothing to the ETS. -/
theorem State.etsColours_rest {s : State} (hen : s.reg O.assayEnable = 0) (hrun : s.asyRun 1 = none) :
    s.etsColours noFaults = s.fab.cur.sel.map fun x => (x.1 % 96, x.1 / 96) := by
  have hpath : s.pathNow = none := by simp [State.pathNow, hrun]
  have htest (l : Nat) : s.testLode l = false := by simp [State.testLode, hen, bit]
  simp [State.etsColours, hpath, htest, noFaults]

/-- Refutes O8: the select table may name a colour of 3,840 or more, whose word then stands in the ETS in the place of a
colour of the next egress port that nothing brings there. -/
theorem not_frameClock : ¬ Obligations.FrameClock := by
  unfold Obligations.FrameClock
  rintro ⟨-, -, -, -, -, -, hets, -⟩
  have hhead := strayColour_head
  have hfab := State.fab_of_see (strayColourSent_see (by simp [View.place]))
  have hasy := State.asy_of_see (strayColourSent_see (by simp [View.place]))
  have hclk := State.clk_of_see (strayColourSent_see (by simp [View.place]))
  have hen : strayColourSent.reg O.assayEnable = 0 := by
    rw [reg_see, strayColourSent_see (by simp [View.place]), ← reg_see]
    exact (State.reg_setReg_self State.reset _ _ _ :
      (State.reset.setReg O.assayEnable 0 0).reg O.assayEnable 0 = 0)
  generalize strayColourSent = t at hhead hfab hasy hclk hen
  have hrun : t.asyRun 1 = none := by rw [State.asyRun, hasy]; rfl
  have hwrong : t.fab.wrong = [] := by rw [hfab]; rfl
  rw [State.roundFaults_none hwrong hrun] at hhead
  have hsel : t.fab.cur.sel = [(3840 * 96, 0)] := by rw [hfab]; rfl
  have hcolours : t.etsColours noFaults = [(0, 3840)] := by
    rw [State.etsColours_rest hen hrun, hsel]
    rfl
  have hword : t.lodeWord noFaults 3 0 3840 = Cell.mk' .word 1 := by
    have hbuf : t.buffer = 0 := by rw [State.buffer, State.tick, hclk]; rfl
    have hsel' : t.selEntry 3840 0 = some 0 := by
      simp [State.selEntry, State.selAssigned, State.entHolds, hsel, hwrong, SMap.find?]
    have hits : t.itsSends 3 0 3840 = Cell.mk' .word 1 := by
      simp [State.itsSends, State.itsEntry, State.entHolds, hbuf, hfab, strayColour, SMap.find?, SMap.get, itsKey]
      rfl
    simp [State.lodeWord, hsel', hits, noFaults]
  obtain ⟨ets, hround⟩ := strayColour.fabricRound_ets noFaults (n := 3) (by decide)
  have hstray : SMap.get Cell.idle (strayColour.fabricRound noFaults 3).fab.ets (etsKey 0 1 0) = Cell.mk' .word 1 := by
    have hwrite : t.etsWrite noFaults 3 = [(3840, Cell.mk' .word 1)] := by
      rw [State.etsWrite, hcolours]
      simp [hword, SMap.insert, etsKey]
    rw [hround, hhead, hwrite]
    exact congrArg (Option.getD · Cell.idle) (SMap.find?_insert_self _ _ _)
  have hidle := (hets strayColour t noFaults 3 1 0 hhead (by decide) (by decide)).1
  rw [hcolours, if_neg (by decide)] at hidle
  exact absurd (hstray.symm.trans hidle) (by decide)

end Sys2Proof.Machine

/-! Section 4: a commit from its solve to its end (Table 4-6, R162 to R177). -/

namespace Sys2Proof.Machine

section
variable (s : State)

/-! ## The solve -/

/-- The solve's results go into the Shadow and the registers of the commit. -/
def State.solveTold : State :=
  ((((s.putMap O.mapShadowSrc s.shadowSrc).setReg O.mapSolveCycles 0 s.map.cycles).setReg O.mapRepairs 0
    (min 4096 s.map.repairs)).setReg O.mapState 0 2).setReg O.mapBoundaryFsn 0 s.map.f

/-- The counters of the solver after a solve. -/
def State.solveCounted : State := (s.tally 66 (s.map.cycles - s.map.busy)).tally 67 s.map.repairs

/-- No solve runs any more. -/
def State.solved : State := { s with map := { s.map with resolve := false } }

theorem State.putMap_map (i : Nat) (l : List (Nat × Nat)) : (s.putMap i l).map = s.map :=
  foldl_same (fun t : State => t.map) _ l (s.clearObj i) fun _ _ => rfl

theorem State.solveTold_map : s.solveTold.map = s.map := s.putMap_map _ _

theorem State.solveDone_eq (h : s.solving = true) : s.solveDone = s.solve.solveTold.solveCounted.solved := by
  rw [State.solveDone, if_pos h]
  have hmap : (((s.solve.putMap O.mapShadowSrc s.solve.shadowSrc).setReg O.mapSolveCycles 0
      (s.solve.putMap O.mapShadowSrc s.solve.shadowSrc).map.cycles)).map = s.solve.map := s.solve.putMap_map _ _
  simp only [State.solveTold, State.solveCounted, State.solved, State.putMap_map, State.setReg_map]

theorem State.solve_regs : s.solve.regs = s.regs := by simp [State.solve, State.freeTaken]

theorem State.solve_origin : s.solve.map.origin = s.map.origin ∧ s.solve.map.f = s.map.f := ⟨rfl, rfl⟩

theorem State.shadowSrc_congr {t : State} (hr : t.regs = s.regs) (ho : t.map.origin = s.map.origin) :
    t.shadowSrc = s.shadowSrc := by
  have hsrc (obj : Nat) : t.srcList obj = s.srcList obj := by
    simp only [State.srcList, State.entries, State.followerPend, State.majorPend, State.reg, hr]
  have hown : t.ownCommit = s.ownCommit := by rw [State.ownCommit, State.ownCommit, ho]
  rw [State.shadowSrc, State.shadowSrc, hown, hsrc, hsrc]

/-- The counters of the solver and the end of the solve leave what it told. -/
theorem State.solveDone_told (h : s.solving = true) {i e : Nat} (hi : i ≠ O.tallyOvfCount) :
    s.solveDone.reg i e = s.solve.solveTold.reg i e := by
  have hsee (t : State) : t.solveCounted.solved.reg i e = t.reg i e := by
    have hsolved (u : State) : u.solved.reg i e = u.reg i e := rfl
    rw [hsolved, State.solveCounted, reg_see, State.tally_see _ _ _ (by simpa [View.place] using hi),
      State.tally_see _ _ _ (by simpa [View.place] using hi), ← reg_see]
  rw [State.solveDone_eq _ h, hsee]

theorem State.solveTold_mapState : s.solveTold.reg O.mapState = 2 := by
  rw [State.solveTold, State.reg_setReg_obj _ (by decide), State.reg_setReg_self]

theorem State.solveTold_cycles : s.solveTold.reg O.mapSolveCycles = s.map.cycles := by
  rw [State.solveTold, State.reg_setReg_obj _ (by decide), State.reg_setReg_obj _ (by decide),
    State.reg_setReg_obj _ (by decide), State.reg_setReg_self]

/-- The Shadow takes the source list. -/
theorem State.solveTold_shadow (hs : RegsOk s) {x : Nat × Nat} (hx : x ∈ s.shadowSrc) :
    s.solveTold.reg O.mapShadowSrc x.1 = x.2 := by
  obtain ⟨obj, hobj⟩ : ∃ obj, s.shadowSrc = s.srcList obj := by
    rw [State.shadowSrc]
    split_ifs
    exacts [⟨_, rfl⟩, ⟨_, rfl⟩]
  have hsrc : ∀ y ∈ s.shadowSrc, y.1 < 2 ^ 24 ∧ y.2 = s.reg obj y.1 := fun y hy =>
    State.reg_of_mem_entries hs (List.mem_of_mem_filter (hobj ▸ hy))
  rw [State.solveTold, State.reg_setReg_obj _ (by decide), State.reg_setReg_obj _ (by decide),
    State.reg_setReg_obj _ (by decide), State.reg_setReg_obj _ (by decide), State.putMap,
    State.reg_foldl_setReg (hsrc x hx).1 hsrc, if_pos (List.mem_map_of_mem hx)]
  exact (hsrc x hx).2.symm

/-- The NOTICE record of an armed commit changes no register, and nothing of the commit. -/
theorem State.solveComplete_keeps : (∀ i e, s.solveComplete.reg i e = s.solveDone.reg i e) ∧
    s.solveComplete.map = s.solveDone.map := by
  have hnotice (t : State) (k v d e : Nat) : (∀ i j, (t.sendNotice k v d e).reg i j = t.reg i j) ∧
      (t.sendNotice k v d e).map = t.map :=
    ⟨fun i j => by rw [reg_see, State.sendNotice_see _ _ _ _ _ (by simp [View.place]), ← reg_see],
      State.sendNotice_see t k v d e (z := .part .map) (by simp [View.place])⟩
  simp only [State.solveComplete]
  generalize s.solveDone = t
  split
  · exact hnotice _ _ _ _ _
  · exact ⟨fun _ _ => rfl, rfl⟩

theorem State.solving_of {t : State} (h : t.reg O.mapState = 1 ∨ t.map.resolve = true) : t.solving = true := by
  rcases h with h | h <;> simp [State.solving, h]

/-- The solve completes: the commit is ARMED, its Shadow stands, and its figures are told. -/
theorem solveComplete_arms (h : s.reg O.mapState = 1 ∨ s.map.resolve = true) :
    Runs .solveComplete s fun t =>
      t.reg O.mapState = 2 ∧ t.reg O.mapBoundaryFsn = s.map.f ∧ t.map.resolve = false ∧
      t.reg O.mapSolveCycles = t.map.cycles ∧ (RegsOk s → ∀ x ∈ s.shadowSrc, t.reg O.mapShadowSrc x.1 = x.2) ∧
      OnlyRegs [O.mapState, O.mapBoundaryFsn, O.mapSolveCycles, O.mapRepairs, O.mapShadowSrc, O.tallyOvfCount] s t := by
  refine runs_of_run (exec_solveComplete s) ?_
  have hsol : s.fresh.solving = true := State.solving_of (t := s.fresh) h
  obtain ⟨hreg, hmap⟩ := State.solveComplete_keeps s.fresh
  have hdone (i e : Nat) (hi : i ≠ O.tallyOvfCount) : (s.fresh.solveComplete.withQueue s.pending).reg i e =
      s.fresh.solve.solveTold.reg i e := by
    rw [State.reg_withQueue_all, hreg, State.solveDone_told _ hsol hi]
  have hmap' : (s.fresh.solveComplete.withQueue s.pending).map = { s.fresh.solve.map with resolve := false } := by
    have hcounted (t : State) : t.solveCounted.solved.map = { t.map with resolve := false } := by
      simp [State.solveCounted, State.solved]
    rw [← s.fresh.solve.solveTold_map, ← hcounted, ← State.solveDone_eq _ hsol, ← hmap]
    rfl
  have honly (i e : Nat) (hi : i ∉ [O.mapState, O.mapBoundaryFsn, O.mapSolveCycles, O.mapRepairs, O.mapShadowSrc,
      O.tallyOvfCount]) : (s.fresh.solveComplete.withQueue s.pending).reg i e = s.reg i e := by
    rw [State.reg_withQueue_all, hreg]
    exact State.solveDone_reg s.fresh fun hm => hi (by revert hm; simp; tauto)
  generalize s.fresh.solveComplete.withQueue s.pending = t at hdone hmap' honly
  refine ⟨?_, ?_, ?_, ?_, fun hok x hx => ?_, fun i e _ hi => ?_⟩
  · rw [hdone _ _ (by decide), State.solveTold_mapState]
  · rw [hdone _ _ (by decide), State.solveTold, State.reg_setReg_self]
    rfl
  · rw [hmap']
  · rw [hdone _ _ (by decide), State.solveTold_cycles, hmap']
  · have hok' : RegsOk s.fresh.solve := by
      rw [RegsOk, State.solve_regs]
      exact hok
    rw [hdone _ _ (by decide)]
    refine State.solveTold_shadow _ hok' ?_
    rw [State.shadowSrc_congr s.fresh s.fresh.solve_regs rfl]
    exact hx
  · exact honly i e hi

/-! ## The arming deadline (R167) -/

theorem State.deadline_late {t : State} (hl : t.locked = true) (hload : t.map.loaded = false)
    (hdue : t.deadlineDue = true) (hst : ¬ (t.reg O.mapState = 2 ∧ t.map.resolve = false)) :
    t.deadline = t.commitEnd 0x060A := by
  rw [State.deadline, if_neg (by simp [hl, hload, hdue]), if_neg (by simpa using hst)]

theorem State.deadline_arms {t : State} (hl : t.locked = true) (hload : t.map.loaded = false)
    (hdue : t.deadlineDue = true) (hst : t.reg O.mapState = 2) (hres : t.map.resolve = false) :
    t.deadline = t.loadStages := by
  rw [State.deadline, if_neg (by simp [hl, hload, hdue]), if_pos (by simp [hst, hres])]

theorem State.loadStages_eq {t : State} (h : t.map.loaded = false) :
    t.loadStages = { t with map := { t.map with loaded := true }, fab := { t.fab with shadow := t.stageShadow } } := by
  rw [State.loadStages, if_neg (by simp [h])]

/-- The Shadow is loaded into the stage shadow registers at the arming deadline. -/
theorem deadline_loads (hl : s.locked = true) (hload : s.map.loaded = false) (hdue : s.deadlineDue = true)
    (hst : s.reg O.mapState = 2) (hres : s.map.resolve = false) :
    Runs .armingDeadline s fun t =>
      t.map.loaded = true ∧ t.fab = { s.fab with shadow := s.stageShadow } ∧ OnlyElems [] s t := by
  refine runs_of_run (exec_armingDeadline s) ?_
  have hd : s.fresh.deadline = s.fresh.loadStages := State.deadline_arms (t := s.fresh) hl hload hdue hst hres
  rw [hd, State.loadStages_eq (t := s.fresh) hload]
  exact ⟨rfl, rfl, fun _ _ _ _ _ => rfl⟩

/-- A commit that is stopped by 0x060A leaves its code, unless it is the JX96's own, and tells the host. -/
theorem State.commitStop_result : (s.commitStop 0x060A).reg O.mapResult =
    if s.ownCommit then s.reg O.mapResult else 0x060A := by
  have hstop : (if s.map.holder = 0xFF then s.stopped else s.stopped.actEnd 0).reg O.mapResult = s.reg O.mapResult := by
    have h0 : s.stopped.reg O.mapResult = s.reg O.mapResult := by
      have hreg : s.stopped.reg O.mapResult = (s.solveBusy.setReg O.mapState 0 0).reg O.mapResult := rfl
      rw [hreg, State.reg_setReg_obj _ (by decide), reg_see, State.solveBusy_see _ (by simp [View.place]), ← reg_see]
    split_ifs
    exacts [h0, (State.actEnd_reg s.stopped (by decide) (by decide)).trans h0]
  have heq : s.commitStop 0x060A = (if s.ownCommit then (if s.map.holder = 0xFF then s.stopped else s.stopped.actEnd 0)
      else (if s.map.holder = 0xFF then s.stopped else s.stopped.actEnd 0).setReg O.mapResult 0 0x060A).raise 385 := rfl
  rw [heq, State.raise_reg _ (by decide)]
  generalize (if s.map.holder = 0xFF then s.stopped else s.stopped.actEnd 0) = t at hstop
  split
  exacts [hstop, State.reg_setReg_self _ _ _ _]

theorem State.commitStop_tells (hon : s.sys.fabOn = true) : (s.commitStop 0x060A).latched 385 = true := by
  have hcut (t : State) (c : Bool) (u v : State) (hu : u.sys.fabOn = true) (hv : v.sys.fabOn = true) :
      ((if c then u else v).raise 385).latched 385 = true := by
    cases c
    exacts [State.latched_raise_self (.inr hv), State.latched_raise_self (.inr hu)]
  have hstop : (if s.map.holder = 0xFF then s.stopped else s.stopped.actEnd 0).sys.fabOn = true := by
    have h0 : s.stopped.sys.fabOn = true := (congrArg SysS.fabOn s.solveBusy_sys).trans hon
    split_ifs
    exacts [h0, (congrArg SysS.fabOn (State.actEnd_sys _ _)).trans h0]
  exact hcut s s.ownCommit _ _ hstop hstop

/-- A repair's commit solves, for the frame 16 ahead. -/
theorem State.repairCommit_starts (origin : Nat) : (s.repairCommit origin).reg O.mapState = 1 ∧
    (s.repairCommit origin).map.origin = origin ∧ (s.repairCommit origin).map.f = (s.clk.fsn + 16) % 2 ^ 48 := by
  have hbanks (a : State) (o : Nat) : (a.openBanks o).reg O.mapState = a.reg O.mapState := rfl
  refine ⟨?_, rfl, rfl⟩
  rw [State.repairCommit, State.commitStart, hbanks, State.reg_setReg_self]

/-- What a commit that ends at its deadline leaves where the JX96's own repairs go on. -/
def Recommits (origin : Nat) (s t : State) : Prop :=
  t.reg O.mapState = 1 ∧ t.map.origin = origin ∧ t.map.f = (s.clk.fsn + 16) % 2 ^ 48 ∧
    t.reg O.mapResult = (if s.ownCommit then s.reg O.mapResult else 0x060A) ∧ t.latched 385 = true

theorem State.repairCommit_recommits {origin : Nat} (hon : s.sys.fabOn = true) :
    Recommits origin s ((s.commitStop 0x060A).repairCommit origin) := by
  obtain ⟨hst, horg, hf⟩ := (s.commitStop 0x060A).repairCommit_starts origin
  refine ⟨hst, horg, ?_, ?_, State.latched_commitStart (s.commitStop_tells hon) _ _ _ _⟩
  · rw [hf, State.commitStop_clk]
  · rw [← s.commitStop_result, reg_see, State.repairCommit_see _ _ (by simp [View.place]), ← reg_see]

theorem deadline_repairs {origin : Nat} (hst : s.reg O.mapState = 1) (hload : s.map.loaded = false)
    (hdue : s.deadlineDue = true) (hon : s.sys.fabOn = true)
    (hend : s.fresh.commitEnd 0x060A = (s.fresh.commitStop 0x060A).repairCommit origin) :
    Runs .armingDeadline s (Recommits origin s) := by
  refine runs_of_run (exec_armingDeadline s) ?_
  have hd : s.fresh.deadline = s.fresh.commitEnd 0x060A := State.deadline_late (t := s.fresh)
    (State.locked_of_standing (s := s) (.inl hst)) hload hdue fun h => absurd (hst.symm.trans h.1) (by decide)
  rw [hd, hend]
  exact State.repairCommit_recommits s.fresh hon

/-- A commit that was to place lines or contexts again gives way to another for them (R475, R477). -/
theorem State.commitEnd_of_lines (hlode : s.map.lodeDue = false) (horg : s.map.origin = 2)
    (hmode : s.sys.mode.commits = true) (hon : s.sys.fabOn = true) (code : Nat) :
    s.commitEnd code = (s.commitStop code).repairCommit 2 := by
  simp [State.commitEnd, State.repairNext, State.commitStop_sys, hlode, horg, hmode, hon]

/-- A commit without a repair ends with 0x060A. -/
theorem deadline_ends (hst : s.reg O.mapState = 1) (hload : s.map.loaded = false) (hdue : s.deadlineDue = true)
    (hrep : s.NoRepair) (hown : s.ownCommit = false) :
    Runs .armingDeadline s fun t =>
      t.reg O.mapState = 0 ∧ t.reg O.mapResult = 0x060A ∧ (s.sys.fabOn = true → t.latched 385 = true) := by
  refine runs_of_run (exec_armingDeadline s) ?_
  have hd : s.fresh.deadline = s.fresh.commitEnd 0x060A := State.deadline_late (t := s.fresh)
    (State.locked_of_standing (s := s) (.inl hst)) hload hdue fun h => absurd (hst.symm.trans h.1) (by decide)
  rw [hd, State.commitEnd_of_noRepair (s := s.fresh) hrep]
  refine ⟨State.commitStop_mapState s.fresh _, (State.commitStop_result s.fresh).trans ?_,
    fun hon => State.commitStop_tells s.fresh hon⟩
  exact if_neg (by rw [show s.fresh.ownCommit = false from hown]; decide)

/-! ## The end of a commit (Table 4-6 step 7) -/

/-- A commit that has drained has changed its registers. -/
def State.drainedTold : State :=
  let t := ((s.bump O.mapEpoch 0 32).setReg O.mapLiveFsn 0 s.clk.fsn).setReg O.mapState 0 0
  if s.ownCommit then t else t.setReg O.mapResult 0 0

/-- Its token is free again. -/
def State.drainedFreed : State :=
  let t : State := { s.drainedTold with map := { s.drainedTold.map with drain := false, loaded := false,
                                                                        holder := 0xFF } }
  if s.map.holder = 0xFF then t else t.actEnd 0

/-- The host is told of its end. -/
def State.drainedOver : State :=
  ({ s.drainedFreed with map := { s.drainedFreed.map with lodeDue := false } } : State).raise 384

theorem State.drained_eq (h : s.map.drain = true) (hr : 2 ≤ s.clk.round) (hon : s.sys.fabOn = true) :
    s.drained = s.drainedOver.repairNext s.drainedFreed.map.lodeDue false := by
  rw [State.drained, if_pos (by simp [h, hr, hon])]
  rfl

theorem State.drainedTold_map : s.drainedTold.map = s.map := by
  simp only [State.drainedTold]
  split <;> rfl

theorem State.drainedFreed_map :
    s.drainedFreed.map = { s.map with drain := false, loaded := false, holder := 0xFF } := by
  rw [← s.drainedTold_map]
  simp only [State.drainedFreed]
  split_ifs
  exacts [rfl, State.actEnd_map _ _]

theorem State.drainedOver_map : s.drainedOver.map =
    { s.map with drain := false, loaded := false, holder := 0xFF, lodeDue := false } := by
  have hmap (t : State) : (({ t with map := { t.map with lodeDue := false } } : State).raise 384).map =
      { t.map with lodeDue := false } := State.raise_map _ _
  rw [State.drainedOver, hmap, State.drainedFreed_map]

/-- The end of a commit leaves what neither its registers, its token nor its event hold. -/
theorem State.drainedOver_see {z : View} (h : z.place ∉ [.obj O.eventCount, .obj O.eventLastTime, .obj O.eventLatch,
      .obj O.hdpStats, .obj O.maintTokenHolder, .part .map]) : s.drainedOver.see z = s.drainedTold.see z := by
  simp only [notMem_cons, notMem_nil, and_true] at h
  simp only [State.drainedOver, State.drainedFreed]
  simp [↓see_mk, ↓ite_see, h]

theorem State.drainedTold_reg : s.drainedTold.reg O.mapState = 0 ∧
    s.drainedTold.reg O.mapEpoch = (s.reg O.mapEpoch + 1) % 2 ^ 32 ∧ s.drainedTold.reg O.mapLiveFsn = s.clk.fsn ∧
    (s.ownCommit = false → s.drainedTold.reg O.mapResult = 0) := by
  have hne {t : State} {i j e v : Nat} (h : j ≠ i) : (t.setReg i e v).reg j 0 = t.reg j 0 := t.reg_setReg_obj h
  simp only [State.drainedTold]
  split
  · exact ⟨State.reg_setReg_self _ _ _ _, by rw [hne (by decide), hne (by decide), State.bump, State.reg_setReg_self],
      by rw [hne (by decide), State.reg_setReg_self], fun h => absurd h (by simp [*])⟩
  · exact ⟨by rw [hne (by decide), State.reg_setReg_self],
      by rw [hne (by decide), hne (by decide), hne (by decide), State.bump, State.reg_setReg_self],
      by rw [hne (by decide), hne (by decide), State.reg_setReg_self], fun _ => State.reg_setReg_self _ _ _ _⟩

theorem State.drainedTold_sys : s.drainedTold.sys = s.sys := by
  simp only [State.drainedTold]
  split <;> rfl

theorem State.drainedTold_ddrDue : s.drainedTold.ddrDue = s.ddrDue := by
  have hls : s.drainedTold.reg O.memDdrLsState = s.reg O.memDdrLsState := by
    simp only [State.drainedTold, State.bump]
    split <;> simp only [State.reg_setReg_obj _ (show O.memDdrLsState ≠ O.mapResult by decide),
      State.reg_setReg_obj _ (show O.memDdrLsState ≠ O.mapState by decide),
      State.reg_setReg_obj _ (show O.memDdrLsState ≠ O.mapLiveFsn by decide),
      State.reg_setReg_obj _ (show O.memDdrLsState ≠ O.mapEpoch by decide)]
  rw [State.ddrDue, State.ddrDue, hls, State.drainedTold_sys]

/-- What stands and what a repair's commit leaves stands after the repairs that follow a commit. -/
theorem State.repairNext_keeps {P : State → Prop} {t : State} (lode lines : Bool) (h : P t)
    (hr : ∀ origin, P (t.repairCommit origin)) : P (t.repairNext lode lines) := by
  simp only [State.repairNext]
  split_ifs
  exacts [h, hr 1, hr 2, h]

theorem State.repairNext_mapState {t : State} (hst : t.reg O.mapState = 0) (hon : t.sys.fabOn = true) (lode : Bool) :
    (t.repairNext lode false).reg O.mapState = if t.sys.mode.commits && (lode || t.ddrDue) then 1 else 0 := by
  rw [State.repairNext]
  cases hm : t.sys.mode.commits
  · simpa using hst
  cases lode
  · cases hd : t.ddrDue
    · simpa [hon] using hst
    · simpa [hon] using (t.repairCommit_starts 2).1
  · simpa [hon] using (t.repairCommit_starts 1).1

/-- A commit that has drained ends with success; what the JX96's own repairs wait for begins at once. -/
theorem drained_succeeds (h : s.map.drain = true) (hr : 2 ≤ s.clk.round) (hon : s.sys.fabOn = true) :
    Runs .fabricDrained s fun t =>
      t.reg O.mapState = (if s.sys.mode.commits && (s.map.lodeDue || s.ddrDue) then 1 else 0) ∧
        t.reg O.mapEpoch = (s.reg O.mapEpoch + 1) % 2 ^ 32 ∧
      t.reg O.mapLiveFsn = s.clk.fsn ∧ (s.map.origin ≠ 1 → s.map.origin ≠ 2 → t.reg O.mapResult = 0) ∧
      t.map.drain = false ∧ t.latched 384 = true := by
  refine runs_of_run (exec_fabricDrained s) ?_
  rw [State.drained_eq s.fresh h hr hon]
  obtain ⟨hst, hep, hfsn, hres⟩ := s.fresh.drainedTold_reg
  have hsee (i : Nat) (hi : Place.obj i ∉ [Place.obj O.eventCount, .obj O.eventLastTime, .obj O.eventLatch,
      .obj O.hdpStats, .obj O.maintTokenHolder, .part .map]) :
      s.fresh.drainedOver.reg i = s.fresh.drainedTold.reg i := by
    rw [reg_see, State.drainedOver_see _ (z := .reg i 0) hi, ← reg_see]
  have hsys : s.fresh.drainedOver.sys = s.sys :=
    (State.sys_of_see (State.drainedOver_see s.fresh (by simp [View.place]))).trans s.fresh.drainedTold_sys
  have hddr : s.fresh.drainedOver.ddrDue = s.ddrDue := by
    refine Eq.trans ?_ s.fresh.drainedTold_ddrDue
    rw [State.ddrDue, State.ddrDue, hsys, hsee _ (by simp), State.drainedTold_sys]
    rfl
  have hlode : s.fresh.drainedFreed.map.lodeDue = s.map.lodeDue := by
    rw [State.drainedFreed_map]
    rfl
  have htell : s.fresh.drainedOver.latched 384 = true := by
    refine State.latched_raise_self (.inr ?_)
    have hfreed : s.fresh.drainedFreed.sys = s.fresh.drainedTold.sys := by
      simp only [State.drainedFreed]
      split_ifs
      exacts [rfl, State.actEnd_sys _ _]
    exact (congrArg SysS.fabOn (hfreed.trans s.fresh.drainedTold_sys)).trans hon
  have hdrain : s.fresh.drainedOver.map.drain = false := by rw [State.drainedOver_map]
  rw [hlode]
  rw [← hsee _ (by simp)] at hst hep hfsn hres
  generalize s.fresh.drainedOver = t at *
  have hkeep (i : Nat) (hi : Place.obj i ∉ [Place.obj O.eventCount, .obj O.eventLastTime, .obj O.eventLatch,
      .obj O.hdpStats, .obj O.maintTokenHolder, .obj O.maintTokenSince, .obj O.mapState, .part .map, .part .mem]) :
      (t.repairNext s.map.lodeDue false).reg i = t.reg i := by
    rw [reg_see, State.repairNext_see _ _ _ (z := .reg i 0) hi, ← reg_see]
  refine ⟨?_, (hkeep _ (by simp)).trans hep, (hkeep _ (by simp)).trans hfsn, fun h1 h2 => ?_, ?_, ?_⟩
  · refine (State.repairNext_mapState hst (by rw [hsys]; exact hon) _).trans ?_
    rw [hsys, hddr]
  · exact (hkeep _ (by simp)).trans (hres (by simp [State.ownCommit, h1, h2]))
  · exact State.repairNext_keeps (P := fun u => u.map.drain = false) _ _ hdrain fun _ => hdrain
  · exact State.repairNext_keeps (P := fun u => u.latched 384 = true) _ _ htell
      fun _ => State.latched_commitStart htell _ _ _ _

end

end Sys2Proof.Machine

/-! What a boundary does before the Shadow becomes Live (R207 to R211, R232, R483) leaves the Shadow's entries listed as
they are: a write of an element of another object moves none of them. -/

namespace Sys2Proof.Machine

/-! ## The entries of an object under writes of others -/

theorem SMap.filter_insert {β : Type} {p : Nat × β → Bool} (m : SMap β) {k : Nat} {v : β} (h : ∀ u, p (k, u) = false) :
    (SMap.insert m k v).filter p = m.filter p := by
  induction m with
  | nil => simp [SMap.insert, h]
  | cons x m ih =>
    obtain ⟨i, u⟩ := x
    by_cases h1 : k < i
    · simp [SMap.insert, h1, h]
    · by_cases h2 : i = k
      · subst h2
        simp [SMap.insert, h]
      · simp [SMap.insert, h1, h2, List.filter_cons, ih]

theorem SMap.filter_erase {β : Type} {p : Nat × β → Bool} (m : SMap β) {k : Nat} (h : ∀ u, p (k, u) = false) :
    (SMap.erase m k).filter p = m.filter p := by
  induction m with
  | nil => rfl
  | cons x m ih =>
    obtain ⟨i, u⟩ := x
    by_cases h2 : i = k
    · subst h2
      simp [SMap.erase, h, ih]
    · simp [SMap.erase, h2, List.filter_cons, ih]

/-- The entries of the Shadow in a register array. -/
def shadowRows (m : SMap Nat) : SMap Nat := m.filter fun kv => kv.1 / 2 ^ 24 == O.mapShadowSrc

theorem State.entries_shadow (s : State) :
    s.entries O.mapShadowSrc = (shadowRows s.regs).map fun kv => (kv.1 % 2 ^ 24, kv.2) := rfl

section
variable (s : State)

@[simp] theorem State.setReg_rows {i : Nat} (e v : Nat) (h : i ≠ O.mapShadowSrc) :
    shadowRows (s.setReg i e v).regs = shadowRows s.regs := by
  have hout (u : Nat) : ((regKey i e, u).1 / 2 ^ 24 == O.mapShadowSrc) = false := by
    rw [regKey_obj]
    simpa using h
  simp only [State.setReg, SMap.set, shadowRows]
  split_ifs
  exacts [SMap.filter_erase _ hout, SMap.filter_insert _ hout]

@[simp] theorem State.bump_rows {i : Nat} (e w n : Nat) (h : i ≠ O.mapShadowSrc) :
    shadowRows (s.bump i e w n).regs = shadowRows s.regs := s.setReg_rows _ _ h

@[simp] theorem State.setOct_rows {i : Nat} (e n k : Nat) (b : Bool) (h : i ≠ O.mapShadowSrc) :
    shadowRows (s.setOct i e n k b).regs = shadowRows s.regs := s.setReg_rows _ _ h

/-- A choice between two states lists what both list. -/
theorem rows_ite {c : Prop} [Decidable c] {a b : State} {m : SMap Nat} (ha : shadowRows a.regs = m)
    (hb : shadowRows b.regs = m) : shadowRows (if c then a else b).regs = m := by
  split_ifs
  exacts [ha, hb]

theorem foldl_rows {γ : Type} (f : State → γ → State) (l : List γ)
    (h : ∀ t x, shadowRows (f t x).regs = shadowRows t.regs) : shadowRows (l.foldl f s).regs = shadowRows s.regs :=
  foldl_same (fun t : State => shadowRows t.regs) f l s h

theorem foldRange_rows (f : State → Nat → State) (n : Nat)
    (h : ∀ t x, shadowRows (f t x).regs = shadowRows t.regs) : shadowRows (foldRange n f s).regs = shadowRows s.regs :=
  foldRange_same (fun t : State => shadowRows t.regs) n f s h

/-! ## Events and counters -/

@[simp] theorem State.latch_rows (ev : Nat) : shadowRows (s.latch ev).regs = shadowRows s.regs := by
  simp only [State.latch]
  exact rows_ite rfl (by simp [O.eventLatch, O.eventCount, O.eventLastTime, O.mapShadowSrc])

@[simp] theorem State.notifyOne_rows (ev : Nat) : shadowRows (s.notifyOne ev).1.regs = shadowRows s.regs := by
  refine foldRange_same (fun r : State × Nat => shadowRows r.1.regs) _ _ _ fun r k => ?_
  dsimp only
  split_ifs <;> simp [State.setSession, O.hdpStats, O.mapShadowSrc]

@[simp] theorem State.notifyAll_rows (ev : Nat) : shadowRows (s.notifyAll ev).regs = shadowRows s.regs :=
  s.notifyAll_same (fun t => shadowRows t.regs) ev fun a e => a.notifyOne_rows e

@[simp] theorem State.raise_rows (ev : Nat) : shadowRows (s.raise ev).regs = shadowRows s.regs := by
  rw [State.raise]
  exact rows_ite rfl (by simp)

@[simp] theorem State.talRecord_rows (i : Nat) : shadowRows (s.talRecord i).1.regs = shadowRows s.regs := by
  simp [State.talRecord, State.counted, State.send, O.tallyOvfCount, O.mapShadowSrc]

@[simp] theorem State.talSample_rows (i : Nat) : shadowRows (s.talSample i).regs = shadowRows s.regs := by
  simp only [State.talSample]
  exact rows_ite (by simp) (by simp)

@[simp] theorem State.tally_rows (i n : Nat) : shadowRows (s.tally i n).regs = shadowRows s.regs := by
  simp only [State.tally]
  refine rows_ite rfl (rows_ite ?_ rfl)
  exact foldRange_rows _ _ _ fun t _ => t.talSample_rows i

/-! ## Ports -/

@[simp] theorem State.rxState_rows (a st : Nat) : shadowRows (s.rxState a st).regs = shadowRows s.regs := by
  simp only [State.rxState, State.grainChanged]
  exact rows_ite (by simp [O.grainRxState, O.grainChanged, O.mapShadowSrc]) (by simp [O.grainRxState, O.mapShadowSrc])

@[simp] theorem State.rxRestart_rows (m : Nat) : shadowRows (s.rxRestart m).regs = shadowRows s.regs := by
  refine foldRange_rows _ _ _ fun t i => ?_
  simp [State.setRx]

@[simp] theorem State.portAis_rows (p : Nat) : shadowRows (s.portAis p).regs = shadowRows s.regs :=
  foldRange_rows _ _ _ fun t _ => t.rxRestart_rows _

@[simp] theorem State.setUnwatched_rows (b : Bool) : shadowRows (s.setUnwatched b).regs = shadowRows s.regs := by
  rw [State.setUnwatched]
  exact rows_ite rfl (by simp [O.protFlags, O.mapShadowSrc])

@[simp] theorem State.setStreamState_rows (st v : Nat) :
    shadowRows (s.setStreamState st v).regs = shadowRows s.regs := by
  rw [State.setStreamState, State.refreshWatch]
  exact rows_ite rfl (rows_ite (by simp [O.witnessStreamState, O.mapShadowSrc])
    (rows_ite (by simp [O.witnessStreamState, O.mapShadowSrc]) (by simp [O.witnessStreamState, O.mapShadowSrc])))

@[simp] theorem State.blockLoss_rows (st : Nat) : shadowRows (s.blockLoss st).regs = shadowRows s.regs :=
  State.setStreamState_rows _ _ _

@[simp] theorem State.streamOff_rows (p : Nat) : shadowRows (s.streamOff p).regs = shadowRows s.regs := by
  rw [State.streamOff]
  split
  exacts [rows_ite rfl (by simp), rfl]

@[simp] theorem State.untie_rows : shadowRows s.untie.regs = shadowRows s.regs := by
  rw [State.untie]
  exact rows_ite rfl (by simp [State.setTime, O.refTied, O.timeGridResidual, O.mapShadowSrc])

@[simp] theorem State.tieFails_rows : shadowRows s.tieFails.regs = shadowRows s.regs := by
  rw [State.tieFails]
  exact rows_ite rfl (by simp)

@[simp] theorem State.launchEnd_rows (l : LaunchR) (st n : Nat) :
    shadowRows (s.launchEnd l st n).regs = shadowRows s.regs := by
  simp only [State.launchEnd]
  exact rows_ite (by simp) (by simp)

@[simp] theorem State.ifaceDown_rows (p : Nat) : shadowRows (s.ifaceDown p).regs = shadowRows s.regs := by
  refine (foldl_rows _ _ _ fun t l => t.launchEnd_rows _ _ _).trans ?_
  exact foldRange_rows { s with tim := { s.tim with queue := s.tim.queue.filter fun x => x.iface != p } } _ _
    fun t _ => by simp [O.timeTcStats, O.mapShadowSrc]

@[simp] theorem State.tokDrop_rows (d : Nat) : shadowRows (s.tokDrop d).regs = shadowRows s.regs := by
  rw [State.tokDrop]
  exact rows_ite rfl (by simp [O.maintTokenHolder, O.mapShadowSrc])

@[simp] theorem State.actEnd_rows (d : Nat) : shadowRows (s.actEnd d).regs = shadowRows s.regs := by
  simp only [State.actEnd]
  exact rows_ite (by simp) rfl

@[simp] theorem State.negEnd_rows (p : Nat) : shadowRows (s.negEnd p).regs = shadowRows s.regs := by
  simp only [State.negEnd]
  exact rows_ite (by simp [State.setLinkQ]) rfl

@[simp] theorem State.portStart_rows (p : Nat) : shadowRows (s.portStart p).regs = shadowRows s.regs := by
  simp only [State.portStart]
  exact rows_ite rfl (by simp [State.setLink, State.setVer, O.portVersion, O.portNegState, O.portAlignState,
    O.mapShadowSrc])

@[simp] theorem State.portStop_rows (p : Nat) (b : Bool) : shadowRows (s.portStop p b).regs = shadowRows s.regs := by
  simp [State.portStop, State.setLink, State.setVer, O.portVersion, O.portNegState, O.portAlignState, O.mapShadowSrc]

theorem State.rolesChanged_rows : shadowRows s.rolesChanged.regs = shadowRows s.regs := by
  refine foldRange_rows _ _ _ fun t p => ?_
  split_ifs
  exacts [rfl, rfl, t.portStop_rows p true, t.portStart_rows p, rfl]

theorem State.streamsMoved_rows (old : List Nat) : shadowRows (s.streamsMoved old).regs = shadowRows s.regs := by
  refine foldRange_rows _ _ _ fun t k => ?_
  split_ifs
  exacts [rfl, rfl, t.blockLoss_rows _]

theorem State.resize_rows (m was : Nat) : shadowRows (s.resize m was).regs = shadowRows s.regs := by
  simp [State.resize]

theorem State.clearCtxLines_rows : shadowRows s.clearCtxLines.regs = shadowRows s.regs := by
  simp only [State.clearCtxLines]
  refine foldl_rows s _ _ fun t x => ?_
  exact rows_ite (State.setReg_rows t x.1 0xFFFF (by decide)) rfl

/-! ## Contexts and lines -/

@[simp] theorem State.lineState_rows (a st : Nat) : shadowRows (s.lineState a st).regs = shadowRows s.regs := by
  have hset (c : Prop) [Decidable c] (t : State) (x : CtxS) (k : Nat) :
      shadowRows (if c then t.setCtx k x else t).regs = shadowRows t.regs := rows_ite rfl rfl
  simp only [State.lineState]
  refine rows_ite ?_ ?_ <;> simp [hset, O.groupLineState, O.groupLineChanged, O.mapShadowSrc]

theorem State.lineStop_rows (a : Nat) : shadowRows (s.lineStop a).regs = shadowRows s.regs := by
  simp only [State.lineStop]
  exact rows_ite (s.lineState_rows a 0) (s.lineState_rows a 0)

theorem State.lineStart_rows (c a : Nat) : shadowRows (s.lineStart c a).regs = shadowRows s.regs := by
  simp only [State.lineStart]
  exact State.lineState_rows _ _ _

@[simp] theorem State.slewStart_rows (c : Nat) (ls : List Nat) :
    shadowRows (s.slewStart c ls).regs = shadowRows s.regs := by
  simp only [State.slewStart]
  refine (foldl_rows _ _ _ fun t y => ?_).trans (by simp [State.setCtx, O.groupOffset, O.mapShadowSrc])
  simp [State.slewLine, State.setLine, O.groupLineLateness, O.groupLineSlack, O.mapShadowSrc]

theorem State.ctxStart_rows (c : Nat) : shadowRows (s.ctxStart c).regs = shadowRows s.regs := by
  simp only [State.ctxStart]
  refine rows_ite ?_ (rows_ite ?_ ?_) <;>
    simp [State.setCtx, O.groupMode, O.groupOffset, O.groupTarget, O.mapShadowSrc]

theorem State.ctxStop_rows (c : Nat) : shadowRows (s.ctxStop c).regs = shadowRows s.regs := by
  simp [State.ctxStop, State.setCtx, O.groupMode, O.mapShadowSrc]

theorem State.marginsDue_rows : shadowRows s.marginsDue.regs = shadowRows s.regs := by
  refine foldl_rows _ _ _ fun t c => ?_
  dsimp only
  split_ifs
  exacts [rfl, rfl]

theorem State.groupBoundary_rows (old : State) : shadowRows (s.groupBoundary old).regs = shadowRows s.regs := by
  simp only [State.groupBoundary]
  rw [foldl_rows _ _ _ fun t c => t.ctxStart_rows c, foldl_rows _ _ _ fun t x => t.lineStart_rows _ _,
    State.marginsDue_rows, foldl_rows _ _ _ fun t x => t.ctxStop_rows _, foldl_rows _ _ _ fun t x => t.lineStop_rows _]

end

end Sys2Proof.Machine

/-! A commit boundary (Table 4-6 steps 4 to 6): what it makes Live and effective. -/

namespace Sys2Proof.Machine

section
variable (s : State)

/-! ## The parts of a boundary -/

/-- Pending values are in effect, and contexts that wait for long skew are held. -/
def State.valuesLive : State :=
  let t := s.heldCtxs.foldl (fun t c => t.setLive O.groupType c 0) s.bringLive.rolesChanged
  { t with sys := { t.sys with ddrHeld := !s.heldCtxs.isEmpty } }

/-- Grain positions whose size a boundary changes. -/
def State.sizesDue : List Nat := (s.dueLive.filter fun x => x.1 == O.grainSize).map Prod.snd

/-- Lines, contexts and streams of the new epoch stand, before its maps do. -/
def State.epochStarts : State :=
  ((s.sizesDue.foldl (fun t m => t.resize m (s.lreg O.grainSize m)) s.valuesLive).groupBoundary s).streamsMoved
    s.witPorts

/-- What a boundary does once its maps are Live, for a state before it. -/
def State.epochTold (t : State) : State :=
  let t := (t.mapFigures.setReg O.mapRecompute 0 0).stopsDue
  let t := t.journalBoundary (s.entries O.mapLiveSrc) s.dueLive
  (((t.serviceBoundary).pendingDrain.shortClear.placeLost).tally 6 1)

/-- The boundary has been taken. -/
def State.epochTaken : State :=
  { s with map := { s.map with loaded := true, drain := true, lodeDue := false }
           led := { s.led with cutNext := s.led.cutNext || bit (s.reg O.ledgerCutMode) 1 } }

theorem State.boundary_eq : s.boundary = (s.clearCtxLines.epochTold (s.clearCtxLines.epochStarts.mapBoundary
    fun a => s.clearCtxLines.sizesDue.contains (a / 8))).epochTaken := by
  simp only [State.boundary, State.epochTaken, State.epochTold, State.epochStarts, State.valuesLive, State.sizesDue]

/-! ## Pending values take effect -/

theorem State.slewStart_live (c : Nat) (ls : List Nat) : (s.slewStart c ls).live = s.live := by
  have hline (t : State) (e : Int) (a : Nat) : (t.slewLine e a).live = t.live := by
    simp only [State.slewLine]
    exact (State.lineState_see (z := .part .live) _ _ _ (by simp)).trans rfl
  simp only [State.slewStart]
  exact (foldl_same (fun t : State => t.live) _ _ _ fun t y => hline t _ y).trans rfl

theorem State.ctxStart_live (c : Nat) : (s.ctxStart c).live = s.live := by
  have hite (p : Prop) [Decidable p] (a b : State) (ha : a.live = s.live) (hb : b.live = s.live) :
      (if p then a else b).live = s.live := by
    split_ifs
    exacts [ha, hb]
  simp only [State.ctxStart]
  exact hite _ _ _ ((State.slewStart_live _ _ _).trans rfl) (hite _ _ _ rfl rfl)

theorem State.groupBoundary_live (old : State) : (s.groupBoundary old).live = s.live := by
  have hmargins (t : State) : t.marginsDue.live = t.live := t.marginsDue_see (z := .part .live) (by simp)
  have hstop (t : State) (a : Nat) : (t.lineStop a).live = t.live := t.lineStop_see a (z := .part .live) (by simp)
  have hend (t : State) (c : Nat) : (t.ctxStop c).live = t.live := t.ctxStop_see c (z := .part .live) (by simp)
  have hstart (t : State) (c a : Nat) : (t.lineStart c a).live = t.live :=
    t.lineStart_see c a (z := .part .live) (by simp)
  have hgrp (t : State) (g : GrpS) : ({ t with grp := g } : State).live = t.live := rfl
  simp only [State.groupBoundary]
  rw [foldl_same (fun t : State => t.live) _ _ _ fun t c => t.ctxStart_live c,
    foldl_same (fun t : State => t.live) _ _ _ fun t x => hstart t _ _, hmargins,
    foldl_same (fun t : State => t.live) _ _ _ fun t x => hend t _,
    foldl_same (fun t : State => t.live) _ _ _ fun t x => hstop t _]

/-- The values that a boundary makes effective are in effect at its end. -/
theorem State.epochStarts_live : s.epochStarts.live = s.valuesLive.live := by
  have hsize (t : State) (m w : Nat) : (t.resize m w).live = t.live := t.resize_see m w (z := .part .live) (by simp)
  have hstreams (t : State) (l : List Nat) : (t.streamsMoved l).live = t.live :=
    t.streamsMoved_see l (z := .part .live) (by simp)
  rw [State.epochStarts, hstreams, State.groupBoundary_live,
    foldl_same (fun t : State => t.live) _ _ _ fun t m => hsize t m _]

theorem SMap.get_insertAll {f : Nat → Nat} {l : List (Nat × Nat)} (hl : ∀ x ∈ l, x.2 = f x.1)
    (m : SMap Nat) (k u : Nat) : SMap.get u (l.foldl (fun m kv => SMap.insert m kv.1 kv.2) m) k =
      if k ∈ l.map Prod.fst then f k else SMap.get u m k := by
  induction l generalizing m with
  | nil => rfl
  | cons x l ih =>
    rw [List.foldl_cons, ih fun y hy => hl y (List.mem_cons_of_mem _ hy)]
    by_cases hx : k = x.1
    · subst hx
      simp [SMap.get, hl x List.mem_cons_self]
    · simp only [SMap.get, SMap.find?_insert_ne _ _ hx, List.map_cons, List.mem_cons, hx, false_or]

/-- A value that waits for a boundary is in effect after it. -/
theorem State.bringLive_lreg (hs : RegsOk s) {i : Nat} (hi : liveIdx i = true) (e : Nat) :
    s.bringLive.lreg i e = s.reg i e := by
  have hdue : ∀ x ∈ s.regs.filter (fun kv => liveIdx (kv.1 / 2 ^ 24)), x.2 = s.reg (x.1 / 2 ^ 24) (x.1 % 2 ^ 24) :=
    fun x hx => by rw [State.reg, regKey_div_mod, SMap.get_of_mem hs.1 (List.mem_of_mem_filter hx)]
  have hkey : s.reg (regKey i e / 2 ^ 24) (regKey i e % 2 ^ 24) = s.reg i e := by
    rw [State.reg, regKey_div_mod]
    rfl
  simp only [State.lreg, State.bringLive]
  rw [SMap.get_insertAll (f := fun k => s.reg (k / 2 ^ 24) (k % 2 ^ 24)) hdue]
  split_ifs with hk
  · exact hkey
  · have hobj : liveIdx (regKey i e / 2 ^ 24) = true := by rwa [regKey_obj]
    have hkeep : ∀ v, (regKey i e, v) ∉ s.live.filter fun kv => !liveIdx (kv.1 / 2 ^ 24) := fun v hv =>
      absurd ((Bool.not_eq_true' _).mp (List.mem_filter.mp hv).2) (by rw [hobj]; decide)
    have hreg : ∀ v, (regKey i e, v) ∉ s.regs := fun v hv =>
      hk (List.mem_map.mpr ⟨_, List.mem_filter.mpr ⟨hv, hobj⟩, rfl⟩)
    rw [SMap.get_of_not_mem hkeep, State.reg, SMap.get_of_not_mem hreg]

theorem State.clearCtxLines_regsOk (hs : RegsOk s) : RegsOk s.clearCtxLines := by
  have hset (t : State) (i e v : Nat) (ht : RegsOk t) : RegsOk (t.setReg i e v) := ⟨SMap.wf_set _ _ _ _ ht.1, ht.2⟩
  simp only [State.clearCtxLines]
  refine foldl_keeps RegsOk _ _ s hs fun t x ht => ?_
  split
  exacts [hset _ _ _ _ ht, ht]

theorem State.valuesLive_lreg (hs : RegsOk s) {i : Nat} (hi : liveIdx i = true) (hne : i ≠ O.groupType) (e : Nat) :
    s.valuesLive.lreg i e = s.reg i e := by
  have hsys (t : State) (y : SysS) : ({ t with sys := y } : State).lreg i e = t.lreg i e := rfl
  have hroles : s.bringLive.rolesChanged.live = s.bringLive.live :=
    State.rolesChanged_see _ (z := .part .live) (by simp)
  rw [State.valuesLive, hsys, foldl_same (fun t : State => t.lreg i e) _ _ _ fun t c => State.lreg_setLive_obj _ hne,
    State.lreg_congr hroles, State.bringLive_lreg s hs hi]

/-! ## The maps of the new epoch -/

/-- The places that a boundary leaves once its maps are Live. -/
theorem State.epochTold_see (t : State) {z : View} (h : z.place ∈ [.obj O.mapLiveSrc, .obj O.mapDraftSrc, .part .live,
    .part .fab]) : (s.epochTold t).see z = t.see z := by
  simp only [List.mem_cons, List.not_mem_nil, or_false] at h
  simp only [State.epochTold]
  rcases h with h | h | h | h <;> simp [h]

/-- The stages' shadow registers stand until the maps do. -/
theorem State.epochStarts_shadow : s.epochStarts.map = s.map ∧ s.epochStarts.fab.shadow = s.fab.shadow := by
  have hsize (t : State) (m w : Nat) : (t.resize m w).map = t.map ∧ (t.resize m w).fab.shadow = t.fab.shadow :=
    ⟨t.resize_see m w (z := .part .map) (by simp), by
      have hfab : (t.rxRestart m).fab = t.fab := t.rxRestart_see m (z := .part .fab) (by simp)
      simp only [State.resize]
      rw [hfab]⟩
  have hvalues : s.valuesLive.map = s.map ∧ s.valuesLive.fab = s.fab := by
    have hsys (t : State) (y : SysS) : ({ t with sys := y } : State).map = t.map ∧ ({ t with sys := y } : State).fab =
        t.fab := ⟨rfl, rfl⟩
    have hroles : s.bringLive.rolesChanged.map = s.map ∧ s.bringLive.rolesChanged.fab = s.fab :=
      ⟨State.rolesChanged_see _ (z := .part .map) (by simp), State.rolesChanged_see _ (z := .part .fab) (by simp)⟩
    have hheld (t : State) (c : Nat) : (t.setLive O.groupType c 0).map = t.map ∧
        (t.setLive O.groupType c 0).fab = t.fab := ⟨rfl, rfl⟩
    rw [State.valuesLive, (hsys _ _).1, (hsys _ _).2,
      foldl_same (fun t : State => t.map) _ _ _ fun t c => (hheld t c).1,
      foldl_same (fun t : State => t.fab) _ _ _ fun t c => (hheld t c).2]
    exact hroles
  have hrest (t : State) (o : State) (l : List Nat) : ((t.groupBoundary o).streamsMoved l).map = t.map ∧
      ((t.groupBoundary o).streamsMoved l).fab = t.fab :=
    ⟨((t.groupBoundary o).streamsMoved_see l (z := .part .map) (by simp)).trans
        (t.groupBoundary_see o (z := .part .map) (by simp)),
      ((t.groupBoundary o).streamsMoved_see l (z := .part .fab) (by simp)).trans
        (t.groupBoundary_see o (z := .part .fab) (by simp))⟩
  rw [State.epochStarts, (hrest _ _ _).1, (hrest _ _ _).2, foldl_same (fun t : State => t.map) _ _ _ fun t m =>
    (hsize t m _).1, foldl_same (fun t : State => t.fab.shadow) _ _ _ fun t m => (hsize t m _).2, hvalues.1, hvalues.2]
  exact ⟨rfl, rfl⟩

theorem State.epochStarts_rows : shadowRows s.epochStarts.regs = shadowRows s.regs := by
  have hvalues : shadowRows s.valuesLive.regs = shadowRows s.regs := by
    have hsys (t : State) (y : SysS) : ({ t with sys := y } : State).regs = t.regs := rfl
    have hheld (t : State) (c : Nat) : shadowRows (t.setLive O.groupType c 0).regs = shadowRows t.regs := rfl
    rw [State.valuesLive, hsys, foldl_rows _ _ _ fun t c => hheld t c, State.rolesChanged_rows]
    rfl
  rw [State.epochStarts, State.streamsMoved_rows, State.groupBoundary_rows,
    foldl_rows _ _ _ fun t m => t.resize_rows m _, hvalues]

/-- The Shadow's sources, as they become Live. -/
def State.shadowNow : List (Nat × Nat) := (s.entries O.mapShadowSrc).filter fun x => decide (x.2 < 122880)

/-- Both maps take the Shadow's sources. -/
def State.mapsLive (t : State) : State :=
  (({ t with grp := { t.grp with cut := [] } } : State).loadStages.putMap O.mapLiveSrc t.shadowNow).putMap
    O.mapDraftSrc t.shadowNow

theorem State.mapBoundary_reg (size : Nat → Bool) {i e : Nat} (hi : i ≠ O.protDigestStats) :
    (s.mapBoundary size).reg i e = s.mapsLive.reg i e := by
  simp only [State.mapBoundary]
  rw [State.bump, State.reg_setReg_obj _ hi]
  rfl

theorem State.mapBoundary_fab (size : Nat → Bool) : (s.mapBoundary size).fab.newIts = true ∧
    (s.mapBoundary size).fab.newEts = true ∧ (s.mapBoundary size).fab.shadow = s.mapsLive.fab.shadow := ⟨rfl, rfl, rfl⟩

theorem State.mapBoundary_live (size : Nat → Bool) : (s.mapBoundary size).live = s.live :=
  s.mapBoundary_see size (z := .live) (by simp)

theorem State.mapsLive_shadow (h : s.map.loaded = true) : s.mapsLive.fab.shadow = s.fab.shadow := by
  have hput (t : State) (i : Nat) (l : List (Nat × Nat)) : (t.putMap i l).fab = t.fab :=
    t.putMap_see i l (z := .fab)
  rw [State.mapsLive, hput, hput, State.loadStages, if_pos h]

/-- Each map reads the Shadow's source, or none where the Shadow names none. -/
theorem State.putMap_shadow {t : State} (hs : RegsOk s) (hrows : shadowRows t.regs = shadowRows s.regs) (u : State)
    {i a : Nat} (ha : a < 2 ^ 24) (hi : unlisted (regKey i a) = noSrc) :
    (u.putMap i t.shadowNow).reg i a = if s.reg O.mapShadowSrc a < 122880 then s.reg O.mapShadowSrc a else noSrc := by
  have hent : t.entries O.mapShadowSrc = s.entries O.mapShadowSrc := by
    rw [State.entries_shadow, State.entries_shadow, hrows]
  have hmem (x : Nat × Nat) (hx : x ∈ t.shadowNow) : x.1 < 2 ^ 24 ∧ x.2 = s.reg O.mapShadowSrc x.1 :=
    State.reg_of_mem_entries hs (hent ▸ List.mem_of_mem_filter hx)
  have hnone : unlisted (regKey O.mapShadowSrc a) = noSrc := by
    simp only [unlisted, regKey_obj]
    rfl
  rw [State.putMap, State.reg_foldl_setReg ha hmem, State.reg_clearObj, hi]
  by_cases hsrc : s.reg O.mapShadowSrc a < 122880
  · have hlisted : a ∈ (s.entries O.mapShadowSrc).map Prod.fst := by
      by_contra hout
      rw [State.reg_of_not_mem_entries ha hout, hnone] at hsrc
      exact absurd hsrc (by decide)
    obtain ⟨x, hx, rfl⟩ := List.mem_map.mp hlisted
    rw [if_pos hsrc, if_pos]
    refine List.mem_map_of_mem (List.mem_filter.mpr ⟨hent ▸ hx, ?_⟩)
    rw [(State.reg_of_mem_entries hs hx).2]
    exact decide_eq_true hsrc
  · rw [if_neg hsrc, if_neg]
    intro hin
    obtain ⟨x, hx, rfl⟩ := List.mem_map.mp hin
    refine hsrc ?_
    rw [← (hmem x hx).2]
    exact of_decide_eq_true (List.mem_filter.mp hx).2

theorem State.mapsLive_reg {t : State} (hs : RegsOk s) (hrows : shadowRows t.regs = shadowRows s.regs) {a : Nat}
    (ha : a < 122880) : t.mapsLive.reg O.mapDraftSrc a = t.mapsLive.reg O.mapLiveSrc a ∧
      t.mapsLive.reg O.mapLiveSrc a = if s.reg O.mapShadowSrc a < 122880 then s.reg O.mapShadowSrc a else noSrc := by
  have hlive : unlisted (regKey O.mapLiveSrc a) = noSrc := by
    simp only [unlisted, regKey_obj]
    rfl
  have h1 : t.mapsLive.reg O.mapLiveSrc a = if s.reg O.mapShadowSrc a < 122880 then s.reg O.mapShadowSrc a else
      noSrc := by
    rw [State.mapsLive, State.putMap_reg _ _ (by decide), State.putMap_shadow s hs hrows _ (by omega) hlive]
  refine ⟨?_, h1⟩
  rw [h1, State.mapsLive, State.putMap_shadow s hs hrows _ (by omega) ((unlisted_draft_eq_live a).trans hlive)]

/-- The state of a boundary whose maps are Live. -/
def State.epochLive : State :=
  s.clearCtxLines.epochStarts.mapBoundary fun a => s.clearCtxLines.sizesDue.contains (a / 8)

theorem State.boundary_keeps {z : View} (h : z.place ∈ [.obj O.mapLiveSrc, .obj O.mapDraftSrc, .part .live,
    .part .fab]) : s.boundary.see z = s.epochLive.see z := by
  have htaken (t : State) : t.epochTaken.see z = t.see z := by
    simp only [List.mem_cons, List.not_mem_nil, or_false] at h
    rw [State.epochTaken]
    rcases h with h | h | h | h <;> simp [see_mk, h]
  rw [State.boundary_eq, htaken, State.epochTold_see _ _ h]
  rfl

theorem State.epochLive_reg {i a : Nat} (hi : i ≠ O.protDigestStats) :
    s.epochLive.reg i a = s.clearCtxLines.epochStarts.mapsLive.reg i a := State.mapBoundary_reg _ _ hi

theorem State.epochLive_lreg (hs : RegsOk s) {i : Nat} (hi : liveIdx i = true) (hne : i ≠ O.groupType)
    (hctx : i ≠ O.groupLineCtx) (e : Nat) : s.epochLive.lreg i e = s.reg i e := by
  rw [State.epochLive, State.lreg_congr (State.mapBoundary_live _ _), State.lreg_congr (State.epochStarts_live _),
    State.valuesLive_lreg _ (s.clearCtxLines_regsOk hs) hi hne, reg_see,
    State.clearCtxLines_see _ (by simpa [View.place] using hctx), ← reg_see]

theorem State.epochLive_fab : s.epochLive.fab.newIts = true ∧ s.epochLive.fab.newEts = true ∧
    (s.map.loaded = true → s.epochLive.fab.shadow = s.fab.shadow) := by
  obtain ⟨hits, hets, hshadow⟩ := s.clearCtxLines.epochStarts.mapBoundary_fab
    fun a => s.clearCtxLines.sizesDue.contains (a / 8)
  obtain ⟨hmap, hfab⟩ := s.clearCtxLines.epochStarts_shadow
  have hctx : s.clearCtxLines.map = s.map ∧ s.clearCtxLines.fab = s.fab :=
    ⟨s.clearCtxLines_see (z := .part .map) (by simp), s.clearCtxLines_see (z := .part .fab) (by simp)⟩
  refine ⟨hits, hets, fun hload => hshadow.trans ?_⟩
  rw [State.mapsLive_shadow _ (by rw [hmap, hctx.1]; exact hload), hfab, hctx.2]

end

/-- A boundary that is due makes the Shadow Live, and what was pending effective. -/
theorem boundary_takes (s : State) (hdue : s.boundaryDue = true) (hs : RegsOk s) :
    Runs .commitBoundary s fun t =>
      (∀ a < 122880, s.reg O.mapShadowSrc a < 122880 → t.reg O.mapLiveSrc a = s.reg O.mapShadowSrc a) ∧
      (∀ a < 122880, 122880 ≤ s.reg O.mapShadowSrc a → t.reg O.mapLiveSrc a = noSrc) ∧
      (∀ a < 122880, t.reg O.mapDraftSrc a = t.reg O.mapLiveSrc a) ∧
      (∀ p < 96, t.lreg O.portRole p = s.reg O.portRole p) ∧
      (∀ m < 15360, t.lreg O.grainSize m = s.reg O.grainSize m) ∧
      t.map.drain = true ∧ t.fab.newIts = true ∧ t.fab.newEts = true ∧
      (s.map.loaded = true → t.fab.shadow = s.fab.shadow) := by
  refine runs_of_run (exec_commitBoundary s) ?_
  have hb : s.fresh.commitBoundary = s.fresh.boundary := if_pos hdue
  have hdrain : s.fresh.boundary.map.drain = true := rfl
  have hreg (i : Nat) (hi : i = O.mapLiveSrc ∨ i = O.mapDraftSrc) (a : Nat) :
      s.fresh.boundary.reg i a = s.fresh.clearCtxLines.epochStarts.mapsLive.reg i a := by
    rw [reg_see, State.boundary_keeps _ (by rcases hi with h | h <;> simp [View.place, h]), ← reg_see]
    exact State.epochLive_reg _ (by rcases hi with h | h <;> rw [h] <;> decide)
  have hrows : shadowRows s.fresh.clearCtxLines.epochStarts.regs = shadowRows s.regs := by
    rw [State.epochStarts_rows, State.clearCtxLines_rows]
    rfl
  have hmaps (a : Nat) (ha : a < 122880) := State.mapsLive_reg s hs hrows ha
  have hlive : s.fresh.boundary.live = s.fresh.epochLive.live :=
    State.boundary_keeps _ (z := .part .live) (by simp [View.place])
  have hlreg (i e : Nat) (h : liveIdx i = true ∧ i ≠ O.groupType ∧ i ≠ O.groupLineCtx) :
      s.fresh.boundary.lreg i e = s.reg i e :=
    (State.lreg_congr hlive i e).trans (State.epochLive_lreg s.fresh hs h.1 h.2.1 h.2.2 e)
  have hfab : s.fresh.boundary.fab = s.fresh.epochLive.fab :=
    State.boundary_keeps _ (z := .part .fab) (by simp [View.place])
  obtain ⟨hits, hets, hshadow⟩ := s.fresh.epochLive_fab
  rw [hb]
  generalize s.fresh.boundary = t at *
  refine ⟨fun a ha hsrc => ?_, fun a ha hsrc => ?_, fun a ha => ?_, fun p _ => hlreg _ p (by decide),
    fun m _ => hlreg _ m (by decide), hdrain, ?_, ?_, fun hload => ?_⟩
  · exact (hreg _ (.inl rfl) a).trans ((hmaps a ha).2.trans (if_pos hsrc))
  · exact (hreg _ (.inl rfl) a).trans ((hmaps a ha).2.trans (if_neg (by omega)))
  · exact (hreg _ (.inr rfl) a).trans ((hmaps a ha).1.trans (hreg _ (.inl rfl) a).symm)
  · exact (congrArg FabS.newIts hfab).trans hits
  · exact (congrArg FabS.newEts hfab).trans hets
  · exact (congrArg FabS.shadow hfab).trans (hshadow hload)

/-- Settles O6: the solve, the deadline, the boundary and the drain of a commit, each as the operation that takes the
step. -/
theorem commitLife : Obligations.CommitLife := by
  unfold Obligations.CommitLife
  refine ⟨solveComplete_arms, fun s hl hload hdue hst hres => deadline_loads s hl hload hdue hst hres,
    fun s hst hload hdue hon hmode hlode => ?_, fun s hst hload hdue hon hmode horg hlode => ?_,
    fun s hst hload hdue hrep hown => deadline_ends s hst hload hdue hrep hown,
    fun s hdue hs => boundary_takes s hdue hs, fun s h hr hon => drained_succeeds s h hr hon⟩
  · exact deadline_repairs s hst hload hdue hon
      (State.commitEnd_of_lodeDue (s := s.fresh) hlode.symm hmode hon _)
  · obtain ⟨t, ht, h1, h2, h3, h4, h5⟩ := deadline_repairs s hst hload hdue hon
      (State.commitEnd_of_lines s.fresh hlode horg hmode hon _)
    refine ⟨t, ht, h1, h2, h3, h4.trans (if_pos ?_), h5⟩
    simp [State.ownCommit, horg]

end Sys2Proof.Machine

/-! Section 3: grains, their elastic stores (R127 to R130) and pointer generators (Table 3-9, R131 to R136, R521). -/

namespace Sys2Proof.Machine

section
variable (s : State)

/-! ## Elements of the state -/

theorem State.rxG_of_see {s t : State} (h : t.see (.part .rx) = s.see (.part .rx)) (a : Nat) : t.rxG a = s.rxG a :=
  congrArg (fun m => SMap.get RxG.init m a) (show t.rx = s.rx from h)

theorem State.txG_of_see {s t : State} (h : t.see (.part .tx) = s.see (.part .tx)) (a : Nat) : t.txG a = s.txG a :=
  congrArg (fun m => SMap.get TxG.init m a) (show t.tx = s.tx from h)

/-! ## Writes and reads of the host -/

theorem grainSizeWrite_stored {w : Who} {e v : Nat} (ha : Allowed s w O.grainSize e v) (hl : s.locked = false)
    (hc : ∀ i < 8, 6144 ≤ s.reg O.groupLineCtx (8 * e + i)) :
    Runs (.grainSizeWrite w e v) s fun t =>
      Stored s t O.grainSize e v ∧ t.lreg O.grainSize e = s.lreg O.grainSize e := by
  have hop : grainSizeOp e v s.fresh = (s.fresh.setReg O.grainSize e v, 0) := by
    refine if_neg (Bool.not_eq_true _ ▸ List.any_eq_false.mpr fun i hi => ?_)
    have := hc i (List.mem_range.mp hi)
    exact decide_eq_false (Nat.not_lt.mpr this) ▸ Bool.false_ne_true
  have hpre : (if s.fresh.locked then 0x060D else 0) = 0 := if_neg (by rw [show s.fresh.locked = false from hl]; decide)
  refine runs_of_write_pre (pre := fun s => if s.locked then 0x060D else 0) (exec_grainSizeWrite s w e v) ha hpre hop ?_
  refine ⟨stored_of _ ha (by decide) (by decide) (State.reg_setReg_self s.fresh _ _ _) ?_, ?_⟩
  · exact (OnlyElems.refl _ s.fresh).setReg v (s.gate_elem ha.1) (by simp)
  · exact State.lreg_congr (State.record_live (s.fresh.setReg O.grainSize e v) _ _ _) _ _

theorem txForceAisWrite_stored {w : Who} {a v : Nat} (ha : Allowed s w O.grainTxForceAis a v) :
    Runs (.txForceAisWrite w a v) s fun t =>
      Stored s t O.grainTxForceAis a v ∧ t.lreg O.grainTxForceAis a = s.lreg O.grainTxForceAis a := by
  refine runs_of_write (exec_txForceAisWrite s w a v) ha rfl ⟨?_, ?_⟩
  · exact stored_of _ ha (by decide) (by decide) (State.reg_setReg_self s.fresh _ _ _)
      ((OnlyElems.refl _ s.fresh).setReg v (s.gate_elem ha.1) (by simp))
  · exact State.lreg_congr (State.record_live (s.fresh.setReg O.grainTxForceAis a v) _ _ _) _ _

/-- A change set is returned and cleared in one operation (R137, R192). -/
theorem changesRead_cleared {c : Instr} {w : Who} {idx p : Nat}
    (hc : exec c s = s.run fun s => s.readWith w idx p (readClear idx p 160)) (hr : Readable s w idx p) :
    Runs c s fun t => ReadCleared s t idx p 160 := by
  have hout (t : State) (d : List Byte) (q : List Instr) : ((((t.give d).answer 0).withQueue q).out.value = d ∧
      (((t.give d).answer 0).withQueue q).out.status = 0 ∧ (((t.give d).answer 0).withQueue q).regs = t.regs) :=
    ⟨rfl, rfl, rfl⟩
  obtain ⟨hval, hst, hregs⟩ := hout (readClear idx p 160 s.fresh).1 (readClear idx p 160 s.fresh).2 s.pending
  refine ⟨_, hc.trans (s.run_readWith hr), hval, ?_, hst, fun i f hf _ hne => ?_⟩
  · exact (State.reg_congr hregs _ _).trans (State.reg_setReg_self s.fresh _ _ _)
  · exact (State.reg_congr hregs _ _).trans (State.reg_setReg_ne s.fresh (s.readGate_elem hr.1) hf (by simpa using hne))

/-! ## The elastic store (R127 to R130) -/

/-- The read side starts (R128). -/
def RxG.started (g : RxG) : RxG := { g with reading := true, plan := 0, sinceDep := 4 }

theorem esReadStart_reads {a : Nat} (ha : a < 122880) (hr : (s.rxG a).reading = false)
    (hw : (s.rxG a).writing = true) (hf : 12 ≤ (s.rxG a).fill) :
    Runs (.esReadStart a) s fun t =>
      (t.rxG a).reading = true ∧ (t.rxG a).plan = 0 ∧ (t.rxG a).store = (s.rxG a).store ∧
      (∀ b, b ≠ a → t.rxG b = s.rxG b) ∧ OnlyElems [] s t := by
  refine runs_of_runIn (exec_esReadStart s a) ha ?_
  have hstart : s.fresh.esStart a = s.fresh.setRx a (s.rxG a).started :=
    if_pos (show (!(s.rxG a).reading && (s.rxG a).writing && decide (12 ≤ (s.rxG a).fill)) = true by simp [hr, hw, hf])
  have hself : ((s.fresh.setRx a (s.rxG a).started).withQueue s.pending).rxG a = (s.rxG a).started :=
    State.rxG_setRx_self s.fresh a _
  rw [hstart, hself]
  exact ⟨rfl, rfl, rfl, fun b hb => State.rxG_setRx_ne s.fresh _ hb, fun _ _ _ _ _ => rfl⟩

/-- The plan of a frame, from the store at its start (R127). -/
def RxG.planned (g : RxG) : RxG :=
  if !g.reading then { g with plan := 0 }
  else if g.sinceDep ≠ 0 then { g with plan := 0, sinceDep := g.sinceDep - 1 }
  else if 15 ≤ g.fill then { g with plan := 1, sinceDep := 3 }
  else if g.fill ≤ 9 then { g with plan := -1, sinceDep := 3 }
  else { g with plan := 0 }

theorem State.esPlan_eq (a : Nat) : s.esPlan a =
    (s.setReg O.grainEsFill a ((s.rxG a).fill * s.width a)).setRx a (s.rxG a).planned := by
  simp only [State.esPlan, RxG.planned]
  split_ifs <;> rfl

theorem RxG.planned_plan (g : RxG) : g.planned.plan = if g.reading = true ∧ g.sinceDep = 0 then
    (if 15 ≤ g.fill then 1 else if g.fill ≤ 9 then -1 else 0) else 0 := by
  unfold RxG.planned
  split_ifs <;> simp_all

theorem RxG.planned_departs (g : RxG) (h : g.planned.plan ≠ 0) : g.planned.sinceDep = 3 := by
  revert h
  unfold RxG.planned
  split_ifs <;> simp

theorem RxG.planned_spaced {g : RxG} (hr : g.reading = true) (hs : g.sinceDep ≠ 0) :
    g.planned.sinceDep = g.sinceDep - 1 := by
  simp [RxG.planned, hr, hs]

theorem RxG.planned_store (g : RxG) : g.planned.store = g.store := by
  unfold RxG.planned
  split_ifs <;> rfl

theorem State.esPlan_rxG (a : Nat) : (s.esPlan a).rxG a = (s.rxG a).planned := by
  rw [State.esPlan_eq, State.rxG_setRx_self]

theorem State.esPlan_fill (a : Nat) : (s.esPlan a).reg O.grainEsFill a = (s.rxG a).fill * s.width a := by
  rw [State.esPlan_eq]
  exact State.reg_setReg_self _ _ _ _

/-- The plan of grain `b` is nothing to grain `a`. -/
theorem State.esPlan_other {a b : Nat} (ha : a < 122880) (hb : b < 122880) (h : a ≠ b) :
    (s.esPlan b).rxG a = s.rxG a ∧ (s.esPlan b).reg O.grainEsFill a = s.reg O.grainEsFill a := by
  rw [State.esPlan_eq]
  exact ⟨State.rxG_setRx_ne _ _ h, State.reg_setReg_elem s (by omega) (by omega) h⟩

/-- The fills of a frame before its plans: none. -/
def State.fillsCleared : State := (s.entries O.grainEsFill).foldl (fun s x => s.setReg O.grainEsFill x.1 0) s

theorem State.fillsCleared_reg {a : Nat} (ha : a < 2 ^ 24) : s.fillsCleared.reg O.grainEsFill a = 0 := by
  have hzero : unlisted (regKey O.grainEsFill a) = 0 := by
    simp only [unlisted, regKey_obj]
    rfl
  have hmap : s.fillsCleared = ((s.entries O.grainEsFill).map fun x => (x.1, 0)).foldl
      (fun s x => s.setReg O.grainEsFill x.1 x.2) s := by
    rw [List.foldl_map]
    rfl
  rw [hmap, State.reg_foldl_setReg (f := fun _ => 0) ha fun x hx => ?_]
  · split_ifs with h
    · rfl
    · refine (State.reg_of_not_mem_entries ha fun hin => h ?_).trans hzero
      simpa using hin
  · obtain ⟨y, hy, rfl⟩ := List.mem_map.mp hx
    obtain ⟨z, -, rfl⟩ := List.mem_map.mp hy
    exact ⟨Nat.mod_lt _ (by decide), rfl⟩

theorem State.fillsCleared_same : s.fillsCleared.rx = s.rx ∧ s.fillsCleared.live = s.live := by
  constructor
  · exact foldl_same (fun t : State => t.rx) (fun (s : State) (x : Nat × Nat) => s.setReg O.grainEsFill x.1 0) _ s
      fun _ _ => rfl
  · exact foldl_same (fun t : State => t.live) (fun (s : State) (x : Nat × Nat) => s.setReg O.grainEsFill x.1 0) _ s
      fun _ _ => rfl

/-- The plan of one grain, unless it follows another. -/
def State.esPlanned (x : Nat × RxG) : State := if s.follower x.1 then s else s.esPlan x.1

theorem State.esFrame_eq : s.esFrame = s.rx.foldl State.esPlanned s.fillsCleared := by
  have h : s.esFrame = s.fillsCleared.rx.foldl State.esPlanned s.fillsCleared := rfl
  rw [h, s.fillsCleared_same.1]

/-- A turn for another grain leaves grain `a` its store, its fill and all sizes. -/
def SameGrain (a : Nat) (s t : State) : Prop :=
  t.rxG a = s.rxG a ∧ t.reg O.grainEsFill a = s.reg O.grainEsFill a ∧ t.live = s.live

theorem SameGrain.trans {a : Nat} {s t u : State} (h : SameGrain a s t) (h' : SameGrain a t u) : SameGrain a s u :=
  ⟨h'.1.trans h.1, h'.2.1.trans h.2.1, h'.2.2.trans h.2.2⟩

theorem State.esPlanned_other {a : Nat} {x : Nat × RxG} (ha : a < 122880) (hx : x.1 < 122880) (h : a ≠ x.1) :
    SameGrain a s (s.esPlanned x) := by
  unfold State.esPlanned
  split
  · exact ⟨rfl, rfl, rfl⟩
  · exact ⟨(s.esPlan_other ha hx h).1, (s.esPlan_other ha hx h).2, by rw [State.esPlan_eq]; rfl⟩

theorem State.esPlanned_others {a : Nat} (ha : a < 122880) {l : SMap RxG} (hl : ∀ x ∈ l, x.1 < 122880 ∧ a ≠ x.1)
    (s : State) : SameGrain a s (l.foldl State.esPlanned s) := by
  induction l generalizing s with
  | nil => exact ⟨rfl, rfl, rfl⟩
  | cons x l ih =>
    obtain ⟨hx, hne⟩ := hl x List.mem_cons_self
    exact (s.esPlanned_other ha hx hne).trans (ih (fun y hy => hl y (List.mem_cons_of_mem _ hy)) _)

theorem SMap.find?_none_iff {β : Type} {m : SMap β} {k : Nat} : SMap.find? m k = none ↔ ∀ x ∈ m, k ≠ x.1 := by
  induction m with
  | nil => simp [SMap.find?]
  | cons x m ih =>
    obtain ⟨i, v⟩ := x
    by_cases h : i = k
    · simp [SMap.find?, h]
    · simp [SMap.find?, h, ih, Ne.symm h]

theorem SameGrain.of_cleared {a : Nat} (ha : a < 122880) : s.fillsCleared.rxG a = s.rxG a ∧
    s.fillsCleared.reg O.grainEsFill a = 0 ∧ s.fillsCleared.live = s.live :=
  ⟨congrArg (fun m => SMap.get RxG.init m a) s.fillsCleared_same.1, s.fillsCleared_reg (by omega),
    s.fillsCleared_same.2⟩

/-- A grain whose store holds nothing of its own shows a fill of 0. -/
theorem State.esFrame_unlisted {a : Nat} (ha : a < 122880) (hrx : ∀ x ∈ s.rx, x.1 < 122880)
    (hnone : SMap.find? s.rx a = none) : s.esFrame.rxG a = s.rxG a ∧ s.esFrame.reg O.grainEsFill a = 0 := by
  obtain ⟨h1, h2, -⟩ := State.esPlanned_others ha (fun x hx => ⟨hrx x hx, SMap.find?_none_iff.mp hnone x hx⟩)
    s.fillsCleared
  obtain ⟨c1, c2, -⟩ := SameGrain.of_cleared s ha
  rw [State.esFrame_eq]
  exact ⟨h1.trans c1, h2.trans c2⟩

/-- A grain that its table lists once is planned once, by what its store held. -/
theorem State.esFrame_listed {a : Nat} {g : RxG} (ha : a < 122880) (hrx : ∀ x ∈ s.rx, x.1 < 122880)
    (hone : s.rx.filter (fun x => x.1 == a) = [(a, g)]) (hf : s.follower a = false) :
    s.esFrame.rxG a = (s.esPlan a).rxG a ∧ s.esFrame.reg O.grainEsFill a = (s.rxG a).fill * s.width a := by
  obtain ⟨l, r, hsplit, hl, hr⟩ : ∃ l r, s.rx = l ++ (a, g) :: r ∧ (∀ x ∈ l, a ≠ x.1) ∧ ∀ x ∈ r, a ≠ x.1 := by
    obtain ⟨l, r, hsplit, hl, -, hr⟩ := List.filter_eq_cons_iff.mp hone
    exact ⟨l, r, hsplit, fun x hx h => hl x hx (by simp [h]),
      fun x hx h => List.filter_eq_nil_iff.mp hr x hx (by simp [h])⟩
  have hmem (x : Nat × RxG) (hx : x ∈ l ∨ x ∈ r) : x.1 < 122880 := by
    refine hrx x ?_
    rw [hsplit, List.mem_append, List.mem_cons]
    tauto
  obtain ⟨c1, -, c3⟩ := SameGrain.of_cleared s ha
  obtain ⟨l1, -, l3⟩ := State.esPlanned_others ha (fun x hx => ⟨hmem x (.inl hx), hl x hx⟩) s.fillsCleared
  rw [State.esFrame_eq, hsplit, List.foldl_append, List.foldl_cons]
  generalize l.foldl State.esPlanned s.fillsCleared = t at l1 l3
  have hfol : t.follower a = false := by
    rw [← hf]
    simp only [State.follower, State.major, State.lreg, l3.trans c3]
  have hwidth : t.width a = s.width a := by
    rw [State.width, State.width, State.major, State.major, State.lreg_congr (l3.trans c3)]
  have hplan : t.esPlanned (a, g) = t.esPlan a := if_neg (by rw [hfol]; decide)
  obtain ⟨r1, r2, -⟩ := State.esPlanned_others ha (fun x hx => ⟨hmem x (.inr hx), hr x hx⟩) (t.esPlanned (a, g))
  rw [r1, r2, hplan, State.esPlan_rxG, State.esPlan_rxG, State.esPlan_fill, hwidth, l1, c1]
  exact ⟨rfl, rfl⟩

/-! ### Reading and writing -/

/-- The store after one unit has left it. -/
theorem State.esPop_unit {a : Nat} {u : SUnit} {us : List SUnit} (h : (s.rxG a).store = u :: us) (hu : u.tag ≠ .ais) :
    s.esPop a = (s.setRx a { s.rxG a with store := us }, u) := by
  simp [State.esPop, h, hu]

theorem State.esPop_ais {a : Nat} {u : SUnit} {us : List SUnit} (h : (s.rxG a).store = u :: us) (hu : u.tag = .ais) :
    s.esPop a = (s.setRx a { s.rxG a with store := us, reading := false }, .aisU) := by
  simp [State.esPop, h, hu]

theorem State.esPop_empty {a : Nat} (h : (s.rxG a).store = []) :
    s.esPop a = ((s.setRx a (s.rxG a).slip).slipped a, .aisU) := by
  simp [State.esPop, h]

theorem State.esRead_one {a n : Nat} (hr : (s.rxG a).reading = true) (hn : n ≠ 404 ∨ (s.rxG a).plan = 0) :
    s.esRead a n = ((s.esPop a).1, [(s.esPop a).2]) := by
  rcases hn with hn | hn <;> simp [State.esRead, hr, hn]

theorem State.esRead_two {a : Nat} (hr : (s.rxG a).reading = true) (hp : (s.rxG a).plan = 1)
    (hu : (s.esPop a).2.tag ≠ .ais) (hv : ((s.esPop a).1.esPop a).2.tag ≠ .ais) :
    s.esRead a 404 = (((s.esPop a).1.esPop a).1, [(s.esPop a).2, ((s.esPop a).1.esPop a).2]) := by
  simp [State.esRead, hr, hp, hu, hv]

theorem State.slipped_slips {a : Nat} {g : RxG} : ((s.setRx a g).slipped a).rxG a = g ∧
    ((s.setRx a g).slipped a).reg O.grainEsSlip a = (s.reg O.grainEsSlip a + 1) % 2 ^ 32 := by
  refine ⟨?_, ?_⟩
  · rw [State.rxG_of_see (State.slipped_see _ _ (by simp)), State.rxG_setRx_self]
  · have hreg (t : State) (l : List Nat) : ({ t with crierSlip := l } : State).reg O.grainEsSlip a =
        t.reg O.grainEsSlip a := rfl
    simp only [State.slipped, State.grainChanged]
    rw [hreg, State.raise_reg _ (by decide), State.setOct, State.reg_setReg_obj _ (by decide), State.reg_bump_self]
    rfl

/-- A slip of a store that its read side finds empty (R129). -/
theorem State.esRead_slips {a n : Nat} (hr : (s.rxG a).reading = true) (hst : (s.rxG a).store = [])
    (hn : n ≠ 404 ∨ (s.rxG a).plan = 0) :
    (s.esRead a n).2 = [.aisU] ∧ ((s.esRead a n).1.rxG a).reading = false ∧
      ((s.esRead a n).1.rxG a).writing = false ∧ ((s.esRead a n).1.rxG a).broken = true ∧
      (s.esRead a n).1.reg O.grainEsSlip a = (s.reg O.grainEsSlip a + 1) % 2 ^ 32 := by
  obtain ⟨hg, hreg⟩ := s.slipped_slips (a := a) (g := (s.rxG a).slip)
  rw [s.esRead_one hr hn, s.esPop_empty hst, hg]
  exact ⟨rfl, rfl, rfl, rfl, hreg⟩

/-- What entering the tracker leaves of a grain whose unit is a word. -/
theorem RxG.track_word (g : RxG) {u : SUnit} (hu : u.tag = .word) :
    (g.track u).g.writing = g.writing ∧ (g.track u).g.store = g.store ∧ (g.track u).u.tag = .word ∧
      (g.track u).u.ws = u.ws := by
  unfold RxG.track
  rw [hu]
  dsimp only
  split_ifs
  exacts [⟨rfl, rfl, hu, rfl⟩, ⟨rfl, rfl, rfl, rfl⟩, ⟨rfl, rfl, hu, rfl⟩]

/-- The tracker's figures of a unit. -/
def State.tracked (a : Nat) (t : TrackR) : State :=
  let s := match t.tsn with
    | some (tsn, b) => (s.setReg O.grainRxTsn a tsn).setReg O.grainRxTpob a (b % 65536)
    | none => s
  let s := if t.jump then s.bump O.grainTsnJump a 32 else s
  if t.bad then s.bump O.grainCrcErr a 32 else s

theorem State.esWrite_word {a : Nat} {u : SUnit} (hu : u.tag = .word) (hw : (s.rxG a).writing = true) :
    s.esWrite a u = if 24 ≤ (s.rxG a).fill then ((s.tracked a ((s.rxG a).track u)).setRx a
        ((s.rxG a).track u).g.slip).slipped a
      else (s.tracked a ((s.rxG a).track u)).setRx a
        { ((s.rxG a).track u).g with store := (s.rxG a).store ++ [((s.rxG a).track u).u] } := by
  obtain ⟨hwr, hst, -, -⟩ := (s.rxG a).track_word hu
  have hfill : ((s.rxG a).track u).g.fill = (s.rxG a).fill := by rw [RxG.fill, RxG.fill, hst]
  have hwrite : s.esWrite a u = if !((s.rxG a).track u).g.writing then (s.tracked a ((s.rxG a).track u)).setRx a
        ((s.rxG a).track u).g
      else if 24 ≤ ((s.rxG a).track u).g.fill then ((s.tracked a ((s.rxG a).track u)).setRx a
        ((s.rxG a).track u).g.slip).slipped a
      else (s.tracked a ((s.rxG a).track u)).setRx a
        { ((s.rxG a).track u).g with store := ((s.rxG a).track u).g.store ++ [((s.rxG a).track u).u] } := by
    simp only [State.esWrite, hu, State.tracked] <;> rfl
  rw [hwrite, if_neg (by rw [hwr, hw]; decide), hfill, hst]

theorem State.tracked_slips (a : Nat) (t : TrackR) : (s.tracked a t).reg O.grainEsSlip a = s.reg O.grainEsSlip a := by
  have hne {i : Nat} (u : State) (v : Nat) (h : O.grainEsSlip ≠ i) : (u.setReg i a v).reg O.grainEsSlip a =
      u.reg O.grainEsSlip a := u.reg_setReg_obj h
  simp only [State.tracked, State.bump]
  rcases t.tsn with - | ⟨tsn, b⟩ <;> cases t.jump <;> cases t.bad <;>
    simp [hne, O.grainEsSlip, O.grainCrcErr, O.grainTsnJump, O.grainRxTsn, O.grainRxTpob]

/-- A word that is written into a store joins it, or makes a full one slip (R129). -/
theorem State.esWrite_joins {a : Nat} {u : SUnit} (hu : u.tag = .word) (hw : (s.rxG a).writing = true) :
    ((s.rxG a).fill < 24 → ∃ v, v.tag = .word ∧ v.ws = u.ws ∧
      ((s.esWrite a u).rxG a).store = (s.rxG a).store ++ [v]) ∧
    (24 ≤ (s.rxG a).fill → ((s.esWrite a u).rxG a).store = [] ∧ ((s.esWrite a u).rxG a).reading = false ∧
      (s.esWrite a u).reg O.grainEsSlip a = (s.reg O.grainEsSlip a + 1) % 2 ^ 32) := by
  obtain ⟨-, -, htag, hws⟩ := (s.rxG a).track_word hu
  rw [s.esWrite_word hu hw]
  refine ⟨fun h => ⟨_, htag, hws, ?_⟩, fun h => ?_⟩
  · rw [if_neg (by omega), State.rxG_setRx_self]
  · obtain ⟨hg, hreg⟩ := (s.tracked a ((s.rxG a).track u)).slipped_slips (a := a) (g := ((s.rxG a).track u).g.slip)
    rw [if_pos h, hg, hreg, State.tracked_slips]
    exact ⟨rfl, rfl, rfl⟩

/-! ## The pointer generator -/

/-- The NEW of a displaced TPO-A (R521). -/
theorem displacedTpoaNew_sends {a : Nat} (ha : a < 122880) (hm : (s.txG a).mayNew = true)
    (hd : (s.txG a).displaced = true) :
    Runs (.displacedTpoaNew a) s fun t =>
      t.reg O.grainTxPtr a = (s.txG a).landing s.clk.round (s.txN0 a) ∧
      (t.txG a).ptr = 0x8000 + t.reg O.grainTxPtr a ∧ (t.txG a).displaced = false ∧
      OnlyElems [(O.grainTxPtr, a)] s t := by
  refine runs_of_runIn (exec_displacedTpoaNew s a) ha ?_
  have hnew : s.fresh.newDisplaced a s.fresh.clk.round (s.fresh.txN0 a) =
      ((s.fresh.setReg O.grainTxPtr a ((s.txG a).landing s.clk.round (s.txN0 a))).setTx a
        ((s.txG a).sendNew ((s.txG a).landing s.clk.round (s.txN0 a)))).ptrOut a :=
    if_pos (show ((s.txG a).mayNew && (s.txG a).displaced) = true by rw [hm, hd]; rfl)
  rw [hnew]
  generalize (s.txG a).landing s.clk.round (s.txN0 a) = c
  have hself : ((s.fresh.setReg O.grainTxPtr a c).setTx a ((s.txG a).sendNew c)).txG a = (s.txG a).sendNew c :=
    State.txG_setTx_self _ _ _
  have hreg : ((s.fresh.setReg O.grainTxPtr a c).setTx a ((s.txG a).sendNew c)).regs =
    (s.fresh.setReg O.grainTxPtr a c).regs := rfl
  generalize (s.fresh.setReg O.grainTxPtr a c).setTx a ((s.txG a).sendNew c) = t at hself hreg
  have hptr (i e : Nat) : ((t.ptrOut a).withQueue s.pending).reg i e = (s.fresh.setReg O.grainTxPtr a c).reg i e := by
    rw [State.reg_withQueue_all, reg_see, State.ptrOut_see _ _ (by simp [View.place]), ← reg_see,
      State.reg_congr hreg]
  have htx : ((t.ptrOut a).withQueue s.pending).txG a = (s.txG a).sendNew c :=
    (State.txG_of_see (State.ptrOut_see t a (by simp)) a).trans hself
  refine ⟨(hptr _ _).trans (State.reg_setReg_self _ _ _ _), ?_, ?_, fun i e he hev hne => ?_⟩
  · rw [htx, hptr, State.reg_setReg_self]
    rfl
  · rw [htx]
    rfl
  · rw [hptr]
    exact ((OnlyElems.refl _ s.fresh).setReg c (by omega) (by simp)) i e he hev hne

/-- What a slot changes of a generator before its pointer is fixed. -/
def TxG.slotted (x : TxG) : TxG := { x with since := x.since - 1, mayNew := false, bnd := 0, just := 0 }

/-- A slot leaves state `st` and sends pointer `ptr`. -/
def State.slotOut (a st ptr : Nat) (x : TxG) : State := (s.setReg O.grainTxState a st).setTx a { x with ptr := ptr }

theorem State.slotOut_told (a st ptr : Nat) (x : TxG) : (s.slotOut a st ptr x).reg O.grainTxState a = st ∧
    (s.slotOut a st ptr x).txG a = { x with ptr := ptr } ∧
      (s.slotOut a st ptr x).reg O.grainTxPtr a = s.reg O.grainTxPtr a :=
  ⟨State.reg_setReg_self _ _ _ _, State.txG_setTx_self _ _ _, State.reg_setReg_obj s (by decide)⟩

section
variable {s} {a n n0 bnd : Nat} {src : Bool}

theorem State.genSlot_forced : s.genSlot a n n0 true bnd src = s.slotOut a 1 0xFFFF { (s.txG a).slotted.level with
    onesIn := none, newDue := false, lift := false, displaced := false, aisMark := false } := rfl

theorem State.genSlot_given (hb : bnd = 1 ∨ bnd = 2) :
    s.genSlot a n n0 false bnd src = s.slotOut a 1 0xFFFF (s.txG a).slotted.level := by
  rcases hb with rfl | rfl <;> rfl

theorem State.genSlot_removed : s.genSlot a n n0 false 3 src = s.slotOut a 0 0 (s.txG a).slotted := rfl

theorem State.genSlot_sourceless : s.genSlot a n n0 false 0 false = s.slotOut a 0 0 (s.txG a).slotted.cleared := rfl

/-- A justification is counted (R131). -/
def State.justCounted (a : Nat) : State := (s.bump O.grainTxJust a 32).tally (96 + 7 * (a / 1280) + 6) 1

/-- The slot of a grain that a source feeds, with no force and no boundary. -/
theorem State.genSlot_fed : s.genSlot a n n0 false 0 true =
    if s.reg O.grainTxState a = 0 then s.slotOut a 1 0xFFFF (s.txG a).slotted
    else if s.reg O.grainTxState a = 1 || (s.txG a).aisMark then
      if (s.txG a).placed && !decide ((s.txG a).since ≠ 0) && (s.reg O.grainTxState a = 1) then
        ((s.setReg O.grainTxPtr a ((s.txG a).landing n n0)).setReg O.grainTxState a 2).setTx a
          ((s.txG a).slotted.sendNew ((s.txG a).landing n n0))
      else s.slotOut a 1 0xFFFF { (if (s.txG a).aisMark then (s.txG a).slotted.level else (s.txG a).slotted) with
        aisMark := false, displaced := false }
    else if (s.txG a).displaced then
      s.slotOut a 2 0xFFFF { (s.txG a).slotted.level with mayNew := !decide ((s.txG a).since ≠ 0) }
    else if (s.txG a).pend = 0 || decide ((s.txG a).since ≠ 0) then
      s.slotOut a 2 (fNorm (s.reg O.grainTxPtr a)) (s.txG a).slotted
    else if 0 < (s.txG a).pend then
      (s.justCounted a |>.setReg O.grainTxPtr a ((s.reg O.grainTxPtr a + 404) % 405)).setTx a { (s.txG a).slotted with
        ptr := fDec (s.reg O.grainTxPtr a), since := 3, just := -1, pend := (s.txG a).pend - 1 }
    else
      (s.justCounted a |>.setReg O.grainTxPtr a ((s.reg O.grainTxPtr a + 1) % 405)).setTx a { (s.txG a).slotted with
        ptr := fInc (s.reg O.grainTxPtr a), since := 3, just := 1, pend := (s.txG a).pend + 1 } := rfl

theorem State.genSlot_places {c : Nat} (hst : s.reg O.grainTxState a = 1) (hp : (s.txG a).placed = true)
    (hs : (s.txG a).since = 0) (hc : (s.txG a).landing n n0 = c) :
    (s.genSlot a n n0 false 0 true).reg O.grainTxState a = 2 ∧ (s.genSlot a n n0 false 0 true).reg O.grainTxPtr a = c ∧
      ((s.genSlot a n n0 false 0 true).txG a).ptr = fNew c ∧ ((s.genSlot a n n0 false 0 true).txG a).since = 3 := by
  have hnew (t : State) (x : TxG) :
      (((t.setReg O.grainTxPtr a c).setReg O.grainTxState a 2).setTx a x).reg O.grainTxState a = 2 ∧
      (((t.setReg O.grainTxPtr a c).setReg O.grainTxState a 2).setTx a x).reg O.grainTxPtr a = c ∧
      (((t.setReg O.grainTxPtr a c).setReg O.grainTxState a 2).setTx a x).txG a = x :=
    ⟨State.reg_setReg_self _ _ _ _, (State.reg_setReg_obj _ (by decide)).trans (State.reg_setReg_self t _ _ _),
      State.txG_setTx_self _ _ _⟩
  rw [State.genSlot_fed, if_neg (by rw [hst]; decide), if_pos (by simp [hst]), if_pos (by simp [hst, hp, hs]), hc,
    (hnew _ _).1, (hnew _ _).2.1, (hnew _ _).2.2]
  exact ⟨rfl, rfl, rfl, rfl⟩

theorem State.genSlot_unplaced (hst : s.reg O.grainTxState a = 1) (hp : (s.txG a).placed = false) :
    (s.genSlot a n n0 false 0 true).reg O.grainTxState a = 1 ∧
      ((s.genSlot a n n0 false 0 true).txG a).ptr = 0xFFFF := by
  rw [State.genSlot_fed, if_neg (by rw [hst]; decide), if_pos (by simp [hst]), if_neg (by simp [hp]),
    (s.slotOut_told _ _ _ _).1, (s.slotOut_told _ _ _ _).2.1]
  exact ⟨rfl, rfl⟩

theorem State.genSlot_marked (hst : s.reg O.grainTxState a = 2) (hm : (s.txG a).aisMark = true) :
    (s.genSlot a n n0 false 0 true).reg O.grainTxState a = 1 ∧
      ((s.genSlot a n n0 false 0 true).txG a).ptr = 0xFFFF ∧ ((s.genSlot a n n0 false 0 true).txG a).pend = 0 := by
  rw [State.genSlot_fed, if_neg (by rw [hst]; decide), if_pos (by simp [hm]), if_neg (by simp [hst]), if_pos hm,
    (s.slotOut_told _ _ _ _).1, (s.slotOut_told _ _ _ _).2.1]
  exact ⟨rfl, rfl, rfl⟩

/-- A carried grain whose pointer stands takes neither AIS nor a new position. -/
theorem State.genSlot_carries (hst : s.reg O.grainTxState a = 2) (hm : (s.txG a).aisMark = false)
    (hd : (s.txG a).displaced = false) : s.genSlot a n n0 false 0 true =
    if (s.txG a).pend = 0 || decide ((s.txG a).since ≠ 0) then
      s.slotOut a 2 (fNorm (s.reg O.grainTxPtr a)) (s.txG a).slotted
    else if 0 < (s.txG a).pend then
      (s.justCounted a |>.setReg O.grainTxPtr a ((s.reg O.grainTxPtr a + 404) % 405)).setTx a { (s.txG a).slotted with
        ptr := fDec (s.reg O.grainTxPtr a), since := 3, just := -1, pend := (s.txG a).pend - 1 }
    else
      (s.justCounted a |>.setReg O.grainTxPtr a ((s.reg O.grainTxPtr a + 1) % 405)).setTx a { (s.txG a).slotted with
        ptr := fInc (s.reg O.grainTxPtr a), since := 3, just := 1, pend := (s.txG a).pend + 1 } := by
  rw [State.genSlot_fed, if_neg (by rw [hst]; decide), if_neg (by simp [hst, hm]), if_neg (by simp [hd])]

theorem State.genSlot_normal (hst : s.reg O.grainTxState a = 2) (hm : (s.txG a).aisMark = false)
    (hd : (s.txG a).displaced = false) (hp : (s.txG a).pend = 0 ∨ (s.txG a).since ≠ 0) :
    (s.genSlot a n n0 false 0 true).reg O.grainTxState a = 2 ∧
      (s.genSlot a n n0 false 0 true).reg O.grainTxPtr a = s.reg O.grainTxPtr a ∧
      ((s.genSlot a n n0 false 0 true).txG a).ptr = fNorm (s.reg O.grainTxPtr a) ∧
      ((s.genSlot a n n0 false 0 true).txG a).pend = (s.txG a).pend := by
  rw [State.genSlot_carries hst hm hd, if_pos (by simpa using hp), (s.slotOut_told _ _ _ _).1,
    (s.slotOut_told _ _ _ _).2.1, (s.slotOut_told _ _ _ _).2.2]
  exact ⟨rfl, rfl, rfl, rfl⟩

theorem State.justCounted_told (v : Nat) (x : TxG) :
    (((s.justCounted a).setReg O.grainTxPtr a v).setTx a x).reg O.grainTxJust a = (s.reg O.grainTxJust a + 1) % 2 ^ 32 ∧
    (((s.justCounted a).setReg O.grainTxPtr a v).setTx a x).reg O.grainTxPtr a = v ∧
    (((s.justCounted a).setReg O.grainTxPtr a v).setTx a x).txG a = x := by
  refine ⟨(State.reg_setReg_obj _ (by decide)).trans ?_, State.reg_setReg_self _ _ _ _, State.txG_setTx_self _ _ _⟩
  rw [State.justCounted, reg_see, State.tally_see _ _ _ (by simp [View.place]), ← reg_see, State.reg_bump_self]

theorem State.genSlot_adjusts (hst : s.reg O.grainTxState a = 2) (hm : (s.txG a).aisMark = false)
    (hd : (s.txG a).displaced = false) (hp : (s.txG a).pend ≠ 0) (hs : (s.txG a).since = 0) :
    (s.genSlot a n n0 false 0 true).reg O.grainTxJust a = (s.reg O.grainTxJust a + 1) % 2 ^ 32 ∧
    ((s.genSlot a n n0 false 0 true).txG a).since = 3 ∧
    (0 < (s.txG a).pend → ((s.genSlot a n n0 false 0 true).txG a).ptr = fDec (s.reg O.grainTxPtr a) ∧
      (s.genSlot a n n0 false 0 true).reg O.grainTxPtr a = (s.reg O.grainTxPtr a + 404) % 405 ∧
      ((s.genSlot a n n0 false 0 true).txG a).pend = (s.txG a).pend - 1) ∧
    ((s.txG a).pend < 0 → ((s.genSlot a n n0 false 0 true).txG a).ptr = fInc (s.reg O.grainTxPtr a) ∧
      (s.genSlot a n n0 false 0 true).reg O.grainTxPtr a = (s.reg O.grainTxPtr a + 1) % 405 ∧
      ((s.genSlot a n n0 false 0 true).txG a).pend = (s.txG a).pend + 1) := by
  rw [State.genSlot_carries hst hm hd, if_neg (by simp [hp, hs])]
  by_cases hpos : 0 < (s.txG a).pend
  · rw [if_pos hpos, (State.justCounted_told _ _).1, (State.justCounted_told _ _).2.1, (State.justCounted_told _ _).2.2]
    exact ⟨rfl, rfl, fun _ => ⟨rfl, rfl, rfl⟩, fun h => absurd hpos (by omega)⟩
  · rw [if_neg hpos, (State.justCounted_told _ _).1, (State.justCounted_told _ _).2.1, (State.justCounted_told _ _).2.2]
    exact ⟨rfl, rfl, fun h => absurd h hpos, fun _ => ⟨rfl, rfl, rfl⟩⟩

end

end

/-- Settles O4: the writes store, the reads clear, and each step of an elastic store and of a pointer generator is the
branch of its operation that its premises name. -/
theorem grainCommands : Obligations.GrainCommands := by
  unfold Obligations.GrainCommands
  refine ⟨fun s _ _ _ => grainSizeWrite_stored s, fun s _ _ _ => txForceAisWrite_stored s,
    fun s w p => changesRead_cleared s (exec_grainChangedRead s w p),
    fun s w p => changesRead_cleared s (exec_lineChangedRead s w p), fun s a => esReadStart_reads s,
    fun s a => displacedTpoaNew_sends s, fun s a ha => ?_, fun s a => s.esFrame_unlisted, fun s a g => s.esFrame_listed,
    fun s a n hr => ?_, fun s a n u us hr hst hu hn => ?_, fun s a hr hp => ?_, fun s a u v us hr hp hst hu hv => ?_,
    fun s a n hr hst hn => s.esRead_slips hr hst hn, fun s a n u us hr hst hu hn => ?_,
    fun s a u hu hw => s.esWrite_joins hu hw, fun s a n n0 bnd src => ?_, fun s a n n0 bnd src hb => ?_,
    fun s a n n0 src => ?_, fun s a n n0 => ?_, fun s a n n0 c => State.genSlot_places,
    fun s a n n0 => State.genSlot_unplaced, fun s a n n0 => State.genSlot_marked, fun s a n n0 => State.genSlot_normal,
    fun s a n n0 => State.genSlot_adjusts⟩
  · rw [s.esPlan_rxG]
    refine ⟨(s.rxG a).planned_plan, (s.rxG a).planned_departs, fun hr hs => RxG.planned_spaced hr hs, s.esPlan_fill a,
      (s.rxG a).planned_store, ?_⟩
    rw [s.esPlan_eq]
    exact ((OnlyElems.refl _ s).setReg _ (by omega) (by simp)).of_regs rfl
  · simp [State.esRead, hr]
  · rw [s.esRead_one hr hn, s.esPop_unit hst hu, State.rxG_setRx_self]
    exact ⟨rfl, rfl, hr, fun _ _ _ _ _ => rfl⟩
  · simp [State.esRead, hr, hp]
  · have h1 := s.esPop_unit hst hu
    have h2 : (s.esPop a).1.esPop a = ((s.esPop a).1.setRx a { (s.esPop a).1.rxG a with store := us }, v) :=
      State.esPop_unit _ (by rw [h1, State.rxG_setRx_self]) hv
    rw [s.esRead_two hr hp (by rw [h1]; exact hu) (by rw [h2]; exact hv), h2, State.rxG_setRx_self, h1]
    exact ⟨rfl, rfl, fun _ _ _ _ _ => rfl⟩
  · rw [s.esRead_one hr hn, s.esPop_ais hst hu, State.rxG_setRx_self]
    exact ⟨rfl, rfl, rfl, fun _ _ _ _ _ => rfl⟩
  · rw [State.genSlot_forced, (s.slotOut_told _ _ _ _).1, (s.slotOut_told _ _ _ _).2.1]
    exact ⟨rfl, rfl⟩
  · rw [State.genSlot_given hb, (s.slotOut_told _ _ _ _).1, (s.slotOut_told _ _ _ _).2.1]
    exact ⟨rfl, rfl, rfl⟩
  · rw [State.genSlot_removed, (s.slotOut_told _ _ _ _).1, (s.slotOut_told _ _ _ _).2.1]
    exact ⟨rfl, rfl⟩
  · rw [State.genSlot_sourceless, (s.slotOut_told _ _ _ _).1, (s.slotOut_told _ _ _ _).2.1]
    exact ⟨rfl, rfl⟩

end Sys2Proof.Machine

/-! Section 5: a line whose reservation names a context beyond those of the dictionary, when its scrub completes
(R211). -/

namespace Sys2Proof.Machine

/-- A reservation of context 2^24, which the registers do not tell from context 0. -/
def strayResv : Resv :=
  { ctx := 2 ^ 24, kind := 0, medium := 0, words := 0, index := 0, units := 0, place := [], iplace := [] }

/-- Context 0 in FREEING, and the scrub of a removed line of context 2^24. -/
def strayFreed : State :=
  { State.reset.setReg O.groupMode 0 3 with grp := { State.reset.grp with freeing := [(0, strayResv)] } }

theorem State.reg_alias (s : State) (i : Nat) : s.reg i (2 ^ 24) = s.reg i 0 := by
  rw [State.reg, State.reg]
  rfl

theorem strayFreed_mode : strayFreed.reg O.groupMode 0 = 3 :=
  (State.reg_setReg_self State.reset O.groupMode 0 3 : (State.reset.setReg O.groupMode 0 3).reg O.groupMode 0 = 3)

/-- Refutes O7: the end of the scrub of a line of context 2^24 leaves FREEING for context 0, an element that the clause
says stands. -/
theorem not_groupCommands : ¬ Obligations.GroupCommands := by
  unfold Obligations.GroupCommands
  rintro ⟨-, -, -, -, -, -, -, -, -, -, hfreed, -⟩
  obtain ⟨t, -, hmode, -, -, -, honly⟩ := hfreed strayFreed 0 0 strayResv (by decide) rfl
    ((strayFreed.reg_alias O.groupMode).trans strayFreed_mode) (by simp [strayFreed])
  have hstands : t.reg O.groupMode 0 = 3 := (honly O.groupMode 0 (by decide) (by decide) (by decide)).trans strayFreed_mode
  have hfree : t.reg O.groupMode 0 = 0 := (t.reg_alias O.groupMode).symm.trans hmode
  exact absurd (hstands.symm.trans hfree) (by decide)

end Sys2Proof.Machine

/-! Cuts, and what the Ledger sends to the spare: generations and journal (O11). -/

namespace Sys2Proof.Machine

/-! ### Requests to the spare that wait -/

/-- The pieces of `n` bytes that a value is cut into hold it in order. -/
theorem flatMap_slice {α : Type} {n : Nat} {f : Nat → α} {g : α → List Byte} {v : List Byte}
    (hfg : ∀ i, g (f i) = slice v (n * i) n) (k : Nat) : ((List.range k).map f).flatMap g = v.take (n * k) := by
  induction k with
  | zero => simp
  | succ k ih =>
    rw [List.range_succ, List.map_append, List.flatMap_append, ih, Nat.mul_succ, List.take_add]
    simp [hfg, slice]

theorem spareWrite_value (idx sub : Nat) (bulk : Bool) (x : Nat) (v : List Byte) :
    (spareWrite idx sub bulk x v).flatMap Hdp.value = v := by
  rw [spareWrite]
  split_ifs
  · exact (flatMap_slice (n := 1024) (v := v) (by intro; rfl) _).trans (List.take_of_length_le (by omega))
  · simp

theorem spareWrite_index {idx sub : Nat} {bulk : Bool} {x : Nat} {v : List Byte} {h : Hdp}
    (hh : h ∈ spareWrite idx sub bulk x v) : h.index = idx := by
  rw [spareWrite] at hh
  split_ifs at hh
  · obtain ⟨i, -, rfl⟩ := List.mem_map.mp hh
    rfl
  · rw [List.mem_singleton.mp hh]

theorem segments_flatten (g : List Byte) : (segments g).flatMap (fun x => x) = g := by
  exact (flatMap_slice (n := 65536) (v := g) (by intro; rfl) _).trans (List.take_of_length_le (by omega))

/-- More requests wait. -/
def State.queued (s : State) (q : List Hdp) (x : Nat) : State :=
  { s with led := { s.led with xq := s.led.xq ++ q, xfer := x } }

/-- More requests wait, which carry the bytes `v` to the objects `ids`. -/
def Queues (ids : List Nat) (s t : State) (v : List Byte) : Prop :=
  ∃ q x, t = s.queued q x ∧ (∀ h ∈ q, h.index ∈ ids) ∧ q.flatMap Hdp.value = v

theorem Queues.refl (ids : List Nat) (s : State) : Queues ids s s [] :=
  ⟨[], s.led.xfer, by simp [State.queued], by simp, rfl⟩

theorem Queues.trans {ids : List Nat} {s t u : State} {v w : List Byte} (h1 : Queues ids s t v)
    (h2 : Queues ids t u w) : Queues ids s u (v ++ w) := by
  obtain ⟨q, x, rfl, hq, rfl⟩ := h1
  obtain ⟨r, y, rfl, hr, rfl⟩ := h2
  refine ⟨q ++ r, y, by simp [State.queued, List.append_assoc], fun h hh => ?_, by simp⟩
  exact (List.mem_append.mp hh).elim (hq h) (hr h)

theorem State.spareQueue_queues (s : State) {ids : List Nat} {idx : Nat} (hidx : idx ∈ ids) (sub : Nat) (bulk : Bool)
    (v : List Byte) : Queues ids s (s.spareQueue idx sub bulk v) v :=
  ⟨_, _, rfl, fun _ hh => (spareWrite_index hh).symm ▸ hidx, spareWrite_value ..⟩

theorem foldl_queues {β : Type} {ids : List Nat} {f : State → β → State} {g : β → List Byte}
    (hf : ∀ s b, Queues ids s (f s b) (g b)) (l : List β) (s : State) :
    Queues ids s (l.foldl f s) (l.flatMap g) := by
  induction l generalizing s with
  | nil => exact Queues.refl ids s
  | cons b l ih => exact (hf s b).trans (ih (f s b))

/-- The same, where the turns of the loop are numbered. -/
theorem foldl_queues_numbered {β : Type} {ids : List Nat} {f : State → Nat → β → State} {g : β → List Byte}
    (hf : ∀ s n b, Queues ids s (f s n b) (g b)) (l : List β) (s : State) (n : Nat) :
    Queues ids s (l.foldl (fun (r : State × Nat) b => (f r.1 r.2 b, r.2 + 1)) (s, n)).1 (l.flatMap g) := by
  induction l generalizing s n with
  | nil => exact Queues.refl ids s
  | cons b l ih => exact (hf s n b).trans (ih (f s n b) (n + 1))

/-! ### Requests that leave -/

/-- The next request leaves, where one may. -/
def State.flushStep (s : State) : State :=
  match s.led.xq with
  | h :: l => if s.spareOpen then { s with led := { s.led with xq := l } }.spareSend h else s
  | [] => s

theorem State.flushStep_idle {s : State} (h : s.led.xq = []) : s.flushStep = s := by
  rw [State.flushStep]
  split <;> simp_all

theorem State.flushStep_closed {s : State} (h : s.spareOpen = false) : s.flushStep = s := by
  rw [State.flushStep]
  split <;> simp [h]

theorem State.spareFlush_closed {s : State} (h : s.spareOpen = false) : s.spareFlush = s :=
  foldRange_keeps (· = s) 16 _ s rfl fun t _ ht => by rw [ht]; exact State.flushStep_closed h

/-- The one request that waits leaves, and no other. -/
theorem State.spareFlush_last {s : State} (hstep : s.flushStep.led.xq = []) : s.spareFlush = s.flushStep := by
  refine (foldRange_induction (fun i (t : State) => (i = 0 → t = s) ∧ (i ≠ 0 → t = s.flushStep))
    (n := 16) (f := fun s _ => s.flushStep) ⟨fun _ => rfl, fun h => absurd rfl h⟩ fun i b _ hb => ?_).2 (by decide)
  refine ⟨fun h => absurd h (by omega), fun _ => ?_⟩
  rcases Nat.eq_zero_or_pos i with h0 | h0
  · rw [hb.1 h0]
  · rw [hb.2 (by omega)]
    exact State.flushStep_idle hstep

/-- What the Ledger keeps while requests leave. -/
def LedS.lasting (l : LedS) : Bool × List Byte × Nat × Bool := (l.cutting, l.sealedImg, l.sentSeq, l.cutJournal)

theorem State.sendPort_led (s : State) (k n : Nat) (m : Sent) : (s.sendPort k n m).led = s.led := by
  simp only [State.sendPort]
  split_ifs <;> rfl

theorem State.spareSend_lasting (s : State) (h : Hdp) : (s.spareSend h).led.lasting = s.led.lasting := by
  simp only [State.spareSend]
  split_ifs <;> simp only [State.setReg_led, State.sendPort_led] <;> rfl

theorem State.flushStep_lasting (s : State) : s.flushStep.led.lasting = s.led.lasting := by
  rw [State.flushStep]
  split
  · split_ifs
    · exact State.spareSend_lasting _ _
    · rfl
  · rfl

theorem State.spareFlush_lasting (s : State) : s.spareFlush.led.lasting = s.led.lasting :=
  foldRange_same (fun t : State => t.led.lasting) 16 (fun s _ => s.flushStep) s fun a _ => a.flushStep_lasting

/-- The states that an exporter may come to while its requests leave: the SEAL goes out (R249). -/
def SealOut (s t : State) : Prop :=
  t.reg O.ledgerExportState = s.reg O.ledgerExportState ∨
    (s.reg O.ledgerExportState = 2 ∧ t.reg O.ledgerExportState = 3)

theorem State.sendPort_reg (s : State) (k n : Nat) (m : Sent) (i e : Nat) :
    (s.sendPort k n m).reg i e = s.reg i e := by
  rw [reg_see, State.sendPort_see _ _ _ _ (by simp [View.place]), ← reg_see]

theorem State.spareSend_sealOut (s : State) (h : Hdp) : SealOut s (s.spareSend h) := by
  have hled (t : State) (l : LedS) (i e : Nat) : ({ t with led := l } : State).reg i e = t.reg i e := rfl
  simp only [State.spareSend, SealOut]
  split_ifs with h1 h2
  · exact .inl (by rw [hled, State.sendPort_reg, hled])
  · obtain ⟨-, h2⟩ := Bool.and_eq_true .. ▸ h2
    rw [decide_eq_true_eq, State.sendPort_reg, hled] at h2
    exact .inr ⟨h2, State.reg_setReg_self ..⟩
  · exact .inl (by rw [State.sendPort_reg, hled])

theorem State.flushStep_sealOut (s : State) : SealOut s s.flushStep := by
  rw [State.flushStep]
  split
  · split_ifs
    · exact State.spareSend_sealOut _ _
    · exact .inl rfl
  · exact .inl rfl

theorem State.spareFlush_sealOut (s : State) : SealOut s s.spareFlush := by
  refine foldRange_keeps (SealOut s) 16 (fun s _ => s.flushStep) s (.inl rfl) fun a _ ha => ?_
  rcases ha with ha | ⟨h2, h3⟩ <;> rcases a.flushStep_sealOut with hb | ⟨hb2, hb3⟩
  · exact .inl (hb.trans ha)
  · exact .inr ⟨ha ▸ hb2, hb3⟩
  · exact .inr ⟨h2, hb.trans h3⟩
  · omega

theorem State.spareFlush_reg (s : State) {i : Nat} (hi : i ≠ O.ledgerExportState) (e : Nat) :
    s.spareFlush.reg i e = s.reg i e := by
  rw [reg_see, State.spareFlush_see _ (by simpa [View.place] using hi), ← reg_see]

theorem State.spareFlush_latched (s : State) (ev : Nat) : s.spareFlush.latched ev = s.latched ev :=
  State.latched_see (s.spareFlush_see (by simp [View.place])) ev

/-! ### A cut begins (R248) -/

theorem State.openBanks_led (s : State) (o : Nat) : (s.openBanks o).led = s.led := rfl

theorem State.openBanks_reg (s : State) (o i e : Nat) : (s.openBanks o).reg i e = s.reg i e := rfl

theorem State.cutStart_led (s : State) (h : Nat) :
    (s.cutStart h).led = { s.led with cutting := true, image := [] } := by
  rw [State.cutStart, State.actStart_led, State.setReg_led, State.openBanks_led]

theorem State.cutStart_state (s : State) (h : Nat) : (s.cutStart h).reg O.ledgerExportState = 1 := by
  rw [State.cutStart, State.actStart_reg _ (by decide) (by decide) (by decide), State.reg_setReg_self]

theorem State.cutStart_holder (s : State) (h : Nat) : (s.cutStart h).reg O.maintTokenHolder 1 = h :=
  State.actStart_holder ..

theorem State.cutStart_regs (s : State) (h : Nat) :
    OnlyRegs [O.ledgerExportState, O.maintTokenHolder, O.maintTokenSince] s (s.cutStart h) := by
  intro i e hev hi
  simp only [List.mem_cons, List.not_mem_nil, or_false, not_or] at hi
  obtain ⟨h1, h2, h3⟩ := hi
  rw [State.cutStart, State.actStart_reg _ hev h2 h3, State.reg_setReg_obj _ h1, State.openBanks_reg]
  rfl

/-! ### The SEAL has been written (R249) -/

/-- The links of the time ports, and what an exporter goes by. -/
def State.exporter (s : State) : List Nat × LedS := (s.hdp.linkUp, s.led)

theorem State.sendBlocks_exporter (s : State) (st : Nat) (r : List Block) :
    (s.sendBlocks st r).exporter = s.exporter := by
  simp only [State.sendBlocks]
  split_ifs
  · rfl
  · split
    · split_ifs <;> rfl
    · rfl

theorem State.sendNotice_exporter (s : State) (kind value dig epoch : Nat) :
    (s.sendNotice kind value dig epoch).exporter = s.exporter := by
  simp only [State.sendNotice, State.sendRec]
  split_ifs
  · rfl
  · refine foldl_same State.exporter (fun (a : State) st => if a.streamState st = 2 then a.sendOn st _ _ _ else a) _ s
      fun a st => ?_
    split_ifs
    · exact State.sendBlocks_exporter ..
    · rfl

theorem State.raise_exporter (s : State) (ev : Nat) : (s.raise ev).exporter = s.exporter := by
  have hlatch (a : State) (e : Nat) : (a.latch e).exporter = a.exporter := by
    simp only [State.latch, State.exporter]
    split_ifs
    · rfl
    · simp only [State.setReg_hdp, State.bump_hdp, State.setOct_hdp, State.setReg_led, State.bump_led,
        State.setOct_led]
  have hbump (a : State) : (a.bump O.hdpStats 7 48).exporter = a.exporter := by
    simp only [State.exporter, State.bump_hdp, State.bump_led]
  have hses (a : State) (k : Nat) (x : Ses) : (a.setSession k x).exporter = a.exporter := rfl
  simp only [State.raise]
  split_ifs
  · rfl
  · refine ((s.latch ev).notifyAll_same State.exporter ev fun a e => ?_).trans (hlatch s ev)
    refine foldRange_same (fun t : State × Nat => t.1.exporter) 8 _ (a, 0) fun b x => ?_
    simp only []
    split_ifs
    · rw [hbump, hlatch, hses]
    · exact hses _ _ _
    · rfl

theorem State.spareOpen_congr {s t : State} (hsys : t.sys = s.sys) (hup : t.hdp.linkUp = s.hdp.linkUp)
    (haddr : t.reg O.ledgerSpareAddr = s.reg O.ledgerSpareAddr) (hfly : t.led.xfly = s.led.xfly) :
    t.spareOpen = s.spareOpen := by
  simp only [State.spareOpen, State.portUp, State.spareAddr, hsys, hup, haddr, hfly]

/-- The registers of a generation take those of the one that is sealed. -/
def State.genNumbered (s : State) (g : List Byte) : State :=
  let s := (s.setReg O.ledgerGen 0 (genNo g)).setReg O.ledgerGenFsn 0 s.led.cutFsn
  s.setReg O.ledgerGenHash 0 (ofBytes (g.drop (g.length - 32)))

/-- No cut is in progress any more; the sealed image is `g`. -/
def LedS.cutDone (l : LedS) (g : List Byte) : LedS := { l with cutting := false, image := [], sealedImg := g }

/-- The cut ends: its image is the sealed one. -/
def State.cutDone (s : State) (g : List Byte) : State := { s with led := s.led.cutDone g }

/-- The sealed generation is told: NOTICE 0x03 and event 487. -/
def State.genTold (s : State) (g : List Byte) : State :=
  (s.sendNotice 3 (genNo g) (ofBytes ((g.drop (g.length - 32)).take 8)) (s.reg O.mapEpoch)).raise 487

/-- A generation has been sealed. -/
def State.genSealedAs (s : State) (g : List Byte) : State := ((s.genNumbered g).cutDone g).genTold g

/-- A generation begins to be exported now. -/
def State.exportBegun (s : State) : State :=
  ({ s with led := { s.led with exportTick := s.tick } } : State).setReg O.ledgerExportState 0 2

theorem State.generationSealed_eq {s : State} (hcut : s.led.cutting = true) (himg : s.led.image ≠ []) :
    s.generationSealed =
      if (s.genSealedAs s.led.image).reg O.ledgerExportEn = 1 then
        (s.genSealedAs s.led.image).exportBegun.exportOut s.led.image
      else ((s.genSealedAs s.led.image).setReg O.ledgerExportState 0 0).actEnd 1 := by
  have hno : ¬ (!s.led.cutting || s.led.image.isEmpty) = true := by
    simp [hcut, himg]
  rw [State.generationSealed, if_neg hno]
  dsimp only
  unfold State.genSealedAs State.genTold State.cutDone LedS.cutDone State.genNumbered State.exportBegun
  dsimp only

theorem State.genNumbered_led (s : State) (g : List Byte) : (s.genNumbered g).led = s.led := by
  simp only [State.genNumbered, State.setReg_led]

theorem State.genNumbered_hdp (s : State) (g : List Byte) : (s.genNumbered g).hdp = s.hdp := by
  simp only [State.genNumbered, State.setReg_hdp]

theorem State.genTold_reg (s : State) (g : List Byte) {i : Nat} (hi : evObj i = false) (e : Nat) :
    (s.genTold g).reg i e = s.reg i e := by
  rw [State.genTold, State.raise_reg _ hi, reg_see, State.sendNotice_see _ _ _ _ _ (by simp [View.place]), ← reg_see]

theorem State.genTold_exporter (s : State) (g : List Byte) : (s.genTold g).exporter = s.exporter := by
  rw [State.genTold, State.raise_exporter, State.sendNotice_exporter]

theorem State.genTold_led (s : State) (g : List Byte) : (s.genTold g).led = s.led :=
  (Prod.mk.inj (s.genTold_exporter g)).2

theorem State.genTold_linkUp (s : State) (g : List Byte) : (s.genTold g).hdp.linkUp = s.hdp.linkUp :=
  (Prod.mk.inj (s.genTold_exporter g)).1

theorem State.genTold_sys (s : State) (g : List Byte) : (s.genTold g).sys = s.sys := by
  refine State.sys_of_see ?_
  rw [State.genTold, State.raise_see _ _ (by simp [View.place]), State.sendNotice_see _ _ _ _ _ (by simp [View.place])]

theorem State.cutDone_led (s : State) (g : List Byte) :
    (s.cutDone g).led = s.led.cutDone g := rfl

theorem State.cutDone_hdp (s : State) (g : List Byte) : (s.cutDone g).hdp = s.hdp := rfl

theorem State.cutDone_sys (s : State) (g : List Byte) : (s.cutDone g).sys = s.sys := rfl

theorem State.genNumbered_sys (s : State) (g : List Byte) : (s.genNumbered g).sys = s.sys := by
  simp only [State.genNumbered, State.setReg_sys]

theorem State.cutDone_reg (s : State) (g : List Byte) (i e : Nat) : (s.cutDone g).reg i e = s.reg i e := rfl

section
variable (s : State) (g : List Byte)

theorem State.genSealedAs_reg {i : Nat} (hi : evObj i = false) (e : Nat) :
    (s.genSealedAs g).reg i e = (s.genNumbered g).reg i e := by
  rw [State.genSealedAs, State.genTold_reg _ _ hi, State.cutDone_reg]

theorem State.genSealedAs_led :
    (s.genSealedAs g).led = s.led.cutDone g := by
  rw [State.genSealedAs, State.genTold_led, State.cutDone_led, State.genNumbered_led]

theorem State.genSealedAs_linkUp : (s.genSealedAs g).hdp.linkUp = s.hdp.linkUp := by
  rw [State.genSealedAs, State.genTold_linkUp, State.cutDone_hdp, State.genNumbered_hdp]

theorem State.genSealedAs_sys : (s.genSealedAs g).sys = s.sys := by
  rw [State.genSealedAs, State.genTold_sys, State.cutDone_sys, State.genNumbered_sys]

theorem State.genSealedAs_latched : (s.genSealedAs g).latched 487 = true := by
  rw [State.genSealedAs, State.genTold]
  exact State.latched_raise_self (.inl (by decide))

theorem State.genNumbered_reg {i : Nat} (h : i ∉ [O.ledgerGen, O.ledgerGenFsn, O.ledgerGenHash]) (e : Nat) :
    (s.genNumbered g).reg i e = s.reg i e := by
  simp only [List.mem_cons, List.not_mem_nil, or_false, not_or] at h
  obtain ⟨h1, h2, h3⟩ := h
  unfold State.genNumbered
  rw [State.reg_setReg_obj _ h3, State.reg_setReg_obj _ h2, State.reg_setReg_obj _ h1]

theorem State.genNumbered_gen : (s.genNumbered g).reg O.ledgerGen = genNo g := by
  unfold State.genNumbered
  rw [State.reg_setReg_obj _ (by decide), State.reg_setReg_obj _ (by decide), State.reg_setReg_self]

theorem State.genNumbered_fsn : (s.genNumbered g).reg O.ledgerGenFsn = s.led.cutFsn := by
  unfold State.genNumbered
  rw [State.reg_setReg_obj _ (by decide), State.reg_setReg_self]

theorem State.genNumbered_hash :
    (s.genNumbered g).reg O.ledgerGenHash = ofBytes (g.drop (g.length - 32)) := by
  unfold State.genNumbered
  rw [State.reg_setReg_self]

end

theorem State.exportOut_queues (s : State) (g : List Byte) :
    ∃ t, s.exportOut g = t.spareFlush ∧
      Queues [O.ledgerRxSegment, O.ledgerRxSeal] s t (g ++ g.drop (g.length - 32)) := by
  refine ⟨_, rfl, ?_⟩
  have hsegs := foldl_queues_numbered (ids := [O.ledgerRxSegment, O.ledgerRxSeal])
    (f := fun s n x => s.spareQueue O.ledgerRxSegment n true x) (g := fun x => x)
    (fun a n b => a.spareQueue_queues (by simp) n true b) (segments g) s 0
  rw [segments_flatten] at hsegs
  exact hsegs.trans (State.spareQueue_queues _ (by simp) 0 false _)

section
variable (s : State) (g : List Byte)

theorem State.exportBegun_reg {i : Nat} (hi : i ≠ O.ledgerExportState) (e : Nat) :
    s.exportBegun.reg i e = s.reg i e := State.reg_setReg_obj _ hi

theorem State.exportBegun_state : s.exportBegun.reg O.ledgerExportState = 2 := State.reg_setReg_self ..

theorem State.exportBegun_latched (ev : Nat) : s.exportBegun.latched ev = s.latched ev :=
  State.latched_setReg (by decide)

theorem State.exportBegun_open : s.exportBegun.spareOpen = s.spareOpen :=
  State.spareOpen_congr rfl rfl (s.exportBegun_reg (by decide) 0) rfl

/-- A generation is being exported: its SEAL may be out. -/
structure Exported (s t : State) : Prop where
  lasting : t.led.lasting = s.led.lasting
  state : SealOut s t
  regs : ∀ i e, i ≠ O.ledgerExportState → t.reg i e = s.reg i e
  latched : ∀ ev, t.latched ev = s.latched ev

theorem State.spareFlush_exported : Exported s s.spareFlush :=
  ⟨s.spareFlush_lasting, s.spareFlush_sealOut, fun _ e hi => s.spareFlush_reg hi e, s.spareFlush_latched⟩

theorem Queues.exported {ids : List Nat} {s t : State} {v : List Byte} (h : Queues ids s t v) :
    Exported s t.spareFlush := by
  obtain ⟨q, x, rfl, -, -⟩ := h
  obtain ⟨h1, h2, h3, h4⟩ := (s.queued q x).spareFlush_exported
  exact ⟨h1, h2, h3, h4⟩

theorem State.exportOut_exported : Exported s (s.exportOut g) := by
  obtain ⟨t, ht, hq⟩ := s.exportOut_queues g
  rw [ht]
  exact hq.exported

end

/-- What a sealed generation leaves in the registers, whether it is exported or not. -/
theorem State.generationSealed_tells {s : State} (hcut : s.led.cutting = true) (himg : s.led.image ≠ []) :
    s.generationSealed.led.cutting = false ∧ s.generationSealed.led.sealedImg = s.led.image ∧
      s.generationSealed.latched 487 = true ∧
      (∀ i e, evObj i = false → i ≠ O.ledgerExportState → i ≠ O.maintTokenHolder →
        s.generationSealed.reg i e = (s.genNumbered s.led.image).reg i e) := by
  rw [State.generationSealed_eq hcut himg]
  have hled := s.genSealedAs_led s.led.image
  have hlat := s.genSealedAs_latched s.led.image
  have hreg {i : Nat} (hi : evObj i = false) (e : Nat) := s.genSealedAs_reg s.led.image hi e
  generalize s.genSealedAs s.led.image = t at hled hlat hreg
  split_ifs
  · have h := t.exportBegun.exportOut_exported s.led.image
    have hkept : (t.exportBegun.exportOut s.led.image).led.lasting = t.led.lasting := h.lasting
    rw [hled] at hkept
    simp only [LedS.lasting, LedS.cutDone, Prod.mk.injEq] at hkept
    obtain ⟨h1, h2, -, -⟩ := hkept
    refine ⟨h1, h2, by rw [h.latched, State.exportBegun_latched, hlat], fun i e hev hi hh => ?_⟩
    rw [h.regs i e hi, State.exportBegun_reg _ hi, hreg hev]
  · refine ⟨?_, ?_, ?_, fun i e hev hi hh => ?_⟩
    · rw [State.actEnd_led, State.setReg_led, hled]
      rfl
    · rw [State.actEnd_led, State.setReg_led, hled]
      rfl
    · exact State.latched_actEnd (by rwa [State.latched_setReg (by decide)]) 1
    · rw [State.actEnd_reg _ hev hh, State.reg_setReg_obj _ hi, hreg hev]

theorem State.genSealedAs_en (s : State) (g : List Byte) :
    (s.genSealedAs g).reg O.ledgerExportEn = s.reg O.ledgerExportEn := by
  rw [State.genSealedAs_reg _ _ (by decide), State.genNumbered_reg _ _ (by decide)]

theorem State.generationSealed_state {s : State} (hcut : s.led.cutting = true) (himg : s.led.image ≠ []) :
    (s.reg O.ledgerExportEn ≠ 1 → s.generationSealed.reg O.ledgerExportState = 0) ∧
      (s.reg O.ledgerExportEn = 1 →
        s.generationSealed.reg O.ledgerExportState = 2 ∨ s.generationSealed.reg O.ledgerExportState = 3) := by
  rw [State.generationSealed_eq hcut himg, State.genSealedAs_en]
  generalize s.genSealedAs s.led.image = t
  refine ⟨fun hen => ?_, fun hen => ?_⟩
  · rw [if_neg hen, State.actEnd_reg _ (by decide) (by decide), State.reg_setReg_self]
  · rw [if_pos hen]
    rcases (t.exportBegun.exportOut_exported s.led.image).state with h | ⟨-, h⟩
    · exact .inl (h.trans t.exportBegun_state)
    · exact .inr h

/-- While nothing may leave, all of a generation waits. -/
theorem State.generationSealed_waits {s : State} (hcut : s.led.cutting = true) (himg : s.led.image ≠ [])
    (hen : s.reg O.ledgerExportEn = 1) (hopen : s.spareOpen = false) :
    s.generationSealed.reg O.ledgerExportState = 2 ∧ ∃ q : List Hdp, s.generationSealed.led.xq = s.led.xq ++ q ∧
      q.flatMap Hdp.value = s.led.image ++ s.led.image.drop (s.led.image.length - 32) := by
  rw [State.generationSealed_eq hcut himg, State.genSealedAs_en, if_pos hen]
  have hled := s.genSealedAs_led s.led.image
  have hstill : (s.genSealedAs s.led.image).spareOpen = false := by
    rw [← hopen]
    refine State.spareOpen_congr (s.genSealedAs_sys _) (s.genSealedAs_linkUp _) ?_
      ((congrArg LedS.xfly hled).trans rfl)
    rw [State.genSealedAs_reg _ _ (by decide), State.genNumbered_reg _ _ (by decide)]
  generalize s.genSealedAs s.led.image = t at hled hstill
  obtain ⟨u, hu, q, x, rfl, -, hq⟩ := t.exportBegun.exportOut_queues s.led.image
  have hclosed : (t.exportBegun.queued q x).spareOpen = false :=
    (State.spareOpen_congr rfl rfl rfl rfl).trans (t.exportBegun_open.trans hstill)
  rw [hu, State.spareFlush_closed hclosed]
  refine ⟨t.exportBegun_state, q, ?_, hq⟩
  have hxq : (t.exportBegun.queued q x).led.xq = t.led.xq ++ q := rfl
  rw [hxq, hled]
  rfl

/-! ### The journal is sent (R253) -/

/-- The entries that have not been sent. -/
def State.journalDue (s : State) : List (Nat × Nat × List Byte) :=
  s.led.journalOut.filter fun x => decide (s.led.sentSeq < x.1)

/-- The greatest SEQ of entries, or `n`. -/
def lastSeq (l : List (Nat × Nat × List Byte)) (n : Nat) : Nat := l.foldl (fun m x => Nat.max m x.1) n

/-- The entries that are due wait to be sent. -/
def State.journalQueue (s : State) : State :=
  s.journalDue.foldl (fun (s : State) x => s.spareQueue O.ledgerJournalRx 0 (decide (1024 < x.2.2.length)) x.2.2) s

/-- Entries up to SEQ `n` have been sent. -/
def State.sentUpTo (s : State) (n : Nat) : State := { s with led := { s.led with sentSeq := n } }

theorem State.journalQueue_queues (s : State) :
    Queues [O.ledgerJournalRx] s s.journalQueue (s.journalDue.flatMap fun x => x.2.2) :=
  foldl_queues (fun a x => a.spareQueue_queues (by simp) 0 _ x.2.2) _ s

theorem State.journalQueue_sentSeq (s : State) : s.journalQueue.led.sentSeq = s.led.sentSeq := by
  obtain ⟨q, x, h, -⟩ := s.journalQueue_queues
  rw [h]
  rfl

theorem State.journalSend_eq {s : State} (hen : s.reg O.ledgerExportEn ≠ 0) :
    s.journalSend = (s.journalQueue.sentUpTo (lastSeq s.journalDue s.led.sentSeq)).spareFlush := by
  have h : s.journalSend =
      (s.journalQueue.sentUpTo (lastSeq s.journalDue s.journalQueue.led.sentSeq)).spareFlush := by
    rw [State.journalSend, if_neg hen]
    rfl
  rw [h, State.journalQueue_sentSeq]

theorem le_lastSeq (l : List (Nat × Nat × List Byte)) (n : Nat) :
    n ≤ lastSeq l n ∧ ∀ x ∈ l, x.1 ≤ lastSeq l n := by
  induction l generalizing n with
  | nil => simp [lastSeq]
  | cons y l ih =>
    obtain ⟨h1, h2⟩ := ih (Nat.max n y.1)
    refine ⟨(Nat.le_max_left ..).trans h1, fun z hz => ?_⟩
    rcases List.mem_cons.mp hz with rfl | hz
    · exact (Nat.le_max_right ..).trans h1
    · exact h2 z hz

theorem State.journalOut_le {s : State} {x : Nat × Nat × List Byte} (hx : x ∈ s.led.journalOut) :
    x.1 ≤ lastSeq s.journalDue s.led.sentSeq := by
  obtain ⟨h1, h2⟩ := le_lastSeq s.journalDue s.led.sentSeq
  by_cases hd : s.led.sentSeq < x.1
  · exact h2 x (List.mem_filter.mpr ⟨hx, decide_eq_true hd⟩)
  · exact (Nat.le_of_not_lt hd).trans h1

theorem State.journalSend_sentSeq {s : State} (hen : s.reg O.ledgerExportEn ≠ 0) :
    s.journalSend.led.sentSeq = lastSeq s.journalDue s.led.sentSeq := by
  rw [State.journalSend_eq hen]
  have h := (s.journalQueue.sentUpTo (lastSeq s.journalDue s.led.sentSeq)).spareFlush_lasting
  simp only [LedS.lasting, Prod.mk.injEq] at h
  exact h.2.2.1

/-- While nothing may leave, the entries that are due wait. -/
theorem State.journalSend_closed {s : State} (hen : s.reg O.ledgerExportEn ≠ 0) (hopen : s.spareOpen = false) :
    ∃ q x n, s.journalSend = (s.queued q x).sentUpTo n ∧ (∀ h ∈ q, h.index = O.ledgerJournalRx) ∧
      q.flatMap Hdp.value = s.journalDue.flatMap fun x => x.2.2 := by
  obtain ⟨q, x, hqueue, hidx, hval⟩ := s.journalQueue_queues
  refine ⟨q, x, lastSeq s.journalDue s.led.sentSeq, ?_, fun h hh => by simpa using hidx h hh, hval⟩
  rw [State.journalSend_eq hen, hqueue]
  exact State.spareFlush_closed ((State.spareOpen_congr rfl rfl rfl rfl).trans hopen)

/-- On a time port that is free a frame leaves at once (R314). -/
theorem State.sendPort_free {s : State} {k : Nat} (h : PortFree s k) (n : Nat) (m : Sent) :
    ∃ fin, s.sendPort k n m = (s.send m).setBusy k fin := by
  obtain ⟨hl, hh⟩ := h
  have hlaunch (t : Int) : s.portHeld k t = false := by
    rw [State.portHeld, List.any_eq_false]
    intro l hm
    simp [hl l hm]
  have hheld : (s.tim.held.any fun x => x.1 == k) = false := by
    rw [List.any_eq_false]
    intro x hm
    simpa using hh x hm
  simp only [State.sendPort, hlaunch, hheld]
  exact ⟨_, rfl⟩

/-- A request takes the next SEQ, and waits for its response. -/
def State.asked (s : State) : State :=
  { s with led := { s.led with xseq := (s.led.xseq + 1) % M48, xfly := s.led.xfly ++ [(s.led.xseq + 1) % M48] } }

/-- A journal entry leaves under the next SEQ on a time port that is free. -/
theorem State.spareSend_free {s : State} {h : Hdp} (hport : PortFree s (s.spareAddr 0 1))
    (hidx : h.index = O.ledgerJournalRx) :
    ∃ mac fin, s.spareSend h =
      (s.asked.send (.hdp (s.spareAddr 0 1) s.spareEncap
        (({ h with seq := (s.led.xseq + 1) % M48 } : Hdp).wire mac))).setBusy (s.spareAddr 0 1) fin := by
  have hseg : ¬ (decide (h.index = O.ledgerRxSegment) && decide (h.sub = 0) && decide (h.offset = 0)) = true := by
    rw [hidx]
    simp
  have hseal (n : Nat) : ¬ (decide (h.index = O.ledgerRxSeal) && decide (n = 2)) = true := by
    rw [hidx]
    simp
  obtain ⟨fin, hfin⟩ := State.sendPort_free (s := s.asked) hport
    (hdpBytes s.spareEncap (({ h with seq := (s.led.xseq + 1) % M48 } : Hdp).wire
      (macOf s.spareKey ({ h with seq := (s.led.xseq + 1) % M48 } : Hdp).bytes)).length)
    (.hdp (s.spareAddr 0 1) s.spareEncap (({ h with seq := (s.led.xseq + 1) % M48 } : Hdp).wire
      (macOf s.spareKey ({ h with seq := (s.led.xseq + 1) % M48 } : Hdp).bytes)))
  refine ⟨_, fin, Eq.trans ?_ hfin⟩
  rw [State.spareSend, if_neg hseg, if_neg (hseal _)]
  rfl

/-- The request that writes a short journal entry. -/
def journalAsk (v : List Byte) : Hdp := ⟨2, 0, Config.spareSession, 0, 0, O.ledgerJournalRx, 0, 0, 0, 0, 0, v⟩

/-- The one request that waits is taken to be sent. -/
def State.unqueued (s : State) : State := { s with led := { s.led with xq := [] } }

theorem State.flushStep_last {s : State} {h : Hdp} (hxq : s.led.xq = [h]) (hopen : s.spareOpen = true) :
    s.flushStep = s.unqueued.spareSend h := by
  rw [State.flushStep]
  split
  next k l hl =>
    obtain ⟨rfl, rfl⟩ := List.cons.inj (hxq.symm.trans hl)
    rw [if_pos hopen]
    rfl
  next hl => exact absurd (hxq.symm.trans hl) (by simp)

/-- A journal entry of its own leaves at once where it may. -/
theorem State.journalSend_one {s : State} {x : Nat × Nat × List Byte} (hen : s.reg O.ledgerExportEn ≠ 0)
    (hopen : s.spareOpen = true) (hxq : s.led.xq = []) (hport : PortFree s (s.spareAddr 0 1))
    (hdue : s.journalDue = [x]) (hlen : x.2.2.length ≤ 1024) :
    ∃ mac fin n, s.journalSend = (((s.sentUpTo n).unqueued.asked).send (.hdp (s.spareAddr 0 1) s.spareEncap
      (({ journalAsk x.2.2 with seq := (s.led.xseq + 1) % M48 } : Hdp).wire mac))).setBusy (s.spareAddr 0 1) fin := by
  have hq : s.journalQueue = s.queued [journalAsk x.2.2] s.led.xfer := by
    rw [State.journalQueue, hdue, List.foldl_cons, List.foldl_nil, decide_eq_false (by omega)]
    rfl
  rw [State.journalSend_eq hen, hq]
  generalize lastSeq s.journalDue s.led.sentSeq = n
  have hwait : ((s.queued [journalAsk x.2.2] s.led.xfer).sentUpTo n).led.xq = [journalAsk x.2.2] := by
    exact (congrArg (· ++ [journalAsk x.2.2]) hxq : s.led.xq ++ [journalAsk x.2.2] = _)
  have hstep := State.flushStep_last hwait ((State.spareOpen_congr rfl rfl rfl rfl).trans hopen)
  have hrest : ((s.queued [journalAsk x.2.2] s.led.xfer).sentUpTo n).unqueued = (s.sentUpTo n).unqueued := rfl
  rw [hrest] at hstep
  obtain ⟨mac, fin, hsend⟩ := State.spareSend_free (s := (s.sentUpTo n).unqueued) (h := journalAsk x.2.2) hport rfl
  refine ⟨mac, fin, n, ?_⟩
  rw [State.spareFlush_last (by rw [hstep, hsend]; rfl), hstep, hsend]
  rfl

/-! ### Exporting ends (R251) -/

theorem State.exportFail_eq (s : State) : s.exportFail =
    ((({ s.exportDrop with led := { s.exportDrop.led with cutJournal := false } } : State).setReg
      O.ledgerExportState 0 4).raise 488).actEnd 1 := rfl

theorem State.exportFail_state (s : State) : s.exportFail.reg O.ledgerExportState = 4 := by
  rw [State.exportFail_eq, State.actEnd_reg _ (by decide) (by decide), State.raise_reg _ (by decide),
    State.reg_setReg_self]

theorem State.exportFail_latched (s : State) : s.exportFail.latched 488 = true := by
  rw [State.exportFail_eq]
  exact State.latched_actEnd (State.latched_raise_self (.inl (by decide))) 1

/-- Requests of the generation do not wait after they are dropped. -/
theorem State.exportDrop_drops {s : State} {h : Hdp} (hh : h ∈ s.exportDrop.led.xq) :
    h.index ≠ O.ledgerRxSegment ∧ h.index ≠ O.ledgerRxSeal := by
  obtain ⟨-, hf⟩ := List.mem_filter.mp hh
  simp only [Bool.not_eq_true', Bool.or_eq_false_iff, beq_eq_false_iff_ne] at hf
  exact hf.1

theorem State.exportFail_xq (s : State) : s.exportFail.led.xq = s.exportDrop.led.xq := by
  rw [State.exportFail_eq, State.actEnd_led, State.raise_led, State.setReg_led]

theorem State.exportFail_xfly (s : State) : s.exportFail.led.xfly = [] := by
  rw [State.exportFail_eq, State.actEnd_led, State.raise_led, State.setReg_led]
  rfl

/-- Requests of the generation do not wait any more. -/
theorem State.exportFail_drops {s : State} {h : Hdp} (hh : h ∈ s.exportFail.led.xq) :
    h.index ≠ O.ledgerRxSegment ∧ h.index ≠ O.ledgerRxSeal :=
  State.exportDrop_drops (s.exportFail_xq ▸ hh)

theorem State.exportTimeout_fails {s : State} (haway : s.exportAway = true)
    (hold : s.elapsed s.led.exportTick (secTicks 40) = true) : s.exportTimeout = s.exportFail := by
  rw [State.exportTimeout, if_pos (Bool.and_eq_true_iff.mpr ⟨haway, hold⟩)]

/-- What has failed stays failed while other requests leave. -/
theorem State.exportFail_flushed (s : State) : s.exportFail.spareFlush.reg O.ledgerExportState = 4 ∧
    s.exportFail.spareFlush.latched 488 = true := by
  refine ⟨?_, by rw [State.spareFlush_latched, State.exportFail_latched]⟩
  rcases s.exportFail.spareFlush_sealOut with h | ⟨h, -⟩
  · exact h.trans s.exportFail_state
  · rw [State.exportFail_state] at h
    exact absurd h (by decide)

/-- The spare has the new generation. -/
theorem State.spareSealCheck_ends {s : State} {g0 g1 : Nat} (haway : s.exportAway = true)
    (hgen : g0 = s.reg O.ledgerGen ∨ g1 = s.reg O.ledgerGen) :
    (s.spareSealCheck g0 g1).reg O.ledgerSpareGen = s.reg O.ledgerGen ∧
      (s.spareSealCheck g0 g1).reg O.ledgerExportState = 0 ∧ (s.spareSealCheck g0 g1).latched 489 = true ∧
      (s.spareSealCheck g0 g1).led.journalOut =
        s.led.journalOut.filter fun x => precedes48 (s.reg O.ledgerGenFsn) x.2.1 := by
  have hif : (s.exportAway && (decide (g0 = s.reg O.ledgerGen) || decide (g1 = s.reg O.ledgerGen))) = true := by
    simpa [haway] using hgen
  simp only [State.spareSealCheck, hif, if_true]
  refine ⟨?_, ?_, ?_, ?_⟩
  · rw [State.actEnd_reg _ (by decide) (by decide), State.reg_setReg_obj _ (by decide), State.raise_reg _ (by decide),
      State.reg_setReg_self]
  · rw [State.actEnd_reg _ (by decide) (by decide), State.reg_setReg_self]
  · refine State.latched_actEnd ?_ 1
    rw [State.latched_setReg (by decide)]
    exact State.latched_raise_self (.inl (by decide))
  · rw [State.actEnd_led, State.setReg_led, State.raise_led, State.setReg_led]

/-! ### The spare answers (R249, R253) -/

/-- A request has its response. -/
def State.heard (s : State) (n : Nat) : State := { s with led := { s.led with xfly := s.led.xfly.erase n } }

theorem State.spareAnswer_fails {s : State} {h : Hdp} (hfly : h.seq ∈ s.led.xfly) (hbad : h.status ≠ 0)
    (hidx : h.index = O.ledgerRxSegment ∨ h.index = O.ledgerRxSeal) (haway : s.exportAway = true) :
    s.spareAnswer h = (s.heard h.seq).exportFail.spareFlush := by
  have hmem : ¬ (!s.led.xfly.contains h.seq) = true := by simpa using hfly
  have hstill : ¬ (!(s.heard h.seq).exportAway) = true := by
    have : (s.heard h.seq).exportAway = s.exportAway := rfl
    simp [this, haway]
  have hj : h.index ≠ O.ledgerJournalRx := by rcases hidx with h | h <;> rw [h] <;> decide
  rw [State.spareAnswer, if_neg hmem]
  refine congrArg State.spareFlush ((if_neg hj).trans ((if_neg hstill).trans ?_))
  rcases hidx with hidx | hidx
  · exact (if_pos hidx).trans (if_neg hbad)
  · exact (if_neg (by rw [hidx]; decide)).trans ((if_pos hidx).trans (if_pos hbad))

theorem State.spareAnswer_gap {s : State} {h : Hdp} (hfly : h.seq ∈ s.led.xfly) (hbad : h.status ≠ 0)
    (hidx : h.index = O.ledgerJournalRx) (hcut : s.led.cutJournal = false) :
    (s.spareAnswer h).led.cutJournal = true ∧ (s.spareAnswer h).latched 490 = true := by
  have hmem : ¬ (!s.led.xfly.contains h.seq) = true := by simpa using hfly
  have heq : s.spareAnswer h = (s.heard h.seq).cutForGap.spareFlush := by
    rw [State.spareAnswer, if_neg hmem]
    exact congrArg State.spareFlush ((if_pos hidx).trans (if_neg hbad))
  have hgap : (s.heard h.seq).cutForGap =
      { (s.heard h.seq).raise 490 with led := { (s.heard h.seq).led with cutJournal := true } } := by
    rw [State.cutForGap, if_neg (by rw [show (s.heard h.seq).led.cutJournal = false from hcut]; simp)]
  rw [heq, hgap]
  generalize s.heard h.seq = t
  refine ⟨?_, ?_⟩
  · have h := State.spareFlush_lasting { t.raise 490 with led := { t.led with cutJournal := true } }
    simp only [LedS.lasting, Prod.mk.injEq] at h
    exact h.2.2.2
  · rw [State.spareFlush_latched, State.latched_withLed]
    exact State.latched_raise_self (.inl (by decide))

/-- A response of the spare goes to the exporter. -/
theorem State.hdpIn_said {s : State} {ops : List Nat} {port : Nat} {enc : Encap} {m : List Byte} {h : Hdp}
    (hserved : s.served port enc = true) (hparse : hdpParse m = some h) (hop : h.op ∈ ops)
    (hresp : bit h.flags 7 = true) (hsaid : s.spareSaid h m = true) : s.hdpIn ops port enc m = s.spareAnswer h := by
  simp [State.hdpIn, hserved, hparse, hop, hresp, hsaid]

theorem runs_said {s : State} {c : Instr} {port : Nat} {enc : Encap} {m : List Byte} {h : Hdp} {P : State → Prop}
    (hc : (c, h.op) ∈ [(Instr.hdpWrite port enc m, 2), (.writeBulk port enc m, 4)]) (hport : port < 2)
    (hserved : s.served port enc = true) (hparse : hdpParse m = some h) (hresp : bit h.flags 7 = true)
    (hsaid : s.spareSaid h m = true) (hP : P ((s.fresh.spareAnswer h).withQueue s.pending)) : Runs c s P := by
  have hmem : (c, h.op) ∈ hdpCommands port enc m := by
    simp only [List.mem_cons, List.not_mem_nil, or_false] at hc
    rcases hc with hc | hc <;> rw [hc] <;> simp [hdpCommands]
  obtain ⟨ops, hexec, hop⟩ := exec_hdpCommand hmem s
  refine runs_of_runIn hexec hport ?_
  rwa [State.hdpIn_said (s := s.fresh) hserved hparse hop hresp hsaid]

/-! ### The commands -/

theorem State.spareOpen_fresh (s : State) : s.fresh.spareOpen = s.spareOpen := State.spareOpen_congr rfl rfl rfl rfl

/-- The interval of the cuts begins anew. -/
def State.cutTimed (s : State) : State := { s with led := { s.led with lastCut := s.clk.fsn } }

theorem runs_periodicCut {s : State} (hmode : bit (s.reg O.ledgerCutMode) 0 = true)
    (hdue : (s.reg O.ledgerCutPeriod : Int) ≤ dist48 s.led.lastCut s.clk.fsn) (hcheck : s.cutCheck 0xFE = 0) :
    Runs .ledgerPeriodicCut s fun t =>
      t.led.cutting = true ∧ t.reg O.ledgerExportState = 1 ∧ t.led.lastCut = s.clk.fsn ∧
      t.reg O.maintTokenHolder 1 = 0xFE := by
  refine runs_of_run (exec_ledgerPeriodicCut s) ?_
  have hwhen : (bit (s.fresh.reg O.ledgerCutMode) 0 &&
      decide ((s.fresh.reg O.ledgerCutPeriod : Int) ≤ dist48 s.fresh.led.lastCut s.fresh.clk.fsn)) = true :=
    Bool.and_eq_true_iff.mpr ⟨hmode, decide_eq_true hdue⟩
  have hauto : s.fresh.cutTimed.cutAuto = s.fresh.cutTimed.cutStart 0xFE :=
    if_pos (show s.fresh.cutTimed.cutCheck 0xFE = 0 from hcheck)
  have heq : s.fresh.periodicCut = s.fresh.cutTimed.cutStart 0xFE := (if_pos hwhen).trans hauto
  rw [heq]
  refine ⟨?_, State.cutStart_state _ _, ?_, State.cutStart_holder _ _⟩
  · rw [State.withQueue_led, State.cutStart_led]
  · rw [State.withQueue_led, State.cutStart_led]
    rfl

theorem runs_cutReq {s : State} {w : Who} {v : Nat} (ha : Allowed s w O.ledgerCutReq 0 v)
    (hmode : s.sys.mode ≠ .restore) (hcheck : s.cutCheck (holderOf w) = 0) :
    Runs (.ledgerCutReq w v) s fun t =>
      t.led.cutting = true ∧ t.reg O.ledgerExportState = 1 ∧ t.reg O.maintTokenHolder 1 = holderOf w ∧
      t.out.status = 0 ∧ OnlyRegs [O.ledgerExportState, O.maintTokenHolder, O.maintTokenSince] s t := by
  have hop : cutReqOp (holderOf w) s.fresh = (s.fresh.cutStart (holderOf w), 0) := by
    have hres : ¬ (decide (s.fresh.sys.mode = .restore) && s.fresh.sys.restoreWait) = true :=
      fun hh => hmode (of_decide_eq_true (Bool.and_eq_true_iff.mp hh).1)
    rw [cutReqOp, if_neg hres]
    exact if_neg (by rw [show s.fresh.cutCheck (holderOf w) = 0 from hcheck]; simp)
  refine runs_of_write (exec_ledgerCutReq s w v) ha hop ?_
  rw [State.record_of_not_carried rfl rfl]
  refine ⟨?_, State.cutStart_state _ _, State.cutStart_holder _ _, rfl, fun i e hev hi => ?_⟩
  · rw [State.withQueue_led, State.answer_led, State.cutStart_led]
  · exact (s.fresh.cutStart_regs (holderOf w) i e hev hi).trans rfl

/-- Settles O11. -/
theorem ledgerExport : Obligations.LedgerExport := by
  refine ⟨fun s hmode hdue hcheck => runs_periodicCut hmode hdue hcheck,
    fun s w v ha hmode hcheck => runs_cutReq ha hmode hcheck, fun s hcut himg => ?_, fun s hcut himg hen hopen => ?_,
    fun s hen => ?_, fun s hen hopen => ?_, fun s x hen hopen hxq hport hdue hlen => ?_, fun s g0 g1 haway hgen => ?_,
    fun s haway hold => ?_, fun s port enc m h c hc hp hserved hparse hresp hsaid hfly hbad hidx haway => ?_,
    fun s port enc m h c hc hp hserved hparse hresp hsaid hfly hbad hidx hcut => ?_⟩
  · refine runs_of_run (exec_generationSealed s) ?_
    obtain ⟨h1, h2, h3, hreg⟩ := State.generationSealed_tells (s := s.fresh) hcut himg
    obtain ⟨hoff, hon⟩ := State.generationSealed_state (s := s.fresh) hcut himg
    refine ⟨?_, ?_, ?_, h1, h2, h3, hoff, hon⟩
    · exact (hreg O.ledgerGen 0 rfl (by decide) (by decide)).trans (State.genNumbered_gen _ _)
    · exact (hreg O.ledgerGenFsn 0 rfl (by decide) (by decide)).trans (State.genNumbered_fsn _ _)
    · exact (hreg O.ledgerGenHash 0 rfl (by decide) (by decide)).trans (State.genNumbered_hash _ _)
  · exact runs_of_run (exec_generationSealed s)
      (State.generationSealed_waits (s := s.fresh) hcut himg hen (s.spareOpen_fresh.trans hopen))
  · refine runs_of_run (exec_journalSend s) fun x hx => ?_
    rw [State.withQueue_led, State.journalSend_sentSeq (s := s.fresh) hen]
    exact State.journalOut_le (s := s.fresh) hx
  · refine runs_of_run (exec_journalSend s) ?_
    obtain ⟨q, x, n, heq, hidx, hval⟩ := State.journalSend_closed (s := s.fresh) hen (s.spareOpen_fresh.trans hopen)
    rw [heq]
    exact ⟨fun _ _ _ _ _ => rfl, q, rfl, hidx, hval⟩
  · refine runs_of_run (exec_journalSend s) ?_
    obtain ⟨mac, fin, n, heq⟩ :=
      State.journalSend_one (s := s.fresh) hen (s.spareOpen_fresh.trans hopen) hxq hport hdue hlen
    rw [heq]
    exact ⟨rfl, rfl, rfl, _, mac, rfl, rfl, rfl, rfl, rfl⟩
  · refine runs_of_run (exec_spareSealCheck s g0 g1) ?_
    obtain ⟨h1, h2, h3, h4⟩ := State.spareSealCheck_ends (s := s.fresh) haway hgen
    refine ⟨h1, h2, h3, fun x => ?_⟩
    rw [State.withQueue_led, h4]
    exact List.mem_filter
  · refine runs_of_run (exec_exportTimeout s) ?_
    rw [State.exportTimeout_fails (s := s.fresh) haway hold]
    have h1 := s.fresh.exportFail_state
    have h2 := s.fresh.exportFail_latched
    have h3 := s.fresh.exportFail_xfly
    have h4 (h : Hdp) := State.exportFail_drops (s := s.fresh) (h := h)
    generalize s.fresh.exportFail = t at h1 h2 h3 h4
    exact ⟨h1, h2, h3, h4⟩
  · refine runs_said hc hp hserved hparse hresp hsaid ?_
    rw [State.spareAnswer_fails (s := s.fresh) hfly hbad hidx haway]
    have hflushed := (s.fresh.heard h.seq).exportFail_flushed
    generalize (s.fresh.heard h.seq).exportFail.spareFlush = t at hflushed
    exact hflushed
  · exact runs_said hc hp hserved hparse hresp hsaid (State.spareAnswer_gap (s := s.fresh) hfly hbad hidx hcut)

end Sys2Proof.Machine

/-! HDP requests that are served, NOTIFY and the ICMPv6 answers (O30). -/

namespace Sys2Proof.Machine

/-! ### Answers -/

/-- What an answer on a time port leaves unchanged. -/
structure Responded (s t : State) : Prop where
  status : t.out.status = s.out.status
  hdp : t.hdp = s.hdp
  reg : ∀ i e, i ≠ O.hdpStats → t.reg i e = s.reg i e
  clk : t.clk = s.clk

theorem Responded.trans {s t u : State} (h : Responded s t) (h' : Responded t u) : Responded s u :=
  ⟨h'.status.trans h.status, h'.hdp.trans h.hdp, fun i e hi => (h'.reg i e hi).trans (h.reg i e hi),
    h'.clk.trans h.clk⟩

theorem Responded.session {s t : State} (h : Responded s t) (k : Nat) : t.session k = s.session k := by
  rw [State.session, h.hdp, State.session]

theorem State.sendPort_responded (s : State) (k n : Nat) (m : Sent) : Responded s (s.sendPort k n m) := by
  refine ⟨?_, ?_, fun i e _ => s.sendPort_reg k n m i e, ?_⟩ <;> simp only [State.sendPort] <;> split_ifs <;> rfl

theorem State.hdpStat_responded (s : State) (k n : Nat) : Responded s (s.hdpStat k n) :=
  ⟨rfl, rfl, fun _ _ hi => State.reg_bump_obj _ hi, rfl⟩

theorem State.respond_responded (s : State) (port : Nat) (enc : Encap) (key : List Byte) (r : Hdp) :
    Responded s (s.respond port enc key r) := by
  have h := (s.sendPort_responded port (hdpBytes enc (r.wire (macOf key r.bytes)).length)
    (.hdp port (Encap.back enc) (r.wire (macOf key r.bytes)))).trans (State.hdpStat_responded _ 1 1)
  simp only [State.respond]
  split_ifs
  · exact h
  · exact h.trans (State.hdpStat_responded _ 2 1)

theorem PortFree.sends {s : State} {k : Nat} (h : PortFree s k) (n : Nat) (m : Sent) :
    (s.sendPort k n m).out.sent = s.out.sent ++ [m] := by
  obtain ⟨fin, heq⟩ := State.sendPort_free h n m
  rw [heq]
  rfl

/-- On a port that is free an answer leaves at once. -/
theorem PortFree.responds {s : State} {port : Nat} (h : PortFree s port) (enc : Encap) (key : List Byte) (r : Hdp) :
    ∃ mac, (s.respond port enc key r).out.sent = s.out.sent ++ [.hdp port (Encap.back enc) (r.wire mac)] := by
  refine ⟨macOf key r.bytes, ?_⟩
  have hsend := h.sends (hdpBytes enc (r.wire (macOf key r.bytes)).length)
    (.hdp port (Encap.back enc) (r.wire (macOf key r.bytes)))
  simp only [State.respond]
  split_ifs <;> exact hsend

/-! ### Requests that are accepted (R393) -/

theorem State.takeIn_served {s : State} {port : Nat} {enc : Encap} {h : Hdp} {m : List Byte}
    (hauth : s.authentic h m = true) (hseq : s.fresh48 h = true) (hwait : (s.session h.session).waiting = [])
    (hceil : s.nearCeiling h = false) : s.takeIn port enc h m = s.serve port enc h := by
  simp [State.takeIn, hauth, hseq, hwait, hceil]

/-- The session of a request that is accepted. -/
def State.acceptedSes (s : State) (h : Hdp) : Ses :=
  let x := s.session h.session
  let top := max h.seq (s.reg O.hdpSessionSeq h.session)
  { x with win := (h.seq :: x.win).filter fun q => decide (top < q + 64), lastTick := s.tick, idle := false }

section
variable (s : State) (h : Hdp)

theorem State.accept_eq : s.accept h = ((s.setSession h.session (s.acceptedSes h)).setReg O.hdpSessionSeq h.session
    (max h.seq (s.reg O.hdpSessionSeq h.session))).hdpStat 0 1 := rfl

theorem State.accept_seq :
    (s.accept h).reg O.hdpSessionSeq h.session = max h.seq (s.reg O.hdpSessionSeq h.session) := by
  rw [State.accept_eq, (State.hdpStat_responded _ 0 1).reg _ _ (by decide), State.reg_setReg_self]

theorem State.accept_reg {i : Nat} (h1 : i ≠ O.hdpSessionSeq) (h2 : i ≠ O.hdpStats) (e : Nat) :
    (s.accept h).reg i e = s.reg i e := by
  rw [State.accept_eq, (State.hdpStat_responded _ 0 1).reg _ _ h2, State.reg_setReg_obj _ h1]
  rfl

theorem State.accept_session : (s.accept h).session h.session = s.acceptedSes h :=
  State.session_setSession_self ..

theorem PortFree.accept {s : State} {port : Nat} (hp : PortFree s port) (h : Hdp) : PortFree (s.accept h) port := hp

end

/-- An answer to request `h`, of a state `u` that the operation left. -/
structure Answers (h : Hdp) (u : State) (r : Hdp) : Prop where
  seq : r.seq = h.seq
  session : r.session = h.session
  flag : bit r.flags 7 = true
  status : r.status = u.out.status

/-- What a request does that is answered whole. -/
def State.operate (s : State) (port : Nat) (enc : Encap) (h : Hdp) : State :=
  if h.op = 1 then s.hdpReadOp h
  else if h.op = 2 then s.hdpWriteOp h
  else if h.op = 4 then s.hdpWriteBulk h
  else if h.op = 5 then s.hdpSubscribe port enc h
  else if h.op = 6 then s.hdpCommit h
  else if h.op = 7 then s.hdpAbort h
  else s.answer 0x0104

/-- The key that authenticated a request. -/
def State.reqKey (s : State) (h : Hdp) : List Byte :=
  if s.reg O.secKeyState 0 = 0 then [] else (s.session h.session).key

/-- The answer to a request that is served whole: a READ that succeeds carries its value. -/
def Hdp.answerOf (h : Hdp) (u : State) : Hdp :=
  h.response u.out.status 0 (if h.op = 4 then h.offset else 0) (if h.op = 4 then h.total else 0)
    (if u.out.status = 0 && h.op = 1 then u.out.value else [])

theorem State.serve_eq {s : State} {h : Hdp} (hop : h.op ≠ 3) (port : Nat) (enc : Encap) : s.serve port enc h =
    ((s.accept h).operate port enc h).respond port enc (s.reqKey h)
      (h.answerOf ((s.accept h).operate port enc h)) := by
  rw [State.serve]
  exact if_neg hop

theorem Hdp.answerOf_answers (h : Hdp) (u : State) : Answers h u (h.answerOf u) :=
  ⟨rfl, rfl, show bit (flagResponse + 0) 7 = true by decide, rfl⟩

theorem Hdp.answerOf_value {h : Hdp} {u : State} (hop : h.op = 1) (hst : u.out.status = 0) :
    (h.answerOf u).value = u.out.value := by
  simp [Hdp.answerOf, Hdp.response, hop, hst]

/-- A request that is admitted is served. -/
theorem Admitted.runs {s : State} {port op : Nat} {enc : Encap} {m : List Byte} {h : Hdp} {c : Instr}
    {P : State → Prop} (ha : Admitted s port enc op m h) (hc : (c, op) ∈ hdpCommands port enc m)
    (hP : P ((s.fresh.serve port enc h).withQueue s.pending)) : Runs c s P := by
  obtain ⟨hport, hserved, hparse, hop, hreq, hauth, hseq, hwait, hceil⟩ := ha
  obtain ⟨ops, hexec, hmem⟩ := exec_hdpCommand hc s
  refine runs_of_runIn hexec hport ?_
  rwa [State.hdpIn_request (s := s.fresh) hserved hparse (hop ▸ hmem) hreq,
    State.takeIn_served (s := s.fresh) hauth hseq hwait hceil]

/-! ### READ and READ_BULK of IDENT.DEVID (R396) -/

theorem resolve_devid : resolve O.identDevid 0 = ⟨0, O.identDevid, 0, 1, .plain⟩ := by decide

/-- The value of IDENT.DEVID has been read. -/
def State.devidRead (s : State) : State := (s.give (toBytes 4 (s.reg O.identDevid))).answer 0

/-- The object IDENT.DEVID. -/
def devidObj : Obj := ⟨O.identDevid, .u32, .const, 1, false, .element, .any⟩

theorem objAt_devid : objAt O.identDevid = some devidObj := by decide

theorem State.islandDead_of_keeper (s : State) {i : Nat} (h : inFabric i = false) : s.islandDead i = false := by
  simp [State.islandDead, h]

theorem State.romOnly_of_running {s : State} (h : s.sys.recovery = false) (i : Nat) : s.romOnly i = false := by
  simp [State.romOnly, h]

section
variable {s : State} {k : Nat} (hr : bit (s.reg O.secRights k) 0 = true)
include hr

theorem State.readGate_devid : s.readGate (.ses k) O.identDevid 0 = 0 := by
  simp [State.readGate, State.rights, hr, objAt_devid, devidObj, s.islandDead_of_keeper (i := O.identDevid) (by decide)]

theorem State.readCheck_devid : s.readCheck (.ses k) (resolve O.identDevid 0) 0 1 = 0 := by
  rw [resolve_devid]
  simp [State.readCheck, State.rights, hr, Tgt.elem, State.readGate_devid hr]

theorem State.readEntry_devid (hrec : s.sys.recovery = false) (live : Bool) :
    s.readEntry (.ses k) (resolve O.identDevid 0) 0 1 live = s.devidRead := by
  have hrange : s.readRange devidObj (resolve O.identDevid 0) 0 1 live = (s, toBytes 4 (s.reg O.identDevid)) := by
    rw [resolve_devid]
    cases live <;> rfl
  have hrom : ¬ s.romOnly (resolve O.identDevid 0).idx = true := by simp [State.romOnly_of_running hrec]
  have hobj : objAt (resolve O.identDevid 0).idx = some devidObj := by rw [resolve_devid, objAt_devid]
  rw [State.readEntry, if_neg (by simp [State.readCheck_devid hr]), if_neg hrom, hobj]
  simp only [hrange, State.devidRead]

end

/-- A READ of IDENT.DEVID. -/
structure AsksDevid (h : Hdp) : Prop where
  index : h.index = O.identDevid
  sub : h.sub = 0
  elem : h.elem = 0
  value : h.value = []

theorem State.hdpReadOp_devid {s : State} {h : Hdp} (ask : AsksDevid h) (hplain : bit h.flags 5 = false)
    (hr : bit (s.reg O.secRights h.session) 0 = true) (hrec : s.sys.recovery = false) :
    s.hdpReadOp h = s.devidRead := by
  have hcheck := State.readCheck_devid hr
  rw [State.hdpReadOp, if_neg (by simp [hplain]), ask.index, ask.sub, ask.elem]
  simp only [hcheck, ask.value]
  exact State.readEntry_devid hr hrec _

/-- What is left when a READ of IDENT.DEVID has been answered. -/
structure DevidAnswered (s t : State) (port : Nat) (enc : Encap) (h : Hdp) : Prop where
  status : t.out.status = 0
  sent : ∃ (r : Hdp) (mac : List Byte), t.out.sent = s.out.sent ++ [.hdp port (Encap.back enc) (r.wire mac)] ∧
    r.seq = h.seq ∧ r.session = h.session ∧ bit r.flags 7 = true ∧ r.status = 0 ∧
    r.value = toBytes 4 (s.reg O.identDevid)
  seq : t.reg O.hdpSessionSeq h.session = max h.seq (s.reg O.hdpSessionSeq h.session)
  session : t.session h.session = s.acceptedSes h

theorem State.serve_devid {s : State} {port : Nat} {enc : Encap} {h : Hdp} (hop : h.op = 1) (ask : AsksDevid h)
    (hplain : bit h.flags 5 = false) (hr : bit (s.reg O.secRights h.session) 0 = true)
    (hrec : s.sys.recovery = false) (hport : PortFree s port) : DevidAnswered s (s.serve port enc h) port enc h := by
  have hdo : (s.accept h).operate port enc h = (s.accept h).devidRead := by
    rw [State.operate, if_pos hop]
    exact State.hdpReadOp_devid ask hplain (by rwa [s.accept_reg h (by decide) (by decide)]) hrec
  rw [State.serve_eq (by omega), hdo]
  have hval : (s.accept h).devidRead.out.value = toBytes 4 (s.reg O.identDevid) :=
    congrArg (toBytes 4) (s.accept_reg h (by decide) (by decide) 0)
  have hfree : PortFree (s.accept h).devidRead port := hport
  have hresp := State.respond_responded (s.accept h).devidRead port enc (s.reqKey h)
    (h.answerOf (s.accept h).devidRead)
  obtain ⟨mac, hsent⟩ := hfree.responds enc (s.reqKey h) (h.answerOf (s.accept h).devidRead)
  obtain ⟨h1, h2, h3, h4⟩ := h.answerOf_answers (s.accept h).devidRead
  refine ⟨hresp.status, ⟨_, mac, hsent, h1, h2, h3, h4, ?_⟩, ?_, ?_⟩
  · rw [Hdp.answerOf_value hop rfl, hval]
  · exact (hresp.reg _ _ (by decide)).trans (s.accept_seq h)
  · exact (hresp.session h.session).trans (s.accept_session h)

/-- The segments of a value that fits one. -/
theorem bulkSegments_one (h : Hdp) {v : List Byte} (h0 : v ≠ []) (h1 : v.length ≤ 1024) :
    bulkSegments h v = [h.response 0 0 0 v.length v] := by
  have hlen : 0 < v.length := List.length_pos_iff.mpr h0
  have hn : (v.length + 1023) / 1024 = 1 := by omega
  have hall : slice v 0 1024 = v := List.take_of_length_le h1
  simp [bulkSegments, hn, Nat.not_lt.mpr h1, hall]

theorem State.serve_readBulk {s : State} {h : Hdp} (hop : h.op = 3) (port : Nat) (enc : Encap) :
    s.serve port enc h = (s.accept h).hdpReadBulk port enc (s.reqKey h) h := by
  rw [State.serve]
  exact if_pos hop

theorem State.hdpReadBulk_devid {s : State} {h : Hdp} (ask : AsksDevid h) (htotal : h.total = 4)
    (hopen : s.openBulk h.session = []) (hr : bit (s.reg O.secRights h.session) 0 = true)
    (hrec : s.sys.recovery = false) (port : Nat) (enc : Encap) (key : List Byte) :
    s.hdpReadBulk port enc key h = s.devidRead.respond port enc key
      (h.response 0 0 0 4 (toBytes 4 (s.reg O.identDevid))) := by
  have hright : ¬ (!bit (s.rights (.ses h.session)) 0) = true := by simp [State.rights, hr]
  have hcode : ¬ (resolve O.identDevid 0).code ≠ 0 := by rw [resolve_devid]; decide
  have hcount : bulkCount (resolve O.identDevid 0) 4 = some 1 := by decide
  have hfew : ¬ 4 ≤ (s.openBulk h.session).length := by simp [hopen]
  have hsegs : bulkSegments h (toBytes 4 (s.reg O.identDevid)) =
      [h.response 0 0 0 4 (toBytes 4 (s.reg O.identDevid))] := by
    rw [bulkSegments_one h (by simp [← List.length_pos_iff]) (by simp), toBytes_length]
  rw [State.hdpReadBulk, ask.index, ask.sub, ask.elem, htotal]
  simp only [if_neg hright, if_neg hfew, if_neg hcode, hcount, State.readCheck_devid hr, ask.value,
    State.readEntry_devid hr hrec]
  have hout : s.devidRead.out.status = 0 := rfl
  have hval : s.devidRead.out.value = toBytes 4 (s.reg O.identDevid) := rfl
  simp [hout, hval, hsegs]

theorem State.serve_readBulk_devid {s : State} {port : Nat} {enc : Encap} {h : Hdp} (hop : h.op = 3)
    (ask : AsksDevid h) (htotal : h.total = 4) (hopen : s.openBulk h.session = [])
    (hr : bit (s.reg O.secRights h.session) 0 = true) (hrec : s.sys.recovery = false) (hport : PortFree s port) :
    ∃ (r : Hdp) (mac : List Byte), (s.serve port enc h).out.sent =
        s.out.sent ++ [.hdp port (Encap.back enc) (r.wire mac)] ∧ r.seq = h.seq ∧ r.offset = 0 ∧ r.total = 4 ∧
        bit r.flags 6 = false ∧ r.status = 0 ∧ r.value = toBytes 4 (s.reg O.identDevid) := by
  have hserve := State.hdpReadBulk_devid (s := s.accept h) ask htotal hopen
    (by rwa [s.accept_reg h (by decide) (by decide)]) hrec port enc (s.reqKey h)
  have hfree : PortFree (s.accept h).devidRead port := hport
  rw [State.serve_readBulk hop, hserve, s.accept_reg h (by decide) (by decide)]
  obtain ⟨mac, hsent⟩ := hfree.responds enc (s.reqKey h) (h.response 0 0 0 4 (toBytes 4 (s.reg O.identDevid)))
  exact ⟨_, mac, hsent, rfl, rfl, rfl, show bit (flagResponse + 0) 6 = false by decide, rfl, rfl⟩

/-! ### WRITE of EVENT.IRQ_EN -/

/-- The object EVENT.IRQ_EN. -/
def irqEnObj : Obj := ⟨O.eventIrqEn, .bool, .rwp, 1, false, .element, .span 0 1⟩

theorem objAt_irqEn : objAt O.eventIrqEn = some irqEnObj := by decide

theorem resolve_irqEn : resolve O.eventIrqEn 0 = ⟨0, O.eventIrqEn, 0, 1, .plain⟩ := by decide

/-- EVENT.IRQ_EN has been written. -/
def State.irqEnWritten (s : State) (v : Nat) : State :=
  ((s.setReg O.eventIrqEn 0 v).record O.eventIrqEn 0 v).answer 0

theorem valueCheck_irqEn {v : Nat} (hv : v ≤ 1) : valueCheck O.eventIrqEn v = 0 := by
  rcases Nat.le_one_iff_eq_zero_or_eq_one.mp hv with rfl | rfl <;> decide

theorem State.gate_irqEn {s : State} {k : Nat} (hr : bit (s.reg O.secRights k) 1 = true) :
    s.gate (.ses k) O.eventIrqEn 0 = 0 := by
  simp [State.gate, State.rights, show rightOf O.eventIrqEn = 1 by decide, hr, objAt_irqEn, irqEnObj,
    s.islandDead_of_keeper (i := O.eventIrqEn) (by decide)]

theorem State.hdpWriteOp_irqEn {s : State} {h : Hdp} (hidx : h.index = O.eventIrqEn) (hsub : h.sub = 0)
    (helem : h.elem = 0) (hlen : h.value.length = 1) (hv : ofBytes h.value ≤ 1)
    (hr : bit (s.reg O.secRights h.session) 1 = true) (hrec : s.sys.recovery = false) :
    s.hdpWriteOp h = s.irqEnWritten (ofBytes h.value) := by
  have hgate := State.gate_irqEn hr
  have hcheck : s.writeCheck (.ses h.session) (resolve O.eventIrqEn 0) 0 1 = 0 := by
    rw [resolve_irqEn]
    simp [State.writeCheck, State.rights, show rightOf O.eventIrqEn = 1 by decide, hr, Tgt.elem, hgate]
  have hobj : objAt (resolve O.eventIrqEn 0).idx = some irqEnObj := by rw [resolve_irqEn, objAt_irqEn]
  have helt : s.writeElem (.ses h.session) irqEnObj (resolve O.eventIrqEn 0) 0 h.value =
      s.writeObj (.ses h.session) O.eventIrqEn 0 (ofBytes h.value) := by
    rw [resolve_irqEn]
    simp [State.writeElem, show shortOk irqEnObj = false by decide, show irqEnObj.ty.width = 1 by decide, hlen,
      Tgt.elem, show irqEnObj.idx = O.eventIrqEn from rfl]
  have hobjw (w : Who) (v : Nat) : s.writeObj w O.eventIrqEn 0 v =
      s.write w O.eventIrqEn 0 v (store O.eventIrqEn 0 v) := rfl
  rw [State.hdpWriteOp, hidx, hsub, helem]
  simp only [hcheck, hobj, helt, hobjw]
  exact s.write_ok hgate (valueCheck_irqEn hv) (State.romOnly_of_running hrec _) rfl

theorem State.irqEnWritten_reg (s : State) (v : Nat) : (s.irqEnWritten v).reg O.eventIrqEn = v :=
  (State.record_reg _ (by decide) (by decide)).trans (State.reg_setReg_self ..)

theorem State.irqEnWritten_sent (s : State) (v : Nat) : (s.irqEnWritten v).out.sent = s.out.sent := by
  have hout := State.record_out (s.setReg O.eventIrqEn 0 v) O.eventIrqEn 0 v
  exact (congrArg Out.sent hout :)

theorem PortFree.irqEnWritten {s : State} {k : Nat} (h : PortFree s k) (v : Nat) : PortFree (s.irqEnWritten v) k := by
  rw [PortFree, show (s.irqEnWritten v).tim = s.tim from State.record_tim _ _ _ _]
  exact h

theorem State.serve_irqEn {s : State} {port : Nat} {enc : Encap} {h : Hdp} (hop : h.op = 2)
    (hidx : h.index = O.eventIrqEn) (hsub : h.sub = 0) (helem : h.elem = 0) (hlen : h.value.length = 1)
    (hv : ofBytes h.value ≤ 1) (hr : bit (s.reg O.secRights h.session) 1 = true) (hrec : s.sys.recovery = false)
    (hport : PortFree s port) :
    (s.serve port enc h).reg O.eventIrqEn = ofBytes h.value ∧ (s.serve port enc h).out.status = 0 ∧
      ∃ (r : Hdp) (mac : List Byte), (s.serve port enc h).out.sent =
        s.out.sent ++ [.hdp port (Encap.back enc) (r.wire mac)] ∧ r.seq = h.seq ∧ bit r.flags 7 = true ∧
        r.status = 0 := by
  have hdo : (s.accept h).operate port enc h = (s.accept h).irqEnWritten (ofBytes h.value) := by
    rw [State.operate, if_neg (by omega), if_pos hop]
    exact State.hdpWriteOp_irqEn hidx hsub helem hlen hv (by rwa [s.accept_reg h (by decide) (by decide)]) hrec
  rw [State.serve_eq (by omega), hdo]
  have hreg := (s.accept h).irqEnWritten_reg (ofBytes h.value)
  have hsent := (s.accept h).irqEnWritten_sent (ofBytes h.value)
  have hst : ((s.accept h).irqEnWritten (ofBytes h.value)).out.status = 0 := rfl
  have hfree := (hport.accept h).irqEnWritten (ofBytes h.value)
  generalize (s.accept h).irqEnWritten (ofBytes h.value) = u at *
  have hresp := State.respond_responded u port enc (s.reqKey h) (h.answerOf u)
  obtain ⟨mac, hmac⟩ := hfree.responds enc (s.reqKey h) (h.answerOf u)
  obtain ⟨h1, -, h3, h4⟩ := h.answerOf_answers u
  exact ⟨(hresp.reg _ _ (by decide)).trans hreg, hresp.status.trans hst, _, mac,
    hmac.trans (congrArg (· ++ _) (hsent.trans rfl)), h1, h3, h4.trans hst⟩

/-! ### The first segment of a WRITE_BULK to MAP.DRAFT_SRC (R396) -/

/-- The object MAP.DRAFT_SRC. -/
def draftObj : Obj :=
  ⟨O.mapDraftSrc, .u32, .rw, 122880, true, .element, .also 0 122879 [0xFFFFFFFE, 0xFFFFFFFF]⟩

theorem objAt_draft : objAt O.mapDraftSrc = some draftObj := by decide

theorem resolve_draft : resolve O.mapDraftSrc 0 = ⟨0, O.mapDraftSrc, 0, 122880, .plain⟩ := by decide

theorem State.bulkGate_draft {s : State} {h : Hdp} (hidx : h.index = O.mapDraftSrc) (hsub : h.sub = 0)
    (helem : h.elem + 1000 ≤ 122880) (htotal : h.total = 4000)
    (hr : bit (s.reg O.secRights h.session) 1 = true) (hon : s.sys.fabOn = true)
    (hopen : s.openBulk h.session = []) (first : Bool) : s.bulkGate h first = 0 := by
  have hright : rightOf O.mapDraftSrc = 1 := by decide
  have hgate : s.gate (.ses h.session) O.mapDraftSrc h.elem = 0 := by
    have hin : ¬ 122880 ≤ h.elem := by omega
    simp [State.gate, State.rights, hright, hr, objAt_draft, draftObj, State.islandDead, hon, hin]
  have hcount : bulkCount (resolve O.mapDraftSrc 0) 4000 = some 1000 := by decide
  have hcheck : s.writeCheck (.ses h.session) (resolve O.mapDraftSrc 0) h.elem 1000 = 0 := by
    rw [resolve_draft]
    simp [State.writeCheck, State.rights, hright, hr, Tgt.elem, hgate, Nat.not_lt.mpr helem]
  have hcode : (resolve O.mapDraftSrc 0).code = 0 := by rw [resolve_draft]
  have hobj : (resolve O.mapDraftSrc 0).idx = O.mapDraftSrc := by rw [resolve_draft]
  simp [State.bulkGate, hidx, hsub, htotal, hcode, hobj, hcount, hcheck, State.rights, hright, hr, hopen]

/-- The transfer that a first segment opens. -/
def State.opened (s : State) (h : Hdp) : Bulk :=
  ⟨h.session, h.xfer, h.index, h.sub, h.elem, h.total, h.value, s.tick, h.offset, none⟩

theorem State.hdpWriteBulk_draft {s : State} {h : Hdp} (hidx : h.index = O.mapDraftSrc) (hsub : h.sub = 0)
    (helem : h.elem + 1000 ≤ 122880) (htotal : h.total = 4000) (hoff : h.offset = 0) (hlen : h.value.length = 1024)
    (hmore : bit h.flags 6 = true) (hr : bit (s.reg O.secRights h.session) 1 = true) (hon : s.sys.fabOn = true)
    (hopen : s.openBulk h.session = []) (hnone : s.bulkAt h.session h.xfer = none) :
    s.hdpWriteBulk h = (s.putBulk (s.opened h)).answer 0 := by
  have hgate := State.bulkGate_draft hidx hsub helem htotal hr hon hopen true
  simp [State.hdpWriteBulk, hnone, State.bulkFirst, hgate, hoff, State.bulkJoin, hmore, hlen, htotal, State.opened]

/-- A transfer that is put is found, where none had its number. -/
theorem State.bulkAt_putBulk (s : State) (b : Bulk) : (s.putBulk b).bulkAt b.ses b.xfer = some b := by
  have hgone : (s.hdp.bulk.filter fun y => !(y.ses == b.ses && (y.xfer == b.xfer ||
      (b.closed.isSome && y.closed.isSome)))).find? (fun y => y.ses == b.ses && y.xfer == b.xfer) = none := by
    rw [List.find?_eq_none]
    intro y hy hyes
    obtain ⟨-, hkeep⟩ := List.mem_filter.mp hy
    obtain ⟨h1, h2⟩ := Bool.and_eq_true_iff.mp hyes
    simp [h1, h2] at hkeep
  rw [State.bulkAt, State.putBulk, List.find?_append, hgone]
  simp

theorem Responded.bulkAt {s t : State} (h : Responded s t) (k x : Nat) : t.bulkAt k x = s.bulkAt k x := by
  rw [State.bulkAt, h.hdp, State.bulkAt]

/-- A request that is answered whole leaves what its operation left. -/
theorem State.serve_responded {s u : State} {h : Hdp} (hop : h.op ≠ 3) (port : Nat) (enc : Encap)
    (hu : (s.accept h).operate port enc h = u) : Responded u (s.serve port enc h) := by
  rw [State.serve_eq hop, hu]
  exact u.respond_responded port enc _ _

theorem State.serve_draft {s : State} {port : Nat} {enc : Encap} {h : Hdp} (hop : h.op = 4)
    (hidx : h.index = O.mapDraftSrc) (hsub : h.sub = 0) (helem : h.elem + 1000 ≤ 122880) (htotal : h.total = 4000)
    (hoff : h.offset = 0) (hlen : h.value.length = 1024) (hmore : bit h.flags 6 = true)
    (hr : bit (s.reg O.secRights h.session) 1 = true) (hon : s.sys.fabOn = true)
    (hopen : s.openBulk h.session = []) (hnone : s.bulkAt h.session h.xfer = none) :
    (s.serve port enc h).out.status = 0 ∧
      (s.serve port enc h).bulkAt h.session h.xfer = some ((s.accept h).opened h) ∧
      ∀ a, (s.serve port enc h).reg O.mapDraftSrc a = s.reg O.mapDraftSrc a := by
  have hdo : (s.accept h).operate port enc h = ((s.accept h).putBulk ((s.accept h).opened h)).answer 0 := by
    rw [State.operate, if_neg (by omega), if_neg (by omega), if_pos hop]
    exact State.hdpWriteBulk_draft hidx hsub helem htotal hoff hlen hmore
      (by rwa [s.accept_reg h (by decide) (by decide)]) hon hopen hnone
  have hresp := State.serve_responded (by omega) port enc hdo
  refine ⟨hresp.status, ?_, fun a => ?_⟩
  · rw [hresp.bulkAt]
    exact (s.accept h).bulkAt_putBulk ((s.accept h).opened h)
  · exact (hresp.reg _ a (by decide)).trans (s.accept_reg h (by decide) (by decide) a)

/-! ### SUBSCRIBE and ABORT (R399, R401) -/

/-- The session of a SUBSCRIBE that is served. -/
def Ses.subscribed (x : Ses) (port : Nat) (enc : Encap) (b : Nat) : Ses :=
  { x with sub := b, subPort := port, subEnc := Encap.back enc, lost := x.lost && b != 0,
           queue := x.queue.filter fun r => octBit 64 b r.ev }

theorem State.hdpSubscribe_served {s : State} {h : Hdp} (hlen : h.value.length = 64)
    (hr : bit (s.reg O.secRights h.session) 0 = true) (hrec : s.sys.recovery = false) (port : Nat) (enc : Encap) :
    s.hdpSubscribe port enc h = (s.setSession h.session
      ((s.session h.session).subscribed port enc (ofBytes h.value))).answer 0 := by
  simp [State.hdpSubscribe, State.rights, hr, hlen, hrec, Ses.subscribed]

theorem State.serve_subscribe {s : State} {h : Hdp} (hop : h.op = 5) (hlen : h.value.length = 64)
    (hr : bit (s.reg O.secRights h.session) 0 = true) (hrec : s.sys.recovery = false) (port : Nat) (enc : Encap) :
    (s.serve port enc h).session h.session = (s.acceptedSes h).subscribed port enc (ofBytes h.value) ∧
      (s.serve port enc h).out.status = 0 := by
  have hdo : (s.accept h).operate port enc h = ((s.accept h).setSession h.session
      ((s.acceptedSes h).subscribed port enc (ofBytes h.value))).answer 0 := by
    rw [State.operate, if_neg (by omega), if_neg (by omega), if_neg (by omega), if_pos hop, ← s.accept_session h]
    exact State.hdpSubscribe_served (s := s.accept h) hlen (by rwa [s.accept_reg h (by decide) (by decide)]) hrec
      port enc
  have hresp := State.serve_responded (by omega) port enc hdo
  refine ⟨?_, hresp.status⟩
  rw [hresp.session]
  exact State.session_setSession_self ..

theorem State.bulkAt_dropBulk (s : State) (k x : Nat) : (s.dropBulk k x).bulkAt k x = none := by
  rw [State.bulkAt, List.find?_eq_none]
  intro y hy hyes
  obtain ⟨-, hkeep⟩ := List.mem_filter.mp hy
  obtain ⟨h1, h2⟩ := Bool.and_eq_true_iff.mp hyes
  simp [h1, h2] at hkeep

theorem State.hdpAbort_bulk {s : State} {h : Hdp} {b : Bulk} (hidx : h.index = 0) (hx : h.xfer ≠ 0)
    (hr : bit (s.reg O.secRights h.session) 2 = true) (hb : s.bulkAt h.session h.xfer = some b)
    (hopen : b.closed = none) : s.hdpAbort h = (s.dropBulk h.session h.xfer).answer 0 := by
  simp [State.hdpAbort, State.rights, hr, hidx, show ¬ (0 = O.fwStageSegment) by decide, hx, hb, hopen]

theorem State.serve_abort {s : State} {h : Hdp} {b : Bulk} (hop : h.op = 7) (hidx : h.index = 0) (hx : h.xfer ≠ 0)
    (hr : bit (s.reg O.secRights h.session) 2 = true) (hb : s.bulkAt h.session h.xfer = some b)
    (hopen : b.closed = none) (port : Nat) (enc : Encap) :
    (s.serve port enc h).bulkAt h.session h.xfer = none ∧ (s.serve port enc h).out.status = 0 := by
  have hdo : (s.accept h).operate port enc h = ((s.accept h).dropBulk h.session h.xfer).answer 0 := by
    rw [State.operate, if_neg (by omega), if_neg (by omega), if_neg (by omega), if_neg (by omega), if_neg (by omega),
      if_pos hop]
    exact State.hdpAbort_bulk hidx hx (by rwa [s.accept_reg h (by decide) (by decide)]) hb hopen
  have hresp := State.serve_responded (by omega) port enc hdo
  refine ⟨?_, hresp.status⟩
  rw [hresp.bulkAt]
  exact (s.accept h).bulkAt_dropBulk h.session h.xfer

/-! ### What events leave of a session (R400) -/

/-- What a session keeps when it takes note of an event. -/
def Ses.lasting (x : Ses) : List (Nat × Encap × List Byte) × Nat × Bool × Nat := (x.waiting, x.ceil, x.idle, x.sub)

theorem Ses.notice_lasting (x : Ses) (ev now : Nat) : (x.notice ev now).lasting = x.lasting := by
  simp only [Ses.notice]
  split_ifs <;> rfl

/-- What a session keeps, and the transfers. -/
def State.sesLasting (s : State) (k : Nat) : (List (Nat × Encap × List Byte) × Nat × Bool × Nat) × List Bulk :=
  ((s.session k).lasting, s.hdp.bulk)

theorem State.sesLasting_setSession (s : State) {j : Nat} {y : Ses} (h : y.lasting = (s.session j).lasting) (k : Nat) :
    (s.setSession j y).sesLasting k = s.sesLasting k := by
  have hbulk : (s.setSession j y).hdp.bulk = s.hdp.bulk := rfl
  rw [State.sesLasting, hbulk]
  by_cases hj : k = j
  · rw [hj, State.session_setSession_self, h, State.sesLasting]
  · rw [State.session_setSession_ne _ _ hj, State.sesLasting]

theorem State.raise_sesLasting (s : State) (ev k : Nat) : (s.raise ev).sesLasting k = s.sesLasting k := by
  have hhdp {a b : State} (h : a.hdp = b.hdp) : a.sesLasting k = b.sesLasting k := by
    simp only [State.sesLasting, State.session, h]
  have hlatch (a : State) (e : Nat) : (a.latch e).sesLasting k = a.sesLasting k := by
    refine hhdp ?_
    simp only [State.latch]
    split_ifs
    · rfl
    · simp only [State.setReg_hdp, State.bump_hdp, State.setOct_hdp]
  have hbump (a : State) : (a.bump O.hdpStats 7 48).sesLasting k = a.sesLasting k := hhdp (a.bump_hdp ..)
  simp only [State.raise]
  split_ifs
  · rfl
  · refine ((s.latch ev).notifyAll_same (fun t => t.sesLasting k) ev fun a e => ?_).trans (hlatch s ev)
    refine foldRange_same (fun t : State × Nat => t.1.sesLasting k) 8 _ (a, 0) fun b x => ?_
    have hnote : (b.1.setSession x ((b.1.session x).notice e b.1.nowTime)).sesLasting k = b.1.sesLasting k :=
      b.1.sesLasting_setSession (Ses.notice_lasting ..) k
    simp only []
    split_ifs
    · rw [hbump, hlatch, hnote]
    · exact hnote
    · rfl

theorem State.raiseLim_sesLasting (s : State) (ev key n k : Nat) :
    (s.raiseLim ev key n).sesLasting k = s.sesLasting k := by
  simp only [State.raiseLim]
  split_ifs
  · rfl
  · exact s.raise_sesLasting ev k

theorem State.discard_sesLasting (s : State) (n k : Nat) : (s.discard n).sesLasting k = s.sesLasting k := by
  have hstat : (s.hdpStat n 1).sesLasting k = s.sesLasting k := rfl
  simp only [State.discard]
  split_ifs
  · exact hstat
  · rw [State.raiseLim_sesLasting, hstat]

/-! ### The requests that waited for a ceiling (R394) -/

/-- A session whose new ceiling is stored, with no request that waits. -/
def Ses.ceiled (x : Ses) (c : Nat) : Ses := { x with waiting := [], ceil := c }

/-- The ceiling that a request asks for. -/
def Hdp.ceiling (h : Hdp) : Nat := min (h.seq + 2 ^ 24) (2 ^ 48 - 1)

section
variable {s : State} {k port : Nat} {enc : Encap} {m : List Byte}

theorem State.ceilingWritten_one (hwait : (s.session k).waiting = [(port, enc, m)]) :
    s.ceilingWritten k =
      (s.setSession k ((s.session k).ceiled (hdpFields m).ceiling)).takeIn port enc (hdpFields m) m := by
  simp only [State.ceilingWritten]
  split
  next hnil => exact absurd (hwait.symm.trans hnil) (by simp)
  next r l hcons =>
    obtain ⟨rfl, rfl⟩ := List.cons.inj (hwait.symm.trans hcons)
    simp only [List.foldl_cons, List.foldl_nil, Ses.ceiled, Hdp.ceiling]

/-- What authentication and the window of SEQ go by does not change with the ceiling. -/
theorem State.ceiled_key (s : State) (k j c : Nat) :
    ((s.setSession k ((s.session k).ceiled c)).session j).key = (s.session j).key ∧
      ((s.setSession k ((s.session k).ceiled c)).session j).win = (s.session j).win ∧
      ((s.setSession k ((s.session k).ceiled c)).session j).floor = (s.session j).floor := by
  by_cases hj : j = k
  · rw [hj, State.session_setSession_self]
    simp only [Ses.ceiled, and_self]
  · rw [State.session_setSession_ne _ _ hj]
    simp only [and_self]

theorem State.authentic_ceiled (c : Nat) (h : Hdp) (w : List Byte) :
    (s.setSession k ((s.session k).ceiled c)).authentic h w = s.authentic h w := by
  have hreg (e : Nat) : (s.setSession k ((s.session k).ceiled c)).reg O.secKeyState e = s.reg O.secKeyState e := rfl
  simp only [State.authentic, hreg, (s.ceiled_key k h.session c).1]

theorem State.fresh48_ceiled (c : Nat) (h : Hdp) :
    (s.setSession k ((s.session k).ceiled c)).fresh48 h = s.fresh48 h := by
  obtain ⟨-, h2, h3⟩ := s.ceiled_key k h.session c
  have hreg (e : Nat) : (s.setSession k ((s.session k).ceiled c)).reg O.hdpSessionSeq e = s.reg O.hdpSessionSeq e := rfl
  simp only [State.fresh48, hreg, h2, h3]

theorem State.ceilingWritten_discards (hwait : (s.session k).waiting = [(port, enc, m)])
    (hauth : s.authentic (hdpFields m) m = false) :
    s.ceilingWritten k = (s.setSession k ((s.session k).ceiled (hdpFields m).ceiling)).discard 4 := by
  rw [State.ceilingWritten_one hwait, State.takeIn_unauthentic (by rw [State.authentic_ceiled, hauth])]

theorem State.ceilingWritten_serves (hwait : (s.session k).waiting = [(port, enc, m)])
    (hses : (hdpFields m).session = k) (hauth : s.authentic (hdpFields m) m = true)
    (hseq : s.fresh48 (hdpFields m) = true) (hfar : (hdpFields m).seq + 65536 < 2 ^ 48 - 1) :
    s.ceilingWritten k =
      (s.setSession k ((s.session k).ceiled (hdpFields m).ceiling)).serve port enc (hdpFields m) := by
  rw [State.ceilingWritten_one hwait]
  refine State.takeIn_served (by rw [State.authentic_ceiled, hauth]) (by rw [State.fresh48_ceiled, hseq]) ?_ ?_
  · rw [hses, State.session_setSession_self]
    rfl
  · rw [State.nearCeiling, hses, State.session_setSession_self, decide_eq_false_iff_not]
    change ¬ (hdpFields m).ceiling ≤ (hdpFields m).seq + 65536
    simp only [Hdp.ceiling]
    omega

end

/-! ### Sessions that end, transfers that stop, and NOTIFY (R395, R396, R400) -/

/-- A session without subscription and transfers. -/
def State.cleared (s : State) (k : Nat) : State :=
  let s := s.setSession k { s.session k with sub := 0, queue := [], lost := false }
  { s with hdp := { s.hdp with bulk := s.hdp.bulk.filter fun b => b.ses != k } }

theorem State.cleared_bulk (s : State) (k : Nat) : ∀ b ∈ (s.cleared k).hdp.bulk, b.ses ≠ k := by
  intro b hb
  simpa using (List.mem_filter.mp hb).2

theorem State.cleared_sub (s : State) (k : Nat) : ((s.cleared k).session k).sub = 0 := by
  have h : (s.cleared k).session k =
      (s.setSession k { s.session k with sub := 0, queue := [], lost := false }).session k := rfl
  rw [h, State.session_setSession_self]

/-- A session is idle. -/
def State.idled (s : State) (k : Nat) : State := s.setSession k { s.session k with idle := true }

theorem State.sessionIdle_eq {s : State} {k : Nat} (hidle : (s.session k).idle = false)
    (hold : s.elapsed (s.session k).lastTick (secTicks (s.reg O.hdpSessionIdle)) = true) :
    s.sessionIdle k = (((foldRange 8 (fun s d => s.tokBack k d) s).cleared k).idled k).raise 508 := by
  have hif : (!(s.session k).idle && s.elapsed (s.session k).lastTick (secTicks (s.reg O.hdpSessionIdle))) = true := by
    rw [hidle, hold]
    rfl
  rw [State.sessionIdle, if_pos hif]
  rfl

theorem State.sessionIdle_tells {s : State} {k : Nat} (hidle : (s.session k).idle = false)
    (hold : s.elapsed (s.session k).lastTick (secTicks (s.reg O.hdpSessionIdle)) = true) :
    ((s.sessionIdle k).session k).idle = true ∧ ((s.sessionIdle k).session k).sub = 0 ∧
      (∀ b ∈ (s.sessionIdle k).hdp.bulk, b.ses ≠ k) ∧ (s.sessionIdle k).latched 508 = true := by
  rw [State.sessionIdle_eq hidle hold]
  generalize foldRange 8 (fun (s : State) d => s.tokBack k d) s = u
  have hses : ((u.cleared k).idled k).session k = { (u.cleared k).session k with idle := true } :=
    State.session_setSession_self ..
  have hkept := ((u.cleared k).idled k).raise_sesLasting 508 k
  simp only [State.sesLasting, Ses.lasting, hses, Prod.mk.injEq] at hkept
  obtain ⟨⟨-, -, h3, h4⟩, hbulk⟩ := hkept
  refine ⟨h3, h4.trans (u.cleared_sub k), ?_, State.latched_raise_self (.inl (by decide))⟩
  rw [hbulk]
  exact u.cleared_bulk k

theorem State.bulkTimeout_drops {s : State} {k x : Nat} {b : Bulk} (hb : s.bulkAt k x = some b)
    (hopen : b.closed = none) (hold : s.elapsed b.last (secTicks 1 + 1) = true) :
    s.bulkTimeout k x = s.dropBulk k x := by
  simp [State.bulkTimeout, hb, hopen, hold]

/-- The records that a NOTIFY carries. -/
def Ses.notes (x : Ses) : List Byte := (x.queue.take 64).flatMap NRec.bytes

/-- A NOTIFY of session `k`. -/
def Ses.notifyMsg (x : Ses) (k : Nat) : Hdp :=
  ⟨8, if x.lost then flagOverflow else 0, k, x.nseq + 1, 0, 0, 0, 0, 0, 0, 0, x.notes⟩

/-- A session whose records have gone. -/
def Ses.notifiedAt (x : Ses) (t : Nat) : Ses :=
  { x with queue := x.queue.drop 64, lost := false, nseq := (x.nseq + 1) % M48, lastNotify := t, notified := true }

theorem State.notify_sends {s : State} {k : Nat} (hsub : (s.session k).sub ≠ 0) (hqueue : (s.session k).queue ≠ [])
    (hlast : (s.session k).notified = false ∨ s.elapsed (s.session k).lastNotify (msTicks 1) = true)
    (hboot : s.sys.booting = false) (hrestart : s.sys.restarting = false) (hport : PortFree s (s.session k).subPort) :
    (s.notify k).session k = (s.session k).notifiedAt s.tick ∧
      ∃ mac, (s.notify k).out.sent = s.out.sent ++
        [.hdp (s.session k).subPort (s.session k).subEnc (((s.session k).notifyMsg k).wire mac)] := by
  have hsoon : ((s.session k).notified && !s.elapsed (s.session k).lastNotify (msTicks 1)) = false := by
    rcases hlast with h | h <;> simp [h]
  have hif : ¬ (decide ((s.session k).sub = 0) || ((s.session k).queue.isEmpty && !(s.session k).lost) ||
      ((s.session k).notified && !s.elapsed (s.session k).lastNotify (msTicks 1)) || s.sys.booting ||
      s.sys.restarting) = true := by
    simp [hsub, hqueue, hsoon, hboot, hrestart]
  have hfree : PortFree (s.setSession k ((s.session k).notifiedAt s.tick)) (s.session k).subPort := hport
  have heq : s.notify k = ((s.setSession k ((s.session k).notifiedAt s.tick)).sendPort (s.session k).subPort
      (hdpBytes (s.session k).subEnc (((s.session k).notifyMsg k).wire
        (hmac (s.session k).key ((s.session k).notifyMsg k).bytes)).length)
      (.hdp (s.session k).subPort (s.session k).subEnc (((s.session k).notifyMsg k).wire
        (hmac (s.session k).key ((s.session k).notifyMsg k).bytes)))).hdpStat 6 1 := by
    rw [State.notify, if_neg hif]
    rfl
  rw [heq]
  refine ⟨?_, hmac (s.session k).key ((s.session k).notifyMsg k).bytes, hfree.sends _ _⟩
  exact (((State.sendPort_responded _ _ _ _).trans (State.hdpStat_responded _ 6 1)).session k).trans
    (State.session_setSession_self ..)

/-! ### ICMPv6 (R388) -/

theorem State.neighbor_sends {s : State} {p a : Nat} (hown : s.ownAddress p a = true) (hport : PortFree s p) :
    (s.neighbor p a).out.sent = s.out.sent ++ [.icmp p 136 a (toBytes 6 (s.reg O.hdpMac p))] ∧
      OnlyElems [] s (s.neighbor p a) := by
  rw [State.neighbor, if_pos hown]
  exact ⟨hport.sends _ _, fun i e _ _ _ => s.sendPort_reg p _ _ i e⟩

theorem State.echo_sends {s : State} {p a : Nat} {l : List Byte} (hown : s.ownAddress p a = true)
    (hport : PortFree s p) :
    (s.echo p a l).out.sent = s.out.sent ++ [.icmp p 129 a l] ∧ OnlyElems [] s (s.echo p a l) := by
  rw [State.echo, if_pos hown]
  exact ⟨hport.sends _ _, fun i e _ _ _ => s.sendPort_reg p _ _ i e⟩

/-! ### The commands -/

theorem State.discard_ceiled (s : State) (k c : Nat) :
    (((s.setSession k ((s.session k).ceiled c)).discard 4).session k).waiting = [] ∧
      (((s.setSession k ((s.session k).ceiled c)).discard 4).session k).ceil = c ∧
      ∀ i e, evObj i = false → ((s.setSession k ((s.session k).ceiled c)).discard 4).reg i e = s.reg i e := by
  have hx : (s.setSession k ((s.session k).ceiled c)).session k = (s.session k).ceiled c :=
    State.session_setSession_self ..
  have hreg (i e : Nat) : (s.setSession k ((s.session k).ceiled c)).reg i e = s.reg i e := rfl
  generalize s.setSession k ((s.session k).ceiled c) = u at *
  have hkept := u.discard_sesLasting 4 k
  simp only [State.sesLasting, Ses.lasting, Prod.mk.injEq, hx] at hkept
  obtain ⟨⟨h1, h2, -⟩, -⟩ := hkept
  exact ⟨h1, h2, fun i e hev => (u.discard_regs 4 i e hev (by simp)).trans (hreg i e)⟩

theorem runs_ceilingRefused {s : State} {k port : Nat} {enc : Encap} {m : List Byte} (hk : k < 8)
    (hwait : (s.session k).waiting = [(port, enc, m)]) (hauth : s.authentic (hdpFields m) m = false) :
    Runs (.seqCeilingWritten k) s fun t =>
      (t.session k).waiting = [] ∧ (t.session k).ceil = (hdpFields m).ceiling ∧ OnlyElems [] s t := by
  refine runs_of_runIn (exec_seqCeilingWritten s k) hk ?_
  rw [State.ceilingWritten_discards (s := s.fresh) hwait hauth]
  obtain ⟨h1, h2, h3⟩ := s.fresh.discard_ceiled k (hdpFields m).ceiling
  generalize (s.fresh.setSession k ((s.fresh.session k).ceiled (hdpFields m).ceiling)).discard 4 = t at *
  exact ⟨h1, h2, fun i e _ hev _ => h3 i e hev⟩

theorem runs_ceilingServed {s : State} {k port : Nat} {enc : Encap} {m : List Byte} (hk : k < 8)
    (hwait : (s.session k).waiting = [(port, enc, m)]) (hses : (hdpFields m).session = k)
    (hauth : s.authentic (hdpFields m) m = true) (hseq : s.fresh48 (hdpFields m) = true)
    (hfar : (hdpFields m).seq + 65536 < 2 ^ 48 - 1) (hop : (hdpFields m).op = 1) (ask : AsksDevid (hdpFields m))
    (hplain : bit (hdpFields m).flags 5 = false) (hr : bit (s.reg O.secRights k) 0 = true)
    (hrec : s.sys.recovery = false) (hport : PortFree s port) :
    Runs (.seqCeilingWritten k) s fun t =>
      (t.session k).waiting = [] ∧ (t.session k).ceil = (hdpFields m).ceiling ∧
      t.reg O.hdpSessionSeq k = max (hdpFields m).seq (s.reg O.hdpSessionSeq k) ∧
      ∃ (r : Hdp) (mac : List Byte), t.out.sent = [.hdp port (Encap.back enc) (r.wire mac)] ∧
        r.seq = (hdpFields m).seq ∧ r.status = 0 ∧ r.value = toBytes 4 (s.reg O.identDevid) := by
  refine runs_of_runIn (exec_seqCeilingWritten s k) hk ?_
  rw [State.ceilingWritten_serves (s := s.fresh) hwait hses hauth hseq hfar]
  obtain ⟨-, ⟨r, mac, hsent, h1, -, -, h4, h5⟩, hmax, hsession⟩ :=
    State.serve_devid (s := s.fresh.setSession k ((s.fresh.session k).ceiled (hdpFields m).ceiling)) (port := port)
      (enc := enc) hop ask hplain (hses.symm ▸ hr) hrec hport
  have hx : (s.fresh.setSession k ((s.fresh.session k).ceiled (hdpFields m).ceiling)).session k =
      (s.fresh.session k).ceiled (hdpFields m).ceiling := State.session_setSession_self ..
  rw [hses] at hmax hsession
  rw [State.acceptedSes, hses, hx] at hsession
  generalize (s.fresh.setSession k ((s.fresh.session k).ceiled (hdpFields m).ceiling)).serve port enc
    (hdpFields m) = t at *
  refine ⟨(congrArg Ses.waiting hsession).trans ?_, (congrArg Ses.ceil hsession).trans ?_, hmax, r, mac, hsent, h1, h4,
    h5⟩
  · simp only [Ses.ceiled]
  · simp only [Ses.ceiled]

/-- Settles O30. -/
theorem hdpService : Obligations.HdpService := by
  refine ⟨fun s port enc m h ha hidx hsub helem hval hplain hr hrec hport => ?_,
    fun s port enc m h ha hidx hsub helem hlen hv hr hrec hport => ?_,
    fun s port enc m h ha hidx hsub helem hval htotal hr hrec hopen hport => ?_,
    fun s port enc m h ha hidx hsub helem htotal hoff hlen hmore hr hrec hon hopen hnone => ?_,
    fun s port enc m h ha hlen hr hrec => ?_, fun s port enc m h b ha hidx hx hr hb hopen => ?_,
    fun s k hk hsub hqueue hlast hboot hrestart hport => ?_,
    fun s k port enc m hk hwait hauth => runs_ceilingRefused hk hwait hauth, ?_,
    fun s k hk hidle hold => ?_, fun s k x b hk hb hopen hold => ?_, fun s p a hp hown hport => ?_,
    fun s p a l hp hown hport => ?_⟩
  · refine ha.runs (by simp [hdpCommands]) ?_
    obtain ⟨h1, h2, h3, -⟩ := State.serve_devid (s := s.fresh) (port := port) (enc := enc) ha.2.2.2.1
      ⟨hidx, hsub, helem, hval⟩ hplain hr hrec hport
    exact ⟨h1, h2, h3⟩
  · refine ha.runs (by simp [hdpCommands]) ?_
    obtain ⟨h1, h2, h3⟩ := State.serve_irqEn (s := s.fresh) (port := port) (enc := enc) ha.2.2.2.1 hidx hsub helem hlen
      hv hr hrec hport
    exact ⟨h1, h2, h3⟩
  · refine ha.runs (by simp [hdpCommands]) ?_
    exact State.serve_readBulk_devid (s := s.fresh) ha.2.2.2.1 ⟨hidx, hsub, helem, hval⟩ htotal hopen hr hrec hport
  · refine ha.runs (by simp [hdpCommands]) ?_
    obtain ⟨h1, h2, h3⟩ := State.serve_draft (s := s.fresh) (port := port) (enc := enc) ha.2.2.2.1 hidx hsub helem
      htotal hoff hlen hmore hr hon hopen hnone
    exact ⟨h1, ⟨_, h2, rfl, htotal, rfl⟩, h3⟩
  · refine ha.runs (by simp [hdpCommands]) ?_
    obtain ⟨h1, h2⟩ := State.serve_subscribe (s := s.fresh) ha.2.2.2.1 hlen hr hrec port enc
    exact ⟨congrArg Ses.sub h1, congrArg Ses.subPort h1, congrArg Ses.subEnc h1, h2⟩
  · refine ha.runs (by simp [hdpCommands]) ?_
    exact State.serve_abort (s := s.fresh) ha.2.2.2.1 hidx hx hr hb hopen port enc
  · refine runs_of_runIn (exec_notify s k) hk ?_
    obtain ⟨h1, mac, h2⟩ := State.notify_sends (s := s.fresh) hsub hqueue hlast hboot hrestart hport
    exact ⟨congrArg Ses.queue h1, congrArg Ses.lastNotify h1, _, mac, h2, rfl, rfl, rfl⟩
  · rintro s k port enc m _ hk hwait rfl hses hauth hseq hfar hop hidx hsub helem hval hplain hr hrec hport
    exact runs_ceilingServed hk hwait hses hauth hseq hfar hop ⟨hidx, hsub, helem, hval⟩ hplain hr hrec hport
  · exact runs_of_runIn (exec_sessionIdle s k) hk (State.sessionIdle_tells (s := s.fresh) hidle hold)
  · refine runs_of_runIn (exec_bulkSegmentTimeout s k x) hk ?_
    rw [State.bulkTimeout_drops (s := s.fresh) hb hopen hold]
    exact ⟨s.fresh.bulkAt_dropBulk k x, fun _ _ _ _ _ => rfl⟩
  · exact runs_of_runIn (exec_neighborSolicitation s p a) hp (State.neighbor_sends (s := s.fresh) hown hport)
  · exact runs_of_runIn (exec_echoRequest s p a l) hp (State.echo_sends (s := s.fresh) hown hport)

end Sys2Proof.Machine

/-! Digest taps, records and their comparison (O10). -/

namespace Sys2Proof.Machine

/-! ### What passes a tap (R218) -/

theorem crcWords_append (l m : List Word) (c : Nat) : crcWords (l ++ m) c = crcWords m (crcWords l c) :=
  List.foldl_append

theorem tapWords_append (us : List SUnit) (u : SUnit) :
    tapWords (us ++ [u]) = tapWords us ++ (if u.tag = .word then u.ws else []) := by
  by_cases h : u.tag = .word <;> simp [tapWords, h]

/-- Tap `z` has seen a TPO-A of TSN `t` and the words `ws` after it; `dst` is where the frame goes. -/
structure TapSeen (z : Tap) (t : Nat) (dst : List Nat) (ws : List Word) : Prop where
  pos : z.pos = min (1 + ws.length) 406
  tsn : z.tsn = t
  dst : z.dst = dst
  pt : z.pt = (ws.headD 0).toNat % 16
  crc : z.crc = crcWords (ws.drop 1) crcInit

theorem Tap.step_empty (x : Tap) {u : SUnit} (h : u.tag = .empty) : x.step u = (x, none) := by
  rw [Tap.step, h]

/-- Unless a TPO-A or a client word comes, a tap leaves the frame. -/
theorem Tap.step_other (x : Tap) {u : SUnit} (h1 : u.tag ≠ .tpoa) (h2 : u.tag ≠ .word) (h3 : u.tag ≠ .empty) :
    x.step u = ({ x with pos := 0 }, none) := by
  rw [Tap.step]
  split
  · exact absurd ‹_› h1
  · exact absurd ‹_› h2
  · exact absurd ‹_› h3
  · rfl

theorem Tap.step_outside {x : Tap} {u : SUnit} (hpos : x.pos = 0) (h : u.tag ≠ .tpoa) :
    (x.step u).1.pos = 0 ∧ (x.step u).2 = none := by
  rw [Tap.step]
  split
  · exact absurd ‹_› h
  · rw [if_pos hpos]
    exact ⟨hpos, rfl⟩
  · exact ⟨hpos, rfl⟩
  · exact ⟨rfl, rfl⟩

/-- A TPO-A of one word begins a frame. -/
theorem Tap.step_tpoa (x : Tap) {a : SUnit} (htag : a.tag = .tpoa) (hlen : a.ws.length = 1) :
    TapSeen (x.step a).1 (a.ws.headD 0).toNat x.dst [] := by
  obtain ⟨w, hw⟩ := List.length_eq_one_iff.mp hlen
  rw [Tap.step, htag, hw]
  exact ⟨rfl, rfl, rfl, rfl, rfl⟩

/-- A TPO-A ends the frame before. -/
theorem Tap.step_ends (x : Tap) {b : SUnit} (htag : b.tag = .tpoa) :
    (x.step b).2 = if x.pos = 405 then some (x.tsn, crcOut x.crc, x.pt, x.dst) else none := by
  rw [Tap.step, htag]
  simp only []
  split <;> rfl

theorem TapSeen.word {z : Tap} {t : Nat} {dst : List Nat} {ws : List Word} (h : TapSeen z t dst ws) {u : SUnit}
    (htag : u.tag = .word) (hlen : u.ws.length = 1) : TapSeen (z.step u).1 t dst (ws ++ u.ws) := by
  obtain ⟨hpos, htsn, hdst, hpt, hcrc⟩ := h
  obtain ⟨w, hw⟩ := List.length_eq_one_iff.mp hlen
  have h0 : ¬ z.pos = 0 := by omega
  rw [Tap.step, htag, hw]
  simp only [if_neg h0, List.length_singleton, decide_true, Bool.and_true, decide_eq_true_eq]
  cases ws with
  | nil =>
    have h1 : z.pos = 1 := by simpa using hpos
    rw [if_pos h1]
    exact ⟨rfl, htsn, hdst, rfl, hcrc⟩
  | cons v ws =>
    have h1 : ¬ z.pos = 1 := by
      simp only [List.length_cons] at hpos
      omega
    rw [if_neg h1]
    refine ⟨?_, htsn, hdst, hpt, ?_⟩
    · simp only [List.length_append, List.length_cons, List.length_nil] at hpos ⊢
      split_ifs <;> omega
    · simp only [List.cons_append, List.drop_succ_cons, List.drop_zero] at hcrc ⊢
      rw [crcWords_append, ← hcrc]

/-- The units of a minor grain that pass between two TPO-As. -/
def Client (u : SUnit) : Prop := u.tag = .empty ∨ (u.tag = .word ∧ u.ws.length = 1)

theorem TapSeen.foldl {t : Nat} {dst : List Nat} {us : List SUnit} (hus : ∀ u ∈ us, Client u) {z : Tap}
    (h : TapSeen z t dst []) : TapSeen (us.foldl (fun y u => (y.step u).1) z) t dst (tapWords us) := by
  induction us using List.reverseRecOn with
  | nil => exact h
  | append_singleton us u ih =>
    have hbefore := ih fun v hv => hus v (by simp [hv])
    rw [List.foldl_append, tapWords_append]
    rcases hus u (by simp) with hempty | ⟨hword, hlen⟩
    · simpa [Tap.step_empty _ hempty, hempty] using hbefore
    · rw [if_pos hword]
      exact hbefore.word hword hlen

/-- A whole frame gives its TSN, the CRC of its client words and its payload type; any other none. -/
theorem Tap.frame (x : Tap) {a b : SUnit} {us : List SUnit} (ha : a.tag = .tpoa) (hlen : a.ws.length = 1)
    (hb : b.tag = .tpoa) (hus : ∀ u ∈ us, Client u) :
    ((us.foldl (fun y u => (y.step u).1) (x.step a).1).step b).2 =
      if (tapWords us).length = 404 then
        some ((a.ws.headD 0).toNat, crcOut (crcWords ((tapWords us).drop 1) crcInit),
          ((tapWords us).headD 0).toNat % 16, x.dst)
      else none := by
  obtain ⟨hpos, htsn, hdst, hpt, hcrc⟩ := (x.step_tpoa ha hlen).foldl hus
  rw [Tap.step_ends _ hb, htsn, hdst, hpt, hcrc]
  exact if_congr (by rw [hpos]; omega) rfl rfl

/-! ### Folding into records (R223) -/

/-- The record that a fold opens. -/
def State.newRec (s : State) (kind port t crc n : Nat) : DRec :=
  ⟨kind, s.plane, s.place, port, t, crc, n, s.clk.fsn, kind ≠ 0 && s.prot.epochs.any fun x => x.1 == port, false, false,
    false⟩

theorem State.isRec_newRec (s : State) (kind port t crc n : Nat) :
    s.isRec (s.newRec kind port t crc n) kind port t = true := by
  simp [State.isRec, State.newRec]

section
variable (s : State) (kind port t crc n : Nat)

theorem State.foldRec_new (hno : ∀ r ∈ s.prot.recs, s.isRec r kind port t = false) :
    (s.foldRec kind port t crc n).prot.recs = s.prot.recs ++ [s.newRec kind port t crc n] := by
  have hany : ¬ (s.prot.recs.any fun r => s.isRec r kind port t) = true := by
    simpa using hno
  rw [State.foldRec]
  simp only [State.isRec] at hany
  rw [if_neg hany]
  simp only []
  split_ifs <;> rfl

theorem State.foldRec_open (hyes : ∃ r ∈ s.prot.recs, s.isRec r kind port t = true) :
    (s.foldRec kind port t crc n).prot.recs = s.prot.recs.map fun r =>
      if s.isRec r kind port t = true ∧ r.done = false ∧ r.aged = false then
        { r with dig := r.dig ^^^ crc, cnt := (r.cnt + n) % 65536 } else r := by
  have hany : (s.prot.recs.any fun r => s.isRec r kind port t) = true := by
    simpa using hyes
  rw [State.foldRec]
  simp only [State.isRec] at hany
  rw [if_pos hany]
  refine List.map_congr_left fun r _ => ?_
  exact if_congr (by simp [State.isRec, and_assoc]) rfl rfl

/-- A fold leaves the plane and the position under which records stand. -/
theorem State.foldRec_isRec (r : DRec) (k e u : Nat) :
    (s.foldRec kind port t crc n).isRec r k e u = s.isRec r k e u := by
  have hreg {i : Nat} (hi : i ≠ O.protDigestStats) (e : Nat) :
      (s.foldRec kind port t crc n).reg i e = s.reg i e := by
    rw [reg_see, State.foldRec_see _ _ _ _ _ _ (by simp [View.place, hi]), ← reg_see]
  have hplane : (s.foldRec kind port t crc n).plane = s.plane := by
    rw [State.plane, State.role, hreg (by decide), State.plane, State.role]
  have hplace : (s.foldRec kind port t crc n).place = s.place := by
    rw [State.place, State.large, hreg (by decide), hreg (by decide), State.place, State.large]
  rw [State.isRec, hplane, hplace, State.isRec]

end

theorem State.foldPair_new (s : State) {kind : Nat} (e t crc : Nat) (hkind : kind = 1 ∨ kind = 2)
    (hno : ∀ r ∈ s.prot.recs, s.isRec r 1 e t = false ∧ s.isRec r 2 e t = false) :
    ∃ r q : DRec, (s.foldPair kind e t crc).prot.recs = s.prot.recs ++ [r, q] ∧ s.isRec r kind e t = true ∧
      r.dig = crc ∧ r.cnt = 1 ∧ s.isRec q (3 - kind) e t = true ∧ q.dig = 0 ∧ q.cnt = 0 := by
  have hone : ∀ k, k = 1 ∨ k = 2 → ∀ r ∈ s.prot.recs, s.isRec r k e t = false := by
    rintro k (rfl | rfl) r hr
    exacts [(hno r hr).1, (hno r hr).2]
  have hfirst := s.foldRec_new kind e t crc 1 (hone kind hkind)
  have hsecond : ∀ r ∈ (s.foldRec kind e t crc 1).prot.recs,
      (s.foldRec kind e t crc 1).isRec r (3 - kind) e t = false := by
    intro r hr
    rw [State.foldRec_isRec]
    rw [hfirst, List.mem_append, List.mem_singleton] at hr
    rcases hr with hr | rfl
    · exact hone _ (by omega) r hr
    · have : kind ≠ 3 - kind := by omega
      simp [State.isRec, State.newRec, this]
  refine ⟨s.newRec kind e t crc 1, (s.foldRec kind e t crc 1).newRec (3 - kind) e t 0 0, ?_,
    s.isRec_newRec kind e t crc 1, rfl, rfl, ?_, rfl, rfl⟩
  · rw [State.foldPair, State.foldRec_new _ _ _ _ _ _ hsecond, hfirst, List.append_assoc]
    rfl
  · rw [← s.foldRec_isRec kind e t crc 1]
    exact State.isRec_newRec ..

/-! ### Records without a counterpart (R226) -/

/-- Record `r` is closed and as old as R226 says. -/
def State.recOld (s : State) (kind port t : Nat) (r : DRec) : Bool :=
  (r.kind == kind && kind != 1) && r.port == port && r.t == t && (r.done || r.aged) &&
    decide ((s.reg O.protDigestClose : Int) + 8 ≤ dist48 r.first s.clk.fsn)

/-- Record `x` is the counterpart of `r`. -/
def DRec.pairs (r x : DRec) : Bool :=
  x.kind == r.kind && x.plane != r.plane && x.place == r.place && x.port == r.port && x.t == r.t

/-- Record `r` is old, and has no counterpart. -/
def State.recAlone (s : State) (kind port t : Nat) (r : DRec) : Bool :=
  s.recOld kind port t r && !s.prot.recs.any r.pairs

/-- The records that are given up. -/
def State.recsGone (s : State) (kind port t : Nat) : List DRec :=
  s.prot.recs.filter fun r => s.recAlone kind port t r ||
    (s.recOld kind port t r && s.prot.recs.any fun x => r.pairs x && s.recOld kind port t x)

/-- The records that stay. -/
def State.recsKept (s : State) (kind port t : Nat) : List DRec :=
  s.prot.recs.filter fun r => !((s.recsGone kind port t).contains r || (r.port == port && r.t == t &&
    (kind == 2 && r.kind == 1 && (s.recsGone kind port t).any fun x => x.plane == r.plane && x.place == r.place)))

/-- The records that a device holds are `l`. -/
def State.withRecs (s : State) (l : List DRec) : State := { s with prot := { s.prot with recs := l } }

section
variable (s : State) (kind port t : Nat)

theorem State.recordUnmatched_eq : s.recordUnmatched kind port t =
    if (s.prot.recs.filter (s.recAlone kind port t)).length = 0 then s.withRecs (s.recsKept kind port t)
    else (s.withRecs (s.recsKept kind port t)).bump O.protDigestStats 6 48
      (s.prot.recs.filter (s.recAlone kind port t)).length := rfl

theorem State.recordUnmatched_recs : (s.recordUnmatched kind port t).prot.recs = s.recsKept kind port t := by
  rw [State.recordUnmatched_eq]
  split_ifs <;> rfl

variable {s kind port t}

theorem State.recsKept_sub {x : DRec} (hx : x ∈ s.recsKept kind port t) : x ∈ s.prot.recs := (List.mem_filter.mp hx).1

theorem State.not_recsKept {r : DRec} (hr : r ∈ s.recsGone kind port t) : r ∉ s.recsKept kind port t := by
  intro hkept
  have h := (List.mem_filter.mp hkept).2
  simp [hr] at h

/-- Only records of the kind, the port and the TSN are alone. -/
theorem State.filter_recAlone {l : List DRec}
    (hl : s.prot.recs.filter (fun x => x.kind == kind && x.port == port && x.t == t) = l) :
    s.prot.recs.filter (s.recAlone kind port t) = l.filter (s.recAlone kind port t) := by
  rw [← hl, List.filter_filter]
  refine List.filter_congr fun x _ => ?_
  by_cases h : s.recAlone kind port t x = true
  · have hold := (Bool.and_eq_true_iff.mp h).1
    simp only [State.recOld, Bool.and_eq_true] at hold
    obtain ⟨⟨⟨⟨⟨hkind, -⟩, hport⟩, ht⟩, -⟩, -⟩ := hold
    rw [h, hkind, hport, ht]
    rfl
  · simp [Bool.eq_false_iff.mpr h]

theorem State.recOld_of {r : DRec} (hr : (r.kind == kind && r.port == port && r.t == t) = true) (hkind : kind ≠ 1)
    (hclosed : r.done = true ∨ r.aged = true)
    (hold : (s.reg O.protDigestClose : Int) + 8 ≤ dist48 r.first s.clk.fsn) : s.recOld kind port t r = true := by
  simp only [Bool.and_eq_true] at hr
  obtain ⟨⟨h1, h2⟩, h3⟩ := hr
  have h4 : (r.done || r.aged) = true := by simpa using hclosed
  simp [State.recOld, h1, h2, h3, h4, hkind, hold]

/-- A record without a counterpart is given up, and counted. -/
theorem State.recordUnmatched_one {r : DRec}
    (hone : s.prot.recs.filter (fun x => x.kind == kind && x.port == port && x.t == t) = [r]) (hkind : kind ≠ 1)
    (hclosed : r.done = true ∨ r.aged = true)
    (hold : (s.reg O.protDigestClose : Int) + 8 ≤ dist48 r.first s.clk.fsn) :
    r ∈ s.recsGone kind port t ∧
      s.recordUnmatched kind port t = (s.withRecs (s.recsKept kind port t)).bump O.protDigestStats 6 48 := by
  obtain ⟨hmem, hr⟩ := List.mem_filter.mp (show r ∈ s.prot.recs.filter _ from hone ▸ List.mem_singleton_self r)
  have hrold := State.recOld_of hr hkind hclosed hold
  simp only [Bool.and_eq_true, beq_iff_eq] at hr
  obtain ⟨⟨h1, h2⟩, h3⟩ := hr
  have hnone : s.prot.recs.any r.pairs = false := by
    rw [List.any_eq_false]
    intro x hx hpair
    simp only [DRec.pairs, Bool.and_eq_true, beq_iff_eq, bne_iff_ne] at hpair
    obtain ⟨⟨⟨⟨hk, hplane⟩, -⟩, hp⟩, ht⟩ := hpair
    have hin : x ∈ s.prot.recs.filter (fun x => x.kind == kind && x.port == port && x.t == t) :=
      List.mem_filter.mpr ⟨hx, by simp [hk, hp, ht, h1, h2, h3]⟩
    rw [hone, List.mem_singleton] at hin
    exact hplane (by rw [hin])
  have halone : s.recAlone kind port t r = true := by simp [State.recAlone, hrold, hnone]
  refine ⟨List.mem_filter.mpr ⟨hmem, by simp [halone]⟩, ?_⟩
  rw [State.recordUnmatched_eq, State.filter_recAlone hone, List.filter_cons_of_pos halone]
  rfl

/-- A pair that was not compared is given up once both are old. -/
theorem State.recordUnmatched_pair {r q : DRec}
    (htwo : s.prot.recs.filter (fun x => x.kind == kind && x.port == port && x.t == t) = [r, q]) (hkind : kind ≠ 1)
    (hplane : r.plane ≠ q.plane) (hplace : r.place = q.place)
    (hold : ∀ x ∈ [r, q], (x.done = true ∨ x.aged = true) ∧
      (s.reg O.protDigestClose : Int) + 8 ≤ dist48 x.first s.clk.fsn) :
    r ∈ s.recsGone kind port t ∧ q ∈ s.recsGone kind port t ∧
      s.recordUnmatched kind port t = s.withRecs (s.recsKept kind port t) := by
  have hin (x : DRec) (hx : x ∈ [r, q]) :
      x ∈ s.prot.recs ∧ (x.kind = kind ∧ x.port = port ∧ x.t = t) ∧ s.recOld kind port t x = true := by
    obtain ⟨hmem, hfit⟩ := List.mem_filter.mp (htwo ▸ hx)
    refine ⟨hmem, by simpa [and_assoc] using hfit, State.recOld_of hfit hkind (hold x hx).1 (hold x hx).2⟩
  obtain ⟨hr, ⟨r1, r2, r3⟩, hrold⟩ := hin r (by simp)
  obtain ⟨hq, ⟨q1, q2, q3⟩, hqold⟩ := hin q (by simp)
  have hrq : r.pairs q = true := by simp [DRec.pairs, r1, r2, r3, q1, q2, q3, hplane.symm, hplace]
  have hqr : q.pairs r = true := by simp [DRec.pairs, r1, r2, r3, q1, q2, q3, hplane, hplace]
  have hrnot : s.recAlone kind port t r = false := by
    simp only [State.recAlone, List.any_eq_true.mpr ⟨q, hq, hrq⟩, Bool.not_true, Bool.and_false]
  have hqnot : s.recAlone kind port t q = false := by
    simp only [State.recAlone, List.any_eq_true.mpr ⟨r, hr, hqr⟩, Bool.not_true, Bool.and_false]
  refine ⟨List.mem_filter.mpr ⟨hr, ?_⟩, List.mem_filter.mpr ⟨hq, ?_⟩, ?_⟩
  · simp only [hrold, Bool.true_and, Bool.or_eq_true]
    exact .inr (List.any_eq_true.mpr ⟨q, hq, by simp [hrq, hqold]⟩)
  · simp only [hqold, Bool.true_and, Bool.or_eq_true]
    exact .inr (List.any_eq_true.mpr ⟨r, hr, by simp [hqr, hrold]⟩)
  · rw [State.recordUnmatched_eq, State.filter_recAlone htwo, if_pos (by simp [hrnot, hqnot])]

end

/-! ### A record that does not complete (R223) -/

/-- How many records have aged. -/
def State.agedCount (s : State) : Nat := s.reg O.protDigestStats 4

theorem State.agedCount_bump (s : State) {k n : Nat} (hk : k < 4) :
    (s.bump O.protDigestStats k 48 n).agedCount = s.agedCount :=
  State.reg_setReg_ne s (by omega) (by decide) (by simpa using (by omega : 4 ≠ k))

theorem State.agedCount_see {s t : State}
    (h : t.see (.reg O.protDigestStats 4) = s.see (.reg O.protDigestStats 4)) : t.agedCount = s.agedCount := by
  rw [State.agedCount, reg_see, h, ← reg_see, State.agedCount]

theorem State.agedCount_withProt (s : State) (x : ProtS) : ({ s with prot := x } : State).agedCount = s.agedCount := rfl

section
variable (s : State)

theorem State.agedCount_runStep (kind place port t : Nat) (bad : Bool) :
    (s.runStep kind place port t bad).agedCount = s.agedCount := rfl

theorem State.agedCount_evaluate (place : Nat) : (s.evaluate place).agedCount = s.agedCount :=
  State.agedCount_see (State.evaluate_see _ _ (by simp [View.place]))

theorem State.agedCount_recheckPref : s.recheckPref.agedCount = s.agedCount :=
  State.agedCount_see (State.recheckPref_see _ (by simp [View.place]))

theorem State.agedCount_sendRec (typ key : Nat) (body : List Nat) :
    (s.sendRec typ key body).agedCount = s.agedCount :=
  State.agedCount_see (State.sendRec_see _ _ _ _ (by simp [View.place]))

/-- The records of a comparison are given up, and counted. -/
def State.recsCompared (s : State) (kind place port t : Nat) (bad : Bool) : State :=
  let s := (s.withRecs (s.prot.recs.filter fun r => !((r.kind == kind || (kind == 2 && r.kind == 1)) &&
    r.place == place && r.port == port && r.t == t))).bump O.protDigestStats 0 48
  if bad then s.bump O.protDigestStats (if kind = 0 then 2 else 3) 48 else s

/-- A compared TSN counts toward R237. -/
def State.cleanStep (s : State) (t : Nat) : State :=
  if s.prefsDiffer then { s with prot := { s.prot with clean := [] } }
  else if s.prot.clean.contains t || 8000 ≤ s.prot.clean.length then s
  else { s with prot := { s.prot with clean := t :: s.prot.clean } }

/-- Preferences are compared anew where that is due. -/
def State.recheckDue (s : State) : State := if s.prot.recheck then s.recheckPref else s

theorem State.compared_eq (kind place port t : Nat) (bad : Bool) : s.compared kind place port t bad =
    ((((s.recsCompared kind place port t bad).runStep (if kind = 0 then 2 else 3) place port t bad).cleanStep
      t).recheckDue).evaluate place := rfl

theorem State.agedCount_recsCompared (kind place port t : Nat) (bad : Bool) :
    (s.recsCompared kind place port t bad).agedCount = s.agedCount := by
  simp only [State.recsCompared]
  split_ifs
  · rw [State.agedCount_bump _ (by omega), State.agedCount_bump _ (by omega)]
    rfl
  · rw [State.agedCount_bump _ (by omega), State.agedCount_bump _ (by omega)]
    rfl
  · rw [State.agedCount_bump _ (by omega)]
    rfl

theorem State.agedCount_cleanStep (t : Nat) : (s.cleanStep t).agedCount = s.agedCount := by
  simp only [State.cleanStep]
  split_ifs <;> rfl

theorem State.agedCount_recheckDue : s.recheckDue.agedCount = s.agedCount := by
  rw [State.recheckDue]
  split_ifs
  · exact s.agedCount_recheckPref
  · rfl

theorem State.agedCount_compared (kind place port t : Nat) (bad : Bool) :
    (s.compared kind place port t bad).agedCount = s.agedCount := by
  rw [State.compared_eq, State.agedCount_evaluate, State.agedCount_recheckDue, State.agedCount_cleanStep,
    State.agedCount_runStep, State.agedCount_recsCompared]

theorem State.agedCount_compareAt (kind place port t : Nat) :
    (s.compareAt kind place port t).agedCount = s.agedCount := by
  simp only [State.compareAt]
  split_ifs
  · rfl
  · split
    · exact State.agedCount_compared ..
    · rfl

theorem State.agedCount_raise (ev : Nat) : (s.raise ev).agedCount = s.agedCount := State.raise_reg _ (by decide)

theorem State.agedCount_selfFails (e : Nat) : (s.selfFails e).agedCount = s.agedCount := by
  simp only [State.selfFails]
  rw [State.agedCount_see (State.assayError_see _ _ _ (by simp [View.place]))]
  have hflags (u : State) (v : Nat) : (u.setReg O.protFlags 0 v).agedCount = u.agedCount :=
    State.reg_setReg_obj _ (by decide)
  rw [hflags, State.agedCount_withProt, State.agedCount_raise, State.agedCount_bump _ (by omega)]

theorem State.agedCount_faultPort (p : Nat) : (s.faultPort p).agedCount = s.agedCount := by
  have hset (u : State) (b : Bool) : (u.setOct O.protPortFaulted 0 12 p b).agedCount = u.agedCount :=
    State.reg_setReg_obj _ (by decide)
  simp only [State.faultPort]
  split_ifs
  · rfl
  · rw [State.agedCount_raise, hset]

theorem State.agedCount_selfCheck (e t : Nat) (bad : Bool) : (s.selfCheck e t bad).agedCount = s.agedCount := by
  simp only [State.selfCheck]
  split_ifs
  · rw [State.agedCount_faultPort, State.agedCount_selfFails, State.agedCount_runStep]
  · rw [State.agedCount_selfFails, State.agedCount_runStep]
  · rfl

theorem State.agedCount_closePair (e t : Nat) : (s.closePair e t).agedCount = s.agedCount := by
  simp only [State.closePair]
  split
  · split_ifs
    · rw [State.agedCount_evaluate, State.agedCount_selfCheck, State.agedCount_sendRec, State.agedCount_withProt]
    · rw [State.agedCount_sendRec, State.agedCount_withProt]
  · rfl

theorem State.agedCount_closed (r : DRec) : (s.closed r).agedCount = s.agedCount := by
  simp only [State.closed]
  split_ifs
  · rw [State.agedCount_compareAt, State.agedCount_sendRec]
  · rw [State.agedCount_compareAt, State.agedCount_closePair]

end

/-- A record that has not completed in time is aged, and counted. -/
theorem State.recordAged_counts {s : State} {kind port t : Nat} {r : DRec}
    (hfind : (s.prot.recs.find? fun r => r.kind == kind && r.plane == s.plane && r.place == s.place &&
      r.port == port && r.t == t && !r.done && !r.aged) = some r)
    (hold : (s.reg O.protDigestClose : Int) ≤ dist48 r.first s.clk.fsn) :
    (s.recordAged kind port t).agedCount = (s.agedCount + 1) % 2 ^ 48 := by
  simp only [State.recordAged, hfind, if_pos hold]
  rw [State.agedCount_closed]
  exact State.reg_bump_self ..

/-! ### Records of the other plane (R226) -/

theorem State.prot_of_see {s t : State} (h : t.see (.part .prot) = s.see (.part .prot)) : t.prot = s.prot := h

theorem State.sendRec_prot (s : State) (typ key : Nat) (body : List Nat) : (s.sendRec typ key body).prot = s.prot :=
  State.prot_of_see (State.sendRec_see _ _ _ _ (by simp [View.place]))

/-- Without a record of each plane nothing is compared. -/
theorem State.compareAt_lone {s : State} {kind place port t p : Nat}
    (h : ∀ x ∈ s.prot.recs, x.t = t → x.plane = p) : s.compareAt kind place port t = s := by
  simp only [State.compareAt]
  split_ifs
  · rfl
  · split
    next a b ha hb =>
      have hap := h a (List.mem_of_find?_eq_some ha)
      have hbp := h b (List.mem_of_find?_eq_some hb)
      have ha' := List.find?_some ha
      have hb' := List.find?_some hb
      simp only [Bool.and_eq_true, beq_iff_eq] at ha' hb'
      obtain ⟨⟨⟨⟨⟨⟨⟨-, ha0⟩, -⟩, -⟩, hat⟩, -⟩, -⟩, -⟩ := ha'
      obtain ⟨⟨⟨⟨⟨⟨⟨-, hb1⟩, -⟩, -⟩, hbt⟩, -⟩, -⟩, -⟩ := hb'
      have := hap hat
      have := hbp hbt
      omega
    · rfl

theorem State.reach_recs (s : State) (st pref from_ ports : Nat) (host : Bool) :
    (s.reach st pref from_ ports host).prot.recs = s.prot.recs := by
  simp only [State.reach]
  rw [State.sendRec_prot]

theorem State.evaluate_recs (s : State) (place : Nat) : (s.evaluate place).prot.recs = s.prot.recs := by
  simp only [State.evaluate]
  split_ifs <;> simp only [State.reach_recs]

/-- The record that a peer's record holds. -/
def State.heldRec (s : State) (kind : Nat) (l : List Block) : DRec :=
  ⟨kind, 1 - s.plane, s.place, bits (blk l 1) 63 56, recKey l, bits (blk l 1) 31 0, bits (blk l 1) 47 32, s.clk.fsn,
    bit (blk l 1) 53, bit (blk l 1) 55, bit (blk l 1) 54, true⟩

/-- A peer's record of a TSN of which none is held is kept. -/
theorem State.peerRec_kept {s : State} {st kind : Nat} {l : List Block} (hplane : s.isPlane = true)
    (hsmall : s.large = false) (huse : s.inUse st = true) (hwatch : s.unwatched = false)
    (hport : bits (blk l 1) 63 56 < 96) (hnew : ∀ x ∈ s.prot.recs, x.t ≠ recKey l) :
    (s.peerRec st kind l).prot.recs = s.prot.recs ++ [s.heldRec kind l] := by
  have hrole : (s.role == 4) = false := by
    simp only [State.isPlane, Bool.or_eq_true, beq_iff_eq] at hplane
    rcases hplane with h | h <;> rw [h] <;> rfl
  have hlone (u : State) (hu : u.prot.recs = s.prot.recs ++ [s.heldRec kind l]) :
      u.compareAt kind s.place (bits (blk l 1) 63 56) (recKey l) = u := by
    refine State.compareAt_lone (p := 1 - s.plane) fun x hx ht => ?_
    rw [hu, List.mem_append, List.mem_singleton] at hx
    rcases hx with hx | rfl
    · exact absurd ht (hnew x hx)
    · rfl
  simp only [State.peerRec, hrole, hplane, hsmall, huse, hwatch, Bool.false_and, Bool.not_false, Bool.and_self,
    Bool.not_true, Bool.and_false, Bool.false_eq_true, if_false, Nat.not_le.mpr hport]
  rw [State.evaluate_recs]
  split_ifs <;> exact congrArg (fun u : State => u.prot.recs) (hlone _ rfl)

end Sys2Proof.Machine

/-! Verdicts, preference, role, port faults and the map digest (O10). -/

namespace Sys2Proof.Machine

/-! ### Verdicts received (R238) -/

/-- Another verdict is awaited. -/
def State.awaiting (s : State) (v : Vrd) (clean : List Nat) : State :=
  { s with prot := { s.prot with verdicts := s.prot.verdicts ++ [v], clean := clean } }

theorem State.verdictRx_awaits {s : State} {st : Nat} {l : List Block} (hplane : s.isPlane = true)
    (hsmall : s.large = false) (huse : s.inUse st = true) (hsoon : dist48 (bits (blk l 1) 47 0) s.clk.fsn < 0)
    (hnew : ∀ y ∈ s.prot.verdicts ++ s.prot.applied, y.eff ≠ bits (blk l 1) 47 0) :
    ∃ v clean, s.verdictRx st l = s.awaiting v clean ∧ v.eff = bits (blk l 1) 47 0 ∧
      v.pref = bits (blk l 1) 63 62 ∧ v.state = bits (blk l 1) 61 58 ∧ v.from_ = bits (blk l 2) 63 16 := by
  have hlate : ¬ 0 ≤ dist48 (bits (blk l 1) 47 0) s.clk.fsn := by omega
  have hknown (p q : Nat) : ((s.prot.verdicts ++ s.prot.applied).any fun x =>
      x.eff == bits (blk l 1) 47 0 && x.pref == p && x.state == q) = false := by
    rw [List.any_eq_false]
    intro y hy
    simp [hnew y hy]
  simp only [State.verdictRx, hplane, hsmall, huse, hlate, hknown, Bool.false_and, Bool.not_true, Bool.or_self,
    Bool.false_eq_true, if_false, decide_false]
  exact ⟨_, _, rfl, rfl, rfl, rfl, rfl⟩

/-! ### Preference and state (R235, R240) -/

section
variable (s : State)

theorem State.setPref_reg (pref tsn : Nat) {i : Nat} (hev : evObj i = false) (h1 : i ≠ O.protPref)
    (h2 : i ≠ O.protFromTsn) (e : Nat) : (s.setPref pref tsn).reg i e = s.reg i e := by
  simp only [State.setPref]
  split_ifs
  · rw [State.reg_setReg_obj _ h2, State.reg_setReg_obj _ h1]
  · rw [State.raise_reg _ hev, State.reg_setReg_obj _ h2, State.reg_setReg_obj _ h1]

theorem State.setPref_pref (pref tsn : Nat) : (s.setPref pref tsn).reg O.protPref = pref := by
  simp only [State.setPref]
  split_ifs
  · rw [State.reg_setReg_obj _ (by decide), State.reg_setReg_self]
  · rw [State.raise_reg _ (by decide), State.reg_setReg_obj _ (by decide), State.reg_setReg_self]

theorem State.setPref_from (pref tsn : Nat) : (s.setPref pref tsn).reg O.protFromTsn = tsn := by
  simp only [State.setPref]
  split_ifs
  · rw [State.reg_setReg_self]
  · rw [State.raise_reg _ (by decide), State.reg_setReg_self]

theorem State.setPref_sys (pref tsn : Nat) : (s.setPref pref tsn).sys = s.sys :=
  State.sys_of_see (State.setPref_see _ _ _ (by simp [View.place]))

theorem State.setPref_prot (pref tsn : Nat) : (s.setPref pref tsn).prot = s.prot :=
  State.prot_of_see (State.setPref_see _ _ _ (by simp [View.place]))

theorem State.verdictState_reg (v : Nat) {i : Nat} (hev : evObj i = false) (h : i ≠ O.protState) (e : Nat) :
    (s.verdictState v).reg i e = s.reg i e := by
  simp only [State.verdictState, State.setPState]
  split_ifs
  · rfl
  · rw [State.raise_reg _ hev, State.reg_setReg_obj _ h]
  · rfl

theorem State.verdictState_state (v : Nat) :
    (s.verdictState v).reg O.protState = if s.sys.mode = .service then v else s.reg O.protState := by
  simp only [State.verdictState, State.setPState]
  split_ifs with hmode hsame
  · exact hsame
  · rw [State.raise_reg _ (by decide), State.reg_setReg_self]
  · rfl

theorem State.verdictState_elems (v : Nat) : OnlyElems [(O.protState, 0)] s (s.verdictState v) := by
  simp only [State.verdictState, State.setPState]
  split_ifs
  · exact OnlyElems.refl _ s
  · exact ((OnlyElems.refl _ s).setReg _ (by omega) (by simp)).raise _
  · exact OnlyElems.refl _ s

theorem State.verdictState_prot (v : Nat) : (s.verdictState v).prot = s.prot :=
  State.prot_of_see (State.verdictState_see _ _ (by simp [View.place]))

theorem State.prefRefresh_reg (i e : Nat) : s.prefRefresh.reg i e = s.reg i e := by
  rw [reg_see, State.prefRefresh_see _ (by simp [View.place]), ← reg_see]

theorem State.prefRefresh_prot : s.prefRefresh.prot = s.prot :=
  State.prot_of_see (State.prefRefresh_see _ (by simp [View.place]))

end

/-! ### Verdicts that take effect (R238) -/

/-- Verdict `v` is awaited no more. -/
def State.taken (s : State) (v : Vrd) : State :=
  { s with prot := { s.prot with verdicts := s.prot.verdicts.filter fun x => !([v] : List Vrd).contains x
                                 applied := [v] ++ s.prot.applied } }

/-- Two verdicts of one frame name different preferences. -/
def State.clashes (s : State) (v : Vrd) : Bool :=
  ([v] ++ s.prot.applied).any fun x => x.eff == v.eff && x.pref != v.pref

/-- DIVERGENCE, and the count of compared TSNs anew. -/
def State.diverged (s : State) : State := { s.verdictState 4 with prot := { s.prot with clean := [] } }

section
variable {s : State} {v : Vrd}

theorem State.verdictsDue_one (hone : s.prot.verdicts = [v]) (hdue : 0 ≤ dist48 v.at_ s.clk.fsn)
    (hwho : v.host = true ∨ s.unwatched = false) : s.verdictsDue = [v] := by
  have hwho' : (v.host || !s.unwatched) = true := by
    rcases hwho with h | h <;> simp [h]
  simp only [State.verdictsDue, hone, List.filter_cons, hdue, decide_true, hwho', Bool.and_self, if_true,
    List.filter_nil, List.foldl_nil, beq_self_eq_true]

theorem State.verdictEffective_one (hdue : s.verdictsDue = [v]) : s.verdictEffective =
    (if s.clashes v then (s.taken v).diverged else (s.taken v).applyVerdict v).prefRefresh := by
  simp only [State.verdictEffective, hdue, List.getLast?_singleton]
  rfl

theorem State.taken_verdicts (hone : s.prot.verdicts = [v]) : (s.taken v).prot.verdicts = [] := by
  simp [State.taken, hone]

theorem State.clashes_not (h : ∀ x ∈ s.prot.applied, x.eff = v.eff → x.pref = v.pref) : s.clashes v = false := by
  rw [State.clashes, List.any_eq_false]
  intro x hx
  rcases List.mem_append.mp hx with hx | hx
  · simp [List.mem_singleton.mp hx]
  · by_cases he : x.eff = v.eff
    · simp [h x hx he]
    · simp [he]

theorem State.clashes_of {x : Vrd} (hx : x ∈ s.prot.applied) (he : x.eff = v.eff) (hp : x.pref ≠ v.pref) :
    s.clashes v = true :=
  List.any_eq_true.mpr ⟨x, List.mem_append_right _ hx, by simp [he, hp]⟩

end

section
variable (s : State) (v : Vrd)

/-- The preference of a verdict that moves it. -/
def State.prefMoved (s : State) (v : Vrd) : State :=
  if v.pref ≠ 0 && v.pref ≠ s.reg O.protPref then
    (s.setPref v.pref v.from_).setReg O.protFlags 0 (putBit (s.reg O.protFlags) 2 v.arb)
  else s

theorem State.applyVerdict_eq :
    s.applyVerdict v = ((s.prefMoved v).verdictState v.state).setReg O.protFaultPorts 0 v.ports := by
  rw [State.applyVerdict, State.prefMoved]

theorem State.prefMoved_reg {i : Nat} (hev : evObj i = false) (h : i ∉ [O.protPref, O.protFromTsn, O.protFlags])
    (e : Nat) : (s.prefMoved v).reg i e = s.reg i e := by
  simp only [List.mem_cons, List.not_mem_nil, or_false, not_or] at h
  obtain ⟨h1, h2, h3⟩ := h
  rw [State.prefMoved]
  split_ifs
  · rw [State.reg_setReg_obj _ h3, State.setPref_reg _ _ _ hev h1 h2]
  · rfl

theorem State.prefMoved_sys : (s.prefMoved v).sys = s.sys := by
  rw [State.prefMoved]
  split_ifs
  · exact s.setPref_sys _ _
  · rfl

theorem State.prefMoved_prot : (s.prefMoved v).prot = s.prot := by
  rw [State.prefMoved]
  split_ifs
  · exact s.setPref_prot _ _
  · rfl

variable {v}

theorem State.prefMoved_pref (h0 : v.pref ≠ 0) : (s.prefMoved v).reg O.protPref = v.pref := by
  rw [State.prefMoved]
  by_cases h : v.pref = s.reg O.protPref
  · rw [if_neg (by simp [h]), h]
  · rw [if_pos (by simp [h0, h]), State.reg_setReg_obj _ (by decide), State.setPref_pref]

theorem State.prefMoved_from (h0 : v.pref ≠ 0) (h : s.reg O.protPref ≠ v.pref) :
    (s.prefMoved v).reg O.protFromTsn = v.from_ := by
  rw [State.prefMoved, if_pos (by simp [h0, Ne.symm h]), State.reg_setReg_obj _ (by decide), State.setPref_from]

variable (v)

theorem State.applyVerdict_reg {i : Nat} (hev : evObj i = false) (h1 : i ≠ O.protState) (h2 : i ≠ O.protFaultPorts)
    (e : Nat) : (s.applyVerdict v).reg i e = (s.prefMoved v).reg i e := by
  rw [State.applyVerdict_eq, State.reg_setReg_obj _ h2, State.verdictState_reg _ _ hev h1]

theorem State.applyVerdict_state : (s.applyVerdict v).reg O.protState =
    if s.sys.mode = .service then v.state else s.reg O.protState := by
  rw [State.applyVerdict_eq, State.reg_setReg_obj _ (by decide), State.verdictState_state, State.prefMoved_sys,
    State.prefMoved_reg _ _ (by decide) (by decide)]

theorem State.applyVerdict_ports : (s.applyVerdict v).reg O.protFaultPorts = v.ports := by
  rw [State.applyVerdict_eq, State.reg_setReg_self]

theorem State.applyVerdict_prot : (s.applyVerdict v).prot = s.prot := by
  rw [State.applyVerdict_eq]
  exact (State.verdictState_prot _ _).trans (s.prefMoved_prot v)

end

/-- What a verdict that names a preference does. -/
theorem State.applyVerdict_tells (s : State) {v : Vrd} (h0 : v.pref ≠ 0) :
    (s.applyVerdict v).prot = s.prot ∧ (s.applyVerdict v).reg O.protPref = v.pref ∧
      (s.applyVerdict v).reg O.protState = (if s.sys.mode = .service then v.state else s.reg O.protState) ∧
      (s.applyVerdict v).reg O.protFaultPorts = v.ports ∧
      (s.reg O.protPref ≠ v.pref → (s.applyVerdict v).reg O.protFromTsn = v.from_) ∧
      OnlyRegs [O.protPref, O.protState, O.protFaultPorts, O.protFromTsn, O.protFlags] s (s.applyVerdict v) := by
  refine ⟨s.applyVerdict_prot v, ?_, s.applyVerdict_state v, s.applyVerdict_ports v, fun hne => ?_,
    fun i e hev hi => ?_⟩
  · rw [State.applyVerdict_reg _ _ (by decide) (by decide) (by decide), s.prefMoved_pref h0]
  · rw [State.applyVerdict_reg _ _ (by decide) (by decide) (by decide), s.prefMoved_from h0 hne]
  · simp only [List.mem_cons, List.not_mem_nil, or_false, not_or] at hi
    obtain ⟨h1, h2, h3, h4, h5⟩ := hi
    rw [State.applyVerdict_reg _ _ hev h2 h3, State.prefMoved_reg _ _ hev (by simp [h1, h4, h5])]

/-- A verdict whose frame has begun applies. -/
theorem State.verdictEffective_applies {s : State} {v : Vrd} (hone : s.prot.verdicts = [v])
    (hdue : 0 ≤ dist48 v.at_ s.clk.fsn) (hwho : v.host = true ∨ s.unwatched = false)
    (hsame : ∀ x ∈ s.prot.applied, x.eff = v.eff → x.pref = v.pref) :
    s.verdictEffective = ((s.taken v).applyVerdict v).prefRefresh := by
  rw [State.verdictEffective_one (State.verdictsDue_one hone hdue hwho), if_neg (by simp [State.clashes_not hsame])]

/-- A verdict that clashes with another of its frame leaves the preference. -/
theorem State.verdictEffective_clash {s : State} {v x : Vrd} (hone : s.prot.verdicts = [v])
    (hdue : 0 ≤ dist48 v.at_ s.clk.fsn) (hwho : v.host = true ∨ s.unwatched = false) (hx : x ∈ s.prot.applied)
    (he : x.eff = v.eff) (hp : x.pref ≠ v.pref) : s.verdictEffective = (s.taken v).diverged.prefRefresh := by
  rw [State.verdictEffective_one (State.verdictsDue_one hone hdue hwho), if_pos (State.clashes_of hx he hp)]

theorem runs_verdictApplies {s : State} {v : Vrd} (hone : s.prot.verdicts = [v])
    (hdue : 0 ≤ dist48 v.at_ s.clk.fsn) (hwho : v.host = true ∨ s.unwatched = false) (h0 : v.pref ≠ 0)
    (hsame : ∀ x ∈ s.prot.applied, x.eff = v.eff → x.pref = v.pref) :
    Runs .verdictEffective s fun t =>
      t.prot.verdicts = [] ∧ t.prot.applied = v :: s.prot.applied ∧ t.reg O.protPref = v.pref ∧
      t.reg O.protState = (if s.sys.mode = .service then v.state else s.reg O.protState) ∧
      t.reg O.protFaultPorts = v.ports ∧ (s.reg O.protPref ≠ v.pref → t.reg O.protFromTsn = v.from_) ∧
      OnlyRegs [O.protPref, O.protState, O.protFaultPorts, O.protFromTsn, O.protFlags] s t := by
  refine runs_of_run (exec_verdictEffective s) ?_
  rw [State.verdictEffective_applies (s := s.fresh) hone hdue hwho hsame]
  have hverd := State.taken_verdicts (s := s.fresh) hone
  obtain ⟨h1, h2, h3, h4, h5, h6⟩ := (s.fresh.taken v).applyVerdict_tells (v := v) h0
  have hprot : ((s.fresh.taken v).applyVerdict v).prefRefresh.prot = (s.fresh.taken v).prot := by
    rw [State.prefRefresh_prot, h1]
  have hreg := ((s.fresh.taken v).applyVerdict v).prefRefresh_reg
  generalize ((s.fresh.taken v).applyVerdict v).prefRefresh = t at hprot hreg
  refine ⟨(congrArg ProtS.verdicts hprot).trans hverd, congrArg ProtS.applied hprot, (hreg ..).trans h2,
    (hreg ..).trans h3, (hreg ..).trans h4, fun hne => (hreg ..).trans (h5 hne), fun i e hev hi => ?_⟩
  exact (hreg i e).trans (h6 i e hev hi)

theorem runs_verdictClashes {s : State} {v x : Vrd} (hone : s.prot.verdicts = [v])
    (hdue : 0 ≤ dist48 v.at_ s.clk.fsn) (hwho : v.host = true ∨ s.unwatched = false) (hx : x ∈ s.prot.applied)
    (he : x.eff = v.eff) (hp : x.pref ≠ v.pref) :
    Runs .verdictEffective s fun t =>
      t.prot.verdicts = [] ∧ t.prot.clean = [] ∧ t.reg O.protPref = s.reg O.protPref ∧
      t.reg O.protState = (if s.sys.mode = .service then 4 else s.reg O.protState) ∧
      OnlyElems [(O.protState, 0)] s t := by
  refine runs_of_run (exec_verdictEffective s) ?_
  rw [State.verdictEffective_clash (s := s.fresh) hone hdue hwho hx he hp]
  have hverd := State.taken_verdicts (s := s.fresh) hone
  have hprot := (s.fresh.taken v).diverged.prefRefresh_prot
  have hreg := (s.fresh.taken v).diverged.prefRefresh_reg
  have hpref : (s.fresh.taken v).diverged.reg O.protPref = s.reg O.protPref :=
    State.verdictState_reg (s.fresh.taken v) 4 (by decide) (by decide) 0
  have hstate : (s.fresh.taken v).diverged.reg O.protState =
      if s.sys.mode = .service then 4 else s.reg O.protState := (s.fresh.taken v).verdictState_state 4
  have helems : OnlyElems [(O.protState, 0)] s (s.fresh.taken v).diverged :=
    ((s.fresh.taken v).verdictState_elems 4 : OnlyElems [(O.protState, 0)] (s.fresh.taken v) _)
  have hclean : (s.fresh.taken v).diverged.prot = { (s.fresh.taken v).prot with clean := [] } := rfl
  generalize (s.fresh.taken v).diverged = u at *
  generalize u.prefRefresh = t at hprot hreg
  refine ⟨?_, ?_, (hreg ..).trans hpref, (hreg ..).trans hstate, fun i e h1 h2 h3 =>
    (hreg i e).trans (helems i e h1 h2 h3)⟩
  · exact (congrArg ProtS.verdicts (hprot.trans hclean)).trans hverd
  · exact congrArg ProtS.clean (hprot.trans hclean)

/-- While the device is unwatched no verdict of others applies. -/
theorem State.verdictEffective_unwatched {s : State} (hun : s.unwatched = true)
    (hhost : ∀ v ∈ s.prot.verdicts, v.host = false) : s.verdictEffective = s := by
  have hnone : (s.prot.verdicts.filter fun v =>
      decide (0 ≤ dist48 v.at_ s.clk.fsn) && (v.host || !s.unwatched)) = [] := by
    rw [List.filter_eq_nil_iff]
    intro v hv
    simp [hhost v hv, hun]
  have hdue : s.verdictsDue = [] := by simp only [State.verdictsDue, hnone]
  simp only [State.verdictEffective, hdue, List.getLast?_nil]

/-! ### The return to NORMAL, and PROT.PREF_SET (R237, R241) -/

/-- The verdict that is reached in this frame. -/
def State.reached (s : State) (st pref from_ ports : Nat) (host : Bool) : Vrd :=
  ⟨(s.clk.fsn + 2) % M48, pref, st, from_, s.role == 4, ports, (s.clk.fsn + 2) % M48, host⟩

section
variable (s : State) (st pref from_ ports : Nat) (host : Bool)

theorem State.reach_prot : (s.reach st pref from_ ports host).prot =
    { s.prot with verdicts := s.prot.verdicts ++ [s.reached st pref from_ ports host] } := by
  simp only [State.reach]
  rw [State.sendRec_prot]
  rfl

theorem State.reach_reg (i e : Nat) : (s.reach st pref from_ ports host).reg i e = s.reg i e := by
  rw [reg_see, State.reach_see _ _ _ _ _ _ (by simp [View.place]), ← reg_see]

end

theorem runs_returnsNormal {s : State} (h1 : 1 ≤ s.standing.1) (h5 : s.standing.1 ≤ 5)
    (hclean : 8000 ≤ s.prot.clean.length) (hwatch : s.unwatched = false) (hpref : s.prefsDiffer = false) :
    Runs .stateReturnNormal s fun t =>
      t.prot.clean = s.prot.clean ∧ OnlyElems [] s t ∧ ∃ v : Vrd, t.prot.verdicts = s.prot.verdicts ++ [v] ∧
        v.state = 0 ∧ v.pref = s.standing.2 ∧ v.eff = (s.clk.fsn + 2) % 2 ^ 48 := by
  refine runs_of_run (exec_stateReturnNormal s) ?_
  have heq : s.fresh.returnNormal = s.fresh.reach 0 s.standing.2 (s.reg O.protFromTsn) 0 := by
    refine if_pos ?_
    simp only [Bool.and_eq_true, decide_eq_true_eq, Bool.not_eq_true']
    exact ⟨⟨⟨⟨h1, h5⟩, hclean⟩, hwatch⟩, hpref⟩
  rw [heq]
  have hprot := s.fresh.reach_prot 0 s.standing.2 (s.reg O.protFromTsn) 0 false
  have hreg := s.fresh.reach_reg 0 s.standing.2 (s.reg O.protFromTsn) 0 false
  generalize s.fresh.reach 0 s.standing.2 (s.reg O.protFromTsn) 0 = t at hprot hreg
  exact ⟨(congrArg ProtS.clean hprot).trans rfl, fun i e _ _ _ => hreg i e, _,
    congrArg ProtS.verdicts hprot, rfl, rfl, rfl⟩

theorem State.returnNormal_differs {s : State} (h : s.prefsDiffer = true) : s.returnNormal = s := by
  simp [State.returnNormal, h]

/-- The first TSN from which a preference of the host stands. -/
def State.prefFrom (s : State) : Nat :=
  match s.prot.anyDone with
  | some t => (t + 1) % M48
  | none => s.clk.fsn

theorem runs_prefSet {s : State} {w : Who} {v : Nat} (ha : Allowed s w O.protPrefSet 0 v)
    (hmay : s.large = false ∨ s.role = 4) :
    Runs (.prefSet w v) s fun t =>
      t.out.status = 0 ∧ t.reg O.protPref = s.reg O.protPref ∧
      ∃ x : Vrd, t.prot.verdicts = s.prot.verdicts ++ [x] ∧ x.pref = v ∧ x.state = s.standing.1 ∧ x.host = true ∧
        x.eff = (s.clk.fsn + 2) % 2 ^ 48 := by
  have hif : ¬ (s.fresh.large && decide (s.fresh.role ≠ 4)) = true := by
    have hlarge : s.fresh.large = s.large := rfl
    have hrole : s.fresh.role = s.role := rfl
    rcases hmay with h | h <;> simp [hlarge, hrole, h]
  have hop : prefSetOp v s.fresh = (s.fresh.reach s.standing.1 v s.fresh.prefFrom 0 true, 0) := by
    rw [prefSetOp, if_neg hif]
    rfl
  refine runs_of_write (exec_prefSet s w v) ha hop ?_
  rw [State.record_of_not_carried rfl rfl]
  have hprot := s.fresh.reach_prot s.standing.1 v s.fresh.prefFrom 0 true
  have hreg := s.fresh.reach_reg s.standing.1 v s.fresh.prefFrom 0 true O.protPref 0
  generalize s.fresh.reach s.standing.1 v s.fresh.prefFrom 0 true = t at hprot hreg
  exact ⟨rfl, hreg, _, congrArg ProtS.verdicts hprot, rfl, rfl, rfl, rfl⟩

/-! ### PROT.ROLE (R214, R37) -/

/-- Where no port is enabled, another role stops and starts none. -/
theorem State.rolesChanged_idle {s : State} (h : ∀ p < 96, s.reg O.portEnable p = 0) : s.rolesChanged = s := by
  refine foldRange_induction (fun _ t => t = s) rfl fun p t hp ht => ?_
  rw [ht, if_pos (h p hp)]

theorem State.setUnwatched_regs (s : State) (b : Bool) : OnlyRegs [O.protFlags] s (s.setUnwatched b) := by
  intro i e hev hi
  have hprot (t : State) (x : ProtS) : ({ t with prot := x } : State).reg i e = t.reg i e := rfl
  simp only [State.setUnwatched]
  split_ifs
  · rfl
  · rw [hprot, State.raise_reg _ hev, State.reg_setReg_obj _ (by simpa using hi)]

theorem State.refreshWatch_regs (s : State) : OnlyRegs [O.protFlags] s s.refreshWatch := by
  simp only [State.refreshWatch]
  split_ifs
  · exact s.setUnwatched_regs _
  · exact fun _ _ _ _ => rfl
  · exact s.setUnwatched_regs _

theorem State.not_running_arbiter {t : State} {p : Nat} (hrole : t.reg O.protRole = 4)
    (hport : t.lreg O.portRole p ≠ 1) : t.running p = false := by
  simp [State.running, State.portAllowed, hrole, hport]

theorem runs_protRole {s : State} {w : Who} {v : Nat} (ha : Allowed s w O.protRole 0 v)
    (hmode : s.sys.mode = .dormant ∨ s.sys.mode = .stage ∨ s.sys.mode = .isolate)
    (hports : v = 4 → ∀ p < 96, s.reg O.portEnable p = 1 → s.lreg O.portRole p ≠ 0) :
    Runs (.protRoleWrite w v) s fun t =>
      t.reg O.protRole = v ∧ t.out.status = 0 ∧ (∀ p < 96, t.reg O.portEnable p = s.reg O.portEnable p) ∧
      (v = 4 → ∀ p < 96, t.lreg O.portRole p ≠ 1 → t.running p = false) ∧
      ((∀ p < 96, s.reg O.portEnable p = 0) → OnlyRegs [O.protRole, O.protFlags, O.ledgerJournalSeq] s t) := by
  have hop : protRoleOp v s.fresh = ((s.fresh.setReg O.protRole 0 v).rolesChanged.refreshWatch, 0) := by
    have hm : ¬ (s.fresh.sys.mode ≠ .dormant ∧ s.fresh.sys.mode ≠ .stage ∧ s.fresh.sys.mode ≠ .isolate) := by
      rintro ⟨h1, h2, h3⟩
      rcases hmode with h | h | h
      exacts [h1 h, h2 h, h3 h]
    have hp : ¬ (decide (v = 4) && (List.range 96).any fun p =>
        s.fresh.reg O.portEnable p == 1 && s.fresh.lreg O.portRole p == 0) = true := by
      intro hbad
      obtain ⟨hv, hany⟩ := Bool.and_eq_true_iff.mp hbad
      obtain ⟨p, hp, hbad⟩ := List.any_eq_true.mp hany
      obtain ⟨hon, hrole⟩ := Bool.and_eq_true_iff.mp hbad
      exact hports (of_decide_eq_true hv) p (List.mem_range.mp hp) (eq_of_beq hon) (eq_of_beq hrole)
    rw [protRoleOp, if_neg hm, if_neg hp]
  refine runs_of_write (exec_protRoleWrite s w v) ha hop ?_
  have hkept {i : Nat} (hev : evObj i = false) (hj : i ≠ O.ledgerJournalSeq) (hf : i ≠ O.protFlags) (e : Nat) :
      ((s.fresh.setReg O.protRole 0 v).rolesChanged.refreshWatch.record O.protRole 0 v).reg i e =
        (s.fresh.setReg O.protRole 0 v).rolesChanged.reg i e := by
    rw [State.record_reg _ hev hj, State.refreshWatch_regs _ i e hev (by simpa using hf)]
  have hsee {i : Nat} (h : i ∈ [O.protRole, O.portEnable]) (e : Nat) :
      (s.fresh.setReg O.protRole 0 v).rolesChanged.reg i e = (s.fresh.setReg O.protRole 0 v).reg i e := by
    simp only [List.mem_cons, List.not_mem_nil, or_false] at h
    rw [reg_see, State.rolesChanged_see _ (by rcases h with rfl | rfl <;> simp [View.place]), ← reg_see]
  have hrole := (hkept (i := O.protRole) (by decide) (by decide) (by decide) 0).trans ((hsee (by simp) 0).trans
    (State.reg_setReg_self ..))
  have hen (p : Nat) := (hkept (i := O.portEnable) (by decide) (by decide) (by decide) p).trans
    ((hsee (by simp) p).trans (State.reg_setReg_obj s.fresh (by decide)))
  have hidle (h : ∀ p < 96, s.reg O.portEnable p = 0) : OnlyRegs [O.protRole, O.protFlags, O.ledgerJournalSeq] s
      ((s.fresh.setReg O.protRole 0 v).rolesChanged.refreshWatch.record O.protRole 0 v) := by
    have hnone : ∀ p < 96, (s.fresh.setReg O.protRole 0 v).reg O.portEnable p = 0 :=
      fun p hp => (State.reg_setReg_obj s.fresh (by decide)).trans (h p hp)
    intro i e hev hi
    simp only [List.mem_cons, List.not_mem_nil, or_false, not_or] at hi
    obtain ⟨h1, h2, h3⟩ := hi
    rw [hkept hev h3 h2, State.rolesChanged_idle hnone]
    exact State.reg_setReg_obj s.fresh h1
  generalize (s.fresh.setReg O.protRole 0 v).rolesChanged.refreshWatch.record O.protRole 0 v = t at *
  exact ⟨hrole, rfl, fun p _ => hen p,
    fun hv p _ hport => State.not_running_arbiter (t := (t.answer 0).withQueue s.pending) (hrole.trans hv) hport, hidle⟩

/-! ### Port faults (R243, R422) -/

theorem octBit_octPut {n v i k : Nat} (b : Bool) (hi : i < 8 * n) (hk : k < 8 * n) :
    octBit n (octPut n v i b) k = if k = i then b else octBit n v k := by
  rw [octBit, octPut, testBit_putBit, octBit]
  by_cases h : k = i
  · simp [h]
  · have hpos : octBitPos n k ≠ octBitPos n i := fun c => h (octBitPos_inj hk hi c)
    simp [h, hpos]

/-- Whether port `p` is faulted, and why. -/
def State.portFault (s : State) (p : Nat) : Bool × Nat := (s.octReg O.protPortFaulted 0 12 p, s.reg O.assayPortCause p)

/-- Port `p` is no longer faulted. -/
def State.faultCleared (s : State) (p : Nat) : State :=
  (s.setOct O.protPortFaulted 0 12 p false).setReg O.assayPortCause p 0

theorem State.portFault_cleared (s : State) {p q : Nat} (hp : p < 96) (hq : q < 96) :
    (s.faultCleared p).portFault q = if q = p then (false, 0) else s.portFault q := by
  have hoct : (s.faultCleared p).octReg O.protPortFaulted 0 12 q =
      if q = p then false else s.octReg O.protPortFaulted 0 12 q := by
    rw [State.octReg, State.faultCleared, State.reg_setReg_obj _ (by decide), State.setOct, State.reg_setReg_self,
      octBit_octPut _ (by omega) (by omega), State.octReg]
  have hcause : (s.faultCleared p).reg O.assayPortCause q = if q = p then 0 else s.reg O.assayPortCause q := by
    rw [State.faultCleared]
    by_cases h : q = p
    · rw [if_pos h, h, State.reg_setReg_self]
    · rw [if_neg h, State.reg_setReg_elem _ (by omega) (by omega) h, State.setOct, State.reg_setReg_obj _ (by decide)]
  rw [State.portFault, hoct, hcause, State.portFault]
  split_ifs <;> rfl

theorem portFaultClearOp_eq (v : Nat) (s : State) : portFaultClearOp v s =
    (foldRange 96 (fun s p => if octBit 12 v p then s.faultCleared p else s) s, 0) := by
  simp only [portFaultClearOp, State.faultCleared]

theorem State.portFaultClear_faults (s : State) (v : Nat) {q : Nat} (hq : q < 96) :
    (portFaultClearOp v s).1.portFault q = if octBit 12 v q = true then (false, 0) else s.portFault q := by
  have h := foldRange_induction (n := 96) (a := s)
    (fun i (t : State) => t.portFault q = if q < i ∧ octBit 12 v q = true then (false, 0) else s.portFault q)
    (f := fun t p => if octBit 12 v p then t.faultCleared p else t) (by simp) fun i t hi ht => ?_
  · rw [portFaultClearOp_eq, h]
    exact if_congr (by simp [hq]) rfl rfl
  · by_cases hv : octBit 12 v i = true
    · rw [if_pos hv, State.portFault_cleared t hi hq, ht]
      by_cases hqi : q = i
      · rw [if_pos hqi, if_pos ⟨by omega, hqi ▸ hv⟩]
      · rw [if_neg hqi]
        exact if_congr (and_congr_left fun _ => by omega) rfl rfl
    · rw [if_neg hv, ht]
      refine if_congr (and_congr_left fun hon => ?_) rfl rfl
      have : q ≠ i := fun c => hv (c ▸ hon)
      omega

/-! ### The map digest (R229) -/

/-- The digest of the Live map. -/
def State.mapDigest (s : State) : Nat := ofBytes ((sha256 s.mapBytes).take 8)

/-- The digest of the map is `d`. -/
def State.digestSet (s : State) (d : Nat) : State :=
  ({ s with prot := { s.prot with digestDue := false, digestEpoch := s.reg O.mapEpoch } } : State).setReg
    O.protMapDigest 0 d

/-- A NOTICE record tells the digest `d`. -/
def State.digestTold (s : State) (d : Nat) : State :=
  let s := s.sendNotice 2 (s.reg O.mapLiveFsn) d (s.reg O.mapEpoch)
  s.noticeSeen (s.reg O.mapLiveFsn) d

theorem State.mapDigestReady_eq {s : State} (hdue : s.prot.digestDue = true) (hdrain : s.map.drain = false) :
    s.mapDigestReady = (s.digestSet s.mapDigest).digestTold s.mapDigest := by
  have hif : ¬ (!s.prot.digestDue || s.map.drain) = true := by simp [hdue, hdrain]
  rw [State.mapDigestReady, if_neg hif]
  simp only [State.digestSet, State.digestTold, State.mapDigest]

theorem State.digestSet_digest (s : State) (d : Nat) : (s.digestSet d).reg O.protMapDigest = d :=
  State.reg_setReg_self ..

theorem State.digestSet_elems (s : State) (d : Nat) : OnlyElems [(O.protMapDigest, 0)] s (s.digestSet d) :=
  OnlyElems.setReg (t := { s with prot := { s.prot with digestDue := false, digestEpoch := s.reg O.mapEpoch } })
    (OnlyElems.refl _ s) d (by omega) (by simp)

/-- What is told of the map digest. -/
def ProtS.digest (x : ProtS) : Bool × Nat := (x.digestDue, x.digestEpoch)

theorem State.noticeNoted_digest (s : State) (value dig : Nat) :
    (s.noticeNoted value dig).prot.digest = s.prot.digest := rfl

theorem State.noticeSeen_digest (s : State) (value dig : Nat) :
    (s.noticeSeen value dig).prot.digest = s.prot.digest := by
  by_cases hany : s.prot.notices.any (fun x => x.1 == value && x.2 != dig) = true
  · rw [State.noticeSeen_clash hany, State.noticeNoted_digest, State.raise_prot]
  · rw [State.noticeSeen_agrees hany, State.noticeNoted_digest]

theorem State.digestTold_digest (s : State) (d : Nat) : (s.digestTold d).prot.digest = s.prot.digest := by
  rw [State.digestTold, State.noticeSeen_digest, State.sendNotice, State.sendRec_prot]

theorem State.digestTold_elems (s : State) (d : Nat) : OnlyElems [] s (s.digestTold d) := by
  obtain ⟨-, -, h⟩ := (s.sendNotice 2 (s.reg O.mapLiveFsn) d (s.reg O.mapEpoch)).noticeSeen_tells
    ((s.sendNotice 2 (s.reg O.mapLiveFsn) d (s.reg O.mapEpoch)).reg O.mapLiveFsn) d
  intro i e he hev hne
  refine (h i e he hev hne).trans ?_
  rw [reg_see, State.sendNotice_see _ _ _ _ _ (by simp [View.place]), ← reg_see]

theorem State.mapDigestReady_tells {s : State} (hdue : s.prot.digestDue = true) (hdrain : s.map.drain = false) :
    s.mapDigestReady.reg O.protMapDigest = s.mapDigest ∧ s.mapDigestReady.prot.digestDue = false ∧
      s.mapDigestReady.prot.digestEpoch = s.reg O.mapEpoch ∧
      OnlyElems [(O.protMapDigest, 0)] s s.mapDigestReady := by
  rw [State.mapDigestReady_eq hdue hdrain]
  generalize s.mapDigest = d
  have htold := (s.digestSet d).digestTold_elems d
  have hkept := Prod.mk.inj ((s.digestSet d).digestTold_digest d)
  refine ⟨?_, hkept.1, hkept.2, fun i e he hev hne => ?_⟩
  · exact (htold O.protMapDigest 0 (by omega) rfl (by simp)).trans (s.digestSet_digest d)
  · exact (htold i e he hev (by simp)).trans (s.digestSet_elems d i e he hev hne)

/-! ### The commands -/

/-- A record of a type on a stream that is in use is taken. -/
theorem State.rxRecord_of {s : State} {st want : Nat} {x : WitIn} {l : List Block} (hrec : recordOf st x = l)
    (hthere : s.streamThere st = true) (hlock : (s.stream st).lock = true) (hok : recOk l = true)
    (htype : recType l = want) (f : State → State) : s.rxRecord st (recordOf st x) want f = f s := by
  rw [hrec]
  exact State.rxRecord_taken hthere hlock f hok htype

theorem runs_verdictRx {s : State} {st : Nat} {x : WitIn} {l : List Block} (hrec : recordOf st x = l) (hst : st < 32)
    (hthere : s.streamThere st = true) (hlock : (s.stream st).lock = true) (hok : recOk l = true)
    (htype : recType l = 0x20) (hplane : s.isPlane = true) (hsmall : s.large = false) (huse : s.inUse st = true)
    (hsoon : dist48 (bits (blk l 1) 47 0) s.clk.fsn < 0)
    (hnew : ∀ y ∈ s.prot.verdicts ++ s.prot.applied, y.eff ≠ bits (blk l 1) 47 0) :
    Runs (.verdictRecordRx st x) s fun t =>
      OnlyElems [] s t ∧ ∃ v : Vrd, t.prot.verdicts = s.prot.verdicts ++ [v] ∧ v.eff = bits (blk l 1) 47 0 ∧
        v.pref = bits (blk l 1) 63 62 ∧ v.state = bits (blk l 1) 61 58 ∧ v.from_ = bits (blk l 2) 63 16 := by
  refine runs_of_runIn (exec_verdictRecordRx s st x) hst ?_
  rw [State.rxRecord_of (s := s.fresh) hrec hthere hlock hok htype, hrec]
  obtain ⟨v, clean, heq, h1, h2, h3, h4⟩ :=
    State.verdictRx_awaits (s := s.fresh) hplane hsmall huse hsoon hnew
  rw [heq]
  exact ⟨fun _ _ _ _ _ => rfl, v, rfl, h1, h2, h3, h4⟩

theorem runs_peerRec {s : State} {c : Instr} {st kind : Nat} {x : WitIn} {l : List Block}
    (hc : exec c s = s.runIn st 32 fun s => s.rxRecord st (recordOf st x) (if kind = 0 then 1 else 2)
      fun s => s.peerRec st kind (recordOf st x))
    (hrec : recordOf st x = l) (hst : st < 32) (hthere : s.streamThere st = true) (hlock : (s.stream st).lock = true)
    (hok : recOk l = true) (htype : recType l = if kind = 0 then 1 else 2) (hplane : s.isPlane = true)
    (hsmall : s.large = false) (huse : s.inUse st = true) (hwatch : s.unwatched = false)
    (hport : bits (blk l 1) 63 56 < 96) (hnew : ∀ x ∈ s.prot.recs, x.t ≠ recKey l) :
    Runs c s fun t => t.prot.recs = s.prot.recs ++ [s.heldRec kind l] := by
  refine runs_of_runIn hc hst ?_
  rw [State.rxRecord_of (s := s.fresh) hrec hthere hlock hok htype, hrec]
  exact State.peerRec_kept (s := s.fresh) hplane hsmall huse hwatch hport hnew

theorem runs_portFaultClear {s : State} {w : Who} {v : Nat} (ha : Allowed s w O.protPortFaultClear 0 v) :
    Runs (.portFaultClear w v) s fun t =>
      t.out.status = 0 ∧
      (∀ p < 96, octBit 12 v p = true → t.octReg O.protPortFaulted 0 12 p = false ∧ t.reg O.assayPortCause p = 0) ∧
      (∀ p < 96, octBit 12 v p = false →
        t.octReg O.protPortFaulted 0 12 p = s.octReg O.protPortFaulted 0 12 p ∧
        t.reg O.assayPortCause p = s.reg O.assayPortCause p) := by
  have hop : portFaultClearOp v s.fresh = ((portFaultClearOp v s.fresh).1, 0) := by rw [portFaultClearOp_eq]
  refine runs_of_write (exec_portFaultClear s w v) ha hop ?_
  rw [State.record_of_not_carried rfl rfl]
  have hfault (p : Nat) (hp : p < 96) := s.fresh.portFaultClear_faults v hp
  generalize (portFaultClearOp v s.fresh).1 = t at hfault
  refine ⟨rfl, fun p hp hon => ?_, fun p hp hoff => ?_⟩
  · have h := hfault p hp
    rw [if_pos hon] at h
    exact Prod.mk.inj h
  · have h := hfault p hp
    rw [if_neg (by simp [hoff])] at h
    exact Prod.mk.inj h

theorem runs_recordUnmatched_one {s : State} {kind port t : Nat} {r : DRec} (hport : port < 96)
    (hone : s.prot.recs.filter (fun x => x.kind == kind && x.port == port && x.t == t) = [r]) (hkind : kind ≠ 1)
    (hclosed : r.done = true ∨ r.aged = true)
    (hold : (s.reg O.protDigestClose : Int) + 8 ≤ dist48 r.first s.clk.fsn) :
    Runs (.recordUnmatched kind port t) s fun u =>
      r ∉ u.prot.recs ∧ (∀ x ∈ u.prot.recs, x ∈ s.prot.recs) ∧
      u.reg O.protDigestStats 6 = (s.reg O.protDigestStats 6 + 1) % 2 ^ 48 ∧
      OnlyElems [(O.protDigestStats, 6)] s u := by
  refine runs_of_runIn (exec_recordUnmatched s kind port t) hport ?_
  obtain ⟨hgone, heq⟩ := State.recordUnmatched_one (s := s.fresh) hone hkind hclosed hold
  have hrecs := s.fresh.recordUnmatched_recs kind port t
  rw [heq] at hrecs ⊢
  refine ⟨?_, fun x hx => ?_, State.reg_bump_self .., ?_⟩
  · exact State.not_recsKept (s := s.fresh) hgone
  · exact State.recsKept_sub (s := s.fresh) hx
  · exact OnlyElems.bump (t := s.fresh.withRecs (s.fresh.recsKept kind port t)) (OnlyElems.refl _ s) 48 1 (by omega)
      (by simp)

theorem runs_recordUnmatched_pair {s : State} {kind port t : Nat} {r q : DRec} (hport : port < 96)
    (htwo : s.prot.recs.filter (fun x => x.kind == kind && x.port == port && x.t == t) = [r, q]) (hkind : kind ≠ 1)
    (hplane : r.plane ≠ q.plane) (hplace : r.place = q.place)
    (hold : ∀ x ∈ [r, q], (x.done = true ∨ x.aged = true) ∧
      (s.reg O.protDigestClose : Int) + 8 ≤ dist48 x.first s.clk.fsn) :
    Runs (.recordUnmatched kind port t) s fun u =>
      r ∉ u.prot.recs ∧ q ∉ u.prot.recs ∧ (∀ x ∈ u.prot.recs, x ∈ s.prot.recs) ∧ OnlyElems [] s u := by
  refine runs_of_runIn (exec_recordUnmatched s kind port t) hport ?_
  obtain ⟨hr, hq, heq⟩ := State.recordUnmatched_pair (s := s.fresh) htwo hkind hplane hplace hold
  rw [heq]
  exact ⟨State.not_recsKept (s := s.fresh) hr, State.not_recsKept (s := s.fresh) hq,
    fun x hx => State.recsKept_sub (s := s.fresh) hx, fun _ _ _ _ _ => rfl⟩

/-- Settles O10. -/
theorem verdicts : Obligations.Verdicts := by
  refine ⟨fun s st x l hrec hst hthere hlock hok htype hplane hsmall huse hsoon hnew =>
      runs_verdictRx hrec hst hthere hlock hok htype hplane hsmall huse hsoon hnew,
    fun s v hone hdue hwho h0 hsame => runs_verdictApplies hone hdue hwho h0 hsame,
    fun s v x hone hdue hwho hx he hp => runs_verdictClashes hone hdue hwho hx he hp, fun s hun hhost => ?_,
    fun s h1 h5 hclean hwatch hpref => runs_returnsNormal h1 h5 hclean hwatch hpref, fun s hpref => ?_,
    fun s w v ha hmay => runs_prefSet ha hmay, fun s w v ha hmode hports => runs_protRole ha hmode hports,
    fun s w v ha => runs_portFaultClear ha, fun s hdue hdrain => ?_, fun s kind port t r hport hfind hold => ?_,
    fun s kind port t r hport hone hkind hclosed hold => runs_recordUnmatched_one hport hone hkind hclosed hold,
    fun s kind port t r q hport htwo hkind hplane hplace hold =>
      runs_recordUnmatched_pair hport htwo hkind hplane hplace hold,
    fun s st x l hrec hst hthere hlock hok htype hplane hsmall huse hwatch hport hnew => ?_,
    fun s st x l hrec hst hthere hlock hok htype hplane hsmall huse hwatch hport hnew => ?_,
    fun x a b us ha hlen hb hus => x.frame ha hlen hb hus, fun x u h1 h2 h3 => ?_,
    fun x u hpos h => Tap.step_outside hpos h, fun s kind port t crc n hno => ?_,
    fun s kind port t crc n hyes => s.foldRec_open kind port t crc n hyes,
    fun s e t crc kind hkind hno => s.foldPair_new e t crc hkind hno⟩
  · refine runs_of_run (exec_verdictEffective s) ?_
    rw [State.verdictEffective_unwatched (s := s.fresh) hun hhost]
    exact ⟨rfl, rfl⟩
  · refine runs_of_run (exec_stateReturnNormal s) ?_
    rw [State.returnNormal_differs (s := s.fresh) hpref]
    exact ⟨rfl, fun _ _ _ _ _ => rfl⟩
  · exact runs_of_run (exec_mapDigestReady s) (State.mapDigestReady_tells (s := s.fresh) hdue hdrain)
  · exact runs_of_runIn (exec_recordAged s kind port t) hport (State.recordAged_counts (s := s.fresh) hfind hold)
  · obtain ⟨t, ht, hrecs⟩ := runs_peerRec (kind := 0) (exec_ingressRecordRx s st x) hrec hst hthere hlock hok htype
      hplane hsmall huse hwatch hport hnew
    exact ⟨t, ht, _, hrecs, rfl, rfl, rfl, rfl, rfl⟩
  · obtain ⟨t, ht, hrecs⟩ := runs_peerRec (kind := 2) (exec_egressRecordRx s st x) hrec hst hthere hlock hok htype
      hplane hsmall huse hwatch hport hnew
    exact ⟨t, ht, _, hrecs, rfl, rfl, rfl, rfl, rfl, rfl⟩
  · rw [x.step_other h1 h2 h3]
    exact ⟨rfl, rfl⟩
  · exact ⟨_, s.foldRec_new kind port t crc n hno, s.isRec_newRec kind port t crc n, rfl, rfl, rfl, rfl, rfl⟩

end Sys2Proof.Machine
